-- ==== Sys2Proof/Word.lean ====
section
/-! DEFINITION. The plain word types of the model. Fields of formats and registers are little-endian byte
strings and bit vectors (R5, R7); everything that works on them stands in `Sys2Proof/Machine/Bits.lean`. -/

namespace Sys2Proof

/-- One byte of a format, a buffer or a memory. -/
abbrev Byte := BitVec 8

/-- A byte string, first byte first. -/
abbrev Bytes := List (BitVec 8)

/-- A 32-bit register word (R39). -/
abbrev U32 := BitVec 32

/-- A 64-bit word. -/
abbrev U64 := BitVec 64

/-- A function of the board: 0 is PF0 (partition 0), 1 to 15 are VF1 to VF15. -/
abbrev Part := Fin 16

end Sys2Proof
end

