-- ==== Sys2Proof/Syntax.lean ====
section
/-! DEFINITION. The commands of the board: one constructor per row of spec/opcode_table.json, in the table's order,
with the operands the outside world supplies (a register value, a packet, a measurement, what a host read returned).
What the board knows itself is no operand: it stands in the state. -/

namespace Sys2Proof

/-- The base address register an access names. -/
inductive Bar where
  | bar0
  | bar2
  deriving DecidableEq, Repr

/-- What the header ECC of a CSI-2 packet finds (R272). -/
inductive HdrEcc where
  | clean
  | corrected
  | bad
  deriving DecidableEq, Repr

/-- What an ECC check finds in a stored word or sector. -/
inductive EccFind where
  | clean
  | corrected
  | uncorrectable
  deriving DecidableEq, Repr

/-- Who asks for a level 4 reset through WARM_BOARD_RESET: a function, by a TOP_RESET write, or SAF (Table 1-9).
DESIGN CHOICE (log entry 140). -/
inductive ResetBy where
  | host (f : Part)
  | saf
  deriving DecidableEq, Repr

/-- Where 48V_IN goes, in mV, and for how many ns it stays there (R55). DESIGN CHOICE (log entry 139). -/
structure Supply where
  mv : Nat
  ns : Nat
  deriving DecidableEq, Repr

/-- AUX_3V3 comes up to a level in mV; while it was absent the supply of the retention block fell below 1.2 V or did not (R72). -/
structure AuxRise where
  mv : Nat
  retBelow1V2 : Bool
  deriving DecidableEq, Repr

/-- Rows that a transfer of a core's DMA moves, by the task's slot and the channel (Table 10-1, R434). -/
structure DmaRows where
  task  : Fin 4
  ch    : Fin 4
  steps : Nat
  deriving DecidableEq, Repr

/-- The destination and the sources of a scalar instruction (R407). -/
structure ScalarOp where
  dst  : Fin 32
  srcs : List (Fin 32)
  deriving DecidableEq, Repr

/-- What the two ends of a link derive when it trains (R583, R584): the peer's operator key digest and the session's secret. -/
structure LinkKeys where
  peerOpDigest : Bytes
  secret : Bytes
  deriving DecidableEq, Repr

/-- The renewal of a pair session with a board: the peer's DHE data (R586). -/
structure PairRenewal where
  board : Fin 256
  exchange : Bytes
  deriving DecidableEq, Repr

/-- What a host read returned: data (with the EP bit of R675), or a failure (UR, CA or completion timeout). -/
inductive HostRead where
  | data (b : Bytes) (ep : Bool)
  | failed
  deriving DecidableEq, Repr

/-- One 64-byte beat of the stream switch with its tags (R239, R311, R313). -/
structure Beat where
  ctx     : Nat
  frame   : Nat
  line    : Nat
  plane   : Nat
  data    : Bytes
  poison  : Bool
  last    : Bool
  closing : Bool
  /-- how many bytes of the line it holds; the rest of the last beat is fill (R298) -/
  bytes   : Nat := 64
  deriving DecidableEq, Repr

/-- A sealing engine (0 to 3) or a Lanicy message engine (0 to 7). -/
inductive EngineId where
  | sealing (n : Fin 4)
  | message (n : Fin 8)
  deriving DecidableEq, Repr

/-- The vector operations to which the spec gives a result (R403, R404). `other` is a vector instruction that only the
Relek reference defines. -/
inductive VecOp where
  | requant (mult : BitVec 32) (shift : Nat) (zp : Int)
  | toBF16 (satf : Bool)
  | toE4M3
  | toE5M2 (satf : Bool)
  | satAdd (width : Nat)
  | satSub (width : Nat)
  | satMul (width : Nat)
  | other
  deriving DecidableEq, Repr

/-- A request that reaches a cellar slice: a write carries its bytes and the mask of the bytes written. -/
structure CellarReq where
  part   : Part
  source : Nat
  addr   : Nat
  write  : Bool
  data   : Bytes
  mask   : List Bool
  poison : Bool
  deriving DecidableEq, Repr

/-- What every fabric request carries besides its line (Table 11-7, R496). -/
structure FabHdr where
  src      : Nat
  part     : Part
  reqId    : Nat
  ackBelow : Nat
  addr     : Nat
  /-- the Lanicy port it came in by (R481) -/
  port     : Fin 8 := 0
  deriving DecidableEq, Repr

/-- An SRAM array of the cellar: the lines of a slice's way, or the directory (R468, R471, R476). -/
inductive SramArray where
  | lines (slice way : Nat)
  | directory
  deriving DecidableEq, Repr

/-- The time message of Table 12-7, in nanoseconds of the GTC. -/
structure TimeMsg where
  timeValid : Bool
  taiValid  : Bool
  isRoot    : Bool
  hops      : Nat
  rootQl    : Nat
  rootId    : Nat
  seqNo     : Nat
  t1        : Int
  t2        : Int
  t3        : Int
  deriving DecidableEq, Repr

/-- An exported window as a board advertises it (R473). -/
structure AdvWin where
  board  : Nat
  window : Nat
  part   : Nat
  base   : Nat
  size   : Nat
  deriving DecidableEq, Repr

/-- The SPDM sessions a request may come in: a function's DOE mailbox or a peer board over VC4 (Table 13-5). -/
inductive SpdmPort where
  | doe (f : Part)
  | lanicy (board : Fin 256)
  deriving DecidableEq, Repr

/-- What a debug-port access asks for, by the features of Table 13-12. -/
inductive DebugOp where
  /-- TAP: boundary scan or IDCODE -/
  | tap
  /-- REG: a masked register, by its BAR0 offset -/
  | reg (off : Nat)
  /-- NEC_DEBUG: halt a core, or let it run again -/
  | halt (core : Fin 64) (on : Bool)
  /-- NEC_DEBUG: a halted core takes one instruction -/
  | step (core : Fin 64)
  /-- NEC_DEBUG: read 32 bytes of a core's local store -/
  | store (core : Fin 64) (addr : Nat)
  /-- MEM_READ: read 64 bytes of board memory -/
  | mem (addr : Nat)
  /-- TRACE -/
  | trace
  deriving DecidableEq, Repr

/-- The commands. -/
inductive Instr where
  -- power, pins and resets
  | aux3v3Present (aux : AuxRise) (crcOk seedsOk : Bool)
  | aux3v3Loss
  | mainConverterStart
  | mainRailsGood
  | mainPowerLoss (v : Supply := { mv := 0, ns := 10000 })
  | mainPowerReturn (v : Supply := { mv := 48000, ns := 10000 })
  | perstNAssert
  | perstNDeassert
  | brdRstNAssert
  | warmBoardReset (src : ResetBy) (w : U32)
  | coldReset (f : Part) (w : U32)
  | bootWatchdogExpiry
  | bootDone
  | lossLatchSet
  | vbatMeasurement (mv : Nat)
  -- firmware slots and recovery
  | markTrial (f : Part) (w : U32)
  | commit (f : Part) (w : U32)
  | cancelTrial (f : Part) (w : U32)
  | burnSvn (f : Part) (w : U32)
  | fwActionDone
  | recBegin (f : Part) (w : U32)
  | recRun (f : Part) (w : U32)
  | recProgram (f : Part) (w : U32)
  | recoveryProgramDone (flashOk : Bool)
  | recWinWrite (f : Part) (off size : Nat) (v : U64)
  -- register accesses
  | registerWrite (f : Part) (bar : Bar) (off size : Nat) (v : U64)
  | rcRegisterRead (f : Part) (bar : Bar) (off size : Nat)
  | gtcSnapshotRead (f : Part)
  | malformedBarAccess (f : Part) (bar : Bar) (off size : Nat) (write : Bool)
  -- host queues
  | sqTailDoorbell (f : Part) (q : Fin 64) (idx : BitVec 16)
  | cqHeadDoorbell (f : Part) (q : Fin 64) (idx : BitVec 16)
  | descriptorFetch (f : Part) (q : Fin 64) (b : Option Bytes) (ep : Bool)
  | commandEffectDone (f : Part) (q : Fin 64) (seq : U32) (poisoned lost : Bool)
  | completionPost (f : Part) (q : Fin 64) (writeOk histOk : Bool)
  | msiXCoalesceTimeout (f : Part) (q : Fin 64)
  | queueEnable (f : Part) (q : Fin 64) (w : U32)
  | queueDisable (f : Part) (q : Fin 64) (w : U32)
  | vfFlr (f : Part)
  | partitionResetDone (f : Part)
  -- host commands
  | nop (f : Part) (q : Fin 64)
  | fence (f : Part) (q : Fin 64)
  | fenceRelease (f : Part) (q : Fin 64)
  | imageLoad (f : Part) (q : Fin 64) (d : HostRead)
  | imageApplyImmediate (f : Part) (q : Fin 64)
  | imageApplyFrame (f : Part) (q : Fin 64)
  | imageApplySwitch (f : Part) (q : Fin 64)
  | imageValidationDone (slot : Fin 8)
  | immediateApplyInForce
  | frameApplySwap (route : Fin 16)
  | imageDrop (f : Part) (q : Fin 64)
  | routeStart (f : Part) (q : Fin 64)
  | routeStopAtBoundary (f : Part) (q : Fin 64)
  | routeStopForce (f : Part) (q : Fin 64)
  | dmaCopy (f : Part) (q : Fin 64) (d : HostRead)
  | dmaFill (f : Part) (q : Fin 64)
  | hifDmaChunkEnd (engine : Fin 8)
  | msgSend (f : Part) (q : Fin 64)
  | modelLoad (f : Part) (q : Fin 64) (d : HostRead)
  | attReport (f : Part) (q : Fin 64) (d : HostRead)
  | consent (f : Part) (q : Fin 64) (d : HostRead)
  | tenantSwitch (f : Part) (q : Fin 64)
  | switchDrainTimeout
  | switchRoutesStopped
  | switchCoherenceReleased
  | switchScrubDone
  | switchZeroFillDone
  | flashWrite (f : Part) (q : Fin 64) (d : HostRead) (readBackOk : Bool)
  | calClear (f : Part) (q : Fin 64)
  | ledgerRead (f : Part) (q : Fin 64)
  | telemetryRing (f : Part) (q : Fin 64)
  | engineMessageEnd (e : EngineId)
  | safetyCutIn (e : EngineId)
  -- camera ingest and pipes
  | frameStart (port vc : Fin 16) (h : HdrEcc)
  | contextWindowExpiry (route : Fin 16) (frame : Nat)
  | frameEnd (port vc : Fin 16) (h : HdrEcc)
  | longPacket (port vc : Fin 16) (dt : Nat) (h : HdrEcc) (pixels : List Nat) (crcOk : Bool)
  | pipeLineProcess (pipe : Fin 4)
  | scbStart (f : Part) (bus : Fin 4) (w : U32)
  | scbTransferDone (bus : Fin 4) (nack arbLost : Bool) (rx : Bytes)
  | scbDataAccess (f : Part) (bus : Fin 4) (wr : Option Byte)
  -- stream switch and stages
  | streamBeatDeliver (dst : Fin 48)
  | stageInputLine (stage : Fin 10) (port : Fin 2)
  | coarsePublish (stage : Fin 10)
  | refineTileSlot (stage : Fin 10)
  | mashClose (stage : Fin 10)
  | detectorPublish (ctx : Fin 64)
  | trackerRunDone
  -- route sequencer
  | chainedDispatch (route : Fin 16) (frame : Nat) (node : Nat)
  | sequencedDispatch (route : Fin 16) (frame : Nat) (node : Nat)
  | tastingRunEnd (core : Bool) (index : Nat)
  | nodeEnd (route : Fin 16) (frame : Nat) (node : Nat)
  | frameRetire (route : Fin 16)
  | budgetOverrun (route : Fin 16) (frame : Nat) (node : Nat) (excess : Nat)
  | deadlineMiss (route : Fin 16) (frame : Nat)
  | slotOpen (route : Fin 16) (index : Nat)
  | slotCycleExpiry
  | streamCreditError (route : Fin 16)
  | engineFatalError (engine : Nat)
  -- neural cores
  | caskBeatArrival (port : Fin 16)
  | caskRowWrite (core : Fin 64) (cask : Fin 16)
  | ldw (core : Fin 64) (w : U64)
  | stw (core : Fin 64) (w : U64)
  | lds (core : Fin 64) (w : U64)
  | ldt (core : Fin 64) (w : U64)
  | ldd (core : Fin 64) (w : U64)
  | std (core : Fin 64) (w : U64)
  | stc (core : Fin 64) (w : U64)
  | cwait (core : Fin 64) (w : U64)
  | crd (core : Fin 64) (w : U64)
  | cadv (core : Fin 64) (w : U64)
  | cpush (core : Fin 64) (w : U64)
  | clvl (core : Fin 64) (w : U64)
  | caskStallRelease (core : Fin 64)
  | dmai (core : Fin 64) (w : U64)
  | dmao (core : Fin 64) (w : U64)
  | dmaw (core : Fin 64) (w : U64)
  | necDmaDone (core : Fin 64) (rows : DmaRows) (d : HostRead)
  | pub (core : Fin 64) (w : U64)
  | necFence (core : Fin 64) (w : U64)
  | tile (core : Fin 64) (w : U64)
  | tileComplete (core : Fin 64)
  | mm (core : Fin 64) (w : U64)
  | mmFeedEnd (core : Fin 64)
  | mmDrainDone (core : Fin 64)
  | necEnd (core : Fin 64)
  | necNop (core : Fin 64)
  | branch (core : Fin 64) (taken : Bool) (target : Nat)
  | loop (core : Fin 64) (count bodyEnd : Nat)
  | scalarArithmetic (core : Fin 64) (op : ScalarOp)
  | vectorArithmetic (core : Fin 64) (dst a b : Fin 16) (op : VecOp)
  | illegalInstruction (core : Fin 64) (w : U64)
  | hopperIdleFlush (core : Fin 64)
  | tileOverrun (core : Fin 64)
  | localStoreEccError (core : Fin 64) (addr : Nat)
  -- board memory and cellar
  | cellarAccess (r : CellarReq)
  | boardMemoryRead (addr : Nat) (err : Bytes) (source : Nat)
  | boardMemoryWrite (addr : Nat) (data : Bytes) (poison : Bool) (err : Bytes)
  | cellarSramEccError (array : SramArray) (index : Nat)
  -- coherence
  | readShared (h : FabHdr)
  | readUnique (h : FabHdr)
  | readNokeep (h : FabHdr)
  | writeMerge (h : FabHdr) (mask : List Bool) (data : Bytes) (poison : Bool)
  | evictClean (h : FabHdr)
  | evictDirty (h : FabHdr) (data : Bytes) (poison : Bool)
  | snoopShare (home : Nat) (addr reqId : Nat)
  | snoopInv (home : Nat) (addr reqId : Nat)
  | snoopAck (h : FabHdr)
  | snoopAckData (h : FabHdr) (data : Bytes) (poison : Bool)
  | evictInFlight (h : FabHdr)
  | lineShared (h : FabHdr) (data : Bytes) (poison : Bool)
  | lineOwned (h : FabHdr) (data : Bytes) (poison : Bool)
  | lineNokeep (h : FabHdr) (data : Bytes) (poison : Bool)
  | upgradeOk (h : FabHdr)
  | writeDone (h : FabHdr)
  | evictAck (h : FabHdr)
  | denied (h : FabHdr)
  | msgReserve (h : FabHdr) (mailbox length : Nat)
  | msgGrant (h : FabHdr)
  | msgChunk (h : FabHdr) (offset : Nat) (data : Bytes) (poison : Bool)
  | msgDone (h : FabHdr)
  -- links
  | advertisement (board : Fin 256) (tag : Bytes) (wins : List AdvWin)
  | linkState (board : Fin 256) (links : List (Nat × Nat))
  | hello (port : Fin 8) (peer : Fin 256) (peerPort : Fin 8) (peerTag : Bytes)
  | lanicyHeartbeat (board : Fin 256)
  | lanicyHeartbeatSend
  | boardLost (board : Fin 256)
  | flitReceive (port : Fin 8) (raw : Bytes)
  | portDown (port : Fin 8) (cause : Nat)
  | linkUp (port : Fin 8) (chainsOk : Bool) (keys : LinkKeys)
  | keyRenewalDue (port : Fin 8)
  | keyNext (port : Fin 8) (generation : Nat)
  | keyNextAck (port : Fin 8)
  | e2eResendTimeout (dest : Fin 256) (reqId : Nat)
  | messageLifetimeExpiry (dest : Fin 256) (reqId : Nat)
  | routeChangeHoldExpiry (dest : Fin 256)
  -- time
  | ppsEdge (input : Fin 2) (capture : Int) (freqOffset : Int)
  | freqMeasurement (input : Fin 2) (phase : Int) (freqOffset : Int) (countOk active : Bool)
  | ptpSync (offset : Int) (freqOffset : Int)
  | ptpAnnounce (clockClass : Nat) (logSync logAnnounce : Int)
  | ptpDelayResp (pathDelay : Int)
  | delayReqSend (port : Fin 8)
  | delayReq (port : Fin 8) (m : TimeMsg) (arrival : Int)
  | delayResp (port : Fin 8) (m : TimeMsg) (arrival : Int) (freqOffset : Int)
  | inputActivityLoss (input : Fin 13)
  | qualificationPeriodEnd (input : Fin 13)
  | wtrExpiry (input : Fin 13)
  | holdoverUpdate (temp : Int)
  | ageingHour (mean : Int)
  | loopModeClosed (f : Part) (w : U32)
  | loopModeHold (f : Part) (w : U32)
  | loopModeSoftware (f : Part) (w : U32)
  | dcoFreqWrite (f : Part) (upper : U32)
  | softwareTimeout
  | todWrite (f : Part) (upper : U32)
  | tmgStep (f : Part) (upper : U32)
  | outputRealign (f : Part) (output : Fin 9) (w : U32)
  | outputPulseStart (output : Fin 9)
  | outputPulseEnd (output : Fin 9)
  | rootReclaim
  -- trust
  | opkClaim (f : Part) (w : U32)
  | opkRotate (f : Part) (w : U32)
  | admitTenant (p : SpdmPort) (grant key : Bytes) (base : Nat) (sig : Bytes)
  | getEnrol (p : SpdmPort) (companyId : U64)
  | getVersion (p : SpdmPort)
  | getCapabilities (p : SpdmPort)
  | negotiateAlgorithms (p : SpdmPort)
  | getDigests (p : SpdmPort)
  | getCertificate (p : SpdmPort) (offset length : Nat)
  | spdmChallenge (p : SpdmPort) (nonce : Bytes)
  | getMeasurements (p : SpdmPort) (index : Nat) (nonce : Bytes)
  | keyExchange (p : SpdmPort) (exchange : Bytes)
  | spdmFinish (p : SpdmPort) (verified : Bool) (mutualKey : Option Bytes)
  | spdmHeartbeat (p : SpdmPort)
  | keyUpdate (p : SpdmPort)
  | endSession (p : SpdmPort)
  | getTdispVersion (f : Part)
  | getTdispCapabilities (f : Part)
  | lockInterfaceRequest (f : Part)
  | getDeviceInterfaceReport (f : Part)
  | getDeviceInterfaceState (f : Part)
  | startInterfaceRequest (f : Part)
  | stopInterfaceRequest (f : Part)
  | ideKm (stream : Fin 17) (covers : List Nat) (go : Bool)
  | ideStreamLeaveSecure (stream : Fin 17)
  | shareReq (src : Fin 256) (hdr : Bytes) (nonce sig : Bytes)
  | shareResp (src : Fin 256) (index : Nat) (share : Bytes) (valid : Bool)
  | quorumGatherTimeout
  | presenceCheck (blob : Nat)
  | presenceChallenge (src : Fin 256) (nonce : Bytes)
  | presenceResponse (src : Fin 256) (blob : Nat) (valid : Bool)
  | pairSessionRenewal (r : PairRenewal)
  | consentExpiry
  -- functional safety
  | safMonitorCycle
  | lockstepMismatch
  | safWatchdogExpiry
  | escalationTimeout
  | safeOkServiceTimeout
  | canHeartbeat
  | sinLow (n : Fin 4)
  | sinConfirmExpiry (n : Fin 4)
  | selftestTest (checker instNo : Nat) (pass : Bool)
  | selftestRotationEnd
  | staleWatchReceive (route : Fin 16)
  | staleGap (route : Fin 16)
  | thermalSample (temp : Int) (power : Nat)
  | throttleStep
  | clockMonitorFault (domain : Fin 6)
  | voltageMonitorFault (rail : Fin 12)
  -- pairing
  | pairEnable (f : Part) (w : U32)
  | epochCopyComplete
  | commitRecord (epoch frame gtcExposure bytes : Nat) (digest : Bytes)
  | pairFail (board : Fin 256)
  -- errors, ledger, background
  | boardFatalError (source index : Nat)
  | hostReadCompletion (f : Part) (q : Fin 64) (seq : U32) (addr : Nat) (d : HostRead)
  | ledgerAppend
  | coalesceSecondEnd
  | ledgerNorCopy (eraseOk : Bool)
  | telemetrySample (f : Part) (rdOff : Nat)
  | patrolRead (errs : List Bytes) (intervened : Bool)
  | sramScrub (core : Fin 64) (addr : Nat) (e : EccFind)
  | recalibration (channel : Fin 64) (foregroundBusy : Bool)
  | refreshManagement (foregroundBusy : Bool)
  | refresh
  | bgCtlWrite (f : Part) (w : U32)
  -- pins, configuration and the other ports
  | brdRstNDeassert
  | sinHigh (n : Fin 4)
  | configurationRequest (f : Part)
  | smbusTransaction (addr : Nat)
  | debugPortAccess (op : DebugOp)
  | secMboxDone (burnOk : Bool)
  | recoveryRunDone
  | retentionRecordUpdate
  | deskewSequence (port : Fin 16)
  deriving DecidableEq, Repr

end Sys2Proof
end

