-- ==== Sys2Proof/Decode.lean ====
section
/-! DEFINITION. The command a word spells by the table's bits. No row of spec/opcode_table.json gives a command bits:
commands reach the board as register accesses, packets, pins and messages, so no word spells one. -/

namespace Sys2Proof

/-- The command that a word of `nbits` bits spells; none, since no row gives bits. DESIGN CHOICE (log entry 17). -/
def decodeTableWord (_nbits _w : Nat) : Option Instr := none

end Sys2Proof
end

