-- ==== Sys2Proof/Machine/Bits.lean ====
section
/-! DEFINITION. Byte order (R5), bit fields (R7), sparse byte memories in canonical form, association lists, and the
small integer functions the rest of the model is written with. -/

namespace Sys2Proof.Machine

/-- The low `n` bytes of `v`, least significant first (R5). -/
def leBytes : Nat → Nat → Bytes
  | 0, _ => []
  | n + 1, v => BitVec.ofNat 8 v :: leBytes n (v / 256)

/-- The number a little-endian byte string spells (R5). -/
def ofLe : Bytes → Nat
  | [] => 0
  | b :: bs => b.toNat + 256 * ofLe bs

/-- The number a big-endian byte string spells (standards' fields, R6). -/
def ofBe (b : Bytes) : Nat := ofLe b.reverse

/-- `n` bytes from offset `o`; bytes past the end read as zero. -/
def slice (b : Bytes) (o n : Nat) : Bytes :=
  let t := (b.drop o).take n
  t ++ List.replicate (n - t.length) 0

/-- The little-endian field of `n` bytes at offset `o`. -/
def field (b : Bytes) (o n : Nat) : Nat := ofLe (slice b o n)

/-- The byte at offset `o` as a number. -/
def byteAt (b : Bytes) (o : Nat) : Nat := field b o 1

/-- Bits [hi:lo] of `v` as a number (R7). -/
def bits (v hi lo : Nat) : Nat := (v >>> lo) % 2 ^ (hi + 1 - lo)

/-- Bit `i` of `v`. -/
def bit (v i : Nat) : Bool := v.testBit i

/-- Bits [hi:lo] of a register word (R7). -/
def wbits (w : U32) (hi lo : Nat) : Nat := bits w.toNat hi lo

/-- A flag as a number. -/
def b2n (b : Bool) : Nat := if b then 1 else 0

/-- Two's complement reading of the low `n` bits. -/
def signed (n v : Nat) : Int :=
  let m := v % 2 ^ n
  if 2 * m < 2 ^ n then (m : Int) else (m : Int) - 2 ^ n

/-- The two's complement bit pattern of `v` in `n` bits. -/
def unsigned (n : Nat) (v : Int) : Nat := (v % (2 ^ n : Int)).toNat

/-- `v` held within `lo` and `hi`. -/
def clampI (lo hi v : Int) : Int := if v < lo then lo else if hi < v then hi else v

/-- `v` held to at most `hi`. DESIGN CHOICE (log entry 44). -/
def satN (hi v : Nat) : Nat := if hi < v then hi else v

/-- Whether every byte is zero. -/
def allZero (b : Bytes) : Bool := b.all (· == 0)

/-- Round to nearest of n / d, halves away from zero (R288 and the integer rules that name it). -/
def roundAway (n d : Int) : Int :=
  if 0 ≤ n then (2 * n + d) / (2 * d) else -((2 * (-n) + d) / (2 * d))

/-- Round to nearest of n / d, halves to even. -/
def roundEven (n d : Int) : Int :=
  let q := n / d
  let r := n % d
  if 2 * r < d then q
  else if d < 2 * r then q + 1
  else if q % 2 = 0 then q else q + 1

/-- floor of the square root. -/
def isqrt (n : Nat) : Nat := Nat.sqrt n

/-! Association lists with rising keys. -/

/-- The value at key `k`. -/
def alookup {α : Type} (l : List (Nat × α)) (k : Nat) : Option α :=
  match l with
  | [] => none
  | (a, v) :: t => if a = k then some v else alookup t k

/-- The value at key `k`, or `d`. -/
def agetD {α : Type} (l : List (Nat × α)) (k : Nat) (d : α) : α := (alookup l k).getD d

/-- Set key `k`, keeping keys rising. -/
def aset {α : Type} (l : List (Nat × α)) (k : Nat) (v : α) : List (Nat × α) :=
  match l with
  | [] => [(k, v)]
  | (a, w) :: t => if k < a then (k, v) :: (a, w) :: t else if k = a then (k, v) :: t else (a, w) :: aset t k v

/-- Drop key `k`. -/
def adel {α : Type} (l : List (Nat × α)) (k : Nat) : List (Nat × α) := l.filter (·.1 ≠ k)

/-- Replace the element at index `i` of a list. -/
def lset {α : Type} (l : List α) (i : Nat) (v : α) : List α := l.set i v

/-- Insert a number into a list with rising entries and no repeats. -/
def nset (l : List Nat) (k : Nat) : List Nat :=
  match l with
  | [] => [k]
  | a :: t => if k < a then k :: a :: t else if k = a then a :: t else a :: nset t k

/-! Sparse byte memories: cells with rising addresses, none equal to what an unlisted address reads as. -/

/-- The byte at `a`; an unlisted address reads as `d`. -/
def cellGet (d : Byte) (m : List Host.Cell) (a : Nat) : Byte :=
  match m with
  | [] => d
  | (x, v) :: t => if x = a then v else cellGet d t a

/-- The canonical form: addresses rising strictly, no entry equal to `d`. -/
def cellWf (d : Byte) : List Host.Cell → Bool
  | [] => true
  | [(_, v)] => v != d
  | (x, v) :: (y, w) :: t => decide (x < y) && v != d && cellWf d ((y, w) :: t)

/-- The cells of the bytes `bs` laid from `a` on, without those equal to `d`. -/
def cellsOf (d : Byte) (a : Nat) : Bytes → List Host.Cell
  | [] => []
  | b :: bs => if b = d then cellsOf d (a + 1) bs else (a, b) :: cellsOf d (a + 1) bs

/-- Write the bytes `bs` from address `a` on. -/
def cellWrite (d : Byte) (m : List Host.Cell) (a : Nat) (bs : Bytes) : List Host.Cell :=
  m.filter (·.1 < a) ++ cellsOf d a bs ++ m.filter (a + bs.length ≤ ·.1)

/-- Forget `n` bytes from `a` on: they read as `d` again. -/
def cellErase (m : List Host.Cell) (a n : Nat) : List Host.Cell :=
  m.filter (fun c => c.1 < a || a + n ≤ c.1)

/-- The bytes of a sorted cell list laid out from address `a`; structural in the number of bytes. -/
def cellRead (d : Byte) (m : List Host.Cell) (a : Nat) : Nat → Bytes
  | 0 => []
  | n + 1 => cellGet d m a :: cellRead d m (a + 1) n

/-- The same, read from the part of the memory that covers the range only. -/
def cellReadFast (d : Byte) (m : List Host.Cell) (a n : Nat) : Bytes :=
  cellRead d (m.filter (fun c => decide (a ≤ c.1) && decide (c.1 < a + n))) a n

/-- The least element under `lt`, first of equals. -/
def minBy {α : Type} (lt : α → α → Bool) : List α → Option α
  | [] => none
  | x :: xs => match minBy lt xs with
    | none => some x
    | some y => if lt y x then some y else some x

end Sys2Proof.Machine
end

