-- ==== Sys2Proof/Machine/Digest.lean ====
section
/-! DEFINITION. The digests the formats name: CRC-32 (IEEE 802.3), the CRC-64 of R634, SHA-384, and the HMAC and HKDF of
R721 over it. -/

namespace Sys2Proof.Machine

/-- One byte through a reflected CRC with reversed polynomial `p`. -/
def crcByte (p : Nat) : Nat → Nat → Nat
  | c, 0 => c
  | c, k + 1 => crcByte p (if c % 2 = 1 then (c / 2) ^^^ p else c / 2) k

/-- CRC-32 with the IEEE 802.3 polynomial. DESIGN CHOICE (log entry 24). -/
def crc32 (b : Bytes) : Nat :=
  (b.foldl (fun c x => crcByte 0xEDB88320 (c ^^^ x.toNat) 8) 0xFFFFFFFF) ^^^ 0xFFFFFFFF

/-- CRC-64 with polynomial 0x42F0_E1EB_A9EA_3693, reflected, initial value and final XOR all ones (R634). -/
def crc64 (b : Bytes) : Nat :=
  (b.foldl (fun c x => crcByte 0xC96C5795D7870F42 (c ^^^ x.toNat) 8) 0xFFFFFFFFFFFFFFFF) ^^^ 0xFFFFFFFFFFFFFFFF

/-- The round constants of SHA-512 and SHA-384 (FIPS 180-4). -/
def shaK : List (BitVec 64) :=
  [0x428A2F98D728AE22, 0x7137449123EF65CD, 0xB5C0FBCFEC4D3B2F, 0xE9B5DBA58189DBBC,
   0x3956C25BF348B538, 0x59F111F1B605D019, 0x923F82A4AF194F9B, 0xAB1C5ED5DA6D8118,
   0xD807AA98A3030242, 0x12835B0145706FBE, 0x243185BE4EE4B28C, 0x550C7DC3D5FFB4E2,
   0x72BE5D74F27B896F, 0x80DEB1FE3B1696B1, 0x9BDC06A725C71235, 0xC19BF174CF692694,
   0xE49B69C19EF14AD2, 0xEFBE4786384F25E3, 0x0FC19DC68B8CD5B5, 0x240CA1CC77AC9C65,
   0x2DE92C6F592B0275, 0x4A7484AA6EA6E483, 0x5CB0A9DCBD41FBD4, 0x76F988DA831153B5,
   0x983E5152EE66DFAB, 0xA831C66D2DB43210, 0xB00327C898FB213F, 0xBF597FC7BEEF0EE4,
   0xC6E00BF33DA88FC2, 0xD5A79147930AA725, 0x06CA6351E003826F, 0x142929670A0E6E70,
   0x27B70A8546D22FFC, 0x2E1B21385C26C926, 0x4D2C6DFC5AC42AED, 0x53380D139D95B3DF,
   0x650A73548BAF63DE, 0x766A0ABB3C77B2A8, 0x81C2C92E47EDAEE6, 0x92722C851482353B]
  ++ [0xA2BFE8A14CF10364, 0xA81A664BBC423001, 0xC24B8B70D0F89791, 0xC76C51A30654BE30,
   0xD192E819D6EF5218, 0xD69906245565A910, 0xF40E35855771202A, 0x106AA07032BBD1B8,
   0x19A4C116B8D2D0C8, 0x1E376C085141AB53, 0x2748774CDF8EEB99, 0x34B0BCB5E19B48A8,
   0x391C0CB3C5C95A63, 0x4ED8AA4AE3418ACB, 0x5B9CCA4F7763E373, 0x682E6FF3D6B2B8A3,
   0x748F82EE5DEFB2FC, 0x78A5636F43172F60, 0x84C87814A1F0AB72, 0x8CC702081A6439EC,
   0x90BEFFFA23631E28, 0xA4506CEBDE82BDE9, 0xBEF9A3F7B2C67915, 0xC67178F2E372532B,
   0xCA273ECEEA26619C, 0xD186B8C721C0C207, 0xEADA7DD6CDE0EB1E, 0xF57D4F7FEE6ED178,
   0x06F067AA72176FBA, 0x0A637DC5A2C898A6, 0x113F9804BEF90DAE, 0x1B710B35131C471B,
   0x28DB77F523047D84, 0x32CAAB7B40C72493, 0x3C9EBE0A15C9BEBC, 0x431D67C49C100D4C,
   0x4CC5D4BECB3E42B6, 0x597F299CFC657E2A, 0x5FCB6FAB3AD6FAEC, 0x6C44198C4A475817]

/-- The initial hash value of SHA-384 (FIPS 180-4). -/
def shaH0 : List (BitVec 64) :=
  [0xCBBB9D5DC1059ED8, 0x629A292A367CD507, 0x9159015A3070DD17, 0x152FECD8F70E5939,
   0x67332667FFC00B31, 0x8EB44A8768581511, 0xDB0C2E0D64F98FA7, 0x47B5481DBEFA4FA4]

/-- Rotate right. -/
def rotr (x : BitVec 64) (n : Nat) : BitVec 64 := x.rotateRight n

/-- The 64-bit big-endian words of a block. -/
def shaWords : Nat → Bytes → List (BitVec 64)
  | 0, _ => []
  | n + 1, b => BitVec.ofNat 64 (ofBe (b.take 8)) :: shaWords n (b.drop 8)

/-- The message schedule: `w` holds the words so far, latest first. -/
def shaSched : Nat → List (BitVec 64) → List (BitVec 64)
  | 0, w => w
  | n + 1, w =>
    let a := w.getD 1 0
    let b := w.getD 14 0
    let s1 := rotr a 19 ^^^ rotr a 61 ^^^ (a >>> 6)
    let s0 := rotr b 1 ^^^ rotr b 8 ^^^ (b >>> 7)
    shaSched n ((s1 + w.getD 6 0 + s0 + w.getD 15 0) :: w)

/-- One round on the eight working variables. -/
def shaRound (v : List (BitVec 64)) (kw : BitVec 64) : List (BitVec 64) :=
  match v with
  | [a, b, c, d, e, f, g, h] =>
    let s1 := rotr e 14 ^^^ rotr e 18 ^^^ rotr e 41
    let ch := (e &&& f) ^^^ (~~~e &&& g)
    let t1 := h + s1 + ch + kw
    let s0 := rotr a 28 ^^^ rotr a 34 ^^^ rotr a 39
    let mj := (a &&& b) ^^^ (a &&& c) ^^^ (b &&& c)
    [t1 + (s0 + mj), a, b, c, d + t1, e, f, g]
  | v => v

/-- One block. -/
def shaBlock (h : List (BitVec 64)) (b : Bytes) : List (BitVec 64) :=
  let w := (shaSched 64 (shaWords 16 b).reverse).reverse
  let v := (shaK.zip w).foldl (fun v kw => shaRound v (kw.1 + kw.2)) h
  (h.zip v).map fun p => p.1 + p.2

/-- All blocks of a padded message. -/
def shaBlocks : Nat → List (BitVec 64) → Bytes → List (BitVec 64)
  | 0, h, _ => h
  | n + 1, h, b => shaBlocks n (shaBlock h (b.take 128)) (b.drop 128)

/-- `n` big-endian bytes of a number. -/
def beBytes (n v : Nat) : Bytes := (leBytes n v).reverse

/-- SHA-384 (FIPS 180-4): 48 bytes. -/
def sha384 (m : Bytes) : Bytes :=
  let n := m.length
  let z := 127 - (n + 16) % 128
  let p := m ++ [0x80] ++ List.replicate z 0 ++ beBytes 16 (8 * n)
  let h := shaBlocks (p.length / 128) shaH0 p
  (h.take 6).flatMap fun w => beBytes 8 w.toNat

/-- HMAC-SHA-384 (RFC 2104). -/
def hmac (key msg : Bytes) : Bytes :=
  let k := if 128 < key.length then sha384 key else key
  let k := k ++ List.replicate (128 - k.length) 0
  sha384 (k.map (· ^^^ 0x5C) ++ sha384 (k.map (· ^^^ 0x36) ++ msg))

/-- The expand step of HKDF: `n` blocks, the previous one `t`, the counter `i`. -/
def hkdfBlocks (prk info : Bytes) : Nat → Bytes → Nat → Bytes
  | 0, _, _ => []
  | n + 1, t, i =>
    let t' := hmac prk (t ++ info ++ [BitVec.ofNat 8 i])
    t' ++ hkdfBlocks prk info n t' (i + 1)

/-- HKDF-Expand(P, D, L) (R721). -/
def hkdfExpand (prk info : Bytes) (len : Nat) : Bytes := (hkdfBlocks prk info ((len + 47) / 48) [] 1).take len

/-- HKDF-SHA-384(S, D) with `len` bytes of output (R721): no salt, which is 48 zero bytes. -/
def hkdf (s info : Bytes) (len : Nat) : Bytes := hkdfExpand (hmac (List.replicate 48 0) s) info len

/-- The ASCII bytes of a label (R722). -/
def label (t : String) : Bytes := t.toList.map fun c => BitVec.ofNat 8 c.toNat

end Sys2Proof.Machine
end

