-- ==== Sys2Proof/Config.lean ====
section
/-! DEFINITION. What the spec leaves to the implementation and what it leaves open: constants without a body, so that nothing
can be proved about their values. Where an argument named `n` stands first it is the model's counter of free values. -/

namespace Sys2Proof

/-- The sample that an RGB888 code gives in an output format that RGB888 does not have, the mosaic or an IR plane (R291).
DESIGN CHOICE (log entry 168). -/
opaque Config.rgbPlane : Nat → Nat → BitVec 16

/-- CONF_SCALE of the tracker's association (R378 uses R368, whose CONF_SCALE Table 9-4 does not give the tracker).
DEDUCED (log entry 108). -/
opaque Config.trackerConfScale : Nat

/-- The descriptor a track gets when a patch search re-cuts it (R380 names no pattern table for it): entry, frame, X, Y.
DEDUCED (log entry 108). -/
opaque Config.recutDescriptor : Nat → Nat → Int → Int → Bytes

/-- Whether a firmware image verifies under the Vearend firmware key (R82): component, image bytes.
DESIGN CHOICE (log entry 23). -/
opaque Config.fwVerifies : Nat → Bytes → Bool

/-- The SVN in a firmware image's header (Anti-rollback); the header's layout is not given. DESIGN CHOICE (log entry 23). -/
opaque Config.fwSvn : Nat → Bytes → Fin 64

/-- The 32-bit version in a firmware image's header (Compatibility sets). DESIGN CHOICE (log entry 23). -/
opaque Config.fwVersion : Nat → Bytes → Nat

/-- The compatibility set in a firmware image's signed header: entries of Table 3-3, 12 bytes each.
DESIGN CHOICE (log entry 23). -/
opaque Config.fwCompatSet : Nat → Bytes → Bytes

/-- The version of the boot ROM (member 0x01 of Table 3-3). DESIGN CHOICE (log entry 23). -/
opaque Config.bootRomVersion : Nat

/-- Whether the signed factory record of the FACTORY partition passes its signature check (R116). DESIGN CHOICE (log entry 23). -/
opaque Config.factoryRecordOk : Bool

/-- The factory value of a calibrated item: item, instance, in the item's units (Table 3-7). -/
opaque Config.factoryCal : Nat → Nat → Int

/-- ECDSA P-384 verification: digest of the key's SEC1 point, message, r, s. The key is the one with that digest.
DESIGN CHOICE (log entry 24). -/
opaque Config.ecdsaVerifies : Bytes → Bytes → Nat → Nat → Bool

/-- HKDF-SHA-384 and the other key derivations of the spec: label, inputs. DESIGN CHOICE (log entry 24). -/
opaque Config.derive : String → Bytes → Bytes

/-- P-384: the coordinates x and y of the public point d × G of a private scalar (R723). -/
opaque Config.p384Point : Nat → Nat × Nat

/-- ECDSA P-384 signing with a private scalar: scalar, message; gives r and s. DESIGN CHOICE (log entry 24). -/
opaque Config.ecdsaSign : Nat → Bytes → Nat × Nat

/-- ECDH P-384: private scalar, coordinates of the public point; gives the x-coordinate of the shared point (Table 13-9).
DESIGN CHOICE (log entry 24). -/
opaque Config.ecdh : Nat → Nat × Nat → Nat

/-- The IV under which a message's data is sealed from end to end, by the message's header (R491 states none).
. DESIGN CHOICE (log entry 143). -/
opaque Config.pairIv : Bytes → Bytes

/-- RS(68,64) of board memory's check words: the field's polynomial, which R458 does not name. DESIGN CHOICE (log entry 148). -/
opaque Config.rsPoly : Nat

/-- RS(68,64) of board memory's check words: the first power of the generator's roots, which R458 does not name.
DESIGN CHOICE (log entry 148). -/
opaque Config.rsFirst : Nat

/-- What a check word shows of an error of more than three bytes, by the error (R458). DESIGN CHOICE (log entry 148). -/
opaque Config.beyondThree : Bytes → Fin 3

/-- How many check sectors MEM's buffer holds (R461). DESIGN CHOICE (log entry 148). -/
opaque Config.checkBufSize : Nat

/-- The slot 0 certificate chain in SPDM's format, at most 6,144 bytes (R589): combination digest, PROVISIONAL.
PRESUMED (log entry 25). -/
opaque Config.certChain : Bytes → Bool → Bytes

/-- The answer with which the responder names its SPDM and TDISP versions and algorithms (Table 13-5, R578); SPDM's own format.
PRESUMED (log entry 25). -/
opaque Config.protocolAnswer : String → Bytes

/-- The TDI report of a VF (R579), in TDISP's own format. PRESUMED (log entry 25). -/
opaque Config.tdiReport : Nat → Bytes

/-- The type byte of a DMTF measurement block by index (R590). PRESUMED (log entry 25). -/
opaque Config.measurementType : Nat → Nat

/-- The COMPANY_ID that a presence challenge concerns (R599). DESIGN CHOICE (log entry 136). -/
opaque Config.challengeCompany : Bytes → Nat

/-- The point of GF(2^8) at which the share of a member table's entry stands (R598 names none). DESIGN CHOICE (log entry 70). -/
opaque Config.shareX : Nat → Nat

/-- Random bytes drawn by the board: the n-th draw, count (keys, nonces). DESIGN CHOICE (log entry 26). -/
opaque Config.random : Nat → Nat → Bytes

/-- A free byte: what undefined board-memory contents read as, by era and address (R165, R677).
DESIGN CHOICE (log entries 16, 21). -/
opaque Config.memFree : Nat → Nat → BitVec 8

/-- A free 32-bit value: what the Relek reference defines and this spec does not, the n-th use. DESIGN CHOICE (log entry 16). -/
opaque Config.freeWord : Nat → BitVec 32

/-- A free 512-byte vector, the n-th use. DESIGN CHOICE (log entry 16). -/
opaque Config.freeVec : Nat → Bytes

/-- A free number. DESIGN CHOICE (log entry 16). -/
opaque Config.freeNat : Nat → Nat

/-- r = exp(−ζ ωn T) of the loop in units of 2^−48 (R527): BW in mHz, T in ns. The spec gives the real number, not its
rounding. DESIGN CHOICE (log entry 79). -/
opaque Config.loopR : Nat → Nat → Int

/-- cos θ of the loop in units of 2^−48 (R527): BW in mHz, T in ns. DESIGN CHOICE (log entry 79). -/
opaque Config.loopCos : Nat → Nat → Int

/-- Whether the n-th TMG cycle rounds the counter's step up below its 48 fraction bits (R511 states no rounding).
DESIGN CHOICE (log entry 79). -/
opaque Config.accRoundUp : Nat → Bool

/-- ln(1 + t / 86,400 s) in units of 2^−32 for t in seconds (the ageing term A(t) of Holdover). DESIGN CHOICE (log entry 79). -/
opaque Config.lnDays : Nat → Int

/-- Which cause a core reports when an access fails both its bound and its alignment check (R423 states no order).
DESIGN CHOICE (log entry 124). -/
opaque Config.alignBeforeBound : Bool

/-- The bits a conversion gives for a NaN (R404 states none): destination width code, FP32 bits. DESIGN CHOICE (log entry 129). -/
opaque Config.nanConv : Nat → Nat → Nat

/-- The number by which a ledger argument names an event the spec names in words only (Table 15-4): a reset's cause, a
firmware event, an apply point, a consent event and the like. DESIGN CHOICE (log entries 92, 135). -/
opaque Config.eventCode : String → Nat

/-- The 64-byte header of a delivered message (R509 names its fields and not their places): source board, LENGTH, REQ_ID, GTC.
DEDUCED (log entry 120). DESIGN CHOICE (log entry 135). -/
opaque Config.mailHeader : Nat → Nat → Nat → Nat → Bytes

/-- What a stimulus leaves open of its run (Table 14-6, R633): header fields of its records, levels above 0, the tracker's next ID and Δ;
of the stimulus and a key. DESIGN CHOICE (log entry 167). -/
opaque Config.tasteOpen : Bytes → List Nat → Nat

/-- The unique device secret, 48 bytes (R723). DESIGN CHOICE (log entry 26). -/
opaque Config.uds : Bytes

/-- The boot ROM's bytes (Table 13-7). DESIGN CHOICE (log entry 26). -/
opaque Config.bootRomImage : Bytes

end Sys2Proof
end

