-- ==== Sys2Proof/Machine/Pipe.lean ====
section
/-! DEFINITION. The arithmetic of an image pipe: stages 1 to 10 of Table 7-4, the CFA patterns, demosaicing and the output
formats (R288 to R299). Everything here is a function of the parameter set (Table 7-7) and the lines of one frame. -/

namespace Sys2Proof.Machine

/-- What a pipe works on: the context's active set, its geometry and the lines of the frame it has so far. -/
structure PipeIn where
  /-- the active parameter set, 9,432 bytes (Table 7-7) -/
  set : Bytes
  /-- the data type of the context (Table 7-2) -/
  dt : Nat
  width : Nat
  height : Nat
  /-- the lines so far, each of WIDTH samples -/
  rows : List (List Nat)

/-- The layout of a CFA code as colour classes, rows top to bottom (Table 7-5, R292). -/
def cfaLayout (code : Nat) : List (List Nat) :=
  match code with
  | 0x01 => [[0, 1], [2, 3]]
  | 0x02 => [[1, 0], [3, 2]]
  | 0x03 => [[2, 3], [0, 1]]
  | 0x04 => [[3, 2], [1, 0]]
  | 0x05 | 0x06 | 0x07 => [[0, 1], [1, 2]]
  | 0x08 => [[0, 1], [3, 2]]
  | 0x09 => [[0, 1, 2, 1], [1, 3, 1, 3], [2, 1, 0, 1], [1, 3, 1, 3]]
  | _ => [[0]]

/-- The period of a CFA code in both directions. -/
def cfaPeriod (code : Nat) : Nat := (cfaLayout code).length

/-- Whether a pattern has an IR class (R292). -/
def cfaHasIr (code : Nat) : Bool := code == 0x08 || code == 0x09

/-- Whether a pattern is Bayer. -/
def cfaIsBayer (code : Nat) : Bool := decide (1 ≤ code) && decide (code ≤ 4)

/-- The CFA code of the set. -/
def PipeIn.cfa (p : PipeIn) : Nat := byteAt p.set 0

/-- ENABLE bit `i` (Table 7-7, R289). -/
def PipeIn.enabled (p : PipeIn) (i : Nat) : Bool := bit (field p.set 2 2) i

/-- The depth of a RAW data type in bits (Table 7-2). DEDUCED (log entry 102). -/
def rawDepth (dt : Nat) : Nat :=
  match dt with
  | 0x2A => 8
  | 0x2B => 10
  | 0x2C => 12
  | 0x2D => 14
  | 0x2E => 16
  | _ => 20

/-- Whether the data type bypasses stages 1 to 9 (Table 7-2, R291). DEDUCED (log entry 102). -/
def dtBypass (dt : Nat) : Bool := dt == 0x1E || dt == 0x24

/-- Divide and round half up (R288 preamble). -/
def rhu (n d : Int) : Int := (2 * n + d) / (2 * d)

/-- Saturate to u20. -/
def u20 (v : Int) : Int := clampI 0 0xFFFFF v

/-- Saturate to u16. -/
def u16 (v : Int) : Int := clampI 0 0xFFFF v

/-- A coordinate brought into 0 to n − 1 by whole CFA periods, the mirroring of R282. -/
def mirror (period n : Nat) (x : Int) : Nat :=
  if x < 0 then (x % (period : Int)).toNat
  else if x < n then x.toNat
  else
    let k := (x.toNat - n) / period + 1
    x.toNat - k * period

/-- The colour class at a pixel, CFA_PHASE applied (R292). -/
def cfaClass (p : PipeIn) (x y : Nat) : Nat :=
  let l := cfaLayout p.cfa
  let ph := byteAt p.set 7
  let row := l.getD ((y + bits ph 3 2) % l.length) []
  row.getD ((x + bits ph 1 0) % l.length) 0

/-- The code of the sample at (x, y), right-justified. -/
def pipeRaw (p : PipeIn) (x y : Nat) : Nat := (p.rows.getD y []).getD x 0

/-- Stage 1, black level (R288). -/
def stage1 (p : PipeIn) (x y : Nat) : Nat := pipeRaw p x y - field p.set (12 + 4 * cfaClass p x y) 4

/-- The knees of the PWL curve (Table 7-7). -/
def pwlKnees (set : Bytes) : List (Nat × Nat) :=
  (List.range (byteAt set 1)).map fun i => (field set (28 + 8 * i) 4, field set (32 + 8 * i) 4)

/-- The PWL curve: linear from (x0, y0) on, and the last knee's y above it (R288 stage 2). -/
def pwl (x0 y0 : Nat) (s : Nat) : List (Nat × Nat) → Int
  | [] => y0
  | (x1, y1) :: t =>
    if s < x1 then (y0 : Int) + rhu (((y1 : Int) - y0) * ((s : Int) - x0)) ((x1 : Int) - x0)
    else pwl x1 y1 s t

/-- Stage 2, companding and PWL (R288). -/
def stage2 (p : PipeIn) (x y : Nat) : Int :=
  let s := stage1 p x y
  if byteAt p.set 1 = 0 then u20 ((s : Int) * 2 ^ (20 - rawDepth p.dt))
  else u20 (pwl 0 0 s (pwlKnees p.set))

/-- The stage-`f` sample at a coordinate that may lie outside the frame's lines (R282). -/
def atPix (p : PipeIn) (f : PipeIn → Nat → Nat → Int) (x y : Int) : Int :=
  f p (mirror (cfaPeriod p.cfa) p.width x) (mirror (cfaPeriod p.cfa) p.rows.length y)

/-- The class at a coordinate that may lie outside. -/
def classAt (p : PipeIn) (x y : Int) : Nat :=
  cfaClass p (mirror (cfaPeriod p.cfa) p.width x) (mirror (cfaPeriod p.cfa) p.rows.length y)

/-- The offsets of the (2r+1) × (2r+1) window without its centre, row by row. -/
def window (r : Nat) : List (Int × Int) :=
  let ks := (List.range (2 * r + 1)).map fun (k : Nat) => (k : Int) - r
  (ks.flatMap fun dy => ks.map fun dx => (dx, dy)).filter fun d => d ≠ (0, 0)

/-- Insertion into a rising list. -/
def insI (v : Int) : List Int → List Int
  | [] => [v]
  | a :: t => if v ≤ a then v :: a :: t else a :: insI v t

/-- The list in rising order. -/
def sortI (l : List Int) : List Int := l.foldr insI []

/-- The median, the mean of the middle two (rounded half up) when the count is even (R288 stage 3). -/
def medianI (l : List Int) : Int :=
  let s := sortI l
  let n := s.length
  if n % 2 = 1 then s.getD (n / 2) 0 else rhu (s.getD (n / 2 - 1) 0 + s.getD (n / 2) 0) 2

/-- Stage 3, defect correction (R288). -/
def stage3 (p : PipeIn) (x y : Nat) : Int :=
  let s := stage2 p x y
  if p.enabled 0 then
    let c := cfaClass p x y
    let ns := ((window 2).filter fun d => classAt p (x + d.1) (y + d.2) = c).map fun d =>
      atPix p stage2 (x + d.1) (y + d.2)
    let t := 16 * (field p.set 156 2 : Int)
    match sortI ns with
    | [] => s
    | lo :: rest =>
      let hi := rest.getLastD lo
      if s > hi + t ∨ s < lo - t then medianI ns else s
  else s

/-- The shading gain node SHADING[class][j][i] (Table 7-7). -/
def shadeNode (set : Bytes) (c j i : Nat) : Int := field set (720 + 2 * (c * 1089 + j * 33 + i)) 2

/-- Stage 4, lens shading: the bilinear gain times the sample, rounded once (R288). -/
def stage4 (p : PipeIn) (x y : Nat) : Int :=
  let s := stage3 p x y
  if p.enabled 1 then
    let w1 := p.width - 1
    let h1 := p.height - 1
    let c := cfaClass p x y
    let i := min (32 * x / w1) 31
    let j := min (32 * y / h1) 31
    let fx : Int := (32 * x : Int) - i * w1
    let fy : Int := (32 * y : Int) - j * h1
    let g := (shadeNode p.set c j i * (w1 - fx) + shadeNode p.set c j (i + 1) * fx) * (h1 - fy)
      + (shadeNode p.set c (j + 1) i * (w1 - fx) + shadeNode p.set c (j + 1) (i + 1) * fx) * fy
    u20 (rhu (s * g) (4096 * w1 * h1))
  else s

/-- Stage 5, white balance (R288). -/
def stage5 (p : PipeIn) (x y : Nat) : Int :=
  u20 (rhu (stage4 p x y * field p.set (160 + 2 * cfaClass p x y) 2) 4096)

/-- Whether class `c` is the dense class: green, or C or Y (R294, the separate path). -/
def isDense (cfa c : Nat) : Bool := if cfaIsBayer cfa then c == 1 || c == 2 else c == 1

/-- The dense plane at a pixel (R294, R297): the sample at a dense site, the edge-aware estimate elsewhere. -/
def densePlane (p : PipeIn) (x y : Nat) : Int :=
  if isDense p.cfa (cfaClass p x y) then stage5 p x y
  else
    let v := fun (dx dy : Int) => atPix p stage5 (x + dx) (y + dy)
    let c := stage5 p x y
    let lapH := 2 * c - v (-2) 0 - v 2 0
    let lapV := 2 * c - v 0 (-2) - v 0 2
    let dH := |v (-1) 0 - v 1 0| + |lapH|
    let dV := |v 0 (-1) - v 0 1| + |lapV|
    let gH4 := 2 * (v (-1) 0 + v 1 0) + lapH
    let gV4 := 2 * (v 0 (-1) + v 0 1) + lapV
    if dH < dV then u20 (rhu gH4 4) else if dV < dH then u20 (rhu gV4 4) else u20 (rhu (gH4 + gV4) 8)

/-- A sparse class filled by the colour-difference rule over the window of radius `r` (R295, R297). -/
def sparsePlane (p : PipeIn) (c r x y : Nat) : Int :=
  if cfaClass p x y = c then stage5 p x y
  else
    let ds := ((window r).filter fun d => classAt p (x + d.1) (y + d.2) = c).map fun d =>
      atPix p stage5 (x + d.1) (y + d.2) - atPix p densePlane (x + d.1) (y + d.2)
    match ds with
    | [] => densePlane p x y
    | _ => u20 (densePlane p x y + rhu ds.sum ds.length)

/-- A class filled by the mean of its nearest samples in the 3×3 window, bilinear interpolation (R296, R297 for IR). -/
def bilinPlane (p : PipeIn) (c x y : Nat) : Int :=
  if cfaClass p x y = c then stage5 p x y
  else
    let vs := ((window 1).filter fun d => classAt p (x + d.1) (y + d.2) = c).map fun d =>
      atPix p stage5 (x + d.1) (y + d.2)
    match vs with
    | [] => 0
    | _ => u20 (rhu vs.sum vs.length)

/-- Stage 6: colour plane `i` (0 to 2) and the IR plane (3) at a pixel (R288, R290, R294 to R297). -/
def stage6 (p : PipeIn) (i x y : Nat) : Int :=
  if p.cfa = 0x0A then stage5 p x y
  else if p.cfa = 0x08 then bilinPlane p i x y
  else if p.cfa = 0x09 then
    if i = 1 then densePlane p x y else if i = 3 then bilinPlane p 3 x y else sparsePlane p i 2 x y
  else if i = 1 then densePlane p x y
  else if cfaIsBayer p.cfa then sparsePlane p (if i = 0 then 0 else 3) 1 x y
  else sparsePlane p i 1 x y

/-- Stage 7, IR extraction (R288, R289, R290). -/
def stage7 (p : PipeIn) (i x y : Nat) : Int :=
  let c := stage6 p i x y
  if p.enabled 2 && cfaHasIr p.cfa then
    u20 (max (rhu (c * 32768 - (field p.set (192 + 2 * i) 2 : Int) * stage6 p 3 x y) 32768) 0)
  else c

/-- Stage 8, colour matrix (R288, R289, R290). -/
def stage8 (p : PipeIn) (i x y : Nat) : Int :=
  if p.enabled 3 && p.cfa ≠ 0x0A then
    let term := fun j => signed 16 (field p.set (168 + 2 * (3 * i + j)) 2) * stage7 p j x y
    u20 (rhu (term 0 + term 1 + term 2) 4096 + 16 * signed 16 (field p.set (186 + 2 * i) 2))
  else stage7 p i x y

/-- Stage 9, tone and gamma, giving u16 (R288, R289). -/
def tone (p : PipeIn) (v : Int) : Int :=
  if p.enabled 4 then
    let k := v.toNat >>> 12
    let f : Int := v.toNat % 4096
    let t := fun i => (field p.set (200 + 2 * i) 2 : Int)
    u16 (t k + ((t (k + 1) - t k) * f + 2048) / 4096)
  else v / 16

/-- Plane `i` after stage 9 at a pixel; RGB888 is taken as full-range RGB (R291). -/
def pipeRgb (p : PipeIn) (i x y : Nat) : Int :=
  if p.dt = 0x24 then (bits (pipeRaw p x y) (8 * i + 7) (8 * i) : Int) * 257
  else tone p (stage8 p i x y)

/-- ten thousand times the BT.709 luma (Output formats). -/
def lumaNum (p : PipeIn) (x y : Nat) : Int :=
  2126 * pipeRgb p 0 x y + 7152 * pipeRgb p 1 x y + 722 * pipeRgb p 2 x y

/-- The luma, u16; for a monochrome pattern the stage 9 output (R299). -/
def luma (p : PipeIn) (x y : Nat) : Int :=
  if p.dt ≠ 0x24 ∧ p.cfa = 0x0A then pipeRgb p 0 x y else u16 (rhu (lumaNum p x y) 10000)

/-- Cb, u16, at full range. -/
def chromaB (p : PipeIn) (x y : Nat) : Int :=
  if p.dt ≠ 0x24 ∧ p.cfa = 0x0A then 32768
  else u16 (32768 + rhu (10000 * pipeRgb p 2 x y - lumaNum p x y) 18556)

/-- Cr, u16, at full range. -/
def chromaR (p : PipeIn) (x y : Nat) : Int :=
  if p.dt ≠ 0x24 ∧ p.cfa = 0x0A then 32768
  else u16 (32768 + rhu (10000 * pipeRgb p 0 x y - lumaNum p x y) 15748)

/-- A u16 sample in the output width: 8 bits, 10 bits in a 16-bit container, or 16 bits. -/
def packSample (w : Nat) (v : Int) : Bytes :=
  if w = 8 then leBytes 1 (v.toNat >>> 8) else if w = 10 then leBytes 2 (v.toNat >>> 6) else leBytes 2 v.toNat

/-- How many lines a pipe must have beyond line y + 4 before line y + 4 is processed as far as the demosaic needs it: stage 3 looks two
lines ahead (R282, R288). -/
def PipeIn.ahead (p : PipeIn) : Nat := if !dtBypass p.dt && p.enabled 0 then 2 else 0

/-- How far above and below an output line its input lines lie: the demosaic's reach and stage 3's (R288, R294 to R297). -/
def PipeIn.reach (p : PipeIn) (fmt : Nat) : Nat :=
  if dtBypass p.dt then 0
  else
    let demosaic :=
      if fmt = 0x01 ∨ p.cfa = 0x0A then 0
      else if p.cfa = 0x08 then 1
      else if p.cfa = 0x09 then (if fmt = 0x08 ∨ fmt = 0x09 then 1 else 4)
      else 3
    demosaic + p.ahead

/-- The first-plane bytes of output line `y` in format `fmt` (Table 7-6): luma, the mosaic or the IR plane. RGB888 has neither a mosaic
nor an IR plane: of those formats its samples are free values (R291). DESIGN CHOICE (log entry 168). -/
def outFirst (p : PipeIn) (fmt y : Nat) : Bytes :=
  let xs := List.range p.width
  if p.dt = 0x1E then xs.flatMap fun x => leBytes 1 (pipeRaw p x y)
  else if p.dt = 0x24 ∧ (fmt = 0x01 ∨ fmt = 0x08 ∨ fmt = 0x09) then
    xs.flatMap fun x => packSample (if fmt = 0x08 then 8 else 16) (Config.rgbPlane fmt (pipeRaw p x y)).toNat
  else match fmt with
    | 0x01 => xs.flatMap fun x => leBytes 2 ((stage5 p x y).toNat >>> 4)
    | 0x02 | 0x04 | 0x06 => xs.flatMap fun x => packSample 8 (luma p x y)
    | 0x03 | 0x05 => xs.flatMap fun x => packSample 10 (luma p x y)
    | 0x07 => xs.flatMap fun x => packSample 16 (luma p x y)
    | 0x08 => xs.flatMap fun x => packSample 8 (stage6 p 3 x y / 16)
    | 0x09 => xs.flatMap fun x => packSample 16 (stage6 p 3 x y / 16)
    | _ => []

/-- The interleaved Cb Cr bytes that go with output line `y`, none where the format has none there: 4:2:0 averages 2×2
pixels and has one chroma line for each pair of lines, 4:2:2 averages horizontal pairs. -/
def outChroma (p : PipeIn) (fmt y : Nat) : Option Bytes :=
  let pairs := List.range (p.width / 2)
  if p.dt = 0x1E then
    some (pairs.flatMap fun k => leBytes 1 (pipeRaw p (2 * k) y >>> 8) ++ leBytes 1 (pipeRaw p (2 * k + 1) y >>> 8))
  else
    let w := if fmt = 0x02 ∨ fmt = 0x04 then 8 else 10
    let avg2 := fun (f : PipeIn → Nat → Nat → Int) k => rhu (f p (2 * k) y + f p (2 * k + 1) y) 2
    let avg4 := fun (f : PipeIn → Nat → Nat → Int) k =>
      rhu (f p (2 * k) (y - 1) + f p (2 * k + 1) (y - 1) + f p (2 * k) y + f p (2 * k + 1) y) 4
    if fmt = 0x02 ∨ fmt = 0x03 then
      if y % 2 = 1 then
        some (pairs.flatMap fun k => packSample w (avg4 chromaB k) ++ packSample w (avg4 chromaR k))
      else none
    else if fmt = 0x04 ∨ fmt = 0x05 then
      some (pairs.flatMap fun k => packSample w (avg2 chromaB k) ++ packSample w (avg2 chromaR k))
    else none

/-- Split a line into 64-byte beats, the last zero-filled (R298). DEDUCED (log entry 103). -/
def beatsOf (b : Bytes) : List Bytes :=
  (List.range ((b.length + 63) / 64)).map fun k => slice b (64 * k) 64

end Sys2Proof.Machine
end

