-- ==== Sys2Proof/Machine/Geometry.lean ====
section
/-! DEFINITION. The arithmetic of the pyramid, warp, stereo and flow stages (R303 to R347), as functions of planes of working
samples and of the parameter blocks of Table 8-6. A sample is 0 when invalid, −1 when invalid because it is poisoned (R308),
and its 16-bit value otherwise. -/

namespace Sys2Proof.Machine

/-- A plane of working samples, rows top to bottom. -/
structure Plane where
  w : Nat
  h : Nat
  rows : List (List Int)
  deriving DecidableEq, Repr, Inhabited

/-- The sample at (x, y); a sample that is not there reads as 0, invalid. -/
def Plane.get (p : Plane) (x y : Nat) : Int := (p.rows.getD y []).getD x 0

/-- Build a plane from a function of the coordinates. -/
def Plane.ofFn (w h : Nat) (f : Nat → Nat → Int) : Plane :=
  { w := w, h := h, rows := (List.range h).map fun y => (List.range w).map fun x => f x y }

/-- The bytes one sample of a line takes in an input format (R303). -/
def fmtBytes (fmt : Nat) : Nat := if fmt = 0x03 ∨ fmt = 0x05 ∨ fmt = 0x07 ∨ fmt = 0x09 ∨ fmt = 0x11 then 2 else 1

/-- The working sample of an input sample (R303). The 10-bit formats are not among the 8-bit ones the rule converts
by value; of their u10 samples the upper 8 bits are taken. -/
def workSample (fmt : Nat) (v : Nat) : Int :=
  if fmt = 0x07 ∨ fmt = 0x09 then max (v : Int) 1
  else if fmt = 0x10 then 257 * (v : Int)
  else if fmt = 0x11 then v
  else if fmt = 0x03 ∨ fmt = 0x05 then max (257 * ((v >>> 2 : Nat) : Int)) 1
  else max (257 * (v : Int)) 1

/-- The working samples of a line of bytes, cut or padded to `w` samples; −1 throughout when poisoned (R307, R308). -/
def workLine (fmt w : Nat) (poison : Bool) (b : Bytes) : List Int :=
  if poison then List.replicate w (-1)
  else (List.range w).map fun x => workSample fmt (field b (x * fmtBytes fmt) (fmtBytes fmt))

/-- A sample as an output of 8 or 16 bits (R304). -/
def outSample (g16 : Bool) (g : Int) : Bytes :=
  if g ≤ 0 then leBytes (if g16 then 2 else 1) 0
  else if g16 then leBytes 2 g.toNat else leBytes 1 (max (g.toNat >>> 8) 1)

/-! Pyramid. -/

/-- The size of a level, from that of the level below (Pyramid). -/
def halfUp (n : Nat) : Nat := (n + 1) / 2

/-- An index mirrored without repeating the edge (R318). -/
def mirror101 (n : Nat) (i : Int) : Nat :=
  let m := if i < 0 then (-i).toNat else i.toNat
  if m < n then m else 2 * (n - 1) - m

/-- The taps of a pyramid filter with their weights (R317). -/
def pyrTaps (filter : Nat) : List (Int × Int × Int) :=
  if filter = 0 then
    let w := [(-2, 1), (-1, 4), (0, 6), (1, 4), (2, 1)]
    w.flatMap fun (dy, wy) => w.map fun (dx, wx) => (dx, dy, wx * wy)
  else [(0, 0, 64), (1, 0, 64), (0, 1, 64), (1, 1, 64)]

/-- A sample of level k + 1 from level k (R317 to R319, R308). -/
def pyrSample (filter : Nat) (p : Plane) (x y : Nat) : Int :=
  let taps := (pyrTaps filter).map fun (dx, dy, w) => (p.get (mirror101 p.w (2 * x + dx)) (mirror101 p.h (2 * y + dy)), w)
  if taps.any (fun t => t.1 < 0) then -1
  else
    let ok := taps.filter fun t => t.1 > 0
    let ws := (ok.map (·.2)).sum
    if ws < 128 then 0 else max (clampI 0 65535 (rhu (ok.map fun t => t.2 * t.1).sum ws)) 1

/-- Level k + 1 of a whole plane. -/
def pyrDown (filter : Nat) (p : Plane) : Plane :=
  Plane.ofFn (halfUp p.w) (halfUp p.h) (pyrSample filter p)

/-- Levels 0 to n − 1 of a plane. -/
def pyrLevels (filter : Nat) (p : Plane) : Nat → List Plane
  | 0 => []
  | n + 1 => p :: pyrLevels filter (pyrDown filter p) n

/-- How many lines of level k + 1 have all their input when `n` lines of level k, `h` high, are formed. -/
def pyrReady (filter h n : Nat) : Nat :=
  ((List.range (halfUp h)).takeWhile fun y => min (2 * y + (if filter = 0 then 2 else 1)) (h - 1) < n).length

/-! Warp. -/

/-- A mesh node: its source position X, Y in 1/256 pixel, none without a source, or poisoned (Warp, R327). -/
inductive MeshNode where
  | at_ (x y : Int)
  | none_
  | poisoned
  deriving DecidableEq, Repr, Inhabited

/-- A mesh node from its eight bytes. -/
def meshNode (b : Bytes) : MeshNode :=
  if field b 0 4 = 0x80000000 then .none_ else .at_ (signed 32 (field b 0 4)) (signed 32 (field b 4 4))

/-- The source coordinates of an output pixel in 1/64 pixel, over the four nodes with nonzero weight (R322). -/
def warpCoord (node : Nat → Nat → MeshNode) (s x y : Nat) : MeshNode :=
  let m := 2 ^ s
  let fx := x % m
  let fy := y % m
  let ns := [((x / m, y / m), (m - fx) * (m - fy)), ((x / m + 1, y / m), fx * (m - fy)),
    ((x / m, y / m + 1), (m - fx) * fy), ((x / m + 1, y / m + 1), fx * fy)]
  let used := (ns.filter fun n => n.2 ≠ 0).map fun n => (node n.1.1 n.1.2, (n.2 : Int))
  if used.any (fun u => u.1 = .poisoned) then .poisoned
  else if used.any (fun u => u.1 = .none_) then .none_
  else
    let sum := fun (f : MeshNode → Int) => (used.map fun u => f u.1 * u.2).sum
    let getX := fun n : MeshNode => match n with | .at_ a _ => a | _ => 0
    let getY := fun n : MeshNode => match n with | .at_ _ b => b | _ => 0
    .at_ (rhu (sum getX) (2 ^ (2 * s + 2))) (rhu (sum getY) (2 ^ (2 * s + 2)))

/-- The taps along one axis at coordinate `u` with their weights: bilinear (R323) or Catmull-Rom (R324). -/
def warpTaps (bicubic : Bool) (u : Int) : List (Int × Int) :=
  let i := u / 64
  let p := u % 64
  if bicubic then
    let c := fun k : Int =>
      let n := |64 * k - p|
      if n < 64 then rhu (3 * n * n * n - 320 * n * n + 524288) 128
      else rhu (-(n * n * n) + 320 * n * n - 32768 * n + 1048576) 128
    let cs := [(-1 : Int), 0, 1, 2].map fun k => (k, c k)
    let top := (cs.map (·.2)).foldl max (-10000)
    let fix := 4096 - (cs.map (·.2)).sum
    let kt := ((cs.find? fun t => t.2 = top).getD (0, 0)).1
    cs.map fun t => (i + t.1, if t.1 = kt then t.2 + fix else t.2)
  else [(i, 64 - p), (i + 1, p)]

/-- What a warp output sample comes to: its value, whether the LINES window made it invalid, whether it is poisoned. -/
structure WarpOut where
  g : Int
  reach : Bool
  deriving DecidableEq, Repr, Inhabited

/-- One warp output sample (R322 to R327). `held r` says whether row r is in the context's LINES window. -/
def warpSample (node : Nat → Nat → MeshNode) (s : Nat) (bicubic : Bool) (p : Plane) (held : Nat → Bool) (x y : Nat) :
    WarpOut :=
  match warpCoord node s x y with
  | .poisoned => ⟨-1, false⟩
  | .none_ => ⟨0, false⟩
  | .at_ u v =>
    let taps := ((warpTaps bicubic v).flatMap fun ty => (warpTaps bicubic u).map fun tx => (tx.1, ty.1, tx.2 * ty.2)).filter
      fun t => t.2.2 ≠ 0
    if taps.any (fun t => t.1 < 0 ∨ t.2.1 < 0 ∨ (p.w : Int) ≤ t.1 ∨ (p.h : Int) ≤ t.2.1) then ⟨0, false⟩
    else if taps.any (fun t => !held t.2.1.toNat) then ⟨0, true⟩
    else
      let vals := taps.map fun t => (p.get t.1.toNat t.2.1.toNat, t.2.2)
      if vals.any (fun t => t.1 < 0) then ⟨-1, false⟩
      else if vals.any (fun t => t.1 = 0) then ⟨0, false⟩
      else ⟨clampI 1 65535 (rhu (vals.map fun t => t.1 * t.2).sum (if bicubic then 16777216 else 4096)), false⟩

/-- The deepest input row the nonzero taps of output line `y` need, none when no tap lies in the input (R326). -/
def warpDeepest (node : Nat → Nat → MeshNode) (s : Nat) (bicubic : Bool) (w inH y : Nat) : Option Nat :=
  ((List.range w).filterMap fun x =>
    match warpCoord node s x y with
    | .at_ _ v =>
      (((warpTaps bicubic v).filter fun t => t.2 ≠ 0 ∧ 0 ≤ t.1 ∧ t.1 < (inH : Int)).map (·.1.toNat)).max?
    | _ => none).max?

/-! Census and stereo. -/

/-- A census: whether it is valid, whether a poisoned sample made it invalid, its bits (R328). -/
structure Cns where
  ok : Bool
  poison : Bool
  v : Nat
  deriving DecidableEq, Repr, Inhabited

/-- The census of a pixel in a window of 2rx + 1 by 2ry + 1 (R328). -/
def census (rx ry : Nat) (p : Plane) (x y : Nat) : Cns :=
  let offs := ((List.range (2 * ry + 1)).flatMap fun dy => (List.range (2 * rx + 1)).map fun dx => (dx, dy)).filter
    fun d => d ≠ (rx, ry)
  let inside := decide (rx ≤ x) && decide (ry ≤ y) && decide (x + rx < p.w) && decide (y + ry < p.h)
  let vs := p.get x y :: offs.map fun d => p.get (x + d.1 - rx) (y + d.2 - ry)
  if !inside then ⟨false, false, 0⟩
  else if vs.any (· < 0) then ⟨false, true, 0⟩
  else if vs.any (· = 0) then ⟨false, false, 0⟩
  else ⟨true, false, (offs.foldl (fun a d => 2 * a + b2n (p.get (x + d.1 - rx) (y + d.2 - ry) < p.get x y)) 0)⟩

/-- The census radii and bit count of CENSUS 0, 1 and of the refine pass (R328). -/
def censusShape (c : Nat) : Nat × Nat × Nat := if c = 0 then (2, 2, 24) else if c = 1 then (3, 2, 34) else (4, 3, 62)

/-- Hamming distance of two censuses of at most 64 bits. -/
def hamming (a b : Nat) : Nat := ((List.range 64).map fun i => b2n (a.testBit i != b.testBit i)).sum

/-- The census of every pixel of a plane. -/
def censusPlane (c : Nat) (p : Plane) : List (List Cns) :=
  let sh := censusShape c
  (List.range p.h).map fun y => (List.range p.w).map fun x => census sh.1 sh.2.1 p x y

/-- A census plane's entry. -/
def cnsAt (l : List (List Cns)) (x y : Nat) : Cns := (l.getD y []).getD x ⟨false, false, 0⟩

/-- What stereo works with (Table 8-6, STE). -/
structure SteCfg where
  census : Nat
  dmin : Nat
  d : Nat
  paths : Nat
  p1 : Nat
  p2 : Nat
  uniq : Nat
  confScale : Nat
  lrCheck : Bool
  lrTol : Nat

/-- Whether candidate number `k` (disparity DMIN + k) is available at a left pixel (R329). -/
def steAvail (c : SteCfg) (r : List (List Cns)) (x y k : Nat) : Bool :=
  decide (c.dmin + k ≤ x) && (cnsAt r (x - (c.dmin + k)) y).ok

/-- The cost C(p, d) (R329). -/
def steCost (c : SteCfg) (l r : List (List Cns)) (x y k : Nat) : Nat :=
  let cl := cnsAt l x y
  if cl.ok && steAvail c r x y k then hamming cl.v (cnsAt r (x - (c.dmin + k)) y).v
  else (censusShape c.census).2.2

/-- One step of R330: L_r at p from C at p and L_r at the predecessor. -/
def pathStep (p1 p2 : Nat) (cost prev : List Nat) : List Nat :=
  let m := (prev.min?).getD 0
  (List.range cost.length).map fun k =>
    let c0 := prev.getD k 0
    let c1 := if k = 0 then m + p2 else prev.getD (k - 1) 0 + p1
    let c2 := match prev[k + 1]? with | some v => v + p1 | none => m + p2
    cost.getD k 0 + min (min c0 (min c1 c2)) (m + p2) - m

/-- L_r along a row from its first pixel on. -/
def pathRow (p1 p2 : Nat) : Option (List Nat) → List (List Nat) → List (List Nat)
  | _, [] => []
  | none, c :: cs => c :: pathRow p1 p2 (some c) cs
  | some prev, c :: cs => let l := pathStep p1 p2 c prev; l :: pathRow p1 p2 (some l) cs

/-- L_r of the rows from the top, whose predecessor lies `dx` to the left in the row above. -/
def pathDown (p1 p2 : Nat) (dx : Int) : Option (List (List Nat)) → List (List (List Nat)) → List (List (List Nat))
  | _, [] => []
  | none, row :: rows => row :: pathDown p1 p2 dx (some row) rows
  | some prev, row :: rows =>
    let l := (List.range row.length).map fun (x : Nat) =>
      let px : Int := (x : Int) - dx
      if px < 0 ∨ (row.length : Int) ≤ px then row.getD x [] else pathStep p1 p2 (row.getD x []) (prev.getD px.toNat [])
    l :: pathDown p1 p2 dx (some l) rows

/-- L_r for a direction r over a cost volume. -/
def pathL (p1 p2 : Nat) (r : Int × Int) (vol : List (List (List Nat))) : List (List (List Nat)) :=
  if r = (1, 0) then vol.map fun row => pathRow p1 p2 none row
  else if r = (-1, 0) then vol.map fun row => (pathRow p1 p2 none row.reverse).reverse
  else if r.2 = 1 then pathDown p1 p2 r.1 none vol
  else (pathDown p1 p2 r.1 none vol.reverse).reverse

/-- The directions of PATHS 4 and 5, and the 8 of the refine pass (R330, R333). -/
def pathDirs (n : Nat) : List (Int × Int) :=
  let four := [(1, 0), (0, 1), (1, 1), (-1, 1)]
  if n = 4 then four else if n = 5 then four ++ [(-1, 0)]
  else four ++ [(-1, 0), (0, -1), (1, -1), (-1, -1)]

/-- The aggregate S(p, d) = Σ_r L_r(p, d) over a cost volume (R330). -/
def aggregate (c : SteCfg) (vol : List (List (List Nat))) : List (List (List Nat)) :=
  let ls := (pathDirs c.paths).map fun r => pathL c.p1 c.p2 r vol
  (List.range vol.length).map fun y => (List.range (vol.getD y []).length).map fun x =>
    (List.range c.d).map fun k => (ls.map fun l => ((l.getD y []).getD x []).getD k 0).sum

/-- Sub-pixel numerator and denominator clamp of step 6 of R331: δ in 1/16. -/
def subPixel (sm sp s1 : Nat) : Int :=
  let den : Int := 2 * ((sm : Int) + sp - 2 * s1)
  if den = 0 then 0 else clampI (-8) 8 (rhu (16 * ((sm : Int) - sp)) den)

/-- The confidence of R332. -/
def confidence (s1 s2 scale : Nat) : Nat := max 1 (min 255 ((s2 - s1) * scale / (s1 + 16)))

/-- The lowest of a list of (value, key), the first on ties. -/
def lowest (l : List (Nat × Nat)) : Option (Nat × Nat) := minBy (fun a b => decide (a.1 < b.1)) l

/-- The stereo decision at a pixel of a row of aggregates: code and confidence, and whether poison decided it (R331, R332).
`x0` is the image column of the row's first entry. -/
def steDecide (c : SteCfg) (l r : List (List Cns)) (row : List (List Nat)) (x0 x y : Nat) : Nat × Nat × Bool :=
  let cl := cnsAt l x y
  let ks := List.range c.d
  let dep := cl.poison || ks.any fun k => decide (c.dmin + k ≤ x) && (cnsAt r (x - (c.dmin + k)) y).poison
  if !cl.ok || dep then (0xFFFF, 0, dep)
  else
    let s := row.getD (x - x0) []
    let av := ks.filter fun k => steAvail c r x y k
    match lowest (av.map fun k => (s.getD k 0, k)) with
    | none => (0xFFFF, 0, false)
    | some (s1, k) =>
      let s2 := (((av.filter fun (j : Nat) => 2 ≤ Int.natAbs ((j : Int) - (k : Int))).map fun j => s.getD j 0).min?).getD (s1 + 255)
      if c.uniq ≠ 0 ∧ 256 * (s2 - s1) < c.uniq * s1 then (0xFFFF, 0, false)
      else
        let xr := x - (c.dmin + k)
        let passed := fun x' => (cnsAt l x' y).ok &&
          !(ks.any fun j => decide (c.dmin + j ≤ x') && (cnsAt r (x' - (c.dmin + j)) y).poison)
        let cands := ks.filter fun j => decide (x0 ≤ xr + c.dmin + j) && decide (xr + c.dmin + j < x0 + row.length)
          && passed (xr + c.dmin + j)
        let kr := ((lowest (cands.map fun j => ((row.getD (xr + c.dmin + j - x0) []).getD j 0, j))).getD (s1, k)).2
        if c.lrCheck ∧ c.lrTol < Int.natAbs ((k : Int) - kr) then (if k < kr then 0xFFFE else 0xFFFF, 0, false)
        else
          let near := decide (1 ≤ k) && av.contains (k - 1) && av.contains (k + 1)
          let dl := if near then subPixel (s.getD (k - 1) 0) (s.getD (k + 1) 0) s1 else 0
          ((16 * ((c.dmin + k : Nat) : Int) + dl).toNat, confidence s1 s2 c.confScale, false)

/-- Stereo over the window of columns x0 to x0 + w − 1 and rows y0 to y0 + h − 1: per row, code, confidence and poison
(R329 to R333). The coarse pass is the window of the whole image. -/
def stereo (c : SteCfg) (left right : Plane) (x0 y0 w h : Nat) : List (List (Nat × Nat × Bool)) :=
  let l := censusPlane c.census left
  let r := censusPlane c.census right
  let vol := (List.range h).map fun y => (List.range w).map fun x =>
    (List.range c.d).map fun k => steCost c l r (x0 + x) (y0 + y) k
  let agg := aggregate c vol
  (List.range h).map fun y => (List.range w).map fun x => steDecide c l r (agg.getD y []) x0 (x0 + x) (y0 + y)

/-! Flow. -/

/-- What flow works with (Table 8-6, FLO). -/
structure FloCfg where
  levels : Nat
  outLevel : Nat
  searchTop : Nat
  search : Nat
  uniq : Nat
  confScale : Nat

/-- A flow decision at a level: the integer vector if any, its confidence, poison, and the sub-pixel offsets as
numerator and denominator pairs. -/
structure FloVec where
  v : Option (Int × Int)
  conf : Nat
  poison : Bool
  offA : Int × Int
  offB : Int × Int
  deriving DecidableEq, Repr, Inhabited

/-- The cost of candidate (a, b) at p: the sum over the box of radius `br` of the Hamming distances, none when a census
is not valid (R335, R344). -/
def floCost (br : Nat) (cur ref : List (List Cns)) (x y : Nat) (a b : Int) : Option Nat :=
  let offs := ((0, 0) : Int × Int) :: window br
  offs.foldl (fun acc d =>
    match acc with
    | none => none
    | some t =>
      let qx := (x : Int) + d.1; let qy := (y : Int) + d.2
      if qx < 0 ∨ qy < 0 ∨ qx - a < 0 ∨ qy - b < 0 then none
      else
        let c := cnsAt cur qx.toNat qy.toNat
        let r := cnsAt ref (qx - a).toNat (qy - b).toNat
        if c.ok && r.ok then some (t + hamming c.v r.v) else none) (some 0)

/-- Whether a candidate's censuses reach poisoned samples (R308). -/
def floPoison (br : Nat) (cur ref : List (List Cns)) (x y : Nat) (a b : Int) : Bool :=
  (((0, 0) : Int × Int) :: window br).any fun d =>
    let qx := (x : Int) + d.1; let qy := (y : Int) + d.2
    (decide (0 ≤ qx) && decide (0 ≤ qy) && (cnsAt cur qx.toNat qy.toNat).poison) ||
    (decide (0 ≤ qx - a) && decide (0 ≤ qy - b) && (cnsAt ref (qx - a).toNat (qy - b).toNat).poison)

/-- Sub-pixel offset along an axis as a fraction held to one half either way (R339). -/
def floOffset (cm cp : Option Nat) (c1 : Nat) : Int × Int :=
  match cm, cp with
  | some m, some p =>
    let den : Int := 2 * ((m : Int) + p - 2 * c1)
    let num : Int := (m : Int) - p
    if den = 0 then (0, 1) else if 2 * num > den then (1, 2) else if 2 * num < -den then (-1, 2) else (num, den)
  | _, _ => (0, 1)

/-- The winner at a pixel among the prior ± s (R336, R338 to R340). -/
def floDecide (c : FloCfg) (br s : Nat) (cur ref : List (List Cns)) (prior : Int × Int) (x y : Nat) : FloVec :=
  let ds := (List.range (2 * s + 1)).map fun (k : Nat) => (k : Int) - s
  let cands := ds.flatMap fun db => ds.map fun da => (prior.1 + da, prior.2 + db)
  let dep := cands.any fun q => floPoison br cur ref x y q.1 q.2
  let cost := fun (q : Int × Int) => floCost br cur ref x y q.1 q.2
  let av := cands.filterMap fun q => (cost q).map fun t => (t, q)
  let lt := fun (p q : Nat × Int × Int) =>
    let kp := (|p.2.1 - prior.1| + |p.2.2 - prior.2|)
    let kq := (|q.2.1 - prior.1| + |q.2.2 - prior.2|)
    decide (p.1 < q.1) || (decide (p.1 = q.1) && (decide (kp < kq) ||
      (decide (kp = kq) && (decide (p.2.2 < q.2.2) || (decide (p.2.2 = q.2.2) && decide (p.2.1 < q.2.1))))))
  if dep then ⟨none, 0, true, (0, 1), (0, 1)⟩
  else match minBy lt av with
    | none => ⟨none, 0, false, (0, 1), (0, 1)⟩
    | some (c1, q) =>
      let c2 := (((av.filter fun p => 2 ≤ max (Int.natAbs (p.2.1 - q.1)) (Int.natAbs (p.2.2 - q.2))).map (·.1)).min?).getD
        (c1 + 255)
      if c.uniq ≠ 0 ∧ 256 * (c2 - c1) < c.uniq * c1 then ⟨none, 0, false, (0, 1), (0, 1)⟩
      else
        let at_ := fun p : Int × Int => if cands.contains p then cost p else none
        ⟨some q, confidence c1 c2 c.confScale, false,
          floOffset (at_ (q.1 - 1, q.2)) (at_ (q.1 + 1, q.2)) c1, floOffset (at_ (q.1, q.2 - 1)) (at_ (q.1, q.2 + 1)) c1⟩

/-- The lower middle of a list (R337). -/
def lowerMiddle (l : List Int) : Int := (sortI l).getD ((l.length - 1) / 2) 0

/-- The parent's vector after the 3×3 median filter over its valid neighbours (R336, R337). -/
def floPrior (parent : List (List FloVec)) (x y : Nat) : Int × Int :=
  let vs := (((0, 0) : Int × Int) :: window 1).filterMap fun d =>
    let qx := (x : Int) / 2 + d.1; let qy := (y : Int) / 2 + d.2
    if qx < 0 ∨ qy < 0 then none else (((parent.getD qy.toNat [])[qx.toNat]?).bind FloVec.v)
  match vs with
  | [] => (0, 0)
  | _ => (2 * lowerMiddle (vs.map (·.1)), 2 * lowerMiddle (vs.map (·.2)))

/-- Flow decisions of a whole level from those of its parent, if any. -/
def floLevel (c : FloCfg) (cur ref : Plane) (parent : Option (List (List FloVec))) : List (List FloVec) :=
  let cc := censusPlane 0 cur
  let rc := censusPlane 0 ref
  (List.range cur.h).map fun y => (List.range cur.w).map fun x =>
    match parent with
    | none => floDecide c 2 c.searchTop cc rc (0, 0) x y
    | some p => floDecide c 2 c.search cc rc (floPrior p x y) x y

/-- Coarse flow: levels from the top down to OUT_LEVEL, the top first in the lists (R335, R336). -/
def flow (c : FloCfg) : Option (List (List FloVec)) → List (Plane × Plane) → List (List FloVec)
  | parent, [] => parent.getD []
  | parent, (cur, ref) :: rest => flow c (some (floLevel c cur ref parent)) rest

/-- The refine decision at a pixel of the tile (R344): 9×7 census, 9×9 box, ± (SEARCH + 2) around `centre`.
DEDUCED (log entry 105). -/
def floRefine (c : FloCfg) (cc rc : List (List Cns)) (centre : Int × Int) (x y : Nat) : FloVec :=
  floDecide c 4 (c.search + 2) cc rc centre x y

/-- A component as stored: round(32 × 2^OUT_LEVEL × (integer + offset)) (R339). DEDUCED (log entry 106). -/
def floStore (outLevel : Nat) (n : Int) (off : Int × Int) : Int := rhu (32 * 2 ^ outLevel * (n * off.2 + off.1)) off.2

/-- A flow vector as two s16 (R338, R339). -/
def floBytes (outLevel : Nat) (f : FloVec) : Bytes :=
  match f.v with
  | none => leBytes 2 0x8000 ++ leBytes 2 0x8000
  | some (a, b) =>
    let u := floStore outLevel a f.offA
    let v := floStore outLevel b f.offB
    if |u| ≤ 32767 ∧ |v| ≤ 32767 then leBytes 2 (unsigned 16 u) ++ leBytes 2 (unsigned 16 v)
    else leBytes 2 0x8000 ++ leBytes 2 0x8000

/-- Whether the vector as stored is valid. -/
def floValid (outLevel : Nat) (f : FloVec) : Bool := floBytes outLevel f != leBytes 2 0x8000 ++ leBytes 2 0x8000

/-! Tile statistics (R346). A pixel is its class (0 valid, 1 invalid, 2 occluded) and its confidence. -/

/-- MEAN and INVFRAC of a set of pixels (R346). -/
def tileStats (ps : List (Nat × Nat)) : Nat × Nat :=
  let n := (ps.filter fun p => p.1 ≠ 2).length
  let inv := (ps.filter fun p => p.1 = 1).length
  if n = 0 then (255, 0) else ((ps.map (·.2)).sum / n, min 255 (256 * inv / n))

/-- The pixels of tile (i, j). -/
def tilePixels (px : List (List (Nat × Nat))) (i j : Nat) : List (Nat × Nat) :=
  ((px.drop (32 * j)).take 32).flatMap fun row => (row.drop (32 * i)).take 32

/-- The statistics plane: rows of (MEAN, INVFRAC). -/
def statsPlane (w h : Nat) (px : List (List (Nat × Nat))) : List (List (Nat × Nat)) :=
  (List.range ((h + 31) / 32)).map fun j => (List.range ((w + 31) / 32)).map fun i => tileStats (tilePixels px i j)

/-! Record layout (Table 8-3). -/

/-- A length rounded up to a multiple of 64. -/
def up64 (n : Nat) : Nat := (n + 63) / 64 * 64

/-- Bytes padded with zeros to a multiple of 64. -/
def pad64 (b : Bytes) : Bytes := b ++ List.replicate (up64 b.length - b.length) 0

/-- A plane of lines, each padded to its pitch (R314). -/
def planeBytes (lines : List Bytes) : Bytes := lines.flatMap pad64

/-- What follows the first 64 bytes of a record: pieces one behind the other, each with its poison (R308, R672). -/
abbrev Payload := List (Bytes × Bool)

/-- The bytes of a payload. -/
def Payload.bytes (l : Payload) : Bytes := l.flatMap (·.1)

/-- One of `n` bytes from offset `o` on belongs to a poisoned piece. -/
def Payload.bad : Payload → Nat → Nat → Bool
  | [], _, _ => false
  | (b, p) :: t, o, n => (p && decide (o < b.length) && decide (0 < n)) || Payload.bad t (o - b.length) (n - (b.length - o))

/-- The planes of a record, each line padded to its pitch, with the poison of its lines (R314). DEDUCED (log entry 106). -/
def planesPayload (l : List (List (Bytes × Bool))) : Payload := l.flatMap fun p => p.map fun x => (pad64 x.1, x.2)

/-- A record header (Table 6-5, R248). -/
structure RecHdr where
  typ : Nat
  node : Nat
  source : Nat
  route : Nat
  frameId : Nat
  exposure : Nat
  publish : Nat
  flags : Nat
  context : Nat
  confMean : Nat := 0
  confInvalid : Nat := 0

/-- The 32 header bytes of a record whose whole length is `len` (Table 6-5, R248). DEDUCED (log entry 107). -/
def RecHdr.bytes (h : RecHdr) (len : Nat) : Bytes :=
  leBytes 1 h.typ ++ leBytes 1 h.node ++ leBytes 2 (h.source % 4096 + 4096 * (h.route % 16)) ++ leBytes 4 h.frameId
  ++ leBytes 8 h.exposure ++ leBytes 8 h.publish ++ leBytes 2 h.flags ++ leBytes 1 h.context ++ leBytes 1 h.confMean
  ++ leBytes 1 h.confInvalid ++ leBytes 3 ((len - 32 + 63) / 64)

/-- The 32-byte descriptor of a stage record (Table 8-3). -/
def stageDesc (w h levelMask refFrame refExposure : Nat) : Bytes :=
  leBytes 2 w ++ leBytes 2 h ++ leBytes 2 levelMask ++ leBytes 2 0 ++ leBytes 4 refFrame ++ leBytes 4 0
  ++ leBytes 8 refExposure ++ leBytes 8 0

end Sys2Proof.Machine
end

