-- ==== Sys2Proof/Machine/StateCin.lean ====
section
/-! DEFINITION. State of camera ingest, the image pipes, the sensor buses and the stream switch. Each field's default is
its reset value. -/

namespace Sys2Proof.Machine

/-- A frame of a context from its frame-start event until its pipe has sent its last output (R277, R283). -/
structure CtxFrame where
  /-- the frame counter's value for it (R217) -/
  id : Nat := 0
  /-- GTC of the frame-start event (R273) -/
  start : Nat := 0
  /-- GTC_EXPOSURE (R275) -/
  exposure : Nat := 0
  /-- the active copy that governs it (R283) -/
  set : Bytes := []
  /-- lines delivered so far (CIN_CTX_LINES) -/
  arrived : Nat := 0
  /-- the lines its pipe has processed, line 0 first -/
  rows : List (List Nat) := []
  /-- which of them are poisoned (R277) -/
  rowPoison : List Bool := []
  /-- output lines sent (R282) -/
  emitted : Nat := 0
  /-- chroma lines that wait for the end of the luma lines: output 0 or 1, bytes, poison (Output formats) -/
  chroma : List (Nat × Bytes × Bool) := []
  /-- it has closed: whole (false) or short (true) (R278) -/
  closed : Option Bool := none
  /-- its rest is discarded after a full receive buffer (R277) -/
  cut : Bool := false
  /-- LONG_LINE so far (R277) -/
  longLine : Bool := false
  /-- EXTRA_LINES so far (R277) -/
  extraLines : Bool := false
  /-- the EXPO_SOURCE 0 rule was applied in place of a named FSYNC output (R276) -/
  fallback : Bool := false
  deriving DecidableEq, Repr, Inhabited

/-- A camera context (Table 7-8). -/
structure Ctx where
  /-- frame-start events since its CONTEXT record came into force (R217, CIN_CTX_FRAME); 32 bits; reset 0 -/
  events : Nat := 0
  /-- its frames, oldest first; the last one may be open -/
  frames : List CtxFrame := []
  /-- recent frame-start events for association: frame number, start, exposure, newest first (R218) -/
  recent : List (Nat × Nat × Nat) := []
  /-- the active copy (R283); reset empty -/
  active : Bytes := []
  /-- the shadow copy (R284); reset empty -/
  shadow : Bytes := []
  /-- the clock of the last write to the shadow (R285); model's own; reset none -/
  shadowAt : Option Nat := none
  /-- CIN_CTX_STAT.EXPO_FALLBACK of the last closed frame (Table 7-8, R276); 1 bit; DESIGN CHOICE 0 -/
  fallback : Bool := false
  /-- CIN_CTX_STAT.LONG_LINE of the last closed frame (Table 7-8); 1 bit; DESIGN CHOICE 0 -/
  longLine : Bool := false
  /-- CIN_CTX_STAT.EXTRA_LINES of the last closed frame (Table 7-8); 1 bit; DESIGN CHOICE 0 -/
  extraLines : Bool := false
  /-- CIN_CTX_SHORT, saturating (Table 7-8, R278); 32 bits; DESIGN CHOICE 0 -/
  short : Nat := 0
  /-- CIN_CTX_LINES, lines delivered in the last closed frame (Table 7-8); 32 bits; DESIGN CHOICE 0 -/
  lines : Nat := 0
  deriving DecidableEq, Repr, Inhabited

/-- A complete line waiting in a port's receive buffer (R280, R281). -/
structure WaitLine where
  ctx : Nat := 0
  /-- the frame it belongs to -/
  frame : Nat := 0
  /-- GTC of its last packet -/
  stamp : Nat := 0
  /-- its samples, padded or cut to WIDTH -/
  samples : List Nat := []
  poison : Bool := false
  /-- the bytes it occupies, packed as received -/
  size : Nat := 0
  deriving DecidableEq, Repr, Inhabited

/-- A camera port (Table 7-8). -/
structure Port where
  /-- CIN_PORT_STAT.HS_ACTIVE: a packet has arrived (Table 7-8); 1 bit; DESIGN CHOICE 0 -/
  hsActive : Bool := false
  /-- CIN_PORT_STAT.DESKEW_DONE (Table 7-8); 1 bit; DESIGN CHOICE 0 -/
  deskewDone : Bool := false
  /-- CIN_PORT_ERR.CRC, saturating (Table 7-8); 16 bits; DESIGN CHOICE 0 -/
  crc : Nat := 0
  /-- CIN_PORT_ERR.HDR, saturating (Table 7-8, R272); 16 bits; DESIGN CHOICE 0 -/
  hdr : Nat := 0
  /-- CIN_PORT_UNBOUND, saturating (Table 7-8, R270); 32 bits; DESIGN CHOICE 0 -/
  unbound : Nat := 0
  /-- CIN_PORT_OVF, saturating (Table 7-8, R277); 32 bits; DESIGN CHOICE 0 -/
  ovf : Nat := 0
  /-- the complete lines waiting in the 128 KiB receive buffer, in order of arrival -/
  waiting : List WaitLine := []
  deriving DecidableEq, Repr, Inhabited

/-- An image pipe (Table 7-8). -/
structure PipeSt where
  /-- ISP_PIPE_BACKLOG, largest number of waiting lines (Table 7-8); 32 bits; DESIGN CHOICE 0 -/
  backlog : Nat := 0
  deriving DecidableEq, Repr, Inhabited

/-- A sensor control bus (Table 7-9). -/
structure Scb where
  /-- CIN_SCB_STAT.BUSY and the transfer under way: target, read, length, rate (Table 7-9); DESIGN CHOICE none -/
  busy : Option (Nat × Bool × Nat × Nat) := none
  /-- CIN_SCB_STAT.NACK (Table 7-9); 1 bit; DESIGN CHOICE 0 -/
  nack : Bool := false
  /-- CIN_SCB_STAT.ARB_LOST (Table 7-9); 1 bit; DESIGN CHOICE 0 -/
  arbLost : Bool := false
  /-- CIN_SCB_STAT.DONE (Table 7-9); 1 bit; DESIGN CHOICE 0 -/
  done : Bool := false
  /-- the FIFO behind CIN_SCB_DATA, oldest first, at most 32 bytes (Table 7-9); DESIGN CHOICE empty -/
  fifo : Bytes := []
  deriving DecidableEq, Repr, Inhabited

/-- Camera ingest and the image pipes. -/
structure Cin where
  /-- the ports CAM0 to CAM15 (Table 7-8) -/
  ports : Vector Port 16 := Vector.replicate 16 {}
  /-- the camera contexts 0 to 63 (Table 7-8) -/
  ctxs : Vector Ctx 64 := Vector.replicate 64 {}
  /-- the image pipes (Table 7-8) -/
  pipes : Vector PipeSt 4 := Vector.replicate 4 {}
  /-- the sensor buses (Table 7-9) -/
  scb : Vector Scb 4 := Vector.replicate 4 {}
  deriving DecidableEq, Repr, Inhabited

/-- What a destination port of the stream switch holds (R239 to R241). -/
structure SwPort where
  /-- beats at the source, in the order sent, waiting for a credit -/
  waiting : List Beat := []
  /-- beats delivered and not yet consumed; each holds one credit (R241) -/
  held : List Beat := []
  /-- the beats of the line that a stage is taking in, consumed and their credits returned (R241) -/
  line : List Beat := []
  deriving DecidableEq, Repr, Inhabited

/-- The stream switch. -/
structure Sw where
  /-- the destination ports of Table 6-4; reset empty -/
  dst : Vector SwPort 48 := Vector.replicate 48 {}
  deriving DecidableEq, Repr, Inhabited

end Sys2Proof.Machine
end

