-- ==== Sys2Proof/Machine/StateEdge.lean ====
section
/-! DEFINITION. State of the board edge and of start-up: the TOP registers, the supplies and pins, the retention record,
the firmware slots, the recovery mailbox and the calibration status. Each field's default is its reset value; the
docstring gives the rule or table that names it. -/

namespace Sys2Proof.Machine

/-- TOP_MODE.BASE (Table 1-11). -/
inductive Base where
  | opened
  | confidential
  deriving DecidableEq, Repr, Inhabited

/-- The power profile (Table 1-5). -/
inductive Profile where
  | field
  | road
  | rack
  deriving DecidableEq, Repr, Inhabited

/-- The TOP block (Tables 1-10 to 1-13) and what a start-up in progress holds. DESIGN CHOICE (log entry 13). -/
structure Top where
  /-- TOP_ID.VARIANT is 0x4B, AEB-640K, and not 0x56 (Table 1-10); 1 bit; DESIGN CHOICE false -/
  variantK : Bool := false
  /-- TOP_MODE.BASE (Table 1-11, R27); 4 bits; reset 0x1 OPEN -/
  base : Base := .opened
  /-- TOP_MODE.SAFETY_ARMED (Table 1-11, R27); 1 bit; reset 0 -/
  armed : Bool := false
  /-- TOP_MODE.ECC_ON (Table 1-11, R30); 1 bit; reset 1 -/
  eccOn : Bool := true
  /-- TOP_STATUS.PROFILE (Table 1-12, R18); 3 bits; reset Road -/
  profile : Profile := .road
  /-- TOP_STATUS.RECOVERY (Table 1-12, R96); 1 bit; reset 0 -/
  recovery : Bool := false
  /-- TOP_STATUS.LAST_RESET (Table 1-12); 3 bits; reset 5 -/
  lastReset : BitVec 3 := 5
  /-- TOP_STATUS.GTC_SET (Table 1-12, R46); 1 bit; reset 0 -/
  gtcSet : Bool := false
  /-- TOP_STATUS.PROVISIONAL (Table 1-12, R105); 1 bit; reset 0 -/
  provisional : Bool := false
  /-- TOP_STATUS.READY (Table 1-12, R37); 1 bit; reset 0 -/
  ready : Bool := false
  /-- the level of the reset in progress, until READY or recovery ends it (R34); 3 bits; reset 5, the power-on reset (R33) -/
  resetting : Option (BitVec 3) := some 5
  /-- the firmware steps 1 to 4 of Table 3-2 are still to be done by the boot (R88); 1 bit; reset 1 -/
  bootPending : Bool := true
  /-- the GTC restarts in this start and is still to be loaded or cleared (R75, R76); 1 bit; reset 1 -/
  timePending : Bool := true
  /-- those steps start the safety firmware too: a level 5 reset, or none has started it yet (R88); 1 bit; reset 1 -/
  bootSaf : Bool := true
  /-- the management firmware runs: step 4 of Table 3-2 has been reached (R61); 1 bit; reset 0 -/
  mgtUp : Bool := false
  /-- no SEC firmware could be started, so the boot cannot end (Table 3-2 step 6); 1 bit; reset 0 -/
  bootBlocked : Bool := false
  /-- the clock at which recovery was entered (R119); model's own; reset none -/
  recoveryAt : Option Nat := none
  deriving DecidableEq, Repr, Inhabited

/-- The PWR block (Tables 2-9 to 2-12), the supplies and the input pins. DESIGN CHOICE (log entry 13). -/
structure Pwr where
  /-- PWR_STAT.GA, pins GA[2:0] (Table 2-9, R50); 3 bits; DESIGN CHOICE 0 -/
  ga : BitVec 3 := 0
  /-- PWR_STAT.MAIN_LOSS (Table 2-9, R57); 1 bit; reset 0 -/
  mainLoss : Bool := false
  /-- AUX_3V3 is present: at or above 3.135 V (R716); 1 bit; reset 1 -/
  auxGood : Bool := true
  /-- AUX_3V3 lies above 3.465 V, so PWR_STAT.AUX_GOOD reads 0 (Table 2-9, R716); 1 bit; DESIGN CHOICE 0 -/
  auxHigh : Bool := false
  /-- PWR_STAT.MAIN_GOOD (Table 2-9); 1 bit; reset 0 -/
  mainGood : Bool := false
  /-- PWR_RET_STAT.RUN_DIP (Table 2-10, R79); 1 bit; reset 0 -/
  runDip : Bool := false
  /-- PWR_RET_STAT.VBAT_ABSENT (Table 2-10, R77); 1 bit; reset 0 -/
  vbatAbsent : Bool := false
  /-- PWR_RET_STAT.VBAT_LOW (Table 2-10, R77); 1 bit; reset 0 -/
  vbatLow : Bool := false
  /-- PWR_RET_STAT.CRC_BAD (Table 2-10); 1 bit; reset 0 -/
  crcBad : Bool := false
  /-- PWR_RET_STAT.LOST (Table 2-10, R75); 1 bit; reset 0 -/
  lost : Bool := false
  /-- PWR_VMON.VBAT_MV (Table 2-11, R77); 16 bits; reset 0 -/
  vbatMv : BitVec 16 := 0
  /-- PWR_VMON.VIN_100MV (Table 2-11); 16 bits; reset 0 -/
  vin100 : BitVec 16 := 0
  /-- PWR_PIN_EN bits [19:0] (Table 2-12, R78); 20 bits; reset 0 -/
  pinEn : BitVec 20 := 0
  /-- outputs whose enable was withdrawn in mid-pulse and which finish that pulse, as PWR_PIN_EN numbers them (R80); 20 bits; reset 0 -/
  finishing : BitVec 20 := 0
  /-- the period in 0.125 ns of the FREQ_OUT whose high half is finishing (R80); model's own; reset 0 -/
  finishPeriod : Nat := 0
  /-- 48V_IN is above its rising lockout (R52, R55); 1 bit; DESIGN CHOICE true -/
  vinGood : Bool := true
  /-- 48V_IN in mV as last seen (R55); model's own; DESIGN CHOICE 48,000 -/
  vinMv : Nat := 48000
  /-- the main power loss came from a rise above 63 V (R55); 1 bit; reset 0 -/
  vinOver : Bool := false
  /-- the clock at which AUX_3V3 came within range (R52); model's own; reset 0 -/
  auxAt : Nat := 0
  /-- the main converters have started (Table 2-5 step 2); 1 bit; reset 0 -/
  converters : Bool := false
  /-- the clock at which PWR_STAT.MAIN_GOOD became 1 (R87); model's own; reset 0 -/
  mainGoodAt : Nat := 0
  /-- the clock of the last VBAT measurement (R77); model's own; reset 0 -/
  vbatAt : Nat := 0
  /-- PERST_N is asserted (R59, R715); 1 bit; PRESUMED true -/
  perst : Bool := true
  /-- BRD_RST_N is asserted (R715); 1 bit; DESIGN CHOICE false -/
  brdRst : Bool := false
  /-- main power was lost since the last start, so TMG was held in reset (R75); 1 bit; reset 0 -/
  mainWasLost : Bool := false
  deriving DecidableEq, Repr, Inhabited

/-- The retention record (Table 2-8). -/
structure RetRecord where
  /-- the timekeeping counter in nanoseconds, at `alignedAt` (Table 2-8, R76); 64 bits; reset 0 -/
  counter : Nat := 0
  /-- the clock of the last GTC alignment (Table 2-8); model's own; reset 0 -/
  alignedAt : Nat := 0
  /-- GTC_SET at the last alignment (Table 2-8, R76); 1 bit; reset 0 -/
  gtcSet : Bool := false
  /-- holdover history: temperature record, newest first, in 1/16 K (Table 2-8, R522); reset empty -/
  temps : List Int := []
  /-- holdover history: the ageing fit's hourly means, newest first (Table 2-8, R522); reset empty -/
  ageing : List (Nat × Int) := []
  /-- boot state scratch, 256 bytes (Table 2-8); reset empty, which reads as zeros -/
  scratch : Bytes := []
  /-- last power-loss record: cause (Table 2-8); reset 0 -/
  lossCause : Nat := 0
  /-- last power-loss record: GTC (Table 2-8); 64 bits; reset 0 -/
  lossGtc : Nat := 0
  /-- last power-loss record: V_RET minimum seen while running, mV (Table 2-8); reset 0 -/
  vretMin : Nat := 0
  /-- ledger position: the last SEQ written to NOR (R694); 32 bits; reset 0xFFFF_FFFF, none -/
  lastNorSeq : U32 := 0xFFFFFFFF
  /-- ledger position: the next SEQ to assign (R694); 32 bits; reset 0 -/
  nextSeq : U32 := 0
  /-- the record is valid: its CRC-32 matches what it holds (Table 2-8, R79); 1 bit; reset 0 -/
  valid : Bool := false
  deriving DecidableEq, Repr, Inhabited

/-- The retention domain. -/
structure Ret where
  /-- PWR_RET_STAT.LATCH, the loss latch (Table 2-10, R71 to R73); 1 bit; reset 1 -/
  latch : Bool := true
  /-- the retention record (Table 2-8); reset as its fields say -/
  record : RetRecord := {}
  deriving DecidableEq, Repr, Inhabited

/-- One component's entry of the boot control record (R89 to R102). DESIGN CHOICE (log entry 14). -/
structure BootCtl where
  /-- the active slot: false A, true B (R93); 1 bit; DESIGN CHOICE A -/
  active : Bool := false
  /-- the component has a trial mark: its inactive slot is the trial slot (R89); 1 bit; reset 0 -/
  trial : Bool := false
  /-- trial attempts left (R90, R91); 2 bits; reset 0 -/
  attempts : Nat := 0
  /-- a pending burn and its target (R102); 6 bits; reset none -/
  burn : Option Nat := none
  deriving DecidableEq, Repr, Inhabited

/-- One copy of the boot control record with its sequence number (R98). -/
structure BootCopy where
  /-- sequence number of the copy (R98); reset 0 -/
  seq : Nat := 0
  /-- the copy's CRC-32 matches (R98); 1 bit; reset 1 -/
  crcOk : Bool := true
  /-- the entries of Stage-1, MGT, SAF and SEC (R89); reset as their fields say -/
  comp : Vector BootCtl 4 := Vector.replicate 4 {}
  deriving DecidableEq, Repr, Inhabited

/-- The firmware actions of MGT_FW_CTL (Table 3-10). -/
inductive FwAction where
  | markTrial
  | commit
  | cancelTrial
  | burnSvn
  deriving DecidableEq, Repr, Inhabited

/-- Firmware slots, fuses and the MGT firmware registers. DESIGN CHOICE (log entry 14). -/
structure Fw where
  /-- BOOTCTL copy 0 (Table 3-6, R98); reset as its fields say -/
  copy0 : BootCopy := {}
  /-- BOOTCTL copy 1 (Table 3-6, R98); reset as its fields say -/
  copy1 : BootCopy := {}
  /-- fuse counters of Stage-1, MGT, SAF and SEC, thermometer counts 0 to 63 (R99, R100); 4 × 63 bits; DESIGN CHOICE 0 -/
  svn : Vector (Fin 64) 4 := Vector.replicate 4 0
  /-- MGT_BOOT_STAT.FALLBACK, one bit per component (Table 3-9); 4 bits; reset 0 -/
  fallback : BitVec 4 := 0
  /-- MGT_BOOT_STAT.TRIAL (Table 3-9); 4 bits; reset 0 -/
  trialBoot : BitVec 4 := 0
  /-- MGT_BOOT_STAT.SLOT: the slot each component booted from (Table 3-9); 4 bits; reset 0 -/
  slot : BitVec 4 := 0
  /-- MGT_BOOT_STAT.SAF_ROM_ONLY (Table 3-9, R97); 1 bit; reset 0 -/
  safRomOnly : Bool := false
  /-- MGT_BOOT_STAT.PENDING_BURN (Table 3-9, R102); 1 bit; reset 0 -/
  pendingBurn : Bool := false
  /-- MGT_FW_RESULT.CODE (Table 3-11, R118); 4 bits; reset 0 -/
  code : BitVec 4 := 0
  /-- MGT_FW_RESULT.BUSY and the action in progress with its component (Table 3-11); reset none -/
  busy : Option (FwAction × Fin 4) := none
  /-- MGT_COMPAT_STAT.OVR_MISMATCH (Table 3-13, R109); 1 bit; reset 0 -/
  ovrMismatch : Bool := false
  /-- MGT_COMPAT_STAT.OVERRIDE (Table 3-13, R108); 1 bit; reset 0 -/
  override : Bool := false
  /-- MGT_COMPAT_STAT.PAIRS (Table 3-13, R105); 15 bits; reset 0 -/
  pairs : BitVec 15 := 0
  /-- the images that run: Stage-1, MGT, SAF, SEC; empty where none was started (R105, Table 13-7); reset none -/
  running : Vector Bytes 4 := Vector.replicate 4 []
  /-- the NOR flash of Table 3-6 but for BOOTCTL and LOG, which stand in fields of their own; 128 MiB; DESIGN CHOICE erased, 0xFF -/
  nor : List Host.Cell := []
  deriving DecidableEq, Repr, Inhabited

/-- STATE of MGT_REC_STAT (Table 3-15). -/
inductive RecState where
  | idle
  | receiving
  | verifying
  | writing
  | failed
  deriving DecidableEq, Repr, Inhabited

/-- The recovery mailbox (Table 3-15). -/
structure Recov where
  /-- MGT_REC_STAT.STATE (Table 3-15); 4 bits; reset IDLE -/
  st : RecState := .idle
  /-- MGT_REC_STAT.CAUSE (Table 3-15); 2 bits; reset 0 -/
  cause : BitVec 2 := 0
  /-- MGT_REC_STAT.COMP of the present or last action (Table 3-15); 2 bits; reset 0 -/
  comp : BitVec 2 := 0
  /-- MGT_REC_STAT.RESULT (Table 3-15, R120); 4 bits; reset 0 -/
  result : BitVec 4 := 0
  /-- MGT_REC_LEN (Table 3-15); 32 bits; reset 0 -/
  len : U32 := 0
  /-- MGT_REC_WIN, the 4 MiB image buffer (Table 3-15, R120); reset empty, which reads as zeros -/
  win : List Host.Cell := []
  /-- a RUN is being verified, and not a PROGRAM (R120); 1 bit; reset 0 -/
  running : Bool := false
  deriving DecidableEq, Repr, Inhabited

/-- Calibration: MGT_CAL_STAT (Table 3-14) and the deltas in force. -/
structure Cal where
  /-- MGT_CAL_STAT.CLAMPED (Table 3-14, R112); 11 bits; reset 0 -/
  clamped : Nat := 0
  /-- MGT_CAL_STAT.FACTORY_BAD (Table 3-14, R116); 1 bit; reset 0 -/
  factoryBad : Bool := false
  /-- MGT_CAL_STAT.USER_REJECTED (Table 3-14, R113); 1 bit; reset 0 -/
  userRejected : Bool := false
  /-- MGT_CAL_STAT.USER_IN_FORCE (Table 3-14); 1 bit; reset 0 -/
  userInForce : Bool := false
  /-- the user deltas in force, clamped: item, instance, delta (R111, R114); reset none -/
  deltas : List (Nat × Nat × Int) := []
  /-- the user block in force, for its digest (R115); reset none -/
  block : Bytes := []
  deriving DecidableEq, Repr, Inhabited

end Sys2Proof.Machine
end

