-- ==== Sys2Proof/Machine/StateHost.lean ====
section
/-! DEFINITION. State of the host interface: queues, commands in flight, partition registers, the HIF DMA, sealing and
message engines. Each field's default is its reset value. -/

namespace Sys2Proof.Machine

/-- What Table 4-2 made of a fetched descriptor. -/
inductive CmdKind where
  | execute
  | duplicate
  | stale
  deriving DecidableEq, Repr, Inhabited

/-- A fetched descriptor whose completion has not been posted. -/
structure Cmd where
  /-- the descriptor, 64 bytes (Table 4-4) -/
  desc : Bytes := []
  /-- its outcome under Table 4-2 -/
  kind : CmdKind := .execute
  /-- it has started (R136) -/
  begun : Bool := false
  /-- its effect is under way or done: the STATUS, DETAIL and SOURCE it completes with (Table 4-3) -/
  outcome : Option (Nat × Nat × Nat) := none
  /-- its status is fixed: its last effect has taken place (R680) -/
  fixed : Bool := false
  /-- part of its output holds poisoned data (R676) -/
  poisoned : Bool := false
  /-- part of its effect was lost (R677) -/
  lost : Bool := false
  /-- for a FENCE: per queue of the mask, the count of descriptors its doorbells had made visible at the fetch (R138) -/
  waits : List (Nat × Nat) := []
  /-- the lines of a remote source that have arrived: address, bytes, poison (R472) -/
  got : List (Nat × Bytes × Bool) := []
  /-- the position of the descriptor, counted over the life of the queue -/
  pos : Nat := 0
  deriving DecidableEq, Repr, Inhabited

/-- A completion that a partition reset left to report (R164): its sequence number, whether Table 4-2 executes the descriptor (R129), and
the source number it carries (R132). -/
structure Aborted where
  seq : Nat := 0
  executed : Bool := true
  source : Nat := 0
  /-- FLAGS.NO_IRQ of its descriptor (Table 4-4) -/
  noIrq : Bool := false
  deriving DecidableEq, Repr, Inhabited

/-- STATE of Q_STAT (Table 4-10). -/
inductive QState where
  | disabled
  | running
  | halted
  | postingAborts
  deriving DecidableEq, Repr, Inhabited

/-- One queue block (Table 4-8) and the queue behind it. -/
structure Queue where
  /-- Q_SQ_BASE (Table 4-8); 64 bits; DESIGN CHOICE 0 -/
  sqBase : U64 := 0
  /-- Q_CQ_BASE (Table 4-8); 64 bits; DESIGN CHOICE 0 -/
  cqBase : U64 := 0
  /-- Q_HIST_BASE (Table 4-8); 64 bits; DESIGN CHOICE 0 -/
  histBase : U64 := 0
  /-- Q_CTL.ENABLE (Table 4-9); 1 bit; reset 0 -/
  enable : Bool := false
  /-- Q_CTL.SAFETY (Table 4-9, R159); 1 bit; reset 0 -/
  safety : Bool := false
  /-- Q_CTL.VECTOR (Table 4-9); 6 bits; reset 0 -/
  vector : BitVec 6 := 0
  /-- Q_CTL.SIZE_LOG2 (Table 4-9, R162); 4 bits; reset 0 -/
  sizeLog2 : Nat := 0
  /-- Q_SEQ_INIT (Table 4-8); 32 bits; DESIGN CHOICE 0 -/
  seqInit : U32 := 0
  /-- Q_STAT.STATE (Table 4-10); 8 bits; reset DISABLED -/
  st : QState := .disabled
  /-- Q_STAT.ERROR (Table 4-10); 8 bits; reset 0 -/
  error : Nat := 0
  /-- Q_ABORT_FIRST (Table 4-8, R164); 32 bits; DESIGN CHOICE 0 -/
  abortFirst : U32 := 0
  /-- Q_ABORT_COUNT (Table 4-8, R164); 17 bits; DESIGN CHOICE 0 -/
  abortCount : Nat := 0
  /-- the aborted completions that Q_ABORT_FIRST and Q_ABORT_COUNT announce and that have not been posted, in SQ order (R164); reset none -/
  aborts : List Aborted := []
  /-- Q_COAL.COUNT (Table 4-8, R149); 8 bits; DESIGN CHOICE 0 -/
  coalCount : Nat := 0
  /-- Q_COAL.TIME in µs (Table 4-8, R149); 10 bits; DESIGN CHOICE 0 -/
  coalTime : Nat := 0
  /-- Q_NEXT_SEQ, the expected sequence number E (Table 4-8, R128); 32 bits; DESIGN CHOICE 0 -/
  e : U32 := 0
  /-- descriptors accepted since the queue was enabled (Table 4-2); reset 0 -/
  accepted : Nat := 0
  /-- SQ head (R161); 16 bits; reset 0 -/
  sqHead : Nat := 0
  /-- SQ tail as the doorbell last set it; 16 bits; reset 0 -/
  sqTail : Nat := 0
  /-- CQ head as the doorbell last set it; 16 bits; reset 0 -/
  cqHead : Nat := 0
  /-- CQ tail (R161); 16 bits; reset 0 -/
  cqTail : Nat := 0
  /-- PHASE of the present pass through the CQ (R124); 1 bit; reset 1 -/
  phase : Bool := true
  /-- the fetched commands not yet posted, in SQ order (R133); reset none -/
  cmds : List Cmd := []
  /-- descriptors made visible by doorbells over the life of the queue (R138); reset 0 -/
  rung : Nat := 0
  /-- descriptors fetched over the life of the queue; reset 0 -/
  fetched : Nat := 0
  /-- completions that have left the queue over its life, in positions (R138); reset 0 -/
  posted : Nat := 0
  /-- the status bytes the board has written to the history region since the enable (R129), by S mod 65,536; reset none -/
  hist : List (Nat × Nat) := []
  /-- completions posted since the last MSI-X message (R149); reset 0 -/
  coalPosted : Nat := 0
  /-- the clock of the first of them (R149); model's own; reset none -/
  coalSince : Option Nat := none
  deriving DecidableEq, Repr, Inhabited

/-- A telemetry ring (R699 to R701). -/
structure TelRing where
  /-- host address of the ring (R699) -/
  addr : Nat := 0
  /-- its size in bytes (R699) -/
  size : Nat := 4096
  /-- WR_OFF (R699) -/
  wrOff : Nat := 0
  /-- SAMPLE of the next record (Table 15-6) -/
  sample : Nat := 0
  /-- the interval it was last sampled for: the value of `Bg.telAt` (R700); model's own -/
  sampledAt : Nat := 0
  /-- records dropped since the last record (R700) -/
  dropped : Nat := 0
  deriving DecidableEq, Repr, Inhabited

/-- The TDISP state of a VF's TDI (R577 to R580). -/
inductive Tdi where
  | configUnlocked
  | configLocked
  | run
  | error
  deriving DecidableEq, Repr, Inhabited

/-- One function's registers (Tables 4-7, 4-11). -/
structure Fn where
  /-- PART_EVT_CAUSE, one bit per class of Table 4-6 (Table 4-7); 8 bits; DESIGN CHOICE 0 -/
  cause : BitVec 8 := 0
  /-- PART_EVT_VEC0 (Table 4-7); 32 bits; DESIGN CHOICE 0 -/
  vec0 : U32 := 0
  /-- PART_EVT_VEC1 (Table 4-7); 32 bits; DESIGN CHOICE 0 -/
  vec1 : U32 := 0
  /-- PART_STAT.RESET_DONE (Table 4-11); 1 bit; reset 1 -/
  resetDone : Bool := true
  /-- the partition's routes still to stop in its reset (Table 4-13 step 3) and the clock of the FLR; model's own; reset none -/
  flrAt : Option Nat := none
  /-- the TDI's TDISP state (R577); reset CONFIG_UNLOCKED -/
  tdi : Tdi := .configUnlocked
  /-- the telemetry ring in use (R699); reset none -/
  ring : Option TelRing := none
  /-- the MSI-X table of BAR2, 64 entries of 16 bytes: what has been written, XOR the reset values; PRESUMED, as the PCI Express
  Base specification resets it: every vector masked, all else 0 -/
  msix : List Host.Cell := []
  /-- MSI-X events awaiting their turn: stamp, source, class (R148); reset none -/
  events : List (Nat × Nat × Nat) := []
  deriving DecidableEq, Repr, Inhabited

/-- Work waiting for an engine or running on it: whose it is and how much is left. -/
structure Job where
  /-- the partition (R150) -/
  part : Nat := 0
  /-- the queue -/
  queue : Nat := 0
  /-- the command's sequence number -/
  seq : Nat := 0
  /-- bytes of the message or transfer still to run (R154, R157) -/
  left : Nat := 0
  /-- a safety-class request (R156) -/
  safety : Bool := false
  deriving DecidableEq, Repr, Inhabited

/-- An arbitrated engine: a HIF DMA engine, a sealing engine or a Lanicy message engine (R153 to R157). -/
structure Engine where
  /-- the message or chunk run now -/
  cur : Option Job := none
  /-- the interrupted message whose context is saved (R156) -/
  saved : Option Job := none
  /-- what waits, oldest first -/
  waiting : List Job := []
  /-- the service each partition has had, in bytes (R155) -/
  service : List (Nat × Nat) := []
  /-- the clock at which its present 4 KiB chunk started (R156); model's own; reset 0 -/
  chunkAt : Nat := 0
  deriving DecidableEq, Repr, Inhabited

/-- The host interface. -/
structure Hif where
  /-- the queues, keyed by 64 × function + queue; a queue not listed is at its reset values; reset none -/
  queues : List (Nat × Queue) := []
  /-- the functions' registers (Table 4-7); reset as their fields say -/
  fns : Vector Fn 16 := Vector.replicate 16 {}
  /-- the HIF DMA engines (R157); reset idle -/
  dma : Vector Engine 8 := Vector.replicate 8 {}
  /-- the four sealing engines (R153); reset idle -/
  sealing : Vector Engine 4 := Vector.replicate 4 {}
  /-- the eight Lanicy message engines (R153); reset idle -/
  message : Vector Engine 8 := Vector.replicate 8 {}
  /-- VFs the SR-IOV capability exposes (R121), bit per function; 16 bits; reset 0 -/
  vfs : BitVec 16 := 0
  /-- the link may train: PERST_N was deasserted (R60, R715); 1 bit; reset 0 -/
  linkUp : Bool := false
  deriving DecidableEq, Repr, Inhabited

end Sys2Proof.Machine
end

