-- ==== Sys2Proof/Machine/StateImg.lean ====
section
/-! DEFINITION. State of the structure images and of the route sequencer. Each field's default is its reset value. -/

namespace Sys2Proof.Machine

/-- A section of the structure in force (R181 to R188): its records, raw, in order, and its digest. -/
structure Section where
  /-- a section of this type is in force (R187) -/
  inForce : Bool := false
  /-- its records, each whole, in the order in which they stand or were added (R181, R182) -/
  recs : List Bytes := []
  /-- its digest (R186); empty stands for the 48 zero bytes of R187 -/
  digest : Bytes := []
  deriving DecidableEq, Repr, Inhabited

/-- The apply points of IMAGE_APPLY (Table 4-5). -/
inductive ApplyPoint where
  | immediate
  | frame
  | switch
  deriving DecidableEq, Repr, Inhabited

/-- SLOTn of TOP_IMG_SLOT (Table 5-20). -/
inductive SlotState where
  | empty
  | loaded
  | validating
  | pendingFrame
  | pendingSwitch
  deriving DecidableEq, Repr, Inhabited

/-- The apply under way on an image slot, and the command that asked for it. -/
structure Apply where
  /-- the function that issued the IMAGE_APPLY -/
  part : Nat := 0
  /-- its queue -/
  queue : Nat := 0
  /-- its position in that queue -/
  pos : Nat := 0
  /-- the apply point -/
  point : ApplyPoint := .immediate
  /-- the route slot of a FRAME apply -/
  route : Nat := 0
  /-- validation has passed (R193) -/
  validated : Bool := false
  /-- a FRAME apply is at a boundary of its route, still to be decided: its window is met (true) or missed (R198, R204) -/
  window : Option Bool := none
  /-- the structure that results, by section type; for FRAME the records of the image alone -/
  staged : List (Nat × List Bytes) := []
  deriving DecidableEq, Repr, Inhabited

/-- An image slot (Table 5-1, R185). -/
structure ImgSlot where
  /-- SLOTn (Table 5-20); 4 bits; reset EMPTY -/
  st : SlotState := .empty
  /-- the image as loaded -/
  image : Bytes := []
  /-- the load completed (Table 5-17, 0x69) -/
  complete : Bool := false
  /-- the apply under way (R205) -/
  apply : Option Apply := none
  deriving DecidableEq, Repr, Inhabited

/-- Structural records deleted while busy, still held (R203). -/
structure Held where
  /-- the route whose apply deleted the record -/
  route : Nat := 0
  /-- the record -/
  recd : Bytes := []
  deriving DecidableEq, Repr, Inhabited

/-- Image slots, the structure in force and the TOP_IMG registers. -/
structure Img where
  /-- the eight image slots (Table 5-20, R188); reset EMPTY -/
  slots : Vector ImgSlot 8 := Vector.replicate 8 {}
  /-- the structure in force: BOARD, SAFETY, PARTITIONS, LOCALSTORE, STREAMS, ROUTES, STAGES, CAMERA, NEURAL (Table 5-4, R188); reset none in force -/
  sect : Vector Section 9 := Vector.replicate 9 {}
  /-- busy structural records whose deletion waits (R203); reset none -/
  held : List Held := []
  /-- TOP_IMG_GEN.GEN (Table 5-18); 32 bits; reset 0 -/
  gen : U32 := 0
  /-- TOP_IMG_LAST.REASON (Table 5-19); 8 bits; reset 0 -/
  lastReason : Nat := 0
  /-- TOP_IMG_LAST.SLOT (Table 5-19); 3 bits; reset 0 -/
  lastSlot : Nat := 0
  /-- TOP_IMG_LAST.PART (Table 5-19); 4 bits; reset 0 -/
  lastPart : Nat := 0
  /-- TOP_IMG_MISS.LAST_ROUTE (Table 5-21); 4 bits; reset 0 -/
  missRoute : Nat := 0
  /-- TOP_IMG_MISS.COUNT, saturating at 0xFFFF (Table 5-21); 16 bits; reset 0 -/
  missCount : Nat := 0
  deriving DecidableEq, Repr, Inhabited

/-- STATE of RSQ_ROUTE_STAT (Table 6-8). -/
inductive RouteSt where
  | empty
  | ready
  | starting
  | running
  | stopping
  | faulted
  deriving DecidableEq, Repr, Inhabited

/-- A node of a frame. -/
inductive NodeSt where
  | waiting
  | running
  | ended
  deriving DecidableEq, Repr, Inhabited

/-- One node of one frame, with the configuration under which it was dispatched (R199). -/
structure NodeRun where
  /-- node number -/
  node : Nat := 0
  /-- how far it is -/
  st : NodeSt := .waiting
  /-- its engine's source number, as dispatched -/
  engine : Nat := 0
  /-- GTC of the dispatch -/
  at_ : Nat := 0
  /-- the clock of the dispatch -/
  clk : Nat := 0
  /-- its BUDGET in µs, as dispatched (R234) -/
  budget : Nat := 0
  /-- its overrun has been counted (R234) -/
  over_ : Bool := false
  /-- its NODE record, as dispatched -/
  recd : Bytes := []
  /-- the tasting run before its own work has not ended (R632) -/
  tasting : Bool := false
  /-- for each cellar-window output, the next 64-byte boundary after its last record of the frame (R252) -/
  tails : List Nat := []
  deriving DecidableEq, Repr, Inhabited

/-- A frame of a route from its boundary to its FRAME_DONE. DEDUCED (log entry 96). -/
structure Frame where
  /-- FRAME_ID (R217) -/
  id : Nat := 0
  /-- GTC of the frame-start event (R216) -/
  start : Nat := 0
  /-- exposure start of the trigger's frame (Table 6-5) -/
  exposure : Nat := 0
  /-- contexts of CONTEXTS whose frame has been associated: context, its frame number and exposure start (R218) -/
  ctxs : List (Nat × Nat × Nat) := []
  /-- the nodes -/
  nodes : List NodeRun := []
  /-- NODES_LATE (R232) -/
  late : Nat := 0
  /-- abandoned with this skip reason (R223, R219) -/
  abandoned : Option Nat := none
  /-- stopped by a forced stop (R262) -/
  aborted : Bool := false
  /-- it read poisoned data (R258) -/
  poisoned : Bool := false
  /-- an effect of it was lost (R254) -/
  uncorrected : Bool := false
  /-- a deadline miss was counted (R255) -/
  missed : Bool := false
  /-- a tasting run of it failed -/
  tastingFail : Bool := false
  /-- contexts missing from the association window (Table 6-7) -/
  missing : Nat := 0
  /-- the FRAME apply at its boundary has been decided (R200) -/
  swapDone : Bool := true
  /-- the structure of its nodes, once a later frame's swap has replaced it in force (R198, R199); reset none -/
  cfg : Option (List (Option (List Bytes))) := none
  deriving DecidableEq, Repr, Inhabited

/-- A route slot (Table 6-9). -/
structure Route where
  /-- RSQ_ROUTE_STAT.STATE (Table 6-8); 4 bits; reset EMPTY -/
  st : RouteSt := .empty
  /-- RSQ_ROUTE_STAT.FAULT (Table 6-10); 8 bits; reset 0 -/
  fault : Nat := 0
  /-- the frames in flight and the abandoned frames not yet published, oldest first (R220) -/
  frames : List Frame := []
  /-- of the last 256 boundaries, newest first: the frame ID, and was it skipped (R226) -/
  skips256 : List (Nat × Bool) := []
  /-- RSQ_ROUTE_STAT.DECIMATING and the boundaries since decimation was entered (R222); reset none -/
  decimating : Option Nat := none
  /-- RSQ_ROUTE_FRAME (Table 6-9); 32 bits; DESIGN CHOICE 0 -/
  lastAdmitted : U32 := 0
  /-- RSQ_ROUTE_DONE (Table 6-9); 32 bits; DESIGN CHOICE 0 -/
  lastRetired : U32 := 0
  /-- RSQ_ROUTE_SKIPS, saturating (Table 6-9); 32 bits; DESIGN CHOICE 0 -/
  skips : Nat := 0
  /-- RSQ_ROUTE_MISSES, saturating (Table 6-9); 32 bits; DESIGN CHOICE 0 -/
  misses : Nat := 0
  /-- RSQ_ROUTE_LAT in µs (Table 6-9); 32 bits; DESIGN CHOICE 0 -/
  lat : Nat := 0
  /-- RSQ_ROUTE_LATE, saturating (Table 6-9); 32 bits; DESIGN CHOICE 0 -/
  late : Nat := 0
  /-- RSQ_ROUTE_OVR.COUNT, saturating at 0xFFFF (Table 6-11); 16 bits; reset 0 -/
  ovrCount : Nat := 0
  /-- RSQ_ROUTE_OVR.LAST_NODE (Table 6-11); 6 bits; reset 0 -/
  ovrNode : Nat := 0
  /-- a forced stop is in progress (R262), and not a stop at the boundary (R261) -/
  forced : Bool := false
  /-- the stop ends in FAULTED (R265) -/
  faulting : Bool := false
  /-- the largest LATENCY and the misses since the last telemetry sample (Table 15-6) -/
  telLat : Nat := 0
  /-- deadline misses since the last telemetry sample (Table 15-6) -/
  telMisses : Nat := 0
  deriving DecidableEq, Repr, Inhabited

/-- The route sequencer. -/
structure Rsq where
  /-- the sixteen route slots (Table 6-9); reset EMPTY -/
  routes : Vector Route 16 := Vector.replicate 16 {}
  /-- RSQ_SLOT_STAT.ACTIVE and the GTC at which the slot cycle began (R243, Table 6-12); reset none -/
  cycleAt : Option Nat := none
  /-- RSQ_SLOT_STAT.ANCHOR (Table 6-12); 4 bits; reset 0 -/
  anchor : Nat := 0
  /-- RSQ_SLOT_STAT.INTRUSIONS, saturating (Table 6-12); 16 bits; reset 0 -/
  intrusions : Nat := 0
  /-- reserved slots open now: route and index (R242) -/
  openSlots : List (Nat × Nat) := []
  /-- the time each partition has had on each stage and core outside reserved slots, in ns, by 16 × engine + partition (R150);
  model's own; reset none -/
  service : List (Nat × Nat) := []
  deriving DecidableEq, Repr, Inhabited

end Sys2Proof.Machine
end

