-- ==== Sys2Proof/Machine/StateLog.lean ====
section
/-! DEFINITION. State of the event ledger and of the background work. Each field's default is its reset value. -/

namespace Sys2Proof.Machine

/-- A ledger entry (Table 15-3). -/
structure LogEntry where
  /-- GTC at the event (R23); 64 bits -/
  gtc : Nat := 0
  /-- SOURCE (R26); 12 bits -/
  source : Nat := 0
  /-- CLASS (Table 15-2); 3 bits -/
  cls : Nat := 0
  /-- CODE (Table 15-4); 16 bits -/
  code : Nat := 0
  /-- PART; 8 bits -/
  part : Nat := 0
  /-- FLAGS.TENANT (R687) -/
  tenant : Bool := false
  /-- FLAGS.GAP_BEFORE (R692) -/
  gapBefore : Bool := false
  /-- FLAGS.COALESCED_FROM (R690) -/
  coalesced : Bool := false
  /-- FLAGS.LATE (R688) -/
  late : Bool := false
  /-- STEPS: GTC steps in this boot before the event; 16 bits -/
  steps : Nat := 0
  /-- SEQ (R686); 32 bits -/
  seq : U32 := 0
  /-- BOOT; 32 bits -/
  boot : U32 := 0
  /-- the partitions whose routes the source was running at the event, bit per partition (R687, R698); model's own -/
  ran : Nat := 0
  /-- ARG0 to ARG4, 64 bits each; missing ones are 0 -/
  args : List Nat := []
  deriving DecidableEq, Repr, Inhabited

/-- What R690 counts of one PART of a (source, CODE) pair in the present GTC second. -/
structure Coal where
  part : Nat := 0
  cls : Nat := 0
  count : Nat := 0
  first : Nat := 0
  last : Nat := 0
  tenant : Bool := false
  deriving DecidableEq, Repr, Inhabited

/-- The rate limit of one (source, CODE) pair (R690). -/
structure Rate where
  source : Nat := 0
  code : Nat := 0
  written : Nat := 0
  rest : List Coal := []
  deriving DecidableEq, Repr, Inhabited

/-- The event ledger. DESIGN CHOICE (log entries 14, 94). -/
structure Log where
  /-- the reorder stage, in order of arrival (R688); reset empty -/
  reorder : List LogEntry := []
  /-- the on-die buffer, oldest first, at most 8,192 entries (R691, R694); reset empty -/
  buf : List LogEntry := []
  /-- the NOR LOG partition's entries, oldest first (R693); reset empty -/
  nor : List LogEntry := []
  /-- LOG_SEQ, the next SEQ (Table 15-8, R686); 32 bits; DESIGN CHOICE 0 -/
  seq : U32 := 0
  /-- LOG_BOOT, the present BOOT (Table 15-8); 32 bits; DESIGN CHOICE 0 -/
  boot : U32 := 0
  /-- LOG_LOST, saturating (Table 15-8, R692); 32 bits; DESIGN CHOICE 0 -/
  lost : Nat := 0
  /-- LOG_COALESCED, saturating (Table 15-8); 32 bits; DESIGN CHOICE 0 -/
  coalesced : Nat := 0
  /-- GTC steps in this boot (Table 15-3 STEPS); 16 bits; reset 0 -/
  steps : Nat := 0
  /-- the rate limits of the present GTC second (R690); reset none -/
  rates : List Rate := []
  /-- the present GTC second (R690); model's own; reset 0 -/
  second : Nat := 0
  /-- losses not yet reported: first lost SEQ, count, highest class (R692); reset none -/
  gap : Option (Nat × Nat × Nat) := none
  /-- the next entry written carries GAP_BEFORE (R692); 1 bit; reset 0 -/
  gapMark : Bool := false
  /-- the entry last appended, for FLAGS.LATE (R688); reset none -/
  last : Option LogEntry := none
  /-- the NOR sector at the write point (R693); 0 to 1,727; DESIGN CHOICE 0 -/
  sector : Nat := 0
  /-- entries written to the sector at the write point; 0 to 1,024; DESIGN CHOICE 0 -/
  fill : Nat := 0
  /-- retired sectors (R693, MGT_NOR_WEAR [31:24]); DESIGN CHOICE none -/
  retired : List Nat := []
  /-- erase counts of the LOG sectors (MGT_NOR_WEAR [23:0]); DESIGN CHOICE 0 each -/
  erases : List (Nat × Nat) := []
  /-- AUX_3V3 was lost since the last boot, so the next boot writes LEDGER_GAP (R694); 1 bit; reset 0 -/
  auxLost : Bool := false
  deriving DecidableEq, Repr, Inhabited

/-- Background work (Table 15-7, Table 15-8). -/
structure Bg where
  /-- MGT_BG_CTL.PATROL_HOURS (Table 15-8, R711); 8 bits; reset 24 -/
  patrolHours : Nat := 24
  /-- PATROL_HOURS of the present pass (R711); 8 bits; reset 24 -/
  passHours : Nat := 24
  /-- MGT_BG_CTL.SRAM_SCRUB in s (Table 15-8, R711); 8 bits; reset 10 -/
  sramScrub : Nat := 10
  /-- MGT_BG_USE [31:16], the largest such value (Table 15-8); 16 bits; reset 0 -/
  useMax : Nat := 0
  /-- the next block of the patrol (R709); 28 bits; reset 0 -/
  block : Nat := 0
  /-- passes completed, saturating (MGT_BG_PATROL [31:16]); 16 bits; DESIGN CHOICE 0 -/
  passes : Nat := 0
  /-- MGT_BG_DEFER [15:0], deferrals (Table 15-8); 16 bits; DESIGN CHOICE 0 -/
  deferrals : Nat := 0
  /-- MGT_BG_DEFER [31:16], FORCED (Table 15-8, R707); 16 bits; DESIGN CHOICE 0 -/
  forced : Nat := 0
  /-- the clock of each channel's last ZQ and DQS recalibration (R703); model's own; reset 0 -/
  recal : Vector Nat 64 := Vector.replicate 64 0
  /-- the clock of the last SRAM scrub pass (R703); model's own; reset 0 -/
  scrubAt : Nat := 0
  /-- the clock of the last telemetry sample (R700); model's own; reset 0 -/
  telAt : Nat := 0
  /-- the telemetry record of the last interval as PF0 sees it, before SAMPLE, DROPPED and PART (Table 15-6, R700); model's own -/
  telSnap : Bytes := []
  /-- mandatory LPDDR5X refreshes done (R708); model's own; reset 0 -/
  refreshes : Nat := 0
  /-- refresh-management commands done (R703); model's own; reset 0 -/
  rfms : Nat := 0
  /-- corrected errors since the last telemetry sample (Table 15-6 offset 104); 32 bits; reset 0 -/
  ceSince : Nat := 0
  /-- uncorrectable errors since the last telemetry sample (Table 15-6 offset 104); 32 bits; reset 0 -/
  ueSince : Nat := 0
  deriving DecidableEq, Repr, Inhabited

end Sys2Proof.Machine
end

