-- ==== Sys2Proof/Machine/StateMem.lean ====
section
/-! DEFINITION. State of board memory, the cellar, coherence and the Lanicy fabric. Each field's default is its reset value. -/

namespace Sys2Proof.Machine

/-- Board memory and the PINNED window space (Tables 11-2, 11-9). DEDUCED (log entry 116). -/
structure Mem where
  /-- the bytes at local addresses, rising; see `Memory.wf` (R463, R718); reset none listed -/
  cells : List Host.Cell := []
  /-- unlisted board-memory bytes are undefined in this era (R569), and zero when none (R718); reset none -/
  era : Option Nat := none
  /-- poisoned 64-byte sectors, rising (R459); reset none -/
  poison : List Nat := []
  /-- MEM_STAT.READY (Table 11-9); 1 bit; DESIGN CHOICE 0 -/
  ready : Bool := false
  /-- MEM_ECC_CE, saturating (Table 11-9); 32 bits; DESIGN CHOICE 0 -/
  ce : Nat := 0
  /-- MEM_ECC_UE, saturating (Table 11-9); 32 bits; DESIGN CHOICE 0 -/
  ue : Nat := 0
  /-- MEM_ECC_ADDR (Table 11-9); 64 bits; DESIGN CHOICE 0 -/
  eccAddr : Nat := 0
  /-- MEM_POISON_WR, saturating (Table 11-9, R460); 32 bits; DESIGN CHOICE 0 -/
  poisonWr : Nat := 0
  /-- the blocks whose check sectors MEM holds in its buffer, the one used longest ago first (R461); reset none -/
  checkBuf : List Nat := []
  /-- check sectors read into the buffer (R461); model's own; reset 0 -/
  checkReads : Nat := 0
  /-- check sectors written back from the buffer (R461); model's own; reset 0 -/
  checkWrites : Nat := 0
  deriving DecidableEq, Repr, Inhabited

/-- A line the cellar holds in a CACHE region (R465). DEDUCED (log entry 116). -/
structure CelLine where
  region : Nat := 0
  slice : Nat := 0
  set : Nat := 0
  way : Nat := 0
  /-- domain address of the line, shifted right by 7 -/
  line : Nat := 0
  dirty : Bool := false
  /-- when it was last used, for the replacement -/
  use : Nat := 0
  deriving DecidableEq, Repr, Inhabited

/-- The state of a remote line in the board's cellar (Table 11-5). -/
inductive CohSt where
  | m
  | e
  | s
  | upgrade
  | waitS
  | waitU
  | evicting
  deriving DecidableEq, Repr, Inhabited

/-- A remote line (Table 11-5); a line not listed is in I. -/
structure RLine where
  /-- domain address of the line -/
  addr : Nat := 0
  st : CohSt := .s
  data : Bytes := []
  poison : Bool := false
  /-- the accesses that wait for the line, in their order of arrival (R469); reset none -/
  wait : List CellarReq := []
  deriving DecidableEq, Repr, Inhabited

/-- A directory entry of the home (R476). -/
structure DirEnt where
  /-- local address of the line -/
  addr : Nat := 0
  sharers : List Nat := []
  owner : Option Nat := none
  broadcast : Bool := false
  /-- when it was last used (R477) -/
  use : Nat := 0
  deriving DecidableEq, Repr, Inhabited

/-- The requests a home serves (Table 11-4). -/
inductive ReqType where
  | readShared
  | readUnique
  | readNokeep
  | writeMerge
  /-- the line is taken back to free its directory entry (R477) -/
  | backInv
  deriving DecidableEq, Repr, Inhabited

/-- A request at a home. -/
structure HomeReq where
  typ : ReqType := .readShared
  src : Nat := 0
  part : Nat := 0
  reqId : Nat := 0
  addr : Nat := 0
  mask : List Bool := []
  data : Bytes := []
  poison : Bool := false
  /-- the clock of its arrival and the port it came by, 1 for LNK0, 0 for this board's own (R481) -/
  arrived : Nat := 0
  port : Nat := 0
  /-- the requester, for this board's own; `quiet` when only the line's copies are to come back (R469) -/
  source : Nat := 0
  quiet : Bool := false
  deriving DecidableEq, Repr, Inhabited

/-- A transaction in progress at the home (R481, R485). -/
structure Txn where
  req : HomeReq := {}
  /-- boards whose snoop answer is outstanding -/
  waiting : List Nat := []
  /-- evictions attached to an outstanding snoop: board and reqId (R485) -/
  attached : List (Nat × Nat) := []
  /-- boards that answered with EVICT_IN_FLIGHT -/
  evicted : List Nat := []
  deriving DecidableEq, Repr, Inhabited

/-- A fabric message (Tables 11-7, 11-8). -/
structure Msg where
  /-- TYPE (Table 11-8) -/
  typ : Nat := 0
  dest : Nat := 0
  src : Nat := 0
  reqId : Nat := 0
  part : Nat := 0
  addr : Nat := 0
  data : Bytes := []
  poison : Bool := false
  /-- ACK_BELOW on VC0, VC2 and VC3 (R496) -/
  ackBelow : Nat := 0
  /-- INJECT (R500) -/
  inject : Nat := 0
  /-- the bytes after the header as they came, for a message this board forwards; empty for its own -/
  raw : Bytes := []
  deriving DecidableEq, Repr, Inhabited

/-- An unanswered message of this board (R496 to R499). -/
structure Unans where
  msg : Msg := {}
  /-- the clock at which it was last sent -/
  sentAt : Nat := 0
  resends : Nat := 0
  /-- the command it belongs to: function, queue, position -/
  cmd : Option (Nat × Nat × Nat) := none
  deriving DecidableEq, Repr, Inhabited

/-- A kept answer (R498). -/
structure Kept where
  src : Nat := 0
  reqId : Nat := 0
  msg : Msg := {}
  deriving DecidableEq, Repr, Inhabited

/-- A message being received into a mailbox ring (R508, R509). -/
structure MailIn where
  src : Nat := 0
  reqId : Nat := 0
  window : Nat := 0
  length : Nat := 0
  /-- ring offset at which its header will stand -/
  at_ : Nat := 0
  /-- its header is written; WR_OFF passes it after the messages in front of it -/
  whole : Bool := false
  deriving DecidableEq, Repr, Inhabited

/-- A flit as its receiver reads it (Table 11-6): its header, and whether CRC and tag check (R488, R493). -/
structure Flit where
  counter    : Nat := 0
  ack        : Nat := 0
  nak        : Bool := false
  idle       : Bool := false
  keySwitch  : Bool := false
  creditLane : Nat := 0
  credits    : Nat := 0
  payload    : Bytes := []
  crcOk      : Bool := false
  tagOk      : Bool := false
  deriving DecidableEq, Repr, Inhabited

/-- A flit in the replay buffer (R494, R495). -/
structure SentFlit where
  counter : Nat := 0
  /-- its 512 bytes -/
  bytes : Bytes := []
  /-- how often it has been replayed -/
  replays : Nat := 0
  deriving DecidableEq, Repr, Inhabited

/-- A Lanicy port (Table 11-10, R488 to R495). -/
structure LnkPort where
  /-- LNK_STAT.UP (Table 11-10); 1 bit; DESIGN CHOICE 0 -/
  up : Bool := false
  /-- it has trained and may exchange hello messages (R495); 1 bit; reset 0 -/
  trained : Bool := false
  /-- LNK_STAT.SEALED (Table 11-10); 1 bit; DESIGN CHOICE 0 -/
  sealed : Bool := false
  /-- LNK_STAT.REFUSED (Table 11-10, R490); 1 bit; DESIGN CHOICE 0 -/
  refused : Bool := false
  /-- LNK_STAT.DIRECT (Table 11-10); 1 bit; DESIGN CHOICE 0 -/
  direct : Bool := false
  /-- LNK_STAT.PEER_BOARD (Table 11-10); 8 bits; DESIGN CHOICE 0 -/
  peerBoard : Nat := 0
  /-- LNK_STAT.PEER_PORT (Table 11-10); 3 bits; DESIGN CHOICE 0 -/
  peerPort : Nat := 0
  /-- the peer's tenant tag as its hello carried it (R490); reset empty -/
  peerTag : Bytes := []
  /-- a link session is open, so VC0 to VC3 may flow (R585); 1 bit; reset 0 -/
  session : Bool := false
  /-- LNK_REPLAY, saturating (Table 11-10); 32 bits; DESIGN CHOICE 0 -/
  replay : Nat := 0
  /-- LNK_CRC, saturating (Table 11-10); 32 bits; DESIGN CHOICE 0 -/
  crc : Nat := 0
  /-- LNK_STALE, saturating (Table 11-10); 32 bits; DESIGN CHOICE 0 -/
  stale : Nat := 0
  /-- LNK_TAG, saturating (Table 11-10); 32 bits; DESIGN CHOICE 0 -/
  tagFail : Nat := 0
  /-- LNK_RETRAIN, saturating (Table 11-10); 32 bits; DESIGN CHOICE 0 -/
  retrain : Nat := 0
  /-- LNK_KEY_GEN, renewals since link-up (Table 11-10); 32 bits; DESIGN CHOICE 0 -/
  keyGen : Nat := 0
  /-- the next counter expected from the peer (R493); 64 bits; reset 0 -/
  rxNext : Nat := 0
  /-- the next counter to send (R494); 64 bits; reset 0 -/
  txNext : Nat := 0
  /-- the link secret of the SPDM session (R584); reset none -/
  secret : Bytes := []
  /-- unacknowledged flits (R494); at most 512; reset none -/
  replayBuf : List SentFlit := []
  /-- payloads that wait for room in the replay buffer, oldest first (R494); reset none -/
  txWait : List Bytes := []
  /-- bytes of a message whose end has not arrived (R488); reset none -/
  rxBuf : Bytes := []
  /-- the next flit sent carries NAK (R493); reset 0 -/
  nakDue : Bool := false
  /-- credits to return to the peer, per lane (Table 11-6); reset none -/
  owed : List (Nat × Nat) := []
  /-- the clocks of the tag failures within the last second (R495) -/
  tagAt : List Nat := []
  /-- credits per lane, VC × 3 + lane, in 16-byte units (Table 11-6) -/
  credits : List (Nat × Nat) := []
  /-- sending key generation in use and the one agreed next (R492) -/
  txKey : Nat := 0
  txNextKey : Option Nat := none
  /-- receiving key generation in use and the one installed beside it (R492) -/
  rxKey : Nat := 0
  rxNextKey : Option Nat := none
  /-- the next flit sent carries KEY_SWITCH -/
  keySwitch : Bool := false
  /-- flits sent under the present key and the clock of its start (R492) -/
  keyFlits : Nat := 0
  keyAt : Nat := 0
  deriving DecidableEq, Repr, Inhabited

/-- The cellar, coherence and the fabric. -/
structure Fab where
  /-- lines held in CACHE regions (R465); reset none -/
  lines : List CelLine := []
  /-- use counter behind the replacement; model's own -/
  useCount : Nat := 0
  /-- CEL_HITS, saturating (Table 11-9); 32 bits; DESIGN CHOICE 0 -/
  hits : Nat := 0
  /-- CEL_MISSES, saturating (Table 11-9); 32 bits; DESIGN CHOICE 0 -/
  misses : Nat := 0
  /-- CEL_DIR_BACKINV, saturating (Table 11-9); 32 bits; DESIGN CHOICE 0 -/
  backInv : Nat := 0
  /-- CEL_ECC corrected, saturating (Table 11-9); 16 bits; DESIGN CHOICE 0 -/
  eccC : Nat := 0
  /-- CEL_ECC uncorrectable, saturating (Table 11-9); 16 bits; DESIGN CHOICE 0 -/
  eccU : Nat := 0
  /-- hits and misses since the last telemetry sample (Table 15-6) -/
  telHits : Nat := 0
  /-- misses since the last telemetry sample (Table 15-6) -/
  telMisses : Nat := 0
  /-- remote lines (Table 11-5); reset none, all in I -/
  remote : List RLine := []
  /-- the directory (R476); reset empty -/
  dir : List DirEnt := []
  /-- transactions at the home, one per busy line (R481); reset none -/
  txns : List Txn := []
  /-- requests that wait for a busy line, in order of arrival (R481); reset none -/
  queue : List HomeReq := []
  /-- EXPORT records whose removal waits for their remote copies (R475); reset none -/
  leaving : List Bytes := []
  /-- the next REQ_ID towards each board (R496); 24 bits; reset 0 -/
  nextReq : List (Nat × Nat) := []
  /-- unanswered messages (R497); reset none -/
  unans : List Unans := []
  /-- requests that wait for room among the 4,096 unanswered REQ_IDs of their destination, oldest first (R497); reset none -/
  waitReq : List (Msg × Option (Nat × Nat × Nat)) := []
  /-- kept answers (R498); reset none -/
  kept : List Kept := []
  /-- messages being received (R508); reset none -/
  mails : List MailIn := []
  /-- held messages of route-change holds: destination, clock of the change (R504); reset none -/
  holds : List (Nat × Nat) := []
  /-- the messages held for them, in order -/
  heldMsgs : List (Nat × Msg) := []
  /-- messages that wait for a live route, with their destination (R490, R500); reset none -/
  stuck : List (Nat × Msg) := []
  /-- the ports LNK0 to LNK7 (Table 11-10) -/
  ports : Vector LnkPort 8 := Vector.replicate 8 {}
  /-- LNK_DOM.ESCAPE (Table 11-10, R503); 1 bit; DESIGN CHOICE 0 -/
  escape : Bool := false
  /-- LNK_E2E resends, saturating (Table 11-10); 16 bits; DESIGN CHOICE 0 -/
  resends : Nat := 0
  /-- LNK_E2E failures, saturating (Table 11-10); 16 bits; DESIGN CHOICE 0 -/
  failures : Nat := 0
  /-- the advertised windows kept, at most 4,096 (R473); reset none -/
  windows : List AdvWin := []
  /-- the tenant tag each board advertised (R473); reset none -/
  tags : List (Nat × Bytes) := []
  /-- LNK_LOST: boards declared lost, rising (R505); 256 bits; DESIGN CHOICE 0 -/
  lost : List Nat := []
  /-- the clock of each board's latest heartbeat (R505); model's own -/
  beats : List (Nat × Nat) := []
  /-- the clock at which heartbeats were last sent (R505); model's own -/
  beatAt : Nat := 0
  /-- link state of the boards: board, its live links as (port, peer) (R503) -/
  linkState : List (Nat × List (Nat × Nat)) := []
  /-- the present next hop towards each destination: the port, plus 8 on the escape lane (R503, R504) -/
  hops : List (Nat × Nat) := []
  deriving DecidableEq, Repr, Inhabited

end Sys2Proof.Machine
end

