-- ==== Sys2Proof/Machine/StateNec.lean ====
section
/-! DEFINITION. State of the neural cores. Each field's default is its reset value. -/

namespace Sys2Proof.Machine

/-- A hopper entry (R417): one wide row, its bytes, the granules it holds and which of those are poisoned. -/
structure HopEntry where
  row : Nat := 0
  data : Bytes := []
  mask : List Nat := []
  poison : List Nat := []
  deriving DecidableEq, Repr, Inhabited

/-- A cask's pointers and its port's row buffer (R425 to R430). -/
structure CaskSt where
  /-- NEC_CASK_FILL offset (Table 10-13); 19 bits; reset 0 -/
  fill : Nat := 0
  /-- NEC_CASK_FILL.WRAP (Table 10-13); 1 bit; reset 0 -/
  fillWrap : Bool := false
  /-- NEC_CASK_TAP offset (Table 10-13); 19 bits; reset 0 -/
  tap : Nat := 0
  /-- NEC_CASK_TAP.WRAP (Table 10-13); 1 bit; reset 0 -/
  tapWrap : Bool := false
  /-- beats gathered for the next row (R427) -/
  row : Bytes := []
  /-- chunks of the gathered row that are poisoned -/
  rowPoison : List Nat := []
  /-- the closing beat has arrived, so the partial row is written padded (R427) -/
  closing : Bool := false
  /-- the frame whose line the last line tag named (R429) -/
  frame : Nat := 0
  deriving DecidableEq, Repr, Inhabited

/-- A DMA transfer in issue order (R432 to R435). -/
structure Xfer where
  /-- true for DMAI, into the store -/
  into : Bool := true
  ch : Nat := 0
  /-- the 32-byte descriptor -/
  desc : Bytes := []
  /-- rows already moved; of a cask transfer, pieces of 512 bytes -/
  moved : Nat := 0
  /-- TASK number of the task that issued it: the channel is that task's (Table 10-1) -/
  task : Nat := 0
  /-- the lines of another board's memory that it has asked for -/
  asked : List Nat := []
  /-- those that have come: address, data, poison -/
  got : List (Nat × Bytes × Bool) := []
  /-- the task that issued it: route, frame, node (R434, R442) -/
  own : Nat × Nat × Nat := (0, 0, 0)
  /-- LS_BASE + CA of that task, and its partition -/
  base : Nat := 0
  part : Nat := 0
  deriving DecidableEq, Repr, Inhabited

/-- What a core waits for. -/
inductive Stall where
  /-- CWAIT: cask, N, P (R425) -/
  | cwait (idx n : Nat) (p : Bool)
  /-- CRD: vector register, cask, OFF (R425) -/
  | crd (v idx off : Nat)
  /-- CADV: cask, N (R425) -/
  | cadv (idx n : Nat)
  /-- CPUSH: cask, vector register (R426) -/
  | cpush (idx v : Nat)
  /-- DMAW: channel mask (R434) -/
  | dmaw (mask : Nat)
  /-- FENCE: channel mask (R451) -/
  | fence (mask : Nat)
  /-- PUB: its descriptor (R436) -/
  | pub (desc : Bytes)
  /-- TILE: waits for the MAC feed to end (R438) -/
  | tile
  deriving DecidableEq, Repr, Inhabited

/-- An MM in an accumulator buffer (R454): its instruction word, the scalars it was issued with, and its result. -/
structure MmJob where
  mode : Nat := 0
  /-- EAs of the A panel, the W panel and the output -/
  a : Nat := 0
  w : Nat := 0
  o : Nat := 0
  k : Nat := 0
  accLoad : Bool := false
  /-- how many MMs its task had issued before it (R454) -/
  seq : Nat := 0
  /-- the task that issued it: route, frame, node (R438) -/
  own : Nat × Nat × Nat := (0, 0, 0)
  /-- the feed has started (R454) -/
  feeding : Bool := false
  /-- its accumulator became undefined before its drain ended (R439) -/
  undef : Bool := false
  /-- the result that drains: words of the output and which 32-byte words are poisoned -/
  result : Option (Bytes × List Nat) := none
  deriving DecidableEq, Repr, Inhabited

/-- The task a core runs, with the configuration it was dispatched under. -/
structure Task where
  /-- TASK number of the program blob -/
  task : Nat := 0
  route : Nat := 0
  frame : Nat := 0
  node : Nat := 0
  /-- LS_BASE, LS_BOUND and CA (R422) -/
  base : Nat := 0
  bound : Nat := 0
  ca : Nat := 0
  /-- CODE_LEN and MODES of the blob (Table 10-7) -/
  codeLen : Nat := 0
  modes : Nat := 0
  /-- program number, whose code the region holds (R450) -/
  prog : Nat := 0
  safety : Bool := false
  /-- the partition its route belongs to -/
  part : Nat := 0
  /-- the route's TRIGGER context -/
  trigger : Nat := 0
  /-- MMs it has issued (R454) -/
  mms : Nat := 0
  /-- NEC_TASK_POISON (Table 10-14); 1 bit -/
  poison : Bool := false
  /-- NEC_TASK_SAT (Table 10-14); 1 bit -/
  sat : Bool := false
  /-- the scalars, PC and loop state while it is preempted (R441): its place is then `Core.saved` -/
  sregs : List (BitVec 32) := []
  pc : Nat := 0
  loops : List (Nat × Nat × Nat) := []
  /-- the poisoned scalars, while it is preempted (R446) -/
  sPoison : List Nat := []
  /-- how long it had run since its last TILE when it was preempted, on the board's clock (R440) -/
  ran : Nat := 0
  /-- it stops at its next tile boundary: its frame was abandoned or its route is stopping (R223, R262) -/
  stopAtTile : Bool := false
  deriving DecidableEq, Repr, Inhabited

/-- A vector register and its poisoned 32-byte chunks (R446). -/
structure VReg where
  bytes : Bytes := []
  poison : List Nat := []
  deriving DecidableEq, Repr, Inhabited

/-- A neural core (Tables 10-1, 10-13, 10-14). DESIGN CHOICE (log entry 15). -/
structure Core where
  /-- the local store, 512 KiB; DESIGN CHOICE zeros -/
  ls : List Host.Cell := []
  /-- poisoned 32-byte words, rising (R445, R446); reset none -/
  lsPoison : List Nat := []
  /-- S0 to S31 (Table 10-1, R405); 32 × 32 bits; DESIGN CHOICE 0 -/
  s : Vector (BitVec 32) 32 := Vector.replicate 32 0
  /-- the scalar registers that hold poisoned data (R446); model's own; reset none -/
  sPoison : List Nat := []
  /-- V0 to V15 (Table 10-1, R405); 16 × 512 bytes; DESIGN CHOICE 0 -/
  v : Vector VReg 16 := Vector.replicate 16 {}
  /-- PC: byte offset in the code (Table 10-13); 16 bits; DESIGN CHOICE 0 -/
  pc : Nat := 0
  /-- loop state: body start, body end, turns left, innermost first (R441) -/
  loops : List (Nat × Nat × Nat) := []
  /-- the running task (Table 10-14); reset none -/
  task : Option Task := none
  /-- preempted tasks, the latest first (R441) -/
  saved : List Task := []
  /-- the task to start when the present one is preempted (R245) -/
  incoming : Option Task := none
  /-- NEC_CORE_STAT.PREEMPT_PENDING (Table 10-14, R441); 1 bit; reset 0 -/
  preempt : Bool := false
  /-- halted through the debug port (Table 13-12, R605); 1 bit; reset 0 -/
  halted : Bool := false
  /-- the one instruction that a step lets a halted core take is still to come (Table 13-12, R605); 1 bit; reset 0 -/
  stepOne : Bool := false
  /-- what the core waits for -/
  stall : Option Stall := none
  /-- the hopper, oldest allocation first, at most 8 (R417) -/
  hopper : List HopEntry := []
  /-- the clock of the last narrow write (R418); model's own -/
  narrowAt : Nat := 0
  /-- the sixteen casks (Table 10-13) -/
  casks : Vector CaskSt 16 := Vector.replicate 16 {}
  /-- DMA transfers in issue order (R434) -/
  dma : List Xfer := []
  /-- accumulator buffers 0 and 1: the MMs each still has, oldest first (R454) -/
  acc : Vector (List MmJob) 2 := Vector.replicate 2 []
  /-- the clock of the last tile boundary (R440); model's own -/
  tileAt : Nat := 0
  /-- clock spent in CWAITs with P set since then (R440); model's own -/
  pWait : Nat := 0
  /-- the clock at which the present CWAIT with P set began (R440); model's own -/
  pWaitAt : Option Nat := none
  /-- NEC_FAULT.CAUSE (Table 10-13); 8 bits; DESIGN CHOICE 0 -/
  fCause : Nat := 0
  /-- NEC_FAULT.TASK (Table 10-13); 2 bits; DESIGN CHOICE 0 -/
  fTask : Nat := 0
  /-- NEC_FAULT.ROUTE (Table 10-13); 4 bits; DESIGN CHOICE 0 -/
  fRoute : Nat := 0
  /-- NEC_FAULT.NODE (Table 10-13); 6 bits; DESIGN CHOICE 0 -/
  fNode : Nat := 0
  /-- NEC_FAULT_PC (Table 10-13); 32 bits; DESIGN CHOICE 0 -/
  fPc : Nat := 0
  /-- NEC_FAULT_EA (Table 10-13); 32 bits; DESIGN CHOICE 0 -/
  fEa : Nat := 0
  /-- NEC_ECC.CORRECTED, saturating (Table 10-13); 16 bits; DESIGN CHOICE 0 -/
  eccC : Nat := 0
  /-- NEC_ECC.UNCORRECTED, saturating (Table 10-13); 16 bits; DESIGN CHOICE 0 -/
  eccU : Nat := 0
  /-- NEC_TILES (Table 10-13); 32 bits; DESIGN CHOICE 0 -/
  tiles : Nat := 0
  /-- NEC_PREEMPT (Table 10-13); 32 bits; DESIGN CHOICE 0 -/
  preempts : Nat := 0
  /-- NEC_SAT (Table 10-13, R400); 32 bits; DESIGN CHOICE 0 -/
  sat : Nat := 0
  /-- NEC_HOPPER complete flushes, saturating (Table 10-13); 16 bits; DESIGN CHOICE 0 -/
  hopFull : Nat := 0
  /-- NEC_HOPPER partial flushes, saturating (Table 10-13); 16 bits; DESIGN CHOICE 0 -/
  hopPart : Nat := 0
  /-- NEC cycles worked since the last telemetry sample; model's own -/
  busy : Nat := 0
  deriving DecidableEq, Repr, Inhabited

/-- The neural engine. -/
structure Nec where
  /-- the 64 cores (Table 10-13) -/
  cores : Vector Core 64 := Vector.replicate 64 {}
  deriving DecidableEq, Repr, Inhabited

end Sys2Proof.Machine
end

