-- ==== Sys2Proof/Machine/StateSaf.lean ====
section
/-! DEFINITION. State of the safety island, of thermal throttling and of the checkpoint pair. Each field's default is its
reset value. -/

namespace Sys2Proof.Machine

/-- The SAF states (Table 14-2). -/
inductive SafSt where
  | disarmed
  | arming
  | running
  | markInvalid
  | escalating
  | powerOff
  deriving DecidableEq, Repr, Inhabited

/-- The thermal states (Table 14-8). -/
inductive Thermal where
  | normal
  | throttle
  | critical
  | trip
  deriving DecidableEq, Repr, Inhabited

/-- A detected cause on its way to the monitor cycle (R624). -/
structure SafEvent where
  /-- code of Table 14-3 -/
  cause : Nat := 0
  /-- GTC stamp of the checker -/
  gtc : Nat := 0
  /-- source number of the checker -/
  source : Nat := 0
  deriving DecidableEq, Repr, Inhabited

/-- The safety island (Table 14-9). DESIGN CHOICE (log entry 13). -/
structure Saf where
  /-- SAF_STAT.STATE (Table 14-9); 4 bits; reset DISARMED -/
  st : SafSt := .disarmed
  /-- SAF_STAT.CAUSE (Table 14-9, R622); 8 bits; DESIGN CHOICE 0 -/
  cause : Nat := 0
  /-- SAF_CAUSE_GTC (Table 14-9); 64 bits; DESIGN CHOICE 0 -/
  causeGtc : Nat := 0
  /-- SAF_CAUSE_SRC (Table 14-9); 12 bits; DESIGN CHOICE 0 -/
  causeSrc : Nat := 0
  /-- the clock of the safe-state entry (R619); model's own; reset 0 -/
  entryAt : Nat := 0
  /-- SAF_STAT: SAFE_OFF_N is asserted (Table 14-9, R627); 1 bit; DESIGN CHOICE 0 -/
  safeOff : Bool := false
  /-- the SAFE_OK generator toggles (SAF_STAT [1], R625, R626); 1 bit; DESIGN CHOICE 0 -/
  okToggling : Bool := false
  /-- the clock at which the firmware last serviced the SAFE_OK generator (R626); model's own; reset 0 -/
  okAt : Nat := 0
  /-- the clock of the last monitor cycle, which services the RC watchdog (R613); model's own; reset 0 -/
  watchAt : Nat := 0
  /-- the firmware no longer runs: lockstep mismatch or watchdog (R612, R613, R629); 1 bit; reset 0 -/
  dead : Bool := false
  /-- events latched and not yet evaluated (R624) -/
  events : List SafEvent := []
  /-- ALIVE of the last HEARTBEAT (Table 14-5); 8 bits; DESIGN CHOICE 0 -/
  aliveBeat : BitVec 8 := 0
  /-- ALIVE of the last SAFE_EVENT (Table 14-5); 8 bits; DESIGN CHOICE 0 -/
  aliveEvent : BitVec 8 := 0
  /-- the clock of the last HEARTBEAT (R628); model's own; reset 0 -/
  beatAt : Nat := 0
  /-- SIN0 to SIN3 levels, high true (R659); DESIGN CHOICE high -/
  sin : Vector Bool 4 := Vector.replicate 4 true
  /-- the clock and the GTC at which a SIN fell, until its low is confirmed (Table 14-3); model's own; reset none -/
  sinAt : Vector (Option (Nat × Nat)) 4 := Vector.replicate 4 none
  /-- the gap timers: the clock at which each started, when running (R639); reset none -/
  gap : Vector (Option Nat) 16 := Vector.replicate 16 none
  /-- the route was safety-class when its gap timer started (R639); 16 bits; reset 0 -/
  gapClass : BitVec 16 := 0
  /-- the last FRAME_DONE of each route that SAF received: was it valid, and the clock (R639, Table 14-5); reset none -/
  last : Vector (Option (Bool × Nat)) 16 := Vector.replicate 16 none
  /-- FRAME_DONEs on their way to SAF: route, valid, age in ns, carries STALE by its age (R639); reset none -/
  inbox : List (Nat × Bool × Nat × Bool) := []
  /-- SAF_AGE: per route the age of its last FRAME_DONE, µs (Table 14-9); 32 bits; DESIGN CHOICE 0 -/
  age : Vector Nat 16 := Vector.replicate 16 0
  /-- the clock at which the present rotation began (R641); model's own; reset 0 -/
  rotAt : Nat := 0
  /-- checker instances tested in the present rotation: ID, instance (R641); reset none -/
  tested : List (Nat × Nat) := []
  /-- checker instances that missed their test in the last rotation (R644); reset none -/
  missed : List (Nat × Nat) := []
  /-- checker instances whose first test failed and whose repeat is due, with the GTC of the failure (Table 14-3); reset none -/
  failed : List ((Nat × Nat) × Nat) := []
  /-- the present rotation has had no failure (R614); 1 bit; reset 1 -/
  rotOk : Bool := true
  /-- SAF_ROT_COUNT, saturating (Table 14-9); 32 bits; DESIGN CHOICE 0 -/
  rotCount : Nat := 0
  /-- SAF_ROT_LAST in µs (Table 14-9); 32 bits; DESIGN CHOICE 0 -/
  rotLast : Nat := 0
  /-- SAF_ST_FAIL: checker ID and instance (Table 14-9); 16 bits; DESIGN CHOICE 0 -/
  stFail : Nat × Nat := (0, 0)
  /-- SAF_TASTE_FAIL, saturating (Table 14-9, R636); 32 bits; DESIGN CHOICE 0 -/
  tasteFail : Nat := 0
  /-- thermal state (SAF_STAT [15:12], Table 14-8); 4 bits; DESIGN CHOICE NORMAL -/
  thermal : Thermal := .normal
  /-- the last temperature in °C and the input power in mW (Table 14-8); DESIGN CHOICE 25, 0 -/
  temp : Int := 25
  power : Nat := 0
  /-- the clock since which power has lain below the limit (Table 14-8); model's own; reset 0 -/
  coolAt : Nat := 0
  /-- the withheld fraction in sixteenths (R646); reset 0 -/
  withheld : Nat := 0
  /-- the clock of the last throttle step (R646); model's own; reset 0 -/
  throttleAt : Nat := 0
  /-- clock domains that are out of range now: CTL, NEC, VIS, ISP, MEM, TMG (Table 14-3); reset none -/
  badClocks : List Nat := []
  /-- rails that are out of range now (Table 14-3); reset none -/
  badRails : List Nat := []
  deriving DecidableEq, Repr, Inhabited

/-- ROLE of MGT_PAIR_STAT (Table 14-10). -/
inductive Role where
  | off
  | active
  | standby
  | takenOver
  deriving DecidableEq, Repr, Inhabited

/-- The checkpoint pair (Table 14-10). -/
structure Pair where
  /-- MGT_PAIR_CTL as written (Table 14-10); 32 bits; DESIGN CHOICE 0 -/
  ctl : U32 := 0
  /-- ROLE (Table 14-10); 2 bits; DESIGN CHOICE off -/
  role : Role := .off
  /-- COPYING: the epoch being copied: FRAME_ID and GTC_EXPOSURE of its frame (Table 14-10, R649); reset none -/
  copying : Option (Nat × Nat) := none
  /-- SLOT, the adopted slot (Table 14-10, R651); 1 bit; DESIGN CHOICE 0 -/
  slot : Bool := false
  /-- the standby holds bytes of an epoch it has not adopted (R652) -/
  partial_ : Bool := false
  /-- MGT_PAIR_EPOCH (Table 14-10); 32 bits; DESIGN CHOICE 0 -/
  epoch : Nat := 0
  /-- MGT_PAIR_FRAME (Table 14-10); 32 bits; DESIGN CHOICE 0 -/
  frame : Nat := 0
  /-- MGT_PAIR_BASE and MGT_PAIR_SIZE of the ranges (Table 14-10); 64 and 32 bits; DESIGN CHOICE 0 -/
  ranges : Vector (U64 × U32) 4 := Vector.replicate 4 (0, 0)
  /-- MGT_PAIR_DISCARD, saturating (Table 14-10); 32 bits; DESIGN CHOICE 0 -/
  discard : Nat := 0
  deriving DecidableEq, Repr, Inhabited

end Sys2Proof.Machine
end

