-- ==== Sys2Proof/Machine/StateSec.lean ====
section
/-! DEFINITION. State of trust: operator keys, the tenant, SPDM sessions, IDE streams, sealed models and the tenant switch.
Each field's default is its reset value. -/

namespace Sys2Proof.Machine

/-- The admitted tenant (R569, R570). -/
structure Tenant where
  /-- tenant key digest, 48 bytes (R567) -/
  key : Bytes := []
  /-- tenant tag, 8 bytes (R570) -/
  tag : Bytes := []
  deriving DecidableEq, Repr, Inhabited

/-- How far the SPDM exchange of a port has come, and its session (Table 13-5). -/
structure Spdm where
  /-- GET_VERSION has been answered; reset 0 -/
  version : Bool := false
  /-- GET_CAPABILITIES has been answered; reset 0 -/
  caps : Bool := false
  /-- NEGOTIATE_ALGORITHMS has been answered; reset 0 -/
  algs : Bool := false
  /-- KEY_EXCHANGE has been answered and FINISH is awaited; reset 0 -/
  handshake : Bool := false
  /-- a session is open (R572); reset 0 -/
  opened : Bool := false
  /-- the requester has proved the admitted tenant's key in it (R572, R591); reset 0 -/
  proven : Bool := false
  /-- TH: the transcript that the ADMIT signature covers; reset empty -/
  th : Bytes := []
  /-- the session's requester-direction application secret (R575); reset empty -/
  secret : Bytes := []
  /-- the key generation of the session, advanced by KEY_UPDATE; reset 0 -/
  gen : Nat := 0
  deriving DecidableEq, Repr, Inhabited

/-- The record of a loaded model (R594) and, for a quorum package, its presence check (R599). DEDUCED (log entry 57). -/
structure Blob where
  part : Nat := 0
  /-- ADDR1 of the MODEL_LOAD -/
  base : Nat := 0
  len : Nat := 0
  digest : Bytes := []
  /-- K of a quorum package; 1 in member mode -/
  k : Nat := 1
  /-- GRACE in s -/
  grace : Nat := 0
  /-- other members that have answered the last presence challenge, with the clock of the answer -/
  answers : List (Nat × Nat) := []
  /-- the clock of the presence challenge since which fewer than K − 1 others have answered; none when they have -/
  graceAt : Option Nat := none
  /-- the clock of the last presence challenge; at first that of the load -/
  challengeAt : Nat := 0
  deriving DecidableEq, Repr, Inhabited

/-- A quorum gather under way (Table 13-10). -/
structure Gather where
  part : Nat := 0
  queue : Nat := 0
  /-- position of the MODEL_LOAD in its queue -/
  pos : Nat := 0
  /-- the package -/
  pkg : Bytes := []
  /-- it came in poisoned (R675) -/
  ep : Bool := false
  /-- the board's own entry and its unwrapped share -/
  own : Nat := 0
  share : Bytes := []
  /-- the valid shares of others: entry index and share -/
  shares : List (Nat × Bytes) := []
  /-- the boards asked -/
  asked : List Nat := []
  /-- the clock at which it began -/
  at_ : Nat := 0
  deriving DecidableEq, Repr, Inhabited

/-- The step of Table 13-14 a tenant switch is in. -/
inductive SwStep where
  | draining
  | releasing
  | scrubbing
  | filling
  deriving DecidableEq, Repr, Inhabited

/-- A tenant switch under way (R607). -/
structure Switch where
  step : SwStep := .draining
  /-- the clock of its present step's start -/
  at_ : Nat := 0
  /-- ZERO_FILL of the switch -/
  zero : Bool := false
  /-- the TENANT_SWITCH commands it completes: function, queue, position (R609) -/
  cmds : List (Nat × Nat × Nat) := []
  deriving DecidableEq, Repr, Inhabited

/-- The SEC block. DESIGN CHOICE (log entries 14, 15). -/
structure Sec where
  /-- the operator key slots: digest of the key written there, and its revoke bit (R564, R565); 4 slots of fuses; DESIGN CHOICE none written -/
  slots : Vector (Option Bytes × Bool) 4 := Vector.replicate 4 (none, false)
  /-- lifecycle: 1 manufacturing, 2 production, 3 decommissioned (Table 13-7); fuses; DESIGN CHOICE 2 -/
  lifecycle : Nat := 2
  /-- debug is permanently disabled (Table 13-7); fuse; DESIGN CHOICE 0 -/
  debugOff : Bool := false
  /-- the admitted tenant (TOP_STATUS.TENANT, SEC_STAT.TENANT, R569); reset none -/
  tenant : Option Tenant := none
  /-- the draw that keys board memory: number of the random draw (R569); reset 0 -/
  memKey : Nat := 0
  /-- random draws made so far; model's own; reset 0 -/
  draws : Nat := 0
  /-- the tenant switch under way (SEC_STAT.SWITCH_BUSY, R607); reset none -/
  switch : Option Switch := none
  /-- the consent token in force, 224 bytes (SEC_STAT.CONSENT, R602); reset none -/
  consent : Option Bytes := none
  /-- SEC_MBOX_DATA, 4 KiB (Table 13-15); DESIGN CHOICE zeros -/
  mbox : List Host.Cell := []
  /-- SEC_MBOX_RESULT.BUSY: the request in progress, 1 OPK_CLAIM or 2 OPK_ROTATE, and its data (Table 13-15); reset none -/
  busy : Option (Nat × Bytes) := none
  /-- SEC_MBOX_RESULT.CODE (Table 13-15); 4 bits; DESIGN CHOICE 0 -/
  code : Nat := 0
  /-- the DOE mailboxes' SPDM exchanges (Table 13-5); reset as their fields say -/
  doe : Vector Spdm 16 := Vector.replicate 16 {}
  /-- the SPDM exchanges with peer boards over VC4 (Table 13-5); reset none -/
  peers : List (Nat × Spdm) := []
  /-- pair sessions open (R586): board, the clock of the last renewal and the session's secret; reset none -/
  pairs : List (Nat × Nat × Bytes) := []
  /-- IDE streams in the Secure state, with the functions each covers: 0 the link stream, 1 to 16 selective (R582); reset none -/
  ide : Vector (Option (List Nat)) 17 := Vector.replicate 17 none
  /-- the records of loaded models (R594); reset none -/
  blobs : List Blob := []
  /-- loads that have written their blob and whose command has not completed: function, queue, position, record (R594); reset none -/
  loading : List (Nat × Nat × Nat × Blob) := []
  /-- the quorum gather under way (R597); reset none -/
  gathers : List Gather := []
  /-- SEC_STAT members present at the last presence check (Table 13-15); 8 bits; DESIGN CHOICE 0 -/
  present : Nat := 0
  deriving DecidableEq, Repr, Inhabited

end Sys2Proof.Machine
end

