-- ==== Sys2Proof/Machine/StateStage.lean ====
section
/-! DEFINITION. State of the vision stages and of the second mash. Each field's default is its reset value. -/

namespace Sys2Proof.Machine

/-- One input of a stage's frame: what has arrived on one port for one context, per level. -/
structure StageIn where
  port : Nat := 0
  ctx : Nat := 0
  frame : Nat := 0
  level : Nat := 0
  /-- the working lines so far, line 0 first; −1 marks poisoned samples -/
  lines : List (List Int) := []
  /-- closed: whole (false) or short (true) -/
  closed : Option Bool := none
  /-- the lines that have arrived; those missing after a short close stand in `lines` as poisoned (R278) -/
  got : Nat := 0
  deriving DecidableEq, Repr, Inhabited

/-- A tile offered to the second mash (R386). -/
structure Offer where
  gtc : Nat := 0
  source : Nat := 0
  route : Nat := 0
  frame : Nat := 0
  /-- raster number of the tile -/
  tile : Nat := 0
  /-- its coarse values depend on poisoned input (R387) -/
  poisoned : Bool := false
  /-- its refine slot has processed it (R389) -/
  refined : Bool := false
  deriving DecidableEq, Repr, Inhabited

/-- What a FLO or tracker instance keeps of a node from frame to frame: FLO's stored pyramid (R341 to R343), the tracker's table (R376,
R377, R382, R383). -/
structure Memo where
  /-- the node: 64 × route + node -/
  owner : Nat := 0
  /-- the fields of its block whose change discards it (R343, R383) -/
  key : Bytes := []
  /-- they have changed since: it serves earlier frames alone (R199) -/
  old : Bool := false
  /-- the slot of the work window, or the table copy last written -/
  slot : Nat := 0
  /-- FRAME_ID and GTC_EXPOSURE of the stored pyramid (R342) -/
  frame : Nat := 0
  exposure : Nat := 0
  /-- the tracker's next ID (R382) -/
  nextId : Nat := 1
  /-- the tracker's last frame of each context (R377) -/
  lasts : List (Nat × Nat) := []
  deriving DecidableEq, Repr, Inhabited

/-- The node a stage instance runs, with its block as dispatched (R199). -/
structure StageJob where
  route : Nat := 0
  frame : Nat := 0
  node : Nat := 0
  /-- GTC of the frame-start event -/
  start : Nat := 0
  /-- the parameter block -/
  block : Bytes := []
  /-- START and BUDGET of the node, µs (R388) -/
  startUs : Nat := 0
  budgetUs : Nat := 0
  /-- the clock of the dispatch -/
  clk : Nat := 0
  /-- the PATTERN_BASE table as read at the dispatch (R362) -/
  pattern : Bytes := []
  /-- the table was poisoned (R446) -/
  patternBad : Bool := false
  /-- what the instance kept of this node when it was dispatched (R342, R377) -/
  ref : Option Memo := none
  /-- the fields that discard it have changed for later frames (R343, R383) -/
  changed : Bool := false
  /-- how far each output has come: context, output number, lines sent -/
  sent : List (Nat × Nat × Nat) := []
  /-- contexts whose record has been published -/
  published : List Nat := []
  /-- bytes of the records already laid into the slot of the output window, per output (R312) -/
  laid : List (Nat × Nat) := []
  /-- the inputs are complete; GTC and clock of that instant (R348, R384) -/
  completeAt : Option (Nat × Nat) := none
  /-- the coarse record has been published; GTC and clock of that instant (R349) -/
  coarseAt : Option (Nat × Nat) := none
  /-- refine slots that have ended (R389) -/
  slots : Nat := 0
  /-- overlay entries so far, in allotment order (R394), each with its poison -/
  overlay : List (Bytes × Bool) := []
  /-- classes and confidences of their values (Table 6-5) -/
  overlayPx : List (Nat × Nat) := []
  /-- some refined value depends on poison -/
  overlayPoison : Bool := false
  /-- some refined match is ambiguous -/
  overlayAmb : Bool := false
  /-- some output was poisoned -/
  poisoned : Bool := false
  /-- its frame was abandoned: its records are discarded (R223) -/
  discard : Bool := false
  /-- all outputs are written and all records published (R233) -/
  done : Bool := false
  deriving DecidableEq, Repr, Inhabited

/-- A stage instance (Tables 8-7 and 9-7). -/
structure Stage where
  /-- the node it runs -/
  job : Option StageJob := none
  /-- its inputs -/
  ins : List StageIn := []
  /-- _STAT [13:8], context of the current line (Table 8-7); 6 bits; DESIGN CHOICE 0 -/
  ctx : Nat := 0
  /-- _FRAMES, saturating (Table 8-7); 32 bits; DESIGN CHOICE 0 -/
  frames : Nat := 0
  /-- _POISON, saturating (Table 8-7); 32 bits; DESIGN CHOICE 0 -/
  poison : Nat := 0
  /-- _LATE, saturating (Table 8-7); 32 bits; DESIGN CHOICE 0 -/
  late : Nat := 0
  /-- WRP_REACH, FTM_DET_TRUNC or FTM_TRK_FULL, saturating (Tables 8-7, 9-7); 32 bits; DESIGN CHOICE 0 -/
  extra : Nat := 0
  /-- FTM_TRK_LIVE (Table 9-7); 32 bits; DESIGN CHOICE 0 -/
  live : Nat := 0
  /-- FLO's stored pyramids, one for each node that has one (R341 to R343) -/
  stored : List Memo := []
  /-- the matcher's last list in REF_MODE 0: block number, then frame ID, slot address and context (R372) -/
  lastList : List (Nat × Nat × Nat × Nat) := []
  /-- the tracker's tables, one for each node that has one (R376, R377, R382, R383) -/
  tables : List Memo := []
  deriving DecidableEq, Repr, Inhabited

/-- The refinement queue of a route (R386) and its registers (Table 9-7). -/
structure Mash where
  /-- the offers of the frames not yet closed, in the order of R386 -/
  offers : List Offer := []
  /-- MASH_OFFERED, saturating (Table 9-7); 32 bits; DESIGN CHOICE 0 -/
  offered : Nat := 0
  /-- MASH_REFINED, saturating (Table 9-7); 32 bits; DESIGN CHOICE 0 -/
  refined : Nat := 0
  /-- MASH_UNREF.UNREFINED_BUDGET, saturating (Table 9-7); 16 bits; DESIGN CHOICE 0 -/
  unrefBudget : Nat := 0
  /-- MASH_UNREF.UNREFINED_CLOSE, saturating (Table 9-7); 16 bits; DESIGN CHOICE 0 -/
  unrefClose : Nat := 0
  /-- MASH_LAST, tiles allotted in the last frame (Table 9-7); 13 bits; DESIGN CHOICE 0 -/
  last : Nat := 0
  deriving DecidableEq, Repr, Inhabited

/-- The vision stages: PYR, WRP0, WRP1, STE0, STE1, FLO0, FLO1, detector, matcher, tracker; and the second mash. -/
structure Stg where
  /-- the instances, source numbers 0x070 to 0x079 (Table 1-8) -/
  inst : Vector Stage 10 := Vector.replicate 10 {}
  /-- the refinement queue of each route (Table 9-7) -/
  mash : Vector Mash 16 := Vector.replicate 16 {}
  deriving DecidableEq, Repr, Inhabited

end Sys2Proof.Machine
end

