-- ==== Sys2Proof/Machine/StateTmg.lean ====
section
/-! DEFINITION. State of the timing block. Each field's default is its reset value. Phases are in units of 0.125 ns,
frequency words in units of 2^−48, the counters in units of 2^−48 ns. -/

namespace Sys2Proof.Machine

/-- STATE of TMG_IN_STAT (Table 12-4). -/
inductive InSt where
  | disabled
  | failed
  | qualifying
  | wtr
  | available
  deriving DecidableEq, Repr, Inhabited

/-- LOOP_STATE (Table 12-5). -/
inductive LoopSt where
  | freeRun
  | acquiring
  | locked
  | holdover
  | software
  deriving DecidableEq, Repr, Inhabited

/-- A reference input (Tables 12-2, 12-4, 12-10). -/
structure TmgIn where
  /-- STATE (Table 12-10); 3 bits; reset DISABLED -/
  st : InSt := .disabled
  /-- FAIL, last failed criterion (Table 12-10); 4 bits; reset 0 -/
  fail : Nat := 0
  /-- TMG_IN_QL and QL in use (Table 12-10, Table 12-3); 4 bits; reset 8 -/
  ql : Nat := 8
  /-- TMG_IN_PHASE, last e in 0.125 ns (Table 12-8); 32 bits; DESIGN CHOICE 0 -/
  phase : Int := 0
  /-- TMG_IN_FREQ in 0.01 ppb (Table 12-8, R516); 32 bits; DESIGN CHOICE 0 -/
  freq : Int := 0
  /-- `phase` holds a measurement in the present scale of the GTC, so a phase jump can be seen (R515); model's own; reset 0 -/
  seen : Bool := false
  /-- the clock of the last edge, exchange or Sync (Table 12-2); model's own; reset 0 -/
  at_ : Nat := 0
  /-- the clock of the last Announce (Table 12-2); model's own; reset 0 -/
  announceAt : Nat := 0
  /-- the clock at which it entered QUALIFYING (R520); model's own; reset 0 -/
  qualAt : Nat := 0
  /-- the clock at which it entered WTR (R520); model's own; reset 0 -/
  wtrAt : Nat := 0
  /-- it has been AVAILABLE since the last level 4 or 5 reset (Table 12-4); 1 bit; reset 0 -/
  was : Bool := false
  /-- the clock since which it has been AVAILABLE (R554); model's own; reset 0 -/
  availAt : Nat := 0
  /-- the phase held at selection, FREQ inputs (R517) -/
  held : Int := 0
  /-- HOPS, ROOT_ID and flags of the peer's messages, Lanicy inputs (Table 12-7) -/
  hops : Nat := 0
  rootId : Nat := 0
  timeValid : Bool := false
  taiValid : Bool := false
  isRoot : Bool := false
  deriving DecidableEq, Repr, Inhabited

/-- An FSYNC or PPS output (Table 12-8). -/
structure TmgOut where
  /-- H of a HOLD_PHASE output in 2^−48 ns (R544); 112 bits; reset 0 -/
  h : Nat := 0
  /-- MODE in force: 0 no record, 1 FOLLOW, 2 HOLD_PHASE (Table 12-8, R720); 2 bits; DESIGN CHOICE 0 -/
  mode : Nat := 0
  /-- REALIGNING: D left and STEP, in ns (Table 12-6); reset none -/
  realign : Option (Int × Nat) := none
  /-- GTC of its last leading edge in ns (R547); reset none -/
  lastEdge : Option Nat := none
  /-- the clock of its last leading edge (R547); model's own; reset none -/
  edgeAt : Option Nat := none
  /-- the clock at which its OUTPUT_ALIGN record came into force (R720); model's own; reset 0 -/
  recAt : Nat := 0
  /-- the pulse it is in: the clock at which it started and its WIDTH in ns (R543); reset none, driven low -/
  pulse : Option (Nat × Nat) := none
  deriving DecidableEq, Repr, Inhabited

/-- The timing block (Tables 12-8 to 12-10). -/
structure Tmg where
  /-- the GTC in 2^−48 ns (R511); 64 + 48 bits; reset 0 -/
  gtc : Nat := 0
  /-- y_F in 2^−48 (R512); 40 bits; reset 0 -/
  yF : Int := 0
  /-- y_P in 2^−48 (R512); 40 bits; reset 0 -/
  yP : Int := 0
  /-- the snapshot behind TMG_GTC_HI and TMG_GTC_FRAC (R44); 112 bits; DESIGN CHOICE 0 -/
  snap : Nat := 0
  /-- LOOP_STATE (Table 12-9); 3 bits; reset FREE_RUN -/
  loop : LoopSt := .freeRun
  /-- TMG_LOOP_CTL.MODE (Table 12-8, R538); 2 bits; reset 0 -/
  mode : Nat := 0
  /-- SELECTED (Table 12-9); 4 bits; reset 0xF, none -/
  sel : Option (Fin 13) := none
  /-- TOD_MISMATCH (Table 12-9, R558); 1 bit; reset 0 -/
  todMismatch : Bool := false
  /-- STEP_REFUSED (Table 12-9, R533); 1 bit; reset 0 -/
  stepRefused : Bool := false
  /-- SW_TIMEOUT (Table 12-9, R541); 1 bit; reset 0 -/
  swTimeout : Bool := false
  /-- TMG_TOD waiting for a PPS edge, and TOD_PENDING (Table 12-9, R559); 64 bits; reset none -/
  tod : Option Nat := none
  /-- the lower registers of TMG_DCO_FREQ, TMG_TOD and TMG_STEP as last written (Table 12-8); 32 bits each; DESIGN CHOICE 0 -/
  dcoLo : U32 := 0
  todLo : U32 := 0
  stepLo : U32 := 0
  /-- TMG_TOD as last written (Table 12-8); 64 bits; DESIGN CHOICE 0 -/
  todReg : Nat := 0
  /-- the clock of the last TMG_DCO_FREQ write, or of the entry to MODE 2 (R541); model's own; reset 0 -/
  dcoAt : Nat := 0
  /-- the clock at which HOLDOVER was entered, and of its end (TMG_HOLD, Table 12-8) -/
  holdAt : Option Nat := none
  /-- TMG_HOLD of the last holdover in s (Table 12-8); 32 bits; DESIGN CHOICE 0 -/
  holdLast : Nat := 0
  /-- y_e, T_e and A(t_e) of the present holdover (R535, R536) -/
  ye : Int := 0
  te : Int := 0
  ageE : Int := 0
  /-- TMG_TEMP in 1/16 °C (Table 12-8); 16 bits; DESIGN CHOICE 0 -/
  temp : Int := 0
  /-- the clock of the last temperature reading (R536); model's own; reset 0 -/
  tempAt : Nat := 0
  /-- samples of the last 62 s, newest first: clock, y_F, temperature, LOCKED (R535) -/
  hist : List (Nat × Int × Int × Bool) := []
  /-- TMG_FIT_A and b, in 0.001 ppb (Table 12-8); 32 bits; DESIGN CHOICE 0 -/
  fitA : Int := 0
  fitB : Int := 0
  /-- the clock of the last hourly mean; model's own; reset 0 -/
  hourAt : Nat := 0
  /-- successive measurements within 100 ns, and beyond 200 ns (Table 12-5) -/
  good : Nat := 0
  bad : Nat := 0
  /-- the GTC was loaded from the retention record and no input has been measured since (R531) -/
  retLoaded : Bool := false
  /-- TMG_SEL_SWITCHES, saturating (Table 12-8); 32 bits; DESIGN CHOICE 0 -/
  switches : Nat := 0
  /-- TMG_PTP_CFG (Table 12-8); 32 bits; DESIGN CHOICE 0 -/
  ptpCfg : U32 := 0
  /-- TMG_PTP_IP (Table 12-8); 32 bits; DESIGN CHOICE 0 -/
  ptpIp : U32 := 0
  /-- TMG_PTP_STAT: clockClass, logSyncInterval, a time transmitter is followed (Table 12-8); DESIGN CHOICE 0 -/
  ptpClass : Nat := 0
  ptpLog : Int := 0
  /-- log of the announce interval of the time transmitter followed (Table 12-2); model's own; reset 0 -/
  ptpAnn : Int := 0
  /-- the mean path delay of the last delay measurement in 0.125 ns (R515); model's own; reset 0 -/
  ptpDelay : Int := 0
  ptpFollowed : Bool := false
  /-- the inputs (Table 12-10) -/
  ins : Vector TmgIn 13 := Vector.replicate 13 {}
  /-- the outputs FSYNC_OUT0 to FSYNC_OUT7 and PPS_OUT (Table 12-8) -/
  outs : Vector TmgOut 9 := Vector.replicate 9 {}
  /-- TIME_BACKUP acts as the domain's root (R554, R719): TIME_ROOT was lost and has not taken the role back; 1 bit; reset 0 -/
  backupActs : Bool := false
  /-- the clock since which the loop has been LOCKED (R554); model's own; reset 0 -/
  lockedAt : Nat := 0
  /-- SEQ of the next TIME message per port (Table 12-7); 16 bits; reset 0 -/
  seqs : List (Nat × Nat) := []
  /-- the clock at which each port last sent a DELAY_REQ; model's own; reset 0 -/
  reqAt : List (Nat × Nat) := []
  deriving DecidableEq, Repr, Inhabited

end Sys2Proof.Machine
end

