-- ==== Sys2Proof/Machine/State.lean ====
section
/-! DEFINITION. The whole state of the board: every block's state, the queue of waiting commands, and what the board has
sent to the outside. The state after reset is every field at its default. -/

namespace Sys2Proof.Machine

/-- What the PCIe link answers to a register access (R39, R45). DESIGN CHOICE (log entry 20). -/
inductive Bus where
  /-- no access has been answered yet -/
  | idle
  /-- a read returned this value of so many bytes -/
  | data (v : Nat) (size : Nat)
  /-- Unsupported Request -/
  | unsupported
  deriving DecidableEq, Repr, Inhabited

/-- How HIF answers a configuration request (R84, R119, R121). -/
inductive ConfigAnswer where
  /-- Configuration Request Retry Status -/
  | retry
  /-- the function reads as absent -/
  | absent
  /-- an answer, with the VFs that the SR-IOV capability shows, bit per function -/
  | shown (vfs : Nat)
  deriving DecidableEq, Repr

/-- What the board sends to the outside. DESIGN CHOICE (log entries 20, 135). -/
inductive Out where
  /-- a posted completion entry of 16 bytes at a host address (Table 4-3): function, queue -/
  | completion (f q addr : Nat) (entry : Bytes)
  /-- a host memory write, with its EP bit (R675): function, address -/
  | hostWrite (f addr : Nat) (data : Bytes) (ep : Bool)
  /-- a host memory read request: function, address, length -/
  | hostRead (f addr len : Nat)
  /-- an MSI-X message of a function (R148, R149): vector -/
  | msix (f vector : Nat)
  /-- a CAN FD frame (R628): port 0 CAN_A or 1 CAN_B, identifier, payload -/
  | can (port ident : Nat) (payload : Bytes)
  /-- a fabric message handed to a Lanicy port, on VC × 3 + lane (Table 11-7, R488, R502) -/
  | fabric (port lane : Nat) (m : Msg)
  /-- a management message over VC4 (Table 12-7, Table 13-10): destination board, subtype, payload -/
  | mgmt (dest subtype : Nat) (payload : Bytes)
  /-- a flit sent or replayed on a port: its counter and its 512 bytes (Table 11-6) -/
  | flit (port counter : Nat) (bytes : Bytes)
  /-- a hello message on a port (R495) -/
  | hello (port : Nat)
  /-- a sensor bus transfer (Table 7-9): bus, target, read, length, data written -/
  | scb (bus target : Nat) (read : Bool) (len : Nat) (data : Bytes)
  /-- an SPDM answer (Table 13-5): true on success, with the answer's content -/
  | spdm (p : SpdmPort) (ok : Bool) (data : Bytes)
  /-- the status of an ADMIT (Table 13-4) -/
  | admission (p : SpdmPort) (status : Nat)
  /-- a TDISP answer (R578): true on success, with the answer's content -/
  | tdisp (f : Nat) (ok : Bool) (data : Bytes)
  /-- a leading (true) or trailing edge of an output: 0 to 7 FSYNC_OUT, 8 PPS_OUT -/
  | edge (output : Nat) (lead : Bool)
  /-- SAFE_OFF_N is asserted (true) or released (R627) -/
  | safeOff (on : Bool)
  /-- a published record's publication in the output window or board memory: route, type, address, length (R312) -/
  | published (route typ addr len : Nat)
  /-- the answer to a configuration request to a function (R84) -/
  | config (f : Nat) (a : ConfigAnswer)
  /-- the board answers as SMBus target (R50, R61) -/
  | smbusAck
  /-- an answer on the debug port (R603) -/
  | answer (data : Bytes)
  deriving DecidableEq, Repr

/-- Reasons a command stops. No meaning of this model raises one: the spec gives every command of the table an effect, an
answer or no effect. The constructor is safe: a stop proves nothing about the hardware. -/
inductive Fault where
  /-- reserved for a command whose effect the spec does not give; raised by none -/
  | unspecified
  deriving DecidableEq, Repr

/-- Reasons a command is refused. -/
inductive Refusal where
  /-- the command has no meaning yet; raised by the arm of `exec` that names it. Safe: nothing is claimed of it. -/
  | notModelled (mnemonic : String)
  deriving DecidableEq, Repr

/-- The state of the board. -/
structure State where
  /-- the commands that wait, first in first out; the model's own; reset empty -/
  pending : List Instr := []
  /-- the board's clock in TMG cycles of 1.25 ns; the model's own; reset 0 -/
  clk : Nat := 0
  /-- free values used so far; the model's own; DESIGN CHOICE 0 -/
  free : Nat := 0
  /-- the last answer to a register access; the model's own; reset none -/
  bus : Bus := .idle
  /-- what the board has sent, oldest first; the model's own; reset empty -/
  out : List Out := []
  top : Top := {}
  pwr : Pwr := {}
  ret : Ret := {}
  fw : Fw := {}
  recov : Recov := {}
  cal : Cal := {}
  hif : Hif := {}
  img : Img := {}
  rsq : Rsq := {}
  cin : Cin := {}
  sw : Sw := {}
  stg : Stg := {}
  nec : Nec := {}
  mem : Mem := {}
  fab : Fab := {}
  tmg : Tmg := {}
  sec : Sec := {}
  saf : Saf := {}
  pair : Pair := {}
  log : Log := {}
  bg : Bg := {}
  deriving DecidableEq, Repr

/-- The board right after power-on, before its main rails are up (R33, R52, Table 3-2). DESIGN CHOICE (log entries 12, 17, 94). -/
def State.reset : State := {}

end Sys2Proof.Machine
end

