-- ==== Sys2Proof/Machine/Records.lean ====
section
/-! DEFINITION. The structure in force as the rest of the model reads it: the records of Tables 5-9 to 5-16 by kind and
key, their fields, and the quantities the chapters derive from them. -/

namespace Sys2Proof.Machine

/-- The section types in the order of `Img.sect` (Table 5-4). -/
def sectTypes : List Nat := [0x01, 0x02, 0x10, 0x11, 0x12, 0x13, 0x14, 0x15, 0x16]

/-- The place of a section type in `sectTypes`; 9 when it is none. -/
def sectIdx (typ : Nat) : Nat := sectTypes.findIdx (· = typ)

/-- The section a record kind belongs to, by place (Table 5-5); 9 for a kind of none. -/
def kindSect (kind : Nat) : Nat :=
  if kind = 0x01 ∨ kind = 0x02 ∨ kind = 0x03 then 0
  else if kind = 0x10 ∨ kind = 0x11 ∨ kind = 0x12 then 1
  else if kind = 0x20 ∨ kind = 0x21 ∨ kind = 0x22 then 2
  else if kind = 0x30 ∨ kind = 0x31 ∨ kind = 0x32 then 3
  else if kind = 0x40 then 4
  else if kind = 0x50 ∨ kind = 0x51 ∨ kind = 0x52 ∨ kind = 0x53 ∨ kind = 0x5F then 5
  else if kind = 0x60 then 6
  else if kind = 0x70 ∨ kind = 0x71 ∨ kind = 0x72 then 7
  else if kind = 0x80 then 8
  else 9

/-- The key of a record, with its kind (Table 5-5). -/
def recKey (r : Bytes) : Nat × Nat :=
  let k := byteAt r 0
  (k,
    if k = 0x01 ∨ k = 0x10 ∨ k = 0x5F then 0
    else if k = 0x12 then field r 4 3
    else if k = 0x31 ∨ k = 0x32 ∨ k = 0x51 ∨ k = 0x53 then field r 4 2
    else if k = 0x40 then byteAt r 5
    else if k = 0x52 then field r 4 3
    else if k = 0x60 then field r 4 3
    else byteAt r 4)

/-- A structure: the records of the nine sections, and which sections are in force. -/
structure Struct where
  sects : List (Option (List Bytes)) := List.replicate 9 none
  deriving DecidableEq, Repr, Inhabited

/-- The structure in force. -/
def State.struct (s : State) : Struct :=
  { sects := s.img.sect.toList.map fun x => if x.inForce then some x.recs else none }

/-- The records of a section. -/
def Struct.sect (t : Struct) (i : Nat) : List Bytes := ((t.sects[i]?).getD none).getD []

/-- Whether a section is in force. -/
def Struct.has (t : Struct) (i : Nat) : Bool := ((t.sects[i]?).getD none).isSome

/-- All records of a kind. -/
def Struct.all (t : Struct) (kind : Nat) : List Bytes := (t.sect (kindSect kind)).filter (byteAt · 0 = kind)

/-- The first record of a kind that `p` picks. -/
def Struct.find (t : Struct) (kind : Nat) (p : Bytes → Bool) : Option Bytes := (t.all kind).find? p

/-- The BOARD_CORE record. -/
def Struct.boardCore (t : Struct) : Option Bytes := (t.all 0x01).head?

/-- The SAFETY_CORE record. -/
def Struct.safetyCore (t : Struct) : Option Bytes := (t.all 0x10).head?

/-- TIME_INPUT of an input. -/
def Struct.timeInput (t : Struct) (i : Nat) : Option Bytes := t.find 0x02 (byteAt · 4 = i)

/-- OUTPUT_ALIGN of an output. -/
def Struct.outputAlign (t : Struct) (o : Nat) : Option Bytes := t.find 0x03 (byteAt · 4 = o)

/-- STALE of a route. -/
def Struct.stale (t : Struct) (r : Nat) : Option Bytes := t.find 0x11 (byteAt · 4 = r)

/-- TASTING of a route and an engine's source number. -/
def Struct.tasting (t : Struct) (r e : Nat) : Option Bytes :=
  t.find 0x12 (fun x => byteAt x 6 = r && field x 4 2 = e)

/-- PARTITION of a partition. -/
def Struct.partition (t : Struct) (p : Nat) : Option Bytes := t.find 0x20 (byteAt · 4 = p)

/-- EXPORT of a window. -/
def Struct.exportRec (t : Struct) (w : Nat) : Option Bytes := t.find 0x22 (byteAt · 4 = w)

/-- CORE_LS of a core. -/
def Struct.coreLs (t : Struct) (c : Nat) : Option Bytes := t.find 0x30 (byteAt · 4 = c)

/-- TASK_REGION of a core's task. -/
def Struct.taskRegion (t : Struct) (c k : Nat) : Option Bytes :=
  t.find 0x31 (fun x => byteAt x 4 = c && byteAt x 5 = k)

/-- CASK of a core. -/
def Struct.cask (t : Struct) (c k : Nat) : Option Bytes := t.find 0x32 (fun x => byteAt x 4 = c && byteAt x 5 = k)

/-- CONNECTION to a destination port. -/
def Struct.connection (t : Struct) (dst : Nat) : Option Bytes := t.find 0x40 (byteAt · 5 = dst)

/-- ROUTE of a slot. -/
def Struct.route (t : Struct) (r : Nat) : Option Bytes := t.find 0x50 (byteAt · 4 = r)

/-- The NODE records of a route. -/
def Struct.nodes (t : Struct) (r : Nat) : List Bytes := (t.all 0x51).filter (byteAt · 4 = r)

/-- A NODE of a route. -/
def Struct.node (t : Struct) (r n : Nat) : Option Bytes := (t.nodes r).find? (byteAt · 5 = n)

/-- The EDGE records of a route. -/
def Struct.edges (t : Struct) (r : Nat) : List Bytes := (t.all 0x52).filter (byteAt · 4 = r)

/-- The SLOT records of a route. -/
def Struct.slots (t : Struct) (r : Nat) : List Bytes := (t.all 0x53).filter (byteAt · 4 = r)

/-- SLOT_CYCLE in µs. -/
def Struct.slotCycle (t : Struct) : Nat := ((t.all 0x5F).head?.map (field · 4 4)).getD 0

/-- STAGE_PARAMS of a stage and block number. -/
def Struct.stageParams (t : Struct) (stage b : Nat) : Option Bytes :=
  t.find 0x60 (fun x => field x 4 2 = stage && byteAt x 6 = b)

/-- PORT of a camera port. -/
def Struct.port (t : Struct) (p : Nat) : Option Bytes := t.find 0x70 (byteAt · 4 = p)

/-- CONTEXT of a camera context. -/
def Struct.context (t : Struct) (c : Nat) : Option Bytes := t.find 0x71 (byteAt · 4 = c)

/-- PIPE_PARAMS of a set. -/
def Struct.pipeParams (t : Struct) (x : Nat) : Option Bytes := t.find 0x72 (byteAt · 4 = x)

/-- PROGRAM of a program number. -/
def Struct.program (t : Struct) (p : Nat) : Option Bytes := t.find 0x80 (byteAt · 4 = p)

/-- A field of BOARD_CORE, or 0 with no BOARD section in force. -/
def Struct.boardField (t : Struct) (o n : Nat) : Nat := (t.boardCore.map (field · o n)).getD 0

/-- BOARD_ID in the domain; 0 with no BOARD section in force. DESIGN CHOICE (log entry 3). -/
def Struct.boardId (t : Struct) : Nat := t.boardField 13 1

/-- OUT_EN bit of BOARD_CORE. -/
def Struct.outEn (t : Struct) (i : Nat) : Bool := bit (t.boardField 8 4) i

/-- LNK_EN of a port. -/
def Struct.lnkEn (t : Struct) (n : Nat) : Bool := bit (t.boardField 7 1) n

/-- LNK_SEALED of a port. -/
def Struct.lnkSealed (t : Struct) (n : Nat) : Bool := bit (t.boardField 12 1) n

/-- The power profile that applies (R18, R190). -/
def Struct.profile (t : Struct) : Profile :=
  match t.boardField 4 1 with
  | 1 => .field
  | 3 => .rack
  | _ => .road

/-- Neural clock of a profile in MHz (Table 1-5). -/
def Profile.mhz : Profile → Nat
  | .field => 550
  | .road => 900
  | .rack => 1100

/-- Board input power limit of a profile in mW (Table 1-5). -/
def Profile.limit : Profile → Nat
  | .field => 60000
  | .road => 140000
  | .rack => 320000

/-- ENABLED of a PARTITION record (Table 5-11). -/
def Struct.partEnabled (t : Struct) (p : Nat) : Bool := ((t.partition p).map fun r => bit (byteAt r 5) 0).getD false

/-- SAFETY_QUEUES of a PARTITION record. -/
def Struct.partSafety (t : Struct) (p : Nat) : Bool := ((t.partition p).map fun r => bit (byteAt r 5) 1).getD false

/-- ROUTE_MASK of a partition. -/
def Struct.partRoutes (t : Struct) (p : Nat) : Nat := ((t.partition p).map (field · 10 2)).getD 0

/-- Engine weight of a partition, 1 for PF0 and for a partition without a record. DESIGN CHOICE (log entry 4). -/
def Struct.weight (t : Struct) (p : Nat) : Nat := ((t.partition p).map fun r => max 1 (byteAt r 7)).getD 1

/-- MEM_BASE and MEM_SIZE of a partition. -/
def Struct.partMem (t : Struct) (p : Nat) : Nat × Nat :=
  ((t.partition p).map fun r => (field r 16 8, field r 24 8)).getD (0, 0)

/-- The partition whose ROUTE_MASK holds a route slot and that is enabled; 0 for none (R122, R698). -/
def Struct.routePart (t : Struct) (r : Nat) : Nat :=
  (((t.all 0x20).find? fun x => bit (byteAt x 5) 0 && bit (field x 10 2) r).map (byteAt · 4)).getD 0

/-- SAFETY_CLASS of a route. -/
def Struct.safetyClass (t : Struct) (r : Nat) : Bool := ((t.route r).map fun x => bit (byteAt x 5) 0).getD false

/-- The route a core belongs to (CORE_LS.ROUTE), none when free or absent. -/
def Struct.coreRoute (t : Struct) (c : Nat) : Option Nat :=
  match (t.coreLs c).map (byteAt · 6) with
  | some r => if r = 0xFF then none else some r
  | none => none

/-- The partition whose board memory holds a local address; 0 for none (Table 15-3, PART). -/
def Struct.addrPart (t : Struct) (a : Nat) : Nat :=
  (((t.all 0x20).find? fun x => field x 16 8 ≤ a && a < field x 16 8 + field x 24 8).map (byteAt · 4)).getD 0

/-- The PINNED region that covers a local address, as its record. -/
def Struct.pinned (t : Struct) (a : Nat) : Option Bytes :=
  t.find 0x21 (fun x => byteAt x 5 = 2 && decide (field x 16 8 ≤ a) && decide (a < field x 16 8 + field x 24 8))

/-- The exported window that covers a local address. -/
def Struct.window (t : Struct) (a : Nat) : Option Bytes :=
  t.find 0x22 (fun x => decide (field x 8 8 ≤ a) && decide (a < field x 8 8 + field x 16 8))

/-- The first byte beyond board memory (R30, R463). -/
def State.memTop (s : State) : Nat := if s.top.eccOn then 240 * 2 ^ 30 else 256 * 2 ^ 30

/-- The first address of the PINNED window space (Table 11-2). -/
def pinnedBase : Nat := 0xF000000000

/-- Whether `n` bytes from local address `a` lie in board memory. -/
def State.inBoardMem (s : State) (a n : Nat) : Bool := decide (a + n ≤ s.memTop)

/-- Whether `n` bytes from local address `a` lie in a partition's board memory. -/
def Struct.inPart (t : Struct) (p a n : Nat) : Bool :=
  decide ((t.partMem p).1 ≤ a) && decide (a + n ≤ (t.partMem p).1 + (t.partMem p).2)

/-- Whether `n` bytes from `a` lie in one PINNED region that `p` may use: its PART is 0 or `p` (R433). -/
def Struct.inPinned (t : Struct) (p a n : Nat) : Bool :=
  (t.all 0x21).any fun x =>
    byteAt x 5 = 2 && (byteAt x 6 = 0 || byteAt x 6 = p) && decide (field x 16 8 ≤ a) &&
      decide (a + n ≤ field x 16 8 + field x 24 8)

/-- The source number of a route slot, a partition, a context, a core (Table 1-8). -/
def srcRoute (r : Nat) : Nat := 0x0C0 + r
def srcPart (p : Nat) : Nat := 0x110 + p
def srcCtx (c : Nat) : Nat := 0x020 + c
def srcCore (c : Nat) : Nat := 0x080 + c
def srcPort (p : Nat) : Nat := 0x0E0 + p
def srcMem : Nat := 0x0D0
def srcCel : Nat := 0x0D1
def srcSec : Nat := 0x0F0
def srcSaf : Nat := 0x0F8
def srcMgt : Nat := 0x100

end Sys2Proof.Machine
end

