-- ==== Sys2Proof/Machine/Ops.lean ====
section
/-! DEFINITION. The named operations every family shares: time, outputs, the ledger's entries (R685 to R692), partition
events (R148), board memory with poison (R459, R460, R673, R717), queues and the fixing of a command's status (R129, R680). -/

namespace Sys2Proof.Machine

/-! Time. The board's clock counts TMG cycles of 1.25 ns. -/

/-- The integer nanoseconds of the GTC (R23). -/
def State.gtcNs (s : State) : Nat := s.tmg.gtc / 2 ^ 48 % 2 ^ 64

/-- Clock ticks of `n` nanoseconds, rounded up. DESIGN CHOICE (log entry 130). -/
def nsTicks (n : Nat) : Nat := (4 * n + 4) / 5

/-- Clock ticks of `n` microseconds. DESIGN CHOICE (log entry 130). -/
def usTicks (n : Nat) : Nat := 800 * n

/-- Clock ticks of `n` milliseconds. DESIGN CHOICE (log entry 130). -/
def msTicks (n : Nat) : Nat := 800000 * n

/-- Clock ticks of `n` seconds. DESIGN CHOICE (log entry 130). -/
def secTicks (n : Nat) : Nat := 800000000 * n

/-- `t` ticks have passed since the clock read `start`. DESIGN CHOICE (log entry 130). -/
def State.due (s : State) (start t : Nat) : Bool := decide (start + t ≤ s.clk)

/-- Send something to the outside. DESIGN CHOICE (log entry 20). -/
def State.emit (s : State) (o : Out) : State := { s with out := s.out ++ [o] }

/-- Send several things, in order. -/
def State.emitAll (s : State) (o : List Out) : State := { s with out := s.out ++ o }

/-- Use one free value. DESIGN CHOICE (log entry 16). -/
def State.useFree (s : State) : State := { s with free := s.free + 1 }

/-- `n` free bytes. DESIGN CHOICE (log entry 16). -/
def State.freeBytes (s : State) (n : Nat) : Bytes := (List.range n).map fun i => Config.memFree s.free i

/-! The ledger. -/

/-- `a` stands before `b` in the order of R688 and R142: BOOT, STEPS, GTC, source. -/
def LogEntry.before (a b : LogEntry) : Bool :=
  let ka := [a.boot.toNat, a.steps, a.gtc, a.source]
  let kb := [b.boot.toNat, b.steps, b.gtc, b.source]
  decide (ka < kb)

/-- The capacity of the on-die buffer (Table 15-1). -/
def logCap : Nat := 8192

/-- Count a loss (R692): LOG_LOST, the pending LEDGER_GAP and the mark of the next entry written. -/
def Log.lose (l : Log) (e : LogEntry) : Log :=
  { l with
    lost := satN 0xFFFFFFFF (l.lost + 1)
    gapMark := true
    gap := match l.gap with
      | none => some (e.seq.toNat, 1, e.cls)
      | some (f, n, c) => some (f, n + 1, max c e.cls) }

/-- Drop the oldest entry of class `c`. -/
def dropOldest (c : Nat) : List LogEntry → List LogEntry
  | [] => []
  | e :: t => if e.cls = c then t else e :: dropOldest c t

/-- Put an entry that has its SEQ into the on-die buffer, making room as R692 says. -/
def Log.place (l : Log) (e : LogEntry) : Log :=
  let put (l : Log) : Log :=
    { l with buf := l.buf ++ [{ e with gapBefore := l.gapMark }], gapMark := false, last := some e }
  if l.buf.length < logCap then put l
  else
    let c := (l.buf.map (·.cls)).foldl min 7
    if e.cls ≤ 1 ∨ e.cls < c then l.lose e
    else
      match l.buf.find? (·.cls = c) with
      | none => l.lose e
      | some x => put ({ l with buf := dropOldest c l.buf }.lose x)

/-- Append an entry: it takes the next SEQ (R686) and goes into the buffer. DEDUCED (log entry 91). -/
def Log.append (l : Log) (e : LogEntry) : Log :=
  { l with seq := l.seq + 1 }.place { e with seq := l.seq }

/-- Write the LEDGER_GAP entry of pending losses when the buffer has room for it (R692). DEDUCED (log entry 91). -/
def Log.reportGap (l : Log) (gtc : Nat) : Log :=
  match l.gap with
  | none => l
  | some (f, n, c) =>
    let low := (l.buf.map (·.cls)).foldl min 7
    if l.buf.length < logCap ∨ (2 ≤ c ∧ low ≤ c) then
      { l with gap := none }.append
        { gtc := gtc, source := srcMgt, cls := c, code := 0x0004, steps := l.steps, boot := l.boot, args := [f, n] }
    else l

/-- Append and report what was lost. -/
def Log.appendAll (l : Log) (gtc : Nat) (e : LogEntry) : Log := (l.append e).reportGap gtc

/-- An entry reaches the reorder stage, or is appended at once as LATE (R688). -/
def Log.enter (l : Log) (gtc : Nat) (e : LogEntry) : Log :=
  match l.last with
  | some x => if e.before x then l.appendAll gtc { e with late := true } else { l with reorder := l.reorder ++ [e] }
  | none => { l with reorder := l.reorder ++ [e] }

/-- The COALESCED entries of one rate-limited pair (R690). -/
def Rate.entries (l : Log) (r : Rate) (gtc : Nat) : List LogEntry :=
  r.rest.map fun c =>
    { gtc := gtc, source := r.source, cls := c.cls, code := 0x0005, part := c.part, tenant := c.tenant,
      coalesced := true, steps := l.steps, boot := l.boot, args := [r.code, c.count, c.first, c.last] }

/-- End the present GTC second (R690). DEDUCED (log entry 91). -/
def Log.endSecond (l : Log) (gtc : Nat) : Log :=
  let es := l.rates.flatMap fun r => r.entries l gtc
  es.foldl (fun l e => l.enter gtc e) ({ l with rates := [], second := gtc / 1000000000 } : Log)

/-- Count an entry beyond the tenth of its pair's second (R690). -/
def Rate.count (r : Rate) (e : LogEntry) : Rate :=
  match r.rest.find? (·.part = e.part) with
  | none => { r with rest := r.rest ++ [{ part := e.part, cls := e.cls, count := 1, first := e.gtc, last := e.gtc, tenant := e.tenant }] }
  | some _ =>
    { r with rest := r.rest.map (fun c => if c.part = e.part then { c with count := c.count + 1, last := e.gtc, tenant := c.tenant || e.tenant } else c) }

/-- The rate limit of R690 in front of the reorder stage: classes 0 to 2 take at most ten entries of a pair in a second. -/
def Log.limited (l : Log) (gtc : Nat) (e : LogEntry) : Log :=
  let l := if gtc / 1000000000 = l.second then l else l.endSecond gtc
  if 2 < e.cls ∨ e.code = 0x0004 ∨ e.code = 0x0005 then l.enter gtc e
  else
    let mine (r : Rate) : Bool := r.source = e.source && r.code = e.code
    match l.rates.find? mine with
    | none => ({ l with rates := l.rates ++ [{ source := e.source, code := e.code, written := 1 }] } : Log).enter gtc e
    | some r =>
      if r.written < 10 then
        ({ l with rates := l.rates.map (fun r => if mine r then { r with written := r.written + 1 } else r) } : Log).enter gtc e
      else
        { l with
          rates := l.rates.map (fun r => if mine r then r.count e else r)
          coalesced := satN 0xFFFFFFFF (l.coalesced + 1) }

/-- The partitions whose routes an engine is running a node of (R687, R698), bit per partition. -/
def State.ranBy (s : State) (source : Nat) : Nat :=
  (List.range 16).foldl (fun m r =>
    match s.rsq.routes[r]? with
    | none => m
    | some x =>
      if x.frames.any fun f => f.nodes.any fun n => n.st = .running && n.engine = source then m ||| 2 ^ s.struct.routePart r else m) 0

/-- Write a ledger entry (R22, R685, R687, R689). DEDUCED (log entry 91). DESIGN CHOICE (log entry 93). -/
def State.note (s : State) (source cls code part : Nat) (args : List Nat) (tenant : Bool := false) : State :=
  let ran := s.ranBy source
  let e : LogEntry :=
    { gtc := s.gtcNs, source := source, cls := cls, code := code, part := part
      tenant := tenant || decide (0 < part) || decide (1 < ran), steps := s.log.steps, boot := s.log.boot, ran := ran, args := args }
  { s with log := s.log.limited s.gtcNs e }

/-! Partition events. -/

/-- The vector of an event class (Table 4-7). -/
def Fn.vector (f : Fn) (c : Nat) : Nat :=
  let w := if c < 4 then f.vec0 else f.vec1
  bits w.toNat (8 * (c % 4) + 5) (8 * (c % 4))

/-- Insert an event behind those of its stamp that go before it (R148). -/
def insertEvent (e : Nat × Nat × Nat) : List (Nat × Nat × Nat) → List (Nat × Nat × Nat)
  | [] => [e]
  | x :: t => if e.1 = x.1 ∧ e.2.1 < x.2.1 then e :: x :: t else x :: insertEvent e t

/-- Send the MSI-X messages of the events whose stamp has passed (R148). DESIGN CHOICE (log entry 35). -/
def State.sendEvents (s : State) : State :=
  let now := s.gtcNs
  let outs := (List.range 16).flatMap fun i =>
    match s.hif.fns[i]? with
    | none => []
    | some f => (f.events.filter (·.1 ≠ now)).map fun e => Out.msix i (f.vector e.2.2)
  if outs.isEmpty then s
  else
    { s with
      out := s.out ++ outs
      hif := { s.hif with fns := s.hif.fns.map fun f => { f with events := f.events.filter (·.1 = now) } } }

/-- Raise partition event class `c` of a function, from a source (Table 4-6, R148). A VF that is not enabled has no
registers to raise it in. -/
def State.event (s : State) (f c source : Nat) : State :=
  if h : f < 16 then
    let fn := s.hif.fns[f]
    let fn := { fn with cause := fn.cause ||| (1 <<< c), events := insertEvent (s.gtcNs, source, c) fn.events }
    { s with hif := { s.hif with fns := s.hif.fns.set f fn } }
  else s

/-- Raise an event class on every function the board exposes. -/
def State.eventAll (s : State) (c source : Nat) : State :=
  (List.range 16).foldl (fun s f => if f = 0 ∨ (s.struct.partEnabled f = true) then s.event f c source else s) s

/-! Board memory. -/

/-- What an address of the memory that nothing has written reads as: zero after the initialisation of R718 and in a PINNED
window (R468), free in an era whose contents are undefined (R569). DESIGN CHOICE (log entries 15, 21). -/
def memDefault (era : Option Nat) (a : Nat) : Byte :=
  match era with
  | none => 0
  | some n => if a < pinnedBase then Config.memFree n a else 0

/-- Whether the canonical form lists a byte. -/
def memListed (era : Option Nat) (a : Nat) (b : Byte) : Bool :=
  b != 0 || (era.isSome && decide (a < pinnedBase))

/-- The canonical form of the memory's cells: addresses rising strictly; with every unlisted byte zero, no zero is
listed; in an era of undefined contents a written byte of board memory is listed whatever it is. -/
def cellsOk (era : Option Nat) : List Host.Cell → Bool
  | [] => true
  | [(x, v)] => memListed era x v
  | (x, v) :: (y, w) :: t => decide (x < y) && memListed era x v && cellsOk era ((y, w) :: t)

/-- Strictly rising numbers. -/
def rising : List Nat → Bool
  | [] => true
  | [_] => true
  | x :: y :: t => decide (x < y) && rising (y :: t)

/-- The canonical form of board memory (cells and poisoned sectors). -/
def Memory.wf (m : Mem) : Bool := cellsOk m.era m.cells && rising m.poison

/-- The byte at a local address. DEDUCED (log entry 116). -/
def Mem.get (m : Mem) (a : Nat) : Byte :=
  match alookup m.cells a with
  | some b => b
  | none => memDefault m.era a

/-- `n` bytes from a local address. -/
def Mem.read (m : Mem) (a n : Nat) : Bytes := (List.range n).map fun i => m.get (a + i)

/-- Put one byte into the cells, keeping the canonical form. -/
def cellPut (era : Option Nat) (a : Nat) (b : Byte) : List Host.Cell → List Host.Cell
  | [] => if memListed era a b then [(a, b)] else []
  | (x, v) :: t =>
    if a < x then (if memListed era a b then (a, b) :: (x, v) :: t else (x, v) :: t)
    else if a = x then (if memListed era a b then (a, b) :: t else t)
    else (x, v) :: cellPut era a b t

/-- Put bytes from an address on, one by one: the plain definition of a write. -/
def cellPutAll (era : Option Nat) (m : List Host.Cell) (a : Nat) : Bytes → List Host.Cell
  | [] => m
  | b :: bs => cellPutAll era (cellPut era a b m) (a + 1) bs

/-- The listed cells of bytes laid from `a` on. -/
def cellRun (era : Option Nat) (a : Nat) : Bytes → List Host.Cell
  | [] => []
  | b :: bs => if memListed era a b then (a, b) :: cellRun era (a + 1) bs else cellRun era (a + 1) bs

/-- A write of a run of bytes. -/
def memWrite (era : Option Nat) (m : List Host.Cell) (a : Nat) (bs : Bytes) : List Host.Cell :=
  m.filter (·.1 < a) ++ cellRun era a bs ++ m.filter (a + bs.length ≤ ·.1)

/-- The 64-byte sectors that `n` bytes from `a` touch. -/
def sectorsOf (a n : Nat) : List Nat :=
  if n = 0 then [] else (List.range ((a + n - 1) / 64 - a / 64 + 1)).map (· + a / 64)

/-- Remove a number from a rising list. -/
def nrem (l : List Nat) (k : Nat) : List Nat := l.filter (· ≠ k)

/-- Whether any of `n` bytes from `a` lies in a poisoned sector (R459). -/
def Mem.poisoned (m : Mem) (a n : Nat) : Bool := (sectorsOf a n).any fun k => m.poison.contains k

/-- The poison of the sectors a write touches: a poisoned write marks them, a clean write of all 64 bytes cleans one, and a
clean partial write leaves it as it is (R459, R673, R717). -/
def poisonAfter (old : List Nat) (a n : Nat) (poison : Bool) : List Nat :=
  (sectorsOf a n).foldl (fun l k =>
    if poison then nset l k
    else if a ≤ 64 * k ∧ 64 * k + 64 ≤ a + n then nrem l k else l) old

/-- The check sector of a block is rewritten in MEM's buffer (R461): it is read into the buffer first, unless it is there or all 15 data
sectors are written, and the one used longest ago leaves a full buffer for memory. DESIGN CHOICE (log entry 148). -/
def Mem.useCheck (m : Mem) (block : Nat) (whole : Bool) : Mem :=
  if m.checkBuf.contains block then { m with checkBuf := nrem m.checkBuf block ++ [block] }
  else
    let full := decide (Config.checkBufSize ≤ m.checkBuf.length)
    { m with
      checkBuf := (if full then m.checkBuf.drop 1 else m.checkBuf) ++ [block]
      checkReads := if whole then m.checkReads else m.checkReads + 1
      checkWrites := if full then m.checkWrites + 1 else m.checkWrites }

/-- The check sectors of the blocks, of 15 data sectors each, that a write touches (R457, R461). -/
def Mem.useChecks (m : Mem) (a n : Nat) : Mem :=
  if n = 0 then m
  else ((List.range ((a + n - 1) / 960 - a / 960 + 1)).map (· + a / 960)).foldl (fun m b =>
    m.useCheck b (decide (a ≤ 960 * b) && decide (960 * b + 960 ≤ a + n))) m

/-- Write bytes at a local address. With ECC off board memory holds no poison, and a poisoned write is counted and logged
instead (R460). DEDUCED (log entry 116). -/
def State.memWrite (s : State) (a : Nat) (bs : Bytes) (poison : Bool) : State :=
  let keeps := s.top.eccOn || decide (pinnedBase ≤ a)
  let k := if s.top.eccOn && decide (a < pinnedBase) then s.mem.useChecks a bs.length else s.mem
  let m := { s.mem with
    cells := Sys2Proof.Machine.memWrite s.mem.era s.mem.cells a bs
    poison := if keeps then poisonAfter s.mem.poison a bs.length poison else s.mem.poison
    checkBuf := k.checkBuf, checkReads := k.checkReads, checkWrites := k.checkWrites }
  if poison && !keeps && !bs.isEmpty then
    let p := s.struct.addrPart a
    let s := { s with mem := { m with poisonWr := satN 0xFFFFFFFF (m.poisonWr + 1) } }
    let s := s.note srcMem 2 0x0105 p [a]
    if 0 < p then s.event p 3 srcMem else s
  else { s with mem := m }

/-- Write bytes at a local address, each 64-byte piece of the range poisoned as `pz` says for its sector. -/
def State.memWriteMixed (s : State) (a : Nat) (bs : Bytes) (pz : Nat → Bool) : State :=
  (sectorsOf a bs.length).foldl (fun s k =>
    let lo := max a (64 * k)
    let hi := min (a + bs.length) (64 * k + 64)
    s.memWrite lo ((bs.drop (lo - a)).take (hi - lo)) (pz k)) s

/-! Queues. -/

/-- The queue `q` of function `f`. -/
def State.queue (s : State) (f q : Nat) : Queue := agetD s.hif.queues (64 * f + q) {}

/-- Replace a queue. -/
def State.setQueue (s : State) (f q : Nat) (x : Queue) : State :=
  { s with hif := { s.hif with queues := aset s.hif.queues (64 * f + q) x } }

/-- The opcode of a fetched command, its flags and its fields (Table 4-4). -/
def Cmd.opcode (c : Cmd) : Nat := byteAt c.desc 0
def Cmd.flags (c : Cmd) : Nat := byteAt c.desc 1
def Cmd.seq (c : Cmd) : Nat := field c.desc 4 4
def Cmd.target (c : Cmd) : Nat := field c.desc 8 2
def Cmd.length (c : Cmd) : Nat := field c.desc 12 4
def Cmd.addr0 (c : Cmd) : Nat := field c.desc 16 8
def Cmd.addr1 (c : Cmd) : Nat := field c.desc 24 8
/-- `n` bytes of PARAM from byte `o`. -/
def Cmd.param (c : Cmd) (o n : Nat) : Nat := field c.desc (32 + o) n

/-- Fix a command's status (R680): a command that Table 4-2 executes writes its status byte to the history region
(R129), and a POISONED or UNCORRECTED one raises partition event class 3 (Table 4-6). -/
def State.fix (s : State) (f q pos status detail source : Nat) : State :=
  let x := s.queue f q
  match x.cmds.find? (fun c => c.pos = pos && !c.fixed) with
  | none => s
  | some c =>
    let y := { x with
      cmds := x.cmds.map fun c => if c.pos = pos then { c with begun := true, fixed := true, outcome := some (status, detail, source) } else c
      hist := if c.kind = .execute then aset x.hist (c.seq % 65536) status else x.hist }
    let s := s.setQueue f q y
    if c.kind = .execute then
      let s := if status = 0x20 ∨ status = 0x21 then s.event f 3 (srcPart f) else s
      s.emit (.hostWrite f (x.histBase.toNat + c.seq % 65536) [BitVec.ofNat 8 status] false)
    else s

/-- Complete a command NOT_PERMITTED, from the partition's source number (R132). DEDUCED (log entry 58). -/
def State.refuse (s : State) (f q pos detail : Nat) : State := s.fix f q pos 0x32 detail (srcPart f)

/-- Change one command. -/
def State.setCmd (s : State) (f q pos : Nat) (g : Cmd → Cmd) : State :=
  let x := s.queue f q
  s.setQueue f q { x with cmds := x.cmds.map fun c => if c.pos = pos then g c else c }

/-- A command has started and carries this outcome until its last effect takes place (R680). DESIGN CHOICE (log entry 48). -/
def State.underWay (s : State) (f q pos status detail source : Nat) : State :=
  s.setCmd f q pos fun c => { c with begun := true, outcome := some (status, detail, source) }

/-- The command a host-command row starts: the oldest command of the queue that has not begun, if it is to be executed,
carries the opcode, and no FENCE in front of it still waits (R136, R139). Once a tenant switch has begun, no command of a VF
starts (Table 13-14 step 1). DEDUCED (log entry 55). -/
def State.front (s : State) (f q opcode : Nat) : Option Cmd :=
  let cs := (s.queue f q).cmds.filter fun c => c.kind = .execute
  let blocked := cs.any fun c => c.opcode = 0x01 && c.begun && !c.fixed
  match cs.find? (fun c => !c.begun && !c.fixed) with
  | some c => if !blocked && c.opcode = opcode && (f = 0 || s.sec.switch.isNone) then some c else none
  | none => none

end Sys2Proof.Machine
end

