-- ==== Sys2Proof/Machine/Flags.lean ====
section
/-! DEFINITION. The flags of records (R248, R621, R636 to R638, R672), and SAF's shared operations: latching a cause (R623,
R624), entering the safe state (R619 to R622, R628) and the CAN FD payload (R630). -/

namespace Sys2Proof.Machine

/-- SAF is in a safe state (Table 14-2). -/
def State.inSafeState (s : State) : Bool :=
  match s.saf.st with
  | .markInvalid => true
  | .escalating => true
  | .powerOff => true
  | _ => false

/-- The thermal state that the exit from the safe state leaves: CRITICAL ends once the board is below 115 °C (Table 14-8,
R617). -/
def Saf.afterSafe (x : Saf) (limit : Nat) : Thermal :=
  if x.thermal = .critical ∧ x.temp < 115 then (if 105 ≤ x.temp ∨ limit < x.power then .throttle else .normal) else x.thermal

/-- Number of a SAF state (Table 14-2). -/
def SafSt.code : SafSt → Nat
  | .disarmed => 0
  | .arming => 1
  | .running => 2
  | .markInvalid => 3
  | .escalating => 4
  | .powerOff => 5

/-- A record of a route published now is older than its MAX_AGE (R637): `exposure` is its GTC_EXPOSURE, `t` the structure that governs its
frame (R199). -/
def State.tooOld (s : State) (t : Struct) (route exposure : Nat) : Bool :=
  match t.stale route with
  | some r => decide (field r 8 4 * 1000 < s.gtcNs - exposure)
  | none => false

/-- A record published now carries STALE (R621, R637). -/
def State.staleNow (s : State) (t : Struct) (route exposure : Nat) : Bool := s.inSafeState || s.tooOld t route exposure

/-- FLAGS of a record header (Table 6-5). -/
def flagWord (stale unrefined poison skipped tasting overlay ambiguous : Bool) : Nat :=
  b2n stale + 2 * b2n unrefined + 4 * b2n poison + 8 * b2n skipped + 16 * b2n tasting + 32 * b2n overlay + 64 * b2n ambiguous

/-- A FRAME_DONE is valid (R638). -/
def frameDoneValid (status flags : Nat) : Bool :=
  (status = 0x00 || status = 0x41) && !bit flags 0 && !bit flags 2 && !bit flags 3 && !bit flags 4

/-- SAF's firmware runs. -/
def State.safRuns (s : State) : Bool := s.pwr.auxGood && !s.saf.dead && !s.fw.safRomOnly

/-- SAFE_STATE of the SAFETY section is POWER_OFF (Table 5-10). -/
def State.powerOffChosen (s : State) : Bool := decide (s.struct.safetyCore.map (byteAt · 5) = some 2)

/-- The enable in force at an output that waits for BOARD enablement, as PWR_PIN_EN numbers it (R59, R64, R78, R80): with power and
neither reset input asserted, what the BOARD section enables; while main power is lost, the CAN ports, and SAFE_OFF_N if POWER_OFF
is chosen (Table 2-6). -/
def State.pinOn (s : State) (i : Nat) : Bool :=
  s.pwr.auxGood && !s.pwr.perst && !s.pwr.brdRst &&
    (if s.pwr.mainGood then (s.pwr.pinEn ||| s.pwr.finishing).getLsbD i
     else s.struct.outEn i && (i = 2 || i = 3 || (i = 1 && s.powerOffChosen)))

/-- A CAN port is enabled at its pins: 0 CAN_A, 1 CAN_B. -/
def State.canOn (s : State) (port : Nat) : Bool := s.pinOn (2 + port)

/-- SAFE_OFF_N changes its level, where the board drives it (R59, R627). -/
def State.driveSafeOff (s : State) (on : Bool) : State := if s.pinOn 1 then s.emit (.safeOff on) else s

/-- VALID of Table 14-5. -/
def State.canValid (s : State) : Nat :=
  if s.saf.st ≠ .running then 0
  else ((List.range 16).map fun r =>
    match s.saf.last[r]?, s.struct.stale r with
    | some (some (true, at_)), some st => if s.clk ≤ at_ + usTicks (field st 12 4) then 2 ^ r else 0
    | _, _ => 0).foldl (· + ·) 0

/-- The CAN FD payload (Table 14-5): TYPE 1 SAFE_EVENT, 2 HEARTBEAT. -/
def State.canPayload (s : State) (typ : Nat) (alive : BitVec 8) : Bytes :=
  let b := leBytes 1 typ ++ [alive] ++ leBytes 1 s.saf.st.code ++ leBytes 1 s.saf.cause ++ leBytes 2 s.canValid
    ++ leBytes 1 s.struct.boardId ++ [0] ++ leBytes 4 (s.gtcNs / 1024)
  b ++ leBytes 4 (crc32 b)

/-- CAN_ID_BASE (Table 5-10). -/
def State.canBase (s : State) : Nat := (s.struct.safetyCore.map (field · 10 2)).getD 0

/-- Send one CAN FD frame on each enabled port (R628, R630). -/
def State.sendCan (s : State) (ident typ : Nat) (alive : BitVec 8) : State :=
  let p := s.canPayload typ alive
  s.emitAll (((List.range 2).filter s.canOn).map fun i => .can i ident p)

/-- MGT_PAIR_CTL.ENABLE and PEER (Table 14-10). -/
def Pair.enabled (p : Pair) : Bool := bit p.ctl.toNat 8
def Pair.peer (p : Pair) : Nat := bits p.ctl.toNat 7 0

/-- SAF changes its state: partition event class 7 on every function (Table 4-6). -/
def State.setSaf (s : State) (st : SafSt) : State :=
  if s.saf.st = st then s else ({ s with saf := { s.saf with st := st } }).eventAll 7 srcSaf

/-- Enter the safe state on a cause (R619 to R622, Table 14-4 step 5), or only log a later cause. `hw` is the entry in
hardware of R612 and R613. DEDUCED (log entry 110). -/
def State.enterSafe (s : State) (cause gtc source : Nat) (hw : Bool) : State :=
  if s.inSafeState then s.note srcSaf 6 0x0600 0 [cause, s.saf.st.code]
  else
    let off := s.powerOffChosen
    let s := { s with saf := { s.saf with
      cause := cause, causeGtc := gtc, causeSrc := source, entryAt := s.clk
      okToggling := false, dead := s.saf.dead || hw, safeOff := s.saf.safeOff || (hw && off) } }
    let s := (s.setSaf .markInvalid).note srcSaf 6 0x0600 0 [cause, SafSt.markInvalid.code]
    let s := if hw && off then s.driveSafeOff true else s
    let alive := s.saf.aliveEvent + 1
    let s := { s with saf := { s.saf with aliveEvent := alive } }
    let s := s.sendCan s.canBase 0x01 alive
    let s := if s.pair.enabled then s.emit (.mgmt s.pair.peer (Config.eventCode "PAIR_FAIL") []) else s
    if off then s.setSaf .escalating else s

/-- A checker latches a cause with its stamp and source (R623, R624): while armed; MAIN_POWER also while disarmed if
SAFE_OFF_N or SAFE_OK is enabled. -/
def State.latchCause (s : State) (cause source : Nat) : State :=
  let acts := s.top.armed || (decide (cause = 0x09) && (s.struct.outEn 0 || s.struct.outEn 1))
  if acts then { s with saf := { s.saf with events := s.saf.events ++ [{ cause := cause, gtc := s.gtcNs, source := source }] } }
  else s

/-- The debug features in force, in the layout of Table 13-12 (R603). DESIGN CHOICE (log entry 42). DEDUCED (log entry 67). -/
def State.debugFeatures (s : State) : Nat :=
  if !s.pinOn 9 || s.sec.debugOff then 0
  else match s.top.base with
    | .opened => 0x1F
    | .confidential => (s.sec.consent.map fun t => field t 112 4 % 32).getD 0

/-- A core is held by the debug port: halted, with no step pending, while NEC_DEBUG is in force and the board is not armed
(R603, R605). DESIGN CHOICE (log entry 42). -/
def State.heldByDebug (s : State) (x : Core) : Bool := x.halted && !x.stepOne && bit s.debugFeatures 2 && !s.top.armed

end Sys2Proof.Machine
end

