-- ==== Sys2Proof/Machine/Aes.lean ====
section
/-! DEFINITION. AES-256 (FIPS 197) and the modes the spec names: GCM (NIST SP 800-38D; R489, R491, R575, Table 13-9), XTS (IEEE 1619;
R462) and the key wrap AES-KW (RFC 3394; Table 13-9); with the arithmetic of GF(2^8) that R598 shares with the cipher. -/

namespace Sys2Proof.Machine

/-! GF(2^8). -/

/-- Product in GF(2^8) with x^8 + x^4 + x^3 + x + 1 (R598, FIPS 197). -/
def gfMul (a b : Nat) : Nat :=
  let step (x : Nat × Nat) (i : Nat) : Nat × Nat :=
    let d := 2 * x.1
    (if 256 ≤ d then d ^^^ 0x11B else d, if bit b i then x.2 ^^^ x.1 else x.2)
  ((List.range 8).foldl step (a, 0)).2

/-- The inverse in GF(2^8), of 0 too: the 254th power. -/
def gfInv (a : Nat) : Nat :=
  let square (x : Nat) : Nat := gfMul x x
  ((List.range 7).foldl (fun (x : Nat × Nat) _ => (square x.1, gfMul x.2 (square x.1))) (a, 1)).2

/-! The cipher. -/

/-- The S-box: the inverse, then the affine map. -/
def sboxOf (a : Nat) : Nat :=
  let b := gfInv a
  ((List.range 5).foldl (fun x k => x ^^^ ((b * 2 ^ k) % 256 + b * 2 ^ k / 256)) 0) ^^^ 0x63

/-- The S-box and its inverse as tables. -/
def sboxTable : Array Nat := ((List.range 256).map sboxOf).toArray
def sboxInvTable : Array Nat :=
  ((List.range 256).foldl (fun (t : Array Nat) a => t.setIfInBounds (sboxOf a) a) (Array.replicate 256 0))

/-- One byte through the S-box, or back. -/
def aesSub (b : Byte) : Byte := BitVec.ofNat 8 (sboxTable.getD b.toNat 0)
def aesSubInv (b : Byte) : Byte := BitVec.ofNat 8 (sboxInvTable.getD b.toNat 0)

/-- Two byte strings, XORed. -/
def xorBytes (a b : Bytes) : Bytes := List.zipWith (· ^^^ ·) a b

/-- The next word of the key schedule of AES-256; `w` holds the words so far, latest first. -/
def aesNextWord (w : List Bytes) (i : Nat) : List Bytes :=
  let t := w.getD 0 []
  let t :=
    if i % 8 = 0 then xorBytes ((t.drop 1 ++ t.take 1).map aesSub) [BitVec.ofNat 8 (2 ^ (i / 8 - 1)), 0, 0, 0]
    else if i % 8 = 4 then t.map aesSub
    else t
  xorBytes (w.getD 7 []) t :: w

/-- The 15 round keys of a 32-byte key. -/
def aesRoundKeys (key : Bytes) : List Bytes :=
  let w0 := (List.range 8).foldl (fun w i => slice key (4 * i) 4 :: w) []
  let w := ((List.range 52).foldl (fun w i => aesNextWord w (i + 8)) w0).reverse
  (List.range 15).map fun r => ((w.drop (4 * r)).take 4).flatMap id

/-- The rows of a state shifted by `k` times their number. -/
def aesShift (k : Nat) (s : Bytes) : Bytes := (List.range 16).map fun i => s.getD ((i + 4 * k * (i % 4)) % 16) 0

/-- The columns of a state multiplied by the circulant matrix of a first row. -/
def aesMix (row : List Nat) (s : Bytes) : Bytes :=
  (List.range 16).map fun i =>
    BitVec.ofNat 8 ((List.range 4).foldl (fun x j =>
      x ^^^ gfMul (byteAt s (4 * (i / 4) + j)) (row.getD ((j + 4 - i % 4) % 4) 0)) 0)

/-- AES-256 of one 16-byte block, with the round keys. -/
def aesBlock (rk : List Bytes) (b : Bytes) : Bytes :=
  let mid := ((rk.drop 1).take 13).foldl (fun s k => xorBytes (aesMix [2, 3, 1, 1] (aesShift 1 (s.map aesSub))) k) (xorBytes b (rk.getD 0 []))
  xorBytes (aesShift 1 (mid.map aesSub)) (rk.getD 14 [])

/-- AES-256 backwards. -/
def aesBlockInv (rk : List Bytes) (b : Bytes) : Bytes :=
  let first := (aesShift 3 (xorBytes b (rk.getD 14 []))).map aesSubInv
  let mid := (((rk.drop 1).take 13).reverse).foldl (fun s k => (aesShift 3 (aesMix [14, 11, 13, 9] (xorBytes s k))).map aesSubInv) first
  xorBytes mid (rk.getD 0 [])

/-! GCM. -/

/-- Product in GF(2^128) as GHASH has it: bit 127 of the number is the first bit of the block. -/
def ghashMul (x y : Nat) : Nat :=
  ((List.range 128).foldl (fun (p : Nat × Nat) i =>
    (if bit x (127 - i) then p.1 ^^^ p.2 else p.1, if p.2 % 2 = 1 then (p.2 / 2) ^^^ (0xE1 * 2 ^ 120) else p.2 / 2)) (0, y)).1

/-- A byte string cut into blocks of 16 bytes, the last one filled with zeros. -/
def blocks16 (b : Bytes) : List Bytes := (List.range ((b.length + 15) / 16)).map fun i =>
  let x := slice b (16 * i) (min 16 (b.length - 16 * i))
  x ++ List.replicate (16 - x.length) 0

/-- The GCM tag of a ciphertext under a 96-bit IV. -/
def gcmTag (rk : List Bytes) (iv aad ct : Bytes) : Bytes :=
  let h := ofBe (aesBlock rk (List.replicate 16 0))
  let lens := beBytes 8 (8 * aad.length) ++ beBytes 8 (8 * ct.length)
  let y := (blocks16 aad ++ blocks16 ct ++ [lens]).foldl (fun y b => ghashMul (y ^^^ ofBe b) h) 0
  xorBytes (beBytes 16 y) (aesBlock rk (iv ++ beBytes 4 1))

/-- The counter mode of GCM: encryption and decryption are the same. -/
def gcmCtr (rk : List Bytes) (iv b : Bytes) : Bytes :=
  ((blocks16 b).zipIdx.flatMap fun p => xorBytes p.1 (aesBlock rk (iv ++ beBytes 4 (p.2 + 2)))).take b.length

/-- AES-256-GCM encryption: the ciphertext, then the 16-byte tag. -/
def gcmSeal (key iv aad plain : Bytes) : Bytes :=
  let rk := aesRoundKeys key
  let ct := gcmCtr rk iv plain
  ct ++ gcmTag rk iv aad ct

/-- AES-256-GCM decryption: the plaintext, when the tag is right. -/
def gcmOpen (key iv aad ct tag : Bytes) : Option Bytes :=
  let rk := aesRoundKeys key
  if gcmTag rk iv aad ct = tag then some (gcmCtr rk iv ct) else none

/-! XTS. -/

/-- The tweak times α, as XTS stores it: little-endian in GF(2^128). -/
def xtsDouble (t : Nat) : Nat := if 2 ^ 127 ≤ t then (2 * t - 2 ^ 128) ^^^ 0x87 else 2 * t

/-- XTS-AES-256 encryption of a data unit of whole blocks, with its number: the first 32 bytes of the key are for the data, the
last 32 for the tweak. -/
def xtsEncrypt (key : Bytes) (unit : Nat) (plain : Bytes) : Bytes :=
  let rk := aesRoundKeys (key.take 32)
  let t0 := ofLe (aesBlock (aesRoundKeys (key.drop 32)) (leBytes 16 unit))
  ((blocks16 plain).foldl (fun (p : Bytes × Nat) b =>
    let t := leBytes 16 p.2
    (p.1 ++ xorBytes (aesBlock rk (xorBytes b t)) t, xtsDouble p.2)) ([], t0)).1

/-- XTS-AES-256 decryption of a data unit. -/
def xtsDecrypt (key : Bytes) (unit : Nat) (ct : Bytes) : Bytes :=
  let rk := aesRoundKeys (key.take 32)
  let t0 := ofLe (aesBlock (aesRoundKeys (key.drop 32)) (leBytes 16 unit))
  ((blocks16 ct).foldl (fun (p : Bytes × Nat) b =>
    let t := leBytes 16 p.2
    (p.1 ++ xorBytes (aesBlockInv rk (xorBytes b t)) t, xtsDouble p.2)) ([], t0)).1

/-! AES-KW. -/

/-- AES-KW unwrapping of a wrapped key of n + 1 words of 8 bytes; none when its check fails. -/
def kwUnwrap (key wrapped : Bytes) : Option Bytes :=
  let rk := aesRoundKeys key
  let n := wrapped.length / 8 - 1
  let r := (List.range n).map fun i => slice wrapped (8 * i + 8) 8
  let out := (List.range (6 * n)).foldl (fun (p : Bytes × List Bytes) k =>
    let t := 6 * n - k
    let i := (t - 1) % n
    let b := aesBlockInv rk (xorBytes p.1 (beBytes 8 t) ++ p.2.getD i [])
    (b.take 8, p.2.set i (b.drop 8))) (slice wrapped 0 8, r)
  if out.1 = List.replicate 8 0xA6 then some (out.2.flatMap id) else none

end Sys2Proof.Machine
end

