-- ==== Sys2Proof/Machine/Keys.lean ====
section
/-! DEFINITION. The board's keys (Table 13-2, R721 to R723) and the check of an operator's and a tenant's signatures. The elliptic
curve itself is uninterpreted; how its numbers stand in a format is written out (R6, R713). -/

namespace Sys2Proof.Machine

/-- The order n of the P-384 group (FIPS 186-4). DESIGN CHOICE (log entry 24). -/
def p384Order : Nat := 0xFFFFFFFFFFFFFFFFFFFFFFFFFFFFFFFFFFFFFFFFFFFFFFFFC7634D81F4372DDF581A0DB248B0A77AECEC196ACCC52973

/-- A signature field of a Vearend format verifies under the key with a digest: r, then s, each 48 bytes little-endian (R713). -/
def ecdsaVerifies (key msg sig : Bytes) : Bool :=
  decide (sig.length = 96) && Config.ecdsaVerifies key msg (ofLe (sig.take 48)) (ofLe (sig.drop 48))

/-- A signature as a Vearend format holds it (R713): 96 bytes. -/
def ecdsaSign (scalar : Nat) (msg : Bytes) : Bytes :=
  leBytes 48 (Config.ecdsaSign scalar msg).1 ++ leBytes 48 (Config.ecdsaSign scalar msg).2

/-- A signature as an SPDM message holds it (R6): r, then s, each 48 bytes big-endian. -/
def spdmSign (scalar : Nat) (msg : Bytes) : Bytes :=
  beBytes 48 (Config.ecdsaSign scalar msg).1 ++ beBytes 48 (Config.ecdsaSign scalar msg).2

/-- The public key of a private scalar as a Vearend format holds it (R713): an uncompressed SEC1 point of 97 bytes. -/
def p384Public (scalar : Nat) : Bytes :=
  [0x04] ++ beBytes 48 (Config.p384Point scalar).1 ++ beBytes 48 (Config.p384Point scalar).2

/-- The DHE exchange data of a private scalar as an SPDM message holds it (R6): x, then y, each 48 bytes big-endian.
PRESUMED (log entry 25). -/
def spdmExchange (scalar : Nat) : Bytes := beBytes 48 (Config.p384Point scalar).1 ++ beBytes 48 (Config.p384Point scalar).2

/-- The x-coordinate of the shared point with two big-endian coordinates, 48 bytes as SEC1 stores it (Table 13-9). -/
def ecdhX (scalar : Nat) (xy : Bytes) : Bytes := beBytes 48 (Config.ecdh scalar (ofBe (slice xy 0 48), ofBe (slice xy 48 48)))

/-- The private scalar that 56 bytes of key material give (R723). -/
def scalarOf (b : Bytes) : Nat := ofBe b % (p384Order - 1) + 1

/-- CDI_ROM (Table 13-2). -/
def cdiRom : Bytes := hkdf Config.uds (sha384 Config.bootRomImage) 48

/-- The DeviceID private scalar (R723). -/
def deviceScalar : Nat := scalarOf (hkdf cdiRom (label "TYID") 56)

/-- The device identity digest (R713, R723). -/
def deviceDigest : Bytes := sha384 (p384Public deviceScalar)

/-- CDI_FW of a firmware combination (Table 13-2). -/
def cdiFw (combination : Bytes) : Bytes := hkdf cdiRom combination 48

/-- The alias private scalar (R723). -/
def aliasScalar (combination : Bytes) : Nat := scalarOf (hkdf (cdiFw combination) (label "TYAL") 56)

/-- SS, the seal secret (Table 13-2). -/
def sealSecret : Bytes := hkdf Config.uds (label "TYSS") 48

/-- The EK private scalar of a tenant key digest and a COMPANY_ID (R563, R722, R723). -/
def ekScalar (tenantKey : Bytes) (company : Nat) : Nat := scalarOf (hkdf sealSecret (tenantKey ++ leBytes 8 company) 56)

/-- The EK public key and its digest (R713). -/
def ekPublic (tenantKey : Bytes) (company : Nat) : Bytes := p384Public (ekScalar tenantKey company)
def ekDigest (tenantKey : Bytes) (company : Nat) : Bytes := sha384 (ekPublic tenantKey company)

/-- The tenant tag (R570). -/
def tenantTag (operatorKey tenantKey : Bytes) : Bytes :=
  let t := (hmac operatorKey (label "TYTT" ++ tenantKey)).take 8
  if allZero t then leBytes 8 1 else t

end Sys2Proof.Machine
end

