-- ==== Sys2Proof/Machine/Operands.lean ====
section
/-! DEFINITION. The operand forms of host commands: which functions the board exposes (R121), the descriptor checks of R143
to R146 and R573, R574 against Table 4-5, and what a board address names for a function (R122, R147, R433, R463, R472). -/

namespace Sys2Proof.Machine

/-- A function the board exposes: PF0, and a VF that the SR-IOV capability shows (R121). DEDUCED (log entry 38). -/
def State.exposed (s : State) (f : Nat) : Bool := decide (f = 0) || s.hif.vfs.getLsbD f

/-- The number of queues of a function: 16 on PF0, QUEUES of its PARTITION record on a VF. -/
def State.queueCount (s : State) (f : Nat) : Nat :=
  if f = 0 then 16 else ((s.struct.partition f).map (byteAt · 6)).getD 0

/-- A register access of a function reaches its queue registers (R37, R121). -/
def State.queueAccess (s : State) (f q : Nat) : Bool :=
  s.top.ready && s.exposed f && decide (q < s.queueCount f) &&
    ((s.hif.fns[f]?).map (·.resetDone)).getD true

/-- PART_STAT.SESSION of a function (R572, Table 13-6). -/
def State.session (s : State) (f : Nat) : Bool :=
  (match s.hif.fns[f]? with | some x => decide (x.tdi = .run) | none => false) ||
  (match s.sec.doe[f]?, s.hif.fns[f]? with
    | some d, some x => d.opened && d.proven && decide (x.tdi ≠ .error)
    | _, _ => false)

/-- A function holds an SPDM session, or is a TDI in RUN (R145). -/
def State.holdsSession (s : State) (f : Nat) : Bool :=
  (match s.hif.fns[f]? with | some x => decide (x.tdi = .run) | none => false) ||
  (match s.sec.doe[f]? with | some d => d.opened | none => false)

/-- A TDI in RUN. -/
def State.tdiRun (s : State) (f : Nat) : Bool :=
  match s.hif.fns[f]? with | some x => decide (x.tdi = .run) | none => false

/-- The opcodes of Table 4-5 with the functions they come from: PF0, VF. -/
def opcodeFrom (op : Nat) : Option (Bool × Bool) :=
  if op = 0x00 ∨ op = 0x01 ∨ op = 0x10 ∨ op = 0x11 ∨ op = 0x12 ∨ op = 0x21 ∨ op = 0x30 ∨ op = 0x31 ∨ op = 0x41 ∨ op = 0x52 ∨ op = 0x53 then
    some (true, true)
  else if op = 0x20 ∨ op = 0x32 ∨ op = 0x40 ∨ op = 0x42 then some (false, true)
  else if op = 0x43 ∨ op = 0x50 ∨ op = 0x51 then some (true, false)
  else none

/-- TARGET within Table 4-5. -/
def targetOk (op t : Nat) : Bool :=
  if op = 0x10 ∨ op = 0x11 ∨ op = 0x12 then decide (t < 8)
  else if op = 0x20 ∨ op = 0x21 then decide (t < 16)
  else if op = 0x32 then decide (t < 256)
  else if op = 0x50 then decide (1 ≤ t) && decide (t ≤ 6)
  else t = 0

/-- LENGTH within Table 4-5; the lengths that a chapter's own rule judges pass here (R213, R589, R600, R696). -/
def lengthOk (op n : Nat) : Bool :=
  if op = 0x30 ∨ op = 0x31 then decide (1 ≤ n)
  else if op = 0x32 then decide (1 ≤ n) && decide (n ≤ 16777216)
  else if op = 0x53 then decide (4096 ≤ n) && decide (n ≤ 16777216) && n % 4096 = 0
  else if op = 0x10 ∨ op = 0x40 ∨ op = 0x41 ∨ op = 0x42 ∨ op = 0x50 ∨ op = 0x52 then true
  else n = 0

/-- The opcodes that use ADDR0, and ADDR1. -/
def usesAddr0 (op : Nat) : Bool :=
  op = 0x10 || op = 0x30 || op = 0x32 || op = 0x40 || op = 0x41 || op = 0x42 || op = 0x50
def usesAddr1 (op : Nat) : Bool :=
  op = 0x30 || op = 0x31 || op = 0x40 || op = 0x41 || op = 0x52 || op = 0x53

/-- PARAM within Table 4-5 and Table 15-5: `own` is the number of the function's queues. -/
def paramOk (op own : Nat) (d : Bytes) : Bool :=
  let p (o n : Nat) : Nat := field d (32 + o) n
  if op = 0x01 then decide (p 0 8 < 2 ^ own) && p 8 8 = 0
  else if op = 0x11 then
    (p 0 1 = 1 || p 0 1 = 2 || p 0 1 = 3) && (if p 0 1 = 2 then decide (p 1 1 < 16) else p 1 1 = 0) && p 2 8 = 0 && p 10 6 = 0
  else if op = 0x21 then decide (p 0 1 < 2) && p 1 8 = 0 && p 9 7 = 0
  else if op = 0x30 then decide (p 0 1 < 4) && p 1 8 = 0 && p 9 7 = 0
  else if op = 0x31 then p 8 8 = 0
  else if op = 0x32 ∨ op = 0x50 then p 4 8 = 0 && p 12 4 = 0
  else if op = 0x43 then decide (p 0 1 < 2) && p 1 8 = 0 && p 9 7 = 0
  else if op = 0x52 then decide (p 12 1 < 4) && p 13 3 = 0
  else p 0 8 = 0 && p 8 8 = 0

/-- The DETAIL with which a descriptor completes NOT_PERMITTED before it starts (R143 to R146, R573, R574), none when it
passes. The codes are tried in the order 0x01, 0x02, 0x04, 0x03 (assumption 8). DESIGN CHOICE (log entry 8). -/
def State.descCheck (s : State) (f q : Nat) (d : Bytes) : Option Nat :=
  let op := byteAt d 0
  let fl := byteAt d 1
  let sealed_ := bit fl 2
  match opcodeFrom op with
  | none => some 0x01
  | some (pf, vf) =>
    if !(if f = 0 then pf else vf) then some 0x02
    else if decide (8 ≤ fl) || field d 2 2 ≠ 0 || field d 10 2 ≠ 0 || (!sealed_ && (field d 48 8 ≠ 0 || field d 56 8 ≠ 0)) ||
        !targetOk op (field d 8 2) || !lengthOk op (field d 12 4) || (!usesAddr0 op && field d 16 8 ≠ 0) ||
        (!usesAddr1 op && field d 24 8 ≠ 0) || !paramOk op (s.queueCount f) d then some 0x04
    else if bit fl 1 && !(s.queue f q).safety then some 0x03
    else if sealed_ && !s.holdsSession f then some 0x03
    else if s.top.base = .confidential ∧ f ≠ 0 ∧ op ≠ 0x00 ∧ op ≠ 0x01 ∧ op ≠ 0x41 ∧
        (s.session f = false ∨ (s.tdiRun f = false ∧ sealed_ = false)) then some 0x03
    else none

/-! Board addresses. -/

/-- What a board address of a command names. -/
inductive Place where
  /-- a local address -/
  | local_ (a : Nat)
  /-- an address in a window that another board advertises -/
  | remote (board a : Nat)
  /-- refused, with its DETAIL -/
  | bad (detail : Nat)
  deriving DecidableEq, Repr

/-- The advertised window of another board that covers a range for a partition (R433, R473). -/
def Fab.advertised (b : Fab) (board part a n : Nat) : Bool :=
  b.windows.any fun w => w.board = board && (part = 0 || w.part = part) && decide (w.base ≤ a) && decide (a + n ≤ w.base + w.size)

/-- Whether a local range holds tenant board memory: it meets a partition's range or a partition's PINNED region (R147). -/
def Struct.tenantRange (t : Struct) (a n : Nat) : Bool :=
  (t.all 0x20).any (fun r => decide (field r 16 8 < a + n) && decide (a < field r 16 8 + field r 24 8)) ||
  (t.all 0x21).any (fun r => byteAt r 5 = 2 && decide (0 < byteAt r 6) && decide (field r 16 8 < a + n) && decide (a < field r 16 8 + field r 24 8))

/-- Judge a board range of a host command (R122, R147, R463, R472). DESIGN CHOICE (log entry 49). -/
def State.place (s : State) (f addr n : Nat) : Place :=
  let board := addr / 2 ^ 40
  let a := addr % 2 ^ 40
  if 2 ^ 48 ≤ addr then .bad 0x05
  else if board ≠ s.struct.boardId then
    (if s.fab.advertised board f a n then .remote board a else .bad 0x05)
  else if !(s.inBoardMem a n || s.struct.inPinned f a n || (f = 0 && (s.struct.all 0x21).any fun x =>
      byteAt x 5 = 2 && decide (field x 16 8 ≤ a) && decide (a + n ≤ field x 16 8 + field x 24 8))) then .bad 0x05
  else if f ≠ 0 && !(s.struct.inPart f a n || s.struct.inPinned f a n) then .bad 0x05
  else if f = 0 && s.top.base = .confidential && s.struct.tenantRange a n then .bad 0x03
  else .local_ a

/-- The bytes of a board range that a command leaves undefined (R165, R594, R677). DESIGN CHOICE (log entry 21). -/
def State.undefine (s : State) (f addr n : Nat) : State :=
  match s.place f addr n with
  | .local_ a => (s.memWrite a (s.freeBytes n) false).useFree
  | _ => s

end Sys2Proof.Machine
end

