-- ==== Sys2Proof/Machine/FabOps.lean ====
section
/-! DEFINITION. The Lanicy fabric's shared operations: routing (R501 to R504), requests and answers that are made exactly once
(R496 to R500), and the home of exported lines (R474 to R482, R485, R486). -/

namespace Sys2Proof.Machine

/-! Routing. -/

/-- Port `p`. -/
def Fab.port (b : Fab) (p : Nat) : LnkPort := (b.ports[p]?).getD {}

/-- Change port `p`. -/
def State.mapPort (s : State) (p : Nat) (g : LnkPort → LnkPort) : State :=
  { s with fab := { s.fab with ports := s.fab.ports.setIfInBounds p (g (s.fab.port p)) } }

/-- DIM_X, DIM_Y or DIM_Z. -/
def Struct.dim (t : Struct) (i : Nat) : Nat := max 1 (t.boardField (17 + i) 1)

/-- The boards that one step along dimension `i` passes over. -/
def Struct.stride (t : Struct) (i : Nat) : Nat := if i = 0 then 1 else if i = 1 then t.dim 0 else t.dim 0 * t.dim 1

/-- A board's coordinate in dimension `i` (Topology). -/
def Struct.coord (t : Struct) (b i : Nat) : Nat := if i = 2 then b / t.stride 2 else b / t.stride i % t.dim i

/-- The neighbour of a board in dimension `i`, in the positive direction or not. -/
def Struct.neighbour (t : Struct) (b i : Nat) (pos : Bool) : Nat :=
  let c := t.coord b i
  let n := t.dim i
  let d := if pos then (c + 1) % n else (c + n - 1) % n
  b - c * t.stride i + d * t.stride i

/-- The live links of a board: port and peer; this board's own are its ports that are up. -/
def State.linksOf (s : State) (b : Nat) : List (Nat × Nat) :=
  if b = s.struct.boardId then
    (List.range 8).filterMap fun p => if (s.fab.port p).up then some (p, (s.fab.port p).peerBoard) else none
  else agetD s.fab.linkState b []

/-- Whether walking dimension `i` from a board reaches the coordinate over live links (R503). -/
def State.walk (s : State) (i : Nat) (pos : Bool) (goal : Nat) : Nat → Nat → Bool
  | 0, _ => false
  | n + 1, b =>
    if s.struct.coord b i = goal then true
    else
      (s.linksOf b).any (fun l => l.1 = 2 * i + b2n (!pos)) && s.walk i pos goal n (s.struct.neighbour b i pos)

/-- Grow the spanning tree of the escape lane by one ring at a time: board and parent (R503). -/
def growTree (adj : Nat → List Nat) : Nat → List (Nat × Nat) → List (Nat × Nat)
  | 0, t => t
  | n + 1, t =>
    let new := (t.flatMap fun x => (adj x.1).map fun y => (y, x.1)).foldl
      (fun l y => if (t ++ l).any (·.1 = y.1) then l else l ++ [y]) []
    if new.isEmpty then t else growTree adj n (t ++ new)

/-- The boards from `b` up to the root of the tree. -/
def ancestors (t : List (Nat × Nat)) : Nat → Nat → List Nat
  | 0, _ => []
  | n + 1, b =>
    match t.find? (·.1 = b) with
    | some x => if x.2 = b then [b] else b :: ancestors t n x.2
    | none => []

/-- The boards this one knows of: peers, link-state senders and advertisers. -/
def State.knownBoards (s : State) : List Nat :=
  ((s.linksOf s.struct.boardId).map (·.2) ++ s.fab.linkState.map (·.1) ++ s.fab.tags.map (·.1)).foldl nset []

/-- The board after `b` on the escape lane towards `dest`. -/
def State.escapeHop (s : State) (b dest : Nat) : Option Nat :=
  let me := s.struct.boardId
  let live := (nset s.knownBoards me).filter fun b => !s.fab.lost.contains b
  let root := live.head?.getD me
  let t := growTree (fun b => ((s.linksOf b).map (·.2)).filter live.contains) 256 [(root, root)]
  let up := ancestors t 256 dest
  match up.findIdx? (· = b) with
  | some 0 => none
  | some k => up[k - 1]?
  | none => (ancestors t 256 b)[1]?

/-- The 8 zero bytes of no tenant, or the admitted tenant's tag (R570). -/
def State.tag (s : State) : Bytes := (s.sec.tenant.map (·.tag)).getD (List.replicate 8 0)

/-- The tenant tag of a board (R473): one that has not told its tag yet counts as of this board's tenant.
. DESIGN CHOICE (log entry 144). -/
def State.tagOf (s : State) (b : Nat) : Bytes := if b = s.struct.boardId then s.tag else agetD s.fab.tags b s.tag

/-- A port may carry messages between two boards: it is up, and either SEALED or between boards of one tenant tag that its ends
have too (R490, R495). -/
def State.carries (s : State) (p src dest : Nat) : Bool :=
  let x := s.fab.port p
  x.up && (x.sealed || (decide (x.peerTag = s.tag) && decide (s.tagOf src = s.tag) && decide (s.tagOf dest = s.tag)))

/-- A board's port serves a message, as far as this board knows: its own as R490 says, another board's while its link state shows the
port, or none has come yet. DESIGN CHOICE (log entry 144). -/
def State.serving (s : State) (b p src dest : Nat) : Bool :=
  if b = s.struct.boardId then s.carries p src dest
  else match alookup s.fab.linkState b with
    | some l => l.any (·.1 = p)
    | none => decide (p < 6)

/-- The way a message takes from a board: the port, the next board, and whether it moves to the escape lane (R501, R503). -/
def State.hopAt (s : State) (b src dest : Nat) : Option (Nat × Nat × Bool) :=
  let t := s.struct
  match (s.linksOf b).find? fun l => 6 ≤ l.1 && l.2 = dest && s.serving b l.1 src dest with
  | some l => some (l.1, dest, false)
  | none =>
    match (List.range (min 3 (t.boardField 16 1))).find? fun i => t.coord b i ≠ t.coord dest i with
    | none => none
    | some i =>
      let n := t.dim i
      let d := (t.coord dest i + n - t.coord b i) % n
      let pos := decide (d ≤ n - d)
      let p := 2 * i + b2n (!pos)
      let o := 2 * i + b2n pos
      if s.serving b p src dest then some (p, t.neighbour b i pos, false)
      else if s.serving b o src dest && s.walk i (!pos) (t.coord dest i) n b then some (o, t.neighbour b i (!pos), false)
      else
        match s.escapeHop b dest with
        | some c => ((s.linksOf b).find? fun l => l.2 = c && s.serving b l.1 src dest).map fun l => (l.1, c, true)
        | none => none

/-- The port by which a message of `src` leaves this board for `dest`, and whether it moves to the escape lane (R490, R501, R503). -/
def State.hopFor (s : State) (src dest : Nat) : Option (Nat × Bool) :=
  (s.hopAt s.struct.boardId src dest).map fun h => (h.1, h.2.2)

/-- The port by which this board's own messages leave for `dest`. -/
def State.nextHop (s : State) (dest : Nat) : Option (Nat × Bool) := s.hopFor s.struct.boardId dest

/-- The boards a message passes between `b` and its destination, over direct ports, detours and the escape lane (R491, R501, R503).
DESIGN CHOICE (log entry 144). -/
def State.path (s : State) (src dest : Nat) : Nat → Nat → Bool → List Nat
  | 0, _, _ => []
  | n + 1, b, esc =>
    match (if esc then (s.escapeHop b dest).map fun c => (0, c, true) else s.hopAt b src dest) with
    | none => []
    | some h => if h.2.1 = dest then [] else h.2.1 :: s.path src dest n h.2.1 h.2.2

/-- Rebuild the next hops (R503); a destination whose hop changes has its new messages held (R504). -/
def State.reroute (s : State) : State :=
  let new := s.knownBoards.filterMap fun d => (s.nextHop d).map fun h => (d, h.1 + 8 * b2n h.2)
  let changed := new.filter fun x => match alookup s.fab.hops x.1 with
    | some h => decide (h ≠ x.2)
    | none => false
  { s with fab := { s.fab with
    hops := new, escape := new.any (fun x => decide (8 ≤ x.2))
    holds := changed.foldl (fun l x => aset l x.1 s.clk) s.fab.holds } }

/-! Messages. -/

/-- A board of the same tenant: its advertised tag equals this board's, which is not zero (R473, R474). -/
def State.sameTenant (s : State) (b : Nat) : Bool :=
  s.sec.tenant.isSome && decide (agetD s.fab.tags b [] = s.tag)

/-- INJECT of a message sent now (R500). -/
def State.injectNow (s : State) : Nat := s.gtcNs / 1024 % 65536

/-- The virtual channel of a message type (Table 11-3). -/
def msgVc (typ : Nat) : Nat :=
  if typ ≤ 0x0F then 0 else if typ ≤ 0x1F then 1 else if typ ≤ 0x2F then 2 else if typ ≤ 0x3F then 3 else 4

/-- The lane of a message that leaves a board by a port: the escape lane, or lane 1 from the dateline of the dimension on (R488,
R502, R503). -/
def Struct.laneAt (t : Struct) (board src port : Nat) (escape : Bool) : Nat :=
  if escape then 2
  else if 6 ≤ port then 0
  else
    let i := port / 2
    let n := t.dim i
    let c := t.coord board i
    let c0 := t.coord src i
    if port % 2 = 0 then b2n (decide ((c + 1) % n < c0)) else b2n (decide (c0 < (c + n - 1) % n))

/-- The lane of a message that leaves this board. -/
def Struct.lane (t : Struct) (src port : Nat) (escape : Bool) : Nat := t.laneAt t.boardId src port escape

/-- A message of this board whose path crosses a board with another tag is sealed from end to end (R491). -/
def State.endSealed (s : State) (m : Msg) : Bool :=
  m.raw.isEmpty && !m.data.isEmpty &&
    (s.path s.struct.boardId m.dest 256 s.struct.boardId false).any fun b => decide (agetD s.fab.tags b (List.replicate 8 0) ≠ s.tag)

/-- The key between this board and another: from the secret of their pair session (R491, R586). DESIGN CHOICE (log entry 143). -/
def State.pairKey (s : State) (board : Nat) : Bytes :=
  Config.derive "pair" (((alookup s.sec.pairs board).map (·.2)).getD [])

/-- The header of a message whose rest has `n` bytes (Table 11-7). -/
def Msg.header (m : Msg) (n : Nat) : Bytes :=
  leBytes 1 m.typ ++ leBytes 1 ((16 + n) / 16) ++ leBytes 1 m.dest ++ leBytes 1 m.src
    ++ leBytes 4 (m.reqId + 2 ^ 24 * (m.part % 16)) ++ leBytes 6 m.addr ++ leBytes 2 m.inject

/-- What stands behind the header of a message in clear (Table 11-8): ACK_BELOW where the length has room for it, then the data. -/
def Msg.body (m : Msg) : Bytes :=
  let ack := if m.typ ≤ 0x04 then leBytes 16 m.ackBelow else if m.typ = 0x30 then leBytes 4 m.ackBelow else []
  let b := ack ++ m.data
  b ++ List.replicate ((16 - b.length % 16) % 16) 0

/-- The bytes of a message (Tables 11-7, 11-8, R491): one that is sealed from end to end has its data part as AES-GCM ciphertext and
tag, under an IV that the spec does not state. DESIGN CHOICE (log entry 143). -/
def State.msgBytes (s : State) (m : Msg) : Bytes :=
  if !m.raw.isEmpty then m.header m.raw.length ++ m.raw
  else if s.endSealed m then
    let hdr := m.header (m.body.length + 16)
    hdr ++ gcmSeal (s.pairKey m.dest) (slice (Config.pairIv hdr) 0 12) [] m.body
  else m.header m.body.length ++ m.body

/-- Cut bytes into pieces of `n`. -/
def pieces (n : Nat) (b : Bytes) : List Bytes := (List.range ((b.length + n - 1) / n)).map fun i => (b.drop (n * i)).take n

/-! Flits. -/

/-- The key of one direction of a port: of the sending board, its port and a generation (R584). -/
def flitKey (secret : Bytes) (board port generation : Nat) : Bytes :=
  hkdfExpand secret (label "TYLK" ++ leBytes 1 board ++ leBytes 1 port ++ leBytes 4 generation) 32

/-- The IV of a SEALED flit (R489, R722). -/
def flitIv (board port counter : Nat) : Bytes := leBytes 4 (board * 2 ^ 24 + port * 2 ^ 21) ++ leBytes 8 counter

/-- Bytes filled with zeros to a length. -/
def fillTo (n : Nat) (b : Bytes) : Bytes := b ++ List.replicate (n - b.length) 0

/-- The header of a flit (Table 11-6). -/
def flitHeader (counter ack flags lane credits : Nat) : Bytes :=
  leBytes 2 counter ++ leBytes 2 ack ++ leBytes 1 flags ++ leBytes 1 lane ++ leBytes 2 credits

/-- A flit as bytes (Table 11-6, R488, R489): OPEN in clear, SEALED under the direction's key, its header authenticated. -/
def flitBytes (key : Option Bytes) (iv header payload : Bytes) : Bytes :=
  let b := header ++ match key with
    | none => fillTo 500 payload
    | some k => gcmSeal k iv header (fillTo 484 payload)
  b ++ leBytes 4 (crc32 b)

/-- Send one flit on a port (R488, R489, R492 to R494): it carries the acknowledgement, a NAK that is due, KEY_SWITCH when it is the
first under a new key, and the credits of the lowest lane that is owed some. DESIGN CHOICE (log entry 145). -/
def State.sendFlit (s : State) (p : Nat) (idle : Bool) (payload : Bytes) : State :=
  let x := s.fab.port p
  let c := (x.owed.find? fun l => decide (0 < l.2)).getD (0, 0)
  let n := min 65535 c.2
  let me := s.struct.boardId
  let hdr := flitHeader x.txNext (x.rxNext + 65535) (b2n x.nakDue + 2 * b2n idle + 4 * b2n x.keySwitch) c.1 n
  let key := if x.sealed then some (flitKey x.secret me p x.txKey) else none
  let raw := flitBytes key (flitIv me p x.txNext) hdr payload
  let s := s.mapPort p fun x => { x with
    txNext := x.txNext + 1, replayBuf := x.replayBuf ++ [{ counter := x.txNext, bytes := raw }]
    keySwitch := false, nakDue := false, keyFlits := x.keyFlits + 1, owed := if n = 0 then x.owed else aset x.owed c.1 (c.2 - n) }
  s.emit (.flit p x.txNext raw)

/-- The replay buffer has room for a flit (R494). -/
def LnkPort.room (x : LnkPort) : Bool := decide (x.replayBuf.length < 512)

/-- Send the waiting payloads of a port as flits while the replay buffer has room (R494). -/
def State.pump (s : State) (p : Nat) : List Bytes → State
  | [] => s.mapPort p fun x => { x with txWait := [] }
  | b :: t => if (s.fab.port p).room then (s.sendFlit p false b).pump p t else s.mapPort p fun x => { x with txWait := b :: t }

/-- Send an IDLE flit, which carries what the next flit of the port would, if there is room for it (Table 11-6).
DESIGN CHOICE (log entry 145). -/
def State.sendIdle (s : State) (p : Nat) : State := if (s.fab.port p).room then s.sendFlit p true [] else s

/-- Answer with NAK and the acknowledgement (R493). -/
def State.nak (s : State) (p : Nat) : State := (s.mapPort p fun x => { x with nakDue := true }).sendIdle p

/-- Hand a message to a port: a flit carries up to 500 bytes, or 484 on a SEALED port (Table 11-6). DEDUCED (log entry 121). -/
def State.portSend (s : State) (p lane : Nat) (m : Msg) : State :=
  let x := s.fab.port p
  let s := s.emit (.fabric p (3 * msgVc m.typ + lane) m)
  s.pump p (x.txWait ++ pieces (if x.sealed then 484 else 500) (s.msgBytes m))

/-- A message waits for a route: there is none, or it is to be sealed from end to end and no pair session is open (R490, R586).
DESIGN CHOICE (log entry 144). -/
def State.strand (s : State) (m : Msg) : State := { s with fab := { s.fab with stuck := s.fab.stuck ++ [(m.dest, m)] } }

/-- Send a message on: held during a route change, waiting with no route, else sent (R490, R491, R500, R504). -/
def State.forward (s : State) (m : Msg) : State :=
  if (alookup s.fab.holds m.dest).isSome then { s with fab := { s.fab with heldMsgs := s.fab.heldMsgs ++ [(m.dest, m)] } }
  else
    match s.hopFor m.src m.dest with
    | some h =>
      if s.endSealed m && (alookup s.sec.pairs m.dest).isNone then s.strand m
      else s.portSend h.1 (s.struct.lane m.src h.1 h.2) m
    | none => s.strand m

/-- Send a message of this board. -/
def State.sendMsg (s : State) (m : Msg) : State := s.forward { m with src := s.struct.boardId, inject := s.injectNow }

/-- Messages that waited for a route go on when there is one (R490). -/
def State.flushStuck (s : State) : State :=
  s.fab.stuck.foldl (fun s x => s.forward x.2) { s with fab := { s.fab with stuck := [] } }

/-- The boards this one can reach. -/
def State.reachable (s : State) : List Nat :=
  s.knownBoards.filter fun b => decide (b ≠ s.struct.boardId) && (s.nextHop b).isSome

/-- The windows a board advertises: those exported, and those whose remote copies are still being taken back (R473, R475); once a
tenant switch takes the windows back, only the latter (Table 13-14 step 4). -/
def State.windowsOut (s : State) : List Bytes :=
  (if s.sec.switch.all (·.step = .draining) then s.struct.all 0x22 else []) ++ s.fab.leaving

/-- Advertise the windows and the tenant tag to every board in reach (R473). -/
def State.advertise (s : State) : State :=
  let w := s.windowsOut.flatMap fun r => slice r 4 2 ++ slice r 8 16
  s.emitAll (s.reachable.map fun b => .mgmt b (Config.eventCode "ADVERTISEMENT") (s.tag ++ w))

/-- Tell every board in reach this board's live links (R503). -/
def State.tellLinks (s : State) : State :=
  let l := (s.linksOf s.struct.boardId).flatMap fun x => leBytes 1 x.1 ++ leBytes 1 x.2
  s.emitAll (s.reachable.map fun b => .mgmt b (Config.eventCode "LINK_STATE") l)

/-- After a change of live links: next hops are rebuilt, the change is told, waiting messages go on (R503, R504). -/
def State.linksChanged (s : State) : State := (s.reroute.tellLinks).flushStuck

/-- ACK_BELOW towards a board: the lowest REQ_ID that still lacks an answer (R496). -/
def State.ackBelow (s : State) (dest : Nat) : Nat :=
  let next := agetD s.fab.nextReq dest 0
  match (s.fab.unans.filter (·.msg.dest = dest)).head? with
  | some u => u.msg.reqId
  | none => next

/-- A request is sent: it takes the next REQ_ID of its pair and is unanswered until its answer comes (R496). -/
def State.sendRequest (s : State) (m : Msg) (cmd : Option (Nat × Nat × Nat)) : State :=
  let id := agetD s.fab.nextReq m.dest 0
  let m : Msg := { m with reqId := id, src := s.struct.boardId, inject := s.injectNow }
  let s := { s with fab := { s.fab with
    nextReq := aset s.fab.nextReq m.dest ((id + 1) % 2 ^ 24)
    unans := s.fab.unans ++ [({ msg := m, sentAt := s.clk, cmd := cmd } : Unans)] } }
  s.sendMsg ({ m with ackBelow := s.ackBelow m.dest } : Msg)

/-- Room for one more unanswered REQ_ID towards a board (R497). DEDUCED (log entry 121). -/
def State.requestRoom (s : State) (dest : Nat) : Bool :=
  decide ((s.fab.unans.filter (·.msg.dest = dest)).length < 4096)

/-- The line of a request is being given up, so that no request for it goes out before EVICT_ACK (R484). -/
def State.evicting (s : State) (m : Msg) : Bool :=
  decide (m.typ ≤ 0x04) && s.fab.remote.any fun l => l.addr = m.addr && l.st = .evicting

/-- A new request: it goes out, or waits for room or for its line (R484, R496, R497). -/
def State.request (s : State) (m : Msg) (cmd : Option (Nat × Nat × Nat)) : State :=
  if s.requestRoom m.dest && !s.evicting m then s.sendRequest m cmd
  else { s with fab := { s.fab with waitReq := s.fab.waitReq ++ [(m, cmd)] } }

/-- The unanswered message that an answer from `src` with this REQ_ID belongs to. -/
def State.unanswered (s : State) (src reqId : Nat) : Option Unans :=
  s.fab.unans.find? fun u => u.msg.dest = src && u.msg.reqId = reqId

/-- The requests that wait for a destination go out, oldest first, while there is room and their lines are free (R484, R497). -/
def State.issueWaiting (s : State) (dest : Nat) : Nat → State
  | 0 => s
  | n + 1 =>
    match s.fab.waitReq.find? fun x => decide (x.1.dest = dest) && !s.evicting x.1 with
    | none => s
    | some x =>
      if s.requestRoom dest then
        (({ s with fab := { s.fab with waitReq := s.fab.waitReq.erase x } } : State).sendRequest x.1 x.2).issueWaiting dest n
      else s

/-- A message has its answer. -/
def State.answered (s : State) (src reqId : Nat) : State :=
  let unans := s.fab.unans.filter (fun u => !(u.msg.dest = src && u.msg.reqId = reqId))
  ({ s with fab := { s.fab with unans := unans } } : State).issueWaiting src s.fab.waitReq.length

/-- An effect of a frame was lost (R254), or it read poison (R258). -/
def State.markRun (s : State) (r id : Nat) (poisoned lost : Bool) : State :=
  let mark (f : Frame) : Frame := if f.id = id then { f with poisoned := f.poisoned || poisoned, uncorrected := f.uncorrected || lost } else f
  { s with rsq := { s.rsq with routes := s.rsq.routes.mapIdx fun i x => if i = r then { x with frames := x.frames.map mark } else x } }

/-- The requester of a core's transfer, in the place of a command's function, queue and position: 16 + core, channel, and the frame. -/
def coreCmd (core ch route frame : Nat) : Option (Nat × Nat × Nat) := some (16 + core, ch, route * 2 ^ 32 + frame)

/-- A command's effect is lost in part, or its output is poisoned (R474, R499, R676, R677); of a core's transfer it is the frame's
(R254, R258). -/
def State.markCmd (s : State) (cmd : Option (Nat × Nat × Nat)) (poisoned lost : Bool) : State :=
  match cmd with
  | some (f, q, p) =>
    if 16 ≤ f then s.markRun (p / 2 ^ 32) (p % 2 ^ 32) poisoned lost
    else s.setCmd f q p fun c => { c with poisoned := c.poisoned || poisoned, lost := c.lost || lost }
  | none => s

/-- The remote line of this address. -/
def Fab.rline (b : Fab) (a : Nat) : Option RLine := b.remote.find? (·.addr = a)

/-- Set a remote line; a line in I is not listed. -/
def Fab.setRline (b : Fab) (l : RLine) : Fab := { b with remote := b.remote.filter (·.addr ≠ l.addr) ++ [l] }

/-- A remote line becomes I, and its way is free. -/
def Fab.dropRline (b : Fab) (a : Nat) : Fab :=
  { b with remote := b.remote.filter (·.addr ≠ a), lines := b.lines.filter (·.line ≠ a / 128) }

/-- A request reads poisoned data: one POISON_READ entry of the line, and partition event class 3 (Table 15-2).
DEDUCED (log entry 117). -/
def State.poisonRead (s : State) (part a source : Nat) : State :=
  let own := s.struct.addrPart (a % 2 ^ 40)
  let p := if a / 2 ^ 40 = s.struct.boardId ∧ 0 < own then own else part
  let s := s.note srcCel 2 0x0103 p [a / 128 * 128, source]
  if 0 < p then s.event p 3 srcCel else s

/-- The source number of the Lanicy port whose message engine serves a destination (Table 1-8). -/
def State.msgSource (s : State) (dest : Nat) : Nat := srcPort (((s.nextHop dest).map (·.1)).getD 0)

/-- A read returns the bytes of its line; poisoned ones are logged (Table 15-2). -/
def State.deliverTo (s : State) (part a source : Nat) (data : Bytes) (poison : Bool) : State :=
  let s := s.emit (.answer data)
  if poison then s.poisonRead part a source else s

/-- Write bytes into a window of another board, line by line, as WRITE_MERGE requests (R472, Coherence). -/
def State.remoteWrite (s : State) (board part a : Nat) (bs : Bytes) (poison : Bool) (cmd : Option (Nat × Nat × Nat)) : State :=
  if bs.isEmpty then s
  else
    (List.range ((a + bs.length - 1) / 128 - a / 128 + 1)).foldl (fun s i =>
      let l := 128 * (a / 128 + i)
      let lo := max a l
      let hi := min (a + bs.length) (l + 128)
      let mask := leBytes 16 (((List.range (hi - lo)).map fun k => 2 ^ (lo - l + k)).foldl (· + ·) 0)
      let data := List.replicate (lo - l) 0 ++ (bs.drop (lo - a)).take (hi - lo) ++ List.replicate (l + 128 - hi) 0
      s.request ({ typ := 0x04, dest := board, part := part, addr := board * 2 ^ 40 + l, data := mask ++ data, poison := poison } : Msg) cmd) s

/-! The home. -/

/-- A request's line lies in an exported window, from a board of the same tenant, with the window's PART (R474); once a tenant
switch takes the windows back, none is served (Table 13-14 step 4). -/
def State.serves (s : State) (h : FabHdr) : Bool :=
  s.sec.switch.all (·.step = .draining) && decide (h.addr / 2 ^ 40 = s.struct.boardId) && s.sameTenant h.src &&
    match s.struct.window (h.addr % 2 ^ 40) with
    | some w => decide (byteAt w 5 = h.part.val)
    | none => false

/-- An answer goes out and is kept for a repeat of its REQ_ID (R498). -/
def State.answer (s : State) (m : Msg) : State :=
  let keep := s.fab.kept.filter fun k => !(k.src = m.dest && k.reqId = m.reqId)
  ({ s with fab := { s.fab with kept := keep ++ [({ src := m.dest, reqId := m.reqId, msg := m } : Kept)] } }).sendMsg m

/-- The whole line at a local address, with its poison. -/
def State.line (s : State) (a : Nat) : Bytes × Bool := (s.mem.read a 128, s.mem.poisoned a 128)

/-- An answer that carries its line from memory (R482). -/
def State.answerLine (s : State) (typ : Nat) (r : HomeReq) : State :=
  let l := s.line (r.addr % 2 ^ 40)
  s.answer { typ := typ, dest := r.src, reqId := r.reqId, part := r.part, addr := r.addr, data := l.1, poison := l.2 }

/-- An answer without data. -/
def State.answerBare (s : State) (typ dest reqId part addr : Nat) : State :=
  s.answer { typ := typ, dest := dest, reqId := reqId, part := part, addr := addr }

/-- The directory entry of a line. -/
def Fab.entry (b : Fab) (a : Nat) : Option DirEnt := b.dir.find? (·.addr = a)

/-- Set a directory entry, marking it used. -/
def Fab.setEntry (b : Fab) (e : DirEnt) : Fab :=
  { b with dir := b.dir.filter (·.addr ≠ e.addr) ++ [{ e with use := b.useCount }], useCount := b.useCount + 1 }

/-- Free a directory entry. -/
def Fab.dropEntry (b : Fab) (a : Nat) : Fab := { b with dir := b.dir.filter (·.addr ≠ a) }

/-- XOR of the 4-bit fields from bit 7 on, with bit 47 in the lowest place (The cellar). -/
def lineHash (a : Nat) : Nat :=
  ((List.range 10).map fun i => bits a (10 + 4 * i) (7 + 4 * i)).foldl Nat.xor (b2n (bit a 47))

/-- The directory set of a line: slice and set; it holds 16 entries (R476). -/
def dirSet (a : Nat) : Nat × Nat := (lineHash a % 16, bits a 17 7)

/-- The boards that hold a line: its owner, its sharers, or every board of the tenant for a BROADCAST entry (R476, R478). -/
def State.holders (s : State) (e : DirEnt) : List Nat :=
  match e.owner with
  | some o => [o]
  | none => if e.broadcast then s.knownBoards.filter s.sameTenant else e.sharers

/-- Add a sharer; more than 8 mark the entry BROADCAST (R476). -/
def DirEnt.share (e : DirEnt) (b : Nat) : DirEnt :=
  let l := nset e.sharers b
  if e.broadcast || decide (8 < l.length) then { e with sharers := [], broadcast := true, owner := none }
  else { e with sharers := l, owner := none }

/-- Send the snoops of a transaction (R486). DEDUCED (log entry 118). -/
def State.snoop (s : State) (typ : Nat) (req : HomeReq) (boards : List Nat) : State :=
  let s := { s with fab := { s.fab with txns := s.fab.txns ++ [{ req := req, waiting := boards }] } }
  boards.foldl (fun s b => s.sendMsg ({ typ := typ, dest := b, reqId := req.reqId, part := req.part, addr := req.addr } : Msg)) s

/-- New bytes over old ones where the mask says so. -/
def mergeBytes (old new : Bytes) (mask : List Bool) : Bytes :=
  old.zipIdx.map fun b => if (mask[b.2]?).getD false then (new[b.2]?).getD b.1 else b.1

/-- Merge masked bytes into a line in memory, sector by sector: a partial write of a poisoned sector leaves it poisoned
(R486, R717). -/
def State.mergeLine (s : State) (r : HomeReq) (poison : Bool) : State :=
  (List.range 2).foldl (fun s k =>
    let a := r.addr % 2 ^ 40 + 64 * k
    let mask := (r.mask.drop (64 * k)).take 64
    if mask.any (· = true) then
      let whole := decide (mask.length = 64) && mask.all (· = true)
      s.memWrite a (mergeBytes (s.mem.read a 64) (slice r.data (64 * k) 64) mask) (poison || (!whole && s.mem.poisoned a 64))
    else s) s

/-- The last snoop of a request has been answered, or it needs none: its action of Table 11-4. `was` is the line's directory
entry at the request's start, `gone` the boards that answered with EVICT_IN_FLIGHT. DEDUCED (log entry 118). -/
def State.finishReq (s : State) (r : HomeReq) (was : Option DirEnt) (gone : List Nat) : State :=
  let me := decide (r.src = s.struct.boardId)
  let a := r.addr
  if s.fab.lost.contains r.src then
    -- the requester was lost meanwhile (R506): its snoops have taken effect, and it gets no copy
    match r.typ, was with
    | .readUnique, _ => { s with fab := s.fab.dropEntry a }
    | .writeMerge, _ => { s with fab := s.fab.dropEntry a }
    | _, some e =>
      match e.owner with
      | some o =>
        if gone.contains o then { s with fab := s.fab.dropEntry a }
        else { s with fab := s.fab.setEntry { addr := a, sharers := [o] } }
      | none => s
    | _, none => s
  else
  match r.typ with
  | .readShared =>
    match was with
    | none => ({ s with fab := s.fab.setEntry { addr := a, owner := some r.src } }).answerLine 0x13 r
    | some e =>
      match e.owner with
      | some o =>
        let base : DirEnt := { addr := a, sharers := if gone.contains o then [] else [o] }
        ({ s with fab := s.fab.setEntry (base.share r.src) }).answerLine 0x12 r
      | none => ({ s with fab := s.fab.setEntry (e.share r.src) }).answerLine 0x12 r
  | .readUnique =>
    let sharer := match was with
      | some e => e.owner.isNone && e.sharers.contains r.src
      | none => false
    let s := { s with fab := s.fab.setEntry { addr := a, owner := some r.src } }
    if sharer then s.answerBare 0x14 r.src r.reqId r.part a else s.answerLine 0x13 r
  | .readNokeep =>
    let s := match was with
      | some e =>
        match e.owner with
        | some o =>
          if gone.contains o then { s with fab := s.fab.dropEntry a }
          else { s with fab := s.fab.setEntry { addr := a, sharers := [o] } }
        | none => s
      | none => s
    let l := s.line (a % 2 ^ 40)
    if r.quiet then s else if me then s.deliverTo r.part a r.source l.1 l.2 else s.answerLine 0x15 r
  | .writeMerge =>
    let s := { s with fab := s.fab.dropEntry a }
    let s := s.mergeLine r r.poison
    if me then s else s.answerBare 0x16 r.src r.reqId r.part a
  | .backInv =>
    { s with fab := { s.fab.dropEntry a with backInv := satN 0xFFFFFFFF (s.fab.backInv + 1) } }

/-- A line has a transaction in progress (R481). -/
def Fab.busyLine (b : Fab) (a : Nat) : Bool := b.txns.any (·.req.addr = a)

/-- The directory set of a line holds 16 entries and none of this line (R476, R477). -/
def Fab.dirFull (b : Fab) (a : Nat) : Bool :=
  (b.entry a).isNone && decide (16 ≤ (b.dir.filter fun e => decide (dirSet e.addr = dirSet a)).length)

/-- The directory entry to free before a new line can have one: the least recently used of its set without a transaction in progress
(R477). -/
def Fab.victim (b : Fab) (a : Nat) : Option DirEnt :=
  minBy (fun x y => decide (x.use < y.use)) (b.dir.filter fun e => decide (dirSet e.addr = dirSet a) && !b.busyLine e.addr)

/-- A request waits: in order of arrival, and of those that arrived in one cycle the lower port first, this board's own before all
(R481). DESIGN CHOICE (log entry 146). -/
def Fab.enqueue (b : Fab) (r : HomeReq) : Fab :=
  let first (x : HomeReq) : Bool := decide (x.arrived < r.arrived) || (decide (x.arrived = r.arrived) && decide (x.port ≤ r.port))
  { b with queue := b.queue.filter first ++ [r] ++ b.queue.filter fun x => !first x }

/-- A request needs a directory entry. -/
def ReqType.keeps : ReqType → Bool
  | .readShared => true
  | .readUnique => true
  | _ => false

/-- Start a request whose line is free at the home: snoop the holders that Table 11-4 names, or finish at once.
DEDUCED (log entry 118). -/
def State.beginReq (s : State) (r : HomeReq) : State :=
  let e := s.fab.entry r.addr
  match e with
  | none => s.finishReq r none []
  | some x =>
    match r.typ, x.owner with
    | .readShared, some o => if o = r.src then s.answerLine 0x13 r else s.snoop 0x10 r [o]
    | .readNokeep, some o => s.snoop 0x10 r [o]
    | .readShared, none => s.finishReq r e []
    | .readNokeep, none => s.finishReq r e []
    | .readUnique, some o => if o = r.src then s.answerLine 0x13 r else s.snoop 0x11 r [o]
    | _, _ =>
      let hs := if r.typ = .readUnique then (s.holders x).filter (· ≠ r.src) else s.holders x
      if hs.isEmpty then s.finishReq r e [] else s.snoop 0x11 r hs

/-- A request at the home. One for a busy line waits, and so does one whose directory set is full: an entry of the set is freed first,
or one whose transaction is in progress is awaited (R477, R481). DEDUCED (log entry 118). -/
def State.startReq (s : State) (r : HomeReq) : State :=
  if s.fab.busyLine r.addr then { s with fab := s.fab.enqueue r }
  else if r.typ.keeps && s.fab.dirFull r.addr then
    match s.fab.victim r.addr with
    | some v => ({ s with fab := s.fab.enqueue r } : State).snoop 0x11 { typ := .backInv, addr := v.addr } (s.holders v)
    | none => { s with fab := s.fab.enqueue r }
  else s.beginReq r

/-- Start the waiting requests whose line is free, in order of arrival (R481). -/
def State.drainQueue (s : State) : State :=
  let q := s.fab.queue
  q.foldl (fun s r => s.startReq r) { s with fab := { s.fab with queue := [] } }

/-- Windows whose remote copies are all gone are withdrawn: only now the boards in reach learn it (R475). -/
def State.settleLeaving (s : State) : State :=
  let l := s.fab.leaving.filter fun w =>
    s.fab.dir.any fun e => decide (field w 8 8 ≤ e.addr % 2 ^ 40) && decide (e.addr % 2 ^ 40 < field w 8 8 + field w 16 8)
  if l = s.fab.leaving then s else ({ s with fab := { s.fab with leaving := l } } : State).advertise

/-- A board's snoop answer has arrived: the transaction goes on, and ends with its last answer. DEDUCED (log entry 118). -/
def State.snoopAnswer (s : State) (board a : Nat) (inFlight : Bool) : State :=
  match s.fab.txns.find? (·.req.addr = a) with
  | none => s
  | some t =>
    if !t.waiting.contains board then s
    else
      let t := { t with waiting := t.waiting.filter (· ≠ board), evicted := if inFlight then t.evicted ++ [board] else t.evicted }
      let rest := s.fab.txns.filter (·.req.addr ≠ a)
      if t.waiting.isEmpty then
        let was := s.fab.entry a
        let s := { s with fab := { s.fab with txns := rest } }
        ((s.finishReq t.req was t.evicted).drainQueue).settleLeaving
      else { s with fab := { s.fab with txns := rest ++ [t] } }

/-- Answers below ACK_BELOW are kept no longer (R498). -/
def State.pruneKept (s : State) (h : FabHdr) : State :=
  let l := s.fab.kept.filter fun k =>
    decide (k.src ≠ h.src) || decide ((k.reqId + 2 ^ 24 - h.ackBelow) % 2 ^ 24 < 2 ^ 23)
  { s with fab := { s.fab with kept := l } }

/-- A repeat of a REQ_ID is not executed again: its kept answer is resent with the data that memory holds (R498). -/
def State.resendKept (s : State) (k : Kept) : State :=
  let data := k.msg.typ = 0x12 ∨ k.msg.typ = 0x13 ∨ k.msg.typ = 0x15
  if data then
    let l := s.line (k.msg.addr % 2 ^ 40)
    s.sendMsg { k.msg with data := l.1, poison := l.2 }
  else s.sendMsg k.msg

/-- A request from another board arrives at the home (R474, R481, R486, R498). -/
def State.homeRequest (s : State) (typ : ReqType) (h : FabHdr) (mask : List Bool) (data : Bytes) (poison : Bool) : State :=
  let h := { h with addr := h.addr / 128 * 128 }
  let s := s.pruneKept h
  let r : HomeReq := { typ := typ, src := h.src, part := h.part, reqId := h.reqId, addr := h.addr, mask := mask, data := data,
                       poison := poison, arrived := s.clk, port := h.port + 1 }
  let mine := fun x : HomeReq => x.src = h.src && x.reqId = h.reqId && decide (x.typ ≠ .backInv)
  match s.fab.kept.find? fun k => k.src = h.src && k.reqId = h.reqId with
  | some k => s.resendKept k
  | none =>
    if s.fab.txns.any (fun t => mine t.req) || s.fab.queue.any mine then s
    else if s.serves h then s.startReq r
    else s.answerBare 0x18 h.src h.reqId h.part h.addr

/-- A window is no longer exported: its remote copies are taken back first (R475). -/
def State.withdraw (s : State) (r : Bytes) : State :=
  let lo := field r 8 8
  let es := s.fab.dir.filter fun e => decide (lo ≤ e.addr % 2 ^ 40) && decide (e.addr % 2 ^ 40 < lo + field r 16 8)
  let s := { s with fab := { s.fab with leaving := s.fab.leaving ++ [r] } }
  (es.foldl (fun s e => s.startReq { typ := .backInv, addr := e.addr }) s).settleLeaving

/-! This board's own accesses to its memory (R469): the home entry of R476. -/

/-- The domain address of a local line. -/
def State.domainLine (s : State) (line : Nat) : Nat := s.struct.boardId * 2 ^ 40 + 128 * line

/-- The 128-byte lines that `n` bytes from `a` touch. -/
def linesOf (a n : Nat) : List Nat := if n = 0 then [] else (List.range ((a + n - 1) / 128 - a / 128 + 1)).map (· + a / 128)

/-- The lines of a local range that memory cannot give now: another board owns them, or a transaction is in progress (R469, R482). -/
def State.away (s : State) (a n : Nat) : List Nat :=
  if s.fab.dir.isEmpty && s.fab.txns.isEmpty then []
  else (linesOf a n).filter fun l =>
    s.fab.busyLine (s.domainLine l) || ((s.fab.entry (s.domainLine l)).map (·.owner.isSome)).getD false

/-- Ask the owners of lines for their data, which goes to memory (R482, R486). DEDUCED (log entries 116, 147). -/
def State.recall (s : State) (part : Nat) (lines : List Nat) : State :=
  (lines.filter fun l => !s.fab.busyLine (s.domainLine l)).foldl (fun s l =>
    s.startReq { typ := .readNokeep, src := s.struct.boardId, part := part, addr := s.domainLine l, arrived := s.clk, quiet := true }) s

/-- Write a part of one line in the line's order: with copies on other boards they are taken back first (R469, R486).
DEDUCED (log entry 147). -/
def State.putPart (s : State) (part a : Nat) (bs : Bytes) (poison : Bool) : State :=
  let l := s.domainLine (a / 128)
  if (s.fab.entry l).isSome || s.fab.busyLine l then
    let mask := (List.range 128).map fun i => decide (a % 128 ≤ i) && decide (i < a % 128 + bs.length)
    s.startReq { typ := .writeMerge, src := s.struct.boardId, part := part, addr := l, mask := mask
                 data := List.replicate (a % 128) 0 ++ bs, poison := poison, arrived := s.clk, quiet := true }
  else s.memWrite a bs poison

/-- Write local bytes in the order of their lines (R469). -/
def State.put (s : State) (part a : Nat) (bs : Bytes) (poison : Bool) : State :=
  if s.fab.dir.isEmpty && s.fab.txns.isEmpty then s.memWrite a bs poison
  else
    (linesOf a bs.length).foldl (fun s l =>
      let lo := max a (128 * l)
      let hi := min (a + bs.length) (128 * l + 128)
      s.putPart part lo ((bs.drop (lo - a)).take (hi - lo)) poison) s

/-- Write local bytes in the order of their lines, each sector poisoned as `pz` says (R469). DEDUCED (log entry 106). -/
def State.putMixed (s : State) (part a : Nat) (bs : Bytes) (pz : Nat → Bool) : State :=
  (sectorsOf a bs.length).foldl (fun s k =>
    let lo := max a (64 * k)
    let hi := min (a + bs.length) (64 * k + 64)
    s.put part lo ((bs.drop (lo - a)).take (hi - lo)) (pz k)) s

/-- The standby takes over (R653). DEDUCED (log entry 114). -/
def State.takeOver (s : State) : State :=
  if s.pair.role = .standby then
    let d := if s.pair.partial_ then satN 0xFFFFFFFF (s.pair.discard + 1) else s.pair.discard
    let s := { s with pair := { s.pair with role := .takenOver, partial_ := false, discard := d } }
    let s := s.note srcMgt 0 0x0603 0 [3, s.pair.epoch, Config.eventCode "takeover"]
    (List.range 16).foldl (fun s f => if 0 < f ∧ s.struct.partEnabled f = true then s.event f 7 srcMgt else s) s
  else s

end Sys2Proof.Machine
end

