-- ==== Sys2Proof/Machine/CellarOps.lean ====
section
/-! DEFINITION. The cellar as every requester sees it (R464 to R469): the place of a line, the least recently used way, local
lines and remote lines. Memory is the coherent view of every local line; a cached local line holds no bytes of its own. -/

namespace Sys2Proof.Machine

/-- The set bits of a mask of `n` bits, rising. -/
def setBits (n m : Nat) : List Nat := (List.range n).filter fun i => bit m i

/-- The CACHE region that covers a domain address. -/
def Struct.cacheRegion (t : Struct) (a : Nat) : Option Bytes :=
  t.find 0x21 fun x => byteAt x 5 = 1 && decide (field x 16 8 ≤ a) && decide (a < field x 16 8 + field x 24 8)

/-- The slice and set of a line in a region (R465). -/
def regionSet (x : Bytes) (a : Nat) : Nat × Nat :=
  let l := setBits 16 (field x 8 2)
  ((l[lineHash a % max 1 l.length]?).getD 0, bits a 17 7)

/-- A mask of a whole line. -/
def fullMask (mask : List Bool) : Bool := decide (128 ≤ mask.length) && (mask.take 128).all (· = true)

/-- Use a cached line now (R465). -/
def Fab.touchLine (b : Fab) (line : Nat) (dirty : Bool) : Fab :=
  { b with
    lines := b.lines.map fun l => if l.line = line then { l with use := b.useCount, dirty := l.dirty || dirty } else l
    useCount := b.useCount + 1 }

/-- Count a hit or a miss of a region (Table 11-9, Table 15-6). -/
def Fab.count (b : Fab) (hit : Bool) : Fab :=
  if hit then { b with hits := satN 0xFFFFFFFF (b.hits + 1), telHits := b.telHits + 1 }
  else { b with misses := satN 0xFFFFFFFF (b.misses + 1), telMisses := b.telMisses + 1 }

/-- A remote line that can be given up now. -/
def RLine.settled (l : RLine) : Bool := l.st = .m || l.st = .e || l.st = .s

/-- Give a remote line up: EVICT_DIRTY from M, else EVICT_CLEAN (R483). -/
def State.evict (s : State) (l : RLine) : State :=
  let s := { s with fab := (s.fab.dropRline l.addr).setRline { l with st := .evicting, data := [] } }
  if l.st = .m then
    s.request ({ typ := 0x21, dest := l.addr / 2 ^ 40, addr := l.addr, data := l.data, poison := l.poison } : Msg) none
  else s.request ({ typ := 0x20, dest := l.addr / 2 ^ 40, addr := l.addr } : Msg) none

/-- Hold a line in a region: the lowest invalid way, else the least recently used one, which is given up (R465). None when
every way of the set waits for a line or its eviction. -/
def State.cellarAlloc (s : State) (x : Bytes) (a : Nat) (dirty : Bool) : Option State :=
  let p := regionSet x a
  let reg := byteAt x 4
  let here := s.fab.lines.filter fun l => l.region = reg && l.slice = p.1 && l.set = p.2
  let put (s : State) (w : Nat) : State :=
    let l : CelLine := { region := reg, slice := p.1, set := p.2, way := w, line := a / 128, dirty := dirty, use := s.fab.useCount }
    { s with fab := { s.fab with lines := s.fab.lines ++ [l], useCount := s.fab.useCount + 1 } }
  match (setBits 16 (field x 10 2)).find? fun w => here.all fun l => decide (l.way ≠ w) with
  | some w => some (put s w)
  | none =>
    let free := here.filter fun l => ((s.fab.rline (128 * l.line)).map RLine.settled).getD true
    match minBy (fun x y => decide (x.use < y.use)) free with
    | none => none
    | some v =>
      let s := { s with fab := { s.fab with lines := s.fab.lines.filter fun l => decide (l ≠ v) } }
      match s.fab.rline (128 * v.line) with
      | some l => some (put (s.evict l) v.way)
      | none => some (put s v.way)

/-- A read returns the bytes of its line. -/
def State.deliver (s : State) (r : CellarReq) (data : Bytes) (poison : Bool) : State := s.deliverTo r.part r.addr r.source data poison

/-- A request of a partition, or of the operator's PF0, may allocate in a region (R466). DEDUCED (log entry 117). -/
def mayAllocate (x : Bytes) (part : Nat) : Bool := part = 0 || byteAt x 6 = 0 || byteAt x 6 = part

/-- An access to a line of another board (R466, R467, R472, R484; Table 11-5). DEDUCED (log entry 117). -/
def State.remoteAccess (s : State) (r : CellarReq) : State :=
  let a := r.addr / 128 * 128
  let dest := a / 2 ^ 40
  let region := s.struct.cacheRegion a
  let ask (s : State) (typ : Nat) (data : Bytes) : State :=
    s.request ({ typ := typ, dest := dest, part := r.part, addr := a, data := data, poison := r.poison } : Msg) none
  match s.fab.rline a with
  | some l =>
    let s := if l.settled then { s with fab := (s.fab.touchLine (a / 128) r.write).count true } else s
    if (l.st = .m ∨ l.st = .e) ∧ r.write then
      let p := if fullMask r.mask then r.poison else l.poison || r.poison
      { s with fab := s.fab.setRline { l with st := .m, data := mergeBytes l.data r.data r.mask, poison := p } }
    else if l.settled && !r.write then s.deliver r l.data l.poison
    else if l.st = .s then
      ask { s with fab := s.fab.setRline { l with st := .upgrade, wait := [r] } } 0x02 []
    else { s with fab := s.fab.setRline { l with wait := l.wait ++ [r] } }
  | none =>
    let s := if region.isSome then { s with fab := s.fab.count false } else s
    match (match region with | some x => if mayAllocate x r.part then s.cellarAlloc x a r.write else none | none => none) with
    | some s =>
      let st := if r.write then CohSt.waitU else CohSt.waitS
      ask { s with fab := s.fab.setRline { addr := a, st := st, wait := [r] } } (if r.write then 0x02 else 0x01) []
    | none =>
      if r.write then
        let m := leBytes 16 (((List.range 128).map fun k => if (r.mask[k]?).getD false then 2 ^ k else 0).foldl (· + ·) 0)
        ask s 0x04 (m ++ slice r.data 0 128)
      else ask s 0x03 []

/-- The accesses that waited for a line go on, in order (R469). DEDUCED (log entry 117). -/
def State.serveWaiters (s : State) (l : List CellarReq) : State := l.foldl (fun s r => s.remoteAccess r) s

/-- The line an answer brings is installed (R487, Table 11-5). DEDUCED (log entry 117). -/
def State.installLine (s : State) (a : Nat) (st : CohSt) (data : Option (Bytes × Bool)) : State :=
  match s.fab.rline a with
  | none => s
  | some l =>
    if l.settled || l.st = .evicting then s
    else
      let d := data.getD (l.data, l.poison)
      let s := { s with fab := s.fab.setRline { l with st := st, data := d.1, poison := d.2, wait := [] } }
      s.serveWaiters l.wait

/-- The partition of the advertised window in which a remote line lies (R473, R474). -/
def Fab.windowPart (b : Fab) (a : Nat) : Nat :=
  let la := a % 2 ^ 40
  ((b.windows.find? fun w => w.board = a / 2 ^ 40 && decide (w.base ≤ la) && decide (la < w.base + w.size)).map (·.part)).getD 0

/-- A clean remote line is fetched again (R471): its state becomes that of a line whose request is outstanding.
DEDUCED (log entry 151). -/
def State.refetch (s : State) (l : RLine) : State :=
  let own := decide (l.st = .e)
  let s := { s with fab := (s.fab.setRline { l with st := if own then .waitU else .waitS, data := [], poison := false }).count false }
  s.request ({ typ := if own then 0x02 else 0x01, dest := l.addr / 2 ^ 40, part := s.fab.windowPart l.addr, addr := l.addr } : Msg) none

/-- The bytes of a masked write to a local line. -/
def State.maskedWrite (s : State) (r : CellarReq) : State :=
  s.mergeLine { addr := r.addr / 128 * 128, mask := r.mask, data := r.data } r.poison

/-- Whether an address exists on this board (Table 11-2). -/
def State.lineExists (s : State) (a : Nat) : Bool := s.inBoardMem a 128 || (s.struct.pinned a).isSome

/-- The cellar counts an access to a local line as a hit or a miss and, on a miss in a CACHE region, may allocate it (R465 to R469).
DEDUCED (log entry 117). -/
def State.cellarCount (s : State) (r : CellarReq) : State :=
  let a := r.addr / 128 * 128
  if (s.struct.pinned (a % 2 ^ 40)).isSome then { s with fab := s.fab.count true }
  else
    match s.struct.cacheRegion a with
    | none => s
    | some x =>
      if s.fab.lines.any (·.line = a / 128) then { s with fab := (s.fab.touchLine (a / 128) r.write).count true }
      else
        let s := { s with fab := s.fab.count false }
        if mayAllocate x r.part then (s.cellarAlloc x a r.write).getD s else s

/-- An access to a line of this board (R465 to R469). A line with remote copies is ordered by the home (R476, R486). -/
def State.localAccess (s : State) (r : CellarReq) : State :=
  let a := r.addr / 128 * 128
  let la := a % 2 ^ 40
  let s := s.cellarCount r
  let held := match s.fab.entry a with
    | some e => r.write || e.owner.isSome
    | none => false
  if held || s.fab.busyLine a then
    s.startReq { typ := if r.write then .writeMerge else .readNokeep, src := s.struct.boardId, part := r.part, addr := a,
                 mask := r.mask, data := r.data, poison := r.poison, arrived := s.clk, source := r.source }
  else if r.write then s.maskedWrite r
  else s.deliver r (s.mem.read la 128) (s.mem.poisoned la 128)

/-- Poison a local line where it lies (R446, R459, R460). -/
def State.poisonLine (s : State) (a : Nat) : State := s.memWrite a (s.mem.read a 128) true

/-! PINNED windows (R468). -/

/-- The slice, way and set of line `l` of a PINNED window (R468). -/
def pinnedPlace (x : Bytes) (l : Nat) : Nat × Nat × Nat :=
  let sl := setBits 16 (field x 8 2)
  let r := l / max 1 sl.length
  ((sl[l % max 1 sl.length]?).getD 0, ((setBits 16 (field x 10 2))[r / 2048]?).getD 0, r % 2048)

/-- The line of a PINNED window at a slice, set and way, if it has one there. -/
def pinnedLine (x : Bytes) (slice set way : Nat) : Option Nat :=
  let sl := setBits 16 (field x 8 2)
  match sl.findIdx? (· = slice), (setBits 16 (field x 10 2)).findIdx? (· = way) with
  | some j, some i =>
    let l := (2048 * i + set) * sl.length + j
    if set < 2048 ∧ 128 * l < field x 24 8 then some l else none
  | _, _ => none

/-- The domain address of the line that stands at a slice, set and way (R465, R468). -/
def State.lineAt (s : State) (slice set way : Nat) : Option Nat :=
  match (s.struct.all 0x21).findSome? fun x =>
      if byteAt x 5 = 2 then (pinnedLine x slice set way).map fun l => s.struct.boardId * 2 ^ 40 + field x 16 8 + 128 * l else none with
  | some a => some a
  | none => (s.fab.lines.find? fun l => l.slice = slice && l.set = set && l.way = way).map fun l => 128 * l.line

/-! Requests that fail. -/

/-- Bytes of a command's remote source arrive, one line at a time (R472): a DMA_COPY passes them on to its destination, a MSG_SEND
keeps them until its chunks go out. Poisoned ones are logged. -/
def State.takeSource (s : State) (cmd : Option (Nat × Nat × Nat)) (c : Cmd) (f q : Nat) (a : Nat) (data : Bytes) (poison : Bool) : State :=
  let s := if poison then (s.markCmd cmd true false).poisonRead f a srcCel else s
  if c.opcode = 0x30 then
    let lo := max a c.addr0
    let hi := min (a + 128) (c.addr0 + c.length)
    let bs := (data.drop (lo - a)).take (hi - lo)
    let dst := c.addr1 + (lo - c.addr0)
    if bit (c.param 0 1) 1 then s.emit (.hostWrite f dst bs poison)
    else
      match s.place f dst bs.length with
      | .local_ b => s.put f b bs poison
      | .remote board b => s.remoteWrite board f b bs poison cmd
      | .bad _ => s
  else s.setCmd f q c.pos fun c => { c with got := c.got ++ [(a, data, poison)] }

/-- The command behind a message, while its status is not fixed. -/
def State.cmdOf (s : State) (c : Option (Nat × Nat × Nat)) : Option (Nat × Nat × Cmd) :=
  match c with
  | none => none
  | some (f, q, p) => ((s.queue f q).cmds.find? fun c => c.pos = p && !c.fixed).map fun c => (f, q, c)

/-- A line of another board arrives for the transfers of a core that have asked for it (R433, R472); a poisoned one is logged. -/
def State.takeCoreLine (s : State) (c part a : Nat) (data : Bytes) (poison : Bool) : State :=
  let s := if poison then s.poisonRead part a (srcCore c) else s
  let take (x : Xfer) : Xfer :=
    if x.asked.contains a && !x.got.any (·.1 = a) then { x with got := x.got ++ [(a, slice data 0 128, poison)] } else x
  { s with nec := { s.nec with cores := s.nec.cores.mapIdx fun i x => if i = c then { x with dma := x.dma.map take } else x } }

/-- A line arrives for a request that keeps no copy (R487): for a core's transfer, for the source of a command, or for an uncached
read. -/
def State.takeNokeep (s : State) (u : Unans) (a : Nat) (data : Bytes) (poison : Bool) : State :=
  match u.cmd with
  | none => s.deliverTo u.msg.part a srcCel data poison
  | some (f, _, _) =>
    if 16 ≤ f then s.takeCoreLine (f - 16) u.msg.part a data poison
    else match s.cmdOf u.cmd with
      | some (f, q, c) => s.takeSource u.cmd c f q a data poison
      | none => s

/-- What waited for a line whose request failed (R474, R499, R506): the first access fails with it, and so do the reads behind it; a copy
that the line held stays. -/
def State.failLine (s : State) (a : Nat) : State :=
  match s.fab.rline a with
  | none => s
  | some l =>
    if l.settled then s
    else if l.st = .upgrade then
      let s := { s with fab := s.fab.setRline { l with st := .s, wait := [] } }
      (l.wait.drop 1).foldl (fun s r => s.remoteAccess r) s
    else
      let s := { s with fab := s.fab.dropRline a }
      (l.wait.filter fun r => !r.write).foldl (fun s r => (s.deliver r (s.freeBytes 128) true).useFree) s

/-- A request is over without its effect (R474, R499, R506): a read returns poisoned data, a write or message has lost its effect.
DEDUCED (log entry 119). -/
def State.failRequest (s : State) (u : Unans) : State :=
  let s := (s.answered u.msg.dest u.msg.reqId).failLine u.msg.addr
  if u.msg.typ = 0x30 ∨ u.msg.typ = 0x33 then
    match u.cmd with
    | some (f, q, p) => s.fix f q p 0x21 0 (s.msgSource u.msg.dest)
    | none => s
  else if u.msg.typ = 0x03 then (s.takeNokeep u u.msg.addr (s.freeBytes 128) true).useFree
  else s.markCmd u.cmd false (decide (0x03 < u.msg.typ))

/-- A message fails after its resends, or with its board (R499, R506): it is counted and logged. -/
def State.failMsg (s : State) (u : Unans) : State :=
  let s := { s with fab := { s.fab with failures := satN 0xFFFF (s.fab.failures + 1) } }
  let s := s.note srcCel 3 0x0402 u.msg.part [u.msg.dest, u.msg.reqId, u.msg.typ]
  s.failRequest u

end Sys2Proof.Machine
end

