-- ==== Sys2Proof/Machine/HostOps.lean ====
section
/-! DEFINITION. Shared operations of the data-moving host commands: arbitrated engines (R150, R153 to R157), reading and writing a
place with its poison (R674 to R677), and ledger entries as bytes (R685, R695 to R698). -/

namespace Sys2Proof.Machine

/-! Engines. -/

/-- The service a partition has had on an engine. -/
def Engine.served (e : Engine) (p : Nat) : Nat := agetD e.service p 0

/-- The next of the waiting jobs (R155): of the partition whose service, divided by its weight, is lowest; of equal ones the lower
source number; of one partition the oldest. DESIGN CHOICE (log entry 54). -/
def Struct.nextJob (t : Struct) (e : Engine) : Option Job :=
  minBy (fun a b =>
    let x := e.served a.part * t.weight b.part
    let y := e.served b.part * t.weight a.part
    decide (x < y) || (x = y && decide (a.part < b.part))) e.waiting

/-- An idle engine takes the next job. DESIGN CHOICE (log entry 54). -/
def Struct.pick (t : Struct) (e : Engine) : Engine :=
  if e.cur.isSome then e
  else match t.nextJob e with
    | some j => { e with cur := some j, waiting := e.waiting.erase j }
    | none => e

/-- A job arrives at an engine. -/
def Struct.addJob (t : Struct) (e : Engine) (j : Job) : Engine := t.pick { e with waiting := e.waiting ++ [j] }

/-- `n` bytes of the present job are done (R154, R157): the rest waits again, and the next job is taken. A job that was interrupted
goes on first (R156). DESIGN CHOICE (log entry 54). -/
def Struct.endPiece (t : Struct) (e : Engine) (n : Nat) : Engine :=
  match e.cur with
  | none => t.pick e
  | some j =>
    let done := min n j.left
    let e := { e with cur := none, service := aset e.service j.part (e.served j.part + done) }
    let e := if j.left ≤ n then e else { e with waiting := e.waiting ++ [{ j with left := j.left - done }] }
    match e.saved with
    | some k => { e with cur := some k, saved := none }
    | none => t.pick e

/-- The jobs an engine holds. -/
def Engine.jobs (e : Engine) : List Job := e.cur.toList ++ e.saved.toList ++ e.waiting

/-- The engine of a list with the fewest jobs, the lowest such number. DESIGN CHOICE (log entry 53). -/
def leastLoaded (l : List Engine) : Nat := ((minBy (fun a b => decide (a.1 < b.1)) (l.map (·.jobs.length)).zipIdx).map (·.2)).getD 0

/-- The job of a command. -/
def cmdJob (f q : Nat) (c : Cmd) (bytes : Nat) : Job := { part := f, queue := q, seq := c.seq, left := bytes, safety := bit c.flags 1 }

/-- A command's transfer goes to a HIF DMA engine. DESIGN CHOICE (log entry 53). -/
def State.useDma (s : State) (j : Job) : State :=
  let n := leastLoaded s.hif.dma.toList
  { s with hif := { s.hif with dma := s.hif.dma.mapIdx fun i e => if i = n then s.struct.addJob e j else e } }

/-- A command's messages go to a sealing engine. DESIGN CHOICE (log entry 53). -/
def State.useSealing (s : State) (j : Job) : State :=
  let n := leastLoaded s.hif.sealing.toList
  { s with hif := { s.hif with sealing := s.hif.sealing.mapIdx fun i e => if i = n then s.struct.addJob e j else e } }

/-- A command's message goes to the message engine of a Lanicy port. DESIGN CHOICE (log entry 53). -/
def State.useMessage (s : State) (n : Nat) (j : Job) : State :=
  { s with hif := { s.hif with message := s.hif.message.mapIdx fun i e => if i = n then s.struct.addJob e j else e } }

/-! Data. -/

/-- The bytes of a local range are read with their poison: each poisoned line is logged (R459, Table 15-4).
DESIGN CHOICE (log entry 49). -/
def State.readLocal (s : State) (f a n : Nat) : State :=
  let lines := ((sectorsOf a n).filter s.mem.poison.contains).map (· / 2)
  lines.eraseDups.foldl (fun s l => s.poisonRead f (s.struct.boardId * 2 ^ 40 + 128 * l) (srcPart f)) s

/-- Bytes go to host memory, with EP in each write that carries a poisoned byte (R674): `pz` marks the 64-byte pieces that begin
at offset `first` within a sector. DESIGN CHOICE (log entry 49). -/
def State.toHost (s : State) (f q seq addr : Nat) (bs : Bytes) (first : Nat) (pz : Nat → Bool) : State :=
  let n := (first + bs.length + 63) / 64
  if (List.range n).any pz then
    (List.range n).foldl (fun s k =>
      let lo := 64 * k - first
      let hi := min bs.length (64 * (k + 1) - first)
      let s := s.emit (.hostWrite f (addr + lo) ((bs.drop lo).take (hi - lo)) (pz k))
      if pz k then s.note (srcPart f) 2 0x0104 f [q, seq, addr + lo] else s) s
  else s.emit (.hostWrite f addr bs false)

/-- Bytes go to a place on the domain's memory; `pz` says for each byte whether it is poisoned. DESIGN CHOICE (log entry 49). -/
def State.toPlace (s : State) (f : Nat) (p : Place) (bs : Bytes) (pz : Nat → Bool) (cmd : Option (Nat × Nat × Nat)) : State :=
  match p with
  | .local_ a => s.putMixed f a bs fun k => (List.range 64).any fun i => decide (a ≤ 64 * k + i) && decide (64 * k + i < a + bs.length) && pz (64 * k + i - a)
  | .remote board a =>
    (List.range ((a + bs.length - 1) / 128 - a / 128 + 1)).foldl (fun s i =>
      let lo := max a (128 * (a / 128 + i))
      let hi := min (a + bs.length) (128 * (a / 128 + i) + 128)
      s.remoteWrite board f lo ((bs.drop (lo - a)).take (hi - lo)) ((List.range (hi - lo)).any fun k => pz (lo - a + k)) cmd) s
  | .bad _ => s

/-! Ledger entries. -/

/-- A ledger entry as bytes (Table 15-3). -/
def LogEntry.bytes (e : LogEntry) : Bytes :=
  leBytes 8 e.gtc ++ leBytes 2 (e.source % 4096 + 4096 * (e.cls % 8)) ++ leBytes 2 e.code ++ leBytes 1 e.part ++
    leBytes 1 (b2n e.tenant + 2 * b2n e.gapBefore + 4 * b2n e.coalesced + 8 * b2n e.late) ++ leBytes 2 e.steps ++
    leBytes 4 e.seq.toNat ++ leBytes 4 e.boot.toNat ++ (List.range 5).flatMap fun i => leBytes 8 ((e.args[i]?).getD 0)

/-- The entries a function may see (R697, R698). DEDUCED (log entry 52). -/
def LogEntry.visible (e : LogEntry) (f : Nat) (operatorOnly : Bool) : Bool :=
  !(operatorOnly && e.tenant) && (f = 0 || e.part = f || bit e.ran f)

/-- What a LEDGER_READ writes (R695): header, then whole entries. DEDUCED (log entry 52). -/
def State.ledgerBytes (s : State) (f len gtc first flags : Nat) : Bytes :=
  let held := s.log.nor ++ s.log.buf
  let all := held.filter fun e => e.visible f (bit flags 1)
  let from_ :=
    if bit flags 0 then all.dropWhile fun e => decide (e.seq.toNat < first)
    else all.dropWhile fun e => !(e.boot = s.log.boot && decide (gtc ≤ e.gtc))
  let out := from_.take ((len - 64) / 64)
  let next := match out.getLast? with
    | some e => (e.seq + 1).toNat
    | none => s.log.seq.toNat
  let oldest := match held.head? with
    | some e => e.seq.toNat
    | none => s.log.seq.toNat
  leBytes 4 out.length ++ leBytes 4 next ++ leBytes 4 s.log.lost ++ leBytes 4 oldest ++ List.replicate 48 0 ++ out.flatMap LogEntry.bytes

end Sys2Proof.Machine
end

