-- ==== Sys2Proof/Machine/Coherence.lean ====
section
/-! DEFINITION. The messages between caches and homes (Tables 11-4, 11-5; R474, R482 to R487, R496 to R498) and the message
engine's traffic into a mailbox ring (R508, R509). -/

namespace Sys2Proof.Machine

/-- A board declared lost is not heard until it returns from a reset of level 4 or 5 (R507). -/
def State.hears (s : State) (src : Nat) : Bool := !s.fab.lost.contains src

/-- The header with the address of its line. -/
def onLine (h : FabHdr) : FabHdr := { h with addr := h.addr / 128 * 128 }

/-- READ_SHARED at the home (R486). -/
def execReadShared (h : FabHdr) (s : State) : Host.Outcome State Fault Refusal :=
  if s.hears h.src then .next (s.homeRequest .readShared h [] [] false) else .next s

/-- READ_UNIQUE at the home (R486). -/
def execReadUnique (h : FabHdr) (s : State) : Host.Outcome State Fault Refusal :=
  if s.hears h.src then .next (s.homeRequest .readUnique h [] [] false) else .next s

/-- READ_NOKEEP at the home (R486). -/
def execReadNokeep (h : FabHdr) (s : State) : Host.Outcome State Fault Refusal :=
  if s.hears h.src then .next (s.homeRequest .readNokeep h [] [] false) else .next s

/-- WRITE_MERGE at the home (R486). -/
def execWriteMerge (h : FabHdr) (mask : List Bool) (data : Bytes) (poison : Bool) (s : State) : Host.Outcome State Fault Refusal :=
  if s.hears h.src then .next (s.homeRequest .writeMerge h mask data poison) else .next s

/-- Set what is left of a directory entry: one without owner, sharers and BROADCAST mark is free (R475, R486).
DEDUCED (log entry 118). -/
def State.settleEntry (s : State) (a : Nat) (e : Option DirEnt) : State :=
  match e with
  | some e =>
    if e.owner.isNone && e.sharers.isEmpty && !e.broadcast then ({ s with fab := s.fab.dropEntry a } : State).settleLeaving
    else { s with fab := s.fab.setEntry e }
  | none => ({ s with fab := s.fab.dropEntry a } : State).settleLeaving

/-- An eviction reaches the home (R485, R486, R498): attached to an outstanding snoop of its board, or applied at once. `data`
is the line of a dirty eviction. -/
def State.eviction (s : State) (h : FabHdr) (data : Option (Bytes × Bool)) : State :=
  let a := h.addr
  let s := s.pruneKept h
  let store (s : State) : State :=
    match data with
    | some (d, p) => s.memWrite (a % 2 ^ 40) (slice d 0 128) p
    | none => s
  let ack (s : State) : State := s.answerBare 0x17 h.src h.reqId h.part a
  match s.fab.kept.find? (fun k => k.src = h.src && k.reqId = h.reqId) with
  | some k => s.resendKept k
  | none =>
    let e := s.fab.entry a
    let owner := match e with
      | some e => decide (e.owner = some h.src)
      | none => false
    if s.fab.txns.any fun t => t.req.addr = a && t.waiting.contains h.src then
      let txns := s.fab.txns.map fun t =>
        if t.req.addr = a ∧ !t.attached.contains (h.src, h.reqId) then { t with attached := t.attached ++ [(h.src, h.reqId)] } else t
      let s := if owner then store s else s
      { s with fab := { s.fab with txns := txns } }
    else
      match e with
      | none => ack s
      | some e =>
        if owner then ack ((store s).settleEntry a none)
        else if data.isNone && e.owner.isNone then ack (s.settleEntry a (some { e with sharers := nrem e.sharers h.src }))
        else ack s

/-- EVICT_CLEAN at the home (R485, R486). -/
def execEvictClean (h : FabHdr) (s : State) : Host.Outcome State Fault Refusal :=
  if s.hears h.src then .next (s.eviction (onLine h) none) else .next s

/-- EVICT_DIRTY at the home (R485, R486). -/
def execEvictDirty (h : FabHdr) (data : Bytes) (poison : Bool) (s : State) : Host.Outcome State Fault Refusal :=
  if s.hears h.src then .next (s.eviction (onLine h) (some (data, poison))) else .next s

/-- Answer a snoop, echoing its REQ_ID. -/
def State.snoopReply (s : State) (home typ reqId a : Nat) (data : Bytes) (poison : Bool) : State :=
  s.sendMsg ({ typ := typ, dest := home, reqId := reqId, addr := a, data := data, poison := poison } : Msg)

/-- SNOOP_SHARE at a cache (Table 11-5). -/
def execSnoopShare (home addr reqId : Nat) (s : State) : Host.Outcome State Fault Refusal :=
  let a := addr / 128 * 128
  if !s.hears home then .next s
  else
    match s.fab.rline a with
    | none => .next (s.snoopReply home 0x22 reqId a [] false)
    | some l =>
      match l.st with
      | .m => .next (({ s with fab := s.fab.setRline { l with st := .s } } : State).snoopReply home 0x23 reqId a l.data l.poison)
      | .e => .next (({ s with fab := s.fab.setRline { l with st := .s } } : State).snoopReply home 0x22 reqId a [] false)
      | .evicting => .next (s.snoopReply home 0x24 reqId a [] false)
      | .s => .next (s.snoopReply home 0x22 reqId a [] false)
      | .upgrade => .next (s.snoopReply home 0x22 reqId a [] false)
      | .waitS => .next (s.snoopReply home 0x22 reqId a [] false)
      | .waitU => .next (s.snoopReply home 0x22 reqId a [] false)

/-- SNOOP_INV at a cache (Table 11-5). -/
def execSnoopInv (home addr reqId : Nat) (s : State) : Host.Outcome State Fault Refusal :=
  let a := addr / 128 * 128
  let drop : State := { s with fab := s.fab.dropRline a }
  if !s.hears home then .next s
  else
    match s.fab.rline a with
    | none => .next (s.snoopReply home 0x22 reqId a [] false)
    | some l =>
      match l.st with
      | .m => .next (drop.snoopReply home 0x23 reqId a l.data l.poison)
      | .e => .next (drop.snoopReply home 0x22 reqId a [] false)
      | .s => .next (drop.snoopReply home 0x22 reqId a [] false)
      | .upgrade => .next (({ s with fab := s.fab.setRline { l with st := .waitU } } : State).snoopReply home 0x22 reqId a [] false)
      | .waitS => .next (s.snoopReply home 0x22 reqId a [] false)
      | .waitU => .next (s.snoopReply home 0x22 reqId a [] false)
      | .evicting => .next (s.snoopReply home 0x24 reqId a [] false)

/-- SNOOP_ACK at the home: the transaction goes on (R486). -/
def execSnoopAck (h : FabHdr) (s : State) : Host.Outcome State Fault Refusal :=
  if s.hears h.src then .next (s.snoopAnswer h.src (onLine h).addr false) else .next s

/-- The home waits for a snoop answer of a board about a line. -/
def State.snooping (s : State) (board a : Nat) : Bool := s.fab.txns.any fun t => t.req.addr = a && t.waiting.contains board

/-- SNOOP_ACK_DATA at the home: the dirty data is in memory before the request is answered (R482). -/
def execSnoopAckData (h : FabHdr) (data : Bytes) (poison : Bool) (s : State) : Host.Outcome State Fault Refusal :=
  let a := (onLine h).addr
  if s.hears h.src && s.snooping h.src a then
    .next ((s.memWrite (a % 2 ^ 40) (slice data 0 128) poison).snoopAnswer h.src a false)
  else .next s

/-- EVICT_IN_FLIGHT at the home: the snoop completes from the attached eviction, which is acknowledged only then (R485). -/
def execEvictInFlight (h : FabHdr) (s : State) : Host.Outcome State Fault Refusal :=
  let a := (onLine h).addr
  if s.hears h.src && s.snooping h.src a then
    let acks := ((s.fab.txns.filter fun t => decide (t.req.addr = a)).flatMap (·.attached)).filter fun x => decide (x.1 = h.src)
    .next (acks.foldl (fun s x => s.answerBare 0x17 x.1 x.2 h.part a) (s.snoopAnswer h.src a true))
  else .next s

/-- An answer belongs to an unanswered request of one of these types. -/
def State.expects (s : State) (h : FabHdr) (typs : List Nat) : Option Unans :=
  if s.hears h.src then
    match s.unanswered h.src h.reqId with
    | some u => if typs.contains u.msg.typ then some u else none
    | none => none
  else none

/-- LINE_SHARED at the requester (R487). -/
def execLineShared (h : FabHdr) (data : Bytes) (poison : Bool) (s : State) : Host.Outcome State Fault Refusal :=
  match s.expects h [0x01] with
  | none => .next s
  | some _ => .next ((s.answered h.src h.reqId).installLine (onLine h).addr .s (some (slice data 0 128, poison)))

/-- LINE_OWNED at the requester (R487). -/
def execLineOwned (h : FabHdr) (data : Bytes) (poison : Bool) (s : State) : Host.Outcome State Fault Refusal :=
  match s.expects h [0x01, 0x02] with
  | none => .next s
  | some _ => .next ((s.answered h.src h.reqId).installLine (onLine h).addr .e (some (slice data 0 128, poison)))

/-- LINE_NOKEEP at the requester: the bytes are delivered and nothing is installed (R487). To a command they are a part of its
source. -/
def execLineNokeep (h : FabHdr) (data : Bytes) (poison : Bool) (s : State) : Host.Outcome State Fault Refusal :=
  match s.expects h [0x03] with
  | none => .next s
  | some u => .next ((s.answered h.src h.reqId).takeNokeep u (onLine h).addr (slice data 0 128) poison)

/-- UPGRADE_OK at a sharer (R487). -/
def execUpgradeOk (h : FabHdr) (s : State) : Host.Outcome State Fault Refusal :=
  match s.expects h [0x02] with
  | none => .next s
  | some _ => .next ((s.answered h.src h.reqId).installLine (onLine h).addr .e none)

/-- WRITE_DONE at the requester (R496). -/
def execWriteDone (h : FabHdr) (s : State) : Host.Outcome State Fault Refusal :=
  match s.expects h [0x04] with
  | none => .next s
  | some _ => .next (s.answered h.src h.reqId)

/-- EVICT_ACK at the cache: the line is I, and what waited for it goes on (R484). -/
def execEvictAck (h : FabHdr) (s : State) : Host.Outcome State Fault Refusal :=
  match s.expects h [0x20, 0x21] with
  | none => .next s
  | some _ =>
    let a := (onLine h).addr
    let s := s.answered h.src h.reqId
    match s.fab.rline a with
    | none => .next s
    | some l =>
      if l.st = .evicting then
        let s := { s with fab := { s.fab with remote := s.fab.remote.filter fun x => decide (x.addr ≠ a) } }
        .next ((s.issueWaiting h.src s.fab.waitReq.length).serveWaiters l.wait)
      else .next s

/-- DENIED at the requester (R474, R508): a MSG_RESERVE for a window that its board advertises to the partition lacks room, so the
MSG_SEND completes NOT_PERMITTED; otherwise a read returns poison, and any other effect is lost. DEDUCED (log entry 149). -/
def execDenied (h : FabHdr) (s : State) : Host.Outcome State Fault Refusal :=
  match s.expects h [0x01, 0x02, 0x03, 0x04, 0x20, 0x21, 0x30, 0x33] with
  | none => .next s
  | some u =>
    let window := ofLe (u.msg.data.take 4)
    if u.msg.typ = 0x30 && s.fab.windows.any fun w => w.board = h.src && w.window = window && w.part = u.msg.part then
      let s := s.answered h.src h.reqId
      match u.cmd with
      | some (f, q, p) => .next (s.refuse f q p 0x03)
      | none => .next s
    else .next (s.failRequest u)

/-! Mailbox rings. WR_OFF and RD_OFF count bytes from the ring's start, modulo its size. -/

/-- First address and size of the ring of a window (R508). -/
def ringOf (w : Bytes) : Nat × Nat := (field w 8 8 + 64, field w 16 8 - 64)

/-- The room a message takes in a ring (R509). -/
def mailRoom (length : Nat) : Nat := 64 + up64 length

/-- Write into a ring at an offset, going on at its start. DEDUCED (log entry 120). -/
def State.ringWrite (s : State) (w : Bytes) (off : Nat) (bs : Bytes) (poison : Bool) : State :=
  let r := ringOf w
  let o := off % max 1 r.2
  let n := min bs.length (r.2 - o)
  (s.put (byteAt w 5) (r.1 + o) (bs.take n) poison).put (byteAt w 5) r.1 (bs.drop n) poison

/-- A message may enter a mailbox's ring: the window has the sender's PART (R474, R508). -/
def mailFor (w : Bytes) (part length : Nat) : Bool :=
  byteAt w 5 = part && decide (1 ≤ length) && decide (length ≤ 16777216)

/-- The ring offset at which the next message of a mailbox would stand, if the ring has room for it beside those on their way
(R508). -/
def State.mailPlace (s : State) (w : Bytes) (mailbox length : Nat) : Option Nat :=
  let base := field w 8 8
  let size := (ringOf w).2
  let wr := ofLe (s.mem.read base 8) % max 1 size
  let rd := ofLe (s.mem.read (base + 8) 8) % max 1 size
  let inside := s.fab.mails.filter fun m => decide (m.window = mailbox)
  let coming := (inside.map fun m => mailRoom m.length).foldl (· + ·) 0
  let used := (wr + size - rd) % max 1 size + coming
  if used + mailRoom length < size then some ((wr + coming) % max 1 size) else none

/-- The board is to receive a message into a mailbox. -/
def State.addMail (s : State) (m : MailIn) : State := { s with fab := { s.fab with mails := s.fab.mails ++ [m] } }

/-- MSG_RESERVE at the receiver (R474, R508). DEDUCED (log entry 120). -/
def execMsgReserve (h : FabHdr) (mailbox length : Nat) (s : State) : Host.Outcome State Fault Refusal :=
  if !s.hears h.src then .next s
  else
    let s := s.pruneKept h
    match s.fab.kept.find? (fun k => k.src = h.src && k.reqId = h.reqId) with
    | some k => .next (s.resendKept k)
    | none =>
      let deny := s.answerBare 0x18 h.src h.reqId h.part 0
      match s.struct.exportRec mailbox with
      | none => .next deny
      | some w =>
        if s.sameTenant h.src && mailFor w h.part length then
          match s.mailPlace w mailbox length with
          | some o =>
            .next ((s.addMail { src := h.src, reqId := h.reqId, window := mailbox, length := length, at_ := o }).answerBare 0x31 h.src h.reqId h.part 0)
          | none => .next deny
        else .next deny

/-- The sender's MSG_SEND is done: OK, POISONED or UNCORRECTED (R676 to R678). -/
def State.fixSend (s : State) (cmd : Option (Nat × Nat × Nat)) (source : Nat) : State :=
  match s.cmdOf cmd with
  | none => s
  | some (f, q, c) => s.fix f q c.pos (if c.lost then 0x21 else if c.poisoned then 0x20 else 0x00) 0 source

/-- A message of this board to one of its own mailboxes is delivered (R509): its MSG_SEND is done. -/
def State.ownMailDone (s : State) (reqId : Nat) : State :=
  match s.unanswered s.struct.boardId reqId with
  | some u => (s.answered s.struct.boardId reqId).fixSend u.cmd (srcPort 0)
  | none => s

/-- WR_OFF passes the messages of a window that are whole, oldest first, and each sender is told; a sender on this board has its
MSG_SEND done (R509). DEDUCED (log entry 120). -/
def State.passMails (s : State) (w : Bytes) (window : Nat) : List MailIn → State
  | [] => s
  | m :: t =>
    if m.whole then
      let size := (ringOf w).2
      let wr := (m.at_ + mailRoom m.length) % max 1 size
      let s := s.put (byteAt w 5) (field w 8 8) (leBytes 8 wr) false
      let s := { s with fab := { s.fab with mails := s.fab.mails.filter fun x => decide (x ≠ m) } }
      (if m.src = s.struct.boardId then s.ownMailDone m.reqId else s.answerBare 0x33 m.src m.reqId (byteAt w 5) 0).passMails w window t
    else s

/-- A message is all in its ring: its header is written, and WR_OFF passes it when it is the oldest (R509).
DEDUCED (log entry 120). -/
def State.mailWhole (s : State) (w : Bytes) (m : MailIn) : State :=
  let s := s.ringWrite w m.at_ (slice (Config.mailHeader m.src m.length m.reqId s.gtcNs) 0 64) false
  let mails := s.fab.mails.map fun x => if x = m then { x with whole := true } else x
  let s := { s with fab := { s.fab with mails := mails } }
  s.passMails w m.window (mails.filter fun x => decide (x.window = m.window))

/-! The sender of a message. -/

/-- The bytes of a MSG_SEND's source from offset `o` on, with their poison, once they can be read: from local memory when no other
board owns a line of them, from a remote window when its lines have arrived (R469, R472). -/
def State.sourceBytes (s : State) (f : Nat) (c : Cmd) (o n : Nat) : Option (Bytes × Bool) :=
  match s.place f (c.addr0 + o) n with
  | .local_ a => if (s.away a n).isEmpty then some (s.mem.read a n, s.mem.poisoned a n) else none
  | .remote _ _ =>
    let a := c.addr0 + o
    let ls := (linesOf a n).map fun l => c.got.find? fun g => g.1 = 128 * l
    if ls.all (·.isSome) then
      let gs := ls.map fun g => g.getD (0, [], false)
      some (((gs.flatMap (·.2.1)).drop (a % 128)).take n, gs.any (·.2.2))
    else none
  | .bad _ => none

/-- The lines of a MSG_SEND's local source that another board owns are asked back (R469). -/
def State.recallSource (s : State) (f : Nat) (c : Cmd) (o n : Nat) : State :=
  match s.place f (c.addr0 + o) n with
  | .local_ a => s.recall f (s.away a n)
  | _ => s

/-- A message that has been granted goes to the message engine of its port (R153, R155). -/
def State.startMessage (s : State) (dest f q : Nat) (c : Cmd) : State :=
  s.useMessage (((s.nextHop dest).map (·.1)).getD 0) (cmdJob f q c c.length)

/-- The message that a job of a message engine runs. -/
def State.messageOf (s : State) (j : Job) : Option (Unans × Cmd) :=
  match (s.queue j.part j.queue).cmds.find? fun c => c.kind = .execute && c.seq = j.seq && !c.fixed with
  | none => none
  | some c => (s.fab.unans.find? fun u => u.msg.typ = 0x33 && u.cmd = some (j.part, j.queue, c.pos)).map fun u => (u, c)

/-- One chunk of a message goes out at its offset, and with the last one MSG_DONE (R508, R509); into a ring of this board it is
written at once. -/
def State.sendChunk (s : State) (u : Unans) (o : Nat) (bs : Bytes) (poison last : Bool) : State :=
  let s := if poison then s.markCmd u.cmd true false else s
  if u.msg.dest = s.struct.boardId then
    match s.fab.mails.find? fun m => m.src = u.msg.dest && m.reqId = u.msg.reqId with
    | none => s
    | some m =>
      match s.struct.exportRec m.window with
      | none => s
      | some w =>
        let s := s.ringWrite w (m.at_ + 64 + o) bs poison
        if last then s.mailWhole w m else s
  else
    let s := s.sendMsg ({ typ := 0x32, dest := u.msg.dest, reqId := u.msg.reqId, part := u.msg.part, addr := o, data := bs, poison := poison,
                          ackBelow := s.ackBelow u.msg.dest } : Msg)
    if last then s.sendMsg ({ typ := 0x33, dest := u.msg.dest, reqId := u.msg.reqId, part := u.msg.part, ackBelow := s.ackBelow u.msg.dest } : Msg)
    else s

/-- Change a message engine. -/
def State.mapMessage (s : State) (n : Nat) (g : Engine → Engine) : State :=
  { s with hif := { s.hif with message := s.hif.message.mapIdx fun i e => if i = n then g e else e } }

/-- Clock ticks that a message engine takes for a chunk of 4 KiB at a port's payload rate (R156).
DESIGN CHOICE (log entry 150). -/
def chunkTicks : Nat := nsTicks 164

/-- The message engine of a port sends the next 4 KiB chunk of the message it runs (R153, R156): a safety-class request that waits cuts
in between chunks; a message whose work is gone ends. DESIGN CHOICE (log entry 150). -/
def State.runMessage (s : State) (n : Nat) : State :=
  match s.hif.message[n]? with
  | none => s
  | some e =>
    match e.cur with
    | none => s
    | some j =>
      if j.left = 0 ∨ s.due e.chunkAt chunkTicks = false then s
      else
        match s.messageOf j with
        | none => s.mapMessage n fun e => { e with cur := some { j with left := 0 } }
        | some (u, c) =>
          let o := c.length - j.left
          let k := min 4096 j.left
          match s.sourceBytes j.part c o k with
          | none => s.recallSource j.part c o k
          | some b =>
            let s := s.mapMessage n fun e => { e with
              cur := some { j with left := j.left - k }, service := aset e.service j.part (e.served j.part + k), chunkAt := s.clk }
            let us := s.fab.unans.map fun x => if x = u then { x with sentAt := s.clk } else x
            ({ s with fab := { s.fab with unans := us } } : State).sendChunk u o b.1 b.2 (decide (j.left ≤ 4096))

/-- MSG_GRANT at the sender: the message goes to its engine (R153, R508, R509). -/
def execMsgGrant (h : FabHdr) (s : State) : Host.Outcome State Fault Refusal :=
  match s.expects h [0x30] with
  | none => .next s
  | some u =>
    let mine := fun x : Unans => x.msg.dest = h.src && x.msg.reqId = h.reqId
    let us := s.fab.unans.map fun x => if mine x then { x with msg := { x.msg with typ := 0x33 }, sentAt := s.clk, resends := 0 } else x
    let s := { s with fab := { s.fab with unans := us } }
    match s.cmdOf u.cmd with
    | some (f, q, c) => .next (s.startMessage h.src f q c)
    | none => .next s

/-- MSG_CHUNK at the receiver (R509). DEDUCED (log entry 120). -/
def execMsgChunk (h : FabHdr) (offset : Nat) (data : Bytes) (poison : Bool) (s : State) : Host.Outcome State Fault Refusal :=
  if !s.hears h.src then .next s
  else
    match s.fab.mails.find? fun m => m.src = h.src && m.reqId = h.reqId && !m.whole with
    | none => .next s
    | some m =>
      match s.struct.exportRec m.window with
      | none => .next s
      | some w =>
        if offset + data.length ≤ m.length then .next ((s.pruneKept h).ringWrite w (m.at_ + 64 + offset) data poison)
        else .next s

/-- MSG_DONE: at the receiver the header is completed and WR_OFF advances; at the sender the MSG_SEND completes (R509).
DEDUCED (log entry 120). -/
def execMsgDone (h : FabHdr) (s : State) : Host.Outcome State Fault Refusal :=
  if !s.hears h.src then .next s
  else
    match s.expects h [0x33] with
    | some u => .next ((s.answered h.src h.reqId).fixSend u.cmd (s.msgSource h.src))
    | none =>
      let s := s.pruneKept h
      match s.fab.mails.find? fun m => m.src = h.src && m.reqId = h.reqId && !m.whole with
      | none =>
        match s.fab.kept.find? (fun k => k.src = h.src && k.reqId = h.reqId && k.msg.typ = 0x33) with
        | some k => .next (s.resendKept k)
        | none => .next s
      | some m =>
        match s.struct.exportRec m.window with
        | none => .next s
        | some w => .next (s.mailWhole w m)

end Sys2Proof.Machine
end

