-- ==== Sys2Proof/Machine/Boot.lean ====
section
/-! DEFINITION. Resets and start-up as shared operations: slot selection and anti-rollback (R89 to R102), compatibility
(R103 to R109), calibration (R111 to R116), the retention record (R70 to R79) and the reset levels 4 and 5 (R32 to R37). -/

namespace Sys2Proof.Machine

/-! Firmware slots. -/

/-- Where a component's slot lies in NOR, and its size (Table 3-6): component 0 Stage-1, 1 MGT, 2 SAF, 3 SEC. -/
def slotRange (comp : Nat) (b : Bool) : Nat × Nat :=
  let k := b2n b
  if comp = 0 then (0x200000 + k * 0x100000, 0x100000)
  else if comp = 1 then (0xC00000 + k * 0x400000, 0x400000)
  else if comp = 2 then (0x400000 + k * 0x200000, 0x200000)
  else (0x800000 + k * 0x200000, 0x200000)

/-- Bytes of the NOR flash; an erased byte is 0xFF. -/
def Fw.flash (w : Fw) (a n : Nat) : Bytes := cellReadFast 0xFF w.nor a n

/-- The image a slot holds: all of the slot, erased and old bytes behind the image included (R108).
DESIGN CHOICE (log entry 155). -/
def Fw.image (w : Fw) (comp : Nat) (b : Bool) : Bytes := w.flash (slotRange comp b).1 (slotRange comp b).2

/-- The fuse counter of a component (R99). -/
def Fw.fuse (w : Fw) (comp : Fin 4) : Nat := (w.svn.get comp).val

/-- An image may be started: its signature verifies and its SVN is not below the fuse counter (R82, R99). -/
def Fw.startable (w : Fw) (comp : Fin 4) (img : Bytes) : Bool :=
  Config.fwVerifies comp img && decide (w.fuse comp ≤ (Config.fwSvn comp img).val)

/-- Some slot of a component holds an image that may be started (R95, R96). -/
def Fw.anyStartable (w : Fw) (comp : Fin 4) : Bool := [false, true].any fun b => w.startable comp (w.image comp b)

/-- The copy of the boot control record in use: the higher sequence number whose CRC matches (R98). -/
def Fw.ctl (w : Fw) : BootCopy :=
  if w.copy0.crcOk && (!w.copy1.crcOk || decide (w.copy1.seq ≤ w.copy0.seq)) then w.copy0 else w.copy1

/-- Write the boot control record: the copy that is not in use takes the new entries and the next sequence number (R98). -/
def Fw.setCtl (w : Fw) (comp : Vector BootCtl 4) : Fw :=
  let c : BootCopy := { seq := w.ctl.seq + 1, crcOk := true, comp := comp }
  if w.copy0.crcOk && (!w.copy1.crcOk || decide (w.copy1.seq ≤ w.copy0.seq)) then { w with copy1 := c } else { w with copy0 := c }

/-- A component's entry of the boot control record. -/
def Fw.entry (w : Fw) (comp : Fin 4) : BootCtl := w.ctl.comp.get comp

/-- Change a component's entry. -/
def Fw.setEntry (w : Fw) (comp : Fin 4) (e : BootCtl) : Fw := w.setCtl (w.ctl.comp.set comp e)

/-- A FIRMWARE ledger entry: component, slot, event (R94). DESIGN CHOICE (log entry 92). -/
def State.noteFw (s : State) (comp : Fin 4) (slot : Bool) (event : String) : State :=
  s.note srcMgt 0 0x0007 0 [comp, b2n slot, Config.eventCode event]

/-- Bit `i` of a small register set to `v`. -/
def setBit {n : Nat} (w : BitVec n) (i : Nat) (v : Bool) : BitVec n :=
  if v then w ||| BitVec.ofNat n (2 ^ i) else w &&& ~~~BitVec.ofNat n (2 ^ i)

/-- Complete a pending burn of a component (R102): the fuse counter rises to the target and never falls. -/
def State.finishBurn (s : State) (comp : Fin 4) : State :=
  match (s.fw.entry comp).burn with
  | none => s
  | some t =>
    let v := s.fw.svn.get comp
    let n : Fin 64 := if h : t < 64 then max v ⟨t, h⟩ else v
    let w := { s.fw with svn := s.fw.svn.set comp n, pendingBurn := true }
    ({ s with fw := w.setEntry comp { s.fw.entry comp with burn := none } }).noteFw comp (s.fw.entry comp).active "burn"

/-- Take a component to its active slot because its trial attempts have run out (R92). -/
def State.dropTrial (s : State) (comp : Fin 4) : State :=
  let e := s.fw.entry comp
  if e.trial && e.attempts = 0 then
    let w := s.fw.setEntry comp { e with trial := false }
    ({ s with fw := { w with fallback := setBit w.fallback comp true } }).noteFw comp e.active "fall-back"
  else s

/-- Boot one component (R91, R92, R95): select its slot, spend a trial attempt, start the slot or else the other one. The
Bool says whether an image runs. DEDUCED (log entry 31). -/
def State.bootComponent (s : State) (comp : Fin 4) : State × Bool :=
  let s := s.dropTrial comp
  let e := s.fw.entry comp
  let trial := e.trial
  let sel := if trial then !e.active else e.active
  let w := if trial then s.fw.setEntry comp { e with attempts := e.attempts - 1 } else s.fw
  let ok := w.startable comp (w.image comp sel)
  let other := w.startable comp (w.image comp !sel)
  let slot := if ok then sel else !sel
  let runs := ok || other
  let w := { w with
    running := w.running.set comp (if runs then w.image comp slot else [])
    slot := setBit w.slot comp (runs && slot)
    trialBoot := setBit w.trialBoot comp (ok && trial)
    fallback := if !ok && other then setBit w.fallback comp true else w.fallback }
  let s := { s with fw := w }
  (if !ok && other then s.noteFw comp slot "fall-back" else s, runs)

/-- Enter recovery (R96): PF0 alone, no READY. -/
def State.enterRecovery (s : State) (cause : Nat) : State :=
  { s with
    top := { s.top with recovery := true, ready := false, resetting := none, recoveryAt := some s.clk, mgtUp := false }
    recov := { cause := BitVec.ofNat 2 cause }
    hif := { s.hif with vfs := 0, linkUp := s.pwr.mainGood && !s.pwr.perst } }

/-! Compatibility. -/

/-- The version of a member 1 to 6 of the running combination (R103). -/
def Fw.version (w : Fw) (m : Nat) : Nat :=
  if m = 1 then Config.bootRomVersion
  else if m = 2 then 0xB0000000
  else if m = 3 then Config.fwVersion 0 (w.running.get 0)
  else if m = 4 then Config.fwVersion 1 (w.running.get 1)
  else if m = 5 then Config.fwVersion 2 (w.running.get 2)
  else Config.fwVersion 3 (w.running.get 3)

/-- The compatibility set of a firmware member 3 to 6. -/
def Fw.compatSet (w : Fw) (m : Nat) : Bytes :=
  if m = 3 then Config.fwCompatSet 0 (w.running.get 0)
  else if m = 4 then Config.fwCompatSet 1 (w.running.get 1)
  else if m = 5 then Config.fwCompatSet 2 (w.running.get 2)
  else Config.fwCompatSet 3 (w.running.get 3)

/-- A compatibility set has the form of R103 and Table 3-3: 1 to 16 whole entries, reserved bytes zero (R11).
DESIGN CHOICE (log entry 157). -/
def setFormed (set : Bytes) : Bool :=
  let n := set.length / 12
  decide (1 ≤ n) && decide (n ≤ 16) && set.length % 12 = 0 && (List.range n).all fun i => allZero (slice set (12 * i + 1) 3)

/-- Whether a compatibility set accepts a member's version (R103, R104); a malformed one is rejected and accepts none (R11).
DESIGN CHOICE (log entry 157). -/
def accepts (set : Bytes) (m v : Nat) : Bool :=
  setFormed set && (List.range (set.length / 12)).any fun i =>
    byteAt set (12 * i) = m && decide (field set (12 * i + 4) 4 ≤ v) && decide (v ≤ field set (12 * i + 8) 4)

/-- The pairs of members in the order of Table 3-13. -/
def memberPairs : List (Nat × Nat) :=
  [(1, 2), (1, 3), (1, 4), (1, 5), (1, 6), (2, 3), (2, 4), (2, 5), (2, 6), (3, 4), (3, 5), (3, 6), (4, 5), (4, 6), (5, 6)]

/-- Whether a pair is compatible (R104): boot ROM and silicon carry no set. -/
def Fw.compatible (w : Fw) (p : Nat × Nat) : Bool :=
  (decide (p.1 < 3) || accepts (w.compatSet p.1) p.2 (w.version p.2)) &&
  (decide (p.2 < 3) || accepts (w.compatSet p.2) p.1 (w.version p.1))

/-- PAIRS of MGT_COMPAT_STAT (Table 3-13). -/
def Fw.pairBits (w : Fw) : Nat :=
  (memberPairs.zipIdx.map fun p => if w.compatible p.1 then 0 else 2 ^ p.2).foldl (· + ·) 0

/-- The combination digest (Compatibility sets and provisional mode). -/
def Fw.combination (w : Fw) : Bytes :=
  sha384 ((List.range 6).flatMap (fun i => leBytes 4 (w.version (i + 1))) ++
    w.running.toList.flatMap sha384)

/-- The active operator key slot: the highest-numbered one written and not revoked (Operator key). -/
def Sec.activeSlot (x : Sec) : Option Nat :=
  ([3, 2, 1, 0]).find? fun i => match x.slots[i]? with | some (some _, false) => true | _ => false

/-- The digest of the active operator key. -/
def Sec.operatorKey (x : Sec) : Option Bytes :=
  match x.activeSlot with
  | some i => match x.slots[i]? with | some (some d, _) => some d | _ => none
  | none => none

/-- The override records in the OVERRIDE partition: one in each of its two copies of 64 KiB (Tables 3-5, 3-6). -/
def Fw.overrideRecs (w : Fw) : List Bytes := [w.flash 0x40000 224, w.flash 0x50000 224]

/-- A stored record is an override: it carries the magic (Table 3-5). -/
def overrideStored (r : Bytes) : Bool := decide (slice r 0 4 = label "TYOV")

/-- An override record meets every condition of R108. -/
def State.overrideOk (s : State) (r : Bytes) : Bool :=
  let dev := slice r 56 48
  let ok := match s.sec.operatorKey with
    | none => false
    | some k => ecdsaVerifies k (slice r 0 128) (slice r 128 96)
  overrideStored r && field r 4 4 = 1 && ok && decide (slice r 8 48 = s.fw.combination) &&
    (allZero dev || decide (dev = deviceDigest)) && allZero (slice r 104 24)

/-- The override record in force, in either copy (R108). -/
def State.overrideRec (s : State) : Option Bytes := s.fw.overrideRecs.find? s.overrideOk

/-- Judge the override (R108, R109): (in force, stored but not in force). DEDUCED (log entry 67). -/
def State.judgeOverride (s : State) : Bool × Bool :=
  (s.overrideRec.isSome, s.fw.overrideRecs.any overrideStored && s.overrideRec.isNone)

/-- Put the judgement into MGT_COMPAT_STAT. -/
def State.applyOverride (s : State) : State :=
  { s with fw := { s.fw with override := s.judgeOverride.1, ovrMismatch := s.judgeOverride.2 } }

/-- Evaluate the compatibility sets (R105). -/
def State.evalCompat (s : State) : State :=
  let p := s.fw.pairBits
  ({ s with
    fw := { s.fw with pairs := BitVec.ofNat 15 p }
    top := { s.top with provisional := decide (p ≠ 0) } }).applyOverride

/-! Calibration. -/

/-- Instances and delta bounds of a calibrated item (Table 3-7): whether the instance exists, low and high bound. -/
def calItem (item inst : Nat) : Option (Int × Int) :=
  if item = 0x0001 then (if inst = 0 then some (-2000, 2000) else none)
  else if item = 0x0002 then (if inst = 0 then some (-500, 500) else none)
  else if item = 0x0010 then (if inst < 16 then some (-48, 48) else none)
  else if item = 0x0020 then (if inst < 128 ∧ inst % 8 < 5 then some (-200, 200) else none)
  else if item = 0x0030 then (if inst < 7 then some (-8000, 400000) else none)
  else if item = 0x0040 then (if inst < 128 then some (-16, 16) else none)
  else if item = 0x0050 then (if inst < 8 then some (-2000, 2000) else none)
  else if item = 0x0051 then (if inst < 8 then some (-8, 8) else none)
  else none

/-- An entry of the user block: item, instance, delta (Table 3-8). -/
def calEntry (b : Bytes) (i : Nat) : Nat × Nat × Int :=
  (field b (32 + 8 * i) 2, field b (34 + 8 * i) 2, signed 32 (field b (36 + 8 * i) 4))

/-- Whether any two entries name the same item and instance. -/
def calRepeats : List (Nat × Nat × Int) → Bool
  | [] => false
  | e :: t => t.any (fun x => x.1 = e.1 && x.2.1 = e.2.1) || calRepeats t

/-- The user block at the start of USERCAL (assumption 5): its bytes, its entries and whether it is well formed (R113).
DEDUCED (log entry 5). -/
def userBlock (raw : Bytes) : Bytes × List (Nat × Nat × Int) × Bool :=
  let n := field raw 6 2
  let len := 32 + 8 * min n 1024
  let b := slice raw 0 len
  let es := (List.range (min n 1024)).map (calEntry b)
  let crc := crc32 (slice b 0 28 ++ [0, 0, 0, 0] ++ b.drop 32)
  (b, es, decide (slice b 0 4 = label "TYUC") && field b 4 2 = 1 && decide (n ≤ 1024) && allZero (slice b 12 16) &&
    crc = field b 28 4 && es.all (fun e => (calItem e.1 e.2.1).isSome) && !calRepeats es)

/-- A delta held within its item's bound. -/
def calClamp (e : Nat × Nat × Int) : Int :=
  match calItem e.1 e.2.1 with
  | some (lo, hi) => clampI lo hi e.2.2
  | none => e.2.2

/-- Load the calibration (R111 to R113, R116). DEDUCED (log entry 5). -/
def State.loadCal (s : State) : State :=
  let raw := s.fw.flash 0x100000 8224
  let s := { s with cal := { factoryBad := !Config.factoryRecordOk } }
  if (raw.take 32).all (· == 0xFF) then s
  else
    let (b, es, ok) := userBlock raw
    if ok then
      let s := { s with cal := { s.cal with
        userInForce := true
        block := b
        deltas := es.map fun e => (e.1, e.2.1, calClamp e)
        clamped := ((es.filter fun e => calClamp e ≠ e.2.2).length) % 2048 } }
      (es.filter fun e => calClamp e ≠ e.2.2).foldl
        (fun s e => s.note srcMgt 0 0x0008 0 [e.1, e.2.1, unsigned 64 (calClamp e)]) s
    else ({ s with cal := { s.cal with userRejected := true } }).note srcMgt 0 0x0008 0 []

/-- The delta in force for an item's instance. -/
def Cal.delta (c : Cal) (item inst : Nat) : Int :=
  ((c.deltas.find? fun d => d.1 = item && d.2.1 = inst).map (·.2.2)).getD 0

/-- The effective value of a calibrated item (R111, R116). With a bad factory record the user deltas are added to the zero that stands for it.
DESIGN CHOICE (log entry 156). -/
def Cal.value (c : Cal) (item inst : Nat) : Int :=
  (if c.factoryBad && (item = 0x0020 || item = 0x0030) then 0 else Config.factoryCal item inst) + c.delta item inst

/-! The retention record. -/

/-- Nanoseconds that the 32.768 kHz counter has advanced since the last alignment (Retention domain). -/
def State.aonNs (s : State) : Nat :=
  let t := (s.clk - s.ret.record.alignedAt) * 5 * 32768 / 4000000000
  t * 1000000000 / 32768

/-- The record rewritten from live state (Table 2-8). While no GTC runs, the timekeeping counter goes on as it was aligned. -/
def State.liveRecord (s : State) : RetRecord :=
  let r := { s.ret.record with nextSeq := s.log.seq, valid := true }
  if s.pwr.mainGood && !s.top.timePending then
    { r with counter := s.gtcNs, alignedAt := s.clk, gtcSet := s.top.gtcSet }
  else r

/-- The record may be used: the latch is clear and the CRC matches (R75). -/
def Ret.usable (r : Ret) : Bool := !r.latch && r.record.valid

/-- The ledger after AUX_3V3 was lost (R694): SEQ goes on from the record, or from NOR with an unknown count.
DEDUCED (log entry 91). -/
def State.ledgerAfterAux (s : State) : State :=
  if s.log.auxLost then
    let r := s.ret.record
    let e : LogEntry := { gtc := s.gtcNs, source := srcMgt, cls := 2, code := 0x0004, boot := s.log.boot }
    if s.ret.usable then
      let first := r.lastNorSeq + 1
      let e := { e with args := [first.toNat, (r.nextSeq - first).toNat] }
      { s with log := ({ s.log with auxLost := false, seq := r.nextSeq } : Log).append e }
    else
      let next := match s.log.nor.getLast? with | some x => x.seq + 1 | none => 0
      let e := { e with args := [next.toNat, 0xFFFFFFFF] }
      { s with log := ({ s.log with auxLost := false, seq := next } : Log).append e }
  else s

/-- Act on the latch and the record at a start (R75, R79): a record that may not be used is discarded whole; then the
record is rewritten and the latch cleared (R73). A record that a dip marked invalid reads as a failed CRC.
DESIGN CHOICE (log entry 154). -/
def State.checkRetention (s : State) : State :=
  let s := s.ledgerAfterAux
  let s := { s with pwr := { s.pwr with crcBad := !s.ret.record.valid, lost := !s.ret.usable } }
  let s := if s.ret.usable then s
    else
      let s := s.note srcMgt 0 0x0006 0
        [b2n s.ret.latch, b2n s.ret.record.valid, Config.eventCode "discarded"]
      { s with ret := { s.ret with record := {} } }
  s

/-- The GTC restarts (R45, R75, R76): from the timekeeping counter when the record was used, else from zero with GTC_SET
0. -/
def State.restartTime (s : State) : State :=
  let used := !s.pwr.lost && s.ret.record.valid
  let t := if used then s.ret.record.counter + s.aonNs else 0
  { s with
    tmg := { s.tmg with gtc := (t * 2 ^ 48) % 2 ^ 112, retLoaded := used }
    top := { s.top with gtcSet := used && s.ret.record.gtcSet, timePending := false } }

/-- Rewrite the record from live state and clear the latch (R73). -/
def State.settleRetention (s : State) : State := { s with ret := { latch := false, record := s.liveRecord } }

/-! Boot and reset. -/

/-- Steps 1 to 4 of Table 3-2 for a start: pending burns (R102), Stage-1, the safety firmware at level 5 only (R88), the
management firmware, SEC firmware, calibration and compatibility. DEDUCED (log entry 30). -/
def State.bootFirmware (s : State) (saf : Bool) : State :=
  let s := { s with
    top := { s.top with bootPending := false }
    fw := { s.fw with fallback := (if saf then 0 else s.fw.fallback &&& 4), pendingBurn := false, code := 0, busy := none } }
  let s := ([0, 1, 2, 3] : List (Fin 4)).foldl State.finishBurn s
  let s := s.checkRetention
  let (s, one) := s.bootComponent 0
  let (s, safOk) := if saf then s.bootComponent 2 else (s, !s.fw.safRomOnly)
  let s := { s with fw := { s.fw with safRomOnly := !safOk } }
  if !one then s.enterRecovery (if s.fw.anyStartable 1 then 1 else 3)
  else
    let (s, mgt) := s.bootComponent 1
    if !mgt then s.enterRecovery 2
    else
      let (s, sec) := s.bootComponent 3
      let s := { s with top := { s.top with mgtUp := true, bootBlocked := !sec } }
      s.loadCal.evalCompat

/-- What the main rails add to a start: a latch set since the firmware's check is acted on (R73, R75), the GTC restarts where
it must, the record is settled. -/
def State.bootTime (s : State) : State :=
  let s := if s.ret.latch && !s.pwr.lost then s.checkRetention else s
  let s := if s.top.timePending then s.restartTime else s
  if s.ret.latch || !s.ret.record.valid then s.settleRetention else s

/-- The firmware steps of a start that are still to be done (Table 3-2): the clock's next cycle, or a later event of the boot,
finds them done. DESIGN CHOICE (log entry 138). -/
def State.bootNow (s : State) : State :=
  if s.top.bootPending && s.pwr.auxGood then
    let s := s.bootFirmware s.top.bootSaf
    if s.pwr.mainGood then s.bootTime else s
  else s

/-- The timing block after a reset: its registers at reset, the running counter kept at a level 4 reset (Table 1-9). -/
def Tmg.afterReset (t : Tmg) (keep : Bool) (clk : Nat) : Tmg :=
  let base : Tmg := {}
  { base with
    gtc := if keep then t.gtc else 0, retLoaded := keep && t.retLoaded, dcoAt := clk, hourAt := clk, tempAt := clk }

/-- The state a reset of level 4 (`cold` false) or 5 leaves before start-up (Table 1-9): everything at its reset value but
what the level keeps. -/
def State.cleared (s : State) (cold : Bool) : State :=
  let base := State.reset
  let keepTime := !cold && !s.pwr.mainWasLost && !s.top.timePending
  { base with
    pending := s.pending, clk := s.clk, free := s.free, out := s.out
    top := { base.top with
      variantK := s.top.variantK
      armed := !cold && s.top.armed
      gtcSet := keepTime && s.top.gtcSet
      lastReset := if cold then 5 else 4
      resetting := some (if cold then 5 else 4)
      bootSaf := cold || (s.top.bootPending && s.top.bootSaf)
      timePending := !keepTime }
    pwr := { base.pwr with
      ga := s.pwr.ga, mainLoss := !cold && s.pwr.mainLoss, auxGood := s.pwr.auxGood, auxHigh := s.pwr.auxHigh
      mainGood := s.pwr.mainGood, vinGood := s.pwr.vinGood, vinMv := s.pwr.vinMv, vinOver := s.pwr.vinOver, auxAt := s.pwr.auxAt, converters := s.pwr.converters, mainGoodAt := s.clk
      vbatAt := s.clk, perst := s.pwr.perst, brdRst := s.pwr.brdRst, mainWasLost := false }
    ret := s.ret
    fw := { copy0 := s.fw.copy0, copy1 := s.fw.copy1, svn := s.fw.svn, nor := s.fw.nor
            slot := (if cold then 0 else s.fw.slot &&& 4), trialBoot := (if cold then 0 else s.fw.trialBoot &&& 4)
            fallback := (if cold then 0 else s.fw.fallback &&& 4)
            safRomOnly := !cold && s.fw.safRomOnly
            running := if cold then base.fw.running else base.fw.running.set 2 (s.fw.running.get 2) }
    hif := { base.hif with linkUp := s.pwr.mainGood && !s.pwr.perst }
    img := { base.img with sect := if cold then base.img.sect else base.img.sect.set 1 (s.img.sect.get 1) }
    tmg := s.tmg.afterReset keepTime s.clk
    sec := { base.sec with slots := s.sec.slots, lifecycle := s.sec.lifecycle, debugOff := s.sec.debugOff
                           draws := s.sec.draws + 1, memKey := s.sec.draws }
    saf := if cold then
        { base.saf with
          sin := s.saf.sin, rotAt := s.clk, watchAt := s.clk, okAt := s.clk, beatAt := s.clk
          thermal := if s.saf.thermal = Thermal.trip then Thermal.trip else Thermal.normal, temp := s.saf.temp, power := s.saf.power }
      else s.saf
    log := { s.log with boot := s.log.boot + 1, steps := 0 }
    bg := { base.bg with recal := Vector.replicate 64 s.clk, scrubAt := s.clk, telAt := s.clk } }

/-- Whether a reset request is absorbed: its level is at or below that of the one in progress (R34). `force` is the boot
watchdog, whose boot attempt has failed (R87). DEDUCED (log entry 27). -/
def State.absorbs (s : State) (cold force : Bool) : Bool :=
  match s.top.resetting with
  | some l => decide ((if cold then 5 else 4) ≤ l.toNat) && !force
  | none => false

/-- The ledger entries of a reset that starts: RESET, and a consent that leaves force. DEDUCED (log entry 27). -/
def State.announceReset (s : State) (cold : Bool) (cause : String) (source : Nat) : State :=
  let s := s.note srcMgt 0 0x0002 0 [if cold then 5 else 4, Config.eventCode cause, source]
  match s.sec.consent with
  | some t => s.note srcSec 0 0x0701 0 [Config.eventCode "left force", field t 112 4] true
  | none => s

/-- Start a reset of level 4 or 5 (R32 to R35, R715), unless it is absorbed; the boot follows (`State.bootNow`).
DEDUCED (log entry 27). DESIGN CHOICE (log entry 154). -/
def State.startReset (s : State) (cold : Bool) (cause : String) (source : Nat) (force : Bool := false) : State :=
  if s.absorbs cold force then s else (s.announceReset cold cause source).cleared cold

/-- Whether a register access of a function reaches the registers of PF0's BAR0 (R37): from PF0, with READY 1. -/
def State.pf0Ready (s : State) (f : Part) : Bool := decide (f = 0) && s.top.ready

end Sys2Proof.Machine
end

