-- ==== Sys2Proof/Machine/Firmware.lean ====
section
/-! DEFINITION. Firmware actions (MGT_FW_CTL, R89 to R102, R117, R118) and the recovery mailbox (R119, R120). -/

namespace Sys2Proof.Machine

/-- COMP of MGT_FW_CTL and MGT_REC_CTL. -/
def compField (w : U32) : Fin 4 := ⟨wbits w 5 4 % 4, Nat.mod_lt _ (by decide)⟩

/-- A write of MGT_FW_CTL that carries the key and this ACTION, from PF0 (R117). -/
def fwActs (f : Part) (w : U32) (action : Nat) : Bool :=
  decide (f = 0) && wbits w 31 16 = 0xF1A5 && wbits w 2 0 = action

/-- An action is taken: it is in progress, or CODE 5 reports that another one is (R118). -/
def State.takeFwAction (s : State) (a : FwAction) (comp : Fin 4) : State :=
  if s.fw.busy.isSome then { s with fw := { s.fw with code := 5 } }
  else { s with fw := { s.fw with busy := some (a, comp) } }

/-- MARK_TRIAL (R89): taken with READY 1; its outcome comes with the action's end. -/
def State.askMark (s : State) (f : Part) (w : U32) : State :=
  (if fwActs f w 1 && s.top.ready then s.takeFwAction .markTrial (compField w) else s)

/-- MARK_TRIAL: the command. -/
def execMarkTrial (f : Part) (w : U32) (s : State) : Host.Outcome State Fault Refusal := .next (s.askMark f w)

/-- COMMIT (R93): accepted only while READY is 1, else CODE 4 (R118). DEDUCED (log entry 29). -/
def State.askCommit (s : State) (f : Part) (w : U32) : State :=
  (if fwActs f w 2 then
      (if s.top.ready then s.takeFwAction .commit (compField w)
       else if s.top.recovery then s else { s with fw := { s.fw with code := 4 } })
    else s)

/-- COMMIT: the command. -/
def execCommit (f : Part) (w : U32) (s : State) : Host.Outcome State Fault Refusal := .next (s.askCommit f w)

/-- CANCEL_TRIAL (R94): accepted only while READY is 1, else CODE 4 (R118). DEDUCED (log entry 29). -/
def State.askCancel (s : State) (f : Part) (w : U32) : State :=
  (if fwActs f w 3 then
      (if s.top.ready then s.takeFwAction .cancelTrial (compField w)
       else if s.top.recovery then s else { s with fw := { s.fw with code := 4 } })
    else s)

/-- CANCEL_TRIAL: the command. -/
def execCancelTrial (f : Part) (w : U32) (s : State) : Host.Outcome State Fault Refusal := .next (s.askCancel f w)

/-- BURN_SVN (R100 to R102): the pending burn is recorded before any bit is burned, unless the component has a trial
mark. -/
def State.askBurn (s : State) (f : Part) (w : U32) : State :=
  if fwActs f w 4 && s.top.ready then
    let c := compField w
    let e := s.fw.entry c
    let t := s.takeFwAction .burnSvn c
    (if s.fw.busy.isNone && !e.trial then
        { t with fw := t.fw.setEntry c { e with burn := some (Config.fwSvn c (t.fw.image c e.active)).val } }
      else t)
  else s

/-- BURN_SVN: the command. -/
def execBurnSvn (f : Part) (w : U32) (s : State) : Host.Outcome State Fault Refusal := .next (s.askBurn f w)

/-- MARK_TRIAL ends (R89, R90): CODE 3 for a component that has a mark, 1 when the inactive slot does not verify, 2 when
its SVN is below the fuse counter; else three attempts. DEDUCED (log entries 29, 47). -/
def State.endMarkTrial (s : State) (c : Fin 4) : State :=
  let e := s.fw.entry c
  let img := s.fw.image c (!e.active)
  if e.trial then { s with fw := { s.fw with code := 3 } }
  else if !Config.fwVerifies c img then { s with fw := { s.fw with code := 1 } }
  else if (Config.fwSvn c img).val < s.fw.fuse c then { s with fw := { s.fw with code := 2 } }
  else
    let w := s.fw.setEntry c { e with trial := true, attempts := 3 }
    ({ s with fw := { w with code := 0 } }).noteFw c (!e.active) "trial"

/-- COMMIT ends (R93): the slot booted from becomes the active slot; from the active slot nothing changes (R118).
A component that booted from no slot counts as booted from slot A. 
DEDUCED (log entry 47). DESIGN CHOICE (log entry 155). -/
def State.endCommit (s : State) (c : Fin 4) : State :=
  let e := s.fw.entry c
  let slot := s.fw.slot.getLsbD c
  if slot = e.active then { s with fw := { s.fw with code := 0 } }
  else
    let w := s.fw.setEntry c { e with active := slot, trial := false, attempts := 0 }
    ({ s with fw := { w with code := 0 } }).noteFw c slot "commit"

/-- CANCEL_TRIAL ends (R94). DEDUCED (log entry 47). -/
def State.endCancelTrial (s : State) (c : Fin 4) : State :=
  let e := s.fw.entry c
  if e.trial then
    let w := s.fw.setEntry c { e with trial := false, attempts := 0 }
    ({ s with fw := { w with code := 0 } }).noteFw c (!e.active) "cancel"
  else { s with fw := { s.fw with code := 0 } }

/-- BURN_SVN ends (R100, R101): CODE 3 with a trial mark; else the fuse counter rises to the recorded target.
DEDUCED (log entry 47). -/
def State.endBurn (s : State) (c : Fin 4) : State :=
  let e := s.fw.entry c
  match e.burn with
  | none => { s with fw := { s.fw with code := if e.trial then 3 else 0 } }
  | some t =>
    let v := s.fw.svn.get c
    let n : Fin 64 := if h : t < 64 then max v ⟨t, h⟩ else v
    let w := ({ s.fw with svn := s.fw.svn.set c n, code := 0 }).setEntry c { e with burn := none }
    ({ s with fw := w }).noteFw c e.active "burn"

/-- The action in progress ends: BUSY clears and CODE reports its outcome (R118). -/
def execFwActionDone (s : State) : Host.Outcome State Fault Refusal :=
  match s.fw.busy with
  | none => .next s
  | some (a, c) =>
    let s := { s with fw := { s.fw with busy := none } }
    .next (match a with
      | .markTrial => s.endMarkTrial c
      | .commit => s.endCommit c
      | .cancelTrial => s.endCancelTrial c
      | .burnSvn => s.endBurn c)

/-! Recovery. -/

/-- A write of MGT_REC_CTL that acts, with this ACTION (R119). DEDUCED (log entry 7). -/
def State.recActs (s : State) (f : Part) (w : U32) (action : Nat) : Bool :=
  s.top.recovery && decide (f = 0) && wbits w 31 16 = 0x5EC0 && wbits w 2 0 = action

/-- The buffered image, MGT_REC_LEN bytes (R120). -/
def Recov.image (r : Recov) : Bytes := cellReadFast 0 r.win 0 r.len.toNat

/-- Whether MGT_REC_LEN lies in the range of a component (Table 3-15). -/
def recLenOk (comp len : Nat) : Bool :=
  decide (64 ≤ len) && decide (len ≤ if comp = 0 then 1048576 else 4194304)

/-- A failed recovery action: STATE FAILED with its RESULT (R120). -/
def State.recFail (s : State) (result : BitVec 4) : State :=
  { s with recov := { s.recov with st := .failed, result := result, running := false } }

/-- The RESULT with which the buffered image fails its check (R82, R99, R120); none when it passes. -/
def State.recCheck (s : State) (comp : Fin 4) : Option (BitVec 4) :=
  if !recLenOk comp s.recov.len.toNat then some 1
  else if !Config.fwVerifies comp s.recov.image then some 2
  else if (Config.fwSvn comp s.recov.image).val < s.fw.fuse comp then some 3
  else none

/-- BEGIN (R120): the buffer is emptied, MGT_REC_LEN is 0 and STATE is RECEIVING, from any state. -/
def State.askBegin (s : State) (f : Part) (w : U32) : State :=
  (if s.recActs f w 1 then
      { s with recov := { s.recov with
        st := .receiving, len := 0, win := [], comp := BitVec.ofNat 2 (wbits w 5 4), result := 0, running := false } }
    else s)

/-- BEGIN: the command. -/
def execRecBegin (f : Part) (w : U32) (s : State) : Host.Outcome State Fault Refusal := .next (s.askBegin f w)

/-- RUN (R120): for COMP 0 only; the buffered image is being verified. It is not taken while an action is in progress
(assumption 7). DEDUCED (log entry 7). -/
def State.askRun (s : State) (f : Part) (w : U32) : State :=
  if s.recActs f w 2 && s.recov.st ≠ .verifying && s.recov.st ≠ .writing then
    let s := { s with recov := { s.recov with comp := BitVec.ofNat 2 (wbits w 5 4) } }
    (if wbits w 5 4 ≠ 0 then s.recFail 5
      else if !recLenOk 0 s.recov.len.toNat then s.recFail 1
      else { s with recov := { s.recov with st := .verifying, result := 0, running := true } })
  else s

/-- RUN: the command. -/
def execRecRun (f : Part) (w : U32) (s : State) : Host.Outcome State Fault Refusal := .next (s.askRun f w)

/-- PROGRAM (R120): for COMP 0 and 1; the buffered image is being verified, then its writing into slot A starts (`State.endVerify`).
DEDUCED (log entry 7). -/
def State.askProgram (s : State) (f : Part) (w : U32) : State :=
  if s.recActs f w 3 && s.recov.st ≠ .verifying && s.recov.st ≠ .writing then
    let c := compField w
    let s := { s with recov := { s.recov with comp := BitVec.ofNat 2 c } }
    (if 1 < c.val then s.recFail 5
      else if !recLenOk c s.recov.len.toNat then s.recFail 1
      else { s with recov := { s.recov with st := .verifying, result := 0, running := false } })
  else s

/-- PROGRAM: the command. -/
def execRecProgram (f : Part) (w : U32) (s : State) : Host.Outcome State Fault Refusal := .next (s.askProgram f w)

/-- The write and readback of a PROGRAM end (R120): slot A holds the image and is active, its trial mark is cleared, STATE
is IDLE; or RESULT 4. A failed write leaves slot A's old bytes, and a good one leaves those behind the image.
DESIGN CHOICE (log entry 155). -/
def execRecoveryProgramDone (flashOk : Bool) (s : State) : Host.Outcome State Fault Refusal :=
  if s.top.recovery && s.recov.st = .writing then
    let c : Fin 4 := ⟨s.recov.comp.toNat, s.recov.comp.isLt⟩
    if !flashOk then .next (s.recFail 4)
    else
      let (a, n) := slotRange c false
      let w := { s.fw with nor := cellWrite 0xFF s.fw.nor a ((s.recov.image).take n) }
      let w := w.setEntry c { w.entry c with active := false, trial := false, attempts := 0 }
      .next { s with fw := w, recov := { s.recov with st := .idle, result := 0 } }
  else .next s

/-- Verification of a RUN image ends (R120): Stage-1 starts at step 4 of Table 3-2 and the boot goes on, or RESULT says why
not. If no management firmware can be started, the board is back in recovery with CAUSE 2. -/
def execRecoveryRunDone (s : State) : Host.Outcome State Fault Refusal :=
  if s.top.recovery && s.recov.st = .verifying && s.recov.running then
    match s.recCheck 0 with
    | some r => .next (s.recFail r)
    | none =>
      let img := s.recov.image
      let w := { s.fw with running := s.fw.running.set 0 img }
      let s := { s with
        fw := w, recov := {}
        top := { s.top with recovery := false, recoveryAt := none, resetting := some s.top.lastReset } }
      let (s, mgt) := s.bootComponent 1
      if !mgt then .next (s.enterRecovery 2)
      else
        let (s, sec) := s.bootComponent 3
        let s := { s with
          top := { s.top with mgtUp := true, bootBlocked := !sec }
          pwr := { s.pwr with mainGoodAt := s.clk } }
        .next s.loadCal.evalCompat
  else .next s

/-- A write into MGT_REC_WIN (R119): PF0, in recovery, while STATE is RECEIVING. `off` counts from BAR0's start. -/
def State.fillWindow (s : State) (f : Part) (off size : Nat) (v : U64) : State :=
  (if s.top.recovery && decide (f = 0) && s.recov.st = .receiving && (size = 4 || size = 8) && off % size = 0 &&
      decide (0x800000 ≤ off) && decide (off + size ≤ 0xC00000) then
      { s with recov := { s.recov with win := cellWrite 0 s.recov.win (off - 0x800000) (leBytes size v.toNat) } }
    else s)

/-- A write into MGT_REC_WIN: the command. -/
def execRecWinWrite (f : Part) (off size : Nat) (v : U64) (s : State) : Host.Outcome State Fault Refusal := .next (s.fillWindow f off size v)

end Sys2Proof.Machine
end

