-- ==== Sys2Proof/Machine/Features.lean ====
section
/-! DEFINITION. The arithmetic of the detector, the matcher and the tracker (R354 to R384), as functions of planes of
working samples and of record bytes. -/

namespace Sys2Proof.Machine

/-- The circle C in circular order (Detector). -/
def circle : List (Int × Int) :=
  [(0, -3), (1, -3), (2, -2), (3, -1), (3, 0), (3, 1), (2, 2), (1, 3), (0, 3), (-1, 3), (-2, 2), (-3, 1), (-3, 0),
    (-3, -1), (-2, -2), (-1, -3)]

/-- The detector block's fields (Table 9-4). -/
structure DetCfg where
  level : Nat
  arc : Nat
  thresh : Nat
  maxPerCell : Nat
  orient : Bool
  featMax : Nat

/-- The sample at an offset from a pixel that lies at least that far from every edge. -/
def Plane.off (p : Plane) (x y : Nat) (d : Int × Int) : Int := p.get ((x : Int) + d.1).toNat ((y : Int) + d.2).toNat

/-- Whether `n` circularly consecutive entries of a list of flags are set. -/
def circRun (n : Nat) (l : List Bool) : Bool :=
  (List.range l.length).any fun i => (List.range n).all fun j => l.getD ((i + j) % l.length) false

/-- The score of a pixel, 0 when it is no corner (R354, R355, R357). -/
def cornerScore (c : DetCfg) (p : Plane) (x y : Nat) : Nat :=
  if x < 24 ∨ y < 24 ∨ p.w < x + 25 ∨ p.h < y + 25 then 0
  else
    let g := p.get x y
    let cs := circle.map (p.off x y)
    let t : Int := c.thresh
    if g ≤ 0 ∨ cs.any (· ≤ 0) then 0
    else if circRun c.arc (cs.map fun v => decide (v > g + t)) || circRun c.arc (cs.map fun v => decide (v < g - t)) then
      (cs.map fun v => (max (|v - g| - t) 0).toNat).sum
    else 0

/-- Whether a corner survives non-maximum suppression (R356). -/
def survives (c : DetCfg) (p : Plane) (x y : Nat) : Bool :=
  let s := cornerScore c p x y
  decide (0 < s) &&
    ([((-1 : Int), (-1 : Int)), (0, -1), (1, -1), (-1, 0)].all fun d =>
      decide (cornerScore c p ((x : Int) + d.1).toNat ((y : Int) + d.2).toNat < s)) &&
    ([((1 : Int), (0 : Int)), (-1, 1), (0, 1), (1, 1)].all fun d =>
      decide (cornerScore c p ((x : Int) + d.1).toNat ((y : Int) + d.2).toNat ≤ s))

/-- Whether the 47×47 patch of a pixel is whole (R357). -/
def patchOk (p : Plane) (x y : Nat) : Bool :=
  (List.range 47).all fun dy => (List.range 47).all fun dx => decide (0 < p.get (x + dx - 23) (y + dy - 23))

/-- Order of the corners of one cell: score falling, then y, then x (R358). -/
def cornerBefore (a b : Nat × Nat × Nat) : Bool :=
  decide (b.1 < a.1) || (decide (a.1 = b.1) && (decide (a.2.2 < b.2.2) || (decide (a.2.2 = b.2.2) && decide (a.2.1 < b.2.1))))

/-- Insert into an ordered list. -/
def insertBy {α : Type} (lt : α → α → Bool) (a : α) : List α → List α
  | [] => [a]
  | b :: t => if lt b a then b :: insertBy lt a t else a :: b :: t

/-- Order a list. -/
def sortBy {α : Type} (lt : α → α → Bool) (l : List α) : List α := l.foldr (insertBy lt) []

/-- The kept corners of a cell, (score, x, y), and whether a corner, suppressed or not, was dropped for its patch (R357, R358). -/
def cellCorners (c : DetCfg) (p : Plane) (i j : Nat) : List (Nat × Nat × Nat) × Bool :=
  let px := (List.range 32).flatMap fun dy => (List.range 32).map fun dx => (32 * i + dx, 32 * j + dy)
  let surv := px.filter fun q => survives c p q.1 q.2
  let ok := surv.filter fun q => patchOk p q.1 q.2
  ((sortBy cornerBefore (ok.map fun q => (cornerScore c p q.1 q.2, q.1, q.2))).take c.maxPerCell,
    px.any fun q => decide (0 < cornerScore c p q.1 q.2) && !patchOk p q.1 q.2)

/-- Features in order with the TRUNCATED flag: when their count reaches FEAT_MAX, later cells contribute nothing (R359). -/
def takeCells (featMax : Nat) : List (Nat × Nat × Nat) → List (List (Nat × Nat × Nat)) → List (Nat × Nat × Nat) × Bool
  | acc, [] => (acc, false)
  | acc, cell :: rest =>
    if acc.length + cell.length < featMax then takeCells featMax (acc ++ cell) rest
    else ((acc ++ cell).take featMax, true)

/-- All features of a plane with TRUNCATED and POISON (R357 to R359). -/
def detect (c : DetCfg) (p : Plane) : List (Nat × Nat × Nat) × Bool × Bool :=
  let tw := (p.w + 31) / 32
  let th := (p.h + 31) / 32
  let cells := (List.range th).flatMap fun j => (List.range tw).map fun i => cellCorners c p i j
  let r := takeCells c.featMax [] (cells.map (·.1))
  (r.1, r.2, cells.any (·.2))

/-- cos(k × 11.25°) for k = 0 to 8 in units of 2^−128, from the half-angle formulas. -/
def cosEighth (k : Nat) : Nat :=
  let one := 2 ^ 128
  let half := fun (v : Nat) => Nat.sqrt (v * 2 ^ 127)
  let c4 := half one
  let c2 := half (one + c4)
  let c6 := half (one - c4)
  match k with
  | 0 => one
  | 1 => half (one + c2)
  | 2 => c2
  | 3 => half (one + c6)
  | 4 => c4
  | 5 => half (one - c6)
  | 6 => c6
  | 7 => half (one - c2)
  | _ => 0

/-- cos(k × 11.25°) in units of 2^−128. -/
def cosBin (k : Nat) : Int :=
  let m := k % 32
  if m ≤ 8 then cosEighth m else if m ≤ 16 then -(cosEighth (16 - m) : Int)
  else if m ≤ 24 then -(cosEighth (m - 16) : Int) else cosEighth (32 - m)

/-- sin(k × 11.25°) in units of 2^−128. -/
def sinBin (k : Nat) : Int := cosBin (k + 24)

/-- The angle bin whose centre lies nearest to atan2(m01, m10) (R360). -/
def angleBin (m10 m01 : Int) : Nat :=
  if m10 = 0 ∧ m01 = 0 then 0
  else
    let dot := fun k => m10 * cosBin k + m01 * sinBin k
    ((List.range 32).foldl (fun b k => if dot b < dot k then k else b) 0)

/-- The angle bin of a feature (R360). -/
def featureAngle (p : Plane) (x y : Nat) : Nat :=
  let offs := ((0, 0) :: window 15).filter fun (d : Int × Int) => d.1 * d.1 + d.2 * d.2 ≤ 225
  angleBin (offs.map fun d => d.1 * p.off x y d).sum (offs.map fun d => d.2 * p.off x y d).sum

/-- B(q): the sum of the 5×5 samples centred on the feature plus q (R361). -/
def boxSum (p : Plane) (x y : Nat) (q : Int × Int) : Int :=
  (((0, 0) :: window 2).map fun (d : Int × Int) => p.off x y (q.1 + d.1, q.2 + d.2)).sum

/-- An offset rotated by bin k (R361). -/
def rotate (k : Nat) (d : Int × Int) : Int × Int :=
  (rhu (d.1 * cosBin k - d.2 * sinBin k) (2 ^ 128), rhu (d.1 * sinBin k + d.2 * cosBin k) (2 ^ 128))

/-- Bits as bytes, bit i in byte i >> 3 at bit i mod 8 (R361). -/
def packBits (l : List Bool) : Bytes :=
  (List.range ((l.length + 7) / 8)).map fun j =>
    BitVec.ofNat 8 ((List.range 8).map fun i => if l.getD (8 * j + i) false then 2 ^ i else 0).sum

/-- The descriptor of a feature under a pattern table of 1,024 bytes (R361, R362). -/
def descriptor (pattern : Bytes) (p : Plane) (x y k : Nat) : Bytes :=
  packBits ((List.range 256).map fun i =>
    let s := fun o => clampI (-15) 15 (signed 8 (byteAt pattern (4 * i + o)))
    decide (boxSum p x y (rotate k (s 0, s 1)) < boxSum p x y (rotate k (s 2, s 3))))

/-- The 64-byte entry of a feature (Table 9-5, R364). -/
def featureEntry (c : DetCfg) (pattern : Bytes) (p : Plane) (f : Nat × Nat × Nat) : Bytes :=
  let k := if c.orient then featureAngle p f.2.1 f.2.2 else 0
  leBytes 4 (f.2.1 * 2 ^ c.level * 16) ++ leBytes 4 (f.2.2 * 2 ^ c.level * 16) ++ leBytes 4 f.1 ++ leBytes 1 k
  ++ List.replicate 19 0 ++ descriptor pattern p f.2.1 f.2.2 k

/-! Matcher. -/

/-- A feature as matching sees it: its position in 1/16 level-0 pixel, its cell and its descriptor. -/
structure Feat where
  x : Nat
  y : Nat
  cx : Nat
  cy : Nat
  desc : Bytes
  deriving DecidableEq, Repr, Inhabited

/-- A feature list as a record holds it (Table 9-5, 0x20). -/
structure FeatList where
  frameId : Nat
  exposure : Nat
  level : Nat
  tilesX : Nat
  tilesY : Nat
  maxPerCell : Nat
  poison : Bool
  feats : List Feat
  deriving DecidableEq, Repr, Inhabited

/-- Read an FTM_FEATURES record (Table 9-5). -/
def parseFeatures (r : Bytes) : FeatList :=
  let level := byteAt r 40
  { frameId := field r 4 4, exposure := field r 8 8, level := level, tilesX := field r 36 2, tilesY := field r 38 2,
    maxPerCell := byteAt r 41, poison := bit (field r 24 2) 2,
    feats := (List.range (min (field r 32 4) 65536)).map fun i =>
      let e := slice r (64 + 64 * i) 64
      let x := field e 0 4
      let y := field e 4 4
      { x := x, y := y, cx := (x >>> (4 + level)) / 32, cy := (y >>> (4 + level)) / 32, desc := slice e 32 32 } }

/-- Hamming distance of two 256-bit descriptors. -/
def descDist (a b : Bytes) : Nat :=
  ((a.zip b).map fun p => ((List.range 8).map fun i => b2n (p.1.getLsbD i != p.2.getLsbD i)).sum).sum

/-- A match: reference index, distance, confidence, AMBIGUOUS. -/
structure Match where
  idx : Nat
  dist : Nat
  conf : Nat
  amb : Bool
  deriving DecidableEq, Repr, Inhabited

/-- The confidence formula of R368. -/
def matchConf (d1 d2 scale : Nat) : Nat := max 1 (min 255 ((d2 - d1) * scale / (d1 + 8)))

/-- R367 to R369 over candidates given as (distance, index) in index order. -/
def matchBest (maxDist ratio scale : Nat) (cands : List (Nat × Nat)) : Option Match :=
  match minBy (fun a b => decide (a.1 < b.1)) cands with
  | none => none
  | some (d1, i1) =>
    let d2 := (((cands.filter fun c => c.2 ≠ i1).map (·.1)).min?).getD 257
    if d1 < d2 then
      if d1 ≤ maxDist ∧ 256 * d1 < ratio * d2 then some ⟨i1, d1, matchConf d1 d2 scale, false⟩ else none
    else if d1 ≤ maxDist then
      let d3 := (((cands.filter fun c => d1 < c.1).map (·.1)).min?).getD 257
      some ⟨i1, d1, min 0x40 (matchConf d1 d3 scale), true⟩
    else none

/-- The candidates in cells x0 to x1 and y0 to y1, as (distance, index). -/
def windowCands (desc : Bytes) (l : List Feat) (x0 x1 y0 y1 : Int) : List (Nat × Nat) :=
  (l.zipIdx.filter fun (f, _) =>
    decide (x0 ≤ f.cx) && decide ((f.cx : Int) ≤ x1) && decide (y0 ≤ f.cy) && decide ((f.cy : Int) ≤ y1)).map
      fun (f, i) => (descDist desc f.desc, i)

/-- The matcher block's fields (Table 9-4). -/
structure MatCfg where
  rxn : Nat
  rxp : Nat
  ry : Nat
  maxDist : Nat
  ratio : Nat
  confScale : Nat
  mutual_ : Bool

/-- The match of current feature number `i` (R367 to R371). -/
def matchOne (c : MatCfg) (cur ref : List Feat) (i : Nat) : Option Match :=
  match cur[i]? with
  | none => none
  | some f =>
    match matchBest c.maxDist c.ratio c.confScale
      (windowCands f.desc ref ((f.cx : Int) - c.rxn) (f.cx + c.rxp) ((f.cy : Int) - c.ry) (f.cy + c.ry)) with
    | none => none
    | some m =>
      if c.mutual_ then
        match ref[m.idx]? with
        | none => none
        | some g =>
          match matchBest c.maxDist c.ratio c.confScale
            (windowCands g.desc cur ((g.cx : Int) - c.rxp) (g.cx + c.rxn) ((g.cy : Int) - c.ry) (g.cy + c.ry)) with
          | some n => if n.idx = i then some m else none
          | none => none
      else some m

/-- The 8-byte match entry (Table 9-5, R371). -/
def matchEntry : Option Match → Bytes
  | none => leBytes 4 0xFFFFFFFF ++ leBytes 2 0xFFFF ++ leBytes 1 0 ++ leBytes 1 0
  | some m => leBytes 4 m.idx ++ leBytes 2 m.dist ++ leBytes 1 m.conf ++ leBytes 1 (b2n m.amb)

/-- MEAN and INVFRAC of a cell (R375). -/
def cellStats (ms : List (Option Match)) : Nat × Nat :=
  tileStats (ms.map fun m => match m with | none => (1, 0) | some v => (0, v.conf))

/-- VIS cycles of a coarse match pass (R373). -/
def matchCycles (c : MatCfg) (k tiles : Nat) : Nat :=
  1024 + ((1 + b2n c.mutual_) * k * k * ((c.rxn + c.rxp + 1) * (2 * c.ry + 1)) * tiles + 19) / 20

/-- VIS cycles of a matcher refine tile (R390). -/
def matchTileCycles (c : MatCfg) (k : Nat) : Nat :=
  1024 + (2 * k * k * ((c.rxn + c.rxp + 3) * (2 * c.ry + 3)) + 19) / 20

/-! Tracker. -/

/-- A track table entry (Table 9-6). -/
structure Track where
  id : Nat := 0
  st : Nat := 0
  hits : Nat := 0
  misses : Nat := 0
  ctx : Nat := 0
  birth : Nat := 0
  last : Nat := 0
  x : Int := 0
  y : Int := 0
  vx : Int := 0
  vy : Int := 0
  conf : Nat := 0
  flags : Nat := 0
  desc : Bytes := []
  t0 : Bytes := []
  hist : Bytes := []
  t1 : Bytes := []
  deriving DecidableEq, Repr, Inhabited

/-- Read an entry (Table 9-6). -/
def parseTrack (b : Bytes) : Track :=
  { id := field b 0 4, st := byteAt b 4, hits := byteAt b 5, misses := byteAt b 6, ctx := byteAt b 7,
    birth := field b 8 4, last := field b 12 4, x := signed 32 (field b 16 4), y := signed 32 (field b 20 4),
    vx := signed 16 (field b 24 2), vy := signed 16 (field b 26 2), conf := byteAt b 28, flags := byteAt b 29,
    desc := slice b 32 32, t0 := slice b 64 64, hist := slice b 128 64, t1 := slice b 192 64 }

/-- Write an entry (Table 9-6); a free entry is all zero. -/
def trackBytes (t : Track) : Bytes :=
  if t.st = 0 then List.replicate 256 0
  else
    leBytes 4 t.id ++ leBytes 1 t.st ++ leBytes 1 t.hits ++ leBytes 1 t.misses ++ leBytes 1 t.ctx ++ leBytes 4 t.birth
    ++ leBytes 4 t.last ++ leBytes 4 (unsigned 32 t.x) ++ leBytes 4 (unsigned 32 t.y) ++ leBytes 2 (unsigned 16 t.vx)
    ++ leBytes 2 (unsigned 16 t.vy) ++ leBytes 1 t.conf ++ leBytes 1 t.flags ++ leBytes 2 0 ++ slice t.desc 0 32
    ++ slice t.t0 0 64 ++ slice t.hist 0 64 ++ slice t.t1 0 64

/-- The tracker block's fields (Table 9-4). -/
structure TrkCfg where
  ctxs : List Nat
  levels : Nat
  search : Nat
  confirmHits : Nat
  maxMisses : Nat
  sadMax : Nat
  birth : Bool
  maxTracks : Nat
  ratio : Nat
  maxDist : Nat

/-- The 8×8 window at (x − 4, y − 4) of a U8 level; none when it leaves the level or holds an invalid sample (R379). -/
def cut8 (p : Plane) (x y : Int) : Option Bytes :=
  if x < 4 ∨ y < 4 ∨ (p.w : Int) < x + 4 ∨ (p.h : Int) < y + 4 then none
  else
    let vs := (List.range 8).flatMap fun (j : Nat) => (List.range 8).map fun (i : Nat) => p.off 0 0 (x - 4 + i, y - 4 + j)
    if vs.any (· ≤ 0) then none else some (vs.map fun v => BitVec.ofInt 8 v)

/-- The sum of absolute differences of two windows. -/
def sad (a b : Bytes) : Nat := ((a.zip b).map fun q => Int.natAbs ((q.1.toNat : Int) - q.2.toNat)).sum

/-- The SAD search at one level around a prior: (SAD, x, y) of the winner (R379). -/
def sadSearch (p : Plane) (tmpl : Bytes) (search : Nat) (px py : Int) : Option (Nat × Int × Int) :=
  let ds := (List.range (2 * search + 1)).map fun (k : Nat) => (k : Int) - search
  let cands := (ds.flatMap fun dy => ds.map fun dx => (dx, dy)).filterMap fun d =>
    (cut8 p (px + d.1) (py + d.2)).map fun w => (sad w tmpl, d.1, d.2)
  let lt := fun (a b : Nat × Int × Int) =>
    let ka := |a.2.1| + |a.2.2|
    let kb := |b.2.1| + |b.2.2|
    decide (a.1 < b.1) || (decide (a.1 = b.1) && (decide (ka < kb) || (decide (ka = kb) &&
      (decide (a.2.2 < b.2.2) || (decide (a.2.2 = b.2.2) && decide (a.2.1 < b.2.1))))))
  (minBy lt cands).map fun w => (w.1, px + w.2.1, py + w.2.2)

/-- The patch search of a track at p̂ = (hx, hy) over the pyramid planes (level 0, level 1): level-0 SAD and position in
level-0 pixels (R379). -/
def patchSearch (c : TrkCfg) (t : Track) (l0 l1 : Plane) (hx hy : Int) : Option (Nat × Int × Int) :=
  let top : Option (Int × Int) :=
    if c.levels = 2 then
      (sadSearch l1 t.t1 c.search (rhu hx 32) (rhu hy 32)).map fun w => (2 * w.2.1, 2 * w.2.2)
    else some (rhu hx 16, rhu hy 16)
  match top with
  | none => none
  | some (x, y) =>
    match sadSearch l0 t.t0 c.search x y with
    | some w => if w.1 ≤ 64 * c.sadMax then some w else none
    | none => none

/-- Push a position onto the history (Table 9-6). -/
def pushHist (h : Bytes) (x y : Int) : Bytes := leBytes 4 (unsigned 32 x) ++ leBytes 4 (unsigned 32 y) ++ slice h 0 56

/-- Templates re-cut at a position in 1/16 level-0 pixel (R380); what leaves the level keeps the old template. -/
def recut (t : Track) (l0 l1 : Plane) (x y : Int) : Track :=
  let x0 := rhu x 16
  let y0 := rhu y 16
  { t with t0 := (cut8 l0 x0 y0).getD t.t0, t1 := (cut8 l1 (rhu x 32) (rhu y 32)).getD t.t1 }

/-- A velocity component: round((p_new − p_old) / Δ), within s16 (R380). -/
def newVel (new old : Int) (dt : Nat) : Int := if dt = 0 then 0 else clampI (-32768) 32767 (rhu (new - old) dt)

/-- What a run has for one context: Δ, the feature list, the pyramid planes. -/
structure TrkIn where
  ctx : Nat
  dt : Nat
  feats : List Feat
  level : Nat
  l0 : Plane
  l1 : Plane

/-- One live track in a run: the entry after it, the feature it claimed, and whether it died (R377 to R380). -/
def trackStep (c : TrkCfg) (frame i : Nat) (t : Track) (inp : TrkIn) (claimed : List Nat) : Track × Option Nat × Bool :=
  if 16 < inp.dt then ({}, none, true)
  else
    let hx := t.x + t.vx * inp.dt
    let hy := t.y + t.vy * inp.dt
    let cell := fun v : Int => v / (32 * 16 * 2 ^ inp.level)
    let cands := (windowCands t.desc inp.feats (cell hx - 1) (cell hx + 1) (cell hy - 1) (cell hy + 1)).filter
      fun q => !claimed.contains q.2
    match matchBest c.maxDist c.ratio Config.trackerConfScale cands with
    | some m =>
      let f := inp.feats.getD m.idx default
      let hits := min 255 (t.hits + 1)
      let st := if t.st = 1 ∧ c.confirmHits ≤ hits then 2 else if t.st = 3 then 2 else t.st
      let u := recut { t with st := st, hits := hits, misses := 0, last := frame, x := f.x, y := f.y,
                              vx := newVel f.x t.x inp.dt, vy := newVel f.y t.y inp.dt, conf := m.conf,
                              flags := b2n m.amb, desc := f.desc, hist := pushHist t.hist f.x f.y } inp.l0 inp.l1 f.x f.y
      (u, some m.idx, false)
    | none =>
      match patchSearch c t inp.l0 inp.l1 hx hy with
      | some (v, x, y) =>
        let st := if t.st = 3 then 2 else t.st
        let u := recut { t with st := st, misses := 0, last := frame, x := 16 * x, y := 16 * y,
                                vx := newVel (16 * x) t.x inp.dt, vy := newVel (16 * y) t.y inp.dt,
                                conf := max 1 (255 * (64 * c.sadMax - v) / (64 * c.sadMax)), flags := 2,
                                desc := Config.recutDescriptor i frame (16 * x) (16 * y),
                                hist := pushHist t.hist (16 * x) (16 * y) } inp.l0 inp.l1 (16 * x) (16 * y)
        (u, none, false)
      | none =>
        let misses := t.misses + 1
        if t.st = 1 ∨ c.maxMisses < misses then ({}, none, true)
        else ({ t with st := 3, misses := misses, x := hx, y := hy, conf := 0, flags := 0, hist := pushHist t.hist hx hy },
          none, false)

/-- The walk over the entries in order (R376, R378): entries, claims per context as (context, index), deaths, and the
feature each entry claimed. -/
def trackWalk (c : TrkCfg) (frame : Nat) (ins : List TrkIn) :
    Nat → List (Nat × Nat) → List Track → List (Track × Option Nat) × List (Nat × Nat) × Nat
  | _, claims, [] => ([], claims, 0)
  | i, claims, t :: rest =>
    match (if t.st = 0 then none else ins.find? fun n => n.ctx = t.ctx) with
    | none =>
      let r := trackWalk c frame ins (i + 1) claims rest
      ((t, none) :: r.1, r.2.1, r.2.2)
    | some inp =>
      let q := trackStep c frame i t inp ((claims.filter fun k => k.1 = t.ctx).map (·.2))
      let claims' := match q.2.1 with | some f => (t.ctx, f) :: claims | none => claims
      let r := trackWalk c frame ins (i + 1) claims' rest
      ((q.1, q.2.1) :: r.1, r.2.1, r.2.2 + b2n q.2.2)

/-- Place births into the lowest free entries (R381, R382): entries, next ID, births. -/
def placeBirths (frame : Nat) : Nat → List (TrkIn × Nat × Feat) → List (Track × Option Nat) →
    List (Track × Option Nat) × Nat × List (TrkIn × Nat × Feat)
  | nid, [], es => (es, nid, [])
  | nid, bs, [] => ([], nid, bs)
  | nid, (inp, k, f) :: bs, (t, o) :: es =>
    if t.st = 0 then
      let id := if nid = 0 ∨ nid = 0x100000000 then 1 else nid
      let b : Track := recut { id := id, st := 1, hits := 1, misses := 0, ctx := inp.ctx, birth := frame, last := frame,
                               x := f.x, y := f.y, desc := f.desc, t0 := List.replicate 64 0, t1 := List.replicate 64 0,
                               hist := pushHist (List.replicate 64 0) f.x f.y } inp.l0 inp.l1 f.x f.y
      let r := placeBirths frame (id + 1) bs es
      ((b, some k) :: r.1, r.2)
    else
      let r := placeBirths frame nid ((inp, k, f) :: bs) es
      ((t, o) :: r.1, r.2)

/-- A whole tracker run: entries with their features, next ID, births, deaths, births refused (R376 to R382).
DEDUCED (log entry 108). -/
def trackerRun (c : TrkCfg) (frame nextId : Nat) (ins : List TrkIn) (table : List Track) :
    List (Track × Option Nat) × Nat × Nat × Nat × Nat :=
  let w := trackWalk c frame ins 0 [] table
  let born := if c.birth then
      ins.flatMap fun inp => (inp.feats.zipIdx.filter fun (_, k) => !w.2.1.contains (inp.ctx, k)).map fun (f, k) => (inp, k, f)
    else []
  let r := placeBirths frame nextId born w.1
  (r.1, r.2.1, born.length - r.2.2.length, w.2.2, r.2.2.length)

/-- The 32-byte entry of a live track in FTM_TRACKS (Table 9-5). -/
def trackEntry (t : Track) (f : Option Nat) : Bytes :=
  leBytes 4 t.id ++ leBytes 1 t.st ++ leBytes 1 t.ctx ++ leBytes 1 t.hits ++ leBytes 1 t.misses
  ++ leBytes 4 (unsigned 32 t.x) ++ leBytes 4 (unsigned 32 t.y) ++ leBytes 2 (unsigned 16 t.vx)
  ++ leBytes 2 (unsigned 16 t.vy) ++ leBytes 4 (f.getD 0xFFFFFFFF) ++ leBytes 1 t.conf ++ leBytes 1 t.flags ++ leBytes 6 0

end Sys2Proof.Machine
end

