-- ==== Sys2Proof/Machine/NecOps.lean ====
section
/-! DEFINITION. The local store of a neural core with its hopper, poison and casks (R408, R417 to R431, R445 to R447), and
the dispatch of a task (R405, R450). -/

namespace Sys2Proof.Machine

/-- Core `c`. -/
def State.core (s : State) (c : Nat) : Core := (s.nec.cores[c]?).getD {}

/-- Replace a core. -/
def State.setCore (s : State) (c : Nat) (x : Core) : State :=
  { s with nec := { s.nec with cores := s.nec.cores.setIfInBounds c x } }

/-- Change every core. -/
def State.mapCores (s : State) (g : Core → Core) : State := { s with nec := { s.nec with cores := s.nec.cores.map g } }

/-- The byte of a physical address that the hopper holds. -/
def Core.hopByte (x : Core) (a : Nat) : Option Byte :=
  match x.hopper.find? (·.row = a / 512) with
  | some e => if e.mask.contains (a % 512 / 4) then e.data[a % 512]? else none
  | none => none

/-- `n` bytes of the local store from physical address `a`, with the hopper's bytes merged in (R420). -/
def Core.lsRead (x : Core) (a n : Nat) : Bytes :=
  let raw := cellReadFast 0 x.ls a n
  if x.hopper.isEmpty then raw else raw.zipIdx.map fun b => (x.hopByte (a + b.2)).getD b.1

/-- Whether a 32-byte word reads as poisoned (R446, R447): a hopper entry cleans it only when it supplies all 8 granules. -/
def Core.wordPoison (x : Core) (w : Nat) : Bool :=
  match x.hopper.find? (·.row = w / 16) with
  | none => x.lsPoison.contains w
  | some e =>
    let gs := (List.range 8).map (· + 8 * (w % 16))
    gs.any e.poison.contains || (x.lsPoison.contains w && !gs.all e.mask.contains)

/-- Whether any word of a range is poisoned. -/
def Core.lsPoisoned (x : Core) (a n : Nat) : Bool :=
  decide (0 < n) && (List.range ((a + n - 1) / 32 - a / 32 + 1)).any fun i => x.wordPoison (a / 32 + i)

/-- The poisoned 32-byte chunks of `n` bytes read from `a`. -/
def Core.chunkPoison (x : Core) (a n : Nat) : List Nat :=
  (List.range (n / 32)).filter fun i => x.lsPoisoned (a + 32 * i) 32

/-- A write of bytes; a word becomes poisoned as `pz` says, and clean when all of it is replaced with clean data (R446,
R447). A write of a whole row discards the row's hopper entry (R421). -/
def Core.lsWrite (x : Core) (a : Nat) (bs : Bytes) (pz : Nat → Bool) : Core :=
  let n := bs.length
  if n = 0 then x
  else
    { x with
      ls := cellWrite 0 x.ls a bs
      lsPoison := (List.range ((a + n - 1) / 32 - a / 32 + 1)).foldl (fun l i =>
        let w := a / 32 + i
        if pz w then nset l w else if a ≤ 32 * w ∧ 32 * w + 32 ≤ a + n then nrem l w else l) x.lsPoison
      hopper := x.hopper.filter fun e => !(decide (a ≤ 512 * e.row) && decide (512 * e.row + 512 ≤ a + n)) }

/-- Flush one hopper entry (R419). -/
def Core.flushOne (x : Core) (e : HopEntry) : Core :=
  let y := x.lsWrite (512 * e.row) (x.lsRead (512 * e.row) 512) x.wordPoison
  if e.mask.length = 128 then { y with hopFull := satN 0xFFFF (y.hopFull + 1) }
  else { y with hopPart := satN 0xFFFF (y.hopPart + 1) }

/-- Flush all entries, oldest first (R418). -/
def Core.flushAll (x : Core) : Core := x.hopper.foldl Core.flushOne x

/-- Lay bytes into a row's data. -/
def splice (d : Bytes) (o : Nat) (b : Bytes) : Bytes := d.take o ++ b ++ d.drop (o + b.length)

/-- A narrow write through the hopper (R417, R418): it merges into the row's entry or takes a free one, flushing the oldest
when all 8 are in use; a complete entry flushes. -/
def Core.narrow (x : Core) (a : Nat) (bs : Bytes) (poison : Bool) (clk : Nat) : Core :=
  let row := a / 512
  let gs := (List.range (bs.length / 4)).map (· + a % 512 / 4)
  let fresh := !x.hopper.any (·.row = row)
  let x := if fresh ∧ 8 ≤ x.hopper.length then (match x.hopper.head? with | some e => x.flushOne e | none => x) else x
  let old := (x.hopper.find? (·.row = row)).getD { row := row, data := List.replicate 512 0 }
  let e : HopEntry := { old with
    data := splice old.data (a % 512) bs
    mask := gs.foldl nset old.mask
    poison := if poison then gs.foldl nset old.poison else old.poison.filter fun g => !gs.contains g }
  let x := { x with
    narrowAt := clk
    hopper := if fresh then x.hopper ++ [e] else x.hopper.map fun y => if y.row = row then e else y }
  if e.mask.length = 128 then x.flushOne e else x

/-! Casks. -/

/-- A record of a deleted busy structural record that is still held (R203). -/
def Img.heldRec (g : Img) (p : Bytes → Bool) : Option Bytes := (g.held.find? fun h => p h.recd).map (·.recd)

/-- The connection at a destination port: of the structure in force, or held for an earlier frame (R203). -/
def State.connection (s : State) (d : Nat) : Option Bytes :=
  (s.struct.connection d).or (s.img.heldRec fun r => byteAt r 0 = 0x40 && byteAt r 5 = d)

/-- The SLOT records of a route: of the structure in force, and those held for an earlier frame (R203). -/
def State.slotRecs (s : State) (r : Nat) : List Bytes :=
  let l := s.struct.slots r
  l ++ (s.img.held.map (·.recd)).filter fun x => byteAt x 0 = 0x53 && byteAt x 4 = r && !l.any fun y => byteAt y 5 = byteAt x 5

/-- CASK record of a core's cask, or the held one of a deletion that waits (R203). -/
def State.caskRec (s : State) (c k : Nat) : Option Bytes :=
  (s.struct.cask c k).or (s.img.heldRec fun r => byteAt r 0 = 0x32 && byteAt r 4 = c && byteAt r 5 = k)

/-- A cask as an instruction uses it: BASE, SIZE, and whether a stream produces it (Table 5-12). -/
structure CaskCfg where
  base : Nat
  size : Nat
  stream : Bool

/-- The cask of a record. -/
def caskCfg (r : Bytes) : CaskCfg := { base := field r 8 4, size := field r 12 4, stream := byteAt r 6 = 1 }

/-- The level of a cask (Casks). -/
def CaskSt.level (k : CaskSt) (size : Nat) : Nat :=
  if k.fill = k.tap then (if k.fillWrap = k.tapWrap then 0 else size) else (k.fill + size - k.tap) % size

/-- Advance an offset with its WRAP bit. -/
def wrapAdd (size o : Nat) (w : Bool) (n : Nat) : Nat × Bool :=
  if o + n < size then (o + n, w) else (o + n - size, !w)

/-- FILL advances. -/
def CaskSt.push (k : CaskSt) (size n : Nat) : CaskSt :=
  let f := wrapAdd size k.fill k.fillWrap n
  { k with fill := f.1, fillWrap := f.2 }

/-- TAP advances. -/
def CaskSt.pop (k : CaskSt) (size n : Nat) : CaskSt :=
  let f := wrapAdd size k.tap k.tapWrap n
  { k with tap := f.1, tapWrap := f.2 }

/-- Cask `k` of a core. -/
def Core.cask (x : Core) (k : Nat) : CaskSt := (x.casks[k]?).getD {}

/-- Replace a cask. -/
def Core.setCask (x : Core) (k : Nat) (v : CaskSt) : Core := { x with casks := x.casks.setIfInBounds k v }

/-- Reset FILL and TAP of every cask of a route's cores (R430). DEDUCED (log entry 89). -/
def State.resetCasks (s : State) (route : Nat) : State :=
  let t := s.struct
  let clear (c : Nat) (x : Core) : Core :=
    if t.coreRoute c = some route then
      { x with casks := x.casks.map fun k => { k with fill := 0, fillWrap := false, tap := 0, tapWrap := false } }
    else x
  { s with nec := { s.nec with cores := s.nec.cores.mapIdx clear } }

/-! Tasks. -/

/-- The scalar registers at a dispatch (R405). -/
def dispatchRegs (frame node route trigger : Nat) : List (BitVec 32) :=
  (List.range 32).map fun i =>
    if i = 1 then BitVec.ofNat 32 frame else if i = 2 then BitVec.ofNat 32 node
    else if i = 3 then BitVec.ofNat 32 route else if i = 4 then BitVec.ofNat 32 trigger else 0

/-- Fresh vector registers, whose contents nothing constrains (R405, R439). -/
def freeVecs (n : Nat) : Vector VReg 16 := Vector.ofFn fun i => { bytes := slice (Config.freeVec (n + i.val)) 0 512 }

/-- The vector registers become undefined (R405, R439). DESIGN CHOICE (log entry 129). -/
def State.freshVecs (s : State) (c : Nat) : State :=
  let x := s.core c
  ({ s with free := s.free + 16 }).setCore c { x with v := freeVecs s.free }

/-- Put a task onto a core: its scalars, PC and loop state; the vector registers are undefined, and its tile limit goes on from where a
preemption left it (R440). -/
def State.install (s : State) (c : Nat) (t : Task) : State :=
  let x := s.core c
  (s.setCore c { x with
    task := some t, s := Vector.ofFn fun i => t.sregs.getD i.val 0, sPoison := t.sPoison, pc := t.pc, loops := t.loops
    stall := none, preempt := false, incoming := none, tileAt := s.clk - t.ran, pWait := 0, pWaitAt := none }).freshVecs c

/-- The task of a core node (R405, R422, R448): its blob's header, its region, its identity; and the blob's address. -/
def State.mkTask (s : State) (t : Struct) (c route part trigger : Nat) (frame : Nat) (node : Bytes) : Task × Nat :=
  let prog := byteAt node 9
  let base := ((t.program prog).map (field · 8 8)).getD 0
  let hdr := s.mem.read base 64
  let task := byteAt hdr 6
  let region := ((t.taskRegion c task).or (s.img.heldRec fun r => byteAt r 0 = 0x31 && byteAt r 4 = c && byteAt r 5 = task)).getD []
  let len := field hdr 12 4
  ({ task := task, route := route, frame := frame, node := byteAt node 5, base := field region 8 4, bound := field region 12 4
     ca := (len + 511) / 512 * 512, codeLen := len, modes := field hdr 20 2, prog := prog
     safety := t.safetyClass route, part := part, trigger := trigger
     sregs := dispatchRegs frame (byteAt node 5) route trigger }, base)

/-- The program's code stands in the task region when the task starts (R450): unless the region holds it already, CA bytes are copied,
and their poison travels with them. DEDUCED (log entry 165). -/
def State.loadCode (s : State) (c : Nat) (t : Task) (blob : Nat) : State :=
  let code := s.mem.read (blob + 64) t.ca
  if (s.core c).lsRead t.base t.ca = code then s
  else s.setCore c ((s.core c).lsWrite t.base code fun w => s.mem.poisoned (blob + 64 + (32 * w - t.base)) 32)

/-- The core's next task: the one that waited for it, else the latest preempted one, which resumes (R245, R441). -/
def State.nextTask (s : State) (c : Nat) : State :=
  let x := s.core c
  match x.incoming, x.saved with
  | some t, _ => s.install c t
  | none, t :: r => (s.setCore c { x with saved := r }).install c t
  | none, [] => s.setCore c { x with preempt := false }

/-- NEC cycles of a span of the board's clock at the present profile (Table 1-5). DESIGN CHOICE (log entry 130). -/
def State.necCycles (s : State) (ticks : Nat) : Nat := ticks * s.top.profile.mhz / 800

/-- The clock a task has run since its last tile boundary, without its waits in CWAITs with P set (R440). -/
def State.tileTicks (s : State) (x : Core) : Nat :=
  s.clk - x.tileAt - x.pWait - (match x.pWaitAt with | some t => s.clk - t | none => 0)

/-- The running task is over: the hopper is flushed, its poison passes to its frame, and the core goes on (R418, R446).
DEDUCED (log entry 127). -/
def State.endTask (s : State) (c : Nat) : State :=
  let x := s.core c
  match x.task with
  | none => s
  | some t =>
    let s := s.setCore c { x.flushAll with task := none, stall := none, stepOne := false, busy := x.busy + s.necCycles (s.tileTicks x) }
    let mark (f : Frame) : Frame := if f.id = t.frame then { f with poisoned := f.poisoned || t.poison } else f
    let rs := s.rsq.routes.mapIdx fun i r => if i = t.route then { r with frames := r.frames.map mark } else r
    ({ s with rsq := { s.rsq with routes := rs } } : State).nextTask c

/-- The pc after an instruction, with the loops that end there: each turn but the last goes back to its body's start. -/
def loopStep (next : Nat) : List (Nat × Nat × Nat) → Nat × List (Nat × Nat × Nat)
  | [] => (next, [])
  | (a, e, n) :: t =>
    if next = e then (if 1 < n then (a, (a, e, n - 1) :: t) else loopStep next t) else (next, (a, e, n) :: t)

/-- The instruction is over; the pc goes on. -/
def Core.advance (x : Core) : Core :=
  let p := loopStep (x.pc + 8) x.loops
  { x with pc := p.1, loops := p.2, stall := none, pWaitAt := none }

/-- A core with the time that its present CWAIT with P set has taken counted (R440). -/
def State.waited (s : State) (x : Core) : Core :=
  let w := match x.pWaitAt with
    | some t => s.clk - t
    | none => 0
  { x with pWait := x.pWait + w }

/-- Put a core back after its instruction, with the time it waited with P set (R440). -/
def State.finish (s : State) (c : Nat) (x : Core) : State := s.setCore c (s.waited x).advance

/-- At a tile boundary or an unsatisfied CWAIT with P set: a task that is to stop ends, and a pending preemption is taken; the
outgoing task will resume at the next instruction (R223, R262, R441). A core that a slot has claimed and whose node has not come yet
stands empty (R245). DEDUCED (log entries 100, 128, 161). -/
def State.takePreemption (s : State) (c : Nat) : State :=
  let x := s.core c
  match x.task with
  | none => s
  | some t =>
    if t.stopAtTile then s.endTask c
    else if !x.preempt then s
    else
      let t := { t with sregs := x.s.toList, sPoison := x.sPoison, pc := x.pc, loops := x.loops, ran := s.tileTicks x }
      let s := s.setCore c { x with
        task := none, stall := none, saved := t :: x.saved, preempt := false, preempts := (x.preempts + 1) % 2 ^ 32 }
      match x.incoming with
      | none => s
      | some n => s.install c n

/-- A core that stalls in a CWAIT with P set takes a preemption or a stop requested meanwhile (R441). DEDUCED (log entry 128). -/
def State.settleWait (s : State) (c : Nat) : State :=
  let x := s.core c
  match x.stall, x.task with
  | some (.cwait _ _ true), some t =>
    if t.stopAtTile then s.endTask c
    else if x.preempt then (s.setCore c (s.waited x).advance).takePreemption c
    else s
  | _, _ => s

/-- The same on every core. -/
def State.settleWaits (s : State) : State := (List.range 64).foldl (fun s c => s.settleWait c) s

/-- A node is dispatched to its core: its code is loaded; it starts at once on a free core, and otherwise when the running
task is preempted (R245, R405, R450). -/
def State.startTask (s : State) (c : Nat) (t : Task) (blob : Nat) : State :=
  let s := s.loadCode c t blob
  if (s.core c).task.isNone then s.install c t
  else (s.setCore c { s.core c with incoming := some t, preempt := true }).settleWait c

/-- A core still has a task of a node. -/
def Core.holds (x : Core) (route frame node : Nat) : Bool :=
  let mine (t : Task) : Bool := t.route = route && t.frame = frame && t.node = node
  (x.task.map mine).getD false || (x.incoming.map mine).getD false || x.saved.any mine ||
    x.dma.any (·.own = (route, frame, node)) || (x.acc[0] ++ x.acc[1]).any (·.own = (route, frame, node))

end Sys2Proof.Machine
end

