-- ==== Sys2Proof/Machine/Merge.lean ====
section
/-! DEFINITION. How an image's records change the structure in force: replacing and merging (R181, R182, R186), busy
structural records and held ones (R202, R203). -/

namespace Sys2Proof.Machine

/-- FLAGS.DELETE of a record (R173). -/
def isDelete (r : Bytes) : Bool := bit (byteAt r 1) 0

/-- Merge records by key into those of a section (R182). -/
def mergeRecs (cur news : List Bytes) : List Bytes :=
  news.foldl (fun l r =>
    let same := fun x : Bytes => decide (recKey x = recKey r)
    if isDelete r then l.filter (!same ·)
    else if l.any same then l.map fun x => if same x then r else x
    else l ++ [r]) cur

/-- The structure after merging an image's sections, given by place (R182). -/
def Struct.merge (t : Struct) (img : List (Nat × List Bytes)) : Struct :=
  { sects := t.sects.zipIdx.map fun x =>
      match alookup img x.2 with
      | some news => some (mergeRecs (x.1.getD []) news)
      | none => x.1 }

/-- The structure after replacing the image's sections whole (R181). DEDUCED (log entry 87). -/
def Struct.replace (t : Struct) (img : List (Nat × List Bytes)) : Struct :=
  { sects := t.sects.zipIdx.map fun x => (alookup img x.2).or x.1 }

/-- The engine at a source port of the stream switch (Table 6-3): none for a pipe or a window reader. -/
def srcEngine (p : Nat) : Option Nat :=
  if 8 ≤ p ∧ p ≤ 11 then some 0x070
  else if 12 ≤ p ∧ p ≤ 20 then some (0x071 + (p - 12))
  else none

/-- The stage at a destination port (Table 6-4): none for a cask or a window writer. -/
def dstStage (p : Nat) : Option Nat :=
  if p = 0 then some 0x070
  else if p = 1 ∨ p = 2 then some (0x070 + p)
  else if 3 ≤ p ∧ p ≤ 10 then some (0x073 + (p - 3) / 2)
  else if p = 11 then some 0x077
  else if p = 12 then some 0x079
  else none

/-- The engine at a connection's destination: a stage, or the core of its cask (Table 6-4). -/
def dstEngine (c : Bytes) : Option Nat :=
  let p := byteAt c 5
  if 13 ≤ p ∧ p ≤ 28 then some (0x080 + byteAt c 8) else dstStage p

/-- The structural kinds (CONNECTION, CORE_LS, TASK_REGION, CASK, SLOT). -/
def isStructural (r : Bytes) : Bool := [0x30, 0x31, 0x32, 0x40, 0x53].contains (byteAt r 0)

/-- Whether a node on an engine, with its program's TASK number on a core, uses a structural record (R202).
DEDUCED (log entry 96). -/
def usesRecord (engine task : Nat) (r : Bytes) : Bool :=
  let k := byteAt r 0
  if k = 0x30 ∨ k = 0x32 then engine = 0x080 + byteAt r 4
  else if k = 0x31 then engine = 0x080 + byteAt r 4 && byteAt r 5 = task
  else if k = 0x40 then srcEngine (byteAt r 4) = some engine || dstEngine r = some engine
  else if k = 0x53 then field r 6 2 = engine
  else false

/-- The structure that governs a frame's nodes (R198, R199). DEDUCED (log entry 96). -/
def State.frameStruct (s : State) (f : Frame) : Struct :=
  match f.cfg with
  | some x => { sects := x }
  | none => s.struct

/-- The TASK number of a node's program, 4 for a stage node. -/
def State.nodeTask (s : State) (t : Struct) (node : Bytes) : Nat :=
  if field node 6 2 < 0x080 then 4
  else byteAt (s.mem.read (((t.program (byteAt node 9)).map (field · 8 8)).getD 0) 64) 6

/-- Whether a node of these frames, not yet ended, still uses a record (R202): of an abandoned or aborted frame only a
running node counts. DEDUCED (log entry 96). -/
def State.usedBy (s : State) (route : Nat) (frames : List Frame) (r : Bytes) : Bool :=
  frames.any fun f =>
    let t := s.frameStruct f
    f.nodes.any fun n =>
      (n.st = .running || (n.st = .waiting && f.abandoned.isNone && !f.aborted)) &&
      match t.node route n.node with
      | some x => usesRecord (field x 6 2) (s.nodeTask t x) r
      | none => usesRecord n.engine 4 r

/-- Whether a FRAME apply changes a structural record that an earlier frame's node still uses (R202); deleting one does not
count (R203). -/
def State.applyBusy (s : State) (route : Nat) (img : List (Nat × List Bytes)) : Bool :=
  let t := s.struct
  (img.flatMap (·.2)).any fun r =>
    isStructural r && !isDelete r &&
    match (t.sect (kindSect (byteAt r 0))).find? fun x => decide (recKey x = recKey r) with
    | some old => decide (old ≠ r) && s.usedBy route (s.rsq.routes[route]?.getD {}).frames old
    | none => false

/-- The image slots with a FRAME apply on a route, staged or still being validated, and the applies (R196, R205). -/
def Img.frameApplies (g : Img) (route : Nat) : List (Nat × Apply) :=
  g.slots.toList.zipIdx.filterMap fun x =>
    match x.1.apply with
    | some a => if a.point = .frame ∧ a.route = route then some (x.2, a) else none
    | none => none

/-- A FRAME apply of a route stands at a boundary, still to be decided (R200). -/
def Img.atBoundary (g : Img) (route : Nat) : Bool := (g.frameApplies route).any (·.2.window.isSome)

/-- Change the apply of an image slot. -/
def Img.mapApply (g : Img) (slot : Nat) (f : Apply → Apply) : Img :=
  { g with slots := g.slots.mapIdx fun i x => if i = slot then { x with apply := x.apply.map f } else x }

/-- An image slot's apply is over: the slot reads LOADED and keeps its image (R185). -/
def Img.endApply (g : Img) (slot : Nat) : Img :=
  { g with slots := g.slots.mapIdx fun i x => if i = slot then { x with apply := none, st := .loaded } else x }

/-- A route's frames may be dispatched again once no FRAME apply stands at their boundary (R200). -/
def State.settleSwap (s : State) (route : Nat) : State :=
  if s.img.atBoundary route then s
  else { s with rsq := { s.rsq with routes := s.rsq.routes.mapIdx fun i x =>
    if i = route then { x with frames := x.frames.map fun f => { f with swapDone := true } } else x } }

/-- The apply of an image slot is over, at whatever point it stood: frames that waited for its swap wait no longer (R185, R200, R205). -/
def State.endApply (s : State) (slot : Nat) : State :=
  let was := (s.img.slots[slot]?).bind (·.apply)
  let s : State := { s with img := s.img.endApply slot }
  match was with
  | some a => if a.point = .frame then s.settleSwap a.route else s
  | none => s

/-- Release the held records that no earlier-frame node of a route uses any more (R203). -/
def State.releaseHeld (s : State) (route : Nat) : State :=
  let fs := (s.rsq.routes[route]?.getD {}).frames.filter (·.cfg.isSome)
  { s with img := { s.img with held := s.img.held.filter fun h => h.route ≠ route || s.usedBy route fs h.recd } }

/-! What a stage keeps of a node. -/

/-- What identifies FLO's stored pyramid (R343): CTX, IN_W and IN_H, LEVELS, OUT_LEVEL, REF_MODE, WORK_BASE of its block. -/
def floKey (b : Bytes) : Bytes := slice b 0 1 ++ slice b 4 4 ++ slice b 8 2 ++ slice b 1 1 ++ slice b 16 8

/-- What identifies a tracker's table (R383): the CTX list, MAX_TRACKS, LEVELS, TABLE_BASE of its block. -/
def trkKey (b : Bytes) : Bytes := slice b 12 8 ++ slice b 8 2 ++ slice b 2 1 ++ slice b 24 8

/-- The fields whose change discards what an instance keeps of a node (R343, R383); empty for an instance that keeps nothing. -/
def keepKey (i : Nat) (b : Bytes) : Bytes := if i = 5 ∨ i = 6 then floKey b else if i = 9 then trkKey b else []

/-- Those fields of the block that a structure gives a node of an instance; none when it does not run there. -/
def Struct.nodeKey (t : Struct) (i r n : Nat) : Option Bytes :=
  match t.node r n with
  | some c =>
    if field c 6 2 = 0x070 + i then (t.stageParams (0x070 + i) (byteAt c 9)).map fun b => keepKey i (b.drop 8) else none
  | none => none

/-- Change what an instance keeps. -/
def Stage.mapKept (x : Stage) (g : List Memo → List Memo) : Stage := { x with stored := g x.stored, tables := g x.tables }

/-- What an instance keeps of a node of `key`, at the dispatch of the node for a frame (R342, R377): what other fields left is
discarded, and what a change for later frames has discarded serves earlier frames alone (R199, R343, R383).
DEDUCED (log entry 163). -/
def Memo.serves (owner : Nat) (key : Bytes) (earlier : Bool) (e : Memo) : Bool := e.owner ≠ owner || (e.key = key && (earlier || !e.old))

/-- The fields of a node have changed for a frame after this one, or for frames to come (R343, R383). DEDUCED (log entry 163). -/
def State.keyChanged (s : State) (i r id n : Nat) (key : Bytes) : Bool :=
  let later := ((s.rsq.routes[r]?.getD {}).frames.dropWhile (·.id ≠ id)).drop 1
  s.struct.nodeKey i r n ≠ some key || later.any fun f => (s.frameStruct f).nodeKey i r n ≠ some key

/-- The contexts of a list of `n` in a block. -/
def ctxList (b : Bytes) (o n : Nat) : List Nat := (List.range n).map fun i => byteAt b (o + i)

/-- The contexts that a stage instance's block names for its input port (R239, Table 8-6, Table 9-4). -/
def portCtxs (i port : Nat) (b : Bytes) : List Nat :=
  if i = 0 then ctxList b 24 (min 16 (byteAt b 0))
  else if i ≤ 2 then (List.range (min 8 (byteAt b 0))).map fun k => byteAt b (32 + 40 * k)
  else if i ≤ 4 then [byteAt b port]
  else if i ≤ 6 then (if port = 0 then [byteAt b 0] else if byteAt b 1 = 1 then [byteAt b 2] else [])
  else if i = 7 then ctxList b 16 (min 8 (byteAt b 0))
  else if i = 9 then (if byteAt b 1 = 0 then ctxList b 12 (min 8 (byteAt b 0)) else [])
  else []

end Sys2Proof.Machine
end

