-- ==== Sys2Proof/Machine/ImgFields.lean ====
section
/-! DEFINITION. The fields of an image's records (R173, R174, R182, R211) and of the parameter blocks and sets inside them
(R300, R351, R396, R631): which reason of Table 5-17 a record earns by itself. -/

namespace Sys2Proof.Machine

/-- A reason code when a check fails. -/
def failing (b : Bool) (code : Nat) : List Nat := if b then [code] else []

/-- The lowest of the codes a check found (R210). DEDUCED (log entry 83). -/
def lowestCode (l : List Nat) : Option Nat := minBy (fun a b => decide (a < b)) l

/-- A number lies in a closed range. -/
def within (v lo hi : Nat) : Bool := decide (lo ≤ v) && decide (v ≤ hi)

/-- Every byte outside the given ranges (offset, size) is zero. -/
def zeroOutside (b : Bytes) (l : List (Nat × Nat)) : Bool :=
  b.zipIdx.all fun x => x.1 == 0 || l.any fun r => decide (r.1 ≤ x.2) && decide (x.2 < r.1 + r.2)

/-- Shortest and longest length of a record kind (Table 5-5); none for a kind that does not exist. Blocks and sets of
another length are judged under STAGE_BLOCK. -/
def kindLen (k : Nat) : Option (Nat × Nat) :=
  if k = 0x01 ∨ k = 0x10 ∨ k = 0x21 then some (32, 32)
  else if k = 0x02 ∨ k = 0x11 ∨ k = 0x30 ∨ k = 0x31 ∨ k = 0x40 ∨ k = 0x52 ∨ k = 0x53 ∨ k = 0x5F ∨ k = 0x70 ∨ k = 0x71 then some (16, 16)
  else if k = 0x03 ∨ k = 0x22 ∨ k = 0x32 ∨ k = 0x51 then some (24, 24)
  else if k = 0x12 then some (40, 524280)
  else if k = 0x20 then some (48, 48)
  else if k = 0x50 then some (40, 40)
  else if k = 0x60 ∨ k = 0x72 then some (8, 524280)
  else if k = 0x80 then some (72, 72)
  else none

/-- The key fields of a kind: offset and size (Table 5-5). -/
def keyField (k : Nat) : Nat × Nat :=
  if k = 0x01 ∨ k = 0x10 ∨ k = 0x5F then (4, 0)
  else if k = 0x12 ∨ k = 0x52 ∨ k = 0x60 then (4, 3)
  else if k = 0x31 ∨ k = 0x32 ∨ k = 0x51 ∨ k = 0x53 then (4, 2)
  else if k = 0x40 then (5, 1)
  else (4, 1)

/-- A source number of a stage instance. -/
def isStage (e : Nat) : Bool := within e 0x070 0x079

/-- A source number of a neural core. -/
def isCore (e : Nat) : Bool := within e 0x080 0x0BF

/-- A source port that a CONNECTION may name (Table 6-3). -/
def srcPortOk (p : Nat) : Bool := within p 0 20 || within p 22 37

/-- A cask port (Table 6-4). -/
def caskPort (p : Nat) : Bool := within p 13 28

/-- A cellar window writer (Table 6-4). DEDUCED (log entry 69). -/
def writerPort (p : Nat) : Bool := within p 29 44

/-- The key fields of a record lie in their ranges. -/
def keyOk (r : Bytes) : Bool :=
  let k := byteAt r 0
  let a := byteAt r 4
  let b := byteAt r 5
  if k = 0x02 then within a 0 12
  else if k = 0x03 then within a 0 8
  else if k = 0x11 ∨ k = 0x22 ∨ k = 0x50 ∨ k = 0x70 then within a 0 15
  else if k = 0x12 then (isStage (field r 4 2) || isCore (field r 4 2)) && within (byteAt r 6) 0 15
  else if k = 0x20 then within a 1 15
  else if k = 0x21 ∨ k = 0x30 ∨ k = 0x71 ∨ k = 0x72 then within a 0 63
  else if k = 0x31 then within a 0 63 && within b 0 3
  else if k = 0x32 then within a 0 63 && within b 0 15
  else if k = 0x40 then within b 0 44
  else if k = 0x51 then within a 0 15 && within b 0 63
  else if k = 0x52 then within a 0 15 && within b 0 63 && within (byteAt r 6) 0 63
  else if k = 0x53 then within a 0 15 && within b 0 15
  else if k = 0x60 then isStage (field r 4 2) && within (byteAt r 6) 0 15
  else true

/-! Parameter blocks. -/

/-- An OUTDESC is zero: the output feeds no cellar window (Table 8-6). -/
def descZero (b : Bytes) (o : Nat) : Bool := allZero (slice b o 16)

/-- An OUTDESC's fields: zero, or a 64-byte aligned BASE in the domain, a STRIDE that is a multiple of 64 and 1 to 8 SLOTS. -/
def descOk (b : Bytes) (o : Nat) : Bool :=
  descZero b o || (decide (field b o 8 < 2 ^ 48) && field b o 8 % 64 = 0 && field b (o + 8) 4 % 64 = 0 && within (byteAt b (o + 12)) 1 8)

/-- Length of a stage's parameter block (R351, R396). -/
def blockLen (stage : Nat) : Nat :=
  if stage = 0x070 then 112
  else if stage = 0x071 ∨ stage = 0x072 then 352
  else if stage = 0x079 then 80
  else 64

/-- The number of samples across after halving `k` times, rounding up (Pyramid). -/
def levelSize (n : Nat) : Nat → Nat
  | 0 => n
  | k + 1 => halfUp (levelSize n k)

/-- IN_FORMAT of a block (Programming of Table 8-6). -/
def inFormatOk (v : Nat) : Bool := within v 0x02 0x09 || within v 0x10 0x11

/-- Bytes of one slot of FLO's work window (R341). -/
def floSlot (b : Bytes) : Nat :=
  (((List.range (byteAt b 8)).filter (byteAt b 9 ≤ ·)).map fun k => up64 (levelSize (field b 4 2) k) * levelSize (field b 6 2) k).sum

/-- The context list of PYR, the detector or the tracker: entries in use name contexts, the others hold 0xFF. -/
def ctxListOk (b : Bytes) (o n count : Nat) : Bool :=
  (List.range n).all fun i => if i < count then within (byteAt b (o + i)) 0 63 else byteAt b (o + i) = 0xFF

/-- The fields of a parameter block lie in their ranges (Tables 8-6 and 9-4, R320, R321, R334, R341). -/
def blockFieldOk (stage : Nat) (b : Bytes) : Bool :=
  let w := field b 4 2
  let h := field b 6 2
  if stage = 0x070 then
    let n := byteAt b 1
    within (byteAt b 0) 1 16 && within n 2 10 && within (byteAt b 2) 0 1 && inFormatOk (byteAt b 3) && within w 64 6144 && within h 2 8192
      && (List.range 4).all (fun i => decide (bits (field b (8 + 2 * i) 2) 9 0 < 2 ^ n) && within (byteAt b (16 + i)) 0 2 && descOk b (40 + 16 * i))
      && ctxListOk b 24 16 (byteAt b 0) && decide (16 ≤ levelSize w (n - 1)) && decide (16 ≤ levelSize h (n - 1))
  else if stage = 0x071 ∨ stage = 0x072 then
    within (byteAt b 0) 1 8 && inFormatOk (byteAt b 1) && within (byteAt b 2) 1 2 && descOk b 16
      && (List.range (byteAt b 0)).all fun i =>
        let o := 32 + 40 * i
        let nx := (field b (o + 8) 2 - 1 + 2 ^ byteAt b (o + 2) - 1) / 2 ^ byteAt b (o + 2) + 1
        within (byteAt b o) 0 63 && within (byteAt b (o + 1)) 0 1 && within (byteAt b (o + 2)) 3 6
          && within (field b (o + 4) 2) 64 6144 && within (field b (o + 6) 2) 2 8192
          && within (field b (o + 8) 2) 64 6144 && within (field b (o + 10) 2) 2 8192 && within (field b (o + 12) 2) 16 512
          && field b (o + 16) 8 % 64 = 0 && decide (field b (o + 16) 8 < 2 ^ 48)
          && field b (o + 24) 4 % 64 = 0 && decide (8 * nx ≤ field b (o + 24) 4)
  else if stage = 0x073 ∨ stage = 0x074 then
    let d := field b 10 2
    within (byteAt b 0) 0 63 && within (byteAt b 1) 0 63 && inFormatOk (byteAt b 2) && within (byteAt b 3) 0 1
      && within w 64 4096 && within h 2 8192 && within (field b 8 2) 0 1023 && within d 32 256 && d % 32 = 0 && decide (w * d ≤ 1048576)
      && within (byteAt b 12) 4 5 && decide (byteAt b 13 ≤ byteAt b 14) && within (byteAt b 19) 0 3 && decide (byteAt b 20 ≤ byteAt b 21)
      && descOk b 24 && (!bit (byteAt b 18) 1 || (decide (4 * up64 w * h ≤ field b 48 4) && decide (field b 40 8 < 2 ^ 48)))
  else if stage = 0x075 ∨ stage = 0x076 then
    let m := byteAt b 1
    within (byteAt b 0) 0 63 && within m 0 1 && (if m = 1 then within (byteAt b 2) 0 63 else byteAt b 2 = 0xFF)
      && within (byteAt b 3) 0x10 0x11 && within w 64 6144 && within h 2 8192 && within (byteAt b 8) 2 6 && within (byteAt b 9) 0 2
      && decide (byteAt b 9 + 1 < byteAt b 8) && within (byteAt b 10) 1 8 && within (byteAt b 11) 2 4
      && decide ((if m = 1 then 4 else 3) * floSlot b ≤ field b 24 4) && decide (field b 16 8 < 2 ^ 48) && descOk b 32
  else if stage = 0x077 then
    within (byteAt b 0) 1 8 && inFormatOk (byteAt b 1) && within (byteAt b 2) 0 3 && within (byteAt b 3) 9 12 && within w 64 6144
      && within h 64 8192 && decide (1 ≤ field b 8 2) && within (byteAt b 10) 1 16 && within (field b 12 4) 1 65536
      && ctxListOk b 16 8 (byteAt b 0) && descOk b 32 && !descZero b 32 && field b 48 8 % 64 = 0 && decide (field b 48 8 < 2 ^ 48)
  else if stage = 0x078 then
    let m := byteAt b 1
    within (byteAt b 0) 0 63 && within m 0 1 && (if m = 1 then within (byteAt b 2) 0 63 else byteAt b 2 = 0xFF)
      && within (byteAt b 4) 0 3 && within (byteAt b 5) 0 3 && within (byteAt b 6) 0 3 && within (field b 8 2) 0 256
      && decide (1 ≤ byteAt b 10) && descOk b 16 && descOk b 32 && (m = 1 || descZero b 32) && descOk b 48
  else
    within (byteAt b 0) 1 8 && within (byteAt b 1) 0 1 && within (byteAt b 2) 1 2 && within (byteAt b 3) 1 4 && within (byteAt b 4) 1 8
      && within (byteAt b 5) 0 30 && decide (1 ≤ byteAt b 6) && within (field b 8 2) 64 32768 && decide (1 ≤ byteAt b 10)
      && ctxListOk b 12 8 (byteAt b 0) && within (field b 20 2) 0 256 && field b 24 8 % 4096 = 0 && decide (field b 24 8 < 2 ^ 48)
      && descOk b 32 && descOk b 48 && descOk b 64

/-- The reserved bytes and bits of a parameter block are zero (Tables 8-6 and 9-4). -/
def blockReservedOk (stage : Nat) (b : Bytes) : Bool :=
  if stage = 0x070 then
    zeroOutside b [(0, 20), (24, 29), (56, 13), (72, 13), (88, 13)]
      && (List.range 4).all fun i => bits (field b (8 + 2 * i) 2) 15 10 = 0
  else if stage = 0x071 ∨ stage = 0x072 then
    zeroOutside b ([(0, 3), (16, 13)] ++ (List.range (min 8 (byteAt b 0))).flatMap fun i =>
      [(32 + 40 * i, 3), (36 + 40 * i, 10), (48 + 40 * i, 12)])
  else if stage = 0x073 ∨ stage = 0x074 then zeroOutside b [(0, 37), (40, 12)] && bits (byteAt b 18) 7 2 = 0
  else if stage = 0x075 ∨ stage = 0x076 then zeroOutside b [(0, 30), (32, 13)] && bits (byteAt b 13) 7 1 = 0
  else if stage = 0x077 then zeroOutside b [(0, 24), (32, 13), (48, 8)] && bits (byteAt b 11) 7 1 = 0
  else if stage = 0x078 then zeroOutside b [(0, 7), (8, 3), (12, 17), (32, 13), (48, 13)] && bits (byteAt b 3) 7 2 = 0
  else zeroOutside b [(0, 11), (12, 10), (24, 21), (48, 13), (64, 13)] && bits (byteAt b 7) 7 1 = 0

/-! Pipe parameter sets. -/

/-- A CFA code with IR, and one without a phase (Table 7-5). -/
def cfaIr (c : Nat) : Bool := c = 0x08 || c = 0x09
def cfaPlain (c : Nat) : Bool := within c 0x01 0x04 || c = 0x0A

/-- The fields of a version 1 parameter set lie in their ranges (R293, R299, R300). -/
def setFieldOk (b : Bytes) : Bool :=
  let cfa := byteAt b 0
  let k := byteAt b 1
  let ir := bit (field b 2 2) 2
  let p := byteAt b 7
  let irFmt (f : Nat) : Bool := (f ≠ 0x08 && f ≠ 0x09) || (cfaIr cfa && ir)
  within cfa 0x01 0x0A && (k = 0 || within k 2 16) && within (byteAt b 4) 0 8 && within (byteAt b 5) 1 9 && within (byteAt b 6) 0 9
    && (if cfaPlain cfa then p = 0 else if cfa = 0x09 then decide (p < 16) else decide (p < 16) && !bit p 1 && !bit p 3)
    && (!ir || cfaIr cfa) && irFmt (byteAt b 5) && irFmt (byteAt b 6) && within (field b 8 4) 0 1000000000
    && (List.range 4).all (fun i => decide (field b (12 + 4 * i) 4 < 2 ^ 20))
    && (List.range 32).all (fun i => decide (field b (28 + 4 * i) 4 < 2 ^ 20))
    && (List.range 16).all fun i =>
      if k ≤ i then field b (28 + 8 * i) 8 = 0 else i = 0 || decide (field b (20 + 8 * i) 4 < field b (28 + 8 * i) 4)

/-- The reserved bytes and bits of a parameter set are zero (Table 7-7). -/
def setReservedOk (b : Bytes) : Bool :=
  bits (field b 2 2) 15 5 = 0 && allZero (slice b 158 2) && allZero (slice b 198 2) && allZero (slice b 714 6)

/-! Stimuli. -/

/-- Input planes of a stage's stimulus (Table 14-6). -/
def stimPlanes (stage : Nat) : Nat :=
  if stage = 0x078 ∨ stage = 0x079 then 0 else if within stage 0x073 0x076 then 2 else 1

/-- Bytes of the A panel and the W panel of a core's stimulus (Table 14-6, R453). -/
def stimPanels (mode k : Nat) : Nat := 64 * k + (if 5 ≤ mode then 160 * (k / 4) else 64 * k)

/-- A TASTING record's stimulus keeps Table 14-6 and fills STIMULUS exactly (R631). DEDUCED (log entry 86). -/
def stimulusOk (r : Bytes) : Bool :=
  let e := field r 4 2
  let x := r.drop 32
  let w := field x 4 2
  let h := field x 6 2
  allZero (slice x 10 2) &&
  if isStage e then
    byteAt x 0 = 1 && byteAt x 1 = 0 && field x 2 2 = 0 && within w 64 256 && w % 2 = 0 && within h 64 256 && h % 2 = 0
      && field x 8 2 = blockLen e && x.length = 16 + blockLen e + stimPlanes e * w * h * 2 + field x 12 4
  else
    let k := field x 2 2
    byteAt x 0 = 2 && within (byteAt x 1) 0 7 && within k 4 256 && k % 4 = 0 && w = 0 && h = 0 && field x 8 2 = 0 && field x 12 4 = 0
      && x.length = 16 + stimPanels (byteAt x 1) k

/-! Records. -/

/-- The range of BW of an input in mHz (Table 12-1). -/
def bwRange (input : Nat) : Nat × Nat :=
  if input < 2 then (10, 1000) else if input < 4 then (10000, 1000000) else if input < 12 then (1000, 100000) else (5, 500)

/-- The number of bits set. -/
def popcount (v n : Nat) : Nat := ((List.range n).filter (bit v)).length

/-- A data type that a CONTEXT may name (Table 7-2, R269). -/
def dtOk (d : Nat) : Bool := within d 0x2A 0x2F || d = 0x1E || d = 0x24

/-- The fields of a record lie in their ranges (R211, Tables 5-9 to 5-16, R235, R238, R253, R256, R269, R279, R464).
DEDUCED (log entry 86). -/
def recFieldOk (r : Bytes) : Bool :=
  let k := byteAt r 0
  keyOk r &&
  if k = 0x01 then
    let can := bit (field r 8 4) 2 || bit (field r 8 4) 3
    within (byteAt r 4) 1 3 && within (byteAt r 16) 0 3 && (List.range 3).all (fun i => within (byteAt r (17 + i)) 1 8)
      && decide (byteAt r 17 * byteAt r 18 * byteAt r 19 ≤ 256)
      && (!can || (within (byteAt r 20) 1 3 && (byteAt r 21 = 1 || byteAt r 21 = 2 || byteAt r 21 = 4 || byteAt r 21 = 5)))
      && within (byteAt r 22) 0 1 && within (field r 24 2) 0 720
  else if k = 0x02 then
    let i := byteAt r 4
    within (byteAt r 5) 0 15 && (!bit (byteAt r 6) 0 || within i 2 3) && within (field r 8 4) (bwRange i).1 (bwRange i).2
  else if k = 0x03 then
    let off := signed 32 (field r 8 4)
    let p := field r 12 4
    within (byteAt r 5) 1 2 && decide (-500000000 ≤ off) && decide (off ≤ 500000000)
      && within p (if byteAt r 4 = 8 then 1000000000 else 1000000) 1000000000 && within (field r 16 4) 100 (p / 2)
  else if k = 0x10 then
    within (byteAt r 4) 0 1 && within (byteAt r 5) 1 2 && within (field r 8 2) 1 10 && decide (field r 10 2 < 2048)
      && field r 10 2 % 16 = 0 && within (field r 12 4) 10000 150000
  else if k = 0x11 then within (field r 8 4) 1 1000000 && within (field r 12 4) 1 1000000
  else if k = 0x12 then stimulusOk r
  else if k = 0x20 then
    within (byteAt r 6) 1 64 && within (byteAt r 7) 1 255 && field r 16 8 % 2097152 = 0 && decide (field r 16 8 < 2 ^ 40)
      && field r 24 8 % 2097152 = 0
  else if k = 0x21 then
    let n := popcount (field r 8 2) 16
    let t := byteAt r 5
    within t 1 2 && within (byteAt r 6) 0 15 && (n = 1 || n = 2 || n = 4 || n = 8 || n = 16)
      && (t = 1 || field r 24 8 = n * popcount (field r 10 2) 16 * 262144)
      && decide (field r 16 8 < (if t = 1 then 2 ^ 48 else 2 ^ 40))
  else if k = 0x22 then
    within (byteAt r 5) 1 15 && field r 8 8 % 2097152 = 0 && decide (field r 8 8 < 2 ^ 40) && field r 16 8 % 2097152 = 0
  else if k = 0x30 then within (byteAt r 5) 1 2 && (within (byteAt r 6) 0 15 || byteAt r 6 = 0xFF)
  else if k = 0x31 then
    field r 8 4 % 512 = 0 && field r 12 4 % 512 = 0 && decide (field r 8 4 < field r 12 4) && decide (field r 12 4 ≤ 524288)
  else if k = 0x32 then
    within (byteAt r 6) 0 1 && field r 8 4 % 512 = 0 && field r 12 4 % 512 = 0 && decide (1024 ≤ field r 12 4)
      && decide (field r 8 4 + field r 12 4 ≤ 524288)
  else if k = 0x40 then
    srcPortOk (byteAt r 4) && within (byteAt r 6) 0 15
      && (if caskPort (byteAt r 5) then within (byteAt r 8) 0 63 && within (byteAt r 9) 0 15 else field r 8 2 = 0xFFFF)
      && within (field r 10 2) 1 64
  else if k = 0x5F then within (field r 4 4) 1000 1000000
  else if k = 0x50 then
    within (byteAt r 6) 1 64 && within (byteAt r 7) 0 63 && within (byteAt r 8) 1 4 && within (byteAt r 9) 1 3
      && (if byteAt r 9 = 3 then within (byteAt r 10) 2 16 else byteAt r 10 = 0) && within (field r 12 4) 1000 4000000
      && within (field r 16 2) 0 4096 && decide (1 ≤ byteAt r 18) && within (byteAt r 20) 1 64
      && field r 32 8 % 64 = 0 && decide (field r 32 8 < 2 ^ 48)
  else if k = 0x51 then
    let e := field r 6 2
    (isStage e || isCore e) && within (byteAt r 8) 1 2 && (!isStage e || within (byteAt r 9) 0 15) && (byteAt r 8 = 1 || field r 12 4 = 0)
  else if k = 0x52 then
    decide (byteAt r 5 < byteAt r 6) && within (byteAt r 7) 1 2 && (if byteAt r 7 = 1 then within (byteAt r 8) 0 47 else byteAt r 8 = 0xFF)
  else if k = 0x53 then isStage (field r 6 2) || isCore (field r 6 2)
  else if k = 0x60 then blockFieldOk (field r 4 2) (r.drop 8)
  else if k = 0x70 then
    let d := decide (byteAt r 5 = 1)
    within (byteAt r 5) 1 2 && (if d then byteAt r 6 = 1 || byteAt r 6 = 2 || byteAt r 6 = 4 else within (byteAt r 6) 1 3)
      && decide (field r 8 2 ≤ (if d then 4500 else 6000))
  else if k = 0x71 then
    let w := field r 10 2
    let h := field r 12 2
    within (byteAt r 5) 0 15 && within (byteAt r 6) 0 15 && dtOk (byteAt r 7) && within (byteAt r 8) 0 3 && within (byteAt r 9) 0 63
      && within w 64 6144 && w % 2 = 0 && within h 2 8192 && h % 2 = 0
  else if k = 0x72 then setFieldOk (r.drop 8)
  else if k = 0x80 then within (byteAt r 5) 1 15
  else true

/-- The bytes of a record that hold fields, beside its 4-byte header (Tables 5-9 to 5-16). -/
def fieldBytes (k n : Nat) : List (Nat × Nat) :=
  if k = 0x01 then [(4, 22)]
  else if k = 0x02 then [(4, 3), (8, 4)]
  else if k = 0x03 then [(4, 2), (8, 12)]
  else if k = 0x10 then [(4, 3), (8, 8)]
  else if k = 0x11 then [(4, 1), (8, 8)]
  else if k = 0x12 then [(4, 3), (8, 8), (32, n)]
  else if k = 0x20 then [(4, 9), (16, 16)]
  else if k = 0x21 then [(4, 3), (8, 4), (16, 16)]
  else if k = 0x22 then [(4, 2), (8, 16)]
  else if k = 0x30 then [(4, 3)]
  else if k = 0x31 then [(4, 2), (8, 8)]
  else if k = 0x32 then [(4, 3), (8, 8)]
  else if k = 0x40 then [(4, 8)]
  else if k = 0x5F then [(4, 4)]
  else if k = 0x50 then [(4, 17), (24, 16)]
  else if k = 0x51 then [(4, 6), (12, 8)]
  else if k = 0x52 then [(4, 5)]
  else if k = 0x53 then [(4, 12)]
  else if k = 0x60 then [(4, n)]
  else if k = 0x70 then [(4, 3), (8, 2)]
  else if k = 0x71 then [(4, 10)]
  else if k = 0x72 then [(4, 2), (8, n)]
  else if k = 0x80 then [(4, 2), (8, 64)]
  else [(4, n)]

/-- The reserved bytes and flag bits of a record are zero (R9, R11, R173). -/
def recReservedOk (r : Bytes) : Bool :=
  let k := byteAt r 0
  let f := byteAt r 5
  decide (byteAt r 1 < 2) && zeroOutside (r.drop 4) ((fieldBytes k r.length).map fun x => (x.1 - 4, x.2)) &&
  if k = 0x01 then
    bits f 7 1 = 0 && bits (byteAt r 23) 7 1 = 0 && (List.range 32).all fun i => !bit (field r 8 4) i || (i < 20 && i ≠ 6 && i ≠ 7 && i ≠ 10)
  else if k = 0x02 then bits (byteAt r 6) 7 1 = 0
  else if k = 0x10 then bits (byteAt r 6) 7 4 = 0
  else if k = 0x20 then bits f 7 2 = 0
  else if k = 0x40 then bits (byteAt r 7) 7 1 = 0
  else if k = 0x50 then bits f 7 1 = 0
  else if k = 0x60 then blockReservedOk (field r 4 2) (r.drop 8)
  else if k = 0x72 then setReservedOk (r.drop 8)
  else true

/-- A parameter block or set has its length and version (STAGE_BLOCK). -/
def recBlockOk (r : Bytes) : Bool :=
  let k := byteAt r 0
  if k = 0x60 then !isStage (field r 4 2) || (byteAt r 7 = 1 && r.length = 8 + blockLen (field r 4 2))
  else if k = 0x72 then byteAt r 5 = 1 && r.length = 9440
  else true

/-- The reasons a record of a section earns by itself (Table 5-8 step 6, R174, R182). DEDUCED (log entry 83). -/
def recCodes (sect : Nat) (r : Bytes) : List Nat :=
  let k := byteAt r 0
  match kindLen k with
  | none => [0x31]
  | some (lo, hi) =>
    failing (if isDelete r then decide (r.length ≠ lo) else !within r.length lo hi) 0x30 ++ failing (kindSect k ≠ sect) 0x31 ++
      if isDelete r then
        failing (!keyOk r) 0x32
          ++ failing (decide (2 ≤ byteAt r 1) || !zeroOutside (r.drop 4) [((keyField k).1 - 4, (keyField k).2)]) 0x33
      else if !within r.length lo hi then []
      else if !recBlockOk r then [0x36] ++ failing (!keyOk r) 0x32 ++ failing (decide (2 ≤ byteAt r 1)) 0x33
      else failing (!recFieldOk r) 0x32 ++ failing (!recReservedOk r) 0x33

end Sys2Proof.Machine
end

