-- ==== Sys2Proof/Machine/ImgParse.lean ====
section
/-! DEFINITION. Steps 2 to 6 of the validation of a structure image (Table 5-8): its header, section table, signatures, the
rules on tenant and function, and the syntax and fields of its records. -/

namespace Sys2Proof.Machine

/-- A section of an image. -/
structure ImgSect where
  typ : Nat := 0
  owner : Nat := 0
  version : Nat := 0
  off : Nat := 0
  len : Nat := 0
  count : Nat := 0
  resv : Nat := 0
  /-- its bytes -/
  body : Bytes := []
  deriving DecidableEq, Repr

/-- The owner of a section type: 1 operator, 2 tenant, 0 for an unknown type (Table 5-4). -/
def sectOwner (typ : Nat) : Nat :=
  if typ = 0x01 ∨ typ = 0x02 then 1 else if within typ 0x10 0x16 then 2 else 0

/-- The sections an image's table names (Table 5-3), at most 9. -/
def imgSects (b : Bytes) : List ImgSect :=
  (List.range (min 9 (field b 12 2))).map fun i =>
    let o := 64 + 16 * i
    let off := field b (o + 4) 4
    let len := field b (o + 8) 4
    { typ := byteAt b o, owner := byteAt b (o + 1), version := field b (o + 2) 2, off := off, len := len
      count := field b (o + 12) 2, resv := field b (o + 14) 2, body := (b.drop off).take len }

/-- The image carries sections of an owner. -/
def hasOwner (l : List ImgSect) (owner : Nat) : Bool := l.any fun x => decide (x.owner = owner)

/-- Step 2: the header (Table 5-2). The owner flags are judged where the section table can be read, as step 3 judges a table
that cannot. DEDUCED (log entry 84). -/
def State.headerCodes (s : State) (b : Bytes) : List Nat :=
  let l := imgSects b
  let table := within (field b 12 2) 1 9 && decide (64 + 16 * field b 12 2 ≤ b.length)
  let v := byteAt b 25
  let old (min : Nat) (runs : Bool) (m : Nat) : Bool := decide (min ≠ 0) && (!runs || decide (s.fw.version m < min))
  failing (decide (slice b 0 4 ≠ label "TYSI")) 0x01
    ++ failing (field b 4 2 ≠ 1 || field b 6 2 ≠ 64 || field b 36 4 ≠ 64) 0x02
    ++ failing (field b 8 4 ≠ b.length || decide (16777216 < field b 8 4)) 0x03
    ++ failing (bits (field b 14 2) 15 2 ≠ 0 || bits v 7 2 ≠ 0 || field b 26 2 ≠ 0 || !allZero (slice b 44 20)) 0x04
    ++ failing (byteAt b 24 ≠ 0xB0) 0x05
    ++ failing (!bit v (b2n s.top.variantK)) 0x06
    ++ failing (old (field b 28 4) true 4 || old (field b 32 4) (!s.fw.safRomOnly) 5) 0x07
    ++ failing (table && (bit (byteAt b 14) 0 != hasOwner l 1 || bit (byteAt b 14) 1 != hasOwner l 2)) 0x08

/-- Two entries of a list have the same value of `f`. -/
def repeats {α : Type} (f : α → Nat × Nat) : List α → Bool
  | [] => false
  | x :: t => t.any (fun y => decide (f y = f x)) || repeats f t

/-- Sections follow one another in the table's order without overlap (R172). -/
def inOrder : List ImgSect → Bool
  | x :: y :: t => decide (x.off < y.off) && decide (x.off + x.len ≤ y.off) && inOrder (y :: t)
  | _ => true

/-- Step 3: the section table (Table 5-3, R169 to R172). A nonzero reserved field counts as a version that is not
supported. DEDUCED (log entry 84). -/
def tableCodes (b : Bytes) : List Nat :=
  let n := field b 12 2
  let l := imgSects b
  let sig := min (field b 40 4) b.length
  if n = 0 ∨ 9 < n ∨ b.length < 64 + 16 * n then [0x10]
  else
    failing (l.any fun x => sectOwner x.typ = 0) 0x11
      ++ failing (l.any fun x => sectOwner x.typ ≠ x.owner) 0x12
      ++ failing (repeats (fun x => (x.typ, 0)) l) 0x13
      ++ failing (!inOrder l || l.any fun x => x.off % 64 ≠ 0 || decide (x.off < 64 + 16 * n) || decide (sig < x.off + x.len)) 0x14
      ++ failing (l.any fun x => x.version ≠ 1 || x.resv ≠ 0) 0x15

/-- A signer's coverage (R176): the header, the section table and the bytes of the sections it owns. DEDUCED (log entry 84). -/
def coverage (b : Bytes) (owner : Nat) : Bytes :=
  b.take (64 + 16 * field b 12 2) ++ ((imgSects b).filter (·.owner = owner)).flatMap (·.body)

/-- The key digest that an owner's entry must name: the active operator key, the admitted tenant's key (R178, R566).
DEDUCED (log entry 85). -/
def State.ownerKey (s : State) (owner : Nat) : Option Bytes :=
  if owner = 1 then s.sec.operatorKey else s.sec.tenant.map (·.key)

/-- Step 4: the signature block (Table 5-6, R175 to R178). With no tenant admitted a tenant's entry has no key to be held
against, and step 5 decides. DEDUCED (log entry 85). -/
def State.signatureCodes (s : State) (b : Bytes) : List Nat :=
  let x := b.drop (field b 40 4)
  let n := byteAt x 4
  let l := imgSects b
  let es := (List.range n).map fun i => slice x (8 + 200 * i) 200
  let bad := decide (b.length < field b 40 4) || decide (slice x 0 4 ≠ label "TYSG") || !within n 1 2 || !allZero (slice x 5 3)
    || x.length ≠ 8 + 200 * n || es.any (fun e => !within (byteAt e 0) 1 2 || !allZero (slice e 1 7))
    || (n = 2 && !(byteAt x 8 = 1 && byteAt x 208 = 2))
  if bad then [0x20]
  else
    failing (([1, 2] : List Nat).any fun o => hasOwner l o && !es.any fun e => byteAt e 0 = o) 0x21
      ++ failing (es.any fun e => !hasOwner l (byteAt e 0)) 0x22
      ++ es.flatMap fun e =>
        let o := byteAt e 0
        match s.ownerKey o with
        | none => failing (decide (o = 1)) 0x23
        | some k =>
          failing (decide (slice e 8 48 ≠ k)) 0x23
            ++ failing (decide (slice e 56 48 ≠ sha384 (coverage b o)) || !ecdsaVerifies k (slice e 0 104) (slice e 104 96)) 0x24

/-- Step 5 (R179, R180, Table 5-17): the refusal by status and DETAIL. `point` is the apply point, `f` the function.
DEDUCED (log entry 85). -/
def State.ownerRule (s : State) (b : Bytes) (f : Nat) (point : ApplyPoint) : Option (Nat × Nat) :=
  let l := imgSects b
  let tenant := l.filter (·.owner = 2)
  let vfOn := (List.range 16).any fun p => decide (0 < p) && s.struct.partEnabled p
  let pf0Ok := s.top.base = .opened || (tenant.all (·.typ = 0x10) && !vfOn)
  if tenant.isEmpty && f ≠ 0 then some (0x32, 0x02)
  else if !tenant.isEmpty && s.sec.tenant.isNone then some (0x30, 0x28)
  else if !tenant.isEmpty && f = 0 && !pf0Ok then some (0x30, 0x29)
  else if !tenant.isEmpty && point = .switch then some (0x30, 0x2A)
  else none

/-- The records of a section (R173); none when they do not fill it exactly. -/
def splitRecs : Nat → Bytes → Option (List Bytes)
  | 0, b => if b.isEmpty then some [] else none
  | n + 1, b =>
    if b.isEmpty then some []
    else
      let len := 8 * field b 2 2
      if len = 0 ∨ b.length < len then none else (splitRecs n (b.drop len)).map (b.take len :: ·)

/-- The records of a section of an image; none when they do not fill it or are not as many as the table says. -/
def ImgSect.records (x : ImgSect) : Option (List Bytes) :=
  match splitRecs x.body.length x.body with
  | some l => if l.length = x.count then some l else none
  | none => none

/-- The records of an image by the place of their section (Table 5-4). -/
def imgRecords (b : Bytes) : List (Nat × List Bytes) :=
  (imgSects b).map fun x => (sectIdx x.typ, (x.records).getD [])

/-- The singleton record of a section, by place (Table 5-4). -/
def singleton (sect : Nat) : Option Nat :=
  if sect = 0 then some 0x01 else if sect = 1 then some 0x10 else if sect = 5 then some 0x5F else none

/-- Step 6 as far as it judges records by themselves (R171, R173, R174, R182, R211, R271). A replacing section must hold its
singleton. DEDUCED (log entry 84). -/
def recordCodes (b : Bytes) (point : ApplyPoint) : List Nat :=
  let l := imgSects b
  if l.any fun x => x.records.isNone then [0x30]
  else
    l.flatMap fun x =>
      let i := sectIdx x.typ
      let rs := x.records.getD []
      rs.flatMap (recCodes i)
        ++ failing (match singleton i with
          | some k => point ≠ .frame && !rs.any fun r => byteAt r 0 = k && !isDelete r
          | none => false) 0x34
        ++ failing (repeats recKey rs) 0x35

end Sys2Proof.Machine
end

