-- ==== Sys2Proof/Machine/RouteOps.lean ====
section
/-! DEFINITION. The route sequencer's shared operations: route states, admission and skips (R216 to R227), dispatch
conditions and arbitration (R228 to R245), records of the route (R248 to R258), and stops (R259 to R266). -/

namespace Sys2Proof.Machine

/-- Route slot `r`. -/
def State.route (s : State) (r : Nat) : Route := (s.rsq.routes[r]?).getD {}

/-- Replace a route slot. -/
def State.setRoute (s : State) (r : Nat) (x : Route) : State :=
  { s with rsq := { s.rsq with routes := s.rsq.routes.setIfInBounds r x } }

/-- Number of a route state (Table 6-8). -/
def RouteSt.code : RouteSt → Nat
  | .empty => 0
  | .ready => 1
  | .starting => 2
  | .running => 3
  | .stopping => 4
  | .faulted => 5

/-- The gap timer as a route's state changes (R639): it starts when the route enters RUNNING, and stops when it leaves
RUNNING and STOPPING unless the route is safety-class while armed. -/
def State.gapTimer (s : State) (r : Nat) (st : RouteSt) : State :=
  let sc := s.struct.safetyClass r
  let g := (s.saf.gap[r]?).getD none
  if st = .running ∧ (s.struct.stale r).isSome = true ∧ g.isNone = true then
    { s with saf := { s.saf with gap := s.saf.gap.setIfInBounds r (some s.clk), gapClass := setBit s.saf.gapClass r sc } }
  else if st ≠ .running ∧ st ≠ .stopping ∧ !((sc || s.saf.gapClass.getLsbD r) && s.top.armed) = true then
    { s with saf := { s.saf with gap := s.saf.gap.setIfInBounds r none } }
  else s

/-- A change of STATE: partition event class 0 and a ledger entry (R266). -/
def State.setRouteSt (s : State) (r : Nat) (st : RouteSt) : State :=
  let x := s.route r
  if x.st = st then s
  else
    let p := s.struct.routePart r
    let s := s.setRoute r { x with st := st }
    let s := s.note (srcRoute r) (if st = .faulted then 4 else 0) 0x0200 p [r, x.st.code, st.code, x.fault]
    (s.event p 0 (srcRoute r)).gapTimer r st

/-! Frames. -/

/-- A frame is in flight until it retires or is abandoned (Admission). -/
def Frame.inFlight (f : Frame) : Bool := f.abandoned.isNone

/-- No node of it runs. -/
def Frame.idle (f : Frame) : Bool := f.nodes.all (·.st ≠ .running)

/-- All its nodes have ended. -/
def Frame.complete (f : Frame) : Bool := f.nodes.all (·.st = .ended)

/-- A frame is committed once a SEQUENCED node of it, or a node on a core, has been dispatched (Admission). -/
def Frame.committed (f : Frame) : Bool :=
  f.nodes.any fun n => n.st ≠ .waiting && (byteAt n.recd 8 = 1 || decide (0x080 ≤ n.engine))

/-- Skipped frames among the last 256 boundaries (R226). -/
def Route.ratio (x : Route) : Nat := (x.skips256.filter (·.2)).length

/-- The skip ratio lies above SKIP_ALARM (R226); 0 disables the alarm. -/
def alarmOn (alarm ratio : Nat) : Bool := decide (0 < alarm) && decide (alarm < ratio)

/-- Frames of a route in flight. -/
def Route.flight (x : Route) : Nat := (x.frames.filter Frame.inFlight).length

/-- The frame of a route with this ID. -/
def State.frame (s : State) (r id : Nat) : Option Frame := (s.route r).frames.find? (·.id = id)

/-- Change the frame with this ID. -/
def State.mapFrame (s : State) (r id : Nat) (g : Frame → Frame) : State :=
  let x := s.route r
  s.setRoute r { x with frames := x.frames.map fun f => if f.id = id then g f else f }

/-- The exposure start of a context's frame that belongs to a route frame (Table 6-5). -/
def State.exposureOf (s : State) (r id ctx : Nat) : Nat :=
  match s.frame r id with
  | some f => ((f.ctxs.find? (·.1 = ctx)).map (·.2.2)).getD f.exposure
  | none => 0

/-- The node of a frame with this number. -/
def Frame.nodeRun (f : Frame) (n : Nat) : Option NodeRun := f.nodes.find? (·.node = n)

/-- Change a node of a frame. -/
def Frame.mapNode (f : Frame) (n : Nat) (g : NodeRun → NodeRun) : Frame :=
  { f with nodes := f.nodes.map fun x => if x.node = n then g x else x }

/-- The anchor route: the lowest-numbered running safety-class route (R243). -/
def State.anchorRoute (s : State) : Option Nat :=
  (List.range 16).find? fun r => (s.route r).st = .running && s.struct.safetyClass r

/-! Records. -/

/-- The structure that governs a frame of a route (R199). -/
def State.structOf (s : State) (r id : Nat) : Struct :=
  match s.frame r id with
  | some f => s.frameStruct f
  | none => s.struct

/-- A stale record, or a gap, on a route that is not safety-class writes a ledger entry and raises partition event class 7
(R640). DESIGN CHOICE (log entry 92). -/
def State.noteStale (s : State) (r cause : Nat) : State :=
  let p := s.struct.routePart r
  (s.note srcSaf 0 0x0600 p [cause, s.saf.st.code]).event p 7 srcSaf

/-- A record of a route is published: R640 acts on a stale one; `t` is the structure of its frame. -/
def State.published (s : State) (t : Struct) (r typ addr len exposure : Nat) : State :=
  let s := s.emit (.published r typ addr len)
  if s.tooOld t r exposure && !t.safetyClass r then s.noteStale r 0x02 else s

/-- The 64 bytes of a FRAME_DONE (Tables 6-5, 6-7, R248, R254). DEDUCED (log entry 99). -/
def State.frameDoneBytes (s : State) (r : Nat) (f : Frame) (trigger status reason : Nat) : Bytes :=
  let now := s.gtcNs
  let skipped := decide (status = 0x40)
  let h : RecHdr :=
    { typ := 0x01, node := 0xFF, source := srcRoute r, route := r, frameId := f.id, exposure := f.exposure, publish := now
      flags := flagWord (s.staleNow (s.frameStruct f) r f.exposure) false f.poisoned skipped f.tastingFail false false, context := trigger }
  h.bytes 64 ++ leBytes 1 status ++ leBytes 1 reason ++ leBytes 1 (f.nodes.filter (·.st = .ended)).length ++ leBytes 1 f.late
    ++ leBytes 4 (if skipped then 0 else (now - f.start) / 1000) ++ leBytes 8 f.start ++ leBytes 8 f.missing ++ leBytes 8 0

/-- Publish a frame's FRAME_DONE in the DONE ring and, for a retired frame, in the slots of its stage sinks (R252, R253), and
hand it to SAF (R639). DEDUCED (log entry 99). -/
def State.frameDone (s : State) (r : Nat) (f : Frame) (status reason : Nat) : State :=
  let t := s.frameStruct f
  let rc := (t.route r).getD []
  let b := s.frameDoneBytes r f (byteAt rc 7) status reason
  let a := field rc 32 8 % 2 ^ 40 + f.id % max 1 (byteAt rc 20) * 64
  let sinks := f.nodes.filter fun n => !(t.edges r).any fun e => byteAt e 5 = n.node
  let tails := if status = 0x40 then [] else sinks.flatMap (·.tails)
  let old := s.tooOld t r f.exposure
  let s := (a :: tails).foldl (fun s a => s.put (t.routePart r) a b false) s
  let s := if (t.stale r).isSome then
      { s with saf := { s.saf with
        inbox := s.saf.inbox ++ [(r, frameDoneValid status (field b 24 2), s.gtcNs - f.exposure, old)] } }
    else s
  s.published t r 0x01 a 64 f.exposure

/-- A frame that has not retired by its deadline is counted once (R255, R257); by the deadline is at its instant or before. -/
def State.checkDeadline (s : State) (r : Nat) (f : Frame) : State :=
  let rc := ((s.frameStruct f).route r).getD []
  if !f.missed && f.inFlight && decide (f.start + field rc 12 4 * 1000 < s.gtcNs) then
    let x := s.route r
    let s := s.setRoute r { x with misses := satN 0xFFFFFFFF (x.misses + 1), telMisses := satN 0xFFFFFFFF (x.telMisses + 1) }
    (s.mapFrame r f.id fun f => { f with missed := true }).event (s.struct.routePart r) 2 (srcRoute r)
  else s

/-- The STATUS of a retired frame (R254). DEDUCED (log entry 99). -/
def Frame.status (f : Frame) : Nat :=
  if f.aborted then 0x12 else if f.poisoned then 0x20 else if f.uncorrected then 0x21 else if f.missed then 0x41 else 0x00

/-- A valid FRAME_DONE of the anchor route whose FRAME_ID is a multiple of EPOCH_FRAMES cuts an epoch on the active board of a
pair, and its copy starts (R649). DESIGN CHOICE (log entry 115). -/
def State.epochCut (s : State) (r : Nat) (f : Frame) (valid : Bool) : State :=
  let n := bits s.pair.ctl.toNat 31 16
  if s.pair.enabled && decide (s.pair.role = .active) && valid && decide (s.anchorRoute = some r) && f.id % max 1 n = 0 then
    { s with pair := { s.pair with copying := some (f.id, f.exposure) } }
  else s

/-- A frame retires (R252): its FRAME_DONE is published. -/
def State.retire (s : State) (r id : Nat) : State :=
  match s.frame r id with
  | none => s
  | some f0 =>
    let s := s.checkDeadline r f0
    let f := (s.frame r id).getD f0
    let x := s.route r
    let lat := (s.gtcNs - f.start) / 1000
    let s := s.setRoute r { x with
      frames := x.frames.filter (·.id ≠ id), lastRetired := BitVec.ofNat 32 f.id, lat := max x.lat lat, telLat := max x.telLat lat }
    let valid := frameDoneValid f.status (field (s.frameDoneBytes r f 0 f.status 0) 24 2)
    let s := s.frameDone r f f.status 0
    let s := if f.status = 0x20 ∨ f.status = 0x21 then s.event (s.struct.routePart r) 3 (srcRoute r) else s
    s.epochCut r f valid

/-! Stops. -/

/-- The commands in progress that `p` picks: function, queue, position. -/
def State.openCmds (s : State) (p : Nat → Cmd → Bool) : List (Nat × Nat × Nat) :=
  s.hif.queues.flatMap fun q =>
    (q.2.cmds.filter fun c => c.kind = .execute && c.begun && !c.fixed && p (q.1 / 64) c).map fun c => (q.1 / 64, q.1 % 64, c.pos)

/-- The source number of a command that ends before its work is done (R132): the partition's while it has not started, else that of the
block that executes it. DEDUCED (log entry 58). -/
def State.execSource (s : State) (f : Nat) (c : Cmd) : Nat :=
  if !c.begun then srcPart f
  else match c.outcome with
    | some o => o.2.2
    | none =>
      if c.opcode = 0x32 then s.msgSource c.target
      else if c.opcode = 0x20 ∨ c.opcode = 0x21 then srcRoute c.target
      else if c.opcode = 0x11 ∧ c.param 0 1 = 2 then srcRoute (c.param 1 1)
      else if c.opcode = 0x11 then srcMgt
      else srcPart f

/-- Fix several commands alike. -/
def State.fixAll (s : State) (l : List (Nat × Nat × Nat)) (status detail source : Nat) : State :=
  l.foldl (fun s x => s.fix x.1 x.2.1 x.2.2 status detail source) s

/-- Every FRAME apply of a route ends without applying (R205): its IMAGE_APPLY completes with this status. -/
def State.stopApply (s : State) (r status detail : Nat) : State :=
  (s.img.frameApplies r).foldl (fun s x => (s.endApply x.1).fix x.2.part x.2.queue x.2.pos status detail (srcRoute r)) s

/-- A route has stopped (R261 to R264, R430): its commands complete and its slot becomes READY, FAULTED or EMPTY.
DEDUCED (log entry 98). -/
def State.finishStop (s : State) (r : Nat) : State :=
  let x := s.route r
  let s := s.setRoute r { x with forced := false, faulting := false, decimating := none }
  let s := s.resetCasks r
  let s := s.setRouteSt r (if (s.struct.route r).isNone then .empty else if x.faulting then .faulted else .ready)
  let s := s.fixAll (s.openCmds fun _ c => c.opcode = 0x21 && c.target = r) 0x00 0 (srcRoute r)
  let s := s.fixAll (s.openCmds fun _ c => c.opcode = 0x20 && c.target = r) 0x12 r (srcRoute r)
  (s.stopApply r 0x12 r).releaseHeld r

/-- Retire the aborted frames of a forced stop whose running nodes have ended, in frame-ID order (R251, R262).
DEDUCED (log entry 98). -/
def State.retireAborted (s : State) (r : Nat) : Nat → State
  | 0 => s
  | n + 1 =>
    match (s.route r).frames.find? Frame.inFlight with
    | some f => if f.aborted && f.idle then (s.retire r f.id).retireAborted r n else s
    | none => s

/-- The frames that a stop waits for: at a boundary those in flight (R261), in a forced stop also the abandoned ones, whose nodes still
run (R262). DEDUCED (log entry 98). -/
def Route.drained (x : Route) : Bool := if x.forced then x.frames.isEmpty else !x.frames.any Frame.inFlight

/-- What follows when nodes have ended: abandoned frames publish their FRAME_DONE (R225), aborted frames retire (R262), and
a stopping route with no frame left to wait for has stopped (R261). -/
def State.drainRoute (s : State) (r : Nat) : State :=
  let s := ((s.route r).frames.filter fun f => f.abandoned.isSome && f.idle).foldl (fun s f =>
    let x := s.route r
    (s.setRoute r { x with frames := x.frames.filter (·.id ≠ f.id) }).frameDone r f 0x40 (f.abandoned.getD 0)) s
  let s := s.retireAborted r 64
  if (s.route r).st = .stopping ∧ (s.route r).drained = true then s.finishStop r else s

/-- Change every task of some frames: the running, the incoming and the preempted ones. -/
def State.mapTasks (s : State) (p : Task → Bool) (g : Task → Task) : State :=
  let h (t : Task) : Task := if p t then g t else t
  s.mapCores fun x => { x with task := x.task.map h, incoming := x.incoming.map h, saved := x.saved.map h }

/-- The neural tasks of frames stop at their next tile boundary (R223, R262); a preempted one stands at one. -/
def State.stopTasks (s : State) (p : Task → Bool) : State :=
  let s := s.mapCores fun x => { x with saved := x.saved.filter (!p ·) }
  (s.mapTasks p fun t => { t with stopAtTile := true }).settleWaits

/-- Change the node that each stage runs. -/
def State.mapJobs (s : State) (g : Nat → StageJob → StageJob) : State :=
  { s with stg := { s.stg with inst := s.stg.inst.mapIdx fun n i => { i with job := i.job.map (g n) } } }

/-- A frame is abandoned (R223): its place in flight is free at once, its records not yet published are discarded.
A stage node of it that waits for a context without a frame has no more to do. DEDUCED (log entry 99). -/
def State.abandon (s : State) (r id reason missing : Nat) : State :=
  let x := s.route r
  let al := ((s.struct.route r).map (byteAt · 11)).getD 0
  let y := { x with
    frames := x.frames.map (fun f => if f.id = id then { f with abandoned := some reason, missing := missing } else f)
    skips := satN 0xFFFFFFFF (x.skips + 1)
    skips256 := x.skips256.map (fun b => if b.1 = id then (id, true) else b) }
  let s := s.setRoute r y
  let s := s.stopTasks fun t => t.route = r && t.frame = id
  let have_ := (((s.frame r id).map (·.ctxs)).getD []).map (·.1)
  let cut (i : Nat) (j : StageJob) : Bool :=
    decide (reason = 4) && (List.range 2).any fun p => (portCtxs i p j.block).any fun c => !have_.contains c
  let s := s.mapJobs fun i j => if j.route = r ∧ j.frame = id then { j with discard := true, done := j.done || cut i j } else j
  let s := if alarmOn al y.ratio && !alarmOn al x.ratio then s.event (s.struct.routePart r) 1 (srcRoute r) else s
  s.drainRoute r

/-- The level of the most recent reset, which a lower one in progress beside it does not change (Table 1-12, R34).
DEDUCED (log entry 28). -/
def State.noteLevel (s : State) (level : BitVec 3) : State :=
  let higher := (decide (level < 3) && s.sec.switch.isSome) || (decide (level < 2) && s.hif.fns.toList.any fun f => !f.resetDone)
  if higher then s else { s with top := { s.top with lastReset := level } }

/-- A forced stop (R262, R263): all dispatch stops, every frame in flight will retire ABORTED_BY_STOP. DEDUCED (log entry 28). -/
def State.forceStop (s : State) (r : Nat) : State :=
  let x := s.route r
  if x.st = .starting ∨ x.st = .running ∨ x.st = .stopping then
    let s := s.setRoute r { x with
      forced := true, frames := x.frames.map (fun f => if f.inFlight then { f with aborted := true, swapDone := true } else f) }
    let s := (s.noteLevel 1).stopTasks fun t => t.route = r
    if x.frames = [] then s.finishStop r else (s.setRouteSt r .stopping).drainRoute r
  else s

/-- A stop at the next frame boundary (R261); a route with no frame in flight is stopped at once and is never STOPPING (Table 6-8).
DEDUCED (log entry 98). -/
def State.boundaryStop (s : State) (r : Nat) : State :=
  let x := s.route r
  let s' := s.noteLevel 1
  if x.st = .starting ∨ x.st = .running then
    if x.frames.any Frame.inFlight then (s'.setRouteSt r .stopping).drainRoute r else s'.finishStop r
  else s

/-- A route fault (R265): a forced stop that ends in FAULTED; on a safety-class route it is cause ROUTE_FAULT (Table
14-3). DEDUCED (log entry 98). -/
def State.faultRoute (s : State) (r code : Nat) : State :=
  let x := s.route r
  if x.st = .starting ∨ x.st = .running ∨ x.st = .stopping then
    let s := s.setRoute r { x with fault := code, faulting := true }
    let s := if s.struct.safetyClass r then s.latchCause 0x0C (srcRoute r) else s
    s.forceStop r
  else s

/-- Route slots follow the structure in force (Table 6-8): a slot whose ROUTE record is gone becomes EMPTY, one that gained
it READY; a running route that lost its record stops. DEDUCED (log entry 98). -/
def State.refreshRoutes (s : State) : State :=
  (List.range 16).foldl (fun s r =>
    let st := (s.route r).st
    if (s.struct.route r).isSome then (if st = .empty then s.setRouteSt r .ready else s)
    else if st = .ready ∨ st = .faulted then s.setRouteSt r .empty
    else if st = .empty then s
    else s.forceStop r) s

/-! Admission. -/

/-- The context of a route's CONTEXTS, other than TRIGGER. -/
def otherCtxs (rc : Bytes) : List Nat := (List.range 64).filter fun c => bit (field rc 24 8) c && decide (c ≠ byteAt rc 7)

/-- Whether two instants lie within the association window of 1 ms (R218). -/
def inWindow (a b : Nat) : Bool := decide (a ≤ b + 1000000) && decide (b ≤ a + 1000000)

/-- The nearest of a context's frame-start events inside the window, the earlier on a tie (R218). DEDUCED (log entry 97). -/
def nearest (start : Nat) (l : List (Nat × Nat × Nat)) : Option (Nat × Nat × Nat) :=
  let d (a : Nat × Nat × Nat) : Nat := Int.natAbs ((a.2.1 : Int) - start)
  minBy (fun a b => decide (d a < d b) || (d a = d b && decide (a.2.1 < b.2.1))) (l.filter fun a => inWindow a.2.1 start)

/-- What Table 6-2 and R220, R221 make of a boundary: admitted, or skipped with its reason; with the frame to abandon and the
decimation count that follows. -/
structure Admission where
  skip : Option Nat := none
  victim : Option Nat := none
  decimating : Option Nat := none
  deriving DecidableEq, Repr

/-- Decide the admission at a boundary (R220 to R222, R224, Table 6-2). DEDUCED (log entry 97). -/
def Route.decide_ (x : Route) (rc : Bytes) (id : Nat) : Admission :=
  let backlog := byteAt rc 8
  let n := x.flight
  let dec := match x.decimating with
    | some k => if n = 0 ∧ 64 ≤ k + 1 then none else some (k + 1)
    | none => none
  if dec.isSome then
    if id % max 1 (byteAt rc 10) ≠ 0 then { skip := some 3, decimating := dec }
    else if n < backlog then { decimating := dec }
    else { skip := some 1, decimating := dec }
  else if n < backlog then {}
  else if byteAt rc 9 = 2 then
    match (x.frames.filter Frame.inFlight).find? (!·.committed) with
    | some f => if n - 1 < backlog then { victim := some f.id } else { skip := some 1 }
    | none => { skip := some 1 }
  else if byteAt rc 9 = 3 then { skip := some 1, decimating := some 0 }
  else { skip := some 1 }

/-- The copy of an epoch that has not committed is abandoned when the next epoch frame that writes the same area is admitted
(R652). DESIGN CHOICE (log entry 115). -/
def State.epochAbandon (s : State) (r id : Nat) : State :=
  let n := max 1 (bits s.pair.ctl.toNat 31 16)
  match s.pair.copying with
  | some (e, _) =>
    if decide (s.anchorRoute = some r) && decide (id ≠ e) && id % n = 0 && (id / n) % 2 = (e / n) % 2 then
      { s with pair := { s.pair with copying := none } }
    else s
  | none => s

/-- Nodes of a new frame: those of the route, all waiting. -/
def freshNodes (t : Struct) (r : Nat) : List NodeRun := (t.nodes r).map fun x => { node := byteAt x 5 }

/-- At a frame boundary of its route each FRAME apply meets its window or misses it (R198, R201, R202, R204). -/
def State.openWindow (s : State) (r : Nat) : State :=
  (s.img.frameApplies r).foldl (fun s x =>
    let ok := x.2.validated && !s.applyBusy r x.2.staged
    { s with img := s.img.mapApply x.1 fun a => { a with window := some ok } }) s

/-- The structure that governs a boundary's frame: with the apply that comes in force there, or the one in force.
DEDUCED (log entry 95). -/
def State.boundaryStruct (s : State) (r : Nat) : Struct :=
  match (s.img.frameApplies r).find? (·.2.window = some true) with
  | some x => s.struct.merge x.2.staged
  | none => s.struct

/-- A frame boundary of a running route (R216, R220 to R227): the frame is admitted or skipped. DEDUCED (log entry 95). -/
def State.boundary (s : State) (r id start exposure : Nat) : State :=
  if (s.route r).st ≠ .starting ∧ (s.route r).st ≠ .running then s
  else
    let s := s.openWindow r
    let t := s.boundaryStruct r
    let rc := (t.route r).getD []
    let swap := s.img.atBoundary r
    let x := s.route r
    let x := if swap ∧ (s.struct.route r).map (byteAt · 9) ≠ some (byteAt rc 9) then { x with decimating := none } else x
    let d := x.decide_ rc id
    let p := s.struct.routePart r
    let al := byteAt rc 11
    match d.skip with
    | some reason =>
      let y := { x with
        decimating := d.decimating, skips := satN 0xFFFFFFFF (x.skips + 1), skips256 := ((id, true) :: x.skips256).take 256 }
      let s := s.setRoute r y
      let s := s.frameDone r { id := id, start := start, exposure := exposure, cfg := some t.sects } 0x40 reason
      if alarmOn al y.ratio && !alarmOn al x.ratio then s.event p 1 (srcRoute r) else s
    | none =>
      let s := s.setRoute r x
      let s := match d.victim with
        | some v => s.abandon r v 2 0
        | none => s
      let x := s.route r
      let ctxs := (otherCtxs rc).filterMap fun c =>
        (nearest start ((s.cin.ctxs[c]?).getD {}).recent).map fun a => (c, a.1, a.2.2)
      let f : Frame :=
        { id := id, start := start, exposure := exposure, ctxs := (byteAt rc 7, id, exposure) :: ctxs
          nodes := freshNodes t r, swapDone := !swap }
      let s := s.setRoute r { x with
        decimating := d.decimating, frames := x.frames ++ [f], lastAdmitted := BitVec.ofNat 32 id
        skips256 := ((id, false) :: x.skips256).take 256 }
      let s := s.epochAbandon r id
      let s := s.setRouteSt r .running
      s.fixAll (s.openCmds fun _ c => c.opcode = 0x20 && c.target = r) 0x00 0 (srcRoute r)

/-- A frame-start event of a context that is not TRIGGER joins the route frames within the window (R218).
DEDUCED (log entry 97). -/
def State.associate (s : State) (c id start exposure : Nat) : State :=
  (List.range 16).foldl (fun s r =>
    let x := s.route r
    let join (f : Frame) : Frame :=
      let rc := ((s.frameStruct f).route r).getD []
      if f.inFlight && (otherCtxs rc).contains c && !f.ctxs.any (·.1 = c) && inWindow start f.start then
        { f with ctxs := f.ctxs ++ [(c, id, exposure)] }
      else f
    s.setRoute r { x with frames := x.frames.map join }) s

/-- The slot cycle restarts at a frame-start event of the anchor route's TRIGGER context (R243). -/
def State.slotCycle (s : State) (c : Nat) : State :=
  match s.anchorRoute with
  | some r =>
    if (s.struct.route r).map (byteAt · 7) = some c then
      { s with rsq := { s.rsq with cycleAt := some s.gtcNs, anchor := r, openSlots := [] } }
    else s
  | none => s

/-- The frame-start event of a context acts on the routes (R216, R218, R243). -/
def State.frameStartEvent (s : State) (c id start exposure : Nat) : State :=
  let s := s.associate c id start exposure
  let s := (List.range 16).foldl (fun s r =>
    if (s.struct.route r).map (byteAt · 7) = some c then s.boundary r id start exposure else s) s
  s.slotCycle c

/-! Dispatch. -/

/-- The conditions of a CHAINED node on its predecessors (R228). -/
def predsMet (t : Struct) (r : Nat) (f : Frame) (n : Nat) : Bool :=
  (t.edges r).all fun e =>
    byteAt e 6 ≠ n ||
    match f.nodeRun (byteAt e 5) with
    | some m => if byteAt e 7 = 1 then decide (m.st ≠ .waiting) else decide (m.st = .ended)
    | none => true

/-- The node has ended in every earlier frame in flight, whose records come before its records of this frame (R250).
DEDUCED (log entry 160). -/
def Route.inOrder (x : Route) (id n : Nat) : Bool :=
  (x.frames.takeWhile (·.id ≠ id)).all fun g => !g.inFlight || g.nodes.all fun m => m.node ≠ n || m.st = .ended

/-- A node may be dispatched now as far as its route, its frame and its trigger go (R198, R200, R223, R228, R229, R250, R262). -/
def State.ready (s : State) (r : Nat) (f : Frame) (n : Nat) : Bool :=
  let x := s.route r
  let t := s.frameStruct f
  match t.node r n, f.nodeRun n with
  | some c, some m =>
    (x.st = .running || x.st = .stopping) && !x.forced && f.inFlight && !f.aborted && f.swapDone && m.st = .waiting &&
      x.inOrder f.id n && predsMet t r f n && (byteAt c 8 = 2 || decide (f.start + field c 12 4 * 1000 ≤ s.gtcNs))
  | _, _ => false

/-- The instants at which slots of an engine open in the running cycle, with their lengths and routes (R242, R243). -/
def State.slotsOn (s : State) (e : Nat) : List (Nat × Nat × Nat) :=
  match s.rsq.cycleAt with
  | some c =>
    ((List.range 16).filter fun r => (s.route r).st = .running && s.struct.safetyClass r).flatMap fun r =>
      ((s.slotRecs r).filter fun x => field x 6 2 = e).map fun x => (c + field x 8 4 * 1000, field x 12 4 * 1000, r)
  | none => []

/-- A reserved slot is open on an engine (R242). -/
def State.slotOpen (s : State) (e : Nat) : Bool :=
  (s.slotsOn e).any fun x => decide (x.1 ≤ s.gtcNs) && decide (s.gtcNs < x.1 + x.2.1)

/-- A route stands in its reserved slot on an engine (R242). -/
def State.inSlot (s : State) (r e : Nat) : Bool :=
  (s.slotsOn e).any fun x => x.2.2 = r && decide (x.1 ≤ s.gtcNs) && decide (s.gtcNs < x.1 + x.2.1)

/-- A node of a route that holds no slot on the engine must end before the next slot opens there (R244).
DEDUCED (log entry 97). -/
def State.slotGate (s : State) (r e budget : Nat) : Bool :=
  (s.slotRecs r).any (fun x => field x 6 2 = e) ||
    (s.slotsOn e).all fun x => decide (x.1 ≤ s.gtcNs) || decide (s.gtcNs + budget * 1000 < x.1)

/-- The engine can take a node of a frame: a stage that runs none, a core that runs none and holds no preempted task unless the
route stands in its slot there, or a core whose running task, of another frame, the open slot preempts (R245, R246). -/
def State.engineFree (s : State) (r id e : Nat) : Bool :=
  if e < 0x080 then ((s.stg.inst[e - 0x070]?).getD {}).job.isNone
  else
    let x := s.core (e - 0x080)
    match x.task with
    | none => x.saved.isEmpty || s.inSlot r e
    | some t => x.incoming.isNone && s.inSlot r e && !(t.route = r && t.frame = id)

/-- The time a partition has had on an engine outside reserved slots (R150). DESIGN CHOICE (log entry 159). -/
def State.served (s : State) (e p : Nat) : Nat := agetD s.rsq.service (16 * e + p) 0

/-- Partition `a` is served before another one, `b`, on an engine (R150): it has had the lower share of its weight; of equal shares the
lower number goes first. DESIGN CHOICE (log entry 159). -/
def State.goesFirst (s : State) (e a b : Nat) : Bool :=
  let t := s.struct
  let x := s.served e a * t.weight b
  let y := s.served e b * t.weight a
  decide (x < y) || (x = y && decide (a < b))

/-- No other ready node of the engine goes before this one (R242): a safety-class node inside its slot goes first; then the
partitions are served by R150; within a partition the earlier frame-start, then the lower route slot, then the lower node number.
DEDUCED (log entry 100). -/
def State.wins (s : State) (r : Nat) (f : Frame) (n e : Nat) : Bool :=
  let t := s.struct
  let mine := s.inSlot r e
  let p := t.routePart r
  (List.range 16).all fun r2 =>
    (s.route r2).frames.all fun f2 =>
      ((s.frameStruct f2).nodes r2).all fun c2 =>
        let n2 := byteAt c2 5
        let p2 := t.routePart r2
        let there := s.inSlot r2 e
        let before := if there = mine then (if p2 = p then decide ([f2.start, r2, n2] < [f.start, r, n]) else s.goesFirst e p2 p) else there
        field c2 6 2 ≠ e || !before || !s.ready r2 f2 n2 || !s.slotGate r2 e (field c2 16 4)

/-- The time from the dispatch of a node to its end counts for its partition, unless its route holds a slot on the engine (R150).
DESIGN CHOICE (log entry 159). -/
def State.chargeEngine (s : State) (r : Nat) (m : NodeRun) : State :=
  if (s.slotRecs r).any fun x => field x 6 2 = m.engine then s
  else
    let p := s.struct.routePart r
    { s with rsq := { s.rsq with service := aset s.rsq.service (16 * m.engine + p) (s.served m.engine p + (s.gtcNs - m.at_)) } }

/-- The node starts on its engine (R199, R362, R405). -/
def State.startNode (s : State) (r : Nat) (f : Frame) (c : Bytes) : State :=
  let t := s.frameStruct f
  let e := field c 6 2
  if e < 0x080 then
    let i := e - 0x070
    let n := byteAt c 5
    let block := ((t.stageParams e (byteAt c 9)).map (·.drop 8)).getD []
    let owner := 64 * r + n
    let key := keepKey i block
    let x := ((s.stg.inst[i]?).getD {}).mapKept (·.filter (Memo.serves owner key f.cfg.isSome))
    let job : StageJob :=
      { route := r, frame := f.id, node := n, start := f.start, block := block, startUs := field c 12 4
        budgetUs := field c 16 4, clk := s.clk
        pattern := if i = 7 then s.mem.read (field block 48 8 % 2 ^ 40) 1024 else []
        patternBad := i = 7 && s.mem.poisoned (field block 48 8 % 2 ^ 40) 1024
        ref := (x.stored ++ x.tables).find? (·.owner = owner)
        changed := s.keyChanged i r f.id n key }
    { s with stg := { s.stg with inst := s.stg.inst.setIfInBounds i { x with job := some job } } }
  else
    let k := e - 0x080
    let trigger := ((t.route r).map (byteAt · 7)).getD 0
    let (task, blob) := s.mkTask t k r (s.struct.routePart r) trigger f.id c
    s.startTask k task blob

/-- Dispatch a node of kind `trig` (1 SEQUENCED, 2 CHAINED) if R228 to R231, R242 and R244 allow it now: a late sequenced
dispatch is counted (R232); the first dispatch of the frame on a tasted engine runs the stimulus before (R632). -/
def State.dispatch (s : State) (r id n trig : Nat) : State :=
  match s.frame r id with
  | none => s
  | some f =>
    match (s.frameStruct f).node r n with
    | none => s
    | some c =>
      let e := field c 6 2
      let budget := field c 16 4
      if byteAt c 8 = trig && s.ready r f n && s.engineFree r id e && s.wins r f n e && s.slotGate r e budget then
        let late := decide (trig = 1) && decide (f.start + field c 12 4 * 1000 + 1000 < s.gtcNs)
        let taste := ((s.frameStruct f).tasting r e).isSome && !f.nodes.any fun m => m.st ≠ .waiting && decide (m.engine = e)
        let s := s.mapFrame r id fun f =>
          { f.mapNode n (fun m => { m with
              st := .running, engine := e, at_ := s.gtcNs, clk := s.clk, budget := budget, recd := c, tasting := taste }) with
            late := if late then satN 255 (f.late + 1) else f.late }
        let x := s.route r
        let s := s.setRoute r { x with late := if late then satN 0xFFFFFFFF (x.late + 1) else x.late }
        s.startNode r f c
      else s

/-- A tasting run is under way on an engine, before the node's own work (R632). -/
def State.tastingOn (s : State) (e : Nat) : Bool :=
  (List.range 16).any fun r => (s.route r).frames.any fun f => f.nodes.any fun m => m.tasting && decide (m.engine = e)

end Sys2Proof.Machine
end

