-- ==== Sys2Proof/Machine/PartOps.lean ====
section
/-! DEFINITION. A partition reset (level 2; R141, R164 to R166, Table 4-13), whoever starts it. -/

namespace Sys2Proof.Machine

/-- What a reset leaves to report of a fetched command (R129, R132, R164). -/
def State.abortedOf (s : State) (f : Nat) (c : Cmd) : Aborted :=
  { seq := c.seq, executed := decide (c.kind = .execute), source := s.execSource f c, noIrq := bit c.flags 0 }

/-- A queue when its partition's reset begins: it stops, and what it leaves unposted is recorded, behind what an earlier reset left
(R164, Table 4-13 steps 1 to 3). -/
def State.stoppedQueue (s : State) (f : Nat) (x : Queue) : Queue :=
  let l := x.aborts ++ x.cmds.map (s.abortedOf f)
  { x with
    enable := false, st := .disabled, cmds := [], aborts := l
    abortFirst := if x.aborts = [] then BitVec.ofNat 32 ((l.head?.map (·.seq)).getD x.abortFirst.toNat) else x.abortFirst
    abortCount := if x.aborts = [] then l.length else x.abortCount + x.cmds.length }

/-- A queue when the reset is done: at its reset values, but for the commands to report as aborted (R164, Table 4-13 step 4). -/
def Queue.cleared (x : Queue) : Queue :=
  { abortFirst := x.abortFirst, abortCount := x.abortCount, aborts := x.aborts, rung := x.rung, fetched := x.rung, posted := x.rung }

/-- An engine drops the work of a partition; a message that the dropped one had interrupted goes on (R156, R166, Table 4-13 step 2). -/
def Engine.drop (e : Engine) (p : Nat) : Engine :=
  let keep (j : Option Job) : Option Job := j.filter fun j => decide (j.part ≠ p)
  let e := { e with cur := keep e.cur, saved := keep e.saved, waiting := e.waiting.filter fun j => decide (j.part ≠ p) }
  if e.cur.isNone then { e with cur := e.saved, saved := none } else e

/-- The length of a MODEL_LOAD's destination, as far as its package has been read; else that of its package. -/
def State.loadLength (s : State) (f q : Nat) (c : Cmd) : Nat :=
  match s.sec.loading.find? fun y => decide (y.1 = f ∧ y.2.1 = q ∧ y.2.2.1 = c.pos) with
  | some y => y.2.2.2.len
  | none => ((s.sec.blobs.find? fun b => b.part = f && b.base = c.addr1).map (·.len)).getD c.length

/-- The destination of a command that is reported ABORTED_BY_RESET is undefined (R165). -/
def State.undefineCmd (s : State) (f q : Nat) (c : Cmd) : State :=
  if (c.opcode = 0x30 ∧ bit (c.param 0 1) 1 = false) ∨ c.opcode = 0x31 then s.undefine f c.addr1 c.length
  else if c.opcode = 0x40 then s.undefine f c.addr1 (s.loadLength f q c)
  else s

/-- The destinations of all of a partition's commands whose completions have not been posted (R165). -/
def State.undefineCmds (s : State) (f : Nat) : State :=
  (s.hif.queues.filter fun x => decide (x.1 / 64 = f)).foldl (fun s x =>
    (x.2.cmds.filter fun c => decide (c.kind = .execute)).foldl (fun s c => s.undefineCmd f (x.1 % 64) c) s) s

/-- Everything in flight for a partition's commands is dropped: its engine work, messages and gathers (Table 4-13). -/
def State.dropWork (s : State) (f : Nat) : State :=
  let s := s.undefineCmds f
  let mine (u : Unans) : Bool := (u.cmd.map fun c => decide (c.1 = f)).getD false
  let unans := (s.fab.unans.filter fun u => !(mine u && (u.msg.typ = 0x30 || u.msg.typ = 0x33))).map fun u =>
    if mine u then { u with cmd := none } else u
  { s with
    hif := { s.hif with
      dma := s.hif.dma.map (·.drop f), sealing := s.hif.sealing.map (·.drop f), message := s.hif.message.map (·.drop f) }
    fab := { s.fab with
      unans := unans, waitReq := s.fab.waitReq.filter fun x => !((x.2.map fun c => decide (c.1 = f)).getD false) }
    sec := { s.sec with
      gathers := s.sec.gathers.filter fun g => decide (g.part ≠ f), loading := s.sec.loading.filter fun x => decide (x.1 ≠ f) } }

/-- The applies a function asked for end without applying (R205): their slots keep their images. -/
def State.dropApplies (s : State) (p : Nat → Bool) : State :=
  (List.range 8).foldl (fun s n =>
    match (s.img.slots[n]?).bind (·.apply) with
    | some a => if p a.part then s.endApply n else s
    | none => s) s

/-- The registers of a function after its reset; the TDI's state is the caller's (R578 to R581). -/
def Fn.afterReset (f : Fn) (tdi : Tdi) (clk : Nat) : Fn :=
  { resetDone := false, flrAt := some clk, tdi := tdi, events := f.events.filter fun _ => false }

/-- A partition reset starts (Table 4-13 steps 1 to 3): its queues stop and record what they abort, its DMA and engine work ends,
its session and ring end, its applies end, and its routes are forced to stop. One in progress absorbs another, and a tenant switch in
progress absorbs it (R34). DEDUCED (log entry 27). -/
def State.partitionReset (s : State) (f : Nat) (tdi : Tdi) (cause : String) : State :=
  match s.hif.fns[f]? with
  | none => s
  | some x =>
    if f = 0 then s
    else if !x.resetDone || s.sec.switch.isSome then
      { s with hif := { s.hif with fns := s.hif.fns.setIfInBounds f { x with tdi := tdi } } }
    else
      let s := s.note srcMgt 0 0x0002 f [2, Config.eventCode cause, srcPart f]
      let s := (s.dropApplies (· = f)).dropWork f
      let queues := s.hif.queues.map fun q => if q.1 / 64 = f then (q.1, s.stoppedQueue f q.2) else q
      let s := { s with
        hif := { s.hif with queues := queues, fns := s.hif.fns.setIfInBounds f (x.afterReset tdi s.clk) }
        sec := { s.sec with doe := s.sec.doe.setIfInBounds f {} } }
      let s := s.noteLevel 2
      (List.range 16).foldl (fun s r => if bit (s.struct.partRoutes f) r then s.forceStop r else s) s

end Sys2Proof.Machine
end

