-- ==== Sys2Proof/Machine/ImgRules.lean ====
section
/-! DEFINITION. Steps 6 to 14 of the validation of a structure image (Table 5-8) as far as they judge the structure that would
be in force after the apply, with every pending apply taken into account (R183). -/

namespace Sys2Proof.Machine

/-- The records with which an image replaces sections: a DELETE record has no place there (R182). -/
def replacing (recs : List (Nat × List Bytes)) : List (Nat × List Bytes) := recs.map fun x => (x.1, x.2.filter (!isDelete ·))

/-- The structure with every other pending apply in it (R183): a staged FRAME apply is merged, a validated IMMEDIATE or SWITCH apply replaces
its sections. `slot` is the image slot whose own apply is judged. DEDUCED (log entry 87). -/
def State.pendingStruct (s : State) (slot : Nat) : Struct :=
  (s.img.slots.toList.zipIdx.filter (·.2 ≠ slot)).foldl (fun t x =>
    match x.1.apply with
    | some a =>
      if !a.validated then t
      else if a.point = .frame then t.merge a.staged
      else t.replace (replacing a.staged)
    | none => t) s.struct

/-- The structure that would be in force after an apply (R181 to R183). DEDUCED (log entry 87). -/
def State.resultOf (s : State) (recs : List (Nat × List Bytes)) (point : ApplyPoint) (slot : Nat) : Struct :=
  if point = .frame then (s.pendingStruct slot).merge recs else (s.pendingStruct slot).replace (replacing recs)

/-- ECC is on in a structure: off only where BOARD_CORE.MEM.ECC_OFF says so. -/
def Struct.eccOn (t : Struct) : Bool := !bit (t.boardField 5 1) 0

/-- The first byte beyond usable board memory in a structure (R30). -/
def Struct.top (t : Struct) : Nat := if t.eccOn then 240 * 2 ^ 30 else 256 * 2 ^ 30

/-- Two ranges of addresses share a byte. -/
def overlap (a n b m : Nat) : Bool := decide (0 < n) && decide (0 < m) && decide (a < b + m) && decide (b < a + n)

/-- Two different elements of a list stand in a relation. -/
def anyPair {α : Type} (p : α → α → Bool) : List α → Bool
  | [] => false
  | x :: t => t.any (fun y => p x y) || anyPair p t

/-! Sizes of a stage's records (R252, R316, R395). -/

/-- Tiles across and down of a plane. -/
def tilesOf (w h : Nat) : Nat × Nat := ((w + 31) / 32, (h + 31) / 32)

/-- Bytes of an overlay at the largest size that REFINE_BUDGET allows, and of the tile status map after it (R395). -/
def mashBytes (entry budget : Nat) (t : Nat × Nat) : Nat := up64 (64 + entry * min budget (t.1 * t.2)) + up64 (64 + t.1 * t.2)

/-- The detector block whose lists a matcher block reads: its OUTDESC begins at CUR_DESC and its contexts hold CTX. -/
def Struct.listSource (t : Struct) (b : Bytes) : Option Bytes :=
  ((t.all 0x60).filter fun r => field r 4 2 = 0x077).map (·.drop 8) |>.find? fun d =>
    field d 32 8 = field b 16 8 && (List.range (min 8 (byteAt d 0))).any fun i => byteAt d (16 + i) = byteAt b 0

/-- The bytes one frame writes into a slot of each OUTDESC of a block: offset of the OUTDESC and bytes, without the records
that only refining writes (Tables 8-3, 8-4, 9-5). -/
def Struct.slotNeed (t : Struct) (stage : Nat) (b : Bytes) : List (Nat × Nat) :=
  let w := field b 4 2
  let h := field b 6 2
  if stage = 0x070 then
    (List.range 4).map fun n =>
      let bytes := byteAt b (16 + n)
      let planes := ((List.range (byteAt b 1)).filter fun k => bit (field b (8 + 2 * n) 2) k).map fun k =>
        up64 (levelSize w k * bytes) * levelSize h k
      (40 + 16 * n, if bytes = 0 then 0 else byteAt b 0 * (64 + planes.sum))
  else if stage = 0x071 ∨ stage = 0x072 then
    [(16, ((List.range (byteAt b 0)).map fun i =>
      64 + up64 (field b (40 + 40 * i) 2 * byteAt b 2) * field b (42 + 40 * i) 2).sum)]
  else if stage = 0x073 ∨ stage = 0x074 then
    let g := tilesOf w h
    [(24, 64 + up64 (2 * w) * h + up64 w * h + up64 (2 * g.1) * g.2)]
  else if stage = 0x075 ∨ stage = 0x076 then
    let w := levelSize w (byteAt b 9)
    let h := levelSize h (byteAt b 9)
    let g := tilesOf w h
    [(32, 64 + up64 (4 * w) * h + up64 w * h + up64 (2 * g.1) * g.2)]
  else if stage = 0x077 then [(32, byteAt b 0 * (64 + 64 * field b 12 4))]
  else if stage = 0x078 then
    match t.listSource b with
    | some d =>
      let g := tilesOf (field d 4 2) (field d 6 2)
      [(48, up64 (64 + 8 * field d 12 4) + up64 (2 * g.1) * g.2)]
    | none => []
  else [(64, 64 + 32 * field b 8 2)]

/-- FLAGS.REFINE of a stage's block. -/
def refines (stage : Nat) (b : Bytes) : Bool :=
  if stage = 0x073 ∨ stage = 0x074 then bit (byteAt b 18) 1
  else if stage = 0x075 ∨ stage = 0x076 then bit (byteAt b 13) 0
  else if stage = 0x078 then bit (byteAt b 3) 1
  else false

/-- The bytes the refine pass adds to a slot (R395). -/
def Struct.refineNeed (t : Struct) (stage : Nat) (b : Bytes) (budget : Nat) : Nat :=
  if !refines stage b then 0
  else if stage = 0x073 ∨ stage = 0x074 then mashBytes 3136 budget (tilesOf (field b 4 2) (field b 6 2))
  else if stage = 0x078 then
    match t.listSource b with
    | some d => mashBytes (64 + up64 (16 * byteAt d 10)) budget (tilesOf (field d 4 2) (field d 6 2))
    | none => 0
  else mashBytes 5184 budget (tilesOf (levelSize (field b 4 2) (byteAt b 9)) (levelSize (field b 6 2) (byteAt b 9)))

/-- A STRIDE is too small for `more` bytes beside the records of a frame. -/
def Struct.strideShort (t : Struct) (stage : Nat) (b : Bytes) (more : Nat) : Bool :=
  (t.slotNeed stage b).any fun x => !descZero b x.1 && decide (field b (x.1 + 8) 4 < x.2 + more)

/-- The parameter block a node names; none where its length or version is wrong, which STAGE_BLOCK reports (0x36). -/
def Struct.blockOf (t : Struct) (node : Bytes) : Option Bytes :=
  ((t.stageParams (field node 6 2) (byteAt node 9)).filter recBlockOk).map (·.drop 8)

/-- The place of OUTDESC in a refining stage's block. -/
def descAt (stage : Nat) : Nat := if within stage 0x073 0x074 then 24 else if within stage 0x075 0x076 then 32 else 48

/-- A node's block has a STRIDE too small for what the node writes into a slot, or refines with no OUTDESC (R252, R316,
R395). -/
def Struct.nodeShort (t : Struct) (node : Bytes) : Bool :=
  let e := field node 6 2
  match t.blockOf node with
  | some b =>
    let r := byteAt node 4
    let budget := ((t.route r).map (field · 16 2)).getD 0
    let sink := !(t.edges r).any fun x => byteAt x 5 = byteAt node 5
    (refines e b && descZero b (descAt e)) || t.strideShort e b (t.refineNeed e b budget + 64 * b2n sink)
  | none => false

/-- Step 6 as far as it needs the structure that results: missing singletons (R171), contexts of one port, channel and type
(R271), STRIDEs (R316) and refining nodes without OUTDESC (R395). DEDUCED (log entry 86). -/
def Struct.fieldCodes (t : Struct) : List Nat :=
  failing ((t.all 0x60).any (fun r => recBlockOk r && t.strideShort (field r 4 2) (r.drop 8) 0) || (t.all 0x51).any t.nodeShort) 0x32
    ++ failing ((List.range 9).any fun i => match singleton i with
      | some k => t.has i && (t.all k).isEmpty
      | none => false) 0x34
    ++ failing (repeats (fun r => (field r 5 2, byteAt r 7)) (t.all 0x71)) 0x35

/-! Step 7: counts. -/

/-- A program blob's header has the form of Table 10-7 (R448), reserved bytes zero (R11). DESIGN CHOICE (log entry 157). -/
def blobFormed (h : Bytes) : Bool :=
  decide (slice h 0 4 = label "TYNP") && field h 4 2 = 1 && within (byteAt h 6) 0 3 && byteAt h 7 = 0 && field h 8 4 = 64 &&
    field h 12 4 % 8 = 0 && decide (field h 12 4 ≤ 65536) && field h 22 2 = 0 && allZero (slice h 28 36)

/-- A model record that a PROGRAM's blob matches (R594); a malformed blob is no program (R11, R448).
DESIGN CHOICE (log entry 157). -/
def State.blobKnown (s : State) (r : Bytes) : Bool :=
  (s.sec.blobs.any fun b =>
    b.part = byteAt r 5 && b.base % 2 ^ 40 = field r 8 8 && b.len = field r 16 8 && decide (b.digest = slice r 24 48)) &&
    blobFormed (s.mem.read (field r 8 8) 64)

/-- The header of the blob of a node's program on a core (Table 10-7), when that blob is a loaded model's. -/
def State.blobHeader (s : State) (t : Struct) (node : Bytes) : Option Bytes :=
  match t.program (byteAt node 9) with
  | some p => if isCore (field node 6 2) && s.blobKnown p then some (s.mem.read (field p 8 8) 64) else none
  | none => none

/-- A core node's program does not fit its task region (R449). DEDUCED (log entry 86). -/
def State.regionShort (s : State) (t : Struct) (node : Bytes) : Bool :=
  match s.blobHeader t node with
  | some h =>
    match t.taskRegion (field node 6 2 - 0x080) (byteAt h 6) with
    | some r => decide (field r 12 4 - field r 8 4 < (field h 12 4 + 511) / 512 * 512 + field h 16 4)
    | none => false
  | none => false

/-- The sum of a field over records. -/
def sumField (l : List Bytes) (o n : Nat) : Nat := (l.map (field · o n)).sum

/-- The tracker blocks that a route's nodes name have too many tracks (R385). -/
def Struct.tracksOver (t : Struct) (r : Nat) : Bool :=
  let ps := (((t.nodes r).filter fun x => field x 6 2 = 0x079).map (byteAt · 9)).foldl nset []
  decide (32768 < (ps.map fun p => ((t.stageParams 0x079 p).map fun x => field x 16 2).getD 0).sum)

/-- Step 7 (Table 5-5, R174, R279, R310, R366, R385, R449; shares of Table 5-17). DEDUCED (log entry 83). -/
def State.countCodes (s : State) (t : Struct) : List Nat :=
  let blocks (e : Nat) : List Bytes := ((t.all 0x60).filter fun r => field r 4 2 = e).map (·.drop 8)
  let wrp := (blocks 0x071 ++ blocks 0x072).any fun b =>
    decide (4194304 < ((List.range (byteAt b 0)).map fun i => field b (44 + 40 * i) 2 * field b (36 + 40 * i) 2 * 2).sum)
  let det := (blocks 0x077).any fun b =>
    decide (3145728 < byteAt b 0 * (48 * up64 (field b 4 2) * 2)) || decide (65536 < byteAt b 0 * field b 12 4)
  let on := (t.all 0x20).filter fun r => bit (byteAt r 5) 0
  failing (decide (1024 < (t.all 0x12).length)
      || (List.range 16).any (fun r => decide (256 < (t.edges r).length) || t.tracksOver r)
      || (t.all 0x50).any (fun r => (t.nodes (byteAt r 4)).length ≠ byteAt r 6)
      || (List.range 4).any (fun p => decide (16 < ((t.all 0x71).filter fun c => byteAt c 8 = p).length))
      || wrp || det || (t.all 0x51).any (s.regionShort t)) 0x40
    ++ failing (decide (256 < sumField on 8 1) || decide (256 < sumField on 9 1) || decide (64 * 2 ^ 30 < sumField (t.all 0x22) 16 8)) 0x48

/-! Steps 8 and 9. -/

/-- Step 8: overlaps (R463, R464, R476). -/
def Struct.overlapCodes (t : Struct) : List Nat :=
  let parts := t.all 0x20
  let exports := t.all 0x22
  let regs := t.all 0x21
  let ls := (t.all 0x31).map (fun r => (byteAt r 4, field r 8 4, field r 12 4 - field r 8 4))
    ++ (t.all 0x32).map fun r => (byteAt r 4, field r 8 4, field r 12 4)
  failing (parts.any (fun r => decide (t.top < field r 16 8 + field r 24 8))
      || anyPair (fun a b => overlap (field a 16 8) (field a 24 8) (field b 16 8) (field b 24 8)) parts
      || exports.any fun e => !t.inPart (byteAt e 5) (field e 8 8) (field e 16 8)) 0x41
    ++ failing (regs.any (fun r => !exports.isEmpty && decide (bits (field r 10 2) 15 14 ≠ 0))
      || anyPair (fun a b =>
        (decide (field a 8 2 &&& field b 8 2 ≠ 0) && decide (field a 10 2 &&& field b 10 2 ≠ 0))
          || (byteAt a 5 = byteAt b 5 && overlap (field a 16 8) (field a 24 8) (field b 16 8) (field b 24 8))) regs) 0x42
    ++ failing (anyPair (fun a b => a.1 = b.1 && overlap a.2.1 a.2.2 b.2.1 b.2.2) ls) 0x43

/-- The engines that can be reached from a list of engines over links, in so many rounds. -/
def reachOver (links : List (Nat × Nat)) : Nat → List Nat → List Nat
  | 0, l => l
  | n + 1, l => reachOver links n ((links.filter fun x => l.contains x.1).foldl (fun l x => nset l x.2) l)

/-- Step 9: the stream switch (Table 6-4, Table 5-17). -/
def Struct.streamCodes (t : Struct) : List Nat :=
  let cs := t.all 0x40
  let links := (cs.filter fun c => !bit (byteAt c 7) 0).filterMap fun c =>
    match srcEngine (byteAt c 4), dstStage (byteAt c 5) with
    | some a, some b => some (a, b)
    | _, _ => none
  failing (cs.any (fun c => bit (byteAt c 7) 0 != (caskPort (byteAt c 5) || writerPort (byteAt c 5)))
      || (List.range 48).any fun p => decide (4 < (cs.filter fun c => byteAt c 4 = p).length)) 0x44
    ++ failing (links.any fun x => (reachOver links 10 [x.2]).contains x.1) 0x45

/-! Step 10: references and ownership. -/

/-- The contexts that a stage's block names. -/
def blockCtxs (stage : Nat) (b : Bytes) : List Nat :=
  let l (o : Nat) : List Nat := (List.range (byteAt b 0)).map fun i => byteAt b (o + i)
  if stage = 0x070 then l 24
  else if stage = 0x071 ∨ stage = 0x072 then (List.range (byteAt b 0)).map fun i => byteAt b (32 + 40 * i)
  else if stage = 0x073 ∨ stage = 0x074 then [byteAt b 0, byteAt b 1]
  else if within stage 0x075 0x076 || stage = 0x078 then byteAt b 0 :: (if byteAt b 1 = 1 then [byteAt b 2] else [])
  else if stage = 0x077 then l 16
  else l 12

/-- The range of an OUTDESC. -/
def descRange (b : Bytes) (o : Nat) : Nat × Nat := (field b o 8, field b (o + 8) 4 * byteAt b (o + 12))

/-- The memory a stage's block names: domain address and bytes (R315, Table 9-4). -/
def blockRanges (stage : Nat) (b : Bytes) : List (Nat × Nat) :=
  let ds (l : List Nat) : List (Nat × Nat) := (l.filter fun o => !descZero b o).map (descRange b)
  if stage = 0x070 then ds [40, 56, 72, 88]
  else if stage = 0x071 ∨ stage = 0x072 then
    ds [16] ++ (List.range (byteAt b 0)).map fun i =>
      let o := 32 + 40 * i
      let step := 2 ^ byteAt b (o + 2)
      (field b (o + 16) 8, field b (o + 24) 4 * ((field b (o + 10) 2 - 1 + step - 1) / step + 1))
  else if stage = 0x073 ∨ stage = 0x074 then ds [24] ++ if bit (byteAt b 18) 1 then [(field b 40 8, field b 48 4)] else []
  else if stage = 0x075 ∨ stage = 0x076 then ds [32] ++ [(field b 16 8, field b 24 4)]
  else if stage = 0x077 then ds [32] ++ [(field b 48 8, 1024)]
  else if stage = 0x078 then ds [16, 32, 48]
  else ds [32, 48, 64] ++ [(field b 24 8, 2 * field b 8 2 * 256)]

/-- A domain range lies in a partition's board memory or in one of its PINNED regions, on this board (R253, R315, R472). -/
def Struct.owned (t : Struct) (p addr n : Nat) : Bool :=
  addr / 2 ^ 40 = t.boardId && (t.inPart p (addr % 2 ^ 40) n || t.inPinned p (addr % 2 ^ 40) n)

/-- The partition whose ROUTE_MASK holds a route; none when no mask or several hold it. -/
def Struct.maskPart (t : Struct) (r : Nat) : Option Nat :=
  match (t.all 0x20).filter fun x => bit (field x 10 2) r with
  | [x] => some (byteAt x 4)
  | _ => none

/-- The contexts of a route: TRIGGER and those of CONTEXTS. -/
def routeCtxs (rc : Bytes) : List Nat := byteAt rc 7 :: otherCtxs rc

/-- A STREAMED edge names a fitting connection (R236). -/
def Struct.edgeOk (t : Struct) (e fr to_ : Bytes) : Bool :=
  match t.connection (byteAt e 8) with
  | some c =>
    let d := byteAt c 5
    byteAt c 6 = byteAt e 4 && srcEngine (byteAt c 4) = some (field fr 6 2) &&
      (dstStage d = some (field to_ 6 2) || (caskPort d && field to_ 6 2 = 0x080 + byteAt c 8) || writerPort d)
  | none => false

/-- A current port connection of FLO lacks levels that a block needs (R345). -/
def Struct.floLacks (t : Struct) (c : Bytes) : Bool :=
  let fe := if byteAt c 5 = 7 then 0x075 else 0x076
  (byteAt c 5 = 7 || byteAt c 5 = 9) && within (byteAt c 4) 8 11 &&
    (t.nodes (byteAt c 6)).any fun p => field p 6 2 = 0x070 &&
      (t.nodes (byteAt c 6)).any fun f => field f 6 2 = fe &&
        match t.blockOf p, t.blockOf f with
        | some pb, some fb =>
          (List.range (byteAt fb 8)).any fun k => decide (byteAt fb 9 ≤ k) && !bit (field pb (8 + 2 * (byteAt c 4 - 8)) 2) k
        | _, _ => false

/-- What a structure refers to and lacks (REFERENCE, R236, R345, R449). -/
def State.refMissing (s : State) (t : Struct) : Bool :=
  let noCtx (c : Nat) : Bool := (t.context c).isNone
  (t.all 0x71).any (fun c => (t.port (byteAt c 5)).isNone || (t.pipeParams (byteAt c 9)).isNone)
    || (t.all 0x50).any (fun r => (routeCtxs r).any noCtx)
    || (t.all 0x60).any (fun r => (blockCtxs (field r 4 2) (r.drop 8)).any noCtx)
    || (t.all 0x51).any (fun n => (t.route (byteAt n 4)).isNone ||
        if isStage (field n 6 2) then (t.blockOf n).isNone
        else (t.program (byteAt n 9)).isNone || match s.blobHeader t n with
          | some h => (t.taskRegion (field n 6 2 - 0x080) (byteAt h 6)).isNone
          | none => false)
    || (t.all 0x52).any (fun e => (t.route (byteAt e 4)).isNone ||
        match t.node (byteAt e 4) (byteAt e 5), t.node (byteAt e 4) (byteAt e 6) with
        | some fr, some to_ => byteAt e 7 = 1 && !t.edgeOk e fr to_
        | _, _ => true)
    || (t.all 0x40).any (fun c => t.floLacks c ||
        (caskPort (byteAt c 5) && ((t.cask (byteAt c 8) (byteAt c 9)).map (byteAt · 6)) ≠ some 1))
    || (t.all 0x31 ++ t.all 0x32).any fun x => (t.coreLs (byteAt x 4)).isNone

/-- What a structure uses outside its ownership (OWNERSHIP, R253, R315, R463). DEDUCED (log entry 86). -/
def Struct.ownerBroken (t : Struct) : Bool :=
  (t.all 0x50).any (fun r =>
      match t.maskPart (byteAt r 4) with
      | some p => !t.owned p (field r 32 8) (64 * byteAt r 20)
      | none => true)
    || (t.all 0x51).any (fun n =>
        let r := byteAt n 4
        let e := field n 6 2
        if isStage e then
          match t.blockOf n with
          | some b =>
            let cs := ((t.route r).map routeCtxs).getD []
            (blockCtxs e b).any (fun c => !cs.contains c) ||
              match t.maskPart r with
              | some p => (blockRanges e b).any fun x => decide (0 < x.2) && !t.owned p x.1 x.2
              | none => false
          | none => false
        else (t.coreLs (e - 0x080)).map (byteAt · 6) ≠ some r)
    || (t.all 0x40).any (fun c => caskPort (byteAt c 5) && (t.coreLs (byteAt c 8)).map (byteAt · 6) ≠ some (byteAt c 6))
    || (t.all 0x80).any (fun p => decide (t.top < field p 8 8 + field p 16 8))
    || (t.all 0x21).any fun x =>
        let a := field x 16 8
        let n := field x 24 8
        if byteAt x 5 = 2 then !(decide (pinnedBase ≤ a) && decide (a + n ≤ pinnedBase + 64 * 2 ^ 20))
        else a / 2 ^ 40 = t.boardId && decide (t.top < a % 2 ^ 40 + n)

/-- Step 10. DEDUCED (log entry 86). -/
def State.referenceCodes (s : State) (t : Struct) : List Nat :=
  failing (s.refMissing t) 0x46 ++ failing t.ownerBroken 0x47

/-! Step 11: safety, memory and profile rules. -/

/-- The slots on engine `e` overlap or take more than 90 % of the slot cycle. -/
def Struct.slotsBad (t : Struct) (e : Nat) : Bool :=
  let l := (t.all 0x53).filter fun x => field x 6 2 = e
  anyPair (fun a b => overlap (field a 8 4) (field a 12 4) (field b 8 4) (field b 12 4)) l || decide (9 * t.slotCycle < 10 * sumField l 12 4)

/-- The outputs that arming needs are enabled: SAFE_OK, CAN_A or CAN_B, and SAFE_OFF_N under POWER_OFF (0x53). -/
def outputsOk (out state : Nat) : Bool := bit out 0 && (bit out 2 || bit out 3) && (state ≠ 2 || bit out 1)

/-- A record of a kind that the image itself carries. -/
def imgRec (recs : List (Nat × List Bytes)) (kind : Nat) : Option Bytes :=
  (recs.flatMap (·.2)).find? fun r => byteAt r 0 = kind && !isDelete r

/-- The image carries a SAFETY section that arms. DEDUCED (log entry 88). -/
def arming (recs : List (Nat × List Bytes)) : Bool := decide ((imgRec recs 0x10).map (byteAt · 4) = some 1)

/-- The first check of step 11, safety (R3, R29, R81, R97, Table 5-17). ECC_REQUIRED counts among the safety rules.
DEDUCED (log entry 83). -/
def State.safetyCodes (s : State) (t : Struct) (recs : List (Nat × List Bytes)) : List Nat :=
  let board := imgRec recs 0x01
  let out := (board.map (field · 8 4)).getD 0
  let arms := arming recs
  let state := (t.safetyCore.map (byteAt · 5)).getD 0
  let withdrawn := match board, s.struct.boardCore with
    | some n, some o => (List.range 4).any fun i => bit (field o 8 4) i && !bit (field n 8 4) i
    | some n, none => match s.struct.safetyCore with
      | some x => !outputsOk (field n 8 4) (byteAt x 5)
      | none => false
    | none, _ => false
  failing ((t.all 0x51).any fun n => t.safetyClass (byteAt n 4) && isCore (field n 6 2) &&
      decide ((t.coreLs (field n 6 2 - 0x080)).map (byteAt · 5) = some 2)) 0x50
    ++ failing ((t.all 0x53).any (fun x => !t.safetyClass (byteAt x 4) || decide (t.slotCycle < field x 8 4 + field x 12 4))
      || (List.range 0x0C0).any t.slotsBad) 0x51
    ++ failing (!t.eccOn && (s.top.base = .confidential || s.top.armed || arms)) 0x52
    ++ failing ((arms && !outputsOk (t.boardField 8 4) state) || (s.top.armed && withdrawn)) 0x53
    ++ failing (s.fw.safRomOnly && (arms || out % 16 ≠ 0)) 0x54

/-- The second check of step 11, memory (Table 5-17). DEDUCED (log entry 83). -/
def State.memoryCodes (s : State) (t : Struct) (recs : List (Nat × List Bytes)) (point : ApplyPoint) : List Nat :=
  failing ((imgRec recs 0x01).isSome && t.eccOn != s.top.eccOn && (point ≠ .immediate || s.sec.tenant.isSome)) 0x56

/-- The third check of step 11, the profile (R3, Table 5-17). DEDUCED (log entry 83). -/
def State.profileCodes (s : State) (t : Struct) : List Nat := failing (!s.top.variantK && t.profile = .rack) 0x55

/-! Step 12: apply-point rules. -/

/-- Whether a record of a FRAME apply for route `r` lies in its scope (Table 5-7, R195): `now` is the structure in force,
`t` the one that results. -/
def inScope (now t : Struct) (operator : Bool) (r : Nat) (x : Bytes) : Bool :=
  let k := byteAt x 0
  if k = 0x50 ∨ k = 0x51 ∨ k = 0x52 ∨ k = 0x53 ∨ k = 0x11 then byteAt x 4 = r
  else if k = 0x12 then byteAt x 6 = r
  else if k = 0x40 then
    let old := now.connection (byteAt x 5)
    let was := (old.map fun c => decide (byteAt c 6 = r)).getD true
    was && (isDelete x || byteAt x 6 = r)
  else if k = 0x30 ∨ k = 0x31 ∨ k = 0x32 then
    let before := now.coreRoute (byteAt x 4)
    let joins := before = none && t.coreRoute (byteAt x 4) = some r
    if isDelete x then before = some r || (k ≠ 0x30 && joins) else (before = some r && t.coreRoute (byteAt x 4) = some r) || joins
  else if k = 0x60 then
    ([now, t] : List Struct).all fun u =>
      !(u.all 0x51).any fun n => field n 6 2 = field x 4 2 && byteAt n 9 = byteAt x 6 && byteAt n 4 ≠ r
  else if k = 0x80 then
    ([now, t] : List Struct).all fun u =>
      !(u.all 0x51).any fun n => isCore (field n 6 2) && byteAt n 9 = byteAt x 4 && byteAt n 4 ≠ r
  else if k = 0x72 then
    ((t.all 0x71).filter fun c => byteAt c 9 = byteAt x 4).all fun c =>
      (t.route r).isSome && (t.all 0x50).all fun o => bit (field o 24 8) (byteAt c 4) = decide (byteAt o 4 = r)
  else if k = 0x03 then decide (byteAt x 4 < 8) && operator
  else false

/-- What records claim (R197): kind of resource (0 a core, 1 a destination port, 2 local store), number, base, size. `all`
counts cores and ports already in force too, as a record held for release does (R203). -/
def claims (now : Struct) (all : Bool) (recs : List Bytes) : List (Nat × Nat × Nat × Nat) :=
  (recs.filter (!isDelete ·)).filterMap fun x =>
    let k := byteAt x 0
    if k = 0x30 then (if all || ((now.coreRoute (byteAt x 4)).isNone && byteAt x 6 ≠ 0xFF) then some (0, byteAt x 4, 0, 1) else none)
    else if k = 0x40 then (if all || (now.connection (byteAt x 5)).isNone then some (1, byteAt x 5, 0, 1) else none)
    else if k = 0x31 then some (2, byteAt x 4, field x 8 4, field x 12 4 - field x 8 4)
    else if k = 0x32 then some (2, byteAt x 4, field x 8 4, field x 12 4)
    else none

/-- Two lists of claims clash. -/
def claimsClash (a b : List (Nat × Nat × Nat × Nat)) : Bool :=
  a.any fun x => b.any fun y => x.1 = y.1 && x.2.1 = y.2.1 && overlap x.2.2.1 x.2.2.2 y.2.2.1 y.2.2.2

/-- A FRAME apply claims what another route's pending apply or a deferred release holds (R197, R203). -/
def State.claimTaken (s : State) (r : Nat) (recs : List Bytes) : Bool :=
  let mine := claims s.struct false recs
  claimsClash mine (claims s.struct true (s.img.held.map (·.recd))) ||
    s.img.slots.toList.any fun x =>
      match x.apply with
      | some a => a.point = .frame && a.validated && decide (a.route ≠ r) && claimsClash mine (claims s.struct false (a.staged.flatMap (·.2)))
      | none => false

/-- A partition has a queue enabled. -/
def State.queueOn (s : State) (p : Nat) : Bool := s.hif.queues.any fun q => q.1 / 64 = p && q.2.enable

/-- What reason 0x66 guards of a PARTITION record: ENABLED, QUEUES, the masks, MEM_BASE and MEM_SIZE. -/
def partGuard (r : Bytes) : List Nat := [bits (byteAt r 5) 0 0, byteAt r 6, field r 10 2, byteAt r 12, field r 16 8, field r 24 8]

/-- Routes that run, and those that run or stop: a STARTING route counts as running. DEDUCED (log entry 87). -/
def State.routeRuns (s : State) (r : Nat) : Bool := (s.route r).st = .starting || (s.route r).st = .running
def State.routeBusy (s : State) (r : Nat) : Bool := s.routeRuns r || (s.route r).st = .stopping

/-- Step 12 (R47, R191, R194 to R197, R203, R207, Table 5-17). `slot` is the image slot, `r` the route of a FRAME apply. -/
def State.pointCodes (s : State) (t : Struct) (b : Bytes) (recs : List (Nat × List Bytes)) (point : ApplyPoint) (slot r : Nat) :
    List Nat :=
  let all := recs.flatMap (·.2)
  let base := s.pendingStruct slot
  let frame := decide (point = .frame)
  let others := s.img.slots.toList.zipIdx.filter fun x => x.2 ≠ slot
  let pending (p : Apply → Bool) : Bool := others.any fun x => (x.1.apply.map fun a => a.validated && p a).getD false
  failing (point = .immediate && (List.range 16).any s.routeBusy) 0x60
    ++ failing (frame && t.profile ≠ base.profile) 0x61
    ++ failing (frame && all.any fun x => !inScope s.struct t (hasOwner (imgSects b) 1) r x) 0x62
    ++ failing (frame && !s.routeRuns r) 0x63
    ++ failing ((frame && pending fun a => a.point = .frame && a.route = r) || (point = .switch && pending fun a => a.point = .switch)) 0x64
    ++ failing (frame && s.claimTaken r all) 0x65
    ++ failing ((List.range 16).any fun p => decide (0 < p) && s.queueOn p &&
        decide ((base.partition p).map partGuard ≠ (t.partition p).map partGuard)) 0x66
    ++ failing (!frame && all.any isDelete) 0x6A

/-! Steps 13 and 14, and the whole. -/

/-- The cause of the safe state is still present (R617): a level that a checker sees now. DEDUCED (log entry 88). -/
def State.causePresent (s : State) : Bool :=
  let c := s.saf.cause
  if c = 0x05 then (List.range 4).any fun n => bit ((s.struct.safetyCore.map (byteAt · 6)).getD 0) n && !((s.saf.sin[n]?).getD true)
  else if c = 0x06 then decide (115 ≤ s.saf.temp)
  else if c = 0x07 ∨ c = 0x08 then s.saf.dead
  else if c = 0x09 then !s.pwr.mainGood
  else if c = 0x0A then !s.saf.badClocks.isEmpty
  else if c = 0x0B then !s.saf.badRails.isEmpty
  else if c = 0x0C then (List.range 16).any fun r => (s.route r).st = .faulted && s.struct.safetyClass r
  else if c = 0x04 then !s.saf.missed.isEmpty
  else false

/-- Step 13 (R106, R107, R116, R616, R617): the refusal by status and DETAIL. DEDUCED (log entry 88). -/
def State.refusal (s : State) (recs : List (Nat × List Bytes)) : Option (Nat × Nat) :=
  let arms := arming recs
  let board := imgRec recs 0x01
  let out := (board.map (field · 8 4)).getD 0
  let lnk := (board.map (byteAt · 7)).getD 0
  if s.top.provisional && (arms || out % 16 ≠ 0 || (lnk ≠ 0 && !s.fw.override)) then some (0x31, 0)
  else if s.cal.factoryBad && arms then some (0x32, 0x03)
  else if s.inSafeState && decide ((imgRec recs 0x10).map (byteAt · 4) = some 0) then some (0x32, 0x03)
  else if s.inSafeState && arms && s.causePresent then some (0x32, 0x03)
  else none

/-- The status and DETAIL with which validation of an image fails, from step 2 on (R210); none when it passes. -/
def State.validate (s : State) (b : Bytes) (f : Nat) (point : ApplyPoint) (slot r : Nat) : Option (Nat × Nat) :=
  let recs := imgRecords b
  let t := s.resultOf recs point slot
  let step (l : List Nat) (next : Option (Nat × Nat)) : Option (Nat × Nat) :=
    match lowestCode l with
    | some c => some (0x30, c)
    | none => next
  step (s.headerCodes b) <| step (tableCodes b) <| step (s.signatureCodes b) <|
    match s.ownerRule b f point with
    | some o => some o
    | none =>
      step (recordCodes b point ++ t.fieldCodes) <| step (s.countCodes t) <| step t.overlapCodes <| step t.streamCodes <|
        step (s.referenceCodes t) <| step (s.safetyCodes t recs) <| step (s.memoryCodes t recs point) <| step (s.profileCodes t) <|
          step (s.pointCodes t b recs point slot r) <|
          match s.refusal recs with
          | some o => some o
          | none => step (failing ((recs.flatMap (·.2)).any fun x => byteAt x 0 = 0x80 && !isDelete x && !s.blobKnown x) 0x70) none

end Sys2Proof.Machine
end

