-- ==== Sys2Proof/Machine/StreamOps.lean ====
section
/-! DEFINITION. The stream switch (R236 to R241, R298, R311, R313): which beats a destination takes, how sources send lines, and
how beats cross a connection. -/

namespace Sys2Proof.Machine

/-- A destination port of the switch. -/
def State.dstPort (s : State) (d : Nat) : SwPort := (s.sw.dst[d]?).getD {}

/-- Change a destination port. -/
def State.mapDst (s : State) (d : Nat) (g : SwPort → SwPort) : State :=
  { s with sw := { s.sw with dst := s.sw.dst.setIfInBounds d (g (s.dstPort d)) } }

/-- The stage instance and its input port at a destination port below 13 (Table 6-4). -/
def dstInput (d : Nat) : Nat × Nat :=
  if d ≤ 2 then (d, 0) else if d ≤ 10 then (3 + (d - 3) / 2, (d - 3) % 2) else if d = 11 then (7, 0) else (9, 0)

/-- The destination port of a stage's input port. -/
def inputDst (i port : Nat) : Nat :=
  if i ≤ 2 then i else if i ≤ 6 then 3 + 2 * (i - 3) + port else if i = 7 then 11 else 12

/-- The node that a stage instance runs. -/
def State.job (s : State) (i : Nat) : Option StageJob := ((s.stg.inst[i]?).getD {}).job

/-- A beat carries a context's frame that belongs to a route frame. -/
def Frame.holds (f : Frame) (b : Beat) : Bool := f.ctxs.any fun y => y.1 = b.ctx && y.2.1 = b.frame

/-- The node that the stage runs takes this beat on this port. DEDUCED (log entry 104). -/
def State.jobTakes (s : State) (i port : Nat) (j : StageJob) (b : Beat) : Bool :=
  (portCtxs i port j.block).contains b.ctx && ((s.frame j.route j.frame).map fun f => f.holds b).getD false

/-- A node of the connection's route that has not been dispatched will take this beat (R237). DEDUCED (log entry 104). -/
def State.jobAwaits (s : State) (i port route : Nat) (b : Beat) : Bool :=
  (s.route route).frames.any fun f =>
    let t := s.frameStruct f
    f.inFlight && !f.aborted && f.holds b && f.nodes.any fun n =>
      n.st = .waiting &&
        match t.node route n.node with
        | some c => decide (field c 6 2 = 0x070 + i) && ((t.blockOf c).map fun x => (portCtxs i port x).contains b.ctx).getD false
        | none => false

/-- A boundary of the connection's route may still associate the beat's frame: the route runs, a node of it on the stage names the
context, and the context's frame-start lies less than 1 ms back (R218). DEDUCED (log entry 104). -/
def State.mayJoin (s : State) (i port route : Nat) (b : Beat) : Bool :=
  let t := s.struct
  ((s.route route).st = .starting || (s.route route).st = .running) &&
    (otherCtxs ((t.route route).getD [])).contains b.ctx &&
    (((s.cin.ctxs[b.ctx]?).getD {}).recent.any fun y => y.1 = b.frame && decide (s.gtcNs ≤ y.2.1 + 1000000)) &&
    (t.nodes route).any fun c => decide (field c 6 2 = 0x070 + i) && ((t.blockOf c).map fun x => (portCtxs i port x).contains b.ctx).getD false

/-- Consume held beats into the line a stage takes in, as far as its node takes them and no whole line waits (R237, R241); a beat that
no node will take any more goes (R239). DEDUCED (log entry 104). -/
def takeLine (takes awaits : Beat → Bool) : List Beat → List Beat → List Beat × List Beat
  | line, [] => (line, [])
  | line, b :: t =>
    let full := (line.getLast?.map fun x => x.last || x.closing).getD false
    if full then (line, b :: t)
    else if takes b then takeLine takes awaits (line ++ [b]) t
    else if awaits b then (line, b :: t)
    else takeLine takes awaits line t

/-- The node that a stage runs takes this beat. -/
def State.stageTakes (s : State) (i port : Nat) (b : Beat) : Bool := ((s.job i).map fun j => s.jobTakes i port j b).getD false

/-- A node not yet dispatched takes this beat, or may come to take it. -/
def State.stageAwaits (s : State) (i port route : Nat) (b : Beat) : Bool := s.jobAwaits i port route b || s.mayJoin i port route b

/-- A stage consumes what its node takes of the beats held at a destination port, and discards what no node takes.
DEDUCED (log entry 104). -/
def State.drainDst (s : State) (d : Nat) : State :=
  let (i, port) := dstInput d
  let route := ((s.connection d).map (byteAt · 6)).getD 16
  let p := s.dstPort d
  let (line, held) := takeLine (s.stageTakes i port) (s.stageAwaits i port route) p.line p.held
  s.mapDst d fun _ => { p with line := line, held := held }

/-- The destinations that a source port feeds. -/
def State.dests (s : State) (src : Nat) : List Nat :=
  (List.range 48).filter fun d => (s.connection d).map (byteAt · 4) = some src

/-- CIN_CTX_STAT.LONG_LINE or EXTRA_LINES of a context's frame is set: in the frame while it is open, else in the status of the last
closed frame, when that is it (R277, R307, Table 7-8). DEDUCED (log entry 164). -/
def State.noteIrregular (s : State) (c id : Nat) (long extra : Bool) : State :=
  let x := (s.cin.ctxs[c]?).getD {}
  let open_ := (x.frames.getLast?.map fun f => f.closed.isNone).getD false
  let lastClosed := decide (id = (x.events + 2 ^ 32 - (if open_ then 2 else 1)) % 2 ^ 32)
  let x := { x with
    frames := x.frames.map fun f => if f.id = id then { f with longLine := f.longLine || long, extraLines := f.extraLines || extra } else f
    longLine := x.longLine || (lastClosed && long), extraLines := x.extraLines || (lastClosed && extra) }
  { s with cin := { s.cin with ctxs := s.cin.ctxs.setIfInBounds c x } }

/-- The stream-switch source ports of a stage: PYR has four (Table 6-3). -/
def stagePorts (i : Nat) : List Nat := if i = 0 then [8, 9, 10, 11] else [11 + i]

/-- Beats of a stage wait at its source ports for credits, which stalls it (R237); its outputs are not all written (R233). -/
def State.stageStalled (s : State) (i : Nat) : Bool :=
  (stagePorts i).any fun p => (s.dests p).any fun d => decide (d < 29) && !(s.dstPort d).waiting.isEmpty

/-- The beats of a line, the last one zero-filled (R298). -/
def lineBeats (ctx frame line plane : Nat) (b : Bytes) (poison : Bool) : List Beat :=
  let l := beatsOf b
  (List.range l.length).map fun k =>
    { ctx := ctx, frame := frame, line := line, plane := plane, data := l.getD k [], poison := poison
      last := decide (k + 1 = l.length), closing := false, bytes := min 64 (b.length - 64 * k) }

/-- Put beats behind those that wait at the source for a destination. DEDUCED (log entry 104). -/
def State.queueBeats (s : State) (d : Nat) (l : List Beat) : State := s.mapDst d fun p => { p with waiting := p.waiting ++ l }

/-- A pipe sends an output line on a source port (R298). -/
def State.pipeLine (s : State) (src ctx frame line plane : Nat) (b : Bytes) (poison : Bool) : State :=
  ((s.dests src).filter (· < 29)).foldl (fun s d => s.queueBeats d (lineBeats ctx frame line plane b poison)) s

/-- A closing beat on a source port, to the destinations that `to` picks. DEDUCED (log entry 103). -/
def State.closeBeat (s : State) (src ctx frame : Nat) (pick : Nat → Bool) (data : Bytes) (poison : Bool) : State :=
  let b : Beat :=
    { ctx := ctx, frame := frame, line := 0, plane := 0, data := slice data 0 64, poison := poison, last := true, closing := true }
  ((s.dests src).filter fun d => d < 29 && pick d).foldl (fun s d => s.queueBeats d [b]) s

/-- The line tag that goes before a stage's line into a cask (R313). DEDUCED (log entry 105). -/
def lineTag (frameId line plane ctx : Nat) (poison : Bool) : Bytes :=
  slice (leBytes 4 frameId ++ leBytes 2 line ++ leBytes 1 plane ++ leBytes 1 (b2n poison) ++ leBytes 1 ctx) 0 64

/-- A stage sends an output line on a source port: tagged beats to a stage, the line tag and the line to a cask (R311,
R313). DEDUCED (log entry 69). -/
def State.stageLine (s : State) (src frameId ctx frame line plane : Nat) (b : Bytes) (poison : Bool) : State :=
  ((s.dests src).filter (· < 29)).foldl (fun s d =>
    if d < 13 then s.queueBeats d (lineBeats ctx frame line plane b poison)
    else s.queueBeats d (lineBeats ctx frame line plane (lineTag frameId line plane ctx poison ++ b) poison)) s

/-- The front beat of a connection crosses it (R239, R240, R241): a stage port discards a beat that its block does not name, or
that no node of the route takes; a window writer takes it. DEDUCED (log entry 69). -/
def State.deliverBeat (s : State) (d : Nat) : State :=
  let p := s.dstPort d
  match p.waiting, s.connection d with
  | b :: rest, some r =>
    let credit := decide (p.held.length < field r 10 2)
    let dropped := s.mapDst d fun p => { p with waiting := rest }
    if d < 13 then
      let (i, port) := dstInput d
      if !s.stageTakes i port b && !s.stageAwaits i port (byteAt r 6) b then dropped
      else if credit then (dropped.mapDst d fun p => { p with held := p.held ++ [b] }).drainDst d
      else s.drainDst d
    else if d < 29 then (if credit then dropped.mapDst d fun p => { p with held := p.held ++ [b] } else s)
    else dropped
  | [], some _ => if d < 13 then s.drainDst d else s
  | _, none => s.mapDst d fun _ => {}

end Sys2Proof.Machine
end

