-- ==== Sys2Proof/Machine/StageOps.lean ====
section
/-! DEFINITION. What the vision stages do with their inputs: the lines they take in, the output lines that follow, the records
they write (R303 to R350, R387), and the refinement queue (R386). -/

namespace Sys2Proof.Machine

/-- A stage instance. -/
def State.stage (s : State) (i : Nat) : Stage := (s.stg.inst[i]?).getD {}

/-- Change a stage instance. -/
def State.mapStage (s : State) (i : Nat) (g : Stage → Stage) : State :=
  { s with stg := { s.stg with inst := s.stg.inst.setIfInBounds i (g (s.stage i)) } }

/-- Change the node a stage runs. -/
def State.mapJob (s : State) (i : Nat) (g : StageJob → StageJob) : State := s.mapStage i fun x => { x with job := x.job.map g }

/-- The source number of a stage (Table 1-8). -/
def stageSrc (i : Nat) : Nat := 0x070 + i

/-- The stream-switch source port of a stage; PYR has 8 to 11 (Table 6-3). -/
def stagePort (i : Nat) : Nat := if i = 0 then 8 else 11 + i

/-- The structure that governs a node's frame. -/
def State.jobStruct (s : State) (j : StageJob) : Struct :=
  match s.frame j.route j.frame with
  | some f => s.frameStruct f
  | none => s.struct

/-- The TRIGGER context of a node's route. -/
def State.jobTrigger (s : State) (j : StageJob) : Nat := (((s.jobStruct j).route j.route).map (byteAt · 7)).getD 0

/-- The frame number of a context in a node's route frame (R218). -/
def State.jobCtxFrame (s : State) (j : StageJob) (c : Nat) : Nat :=
  (((s.frame j.route j.frame).bind fun f => f.ctxs.find? (·.1 = c)).map (·.2.1)).getD 0

/-- The BLOCK number of a node's parameter block. -/
def State.jobBlockNo (s : State) (j : StageJob) : Nat :=
  (((s.frame j.route j.frame).bind (·.nodeRun j.node)).map fun m => byteAt m.recd 9).getD 0

/-- What has come in on a port for a context and level. -/
def Stage.input (x : Stage) (port ctx level : Nat) : StageIn :=
  (x.ins.find? fun n => n.port = port && n.ctx = ctx && n.level = level).getD { port := port, ctx := ctx, level := level }

/-- Set an input. -/
def Stage.setInput (x : Stage) (n : StageIn) : Stage :=
  { x with ins := (x.ins.filter fun m => !(m.port = n.port && m.ctx = n.ctx && m.level = n.level)) ++ [n] }

/-- An input as a plane. -/
def StageIn.plane (n : StageIn) (w h : Nat) : Plane := { w := w, h := h, rows := n.lines }

/-- A line holds a poisoned sample. -/
def linePoison (l : List Int) : Bool := l.any (· < 0)

/-! Geometry of the inputs. -/

/-- The PYR block that feeds the tracker for a context: that of the route's PYR node (Table 8-6). -/
def State.pyrBlock (s : State) (j : StageJob) (c : Nat) : Bytes :=
  let t := s.jobStruct j
  (((t.nodes j.route).filter fun n => field n 6 2 = 0x070).filterMap t.blockOf |>.find? fun b =>
    (portCtxs 0 0 b).contains c).getD []

/-- The place of a context in WRP's entries. -/
def wrpEntry (b : Bytes) (c : Nat) : Nat := (((List.range (min 8 (byteAt b 0))).find? fun i => byteAt b (32 + 40 * i) = c).map (32 + 40 * ·)).getD 32

/-- IN_FORMAT, width and height of an input of a node: port, context, level (Tables 8-6, 9-4). -/
def State.inputShape (s : State) (i : Nat) (j : StageJob) (c level : Nat) : Nat × Nat × Nat :=
  let b := j.block
  if i = 0 then (byteAt b 3, field b 4 2, field b 6 2)
  else if i ≤ 2 then
    let e := wrpEntry b c
    (byteAt b 1, field b (e + 4) 2, field b (e + 6) 2)
  else if i ≤ 4 then (byteAt b 2, field b 4 2, field b 6 2)
  else if i ≤ 6 then (byteAt b 3, levelSize (field b 4 2) level, levelSize (field b 6 2) level)
  else if i = 7 then (byteAt b 1, field b 4 2, field b 6 2)
  else
    let p := s.pyrBlock j c
    let n := ((List.range 4).find? fun n => bit (field p (8 + 2 * n) 2) level && byteAt p (16 + n) ≠ 0).getD 0
    (if byteAt p (16 + n) = 2 then 0x11 else 0x10, levelSize (field p 4 2) level, levelSize (field p 6 2) level)

/-! Records. -/

/-- What a record's header says besides who publishes it (Table 6-5). -/
structure RecInfo where
  typ : Nat
  ctx : Nat
  poison : Bool := false
  unrefined : Bool := false
  overlay : Bool := false
  ambiguous : Bool := false
  mean : Nat := 0
  inval : Nat := 0
  /-- the context that its closing beat carries, where that is not `ctx` (R311) -/
  tag : Option Nat := none

/-- The slot of an OUTDESC for a frame: a local address (R312). -/
def descSlot (b : Bytes) (o frame : Nat) : Nat :=
  field b o 8 % 2 ^ 40 + frame % max 1 (byteAt b (o + 12)) * field b (o + 8) 4

/-- The header of a record of a node (R248, R249). -/
def State.jobHeader (s : State) (i : Nat) (j : StageJob) (r : RecInfo) : RecHdr :=
  let e := s.exposureOf j.route j.frame r.ctx
  let taste := ((s.frame j.route j.frame).map (·.tastingFail)).getD false
  { typ := r.typ, node := j.node, source := stageSrc i, route := j.route, frameId := j.frame, exposure := e, publish := s.gtcNs
    flags := flagWord (s.staleNow (s.structOf j.route j.frame) j.route e) r.unrefined r.poison false taste r.overlay r.ambiguous
    context := r.ctx, confMean := r.mean, confInvalid := r.inval }

/-- The partition in whose name a node reads and writes. -/
def State.jobPart (s : State) (j : StageJob) : Nat := (s.jobStruct j).routePart j.route

/-- Lay a record of a node at an address and publish it (R249, R312, R672): the payload, then the header with the descriptor. A poisoned
one counts for the blocks of the second mash (Table 9-7). -/
def State.layRecord (s : State) (i : Nat) (j : StageJob) (a : Nat) (r : RecInfo) (desc : Bytes) (body : Payload) : State :=
  let h := s.jobHeader i j r
  let p := s.jobPart j
  let len := 64 + body.bytes.length
  let s := s.putMixed p (a + 64) body.bytes fun k => body.bad (64 * k - (a + 64)) 64
  let s := s.put p a (h.bytes len ++ slice desc 0 32) false
  s.published (s.jobStruct j) j.route r.typ a len h.exposure

/-- A record of a node is poisoned: its frame will be (R258), and a block of the second mash counts it (Table 9-7). -/
def State.notePoisoned (s : State) (i : Nat) (poison discard : Bool) : State :=
  let s := s.mapJob i fun j => { j with poisoned := j.poisoned || poison }
  if poison && !discard && decide (7 ≤ i) then s.mapStage i fun x => { x with poison := satN 0xFFFFFFFF (x.poison + 1) } else s

/-- Publish a record of a node (R249, R312, R313, R316): its payload and header into the frame's slot of the OUTDESC at
block offset `o`, `off` bytes in, and a closing beat with header and descriptor to the casks on the source port. The records of an
abandoned frame are discarded (R223). DEDUCED (log entry 107). -/
def State.putRecord (s : State) (i : Nat) (j : StageJob) (o src off : Nat) (r : RecInfo) (desc : Bytes) (body : Payload) : State :=
  let s := s.notePoisoned i r.poison j.discard
  if j.discard then s
  else
    let h := s.jobHeader i j r
    let tag := r.tag.getD r.ctx
    let s := s.closeBeat src tag (s.jobCtxFrame j tag) (13 ≤ ·) (h.bytes 64 ++ slice desc 0 32) false
    if descZero j.block o then s
    else
      let a := descSlot j.block o j.frame + off
      let s := s.mapJob i fun j => { j with laid := aset j.laid o (max (agetD j.laid o 0) (a + 64 + body.bytes.length)) }
      s.layRecord i j a r desc body

/-- A node's engine has written all its outputs and published all its records (R233). -/
def State.jobDone (s : State) (i : Nat) : State :=
  s.mapStage i fun x => { x with job := x.job.map (fun j => { j with done := true }), frames := satN 0xFFFFFFFF (x.frames + 1) }

/-- How many lines of an output of a node have been sent. -/
def StageJob.sentOf (j : StageJob) (c key : Nat) : Nat := ((j.sent.find? fun x => x.1 = c && x.2.1 = key).map (·.2.2)).getD 0

/-- Send the lines of an output that are formed and not yet sent, counting the poisoned ones (R311, R313, Table 8-7).
DEDUCED (log entry 105). -/
def State.sendLines (s : State) (i src ctx key plane : Nat) (lines : List (Bytes × Bool)) : State :=
  match s.job i with
  | none => s
  | some j =>
    let n := j.sentOf ctx key
    let fresh := lines.drop n
    let s := fresh.zipIdx.foldl (fun s x =>
      s.stageLine src j.frame ctx (s.jobCtxFrame j ctx) (n + x.2) plane x.1.1 x.1.2) s
    let bad := (fresh.filter (·.2)).length
    let s := s.mapStage i fun x => { x with poison := satN 0xFFFFFFFF (x.poison + bad) }
    s.mapJob i fun j => { j with
      sent := (j.sent.filter fun x => !(x.1 = ctx && x.2.1 = key)) ++ [(ctx, key, max n lines.length)]
      poisoned := j.poisoned || decide (0 < bad) }

/-! Pyramid. -/

/-- The levels of a pyramid as far as its input has come (R317 to R320). -/
def pyrForm (filter : Nat) : Nat → Plane → List Plane
  | 0, _ => []
  | n + 1, p =>
    let q : Plane := { w := halfUp p.w, h := halfUp p.h, rows := (List.range (pyrReady filter p.h p.rows.length)).map fun y =>
      (List.range (halfUp p.w)).map fun x => pyrSample filter p x y }
    p :: pyrForm filter n q

/-- A line as bytes, with its poison mark (R304, R308). -/
def outLine (g16 : Bool) (l : List Int) : Bytes × Bool := (l.flatMap (outSample g16), linePoison l)

/-- The output ports of a PYR block that are in use, and the levels of one (Table 8-6). -/
def pyrPorts (b : Bytes) : List Nat := (List.range 4).filter fun n => byteAt b (16 + n) ≠ 0
def pyrMask (b : Bytes) (n : Nat) : List Nat := (List.range (byteAt b 1)).filter fun k => bit (field b (8 + 2 * n) 2) k

/-- The lines of level `k` as output port `n` sends them. -/
def pyrLines (b : Bytes) (levels : List Plane) (n k : Nat) : List (Bytes × Bool) :=
  (levels.getD k default).rows.map (outLine (byteAt b (16 + n) = 2))

/-- Descriptor and planes of the record of a PYR output port (Tables 8-3, 8-4). -/
def pyrBody (b : Bytes) (levels : List Plane) (n : Nat) : Bytes × List (List (Bytes × Bool)) :=
  let top := levels.getD ((pyrMask b n).headD 0) default
  (stageDesc top.w top.h (field b (8 + 2 * n) 2) 0 0, (pyrMask b n).map (pyrLines b levels n))

/-- PYR: send the lines formed for a context, and publish its records when all its levels are whole (R320). -/
def State.advancePyr (s : State) (c : Nat) : State :=
  match s.job 0 with
  | none => s
  | some j =>
    let b := j.block
    let levels := pyrForm (byteAt b 2) (byteAt b 1) (((s.stage 0).input 0 c 0).plane (field b 4 2) (field b 6 2))
    let s := (pyrPorts b).foldl (fun s n =>
      (pyrMask b n).foldl (fun s k => s.sendLines 0 (8 + n) c (16 * n + k) k (pyrLines b levels n k)) s) s
    let whole := levels.all fun p => decide (p.rows.length = p.h)
    if whole && !j.published.contains c then
      let s := (pyrPorts b).foldl (fun s n =>
        let r := pyrBody b levels n
        let size := 64 + ((pyrMask b n).map fun k => up64 (levelSize (field b 4 2) k * byteAt b (16 + n)) * levelSize (field b 6 2) k).sum
        let place := (portCtxs 0 0 b).idxOf c
        s.putRecord 0 j (40 + 16 * n) (8 + n) (place * size) { typ := 0x10, ctx := c, poison := r.2.any fun l => l.any (·.2) }
          r.1 (planesPayload r.2)) s
      let s := s.mapJob 0 fun j => { j with published := j.published ++ [c] }
      if (portCtxs 0 0 b).all fun x => x = c || j.published.contains x then s.jobDone 0 else s
    else s

/-! Warp. -/

/-- The mesh of a WRP entry, read through the cellar; a row with poison reads as poisoned (R327). -/
def State.mesh (s : State) (b : Bytes) (e ow : Nat) : Nat → Nat → MeshNode := fun x y =>
  let m := 2 ^ byteAt b (e + 2)
  let nx := (ow - 1 + m - 1) / m + 1
  let row := field b (e + 16) 8 % 2 ^ 40 + y * field b (e + 24) 4
  if s.mem.poisoned row (8 * nx) then .poisoned else meshNode (s.mem.read (row + 8 * x) 8)

/-- For each output line, how many input lines had arrived when it was produced, in order (R326). DEDUCED (log entry 105). -/
def warpNeeds (deepest : Nat → Option Nat) : Nat → Nat → List Nat → List Nat
  | _, _, [] => []
  | cur, cap, y :: ys =>
    let n := max cur (min cap (((deepest y).map (· + 1)).getD 0))
    n :: warpNeeds deepest n cap ys

/-- For each output line of a WRP entry, the input lines there when it is produced, of at most `cap` (R326). -/
def warpRows (node : Nat → Nat → MeshNode) (b : Bytes) (e inH cap : Nat) : List Nat :=
  warpNeeds (warpDeepest node (byteAt b (e + 2)) (decide (byteAt b (e + 1) = 1)) (field b (e + 8) 2) inH) 0 cap
    (List.range (field b (e + 10) 2))

/-- Output line `y` of a WRP entry, with `n` input lines there (R322 to R326). -/
def warpRow (node : Nat → Nat → MeshNode) (b : Bytes) (e : Nat) (p : Plane) (n y : Nat) : List WarpOut :=
  (List.range (field b (e + 8) 2)).map fun x =>
    warpSample node (byteAt b (e + 2)) (decide (byteAt b (e + 1) = 1)) p (fun r => decide (n ≤ r + field b (e + 12) 2)) x y

/-- WRP: produce the lines of a context whose rows have arrived, and publish its record when all are out (R322 to R327).
DEDUCED (log entry 105). -/
def State.advanceWrp (s : State) (i c : Nat) : State :=
  match s.job i with
  | none => s
  | some j =>
    let b := j.block
    let e := wrpEntry b c
    let inp := (s.stage i).input 0 c 0
    let inW := field b (e + 4) 2
    let inH := field b (e + 6) 2
    let ow := field b (e + 8) 2
    let oh := field b (e + 10) 2
    let g16 := decide (byteAt b 2 = 2)
    let node := s.mesh b e ow
    let p := inp.plane inW inH
    let needs := warpRows node b e inH (if inp.closed.isSome then inp.got else inH)
    let ready := if inp.closed.isSome then oh else (needs.takeWhile (· ≤ inp.got)).length
    let outs := (List.range ready).map fun y => warpRow node b e p (needs.getD y 0) y
    let lines := outs.map fun l => outLine g16 (l.map (·.g))
    let fresh := outs.drop (j.sentOf c 0)
    let reach := (fresh.map fun l => (l.filter (·.reach)).length).sum
    let s := s.mapStage i fun x => { x with extra := satN 0xFFFFFFFF (x.extra + reach) }
    let s := s.sendLines i (stagePort i) c 0 0 lines
    if ready = oh && !j.published.contains c then
      let cs := portCtxs i 0 b
      let size (k : Nat) : Nat := 64 + up64 (field b (40 + 40 * k) 2 * byteAt b 2) * field b (42 + 40 * k) 2
      let off := ((List.range (cs.idxOf c)).map size).sum
      let s := s.putRecord i j 16 (stagePort i) off { typ := 0x11, ctx := c, poison := lines.any (·.2) }
        (stageDesc ow oh 0 0 0) (planesPayload [lines])
      let s := s.mapJob i fun j => { j with published := j.published ++ [c] }
      if cs.all fun x => x = c || j.published.contains x then s.jobDone i else s
    else s

/-! Stereo and flow. -/

/-- A pixel of a stereo or flow output: its bytes, its class (0 valid, 1 invalid, 2 occluded), confidence, poison. -/
structure Px where
  bytes : Bytes
  cls : Nat
  conf : Nat
  poison : Bool
  deriving DecidableEq, Repr, Inhabited

/-- A stereo decision as a pixel. -/
def stePx (v : Nat × Nat × Bool) : Px :=
  { bytes := leBytes 2 v.1, cls := if v.1 = 0xFFFE then 2 else if v.1 = 0xFFFF then 1 else 0, conf := v.2.1, poison := v.2.2 }

/-- A flow decision as a pixel. -/
def floPx (outLevel : Nat) (v : FloVec) : Px :=
  let ok := floValid outLevel v
  { bytes := floBytes outLevel v, cls := if ok then 0 else 1, conf := if ok then v.conf else 0, poison := v.poison }

/-- What the STE block says (Table 8-6); `refine` takes the refine pass's parameters (R333). -/
def steCfg (b : Bytes) (refine : Bool) : SteCfg :=
  { census := if refine then 2 else byteAt b 3, dmin := field b 8 2, d := field b 10 2
    paths := if refine then 8 else byteAt b 12
    p1 := if refine then byteAt b 20 else byteAt b 13, p2 := if refine then byteAt b 21 else byteAt b 14
    uniq := byteAt b 15, confScale := field b 16 2, lrCheck := refine || bit (byteAt b 18) 0, lrTol := byteAt b 19 }

/-- What the FLO block says (Table 8-6). -/
def floCfg (b : Bytes) : FloCfg :=
  { levels := byteAt b 8, outLevel := byteAt b 9, searchTop := byteAt b 10, search := byteAt b 11, uniq := byteAt b 12
    confScale := field b 14 2 }

/-- The rows of a stereo output that have all their input (R350). -/
def State.steRows (s : State) (i : Nat) (j : StageJob) : List (List Px) :=
  let b := j.block
  let w := field b 4 2
  let h := field b 6 2
  let l := (s.stage i).input 0 (byteAt b 0) 0
  let r := (s.stage i).input 1 (byteAt b 1) 0
  let n := min l.lines.length r.lines.length
  let ready := if n = h then h else n - 2
  (stereo (steCfg b false) (l.plane w h) (r.plane w h) 0 0 w ready).map (·.map stePx)

/-- The levels a FLO block works on, top first. -/
def floLevels (b : Bytes) : List Nat := (((List.range (byteAt b 8)).filter (byteAt b 9 ≤ ·)).reverse)

/-- Where a level lies in a slot of the work window: levels ascending from OUT_LEVEL. -/
def floOffset2 (b : Bytes) (level : Nat) : Nat :=
  (((floLevels b).filter (· < level)).map fun k => up64 (levelSize (field b 4 2) k) * levelSize (field b 6 2) k).sum

/-- A U8 plane stored with pitch roundup(w, 64); the samples of a poisoned sector are poisoned (R303, R308). -/
def State.storedPlane (s : State) (a w h : Nat) : Plane :=
  { w := w, h := h, rows := (List.range h).map fun y =>
      let la := a + y * up64 w
      (workLine 0x10 w false (s.mem.read la w)).zipIdx.map fun v => if s.mem.poisoned (la + v.2) 1 then -1 else v.1 }

/-- Store a line as U8 at a row of a plane (R334, R341), each sector that holds a poisoned sample poisoned (R446, R672).
DEDUCED (log entry 106). -/
def State.storeLine (s : State) (part a w y : Nat) (l : List Int) : State :=
  let la := a + y * up64 w
  s.putMixed part la (pad64 (l.flatMap (outSample false))) fun k => ((l.drop (64 * k - la)).take 64).any (· < 0)

/-- The slot of FLO's work window that the current frame's pyramid takes (R341): not the reference's in REF_MODE 0; the first
of the pair of the frame's parity in REF_MODE 1. -/
def StageJob.floCurSlot (j : StageJob) : Nat :=
  if byteAt j.block 1 = 1 then 2 * (j.frame % 2)
  else match j.ref with
    | some e => if e.slot = 0 then 1 else 0
    | none => 0

/-- The base of a slot of FLO's work window. -/
def floBase (b : Bytes) (slot : Nat) : Nat := field b 16 8 % 2 ^ 40 + slot * floSlot b

/-- The reference levels of a flow node, top first, none when there is no stored pyramid (R335, R342). DEDUCED (log entry 106). -/
def State.floRef (s : State) (i : Nat) (j : StageJob) : Option (List Plane) :=
  let b := j.block
  let dims (k : Nat) : Nat × Nat := (levelSize (field b 4 2) k, levelSize (field b 6 2) k)
  if byteAt b 1 = 1 then some ((floLevels b).map fun k => ((s.stage i).input 1 (byteAt b 2) k).plane (dims k).1 (dims k).2)
  else
    j.ref.map fun e => (floLevels b).map fun k => s.storedPlane (floBase b e.slot + floOffset2 b k) (dims k).1 (dims k).2

/-- The current levels of a flow node, top first. -/
def State.floCur (s : State) (i : Nat) (j : StageJob) : List Plane :=
  let b := j.block
  (floLevels b).map fun k => ((s.stage i).input 0 (byteAt b 0) k).plane (levelSize (field b 4 2) k) (levelSize (field b 6 2) k)

/-- The coarse vectors of a FLO block at OUT_LEVEL from its levels, top first (R335 to R340): all invalid with no reference (R342). -/
def floVecs (b : Bytes) (cur : List Plane) : Option (List Plane) → List (List FloVec)
  | some ref => flow (floCfg b) none (cur.zip ref)
  | none =>
    (List.range (levelSize (field b 6 2) (byteAt b 9))).map fun _ =>
      (List.range (levelSize (field b 4 2) (byteAt b 9))).map fun _ => ⟨none, 0, false, (0, 1), (0, 1)⟩

/-- The coarse vectors of a flow node at OUT_LEVEL (R335 to R340): all invalid with no stored pyramid (R342). -/
def State.floCoarse (s : State) (i : Nat) (j : StageJob) : List (List FloVec) :=
  floVecs j.block (s.floCur i j) (s.floRef i j)

/-- For row `y` of a level, the input lines that its vectors may depend on: (level, lines of the current input, lines of the reference).
A vector takes a 5×5 box of 5×5 censuses, moved by at most its prior and its search, and the 3×3 neighbours of its parent (R335 to
R337). `levels` lie from this one up. -/
def floNeeds (b : Bytes) : List Nat → Nat → List (Nat × Nat × Nat) × Nat
  | [], _ => ([], 0)
  | k :: up, y =>
    let h := levelSize (field b 6 2) k
    let r := floNeeds b up (min (y / 2 + 1) (levelSize (field b 6 2) (k + 1) - 1))
    let reach := if up.isEmpty then byteAt b 10 else 2 * r.2 + byteAt b 11
    ((k, min (y + 5) h, min (y + 5 + reach) h) :: r.1, reach)

/-- All the input that a row of a flow output depends on has arrived (Table 8-5). -/
def State.floRowReady (s : State) (i : Nat) (j : StageJob) (y : Nat) : Bool :=
  let b := j.block
  let have_ (port c k : Nat) : Nat := ((s.stage i).input port c k).lines.length
  (floNeeds b (floLevels b).reverse y).1.all fun n =>
    decide (n.2.1 ≤ have_ 0 (byteAt b 0) n.1) && (byteAt b 1 ≠ 1 || decide (n.2.2 ≤ have_ 1 (byteAt b 2) n.1))

/-- How many rows of a flow output are ready. -/
def State.floReady (s : State) (i : Nat) (j : StageJob) : Nat :=
  ((List.range (levelSize (field j.block 6 2) (byteAt j.block 9))).takeWhile (s.floRowReady i j)).length

/-- The output size of a stereo or flow node. -/
def denseSize (i : Nat) (b : Bytes) : Nat × Nat :=
  if i ≤ 4 then (field b 4 2, field b 6 2) else (levelSize (field b 4 2) (byteAt b 9), levelSize (field b 6 2) (byteAt b 9))

/-- The rows of a stereo or flow node that are ready. -/
def State.denseRows (s : State) (i : Nat) (j : StageJob) : List (List Px) :=
  if i ≤ 4 then s.steRows i j
  else
    let n := s.floReady i j
    if n = 0 then [] else ((s.floCoarse i j).take n).map (·.map (floPx (byteAt j.block 9)))

/-- The pixels of a tile. -/
def tilePx (rows : List (List Px)) (tx ty : Nat) : List Px := ((rows.drop (32 * ty)).take 32).flatMap fun r => (r.drop (32 * tx)).take 32

/-- Statistics of pixels (R346). -/
def pxStats (l : List Px) : Nat × Nat := tileStats (l.map fun p => (p.cls, p.conf))

/-- A row holds a poisoned pixel. -/
def rowBad (r : List Px) : Bool := r.any (·.poison)

/-- A row of values, a row of confidences, and row `y` of the tile statistics of an output `w` wide (Table 8-4). -/
def valueLine (r : List Px) : Bytes × Bool := (r.flatMap (·.bytes), rowBad r)
def confLine (r : List Px) : Bytes × Bool := (r.flatMap fun p => leBytes 1 p.conf, rowBad r)
def statsLine (rows : List (List Px)) (w y : Nat) : Bytes × Bool :=
  ((List.range ((w + 31) / 32)).flatMap fun x => let t := pxStats (tilePx rows x y); leBytes 1 t.1 ++ leBytes 1 t.2,
    ((rows.drop (32 * y)).take 32).any rowBad)

/-- The planes of a stereo or flow record (Table 8-4). -/
def densePlanes (rows : List (List Px)) (w h : Nat) : List (List (Bytes × Bool)) :=
  [rows.map valueLine, rows.map confLine, (List.range ((h + 31) / 32)).map (statsLine rows w)]

/-! The refinement queue. -/

/-- The refinement queue of a route. -/
def State.mash (s : State) (r : Nat) : Mash := (s.stg.mash[r]?).getD {}

/-- Change a refinement queue. -/
def State.mapMash (s : State) (r : Nat) (g : Mash → Mash) : State :=
  { s with stg := { s.stg with mash := s.stg.mash.setIfInBounds r (g (s.mash r)) } }

/-- Order of R386: offer GTC, source, raster position. -/
def Offer.before (a b : Offer) : Bool := decide ([a.gtc, a.source, a.tile] ≤ [b.gtc, b.source, b.tile])

/-- REFINE_BUDGET, CONF_THRESHOLD and INVALID_LIMIT that govern a node's frame (Table 5-14). -/
def State.mashCfg (s : State) (j : StageJob) : Nat × Nat × Nat :=
  let r := ((s.jobStruct j).route j.route).getD []
  (field r 16 2, byteAt r 18, byteAt r 19)

/-- The tiles allotted for a frame, in allotment order (R386, R387). -/
def State.allotted (s : State) (j : StageJob) : List Offer :=
  (((s.mash j.route).offers.filter fun o => o.frame = j.frame && !o.poisoned).mergeSort Offer.before).take (s.mashCfg j).1

/-- Offer tiles to the route's queue: raster number, MEAN, INVFRAC, poisoned (R347, R375). Offers of frames that are over go. -/
def State.offerTiles (s : State) (i : Nat) (j : StageJob) (l : List (Nat × (Nat × Nat) × Bool)) : State :=
  let (_, thr, lim) := s.mashCfg j
  let low := l.filter fun x => decide (x.2.1.1 < thr) || decide (lim < x.2.1.2)
  let os : List Offer := low.map fun x =>
    { gtc := s.gtcNs, source := stageSrc i, route := j.route, frame := j.frame, tile := x.1, poisoned := x.2.2 }
  let live := (s.route j.route).frames.map (·.id)
  s.mapMash j.route fun m =>
    { m with offers := (m.offers.filter fun o => live.contains o.frame) ++ os, offered := satN 0xFFFFFFFF (m.offered + os.length) }

/-- Offer the rows of tiles that have just completed (R347). -/
def State.offerRows (s : State) (i : Nat) (rows : List (List Px)) : State :=
  match s.job i with
  | none => s
  | some j =>
    let (w, h) := denseSize i j.block
    let (tx, ty) := tilesOf w h
    let n := j.sentOf 64 98
    let m := if rows.length = h then ty else rows.length / 32
    if refines (stageSrc i) j.block && decide (n < m) then
      let l := (List.range (m - n)).flatMap fun k => (List.range tx).map fun x =>
        let px := tilePx rows x (n + k)
        ((n + k) * tx + x, pxStats px, px.any (·.poison))
      let s := s.offerTiles i j l
      s.mapJob i fun j => { j with sent := (j.sent.filter fun x => !(x.1 = 64 && x.2.1 = 98)) ++ [(64, 98, m)] }
    else s

/-! Stereo and flow, continued. -/

/-- Send the rows that are ready: values, confidence, tile statistics (R313, Table 8-4). DEDUCED (log entry 105). -/
def State.sendDense (s : State) (i c : Nat) (rows : List (List Px)) (h : Nat) : State :=
  let s := s.sendLines i (stagePort i) c 0 0 (rows.map valueLine)
  let s := s.sendLines i (stagePort i) c 1 1 (rows.map confLine)
  let m := if rows.length = h then (h + 31) / 32 else rows.length / 32
  s.sendLines i (stagePort i) c 2 2 ((List.range m).map (statsLine rows (rows.headD []).length))

/-- FLO stores its pyramids (R341, R342): the current one becomes the context's most recent in REF_MODE 0; in REF_MODE 1 both
go into the frame's pair of slots. -/
def State.floStore_ (s : State) (i : Nat) (j : StageJob) : State :=
  let b := j.block
  let slot := j.floCurSlot
  let p := s.jobPart j
  let put (s : State) (port c slot : Nat) : State :=
    (floLevels b).foldl (fun s k =>
      let w := levelSize (field b 4 2) k
      ((s.stage i).input port c k).lines.zipIdx.foldl (fun s x => s.storeLine p (floBase b slot + floOffset2 b k) w x.2 x.1) s) s
  let s := put s 0 (byteAt b 0) slot
  if byteAt b 1 = 1 then put s 1 (byteAt b 2) (slot + 1) else s

/-- STE and FLO: send the rows that are ready, offer their tiles, and note the instant at which all are out (R347, R348). -/
def State.advanceDense (s : State) (i : Nat) : State :=
  match s.job i with
  | none => s
  | some j =>
    if j.completeAt.isSome then s
    else
      let rows := s.denseRows i j
      let (_, h) := denseSize i j.block
      let s := s.sendDense i (byteAt j.block 0) rows h
      let s := s.offerRows i rows
      if rows.length = h then
        let s := if 5 ≤ i then s.floStore_ i j else s
        s.mapJob i fun j => { j with completeAt := some (s.gtcNs, s.clk) }
      else s

/-! Detector and tracker inputs. -/

/-- Descriptor and payload of a PYR_LEVELS record of U8 levels 0 to n − 1. -/
def pyrRecord (planes : List Plane) : Bytes × Payload :=
  let top := planes.headD default
  (stageDesc top.w top.h (2 ^ planes.length - 1) 0 0, planesPayload (planes.map fun p => p.rows.map (outLine false)))

/-- The tracker with PYR_IN 0: once every level of every context has arrived, it writes the PYR_LEVELS records into PYR_DESC,
and its fixed time starts (R384). DEDUCED (log entry 108). -/
def State.advanceTrk (s : State) : State :=
  match s.job 9 with
  | none => s
  | some j =>
    let b := j.block
    let cs := portCtxs 9 0 b
    let levels := List.range (byteAt b 2)
    let plane (c k : Nat) : Plane :=
      let (_, w, h) := s.inputShape 9 j c k
      ((s.stage 9).input 0 c k).plane w h
    let whole := cs.all fun c => levels.all fun k => decide (0 < (plane c k).h) && decide ((plane c k).rows.length = (plane c k).h)
    if j.completeAt.isSome || !whole then s
    else
      let (s, _) := cs.foldl (fun (a : State × Nat) c =>
        let ps := levels.map (plane c)
        let body := pyrRecord ps
        let bad := ps.any fun p => p.rows.any linePoison
        let s := a.1.notePoisoned 9 bad j.discard
        let at_ := descSlot b 48 j.frame + a.2
        let s := if j.discard then s else s.layRecord 9 j at_ { typ := 0x10, ctx := c, poison := bad } body.1 body.2
        (s, a.2 + up64 (64 + body.2.bytes.length))) (s, 0)
      s.mapJob 9 fun j => { j with completeAt := some (s.gtcNs, s.clk) }

/-- A stage goes on as far as its inputs allow, after a line of a context. -/
def State.advance (s : State) (i c : Nat) : State :=
  if i = 0 then s.advancePyr c
  else if i ≤ 2 then s.advanceWrp i c
  else if i ≤ 6 then s.advanceDense i
  else if i = 9 then s.advanceTrk
  else s

/-! Input lines. -/

/-- The level of an input line, none for a line that the node discards: the chroma lines of a pipe (R305), levels that the
node does not work on. -/
def State.lineLevel (s : State) (i : Nat) (j : StageJob) (d plane : Nat) : Option Nat :=
  let fromPipe := ((s.connection d).map fun r => decide (byteAt r 4 < 8)).getD true
  if fromPipe then (if plane = 0 then some 0 else none)
  else if i = 5 ∨ i = 6 then (if (floLevels j.block).contains plane then some plane else none)
  else if i = 7 then (if plane = byteAt j.block 2 then some 0 else none)
  else if i = 9 then (if plane < byteAt j.block 2 then some plane else none)
  else some 0

/-- Put a line of a context's frame into an input of a stage, as Table 7-3 says of its length and number (R303, R307, R308); STE in a
refining node keeps its upper 8 bits in the work window (R334). -/
def State.putLine (s : State) (i port : Nat) (j : StageJob) (c id level : Nat) (data : Bytes) (poison : Bool) : State :=
  let (fmt, w, h) := s.inputShape i j c level
  let x := s.stage i
  let n := x.input port c level
  if h ≤ n.lines.length then s.noteIrregular c id false true
  else
    let s := s.noteIrregular c id (decide (w * fmtBytes fmt < data.length)) false
    let bad := poison || decide (data.length < w * fmtBytes fmt)
    let line := workLine fmt w bad data
    let y := n.lines.length
    let n := { n with lines := n.lines ++ [line], got := n.got + 1, closed := if y + 1 = h then some false else none }
    let s := s.mapStage i fun x => { x.setInput n with ctx := c }
    let s := if bad then s.mapJob i fun j => { j with poisoned := true } else s
    if (i = 3 ∨ i = 4) ∧ refines (stageSrc i) j.block = true then
      let img := up64 w * h
      s.storeLine (s.jobPart j) (field j.block 40 8 % 2 ^ 40 + (j.frame % 2) * (2 * img) + port * img) w y line
    else s

/-- The frame of a context closes short on a stage's input: the lines that did not come count as poisoned (R278, R307). -/
def State.closeInput (s : State) (i port : Nat) (j : StageJob) (c : Nat) : State :=
  let (_, w, h) := s.inputShape i j c 0
  let n := (s.stage i).input port c 0
  if h ≤ n.lines.length then s
  else
    let n := { n with lines := n.lines ++ List.replicate (h - n.lines.length) (List.replicate w (-1)), closed := some true }
    (s.mapStage i fun x => { x.setInput n with ctx := c }).mapJob i fun j => { j with poisoned := true }

end Sys2Proof.Machine
end

