-- ==== Sys2Proof/Machine/Stages.lean ====
section
/-! DEFINITION. The commands of the stream switch and the vision stages: beats, input lines, coarse publications, refine slots,
mash closes, the detector and the tracker (R239 to R241, R303 to R397). -/

namespace Sys2Proof.Machine

/-- A beat crosses a connection (R239 to R241). DEDUCED (log entry 69). -/
def execStreamBeatDeliver (dst : Fin 48) (s : State) : Host.Outcome State Fault Refusal := .next (s.deliverBeat dst)

/-- A stage takes an input line and produces the output lines that now have all their input (R303 to R350); while beats of it wait for
credits it is stalled (R237). -/
def execStageInputLine (stage : Fin 10) (port : Fin 2) (s : State) : Host.Outcome State Fault Refusal :=
  let d := inputDst stage port
  let s := s.drainDst d
  let p := s.dstPort d
  match s.job stage, p.line.getLast? with
  | some j, some b =>
    if !(b.last || b.closing) || s.stageStalled stage || s.tastingOn (stageSrc stage) then .next s
    else
      let s := s.mapDst d fun p => { p with line := [] }
      if b.closing then .next ((s.closeInput stage port j b.ctx).advance stage b.ctx)
      else
        match s.lineLevel stage j d b.plane with
        | some k =>
          let data := p.line.flatMap fun x => x.data.take x.bytes
          .next ((s.putLine stage port j b.ctx b.frame k data (p.line.any (·.poison))).advance stage b.ctx)
        | none => .next s
  | _, _ => .next s

/-! Matching. -/

/-- Find the record of a type and context among the records of a slot (R312): each begins on the next 64-byte boundary.
DEDUCED (log entry 107). -/
def State.findRecord (s : State) (typ ctx : Nat) : Nat → Nat → Option Nat
  | 0, _ => none
  | n + 1, a =>
    let h := s.mem.read a 32
    if byteAt h 0 ≠ typ then none
    else if byteAt h 26 = ctx then some a
    else s.findRecord typ ctx n (a + 64 * max 1 (field h 29 3))

/-- The feature list of a context and frame among the records from an address on; it is poisoned when its record or its memory is.
DEDUCED (log entry 107). -/
def State.listAt (s : State) (slot ctx frame : Nat) : Option FeatList :=
  match s.findRecord 0x20 ctx 16 slot with
  | some a =>
    let n := 64 + 64 * min (field (s.mem.read a 64) 32 4) 65536
    let l := parseFeatures (s.mem.read a n)
    if l.frameId = frame then some { l with poison := l.poison || s.mem.poisoned a n } else none
  | none => none

/-- A feature list in memory, when its slot holds the one of this context and frame. DEDUCED (log entry 107). -/
def State.readList (s : State) (b : Bytes) (o ctx frame : Nat) : Option FeatList := s.listAt (descSlot b o frame) ctx frame

/-- The matcher's fields (Table 9-4); `wide` is the refine pass's window with MUTUAL (R390). -/
def matCfg (b : Bytes) (wide : Bool) : MatCfg :=
  let k := b2n wide
  { rxn := byteAt b 4 + k, rxp := byteAt b 5 + k, ry := byteAt b 6 + k, maxDist := field b 8 2, ratio := byteAt b 10
    confScale := field b 12 2, mutual_ := wide || bit (byteAt b 3) 0 }

/-- The current list of a matcher node; empty when the slot does not hold it. -/
def State.curList (s : State) (j : StageJob) : FeatList :=
  (s.readList j.block 16 (byteAt j.block 0) j.frame).getD
    { frameId := j.frame, exposure := 0, level := 0, tilesX := 0, tilesY := 0, maxPerCell := 0, poison := false, feats := [] }

/-- The reference list of a matcher node (R372): the list last matched as current, or that of REF_CTX in the same frame. -/
def State.refList (s : State) (j : StageJob) : Option FeatList :=
  let b := j.block
  if byteAt b 1 = 1 then s.readList b 32 (byteAt b 2) j.frame
  else (alookup (s.stage 8).lastList (s.jobBlockNo j)).bind fun l => s.listAt l.2.1 l.2.2 l.1

/-- The reference features that count for a current list: none when the levels differ (R372). -/
def refFeats (cur : FeatList) : Option FeatList → List Feat
  | some r => if r.level = cur.level then r.feats else []
  | none => []

/-- The matches of every current feature; `wide` as in `matCfg` (R367 to R371). -/
def matchAll (b : Bytes) (wide : Bool) (cur : FeatList) (ref : Option FeatList) : List (Option Match) :=
  (List.range cur.feats.length).map (matchOne (matCfg b wide) cur.feats (refFeats cur ref))

/-- The matches of every current feature of a node (R367 to R371). -/
def State.matches_ (s : State) (j : StageJob) : List (Option Match) := matchAll j.block false (s.curList j) (s.refList j)

/-- The matches of a cell, with their feature numbers. -/
def cellMatches (l : FeatList) (ms : List (Option Match)) (cell : Nat) : List (Nat × Option Match) :=
  ((l.feats.zip ms).zipIdx.filter fun x => x.1.1.cy * l.tilesX + x.1.1.cx = cell).map fun x => (x.2, x.1.2)

/-- Descriptor and payload of an FTM_MATCHES record (Tables 9-5, 8-4). -/
def matchBody (cur : FeatList) (ref : Option FeatList) (ms : List (Option Match)) : Bytes × Bytes :=
  let stats (k : Nat) : Bytes :=
    let t := cellStats ((cellMatches cur ms k).map (·.2))
    leBytes 1 t.1 ++ leBytes 1 t.2
  let rows := (List.range cur.tilesY).map fun y => (List.range cur.tilesX).flatMap fun x => stats (y * cur.tilesX + x)
  (slice (leBytes 4 cur.feats.length ++ leBytes 2 cur.tilesX ++ leBytes 2 cur.tilesY
      ++ leBytes 4 ((ref.map (·.frameId)).getD 0xFFFFFFFF) ++ leBytes 4 0 ++ leBytes 8 ((ref.map (·.exposure)).getD 0)) 0 32,
    pad64 (ms.flatMap matchEntry) ++ planeBytes rows)

/-- Confidence and invalid share of a whole match record, and whether a match is ambiguous (R375, R369). -/
def matchStats (ms : List (Option Match)) : Nat × Nat := if ms.isEmpty then (0, 0) else cellStats ms
def matchAmb (ms : List (Option Match)) : Bool := ms.any fun m => (m.map (·.amb)).getD false

/-! Coarse publication. -/

/-- COARSE_AT of a block, in ns from the frame-start event (Tables 8-6, 9-4). -/
def coarseAtNs (i : Nat) (b : Bytes) : Nat :=
  100000 * (if i ≤ 4 then field b 22 2 else if i ≤ 6 then field b 28 2 else field b 14 2)

/-- The GTC of the instant at which a node's coarse record is complete: its inputs for STE and FLO, the end of the fixed pass for
the matcher (R348, R373). DEDUCED (log entry 109). -/
def State.coarseReady (s : State) (i : Nat) (j : StageJob) : Option Nat :=
  if i = 8 then
    let l := s.curList j
    let n := matchCycles (matCfg j.block false) l.maxPerCell (l.tilesX * l.tilesY)
    if s.due j.clk n then some (s.gtcNs - (s.clk - (j.clk + n)) * 5 / 4) else none
  else j.completeAt.map (·.1)

/-- The place of OUTDESC in the block of a stage that publishes a coarse record. -/
def denseDesc (i : Nat) : Nat := descAt (stageSrc i)

/-- The context that a stereo, flow or match record names (Table 6-5). -/
def State.denseCtx (s : State) (i : Nat) (j : StageJob) : Nat :=
  if i ≤ 4 ∨ byteAt j.block 1 = 1 then s.jobTrigger j else byteAt j.block 0

/-- The context of the input from which a node's record is computed, which its closing beat carries (R311). -/
def StageJob.tag (j : StageJob) : Option Nat := some (byteAt j.block 0)

/-- Publish the coarse record of STE or FLO (R314, R342, R346). -/
def State.putDense (s : State) (i : Nat) (j : StageJob) : State :=
  let b := j.block
  let rows := s.denseRows i j
  let (w, h) := denseSize i b
  let st := pxStats rows.flatten
  let (rf, re) :=
    if i ≤ 4 then (0, 0)
    else if byteAt b 1 = 1 then (j.frame, s.exposureOf j.route j.frame (byteAt b 2))
    else
      match j.ref with
      | some e => (e.frame, e.exposure)
      | none => (0xFFFFFFFF, 0)
  s.putRecord i j (denseDesc i) (stagePort i) 0
    { typ := if i ≤ 4 then 0x12 else 0x13, ctx := s.denseCtx i j, poison := rows.any rowBad, mean := st.1, inval := st.2, tag := j.tag }
    (stageDesc w h 0 rf re) (planesPayload (densePlanes rows w h))

/-- A matcher's lists are poisoned, and so every match that it computes from them (R308, R387). -/
def State.matchPoison (s : State) (j : StageJob) : Bool := (s.curList j).poison || ((s.refList j).map (·.poison)).getD false

/-- Offer rows of a matcher's cells up to row `m` (R347, R375). -/
def State.offerCells (s : State) (j : StageJob) (m : Nat) : State :=
  let n := j.sentOf 64 98
  if refines (stageSrc 8) j.block && decide (n < m) then
    let cur := s.curList j
    let ms := s.matches_ j
    let bad := s.matchPoison j
    let l := (List.range ((m - n) * cur.tilesX)).map fun k =>
      let c := n * cur.tilesX + k
      (c, cellStats ((cellMatches cur ms c).map (·.2)), bad)
    let s := s.offerTiles 8 j l
    s.mapJob 8 fun j => { j with sent := (j.sent.filter fun x => !(x.1 = 64 && x.2.1 = 98)) ++ [(64, 98, m)] }
  else s

/-- The matcher offers each row of cells when the pass has come through it (R373, R375). -/
def State.offerMatches (s : State) : State :=
  match s.job 8 with
  | some j =>
    if j.coarseAt.isSome || !refines (stageSrc 8) j.block then s
    else
      let cur := s.curList j
      let past (y : Nat) : Bool := s.due j.clk (matchCycles (matCfg j.block false) cur.maxPerCell ((y + 1) * cur.tilesX))
      s.offerCells j ((List.range cur.tilesY).takeWhile past).length
  | none => s

/-- Publish the coarse record of the matcher, once all its cells are offered (R371, R372, R375, Table 9-5). -/
def State.putMatches (s : State) (j : StageJob) : State :=
  let cur := s.curList j
  let ref := s.refList j
  let ms := s.matches_ j
  let bad := s.matchPoison j
  let st := matchStats ms
  let body := matchBody cur ref ms
  let s := if (ref.map fun r => decide (r.level ≠ cur.level)).getD false then
      s.note (stageSrc 8) 0 0x0204 (s.struct.routePart j.route) [stageSrc 8, j.route, j.frame] else s
  (s.offerCells j cur.tilesY).putRecord 8 j 48 (stagePort 8) 0
    { typ := 0x21, ctx := s.denseCtx 8 j, poison := bad, ambiguous := matchAmb ms, mean := st.1, inval := st.2, tag := j.tag }
    body.1 [(body.2, bad)]

/-- What a node leaves when it ends: FLO's stored pyramid becomes the context's most recent (R342), the matcher remembers its
list (R372). -/
def State.endDense (s : State) (i : Nat) (j : StageJob) : State :=
  let b := j.block
  let s :=
    if (i = 5 ∨ i = 6) ∧ byteAt b 1 = 0 then
      let e : Memo :=
        { owner := 64 * j.route + j.node, key := floKey b, old := j.changed, slot := j.floCurSlot, frame := j.frame
          exposure := s.exposureOf j.route j.frame (byteAt b 0) }
      s.mapStage i fun x => { x with stored := (x.stored.filter (·.owner ≠ e.owner)) ++ [e] }
    else if i = 8 ∧ byteAt b 1 = 0 then
      let n := s.jobBlockNo j
      s.mapStage 8 fun x => { x with lastList := aset x.lastList n (j.frame, descSlot b 16 j.frame, byteAt b 0) }
    else s
  s.jobDone i

/-- STE, FLO or the matcher publishes its coarse record, at the later of COARSE_AT and completion; its refine pass starts (R348,
R349, R374). DEDUCED (log entry 109). -/
def execCoarsePublish (stage : Fin 10) (s : State) : Host.Outcome State Fault Refusal :=
  let i := stage.val
  match s.job i with
  | some j =>
    if i < 3 ∨ i = 7 ∨ i = 9 ∨ j.coarseAt.isSome = true ∨ j.done = true ∨ s.tastingOn (stageSrc i) = true then .next s
    else
      match s.coarseReady i j with
      | some g =>
        let at_ := coarseAtNs i j.block
        if s.gtcNs < j.start + at_ then .next s
        else
          let s := if i = 8 then s.putMatches j else s.putDense i j
          let late := !j.discard && decide (at_ ≠ 0) && decide (j.start + at_ < g)
          let s := if late then
              (s.mapStage i fun x => { x with late := satN 0xFFFFFFFF (x.late + 1) }).note (stageSrc i) 0 0x0204
                (s.struct.routePart j.route) [stageSrc i, j.route, j.frame]
            else s
          let s := s.mapJob i fun j => { j with coarseAt := some (s.gtcNs, s.clk) }
          .next (if refines (stageSrc i) j.block then s else s.endDense i j)
      | none => .next s
  | none => .next s

/-! The refine pass. -/

/-- VIS cycles of one refine slot (Table 8-1, R390). DEDUCED (log entry 109). -/
def State.tileCycles (s : State) (i : Nat) (j : StageJob) : Nat :=
  let b := j.block
  if i ≤ 4 then 1024 + 16 * field b 10 2
  else if i ≤ 6 then 1024 + 32 * (2 * byteAt b 11 + 5) ^ 2
  else matchTileCycles (matCfg b false) (s.curList j).maxPerCell

/-- The mash close of a refining node, GTC ns (R388). -/
def StageJob.close (j : StageJob) : Nat := j.start + (j.startUs + j.budgetUs) * 1000 - 200000

/-- Slot `k` of a refine pass ends by the mash close (R389). DEDUCED (log entry 109). -/
def slotFits (j : StageJob) (g cycles k : Nat) : Bool := decide (4 * g + 5 * ((k + 1) * cycles) ≤ 4 * j.close)

/-- The tiles allotted to an instance, in allotment order (R386, R389). -/
def State.myTiles (s : State) (i : Nat) (j : StageJob) : List Offer := (s.allotted j).filter fun o => o.source = stageSrc i

/-- The header of an overlay entry (Table 9-5): tile, MEAN, INVFRAC, the valid part. DEDUCED (log entry 109). -/
def overlayHead (tx ty : Nat) (st : Nat × Nat) (w h : Nat) : Bytes :=
  slice (leBytes 2 tx ++ leBytes 2 ty ++ leBytes 1 st.1 ++ leBytes 1 st.2 ++ leBytes 1 w ++ leBytes 1 h) 0 64

/-- A tile's 32×32 values and confidences; outside the valid part stands the invalid code (Table 9-5). -/
def overlayTile (rows : List (List Px)) (invalid : Bytes) : Bytes :=
  let cell (x y : Nat) : Px := ((rows.getD y [])[x]?).getD ⟨invalid, 1, 0, false⟩
  let all := (List.range 32).flatMap fun y => (List.range 32).map fun x => cell x y
  (all.flatMap (·.bytes)) ++ all.flatMap fun p => leBytes 1 p.conf

/-- Refined rows of a stereo tile from both images (R333). -/
def steTileOf (b : Bytes) (left right : Plane) (tx ty : Nat) : List (List Px) :=
  let x0 := 32 * tx - 16
  let y0 := 32 * ty - 16
  let v := stereo (steCfg b true) left right x0 y0 (min left.w (32 * tx + 48) - x0) (min left.h (32 * ty + 48) - y0)
  ((v.drop (32 * ty - y0)).take 32).map fun r => ((r.drop (32 * tx - x0)).take 32).map stePx

/-- Refined rows of a stereo tile from the work window (R333, R334). -/
def State.steTile (s : State) (j : StageJob) (tx ty : Nat) : List (List Px) :=
  let b := j.block
  let w := field b 4 2
  let h := field b 6 2
  let img := up64 w * h
  let base := field b 40 8 % 2 ^ 40 + (j.frame % 2) * (2 * img)
  let pl (port : Nat) : Plane := s.storedPlane (base + port * img) w h
  steTileOf b (pl 0) (pl 1) tx ty

/-- Refined rows of a flow tile from the planes at OUT_LEVEL and the coarse vectors (R344); none is valid with no reference. -/
def floTileOf (b : Bytes) (cur : Plane) (ref : Option Plane) (coarse : List (List FloVec)) (tx ty : Nat) : List (List Px) :=
  let k := byteAt b 9
  let cell (g : Nat → Nat → Px) : List (List Px) := (List.range (min 32 (cur.h - 32 * ty))).map fun y =>
    (List.range (min 32 (cur.w - 32 * tx))).map fun x => g (32 * tx + x) (32 * ty + y)
  match ref with
  | none => cell fun _ _ => floPx k ⟨none, 0, false, (0, 1), (0, 1)⟩
  | some r =>
    let cc := censusPlane 2 cur
    let rc := censusPlane 2 r
    let vecs := (((coarse.drop (32 * ty)).take 32).flatMap fun q => (q.drop (32 * tx)).take 32).filterMap (·.v)
    let mid := if vecs.isEmpty then (0, 0) else (lowerMiddle (vecs.map (·.1)), lowerMiddle (vecs.map (·.2)))
    cell fun x y => floPx k (floRefine (floCfg b) cc rc ((((coarse.getD y [])[x]?).bind (·.v)).getD mid) x y)

/-- Refined rows of a flow tile (R344): the work window's pyramids at OUT_LEVEL. -/
def State.floTile (s : State) (i : Nat) (j : StageJob) (tx ty : Nat) : List (List Px) :=
  let b := j.block
  let k := byteAt b 9
  let (w, h) := denseSize i b
  let slot := j.floCurSlot
  let pl (slot : Nat) : Plane := s.storedPlane (floBase b slot + floOffset2 b k) w h
  let ref := if byteAt b 1 = 1 then some (pl (slot + 1)) else j.ref.map fun e => pl e.slot
  floTileOf b (pl slot) ref (s.floCoarse i j) tx ty

/-- The overlay entry of a refined cell of the matcher, whose level is `w` by `h` (R390, Table 9-5): bytes, classes and confidences,
ambiguity. -/
def matchTileOf (b : Bytes) (cur : FeatList) (ref : Option FeatList) (w h cell : Nat) : Bytes × List (Nat × Nat) × Bool :=
  let mine := cellMatches cur (matchAll b true cur ref) cell
  let st := cellStats (mine.map (·.2))
  let tx := cell % max 1 cur.tilesX
  let ty := cell / max 1 cur.tilesX
  let body := mine.flatMap fun m => leBytes 4 m.1 ++ matchEntry m.2 ++ leBytes 4 0
  (overlayHead tx ty st (min 32 (w - 32 * tx)) (min 32 (h - 32 * ty)) ++ slice body 0 (up64 (16 * cur.maxPerCell)),
    mine.map (fun m => match m.2 with | some v => (0, v.conf) | none => (1, 0)),
    matchAmb (mine.map (·.2)))

/-- The overlay entry of a refined cell of a matcher node (R390). -/
def State.matchTile (s : State) (j : StageJob) (cell : Nat) : Bytes × List (Nat × Nat) × Bool :=
  let cur := s.curList j
  let (w, h) := (((s.jobStruct j).listSource j.block).map fun d => (field d 4 2, field d 6 2)).getD (32 * cur.tilesX, 32 * cur.tilesY)
  matchTileOf j.block cur (s.refList j) w h cell

/-- The overlay entry of a tile of stereo or flow from its refined rows (Table 9-5). -/
def denseEntry (i : Nat) (rows : List (List Px)) (w h tx ty : Nat) : Bytes :=
  let inv := if i ≤ 4 then leBytes 2 0xFFFF else leBytes 2 0x8000 ++ leBytes 2 0x8000
  overlayHead tx ty (pxStats rows.flatten) (min 32 (w - 32 * tx)) (min 32 (h - 32 * ty)) ++ overlayTile rows inv

/-- Classes and confidences of refined rows (Table 6-5). -/
def pxClasses (rows : List (List Px)) : List (Nat × Nat) := rows.flatten.map fun p => (p.cls, p.conf)

/-- The overlay entry of a refined tile: bytes, classes and confidences, poison, ambiguity (R394, Table 9-5). -/
def State.refineTile (s : State) (i : Nat) (j : StageJob) (tile : Nat) : Bytes × List (Nat × Nat) × Bool × Bool :=
  if i = 8 then
    let m := s.matchTile j tile
    (m.1, m.2.1, false, m.2.2)
  else
    let (w, h) := denseSize i j.block
    let nx := max 1 (tilesOf w h).1
    let tx := tile % nx
    let ty := tile / nx
    let rows := if i ≤ 4 then s.steTile j tx ty else s.floTile i j tx ty
    (denseEntry i rows w h tx ty, pxClasses rows, rows.any rowBad, false)

/-- A refine slot ends, having processed the instance's next allotted tile or idled (R349, R389). -/
def execRefineTileSlot (stage : Fin 10) (s : State) : Host.Outcome State Fault Refusal :=
  let i := stage.val
  match s.job i with
  | some j =>
    match j.coarseAt with
    | some (g, c) =>
      let cyc := s.tileCycles i j
      let k := j.slots
      if refines (stageSrc i) j.block && !j.done && decide (k < (s.mashCfg j).1) && slotFits j g cyc k && s.due c ((k + 1) * cyc) then
        match (s.myTiles i j)[k]? with
        | some o =>
          let (bytes, px, bad, amb) := s.refineTile i j o.tile
          let s := s.mapJob i fun j => { j with
            slots := k + 1, overlay := j.overlay ++ [(bytes, bad)], overlayPx := j.overlayPx ++ px
            overlayPoison := j.overlayPoison || bad, overlayAmb := j.overlayAmb || amb }
          .next (s.mapMash j.route fun m =>
            { m with
              offers := m.offers.map fun x => if x = o then { x with refined := true } else x
              refined := satN 0xFFFFFFFF (m.refined + 1) })
        | none => .next (s.mapJob i fun j => { j with slots := k + 1 })
      else .next s
    | none => .next s
  | none => .next s

/-- The status of each tile of an instance (R392, Table 9-3). -/
def State.tileCodes (s : State) (i : Nat) (j : StageJob) (n : Nat) : List Nat :=
  let mine := (s.mash j.route).offers.filter fun o => o.frame = j.frame && o.source = stageSrc i
  let got := s.myTiles i j
  (List.range n).map fun t =>
    match mine.find? fun o => o.tile = t with
    | none => 0
    | some o => if o.poisoned then 4 else if o.refined then 1 else if got.contains o then 3 else 2

/-- Confidence and invalid share of an overlay record (Table 6-5), and its type (Table 9-5). -/
def overlayStats (px : List (Nat × Nat)) : Nat × Nat := if px.isEmpty then (0, 0) else tileStats px
def overlayType (i : Nat) : Nat := if i ≤ 4 then 0x30 else if i ≤ 6 then 0x31 else 0x32

/-- The mash close, or the coarse publication if that is later: the instance publishes its overlay record and then its tile
status map, and its node ends (R388, R391 to R395). DEDUCED (log entry 109). -/
def execMashClose (stage : Fin 10) (s : State) : Host.Outcome State Fault Refusal :=
  let i := stage.val
  match s.job i with
  | some j =>
    match j.coarseAt with
    | some (g, _) =>
      let waits := decide (j.slots < (s.myTiles i j).length) && decide (j.slots < (s.mashCfg j).1) && slotFits j g (s.tileCycles i j) j.slots
      if refines (stageSrc i) j.block && !j.done && decide (j.close ≤ s.gtcNs) && !waits then
        let cur := s.curList j
        let (w, h) := denseSize i j.block
        let (tx, ty) := if i = 8 then (cur.tilesX, cur.tilesY) else tilesOf w h
        let codes := s.tileCodes i j (tx * ty)
        let b2 := (codes.filter (· = 2)).length
        let b3 := (codes.filter (· = 3)).length
        let unref := decide (0 < b2 + b3)
        let st := overlayStats j.overlayPx
        let ctx := s.denseCtx i j
        let o := denseDesc i
        let next_ (s : State) : Nat :=
          up64 (agetD (((s.job i).map (·.laid)).getD []) o 0 - descSlot j.block o j.frame)
        let s := s.putRecord i j o (stagePort i) (next_ s)
          { typ := overlayType i, ctx := ctx, poison := j.overlayPoison, unrefined := unref, overlay := true, ambiguous := j.overlayAmb
            mean := st.1, inval := st.2, tag := j.tag }
          (leBytes 4 j.overlay.length) j.overlay
        let s := s.putRecord i j o (stagePort i) (next_ s) { typ := 0x34, ctx := ctx, unrefined := unref, overlay := true, tag := j.tag }
          (leBytes 2 tx ++ leBytes 2 ty) [(codes.flatMap (leBytes 1), false)]
        let last := (s.allotted j).length
        let s := s.mapMash j.route fun m =>
          { m with unrefBudget := satN 0xFFFF (m.unrefBudget + b2), unrefClose := satN 0xFFFF (m.unrefClose + b3), last := last }
        .next (s.endDense i j)
      else .next s
    | none => .next s
  | none => .next s

/-! Detector. -/

/-- The detector block's fields (Table 9-4). -/
def detCfg (b : Bytes) : DetCfg :=
  { level := byteAt b 2, arc := byteAt b 3, thresh := field b 8 2, maxPerCell := byteAt b 10, orient := bit (byteAt b 11) 0
    featMax := field b 12 4 }

/-- The descriptor of an FTM_FEATURES record of a `w` by `h` level (Table 9-5). -/
def featDesc (c : DetCfg) (n w h : Nat) (trunc : Bool) : Bytes :=
  slice (leBytes 4 n ++ leBytes 2 (tilesOf w h).1 ++ leBytes 2 (tilesOf w h).2 ++ leBytes 1 c.level ++ leBytes 1 c.maxPerCell
    ++ leBytes 1 (b2n trunc)) 0 32

/-- The detector publishes a context's feature record once its last line is in, in the order of the block's contexts (R312,
R357 to R365). -/
def execDetectorPublish (ctx : Fin 64) (s : State) : Host.Outcome State Fault Refusal :=
  match s.job 7 with
  | some j =>
    let b := j.block
    let cs := portCtxs 7 0 b
    let (_, w, h) := s.inputShape 7 j ctx 0
    let inp := (s.stage 7).input 0 ctx 0
    let turn := (cs.take (cs.idxOf ctx.val)).all j.published.contains
    if cs.contains ctx.val && turn && !j.published.contains ctx.val && decide (inp.lines.length = h) && !s.tastingOn 0x077 then
      let c := detCfg b
      let p := inp.plane w h
      let (fs, trunc, dropped) := detect c p
      let bad := dropped || inp.lines.any linePoison || j.patternBad
      let off := if j.published.isEmpty then 0 else up64 (agetD j.laid 32 0 - descSlot b 32 j.frame)
      let s := s.putRecord 7 j 32 (stagePort 7) off { typ := 0x20, ctx := ctx, poison := bad } (featDesc c fs.length w h trunc)
        [(fs.flatMap (featureEntry c j.pattern p), j.patternBad)]
      let s := if trunc then s.mapStage 7 fun x => { x with extra := satN 0xFFFFFFFF (x.extra + 1) } else s
      let s := s.mapJob 7 fun j => { j with published := j.published ++ [ctx.val] }
      .next (if cs.all fun x => x = ctx.val || j.published.contains x then s.jobDone 7 else s)
    else .next s
  | none => .next s

/-! Tracker. -/

/-- The planes of levels 0 and 1 of a PYR_LEVELS record, as U8 (R379): `rd` reads it from an offset on, and `bad` says which of its
bytes are poisoned; a poisoned line is poisoned throughout. -/
def pyrPlanes (rd : Nat → Nat → Bytes) (bad : Nat → Nat → Bool) : Plane × Plane :=
  let r := rd 0 64
  let w := field r 32 2
  let h := field r 34 2
  let mask := field r 36 2
  let ks := (List.range 10).filter (bit mask)
  let u8 := 64 + (ks.map fun k => up64 (levelSize w k) * levelSize h k).sum
  let n := if 64 * field r 29 3 = u8 then 1 else 2
  let plane (o k : Nat) : Plane :=
    let pw := levelSize w k
    { w := pw, h := levelSize h k, rows := (List.range (levelSize h k)).map fun y =>
        let la := o + y * up64 (pw * n)
        if bad la (pw * n) then List.replicate pw (-1)
        else (List.range pw).map fun x => (byteAt (rd (la + n * x + (n - 1)) 1) 0 : Int) }
  (plane 64 0, if bit mask 1 then plane (64 + up64 (w * n) * h) 1 else default)

/-- Those planes of a record in memory, and whether the record is poisoned. DEDUCED (log entry 108). -/
def State.readPyr (s : State) (b : Bytes) (ctx frame : Nat) : Plane × Plane × Bool :=
  match s.findRecord 0x10 ctx 16 (descSlot b 48 frame) with
  | some a =>
    let r := s.mem.read a 64
    let p := pyrPlanes (fun o n => s.mem.read (a + o) n) (fun o n => s.mem.poisoned (a + o) n)
    (p.1, p.2, bit (field r 24 2) 2 || s.mem.poisoned a (64 * field r 29 3))
  | none => (default, default, false)

/-- The tracker block's fields (Table 9-4). -/
def trkCfg (b : Bytes) (ctxs : List Nat) : TrkCfg :=
  { ctxs := ctxs, levels := byteAt b 2, search := byteAt b 3, confirmHits := byteAt b 4, maxMisses := byteAt b 5
    sadMax := byteAt b 6, birth := bit (byteAt b 7) 0, maxTracks := field b 8 2, ratio := byteAt b 10, maxDist := field b 20 2 }

/-- The live entries of a run, with their numbers (Table 9-5), the record's confidence and invalid share, and its descriptor. -/
def liveTracks (es : List (Track × Option Nat)) : List ((Track × Option Nat) × Nat) := es.zipIdx.filter fun e => e.1.1.st ≠ 0
def trackStats (es : List (Track × Option Nat)) : Nat × Nat :=
  let live := liveTracks es
  if live.isEmpty then (0, 0) else tileStats (live.map fun e => (if e.1.1.conf = 0 then 1 else 0, e.1.1.conf))
def trackDesc (es : List (Track × Option Nat)) (births deaths full copy : Nat) : Bytes :=
  slice (leBytes 4 (liveTracks es).length ++ leBytes 2 births ++ leBytes 2 deaths ++ leBytes 2 full ++ leBytes 1 copy) 0 32

/-- A tracker run ends after its fixed time (R376 to R384): it has written the other table copy, and publishes FTM_TRACKS.
DEDUCED (log entry 108). -/
def execTrackerRunDone (s : State) : Host.Outcome State Fault Refusal :=
  match s.job 9 with
  | some j =>
    let b := j.block
    let n := field b 8 2
    let from_ := if byteAt b 1 = 0 then j.completeAt.map (·.2) else some j.clk
    match from_ with
    | some c =>
      if j.done || !s.due c (1024 + 200 * n) || s.tastingOn 0x079 then .next s
      else
        let cs := (List.range (min 8 (byteAt b 0))).map fun i => byteAt b (12 + i)
        let (copy, nextId, lasts) := match j.ref with
          | some e => (some e.slot, e.nextId, e.lasts)
          | none => (none, 1, [])
        let base := field b 24 8 % 2 ^ 40
        let at_ (k : Nat) : Nat := base + k * (n * 256)
        let table : List Track := match copy with
          | some k => (List.range n).map fun i => parseTrack (s.mem.read (at_ k + 256 * i) 256)
          | none => List.replicate n {}
        let lists := cs.map fun c => (s.readList b 32 c j.frame).getD
          { frameId := j.frame, exposure := 0, level := 0, tilesX := 0, tilesY := 0, maxPerCell := 0, poison := false, feats := [] }
        let pyrs := cs.map fun c => s.readPyr b c j.frame
        let dt (c : Nat) : Nat := match alookup lasts c with
          | some f => (j.frame + 2 ^ 32 - f) % 2 ^ 32
          | none => 1
        let ins : List TrkIn := (cs.zip (lists.zip pyrs)).map fun x =>
          { ctx := x.1, dt := dt x.1, feats := x.2.1.feats, level := x.2.1.level, l0 := x.2.2.1, l1 := x.2.2.2.1 }
        let (es, nid, births, deaths, full) := trackerRun (trkCfg b cs) j.frame nextId ins table
        let live := liveTracks es
        let to_ := match copy with
          | some k => 1 - k
          | none => 0
        let badCtx := (cs.zip (lists.zip pyrs)).filterMap fun x => if x.2.1.poison || x.2.2.2.2 then some x.1 else none
        let oldBad (e : Nat) : Bool := (copy.map fun k => s.mem.poisoned (at_ k + 256 * e) 256).getD false
        let badAt (x : (Track × Option Nat) × Nat) : Bool := oldBad x.2 || badCtx.contains x.1.1.ctx
        let bad := !badCtx.isEmpty || (List.range n).any oldBad
        let stale := cs.filter fun c => decide (16 < dt c)
        let s := stale.foldl (fun s _ => s.note (stageSrc 9) 0 0x0204 (s.struct.routePart j.route) [stageSrc 9, j.route, j.frame]) s
        let p := s.jobPart j
        let s := es.zipIdx.foldl (fun s e => s.put p (at_ to_ + 256 * e.2) (trackBytes e.1.1) (badAt e)) s
        let st := trackStats es
        let ctx := match cs with
          | [c] => c
          | _ => s.jobTrigger j
        let s := s.putRecord 9 j 64 (stagePort 9) 0
          { typ := 0x22, ctx := ctx, poison := bad, ambiguous := live.any fun e => bit e.1.1.flags 0, mean := st.1, inval := st.2
            tag := cs.head? }
          (trackDesc es births deaths full to_) (live.map fun e => (trackEntry e.1.1 e.1.2, badAt e))
        let kept : Memo :=
          { owner := 64 * j.route + j.node, key := trkKey b, old := j.changed, slot := to_, nextId := nid
            lasts := cs.foldl (fun l c => aset l c j.frame) lasts }
        let s := s.mapStage 9 fun x => { x with
          live := live.length, extra := satN 0xFFFFFFFF (x.extra + full)
          tables := (x.tables.filter (·.owner ≠ kept.owner)) ++ [kept] }
        .next (s.jobDone 9)
    | none => .next s
  | none => .next s

end Sys2Proof.Machine
end

