-- ==== Sys2Proof/Machine/TmgOps.lean ====
section
/-! DEFINITION. Shared operations of the timing block: the oscillator model (P(T), ageing, holdover), GTC steps, the loop, the
selector, measurements, and the root roles of the domain. Phase errors are in 0.125 ns, frequency offsets in 0.01 ppb, words of
the DCO in 2^−48. -/

namespace Sys2Proof.Machine

/-- Y = y_F + y_P in units of 2^−48 (R511). -/
def Tmg.y (t : Tmg) : Int := t.yF + t.yP

/-- The clamp of the frequency term: ±50 ppm (R512). -/
def clampF (y : Int) : Int := clampI (-14073748835) 14073748835 y

/-- The clamp of the phase term: ±10 ppm (R512). -/
def clampP (y : Int) : Int := clampI (-2814749767) 2814749767 y

/-- The timing block runs: it is held in reset until the main rails have been good, and while main power is lost (R45, R75). -/
def State.tmgRuns (s : State) : Bool := s.pwr.mainGood

/-! The oscillator. -/

/-- P(T) in 2^−48, for a temperature in 1/16 °C (Holdover). -/
def State.curve (s : State) (temp : Int) : Int :=
  let x := temp - 400
  let c (i : Nat) : Int := Config.factoryCal 0 i
  let n := s.cal.value 0x0001 0 * (10 ^ 7 * 65536) + s.cal.value 0x0002 0 * (10 ^ 6 * 4096) * x + c 2 * (10 ^ 4 * 256) * x ^ 2 +
    c 3 * (10 ^ 2 * 16) * x ^ 3 + c 4 * x ^ 4
  roundAway (n * 2 ^ 32) (10 ^ 16)

/-- The ageing fit is valid (R534). -/
def State.fitValid (s : State) : Bool := decide (24 ≤ s.ret.record.ageing.length)

/-- Seconds since the first hour recorded in the holdover history. -/
def State.ageSeconds (s : State) (gtcSec : Nat) : Nat :=
  gtcSec - ((s.ret.record.ageing.getLast?).map (·.1)).getD gtcSec

/-- A(t) now in 2^−48, 0 while the fit is not valid (R536, Table 12-5). -/
def State.ageing (s : State) : Int :=
  if s.fitValid then
    let l := Config.lnDays (s.ageSeconds (s.gtcNs / 1000000000))
    roundAway ((s.tmg.fitA * l + s.tmg.fitB * 2 ^ 32) * 2 ^ 16) (10 ^ 12)
  else 0

/-- The least-squares fit of a and b to the hourly means, in 0.001 ppb (the ageing term). -/
def State.refit (s : State) : State :=
  let pts := s.ret.record.ageing.map fun p => (Config.lnDays (s.ageSeconds p.1), p.2)
  let n : Int := pts.length
  let sum (g : Int × Int → Int) : Int := (pts.map g).foldl (· + ·) 0
  let sx := sum (·.1)
  let sy := sum (·.2)
  let sxx := sum fun p => p.1 * p.1
  let sxy := sum fun p => p.1 * p.2
  let det := n * sxx - sx * sx
  let a := if 0 < det then roundAway ((n * sxy - sx * sy) * 2 ^ 32) det else 0
  let b := if 0 < n then roundAway (sy * 2 ^ 32 - a * sx) (n * 2 ^ 32) else 0
  { s with tmg := { s.tmg with fitA := a, fitB := b } }

/-- Enter a loop state, keeping TMG_HOLD and the clock of the lock (Table 12-5, Table 12-8). -/
def State.setLoop (s : State) (l : LoopSt) : State :=
  let t := s.tmg
  let t := match t.holdAt with
    | some a => if l = LoopSt.holdover then t else { t with holdAt := none, holdLast := satN 0xFFFFFFFF ((s.clk - a) / secTicks 1) }
    | none => if l = LoopSt.holdover then { t with holdAt := some s.clk } else t
  let t := if l = LoopSt.locked ∧ t.loop ≠ LoopSt.locked then { t with lockedAt := s.clk } else t
  { s with tmg := { t with loop := l } }

/-- y_F of FREE_RUN (Table 12-5). -/
def State.freeRunF (s : State) : Int := clampF (-(s.curve s.tmg.temp) - s.ageing)

/-- y_F of HOLDOVER (R536). -/
def State.holdF (s : State) : Int :=
  clampF (s.tmg.ye - (s.curve s.tmg.temp - s.curve s.tmg.te) - (if s.fitValid then s.ageing - s.tmg.ageE else 0))

/-- The samples of R535's window in which the loop was LOCKED. DEDUCED (log entry 81). -/
def State.lockedSamples (s : State) : List (Int × Int) :=
  (s.tmg.hist.filter fun h => h.2.2.2 && decide (s.clk ≤ h.1 + secTicks 62) && decide (h.1 + secTicks 2 ≤ s.clk)).map fun h => (h.2.1, h.2.2.1)

/-- The mean of numbers, 0 of none. -/
def meanI (l : List Int) : Int := if l.isEmpty then 0 else roundAway (l.foldl (· + ·) 0) l.length

/-- Follow no input: HOLDOVER under R535 when the loop was LOCKED for 10 s of the window, else FREE_RUN.
DEDUCED (log entry 81). -/
def State.enterHold (s : State) : State :=
  let w := s.lockedSamples
  let s := { s with tmg := { s.tmg with yP := 0, good := 0, bad := 0 } }
  if 100 ≤ w.length then
    let s := { s with tmg := { s.tmg with ye := meanI (w.map (fun (p : Int × Int) => p.1)), te := meanI (w.map (fun (p : Int × Int) => p.2)), ageE := s.ageing } }
    let s := { s with tmg := { s.tmg with yF := s.holdF } }
    s.setLoop .holdover
  else ({ s with tmg := { s.tmg with yF := s.freeRunF } } : State).setLoop .freeRun

/-! Steps. -/

/-- Step the GTC by `d` units of 2^−48 ns (R529, R531, TMG_STEP): the entry closes the old scale and the present GTC second
(R688, R690); HOLD_PHASE counters stay (R546). DEDUCED (log entry 76). -/
def State.stepGtc (s : State) (d : Int) : State :=
  let g := (((s.tmg.gtc : Int) + d) % (2 ^ 112 : Int)).toNat
  let after := g / 2 ^ 48 % 2 ^ 64
  let s := s.note 0x000 0 0x0003 0 [s.gtcNs, after]
  let l := s.log.endSecond s.gtcNs
  { s with
    log := { l with steps := (l.steps + 1) % 65536, second := after / 1000000000 }
    tmg := { s.tmg with gtc := g, ins := s.tmg.ins.map fun (x : TmgIn) => { x with seen := false } } }

/-! Inputs. -/

/-- The input. -/
def State.input (s : State) (i : Nat) : TmgIn := (s.tmg.ins[i]?).getD {}

/-- Change an input. -/
def State.mapInput (s : State) (i : Nat) (g : TmgIn → TmgIn) : State :=
  { s with tmg := { s.tmg with ins := s.tmg.ins.mapIdx fun j x => if j = i then g x else x } }

/-- An input recovered from a Lanicy port. -/
def isLnkInput (i : Nat) : Bool := decide (4 ≤ i) && decide (i < 12)

/-- PRIORITY in force of an input; 0 disabled (Table 5-9). -/
def Struct.inputPrio (t : Struct) (i : Nat) : Nat := ((t.timeInput i).map (byteAt · 5)).getD 0

/-- BW of an input in mHz. -/
def Struct.inputBw (t : Struct) (i : Nat) : Nat := ((t.timeInput i).map (field · 8 4)).getD 0

/-- 2^n s in ns, for n from −7 on. -/
def logNs (n : Int) : Nat := 1000000000 * 2 ^ (n + 7).toNat / 128

/-- The measurement interval T of an input in ns (Table 12-2). -/
def State.interval (s : State) (i : Nat) : Nat := if i < 2 then 1000000000 else if i < 12 then 1000000 else max 1 (logNs s.tmg.ptpLog)

/-- The qualification period of an input (Table 12-2). -/
def qualTicks (i : Nat) : Nat := if i < 2 ∨ i = 12 then secTicks 10 else secTicks 2

/-- The calibrated path delay of an input in 0.125 ns (Table 3-7); Lanicy inputs have none. -/
def State.inDelay (s : State) (i : Nat) : Int :=
  if i < 4 then s.cal.value 0x0030 i else if i = 12 then s.cal.value 0x0030 4 else 0

/-- The rank of an input but for its number (R522). -/
def State.rank (s : State) (i : Nat) : List Nat :=
  [s.struct.inputPrio i, (s.input i).ql, if isLnkInput i then (s.input i).hops else 0]

/-- The best AVAILABLE input (R522): of equal ones the lowest number. -/
def State.bestInput (s : State) (p : Nat → Bool) : Option (Fin 13) :=
  minBy (fun a b => decide (s.rank a < s.rank b))
    ((List.finRange 13).filter fun (i : Fin 13) => (s.input i).st = .available && p i)

/-- The choice of the selector (R523 to R525). DEDUCED (log entry 76). -/
def State.choose (s : State) : Option (Fin 13) :=
  let best := s.bestInput fun _ => true
  match s.tmg.sel with
  | none => best
  | some i =>
    if (s.input i).st = .available then
      match best with
      | some b => if bit (s.struct.boardField 23 1) 0 && decide (s.rank b < s.rank i) then some b else some i
      | none => some i
    else best

/-- The input carries time of day (R518, R529): PTP and Lanicy inputs; a PPS input only with TMG_TOD. -/
def carriesTod (i : Nat) : Bool := decide (4 ≤ i)

/-- The input is a source of TAI (R530). -/
def State.taiSource (s : State) (i : Nat) : Bool := i = 12 || (isLnkInput i && (s.input i).taiValid)

/-- The step of R529 to an input's time, whose phase error is `e`; GTC_SET as R530 says. DEDUCED (log entry 76). -/
def State.stepToInput (s : State) (i : Nat) (e : Int) : State :=
  let s := s.stepGtc (e * 2 ^ 45)
  { s with
    tmg := { s.tmg with retLoaded := false }
    top := { s.top with gtcSet := s.top.gtcSet || s.taiSource i } }

/-- The selector acts (R522 to R526): a change of SELECTED counts, is logged, keeps y_F, and in MODE 0 starts following the
new input or enters holdover. -/
def State.reselect (s : State) : State :=
  let new := s.choose
  if new = s.tmg.sel then s
  else
    let num (o : Option (Fin 13)) : Nat := match o with | some i => i.val | none => 0xF
    let s := s.note 0x000 0 0x0500 0 [num s.tmg.sel, num new]
    let s := { s with tmg := { s.tmg with sel := new, switches := satN 0xFFFFFFFF (s.tmg.switches + 1) } }
    match new with
    | none => if s.tmg.mode = 0 then s.enterHold else s
    | some i =>
      let s := if i.val = 2 ∨ i.val = 3 then s.mapInput i fun x => { x with held := x.held + x.phase } else s
      if s.tmg.mode = 0 then
        let s := if s.tmg.loop = .locked ∨ s.tmg.loop = .acquiring then s else s.setLoop .acquiring
        if !s.top.gtcSet && carriesTod i then s.stepToInput i (s.input i).phase else s
      else s

/-- An input fails a criterion (R520, Table 12-10): 1 activity, 2 frequency, 3 phase jump, 4 QL 15, 5 domain rule. -/
def State.failInput (s : State) (i code : Nat) : State :=
  if (s.input i).st = .disabled then s
  else (s.mapInput i fun x => { x with st := .failed, fail := code }).reselect

/-- An input becomes AVAILABLE (R520). -/
def State.makeAvailable (s : State) (i : Nat) : State :=
  (s.mapInput i fun x => { x with st := .available, was := true, availAt := s.clk }).reselect

/-! The loop. -/

/-- Kp × e in 2^−48 (R527), for e in 0.125 ns and T in ns. DESIGN CHOICE (log entry 79). -/
def loopKp (bw t : Nat) (e : Int) : Int :=
  let r := Config.loopR bw t
  roundAway ((2 ^ 48 - r * r / 2 ^ 48) * e) (8 * t)

/-- Ki × e in 2^−48 (R527). DESIGN CHOICE (log entry 79). -/
def loopKi (bw t : Nat) (e : Int) : Int :=
  let r := Config.loopR bw t
  roundAway ((2 ^ 48 - 2 * r * Config.loopCos bw t / 2 ^ 48 + r * r / 2 ^ 48) * e) (8 * t)

/-- LOOP_STATE after a measurement (Table 12-5): ten successive errors within 100 ns lock, ten beyond 200 ns unlock. -/
def State.judgeLock (s : State) (e : Int) : State :=
  let good := if -800 ≤ e ∧ e ≤ 800 then s.tmg.good + 1 else 0
  let bad := if e < -1600 ∨ 1600 < e then s.tmg.bad + 1 else 0
  let s := { s with tmg := { s.tmg with good := good, bad := bad } }
  if s.tmg.loop = .acquiring ∧ 10 ≤ good then s.setLoop .locked
  else if s.tmg.loop = .locked ∧ 10 ≤ bad then s.setLoop .acquiring
  else s

/-- A step that a measurement of the followed input calls for, and the error that is left (R529, R531, R533). -/
def State.stepOnMeasure (s : State) (i : Nat) (e : Int) : State × Int :=
  if !s.top.gtcSet && carriesTod i && (decide (8000 < e) || decide (e < -8000) || s.taiSource i) then (s.stepToInput i e, 0)
  else if s.tmg.retLoaded then
    let s := { s with tmg := { s.tmg with retLoaded := false } }
    if e < -8000000 ∨ 8000000 < e then
      if s.top.armed then ({ s with tmg := { s.tmg with stepRefused := true } }, e)
      else (s.stepGtc (e * 2 ^ 45), 0)
    else (s, e)
  else (s, e)

/-- The loop runs on a measurement of the selected input in MODE 0 (R527, R528, R538). -/
def State.loopMeasure (s : State) (i : Nat) (e : Int) : State :=
  if s.tmg.mode = 0 ∧ s.tmg.sel.map (·.val) = some i then
    let (s, e) := s.stepOnMeasure i e
    let bw := s.struct.inputBw i
    let t := s.interval i
    let s := { s with tmg := { s.tmg with yP := clampP (loopKp bw t e), yF := clampF (s.tmg.yF + loopKi bw t e) } }
    s.judgeLock e
  else s

/-- The signed 32-bit range, saturating. -/
def satS32 (v : Int) : Int := clampI (-2147483648) 2147483647 v

/-- A measurement of an input (R515, R516, R519, R520): phase error, frequency offset, and the criterion it fails (0 none).
DEDUCED (log entry 76). -/
def State.measure (s : State) (i : Nat) (e freq : Int) (jump domainOk : Bool) : State :=
  let x := s.input i
  if x.st = .disabled then s
  else
    let fail :=
      if freq < -460000 ∨ 460000 < freq then 2
      else if jump then 3
      else if x.ql = 15 then 4
      else if !domainOk then 5
      else 0
    let s := s.mapInput i fun x => { x with phase := satS32 e, freq := satS32 freq, seen := true, at_ := s.clk }
    if 0 < fail then s.failInput i fail
    else
      let s := if x.st = .failed then s.mapInput i fun x => { x with st := .qualifying, qualAt := s.clk } else s
      s.loopMeasure i e

/-- A phase error that changed by 1 µs or more since the last measurement (Table 12-2). DEDUCED (log entry 75). -/
def TmgIn.jumped (x : TmgIn) (predicted e : Int) : Bool := x.seen && (decide (8000 ≤ e - predicted) || decide (e - predicted ≤ -8000))

/-! The domain. -/

/-- TIME_ROOT and TIME_BACKUP (Table 5-9). -/
def Struct.timeRoot (t : Struct) : Nat := t.boardField 14 1
def Struct.timeBackup (t : Struct) : Nat := t.boardField 15 1

/-- The board ID of the acting root (R554, R719). DEDUCED (log entry 77). -/
def State.actingRoot (s : State) : Nat := if s.tmg.backupActs then s.struct.timeBackup else s.struct.timeRoot

/-- This board acts as root (R719). DEDUCED (log entry 77). -/
def State.rootActs (s : State) : Bool := s.struct.boardCore.isSome && decide (s.actingRoot = s.struct.boardId)

/-- A board acting as root treats its Lanicy inputs as FAILED (R552). -/
def State.failLanicy (s : State) : State :=
  if s.rootActs then
    ((List.range 8).foldl (fun s k =>
      if (s.input (4 + k)).st = .disabled then s else s.mapInput (4 + k) fun x => { x with st := .failed, fail := 5 }) s).reselect
  else s

/-- A role of the domain changes (R554): a change of this board's own role is logged.
DEDUCED (log entry 77). DESIGN CHOICE (log entry 92). -/
def State.setBackupActs (s : State) (v : Bool) : State :=
  let was := s.rootActs
  let s := { s with tmg := { s.tmg with backupActs := v } }
  let s := if was = s.rootActs then s else s.note 0x000 0 (Config.eventCode "time root role") 0 [b2n s.rootActs]
  s.failLanicy

/-- The Lanicy input meets the domain rules (R552, R553). -/
def State.domainOk (s : State) (i : Nat) : Bool :=
  let x := s.input i
  !s.rootActs && x.timeValid && decide (x.rootId = s.actingRoot) && decide (x.hops < 14)

/-- What a peer's TIME message says (R552 to R554, Table 12-3). -/
def State.hearTime (s : State) (port : Nat) (m : TimeMsg) : State :=
  let i := 4 + port
  let s := s.mapInput i fun x => { x with
    hops := m.hops % 16, rootId := m.rootId % 256, timeValid := m.timeValid, taiValid := m.taiValid, isRoot := m.isRoot, ql := m.rootQl % 16 }
  let t := s.struct
  let s :=
    if t.boardCore.isNone then s
    else if t.boardId = t.timeRoot then
      (if m.timeValid && decide (m.rootId ≠ t.timeRoot) && !s.tmg.backupActs && decide (t.timeRoot ≠ t.timeBackup) && decide (m.rootId = t.timeBackup) && m.isRoot
        then s.setBackupActs true else s)
    else if s.tmg.backupActs && !s.fab.lost.contains t.timeRoot && decide (m.rootId = t.timeRoot) && (m.isRoot || decide (t.boardId ≠ t.timeBackup)) then
      s.setBackupActs false
    else s
  let x := s.input i
  if x.st ≠ .disabled ∧ x.st ≠ .failed then
    if x.ql = 15 then s.failInput i 4 else if !s.domainOk i then s.failInput i 5 else s
  else s

/-- The HOPS this board sends (Table 12-7): 0 at the root, else its selected Lanicy input's plus 1. DEDUCED (log entry 78). -/
def State.hopsSent (s : State) : Nat :=
  if s.rootActs then 0
  else match s.tmg.sel with
    | some i => if isLnkInput i then min 15 ((s.input i).hops + 1) else 15
    | none => 15

/-- The bytes of a TIME message from its SUBTYPE on (Table 12-7). DEDUCED (log entry 78). -/
def State.timeMsg (s : State) (subtype seqNo t1 t2 t3 : Nat) : Bytes :=
  let follows : Bool := s.tmg.loop ≠ .software && (s.rootActs || s.tmg.sel.isSome)
  let selLnk := match s.tmg.sel with | some i => if isLnkInput i then some (s.input i) else none | none => none
  let ql :=
    if s.rootActs then
      (if s.tmg.loop = .holdover then 12 else match s.tmg.sel with | some i => (s.input i).ql | none => 14)
    else (selLnk.map (·.ql)).getD 15
  let root := if s.rootActs then s.struct.boardId else (selLnk.map (·.rootId)).getD 0
  leBytes 1 subtype ++ leBytes 1 (b2n follows + 2 * b2n s.top.gtcSet + 4 * b2n s.rootActs) ++ leBytes 1 s.hopsSent ++ leBytes 1 ql ++
    leBytes 1 root ++ [0] ++ leBytes 2 seqNo ++ leBytes 8 t1 ++ leBytes 8 t2 ++ leBytes 8 t3 ++ List.replicate 16 0

/-! Outputs. -/

/-- The output. -/
def State.output (s : State) (o : Nat) : TmgOut := (s.tmg.outs[o]?).getD {}

/-- Change an output. -/
def State.mapOutput (s : State) (o : Nat) (g : TmgOut → TmgOut) : State :=
  { s with tmg := { s.tmg with outs := s.tmg.outs.mapIdx fun j x => if j = o then g x else x } }

/-- The bit of PWR_PIN_EN of an output (Table 2-12). -/
def outPin (o : Nat) : Nat := if o < 8 then 12 + o else 4

/-- TMG_OUT_DEV: H − GTC in ns for a HOLD_PHASE output, else 0 (R545). -/
def State.outDev (s : State) (o : Nat) : Int :=
  let x := s.output o
  if x.mode = 2 then signed 112 (unsigned 112 ((x.h : Int) - (s.tmg.gtc : Int))) / 2 ^ 48 else 0

/-- The counter an output's schedule runs on, in 0.125 ns: the GTC, or H in HOLD_PHASE (R543, R544), advanced by the calibrated
path delay of PPS_OUT (R548). -/
def State.outClock (s : State) (o : Nat) : Int :=
  let x := s.output o
  ((if x.mode = 2 then x.h else s.tmg.gtc) / 2 ^ 45 : Nat) + (if o = 8 then s.cal.value 0x0030 5 else 0)

/-- The period of FREQ_OUT in 0.125 ns: 25 MHz or 10 MHz (Table 5-9, R548). -/
def Struct.freqPeriod (t : Struct) : Nat := if t.boardField 22 1 = 1 then 320 else 800

/-- A FREQ_OUT of a period is in the low half of it (R548). -/
def State.freqLowAt (s : State) (period : Nat) : Bool :=
  decide ((period : Int) ≤ 2 * (((s.tmg.gtc / 2 ^ 45 : Nat) + s.cal.value 0x0030 6) % (period : Int)))

/-- FREQ_OUT is in the low half of its period (R548); one that finishes its pulse keeps the period it had (R80). -/
def State.freqLow (s : State) : Bool :=
  s.freqLowAt (if s.pwr.finishing.getLsbD 5 then s.pwr.finishPeriod else s.struct.freqPeriod)

/-- The counter stands at an instant of the schedule S + OFFSET + n × PERIOD, within the 2.5 ns of R514. -/
def onSchedule (c offset : Int) (period : Nat) : Bool :=
  let sec : Int := 8000000000
  [-1, 0, 1].any fun k =>
    let x := c - (c / sec + k) * sec - 8 * offset
    let p : Int := 8 * period
    let n := (x + 20) / p
    decide (0 < p) && decide (0 ≤ n) && decide (n * p < sec) && decide (-20 ≤ x - n * p) && decide (x - n * p ≤ 20)

end Sys2Proof.Machine
end

