-- ==== Sys2Proof/Machine/Clock.lean ====
section
/-! DEFINITION. What a TMG cycle of 1.25 ns does: the GTC and the counters of HOLD_PHASE outputs advance (R511, R544), and
partition events whose stamp has passed send their messages (R148), and a withdrawn FREQ_OUT ends its pulse (R80). -/

namespace Sys2Proof.Machine

/-- A step of nominally 1.25 ns scaled by a frequency word, in 2^−48 ns: 1.25 × (1 + w). The fraction of a unit is
dropped or rounded up as the board does. -/
def cycleStep (w : Int) (up : Bool) : Nat :=
  (5 * 2 ^ 46 + (5 * w) / 4 + (if up && (5 * w) % 4 ≠ 0 then 1 else 0) : Int).toNat

/-- One TMG cycle of the counters. DESIGN CHOICE (log entry 1). -/
def Tmg.cycle (t : Tmg) (n : Nat) : Tmg :=
  { t with
    gtc := (t.gtc + cycleStep t.y (Config.accRoundUp n)) % 2 ^ 112
    outs := t.outs.map fun o => { o with h := (o.h + cycleStep t.yF (Config.accRoundUp n)) % 2 ^ 112 } }

/-- A FREQ_OUT whose enable was withdrawn goes high-impedance at the end of its high half (R80). -/
def State.endFreqPulse (s : State) : State :=
  if s.pwr.finishing.getLsbD 5 && s.freqLow then { s with pwr := { s.pwr with finishing := setBit s.pwr.finishing 5 false } } else s

/-- A TMG cycle: the counters advance, and FREQ_OUT changes its level where a half period ends (R511, R548, R80). -/
def State.tmgCycle (s : State) : State :=
  let t := { s with tmg := s.tmg.cycle s.clk }
  let t := if t.freqLow ≠ s.freqLow ∧ s.pinOn 5 = true then t.emit (.edge 9 s.freqLow) else t
  t.endFreqPulse

/-- PWR measures 48V_IN every 10 ms while AUX_3V3 is present (Table 2-11). DESIGN CHOICE (log entry 139). -/
def State.measureVin (s : State) : State :=
  if s.pwr.auxGood && (s.clk - s.pwr.auxAt) % msTicks 10 = 0 then
    { s with pwr := { s.pwr with vin100 := BitVec.ofNat 16 (satN 0xFFFF (s.pwr.vinMv / 100)) } }
  else s

/-- The verification of a PROGRAM image ends: its writing starts, or RESULT says why not (R120, Table 3-16 step 5).
DESIGN CHOICE (log entry 141). -/
def State.endVerify (s : State) : State :=
  if s.top.recovery && s.recov.st = .verifying && !s.recov.running then
    match s.recCheck ⟨s.recov.comp.toNat, s.recov.comp.isLt⟩ with
    | some r => s.recFail r
    | none => { s with recov := { s.recov with st := .writing } }
  else s

/-- The message engines send the chunks that are due (R153, R156). DESIGN CHOICE (log entry 150). -/
def State.runMessages (s : State) : State := (List.range 8).foldl (fun s n => s.runMessage n) s

/-- A core that stands empty beside a preempted task goes on with it once no reserved slot is open there (R245, R441).
DEDUCED (log entry 161). -/
def State.resumeTasks (s : State) : State :=
  if s.nec.cores.toList.any fun x => x.task.isNone && !x.saved.isEmpty then
    (List.range 64).foldl (fun s c =>
      if (s.core c).task.isNone && !(s.core c).saved.isEmpty && !s.slotOpen (srcCore c) then s.nextTask c else s) s
  else s

/-- One cycle of the board's clock: the firmware steps of a boot that are due are done, and what is timed by the clock advances.
DESIGN CHOICE (log entries 1, 131, 138). DEDUCED (log entry 161). -/
def State.tick (s : State) : State :=
  let s := { s with clk := s.clk + 1 }
  let s := if s.tmgRuns then s.tmgCycle else s
  s.bootNow.endVerify.measureVin.runMessages.resumeTasks.offerMatches.sendEvents

end Sys2Proof.Machine
end

