-- ==== Sys2Proof/Machine/Camera.lean ====
section
/-! DEFINITION. Camera ingest and the image pipes (R268 to R299): frame starts and ends, lines, the pipes' line by line work;
and the sensor control buses (R301, R302). -/

namespace Sys2Proof.Machine

/-- A camera context. -/
def State.ctx (s : State) (c : Nat) : Ctx := (s.cin.ctxs[c]?).getD {}

/-- Change a camera context. -/
def State.mapCtx (s : State) (c : Nat) (g : Ctx → Ctx) : State :=
  { s with cin := { s.cin with ctxs := s.cin.ctxs.setIfInBounds c (g (s.ctx c)) } }

/-- Change a camera port. -/
def State.mapCam (s : State) (p : Nat) (g : Port → Port) : State :=
  { s with cin := { s.cin with ports := s.cin.ports.setIfInBounds p (g ((s.cin.ports[p]?).getD {})) } }

/-- The contexts bound to a port and virtual channel (R273). -/
def State.ctxsOn (s : State) (port vc : Nat) : List Nat :=
  (List.range 64).filter fun c => ((s.struct.context c).map fun r => byteAt r 5 = port && byteAt r 6 = vc).getD false

/-- WIDTH and HEIGHT of a context (Table 5-15). -/
def State.ctxSize (s : State) (c : Nat) : Nat × Nat :=
  let r := (s.struct.context c).getD []
  (field r 10 2, field r 12 2)

/-- A packet reaches a port that a PORT record runs (R268). DEDUCED (log entry 101). -/
def State.camHears (s : State) (port : Nat) : Bool := (s.struct.port port).isSome

/-- A packet whose header is past correction is discarded and counted (R272). DEDUCED (log entry 101). -/
def State.badHeader (s : State) (port : Nat) : State :=
  s.mapCam port fun p => { p with hsActive := true, hdr := satN 0xFFFF (p.hdr + 1) }

/-- Traffic has been seen on a port. -/
def State.active (s : State) (port : Nat) : State := s.mapCam port fun p => { p with hsActive := true }

/-- The open frame of a context: the last one, when it has not closed. -/
def Ctx.openFrame (x : Ctx) : Option CtxFrame := x.frames.getLast?.filter fun f => f.closed.isNone

/-- Change the frame of a context with this number. -/
def Ctx.mapFrame (x : Ctx) (id : Nat) (g : CtxFrame → CtxFrame) : Ctx :=
  { x with frames := x.frames.map fun f => if f.id = id then g f else f }

/-- The lines of a context's frame that still wait in a receive buffer. -/
def State.linesWaiting (s : State) (c id : Nat) : Bool :=
  s.cin.ports.toList.any fun p => p.waiting.any fun l => l.ctx = c && l.frame = id

/-- What the pipe works on for a frame. -/
def State.pipeIn (s : State) (c : Nat) (f : CtxFrame) : PipeIn :=
  let r := (s.struct.context c).getD []
  { set := f.set, dt := byteAt r 7, width := field r 10 2, height := field r 12 2, rows := f.rows }

/-- Output line `y` depends on a poisoned input line: the pipe reads the lines from y − r to y + r (R277, R282).
DEDUCED (log entry 103). -/
def CtxFrame.poisonAt (f : CtxFrame) (r y : Nat) : Bool := ((f.rowPoison.drop (y - r)).take (y + r + 1 - (y - r))).any fun b => b

/-- Send output line `y` of a frame on both outputs of its pipe; the chroma of a semi-planar format waits (R298, Output
formats). DEDUCED (log entry 103). -/
def State.emitLine (s : State) (c pipe : Nat) (f : CtxFrame) (y : Nat) : State × List (Nat × Bytes × Bool) :=
  let p := s.pipeIn c f
  (List.range 2).foldl (fun (a : State × List (Nat × Bytes × Bool)) o =>
    let fmt := byteAt f.set (5 + o)
    if fmt = 0 then a
    else
      let bad := f.poisonAt (p.reach fmt)
      let chroma := ((outChroma p fmt y).map fun b => [(o, b, bad y || (decide (fmt = 0x02 ∨ fmt = 0x03) && bad (y - 1)))]).getD []
      (a.1.pipeLine (2 * pipe + o) c f.id y 0 (outFirst p fmt y) (bad y), a.2 ++ chroma)) (s, [])

/-- The chroma lines of a frame follow its luma lines (Output formats): those of output `o` are numbered from HEIGHT on.
DEDUCED (log entry 103). -/
def State.emitChroma (s : State) (c pipe : Nat) (f : CtxFrame) : State :=
  (List.range 2).foldl (fun s o =>
    let l := f.chroma.filter (·.1 = o)
    l.zipIdx.foldl (fun s x => s.pipeLine (2 * pipe + o) c f.id ((s.ctxSize c).2 + x.2) 1 x.1.2.1 x.1.2.2) s) s

/-- Send the output lines of a context's frame that are due: line y once line y + 4 is processed by the stages before the demosaic, or once the frame has closed
and no line of it waits; a closed frame then sends its chroma lines and, when it closed short, its closing beat (R278,
R282). -/
def State.emitFrame (s : State) (c id : Nat) : State :=
  match (s.ctx c).frames.find? (·.id = id), s.struct.context c with
  | some f, some r =>
    let pipe := byteAt r 8
    let over_ := f.closed.isSome && !s.linesWaiting c id
    let n := if over_ then f.rows.length else f.rows.length - (4 + (s.pipeIn c f).ahead)
    let (s, f) := (List.range (n - f.emitted)).foldl (fun (a : State × CtxFrame) k =>
      let (s, ch) := a.1.emitLine c pipe a.2 (f.emitted + k)
      (s, { a.2 with chroma := a.2.chroma ++ ch })) (s, f)
    let f := { f with emitted := max n f.emitted }
    if over_ then
      let s := s.emitChroma c pipe f
      let s := if f.closed = some true then
          (List.range 2).foldl (fun s o =>
            if byteAt f.set (5 + o) = 0 then s else s.closeBeat (2 * pipe + o) c id (fun _ => true) (leBytes 4 f.arrived) true) s
        else s
      s.mapCtx c fun x => { x with frames := x.frames.filter (·.id ≠ id) }
    else s.mapCtx c fun x => x.mapFrame id fun _ => f
  | _, _ => s

/-- The open frame of a context closes, whole or short (R277, R278). DEDUCED (log entry 101). -/
def State.closeFrame (s : State) (c : Nat) (short : Bool) : State :=
  match (s.ctx c).openFrame with
  | none => s
  | some f =>
    let s := s.mapCtx c fun x =>
      { x.mapFrame f.id (fun f => { f with closed := some short }) with
        fallback := f.fallback, longLine := f.longLine, extraLines := f.extraLines, lines := f.arrived
        short := if short then satN 0xFFFFFFFF (x.short + 1) else x.short }
    s.emitFrame c f.id

/-- GTC_EXPOSURE of a frame that starts now under a set, and whether the rule of EXPO_SOURCE 0 stands in (R275, R276). -/
def State.exposureNow (s : State) (set : Bytes) : Nat × Bool :=
  let src := byteAt set 4
  let minus (g : Nat) : Nat := (g + 2 ^ 64 - field set 8 4) % 2 ^ 64
  if src = 0 then (minus s.gtcNs, false)
  else
    match (s.tmg.outs[src - 1]?).map fun o => (o.lastEdge, o.edgeAt) with
    | some (some g, some c) => if s.clk ≤ c + secTicks 1 then (minus g, false) else (minus s.gtcNs, true)
    | _ => (minus s.gtcNs, true)

/-- The set that governs a frame that starts now: the shadow, but the active copy when the shadow was written in this very cycle (R283,
R285). DEDUCED (log entry 162). -/
def Ctx.governing (x : Ctx) (clk : Nat) : Bytes := if x.shadowAt = some clk then x.active else x.shadow

/-- A frame-start event of one context (R217, R273 to R276, R278, R283, R285): an open frame closes short, the shadow becomes
active, a frame opens, and the routes take the event. DEDUCED (log entry 101). -/
def State.startCtx (s : State) (c : Nat) : State :=
  let s := s.closeFrame c true
  let x := s.ctx c
  let id := x.events % 2 ^ 32
  let set := x.governing s.clk
  let (e, fb) := s.exposureNow set
  let f : CtxFrame := { id := id, start := s.gtcNs, exposure := e, set := set, fallback := fb }
  let s := s.mapCtx c fun x => { x with
    events := x.events + 1, active := set, frames := x.frames ++ [f], recent := ((id, s.gtcNs, e) :: x.recent).take 16 }
  s.frameStartEvent c id s.gtcNs e

/-- A Frame Start packet (R272, R273). DEDUCED (log entry 101). -/
def execFrameStart (port vc : Fin 16) (h : HdrEcc) (s : State) : Host.Outcome State Fault Refusal :=
  if !s.camHears port then .next s
  else if h = .bad then .next (s.badHeader port)
  else .next ((s.ctxsOn port vc).foldl State.startCtx (s.active port))

/-- A Frame End packet (Table 7-3): the open frame closes, short when lines are missing. -/
def execFrameEnd (port vc : Fin 16) (h : HdrEcc) (s : State) : Host.Outcome State Fault Refusal :=
  if !s.camHears port then .next s
  else if h = .bad then .next (s.badHeader port)
  else
    let one (s : State) (c : Nat) : State :=
      let short := ((s.ctx c).openFrame.map fun f => f.cut || decide (f.arrived < (s.ctxSize c).2)).getD false
      s.closeFrame c short
    .next ((s.ctxsOn port vc).foldl one (s.active port))

/-- The bytes a line takes in the receive buffer, packed as received. DEDUCED (log entry 102). -/
def lineSize (dt n : Nat) : Nat :=
  if dt = 0x1E then 2 * n else if dt = 0x24 then 3 * n else (n * rawDepth dt + 7) / 8

/-- The waiting lines of a pipe's contexts. -/
def State.pipeWaiting (s : State) (pipe : Nat) : List (Nat × WaitLine) :=
  s.cin.ports.toList.zipIdx.flatMap fun p =>
    (p.1.waiting.filter fun l => (s.struct.context l.ctx).map (byteAt · 8) = some pipe).map fun l => (p.2, l)

/-- ISP_PIPE_BACKLOG keeps the largest number of waiting lines (Table 7-8). -/
def State.noteBacklog (s : State) (pipe : Nat) : State :=
  let x := (s.cin.pipes[pipe]?).getD {}
  { s with cin := { s.cin with pipes := s.cin.pipes.setIfInBounds pipe { x with backlog := max x.backlog (s.pipeWaiting pipe).length } } }

/-- A long packet reaches its context (R270, Table 7-3): its line is padded or cut to WIDTH and waits in the port's 128 KiB
receive buffer; with the buffer full the rest of the frame is discarded. -/
def State.takeLinePacket (s : State) (port c dt : Nat) (pixels : List Nat) (bad : Bool) : State :=
  match (s.ctx c).openFrame with
  | none => s
  | some f =>
    let (w, h) := s.ctxSize c
    let set (g : CtxFrame → CtxFrame) : State := s.mapCtx c fun x => x.mapFrame f.id g
    if f.cut then s
    else if h ≤ f.arrived then set fun f => { f with extraLines := true }
    else
      let used := ((((s.cin.ports[port]?).getD {}).waiting).map (·.size)).sum
      let size := lineSize dt pixels.length
      if 131072 < used + size then
        (set fun f => { f with cut := true }).mapCam port fun p => { p with ovf := satN 0xFFFFFFFF (p.ovf + 1) }
      else
        let line : WaitLine :=
          { ctx := c, frame := f.id, stamp := s.gtcNs, samples := pixels.take w ++ List.replicate (w - pixels.length) 0
            poison := bad || decide (pixels.length < w), size := size }
        let s := set fun f => { f with arrived := f.arrived + 1, longLine := f.longLine || decide (w < pixels.length) }
        let s := s.mapCam port fun p => { p with waiting := p.waiting ++ [line] }
        s.noteBacklog (((s.struct.context c).map (byteAt · 8)).getD 0)

/-- A long packet (R270, R272, R277). DEDUCED (log entry 101). -/
def execLongPacket (port vc : Fin 16) (dt : Nat) (h : HdrEcc) (pixels : List Nat) (crcOk : Bool) (s : State) :
    Host.Outcome State Fault Refusal :=
  if !s.camHears port then .next s
  else if h = .bad then .next (s.badHeader port)
  else
    let s := s.active port
    match (s.ctxsOn port vc).find? fun c => (s.struct.context c).map (byteAt · 7) = some dt with
    | none => .next (s.mapCam port fun p => { p with unbound := satN 0xFFFFFFFF (p.unbound + 1) })
    | some c =>
      let s := if crcOk then s else s.mapCam port fun p => { p with crc := satN 0xFFFF (p.crc + 1) }
      .next (s.takeLinePacket port c dt pixels (!crcOk))

/-- The outputs of a pipe still have beats waiting at the source (R241). DEDUCED (log entry 103). -/
def State.pipeStalled (s : State) (pipe : Nat) : Bool :=
  (List.range 2).any fun o => (s.dests (2 * pipe + o)).any fun d => !(s.dstPort d).waiting.isEmpty

/-- A pipe takes the waiting line whose last packet arrived first, the lower context on a tie, and processes it (R280 to
R282). -/
def execPipeLineProcess (pipe : Fin 4) (s : State) : Host.Outcome State Fault Refusal :=
  if s.pipeStalled pipe then .next s
  else
    let before (a b : Nat × WaitLine) : Bool :=
      decide (a.2.stamp < b.2.stamp) || (decide (a.2.stamp = b.2.stamp) && decide (a.2.ctx < b.2.ctx))
    match minBy before (s.pipeWaiting pipe) with
    | none => .next s
    | some (port, l) =>
      let s := s.mapCam port fun p => { p with waiting := p.waiting.erase l }
      let s := s.mapCtx l.ctx fun x => x.mapFrame l.frame fun f =>
        { f with rows := f.rows ++ [l.samples], rowPoison := f.rowPoison ++ [l.poison] }
      .next (s.emitFrame l.ctx l.frame)

/-- The receiver of a D-PHY port aligns its lanes (Table 7-2, R268). -/
def execDeskewSequence (port : Fin 16) (s : State) : Host.Outcome State Fault Refusal :=
  if (s.struct.port port).map (byteAt · 5) = some 1 then
    .next (s.mapCam port fun p => { p with hsActive := true, deskewDone := true })
  else .next s

/-! Sensor control buses. -/

/-- A sensor bus. -/
def State.scb (s : State) (k : Nat) : Scb := (s.cin.scb[k]?).getD {}

/-- Change a sensor bus. -/
def State.mapScb (s : State) (k : Nat) (g : Scb → Scb) : State :=
  { s with cin := { s.cin with scb := s.cin.scb.setIfInBounds k (g (s.scb k)) } }

/-- The BOARD section enables the bus (R301). -/
def State.scbOn (s : State) (k : Nat) : Bool := bit (s.struct.boardField 6 1) k

/-- A write to CIN_SCB_CTL (R301, R302): START begins a transfer of 1 to 32 bytes; a rate that does not suit the bus sets DONE
and NACK. -/
def State.scbCtl (s : State) (f : Part) (k : Nat) (w : U32) : State :=
  let x := s.scb k
  if !(s.pf0Ready f) || !s.scbOn k || !w.getLsbD 31 || x.busy.isSome then s
  else
    let i3c := bit (s.struct.boardField 6 1) (4 + k)
    let rate := wbits w 17 16
    if decide (rate = 3) ≠ i3c then s.mapScb k fun x => { x with done := true, nack := true }
    else
      let read := w.getLsbD 7
      let len := min 32 (max 1 (wbits w 13 8))
      let data := if read then [] else x.fifo.take len
      let s := s.mapScb k fun x => { x with
        busy := some (wbits w 6 0, read, len, rate), done := false, nack := false, arbLost := false
        fifo := if read then [] else x.fifo.drop len }
      s.emit (.scb k (wbits w 6 0) read len data)

/-- A write to CIN_SCB_CTL (R301, R302). DESIGN CHOICE (log entry 72). -/
def execScbStart (f : Part) (bus : Fin 4) (w : U32) (s : State) : Host.Outcome State Fault Refusal := .next (s.scbCtl f bus w)

/-- A sensor-bus transfer ends: DONE, with NACK or ARB_LOST; read data goes into the FIFO (Table 7-9). -/
def execScbTransferDone (bus : Fin 4) (nack arbLost : Bool) (rx : Bytes) (s : State) : Host.Outcome State Fault Refusal :=
  match (s.scb bus).busy with
  | none => .next s
  | some (_, read, len, _) =>
    let got := if read && !nack && !arbLost then rx.take len else []
    .next (s.mapScb bus fun x => { x with
      busy := none, done := true, nack := nack, arbLost := arbLost, fifo := (x.fifo ++ got).take 32 })

/-- A write of one byte into CIN_SCB_DATA (Table 7-9, R301). -/
def State.scbPush (s : State) (f : Part) (k : Nat) (v : Byte) : State :=
  if s.pf0Ready f && s.scbOn k && decide ((s.scb k).fifo.length < 32) then s.mapScb k fun x => { x with fifo := x.fifo ++ [v] }
  else s

/-- A read of one byte from CIN_SCB_DATA (Table 7-9): an empty FIFO reads as 0. DESIGN CHOICE (log entry 72). -/
def State.scbPop (s : State) (k : Nat) : State × Nat :=
  match (s.scb k).fifo with
  | b :: t => (s.mapScb k fun x => { x with fifo := t }, b.toNat)
  | [] => (s, 0)

/-- An access to CIN_SCB_DATA: a write pushes one byte, a read pops one (Table 7-9). DESIGN CHOICE (log entry 72). -/
def execScbDataAccess (f : Part) (bus : Fin 4) (wr : Option Byte) (s : State) : Host.Outcome State Fault Refusal :=
  match wr with
  | some v => .next (s.scbPush f bus v)
  | none =>
    if s.pf0Ready f then
      let (s, v) := s.scbPop bus
      .next { s with bus := .data v 4 }
    else .next s

end Sys2Proof.Machine
end

