-- ==== Sys2Proof/Machine/ImgApply.lean ====
section
/-! DEFINITION. A structure comes into force (R181 to R208): sections are replaced or merged with their digests, and every
block takes up what its records say. -/

namespace Sys2Proof.Machine

/-- Put an image's sections into the structure (R181, R182, R186). -/
def Img.putSections (g : Img) (l : List ImgSect) (merge : Bool) : Img :=
  { g with sect := g.sect.mapIdx fun i x =>
      match l.find? fun y => sectIdx y.typ = i with
      | none => x
      | some y =>
        let news := y.records.getD []
        let old := if x.digest.isEmpty then List.replicate 48 0 else x.digest
        { inForce := true
          recs := if merge then mergeRecs x.recs news else news
          digest := if merge then sha384 (old ++ sha384 y.body) else sha384 y.body } }

/-- The records of a kind that stand in the one structure and not, byte for byte, in the other. -/
def Struct.without (t u : Struct) (kind : Nat) : List Bytes := (t.all kind).filter fun r => !(u.all kind).contains r

/-- PWR_PIN_EN of a structure (Table 2-12): OUT_EN, the sensor buses and the Lanicy ports. -/
def Struct.pins (t : Struct) : Nat :=
  ((List.range 20).map fun i =>
    let on := if i = 6 then bits (t.boardField 6 1) 3 0 ≠ 0 else if i = 7 then false else if i = 10 then t.boardField 7 1 ≠ 0 else t.outEn i
    if on then 2 ^ i else 0).sum

/-- The enables at the pins follow the BOARD section (R78); an output withdrawn in mid-pulse finishes its pulse (R80).
DEDUCED (log entry 89). -/
def State.enforcePins (s : State) (old : Struct) : State :=
  let new : BitVec 20 := BitVec.ofNat 20 s.struct.pins
  let cut (i : Nat) : Bool := s.pwr.pinEn.getLsbD i && !new.getLsbD i
  let mid (i : Nat) : Bool := if i = 5 then !s.freqLowAt old.freqPeriod else (List.range 9).any fun o => outPin o = i && (s.output o).pulse.isSome
  let fin : BitVec 20 := BitVec.ofNat 20 (((List.range 20).map fun i => if cut i && mid i then 2 ^ i else 0).sum)
  { s with pwr := { s.pwr with
    pinEn := new, finishing := (s.pwr.finishing ||| fin) &&& ~~~new
    finishPeriod := if fin.getLsbD 5 then old.freqPeriod else s.pwr.finishPeriod } }

/-- The power profile and ECC of the BOARD section (R18, R190, R718): a change of ECC_OFF initialises board memory; the PINNED
windows keep their contents. DEDUCED (log entry 90). -/
def State.enforceBoard (s : State) : State :=
  let t := s.struct
  let s := { s with top := { s.top with profile := t.profile } }
  if t.eccOn = s.top.eccOn then s
  else
    { s with
      top := { s.top with eccOn := t.eccOn }
      mem := { s.mem with
        cells := s.mem.cells.filter (fun c => decide (pinnedBase ≤ c.1) && c.2 != 0), era := none
        poison := s.mem.poison.filter fun k => decide (pinnedBase ≤ 64 * k) }
      fab := { s.fab with lines := s.fab.lines.filter fun l => decide (l.line / 2 ^ 33 ≠ t.boardId) } }

/-- The TIME_INPUT records (R520): PRIORITY 0 or no record disables an input, one that is enabled starts FAILED; then the
selector acts. -/
def State.enforceInputs (s : State) : State :=
  let t := s.struct
  let st (i : Nat) (x : InSt) : InSt := if t.inputPrio i = 0 then .disabled else if x = .disabled then .failed else x
  let ins := s.tmg.ins.mapIdx fun i x => { x with st := st i x.st }
  ({ s with tmg := { s.tmg with ins := ins } } : State).reselect

/-- The domain roles of the BOARD section (R719). -/
def State.enforceRoles (s : State) (old : Struct) : State :=
  let t := s.struct
  let who (u : Struct) := (u.boardCore.isSome, u.boardId, u.timeRoot, u.timeBackup)
  if who t = who old then s
  else
    let was := old.boardCore.isSome && decide ((if s.tmg.backupActs then old.timeBackup else old.timeRoot) = old.boardId)
    let s := { s with tmg := { s.tmg with backupActs := s.fab.lost.contains t.timeRoot } }
    let s := if was = s.rootActs then s else s.note 0x000 0 (Config.eventCode "time root role") 0 [b2n s.rootActs]
    s.failLanicy

/-- The OUTPUT_ALIGN records (R544, R546, R720): entering HOLD_PHASE sets H to the GTC. DEDUCED (log entry 89). -/
def State.enforceOutputs (s : State) (old : Struct) : State :=
  let t := s.struct
  let upd (o : Nat) (x : TmgOut) : TmgOut :=
    match t.outputAlign o with
    | none => { x with mode := 0, realign := none }
    | some r =>
      let m := byteAt r 5
      let x := if (old.outputAlign o).isNone then { x with recAt := s.clk } else x
      if m = x.mode then x
      else
        let h := if m = 2 then s.tmg.gtc else x.h
        { x with mode := m, realign := none, h := h }
  { s with tmg := { s.tmg with outs := s.tmg.outs.mapIdx upd } }

/-- The VFs the board exposes (R121), until a tenant switch removes them (Table 13-14 step 3): one that is no longer exposed has no registers, no queues and no session left. -/
def State.refreshVfs (s : State) : State :=
  let on (p : Nat) : Bool := decide (0 < p) && s.sec.tenant.isSome && s.struct.partEnabled p && s.sec.switch.all (·.step = .draining)
  let vfs : BitVec 16 := BitVec.ofNat 16 (((List.range 16).map fun p => if on p then 2 ^ p else 0).sum)
  let gone (p : Nat) : Bool := s.hif.vfs.getLsbD p && !on p
  { s with
    hif := { s.hif with
      vfs := vfs
      queues := s.hif.queues.filter fun q => !gone (q.1 / 64)
      fns := s.hif.fns.mapIdx fun i x => if gone i then {} else x }
    sec := { s.sec with doe := s.sec.doe.mapIdx fun i x => if gone i then {} else x } }

/-- A changed PARTITION record of a VF whose TDI is CONFIG_LOCKED or RUN moves the TDI to ERROR (R580). -/
def State.enforceParts (s : State) (old : Struct) : State :=
  let s := (List.range 16).foldl (fun s p =>
    let locked := match s.hif.fns[p]? with | some x => x.tdi = .configLocked || x.tdi = .run | none => false
    if 0 < p ∧ old.partition p ≠ s.struct.partition p ∧ locked = true then s.partitionReset p .error "TDI ERROR" else s) s
  s.refreshVfs

/-- The CELLAR_REGION records (R465, R468): a removed or new PINNED window reads as zero; a removed or changed CACHE region
gives up its lines. -/
def State.enforceRegions (s : State) (old : Struct) : State :=
  let t := s.struct
  let pins := ((old.without t 0x21) ++ (t.without old 0x21)).filter fun r => byteAt r 5 = 2
  let s := pins.foldl (fun s r =>
    let a := field r 16 8
    let n := field r 24 8
    { s with mem := { s.mem with
      cells := cellErase s.mem.cells a n, poison := s.mem.poison.filter fun k => decide (64 * k < a) || decide (a + n ≤ 64 * k) } }) s
  let caches := (old.without t 0x21).filter fun r => byteAt r 5 = 1
  caches.foldl (fun s r =>
    let mine (l : CelLine) : Bool := decide (l.region = byteAt r 4)
    let lines := s.fab.lines.filter mine
    let s := { s with fab := { s.fab with lines := s.fab.lines.filter fun l => !mine l } }
    lines.foldl (fun s l =>
      match s.fab.rline (128 * l.line) with
      | some x => if x.settled then s.evict x else s
      | none => s) s) s

/-- The EXPORT records (R473, R475): withdrawn windows are taken back, and a change is advertised. -/
def State.enforceExports (s : State) (old : Struct) : State :=
  let t := s.struct
  let gone := old.without t 0x22
  let s := gone.foldl (fun s r => s.withdraw r) s
  if (t.without old 0x22).isEmpty then s else s.advertise

/-- The Lanicy ports and the domain's shape: a port no longer enabled goes down; a change rebuilds the next hops (R503).
DEDUCED (log entry 90). -/
def State.enforceLinks (s : State) (old : Struct) : State :=
  let t := s.struct
  let s := (List.range 8).foldl (fun s p =>
    if old.lnkEn p && !t.lnkEn p && (s.fab.port p).trained then
      (s.mapPort p fun x => { x with
        up := false, trained := false, session := false, secret := [], replayBuf := [], txWait := [], rxBuf := []
        nakDue := false, owed := [], tagAt := [] }).note
          (srcPort p) 3 0x0400 0 [p, Config.eventCode "disabled"]
    else s) s
  let shape (u : Struct) := (u.boardField 7 1, u.boardField 13 1, u.boardField 16 4)
  if shape t = shape old then s else s.linksChanged

/-- The CAMERA records (R217, R283 to R285): a context that is new or changed counts from 0; a changed set goes into the
shadow copy of every context that names it. DEDUCED (log entry 89). -/
def State.enforceCamera (s : State) (old : Struct) : State :=
  let t := s.struct
  let set (u : Struct) (c : Bytes) : Bytes := ((u.pipeParams (byteAt c 9)).map (·.drop 8)).getD []
  let dead (c : Nat) : Bool := decide (t.context c ≠ old.context c)
  let ctxs := s.cin.ctxs.mapIdx fun c x =>
    match t.context c with
    | none => if (old.context c).isSome then {} else x
    | some r =>
      if dead c then { active := set t r, shadow := set t r }
      else if set t r ≠ set old r then { x with shadow := set t r, shadowAt := some s.clk } else x
  let ports := s.cin.ports.map fun p => { p with waiting := p.waiting.filter fun l => !dead l.ctx }
  { s with cin := { s.cin with ctxs := ctxs, ports := ports } }

/-- The CASK and CONNECTION records: a cask that is new or changed is empty (R430); a destination port with a new source holds
nothing. -/
def State.enforceStreams (s : State) (old : Struct) : State :=
  let t := s.struct
  let fresh (c k : Nat) (y : CaskSt) : CaskSt := if (t.cask c k).isSome ∧ t.cask c k ≠ old.cask c k then {} else y
  let cores := s.nec.cores.mapIdx fun c x => { x with casks := x.casks.mapIdx (fresh c) }
  let dst := s.sw.dst.mapIdx fun d x =>
    if (t.connection d).isSome ∧ (t.connection d).map (byteAt · 4) ≠ (old.connection d).map (byteAt · 4) then {} else x
  { s with nec := { s.nec with cores := cores }, sw := { s.sw with dst := dst } }

/-- A change of the fields that discard a stored pyramid or a track table leaves it to earlier frames alone, and what a running node
stores is discarded for later frames (R199, R343, R383); the matcher's remembered list goes with its block (R372).
DEDUCED (log entry 163). -/
def State.enforceStages (s : State) : State :=
  let t := s.struct
  let inst := s.stg.inst.mapIdx fun i x =>
    let change (e : Memo) : Memo := { e with old := e.old || decide (t.nodeKey i (e.owner / 64) (e.owner % 64) ≠ some e.key) }
    let job (j : StageJob) : StageJob := { j with changed := j.changed || decide (t.nodeKey i j.route j.node ≠ some (keepKey i j.block)) }
    { x.mapKept (·.map change) with
      job := x.job.map job, lastList := x.lastList.filter fun e => (t.stageParams (0x070 + i) e.1).isSome }
  { s with stg := { s.stg with inst := inst } }

/-- A SAFETY section that comes into force (R614, R615, R617, R627, R639): ARM 1 arms and starts a rotation, ARM 0 disarms; gap
timers of routes without a STALE record end. DEDUCED (log entry 90). -/
def State.enforceSafety (s : State) (core : Option Bytes) : State :=
  let t := s.struct
  let s := match core.map (byteAt · 4) with
    | some 1 =>
      let s := if s.saf.safeOff then s.driveSafeOff false else s
      let x := if s.inSafeState then { s.saf with cause := 0, causeGtc := 0, causeSrc := 0 } else s.saf
      let s := { s with
        top := { s.top with armed := true }
        saf := { x with
          safeOff := false, okToggling := false, gap := Vector.replicate 16 none, gapClass := 0
          rotAt := s.clk, tested := [], failed := [], rotOk := true
          thermal := x.afterSafe t.profile.limit, coolAt := s.clk } }
      s.setSaf .arming
    | some _ =>
      let gap := s.saf.gap.mapIdx fun r x => if s.routeBusy r then x else none
      let s := { s with top := { s.top with armed := false }, saf := { s.saf with okToggling := false, gap := gap } }
      s.setSaf .disarmed
    | none => s
  let gap := s.saf.gap.mapIdx fun r x => if (t.stale r).isSome then x else none
  { s with saf := { s.saf with gap := gap } }

/-- Every block takes up the structure that has just come into force; `core` is the SAFETY_CORE record it brought.
DEDUCED (log entry 89). -/
def State.enforce (s : State) (old : Struct) (core : Option Bytes) : State :=
  let s := s.enforceBoard.enforcePins old
  let s := (s.enforceInputs.enforceRoles old).enforceOutputs old
  let s := (s.enforceRegions old).enforceStreams old
  let s := (s.enforceCamera old).enforceStages
  let s := (s.enforceSafety core).enforceParts old
  let s := (s.enforceLinks old).enforceExports old
  s.refreshRoutes

/-- The apply points as Table 4-5 numbers them. -/
def ApplyPoint.code : ApplyPoint → Nat
  | .immediate => 1
  | .frame => 2
  | .switch => 3

/-- The image slot. -/
def State.slot (s : State) (n : Nat) : ImgSlot := (s.img.slots[n]?).getD {}

/-- Change an image slot. -/
def State.mapSlot (s : State) (n : Nat) (g : ImgSlot → ImgSlot) : State :=
  { s with img := { s.img with slots := s.img.slots.mapIdx fun i x => if i = n then g x else x } }

/-- The image ID (Table 5-2). -/
def imageId (b : Bytes) : Nat := field b 16 8

/-- The apply of a slot comes into force: GEN counts it, it is logged, and its IMAGE_APPLY completes (R192, R198, R208).
DEDUCED (log entry 90). -/
def State.applySlot (s : State) (n : Nat) : State :=
  match (s.slot n).apply with
  | none => s
  | some a =>
    let b := (s.slot n).image
    let old := s.struct
    let merge := decide (a.point = .frame)
    let src := if a.point = .frame then srcRoute a.route else srcMgt
    let recs := imgRecords b
    let s := { s with img := s.img.putSections (imgSects b) merge }
    let s := s.endApply n
    let s := { s with img := { s.img with gen := s.img.gen + 1 } }
    let s := s.enforce old (imgRec recs 0x10)
    let s := s.note src 0 0x0300 a.part [n, a.point.code, imageId b]
    s.fix a.part a.queue a.pos 0x00 0 src

/-- An IMAGE_APPLY is refused (R184, Table 5-19): an IMAGE_REJECTED is remembered in TOP_IMG_LAST and logged.
DEDUCED (log entry 90). -/
def State.rejectApply (s : State) (n : Nat) (a : Apply) (status detail : Nat) : State :=
  let src := if status = 0x30 then srcMgt else srcPart a.part
  let s := if status = 0x30 then { s with img := { s.img with lastReason := detail, lastSlot := n, lastPart := a.part } } else s
  let s := s.note srcMgt 0 0x0301 a.part [n, status, detail, imageId (s.slot n).image]
  let s := s.endApply n
  s.fix a.part a.queue a.pos status detail src

/-- The staged records of a FRAME apply come into force at its route's boundary (R198, R199, R203): earlier frames keep the
structure they run under, and deleted records they still use are held. DEDUCED (log entries 95, 96). -/
def State.swapFrame (s : State) (r n : Nat) (a : Apply) : State :=
  let old := s.struct
  let x := s.route r
  let frames := x.frames.map fun f =>
    if f.swapDone then { f with cfg := some (f.cfg.getD old.sects) } else { f with swapDone := true }
  let earlier := frames.filter (·.cfg.isSome)
  let s := s.setRoute r { x with frames := frames }
  let gone := ((a.staged.flatMap (·.2)).filter fun d => isDelete d && isStructural d).filterMap fun d =>
    (old.sect (kindSect (byteAt d 0))).find? fun y => decide (recKey y = recKey d)
  let held := (gone.filter fun y => s.usedBy r earlier y).map fun y => ({ route := r, recd := y } : Held)
  let s := { s with img := { s.img with held := s.img.held ++ held } }
  s.applySlot n

/-- A FRAME apply misses its window (R204): it is counted and logged, and tried again at the next boundary.
DEDUCED (log entry 95). -/
def State.missFrame (s : State) (r n : Nat) (a : Apply) : State :=
  let cause := if a.validated then "busy" else "staging"
  let s := s.note (srcRoute r) 0 0x0202 (s.struct.routePart r) [r, n, Config.eventCode cause]
  let s : State := { s with img := { s.img.mapApply n (fun a => { a with window := none }) with
    missCount := satN 0xFFFF (s.img.missCount + 1), missRoute := r } }
  s.settleSwap r

end Sys2Proof.Machine
end

