-- ==== Sys2Proof/Machine/Power.lean ====
section
/-! DEFINITION. The supplies, the reset pins, the resets of levels 4 and 5, and the end of a boot. -/

namespace Sys2Proof.Machine

/-- The state with the board's supplies gone: what AUX_3V3 powers is lost, retention and non-volatile stores stay (R694,
Table 2-5). -/
def State.unpowered (s : State) : State :=
  let t := s.cleared true
  { t with
    top := { t.top with resetting := none, bootPending := true, lastReset := s.top.lastReset }
    pwr := { t.pwr with auxGood := false, auxHigh := false, mainGood := false, converters := false, mainLoss := s.pwr.mainLoss }
    saf := { sin := s.saf.sin }
    log := { nor := s.log.nor, boot := s.log.boot, sector := s.log.sector, fill := s.log.fill
             retired := s.log.retired, erases := s.log.erases, auxLost := true } }

/-- AUX_3V3 comes back after being absent (R57, R72, Table 2-5): the latch comes up set when its supply fell below 1.2 V;
the board starts as after a level 5 reset. While it is present, the level bears on AUX_GOOD alone (R716). `seedsOk` bears on the
training time alone (R86). The first VBAT measurement comes a second later (R77). DESIGN CHOICE (log entries 2, 139, 154). -/
def execAux3v3Present (aux : AuxRise) (crcOk _seedsOk : Bool) (s : State) : Host.Outcome State Fault Refusal :=
  if aux.mv < 3135 then .next s
  else if s.pwr.auxGood then .next { s with pwr := { s.pwr with auxHigh := decide (3465 < aux.mv) } }
  else
    let s := { s with
      pwr := { s.pwr with auxGood := true, auxHigh := decide (3465 < aux.mv), auxAt := s.clk, vbatAt := s.clk }
      ret := { latch := s.ret.latch || aux.retBelow1V2, record := { s.ret.record with valid := s.ret.record.valid && crcOk } } }
    let s := { s with pwr := { s.pwr with mainLoss := false } }
    .next (s.startReset true "AUX_3V3" srcMgt)

/-- AUX_3V3 falls below 3.135 V (R716, R694): the board stops; the on-die ledger store is lost. -/
def execAux3v3Loss (s : State) : Host.Outcome State Fault Refusal :=
  if s.pwr.auxGood then .next s.unpowered else .next s

/-- The main rails go (R55, R56, R648): every block outside AON, SAF and MGT is held in reset and MAIN_LOSS is set. The BOARD
and SAFETY sections stay with SAF (Table 2-6). DEDUCED (log entries 32, 111). -/
def State.dropMain (s : State) (vin : Bool) : State :=
  let base := State.reset
  let s := { s with
    ret := { s.ret with record := { s.ret.record with lossCause := Config.eventCode "main power", lossGtc := s.gtcNs } } }
  { s with
    top := { s.top with ready := false, recovery := false, resetting := none, timePending := true, base := .opened, gtcSet := false }
    pwr := { s.pwr with
      vinGood := vin, mainGood := false, converters := false, mainLoss := true, mainWasLost := true, finishing := 0, pinEn := 0 }
    recov := base.recov, hif := base.hif
    img := { base.img with sect := (base.img.sect.set 0 (s.img.sect.get 0)).set 1 (s.img.sect.get 1) }
    rsq := base.rsq, cin := base.cin, sw := base.sw, stg := base.stg, nec := base.nec, mem := base.mem, fab := base.fab
    tmg := s.tmg.afterReset false s.clk
    sec := { base.sec with slots := s.sec.slots, lifecycle := s.sec.lifecycle, debugOff := s.sec.debugOff, draws := s.sec.draws }
    pair := base.pair }

/-- The main converters start (R52): AUX_3V3 present for 10 ms and 48V_IN above its rising lockout. A board that has not
yet done steps 1 to 4 of Table 3-2 does them before. In TRIP the main rails stay off until a power cycle (Table 14-8). -/
def execMainConverterStart (s : State) : Host.Outcome State Fault Refusal :=
  if s.pwr.auxGood && s.pwr.vinGood && !s.pwr.converters && s.saf.thermal != Thermal.trip && s.due s.pwr.auxAt (msTicks 10) then
    let s := { s with pwr := { s.pwr with converters := true } }
    .next s.bootNow
  else .next s

/-- The main rails are in regulation (Table 2-5 step 3): MAIN_GOOD becomes 1, the boot watchdog starts (R87), the GTC
restarts where it must (R75, R76) once the firmware runs; PCIe trains once PERST_N is deasserted. -/
def execMainRailsGood (s : State) : Host.Outcome State Fault Refusal :=
  if s.pwr.converters && !s.pwr.mainGood then
    let s := { s with
      pwr := { s.pwr with mainGood := true, mainGoodAt := s.clk }, hif := { s.hif with linkUp := !s.pwr.perst } }
    .next (if s.top.bootPending then s.bootNow else s.bootTime)
  else .next s

/-- An excursion of 48V_IN to `mv` that lasts `ns` is a main power loss (R55). -/
def vinLost (mv ns : Nat) : Bool := (decide (mv < 32500) || decide (63000 < mv)) && decide (10000 ≤ ns)

/-- 48V_IN at `mv` for `ns` ends a main power loss, one that came from a rise or one from a fall (R55). -/
def vinReturned (rose : Bool) (mv ns : Nat) : Bool :=
  decide (34000 < mv) && (!rose || (decide (mv ≤ 60000) && decide (10000 ≤ ns)))

/-- 48V_IN goes to a level for a time (R55, R56): with a main power loss, cause MAIN_POWER is latched and the main rails go while AUX_3V3
is present; a shorter excursion is ignored. DEDUCED (log entry 32). DESIGN CHOICE (log entry 139). -/
def execMainPowerLoss (s : State) (v : Supply := { mv := 0, ns := 10000 }) : Host.Outcome State Fault Refusal :=
  if vinLost v.mv v.ns then
    let t := { s with pwr := { s.pwr with vinGood := false, vinMv := v.mv, vinOver := decide (63000 < v.mv) } }
    .next (if s.pwr.auxGood && s.pwr.vinGood then (t.latchCause 0x09 srcSaf).dropMain false else t)
  else if 32500 ≤ v.mv ∧ v.mv ≤ 63000 then .next { s with pwr := { s.pwr with vinMv := v.mv } }
  else .next s

/-- 48V_IN stands at a level for a time (R55, R57): where main power so returns with AUX_3V3 held throughout, a level 4 reset starts at that
instant. TRIP ends with the power cycle (Table 14-8). DESIGN CHOICE (log entry 139). -/
def execMainPowerReturn (s : State) (v : Supply := { mv := 48000, ns := 10000 }) : Host.Outcome State Fault Refusal :=
  if s.pwr.vinGood || !vinReturned s.pwr.vinOver v.mv v.ns then .next { s with pwr := { s.pwr with vinMv := v.mv } }
  else
    let s := { s with
      pwr := { s.pwr with vinGood := true, vinMv := v.mv, vinOver := false }
      saf := { s.saf with thermal := if s.saf.thermal = Thermal.trip then .normal else s.saf.thermal } }
    .next (if s.pwr.auxGood then s.startReset false "main power" srcMgt else s)

/-- An assertion edge on PERST_N starts a level 4 reset; HIF keeps its link down (R715). -/
def execPerstNAssert (s : State) : Host.Outcome State Fault Refusal :=
  if s.pwr.perst then .next s
  else
    let s := { s with pwr := { s.pwr with perst := true }, hif := { s.hif with linkUp := false } }
    .next (if s.pwr.auxGood then s.startReset false "PERST_N" (srcPart 0) else s)

/-- PERST_N is deasserted: the link trains; no reset starts (R60, R715). -/
def execPerstNDeassert (s : State) : Host.Outcome State Fault Refusal :=
  .next { s with pwr := { s.pwr with perst := false }, hif := { s.hif with linkUp := s.pwr.mainGood } }

/-- An assertion edge on BRD_RST_N starts a level 5 reset (R715). -/
def execBrdRstNAssert (s : State) : Host.Outcome State Fault Refusal :=
  if s.pwr.brdRst then .next s
  else
    let s := { s with pwr := { s.pwr with brdRst := true } }
    .next (if s.pwr.auxGood then s.startReset true "BRD_RST_N" srcMgt else s)

/-- BRD_RST_N is deasserted: no reset starts (R715). -/
def execBrdRstNDeassert (s : State) : Host.Outcome State Fault Refusal :=
  .next { s with pwr := { s.pwr with brdRst := false } }

/-- TOP_RESET acts on a write from PF0 with KEY 0x5AFE, with READY 1 or in recovery (R36, R37, R119). -/
def State.topResetActs (s : State) (f : Part) (w : U32) : Bool :=
  decide (f = 0) && wbits w 31 16 = 0x5AFE && (s.top.ready || s.top.recovery)

/-- A TOP_RESET write with LEVEL 4 (R36): a level 4 reset. -/
def State.askWarm (s : State) (f : Part) (w : U32) : State :=
  (if s.topResetActs f w && wbits w 2 0 = 4 then s.startReset false "TOP_RESET" (srcPart 0) else s)

/-- A level 4 reset is asked for: by a TOP_RESET write with LEVEL 4, or by SAF while its firmware runs (Table 1-9, R36).
DESIGN CHOICE (log entry 140). -/
def execWarmBoardReset (src : ResetBy) (w : U32) (s : State) : Host.Outcome State Fault Refusal :=
  match src with
  | .host f => .next (s.askWarm f w)
  | .saf => .next (if s.safRuns then s.startReset false "SAF" srcSaf else s)

/-- A TOP_RESET write with LEVEL 5 (R36): a level 5 reset. -/
def State.askCold (s : State) (f : Part) (w : U32) : State :=
  (if s.topResetActs f w && wbits w 2 0 = 5 then s.startReset true "TOP_RESET" (srcPart 0) else s)

/-- A TOP_RESET write with LEVEL 5: the command. -/
def execColdReset (f : Part) (w : U32) (s : State) : Host.Outcome State Fault Refusal := .next (s.askCold f w)

/-- READY has not become 1 within 2.0 s of MAIN_GOOD (R87): the boot attempt has failed; a level 4 reset. In recovery the
boot ROM waits for the host and the watchdog does not act (assumption 6). DEDUCED (log entry 6). -/
def execBootWatchdogExpiry (s : State) : Host.Outcome State Fault Refusal :=
  .next (if s.pwr.mainGood && !s.top.ready && !s.top.recovery && s.due s.pwr.mainGoodAt (secTicks 2) then
      s.startReset false "boot watchdog" srcMgt (force := true)
    else s)

/-- The boot completes (Table 3-2 step 9): the boot ledger entry, then READY.
DESIGN CHOICE (log entry 17). DEDUCED (log entry 30). -/
def execBootDone (s : State) : Host.Outcome State Fault Refusal :=
  if s.top.resetting.isSome && s.pwr.mainGood && s.top.mgtUp && !s.top.bootBlocked && !s.top.recovery then
    let s := s.note srcMgt 0 0x0001 0 [s.fw.slot.toNat, s.top.lastReset.toNat]
    .next { s with
      top := { s.top with ready := true, resetting := none }
      mem := { s.mem with ready := true } }
  else .next s

/-- V_RET falls below V_RET_MIN for 200 ns or longer (R71); while main power is present, RUN_DIP is set and the record is
marked invalid (R79). DESIGN CHOICE (log entry 142). -/
def execLossLatchSet (s : State) : Host.Outcome State Fault Refusal :=
  let s := { s with ret := { s.ret with latch := true } }
  if s.pwr.auxGood && s.pwr.vinGood then
    let s := { s with
      pwr := { s.pwr with runDip := true }
      ret := { s.ret with record := { s.ret.record with valid := false } } }
    .next (s.note srcMgt 0 0x0006 0 [1, 0, Config.eventCode "dip"])
  else .next s

/-- VBAT is measured every 1 s while AUX_3V3 is present (R77). -/
def execVbatMeasurement (mv : Nat) (s : State) : Host.Outcome State Fault Refusal :=
  if s.pwr.auxGood && s.due s.pwr.vbatAt (secTicks 1) then
    .next { s with pwr := { s.pwr with
      vbatMv := BitVec.ofNat 16 (satN 0xFFFF mv), vbatLow := decide (mv < 2200), vbatAbsent := decide (mv < 1000), vbatAt := s.clk } }
  else .next s

/-- The retention record is rewritten from live state once start-up firmware has acted on it (Table 2-8, R73, R79).
DESIGN CHOICE (log entry 142). -/
def execRetentionRecordUpdate (s : State) : Host.Outcome State Fault Refusal :=
  .next (if s.pwr.auxGood && !s.top.bootPending then { s with ret := { s.ret with record := s.liveRecord } } else s)

end Sys2Proof.Machine
end

