-- ==== Sys2Proof/Machine/Safing.lean ====
section
/-! DEFINITION. The safety island's monitor cycle, its hardware entries to the safe state, CAN heartbeats, SIN inputs,
self-test rotation and stale watch, and thermal throttling (R612 to R648). -/

namespace Sys2Proof.Machine

/-- A field of SAFETY_CORE, 0 with no SAFETY section (Table 5-10). -/
def Struct.safetyField (t : Struct) (o n : Nat) : Nat := (t.safetyCore.map (field · o n)).getD 0

/-- `a` is recorded before `b` (R622): the earlier stamp, then the lower source. -/
def SafEvent.before (a b : SafEvent) : Bool := decide (a.gtc < b.gtc) || (decide (a.gtc = b.gtc) && decide (a.source ≤ b.source))

/-- The monitor cycle (R613, R622, R624, R625, R626): every 1 ms SAF services its watchdog and the SAFE_OK generator, and
evaluates the latched events, the first cause entering the safe state. -/
def execSafMonitorCycle (s : State) : Host.Outcome State Fault Refusal :=
  if s.safRuns && s.due s.saf.watchAt (msTicks 1) then
    let es := s.saf.events.mergeSort SafEvent.before
    let s := { s with saf := { s.saf with events := [], watchAt := s.clk, okAt := s.clk } }
    let s := es.foldl (fun s e => s.enterSafe e.cause e.gtc e.source false) s
    .next { s with saf := { s.saf with okToggling := decide (s.saf.st = .running) && s.struct.outEn 0 } }
  else .next s

/-- The SAF cores mismatch (R612, R620, R629): hardware enters the safe state, and the firmware no longer runs.
DEDUCED (log entry 110). -/
def execLockstepMismatch (s : State) : Host.Outcome State Fault Refusal :=
  if s.safRuns && s.top.armed then
    .next (({ s with saf := { s.saf with dead := true } } : State).enterSafe 0x07 s.gtcNs srcSaf true)
  else .next s

/-- The RC watchdog has not been serviced for 5 ms (R613, R620, R629): hardware enters the safe state. DEDUCED (log entry 110). -/
def execSafWatchdogExpiry (s : State) : Host.Outcome State Fault Refusal :=
  if s.safRuns && s.top.armed && s.due s.saf.watchAt (msTicks 5) then
    .next (({ s with saf := { s.saf with dead := true } } : State).enterSafe 0x08 s.gtcNs srcSaf true)
  else .next s

/-- 40 ms after the entry under POWER_OFF, SAF enters POWER_OFF and asserts SAFE_OFF_N, which stays (R619, R627). -/
def execEscalationTimeout (s : State) : Host.Outcome State Fault Refusal :=
  if s.saf.st = .escalating ∧ s.due s.saf.entryAt (msTicks 40) = true then
    let s := if s.saf.safeOff then s else ({ s with saf := { s.saf with safeOff := true } } : State).driveSafeOff true
    .next (s.setSaf .powerOff)
  else .next s

/-- The SAFE_OK generator has not been serviced for 1 ms: it stops (R626). -/
def execSafeOkServiceTimeout (s : State) : Host.Outcome State Fault Refusal :=
  if s.saf.okToggling && s.due s.saf.okAt (msTicks 1) then .next { s with saf := { s.saf with okToggling := false } }
  else .next s

/-- A HEARTBEAT on each enabled CAN port every HEARTBEAT ms, in every state (R628, R629, R630). -/
def execCanHeartbeat (s : State) : Host.Outcome State Fault Refusal :=
  let period := s.struct.safetyField 8 2
  if s.safRuns && s.struct.safetyCore.isSome && s.due s.saf.beatAt (msTicks period) then
    let n := s.saf.aliveBeat + 1
    let s := { s with saf := { s.saf with aliveBeat := n, beatAt := s.clk } }
    .next (s.sendCan (s.canBase + 1) 0x02 n)
  else .next s

/-- A SIN input goes low: confirmation starts (Table 14-3). DEDUCED (log entry 113). -/
def execSinLow (n : Fin 4) (s : State) : Host.Outcome State Fault Refusal :=
  if s.saf.sin.get n then
    .next { s with saf := { s.saf with sin := s.saf.sin.set n false, sinAt := s.saf.sinAt.set n (some (s.clk, s.gtcNs)) } }
  else .next s

/-- A SIN input returns high, which ends its confirmation (Table 14-3). DEDUCED (log entry 113). -/
def execSinHigh (n : Fin 4) (s : State) : Host.Outcome State Fault Refusal :=
  .next { s with saf := { s.saf with sin := s.saf.sin.set n true, sinAt := s.saf.sinAt.set n none } }

/-- A SIN input that SIN_EN enables has been low for 2 ms: cause SIN with the stamp of its edge (R623, Table 14-3).
DEDUCED (log entry 113). -/
def execSinConfirmExpiry (n : Fin 4) (s : State) : Host.Outcome State Fault Refusal :=
  match s.saf.sinAt.get n with
  | some (c, g) =>
    if s.safRuns && s.top.armed && bit (s.struct.safetyField 6 1) n && s.due c (msTicks 2) then
      .next { s with saf := { s.saf with
        sinAt := s.saf.sinAt.set n none, events := s.saf.events ++ [{ cause := 0x05, gtc := g, source := srcSaf }] } }
    else .next s
  | none => .next s

/-- The instances of each checker, from ID 0x01 (Table 14-7). -/
def checkerCounts : List Nat := [64, 16, 64, 8, 4, 16, 8, 1, 16, 6, 12, 16, 3, 2, 1, 4]

/-- Every checker instance: ID and instance (Table 14-7). DEDUCED (log entry 112). -/
def checkers : List (Nat × Nat) := checkerCounts.zipIdx.flatMap fun x => (List.range x.1).map fun i => (x.2 + 1, i)

/-- A slot reserved for a safety-class route is open now (R642). DEDUCED (log entry 112). -/
def State.slotOpenNow (s : State) : Bool :=
  (List.range 0x0C0).any fun e => (s.slotsOn e).any fun x => decide (x.1 ≤ s.gtcNs) && decide (s.gtcNs < x.1 + x.2.1)

/-- A node of a safety-class route runs on a core (R644). -/
def State.safetyNodeOn (s : State) (core : Nat) : Bool :=
  (List.range 16).any fun r =>
    s.struct.safetyClass r && (s.route r).frames.any fun f => f.nodes.any fun n => n.st = .running && n.engine = srcCore core

/-- A checker has failed: SAF_ST_FAIL, its ledger entry, cause SELFTEST with the stamp `g` of its detection (R623, R644, Tables
14-3, 14-9). DEDUCED (log entry 112). -/
def State.checkerFails (s : State) (c : Nat × Nat) (g : Nat) : State :=
  let s := { s with saf := { s.saf with stFail := c, rotOk := false } }
  let s := s.note srcSaf 6 0x0602 0 [c.1, c.2]
  if s.top.armed then { s with saf := { s.saf with events := s.saf.events ++ [{ cause := 0x04, gtc := g, source := srcSaf }] } } else s

/-- One test of a checker instance that the rotation has not tested (R641, R642, R644): a failed test is repeated once, and
the repeat confirms it (Table 14-3). DEDUCED (log entry 112). -/
def execSelftestTest (checker instNo : Nat) (pass : Bool) (s : State) : Host.Outcome State Fault Refusal :=
  let c := (checker, instNo)
  let held := s.slotOpenNow || (decide (checker = 0x01) && s.safetyNodeOn instNo)
  if s.safRuns && checkers.contains c && !s.saf.tested.contains c && !held then
    let others := s.saf.failed.filter (·.1 ≠ c)
    if pass then .next { s with saf := { s.saf with tested := s.saf.tested ++ [c], failed := others } }
    else match s.saf.failed.find? (·.1 = c) with
      | some x => .next (({ s with saf := { s.saf with tested := s.saf.tested ++ [c], failed := others } } : State).checkerFails c x.2)
      | none => .next { s with saf := { s.saf with failed := s.saf.failed ++ [(c, s.gtcNs)], stFail := c } }
  else .next s

/-- A rotation ends: every checker tested, or SELFTEST µs gone (R641). A checker that missed its test twice in succession
fails (R618, R644); an ARMING SAF moves to RUNNING after a rotation that has passed (R614, R625). DEDUCED (log entry 112). -/
def execSelftestRotationEnd (s : State) : Host.Outcome State Fault Refusal :=
  let missing := checkers.filter fun c => !s.saf.tested.contains c
  let timedOut := s.struct.safetyCore.isSome && s.due s.saf.rotAt (usTicks (s.struct.safetyField 12 4))
  if s.safRuns && (missing.isEmpty || timedOut) then
    let s : State := (missing.filter s.saf.missed.contains).foldl (fun s c => s.checkerFails c s.gtcNs) s
    let passed := s.saf.rotOk && missing.isEmpty
    let s := { s with saf := { s.saf with
      missed := missing, tested := [], failed := [], rotOk := true, rotAt := s.clk
      rotCount := satN 0xFFFFFFFF (s.saf.rotCount + 1), rotLast := satN 0xFFFFFFFF ((s.clk - s.saf.rotAt) / 800) } }
    if passed ∧ s.saf.st = .arming then
      let s := s.setSaf .running
      .next { s with saf := { s.saf with okToggling := s.struct.outEn 0, okAt := s.clk } }
    else .next s
  else .next s

/-- SAF receives a FRAME_DONE of a route with a STALE record (R639): it judges age and validity, and a valid one restarts the
gap timer; on a safety-class route a record too old is cause STALE_AGE (Table 14-3). DEDUCED (log entry 110). -/
def execStaleWatchReceive (route : Fin 16) (s : State) : Host.Outcome State Fault Refusal :=
  match s.saf.inbox.find? fun x => x.1 = route.val with
  | none => .next s
  | some x =>
    if s.safRuns then
      let (_, valid, age, old) := x
      let st := (s.route route).st
      let watched := (s.saf.gap.get route).isSome || st = .running || st = .stopping
      let restart := valid && watched && (s.struct.stale route).isSome
      let s := { s with saf := { s.saf with
        inbox := s.saf.inbox.erase x
        age := s.saf.age.set route (satN 0xFFFFFFFF (age / 1000))
        last := s.saf.last.set route (some (valid, s.clk))
        gap := if restart then s.saf.gap.set route (some s.clk) else s.saf.gap
        gapClass := if restart then setBit s.saf.gapClass route (s.struct.safetyClass route || s.saf.gapClass.getLsbD route) else s.saf.gapClass } }
      .next (if old && s.struct.safetyClass route then s.latchCause 0x02 (srcRoute route) else s)
    else .next s

/-- No valid FRAME_DONE for MAX_GAP (R639): on a safety-class route while armed it is cause STALE_GAP, else a ledger entry and
partition event class 7 (R640). -/
def execStaleGap (route : Fin 16) (s : State) : Host.Outcome State Fault Refusal :=
  match s.saf.gap.get route, s.struct.stale route with
  | some t, some x =>
    if s.safRuns && s.due t (usTicks (field x 12 4)) then
      let cls := s.struct.safetyClass route || s.saf.gapClass.getLsbD route
      let s := { s with saf := { s.saf with gap := s.saf.gap.set route none } }
      .next (if cls && s.top.armed then s.latchCause 0x03 (srcRoute route) else s.noteStale route 0x03)
    else .next s
  | _, _ => .next s

/-- A thermal sample every 1 ms (Table 14-8): the hottest sensor in °C and the board input power in mW. TRIP removes the main
rails, and SAF reacts as to main power loss with cause THERMAL (R648). DEDUCED (log entry 111). -/
def execThermalSample (temp : Int) (power : Nat) (s : State) : Host.Outcome State Fault Refusal :=
  if !s.pwr.auxGood then .next s
  else
    let limit := s.top.profile.limit
    let s := { s with saf := { s.saf with temp := temp, power := power } }
    if s.saf.thermal = .trip then .next s
    else if 125 ≤ temp then
      let acts := s.top.armed || s.struct.outEn 0 || s.struct.outEn 1
      let e : List SafEvent := if acts then [{ cause := 0x06, gtc := s.gtcNs, source := srcSaf }] else []
      .next (({ s with saf := { s.saf with thermal := .trip, events := s.saf.events ++ e } } : State).dropMain s.pwr.vinGood)
    else if 115 ≤ temp then
      let new := decide (s.saf.thermal ≠ .critical) || !s.inSafeState
      let s := { s with saf := { s.saf with thermal := .critical, coolAt := s.clk } }
      .next (if new then s.latchCause 0x06 srcSaf else s)
    else if s.saf.thermal = .critical then .next s
    else if 105 ≤ temp ∨ limit < power then .next { s with saf := { s.saf with thermal := .throttle, coolAt := s.clk } }
    else if s.saf.thermal = .throttle then
      if temp ≤ 100 ∧ power < limit then
        if s.due s.saf.coolAt (msTicks 100) then .next { s with saf := { s.saf with thermal := .normal } } else .next s
      else .next { s with saf := { s.saf with coolAt := s.clk } }
    else .next s

/-- Every 10 ms the fraction withheld from non-safety engines rises by 1/16 up to 15/16 while THROTTLE lasts, and falls after
it (R645, R646). DEDUCED (log entry 111). DESIGN CHOICE (log entry 132). -/
def execThrottleStep (s : State) : Host.Outcome State Fault Refusal :=
  if s.due s.saf.throttleAt (msTicks 10) then
    let hot := decide (s.saf.thermal = .throttle) || decide (s.saf.thermal = .critical)
    let w := if hot then min 15 (s.saf.withheld + 1) else s.saf.withheld - 1
    .next { s with saf := { s.saf with withheld := w, throttleAt := s.clk } }
  else .next s

/-- A monitored clock is more than 2 % from nominal: cause CLOCK (R623). DEDUCED (log entry 110). -/
def execClockMonitorFault (domain : Fin 6) (s : State) : Host.Outcome State Fault Refusal :=
  if s.pwr.auxGood then
    .next (({ s with saf := { s.saf with badClocks := nset s.saf.badClocks domain } } : State).latchCause 0x0A srcSaf)
  else .next s

/-- A monitored rail is outside its window: cause VOLTAGE (R623). DEDUCED (log entry 110). -/
def execVoltageMonitorFault (rail : Fin 12) (s : State) : Host.Outcome State Fault Refusal :=
  if s.pwr.auxGood then
    .next (({ s with saf := { s.saf with badRails := nset s.saf.badRails rail } } : State).latchCause 0x0B srcSaf)
  else .next s

/-! The checkpoint pair. -/

/-- The area size of a range in bytes (Table 14-10). DESIGN CHOICE (log entry 115). -/
def Pair.sizes (p : Pair) : List Nat := p.ranges.toList.map fun x => x.2.toNat

/-- The bytes of area or slot `k` of every used range, in range order (R650, R651). -/
def State.pairArea (s : State) (k : Nat) : Bytes :=
  s.pair.ranges.toList.flatMap fun x => s.mem.read (x.1.toNat % 2 ^ 40 + k * x.2.toNat) x.2.toNat

/-- What enabling the pair asks (R654): every range of two areas in one partition's board memory, at most 64 MiB in all, and a
peer of the same tenant; with EPOCH_FRAMES in its range (Table 14-10). -/
def State.pairMay (s : State) (w : U32) : Bool :=
  let ok (x : U64 × U32) : Bool :=
    decide (x.2 = 0) || (List.range 16).any fun p => decide (0 < p) && s.struct.inPart p (x.1.toNat % 2 ^ 40) (2 * x.2.toNat)
  s.pair.ranges.toList.all ok && decide (s.pair.sizes.sum ≤ 2 ^ 26) && s.sameTenant (wbits w 7 0) &&
    decide (2 ≤ wbits w 31 16) && decide (wbits w 31 16 ≤ 1000)

/-- A write of MGT_PAIR_CTL from PF0 while ENABLE is 0 (R654): ENABLE is ignored where its conditions do not hold. Bits [15:10], which
Table 14-10 neither lists nor reserves, are stored. 
DEDUCED (log entry 114). DESIGN CHOICE (log entry 153). -/
def State.pairWrite (s : State) (f : Part) (w : U32) : State :=
  if s.pf0Ready f && !s.pair.enabled then
    let on := bit w.toNat 8 && s.pairMay w
    let w := setBit w 8 on
    let role : Role := if !on then .off else if bit w.toNat 9 then .active else .standby
    { s with pair := { s.pair with ctl := w, role := role } }
  else s

/-- A write to MGT_PAIR_CTL (R654). DEDUCED (log entry 114). -/
def execPairEnable (f : Part) (w : U32) (s : State) : Host.Outcome State Fault Refusal := .next (s.pairWrite f w)

/-- The last byte of an epoch's copy is sent: the active sends the commit record (R650), and the epoch counts as committed.
DESIGN CHOICE (log entry 115). -/
def execEpochCopyComplete (s : State) : Host.Outcome State Fault Refusal :=
  match s.pair.copying with
  | some (f, exposure) =>
    if s.pair.enabled && decide (s.pair.role = .active) then
      let n := max 1 (wbits s.pair.ctl 31 16)
      let k := f / n % 2
      let r := label "TYCK" ++ leBytes 4 (f / n) ++ leBytes 4 f ++ leBytes 8 exposure ++ leBytes 8 s.pair.sizes.sum ++ sha384 (s.pairArea k)
      let s := { s with pair := { s.pair with copying := none, epoch := f / n % 2 ^ 32, frame := f } }
      .next (s.emit (.mgmt s.pair.peer (Config.eventCode "commit record") r))
    else .next s
  | none => .next s

/-- The standby receives a commit record (R651): it adopts the epoch if its own SHA-384 of the receive slot equals the
record's, and discards the slot otherwise. DEDUCED (log entry 114). -/
def execCommitRecord (epoch frame _gtcExposure bytes : Nat) (digest : Bytes) (s : State) : Host.Outcome State Fault Refusal :=
  if s.pair.enabled && decide (s.pair.role = .standby) then
    let same := decide (bytes = s.pair.sizes.sum) && decide (sha384 (s.pairArea (b2n (!s.pair.slot))) = digest)
    if same then
      let s := { s with pair := { s.pair with slot := !s.pair.slot, partial_ := false, epoch := epoch, frame := frame } }
      .next (s.note srcMgt 0 0x0603 0 [2, epoch, Config.eventCode "adopt"])
    else
      let s := { s with pair := { s.pair with partial_ := false, discard := satN 0xFFFFFFFF (s.pair.discard + 1) } }
      .next (s.note srcMgt 0 0x0603 0 [2, epoch, Config.eventCode "discard"])
  else .next s

/-- PAIR_FAIL from the active: the standby takes over (R653). DEDUCED (log entry 114). -/
def execPairFail (board : Fin 256) (s : State) : Host.Outcome State Fault Refusal :=
  .next (if s.pair.enabled && decide (s.pair.peer = board.val) then s.takeOver else s)

end Sys2Proof.Machine
end

