-- ==== Sys2Proof/Machine/Codes.lean ====
section
/-! DEFINITION. The numbers by which registers and records show enumerations. -/

namespace Sys2Proof.Machine

/-- PROFILE (Table 1-12). -/
def Profile.code : Profile → Nat
  | .field => 1
  | .road => 2
  | .rack => 3

/-- The thermal state (Table 14-8 order, Table 14-9). -/
def Thermal.code : Thermal → Nat
  | .normal => 0
  | .throttle => 1
  | .critical => 2
  | .trip => 3

/-- LOOP_STATE (Table 12-5). -/
def LoopSt.code : LoopSt → Nat
  | .freeRun => 0
  | .acquiring => 1
  | .locked => 2
  | .holdover => 3
  | .software => 4

/-- STATE of a reference input (Table 12-4). -/
def InSt.code : InSt → Nat
  | .disabled => 0
  | .failed => 1
  | .qualifying => 2
  | .wtr => 3
  | .available => 4

/-- Q_STAT.STATE (Table 4-10). -/
def QState.code : QState → Nat
  | .disabled => 0
  | .running => 1
  | .halted => 2
  | .postingAborts => 3

/-- SLOTn of TOP_IMG_SLOT (Table 5-20). -/
def SlotState.code : SlotState → Nat
  | .empty => 0
  | .loaded => 1
  | .validating => 2
  | .pendingFrame => 3
  | .pendingSwitch => 4

/-- MGT_REC_STAT.STATE (Table 3-15). -/
def RecState.code : RecState → Nat
  | .idle => 0
  | .receiving => 1
  | .verifying => 2
  | .writing => 3
  | .failed => 4

/-- ROLE of MGT_PAIR_STAT (Table 14-10). -/
def Role.code : Role → Nat
  | .off => 0
  | .active => 1
  | .standby => 2
  | .takenOver => 3

/-- BASE (Table 1-11). -/
def Base.code : Base → Nat
  | .opened => 1
  | .confidential => 2

/-- The TDISP state in a report (Table 13-7): 1 to 4 as Table 13-6 orders them. -/
def Tdi.code : Tdi → Nat
  | .configUnlocked => 1
  | .configLocked => 2
  | .run => 3
  | .error => 4

/-! The TOP registers, which reports carry as well. -/

/-- TOP_ID (Table 1-10). -/
def State.topId (s : State) : Nat := 0x0640B000 + if s.top.variantK then 0x4B else 0x56

/-- TOP_MODE (Table 1-11). -/
def State.topMode (s : State) : Nat := s.top.base.code + 2 ^ 8 * b2n s.top.armed + 2 ^ 9 * b2n s.top.eccOn

/-- TOP_STATUS (Table 1-12). -/
def State.topStatus (s : State) : Nat :=
  b2n s.top.ready + 2 * b2n s.top.provisional + 4 * b2n s.sec.tenant.isSome + 8 * b2n s.top.gtcSet +
    16 * s.top.lastReset.toNat + 128 * b2n s.top.recovery + 256 * s.top.profile.code

/-- MGT_SVN (Table 3-12): the fuse counters of Stage-1, MGT, SAF and SEC, one byte each. -/
def Fw.svnWord (w : Fw) : Nat := ofLe (w.svn.toList.map fun x => BitVec.ofNat 8 x.val)

/-- The operator slots written and those revoked, bit per slot (Table 13-7, Table 13-15). -/
def Sec.slotsWritten (x : Sec) : Nat := ((x.slots.toList.zipIdx.filter (·.1.1.isSome)).map (2 ^ ·.2)).sum
def Sec.slotsRevoked (x : Sec) : Nat := ((x.slots.toList.zipIdx.filter (·.1.2)).map (2 ^ ·.2)).sum

end Sys2Proof.Machine
end

