-- ==== Sys2Proof/Machine/SecOps.lean ====
section
/-! DEFINITION. Shared operations of trust: the attestation report (R587, R588), sealed packages and their loads (R592 to R600),
sessions, and the keys of board memory (R462, R569). -/

namespace Sys2Proof.Machine

/-- The bytes or as many zeros. -/
def orZeros (n : Nat) (b : Option Bytes) : Bytes := b.getD (List.replicate n 0)

/-- Draw random bytes. DESIGN CHOICE (log entry 26). -/
def State.draw (s : State) (n : Nat) : Bytes × State :=
  (Config.random s.sec.draws n, { s with sec := { s.sec with draws := s.sec.draws + 1 } })

/-! The attestation report. -/

/-- The slot 0 certificate chain (R561). -/
def State.chain (s : State) : Bytes := Config.certChain s.fw.combination s.top.provisional

/-- The fuse summary (Table 13-7). -/
def State.fuseSummary (s : State) : Bytes :=
  leBytes 4 s.fw.svnWord ++ leBytes 1 (s.sec.slotsWritten + 16 * s.sec.slotsRevoked) ++ leBytes 1 s.sec.lifecycle ++
    leBytes 1 (b2n s.sec.debugOff) ++ List.replicate 9 0

/-- The override digest: of the record in force. DEDUCED (log entry 67). -/
def State.overrideDigest (s : State) : Bytes := orZeros 48 ((if s.fw.override then s.overrideRec else none).map sha384)

/-- The digests of the boot ROM and of the four running images. -/
def State.imageDigests (s : State) : List Bytes := sha384 Config.bootRomImage :: s.fw.running.toList.map sha384

/-- The partition layout (Table 13-7 bytes 672 to 911). -/
def State.partLayout (s : State) : Bytes :=
  (List.range 15).flatMap fun k =>
    let p := k + 1
    let tdi := if s.exposed p then ((s.hif.fns[p]?).map fun x => x.tdi.code).getD 0 else 0
    match s.struct.partition p with
    | none => leBytes 3 0 ++ leBytes 1 tdi ++ leBytes 12 0
    | some r =>
      leBytes 1 (byteAt r 5 % 4) ++ leBytes 1 (byteAt r 6) ++ leBytes 1 (byteAt r 7) ++ leBytes 1 tdi ++ leBytes 4 0 ++
        leBytes 4 (field r 16 8 / 2 ^ 21) ++ leBytes 4 (field r 24 8 / 2 ^ 21)

/-- The in-force digest of a section (R186, R187). -/
def Section.shown (x : Section) : Bytes := if x.digest.isEmpty then List.replicate 48 0 else x.digest

/-- The user calibration digest (R115). -/
def State.calDigest (s : State) : Bytes := if s.cal.userInForce then sha384 s.cal.block else List.replicate 48 0

/-- Bytes 0 to 1,391 of a report for a function (Table 13-7), taken from one state (R588). -/
def State.reportBody (s : State) (f : Nat) (nonce : Bytes) : Bytes :=
  let opened := ((s.sec.doe[f]?).map (·.opened)).getD false
  let flags := b2n s.fw.override + 2 * b2n s.sec.consent.isSome + 4 * b2n opened + 8 * b2n (s.tdiRun f) + 256 * f
  label "TYAR" ++ leBytes 2 1 ++ leBytes 2 1488 ++ leBytes 4 s.topId ++ leBytes 4 s.topMode ++ leBytes 4 s.topStatus ++ leBytes 4 flags ++
    leBytes 8 s.gtcNs ++ slice nonce 0 32 ++ deviceDigest ++ sha384 s.chain ++ s.imageDigests.flatMap id ++ s.fw.combination ++
    s.overrideDigest ++ s.fuseSummary ++ orZeros 48 (s.sec.consent.map sha384) ++ leBytes 4 s.debugFeatures ++ leBytes 4 0 ++
    s.tag ++ orZeros 48 (s.sec.tenant.map (·.key)) ++ orZeros 48 s.sec.operatorKey ++ s.partLayout ++
    s.img.sect.toList.flatMap Section.shown ++ s.calDigest

/-- The whole report, signed with the alias key. -/
def State.report (s : State) (f : Nat) (nonce : Bytes) : Bytes :=
  let b := s.reportBody f nonce
  b ++ ecdsaSign (aliasScalar s.fw.combination) b

/-- The content of a measurement index (Table 13-8): raw or a digest; none for an index it does not have. -/
def State.measurement (s : State) (f index : Nat) (nonce : Bytes) : Option Bytes :=
  if 1 ≤ index ∧ index ≤ 5 then s.imageDigests[index - 1]?
  else if index = 6 then some s.fw.combination
  else if index = 7 then some s.overrideDigest
  else if index = 8 then some s.fuseSummary
  else if index = 9 then some (orZeros 48 (s.sec.consent.map sha384) ++ leBytes 4 s.debugFeatures)
  else if index = 10 then some s.partLayout
  else if 11 ≤ index ∧ index ≤ 19 then (s.img.sect[index - 11]?).map Section.shown
  else if index = 20 then some s.calDigest
  else if index = 21 then some (leBytes 4 s.topMode ++ leBytes 4 s.topStatus)
  else if index = 0x30 then some (s.report f nonce)
  else none

/-- A measurement block in the DMTF format (R590): index, specification 1, size, then type, size and value.
PRESUMED (log entry 25). -/
def measureBlock (index : Nat) (v : Bytes) : Bytes :=
  leBytes 1 index ++ leBytes 1 1 ++ leBytes 2 (3 + v.length) ++ leBytes 1 (Config.measurementType index) ++ leBytes 2 v.length ++ v

/-! Sealed packages. -/

/-- Fields of a package (Table 13-9). -/
def pkgTotal (b : Bytes) : Nat := field b 16 8
def pkgCompany (b : Bytes) : Nat := field b 24 8
def pkgQuorum (b : Bytes) : Bool := byteAt b 32 = 2
def pkgOthers (b : Bytes) : Nat := byteAt b 33
def pkgMembers (b : Bytes) : Nat := field b 34 2
def pkgPayload (b : Bytes) : Nat := field b 40 8
def pkgEntry (b : Bytes) (i : Nat) : Bytes := slice b (256 + 96 * i) 96

/-- The number of chunks of a payload. -/
def chunkCount (n : Nat) : Nat := (n + 16777215) / 16777216

/-- R593 step 1: magic, version, lengths, counts and reserved fields. DEDUCED (log entry 56). -/
def pkgFormed (b : Bytes) : Bool :=
  let n := pkgMembers b
  let k := pkgOthers b
  decide (slice b 0 4 = label "TYSP") && field b 4 2 = 1 && field b 6 2 = 256 && decide (1 ≤ n) && decide (n ≤ 256) &&
    (if byteAt b 32 = 1 then k = 0 && field b 36 4 = 0
     else byteAt b 32 = 2 && decide (1 ≤ k) && decide (k < n) && decide (1 ≤ field b 36 4) && decide (field b 36 4 ≤ 3600)) &&
    allZero (slice b 241 15) && (List.range n).all (fun i => allZero (slice (pkgEntry b i) 88 8)) &&
    pkgTotal b = 352 + 96 * n + pkgPayload b + 16 * chunkCount (pkgPayload b)

/-- R593 step 2: the tenant's signature over header and member table. -/
def pkgSigned (tenantKey b : Bytes) : Bool :=
  let n := 256 + 96 * pkgMembers b
  decide (slice b 96 48 = tenantKey) && ecdsaVerifies tenantKey (b.take n) (slice b n 96)

/-- R593 step 3: the entry of an EK. -/
def pkgEntryOf (b ek : Bytes) : Option Nat := (List.range (pkgMembers b)).find? fun i => slice (pkgEntry b i) 0 48 = ek

/-- The key-encryption key of member `i`, from the scalar of its EK (Table 13-9). -/
def memberKek (scalar : Nat) (b : Bytes) (i : Nat) : Bytes :=
  (hkdf (ecdhX scalar (slice b 145 96)) (label "TYSP" ++ slice b 8 8 ++ leBytes 2 i) 48).take 32

/-- The wrapped item of member `i`, unwrapped; none when AES-KW refuses it. -/
def pkgUnwrap (scalar : Nat) (b : Bytes) (i : Nat) : Option Bytes :=
  kwUnwrap (memberKek scalar b i) (slice (pkgEntry b i) 48 40)

/-- Chunk `c`: ciphertext and tag. -/
def pkgChunk (b : Bytes) (c : Nat) : Bytes × Bytes :=
  let o := 352 + 96 * pkgMembers b + c * 16777232
  let n := min 16777216 (pkgPayload b - c * 16777216)
  (slice b o n, slice b (o + n) 16)

/-- R593 step 5: the plaintext, when every chunk's tag is right. -/
def pkgDecrypt (key b : Bytes) : Option Bytes :=
  let aad := sha384 (b.take (256 + 96 * pkgMembers b))
  let iv (c : Nat) : Bytes := slice b 8 8 ++ leBytes 4 c
  let cs := List.range (chunkCount (pkgPayload b))
  (cs.mapM fun c => gcmOpen key (iv c) aad (pkgChunk b c).1 (pkgChunk b c).2).map (List.flatMap id)

/-- Lagrange's coefficient at 0 of the share at `x` among the points `xs` (R598). DESIGN CHOICE (log entry 70). -/
def gfCoeff (xs : List Nat) (x : Nat) : Nat :=
  (xs.filter (· ≠ x)).foldl (fun c y => gfMul c (gfMul y (gfInv (x ^^^ y)))) 1

/-- The content key from shares: entry index and bytes; R598 does not say at which point the share of an entry stands.
DESIGN CHOICE (log entry 70). -/
def combineShares (shares : List (Nat × Bytes)) : Bytes :=
  let xs := shares.map fun p => Config.shareX p.1 % 256
  (List.range 32).map fun k =>
    BitVec.ofNat 8 (shares.foldl (fun (acc : Nat) p => acc ^^^ gfMul (gfCoeff xs (Config.shareX p.1 % 256)) (byteAt p.2 k)) 0)

/-- The records whose blob a load writes over are dropped. DEDUCED (log entry 68). -/
def State.dropBlobs (s : State) (a n : Nat) : State :=
  let clear (b : Blob) : Bool := decide (b.base % 2 ^ 40 + b.len ≤ a) || decide (a + n ≤ b.base % 2 ^ 40)
  { s with sec := { s.sec with blobs := s.sec.blobs.filter clear } }

/-- A MODEL_LOAD fails (R594): its destination is undefined. DEDUCED (log entry 68). -/
def State.failLoad (s : State) (f q pos status detail : Nat) (c : Cmd) (payload : Nat) : State :=
  (s.undefine f c.addr1 payload).fix f q pos status detail srcSec

/-- R593 steps 5 and 6 with the content key: the plaintext is written through a sealing engine and held against its digest. Data
that came in poisoned is stored poisoned (R675). DEDUCED (log entries 56, 68). -/
def State.openPackage (s : State) (f q : Nat) (c : Cmd) (b key : Bytes) (ep : Bool) : State :=
  let a := c.addr1 % 2 ^ 40
  let s := s.dropBlobs a (pkgPayload b)
  match pkgDecrypt key b with
  | none => s.failLoad f q c.pos 0x50 0x05 c (pkgPayload b)
  | some plain =>
    if sha384 plain ≠ slice b 48 48 then s.failLoad f q c.pos 0x50 0x06 c (pkgPayload b)
    else
      let s := s.put f a plain ep
      let s := (s.underWay f q c.pos 0x00 0 srcSec).useSealing (cmdJob f q c (pkgPayload b))
      let s := if ep then s.markCmd (some (f, q, c.pos)) true false else s
      let blob : Blob :=
        { part := f, base := c.addr1, len := pkgPayload b, digest := slice b 48 48
          k := pkgOthers b + 1, grace := field b 36 4, challengeAt := s.clk }
      { s with sec := { s.sec with loading := s.sec.loading ++ [(f, q, c.pos, blob)] } }

/-! Keys of board memory. -/

/-- Board memory takes a new key (R462, R569): its contents are undefined from then on; the PINNED windows stay.
DEDUCED (log entry 74). -/
def State.newMemoryKey (s : State) : State :=
  let era := s.free
  { s.useFree with
    sec := { s.sec with memKey := s.sec.draws, draws := s.sec.draws + 1 }
    mem := { s.mem with cells := s.mem.cells.filter (fun c => decide (pinnedBase ≤ c.1) && c.2 != 0), era := some era, checkBuf := [] } }

/-- What follows a change of the tenant tag (R473, R490): the kept windows go, each port compares its peer's tag, and the neighbours
learn the new one. -/
def State.tagChanged (s : State) : State :=
  let ports := s.fab.ports.map fun x => { x with refused := x.up && decide (x.peerTag ≠ s.tag) }
  let s := { s with fab := { s.fab with windows := [], ports := ports } }
  let s := s.emitAll (((List.range 8).filter fun p => (s.fab.port p).up).map Out.hello)
  s.linksChanged.advertise

/-! Sessions. -/

/-- The SPDM exchange of a port. -/
def State.spdm (s : State) : SpdmPort → Spdm
  | .doe f => s.sec.doe[f.val]
  | .lanicy b => agetD s.sec.peers b {}

/-- Replace the SPDM exchange of a port. -/
def State.setSpdm (s : State) (p : SpdmPort) (x : Spdm) : State :=
  match p with
  | .doe f => { s with sec := { s.sec with doe := s.sec.doe.set f.val x } }
  | .lanicy b => { s with sec := { s.sec with peers := aset s.sec.peers b x } }

/-- The responder is reached: on an exposed function's mailbox, or from a board that is not lost; it runs once the management
firmware and SEC do (Table 3-2). DEDUCED (log entry 63). -/
def State.spdmReached (s : State) (p : SpdmPort) : Bool :=
  s.top.ready && match p with
  | .doe f => s.exposed f
  | .lanicy b => decide (b.val ≠ s.struct.boardId) && !s.fab.lost.contains b.val

/-- The function a report names as its requester; 0 for a board. DEDUCED (log entry 63). -/
def spdmFunction : SpdmPort → Nat
  | .doe f => f
  | .lanicy _ => 0

/-- The consent token leaves force (R604). -/
def State.endConsent (s : State) : State :=
  match s.sec.consent with
  | none => s
  | some t =>
    ({ s with sec := { s.sec with consent := none } } : State).note srcSec 0 0x0701 0 [Config.eventCode "left force", field t 112 4] true

end Sys2Proof.Machine
end

