-- ==== Sys2Proof/Machine/RegRead.lean ====
section
/-! DEFINITION. What a read of each register returns (R8, R37, R41, R43, R606), block by block, and the fields a read
clears (R14). Offsets are those of PF0's BAR0 (Table 1-14) and of a VF's BAR0 (Table 4-7). -/

namespace Sys2Proof.Machine

/-- The offset that a block's map counts from `base`. -/
def inRange (off base n : Nat) : Bool := decide (base ≤ off) && decide (off < base + n)

/-- Word `i` of a 64-bit quantity: 0 its lower half, 1 its upper. -/
def half (v i : Nat) : Nat := v / 2 ^ (32 * i) % 2 ^ 32

/-! The host interface. -/

/-- PART_STAT (Table 4-11). -/
def State.partStat (s : State) (p : Nat) : Nat :=
  b2n (((s.hif.fns[p]?).map (·.resetDone)).getD true) + 2 * b2n (decide (s.top.base = .confidential)) +
    4 * b2n (s.struct.partSafety p) + 8 * b2n (s.session p)

/-- PART_QOS (Table 4-7): WEIGHT, MEM_SHARE and FABRIC_SHARE of the PARTITION record. -/
def State.partQos (s : State) (p : Nat) : Nat := ((s.struct.partition p).map (field · 7 3)).getD 0

/-- Q_CTL (Table 4-9). -/
def Queue.ctl (x : Queue) : Nat := x.sizeLog2 + 2 ^ 16 * x.vector.toNat + 2 ^ 30 * b2n x.safety + 2 ^ 31 * b2n x.enable

/-- A word of a queue block (Table 4-8). -/
def Queue.peek (x : Queue) (r : Nat) : Nat :=
  if r < 0x08 then half x.sqBase.toNat (r / 4)
  else if r < 0x10 then half x.cqBase.toNat (r / 4 - 2)
  else if r < 0x18 then half x.histBase.toNat (r / 4 - 4)
  else if r = 0x18 then x.ctl
  else if r = 0x1C then x.seqInit.toNat
  else if r = 0x20 then x.st.code + 256 * x.error
  else if r = 0x24 then x.abortFirst.toNat
  else if r = 0x28 then x.abortCount
  else if r = 0x2C then x.coalCount + 65536 * x.coalTime
  else if r = 0x30 then x.e.toNat
  else 0

/-- The layout of Table 4-7, of which PF0's HIF block is another copy. -/
def State.peekFn (s : State) (f off : Nat) : Nat :=
  let x := (s.hif.fns[f]?).getD {}
  if off = 0x0000 then f
  else if off = 0x0004 then s.partStat f
  else if off = 0x0008 then s.partQos f
  else if off = 0x0010 then x.cause.toNat
  else if off = 0x0014 then x.vec0.toNat
  else if off = 0x0018 then x.vec1.toNat
  else if f = 0 ∧ inRange off 0x100 128 = true then
    (if off % 8 = 0 then s.partStat ((off - 0x100) / 8) else s.partQos ((off - 0x100) / 8))
  else if inRange off 0x2000 (0x40 * s.queueCount f) then (s.queue f ((off - 0x2000) / 0x40)).peek (off % 0x40)
  else 0

/-- A byte of the MSI-X table at reset: Vector Control masks the vector. PRESUMED (log entry 34). -/
def msixReset (a : Nat) : Byte := if a % 16 = 12 then 1 else 0

/-- A word of BAR2: the table of 64 entries stands at 0, and the pending bits, which this board never holds, read as 0.
PRESUMED (log entry 34). -/
def State.peekBar2 (s : State) (f off : Nat) : Nat :=
  if off < 1024 then
    ofLe ((List.range 4).map fun i => msixReset (off + i) ^^^ cellGet 0 (((s.hif.fns[f]?).getD {}).msix) (off + i))
  else 0

/-! Routes. -/

/-- RSQ_ROUTE_STAT (Table 6-10). -/
def State.routeStat (s : State) (r : Nat) : Nat :=
  let x := s.route r
  let alarm := ((s.struct.route r).map (byteAt · 11)).getD 0
  x.st.code + 16 * b2n (s.struct.safetyClass r) + 2 ^ 8 * x.flight + 2 ^ 11 * b2n x.decimating.isSome +
    2 ^ 12 * b2n (alarmOn alarm x.ratio) + 2 ^ 13 * b2n (decide (x.ratio = 256)) + 2 ^ 16 * satN 255 x.ratio + 2 ^ 24 * x.fault

/-- The RSQ block (Tables 6-9, 6-12). -/
def State.peekRsq (s : State) (off : Nat) : Nat :=
  let x := s.route (off / 0x40)
  let r := off % 0x40
  if off = 0x400 then b2n s.rsq.cycleAt.isSome + 16 * s.rsq.anchor + 65536 * s.rsq.intrusions
  else if 0x400 ≤ off then 0
  else if r = 0x00 then s.routeStat (off / 0x40)
  else if r = 0x04 then x.lastAdmitted.toNat
  else if r = 0x08 then x.lastRetired.toNat
  else if r = 0x0C then x.skips
  else if r = 0x10 then x.misses
  else if r = 0x14 then x.lat
  else if r = 0x18 then x.late
  else if r = 0x1C then x.ovrCount + 65536 * x.ovrNode
  else 0

/-! Cameras, pipes and sensor buses. -/

/-- CIN_CTX_STAT (Table 7-8). DEDUCED (log entry 39). -/
def State.ctxStat (s : State) (c : Nat) : Nat :=
  let x := s.ctx c
  b2n (s.struct.context c).isSome + 2 * b2n x.openFrame.isSome + 4 * b2n x.fallback + 8 * b2n x.longLine +
    16 * b2n x.extraLines + 32 * b2n (decide (x.shadow ≠ x.active))

/-- CIN_SCB_STAT (Table 7-9). -/
def Scb.stat (x : Scb) : Nat := b2n x.busy.isSome + 2 * b2n x.nack + 4 * b2n x.arbLost + 8 * b2n x.done

/-- The CIN block (Tables 7-8, 7-9). PHY_ERROR is a free value: the spec says of no event that it sets the bit. -/
def State.peekCin (s : State) (off : Nat) : Nat :=
  let p := (s.cin.ports[off / 0x10]?).getD {}
  let c := (off - 0x200) / 0x10
  let k := (off - 0x800) / 0x20
  if off < 0x100 then
    (if off % 0x10 = 0 then b2n p.hsActive + 2 * b2n p.deskewDone + 4 * (Config.freeNat s.free % 2)
     else if off % 0x10 = 4 then p.crc + 65536 * p.hdr
     else if off % 0x10 = 8 then p.unbound else p.ovf)
  else if inRange off 0x200 0x400 then
    (if off % 0x10 = 0 then ((s.ctx c).events - 1) % 2 ^ 32
     else if off % 0x10 = 4 then s.ctxStat c
     else if off % 0x10 = 8 then (s.ctx c).short else (s.ctx c).lines)
  else if inRange off 0x800 0x80 then
    (if off % 0x20 = 4 then (s.scbPop k).2 else if off % 0x20 = 8 then (s.scb k).stat else 0)
  else 0

/-- The ISP block (Table 7-8): the busy fraction is a measurement whose value the spec does not fix, so it is free.
DESIGN CHOICE (log entry 22). -/
def State.peekIsp (s : State) (off : Nat) : Nat :=
  let p := off / 0x10
  if 0x40 ≤ off then 0
  else if off % 0x10 = 0 then
    Config.freeNat s.free % 256 + 256 * (((s.struct.all 0x71).filter fun r => byteAt r 8 = p).length % 32)
  else if off % 0x10 = 4 then ((s.cin.pipes[p]?).getD {}).backlog
  else 0

/-! Stages, the second mash. -/

/-- A stage's block (Tables 8-7, 9-7): `i` counts the instances from PYR to the tracker. -/
def State.peekStage (s : State) (i r : Nat) : Nat :=
  let x := (s.stg.inst[i]?).getD {}
  let refining := (x.job.map fun j => j.coarseAt.isSome && !j.done && refines (stageSrc i) j.block).getD false
  if r = 0x00 then
    b2n x.job.isSome + 2 * b2n refining + 256 * (x.ctx % 64) + 65536 * ((x.job.map (·.route)).getD 0)
  else if r = 0x04 then x.frames
  else if r = 0x08 then x.poison
  else if r = 0x0C then x.late
  else if r = 0x10 then x.extra
  else if r = 0x14 ∧ i = 9 then x.live
  else 0

/-- The stage instance that an offset of the stage blocks names, and the offset within it (Tables 8-7, 9-7). -/
def stageAt (off : Nat) : Option (Nat × Nat) :=
  if inRange off 0x50000 0x100 then some (0, off % 0x100)
  else if inRange off 0x54000 0x200 then some (1 + (off - 0x54000) / 0x100, off % 0x100)
  else if inRange off 0x58000 0x200 then some (3 + (off - 0x58000) / 0x100, off % 0x100)
  else if inRange off 0x5C000 0x200 then some (5 + (off - 0x5C000) / 0x100, off % 0x100)
  else if inRange off 0x60000 0x300 then some (7 + (off - 0x60000) / 0x100, off % 0x100)
  else none

/-- The mash registers of a route (Table 9-7). -/
def State.peekMash (s : State) (off : Nat) : Nat :=
  let x := (s.stg.mash[off / 0x10]?).getD {}
  if off % 0x10 = 0 then x.offered
  else if off % 0x10 = 4 then x.refined
  else if off % 0x10 = 8 then x.unrefBudget + 65536 * x.unrefClose
  else x.last

/-! The neural cores. -/

/-- The registers of Table 13-13 are masked from PF0 (R606): in CONFIDENTIAL, unless a token in force has REG.
DEDUCED (log entry 46). -/
def State.masked (s : State) : Bool :=
  decide (s.top.base = .confidential) && !((s.sec.consent.map fun t => bit (field t 112 4) 1).getD false)

/-- NEC_CORE_STAT (Table 10-14). -/
def State.coreStat (s : State) (n : Nat) (x : Core) : Nat :=
  let hashed := decide ((s.struct.coreLs n).map (byteAt · 5) = some 2)
  let t := x.task.getD {}
  (t.node % 64) + 64 * (t.task % 4) + 2 ^ 8 * b2n x.task.isSome + 2 ^ 9 * b2n x.preempt + 2 ^ 10 * b2n hashed +
    2 ^ 11 * b2n t.safety + 2 ^ 12 * b2n t.sat + 2 ^ 13 * b2n t.poison

/-- A core's block (Table 10-13, R455). -/
def State.peekNec (s : State) (off : Nat) : Nat :=
  let x := (s.nec.cores[off / 0x1000]?).getD {}
  let r := off % 0x1000
  if r = 0x000 then s.coreStat (off / 0x1000) x
  else if r = 0x004 then x.fCause + 2 ^ 8 * x.fTask + 2 ^ 12 * x.fRoute + 2 ^ 16 * x.fNode
  else if r = 0x008 then (if s.masked then 0 else x.fPc)
  else if r = 0x00C then (if s.masked then 0 else x.fEa)
  else if r = 0x010 then x.eccC + 65536 * x.eccU
  else if r = 0x014 then x.tiles
  else if r = 0x018 then x.preempts
  else if r = 0x01C then x.sat
  else if r = 0x020 then x.hopFull + 65536 * x.hopPart
  else if inRange r 0x100 0x80 then
    let c := (x.casks[(r - 0x100) / 8]?).getD {}
    if r % 8 = 0 then c.fill + 2 ^ 31 * b2n c.fillWrap else c.tap + 2 ^ 31 * b2n c.tapWrap
  else 0

/-! Memory, cellar, fabric. -/

/-- The MEM and CEL blocks (Table 11-9), from 0x000C_0000. DEDUCED (log entry 39). -/
def State.peekMem (s : State) (off : Nat) : Nat :=
  if off = 0x00 then b2n s.mem.ready + 2 * b2n s.top.eccOn + 4 * b2n s.sec.tenant.isSome
  else if off = 0x04 then s.mem.ce
  else if off = 0x08 then s.mem.ue
  else if off = 0x10 ∨ off = 0x14 then half s.mem.eccAddr ((off - 0x10) / 4)
  else if off = 0x18 then s.mem.poisonWr
  else if off = 0x10000 then b2n (!(s.struct.all 0x22).isEmpty)
  else if off = 0x10004 then s.fab.hits
  else if off = 0x10008 then s.fab.misses
  else if off = 0x1000C then s.fab.backInv
  else if off = 0x10010 then s.fab.eccC + 65536 * s.fab.eccU
  else 0

/-- The LNK block (Table 11-10). DEDUCED (log entry 39). -/
def State.peekLnk (s : State) (off : Nat) : Nat :=
  let x := s.fab.port (off / 0x40)
  let r := off % 0x40
  let b := s.struct.boardId
  if off < 0x200 then
    (if r = 0x00 then b2n x.up + 2 * b2n x.sealed + 4 * b2n x.refused + 8 * b2n x.direct + 256 * x.peerBoard + 65536 * x.peerPort
     else if r = 0x04 then x.replay
     else if r = 0x08 then x.crc
     else if r = 0x0C then x.stale
     else if r = 0x10 then x.tagFail
     else if r = 0x14 then x.retrain
     else if r = 0x18 then x.keyGen
     else 0)
  else if off = 0x400 then
    b + 2 ^ 8 * s.struct.coord b 0 + 2 ^ 11 * s.struct.coord b 1 + 2 ^ 14 * s.struct.coord b 2 + 2 ^ 17 * b2n s.fab.escape
  else if off = 0x404 then s.fab.resends + 65536 * s.fab.failures
  else if off = 0x408 then s.fab.windows.length
  else if inRange off 0x410 0x20 then
    ((List.range 32).map fun n => if s.fab.lost.contains (8 * (off - 0x410) + n) then 2 ^ n else 0).sum
  else 0

/-! Time. -/

/-- TMG_STAT (Table 12-9). -/
def State.tmgStat (s : State) : Nat :=
  16 * ((s.tmg.sel.map (·.val)).getD 15) + 2 ^ 8 * s.tmg.loop.code + 2 ^ 11 * b2n s.tmg.tod.isSome + 2 ^ 12 * b2n s.fitValid +
    2 ^ 13 * b2n s.tmg.swTimeout + 2 ^ 14 * b2n s.tmg.stepRefused + 2 ^ 15 * b2n s.tmg.todMismatch

/-- TMG_DOM (R719). -/
def State.tmgDom (s : State) : Nat :=
  if s.rootActs then s.struct.boardId + 2 ^ 12
  else match s.tmg.sel with
    | some i =>
      if isLnkInput i then
        (s.input i).rootId + 2 ^ 8 * s.hopsSent + 2 ^ 13 + 2 ^ 16 * (s.fab.port (i - 4)).peerBoard
      else 0
    | none => 0

/-- TMG_HOLD (Table 12-8): whole seconds in the present holdover, or in the last one. DEDUCED (log entry 39). -/
def State.holdSeconds (s : State) : Nat :=
  match s.tmg.holdAt with
  | some a => satN 0xFFFFFFFF ((s.clk - a) / secTicks 1)
  | none => s.tmg.holdLast

/-- WTR_LEFT (Table 12-10): the seconds of wait-to-restore left, rounded up. DEDUCED (log entry 39). -/
def State.wtrLeft (s : State) (x : TmgIn) : Nat :=
  if x.st = .wtr then (x.wtrAt + secTicks (s.struct.boardField 24 2) - s.clk + secTicks 1 - 1) / secTicks 1 else 0

/-- A register of an input (Tables 12-8, 12-10). -/
def State.peekInput (s : State) (i r : Nat) : Nat :=
  let x := s.input i
  if r = 0x0 then x.st.code + 16 * x.ql + 256 * x.fail + 65536 * s.wtrLeft x
  else if r = 0x4 then unsigned 32 x.phase
  else if r = 0x8 then unsigned 32 x.freq
  else x.ql

/-- A register of an output (Table 12-8). -/
def State.peekOutput (s : State) (o r : Nat) : Nat :=
  let x := s.output o
  if r = 0x0 then x.mode + 4 * b2n (s.pwr.pinEn.getLsbD (outPin o)) + 8 * b2n x.realign.isSome
  else if r = 0x4 then unsigned 32 (s.outDev o)
  else 0

/-- The TMG block (Table 12-8). A read of TMG_GTC_LO takes its snapshot in `State.readEffect`. -/
def State.peekTmg (s : State) (off : Nat) : Nat :=
  let y := unsigned 40 s.tmg.y
  let prio (i : Nat) : Nat := s.struct.inputPrio i % 16
  if off = 0x000 then half (s.tmg.gtc / 2 ^ 48) 0
  else if off = 0x004 then half (s.tmg.snap / 2 ^ 48) 1
  else if off = 0x008 then s.tmg.snap / 2 ^ 32 % 2 ^ 16
  else if off = 0x00C then s.tmgStat
  else if off = 0x010 then s.tmg.mode
  else if off = 0x018 ∨ off = 0x01C then half y ((off - 0x018) / 4)
  else if off = 0x020 then s.tmg.todLo.toNat
  else if off = 0x024 then half s.tmg.todReg 1
  else if off = 0x030 then s.holdSeconds
  else if off = 0x034 then unsigned 16 s.tmg.temp
  else if off = 0x038 then unsigned 32 s.tmg.fitA
  else if off = 0x03C then satN 720 s.ret.record.ageing.length
  else if off = 0x040 then ((List.range 8).map fun i => prio i * 16 ^ i).sum
  else if off = 0x044 then ((List.range 5).map fun i => prio (8 + i) * 16 ^ i).sum
  else if off = 0x048 then s.tmgDom
  else if off = 0x050 then s.tmg.ptpCfg.toNat
  else if off = 0x054 then s.tmg.ptpIp.toNat
  else if off = 0x058 then s.tmg.ptpClass % 256 + 256 * unsigned 8 s.tmg.ptpLog + 65536 * b2n s.tmg.ptpFollowed
  else if off = 0x060 then s.tmg.switches
  else if inRange off 0x100 0xD0 then s.peekInput ((off - 0x100) / 0x10) (off % 0x10)
  else if inRange off 0x200 0x90 then s.peekOutput ((off - 0x200) / 0x10) (off % 0x10)
  else 0

/-! Trust, safety, management, supplies. -/

/-- SEC_STAT (Table 13-15). -/
def State.secStat (s : State) : Nat :=
  b2n s.sec.tenant.isSome + 2 * b2n s.sec.switch.isSome + 4 * b2n s.sec.consent.isSome +
    8 * b2n (s.sec.blobs.any fun b => b.graceAt.isSome) + 16 * (s.sec.activeSlot.getD 15) + 256 * s.sec.slotsRevoked +
    4096 * (s.sec.present % 256)

/-- The SEC block (Table 13-15). -/
def State.peekSec (s : State) (off : Nat) : Nat :=
  if off = 0x0 then s.secStat
  else if off = 0x14 then b2n s.sec.busy.isSome + 16 * s.sec.code
  else if inRange off 0x1000 0x1000 then ofLe (cellRead 0 s.sec.mbox (off - 0x1000) 4)
  else 0

/-- SAFE_OK toggles at the pins (R59, R61, R625): enabled, with the generator serviced and no input holding it high-impedance. -/
def State.okAtPins (s : State) : Bool :=
  s.saf.okToggling && s.pinOn 0

/-- SAF_COVER (Table 14-9): the routes every engine of which is tasted, and those with a STALE record. -/
def State.safCover (s : State) : Nat :=
  let tasted (r : Nat) : Bool :=
    (s.struct.route r).isSome && (s.struct.nodes r).all fun n => (s.struct.tasting r (field n 6 2)).isSome
  ((List.range 16).map fun r => 2 ^ r * b2n (tasted r) + 2 ^ (16 + r) * b2n (s.struct.stale r).isSome).sum

/-- The SAF mirror (Table 14-9). -/
def State.peekSaf (s : State) (off : Nat) : Nat :=
  if off = 0x00 then
    b2n s.top.armed + 2 * b2n s.okAtPins + 4 * b2n s.saf.safeOff + 8 * b2n s.fw.safRomOnly + 2 ^ 8 * s.saf.st.code +
      2 ^ 12 * s.saf.thermal.code + 2 ^ 24 * s.saf.cause
  else if off = 0x04 ∨ off = 0x08 then half s.saf.causeGtc ((off - 4) / 4)
  else if off = 0x0C then s.saf.causeSrc
  else if off = 0x10 then s.saf.rotCount
  else if off = 0x14 then s.saf.rotLast
  else if off = 0x18 then s.saf.stFail.1 % 256 + 256 * (s.saf.stFail.2 % 256)
  else if off = 0x1C then s.saf.tasteFail
  else if off = 0x20 then s.safCover
  else if inRange off 0x40 0x40 then (s.saf.age[(off - 0x40) / 4]?).getD 0
  else 0

/-- The pair block (Table 14-10). DESIGN CHOICE (log entry 115). -/
def State.peekPair (s : State) (off : Nat) : Nat :=
  let x := (s.pair.ranges[(off - 0x10) / 0x10]?).getD (0, 0)
  if off = 0x00 then s.pair.ctl.toNat
  else if off = 0x04 then
    s.pair.role.code + 4 * b2n s.pair.copying.isSome + 8 * b2n s.pair.slot +
      16 * b2n (s.pair.enabled && s.reachable.contains s.pair.peer)
  else if off = 0x08 then s.pair.epoch
  else if off = 0x0C then s.pair.frame
  else if off = 0x50 then s.pair.discard
  else if inRange off 0x10 0x40 then
    (if off % 0x10 = 0 then half x.1.toNat 0 else if off % 0x10 = 4 then half x.1.toNat 1
     else if off % 0x10 = 8 then x.2.toNat else 0)
  else 0

/-- MGT_BG_USE [15:0] (Table 15-8): a measurement that no event of the model carries, free within the 2.5 % of R704.
DESIGN CHOICE (log entry 22). -/
def State.bgUse (s : State) : Nat := Config.freeNat s.free % 1639

/-- The MGT block (Tables 3-9 to 3-14, 14-10, 15-8). -/
def State.peekMgt (s : State) (off : Nat) : Nat :=
  if off = 0x000 then
    4 * b2n s.fw.pendingBurn + 8 * b2n s.fw.safRomOnly + 16 * s.fw.slot.toNat + 256 * s.fw.trialBoot.toNat + 4096 * s.fw.fallback.toNat
  else if off = 0x008 then b2n s.fw.busy.isSome + 16 * s.fw.code.toNat
  else if off = 0x00C then s.fw.svnWord
  else if off = 0x010 then s.fw.pairs.toNat + 2 ^ 15 * b2n s.fw.override + 2 ^ 16 * b2n s.fw.ovrMismatch
  else if off = 0x014 then b2n s.cal.userInForce + 2 * b2n s.cal.userRejected + 4 * b2n s.cal.factoryBad + 2 ^ 16 * s.cal.clamped
  else if inRange off 0x200 0x54 then s.peekPair (off - 0x200)
  else if off = 0x300 then s.bg.patrolHours + 256 * s.bg.sramScrub
  else if off = 0x304 then s.bgUse + 65536 * max s.bg.useMax s.bgUse
  else if off = 0x308 then s.bg.block / 2 ^ 12 + 65536 * s.bg.passes
  else if off = 0x30C then s.bg.deferrals + 65536 * s.bg.forced
  else if off = 0x310 then satN 0xFFFFFF ((s.log.erases.map (·.2)).foldl max 0) + 2 ^ 24 * satN 255 s.log.retired.length
  else 0

/-- MGT_REC_STAT (Table 3-15). -/
def Recov.stat (r : Recov) : Nat := r.st.code + 2 ^ 8 * r.cause.toNat + 2 ^ 10 * r.comp.toNat + 2 ^ 16 * r.result.toNat

/-- The LOG block (Table 15-8). DEDUCED (log entry 39). -/
def State.peekLog (s : State) (off : Nat) : Nat :=
  if off = 0x00 then s.log.seq.toNat
  else if off = 0x04 then s.log.boot.toNat
  else if off = 0x08 then s.log.buf.length
  else if off = 0x0C then s.log.lost
  else if off = 0x10 then s.log.coalesced
  else 0

/-- The board answers as SMBus target (R61). -/
def State.smbusOn (s : State) : Bool := s.pwr.auxGood && s.top.mgtUp && !s.pwr.brdRst

/-- PWR_PIN_EN (Table 2-12, R78): the enables in force at the pins, and the SMBus target (R61). -/
def State.pinWord (s : State) : Nat :=
  ((List.range 20).map fun i => 2 ^ i * b2n (if i = 7 then s.smbusOn else s.pinOn i)).sum

/-- The PWR block (Tables 2-9 to 2-12). -/
def State.peekPwr (s : State) (off : Nat) : Nat :=
  if off = 0x0 then b2n s.pwr.mainGood + 2 * b2n (s.pwr.auxGood && !s.pwr.auxHigh) + 4 * b2n s.pwr.mainLoss + 256 * s.pwr.ga.toNat
  else if off = 0x4 then
    b2n s.pwr.lost + 2 * b2n s.ret.latch + 4 * b2n s.pwr.crcBad + 8 * b2n s.pwr.vbatLow + 16 * b2n s.pwr.vbatAbsent + 32 * b2n s.pwr.runDip
  else if off = 0x8 then s.pwr.vin100.toNat + 65536 * s.pwr.vbatMv.toNat
  else if off = 0xC then s.pinWord
  else 0

/-- TOP_IMG_LAST (Table 5-19, R606). -/
def State.imgLast (s : State) : Nat :=
  (if s.masked then 0 else s.img.lastPart) + 16 * s.img.lastSlot + 65536 * s.img.lastReason

/-- The TOP block (Tables 1-10 to 1-13, 5-18 to 5-21). -/
def State.peekTop (s : State) (off : Nat) : Nat :=
  if off = 0x00 then s.topId
  else if off = 0x04 then s.topMode
  else if off = 0x08 then s.topStatus
  else if off = 0x10 then s.img.gen.toNat
  else if off = 0x14 then s.imgLast
  else if off = 0x18 then (s.img.slots.toList.zipIdx.map fun x => x.1.st.code * 16 ^ x.2).sum
  else if off = 0x1C then s.img.missCount + 65536 * s.img.missRoute
  else 0

/-- The blocks of PF0's BAR0 (Table 1-14). DESIGN CHOICE (log entry 134). -/
def State.peekBlocks (s : State) (off : Nat) : Nat :=
  let r := off % 0x10000
  match off / 0x10000 with
  | 0x00 => s.peekTop off
  | 0x01 => s.peekFn 0 r
  | 0x02 => s.peekRsq r
  | 0x03 => s.peekCin r
  | 0x04 => s.peekIsp r
  | 0x0C => s.peekMem r
  | 0x0D => s.peekMem (0x10000 + r)
  | 0x0E => s.peekLnk r
  | 0x0F => s.peekTmg r
  | 0x10 => s.peekSec r
  | 0x11 => s.peekSaf r
  | 0x12 => s.peekMgt r
  | 0x13 => s.peekLog r
  | 0x14 => s.peekPwr r
  | _ =>
    match stageAt off with
    | some (i, o) => s.peekStage i o
    | none =>
      if inRange off 0x60800 0x100 then s.peekMash (off - 0x60800)
      else if inRange off 0x80000 0x40000 then s.peekNec (off - 0x80000)
      else 0

/-- A word of PF0's BAR0 (R37, R41, R119). DEDUCED (log entry 40). -/
def State.peekPf (s : State) (off : Nat) : Nat :=
  if s.top.ready then s.peekBlocks off
  else if off = 0x00 then s.topId
  else if off = 0x08 then s.topStatus
  else if s.top.recovery ∧ off = 0x120800 then s.recov.stat
  else if s.top.recovery ∧ off = 0x120804 then s.recov.len.toNat
  else 0

/-- A word of a function's BAR. DESIGN CHOICE (log entry 134). -/
def State.peek (s : State) (f : Part) (bar : Bar) (off : Nat) : Nat :=
  match bar with
  | .bar2 => s.peekBar2 f off
  | .bar0 => if f.val = 0 then s.peekPf off else if s.top.ready then s.peekFn f off else 0

/-! What a read changes: it clears RC fields (R14), takes the GTC snapshot (R44), takes a byte from a sensor bus's FIFO, and
uses a free value. -/

/-- The RC fields of the RSQ block. -/
def State.clearRsq (s : State) (off : Nat) : State :=
  let r := off / 0x40
  let x := s.route r
  if off = 0x400 then { s with rsq := { s.rsq with intrusions := 0 } }
  else if 0x400 ≤ off then s
  else if off % 0x40 = 0x0C then s.setRoute r { x with skips := 0 }
  else if off % 0x40 = 0x10 then s.setRoute r { x with misses := 0 }
  else if off % 0x40 = 0x14 then s.setRoute r { x with lat := 0 }
  else if off % 0x40 = 0x18 then s.setRoute r { x with late := 0 }
  else if off % 0x40 = 0x1C then s.setRoute r { x with ovrCount := 0 }
  else s

/-- The RC fields, the FIFO and the free bit of the CIN block. -/
def State.clearCin (s : State) (off : Nat) : State :=
  if off < 0x100 then
    (if off % 0x10 = 0 then s.useFree
     else if off % 0x10 = 4 then s.mapCam (off / 0x10) fun p => { p with crc := 0, hdr := 0 }
     else if off % 0x10 = 8 then s.mapCam (off / 0x10) fun p => { p with unbound := 0 }
     else s.mapCam (off / 0x10) fun p => { p with ovf := 0 })
  else if inRange off 0x200 0x400 ∧ off % 0x10 = 8 then s.mapCtx ((off - 0x200) / 0x10) fun x => { x with short := 0 }
  else if inRange off 0x800 0x80 ∧ off % 0x20 = 4 then (s.scbPop ((off - 0x800) / 0x20)).1
  else s

/-- The RC field and the free fraction of the ISP block. -/
def State.clearIsp (s : State) (off : Nat) : State :=
  if 0x40 ≤ off then s
  else if off % 0x10 = 0 then s.useFree
  else if off % 0x10 = 4 then
    { s with cin := { s.cin with pipes := s.cin.pipes.setIfInBounds (off / 0x10) {} } }
  else s

/-- The RC fields of a stage. -/
def State.clearStage (s : State) (i r : Nat) : State :=
  let x := (s.stg.inst[i]?).getD {}
  let put (x : Stage) : State := { s with stg := { s.stg with inst := s.stg.inst.setIfInBounds i x } }
  if r = 0x04 then put { x with frames := 0 }
  else if r = 0x08 then put { x with poison := 0 }
  else if r = 0x0C then put { x with late := 0 }
  else if r = 0x10 then put { x with extra := 0 }
  else s

/-- The RC fields of the mash. -/
def State.clearMash (s : State) (off : Nat) : State :=
  let r := off / 0x10
  let x := (s.stg.mash[r]?).getD {}
  let put (x : Mash) : State := { s with stg := { s.stg with mash := s.stg.mash.setIfInBounds r x } }
  if off % 0x10 = 0 then put { x with offered := 0 }
  else if off % 0x10 = 4 then put { x with refined := 0 }
  else if off % 0x10 = 8 then put { x with unrefBudget := 0, unrefClose := 0 }
  else s

/-- The RC fields of a core. -/
def State.clearNec (s : State) (off : Nat) : State :=
  let n := off / 0x1000
  let x := (s.nec.cores[n]?).getD {}
  let r := off % 0x1000
  let put (x : Core) : State := { s with nec := { s.nec with cores := s.nec.cores.setIfInBounds n x } }
  if r = 0x010 then put { x with eccC := 0, eccU := 0 }
  else if r = 0x014 then put { x with tiles := 0 }
  else if r = 0x018 then put { x with preempts := 0 }
  else if r = 0x01C then put { x with sat := 0 }
  else if r = 0x020 then put { x with hopFull := 0, hopPart := 0 }
  else s

/-- The RC fields of MEM and CEL. -/
def State.clearMem (s : State) (off : Nat) : State :=
  if off = 0x04 then { s with mem := { s.mem with ce := 0 } }
  else if off = 0x08 then { s with mem := { s.mem with ue := 0 } }
  else if off = 0x18 then { s with mem := { s.mem with poisonWr := 0 } }
  else if off = 0x10004 then { s with fab := { s.fab with hits := 0 } }
  else if off = 0x10008 then { s with fab := { s.fab with misses := 0 } }
  else if off = 0x1000C then { s with fab := { s.fab with backInv := 0 } }
  else if off = 0x10010 then { s with fab := { s.fab with eccC := 0, eccU := 0 } }
  else s

/-- The RC fields of LNK. -/
def State.clearLnk (s : State) (off : Nat) : State :=
  let p := off / 0x40
  let r := off % 0x40
  if off < 0x200 then
    (if r = 0x04 then s.mapPort p fun x => { x with replay := 0 }
     else if r = 0x08 then s.mapPort p fun x => { x with crc := 0 }
     else if r = 0x0C then s.mapPort p fun x => { x with stale := 0 }
     else if r = 0x10 then s.mapPort p fun x => { x with tagFail := 0 }
     else if r = 0x14 then s.mapPort p fun x => { x with retrain := 0 }
     else s)
  else if off = 0x404 then { s with fab := { s.fab with resends := 0, failures := 0 } }
  else s

/-- The snapshot and the RC field of TMG (R44). -/
def State.clearTmg (s : State) (off : Nat) : State :=
  if off = 0x000 then { s with tmg := { s.tmg with snap := s.tmg.gtc } }
  else if off = 0x060 then { s with tmg := { s.tmg with switches := 0 } }
  else s

/-- The RC fields of the SAF mirror, of MGT and of LOG. -/
def State.clearSaf (s : State) (off : Nat) : State :=
  if off = 0x10 then { s with saf := { s.saf with rotCount := 0 } }
  else if off = 0x1C then { s with saf := { s.saf with tasteFail := 0 } }
  else s
def State.clearMgt (s : State) (off : Nat) : State :=
  if off = 0x250 then { s with pair := { s.pair with discard := 0 } }
  else if off = 0x304 then { s with bg := { s.bg with useMax := max s.bg.useMax s.bgUse }, free := s.free + 1 }
  else if off = 0x30C then { s with bg := { s.bg with deferrals := 0, forced := 0 } }
  else s
def State.clearLog (s : State) (off : Nat) : State :=
  if off = 0x0C then { s with log := { s.log with lost := 0 } }
  else if off = 0x10 then { s with log := { s.log with coalesced := 0 } }
  else s

/-- What a read of a word of PF0's BAR0 changes; nothing while READY is 0 (R37). -/
def State.clearBlocks (s : State) (off : Nat) : State :=
  let r := off % 0x10000
  match off / 0x10000 with
  | 0x00 => if off = 0x1C then { s with img := { s.img with missCount := 0 } } else s
  | 0x02 => s.clearRsq r
  | 0x03 => s.clearCin r
  | 0x04 => s.clearIsp r
  | 0x0C => s.clearMem r
  | 0x0D => s.clearMem (0x10000 + r)
  | 0x0E => s.clearLnk r
  | 0x0F => s.clearTmg r
  | 0x11 => s.clearSaf r
  | 0x12 => s.clearMgt r
  | 0x13 => s.clearLog r
  | _ =>
    match stageAt off with
    | some (i, o) => s.clearStage i o
    | none =>
      if inRange off 0x60800 0x100 then s.clearMash (off - 0x60800)
      else if inRange off 0x80000 0x40000 then s.clearNec (off - 0x80000)
      else s

/-- What a read of a word changes. A VF's registers hold no RC field. -/
def State.readEffect (s : State) (f : Part) (bar : Bar) (off : Nat) : State :=
  match bar with
  | .bar2 => s
  | .bar0 => if f.val = 0 ∧ s.top.ready = true then s.clearBlocks off else s

/-- A function whose BAR answers an access to these bytes: PF0's BAR0 has 16 MiB, a VF's 64 KiB, a BAR2 its table and pending
bits (R38, R121, Table 4-7). DEDUCED (log entry 38). -/
def State.barHas (s : State) (f : Part) (bar : Bar) (off size : Nat) : Bool :=
  s.exposed f &&
    match bar with
    | .bar0 => decide (off + size ≤ if f.val = 0 then 2 ^ 24 else 2 ^ 16)
    | .bar2 => decide (off + size ≤ 2 ^ 12)

/-- An access that keeps R39: 32 or 64 bits, naturally aligned. DESIGN CHOICE (log entry 133). -/
def wellSized (off size : Nat) : Bool := (size = 4 || size = 8) && off % size = 0

/-- A register read that keeps R39 (R8, R14, R40): the lower word first, then the upper. DEDUCED (log entry 38). -/
def State.readBar (s : State) (f : Part) (bar : Bar) (off size : Nat) : State :=
  let v := s.peek f bar off
  let s1 := s.readEffect f bar off
  if size = 4 then { s1 with bus := .data v 4 }
  else
    let w := s1.peek f bar (off + 4)
    { s1.readEffect f bar (off + 4) with bus := .data (v + 2 ^ 32 * w) 8 }

end Sys2Proof.Machine
end

