-- ==== Sys2Proof/Machine/Access.lean ====
section
/-! DEFINITION. The ports beside the register windows: configuration requests (R84, R119, R121), SMBus (R50, R61) and the debug
port (R603, R605). -/

namespace Sys2Proof.Machine

/-- Step 6 of Table 3-2 is complete, or 100 ms have passed in recovery: HIF answers configuration requests (R84, R119).
DEDUCED (log entry 33). -/
def State.configReady (s : State) : Bool :=
  match s.top.recoveryAt with
  | some t => s.due t (msTicks 100)
  | none => s.pwr.mainGood && s.top.mgtUp && !s.top.bootBlocked

/-- A configuration request reaches HIF: it is answered with Configuration Request Retry Status, or normally, a function that is
not exposed reading as absent (R84, R119, R121). With the link down none arrives (R715). DEDUCED (log entry 33). -/
def execConfigurationRequest (f : Part) (s : State) : Host.Outcome State Fault Refusal :=
  if s.hif.linkUp then
    let a : ConfigAnswer := if !s.configReady then .retry else if s.exposed f then .shown s.hif.vfs.toNat else .absent
    .next (s.emit (.config f a))
  else .next s

/-- The carrier addresses an SMBus target: the board answers at 0x58 + GA whenever AUX_3V3 is present and step 4 of the boot has been
reached, unless BRD_RST_N is asserted (R50, R61). DESIGN CHOICE (log entry 43). -/
def execSmbusTransaction (addr : Nat) (s : State) : Host.Outcome State Fault Refusal :=
  if s.smbusOn && decide (addr = 0x58 + s.pwr.ga.toNat) then .next (s.emit .smbusAck) else .next s

/-! The debug port. -/

/-- The feature an access needs (Table 13-12). -/
def debugFeature : DebugOp → Nat
  | .tap => 0
  | .reg _ => 1
  | .halt _ _ => 2
  | .step _ => 2
  | .store _ _ => 2
  | .mem _ => 3
  | .trace => 4

/-- A register of Table 13-13, unmasked. DEDUCED (log entry 46). -/
def State.unmaskedReg (s : State) (off : Nat) : Nat :=
  let core := inRange off 0x80000 0x40000 && (off % 0x1000 = 0x8 || off % 0x1000 = 0xC)
  if off = 0x14 ∨ core = true then ({ s with top := { s.top with base := .opened } } : State).peekBlocks off else 0

/-- A debug access that is served. What TAP and TRACE return is free: no rule gives it. Halt and step have no effect while the
board is armed (R605). DESIGN CHOICE (log entries 41, 42). -/
def State.debugServe (s : State) (op : DebugOp) : State :=
  match op with
  | .tap => (s.emit (.answer (s.freeBytes 4))).useFree
  | .reg off => s.emit (.answer (leBytes 4 (s.unmaskedReg off)))
  | .halt c on =>
    if s.top.armed then s else s.setCore c { s.core c with halted := on, stepOne := false }
  | .step c =>
    if s.top.armed || !(s.core c).halted then s else s.setCore c { s.core c with stepOne := true }
  | .store c a => s.emit (.answer ((s.core c).lsRead a 32))
  | .mem a => s.emit (.answer (if s.inBoardMem a 64 then s.mem.read a 64 else List.replicate 64 0))
  | .trace => (s.emit (.answer (s.freeBytes 8))).useFree

/-- What a refused read returns: 0 (Where it gets hard, Trust). DESIGN CHOICE (log entry 41). -/
def debugRefuse : DebugOp → Option Nat
  | .tap => some 4
  | .reg _ => some 4
  | .halt _ _ => none
  | .step _ => none
  | .store _ _ => some 32
  | .mem _ => some 64
  | .trace => some 8

/-- An access on the debug port: served exactly with its feature in force (R603). DESIGN CHOICE (log entry 41). -/
def execDebugPortAccess (op : DebugOp) (s : State) : Host.Outcome State Fault Refusal :=
  if bit s.debugFeatures (debugFeature op) then .next (s.debugServe op)
  else match debugRefuse op with
    | some n => .next (s.emit (.answer (List.replicate n 0)))
    | none => .next s

end Sys2Proof.Machine
end

