-- ==== Sys2Proof/Machine/Memory.lean ====
section
/-! DEFINITION. The commands of board memory and of the cellar (R456 to R471, R717). -/

namespace Sys2Proof.Machine

/-- A request reaches a slice (R463, R465 to R469, R472): an address that no memory backs is not served.
DEDUCED (log entry 116). -/
def execCellarAccess (r : CellarReq) (s : State) : Host.Outcome State Fault Refusal :=
  let board := r.addr / 2 ^ 40
  if !s.pwr.mainGood then .next s
  else if board = s.struct.boardId then
    if s.lineExists (r.addr % 2 ^ 40 / 128 * 128) then .next (s.localAccess r) else .next s
  else if 2 ^ 48 ≤ r.addr ∨ s.requestRoom board = false then .next s
  else .next (s.remoteAccess r)

/-! How board memory stands in the packages (R456 to R462). -/

/-- The device address of a local address of board memory (R457): with ECC on a block of 1 KiB holds 15 data sectors. -/
def deviceAddr (ecc : Bool) (a : Nat) : Nat := if ecc then a / 64 / 15 * 1024 + a / 64 % 15 * 64 + a % 64 else a

/-- The channel of a block of the device's address space (R456). -/
def channelOf (b : Nat) : Nat :=
  (bits b 5 0) ^^^ (bits b 11 6) ^^^ (bits b 17 12) ^^^ (bits b 23 18) ^^^ (bits b 27 24)

/-- The key that encrypts board memory (R462). -/
def State.memoryKey (s : State) : Bytes := Config.random s.sec.memKey 64

/-- The ciphertext of the data sector at a local address (R462). -/
def State.cipher (s : State) (a : Nat) : Bytes := xtsEncrypt s.memoryKey a (s.mem.read a 64)

/-- Product in the field of the check words (R458). DESIGN CHOICE (log entry 148). -/
def rsMul (a b : Nat) : Nat :=
  ((List.range 8).foldl (fun (x : Nat × Nat) i =>
    (if 256 ≤ 2 * x.1 then (2 * x.1) ^^^ Config.rsPoly else 2 * x.1, if bit b i then x.2 ^^^ x.1 else x.2)) (a, 0)).2

/-- The generator's coefficients below its leading one, highest power first: of the product of x − α^(first + i) for i below 4.
DESIGN CHOICE (log entry 148). -/
def rsGenerator : List Nat :=
  let root (i : Nat) : Nat := (List.range (Config.rsFirst + i)).foldl (fun x _ => rsMul x 2) 1
  (((List.range 4).foldl (fun (g : List Nat) i =>
    (List.range (g.length + 1)).map fun k => (g[k]?).getD 0 ^^^ (if k = 0 then 0 else rsMul ((g[k - 1]?).getD 0) (root i))) [1]).drop 1)

/-- The four check bytes of a sector's ciphertext (R458): the remainder of its polynomial. DESIGN CHOICE (log entry 148). -/
def rsCheck (ct : Bytes) : Bytes :=
  (ct.foldl (fun (r : List Nat) b =>
    let f := b.toNat ^^^ (r[0]?).getD 0
    (List.range 4).map fun k => (r[k + 1]?).getD 0 ^^^ rsMul f ((rsGenerator[k]?).getD 0)) [0, 0, 0, 0]).map (BitVec.ofNat 8)

/-- The check word of the data sector at a local address: inverted for a poisoned sector (R458, R459). -/
def State.checkWord (s : State) (a : Nat) : Bytes :=
  let w := rsCheck (s.cipher a)
  if s.mem.poisoned a 64 then w.map (~~~·) else w

/-- The check sector of a block (R457, R458), whether MEM's buffer or memory holds it (R461). -/
def State.checkSector (s : State) (block : Nat) : Bytes :=
  ((List.range 15).flatMap fun i => s.checkWord (64 * (15 * block + i))) ++ List.replicate 4 0

/-- What stands in the packages at a device address of a sector (R457, R458, R462). -/
def State.deviceSector (s : State) (d : Nat) : Bytes :=
  let i := d / 64 % 16
  if s.top.eccOn then (if i = 15 then s.checkSector (d / 1024) else s.cipher (64 * (15 * (d / 1024) + i)))
  else s.cipher d

/-- What the check of a stored sector finds (R458): `err` is what the stored bytes of sector and check word differ by. One byte is
corrected, two or three are detected; what more show is open. DESIGN CHOICE (log entry 148). -/
def errFind (err : Bytes) : EccFind :=
  match (err.filter (· ≠ 0)).length with
  | 0 => .clean
  | 1 => .corrected
  | 2 => .uncorrectable
  | 3 => .uncorrectable
  | _ => match Config.beyondThree err with
    | 0 => .clean
    | 1 => .corrected
    | 2 => .uncorrectable

/-- The bytes a read of a sector brings (R458, R460, R462): those stored, as long as at most one byte is wrong and ECC is on; else what the
changed ciphertext decrypts to. -/
def State.sectorRead (s : State) (a : Nat) (err : Bytes) : Bytes :=
  let n := (err.filter (· ≠ 0)).length
  if n = 0 ∨ (n = 1 ∧ s.top.eccOn = true) then s.mem.read a 64 else xtsDecrypt s.memoryKey a (xorBytes (s.cipher a) (slice err 0 64))

/-! Reads and writes. -/

/-- A corrected error of a sector: counted, with a CORRECTED entry (Table 11-9, Table 15-2). DESIGN CHOICE (log entry 93). -/
def State.memCorrected (s : State) (a : Nat) : State :=
  let s := { s with mem := { s.mem with ce := satN 0xFFFFFFFF (s.mem.ce + 1) }, bg := { s.bg with ceSince := satN 0xFFFFFFFF (s.bg.ceSince + 1) } }
  s.note srcMem 1 0x0100 (s.struct.addrPart a) [srcMem, a]

/-- An uncorrectable error of a sector: counted, located, logged as DEFERRED (R459, Table 15-2). DESIGN CHOICE (log entry 93). -/
def State.memUncorrectable (s : State) (a : Nat) : State :=
  let p := s.struct.addrPart a
  let s := { s with
    mem := { s.mem with ue := satN 0xFFFFFFFF (s.mem.ue + 1), eccAddr := a }, bg := { s.bg with ueSince := satN 0xFFFFFFFF (s.bg.ueSince + 1) } }
  let s := s.note srcMem 2 0x0101 p [srcMem, a]
  if 0 < p then s.event p 3 srcMem else s

/-- What the check of a sector finds now (R458 to R460): with ECC off nothing is checked, and a poisoned sector counts no error. -/
def State.sectorFind (s : State) (a : Nat) (err : Bytes) : EccFind :=
  if s.top.eccOn && !s.mem.poisoned a 64 then errFind err else .clean

/-- A find is counted and logged. -/
def State.countFind (s : State) (a : Nat) : EccFind → State
  | .clean => s
  | .corrected => s.memCorrected a
  | .uncorrectable => s.memUncorrectable a

/-- A sector is read, decrypted and checked (R458 to R460, R462). -/
def execBoardMemoryRead (addr : Nat) (err : Bytes) (source : Nat) (s : State) : Host.Outcome State Fault Refusal :=
  let a := addr / 64 * 64
  if s.pwr.mainGood && s.inBoardMem a 64 then
    let f := s.sectorFind a err
    let bad := s.mem.poisoned a 64 || decide (f = .uncorrectable)
    let s := (s.countFind a f).emit (.answer (s.sectorRead a err))
    if bad then .next (s.poisonRead 0 (s.struct.boardId * 2 ^ 40 + a) source) else .next s
  else .next s

/-- On the standby of a pair, bytes written to the slot that does not hold the adopted epoch are part of an incoming epoch
(R651, R652). -/
def State.pairFill (s : State) (a : Nat) : State :=
  let k := b2n (!s.pair.slot)
  let in_ (x : U64 × U32) : Bool :=
    let lo := x.1.toNat % 2 ^ 40 + k * x.2.toNat
    decide (lo ≤ a) && decide (a < lo + x.2.toNat)
  if s.pair.enabled && decide (s.pair.role = .standby) && s.pair.ranges.toList.any in_ then
    { s with pair := { s.pair with partial_ := true } }
  else s

/-- Bytes are written to a sector (R459 to R462, R717): a write of fewer than 64 bytes reads the sector first, and is stored poisoned if
that read brings poison. -/
def execBoardMemoryWrite (addr : Nat) (data : Bytes) (poison : Bool) (err : Bytes) (s : State) : Host.Outcome State Fault Refusal :=
  let a := addr / 64 * 64
  if s.pwr.mainGood && s.inBoardMem a 64 && decide (addr % 64 + data.length ≤ 64) && !data.isEmpty then
    if data.length = 64 then .next ((s.memWrite addr data poison).pairFill addr)
    else
      let f := s.sectorFind a err
      let old := s.sectorRead a err
      let s := s.countFind a f
      let s := if old = s.mem.read a 64 then s else s.memWrite a old (s.mem.poisoned a 64)
      .next ((s.memWrite addr data (poison || decide (f = .uncorrectable))).pairFill addr)
  else .next s

/-- An uncorrectable error of a cellar SRAM (R471), at a set of an array of lines or at the directory entry of an address: a clean line is a miss and is fetched again, a dirty line, a PINNED line and a line
whose directory entry is hit are poisoned. -/
def execCellarSramEccError (array : SramArray) (index : Nat) (s : State) : Host.Outcome State Fault Refusal :=
  let count (s : State) : State := { s with
    fab := { s.fab with eccU := satN 0xFFFF (s.fab.eccU + 1) }, bg := { s.bg with ueSince := satN 0xFFFFFFFF (s.bg.ueSince + 1) } }
  let deferred (s : State) (a : Nat) : State :=
    let p := if a / 2 ^ 40 = s.struct.boardId then s.struct.addrPart (a % 2 ^ 40) else 0
    let s := (count s).note srcCel 2 0x0101 p [srcCel, a]
    if 0 < p then s.event p 3 srcCel else s
  let clean (s : State) (a : Nat) : State := (count s).note srcCel 1 0x0101 0 [srcCel, a]
  match array with
  | .directory =>
    let a := index / 128 * 128
    if (s.fab.entry a).isSome then .next (deferred (s.poisonLine (a % 2 ^ 40)) a) else .next s
  | .lines slice way =>
    match s.lineAt slice index way with
    | none => .next s
    | some a =>
      let held := s.fab.lines.find? (·.line = a / 128)
      if a / 2 ^ 40 = s.struct.boardId then
        if (s.struct.pinned (a % 2 ^ 40)).isSome || (held.map (·.dirty)).getD false then .next (deferred (s.poisonLine (a % 2 ^ 40)) a)
        else .next (clean { s with fab := { s.fab with lines := s.fab.lines.filter fun x => decide (x.line ≠ a / 128) } } a)
      else
        match s.fab.rline a with
        | none => .next s
        | some x =>
          if x.st = .m then .next (deferred { s with fab := s.fab.setRline { x with poison := true } } a)
          else if x.settled then .next (clean (s.refetch x) a)
          else .next (clean s a)

end Sys2Proof.Machine
end

