-- ==== Sys2Proof/Machine/Background.lean ====
section
/-! DEFINITION. The ledger's stages, telemetry, and the background work (R671, R685 to R711). -/

namespace Sys2Proof.Machine

/-! The ledger. -/

/-- The ledger position in the retention record follows the ledger (R694). DEDUCED (log entry 91). -/
def State.keepSeq (s : State) (l : Log) : State :=
  { s with log := l, ret := { s.ret with record := { s.ret.record with nextSeq := l.seq } } }

/-- The next entry of the reorder stage in the order of R688 (BOOT, STEPS, R142). -/
def Log.nextEntry (l : Log) : Option LogEntry := minBy LogEntry.before l.reorder

/-- Append the next entry of the reorder stage. -/
def State.appendNext (s : State) : State :=
  match s.log.nextEntry with
  | none => s
  | some e => s.keepSeq (({ s.log with reorder := s.log.reorder.erase e } : Log).appendAll s.gtcNs e)

/-- LEDGER_APPEND (R688): the GTC has passed the entry's stamp by 1 ms, or its time scale is closed. -/
def execLedgerAppend (s : State) : Host.Outcome State Fault Refusal :=
  match s.log.nextEntry with
  | none => .next s
  | some e =>
    if e.boot ≠ s.log.boot ∨ e.steps ≠ s.log.steps ∨ e.gtc + 1000000 ≤ s.gtcNs then .next s.appendNext else .next s

/-- COALESCE_SECOND_END (R690). -/
def execCoalesceSecondEnd (s : State) : Host.Outcome State Fault Refusal :=
  if s.gtcNs / 1000000000 = s.log.second then .next s else .next { s with log := s.log.endSecond s.gtcNs }

/-- The LOG sector after `k` that is not retired. DESIGN CHOICE (log entry 60). -/
def Log.sectorAfter (l : Log) (k : Nat) : Nat :=
  (((List.range 1728).map fun i => (k + 1 + i) % 1728).find? fun n => !l.retired.contains n).getD k

/-- The entries that stay when the write point enters a new sector: the sector ahead of it is erased (R693).
DESIGN CHOICE (log entry 60). -/
def Log.afterErase (l : Log) : List LogEntry :=
  let keep := (1728 - l.retired.length - 2) * 1024
  l.nor.drop (l.nor.length - keep)

/-- One entry is written at the write point (R691, R693). DESIGN CHOICE (log entry 60). -/
def Log.norWrite (l : Log) (e : LogEntry) : Log :=
  if l.fill < 1024 then { l with nor := l.nor ++ [e], buf := l.buf.drop 1, fill := l.fill + 1 }
  else
    let k := l.sectorAfter l.sector
    let ahead := l.sectorAfter k
    { l with
      sector := k, fill := 1, nor := l.afterErase ++ [e], buf := l.buf.drop 1
      erases := aset l.erases ahead (agetD l.erases ahead 0 + 1) }

/-- The oldest entry of the on-die buffer is copied to NOR; a sector that fails to erase or program is retired, and the write moves
on to the next sector (R691, R693, R694). -/
def State.norCopy (s : State) (ok : Bool) : State :=
  match s.log.buf.head? with
  | none => s
  | some e =>
    if ok then
      let s := s.keepSeq ((s.log.norWrite e).reportGap s.gtcNs)
      { s with ret := { s.ret with record := { s.ret.record with lastNorSeq := e.seq } } }
    else
      let l := s.log
      let bad := if l.fill < 1024 then l.sector else l.sectorAfter l.sector
      let l := { l with retired := nset l.retired bad }
      let s := { s with log := { l with sector := l.sectorAfter bad, fill := 0, erases := aset l.erases bad (agetD l.erases bad 0 + 1) } }
      s.note srcMgt 0 0x0800 0 [1, 3, bad]

/-- LEDGER_NOR_COPY (R691, R693). DESIGN CHOICE (log entry 60). -/
def execLedgerNorCopy (eraseOk : Bool) (s : State) : Host.Outcome State Fault Refusal :=
  if s.top.mgtUp then .next (s.norCopy eraseOk) else .next s

/-- Append up to `n` waiting entries at once. -/
def State.appendMany (s : State) : Nat → State
  | 0 => s
  | n + 1 => s.appendNext.appendMany n

/-- Copy up to `n` entries to NOR. -/
def State.copyMany (s : State) : Nat → State
  | 0 => s
  | n + 1 => (s.norCopy true).copyMany n

/-- Whether Table 1-8 assigns a source number (R26). DEDUCED (log entry 61). -/
def sourceListed (n : Nat) : Bool :=
  n = 0 || (decide (0x010 ≤ n) && decide (n < 0x064)) || (decide (0x070 ≤ n) && decide (n < 0x07A)) ||
    (decide (0x080 ≤ n) && decide (n < 0x0D2)) || (decide (0x0E0 ≤ n) && decide (n < 0x0E8)) || n = 0x0F0 || n = 0x0F8 || n = 0x100 ||
    (decide (0x110 ≤ n) && decide (n < 0x120))

/-- BOARD_FATAL_ERROR (R671, R684): the entry reaches NOR, then a level 4 reset starts. A block without a source number of its own
is reported by MGT. DEDUCED (log entry 61). -/
def execBoardFatalError (source index : Nat) (s : State) : Host.Outcome State Fault Refusal :=
  let src := if sourceListed source then source else srcMgt
  let s := s.note src 5 0x0101 0 [src, index]
  let s := if s.top.mgtUp then
      let s := s.appendMany s.log.reorder.length
      s.copyMany s.log.buf.length
    else s
  .next (s.startReset false "board fatal" src)

/-! Telemetry. -/

/-- A number held to what `n` bytes show. DESIGN CHOICE (log entry 44). -/
def satBytes (n v : Nat) : Bytes := leBytes n (satN (2 ^ (8 * n) - 1) v)

/-- A fraction in 1/256 as a byte. DESIGN CHOICE (log entry 59). -/
def busyByte (part whole : Nat) : Bytes := satBytes 1 (if whole = 0 then 0 else 256 * part / whole)

/-- `n` free bytes from the `k`-th of a use on. DESIGN CHOICE (log entry 22). -/
def State.freeFrom (s : State) (k n : Nat) : Bytes := (List.range n).map fun i => Config.memFree s.free (k + i)

/-- The telemetry record of the interval that ends now, with SAMPLE, DROPPED and PART zero (Table 15-6). The foreground and
background use and the busy fractions of pipes and stages are free values. DESIGN CHOICE (log entry 59). -/
def State.telemetry (s : State) : Bytes :=
  let routes := s.rsq.routes.toList
  let cycles := s.struct.profile.mhz * 10000
  let hit := s.fab.telHits + s.fab.telMisses
  let ports := s.fab.ports.toList
  let mask (p : LnkPort → Bool) : Nat := ((ports.zipIdx.filter fun x => p x.1).map fun x => 2 ^ x.2).foldl (· + ·) 0
  label "TYTM" ++ leBytes 2 1 ++ leBytes 2 256 ++ leBytes 8 s.gtcNs ++ List.replicate 8 0 ++
    leBytes 2 (unsigned 16 (s.saf.temp * 16)) ++ satBytes 2 (s.saf.power / 100) ++
    leBytes 1 s.top.profile.code ++ leBytes 1 s.saf.thermal.code ++ leBytes 1 s.tmg.loop.code ++ leBytes 1 s.saf.st.code ++
    routes.flatMap (fun x => satBytes 1 x.ratio) ++
    routes.flatMap (fun x => satBytes 2 (x.telLat / 100)) ++
    routes.flatMap (fun x => satBytes 1 x.telMisses) ++
    s.freeFrom 0 4 ++ (if hit = 0 then s.freeFrom 4 2 else satBytes 2 (65536 * s.fab.telHits / hit)) ++ leBytes 2 0 ++
    leBytes 4 s.bg.ceSince ++ leBytes 4 s.bg.ueSince ++
    leBytes 1 (mask (·.up)) ++ leBytes 1 (mask fun p => p.up && p.sealed) ++ s.freeFrom 6 4 ++ leBytes 2 0 ++
    s.nec.cores.toList.flatMap (fun c => busyByte c.busy cycles) ++ s.freeFrom 10 8 ++
    leBytes 4 s.log.seq.toNat ++ leBytes 4 s.log.lost ++
    leBytes 2 (((List.range 16).filter fun r => (s.route r).ratio = 256).map (2 ^ ·)).sum ++ List.replicate 54 0

/-- End a telemetry interval of at least 10 ms: the record is taken and the interval's counters start anew (R700).
DESIGN CHOICE (log entry 59). -/
def State.endInterval (s : State) : State :=
  if s.due s.bg.telAt (msTicks 10) then
    { s.useFree with
      bg := { s.bg with telAt := s.clk, telSnap := s.telemetry, ceSince := 0, ueSince := 0 }
      rsq := { s.rsq with routes := s.rsq.routes.map fun x => { x with telLat := 0, telMisses := 0 } }
      fab := { s.fab with telHits := 0, telMisses := 0 }
      nec := { s.nec with cores := s.nec.cores.map fun c => { c with busy := 0 } } }
  else s

/-- Whether a route of a partition uses an engine (R702). -/
def Struct.usesEngine (t : Struct) (p e : Nat) : Bool :=
  (t.all 0x51).any fun x => t.routePart (byteAt x 4) = p && field x 6 2 = e

/-- What a VF sees of a telemetry record (R702). -/
def Struct.maskTelemetry (t : Struct) (p : Nat) (b : Bytes) : Bytes :=
  let mine (r : Nat) : Bool := t.routePart r = p
  let stage (i : Nat) : Bool := if i < 7 then t.usesEngine p (0x070 + i) else [0x077, 0x078, 0x079].any fun e => t.usesEngine p e
  b.mapIdx fun i x =>
    let keep :=
      if 32 ≤ i ∧ i < 48 then mine (i - 32)
      else if 48 ≤ i ∧ i < 80 then mine ((i - 48) / 2)
      else if 80 ≤ i ∧ i < 96 then mine (i - 80)
      else if 120 ≤ i ∧ i < 184 then ((t.coreRoute (i - 120)).map mine).getD false
      else if 184 ≤ i ∧ i < 192 then stage (i - 184)
      else true
    if i = 200 ∨ i = 201 then x &&& BitVec.ofNat 8 (((List.range 8).filter fun r => mine (r + 8 * (i - 200))).map (2 ^ ·)).sum
    else if keep then x else 0

/-- TELEMETRY_SAMPLE (R699 to R702): `rdOff` is what the board reads of RD_OFF. DEDUCED (log entry 52). -/
def execTelemetrySample (f : Part) (rdOff : Nat) (s : State) : Host.Outcome State Fault Refusal :=
  let s := if s.top.mgtUp then s.endInterval else s
  match (s.hif.fns[f.val]?).bind (·.ring) with
  | none => .next s
  | some g =>
    if g.sampledAt = s.bg.telAt then .next s
    else
      let cap := g.size - 256
      let setRing (s : State) (g : TelRing) : State :=
        { s with hif := { s.hif with fns := s.hif.fns.mapIdx fun i x => if i = f.val then { x with ring := some g } else x } }
      let used := (g.wrOff + cap - rdOff % cap) % cap
      if used + 256 < cap then
        let b := if f.val = 0 then s.bg.telSnap else s.struct.maskTelemetry f s.bg.telSnap
        let b := b.take 16 ++ leBytes 4 g.sample ++ satBytes 2 g.dropped ++ leBytes 1 f ++ b.drop 23
        let wr := (g.wrOff + 256) % cap
        let s := s.emitAll [.hostWrite f (g.addr + 256 + g.wrOff) b false, .hostWrite f g.addr (leBytes 8 wr) false]
        let s := setRing s { g with wrOff := wr, sample := (g.sample + 1) % 2 ^ 32, dropped := 0, sampledAt := s.bg.telAt }
        let set := ((s.hif.fns[f.val]?).map fun x => x.cause.getLsbD 6).getD true
        if set then .next s else .next (s.event f 6 srcMgt)
      else .next (setRing s { g with dropped := satN 0xFFFF (g.dropped + 1), sampledAt := s.bg.telAt, sample := g.sample })

/-! Background work. -/

/-- No reserved slot is open (R705). -/
def State.unreserved (s : State) : Bool := s.rsq.openSlots.isEmpty

/-- The patrol finds a sector uncorrectable (R709, R710): it is counted, logged and poisoned; the write-back of the poison is dropped
when another write reached the block. -/
def State.patrolUe (s : State) (block a : Nat) (intervened : Bool) : State :=
  let p := s.struct.addrPart a
  let s := { s with
    mem := { s.mem with
      ue := satN 0xFFFFFFFF (s.mem.ue + 1), eccAddr := a
      poison := if intervened then s.mem.poison else nset s.mem.poison (a / 64) }
    bg := { s.bg with ueSince := satN 0xFFFFFFFF (s.bg.ueSince + 1) } }
  let s := s.note srcMem 2 0x0102 p [a, channelOf block, bits block 27 6]
  if 0 < p then s.event p 3 srcMem else s

/-- The patrol reads the 15 data sectors of a block (R457, R709). A poisoned sector keeps its poison and counts no error. -/
def State.patrolBlock (s : State) (block : Nat) (errs : List Bytes) (intervened : Bool) : State :=
  (((errs.take 15).map errFind).zipIdx).foldl (fun s x =>
    let a := (15 * block + x.2) * 64
    if s.mem.poisoned a 64 then s
    else
      match x.1 with
      | .clean => s
      | .corrected => s.memCorrected a
      | .uncorrectable => s.patrolUe block a intervened) s

/-- The patrol goes on to the next block; after the last one a new pass starts, with the PATROL_HOURS then in force (R709, R711). -/
def Bg.nextBlock (b : Bg) : Bg :=
  if b.block + 1 < 2 ^ 28 then { b with block := b.block + 1 }
  else { b with block := 0, passes := satN 0xFFFF (b.passes + 1), passHours := b.patrolHours }

/-- PATROL_READ (R705, R709, R710). With ECC off no check word is read. DESIGN CHOICE (log entry 62). -/
def execPatrolRead (errs : List Bytes) (intervened : Bool) (s : State) : Host.Outcome State Fault Refusal :=
  if s.mem.ready && s.unreserved then
    let s := if s.top.eccOn then s.patrolBlock s.bg.block errs intervened else s
    .next { s with bg := s.bg.nextBlock }
  else .next s

/-- SRAM_SCRUB (R413, R703): a word of a core's local store is read and corrected, or poisoned. It never runs while a node of a
safety-class route runs on the core. DESIGN CHOICE (log entry 62). -/
def execSramScrub (core : Fin 64) (addr : Nat) (e : EccFind) (s : State) : Host.Outcome State Fault Refusal :=
  let x := s.core core
  if (x.task.map (·.safety)).getD false ∨ 524288 ≤ addr then .next s
  else
    let s := if s.due s.bg.scrubAt (secTicks s.bg.sramScrub) then { s with bg := { s.bg with scrubAt := s.clk } } else s
    let w := addr / 32
    let p := ((s.struct.coreRoute core).map s.struct.routePart).getD 0
    match e with
    | .clean => .next s
    | .corrected =>
      let s := s.setCore core { x with eccC := satN 0xFFFF (x.eccC + 1) }
      let s := { s with bg := { s.bg with ceSince := satN 0xFFFFFFFF (s.bg.ceSince + 1) } }
      .next (s.note (srcCore core) 1 0x0100 p [srcCore core, w])
    | .uncorrectable =>
      let s := s.setCore core { x with lsPoison := nset x.lsPoison w, eccU := satN 0xFFFF (x.eccU + 1) }
      let s := { s with bg := { s.bg with ueSince := satN 0xFFFFFFFF (s.bg.ueSince + 1) } }
      let s := s.note (srcCore core) 2 0x0101 p [srcCore core, w]
      .next (if 0 < p then s.event p 3 (srcCore core) else s)

/-- An activity is deferred: counted and logged (R706, Table 15-4). DESIGN CHOICE (log entry 62). -/
def State.defer (s : State) (activity : Nat) : State :=
  ({ s with bg := { s.bg with deferrals := satN 0xFFFF (s.bg.deferrals + 1) } } : State).note srcMgt 0 0x0800 0 [activity, 1, 0]

/-- RECALIBRATION (R703, R705 to R707): due 100 ms after the channel's last one, deferred to at most 200 ms, then forced in the next
unreserved time. DESIGN CHOICE (log entry 62). -/
def execRecalibration (channel : Fin 64) (foregroundBusy : Bool) (s : State) : Host.Outcome State Fault Refusal :=
  let last := s.bg.recal.get channel
  let done (s : State) : State := { s with bg := { s.bg with recal := s.bg.recal.set channel s.clk } }
  if s.mem.ready = false ∨ s.due last (msTicks 100) = false then .next s
  else if s.due last (msTicks 200) then
    if s.unreserved then
      let s := done { s with bg := { s.bg with forced := satN 0xFFFF (s.bg.forced + 1) } }
      .next (s.note srcMgt 0 0x0800 0 [6, 2, 0])
    else .next s
  else if foregroundBusy || !s.unreserved then .next (s.defer 6)
  else .next (done s)

/-- REFRESH_MANAGEMENT (R703, R705, R706). DESIGN CHOICE (log entry 62). -/
def execRefreshManagement (foregroundBusy : Bool) (s : State) : Host.Outcome State Fault Refusal :=
  if s.mem.ready = false then .next s
  else if foregroundBusy || !s.unreserved then .next (s.defer 5)
  else .next { s with bg := { s.bg with rfms := s.bg.rfms + 1 } }

/-- REFRESH (R708): it is done whatever else runs. DESIGN CHOICE (log entry 62). -/
def execRefresh (s : State) : Host.Outcome State Fault Refusal :=
  if s.mem.ready then .next { s with bg := { s.bg with refreshes := s.bg.refreshes + 1 } } else .next s

/-- BG_CTL_WRITE (R711): a value outside its range leaves its field unchanged. -/
def State.setBg (s : State) (f : Part) (w : U32) : State :=
  if s.pf0Ready f then
    let h := wbits w 7 0
    let c := wbits w 15 8
    { s with bg := { s.bg with
      patrolHours := if 1 ≤ h ∧ h ≤ 168 then h else s.bg.patrolHours
      sramScrub := if 1 ≤ c ∧ c ≤ 60 then c else s.bg.sramScrub } }
  else s

/-- BG_CTL_WRITE: the command. -/
def execBgCtlWrite (f : Part) (w : U32) (s : State) : Host.Outcome State Fault Refusal := .next (s.setBg f w)

end Sys2Proof.Machine
end

