-- ==== Sys2Proof/Machine/HostCmds.lean ====
section
/-! DEFINITION. The host commands that move data: DMA_COPY, DMA_FILL, MSG_SEND, FLASH_WRITE, CAL_CLEAR, LEDGER_READ and
TELEMETRY_RING, host reads that complete, and the engines behind them (R143 to R157, R674 to R701). -/

namespace Sys2Proof.Machine

/-- The DETAIL of a place a command may not use. DESIGN CHOICE (log entry 49). -/
def Place.refused : Place → Option Nat
  | .bad d => some d
  | _ => none

/-- Ask for the lines of a remote source, without keeping copies (R472). DEDUCED (log entry 50). -/
def State.askSource (s : State) (part board a n : Nat) (cmd : Option (Nat × Nat × Nat)) : State :=
  (linesOf a n).foldl (fun s l => s.request ({ typ := 0x03, dest := board, part := part, addr := board * 2 ^ 40 + 128 * l } : Msg) cmd) s

/-- The lines of a DMA_COPY's local source that memory cannot give now (R469). -/
def State.copyAway (s : State) (f : Nat) (c : Cmd) : List Nat :=
  match s.place f c.addr0 c.length with
  | .local_ a => s.away a c.length
  | _ => []

/-- DMA_COPY (R122, R147, R463, R469, R674 to R677): `d` is what the host read returned when the source is host memory. A remote source
is read line by line, and its bytes are written as they arrive; lines of a local source that another board owns are asked back
first, and the command starts when it comes again. DESIGN CHOICE (log entry 48). -/
def execDmaCopy (f : Part) (q : Fin 64) (d : HostRead) (s : State) : Host.Outcome State Fault Refusal :=
  match s.front f q 0x30 with
  | none => .next s
  | some c =>
    let fromHost := bit (c.param 0 1) 0
    let toHost := bit (c.param 0 1) 1
    let src := s.place f c.addr0 c.length
    let dst := s.place f c.addr1 c.length
    let bad := (if fromHost then none else src.refused).or (if toHost then none else dst.refused)
    match bad with
    | some detail => .next (s.refuse f q c.pos detail)
    | none =>
      let out := if fromHost then [] else s.copyAway f c
      if !out.isEmpty then .next (s.recall f out) else
      let cmd := some (f.val, q.val, c.pos)
      let s := (s.underWay f q c.pos 0x00 0 (srcPart f)).useDma (cmdJob f q c c.length)
      if fromHost then
        match d with
        | .failed =>
          let s := s.markCmd cmd false true
          if toHost then .next s
          else match dst with
            | .local_ a => .next ((s.put f a (s.freeBytes c.length) false).useFree)
            | _ => .next s
        | .data b ep =>
          let bs := slice b 0 c.length
          let s := if ep then s.markCmd cmd true false else s
          if toHost then .next (s.toHost f q c.seq c.addr1 bs 0 fun _ => ep)
          else .next (s.toPlace f dst bs (fun _ => ep) cmd)
      else
        match src with
        | .bad _ => .next s
        | .remote board a =>
          .next (s.askSource f board a c.length cmd)
        | .local_ a =>
          let bs := s.mem.read a c.length
          let old := s.mem.poison
          let s := s.readLocal f a c.length
          let s := if s.mem.poisoned a c.length then s.markCmd cmd true false else s
          if toHost then .next (s.toHost f q c.seq c.addr1 bs (a % 64) fun k => old.contains (a / 64 + k))
          else .next (s.toPlace f dst bs (fun i => old.contains ((a + i) / 64)) cmd)

/-- DMA_FILL (R122, R147, R463): the 8-byte pattern, repeated. DESIGN CHOICE (log entry 48). -/
def execDmaFill (f : Part) (q : Fin 64) (s : State) : Host.Outcome State Fault Refusal :=
  match s.front f q 0x31 with
  | none => .next s
  | some c =>
    let dst := s.place f c.addr1 c.length
    match dst.refused with
    | some detail => .next (s.refuse f q c.pos detail)
    | none =>
      let pat := leBytes 8 (c.param 0 8)
      let bs := (List.range c.length).map fun i => pat.getD (i % 8) 0
      let s := (s.underWay f q c.pos 0x00 0 (srcPart f)).useDma (cmdJob f q c c.length)
      .next (s.toPlace f dst bs (fun _ => false) (some (f.val, q.val, c.pos)))

/-- A part of a DMA_COPY's host source arrives for its destination address, or fails (R675, R677).
DESIGN CHOICE (log entry 49). -/
def execHostReadCompletion (f : Part) (q : Fin 64) (seq : U32) (addr : Nat) (d : HostRead) (s : State) : Host.Outcome State Fault Refusal :=
  match (s.queue f q).cmds.find? (fun c => c.kind = .execute && c.seq = seq.toNat && c.begun && !c.fixed && c.opcode = 0x30 && bit (c.param 0 1) 0) with
  | none => .next s
  | some c =>
    let cmd := some (f.val, q.val, c.pos)
    match d with
    | .failed => .next (s.markCmd cmd false true)
    | .data b ep =>
      if c.addr1 ≤ addr ∧ addr + b.length ≤ c.addr1 + c.length ∧ 0 < b.length then
        let s := if ep then s.markCmd cmd true false else s
        if bit (c.param 0 1) 1 then .next (s.toHost f q c.seq addr b 0 fun _ => ep)
        else .next (s.toPlace f (s.place f addr b.length) b (fun _ => ep) cmd)
      else .next s

/-- A HIF DMA engine ends a 4 KiB chunk and arbitrates anew (R150, R157). DESIGN CHOICE (log entry 54). -/
def execHifDmaChunkEnd (engine : Fin 8) (s : State) : Host.Outcome State Fault Refusal :=
  let dma := s.hif.dma.mapIdx fun i e => if i = engine.val then s.struct.endPiece e 4096 else e
  .next { s with hif := { s.hif with dma := dma } }

/-- A sealing or message engine ends a message of at most 16 MiB (R153 to R155); a message engine has then sent its last chunk.
DESIGN CHOICE (log entry 54). -/
def execEngineMessageEnd (e : EngineId) (s : State) : Host.Outcome State Fault Refusal :=
  let whole (x : Engine) : Bool := match e, x.cur with
    | .message _, some j => decide (j.left = 0)
    | _, _ => true
  let upd (n i : Nat) (x : Engine) : Engine := if i = n && whole x then s.struct.endPiece x 16777216 else x
  match e with
  | .sealing n => .next { s with hif := { s.hif with sealing := s.hif.sealing.mapIdx (upd n) } }
  | .message n =>
    .next { s with hif := { s.hif with message := s.hif.message.mapIdx (upd n) } }

/-- A safety-class job that waits cuts in at the next 4 KiB chunk of a message that is not safety-class (R156). -/
def Engine.cutIn (e : Engine) : Engine :=
  match e.cur, e.saved, e.waiting.find? (·.safety) with
  | some k, none, some j => if k.safety then e else { e with cur := some j, saved := some k, waiting := e.waiting.erase j }
  | _, _, _ => e

/-- SAFETY_CUT_IN (R156). DESIGN CHOICE (log entry 54). -/
def execSafetyCutIn (e : EngineId) (s : State) : Host.Outcome State Fault Refusal :=
  let upd (n i : Nat) (x : Engine) : Engine := if i = n then x.cutIn else x
  match e with
  | .sealing n => .next { s with hif := { s.hif with sealing := s.hif.sealing.mapIdx (upd n) } }
  | .message n => .next { s with hif := { s.hif with message := s.hif.message.mapIdx (upd n) } }

/-- A MSG_SEND to a mailbox of this board (R472, R474, R508): with no such window of the partition it is UNCORRECTED, without room
NOT_PERMITTED; else its message goes to an engine. DEDUCED (log entry 149). -/
def State.sendOwn (s : State) (f q : Nat) (c : Cmd) : State :=
  let mailbox := c.param 0 4
  match s.struct.exportRec mailbox with
  | none => s.fix f q c.pos 0x21 0 (srcPort 0)
  | some w =>
    if mailFor w f c.length then
      match s.mailPlace w mailbox c.length with
      | none => s.refuse f q c.pos 0x03
      | some o =>
        let me := s.struct.boardId
        let id := agetD s.fab.nextReq me 0
        let u : Unans := { msg := { typ := 0x33, dest := me, src := me, reqId := id, part := f }, sentAt := s.clk, cmd := some (f, q, c.pos) }
        let s := { s with fab := { s.fab with nextReq := aset s.fab.nextReq me ((id + 1) % 2 ^ 24), unans := s.fab.unans ++ [u] } }
        (s.addMail { src := me, reqId := id, window := mailbox, length := c.length, at_ := o }).startMessage me f q c
    else s.fix f q c.pos 0x21 0 (srcPort 0)

/-- MSG_SEND (R472, R497, R508): the lines of a remote source are asked for, and room for the whole message is asked of the
destination's mailbox. DEDUCED (log entry 50). -/
def execMsgSend (f : Part) (q : Fin 64) (s : State) : Host.Outcome State Fault Refusal :=
  match s.front f q 0x32 with
  | none => .next s
  | some c =>
    let cmd := some (f.val, q.val, c.pos)
    match s.place f c.addr0 c.length with
    | .bad d => .next (s.refuse f q c.pos d)
    | p =>
      let s := s.setCmd f q c.pos fun c => { c with begun := true }
      let s := match p with
        | .remote board a => s.askSource f board a c.length cmd
        | .local_ a => s.readLocal f a c.length
        | .bad _ => s
      if c.target = s.struct.boardId then .next (s.sendOwn f q c)
      else .next (s.request ({ typ := 0x30, dest := c.target, part := f, data := leBytes 4 (c.param 0 4) ++ leBytes 4 c.length } : Msg) cmd)

/-- The flash range a FLASH_WRITE may write (Table 3-6, R110): OVERRIDE, USERCAL, or the inactive slot of a component.
DEDUCED (log entry 51). -/
def Fw.writable (w : Fw) (target : Nat) : Nat × Nat :=
  if target = 1 then (0x40000, 0x20000)
  else if target = 2 then (0x100000, 0x100000)
  else
    let comp : Fin 4 := if target = 3 then 0 else if target = 4 then 2 else if target = 5 then 3 else 1
    slotRange comp !(w.entry comp).active

/-- FLASH_WRITE (R109, R110, R114): the data is written and read back; an override takes effect when it verifies.
DEDUCED (log entry 51). -/
def execFlashWrite (f : Part) (q : Fin 64) (d : HostRead) (readBackOk : Bool) (s : State) : Host.Outcome State Fault Refusal :=
  match s.front f q 0x50 with
  | none => .next s
  | some c =>
    let r := s.fw.writable c.target
    let o := c.param 0 4
    if r.2 < o + c.length then .next (s.refuse f q c.pos 0x04)
    else
      let s := s.underWay f q c.pos 0x00 0 srcMgt
      let cmd := some (f.val, q.val, c.pos)
      let put (s : State) (bs : Bytes) : State := { s with fw := { s.fw with nor := cellWrite 0xFF s.fw.nor (r.1 + o) bs } }
      match d with
      | .failed => .next (s.markCmd cmd false true)
      | .data b ep =>
        if ep then .next (s.markCmd cmd false true)
        else if !readBackOk then .next (((put s (s.freeBytes c.length)).useFree).markCmd cmd false true)
        else
          let s := put s (slice b 0 c.length)
          .next (if c.target = 1 then s.applyOverride else s)

/-- CAL_CLEAR (R114): the user block is erased; it is out of force from the next reset of level 4 or 5. -/
def execCalClear (f : Part) (q : Fin 64) (s : State) : Host.Outcome State Fault Refusal :=
  match s.front f q 0x51 with
  | none => .next s
  | some c =>
    let s := { s with fw := { s.fw with nor := cellErase s.fw.nor 0x100000 0x100000 } }
    .next (s.underWay f q c.pos 0x00 0 srcMgt)

/-- LEDGER_READ (R695 to R698). DEDUCED (log entry 52). -/
def execLedgerRead (f : Part) (q : Fin 64) (s : State) : Host.Outcome State Fault Refusal :=
  match s.front f q 0x52 with
  | none => .next s
  | some c =>
    let flags := c.param 12 1
    if c.length < 128 then .next (s.refuse f q c.pos 0x04)
    else if f = 0 ∧ s.top.base = .confidential ∧ bit flags 1 = false then .next (s.refuse f q c.pos 0x03)
    else
      let b := s.ledgerBytes f c.length (c.param 0 8) (c.param 8 4) flags
      .next ((s.underWay f q c.pos 0x00 0 srcMgt).emit (.hostWrite f c.addr1 b false))

/-- TELEMETRY_RING (R699): the ring is in use, in place of any earlier one of the function. DEDUCED (log entry 52). -/
def execTelemetryRing (f : Part) (q : Fin 64) (s : State) : Host.Outcome State Fault Refusal :=
  match s.front f q 0x53 with
  | none => .next s
  | some c =>
    let ring : TelRing := { addr := c.addr1, size := c.length, sampledAt := s.bg.telAt }
    let fns := s.hif.fns.mapIdx fun i x => if i = f.val then { x with ring := some ring } else x
    .next (({ s with hif := { s.hif with fns := fns } } : State).underWay f q c.pos 0x00 0 srcMgt)

end Sys2Proof.Machine
end

