-- ==== Sys2Proof/Machine/Image.lean ====
section
/-! DEFINITION. The commands on image slots: loading (R213, R214), applying at the three apply points (R191 to R210), dropping
(R215). -/

namespace Sys2Proof.Machine

/-- An image slot that a function may name: PF0 any, a VF those of its IMAGE_MASK (R122). DESIGN CHOICE (log entry 137). -/
def State.slotAllowed (s : State) (f n : Nat) : Bool :=
  f = 0 || ((s.struct.partition f).map fun r => bit (byteAt r 12) n).getD false

/-- The slot's image is being validated or has an apply pending. -/
def ImgSlot.busy (x : ImgSlot) : Bool := x.apply.isSome

/-- IMAGE_LOAD (R213, R214, R677): the image is held in the slot when its source has been read. Poisoned or failed reads leave no
complete image. -/
def execImageLoad (f : Part) (q : Fin 64) (d : HostRead) (s : State) : Host.Outcome State Fault Refusal :=
  match s.front f q 0x10 with
  | none => .next s
  | some c =>
    let n := c.target
    if !s.slotAllowed f n then .next (s.refuse f q c.pos 0x05)
    else if c.length < 64 ∨ 16777216 < c.length then .next (s.refuse f q c.pos 0x04)
    else if (s.slot n).busy then .next (s.refuse f q c.pos 0x03)
    else
      let s := s.underWay f q c.pos 0x00 0 srcMgt
      match d with
      | .failed =>
        .next ((s.mapSlot n fun _ => { st := .empty, image := [], complete := false, apply := none }).markCmd (some (f.val, q.val, c.pos)) false true)
      | .data b ep =>
        .next ((s.mapSlot n fun _ => { st := .loaded, image := slice b 0 c.length, complete := !ep, apply := none }).markCmd
          (some (f.val, q.val, c.pos)) ep false)

/-- Step 1 of Table 5-8 for an IMAGE_APPLY: the status and DETAIL with which it fails. DESIGN CHOICE (log entry 137). -/
def State.applyRefused (s : State) (f n r : Nat) (point : ApplyPoint) : Option (Nat × Nat) :=
  if !s.slotAllowed f n then some (0x32, 0x05)
  else if point = .frame ∧ f ≠ 0 ∧ bit (s.struct.partRoutes f) r = false then some (0x32, 0x05)
  else if point = .switch ∧ f ≠ 0 then some (0x32, 0x02)
  else if (s.slot n).busy then some (0x32, 0x03)
  else if !(s.slot n).complete then some (0x30, 0x69)
  else none

/-- An IMAGE_APPLY starts: after step 1 its image is validated. DESIGN CHOICE (log entry 137). -/
def State.startApply (s : State) (f q : Nat) (c : Cmd) (point : ApplyPoint) : State :=
  let n := c.target
  let r := if point = .frame then c.param 1 1 else 0
  let a : Apply := { part := f, queue := q, pos := c.pos, point := point, route := r }
  match s.applyRefused f n r point with
  | some (status, detail) =>
    if status = 0x30 then
      let s := { s with img := { s.img with lastReason := detail, lastSlot := n, lastPart := f } }
      (s.note srcMgt 0 0x0301 f [n, status, detail, imageId (s.slot n).image]).fix f q c.pos status detail srcMgt
    else s.refuse f q c.pos detail
  | none =>
    (s.setCmd f q c.pos fun c => { c with begun := true }).mapSlot n fun x => { x with st := .validating, apply := some a }

/-- IMAGE_APPLY with PARAM 1 (R191). -/
def execImageApplyImmediate (f : Part) (q : Fin 64) (s : State) : Host.Outcome State Fault Refusal :=
  match s.front f q 0x11 with
  | none => .next s
  | some c => .next (if c.param 0 1 = 1 then s.startApply f q c .immediate else s)

/-- IMAGE_APPLY with PARAM 2 (R194). -/
def execImageApplyFrame (f : Part) (q : Fin 64) (s : State) : Host.Outcome State Fault Refusal :=
  match s.front f q 0x11 with
  | none => .next s
  | some c => .next (if c.param 0 1 = 2 then s.startApply f q c .frame else s)

/-- IMAGE_APPLY with PARAM 3 (R206). -/
def execImageApplySwitch (f : Part) (q : Fin 64) (s : State) : Host.Outcome State Fault Refusal :=
  match s.front f q 0x11 with
  | none => .next s
  | some c => .next (if c.param 0 1 = 3 then s.startApply f q c .switch else s)

/-- Validation ends (R209, R210): the apply is refused, or staged, or goes on to come into force. -/
def execImageValidationDone (slot : Fin 8) (s : State) : Host.Outcome State Fault Refusal :=
  let n := slot.val
  let x := s.slot n
  match x.apply with
  | none => .next s
  | some a =>
    if a.validated then .next s
    else
      match s.validate x.image a.part a.point n a.route with
      | some (status, detail) => .next (s.rejectApply n a status detail)
      | none =>
        let st : SlotState := match a.point with
          | .immediate => .validating
          | .frame => .pendingFrame
          | .switch => .pendingSwitch
        .next (s.mapSlot n fun x => { x with st := st, apply := some { a with validated := true, staged := imgRecords x.image } })

/-- A validated IMMEDIATE apply comes into force (R181, R192). -/
def execImmediateApplyInForce (s : State) : Host.Outcome State Fault Refusal :=
  let ready := (List.range 8).find? fun n => ((s.slot n).apply.map fun a => a.validated && decide (a.point = .immediate)).getD false
  match ready with
  | some n => .next (s.applySlot n)
  | none => .next s

/-- The FRAME applies that stand at a boundary of their route: the staged one comes into force, the others have missed their window
(R198, R200, R202 to R204). -/
def State.settleWindows (s : State) (route : Nat) : State :=
  let l := s.img.frameApplies route
  let s := (l.filter (·.2.window = some true)).foldl (fun s x => s.swapFrame route x.1 x.2) s
  (l.filter (·.2.window = some false)).foldl (fun s x => s.missFrame route x.1 x.2) s

/-- At a frame boundary of its route a FRAME apply comes into force within 40 µs, or has missed its window (R198, R202 to
R204). DEDUCED (log entry 95). -/
def execFrameApplySwap (route : Fin 16) (s : State) : Host.Outcome State Fault Refusal :=
  .next (s.settleWindows route)

/-- IMAGE_DROP (R215): a pending apply is first withdrawn; then the slot is empty. DEDUCED (log entry 90). -/
def execImageDrop (f : Part) (q : Fin 64) (s : State) : Host.Outcome State Fault Refusal :=
  match s.front f q 0x12 with
  | none => .next s
  | some c =>
    let n := c.target
    if !s.slotAllowed f n then .next (s.refuse f q c.pos 0x05)
    else
      let s := match (s.slot n).apply with
        | some a => s.rejectApply n a 0x30 0x68
        | none => s
      .next ((s.mapSlot n fun _ => {}).fix f q c.pos 0x00 0 srcMgt)

end Sys2Proof.Machine
end

