-- ==== Sys2Proof/Machine/Links.lean ====
section
/-! DEFINITION. The Lanicy ports and the domain: advertisements, link state, hello, heartbeats, lost boards (R473, R503 to
R507), flits and their exactly-once delivery (R488 to R495), link sessions and keys (R492, R583 to R585), resends (R499,
R500, R504). -/

namespace Sys2Proof.Machine

/-- A lost board that has been reset returns (R507): what it held and sent before is forgotten. DESIGN CHOICE (log entry 82). -/
def State.readmit (s : State) (b : Nat) : State :=
  { s with fab := { s.fab with
    lost := nrem s.fab.lost b, beats := aset s.fab.beats b s.clk, kept := s.fab.kept.filter fun k => decide (k.src ≠ b)
    tags := adel s.fab.tags b, nextReq := adel s.fab.nextReq b } }

/-- A board that starts from a reset has no tenant (R569): its hello or advertisement with a zero tag admits it again (R507).
DESIGN CHOICE (log entry 82). -/
def State.returned (s : State) (b : Nat) (tag : Bytes) : State :=
  if !s.hears b && allZero tag then s.readmit b else s

/-- ADVERTISEMENT (R473): the windows of a board whose nonzero tag equals this board's are kept, at most 4,096 in all. -/
def execAdvertisement (board : Fin 256) (tag : Bytes) (wins : List AdvWin) (s : State) : Host.Outcome State Fault Refusal :=
  let s := s.returned board tag
  if s.hears board then
    let others := s.fab.windows.filter fun w => decide (w.board ≠ board.val)
    let mine := if s.sec.tenant.isSome && decide (tag = s.tag) then wins.filter fun w => decide (w.board = board.val) else []
    .next ({ s with fab := { s.fab with
      tags := aset s.fab.tags board tag, windows := (others ++ mine).take 4096 } } : State).flushStuck
  else .next s

/-- LINK_STATE (R503). -/
def execLinkState (board : Fin 256) (links : List (Nat × Nat)) (s : State) : Host.Outcome State Fault Refusal :=
  if s.hears board && decide (board.val ≠ s.struct.boardId) then
    .next ({ s with fab := { s.fab with linkState := aset s.fab.linkState board links } } : State).reroute.flushStuck
  else .next s

/-- HELLO on a port that has trained and opened its link session (R490, R495, R507, R583): the port comes up, learns its peer,
and advertises. DEDUCED (log entry 122). -/
def execHello (port : Fin 8) (peer : Fin 256) (peerPort : Fin 8) (peerTag : Bytes) (s : State) : Host.Outcome State Fault Refusal :=
  let x := s.fab.port port
  let s := if x.trained && x.session && s.struct.lnkEn port then s.returned peer peerTag else s
  if x.trained && x.session && s.struct.lnkEn port && s.hears peer then
    let s := s.mapPort port fun x => { x with
      up := true, peerBoard := peer, peerPort := peerPort, peerTag := peerTag
      refused := decide (peerTag ≠ s.tag), direct := decide (6 ≤ port.val) }
    let s := { s with fab := { s.fab with beats := aset s.fab.beats peer s.clk, tags := aset s.fab.tags peer peerTag } }
    .next (s.linksChanged.advertise)
  else .next s

/-- A heartbeat arrives (R505). -/
def execLanicyHeartbeat (board : Fin 256) (s : State) : Host.Outcome State Fault Refusal :=
  if s.hears board then .next { s with fab := { s.fab with beats := aset s.fab.beats board s.clk } } else .next s

/-- Heartbeats go out every 1 ms (R505). -/
def execLanicyHeartbeatSend (s : State) : Host.Outcome State Fault Refusal :=
  if s.pwr.mainGood && s.due s.fab.beatAt (msTicks 1) then
    let s := { s with fab := { s.fab with beatAt := s.clk } }
    .next (s.emitAll (s.reachable.map fun b => .mgmt b (Config.eventCode "HEARTBEAT") []))
  else .next s

/-- The boards whose heartbeats this one awaits: those it knows, TIME_ROOT and the pair's peer (R505, R653, R719).
DEDUCED (log entry 119). -/
def State.awaited (s : State) (b : Nat) : Bool :=
  decide (b ≠ s.struct.boardId) && (s.knownBoards.contains b || (s.fab.beats.any (·.1 = b)) ||
    (s.struct.boardCore.isSome && s.struct.boardField 14 1 = b) || (s.pair.enabled && s.pair.peer = b))

/-- This board's copies of lines homed at a lost board are invalid (R506). DEDUCED (log entry 119). -/
def State.dropHomed (s : State) (b : Nat) : State :=
  (s.fab.remote.filter fun l => decide (l.addr / 2 ^ 40 = b)).foldl (fun s l =>
    let s := if l.st = .m then s.note srcCel 3 0x0403 0 [l.addr] else s
    { s with fab := s.fab.dropRline l.addr }) s

/-- As a home: a lost board leaves every sharer list, and the lines it owned are poisoned (R506). DEDUCED (log entry 118). -/
def State.dropHolder (s : State) (b : Nat) : State :=
  s.fab.dir.foldl (fun s e =>
    if e.owner = some b then (s.poisonLine (e.addr % 2 ^ 40)).settleEntry e.addr none
    else if e.sharers.contains b then s.settleEntry e.addr (some { e with sharers := nrem e.sharers b })
    else s) s

/-- A copy of a line homed at a lost board that waits to be written is invalid already when its request fails (R506).
DEDUCED (log entry 119). -/
def State.loseUpgrades (s : State) (b : Nat) : State :=
  let lose (l : RLine) : RLine := if l.addr / 2 ^ 40 = b ∧ l.st = .upgrade then { l with st := .waitU, data := [], poison := false } else l
  { s with fab := { s.fab with remote := s.fab.remote.map lose } }

/-- BOARD_LOST (R505, R506, R653, R719). DEDUCED (log entry 119). -/
def execBoardLost (board : Fin 256) (s : State) : Host.Outcome State Fault Refusal :=
  let b := board.val
  if s.hears b && s.awaited b && s.pwr.mainGood && s.due (agetD s.fab.beats b s.pwr.mainGoodAt) (msTicks 5) then
    let s := { s with fab := { s.fab with lost := nset s.fab.lost b } }
    let s := (s.note srcMgt 3 0x0401 0 [b]).loseUpgrades b
    let waiting := s.fab.waitReq.filter fun x => decide (x.1.dest = b)
    let s := { s with fab := { s.fab with waitReq := s.fab.waitReq.filter fun x => decide (x.1.dest ≠ b) } }
    let s := (s.fab.unans.filter fun u => decide (u.msg.dest = b)).foldl (fun s u => s.failMsg u) s
    let s := waiting.foldl (fun s x => s.failRequest ({ msg := x.1, cmd := x.2 } : Unans)) s
    let s := (s.dropHomed b).dropHolder b
    let s := { s with fab := { s.fab with
      queue := s.fab.queue.filter fun r => decide (r.src ≠ b)
      mails := s.fab.mails.filter fun m => decide (m.src ≠ b)
      windows := s.fab.windows.filter fun w => decide (w.board ≠ b)
      linkState := adel s.fab.linkState b } }
    let s := (s.fab.txns.filter fun t => t.waiting.contains b).foldl (fun s t => s.snoopAnswer b t.req.addr true) s
    let s := s.reroute
    let s := if s.struct.boardCore.isSome && decide (b = s.struct.timeRoot) then s.setBackupActs true else s
    if s.pair.enabled && s.pair.peer = b then .next s.takeOver else .next s
  else .next s

/-! Flits. -/

/-- The length of a message in bytes: MSG_CHUNK of 256 and 257 units wraps in its 8-bit LENGTH (Tables 11-7, 11-8).
DEDUCED (log entry 121). -/
def wireLength (b : Bytes) : Nat :=
  let n := byteAt b 1
  if byteAt b 0 = 0x32 ∧ n ≤ 1 then 16 * (256 + n) else 16 * n

/-- The message that stands at the front of received bytes. DEDUCED (log entry 121). -/
def wireMsg (b : Bytes) : Msg :=
  let w := field b 4 4
  { typ := byteAt b 0, dest := byteAt b 2, src := byteAt b 3, reqId := w % 2 ^ 24, part := bits w 27 24, addr := field b 8 6,
    inject := field b 14 2, raw := (b.take (wireLength b)).drop 16 }

/-- The units of a message received on a port are free again: their credits go back on the lane it came by (Table 11-6).
DESIGN CHOICE (log entry 145). -/
def State.oweCredits (s : State) (p : Nat) (m : Msg) (len : Nat) : State :=
  let x := s.fab.port p
  let l := 3 * msgVc m.typ + s.struct.laneAt x.peerBoard m.src x.peerPort false
  s.mapPort p fun x => { x with owed := aset x.owed l (agetD x.owed l 0 + len / 16) }

/-- Forward the whole messages of received bytes that are for other boards (R491, R501); a message for this board is a command
of its own. What is left is the beginning of a message that goes on; TYPE 0 pads the rest of a flit. DEDUCED (log entry 121). -/
def State.relay (p : Nat) : Nat → State → Bytes → State × Bytes
  | 0, s, b => (s, b)
  | n + 1, s, b =>
    if b.length < 16 then (s, if byteAt b 0 = 0 then [] else b)
    else
      let len := wireLength b
      if byteAt b 0 = 0 ∨ len = 0 then (s, [])
      else if b.length < len then (s, b)
      else
        let m := wireMsg b
        let s := s.oweCredits p m len
        State.relay p n (if m.dest = s.struct.boardId ∨ bits (field b 4 4) 31 28 ≠ 0 then s else s.forward m) (b.drop len)

/-- Resend the unacknowledged flits, byte for byte (R494, R495). -/
def State.replay (s : State) (p : Nat) : State :=
  let x := s.fab.port p
  let s := s.mapPort p fun x => { x with
    replay := satN 0xFFFFFFFF (x.replay + x.replayBuf.length)
    replayBuf := x.replayBuf.map fun f => { f with replays := f.replays + 1 } }
  s.emitAll (x.replayBuf.map fun f => .flit p f.counter f.bytes)

/-- The flit counter that SEQ stands for: the one with these low 16 bits that lies nearest to the next expected (R488, R493).
. DESIGN CHOICE (log entry 145). -/
def nearCounter (next seq : Nat) : Nat :=
  let d := (seq + 65536 - next % 65536) % 65536
  if d < 32768 then next + d else next + d - 65536

/-- A flit as the port reads it (R488, R489, R493): a SEALED flit opens under the key of the peer's direction, the new one if the flit
carries KEY_SWITCH. -/
def State.readFlit (s : State) (p : Nat) (raw : Bytes) : Flit :=
  let x := s.fab.port p
  let flags := byteAt raw 4
  let counter := nearCounter x.rxNext (field raw 0 2)
  let generation := if bit flags 2 then x.rxNextKey.getD x.rxKey else x.rxKey
  let open_ := gcmOpen (flitKey x.secret x.peerBoard x.peerPort generation) (flitIv x.peerBoard x.peerPort counter) (slice raw 0 8)
    (slice raw 8 484) (slice raw 492 16)
  { counter := counter, ack := field raw 2 2, nak := bit flags 0, idle := bit flags 1, keySwitch := bit flags 2
    creditLane := bits (byteAt raw 5) 3 0, credits := field raw 6 2
    payload := if x.sealed then open_.getD [] else slice raw 8 500
    crcOk := decide (raw.length = 512) && decide (crc32 (slice raw 0 508) = field raw 508 4)
    tagOk := open_.isSome }

/-- FLIT_RECEIVE (R493 to R495, R584): CRC, tag, counter, then the acknowledgement, the replay asked for and the credits. A flit with a
message is acknowledged at once if the port sends nothing else. DEDUCED (log entry 121). DESIGN CHOICE (log entry 145). -/
def execFlitReceive (port : Fin 8) (raw : Bytes) (s : State) : Host.Outcome State Fault Refusal :=
  let p := port.val
  let x := s.fab.port p
  let fl := s.readFlit p raw
  if !x.up then .next s
  else if !fl.crcOk then .next ((s.mapPort p fun x => { x with crc := satN 0xFFFFFFFF (x.crc + 1) }).nak p)
  else if x.sealed && !fl.tagOk then
    .next ((s.mapPort p fun x => { x with
      tagFail := satN 0xFFFFFFFF (x.tagFail + 1)
      tagAt := x.tagAt.filter (fun t => decide (s.clk < t + secTicks 1)) ++ [s.clk] }).nak p)
  else if fl.counter < x.rxNext then .next (s.mapPort p fun x => { x with stale := satN 0xFFFFFFFF (x.stale + 1) })
  else if x.rxNext < fl.counter then .next (s.nak p)
  else
    let s := s.mapPort p fun x => { x with
      rxNext := x.rxNext + 1
      rxKey := if fl.keySwitch then x.rxNextKey.getD x.rxKey else x.rxKey
      rxNextKey := if fl.keySwitch then none else x.rxNextKey
      credits := aset x.credits fl.creditLane (agetD x.credits fl.creditLane 0 + fl.credits)
      replayBuf := x.replayBuf.filter (fun f => decide (32768 ≤ (fl.ack + 65536 - f.counter % 65536) % 65536)) }
    let s := if fl.nak then s.replay p else s
    let s := s.pump p (s.fab.port p).txWait
    if fl.idle then .next s
    else
      let b := (s.fab.port p).rxBuf ++ fl.payload
      let r := State.relay p (b.length / 16 + 1) s b
      let t := r.1.mapPort p fun y => { y with rxBuf := r.2 }
      .next (if (t.fab.port p).txNext = x.txNext then t.sendIdle p else t)

/-- PORT_DOWN (R495): causes 0 lane lock lost for 1 µs, 1 one flit replayed 8 times, 2 sixteen tag failures within 1 s. -/
def execPortDown (port : Fin 8) (cause : Nat) (s : State) : Host.Outcome State Fault Refusal :=
  let p := port.val
  let x := s.fab.port p
  let why :=
    if cause = 0 then true
    else if cause = 1 then x.replayBuf.any fun f => decide (8 ≤ f.replays)
    else if cause = 2 then decide (16 ≤ (x.tagAt.filter fun t => decide (s.clk < t + secTicks 1)).length)
    else false
  if x.trained && why then
    let s := s.mapPort p fun x => { x with
      up := false, trained := false, session := false, retrain := satN 0xFFFFFFFF (x.retrain + 1)
      secret := [], replayBuf := [], txWait := [], rxBuf := [], nakDue := false, owed := [], tagAt := [] }
    let s := s.note (srcPort p) 3 0x0400 0 [p, cause]
    .next s.linksChanged
  else .next s

/-- LINK_UP: with main power up, the port has trained and opens its link session (R56, R583 to R585): generation 0, flit counter 0.
DEDUCED (log entry 122). -/
def execLinkUp (port : Fin 8) (chainsOk : Bool) (keys : LinkKeys) (s : State) : Host.Outcome State Fault Refusal :=
  let p := port.val
  if s.struct.lnkEn p && !(s.fab.port p).session && s.pwr.mainGood && !s.pwr.perst && !s.pwr.brdRst then
    let ok := chainsOk && decide (keys.peerOpDigest = s.sec.operatorKey.getD [])
    let s := s.mapPort p fun x => { x with
      trained := true, session := ok, sealed := s.struct.lnkSealed p, keyGen := 0, rxNext := 0, txNext := 0, secret := keys.secret
      txKey := 0, txNextKey := none, rxKey := 0, rxNextKey := none, keySwitch := false, keyFlits := 0, keyAt := s.clk }
    if ok then .next (s.emit (.hello p)) else .next s
  else .next s

/-- KEY_RENEWAL_DUE (R492, R584): 2^32 flits or 1 hour under the present key. DEDUCED (log entry 122). -/
def execKeyRenewalDue (port : Fin 8) (s : State) : Host.Outcome State Fault Refusal :=
  let p := port.val
  let x := s.fab.port p
  if x.up && x.sealed && x.txNextKey.isNone && (decide (2 ^ 32 ≤ x.keyFlits) || s.due x.keyAt (secTicks 3600)) then
    let g := x.txKey + 1
    .next ((s.mapPort p fun x => { x with txNextKey := some g }).emit (.mgmt x.peerBoard 0x21 (leBytes 4 g)))
  else .next s

/-- KEY_NEXT at the receiver (R584). DEDUCED (log entry 122). -/
def execKeyNext (port : Fin 8) (generation : Nat) (s : State) : Host.Outcome State Fault Refusal :=
  let p := port.val
  let x := s.fab.port p
  if x.up && x.sealed && decide (generation = x.rxKey + 1) then
    .next ((s.mapPort p fun x => { x with rxNextKey := some generation }).emit (.mgmt x.peerBoard 0x22 (leBytes 4 generation)))
  else .next s

/-- KEY_NEXT_ACK at the sender: the next flit goes out under the new key (R492, R584). DEDUCED (log entry 122). -/
def execKeyNextAck (port : Fin 8) (s : State) : Host.Outcome State Fault Refusal :=
  let p := port.val
  match (s.fab.port p).txNextKey with
  | none => .next s
  | some g =>
    .next (s.mapPort p fun x => { x with
      txKey := g, txNextKey := none, keySwitch := true, keyFlits := 0, keyAt := s.clk, keyGen := x.keyGen + 1 })

/-! Resends, lifetimes and holds. -/

/-- A granted message is sent again from its first chunk (R499), unless its engine has it still. -/
def State.restartMessage (s : State) (dest f q : Nat) (c : Cmd) : State :=
  let has (e : Engine) : Bool := e.jobs.any fun j => j.part = f && j.queue = q && j.seq = c.seq && decide (0 < j.left)
  if s.hif.message.toList.any has then s else s.startMessage dest f q c

/-- 1 ms after it was last sent, an unanswered message is resent, at most 3 times, and then has failed (R499). -/
def execE2eResendTimeout (dest : Fin 256) (reqId : Nat) (s : State) : Host.Outcome State Fault Refusal :=
  match s.unanswered dest reqId with
  | none => .next s
  | some u =>
    if !s.due u.sentAt (msTicks 1) || decide (dest.val = s.struct.boardId) then .next s
    else if 3 ≤ u.resends then .next (s.failMsg u)
    else
      let us := s.fab.unans.map fun x =>
        if x.msg.dest = dest.val ∧ x.msg.reqId = reqId then { x with sentAt := s.clk, resends := x.resends + 1 } else x
      let s := { s with fab := { s.fab with unans := us, resends := satN 0xFFFF (s.fab.resends + 1) } }
      match u.msg.typ, s.cmdOf u.cmd with
      | 0x33, some (f, q, c) => .next (s.restartMessage dest f q c)
      | _, _ => .next (s.sendMsg { u.msg with ackBelow := s.ackBelow dest })

/-- A message that waits, other than in a hold, more than 50 µs behind its INJECT is discarded (R500). -/
def execMessageLifetimeExpiry (dest : Fin 256) (reqId : Nat) (s : State) : Host.Outcome State Fault Refusal :=
  let old := fun x : Nat × Msg => x.1 = dest.val && x.2.reqId = reqId &&
    decide (50000 < 1024 * ((s.injectNow + 65536 - x.2.inject) % 65536))
  .next { s with fab := { s.fab with stuck := s.fab.stuck.filter fun x => !old x } }

/-- 100 µs after its next hop changed, the held messages of a destination leave, INJECT advanced by the time held (R500,
R504). -/
def execRouteChangeHoldExpiry (dest : Fin 256) (s : State) : Host.Outcome State Fault Refusal :=
  match alookup s.fab.holds dest with
  | none => .next s
  | some t =>
    if !s.due t (usTicks 100) then .next s
    else
      let ms := s.fab.heldMsgs.filter fun x => decide (x.1 = dest.val)
      let s := { s with fab := { s.fab with
        holds := adel s.fab.holds dest, heldMsgs := s.fab.heldMsgs.filter fun x => decide (x.1 ≠ dest.val) } }
      .next (ms.foldl (fun s x => s.forward { x.2 with inject := s.injectNow }) s)

end Sys2Proof.Machine
end

