-- ==== Sys2Proof/Machine/NecArith.lean ====
section
/-! DEFINITION. The arithmetic of a neural core to the bit (R399 to R404, R452, R453): number formats, exact sums, rounding
and the panel layouts of MM. -/

namespace Sys2Proof.Machine

/-- A floating-point value: a finite one is (−1)^neg × m × 2^e. -/
inductive Fl where
  | fin (neg : Bool) (m : Nat) (e : Int)
  | inf (neg : Bool)
  | nan
  deriving DecidableEq, Repr, Inhabited

/-- Read an IEEE 754 style pattern with `eb` exponent bits and `fb` fraction bits (R399). -/
def ieee (eb fb : Nat) (v : Nat) : Fl :=
  let neg := v.testBit (eb + fb)
  let ex := bits v (eb + fb - 1) fb
  let fr := v % 2 ^ fb
  let bias : Int := 2 ^ (eb - 1) - 1
  if ex = 2 ^ eb - 1 then (if fr = 0 then .inf neg else .nan)
  else if ex = 0 then .fin neg fr (1 - bias - fb)
  else .fin neg (2 ^ fb + fr) (ex - bias - fb)

/-- Read FP8 E4M3: no infinity, 0x7F and 0xFF are NaN (Table 10-2). -/
def flE4M3 (v : Nat) : Fl :=
  if v % 128 = 127 then .nan
  else
    let ex := bits v 6 3
    let fr := v % 8
    if ex = 0 then .fin (v.testBit 7) fr (-9) else .fin (v.testBit 7) (8 + fr) (ex - 10)

/-- Read FP8 E5M2, BF16 and FP32 (Table 10-2). -/
def flE5M2 (v : Nat) : Fl := ieee 5 2 v
def flBF16 (v : Nat) : Fl := ieee 8 7 v
def flFP32 (v : Nat) : Fl := ieee 8 23 v

/-- The exact product (R401, R402). -/
def flMul : Fl → Fl → Fl
  | .nan, _ => .nan
  | _, .nan => .nan
  | .inf a, .inf b => .inf (a != b)
  | .inf a, .fin b m _ => if m = 0 then .nan else .inf (a != b)
  | .fin a m _, .inf b => if m = 0 then .nan else .inf (a != b)
  | .fin a m e, .fin b n f => .fin (a != b) (m * n) (e + f)

/-- A finite value as a signed integer in units of 2^u. -/
def flScaled (u : Int) : Fl → Int
  | .fin neg m e => let v : Int := m * 2 ^ (e - u).toNat; if neg then -v else v
  | _ => 0

/-- The number of binary digits. -/
def blen (n : Nat) : Nat := if n = 0 then 0 else Nat.log2 n + 1

/-- n / 2^k rounded to nearest, ties to even. -/
def rneShift (n k : Nat) : Nat := (roundEven n (2 ^ k)).toNat

/-- Round (−1)^neg × m × 2^u to a binary format of `eb` exponent and `fb` fraction bits, ties to even: the pattern, or none
when it overflows. -/
def flRound (eb fb : Nat) (neg : Bool) (m : Nat) (u : Int) : Option Nat :=
  let bias : Int := 2 ^ (eb - 1) - 1
  let sign := if neg then 2 ^ (eb + fb) else 0
  if m = 0 then some sign
  else
    let minE : Int := 1 - bias - fb
    let lead : Int := u + blen m - 1
    let e := max (lead - fb) minE
    let q := if e ≤ u then m * 2 ^ (u - e).toNat else rneShift m (e - u).toNat
    let qe := if q = 2 ^ (fb + 1) then (2 ^ fb, e + 1) else (q, e)
    if qe.1 < 2 ^ fb then some (sign + qe.1)
    else
      let ex := qe.2 + bias + fb
      if 2 ^ eb - 1 ≤ ex then none else some (sign + ex.toNat * 2 ^ fb + (qe.1 - 2 ^ fb))

/-- FP32 bits of an exact sum, subnormal results flushed to a signed zero (R401). -/
def fp32OfSum (neg : Bool) (m : Nat) (u : Int) : Nat :=
  match flRound 8 23 neg m u with
  | none => (if neg then 2 ^ 31 else 0) + 0x7F800000
  | some v => if bits v 30 23 = 0 then (if neg then 2 ^ 31 else 0) else v

/-- Four products and the accumulator summed exactly and rounded once (R401, R402). -/
def mmGroup (acc : Nat) (ps : List Fl) : Nat :=
  if acc = 0x7FC00000 then acc
  else
    let ts := flFP32 acc :: ps
    let isInf := fun (b : Bool) (t : Fl) => t = .inf b
    if ts.any (· = .nan) || (ts.any (isInf true) && ts.any (isInf false)) then 0x7FC00000
    else if ts.any (isInf true) then 0xFF800000
    else if ts.any (isInf false) then 0x7F800000
    else
      let es := ts.filterMap fun t => match t with | .fin _ _ e => some e | _ => none
      let u := es.foldl min 0
      let s := (ts.map (flScaled u)).sum
      if s = 0 then
        (if ts.all fun t => match t with | .fin neg m _ => neg && m == 0 | _ => false then 2 ^ 31 else 0)
      else fp32OfSum (decide (s < 0)) s.natAbs u

/-- `g` at a time. -/
def groupsOf {α : Type} (g : Nat) : Nat → List α → List (List α)
  | 0, _ => []
  | n + 1, l => if l.isEmpty then [] else l.take g :: groupsOf g n (l.drop g)

/-- A floating MM element over k (R401): `g` products belong to each group of four k, all four in a dense mode and the two kept ones in
a 2:4 mode (R453). DEDUCED (log entry 127). -/
def mmFloat (g acc : Nat) (ps : List Fl) : Nat := (groupsOf g ps.length ps).foldl mmGroup acc

/-- An integer MM element: each product added to the saturating accumulator; with the count of saturations (R400). -/
def mmInt (acc : Int) (ps : List Int) : Int × Nat :=
  ps.foldl (fun a p =>
    let v := a.1 + p
    let c := clampI (-2147483648) 2147483647 v
    (c, if c = v then a.2 else a.2 + 1)) (acc, 0)

/-- Rows and columns of an MM mode's output (Table 10-10). -/
def mmShape (mode : Nat) : Nat × Nat := if mode = 1 then (64, 128) else if mode = 4 then (32, 32) else (64, 64)

/-- Whether an MM mode is integer, and whether it is 2:4 (Table 10-10). -/
def mmIsInt (mode : Nat) : Bool := mode == 0 || mode == 1 || mode == 5
def mmIsSparse (mode : Nat) : Bool := mode == 5 || mode == 6 || mode == 7

/-- Bytes of the W panel for K (R454). -/
def mmWBytes (mode k : Nat) : Nat := if mmIsSparse mode then 160 * k / 4 else (k * 64 + 511) / 512 * 512

/-- Bytes of the A panel for K (R454). -/
def mmABytes (k : Nat) : Nat := (k * 64 + 511) / 512 * 512

/-- Bytes of the output. -/
def mmOBytes (mode : Nat) : Nat := 4 * (mmShape mode).1 * (mmShape mode).2

/-- The pairs (k, byte offset in W, nibble) of column n's weights in k order: dense, or the kept values of 2:4 (R453).
Each weight is (k, value). -/
def mmWeights (mode k n : Nat) (w : Bytes) : List (Nat × Nat) :=
  if mmIsSparse mode then
    (List.range (k / 4)).flatMap fun g =>
      let nib := (byteAt w (160 * g + 128 + n / 2) >>> (4 * (n % 2))) % 16
      [(4 * g + nib % 4, byteAt w (160 * g + 2 * n)), (4 * g + nib / 4, byteAt w (160 * g + 2 * n + 1))]
  else
    (List.range k).map fun i =>
      (i, if mode = 1 then (byteAt w (64 * i + n / 2) >>> (4 * (n % 2))) % 16
        else if mode = 4 then field w (64 * i + 2 * n) 2 else byteAt w (64 * i + n))

/-- A[m][k] as raw bits (R453). -/
def mmAct (mode m k : Nat) (a : Bytes) : Nat := if mode = 4 then field a (64 * k + 2 * m) 2 else byteAt a (64 * k + m)

/-- The value of raw bits in a floating mode. -/
def mmFl (mode v : Nat) : Fl := if mode = 2 ∨ mode = 6 then flE4M3 v else if mode = 4 then flBF16 v else flE5M2 v

/-- One output element from the panels and the accumulator's start, with its saturations (R400 to R402, R453). -/
def mmElem (mode k m n : Nat) (a w : Bytes) (acc : Nat) : Nat × Nat :=
  let ws := mmWeights mode k n w
  if mmIsInt mode then
    let r := mmInt (signed 32 acc) (ws.map fun p =>
      signed 8 (mmAct mode m p.1 a) * (if mode = 1 then signed 4 p.2 else signed 8 p.2))
    (unsigned 32 r.1, r.2)
  else (mmFloat (if mmIsSparse mode then 2 else 4) acc (ws.map fun p => flMul (mmFl mode (mmAct mode m p.1 a)) (mmFl mode p.2)), 0)

/-- The whole output of an MM: its bytes in the output layout and the saturations (R453). DEDUCED (log entry 127). -/
def mmOutput (mode k : Nat) (a w acc : Bytes) : Bytes × Nat :=
  let sh := mmShape mode
  let es := (List.range sh.1).flatMap fun m => (List.range sh.2).map fun n =>
    mmElem mode k m n a w (field acc (4 * (m * sh.2 + n)) 4)
  (es.flatMap fun e => leBytes 4 e.1, (es.map (·.2)).sum)

/-- Requantising (R403). -/
def requant (acc : Int) (mult : Int) (shift : Nat) (zp : Int) : Int :=
  clampI (-128) 127 ((acc * mult + 2 ^ (shift - 1)) / 2 ^ shift + zp)

/-- FP32 bits to BF16 (R404). -/
def toBF16 (satf : Bool) (v : Nat) : Nat :=
  match flFP32 v with
  | .nan => Config.nanConv 0 v % 2 ^ 16
  | .inf neg => (if neg then 2 ^ 15 else 0) + 0x7F80
  | .fin neg m e => (flRound 8 7 neg m e).getD ((if neg then 2 ^ 15 else 0) + if satf then 0x7F7F else 0x7F80)

/-- FP32 bits to E5M2 (R404). -/
def toE5M2 (satf : Bool) (v : Nat) : Nat :=
  match flFP32 v with
  | .nan => Config.nanConv 1 v % 2 ^ 8
  | .inf neg => (if neg then 128 else 0) + 0x7C
  | .fin neg m e => (flRound 5 2 neg m e).getD ((if neg then 128 else 0) + if satf then 0x7B else 0x7C)

/-- FP32 bits to E4M3: an overflow gives ±448 (R404). The format's top exponent is in use but for its NaN. -/
def toE4M3 (v : Nat) : Nat :=
  match flFP32 v with
  | .nan => Config.nanConv 2 v % 2 ^ 8
  | .inf neg => (if neg then 128 else 0) + 0x7E
  | .fin neg m e =>
    let sign := if neg then 128 else 0
    if m = 0 then sign
    else
      let lead : Int := e + blen m - 1
      let x := max (lead - 3) (-9)
      let q := if x ≤ e then m * 2 ^ (e - x).toNat else rneShift m (x - e).toNat
      let qx := if q = 16 then (8, x + 1) else (q, x)
      if qx.1 < 8 then sign + qx.1
      else
        let ex := qx.2 + 10
        if 15 < ex ∨ (ex = 15 ∧ qx.1 = 15) then sign + 0x7E else sign + ex.toNat * 8 + (qx.1 - 8)

/-- A saturating vector integer operation on elements of `width` bits (R403). -/
def satElem (width : Nat) (f : Int → Int → Int) (a b : Nat) : Nat :=
  unsigned width (clampI (-(2 ^ (width - 1))) (2 ^ (width - 1) - 1) (f (signed width a) (signed width b)))

/-- A saturating operation over whole vectors of 512 bytes. -/
def satVec (width : Nat) (f : Int → Int → Int) (a b : Bytes) : Bytes :=
  let n := width / 8
  if n = 0 then [] else (List.range (512 / n)).flatMap fun i => leBytes n (satElem width f (field a (n * i) n) (field b (n * i) n))

/-- A conversion of 128 FP32 or INT32 elements to elements of `n` bytes. DESIGN CHOICE (log entry 129). -/
def convVec (n : Nat) (f : Nat → Nat) (a : Bytes) : Bytes := (List.range 128).flatMap fun i => leBytes n (f (field a (4 * i) 4))

end Sys2Proof.Machine
end

