-- ==== Sys2Proof/Machine/NecIssue.lean ====
section
/-! DEFINITION. What every neural instruction shares: issue and its faults (R422, R423, R443, R444, R451), registers, poison
(R446), casks, DMA descriptors and transfers (R432 to R435), MMs in the accumulator buffers (R454), publication (R436, R437). -/

namespace Sys2Proof.Machine

/-! Fields of Table 10-8. -/

def fldV (w : U64) : Nat := bits w.toNat 11 8
def fldSB (w : U64) : Nat := bits w.toNat 16 12
def fldSX (w : U64) : Nat := bits w.toNat 21 17
def fldESZ (w : U64) : Nat := bits w.toNat 23 22
def fldIMM (w : U64) : Nat := bits w.toNat 43 24
def fldIDX (w : U64) : Nat := bits w.toNat 47 44
def fldCH (w : U64) : Nat := bits w.toNat 49 48
def fldMASK (w : U64) : Nat := bits w.toNat 51 48
def fldP (w : U64) : Bool := bit w.toNat 50

/-- Bits [hi:lo] as a mask. -/
def span (hi lo : Nat) : Nat := (2 ^ (hi + 1 - lo) - 1) * 2 ^ lo

/-- The fields an instruction names besides OP (Table 10-9). -/
def mV : Nat := span 11 8
def mSB : Nat := span 16 12
def mSX : Nat := span 21 17
def mESZ : Nat := span 23 22
def mIMM : Nat := span 43 24
def mIDX : Nat := span 47 44

/-! Registers. -/

/-- S[i]; S0 reads 0 (Table 10-1). -/
def Core.sreg (x : Core) (i : Nat) : BitVec 32 := if i = 0 then 0 else (x.s[i]?).getD 0

/-- Write S[i], whose data is poisoned or not (R446); S0 keeps reading 0. -/
def Core.setS (x : Core) (i : Nat) (v : BitVec 32) (bad : Bool) : Core :=
  if i = 0 then x
  else { x with s := x.s.setIfInBounds i v, sPoison := if bad then nset x.sPoison i else nrem x.sPoison i }

/-- V[i]. -/
def Core.vreg (x : Core) (i : Nat) : VReg := (x.v[i]?).getD {}

/-- Write V[i]. -/
def Core.setV (x : Core) (i : Nat) (v : VReg) : Core := { x with v := x.v.setIfInBounds i v }

/-- NEC_TASK_POISON of the running task is set (R446). -/
def Core.mark (x : Core) (b : Bool) : Core := if b then { x with task := x.task.map fun t => { t with poison := true } } else x

/-! Faults. -/

/-- A task faults (R444): it stops, the hopper is flushed, its DMA transfers stop, NEC_FAULT, NEC_FAULT_PC and NEC_FAULT_EA are
written, an entry goes to the ledger, and its route faults (R265).
DESIGN CHOICE (log entry 93). DEDUCED (log entries 123, 125). -/
def State.taskFault (s : State) (c cause : Nat) (ea : Option Nat) : State :=
  let x := s.core c
  match x.task with
  | none => s
  | some t =>
    let word := cause + t.task * 2 ^ 8 + t.route * 2 ^ 12 + t.node * 2 ^ 16
    let y := { x with
      fCause := cause, fTask := t.task, fRoute := t.route, fNode := t.node, fPc := x.pc, fEa := ea.getD x.fEa
      dma := x.dma.filter fun d => decide (d.own ≠ (t.route, t.frame, t.node)) }
    let s := s.setCore c y
    let s := s.note (srcCore c) 4 0x0203 t.part [c, word, t.route, t.node]
    (s.endTask c).faultRoute t.route 1

/-- An instruction reaches the head of a core: nothing happens without a running task that is free to issue, or when the word is
another instruction's. A pc outside the code faults with FETCH, a field that the instruction does not name with ILLEGAL (R443,
R451, Table 10-6). DEDUCED (log entry 123). -/
def State.issue (s : State) (c op : Nat) (w : U64) (fields : Nat) (act : Core → Task → State) : State :=
  let x := s.core c
  match x.task with
  | none => s
  | some t =>
    if x.stall.isSome || s.heldByDebug x || s.tastingOn (srcCore c) || decide (w.toNat % 256 ≠ op) then s
    else if t.codeLen < x.pc + 8 then s.taskFault c 0x08 none
    else if w.toNat ||| (fields ||| 255) ≠ fields ||| 255 then s.taskFault c 0x05 none
    else act { x with stepOne := false } t

/-- EA = S[SB] + the sign-extended immediate, in 32 bits (R422). -/
def Core.ea (x : Core) (w : U64) : Nat := unsigned 32 ((x.sreg (fldSB w)).toNat + signed 20 (fldIMM w))

/-- Physical address of an EA (R422). -/
def Task.phys (t : Task) (ea : Nat) : Nat := t.base + t.ca + ea

/-- `n` bytes at EA lie in the region (R422). -/
def Task.fits (t : Task) (ea n : Nat) : Bool := decide (t.phys ea + n ≤ t.bound)

/-- The cause of an access that fails its bound or its alignment check (R422, R423). DESIGN CHOICE (log entry 124). -/
def Task.badAccess (t : Task) (ea n align : Nat) : Option Nat :=
  let b := !t.fits ea n
  let a := decide (ea % align ≠ 0)
  if b && a then some (if Config.alignBeforeBound then 0x02 else 0x01)
  else if b then some 0x01
  else if a then some 0x02
  else none

/-! Casks. -/

/-- `n` bytes of a cask from an offset, wrapping at its end (R425): pieces of 32 bytes and their poison. -/
def Core.caskRead (x : Core) (k : CaskCfg) (off n : Nat) : Bytes × List Nat :=
  let ps := (List.range (n / 32)).map fun i => k.base + (off + 32 * i) % k.size
  (ps.flatMap fun a => x.lsRead a 32, (List.range (n / 32)).filter fun i => x.lsPoisoned (ps.getD i 0) 32)

/-- Write a row at FILL and advance FILL by 512 (R426, R427, R435). -/
def Core.caskPush (x : Core) (i : Nat) (k : CaskCfg) (row : Bytes) (poison : List Nat) : Core :=
  let a := k.base + (x.cask i).fill
  let x := x.lsWrite a (slice row 0 512) fun w => poison.contains (w - a / 32)
  x.setCask i ((x.cask i).push k.size 512)

/-! DMA. -/

/-- A descriptor of Table 10-5. -/
structure DmaDesc where
  mem : Nat
  ls : Nat
  rowBytes : Nat
  rows : Nat
  host : Bool
  memPitch : Nat
  lsPitch : Nat
  cask : Nat

/-- Read a descriptor (R432). -/
def dmaDesc (d : Bytes) : DmaDesc :=
  { mem := field d 0 8, ls := field d 8 4, rowBytes := field d 12 4, rows := field d 16 2, host := bit (field d 18 2) 0
    memPitch := field d 20 4, lsPitch := field d 24 4, cask := byteAt d 28 }

/-- The reserved fields of a descriptor are zero and MEM_ADDR is in its range: 48 bits, but for an address of the host (R432). -/
def descReserved (d : Bytes) : Bool :=
  decide (field d 18 2 < 2) && field d 29 3 = 0 && (bit (field d 18 2) 0 || decide (field d 0 8 < 2 ^ 48))

/-- A memory range that a DMA of a partition may reach (R433). -/
def State.dmaRange (s : State) (part a n : Nat) : Bool :=
  let la := a % 2 ^ 40
  if 2 ^ 48 ≤ a then false
  else if a / 2 ^ 40 = s.struct.boardId then
    (s.inBoardMem la n && s.struct.inPart part la n) || s.struct.inPinned part la n
  else decide (part ≠ 0) && s.fab.advertised (a / 2 ^ 40) part la n

/-- The cause for which a transfer's descriptor is refused (R431 to R433, Table 10-6), with the EA it names.
DEDUCED (log entry 126). -/
def State.dmaCheck (s : State) (c : Nat) (t : Task) (b : Bytes) : Option (Nat × Option Nat) :=
  let d := dmaDesc b
  let toCask := decide (d.cask ≠ 0xFF)
  let lsEnd := (List.range d.rows).all fun i => t.fits (d.ls + i * d.lsPitch) d.rowBytes
  if !descReserved b || decide (d.rowBytes < 32) || decide (524288 < d.rowBytes) || d.rowBytes % 32 ≠ 0 || d.rows = 0 ||
      (toCask && (decide (16 ≤ d.cask) || d.rowBytes % 512 ≠ 0)) then some (0x04, none)
  else if d.mem % 32 ≠ 0 || (!toCask && d.ls % 32 ≠ 0) || d.lsPitch % 32 ≠ 0 then some (0x02, some d.ls)
  else if toCask && (s.caskRec c d.cask).isNone then some (0x06, none)
  else if !toCask && !lsEnd then some (0x01, some d.ls)
  else if !d.host && !(List.range d.rows).all (fun i => s.dmaRange t.part (d.mem + i * d.memPitch) d.rowBytes) then some (0x03, none)
  else none

/-- The transfers of the running task on the channels of a mask. -/
def Core.pendingOn (x : Core) (t : Task) (mask : Nat) : Bool :=
  x.dma.any fun d => d.own = (t.route, t.frame, t.node) && bit mask d.ch

/-- An effect of a frame was lost (R254), or it read poison (R258). -/
def State.markFrame (s : State) (own : Nat × Nat × Nat) (poisoned lost : Bool) : State := s.markRun own.1 own.2.1 poisoned lost

/-- Mark NEC_TASK_POISON of the task with this identity, wherever it stands (R446). -/
def State.markOwner (s : State) (c : Nat) (own : Nat × Nat × Nat) (b : Bool) : State :=
  if b then
    let x := s.core c
    let g (t : Task) : Task := if (t.route, t.frame, t.node) = own then { t with poison := true } else t
    (s.setCore c { x with task := x.task.map g, saved := x.saved.map g }).markFrame own true false
  else s

/-- What a transfer gets for a piece that it reads: its bytes and their poisoned 32-byte words, nothing because the read failed, or
nothing yet. -/
inductive Fetched where
  | data (bytes : Bytes) (bad : List Nat)
  | lost
  | wait
  deriving DecidableEq, Repr

/-- Poisoned 32-byte words as a rising list of chunks. -/
def chunksOf (n : Nat) (bad : Nat → Bool) : List Nat := (List.range n).filter bad

/-- The requester of a transfer. -/
def Xfer.cmd (x : Xfer) (c : Nat) : Option (Nat × Nat × Nat) := coreCmd c x.ch x.own.1 x.own.2.1

/-- `n` bytes of the memory side of a transfer: from board memory once no other board owns a line of them, from another board once the
lines have come, or what the host returned, `ho` bytes in (R433, R469, R472, R675). -/
def State.fetchPiece (s : State) (x : Xfer) (host : Bool) (a n : Nat) (h : HostRead) (ho : Nat) : Fetched :=
  let la := a % 2 ^ 40
  if host then
    match h with
    | .data b ep => .data (slice b ho n) (if ep then List.range (n / 32) else [])
    | .failed => .lost
  else if a / 2 ^ 40 = s.struct.boardId then
    if (s.away la n).isEmpty then .data (s.mem.read la n) (chunksOf (n / 32) fun k => s.mem.poisoned (la + 32 * k) 32) else .wait
  else
    let ls := (linesOf a n).map fun l => x.got.find? (·.1 = 128 * l)
    if ls.all (·.isSome) then
      let gs := ls.filterMap id
      .data ((gs.flatMap (·.2.1)).drop (a % 128) |>.take n)
        (chunksOf (n / 32) fun k => gs.any fun g => g.2.2 && decide (g.1 = (a + 32 * k) / 128 * 128))
    else .wait

/-- Ask for a piece that cannot be read yet: the owners for local lines, the other board for its own (R469, R472). -/
def State.askPiece (s : State) (c : Nat) (x : Xfer) (a n : Nat) : State × Xfer :=
  let la := a % 2 ^ 40
  if a / 2 ^ 40 = s.struct.boardId then (s.recall x.part (s.away la n), x)
  else
    let ls := ((linesOf a n).map (128 * ·)).filter fun l => !x.asked.contains l
    let s := ls.foldl (fun s l => s.request ({ typ := 0x03, dest := a / 2 ^ 40, part := x.part, addr := l } : Msg) (x.cmd c)) s
    (s, { x with asked := x.asked ++ ls })

/-- A piece of board memory has been read with its poison, which is logged (Table 15-4) and marks the task (R446). -/
def State.pieceRead (s : State) (c : Nat) (x : Xfer) (host : Bool) (a n : Nat) (bad : List Nat) : State :=
  let own := !host && decide (a / 2 ^ 40 = s.struct.boardId)
  let s := if own && !bad.isEmpty then
      (linesOf a n).foldl (fun s l =>
        if s.mem.poisoned (max a (128 * l) % 2 ^ 40) (min (a + n) (128 * l + 128) - max a (128 * l)) then s.poisonRead x.part (128 * l) (srcCore c)
        else s) s
    else s
  s.markOwner c x.own (!bad.isEmpty)

/-- Write `n` bytes of a transfer out of the store to memory, the host or another board (R433, R446, R469, R674): `bad` are the poisoned
32-byte words. -/
def State.storePiece (s : State) (part : Nat) (host : Bool) (a : Nat) (bs : Bytes) (bad : List Nat) (cmd : Option (Nat × Nat × Nat)) :
    State :=
  let la := a % 2 ^ 40
  let badIn (lo hi : Nat) : Bool := bad.any fun k => decide (lo < la + 32 * k + 32) && decide (la + 32 * k < hi)
  if host then s.emit (.hostWrite part a bs (!bad.isEmpty))
  else if a / 2 ^ 40 = s.struct.boardId then s.putMixed part la bs fun k => badIn (64 * k) (64 * k + 64)
  else
    (linesOf la bs.length).foldl (fun s l =>
      let lo := max la (128 * l)
      let hi := min (la + bs.length) (128 * l + 128)
      s.remoteWrite (a / 2 ^ 40) part lo ((bs.drop (lo - la)).take (hi - lo)) (badIn lo hi) cmd) s

/-- A transfer without a cask moves at most so many rows, in order, and stops at one that it cannot read yet (R434, R442, R444); `first`
is the row where the host's bytes begin. DEDUCED (log entry 126). -/
def State.moveRows (s : State) (c : Nat) (h : HostRead) (first : Nat) : Nat → Xfer → State × Xfer
  | 0, x => (s, x)
  | n + 1, x =>
    let d := dmaDesc x.desc
    let i := x.moved
    let a := d.mem + i * d.memPitch
    let la := x.base + d.ls + i * d.lsPitch
    if d.rows ≤ i then (s, x)
    else if x.into then
      match s.fetchPiece x d.host a d.rowBytes h ((i - first) * d.rowBytes) with
      | .wait => s.askPiece c x a d.rowBytes
      | .data bs bad =>
        let s := s.setCore c ((s.core c).lsWrite la bs fun w => bad.contains (w - la / 32))
        (s.pieceRead c x d.host a d.rowBytes bad).moveRows c h first n { x with moved := i + 1 }
      | .lost =>
        let s := (s.setCore c ((s.core c).lsWrite la (s.freeBytes d.rowBytes) fun _ => false)).useFree
        (s.markFrame x.own false true).moveRows c h first n { x with moved := i + 1 }
    else
      let y := s.core c
      let bad := chunksOf (d.rowBytes / 32) fun k => y.lsPoisoned (la + 32 * k) 32
      let s := s.storePiece x.part d.host a (y.lsRead la d.rowBytes) bad (x.cmd c)
      (s.markOwner c x.own (!bad.isEmpty)).moveRows c h first n { x with moved := i + 1 }

/-- A cask transfer moves pieces of 512 bytes while there is room or data (R435), at most so many; `first` is the piece where the host's
bytes begin. DEDUCED (log entry 126). -/
def State.moveCask (s : State) (c : Nat) (h : HostRead) (first : Nat) : Nat → Xfer → State × Xfer
  | 0, x => (s, x)
  | n + 1, x =>
    let d := dmaDesc x.desc
    let per := d.rowBytes / 512
    match s.caskRec c d.cask with
    | none => (s, x)
    | some r =>
      let k := caskCfg r
      let y := s.core c
      let st := y.cask d.cask
      let l := st.level k.size
      let a := d.mem + x.moved / per * d.memPitch + 512 * (x.moved % per)
      if d.rows * per ≤ x.moved then (s, x)
      else if x.into then
        if k.size - l < 512 then (s, x)
        else
          match s.fetchPiece x d.host a 512 h ((x.moved - first) * 512) with
          | .wait => s.askPiece c x a 512
          | .data bs bad =>
            let s := s.setCore c (y.caskPush d.cask k bs bad)
            (s.pieceRead c x d.host a 512 bad).moveCask c h first n { x with moved := x.moved + 1 }
          | .lost =>
            let s := (s.setCore c (y.caskPush d.cask k (s.freeBytes 512) [])).useFree
            (s.markFrame x.own false true).moveCask c h first n { x with moved := x.moved + 1 }
      else if l < 512 then (s, x)
      else
        let v := y.caskRead k st.tap 512
        let s := s.setCore c (y.setCask d.cask (st.pop k.size 512))
        let s := s.storePiece x.part d.host a v.1 v.2 (x.cmd c)
        (s.markOwner c x.own (!v.2.isEmpty)).moveCask c h first n { x with moved := x.moved + 1 }

/-- How many steps a transfer has: rows, or pieces of 512 bytes of a cask transfer. -/
def Xfer.total (x : Xfer) : Nat :=
  let d := dmaDesc x.desc
  if d.cask = 0xFF then d.rows else d.rows * (d.rowBytes / 512)

/-- A transfer moves at most so many steps. -/
def State.moveXfer (s : State) (c : Nat) (h : HostRead) (n : Nat) (x : Xfer) : State × Xfer :=
  if (dmaDesc x.desc).cask = 0xFF then s.moveRows c h x.moved n x else s.moveCask c h x.moved n x

/-! Publication. -/

/-- Publish a record from its template (R436, R437): bytes 32 to 63, then the header. The records of an abandoned frame are
discarded (R223). -/
def State.publishTask (s : State) (c : Nat) (t : Task) (desc : Bytes) : State :=
  let x := s.core c
  let d := dmaDesc desc
  let a := t.phys d.ls
  let tm := x.lsRead a 64
  let ctx := if byteAt tm 26 = 0xFF then t.trigger else byteAt tm 26
  match s.frame t.route t.frame with
  | none => s
  | some f =>
    if f.abandoned.isSome || f.aborted then s
    else
      let exposure := s.exposureOf t.route t.frame ctx
      let fl := field tm 24 2
      let poison := t.poison || x.lsPoisoned a 64
      let h : RecHdr :=
        { typ := byteAt tm 0, node := t.node, source := srcCore c, route := t.route, frameId := t.frame, exposure := exposure
          publish := s.gtcNs
          flags := flagWord (s.staleNow (s.frameStruct f) t.route exposure) (bit fl 1) poison false f.tastingFail (bit fl 5) (bit fl 6)
          context := ctx, confMean := byteAt tm 27, confInvalid := byteAt tm 28 }
      let units := field tm 29 3
      let bytes := (h.bytes 64).take 29 ++ leBytes 3 units
      let own := coreCmd c 0 t.route t.frame
      let s := s.storePiece t.part d.host (d.mem + 32) (tm.drop 32) (if x.lsPoisoned (a + 32) 32 then [0] else []) own
      let s := s.storePiece t.part d.host d.mem bytes [] own
      let s := s.markOwner c (t.route, t.frame, t.node) (x.lsPoisoned a 64)
      s.published (s.frameStruct f) t.route (byteAt tm 0) d.mem (32 + 64 * units) exposure

/-! MM. -/

/-- Every MM the core still has. -/
def Core.jobs (x : Core) : List MmJob := x.acc[0] ++ x.acc[1]

/-- The next MM starts feeding when no other feeds and its buffer has finished its previous drain (R454). -/
def Core.startFeed (x : Core) : Core :=
  if x.jobs.any (·.feeding) then x
  else
    let ready := ([x.acc[0].head?, x.acc[1].head?].filterMap id).filter fun j => j.result.isNone
    match minBy (fun a b => decide (a.seq < b.seq)) ready with
    | none => x
    | some j => { x with acc := x.acc.map fun l => l.map fun k => if k = j then { k with feeding := true } else k }

/-- Which 32-byte words of an MM's output depend on poison (R446, R453). -/
def Core.mmPoison (x : Core) (j : MmJob) : List Nat :=
  let sh := mmShape j.mode
  let ks := List.range j.k
  let aBad := (List.range 2).map fun h => ks.any fun k => x.wordPoison ((j.a + 64 * k) / 32 + h)
  let wStep := if mmIsSparse j.mode then List.range (j.k / 4) else ks
  let wBad := fun off len =>
    wStep.any fun k => x.wordPoison ((j.w + (if mmIsSparse j.mode then 160 * k else 64 * k) + off) / 32) && decide (0 < len)
  let colBad := fun n =>
    if mmIsSparse j.mode then wBad (2 * n) 2 || wBad (128 + n / 2) 1
    else if j.mode = 1 then wBad (n / 2) 1 else if j.mode = 4 then wBad (2 * n) 2 else wBad n 1
  let cols := (List.range sh.2).map colBad
  (List.range (4 * sh.1 * sh.2 / 32)).filter fun w =>
    let e := 8 * w
    let m := e / sh.2
    (aBad.getD ((if j.mode = 4 then 2 * m else m) / 32) false) ||
      (List.range 8).any (fun i => cols.getD (e % sh.2 + i) false) ||
      (j.accLoad && x.wordPoison (j.o / 32 + w))

/-! Stalls. -/

/-- A core that waits for transfers or drains goes on when its condition is met (R434, R436, R451). -/
def State.releaseStall (s : State) (c : Nat) : State :=
  let x := s.core c
  match x.stall, x.task with
  | some (.dmaw m), some t => if x.pendingOn t m then s else s.finish c x
  | some (.fence m), some t => if x.pendingOn t m || !x.jobs.isEmpty then s else s.finish c x
  | some (.pub d), some t =>
    if x.dma.any fun y => !y.into && decide (y.own = (t.route, t.frame, t.node)) then s
    else
      let s := s.publishTask c t d
      s.finish c (s.core c)
  | _, _ => s

end Sys2Proof.Machine
end

