-- ==== Sys2Proof/Machine/Nec.lean ====
section
/-! DEFINITION. The neural cores' commands (R399 to R455): one definition per instruction that touches the local store, a cask
or DMA, the control and arithmetic classes, and the events of a core's machinery. -/

namespace Sys2Proof.Machine

/-! Cask ports. -/

/-- The frame that a beat's tag names is in flight on a route: the tag carries a context and its frame number (R429). -/
def Route.wants (x : Route) (trigger : Nat) (b : Beat) : Bool :=
  x.frames.any fun f => f.abandoned.isNone && !f.aborted &&
    ((decide (b.ctx = trigger) && f.id = b.frame) || f.ctxs.any fun y => y.1 = b.ctx && y.2.1 = b.frame)

/-- A beat reaches a cask port (R427 to R429): it is gathered when its row has room, or discarded for a frame its route does not
take; either way its credit returns. -/
def execCaskBeatArrival (port : Fin 16) (s : State) : Host.Outcome State Fault Refusal :=
  let p := 13 + port.val
  let d := (s.sw.dst[p]?).getD {}
  match d.held, s.connection p with
  | b :: rest, some r =>
    let c := byteAt r 8
    let k := byteAt r 9
    let x := s.core c
    let st := x.cask k
    let consumed : State := { s with sw := { s.sw with dst := s.sw.dst.setIfInBounds p { d with held := rest } } }
    let trigger := ((s.struct.route (byteAt r 6)).map (byteAt · 7)).getD 64
    if !(s.route (byteAt r 6)).wants trigger b then .next consumed
    else if 512 ≤ st.row.length then .next s
    else
      let n := st.row.length / 32
      let row := st.row ++ slice b.data 0 64
      let row := if b.closing then row ++ List.replicate (512 - row.length) 0 else row
      let st := { st with
        row := row, closing := b.closing, frame := b.frame
        rowPoison := if b.poison then st.rowPoison ++ [n, n + 1] else st.rowPoison }
      .next (consumed.setCore c (x.setCask k st))
  | _, _ => .next s

/-- With a complete row and room, the port writes the row at FILL (R427, R428); a poisoned row marks the task that runs (R446).
DEDUCED (log entry 166). -/
def execCaskRowWrite (core : Fin 64) (cask : Fin 16) (s : State) : Host.Outcome State Fault Refusal :=
  let x := s.core core
  let st := x.cask cask
  match s.caskRec core cask with
  | none => .next s
  | some r =>
    let k := caskCfg r
    if k.stream && decide (512 ≤ st.row.length) && decide (512 ≤ k.size - st.level k.size) then
      let x := x.setCask cask { st with row := st.row.drop 512, rowPoison := [] }
      .next (s.setCore core ((x.caskPush cask k (st.row.take 512) st.rowPoison).mark (!st.rowPoison.isEmpty)))
    else .next s

/-! Local store. -/

/-- LDW: V ← row at EA (R408, R422, R451). -/
def execLdw (core : Fin 64) (w : U64) (s : State) : Host.Outcome State Fault Refusal :=
  .next (s.issue core 0x20 w (mV ||| mSB ||| mIMM) fun x t =>
    let ea := x.ea w
    match t.badAccess ea 512 512 with
    | some c => s.taskFault core c (some ea)
    | none =>
      let a := t.phys ea
      let p := x.chunkPoison a 512
      s.finish core ((x.setV (fldV w) { bytes := x.lsRead a 512, poison := p }).mark (!p.isEmpty)))

/-- STW: row at EA ← V; a row entry of the hopper is discarded (R421, R451). -/
def execStw (core : Fin 64) (w : U64) (s : State) : Host.Outcome State Fault Refusal :=
  .next (s.issue core 0x21 w (mV ||| mSB ||| mIMM) fun x t =>
    let ea := x.ea w
    match t.badAccess ea 512 512 with
    | some c => s.taskFault core c (some ea)
    | none =>
      let a := t.phys ea
      let v := x.vreg (fldV w)
      s.finish core ((x.lsWrite a (slice v.bytes 0 512) fun k => v.poison.contains (k - a / 32)).mark (!v.poison.isEmpty)))

/-- The 16 chunks of a strided read (R414). -/
def chunkAddrs (ea stride : Nat) : List Nat := (List.range 16).map fun i => ea + i * stride

/-- The cause for which a strided read is refused: EA and stride multiples of 32, every chunk inside the region (R414, R422,
R423). -/
def Task.badStride (t : Task) (ea stride : Nat) : Option Nat :=
  let b := (chunkAddrs ea stride).any fun a => !t.fits a 32
  let a := decide (ea % 32 ≠ 0) || decide (stride % 32 ≠ 0)
  if b && a then some (if Config.alignBeforeBound then 0x02 else 0x01)
  else if b then some 0x01
  else if a then some 0x02
  else none

/-- LDS: a strided read (R414). -/
def execLds (core : Fin 64) (w : U64) (s : State) : Host.Outcome State Fault Refusal :=
  .next (s.issue core 0x22 w (mV ||| mSB ||| mIMM ||| mSX) fun x t =>
    let ea := x.ea w
    let stride := (x.sreg (fldSX w)).toNat
    match t.badStride ea stride with
    | some c => s.taskFault core c (some ea)
    | none =>
      let ps := (chunkAddrs ea stride).map t.phys
      let bad := chunksOf 16 fun i => x.lsPoisoned (ps.getD i 0) 32
      s.finish core ((x.setV (fldV w) { bytes := ps.flatMap fun a => x.lsRead a 32, poison := bad }).mark (!bad.isEmpty)))

/-- Element j of chunk i goes to element position 16 j + i (R415): the bytes of a transposed read with elements of `e` bytes. -/
def transpose (e : Nat) (chunks : List Bytes) : Bytes :=
  (List.range (32 / e)).flatMap fun j => (List.range 16).flatMap fun i => slice (chunks.getD i []) (j * e) e

/-- LDT: a transposed read (R415); poison of a chunk reaches every chunk that takes an element of it. -/
def execLdt (core : Fin 64) (w : U64) (s : State) : Host.Outcome State Fault Refusal :=
  .next (s.issue core 0x23 w (mV ||| mSB ||| mIMM ||| mSX ||| mESZ) fun x t =>
    let ea := x.ea w
    let stride := (x.sreg (fldSX w)).toNat
    let e := 2 ^ fldESZ w
    if 2 < fldESZ w then s.taskFault core 0x05 none
    else
      match t.badStride ea stride with
      | some c => s.taskFault core c (some ea)
      | none =>
        let ps := (chunkAddrs ea stride).map t.phys
        let bad := (List.range 16).filter fun i => x.lsPoisoned (ps.getD i 0) 32
        -- a chunk of the destination takes 32 / e elements, of consecutive source chunks
        let from_ := fun d => (List.range (32 / e)).map fun i => (d * (32 / e) + i) % 16
        let out := chunksOf 16 fun d => (from_ d).any bad.contains
        s.finish core ((x.setV (fldV w) { bytes := transpose e (ps.map fun a => x.lsRead a 32), poison := out }).mark (!bad.isEmpty)))

/-- LDD: S[SX] ← 4 bytes (R451). -/
def execLdd (core : Fin 64) (w : U64) (s : State) : Host.Outcome State Fault Refusal :=
  .next (s.issue core 0x24 w (mSX ||| mSB ||| mIMM) fun x t =>
    let ea := x.ea w
    match t.badAccess ea 4 4 with
    | some c => s.taskFault core c (some ea)
    | none =>
      let a := t.phys ea
      let bad := x.lsPoisoned a 4
      s.finish core ((x.setS (fldSX w) (BitVec.ofNat 32 (ofLe (x.lsRead a 4))) bad).mark bad))

/-- STD: 4 bytes ← S[SX] through the hopper (R417, R451). -/
def execStd (core : Fin 64) (w : U64) (s : State) : Host.Outcome State Fault Refusal :=
  .next (s.issue core 0x25 w (mSX ||| mSB ||| mIMM) fun x t =>
    let ea := x.ea w
    match t.badAccess ea 4 4 with
    | some c => s.taskFault core c (some ea)
    | none =>
      let bad := x.sPoison.contains (fldSX w)
      s.finish core ((x.narrow (t.phys ea) (leBytes 4 (x.sreg (fldSX w)).toNat) bad s.clk).mark bad))

/-- STC: 32 bytes ← chunk IDX of V through the hopper (R417, R451). -/
def execStc (core : Fin 64) (w : U64) (s : State) : Host.Outcome State Fault Refusal :=
  .next (s.issue core 0x26 w (mIDX ||| mV ||| mSB ||| mIMM) fun x t =>
    let ea := x.ea w
    match t.badAccess ea 32 32 with
    | some c => s.taskFault core c (some ea)
    | none =>
      let v := x.vreg (fldV w)
      let p := v.poison.contains (fldIDX w)
      s.finish core ((x.narrow (t.phys ea) (slice v.bytes (32 * fldIDX w) 32) p s.clk).mark p))

/-! Casks. -/

/-- The operand checks of R431: a CASK record, and `ok` of its configuration. -/
def State.caskOp (s : State) (c : Nat) (w : U64) (ok : CaskCfg → Bool) (act : CaskCfg → State) : State :=
  match s.caskRec c (fldIDX w) with
  | none => s.taskFault c 0x06 none
  | some r => if ok (caskCfg r) then act (caskCfg r) else s.taskFault c 0x06 none

/-- N of CWAIT and CADV: a multiple of 64, at most SIZE (R431). -/
def okN (w : U64) (k : CaskCfg) : Bool := decide (fldIMM w ≤ k.size) && fldIMM w % 64 = 0

/-- The MMs of the running task that have begun and not yet drained: their accumulators are undefined after a CWAIT with P set (R439).
DESIGN CHOICE (log entry 129). -/
def Core.undefAcc (x : Core) : Core :=
  let mine (j : MmJob) : Bool := x.task.map (fun t => (t.route, t.frame, t.node)) = some j.own
  { x with acc := x.acc.map fun (l : List MmJob) => l.map fun j => if mine j && (j.feeding || j.result.isSome) then { j with undef := true } else j }

/-- A CWAIT is satisfied; after one with P set the vector registers and the accumulators are undefined (R439). -/
def State.endCwait (s : State) (c : Nat) (p : Bool) : State :=
  if p then (s.finish c (s.core c).undefAcc).freshVecs c else s.finish c (s.core c)

/-- CWAIT (R425, R440, R441). -/
def execCwait (core : Fin 64) (w : U64) (s : State) : Host.Outcome State Fault Refusal :=
  .next (s.issue core 0x30 w (mIMM ||| mIDX ||| 2 ^ 50) fun x _ => s.caskOp core w (okN w) fun k =>
    if fldIMM w ≤ (x.cask (fldIDX w)).level k.size then (s.setCore core x).endCwait core (fldP w)
    else
      let y := { x with stall := some (.cwait (fldIDX w) (fldIMM w) (fldP w)), pWaitAt := if fldP w then some s.clk else none }
      (s.setCore core y).settleWait core)

/-- The read of a CRD (R425). -/
def State.doCrd (s : State) (c v idx off : Nat) (k : CaskCfg) : State :=
  let x := s.core c
  let r := x.caskRead k ((x.cask idx).tap + off) 512
  s.finish c ((x.setV v { bytes := r.1, poison := r.2 }).mark (!r.2.isEmpty))

/-- CRD (R425, R431). -/
def execCrd (core : Fin 64) (w : U64) (s : State) : Host.Outcome State Fault Refusal :=
  .next (s.issue core 0x31 w (mV ||| mIMM ||| mIDX) fun x _ =>
    s.caskOp core w (fun k => fldIMM w % 32 = 0 && decide (fldIMM w + 512 ≤ k.size)) fun k =>
      if fldIMM w + 512 ≤ (x.cask (fldIDX w)).level k.size then (s.setCore core x).doCrd core (fldV w) (fldIDX w) (fldIMM w) k
      else s.setCore core { x with stall := some (.crd (fldV w) (fldIDX w) (fldIMM w)) })

/-- CADV (R425, R431). -/
def execCadv (core : Fin 64) (w : U64) (s : State) : Host.Outcome State Fault Refusal :=
  .next (s.issue core 0x32 w (mIMM ||| mIDX) fun x _ => s.caskOp core w (okN w) fun k =>
    let st := x.cask (fldIDX w)
    if fldIMM w ≤ st.level k.size then s.finish core (x.setCask (fldIDX w) (st.pop k.size (fldIMM w)))
    else s.setCore core { x with stall := some (.cadv (fldIDX w) (fldIMM w)) })

/-- The write of a CPUSH (R426). -/
def State.doCpush (s : State) (c v idx : Nat) (k : CaskCfg) : State :=
  let x := s.core c
  let r := x.vreg v
  s.finish c ((x.caskPush idx k r.bytes r.poison).mark (!r.poison.isEmpty))

/-- CPUSH (R426, R431). -/
def execCpush (core : Fin 64) (w : U64) (s : State) : Host.Outcome State Fault Refusal :=
  .next (s.issue core 0x33 w (mIDX ||| mV) fun x _ => s.caskOp core w (fun k => !k.stream) fun k =>
    if 512 ≤ k.size - (x.cask (fldIDX w)).level k.size then (s.setCore core x).doCpush core (fldV w) (fldIDX w) k
    else s.setCore core { x with stall := some (.cpush (fldIDX w) (fldV w)) })

/-- CLVL: S[SX] ← L (R451). -/
def execClvl (core : Fin 64) (w : U64) (s : State) : Host.Outcome State Fault Refusal :=
  .next (s.issue core 0x34 w (mSX ||| mIDX) fun x _ => s.caskOp core w (fun _ => true) fun k =>
    s.finish core (x.setS (fldSX w) (BitVec.ofNat 32 ((x.cask (fldIDX w)).level k.size)) false))

/-- A stalled cask instruction finds its condition met and completes (R425, R426). -/
def execCaskStallRelease (core : Fin 64) (s : State) : Host.Outcome State Fault Refusal :=
  let x := s.core core
  let cfg := fun i => (s.caskRec core i).map caskCfg
  match x.stall with
  | some (.cwait i n p) =>
    match cfg i with
    | some k => if n ≤ (x.cask i).level k.size then .next (s.endCwait core p) else .next s
    | none => .next s
  | some (.crd v i off) =>
    match cfg i with
    | some k => if off + 512 ≤ (x.cask i).level k.size then .next (s.doCrd core v i off k) else .next s
    | none => .next s
  | some (.cadv i n) =>
    match cfg i with
    | some k =>
      if n ≤ (x.cask i).level k.size then .next (s.finish core (x.setCask i ((x.cask i).pop k.size n))) else .next s
    | none => .next s
  | some (.cpush i v) =>
    match cfg i with
    | some k => if 512 ≤ k.size - (x.cask i).level k.size then .next (s.doCpush core v i k) else .next s
    | none => .next s
  | _ => .next s

/-! DMA and publication. -/

/-- A DMA instruction: its descriptor is read and checked, and the transfer waits its turn on its channel (R432 to R434).
DEDUCED (log entry 126). -/
def State.startDma (s : State) (c : Nat) (w : U64) (into : Bool) (x : Core) (t : Task) : State :=
  let ea := x.ea w
  if !t.fits ea 32 then s.taskFault c 0x01 (some ea)
  else
    let a := t.phys ea
    let b := x.lsRead a 32
    match s.dmaCheck c t b with
    | some (cause, e) => s.taskFault c cause (e.or (some ea))
    | none =>
      let y : Xfer :=
        { into := into, ch := fldCH w, desc := b, own := (t.route, t.frame, t.node), base := t.base + t.ca, part := t.part, task := t.task }
      s.finish c (({ x with dma := x.dma ++ [y] } : Core).mark (x.lsPoisoned a 32))

/-- DMAI (R432 to R435). -/
def execDmai (core : Fin 64) (w : U64) (s : State) : Host.Outcome State Fault Refusal :=
  .next (s.issue core 0x40 w (mSB ||| mIMM ||| span 49 48) fun x t => s.startDma core w true x t)

/-- DMAO (R432 to R435). -/
def execDmao (core : Fin 64) (w : U64) (s : State) : Host.Outcome State Fault Refusal :=
  .next (s.issue core 0x41 w (mSB ||| mIMM ||| span 49 48) fun x t => s.startDma core w false x t)

/-- DMAW (R434). -/
def execDmaw (core : Fin 64) (w : U64) (s : State) : Host.Outcome State Fault Refusal :=
  .next (s.issue core 0x42 w (span 51 48) fun x _ =>
    (s.setCore core { x with stall := some (.dmaw (fldMASK w)) }).releaseStall core)

/-- Beside a running task of a safety-class route a transfer of any other task is paused (R442). -/
def Core.paused (x : Core) (y : Xfer) : Bool :=
  (x.task.map fun t => t.safety && decide (y.own ≠ (t.route, t.frame, t.node))).getD false

/-- The oldest transfer on a task's channel that is not paused moves rows, as many as are named, as far as room and data allow, and completes with its
last one (R434, R435, R442); `d` is what the host returned for those rows. DEDUCED (log entry 126). -/
def execNecDmaDone (core : Fin 64) (rows : DmaRows) (d : HostRead) (s : State) : Host.Outcome State Fault Refusal :=
  let x := s.core core
  match x.dma.find? fun y => decide (y.task = rows.task.val) && decide (y.ch = rows.ch.val) && !x.paused y with
  | none => .next s
  | some y =>
    let r := s.moveXfer core d (min rows.steps (y.total - y.moved)) y
    let z := r.1.core core
    let dma := if y.total ≤ r.2.moved then z.dma.erase y else z.dma.replace y r.2
    .next ((r.1.setCore core { z with dma := dma }).releaseStall core)

/-- PUB (R436, R437): TYPE within 0x40 to 0x4F, the destination within the task's reach. DEDUCED (log entry 126). -/
def execPub (core : Fin 64) (w : U64) (s : State) : Host.Outcome State Fault Refusal :=
  .next (s.issue core 0x43 w (mSB ||| mIMM) fun x t =>
    let ea := x.ea w
    if !t.fits ea 32 then s.taskFault core 0x01 (some ea)
    else
      let b := x.lsRead (t.phys ea) 32
      let d := dmaDesc b
      if !descReserved b then s.taskFault core 0x04 (some ea)
      else if d.ls % 32 ≠ 0 ∨ d.mem % 32 ≠ 0 then s.taskFault core 0x02 (some d.ls)
      else if !t.fits d.ls 64 then s.taskFault core 0x01 (some d.ls)
      else if byteAt (x.lsRead (t.phys d.ls) 1) 0 / 16 ≠ 4 then s.taskFault core 0x04 (some ea)
      else if !d.host && !s.dmaRange t.part d.mem 64 then s.taskFault core 0x03 (some ea)
      else
        let y := ({ x with stall := some (.pub b) } : Core).mark (x.lsPoisoned (t.phys ea) 32)
        (s.setCore core y).releaseStall core)

/-! Tiles. -/

/-- FENCE: the hopper is flushed, and the task waits for drains and the named channels (R418, R451). -/
def execNecFence (core : Fin 64) (w : U64) (s : State) : Host.Outcome State Fault Refusal :=
  .next (s.issue core 0x03 w (span 51 48) fun x _ =>
    (s.setCore core { x.flushAll with stall := some (.fence (fldMASK w)) }).releaseStall core)

/-- TILE: the hopper is flushed, and the task waits for the MAC feed to end (R418, R438). DEDUCED (log entry 128). -/
def execTile (core : Fin 64) (w : U64) (s : State) : Host.Outcome State Fault Refusal :=
  .next (s.issue core 0x02 w 0 fun x _ => s.setCore core { x.flushAll with stall := some .tile })

/-- Every MM of the running task has been fed (R438). -/
def Core.fed (x : Core) : Bool :=
  x.jobs.all fun j => j.result.isSome || decide (x.task.map (fun t => (t.route, t.frame, t.node)) ≠ some j.own)

/-- A TILE completes when every MM of the task has been fed, while drains go on (R438); the vector registers are undefined after it
(R439), and a pending preemption is taken there (R441). -/
def execTileComplete (core : Fin 64) (s : State) : Host.Outcome State Fault Refusal :=
  let x := s.core core
  if x.stall = some .tile ∧ x.task.isSome ∧ x.fed = true then
    let y := { x with
      tiles := (x.tiles + 1) % 2 ^ 32, busy := x.busy + s.necCycles (s.tileTicks x), tileAt := s.clk, pWait := 0, pWaitAt := none }
    .next (((s.setCore core y.advance).freshVecs core).takePreemption core)
  else .next s

/-! MM. -/

/-- MM (R452 to R454): its panels and output are checked, and it waits for its accumulator buffer. DEDUCED (log entry 127). -/
def execMm (core : Fin 64) (w : U64) (s : State) : Host.Outcome State Fault Refusal :=
  .next (s.issue core 0x50 w (span 32 8) fun x t =>
    let sc := fun hi lo => (x.sreg (bits w.toNat hi lo)).toNat
    let mode := bits w.toNat 31 28
    let k := sc 22 18
    let a := sc 12 8
    let wp := sc 17 13
    let o := sc 27 23
    let bad := [(a, mmABytes k), (wp, mmWBytes mode k), (o, mmOBytes mode)].findSome? fun p =>
      (t.badAccess p.1 p.2 512).map fun c => (c, p.1)
    if 8 ≤ mode ∨ bit t.modes mode = false ∨ k = 0 ∨ 65536 < k ∨ (mmIsSparse mode = true ∧ k % 4 ≠ 0) then s.taskFault core 0x05 none
    else
      match bad with
      | some (c, ea) => s.taskFault core c (some ea)
      | none =>
        let j : MmJob := { mode := mode, a := t.phys a, w := t.phys wp, o := t.phys o, k := k, accLoad := bit w.toNat 32, seq := t.mms
                           own := (t.route, t.frame, t.node) }
        let y := { x with
          acc := if t.mms % 2 = 0 then #v[x.acc[0] ++ [j], x.acc[1]] else #v[x.acc[0], x.acc[1] ++ [j]]
          task := some { t with mms := t.mms + 1 } }
        s.finish core y.startFeed)

/-- The feed of an MM ends: its result stands in the accumulators, and its drain begins (R400 to R402, R446, R453, R454).
DEDUCED (log entry 127). -/
def execMmFeedEnd (core : Fin 64) (s : State) : Host.Outcome State Fault Refusal :=
  let x := s.core core
  match x.jobs.find? (·.feeding) with
  | none => .next s
  | some j =>
    let acc := if j.accLoad then x.lsRead j.o (mmOBytes j.mode) else []
    let r := mmOutput j.mode j.k (x.lsRead j.a (mmABytes j.k)) (x.lsRead j.w (mmWBytes j.mode j.k)) acc
    let p := x.mmPoison j
    let g (t : Task) : Task := if (t.route, t.frame, t.node) = j.own then { t with sat := t.sat || decide (0 < r.2) } else t
    let fed := x.acc.map fun (l : List MmJob) => l.map fun q =>
      if q = j then { q with feeding := false, result := some (r.1, p) } else q
    let y : Core := { x with
      acc := fed
      sat := (x.sat + r.2) % 2 ^ 32, task := x.task.map g, saved := x.saved.map g }
    .next ((s.setCore core y.startFeed).markOwner core j.own (!p.isEmpty))

/-- The oldest fed MM has drained into its output; its buffer is free (R446, R454). An accumulator that became undefined drains free
values (R439). DEDUCED (log entry 127). -/
def execMmDrainDone (core : Fin 64) (s : State) : Host.Outcome State Fault Refusal :=
  let x := s.core core
  match minBy (fun a b : MmJob => decide (a.seq < b.seq)) (x.jobs.filter (·.result.isSome)) with
  | none => .next s
  | some j =>
    let r := j.result.getD ([], [])
    let out := if j.undef then s.freeBytes r.1.length else r.1
    let y := x.lsWrite j.o out fun w => r.2.contains (w - j.o / 32)
    let y := { y with acc := x.acc.map fun (l : List MmJob) => l.filter fun q => decide (q ≠ j) }
    let s := if j.undef then s.useFree else s
    .next ((s.setCore core y.startFeed).releaseStall core)

/-! Control and arithmetic. Their encodings stand in the Relek reference, so these commands carry operands and not a word. -/

/-- A control or arithmetic instruction reaches the head of a core (R407). DEDUCED (log entry 123). -/
def State.issuePlain (s : State) (c : Nat) (act : Core → Task → State) : State :=
  let x := s.core c
  match x.task with
  | none => s
  | some t =>
    if x.stall.isSome || s.heldByDebug x || s.tastingOn (srcCore c) then s
    else if t.codeLen < x.pc + 8 then s.taskFault c 0x08 none
    else act { x with stepOne := false } t

/-- END: the task ends, its hopper flushed (R418). -/
def execNecEnd (core : Fin 64) (s : State) : Host.Outcome State Fault Refusal :=
  .next (s.issuePlain core fun _ _ => s.endTask core)

/-- NOP. -/
def execNecNop (core : Fin 64) (s : State) : Host.Outcome State Fault Refusal :=
  .next (s.issuePlain core fun x _ => s.finish core x)

/-- A branch: a target outside the code is a FETCH fault (Table 10-6). DEDUCED (log entry 125). -/
def execBranch (core : Fin 64) (taken : Bool) (target : Nat) (s : State) : Host.Outcome State Fault Refusal :=
  .next (s.issuePlain core fun x t =>
    if !taken then s.finish core x
    else
      let s := s.setCore core { x with pc := target }
      if target % 8 ≠ 0 ∨ t.codeLen < target + 8 then s.taskFault core 0x08 none else s)

/-- A loop over the instructions up to `bodyEnd`, run `count` times (R441 saves its state). DEDUCED (log entry 125). -/
def execLoop (core : Fin 64) (count bodyEnd : Nat) (s : State) : Host.Outcome State Fault Refusal :=
  .next (s.issuePlain core fun x _ =>
    if count = 0 then s.setCore core { x with pc := bodyEnd }
    else s.setCore core { x with loops := (x.pc + 8, bodyEnd, count) :: x.loops, pc := x.pc + 8 })

/-- A scalar instruction writes its destination; the result is the Relek reference's, free here (R407), and poisoned when a source is
(R446). DESIGN CHOICE (log entry 129). -/
def execScalarArithmetic (core : Fin 64) (op : ScalarOp) (s : State) : Host.Outcome State Fault Refusal :=
  .next (s.issuePlain core fun x _ =>
    let bad := op.srcs.any fun i => x.sPoison.contains i.val
    (s.useFree).finish core ((x.setS op.dst (Config.freeWord s.free) bad).mark bad))

/-- The bytes of a vector instruction's result (R403, R404); what the spec does not define is free.
DESIGN CHOICE (log entry 129). -/
def vecResult (op : VecOp) (a b free : Bytes) : Bytes :=
  let conv (n : Nat) (f : Nat → Nat) : Bytes := convVec n f a ++ free.drop (128 * n)
  match op with
  | .requant mult shift zp => conv 1 fun v => unsigned 8 (requant (signed 32 v) mult.toInt shift zp)
  | .toBF16 satf => conv 2 (toBF16 satf)
  | .toE4M3 => conv 1 toE4M3
  | .toE5M2 satf => conv 1 (toE5M2 satf)
  | .satAdd n => satVec n (· + ·) a b
  | .satSub n => satVec n (· - ·) a b
  | .satMul n => satVec n (· * ·) a b
  | .other => free

/-- The poisoned chunks of a vector result (R446): a chunk depends on the source chunks its elements come from. -/
def vecPoison (op : VecOp) (a b : List Nat) : List Nat :=
  let conv (n : Nat) : List Nat := chunksOf (4 * n) fun d => (List.range (4 / n)).any fun i => a.contains (4 / n * d + i)
  let both : List Nat := chunksOf 16 fun d => a.contains d || b.contains d
  match op with
  | .requant _ _ _ => conv 1
  | .toBF16 _ => conv 2
  | .toE4M3 => conv 1
  | .toE5M2 _ => conv 1
  | .satAdd _ => both
  | .satSub _ => both
  | .satMul _ => both
  | .other => if a.isEmpty && b.isEmpty then [] else List.range 16

/-- A vector instruction (R403, R404, R446). DESIGN CHOICE (log entry 129). -/
def execVectorArithmetic (core : Fin 64) (dst a b : Fin 16) (op : VecOp) (s : State) : Host.Outcome State Fault Refusal :=
  .next (s.issuePlain core fun x _ =>
    let u := x.vreg a
    let v := x.vreg b
    let free := slice (Config.freeVec s.free) 0 512
    let p := vecPoison op u.poison v.poison
    (s.useFree).finish core ((x.setV dst { bytes := slice (vecResult op u.bytes v.bytes free) 0 512, poison := p }).mark (!p.isEmpty)))

/-- The opcodes of Tables 10-9 and 10-11 and the classes of Table 10-3 that the Relek reference fills. DEDUCED (log entry 123). -/
def opcodeNamed (op : Nat) : Bool :=
  decide (op < 0x20) || [0x20, 0x21, 0x22, 0x23, 0x24, 0x25, 0x26, 0x30, 0x31, 0x32, 0x33, 0x34, 0x40, 0x41, 0x42, 0x43, 0x50].contains op ||
    (decide (0x60 ≤ op) && decide (op < 0x80))

/-- An undefined opcode faults with ILLEGAL (R443); a reserved field of a defined one does so where that instruction issues.
DEDUCED (log entry 123). -/
def execIllegalInstruction (core : Fin 64) (w : U64) (s : State) : Host.Outcome State Fault Refusal :=
  if opcodeNamed (w.toNat % 256) then .next s
  else .next (s.issuePlain core fun _ _ => s.taskFault core 0x05 none)

/-! Machinery. -/

/-- 32 NEC cycles without a narrow write flush the hopper (R418). -/
def execHopperIdleFlush (core : Fin 64) (s : State) : Host.Outcome State Fault Refusal :=
  let x := s.core core
  if x.hopper.isEmpty || decide (s.necCycles (s.clk - x.narrowAt) < 32) then .next s
  else .next (s.setCore core x.flushAll)

/-- 65,536 NEC cycles without a TILE (R440). -/
def execTileOverrun (core : Fin 64) (s : State) : Host.Outcome State Fault Refusal :=
  let x := s.core core
  if x.task.isSome && decide (65536 ≤ s.necCycles (s.tileTicks x)) then .next (s.taskFault core 0x07 none) else .next s

/-- An uncorrectable word is poisoned, counted and logged (R445). -/
def execLocalStoreEccError (core : Fin 64) (addr : Nat) (s : State) : Host.Outcome State Fault Refusal :=
  if addr < 524288 then
    let x := s.core core
    let w := addr / 32
    let p := ((s.struct.coreRoute core).map s.struct.routePart).getD 0
    let s := s.setCore core { x with lsPoison := nset x.lsPoison w, eccU := satN 0xFFFF (x.eccU + 1) }
    let s := { s with bg := { s.bg with ueSince := satN 0xFFFFFFFF (s.bg.ueSince + 1) } }
    let s := s.note (srcCore core) 2 0x0101 p [srcCore core, w]
    if 0 < p then .next (s.event p 3 (srcCore core)) else .next s
  else .next s

end Sys2Proof.Machine
end

