-- ==== Sys2Proof/Machine/Partition.lean ====
section
/-! DEFINITION. The commands of a partition reset (Table 4-13). -/

namespace Sys2Proof.Machine

/-- A function-level reset of a VF (R141, R164 to R166, R581). -/
def execVfFlr (f : Part) (s : State) : Host.Outcome State Fault Refusal :=
  if s.top.ready && decide (f.val ≠ 0) && s.exposed f then .next (s.partitionReset f .configUnlocked "FLR") else .next s

/-- Every route of the VF has stopped: RESET_DONE becomes 1 (Table 4-13 step 4), unless a tenant switch has overtaken the reset (R34). -/
def execPartitionResetDone (f : Part) (s : State) : Host.Outcome State Fault Refusal :=
  let x := s.hif.fns[f.val]
  let stopped := (List.range 16).all fun r =>
    !bit (s.struct.partRoutes f) r || !((s.route r).st = .starting || (s.route r).st = .running || (s.route r).st = .stopping)
  if !x.resetDone && stopped && s.sec.switch.isNone then
    let queues := s.hif.queues.map fun q => if q.1 / 64 = f.val then (q.1, q.2.cleared) else q
    .next { s with hif := { s.hif with queues := queues, fns := s.hif.fns.setIfInBounds f { x with resetDone := true, flrAt := none } } }
  else .next s

end Sys2Proof.Machine
end

