-- ==== Sys2Proof/Machine/Queues.lean ====
section
/-! DEFINITION. Host queues: doorbells, descriptor fetch, the fixing and posting of completions, MSI-X coalescing, enabling
and disabling (R121 to R164, R676 to R683), and the commands NOP and FENCE. -/

namespace Sys2Proof.Machine

/-- Entries of a queue's rings (Table 4-9). -/
def Queue.ring (x : Queue) : Nat := 2 ^ (x.sizeLog2 + 4)

/-- Completion entries in use: posted and not yet consumed. DEDUCED (log entry 9). -/
def Queue.used (x : Queue) : Nat := (x.cqTail + x.ring - x.cqHead) % x.ring

/-- A CQ entry is free beyond those reserved for fetched commands (R123): a CQ of N entries holds N − 1 (assumption 9).
DEDUCED (log entry 9). -/
def Queue.room (x : Queue) : Bool := decide (x.used + x.cmds.length + 1 < x.ring)

/-- Halt a queue with an error and raise event class 4 (R126, R681 to R683). -/
def State.halt (s : State) (f q error : Nat) : State :=
  let x := s.queue f q
  (s.setQueue f q { x with st := .halted, error := error }).event f 4 (srcPart f)

/-- The 16 bytes of a completion entry (Table 4-3). DEDUCED (log entry 58). -/
def completionEntry (gtc seq status detail source : Nat) (phase : Bool) : Bytes :=
  leBytes 8 gtc ++ leBytes 4 seq ++ leBytes 4 (status % 256 + 256 * (detail % 256) + 65536 * (source % 4096) + 2 ^ 28 * b2n phase)

/-- Raise a queue's vector for one more completion, as R149 coalesces them. DESIGN CHOICE (log entry 35). -/
def State.raise (s : State) (f q : Nat) : State :=
  let x := s.queue f q
  if x.coalCount = 0 ∧ x.coalTime = 0 then (s.setQueue f q { x with coalPosted := 0, coalSince := none }).emit (.msix f x.vector.toNat)
  else
    let n := x.coalPosted + 1
    if 0 < x.coalCount ∧ x.coalCount ≤ n then
      (s.setQueue f q { x with coalPosted := 0, coalSince := none }).emit (.msix f x.vector.toNat)
    else s.setQueue f q { x with coalPosted := n, coalSince := some (x.coalSince.getD s.clk) }

/-- Write one completion entry at the CQ tail (R124, R134). -/
def State.postEntry (s : State) (f q seq status detail source : Nat) : State :=
  let x := s.queue f q
  let e := completionEntry s.gtcNs seq status detail source x.phase
  let t := x.cqTail + 1
  let y := { x with cqTail := if t = x.ring then 0 else t, phase := if t = x.ring then !x.phase else x.phase }
  (s.setQueue f q y).emit (.completion f q (x.cqBase.toNat + 16 * x.cqTail) e)

/-- A queue whose ENABLE is clear and whose fetched commands have all left it is DISABLED (R160, R682). DEDUCED (log entry 58). -/
def State.settle (s : State) (f q : Nat) : State :=
  let x := s.queue f q
  if !x.enable && x.cmds.isEmpty then s.setQueue f q { x with st := .disabled } else s

/-- Post one completion that a reset left to report, its status byte first in the history region if Table 4-2 executes the descriptor
(R129, R132, R164). -/
def State.postAborted (s : State) (f q status : Nat) (a : Aborted) : State :=
  let x := s.queue f q
  let s := if a.executed then
      (s.setQueue f q { x with hist := aset x.hist (a.seq % 65536) status }).emit
        (.hostWrite f (x.histBase.toNat + a.seq % 65536) [BitVec.ofNat 8 status] false)
    else s
  let s := s.postEntry f q a.seq status 0 a.source
  if a.noIrq then s else s.raise f q

/-- Post aborted completions while the CQ has room; with the last one the abort registers clear and the queue runs (Table 4-13 step 5,
R164). DEDUCED (log entry 58). -/
def State.postAborts (s : State) (f q : Nat) : Nat → State
  | 0 => s
  | n + 1 =>
    let x := s.queue f q
    if x.st ≠ .postingAborts then s
    else
      match x.aborts with
      | [] => s.setQueue f q { x with st := .running, abortFirst := 0, abortCount := 0 }
      | a :: t => if x.room then (((s.setQueue f q { x with aborts := t }).postAborted f q 0x10 a).postAborts f q n) else s

/-- The SQ tail doorbell (R126, R127): descriptors become visible; an index not below the ring size halts the queue. A doorbell of a
queue that is halted, or that drains with ENABLE clear, is ignored, so that ERROR keeps its code.
DESIGN CHOICE (log entry 152). -/
def State.ringTail (s : State) (f : Part) (q : Fin 64) (idx : BitVec 16) : State :=
  let x := s.queue f q
  if !s.queueAccess f q || !x.enable || x.st = .disabled || x.st = .halted then s
  else if x.ring ≤ idx.toNat then (s.halt f q 1)
  else
    (s.setQueue f q { x with
      sqTail := idx.toNat, rung := x.rung + (idx.toNat + x.ring - x.sqTail) % x.ring })

/-- The SQ tail doorbell: the command. -/
def execSqTailDoorbell (f : Part) (q : Fin 64) (idx : BitVec 16) (s : State) : Host.Outcome State Fault Refusal := .next (s.ringTail f q idx)

/-- The CQ head doorbell (R123): entries up to the index are consumed; aborted completions that waited for room go on. An
index not below the ring size is ignored (assumption 10). A queue that drains with ENABLE clear still takes it.
DESIGN CHOICE (log entries 10, 152). -/
def State.ringHead (s : State) (f : Part) (q : Fin 64) (idx : BitVec 16) : State :=
  let x := s.queue f q
  if !s.queueAccess f q || x.st = .disabled || x.ring ≤ idx.toNat then s
  else
    let s := s.setQueue f q { x with cqHead := idx.toNat }
    (s.postAborts f q (x.aborts.length + 1))

/-- The CQ head doorbell: the command. DESIGN CHOICE (log entry 10). -/
def execCqHeadDoorbell (f : Part) (q : Fin 64) (idx : BitVec 16) (s : State) : Host.Outcome State Fault Refusal := .next (s.ringHead f q idx)

/-- The outcome of Table 4-2 for a sequence number: execute, duplicate or stale (R128). -/
def Queue.sort (x : Queue) (seq : U32) : CmdKind :=
  let d := (x.e - 1 - seq).toNat
  if seq = x.e then .execute
  else if d < min 65536 x.accepted then .duplicate
  else .stale

/-- For a FENCE, the queues of its mask with the descriptors their doorbells have made visible (R138). -/
def State.fenceWaits (s : State) (f q : Nat) (mask : Nat) : List (Nat × Nat) :=
  ((List.range 64).filter fun k => bit mask k && k ≠ q).map fun k => (k, (s.queue f k).rung)

/-- The TAG of a sealed descriptor (R575): over descriptor bytes 0 to 47, with the queue number and SEQ as IV, under the key of the
session's secret. -/
def descTag (secret : Bytes) (q : Nat) (d : Bytes) : Bytes :=
  gcmTag (aesRoundKeys (hkdfExpand secret (label "TYCMD") 32)) (leBytes 4 q ++ slice d 4 4 ++ List.replicate 4 0) (slice d 0 48) []

/-- The TAG of a fetched descriptor checks (R575, R576): asked of a sealed one of a function that holds an SPDM session. -/
def State.tagChecks (s : State) (f q : Nat) (d : Bytes) : Bool :=
  match s.sec.doe[f]? with
  | some x => !(bit (byteAt d 1) 2 && x.opened) || decide (descTag x.secret q d = slice d 48 16)
  | none => true

/-- Take a fetched descriptor into a queue (R128, R143 to R146, R575, R576). DEDUCED (log entry 55). -/
def State.takeDescriptor (s : State) (f q : Nat) (d : Bytes) : State :=
  let x := s.queue f q
  let seq : U32 := BitVec.ofNat 32 (field d 4 4)
  let x := { x with sqHead := (x.sqHead + 1) % x.ring, fetched := x.fetched + 1 }
  let pos := x.fetched
  if !s.tagChecks f q d then
    let c : Cmd := { desc := d, kind := .stale, begun := true, outcome := some (0x50, 0x08, srcPart f), fixed := true, pos := pos }
    s.setQueue f q { x with cmds := x.cmds ++ [c] }
  else
    match x.sort seq with
    | .duplicate =>
      s.setQueue f q { x with cmds := x.cmds ++ [{ desc := d, kind := .duplicate, begun := true, fixed := true, pos := pos }] }
    | .stale =>
      s.setQueue f q { x with cmds := x.cmds ++
        [{ desc := d, kind := .stale, begun := true, outcome := some (0x02, 0, srcPart f), fixed := true, pos := pos }] }
    | .execute =>
      let c : Cmd := { desc := d, pos := pos, waits := if byteAt d 0 = 0x01 then s.fenceWaits f q (field d 32 8) else [] }
      let s := s.setQueue f q { x with e := x.e + 1, accepted := x.accepted + 1, cmds := x.cmds ++ [c] }
      match s.descCheck f q d with
      | some detail => s.refuse f q pos detail
      | none => s

/-- The board may fetch from a queue now (R123, R126, R160, Table 13-14 step 1). -/
def State.mayFetch (s : State) (f q : Nat) : Bool :=
  let x := s.queue f q
  s.queueAccess f q && x.enable && decide (x.st = .running) && decide (x.sqHead ≠ x.sqTail) && x.room &&
    (f = 0 || s.sec.switch.isNone)

/-- A descriptor is fetched (R123, R128), its bytes or nothing; a fetch that fails, or returns poisoned data, halts the queue with ERROR 2
(R681, assumption 11). DEDUCED (log entry 11). -/
def execDescriptorFetch (f : Part) (q : Fin 64) (b : Option Bytes) (ep : Bool) (s : State) : Host.Outcome State Fault Refusal :=
  if s.mayFetch f q then
    match b with
    | none => .next (s.halt f q 2)
    | some b => .next (if ep then s.halt f q 2 else s.takeDescriptor f q (slice b 0 64))
  else .next s

/-- The status with which a command completes, from the outcome of its work and what its output lost (R676 to R678). -/
def mergeOutcome (o : Nat × Nat × Nat) (poisoned lost : Bool) : Nat × Nat × Nat :=
  if o.1 ≠ 0 then o
  else if lost then (0x21, 0, o.2.2)
  else if poisoned then (0x20, 0, o.2.2)
  else o

/-- An engine still has work of a command (R154, R157). -/
def State.working (s : State) (f q seq : Nat) : Bool :=
  let mine (j : Job) : Bool := j.part = f && j.queue = q && j.seq = seq
  (s.hif.dma.toList ++ s.hif.sealing.toList ++ s.hif.message.toList).any fun e => e.waiting.any mine || (e.cur.map mine).getD false || (e.saved.map mine).getD false

/-- The record of a MODEL_LOAD stays when the load succeeds (R594). DEDUCED (log entry 68). -/
def State.settleLoad (s : State) (f q pos : Nat) (ok : Bool) : State :=
  let mine (x : Nat × Nat × Nat × Blob) : Bool := x.1 = f && x.2.1 = q && x.2.2.1 = pos
  let new := if ok then (s.sec.loading.filter mine).map (·.2.2.2) else []
  { s with sec := { s.sec with loading := s.sec.loading.filter fun x => !mine x, blobs := s.sec.blobs ++ new } }

/-- The last effect of a command takes place, which fixes its status (R680) and writes its status byte to the history region
(R129). The engines must have done its work and its fabric messages must have been answered (R499); a VF's command stops when a
tenant switch begins (Table 13-14). A MODEL_LOAD that succeeds leaves its record (R594). DESIGN CHOICE (log entries 48, 132). -/
def execCommandEffectDone (f : Part) (q : Fin 64) (seq : U32) (poisoned lost : Bool) (s : State) : Host.Outcome State Fault Refusal :=
  match (s.queue f q).cmds.find? (fun c => c.kind = .execute && c.seq = seq.toNat && c.begun && !c.fixed && c.outcome.isSome) with
  | none => .next s
  | some c =>
    let mine := some (f.val, q.val, c.pos)
    if s.working f q c.seq || (f.val ≠ 0 && s.sec.switch.isSome) then .next s else
    if (s.fab.unans.any fun u => decide (u.cmd = mine)) || (s.fab.waitReq.any fun x => decide (x.2 = mine)) then .next s else
    let o := mergeOutcome (c.outcome.getD (0, 0, 0)) (c.poisoned || poisoned) (c.lost || lost)
    .next ((s.settleLoad f q c.pos (o.1 = 0)).fix f q c.pos o.1 o.2.1 o.2.2)

/-- Status, DETAIL and SOURCE of a completion as it posts: a DUPLICATE reads the original status in the history region at
that moment (R130, R683). -/
def Queue.postStatus (x : Queue) (f : Nat) (c : Cmd) (histOk : Bool) : Nat × Nat × Nat :=
  if c.kind = .duplicate then (0x01, if histOk then agetD x.hist (c.seq % 65536) 0 else 0xFF, srcPart f)
  else c.outcome.getD (0, 0, srcPart f)

/-- A completion whose turn has come is posted (R133 to R135, R140). A write that fails halts the queue with ERROR 3, and no
further entry is posted there (R682); a history access that failed halts it with ERROR 4 after the completion (R683). A completion
with FLAGS.NO_IRQ neither counts toward COUNT nor starts TIME. DESIGN CHOICE (log entry 152). -/
def execCompletionPost (f : Part) (q : Fin 64) (writeOk histOk : Bool) (s : State) : Host.Outcome State Fault Refusal :=
  let x := s.queue f q
  match x.cmds with
  | [] => .next s
  | c :: rest =>
    if !c.fixed then .next s
    else
      let o := x.postStatus f c histOk
      let t := s.setQueue f q { x with cmds := rest, posted := x.posted + 1 }
      if x.error = 3 then .next (t.settle f q)
      else if !writeOk then .next ((t.halt f q 3).settle f q)
      else
        let t := t.postEntry f q c.seq o.1 o.2.1 o.2.2
        let t := if bit c.flags 0 then t else t.raise f q
        let t := if !histOk && c.kind ≠ .stale then t.halt f q 4 else t
        .next (t.settle f q)

/-- TIME µs after the first coalesced completion the vector is raised (R149). -/
def execMsiXCoalesceTimeout (f : Part) (q : Fin 64) (s : State) : Host.Outcome State Fault Refusal :=
  let x := s.queue f q
  match x.coalSince with
  | none => .next s
  | some t =>
    if 0 < x.coalTime ∧ s.due t (usTicks x.coalTime) = true then
      .next ((s.setQueue f q { x with coalPosted := 0, coalSince := none }).emit (.msix f x.vector.toNat))
    else .next s

/-- SAFETY of a Q_CTL write: setting it is ignored unless the partition may enable safety-class queues (R159). -/
def State.safetyBit (s : State) (f : Nat) (old new : Bool) : Bool := if new && !old then s.struct.partSafety f else new

/-- A Q_CTL write with ENABLE set (R158, R159, R161, R162): a queue that was disabled starts with its heads, tails, phase, E
and replay window as R161 says, and first posts the completions a partition reset aborted. The SQ tail and
the CQ head, which R161 does not name, start from 0 too. DEDUCED (log entry 55). DESIGN CHOICE (log entry 152). -/
def State.turnOn (s : State) (f : Part) (q : Fin 64) (w : U32) : State :=
  let x := s.queue f q
  if !s.queueAccess f q || !w.getLsbD 31 || 12 < wbits w 3 0 then s
  else
    let sf := s.safetyBit f x.safety (w.getLsbD 30)
    let v := BitVec.ofNat 6 (wbits w 21 16)
    if x.enable then (s.setQueue f q { x with safety := sf, vector := v })
    else if x.st ≠ .disabled then s
    else
      let y := { x with
        enable := true, safety := sf, vector := v, sizeLog2 := wbits w 3 0, error := 0
        st := if x.aborts = [] then .running else .postingAborts
        e := x.seqInit, accepted := 0, sqHead := 0, sqTail := 0, cqHead := 0, cqTail := 0, phase := true, cmds := []
        fetched := x.rung, posted := x.rung, hist := [], coalPosted := 0, coalSince := none }
      ((s.setQueue f q y).postAborts f q (x.aborts.length + 1))

/-- A Q_CTL write with ENABLE set: the command. -/
def execQueueEnable (f : Part) (q : Fin 64) (w : U32) (s : State) : Host.Outcome State Fault Refusal := .next (s.turnOn f q w)

/-- A Q_CTL write with ENABLE clear (R160, R162): fetching stops at once; the queue reads DISABLED when its fetched commands
have completed. -/
def State.turnOff (s : State) (f : Part) (q : Fin 64) (w : U32) : State :=
  let x := s.queue f q
  if !s.queueAccess f q || w.getLsbD 31 || 12 < wbits w 3 0 then s
  else
    let y := { x with
      enable := false, safety := s.safetyBit f x.safety (w.getLsbD 30), vector := BitVec.ofNat 6 (wbits w 21 16)
      sizeLog2 := if x.enable then x.sizeLog2 else wbits w 3 0 }
    ((s.setQueue f q y).settle f q)

/-- A Q_CTL write with ENABLE clear: the command. -/
def execQueueDisable (f : Part) (q : Fin 64) (w : U32) (s : State) : Host.Outcome State Fault Refusal := .next (s.turnOff f q w)

/-! NOP and FENCE. -/

/-- A NOP completes when it is fetched (Table 4-5). -/
def execNop (f : Part) (q : Fin 64) (s : State) : Host.Outcome State Fault Refusal :=
  match s.front f q 0x00 with
  | none => .next s
  | some c => .next (s.fix f q c.pos 0x00 0 (srcPart f))

/-- The wait of a FENCE on one queue of its mask is over (R138): the queue is disabled, or halted with nothing fetched left
before the doorbell's mark, or its completions have passed the mark. -/
def State.waitOver (s : State) (f : Nat) (w : Nat × Nat) : Bool :=
  let x := s.queue f w.1
  x.st = .disabled || decide (w.2 ≤ x.posted) || (x.st = .halted && x.cmds.all fun c => decide (w.2 < c.pos))

/-- A FENCE may complete: every earlier command of its own queue has completed, and its waits are over (R138). -/
def State.fenceMet (s : State) (f q : Nat) (c : Cmd) : Bool :=
  ((s.queue f q).cmds.head?.map (·.pos)) = some c.pos && c.waits.all (s.waitOver f)

/-- A FENCE starts: it waits and holds back the later commands of its queue (R138, R139); with nothing to wait for it
completes. -/
def execFence (f : Part) (q : Fin 64) (s : State) : Host.Outcome State Fault Refusal :=
  match s.front f q 0x01 with
  | none => .next s
  | some c =>
    .next (if s.fenceMet f q c then s.fix f q c.pos 0x00 0 (srcPart f)
      else s.setCmd f q c.pos fun c => { c with begun := true })

/-- The last command that a FENCE waits for has completed, so the FENCE completes (R138). DESIGN CHOICE (log entry 2). -/
def execFenceRelease (f : Part) (q : Fin 64) (s : State) : Host.Outcome State Fault Refusal :=
  match (s.queue f q).cmds.find? (fun c => c.kind = .execute && c.opcode = 0x01 && c.begun && !c.fixed) with
  | none => .next s
  | some c => .next (if s.fenceMet f q c then s.fix f q c.pos 0x00 0 (srcPart f) else s)

end Sys2Proof.Machine
end

