-- ==== Sys2Proof/Machine/Time.lean ====
section
/-! DEFINITION. Time, references and frame outputs: measurements of the inputs, qualification and selection, holdover, software
steering, GTC steps, outputs, and the exchange of time over Lanicy. -/

namespace Sys2Proof.Machine

/-- PPS_EDGE (R515, R518, R529, R530, R558, R559): `capture` is the GTC of the leading edge in 0.125 ns. The prediction of an
edge is the last phase error carried on by the input's frequency offset and the DCO word. -/
def execPpsEdge (input : Fin 2) (capture : Int) (freqOffset : Int) (s : State) : Host.Outcome State Fault Refusal :=
  if s.tmgRuns then
    let i := input.val
    let sec : Int := 8000000000
    let at_ := capture - s.inDelay i
    let second := (at_ + sec / 2) / sec
    let e := second * sec - at_
    let x := s.input i
    let predicted := x.phase + roundAway (8 * freqOffset) 100 - roundAway ((s.tmg.y + s.curve s.tmg.temp) * sec) (2 ^ 48)
    let s := s.measure i e freqOffset (x.jumped predicted e) true
    match s.tmg.tod with
    | some v =>
      if s.tmg.sel.map (·.val) = some i then
        let s := { s with tmg := { s.tmg with tod := none } }
        if s.top.gtcSet then
          if second = (v : Int) then .next s
          else .next (({ s with tmg := { s.tmg with todMismatch := true } } : State).note 0x000 0 0x0502 0 [second.toNat, v])
        else if s.tmg.mode = 0 then
          let s := s.stepToInput i ((v : Int) * sec - at_)
          .next { s with top := { s.top with gtcSet := true } }
        else .next s
      else .next s
    | none => .next s
  else .next s

/-- FREQ_MEASUREMENT (R515 to R517): `phase` in 0.125 ns, `countOk` the edge count within 10 of nominal. -/
def execFreqMeasurement (input : Fin 2) (phase : Int) (freqOffset : Int) (countOk active : Bool) (s : State) :
    Host.Outcome State Fault Refusal :=
  if s.tmgRuns then
    let i := 2 + input.val
    if active then .next (s.measure i (phase + s.inDelay i - (s.input i).held) freqOffset (!countOk) true)
    else .next (s.failInput i 1)
  else .next s

/-- PTP_SYNC (R515): `offset` is the transmitter's Sync stamp minus its capture, in 0.125 ns, before the path delays. -/
def execPtpSync (offset : Int) (freqOffset : Int) (s : State) : Host.Outcome State Fault Refusal :=
  if s.tmgRuns then
    let e := offset + s.tmg.ptpDelay + s.inDelay 12
    .next (s.measure 12 e freqOffset ((s.input 12).jumped (s.input 12).phase e) true)
  else .next s

/-- The quality level of a clockClass (Table 12-3). -/
def classQl (c : Nat) : Nat :=
  if c = 6 then 2 else if c = 7 then 4 else if c = 52 ∨ c = 187 then 6 else if c = 248 then 12 else 14

/-- PTP_ANNOUNCE of the time transmitter that the dataset comparison chooses (R519, Table 12-3). -/
def execPtpAnnounce (clockClass : Nat) (logSync logAnnounce : Int) (s : State) : Host.Outcome State Fault Refusal :=
  if s.tmgRuns then
    let c := clockClass % 256
    let s := { s with tmg := { s.tmg with
      ptpClass := c, ptpLog := clampI (-7) 1 logSync, ptpAnn := clampI (-7) 16 logAnnounce, ptpFollowed := true } }
    .next (s.mapInput 12 fun x => { x with ql := classQl c, announceAt := s.clk }).reselect
  else .next s

/-- PTP_DELAY_RESP: the mean path delay in 0.125 ns (R515). -/
def execPtpDelayResp (pathDelay : Int) (s : State) : Host.Outcome State Fault Refusal :=
  if s.tmgRuns then .next { s with tmg := { s.tmg with ptpDelay := pathDelay } } else .next s

/-- DELAY_REQ_SEND: every 1 ms on each Lanicy port that is up (Domain time). -/
def execDelayReqSend (port : Fin 8) (s : State) : Host.Outcome State Fault Refusal :=
  let p := port.val
  let x := s.fab.port p
  if s.tmgRuns && x.up && (match alookup s.tmg.reqAt p with | some a => s.due a (msTicks 1) | none => true) then
    let n := agetD s.tmg.seqs p 0
    let s := { s with tmg := { s.tmg with seqs := aset s.tmg.seqs p ((n + 1) % 65536), reqAt := aset s.tmg.reqAt p s.clk } }
    .next (s.emit (.mgmt x.peerBoard 0x10 (s.timeMsg 0x10 n s.gtcNs 0 0)))
  else .next s

/-- DELAY_REQ: answered with its arrival and the answer's departure (R550, R551). -/
def execDelayReq (port : Fin 8) (m : TimeMsg) (arrival : Int) (s : State) : Host.Outcome State Fault Refusal :=
  let x := s.fab.port port
  if s.tmgRuns && x.up then
    let s := s.hearTime port m
    .next (s.emit (.mgmt x.peerBoard 0x11 (s.timeMsg 0x11 (m.seqNo % 65536) (unsigned 64 m.t1) (unsigned 64 arrival) s.gtcNs)))
  else .next s

/-- DELAY_RESP: θ = ((T2 − T1) − (T4 − T3)) / 2 is that port's phase error (R551, R553). -/
def execDelayResp (port : Fin 8) (m : TimeMsg) (arrival : Int) (freqOffset : Int) (s : State) : Host.Outcome State Fault Refusal :=
  if s.tmgRuns && (s.fab.port port).up then
    let i := 4 + port.val
    let s := s.hearTime port m
    let e := 4 * ((m.t2 - m.t1) - (arrival - m.t3))
    .next (s.measure i e freqOffset ((s.input i).jumped (s.input i).phase e) (s.domainOk i))
  else .next s

/-- INPUT_ACTIVITY_LOSS (R515): the activity of Table 12-2 is lost. DEDUCED (log entry 77). -/
def execInputActivityLoss (input : Fin 13) (s : State) : Host.Outcome State Fault Refusal :=
  let i := input.val
  let x := s.input i
  let lost :=
    if i < 2 then s.due x.at_ (msTicks 1100)
    else if i < 4 then true
    else if i < 12 then !(s.fab.port (i - 4)).up || s.due x.at_ (msTicks 5)
    else s.due x.at_ (nsTicks (3 * logNs s.tmg.ptpLog)) || s.due x.announceAt (nsTicks (3 * logNs s.tmg.ptpAnn))
  if s.tmgRuns && lost && decide (x.st ≠ .disabled) && decide (x.st ≠ .failed) then
    let s := if i = 12 then { s with tmg := { s.tmg with ptpFollowed := false } } else s
    .next (s.failInput i 1)
  else .next s

/-- QUALIFICATION_PERIOD_END (R520). -/
def execQualificationPeriodEnd (input : Fin 13) (s : State) : Host.Outcome State Fault Refusal :=
  let i := input.val
  let x := s.input i
  if s.tmgRuns && decide (x.st = .qualifying) && s.due x.qualAt (qualTicks i) then
    if x.was then .next (s.mapInput i fun x => { x with st := .wtr, wtrAt := s.clk }) else .next (s.makeAvailable i)
  else .next s

/-- WTR_EXPIRY (R520). -/
def execWtrExpiry (input : Fin 13) (s : State) : Host.Outcome State Fault Refusal :=
  let i := input.val
  if s.tmgRuns && decide ((s.input i).st = .wtr) && s.due (s.input i).wtrAt (secTicks (s.struct.boardField 24 2)) then
    .next (s.makeAvailable i)
  else .next s

/-- HOLDOVER_UPDATE: every 100 ms thermal sensor 0 is read, in 1/16 °C, with its offset calibration (R536).
DEDUCED (log entry 81). -/
def execHoldoverUpdate (temp : Int) (s : State) : Host.Outcome State Fault Refusal :=
  if s.tmgRuns && s.due s.tmg.tempAt (msTicks 100) then
    let t := clampI (-32768) 32767 (temp + s.cal.value 0x0010 0)
    let hist := (s.clk, s.tmg.yF, t, decide (s.tmg.loop = .locked)) :: s.tmg.hist.filter fun h => decide (s.clk ≤ h.1 + secTicks 62)
    let s := { s with
      tmg := { s.tmg with temp := t, tempAt := s.clk, hist := hist }
      ret := { s.ret with record := { s.ret.record with temps := (t :: s.ret.record.temps).take 620 } } }
    if s.tmg.loop = .holdover then .next { s with tmg := { s.tmg with yF := s.holdF } }
    else if s.tmg.loop = .freeRun then .next { s with tmg := { s.tmg with yF := s.freeRunF } }
    else .next s
  else .next s

/-- AGEING_HOUR: each hour while LOCKED the mean of −y_F − P(T), in 0.001 ppb, is recorded and the fit refitted (R534). -/
def execAgeingHour (mean : Int) (s : State) : Host.Outcome State Fault Refusal :=
  if s.tmgRuns && s.due s.tmg.hourAt (secTicks 3600) then
    let s := { s with tmg := { s.tmg with hourAt := s.clk } }
    if s.tmg.loop = .locked then
      let s := { s with ret := { s.ret with record := { s.ret.record with
        ageing := ((s.gtcNs / 1000000000, mean) :: s.ret.record.ageing).take 720 } } }
      .next s.refit
    else .next s
  else .next s

/-! Software steering. -/

/-- MODE changes: a LOOP_MODE entry for a change (R542). DEDUCED (log entry 80). -/
def State.setMode (s : State) (m : Nat) : State :=
  let s := if s.tmg.mode = m then s else s.note 0x000 0 0x0501 0 [s.tmg.mode, m]
  { s with tmg := { s.tmg with mode := m } }

/-- MODE 0 (R540). -/
def State.closeLoop (s : State) : State :=
  let s := s.setMode 0
  if s.tmg.sel.isSome then
    let s := { s with tmg := { s.tmg with yF := clampF s.tmg.y, yP := 0, good := 0, bad := 0 } }
    s.setLoop .acquiring
  else s.enterHold

/-- LOOP_MODE_CLOSED (R538, R540). -/
def State.askClosed (s : State) (f : Part) (w : U32) : State :=
  if s.pf0Ready f && decide (wbits w 1 0 = 0) then s.closeLoop else s

/-- LOOP_MODE_CLOSED: the command. -/
def execLoopModeClosed (f : Part) (w : U32) (s : State) : Host.Outcome State Fault Refusal := .next (s.askClosed f w)

/-- LOOP_MODE_HOLD (R538). -/
def State.askHold (s : State) (f : Part) (w : U32) : State :=
  if s.pf0Ready f && decide (wbits w 1 0 = 1) then (s.setMode 1).enterHold else s

/-- LOOP_MODE_HOLD: the command. -/
def execLoopModeHold (f : Part) (w : U32) (s : State) : Host.Outcome State Fault Refusal := .next (s.askHold f w)

/-- LOOP_MODE_SOFTWARE (R538): the word in force is all frequency term from here on. -/
def State.askSoftware (s : State) (f : Part) (w : U32) : State :=
  if s.pf0Ready f && decide (wbits w 1 0 = 2) then
    let s := s.setMode 2
    let s := { s with tmg := { s.tmg with yF := clampF s.tmg.y, yP := 0, dcoAt := s.clk, good := 0, bad := 0 } }
    (s.setLoop .software)
  else s

/-- LOOP_MODE_SOFTWARE: the command. -/
def execLoopModeSoftware (f : Part) (w : U32) (s : State) : Host.Outcome State Fault Refusal := .next (s.askSoftware f w)

/-- DCO_FREQ_WRITE: the upper write in MODE 2 (R539). -/
def State.setDco (s : State) (f : Part) (upper : U32) : State :=
  if s.pf0Ready f && decide (s.tmg.mode = 2) then
    let y := signed 40 (s.tmg.dcoLo.toNat + 2 ^ 32 * upper.toNat)
    { s with tmg := { s.tmg with yF := clampF y, yP := 0, dcoAt := s.clk } }
  else s

/-- DCO_FREQ_WRITE: the command. -/
def execDcoFreqWrite (f : Part) (upper : U32) (s : State) : Host.Outcome State Fault Refusal := .next (s.setDco f upper)

/-- SOFTWARE_TIMEOUT (R541). -/
def execSoftwareTimeout (s : State) : Host.Outcome State Fault Refusal :=
  if s.tmgRuns && decide (s.tmg.mode = 2) && s.due s.tmg.dcoAt (secTicks 2) then
    .next ({ s with tmg := { s.tmg with swTimeout := true } } : State).closeLoop
  else .next s

/-- TOD_WRITE: the upper write (R558, R559). -/
def State.setTod (s : State) (f : Part) (upper : U32) : State :=
  if s.pf0Ready f then
    let v := s.tmg.todLo.toNat + 2 ^ 32 * upper.toNat
    { s with tmg := { s.tmg with todReg := v, tod := some v } }
  else s

/-- TOD_WRITE: the command. DEDUCED (log entry 76). -/
def execTodWrite (f : Part) (upper : U32) (s : State) : Host.Outcome State Fault Refusal := .next (s.setTod f upper)

/-- TMG_STEP: the upper write steps the GTC by a signed number of ns (R532, R533). -/
def State.askStep (s : State) (f : Part) (upper : U32) : State :=
  if s.pf0Ready f then
    if s.top.armed then { s with tmg := { s.tmg with stepRefused := true } }
    else (s.stepGtc (signed 64 (s.tmg.stepLo.toNat + 2 ^ 32 * upper.toNat) * 2 ^ 48))
  else s

/-- TMG_STEP: the command. -/
def execTmgStep (f : Part) (upper : U32) (s : State) : Host.Outcome State Fault Refusal := .next (s.askStep f upper)

/-! Outputs. -/

/-- OUTPUT_REALIGN (R549, Table 12-6 step 1). DEDUCED (log entry 80). -/
def State.askRealign (s : State) (f : Part) (output : Fin 9) (w : U32) : State :=
  let n := wbits w 16 0
  if s.pf0Ready f && bit w.toNat 31 && decide (1 ≤ n) && decide (n ≤ 100000) && decide ((s.output output).mode = 2) then
    (s.mapOutput output fun x => { x with realign := some (s.outDev output, n) })
  else s

/-- OUTPUT_REALIGN: the command. -/
def execOutputRealign (f : Part) (output : Fin 9) (w : U32) (s : State) : Host.Outcome State Fault Refusal := .next (s.askRealign f output w)

/-- One step of a re-alignment at a pulse (Table 12-6 steps 2 and 3). DEDUCED (log entry 80). -/
def State.realignStep (s : State) (o : Nat) : State :=
  match (s.output o).realign with
  | none => s
  | some (d, n) =>
    let m : Int := min d.natAbs n
    let move := if d < 0 then -m else m
    if move = d then
      let s := s.mapOutput o fun x => { x with h := s.tmg.gtc, realign := none }
      s.note 0x000 0 0x0503 0 [o, n, s.gtcNs]
    else s.mapOutput o fun x => { x with h := (((x.h : Int) - move * 2 ^ 48) % (2 ^ 112 : Int)).toNat, realign := some (d - move, n) }

/-- OUTPUT_PULSE_START (R543, R544, R547, R720): an enabled output at an instant of its schedule, at least PERIOD / 2 after its
last leading edge and after its record came into force. -/
def execOutputPulseStart (output : Fin 9) (s : State) : Host.Outcome State Fault Refusal :=
  let o := output.val
  let x := s.output o
  match s.struct.outputAlign o with
  | some r =>
    let period := field r 12 4
    let half := nsTicks ((period + 1) / 2)
    if s.tmgRuns && s.pwr.pinEn.getLsbD (outPin o) && s.pinOn (outPin o) && decide (x.mode ≠ 0) && x.pulse.isNone && s.due x.recAt half &&
        (match x.edgeAt with | some a => s.due a half | none => true) && onSchedule (s.outClock o) (signed 32 (field r 8 4)) period then
      let s := s.realignStep o
      let s := s.mapOutput o fun x => { x with pulse := some (s.clk, field r 16 4), edgeAt := some s.clk, lastEdge := some s.gtcNs }
      .next (s.emit (.edge o true))
    else .next s
  | none => .next s

/-- OUTPUT_PULSE_END (R543, R80). -/
def execOutputPulseEnd (output : Fin 9) (s : State) : Host.Outcome State Fault Refusal :=
  let o := output.val
  match (s.output o).pulse with
  | some (a, w) =>
    if s.due a (nsTicks w) then
      let s := s.mapOutput o fun x => { x with pulse := none }
      let t := { s with pwr := { s.pwr with finishing := setBit s.pwr.finishing (outPin o) false } }
      .next (if s.pinOn (outPin o) then t.emit (.edge o false) else t)
    else .next s
  | none => .next s

/-- ROOT_RECLAIM (R554): the returned root's best external input has been AVAILABLE, and its loop LOCKED to the domain, for
60 s. DEDUCED (log entry 77). -/
def execRootReclaim (s : State) : Host.Outcome State Fault Refusal :=
  let ext := s.bestInput fun i => !isLnkInput i
  let ready := match ext, s.tmg.sel with
    | some i, some j => s.due (s.input i).availAt (secTicks 60) && isLnkInput j && decide (s.tmg.loop = .locked) &&
        s.due s.tmg.lockedAt (secTicks 60)
    | _, _ => false
  if s.tmgRuns && s.struct.boardCore.isSome && decide (s.struct.boardId = s.struct.timeRoot) && s.tmg.backupActs && ready then
    .next (s.setBackupActs false)
  else .next s

end Sys2Proof.Machine
end

