-- ==== Sys2Proof/Machine/Trust.lean ====
section
/-! DEFINITION. Operator keys, admission, SPDM, TDISP, IDE, pair sessions and the expiry of consent (R560 to R586, R604, R611). -/

namespace Sys2Proof.Machine

/-! Operator keys. -/

/-- A SEC_MBOX_CTL write that acts (R611). -/
def State.mboxActs (s : State) (f : Part) (w : U32) (request : Nat) : Bool :=
  s.pf0Ready f && wbits w 31 16 = 0x0C1A && wbits w 3 0 = request && s.sec.busy.isNone

/-- SEC takes a mailbox request with the data as it stands (Table 13-15). -/
def State.takeRequest (s : State) (request : Nat) : State :=
  { s with sec := { s.sec with busy := some (request, cellRead 0 s.sec.mbox 0 193) } }

/-- OPK_CLAIM (R564, R611). -/
def State.askClaim (s : State) (f : Part) (w : U32) : State :=
  if s.mboxActs f w 1 then (s.takeRequest 1) else s

/-- OPK_CLAIM: the command. -/
def execOpkClaim (f : Part) (w : U32) (s : State) : Host.Outcome State Fault Refusal := .next (s.askClaim f w)

/-- OPK_ROTATE (R565, R611). -/
def State.askRotate (s : State) (f : Part) (w : U32) : State :=
  if s.mboxActs f w 2 then (s.takeRequest 2) else s

/-- OPK_ROTATE: the command. -/
def execOpkRotate (f : Part) (w : U32) (s : State) : Host.Outcome State Fault Refusal := .next (s.askRotate f w)

/-- The outcome of a mailbox request (Table 13-15): CODE, and the slots when it is 0. -/
def State.judgeRequest (s : State) (request : Nat) (b : Bytes) (burnOk : Bool) : Nat × Vector (Option Bytes × Bool) 4 :=
  let x := s.sec.slots
  let key := slice b 0 97
  let sig := slice b 97 96
  let new := sha384 key
  if byteAt b 0 ≠ 0x04 then (1, x)
  else if request = 1 then
    if !ecdsaVerifies new (label "TYOC" ++ deviceDigest) sig then (2, x)
    else if x.toList.any fun y => y.1.isSome then (3, x)
    else if !burnOk then (4, x)
    else (0, x.set 0 (some new, false))
  else
    match s.sec.activeSlot, s.sec.operatorKey with
    | some k, some old =>
      if !ecdsaVerifies old (label "TYOR" ++ deviceDigest ++ new) sig then (2, x)
      else if k = 3 then (3, x)
      else if !burnOk then (4, x)
      else (0, (x.setIfInBounds (k + 1) (some new, false)).setIfInBounds k (some old, true))
    | _, _ => (3, x)

/-- SEC_MBOX_DONE (R564, R565, R611): `burnOk` says whether the fuse burn succeeded. The override is judged under the key that is
then active (R108). -/
def execSecMboxDone (burnOk : Bool) (s : State) : Host.Outcome State Fault Refusal :=
  match s.sec.busy with
  | none => .next s
  | some r =>
    let o := s.judgeRequest r.1 r.2 burnOk
    .next ({ s with sec := { s.sec with busy := none, code := o.1, slots := o.2 } } : State).applyOverride

/-! Admission. -/

/-- The status of an ADMIT (R566 to R568, Table 13-4). A grant with a wrong magic or version, or a nonzero reserved field, does not
verify. DEDUCED (log entry 65). -/
def State.admitStatus (s : State) (th grant key : Bytes) (base : Nat) (sig : Bytes) : Nat :=
  let after := field grant 104 8
  if s.sec.switch.isSome then 0x01
  else if s.sec.tenant.isSome then 0x02
  else
    match s.sec.operatorKey with
    | none => 0x03
    | some op =>
      let formed := decide (grant.length = 256) && decide (slice grant 0 4 = label "TYTG") && field grant 4 2 = 1 &&
        decide (byteAt grant 6 < 4) && byteAt grant 7 = 0 && allZero (slice grant 112 16) && allZero (slice grant 224 32)
      if !formed || !ecdsaVerifies op (slice grant 0 128) (slice grant 128 96) then 0x04
      else if !(allZero (slice grant 8 48)) && decide (slice grant 8 48 ≠ deviceDigest) then 0x05
      else if after ≠ 0 ∧ (s.top.gtcSet = false ∨ after ≤ s.gtcNs) then 0x06
      else if slice grant 56 48 ≠ sha384 key then 0x07
      else if !((base = 1 && bit (byteAt grant 6) 0) || (base = 2 && bit (byteAt grant 6) 1)) then 0x08
      else if base = 2 ∧ (s.top.eccOn = false ∨ s.top.provisional = true) then 0x08
      else if !ecdsaVerifies (sha384 key) (grant ++ key ++ leBytes 1 base ++ th) sig then 0x09
      else 0x00

/-- A tenant is admitted (R569, R570): memory key, BASE, TENANT, ledger entry; its VFs and its tag come into play.
DEDUCED (log entry 65). -/
def State.installTenant (s : State) (key : Bytes) (base : Nat) : State :=
  let d := sha384 key
  let t : Tenant := { key := d, tag := tenantTag (s.sec.operatorKey.getD []) d }
  let s := s.newMemoryKey
  let s := { s with sec := { s.sec with tenant := some t }, top := { s.top with base := if base = 2 then .confidential else .opened } }
  let s := s.note srcSec 0 0x0700 0 [Config.eventCode "admit", base] true
  s.refreshVfs.tagChanged

/-- ADMIT (R566 to R571): in an open session on PF0's mailbox or with a peer board. DEDUCED (log entry 65). -/
def execAdmitTenant (p : SpdmPort) (grant key : Bytes) (base : Nat) (sig : Bytes) (s : State) : Host.Outcome State Fault Refusal :=
  let x := s.spdm p
  let here := match p with
    | .doe f => decide (f = 0)
    | .lanicy _ => true
  if s.spdmReached p && here && x.opened then
    let st := s.admitStatus x.th grant key base sig
    let s := if st = 0 then (s.installTenant key base).setSpdm p { x with proven := true } else s
    .next (s.emit (.admission p st))
  else .next (s.emit (.spdm p false []))

/-- GET_ENROL (R591): the EK public key and an alias-key signature. DESIGN CHOICE (log entry 135). -/
def execGetEnrol (p : SpdmPort) (companyId : U64) (s : State) : Host.Outcome State Fault Refusal :=
  let x := s.spdm p
  match s.sec.tenant with
  | some t =>
    if s.spdmReached p && x.opened && x.proven then
      let ek := ekPublic t.key companyId.toNat
      let m := ek ++ leBytes 8 companyId.toNat ++ t.key ++ deviceDigest
      .next (s.emit (.spdm p true (ek ++ ecdsaSign (aliasScalar s.fw.combination) m)))
    else .next (s.emit (.spdm p false []))
  | none => .next (s.emit (.spdm p false []))

/-! SPDM. -/

/-- An answer that leaves the exchange as `g` makes it, when `ok`; else an error answer. -/
def State.spdmAnswer (s : State) (p : SpdmPort) (ok : Bool) (data : Bytes) (g : Spdm → Spdm) : State :=
  if !s.spdmReached p then s
  else if ok then (s.setSpdm p (g (s.spdm p))).emit (.spdm p true data)
  else s.emit (.spdm p false [])

/-- GET_VERSION (Table 13-5): the exchange starts anew. PRESUMED (log entry 25). -/
def execGetVersion (p : SpdmPort) (s : State) : Host.Outcome State Fault Refusal :=
  .next (s.spdmAnswer p true (Config.protocolAnswer "VERSION") fun _ => { version := true })

/-- GET_CAPABILITIES (Table 13-5): CERT, CHAL, MEAS with signature, MEAS_FRESH, ENCRYPT, MAC, MUT_AUTH, KEY_EX, HBEAT, KEY_UPD. -/
def execGetCapabilities (p : SpdmPort) (s : State) : Host.Outcome State Fault Refusal :=
  .next (s.spdmAnswer p (s.spdm p).version (leBytes 4 0x63F6) fun x => { x with caps := true })

/-- NEGOTIATE_ALGORITHMS (Table 13-5). -/
def execNegotiateAlgorithms (p : SpdmPort) (s : State) : Host.Outcome State Fault Refusal :=
  .next (s.spdmAnswer p (s.spdm p).caps (Config.protocolAnswer "ALGORITHMS") fun x => { x with algs := true })

/-- GET_DIGESTS: the digest of the slot 0 chain. -/
def execGetDigests (p : SpdmPort) (s : State) : Host.Outcome State Fault Refusal :=
  .next (s.spdmAnswer p (s.spdm p).algs (sha384 s.chain) id)

/-- GET_CERTIFICATE: a part of the slot 0 chain. -/
def execGetCertificate (p : SpdmPort) (offset length : Nat) (s : State) : Host.Outcome State Fault Refusal :=
  .next (s.spdmAnswer p ((s.spdm p).algs && decide (offset ≤ s.chain.length)) ((s.chain.drop offset).take length) id)

/-- CHALLENGE: an alias-key signature over the chain's digest and both nonces. -/
def execSpdmChallenge (p : SpdmPort) (nonce : Bytes) (s : State) : Host.Outcome State Fault Refusal :=
  let (mine, t) := s.draw 32
  let m := sha384 s.chain ++ nonce ++ mine
  .next (t.spdmAnswer p (s.spdm p).algs (sha384 s.chain ++ mine ++ spdmSign (aliasScalar s.fw.combination) m) id)

/-- The indices of Table 13-8. -/
def measurementIndices : List Nat := (List.range 21).map (· + 1) ++ [0x30]

/-- GET_MEASUREMENTS (R590): index 0 asks for their number, 0xFF for all of them. -/
def execGetMeasurements (p : SpdmPort) (index : Nat) (nonce : Bytes) (s : State) : Host.Outcome State Fault Refusal :=
  let f := spdmFunction p
  let all := measurementIndices.flatMap fun i => ((s.measurement f i nonce).map (measureBlock i)).getD []
  let ans := if index = 0 then some (leBytes 1 measurementIndices.length) else if index = 0xFF then some all else (s.measurement f index nonce).map (measureBlock index)
  let (mine, t) := s.draw 32
  match ans with
  | none => .next (s.spdmAnswer p false [] id)
  | some b => .next (t.spdmAnswer p (s.spdm p).algs (b ++ mine ++ spdmSign (aliasScalar s.fw.combination) (b ++ nonce ++ mine)) id)

/-- KEY_EXCHANGE: ECDHE with a fresh key of the board; the session is set up and awaits FINISH. Points and signatures stand as SPDM
stores them (R6). -/
def execKeyExchange (p : SpdmPort) (exchange : Bytes) (s : State) : Host.Outcome State Fault Refusal :=
  let (rnd, t) := s.draw 56
  let d := scalarOf rnd
  let pub := spdmExchange d
  let ans := pub ++ spdmSign (aliasScalar s.fw.combination) (exchange ++ pub)
  let th := Config.derive "TH" (exchange ++ ans)
  let secret := Config.derive "requester application secret" (ecdhX d exchange ++ th)
  .next (t.spdmAnswer p (s.spdm p).algs ans fun x =>
    { x with handshake := true, opened := false, proven := false, th := th, secret := secret, gen := 0 })

/-- FINISH: the session opens when its check verifies; a key proved by mutual authentication that is the admitted tenant's makes it a
tenant session (R572). With a board of the same tenant tag it is a pair session (R586). -/
def execSpdmFinish (p : SpdmPort) (verified : Bool) (mutualKey : Option Bytes) (s : State) : Host.Outcome State Fault Refusal :=
  let ok := (s.spdm p).handshake && verified
  let proven := mutualKey.isSome && decide (mutualKey = s.sec.tenant.map (·.key))
  let t := s.spdmAnswer p ok [] fun x => { x with handshake := false, opened := true, proven := proven }
  match p with
  | .doe _ => .next t
  | .lanicy b =>
    if ok && s.spdmReached p && s.sameTenant b then .next { t with sec := { t.sec with pairs := aset t.sec.pairs b (s.clk, (s.spdm p).secret) } } else .next t

/-- HEARTBEAT keeps a session alive. -/
def execSpdmHeartbeat (p : SpdmPort) (s : State) : Host.Outcome State Fault Refusal :=
  .next (s.spdmAnswer p (s.spdm p).opened [] id)

/-- KEY_UPDATE: the session, and with it the command key (R575), goes to its next key generation. -/
def execKeyUpdate (p : SpdmPort) (s : State) : Host.Outcome State Fault Refusal :=
  .next (s.spdmAnswer p (s.spdm p).opened [] fun x => { x with gen := x.gen + 1, secret := Config.derive "key update" x.secret })

/-- END_SESSION (R572): the session closes. -/
def execEndSession (p : SpdmPort) (s : State) : Host.Outcome State Fault Refusal :=
  .next (s.spdmAnswer p (s.spdm p).opened [] fun x => { x with opened := false, proven := false, th := [], secret := [], gen := 0 })

/-! TDISP and IDE. -/

/-- The TDISP state of a VF that the board exposes. -/
def State.tdi (s : State) (f : Part) : Option Tdi :=
  if s.top.ready && decide (f.val ≠ 0) && s.exposed f then some s.hif.fns[f.val].tdi else none

/-- Set the TDISP state of a VF. -/
def State.setTdi (s : State) (f : Part) (t : Tdi) : State :=
  { s with hif := { s.hif with fns := s.hif.fns.set f.val { s.hif.fns[f.val] with tdi := t } } }

/-- GET_TDISP_VERSION (R578). -/
def execGetTdispVersion (f : Part) (s : State) : Host.Outcome State Fault Refusal :=
  .next (s.emit (.tdisp f (s.tdi f).isSome (if (s.tdi f).isSome then Config.protocolAnswer "TDISP_VERSION" else [])))

/-- GET_TDISP_CAPABILITIES (R578). -/
def execGetTdispCapabilities (f : Part) (s : State) : Host.Outcome State Fault Refusal :=
  .next (s.emit (.tdisp f (s.tdi f).isSome (if (s.tdi f).isSome then Config.protocolAnswer "TDISP_CAPABILITIES" else [])))

/-- LOCK_INTERFACE_REQUEST (R579): from CONFIG_UNLOCKED, with every queue of the VF disabled. DEDUCED (log entry 66). -/
def execLockInterfaceRequest (f : Part) (s : State) : Host.Outcome State Fault Refusal :=
  let quiet := (s.hif.queues.filter fun q => decide (q.1 / 64 = f.val)).all fun q => q.2.st = .disabled && !q.2.enable
  if s.tdi f = some .configUnlocked ∧ quiet = true then
    let (nonce, t) := s.draw 32
    .next ((t.setTdi f .configLocked).emit (.tdisp f true nonce))
  else .next (s.emit (.tdisp f false []))

/-- GET_DEVICE_INTERFACE_REPORT (R579): of a TDI that is locked or runs. -/
def execGetDeviceInterfaceReport (f : Part) (s : State) : Host.Outcome State Fault Refusal :=
  if s.tdi f = some .configLocked ∨ s.tdi f = some .run then .next (s.emit (.tdisp f true (Config.tdiReport f)))
  else .next (s.emit (.tdisp f false []))

/-- GET_DEVICE_INTERFACE_STATE (R578, Table 13-6). -/
def execGetDeviceInterfaceState (f : Part) (s : State) : Host.Outcome State Fault Refusal :=
  match s.tdi f with
  | some t => .next (s.emit (.tdisp f true (leBytes 1 (t.code - 1))))
  | none => .next (s.emit (.tdisp f false []))

/-- A selective stream in the Secure state covers a function (R582). DEDUCED (log entry 66). -/
def Sec.covered (x : Sec) (f : Nat) : Bool :=
  ((x.ide.toList.drop 1).any fun c => (c.map fun l => l.contains f).getD false)

/-- START_INTERFACE_REQUEST (R582): a locked TDI that a Secure selective stream covers enters RUN. DEDUCED (log entry 66). -/
def execStartInterfaceRequest (f : Part) (s : State) : Host.Outcome State Fault Refusal :=
  if s.tdi f = some .configLocked ∧ s.sec.covered f = true then .next ((s.setTdi f .run).emit (.tdisp f true []))
  else .next (s.emit (.tdisp f false []))

/-- STOP_INTERFACE_REQUEST (R580): the TDI returns to CONFIG_UNLOCKED. DEDUCED (log entry 66). -/
def execStopInterfaceRequest (f : Part) (s : State) : Host.Outcome State Fault Refusal :=
  if (s.tdi f).isSome then .next ((s.setTdi f .configUnlocked).emit (.tdisp f true []))
  else .next (s.emit (.tdisp f false []))

/-- An IDE stream leaves Secure: every TDI it covers goes to ERROR, which resets its partition (R580, R582).
DEDUCED (log entry 66). -/
def State.leaveSecure (s : State) (stream : Fin 17) : State :=
  match s.sec.ide[stream.val] with
  | none => s
  | some l =>
    let s := { s with sec := { s.sec with ide := s.sec.ide.set stream.val none } }
    (List.range 16).foldl (fun s f =>
      if f ≠ 0 ∧ l.contains f = true ∧ s.exposed f = true then s.partitionReset f .error "TDI ERROR" else s) s

/-- IDE_KM over PF0's SPDM session (R582): keys are programmed and the stream starts (`go`), or it stops. -/
def execIdeKm (stream : Fin 17) (covers : List Nat) (go : Bool) (s : State) : Host.Outcome State Fault Refusal :=
  if !s.top.ready || !(s.spdm (.doe 0)).opened then .next (s.emit (.spdm (.doe 0) false []))
  else
    let s := if go then { s with sec := { s.sec with ide := s.sec.ide.set stream.val (some covers) } } else s.leaveSecure stream
    .next (s.emit (.spdm (.doe 0) true []))

/-- IDE_STREAM_LEAVE_SECURE (R582). -/
def execIdeStreamLeaveSecure (stream : Fin 17) (s : State) : Host.Outcome State Fault Refusal := .next (s.leaveSecure stream)

/-! Pair sessions and consent. -/

/-- PAIR_SESSION_RENEWAL (R586): every hour, while the two boards carry one nonzero tag, a new exchange with the peer's DHE data
gives the session a new secret. DESIGN CHOICE (log entry 143). -/
def execPairSessionRenewal (r : PairRenewal) (s : State) : Host.Outcome State Fault Refusal :=
  match alookup s.sec.pairs r.board with
  | none => .next s
  | some t =>
    if s.sameTenant r.board && s.due t.1 (secTicks 3600) then
      let (rnd, s) := s.draw 56
      let secret := Config.derive "pair session secret" (ecdhX (scalarOf rnd) r.exchange)
      .next { s with sec := { s.sec with pairs := aset s.sec.pairs r.board (s.clk, secret) } }
    else .next s

/-- CONSENT_EXPIRY (R604). -/
def execConsentExpiry (s : State) : Host.Outcome State Fault Refusal :=
  match s.sec.consent with
  | none => .next s
  | some t => .next (if field t 104 8 ≤ s.gtcNs then s.endConsent else s)

end Sys2Proof.Machine
end

