-- ==== Sys2Proof/Machine/RegWrite.lean ====
section
/-! DEFINITION. What a write of each register does (R8 to R10, R37, R41, R42), block by block. A register whose write is a command
of its own acts through the same operation. -/

namespace Sys2Proof.Machine

/-- Replace one half of a 64-bit register. -/
def setHalf (v : U64) (i : Nat) (w : U32) : U64 :=
  if i = 0 then BitVec.ofNat 64 (half v.toNat 1 * 2 ^ 32 + w.toNat) else BitVec.ofNat 64 (w.toNat * 2 ^ 32 + half v.toNat 0)

/-- A base address whose low `n` bits its alignment fixes at 0. DEDUCED (log entry 37). -/
def alignTo (n : Nat) (v : U64) : U64 := (v >>> n) <<< n

/-! The host interface. -/

/-- Change a function's registers. -/
def State.mapFn (s : State) (f : Nat) (g : Fn → Fn) : State :=
  { s with hif := { s.hif with fns := s.hif.fns.mapIdx fun i x => if i = f then g x else x } }

/-- A write of a word of a queue block (Table 4-8, R158 to R162). DEDUCED (log entry 37). -/
def State.pokeQueue (s : State) (f : Part) (q : Fin 64) (r : Nat) (w : U32) : State :=
  let x := s.queue f q
  let free := s.queueAccess f q && !x.enable
  if r = 0x18 then (if w.getLsbD 31 then s.turnOn f q w else s.turnOff f q w)
  else if r = 0x2C then
    (if s.queueAccess f q then s.setQueue f q { x with coalCount := wbits w 7 0, coalTime := wbits w 25 16 } else s)
  else if !free then s
  else if r < 0x08 then s.setQueue f q { x with sqBase := alignTo 6 (setHalf x.sqBase (r / 4) w) }
  else if r < 0x10 then s.setQueue f q { x with cqBase := alignTo 4 (setHalf x.cqBase (r / 4 - 2) w) }
  else if r < 0x18 then s.setQueue f q { x with histBase := alignTo 12 (setHalf x.histBase (r / 4 - 4) w) }
  else if r = 0x1C then s.setQueue f q { x with seqInit := w }
  else s

/-- Queue number `n`, below 64. -/
def queueNo (n : Nat) : Fin 64 := ⟨n % 64, Nat.mod_lt _ (by decide)⟩

/-- A write of a word of Table 4-7's layout. -/
def State.pokeFn (s : State) (f : Part) (off : Nat) (w : U32) : State :=
  if off = 0x0010 then s.mapFn f fun x => { x with cause := x.cause &&& ~~~(w.setWidth 8) }
  else if off = 0x0014 then s.mapFn f fun x => { x with vec0 := w &&& 0x3F3F3F3F }
  else if off = 0x0018 then s.mapFn f fun x => { x with vec1 := w &&& 0x3F3F3F3F }
  else if inRange off 0x1000 (8 * s.queueCount f) then
    let q := queueNo ((off - 0x1000) / 8)
    if off % 8 = 0 then s.ringTail f q (w.setWidth 16) else s.ringHead f q (w.setWidth 16)
  else if inRange off 0x2000 (0x40 * s.queueCount f) then s.pokeQueue f (queueNo ((off - 0x2000) / 0x40)) (off % 0x40) w
  else s

/-- The MSI-X table of a VF is frozen while its TDI is CONFIG_LOCKED or in RUN (Table 13-6). PRESUMED (log entry 34). -/
def State.msixFrozen (s : State) (f : Part) : Bool :=
  let x := s.hif.fns[f.val]
  decide (x.tdi = .configLocked) || decide (x.tdi = .run)

/-- A write of the MSI-X table. PRESUMED (log entry 34). -/
def State.pokeBar2 (s : State) (f : Part) (off : Nat) (w : U32) : State :=
  if decide (1024 ≤ off) || s.msixFrozen f then s
  else
    let bs := (leBytes 4 w.toNat).zipIdx.map fun b => b.1 ^^^ msixReset (off + b.2)
    s.mapFn f fun x => { x with msix := cellWrite 0 x.msix off bs }

/-! The other blocks. -/

/-- The CIN block (Table 7-9). -/
def State.pokeCin (s : State) (off : Nat) (w : U32) : State :=
  let k := (off - 0x800) / 0x20
  if inRange off 0x800 0x80 then
    (if off % 0x20 = 0 then s.scbCtl 0 k w else if off % 0x20 = 4 then s.scbPush 0 k (w.setWidth 8) else s)
  else s

/-- TMG_IN_QL of a PPS or FREQ input (Table 12-8): QL 15 fails the input (R519), and the selection is made anew (R522).
DEDUCED (log entry 45). -/
def State.setQl (s : State) (i ql : Nat) : State :=
  if i < 4 then
    let s := s.mapInput i fun x => { x with ql := ql }
    let x := s.input i
    if ql = 15 ∧ x.st ≠ .disabled ∧ x.st ≠ .failed then s.failInput i 4 else s.reselect
  else s

/-- The TMG block (Table 12-8, R538, R539, R557 to R559). -/
def State.pokeTmg (s : State) (off : Nat) (w : U32) : State :=
  if off = 0x010 then
    (match wbits w 1 0 with
      | 0 => s.askClosed 0 w
      | 1 => s.askHold 0 w
      | 2 => s.askSoftware 0 w
      | _ => s)
  else if off = 0x018 then (if s.tmg.mode = 2 then { s with tmg := { s.tmg with dcoLo := w } } else s)
  else if off = 0x01C then s.setDco 0 w
  else if off = 0x020 then { s with tmg := { s.tmg with todLo := w } }
  else if off = 0x024 then s.setTod 0 w
  else if off = 0x028 then { s with tmg := { s.tmg with stepLo := w } }
  else if off = 0x02C then s.askStep 0 w
  else if off = 0x050 then { s with tmg := { s.tmg with ptpCfg := w &&& 0x1FF } }
  else if off = 0x054 then { s with tmg := { s.tmg with ptpIp := w } }
  else if inRange off 0x100 0xD0 then (if off % 0x10 = 0xC then s.setQl ((off - 0x100) / 0x10) (wbits w 3 0) else s)
  else if inRange off 0x200 0x90 then
    (if off % 0x10 = 8 then s.askRealign 0 ⟨(off - 0x200) / 0x10 % 9, Nat.mod_lt _ (by decide)⟩ w else s)
  else s

/-- The SEC block (Table 13-15, R611). -/
def State.pokeSec (s : State) (off : Nat) (w : U32) : State :=
  if off = 0x10 then
    (match wbits w 3 0 with
      | 1 => s.askClaim 0 w
      | 2 => s.askRotate 0 w
      | _ => s)
  else if inRange off 0x1000 0x1000 then
    { s with sec := { s.sec with mbox := cellWrite 0 s.sec.mbox (off - 0x1000) (leBytes 4 w.toNat) } }
  else s

/-- The ranges of the pair, which take writes while ENABLE is 0 (R654); areas are multiples of 4 KiB (Table 14-10).
DEDUCED (log entry 37). -/
def State.pokeRange (s : State) (off : Nat) (w : U32) : State :=
  let i := (off - 0x10) / 0x10
  let x := (s.pair.ranges[i]?).getD (0, 0)
  let put (x : U64 × U32) : State := { s with pair := { s.pair with ranges := s.pair.ranges.setIfInBounds i x } }
  if s.pair.enabled then s
  else if off % 0x10 = 0 then put (alignTo 12 (setHalf x.1 0 w), x.2)
  else if off % 0x10 = 4 then put (alignTo 12 (setHalf x.1 1 w), x.2)
  else if off % 0x10 = 8 then put (x.1, (w >>> 12) <<< 12)
  else s

/-- The actions of MGT_FW_CTL (Table 3-10, R117). -/
def State.pokeFw (s : State) (w : U32) : State :=
  match wbits w 2 0 with
  | 1 => s.askMark 0 w
  | 2 => s.askCommit 0 w
  | 3 => s.askCancel 0 w
  | 4 => s.askBurn 0 w
  | _ => s

/-- The MGT block but for MGT_FW_CTL. -/
def State.pokeMgt (s : State) (off : Nat) (w : U32) : State :=
  if off = 0x200 then s.pairWrite 0 w
  else if inRange off 0x210 0x40 then s.pokeRange (off - 0x200) w
  else if off = 0x300 then s.setBg 0 w
  else s

/-- The recovery registers and window, in recovery only (Table 3-15, R119, R120). -/
def State.pokeRec (s : State) (off : Nat) (w : U32) : State :=
  if off = 0x120804 then
    (if s.recov.st = .receiving then { s with recov := { s.recov with len := w } } else s)
  else if off = 0x120808 then
    (match wbits w 2 0 with
      | 1 => s.askBegin 0 w
      | 2 => s.askRun 0 w
      | 3 => s.askProgram 0 w
      | _ => s)
  else s.fillWindow 0 off 4 (w.setWidth 64)

/-- The PWR block: its W1C bits (Tables 2-9, 2-10). -/
def State.pokePwr (s : State) (off : Nat) (w : U32) : State :=
  if off = 0x0 then { s with pwr := { s.pwr with mainLoss := s.pwr.mainLoss && !w.getLsbD 2 } }
  else if off = 0x4 then { s with pwr := { s.pwr with runDip := s.pwr.runDip && !w.getLsbD 5 } }
  else s

/-- A write of a word of PF0's BAR0 (R36, R37, R41, R42, R117, R119). DEDUCED (log entry 40). -/
def State.pokePf (s : State) (off : Nat) (w : U32) : State :=
  let r := off % 0x10000
  if off = 0x0C then (if wbits w 2 0 = 4 then s.askWarm 0 w else if wbits w 2 0 = 5 then s.askCold 0 w else s)
  else if off = 0x120004 then s.pokeFw w
  else if s.top.recovery then s.pokeRec off w
  else if !s.top.ready then s
  else
    match off / 0x10000 with
    | 0x01 => s.pokeFn 0 r w
    | 0x03 => s.pokeCin r w
    | 0x0F => s.pokeTmg r w
    | 0x10 => s.pokeSec r w
    | 0x12 => s.pokeMgt r w
    | 0x14 => s.pokePwr r w
    | _ => s

/-- A write of a word of a function's BAR. DESIGN CHOICE (log entry 134). -/
def State.poke (s : State) (f : Part) (bar : Bar) (off : Nat) (w : U32) : State :=
  match bar with
  | .bar2 => s.pokeBar2 f off w
  | .bar0 => if f.val = 0 then s.pokePf off w else if s.top.ready then s.pokeFn f off w else s

end Sys2Proof.Machine
end

