-- ==== Sys2Proof/Machine/Registers.lean ====
section
/-! DEFINITION. The register accesses (R8 to R14, R36 to R44, R119, R714). -/

namespace Sys2Proof.Machine

/-- A register write that keeps R39 (R8, R40): the lower word first, then the upper. One that breaks it is ignored (R714).
DESIGN CHOICE (log entry 133). -/
def execRegisterWrite (f : Part) (bar : Bar) (off size : Nat) (v : U64) (s : State) : Host.Outcome State Fault Refusal :=
  if !s.barHas f bar off size || !wellSized off size then .next s
  else
    let s := s.poke f bar off (v.setWidth 32)
    .next (if size = 8 then s.poke f bar (off + 4) ((v >>> 32).setWidth 32) else s)

/-- A register read: it returns the fields' values, and clears exactly what it returned of an RC field (R8, R14). A read that breaks
R39 returns 0 and acts on nothing (R714); a VF that is not exposed does not answer (R121). DESIGN CHOICE (log entry 133). -/
def execRcRegisterRead (f : Part) (bar : Bar) (off size : Nat) (s : State) : Host.Outcome State Fault Refusal :=
  if !s.barHas f bar off size then .next { s with bus := .unsupported }
  else if !wellSized off size then .next { s with bus := .data 0 size }
  else .next (s.readBar f bar off size)

/-- A read of TMG_GTC_LO snapshots the whole counter (R44). Only PF0 has the register. -/
def execGtcSnapshotRead (f : Part) (s : State) : Host.Outcome State Fault Refusal :=
  if f.val = 0 then .next (s.readBar f .bar0 0xF0000 4) else .next s

/-- The MSI-X table and pending bits of BAR2, to which the PCI Express Base specification applies and not R714.
DESIGN CHOICE (log entry 36). -/
def inMsix (bar : Bar) (off : Nat) : Bool :=
  match bar with
  | .bar2 => decide (off < 1024) || inRange off 0x800 8
  | .bar0 => false

/-- A BAR access that breaks R39 completes and acts on no register: a read returns 0, a write is ignored (R714). In the MSI-X
structures the PCI Express Base specification leaves the result undefined: a read returns a free value, and a write leaves free
bytes behind. DESIGN CHOICE (log entries 36, 133). -/
def execMalformedBarAccess (f : Part) (bar : Bar) (off size : Nat) (write : Bool) (s : State) : Host.Outcome State Fault Refusal :=
  if wellSized off size then .next s
  else if !s.barHas f bar off size then .next (if write then s else { s with bus := .unsupported })
  else if inMsix bar off then
    (if write then
      (if off < 1024 ∧ s.msixFrozen f = false then
        .next (s.mapFn f fun x => { x with msix := cellWrite 0 x.msix off ((s.freeBytes size).take (1024 - off)) }).useFree
      else .next s)
    else .next { s with bus := .data (Config.freeNat s.free % 256 ^ size) size, free := s.free + 1 })
  else .next (if write then s else { s with bus := .data 0 size })

end Sys2Proof.Machine
end

