-- ==== Sys2Proof/Machine/Routes.lean ====
section
/-! DEFINITION. The route sequencer's commands: starting and stopping routes (R259 to R264), dispatch, node ends and
retirement (R228 to R258), slots (R242 to R245) and route faults (R265). -/

namespace Sys2Proof.Machine

/-- An IMMEDIATE apply is being validated or applied, which holds every ROUTE_START back (R193). -/
def Img.immediateBusy (g : Img) : Bool :=
  g.slots.toList.any fun x => (x.apply.map fun a => decide (a.point = .immediate)).getD false

/-- A route slot that a function may name: PF0 any, a VF those of its ROUTE_MASK (R122, R260). -/
def State.routeAllowed (s : State) (f r : Nat) : Bool := f = 0 || bit (s.struct.partRoutes f) r

/-- ROUTE_START (R193, R259, R260, R430). DESIGN CHOICE (log entry 2). DEDUCED (log entry 97). -/
def execRouteStart (f : Part) (q : Fin 64) (s : State) : Host.Outcome State Fault Refusal :=
  match s.front f q 0x20 with
  | none => .next s
  | some c =>
    let r := c.target
    let x := s.route r
    if s.img.immediateBusy then .next s
    else if !s.routeAllowed f r then .next (s.refuse f q c.pos 0x05)
    else if x.st = .starting ∨ x.st = .running then .next (s.fix f q c.pos 0x00 0 (srcRoute r))
    else if x.st = .empty ∨ x.st = .stopping then .next (s.refuse f q c.pos 0x03)
    else
      let s := s.setCmd f q c.pos fun c => { c with begun := true }
      let s := s.setRoute r { x with fault := 0, decimating := none, skips256 := [] }
      .next ((s.resetCasks r).setRouteSt r .starting)

/-- A route that is neither starting, running nor stopping is stopped already. -/
def Route.stopped (x : Route) : Bool := !(x.st = .starting || x.st = .running || x.st = .stopping)

/-- ROUTE_STOP with byte 0 of PARAM 0 (R261, R263). DEDUCED (log entry 64). -/
def execRouteStopAtBoundary (f : Part) (q : Fin 64) (s : State) : Host.Outcome State Fault Refusal :=
  match s.front f q 0x21 with
  | none => .next s
  | some c =>
    let r := c.target
    if c.param 0 1 ≠ 0 then .next s
    else if !s.routeAllowed f r then .next (s.refuse f q c.pos 0x05)
    else if (s.route r).stopped then .next (s.fix f q c.pos 0x00 0 (srcRoute r))
    else .next ((s.setCmd f q c.pos fun c => { c with begun := true }).boundaryStop r)

/-- ROUTE_STOP with byte 0 of PARAM 1: a forced stop (R262, R263). DEDUCED (log entry 64). -/
def execRouteStopForce (f : Part) (q : Fin 64) (s : State) : Host.Outcome State Fault Refusal :=
  match s.front f q 0x21 with
  | none => .next s
  | some c =>
    let r := c.target
    if c.param 0 1 ≠ 1 then .next s
    else if !s.routeAllowed f r then .next (s.refuse f q c.pos 0x05)
    else if (s.route r).stopped then .next (s.fix f q c.pos 0x00 0 (srcRoute r))
    else .next ((s.setCmd f q c.pos fun c => { c with begun := true }).forceStop r)

/-- 1 ms after the trigger's frame-start a frame without an associated context's frame is abandoned, with MISSING naming the
contexts (R219, Table 6-7). -/
def execContextWindowExpiry (route : Fin 16) (frame : Nat) (s : State) : Host.Outcome State Fault Refusal :=
  match s.frame route frame with
  | none => .next s
  | some f =>
    let rc := ((s.frameStruct f).route route).getD []
    let miss := (otherCtxs rc).filter fun c => !f.ctxs.any (·.1 = c)
    if f.inFlight && !f.aborted && !miss.isEmpty && decide (f.start + 1000000 ≤ s.gtcNs) then
      .next (s.abandon route frame 4 ((miss.map (2 ^ ·)).sum))
    else .next s

/-- A CHAINED node whose conditions are met is dispatched (R228, R230). DEDUCED (log entry 100). -/
def execChainedDispatch (route : Fin 16) (frame node : Nat) (s : State) : Host.Outcome State Fault Refusal :=
  .next (s.dispatch route frame node 2)

/-- A SEQUENCED node is dispatched at or after its start time (R229, R231, R232). DEDUCED (log entry 100). -/
def execSequencedDispatch (route : Fin 16) (frame node : Nat) (s : State) : Host.Outcome State Fault Refusal :=
  .next (s.dispatch route frame node 1)

/-- The route, frame and node for which an engine runs its stimulus. -/
def State.tastingNode (s : State) (e : Nat) : Option (Nat × Nat × Nat) :=
  ((List.range 16).flatMap fun r => (s.route r).frames.flatMap fun f =>
    (f.nodes.filter fun m => m.tasting && decide (m.engine = e)).map fun m => (r, f.id, m.node)).head?

/-- The engine of a node has written all its outputs and published all its records (R233). -/
def State.engineDone (s : State) (r id : Nat) (m : NodeRun) : Bool :=
  if m.engine < 0x080 then
    match ((s.stg.inst[m.engine - 0x070]?).getD {}).job with
    | some j => j.route ≠ r || j.frame ≠ id || j.node ≠ m.node || (j.done && !s.stageStalled (m.engine - 0x070))
    | none => true
  else !(s.core (m.engine - 0x080)).holds r id m.node

/-- A stage whose node has ended is free; the node's output tails and poison pass to the frame (R252, R258). -/
def State.freeStage (s : State) (r id : Nat) (m : NodeRun) : State :=
  let i := m.engine - 0x070
  let x := (s.stg.inst[i]?).getD {}
  match x.job with
  | some j =>
    if j.route = r ∧ j.frame = id ∧ j.node = m.node then
      let s := { s with stg := { s.stg with inst := s.stg.inst.setIfInBounds i { x with job := none, ins := [] } } }
      s.mapFrame r id fun f =>
        { f.mapNode m.node (fun m => { m with tails := j.laid.map fun t => up64 t.2 }) with poisoned := f.poisoned || j.poisoned }
    else s
  | none => s

/-- A node ends (R233): deferred releases (R203), abandoned frames' FRAME_DONEs (R225) and stops that waited for it follow
(R262). DESIGN CHOICE (log entry 132). -/
def execNodeEnd (route : Fin 16) (frame node : Nat) (s : State) : Host.Outcome State Fault Refusal :=
  match (s.frame route frame).bind (·.nodeRun node) with
  | none => .next s
  | some m =>
    if m.st = .running && !m.tasting && s.engineDone route frame m then
      let s := if m.engine < 0x080 then s.freeStage route frame m else s
      let s := s.chargeEngine route m
      let s := s.mapFrame route frame fun f => f.mapNode node fun m => { m with st := .ended }
      .next ((s.releaseHeld route).drainRoute route)
    else .next s

/-- The oldest frame in flight retires once its nodes have all ended (R251, R252). -/
def execFrameRetire (route : Fin 16) (s : State) : Host.Outcome State Fault Refusal :=
  match (s.route route).frames.find? Frame.inFlight with
  | some f =>
    if f.complete || (f.aborted && f.idle) then .next (((s.retire route f.id).releaseHeld route).drainRoute route)
    else .next s
  | none => .next s

/-- A node has run longer than its BUDGET, by so many µs (R234): it is counted and logged, and runs on. -/
def execBudgetOverrun (route : Fin 16) (frame node excess : Nat) (s : State) : Host.Outcome State Fault Refusal :=
  match (s.frame route frame).bind (·.nodeRun node) with
  | none => .next s
  | some m =>
    if m.st = .running && !m.over_ && decide (m.at_ + m.budget * 1000 < s.gtcNs) then
      let x := s.route route
      let s := s.setRoute route { x with ovrCount := satN 0xFFFF (x.ovrCount + 1), ovrNode := node }
      let s := s.mapFrame route frame fun f => f.mapNode node fun m => { m with over_ := true }
      .next (s.note (srcRoute route) 0 0x0201 (s.struct.routePart route) [route, node, excess])
    else .next s

/-- A frame has not retired by its frame-start plus DEADLINE (R255). -/
def execDeadlineMiss (route : Fin 16) (frame : Nat) (s : State) : Host.Outcome State Fault Refusal :=
  match s.frame route frame with
  | some f => .next (s.checkDeadline route f)
  | none => .next s

/-- A node of the slot's own newest frame in flight runs: it is what the slot is for (R245). DEDUCED (log entry 161). -/
def State.slotServed (s : State) (r route frame : Nat) : Bool :=
  route = r && (((s.route r).frames.filter Frame.inFlight).getLast?.map (·.id)) = some frame

/-- A reserved slot opens (R245): on a core that runs another task, that task is to be preempted at its next tile boundary; a stage
that still runs another node is an intrusion. -/
def execSlotOpen (route : Fin 16) (index : Nat) (s : State) : Host.Outcome State Fault Refusal :=
  match s.rsq.cycleAt, (s.slotRecs route).find? (byteAt · 5 = index) with
  | some c, some x =>
    let e := field x 6 2
    let o := c + field x 8 4 * 1000
    if (s.route route).st = .running && s.struct.safetyClass route && decide (o ≤ s.gtcNs) &&
        decide (s.gtcNs < o + field x 12 4 * 1000) && !s.rsq.openSlots.contains (route.val, index) then
      let s := { s with rsq := { s.rsq with openSlots := s.rsq.openSlots ++ [(route.val, index)] } }
      if e < 0x080 then
        match ((s.stg.inst[e - 0x070]?).getD {}).job with
        | some j =>
          if s.slotServed route j.route j.frame then .next s
          else
            let s := { s with rsq := { s.rsq with intrusions := satN 0xFFFF (s.rsq.intrusions + 1) } }
            .next (s.note e 0 0x0204 (s.struct.routePart j.route) [e, route, j.frame])
        | none => .next s
      else
        let k := s.core (e - 0x080)
        match k.task with
        | some t =>
          .next (if s.slotServed route t.route t.frame then s
            else (s.setCore (e - 0x080) { k with preempt := true }).settleWait (e - 0x080))
        | none => .next s
    else .next s
  | _, _ => .next s

/-- SLOT_CYCLE µs pass without a new frame-start of the anchor: the slot cycle ends (R243). -/
def execSlotCycleExpiry (s : State) : Host.Outcome State Fault Refusal :=
  match s.rsq.cycleAt with
  | some c =>
    if c + s.struct.slotCycle * 1000 ≤ s.gtcNs then
      .next { s with rsq := { s.rsq with cycleAt := none, openSlots := [] } }
    else .next s
  | none => .next s

/-- A stream-switch credit error stops the route into FAULTED (R265). -/
def execStreamCreditError (route : Fin 16) (s : State) : Host.Outcome State Fault Refusal := .next (s.faultRoute route 3)

/-- What an engine's fatal error leaves on it: the node it ran does no more. DEDUCED (log entry 100). -/
def State.haltEngine (s : State) (e : Nat) : State :=
  if e < 0x080 then
    let x := (s.stg.inst[e - 0x070]?).getD {}
    { s with stg := { s.stg with
      inst := s.stg.inst.setIfInBounds (e - 0x070) { x with job := x.job.map fun j => { j with done := true, discard := true } } } }
  else
    let x := s.core (e - 0x080)
    (s.setCore (e - 0x080) { x with task := none, stall := none, dma := [], acc := Vector.replicate 2 [] }).nextTask (e - 0x080)

/-- A fatal error in an engine stops the route whose node it runs into FAULTED (R265). DEDUCED (log entry 100). -/
def execEngineFatalError (engine : Nat) (s : State) : Host.Outcome State Fault Refusal :=
  match (List.range 16).find? fun r =>
      (s.route r).frames.any fun f => f.nodes.any fun m => m.st = .running && decide (m.engine = engine) with
  | some r => .next ((s.haltEngine engine).faultRoute r 2)
  | none => .next s

end Sys2Proof.Machine
end

