-- ==== Sys2Proof/Machine/Sealing.lean ====
section
/-! DEFINITION. MODEL_LOAD, REPORT and CONSENT, and the quorum over VC4 (R587 to R604, Table 13-10). -/

namespace Sys2Proof.Machine

/-- Boards with this board's tenant tag (R586, Table 13-10). -/
def State.companyBoards (s : State) : List Nat := s.knownBoards.filter fun b => s.sameTenant b && decide (b ≠ s.struct.boardId)

/-- The transcript of the pair session between two boards, which a share request's signature covers (Table 13-10). -/
def pairTranscript (a b : Nat) : Bytes := Config.derive "pair transcript" (leBytes 1 (min a b) ++ leBytes 1 (max a b))

/-- A quorum gather begins (Table 13-10 step 1): every board with the tenant's tag is asked. -/
def State.beginGather (s : State) (f q : Nat) (c : Cmd) (b : Bytes) (ep : Bool) (scalar own : Nat) (share : Bytes) : State :=
  let (nonce, s) := s.draw 32
  let me := s.struct.boardId
  let ask := s.companyBoards
  let g : Gather := { part := f, queue := q, pos := c.pos, pkg := b, ep := ep, own := own, share := share, asked := ask, at_ := s.clk }
  let s := { s with sec := { s.sec with gathers := s.sec.gathers ++ [g] } }
  s.emitAll (ask.map fun d =>
    .mgmt d 0x30 (b.take (352 + 96 * pkgMembers b) ++ nonce ++ ecdsaSign scalar (nonce ++ pairTranscript me d)))

/-- MODEL_LOAD (R593 to R600). DEDUCED (log entry 56). -/
def execModelLoad (f : Part) (q : Fin 64) (d : HostRead) (s : State) : Host.Outcome State Fault Refusal :=
  match s.front f q 0x40 with
  | none => .next s
  | some c =>
    match d with
    | .failed => .next (s.fix f q c.pos 0x21 0 srcSec)
    | .data raw ep =>
      let b := slice raw 0 c.length
      let payload := pkgPayload b
      let a := c.addr1 % 2 ^ 40
      let fail (reason : Nat) : Host.Outcome State Fault Refusal := .next (s.failLoad f q c.pos 0x50 reason c payload)
      if c.length < 256 ∨ pkgTotal b ≠ c.length then .next (s.refuse f q c.pos 0x04)
      else if c.addr1 / 2 ^ 40 ≠ s.struct.boardId ∨ s.struct.inPart f a payload = false then .next (s.refuse f q c.pos 0x05)
      else if !pkgFormed b then fail 0x01
      else if pkgQuorum b && !s.top.eccOn then fail 0x07
      else
        match s.sec.tenant with
        | none => fail 0x02
        | some t =>
          if !pkgSigned t.key b then fail 0x02
          else
            match pkgEntryOf b (ekDigest t.key (pkgCompany b)) with
            | none => fail 0x03
            | some i =>
              let scalar := ekScalar t.key (pkgCompany b)
              match pkgUnwrap scalar b i with
              | none => fail 0x04
              | some item =>
                if pkgQuorum b then
                  .next ((s.setCmd f q c.pos fun c => { c with begun := true }).beginGather f q c b ep scalar i item)
                else .next (s.openPackage f q c b item ep)

/-- REPORT (R587 to R589): a report of this state, and the certificate chain when the buffer has room for it. -/
def execAttReport (f : Part) (q : Fin 64) (d : HostRead) (s : State) : Host.Outcome State Fault Refusal :=
  match s.front f q 0x41 with
  | none => .next s
  | some c =>
    if c.length < 1488 then .next (s.refuse f q c.pos 0x04)
    else
      match d with
      | .failed => .next (s.fix f q c.pos 0x21 0 srcSec)
      | .data b ep =>
        let s1 := (s.underWay f q c.pos 0x00 0 srcSec).emit (.hostWrite f c.addr1 (s.report f (slice b 0 32)) ep)
        let s2 := if 8192 ≤ c.length then s1.emit (.hostWrite f (c.addr1 + 2048) (s.chain.take 6144) false) else s1
        .next (if ep then s2.markCmd (some (f.val, q.val, c.pos)) true false else s2)

/-- What Table 13-11 says of a consent token (R601), none when it is accepted. DEDUCED (log entry 71). -/
def State.consentReason (s : State) (t : Bytes) : Option Nat :=
  let after := field t 104 8
  match s.sec.tenant with
  | none => some 0x0A
  | some x =>
    if slice t 0 4 ≠ label "TYDC" ∨ field t 4 2 ≠ 1 ∨ field t 6 2 ≠ 224 ∨ 32 ≤ field t 112 4 ∨ allZero (slice t 116 12) = false then some 0x09
    else if slice t 56 48 ≠ x.key ∨ ecdsaVerifies x.key (slice t 0 128) (slice t 128 96) = false then some 0x0A
    else if slice t 8 48 ≠ deviceDigest then some 0x0B
    else if s.top.gtcSet = false ∨ after ≤ s.gtcNs ∨ s.gtcNs + 7 * 86400 * 10 ^ 9 < after then some 0x0C
    else none

/-- CONSENT (R601, R602). A token of another length than 224 bytes is malformed. DEDUCED (log entry 71). -/
def execConsent (f : Part) (q : Fin 64) (d : HostRead) (s : State) : Host.Outcome State Fault Refusal :=
  match s.front f q 0x42 with
  | none => .next s
  | some c =>
    match d with
    | .failed => .next (s.fix f q c.pos 0x21 0 srcSec)
    | .data b ep =>
      if c.length ≠ 224 ∨ ep = true then .next (s.fix f q c.pos 0x50 0x09 srcSec)
      else
        let t := slice b 0 224
        match s.consentReason t with
        | some r => .next (s.fix f q c.pos 0x50 r srcSec)
        | none =>
          let s := { s with sec := { s.sec with consent := some t } }
          let s := s.note srcSec 0 0x0701 0 [Config.eventCode "in force", field t 112 4] true
          .next (s.fix f q c.pos 0x00 0 srcSec)

/-! The quorum. -/

/-- SHARE_REQ at a member (Table 13-10 steps 2 and 3, R597): `hdr` is header, member table and tenant signature. The share goes out
only when every check passes. -/
def execShareReq (src : Fin 256) (hdr : Bytes) (nonce sig : Bytes) (s : State) : Host.Outcome State Fault Refusal :=
  match s.sec.tenant with
  | none => .next s
  | some t =>
    let me := s.struct.boardId
    let ek := ekDigest t.key (pkgCompany hdr)
    let scalar := ekScalar t.key (pkgCompany hdr)
    let signedBy (i : Nat) : Bool :=
      ecdsaVerifies (slice (pkgEntry hdr i) 0 48) (nonce ++ pairTranscript src me) sig
    let asker := (List.range (pkgMembers hdr)).find? fun i => decide (slice (pkgEntry hdr i) 0 48 ≠ ek) && signedBy i
    let ok := s.sec.switch.isNone && s.sameTenant src && s.sec.pairs.any (·.1 = src.val) && pkgQuorum hdr && pkgSigned t.key hdr && asker.isSome
    match (if ok then pkgEntryOf hdr ek else none) with
    | none => .next s
    | some j =>
      match pkgUnwrap scalar hdr j with
      | none => .next s
      | some share =>
        let (iv, s) := s.draw 12
        .next (s.emit (.mgmt src 0x31 (leBytes 2 j ++ iv ++ gcmSeal (s.pairKey src) iv (leBytes 2 j) share)))

/-- A share arrives at the requester (Table 13-10 step 4, R598): with K − 1 valid shares of others the load goes on. `valid` says
that it decrypts under the pair key. -/
def execShareResp (src : Fin 256) (index : Nat) (share : Bytes) (valid : Bool) (s : State) : Host.Outcome State Fault Refusal :=
  let fits (g : Gather) : Bool :=
    g.asked.contains src && decide (index < pkgMembers g.pkg) && decide (index ≠ g.own) && !g.shares.any (·.1 = index)
  match (if valid && s.sec.pairs.any (·.1 = src.val) then s.sec.gathers.find? fits else none) with
  | none => .next s
  | some g =>
    let g2 := { g with shares := aset g.shares index share }
    let rest := s.sec.gathers.map fun x => if x = g then g2 else x
    if g2.shares.length < pkgOthers g.pkg then .next { s with sec := { s.sec with gathers := rest } }
    else
      let s := { s with sec := { s.sec with gathers := s.sec.gathers.erase g } }
      match (s.queue g.part g.queue).cmds.find? (·.pos = g.pos) with
      | none => .next s
      | some c =>
        let key := combineShares (aset (g2.shares.take (pkgOthers g.pkg)) g.own g.share)
        .next (s.openPackage g.part g.queue c g.pkg key g.ep)

/-- QUORUM_GATHER_TIMEOUT (R597): 500 ms have passed with too few shares; DETAIL counts the members present, this board among
them. -/
def execQuorumGatherTimeout (s : State) : Host.Outcome State Fault Refusal :=
  match s.sec.gathers.find? fun g => s.due g.at_ (msTicks 500) with
  | none => .next s
  | some g =>
    let n := satN 255 (g.shares.length + 1)
    let s := { s with sec := { s.sec with gathers := s.sec.gathers.erase g } }
    let s := s.note srcSec 0 0x0702 g.part [n, Config.eventCode "gather failed"]
    match (s.queue g.part g.queue).cmds.find? (·.pos = g.pos) with
    | none => .next s
    | some c => .next (s.failLoad g.part g.queue g.pos 0x51 n c (pkgPayload g.pkg))

/-- Change the record of a model. -/
def State.mapBlob (s : State) (i : Nat) (g : Blob → Blob) : State :=
  { s with sec := { s.sec with blobs := s.sec.blobs.mapIdx fun k b => if k = i then g b else b } }

/-- The quorum of a model has been absent for GRACE (R599): its range is poisoned, its record dropped. -/
def State.poisonBlob (s : State) (i : Nat) (b : Blob) : State :=
  let a := b.base % 2 ^ 40
  let s := s.put b.part a (s.mem.read a b.len) true
  let s := { s with sec := { s.sec with blobs := s.sec.blobs.eraseIdx i } }
  let s := s.note srcSec 2 0x0702 b.part [satN 255 (b.answers.length + 1), Config.eventCode "blob poisoned"]
  s.event b.part 3 srcSec

/-- PRESENCE_CHECK of a model's record (R599): its blob is poisoned when fewer than K − 1 others have answered over GRACE; every 10 s
a challenge goes out. DEDUCED (log entry 57). -/
def execPresenceCheck (blob : Nat) (s : State) : Host.Outcome State Fault Refusal :=
  match s.sec.blobs[blob]? with
  | none => .next s
  | some b =>
    let absent := match b.graceAt with
      | some t => s.due t (secTicks b.grace)
      | none => false
    if b.k ≤ 1 then .next s
    else if absent then .next (s.poisonBlob blob b)
    else if s.due b.challengeAt (secTicks 10) then
      let (nonce, s) := s.draw 32
      let s := { s with sec := { s.sec with present := satN 255 (b.answers.length + 1) } }
      let s := s.mapBlob blob fun b => { b with answers := [], graceAt := some (b.graceAt.getD s.clk), challengeAt := s.clk }
      .next (s.emitAll (s.companyBoards.map fun d => .mgmt d 0x32 nonce))
    else .next s

/-- PRESENCE_CHALLENGE at a member (R599): it answers with an EK signature over the challenge.
DEDUCED (log entry 57). DESIGN CHOICE (log entry 136). -/
def execPresenceChallenge (src : Fin 256) (nonce : Bytes) (s : State) : Host.Outcome State Fault Refusal :=
  match s.sec.tenant with
  | none => .next s
  | some t =>
    if s.sameTenant src && s.sec.switch.isNone then
      let scalar := ekScalar t.key (Config.challengeCompany nonce)
      .next (s.emit (.mgmt src (Config.eventCode "PRESENCE_RESPONSE") (ecdsaSign scalar nonce)))
    else .next s

/-- PRESENCE_RESPONSE at the requester (R599): with K − 1 others present the grace period ends. -/
def execPresenceResponse (src : Fin 256) (blob : Nat) (valid : Bool) (s : State) : Host.Outcome State Fault Refusal :=
  if valid && s.sameTenant src && decide (src.val ≠ s.struct.boardId) then
    .next (s.mapBlob blob fun b =>
      let answers := aset b.answers src s.clk
      { b with answers := answers, graceAt := if b.k ≤ answers.length + 1 then none else b.graceAt })
  else .next s

end Sys2Proof.Machine
end

