-- ==== Sys2Proof/Machine/Switch.lean ====
section
/-! DEFINITION. The tenant switch (level 3; Table 13-14, R607 to R609). -/

namespace Sys2Proof.Machine

/-- A step of the switch in progress. -/
def State.switchIn (s : State) (st : SwStep) : Bool := (s.sec.switch.map fun w => decide (w.step = st)).getD false

/-- Go to a step of the switch. -/
def State.switchTo (s : State) (st : SwStep) : State :=
  { s with sec := { s.sec with switch := s.sec.switch.map fun w => { w with step := st, at_ := s.clk } } }

/-- The FRAME applies of PF0 end with the switch too (R205): they complete ABORTED_BY_SWITCH. DEDUCED (log entry 73). -/
def State.abortFrameApplies (s : State) : State :=
  (List.range 8).foldl (fun s n =>
    match (s.slot n).apply with
    | some a =>
      if a.point = .frame ∧ a.part = 0 then (s.endApply n).fix 0 a.queue a.pos 0x11 0 (srcRoute a.route) else s
    | none => s) s

/-- TENANT_SWITCH (Table 13-14 step 1, R609): VF fetching stops, VF work other than routes stops, every route stops at its boundary.
One in progress absorbs another. DEDUCED (log entry 73). -/
def execTenantSwitch (f : Part) (q : Fin 64) (s : State) : Host.Outcome State Fault Refusal :=
  match s.front f q 0x43 with
  | none => .next s
  | some c =>
    let s := s.setCmd f q c.pos fun c => { c with begun := true }
    let me := (f.val, q.val, c.pos)
    match s.sec.switch with
    | some w => .next { s with sec := { s.sec with switch := some { w with cmds := w.cmds ++ [me] } } }
    | none =>
      let s := s.noteLevel 3
      let w : Switch := { at_ := s.clk, zero := bit (c.param 0 1) 0, cmds := [me] }
      let s := { s with sec := { s.sec with switch := some w } }
      let s := s.note srcSec 0 0x0700 0 [Config.eventCode "switch start", s.top.base.code] s.sec.tenant.isSome
      let s := (s.dropApplies fun p => decide (0 < p)).abortFrameApplies
      let s := (List.range 16).foldl (fun s p => if 0 < p then s.dropWork p else s) s
      .next ((List.range 16).foldl (fun s r => s.boundaryStop r) s)

/-- SWITCH_DRAIN_TIMEOUT (Table 13-14 step 2). -/
def execSwitchDrainTimeout (s : State) : Host.Outcome State Fault Refusal :=
  match s.sec.switch with
  | some w =>
    if w.step = .draining ∧ s.due w.at_ (msTicks 100) = true then .next ((List.range 16).foldl (fun s r => s.forceStop r) s) else .next s
  | none => .next s

/-- A route slot runs nothing. -/
def State.routeStill (s : State) (r : Nat) : Bool :=
  !((s.route r).st = .starting || (s.route r).st = .running || (s.route r).st = .stopping)

/-- The unposted completions of a queue post as ABORTED_BY_SWITCH, in SQ order, as far as the CQ has room (R35, Table 13-14 step 3):
first those that an overtaken reset, or one whose aborts are being posted, left to report; then the fetched commands. A queue whose
reset is done and that has not been enabled since has no CQ. -/
def State.abortQueue (s : State) (f q : Nat) : State :=
  let x := s.queue f q
  let done := ((s.hif.fns[f]?).map (·.resetDone)).getD true
  let left := if x.st = .postingAborts || !done then x.aborts else []
  let room := x.ring - 1 - x.used
  let l := (left ++ x.cmds.map (s.abortedOf f)).take room
  let s := (x.cmds.filter fun c => !c.fixed).foldl (fun s c => s.fix f q c.pos 0x11 0 (s.execSource f c)) s
  if x.error = 3 then s else l.foldl (fun s a => s.postAborted f q 0x11 a) s

/-- The VFs and their TDIs are removed, their sessions end (Table 13-14 step 3, R121). -/
def State.removeVfs (s : State) : State :=
  { s with
    hif := { s.hif with
      vfs := 0, queues := s.hif.queues.filter fun q => decide (q.1 < 64)
      fns := s.hif.fns.mapIdx fun i x => if i = 0 then x else {} }
    sec := { s.sec with doe := s.sec.doe.mapIdx fun i x => if i = 0 then x else {} } }

/-- SWITCH_ROUTES_STOPPED (Table 13-14 steps 3 and 4): VF commands complete ABORTED_BY_SWITCH, the VFs go, and coherence release
begins: every remote line held is evicted, every exported window is taken back. DEDUCED (log entry 73). -/
def execSwitchRoutesStopped (s : State) : Host.Outcome State Fault Refusal :=
  if s.switchIn .draining && (List.range 16).all s.routeStill then
    let qs := (s.hif.queues.map (·.1)).filter fun k => decide (64 ≤ k)
    let s := qs.foldl (fun s k => s.abortQueue (k / 64) (k % 64)) s
    let s := s.removeVfs.switchTo .releasing
    let s := (s.fab.remote.filter RLine.settled).foldl (fun s l => s.evict l) s
    .next ((s.struct.all 0x22).foldl (fun s r => s.withdraw r) s)
  else .next s

/-- The tenant sections leave the structure in force (R189). DEDUCED (log entry 73). -/
def State.dropTenantSections (s : State) : State :=
  let old := s.struct
  let sect := s.img.sect.mapIdx fun i x => if i < 2 then x else {}
  ({ s with img := { s.img with sect := sect, held := [] } } : State).enforce old none

/-- Key destruction (Table 13-14 step 5). DEDUCED (log entry 74). -/
def State.destroyKeys (s : State) : State :=
  let unproven (x : Spdm) : Spdm := { x with proven := false }
  let s := s.endConsent
  let s := { s with
    sec := { s.sec with
      tenant := none, pairs := [], blobs := [], loading := [], gathers := [], present := 0
      doe := s.sec.doe.map unproven
      peers := s.sec.peers.map fun (x : Nat × Spdm) => (x.1, unproven x.2) }
    pair := { s.pair with copying := none } }
  s.newMemoryKey.tagChanged

/-- SWITCH_COHERENCE_RELEASED (Table 13-14 steps 4 to 6): no remote line is held and no copy of a window is out; the keys are
destroyed, and the scrub starts. -/
def execSwitchCoherenceReleased (s : State) : Host.Outcome State Fault Refusal :=
  if s.switchIn .releasing && s.fab.remote.isEmpty && s.fab.leaving.isEmpty then
    .next (s.dropTenantSections.destroyKeys.switchTo .scrubbing)
  else .next s

/-- Every SEALED port renews its key (Table 13-14 step 6, R584). DEDUCED (log entry 73). -/
def State.renewPorts (s : State) : State :=
  (List.range 8).foldl (fun s p =>
    let x := s.fab.port p
    if x.up && x.sealed && x.txNextKey.isNone then
      (s.mapPort p fun x => { x with txNextKey := some (x.txKey + 1) }).emit (.mgmt x.peerBoard 0x21 (leBytes 4 (x.txKey + 1)))
    else s) s

/-- The on-chip scrub (Table 13-14 step 6): local stores, cellar, stage and pipe buffers, queues, tenant registers, stream-switch
state, cask pointers and sealing-engine contexts. Port registers of the camera receivers stay. DEDUCED (log entry 73). -/
def State.scrub (s : State) : State :=
  let base := State.reset
  let ports := s.cin.ports.map fun p => ({ hsActive := p.hsActive, deskewDone := p.deskewDone } : Port)
  { s with
    nec := base.nec, stg := base.stg, sw := base.sw, rsq := base.rsq
    cin := { base.cin with ports := ports }
    hif := { s.hif with sealing := base.hif.sealing }
    fab := { s.fab with lines := [] } }

/-- The switch ends (Table 13-14 step 8): a pending SWITCH apply comes into force, BASE becomes OPEN, every TENANT_SWITCH completes. -/
def State.endSwitch (s : State) : State :=
  let cmds := (s.sec.switch.map (·.cmds)).getD []
  let s := { s with sec := { s.sec with switch := none }, top := { s.top with base := .opened } }
  let s := (List.range 8).foldl (fun s n => if (s.slot n).st = .pendingSwitch then s.applySlot n else s) s
  let s := s.note srcSec 0 0x0700 0 [Config.eventCode "switch done", s.top.base.code]
  s.fixAll cmds 0x00 0 srcSec

/-- SWITCH_SCRUB_DONE (Table 13-14 steps 6 and 7). -/
def execSwitchScrubDone (s : State) : Host.Outcome State Fault Refusal :=
  match s.sec.switch with
  | some w =>
    if w.step = .scrubbing then
      let s := s.scrub.renewPorts
      .next (if w.zero then s.switchTo .filling else s.endSwitch)
    else .next s
  | none => .next s

/-- SWITCH_ZERO_FILL_DONE (Table 13-14 steps 7 and 8): all of board memory holds zeros. DEDUCED (log entry 74). -/
def execSwitchZeroFillDone (s : State) : Host.Outcome State Fault Refusal :=
  if s.switchIn .filling then
    let s := { s with mem := { s.mem with
      cells := s.mem.cells.filter (fun c => decide (pinnedBase ≤ c.1) && c.2 != 0), era := none
      poison := s.mem.poison.filter fun k => decide (pinnedBase ≤ 64 * k) } }
    .next s.endSwitch
  else .next s

end Sys2Proof.Machine
end

