-- ==== Sys2Proof/Machine/Tasting.lean ====
section
/-! DEFINITION. Tasting (R632 to R636): an engine's run on a stimulus as a function of the stimulus, its signature, and the comparison. -/

namespace Sys2Proof.Machine

/-- A stimulus (Table 14-6). -/
structure Stim where
  /-- the whole of it -/
  all : Bytes
  /-- the stage instance, 0 to 9 -/
  stage : Nat
  /-- the parameter block -/
  b : Bytes
  /-- the input planes, as G16 samples -/
  planes : List Plane
  aux : Bytes

/-- Read a stage's stimulus (Table 14-6). -/
def Stim.read (stage : Nat) (x : Bytes) : Stim :=
  let w := field x 4 2
  let h := field x 6 2
  let n := blockLen (stageSrc stage)
  let plane (p : Nat) : Plane :=
    { w := w, h := h, rows := (List.range h).map fun y => workLine 0x11 w false (slice x (16 + n + 2 * w * (p * h + y)) (2 * w)) }
  { all := x, stage := stage, b := slice x 16 n, planes := (List.range (stimPlanes (stageSrc stage))).map plane
    aux := x.drop (16 + n + stimPlanes (stageSrc stage) * w * h * 2) }

/-- An input plane. -/
def Stim.plane (m : Stim) (p : Nat) : Plane := m.planes.getD p default

/-- A line as the beats of a stage carry it. -/
def outBeats (l : Bytes × Bool) : Bytes := pad64 l.1

/-- A record of a run: header, descriptor, payload (Table 6-5). What the header says of the frame is open.
DESIGN CHOICE (log entry 167). -/
def Stim.record (m : Stim) (typ flags mean inval : Nat) (desc payload : Bytes) : Bytes :=
  let h : RecHdr :=
    { typ := typ, node := Config.tasteOpen m.all [0, typ], source := stageSrc m.stage, route := Config.tasteOpen m.all [1, typ]
      frameId := Config.tasteOpen m.all [2, typ], exposure := Config.tasteOpen m.all [3, typ]
      publish := Config.tasteOpen m.all [4, typ], flags := flags, context := Config.tasteOpen m.all [5, typ]
      confMean := mean, confInvalid := inval }
  h.bytes (64 + payload.length) ++ slice desc 0 32 ++ payload

/-- The flags of a record of a run. -/
def tasteFlags (overlay ambiguous : Bool) : Nat := flagWord false false false false false overlay ambiguous

/-- How many lines of level `k` are formed when `n` of level 0, `h` high, are in (R318, R320). -/
def pyrCount (filter h n : Nat) : Nat → Nat
  | 0 => n
  | k + 1 => pyrReady filter (levelSize h k) (pyrCount filter h n k)

/-- What is new of a list of lines between two counts. -/
def between (a b : Nat) (l : List (Bytes × Bool)) : Bytes := ((l.drop a).take (b - a)).flatMap outBeats

/-- PYR: after each input line, the lines then formed, port by port; at the end the records. DESIGN CHOICE (log entry 167). -/
def Stim.pyr (m : Stim) : Bytes :=
  let b := m.b
  let p := m.plane 0
  let levels := pyrForm (byteAt b 2) (byteAt b 1) p
  let step (t : Nat) : Bytes := (pyrPorts b).flatMap fun n => (pyrMask b n).flatMap fun k =>
    between (pyrCount (byteAt b 2) p.h t k) (pyrCount (byteAt b 2) p.h (t + 1) k) (pyrLines b levels n k)
  (List.range p.h).flatMap step ++ (pyrPorts b).flatMap fun n =>
    let r := pyrBody b levels n
    m.record 0x10 0 0 0 r.1 (planesPayload r.2).bytes

/-- WRP: entry 0's lines, then its record; the mesh is AUX. DESIGN CHOICE (log entry 167). -/
def Stim.wrp (m : Stim) : Bytes :=
  let b := m.b
  let p := m.plane 0
  let node (x y : Nat) : MeshNode := meshNode (slice m.aux (y * field b 56 4 + 8 * x) 8)
  let needs := warpRows node b 32 p.h p.h
  let lines := (List.range (field b 42 2)).map fun y =>
    outLine (byteAt b 2 = 2) ((warpRow node b 32 p (needs.getD y 0) y).map (·.g))
  lines.flatMap outBeats ++ m.record 0x11 0 0 0 (stageDesc (field b 40 2) (field b 42 2) 0 0 0) (planesPayload [lines]).bytes

/-- The lines of a stereo or flow run that go out when its ready rows grow from `a` to `c`: values, confidences, statistics. -/
def denseBetween (rows : List (List Px)) (w h a c : Nat) : Bytes :=
  let tiles (n : Nat) : Nat := if n = h then (h + 31) / 32 else n / 32
  let new := (rows.drop a).take (c - a)
  (new.map valueLine).flatMap outBeats ++ (new.map confLine).flatMap outBeats
    ++ ((List.range (tiles c - tiles a)).map fun k => statsLine rows w (tiles a + k)).flatMap outBeats

/-- A run's overlay record of its one refined tile, and its tile status map (R391, R392, Table 9-5).
DESIGN CHOICE (log entry 167). -/
def Stim.overlay (m : Stim) (tx ty : Nat) (entry : Bytes) (px : List (Nat × Nat)) (amb : Bool) : Bytes :=
  let st := overlayStats px
  m.record (overlayType m.stage) (tasteFlags true amb) st.1 st.2 (leBytes 4 1) entry
    ++ m.record 0x34 (tasteFlags true false) 0 0 (leBytes 2 tx ++ leBytes 2 ty)
      ((List.range (tx * ty)).flatMap fun t => leBytes 1 (if t = 0 then 1 else 0))

/-- What STE and FLO give from their coarse rows: the lines as the rows become ready, the coarse record, and the overlay of tile (0, 0)
when the block refines (R633). -/
def Stim.dense (m : Stim) (rows : List (List Px)) (ready : Nat → Nat) (desc : Bytes) (tile : List (List Px)) : Bytes :=
  let (w, h) := denseSize m.stage m.b
  let st := pxStats rows.flatten
  ((List.range (m.plane 0).h).flatMap fun t => denseBetween rows w h (ready t) (ready (t + 1)))
    ++ m.record (if m.stage ≤ 4 then 0x12 else 0x13) 0 st.1 st.2 desc (planesPayload (densePlanes rows w h)).bytes
    ++ if refines (stageSrc m.stage) m.b then
        m.overlay (tilesOf w h).1 (tilesOf w h).2 (denseEntry m.stage tile w h 0 0) (pxClasses tile) false
      else []

/-- A U8 plane in AUX at an offset, with pitch roundup(w, 64). -/
def Stim.auxPlane (m : Stim) (o w h : Nat) : Plane :=
  { w := w, h := h, rows := (List.range h).map fun y => workLine 0x10 w false (slice m.aux (o + y * up64 w) w) }

/-- STE: AUX holds the refine images, left then right (R334). DESIGN CHOICE (log entry 167). -/
def Stim.ste (m : Stim) : Bytes :=
  let b := m.b
  let l := m.plane 0
  let rows := (stereo (steCfg b false) l (m.plane 1) 0 0 l.w l.h).map (·.map stePx)
  m.dense rows (fun n => if n = l.h then n else n - 2) (stageDesc l.w l.h 0 0 0)
    (steTileOf b (m.auxPlane 0 l.w l.h) (m.auxPlane (up64 l.w * l.h) l.w l.h) 0 0)

/-- FLO: level 0 of each input is its plane; the levels above are open. AUX holds the slots of the work window that the run reads: the
reference's pyramid and then the current one in REF_MODE 0, the pair in REF_MODE 1 (R341). DESIGN CHOICE (log entry 167). -/
def Stim.flo (m : Stim) : Bytes :=
  let b := m.b
  let dim (k : Nat) : Nat × Nat := (levelSize (field b 4 2) k, levelSize (field b 6 2) k)
  let level (p k : Nat) : Plane :=
    if k = 0 then m.plane p else Plane.ofFn (dim k).1 (dim k).2 fun x y => ((Config.tasteOpen m.all [6, p, k, x, y] % 65536 : Nat) : Int)
  let slot (n k : Nat) : Plane := m.auxPlane (n * floSlot b + floOffset2 b k) (dim k).1 (dim k).2
  let two := decide (byteAt b 1 = 1)
  let ks := floLevels b
  let vecs := floVecs b (ks.map (level 0)) (some (ks.map fun k => if two then level 1 k else slot 0 k))
  let o := byteAt b 9
  let m' := (byteAt b 10 + byteAt b 11 + 3) * 2 ^ (byteAt b 8 - 1)
  let h := (dim o).2
  let ready (n : Nat) : Nat := ((List.range h).takeWhile fun y => min (2 ^ o * y + m') ((m.plane 0).h - 1) < n).length
  m.dense (vecs.map (·.map (floPx o))) ready
    (stageDesc (dim o).1 h 0 (Config.tasteOpen m.all [7]) (Config.tasteOpen m.all [8]))
    (floTileOf b (slot (if two then 0 else 1) o) (some (slot (if two then 1 else 0) o)) vecs 0 0)

/-- The detector: AUX is the pattern table. -/
def Stim.det (m : Stim) : Bytes :=
  let c := detCfg m.b
  let p := m.plane 0
  let (fs, trunc, dropped) := detect c p
  m.record 0x20 (flagWord false false dropped false false false false) 0 0 (featDesc c fs.length p.w p.h trunc)
    (fs.flatMap (featureEntry c (slice m.aux 0 1024) p))

/-- The matcher: AUX is the current list's record and then the reference list's, none when AUX ends before.
DESIGN CHOICE (log entry 167). -/
def Stim.mat (m : Stim) : Bytes :=
  let cur := parseFeatures m.aux
  let rest := m.aux.drop (64 * max 1 (field m.aux 29 3))
  let ref := if rest.isEmpty then none else some (parseFeatures rest)
  let ms := matchAll m.b false cur ref
  let st := matchStats ms
  let body := matchBody cur ref ms
  let t := matchTileOf m.b cur ref (32 * cur.tilesX) (32 * cur.tilesY) 0
  m.record 0x21 (tasteFlags false (matchAmb ms)) st.1 st.2 body.1 body.2
    ++ if refines 0x078 m.b then m.overlay cur.tilesX cur.tilesY t.1 t.2.1 t.2.2 else []

/-- The tracker on the block's first context: AUX is the table copy, the feature list's record and the pyramid's; the next ID, Δ and the
copy written are open. DESIGN CHOICE (log entry 167). -/
def Stim.trk (m : Stim) : Bytes :=
  let b := m.b
  let n := field b 8 2
  let c := byteAt b 12
  let list := m.aux.drop (256 * n)
  let l := parseFeatures list
  let pyr := list.drop (64 * max 1 (field list 29 3))
  let p := pyrPlanes (slice pyr) (fun _ _ => false)
  let ins : List TrkIn := [{ ctx := c, dt := Config.tasteOpen m.all [9], feats := l.feats, level := l.level, l0 := p.1, l1 := p.2 }]
  let (es, _, births, deaths, full) := trackerRun (trkCfg b [c]) (Config.tasteOpen m.all [2, 0x22]) (Config.tasteOpen m.all [10]) ins
    ((List.range n).map fun i => parseTrack (slice m.aux (256 * i) 256))
  let live := liveTracks es
  let st := trackStats es
  m.record 0x22 (tasteFlags false (live.any fun e => bit e.1.1.flags 0)) st.1 st.2
    (trackDesc es births deaths full (Config.tasteOpen m.all [11])) (live.flatMap fun e => trackEntry e.1.1 e.1.2)

/-- Every output byte of a stage's run on a stimulus, in emission order (R633, R634). -/
def Stim.output (m : Stim) : Bytes :=
  match m.stage with
  | 0 => m.pyr
  | 1 => m.wrp
  | 2 => m.wrp
  | 3 => m.ste
  | 4 => m.ste
  | 5 => m.flo
  | 6 => m.flo
  | 7 => m.det
  | 8 => m.mat
  | _ => m.trk

/-- A core's run: one MM of the stimulus's MODE and K from zero accumulators, drained in row order (R633, R634, R453). -/
def coreTaste (x : Bytes) : Bytes :=
  let k := field x 2 2
  (mmOutput (byteAt x 1) k (slice x 16 (64 * k)) (x.drop (16 + 64 * k)) []).1

/-- Every output byte of engine `e` on the stimulus of a TASTING record. -/
def tasteOutput (e : Nat) (r : Bytes) : Bytes :=
  if e < 0x080 then (Stim.read (e - 0x070) (r.drop 32)).output else coreTaste (r.drop 32)

/-- The signature of a run (R634). -/
def tasteSignature (e : Nat) (r : Bytes) : Nat := crc64 (tasteOutput e r)

/-- A tasting run's own time on engine `e`, in cycles of its clock: the engine's time formula (Tables 8-1, 8-5, R365, R373, R384, R390,
R452) applied to the stimulus. DESIGN CHOICE (log entry 167). -/
def tasteCycles (e : Nat) (r : Bytes) : Nat :=
  let x := r.drop 32
  let px := field x 4 2 * field x 6 2
  let b := slice x 16 (blockLen e)
  let refine (n : Nat) : Nat := if refines e b then n else 0
  if e = 0x070 then (px + 9) / 10
  else if e ≤ 0x072 then max ((px + 9) / 10) ((2 * field b 40 2 * field b 42 2 + 4) / 5)
  else if e ≤ 0x074 then (4 * px + 4) / 5 + refine (1024 + 16 * field b 10 2)
  else if e ≤ 0x076 then (2 * px + 2) / 3 + refine (1024 + 32 * (2 * byteAt b 11 + 5) ^ 2)
  else if e = 0x077 then (px + 4) / 5
  else if e = 0x078 then
    let l := parseFeatures (Stim.read 8 x).aux
    matchCycles (matCfg b false) l.maxPerCell (l.tilesX * l.tilesY) + refine (matchTileCycles (matCfg b false) l.maxPerCell)
  else if e = 0x079 then 1024 + 200 * field b 8 2
  else
    let mode := byteAt x 1
    (if mmIsSparse mode then field x 2 2 / 2 else field x 2 2) + (if mode = 1 then 512 else if mode = 4 then 64 else 256)

/-- The cycles that an engine has run since a clock: VIS cycles of a stage, NEC cycles of a core. -/
def State.engineCycles (s : State) (e start : Nat) : Nat := if e < 0x080 then s.clk - start else s.necCycles (s.clk - start)

/-- The TASTING record by which an engine tastes for a node of a frame. -/
def State.tastingRec (s : State) (r id e : Nat) : Bytes := ((s.structOf r id).tasting r e).getD []

/-- The tasting run of an engine has taken its time (R635). -/
def State.tasted (s : State) (e r id n : Nat) : Bool :=
  match (s.frame r id).bind (·.nodeRun n) with
  | some m => decide (1024 + tasteCycles e (s.tastingRec r id e) ≤ s.engineCycles e m.clk)
  | none => false

/-- The source number of a stage or a core (R633). -/
def engineNo (core : Bool) (index : Nat) : Nat := (if core then 0x080 else 0x070) + index

/-- A tasting run ends and SAF compares its signature (R633 to R636): a mismatch marks the frame, is logged and counted, and is cause
TASTING on a safety-class route. -/
def execTastingRunEnd (core : Bool) (index : Nat) (s : State) : Host.Outcome State Fault Refusal :=
  let engine := engineNo core index
  match s.tastingNode engine with
  | none => .next s
  | some (r, id, n) =>
    if !s.tasted engine r id n then .next s
    else
      let t := s.structOf r id
      let rec_ := s.tastingRec r id engine
      let s := s.mapFrame r id fun f => f.mapNode n fun m => { m with tasting := false }
      if field rec_ 8 8 = tasteSignature engine rec_ then .next s
      else
        let sc := t.safetyClass r
        let s := s.mapFrame r id fun f => { f with tastingFail := true }
        let s := s.note srcSaf (if sc then 6 else 0) 0x0601 (s.struct.routePart r) [r, engine, id]
        let s := { s with saf := { s.saf with tasteFail := satN 0xFFFFFFFF (s.saf.tasteFail + 1) } }
        .next (if sc then s.latchCause 0x01 engine else s)

end Sys2Proof.Machine
end

