-- ==== Sys2Proof/Machine/Dispatch.lean ====
section
/-! DEFINITION. One arm per command: a direct call of its meaning. -/

namespace Sys2Proof.Machine

def exec (i : Instr) (s : State) : Host.Outcome State Fault Refusal :=
  match i with
  | .aux3v3Present aux crcOk seedsOk => Sys2Proof.Machine.execAux3v3Present aux crcOk seedsOk s
  | .aux3v3Loss => Sys2Proof.Machine.execAux3v3Loss s
  | .mainConverterStart => Sys2Proof.Machine.execMainConverterStart s
  | .mainRailsGood => Sys2Proof.Machine.execMainRailsGood s
  | .mainPowerLoss v => Sys2Proof.Machine.execMainPowerLoss s v
  | .mainPowerReturn v => Sys2Proof.Machine.execMainPowerReturn s v
  | .perstNAssert => Sys2Proof.Machine.execPerstNAssert s
  | .perstNDeassert => Sys2Proof.Machine.execPerstNDeassert s
  | .brdRstNAssert => Sys2Proof.Machine.execBrdRstNAssert s
  | .warmBoardReset src w => Sys2Proof.Machine.execWarmBoardReset src w s
  | .coldReset f w => Sys2Proof.Machine.execColdReset f w s
  | .bootWatchdogExpiry => Sys2Proof.Machine.execBootWatchdogExpiry s
  | .bootDone => Sys2Proof.Machine.execBootDone s
  | .lossLatchSet => Sys2Proof.Machine.execLossLatchSet s
  | .vbatMeasurement mv => Sys2Proof.Machine.execVbatMeasurement mv s
  | .markTrial f w => Sys2Proof.Machine.execMarkTrial f w s
  | .commit f w => Sys2Proof.Machine.execCommit f w s
  | .cancelTrial f w => Sys2Proof.Machine.execCancelTrial f w s
  | .burnSvn f w => Sys2Proof.Machine.execBurnSvn f w s
  | .fwActionDone => Sys2Proof.Machine.execFwActionDone s
  | .recBegin f w => Sys2Proof.Machine.execRecBegin f w s
  | .recRun f w => Sys2Proof.Machine.execRecRun f w s
  | .recProgram f w => Sys2Proof.Machine.execRecProgram f w s
  | .recoveryProgramDone flashOk => Sys2Proof.Machine.execRecoveryProgramDone flashOk s
  | .recWinWrite f off size v => Sys2Proof.Machine.execRecWinWrite f off size v s
  | .registerWrite f bar off size v => Sys2Proof.Machine.execRegisterWrite f bar off size v s
  | .rcRegisterRead f bar off size => Sys2Proof.Machine.execRcRegisterRead f bar off size s
  | .gtcSnapshotRead f => Sys2Proof.Machine.execGtcSnapshotRead f s
  | .malformedBarAccess f bar off size write => Sys2Proof.Machine.execMalformedBarAccess f bar off size write s
  | .sqTailDoorbell f q idx => Sys2Proof.Machine.execSqTailDoorbell f q idx s
  | .cqHeadDoorbell f q idx => Sys2Proof.Machine.execCqHeadDoorbell f q idx s
  | .descriptorFetch f q b ep => Sys2Proof.Machine.execDescriptorFetch f q b ep s
  | .commandEffectDone f q seq poisoned lost => Sys2Proof.Machine.execCommandEffectDone f q seq poisoned lost s
  | .completionPost f q writeOk histOk => Sys2Proof.Machine.execCompletionPost f q writeOk histOk s
  | .msiXCoalesceTimeout f q => Sys2Proof.Machine.execMsiXCoalesceTimeout f q s
  | .queueEnable f q w => Sys2Proof.Machine.execQueueEnable f q w s
  | .queueDisable f q w => Sys2Proof.Machine.execQueueDisable f q w s
  | .vfFlr f => Sys2Proof.Machine.execVfFlr f s
  | .partitionResetDone f => Sys2Proof.Machine.execPartitionResetDone f s
  | .nop f q => Sys2Proof.Machine.execNop f q s
  | .fence f q => Sys2Proof.Machine.execFence f q s
  | .fenceRelease f q => Sys2Proof.Machine.execFenceRelease f q s
  | .imageLoad f q d => Sys2Proof.Machine.execImageLoad f q d s
  | .imageApplyImmediate f q => Sys2Proof.Machine.execImageApplyImmediate f q s
  | .imageApplyFrame f q => Sys2Proof.Machine.execImageApplyFrame f q s
  | .imageApplySwitch f q => Sys2Proof.Machine.execImageApplySwitch f q s
  | .imageValidationDone slot => Sys2Proof.Machine.execImageValidationDone slot s
  | .immediateApplyInForce => Sys2Proof.Machine.execImmediateApplyInForce s
  | .frameApplySwap route => Sys2Proof.Machine.execFrameApplySwap route s
  | .imageDrop f q => Sys2Proof.Machine.execImageDrop f q s
  | .routeStart f q => Sys2Proof.Machine.execRouteStart f q s
  | .routeStopAtBoundary f q => Sys2Proof.Machine.execRouteStopAtBoundary f q s
  | .routeStopForce f q => Sys2Proof.Machine.execRouteStopForce f q s
  | .dmaCopy f q d => Sys2Proof.Machine.execDmaCopy f q d s
  | .dmaFill f q => Sys2Proof.Machine.execDmaFill f q s
  | .hifDmaChunkEnd engine => Sys2Proof.Machine.execHifDmaChunkEnd engine s
  | .msgSend f q => Sys2Proof.Machine.execMsgSend f q s
  | .modelLoad f q d => Sys2Proof.Machine.execModelLoad f q d s
  | .attReport f q d => Sys2Proof.Machine.execAttReport f q d s
  | .consent f q d => Sys2Proof.Machine.execConsent f q d s
  | .tenantSwitch f q => Sys2Proof.Machine.execTenantSwitch f q s
  | .switchDrainTimeout => Sys2Proof.Machine.execSwitchDrainTimeout s
  | .switchRoutesStopped => Sys2Proof.Machine.execSwitchRoutesStopped s
  | .switchCoherenceReleased => Sys2Proof.Machine.execSwitchCoherenceReleased s
  | .switchScrubDone => Sys2Proof.Machine.execSwitchScrubDone s
  | .switchZeroFillDone => Sys2Proof.Machine.execSwitchZeroFillDone s
  | .flashWrite f q d readBackOk => Sys2Proof.Machine.execFlashWrite f q d readBackOk s
  | .calClear f q => Sys2Proof.Machine.execCalClear f q s
  | .ledgerRead f q => Sys2Proof.Machine.execLedgerRead f q s
  | .telemetryRing f q => Sys2Proof.Machine.execTelemetryRing f q s
  | .engineMessageEnd e => Sys2Proof.Machine.execEngineMessageEnd e s
  | .safetyCutIn e => Sys2Proof.Machine.execSafetyCutIn e s
  | .frameStart port vc h => Sys2Proof.Machine.execFrameStart port vc h s
  | .contextWindowExpiry route frame => Sys2Proof.Machine.execContextWindowExpiry route frame s
  | .frameEnd port vc h => Sys2Proof.Machine.execFrameEnd port vc h s
  | .longPacket port vc dt h pixels crcOk => Sys2Proof.Machine.execLongPacket port vc dt h pixels crcOk s
  | .pipeLineProcess pipe => Sys2Proof.Machine.execPipeLineProcess pipe s
  | .scbStart f bus w => Sys2Proof.Machine.execScbStart f bus w s
  | .scbTransferDone bus nack arbLost rx => Sys2Proof.Machine.execScbTransferDone bus nack arbLost rx s
  | .scbDataAccess f bus wr => Sys2Proof.Machine.execScbDataAccess f bus wr s
  | .streamBeatDeliver dst => Sys2Proof.Machine.execStreamBeatDeliver dst s
  | .stageInputLine stage port => Sys2Proof.Machine.execStageInputLine stage port s
  | .coarsePublish stage => Sys2Proof.Machine.execCoarsePublish stage s
  | .refineTileSlot stage => Sys2Proof.Machine.execRefineTileSlot stage s
  | .mashClose stage => Sys2Proof.Machine.execMashClose stage s
  | .detectorPublish ctx => Sys2Proof.Machine.execDetectorPublish ctx s
  | .trackerRunDone => Sys2Proof.Machine.execTrackerRunDone s
  | .chainedDispatch route frame node => Sys2Proof.Machine.execChainedDispatch route frame node s
  | .sequencedDispatch route frame node => Sys2Proof.Machine.execSequencedDispatch route frame node s
  | .tastingRunEnd core index => Sys2Proof.Machine.execTastingRunEnd core index s
  | .nodeEnd route frame node => Sys2Proof.Machine.execNodeEnd route frame node s
  | .frameRetire route => Sys2Proof.Machine.execFrameRetire route s
  | .budgetOverrun route frame node excess => Sys2Proof.Machine.execBudgetOverrun route frame node excess s
  | .deadlineMiss route frame => Sys2Proof.Machine.execDeadlineMiss route frame s
  | .slotOpen route index => Sys2Proof.Machine.execSlotOpen route index s
  | .slotCycleExpiry => Sys2Proof.Machine.execSlotCycleExpiry s
  | .streamCreditError route => Sys2Proof.Machine.execStreamCreditError route s
  | .engineFatalError engine => Sys2Proof.Machine.execEngineFatalError engine s
  | .caskBeatArrival port => Sys2Proof.Machine.execCaskBeatArrival port s
  | .caskRowWrite core cask => Sys2Proof.Machine.execCaskRowWrite core cask s
  | .ldw core w => Sys2Proof.Machine.execLdw core w s
  | .stw core w => Sys2Proof.Machine.execStw core w s
  | .lds core w => Sys2Proof.Machine.execLds core w s
  | .ldt core w => Sys2Proof.Machine.execLdt core w s
  | .ldd core w => Sys2Proof.Machine.execLdd core w s
  | .std core w => Sys2Proof.Machine.execStd core w s
  | .stc core w => Sys2Proof.Machine.execStc core w s
  | .cwait core w => Sys2Proof.Machine.execCwait core w s
  | .crd core w => Sys2Proof.Machine.execCrd core w s
  | .cadv core w => Sys2Proof.Machine.execCadv core w s
  | .cpush core w => Sys2Proof.Machine.execCpush core w s
  | .clvl core w => Sys2Proof.Machine.execClvl core w s
  | .caskStallRelease core => Sys2Proof.Machine.execCaskStallRelease core s
  | .dmai core w => Sys2Proof.Machine.execDmai core w s
  | .dmao core w => Sys2Proof.Machine.execDmao core w s
  | .dmaw core w => Sys2Proof.Machine.execDmaw core w s
  | .necDmaDone core rows d => Sys2Proof.Machine.execNecDmaDone core rows d s
  | .pub core w => Sys2Proof.Machine.execPub core w s
  | .necFence core w => Sys2Proof.Machine.execNecFence core w s
  | .tile core w => Sys2Proof.Machine.execTile core w s
  | .tileComplete core => Sys2Proof.Machine.execTileComplete core s
  | .mm core w => Sys2Proof.Machine.execMm core w s
  | .mmFeedEnd core => Sys2Proof.Machine.execMmFeedEnd core s
  | .mmDrainDone core => Sys2Proof.Machine.execMmDrainDone core s
  | .necEnd core => Sys2Proof.Machine.execNecEnd core s
  | .necNop core => Sys2Proof.Machine.execNecNop core s
  | .branch core taken target => Sys2Proof.Machine.execBranch core taken target s
  | .loop core count bodyEnd => Sys2Proof.Machine.execLoop core count bodyEnd s
  | .scalarArithmetic core op => Sys2Proof.Machine.execScalarArithmetic core op s
  | .vectorArithmetic core dst a b op => Sys2Proof.Machine.execVectorArithmetic core dst a b op s
  | .illegalInstruction core w => Sys2Proof.Machine.execIllegalInstruction core w s
  | .hopperIdleFlush core => Sys2Proof.Machine.execHopperIdleFlush core s
  | .tileOverrun core => Sys2Proof.Machine.execTileOverrun core s
  | .localStoreEccError core addr => Sys2Proof.Machine.execLocalStoreEccError core addr s
  | .cellarAccess r => Sys2Proof.Machine.execCellarAccess r s
  | .boardMemoryRead addr err source => Sys2Proof.Machine.execBoardMemoryRead addr err source s
  | .boardMemoryWrite addr data poison err => Sys2Proof.Machine.execBoardMemoryWrite addr data poison err s
  | .cellarSramEccError array index => Sys2Proof.Machine.execCellarSramEccError array index s
  | .readShared h => Sys2Proof.Machine.execReadShared h s
  | .readUnique h => Sys2Proof.Machine.execReadUnique h s
  | .readNokeep h => Sys2Proof.Machine.execReadNokeep h s
  | .writeMerge h mask data poison => Sys2Proof.Machine.execWriteMerge h mask data poison s
  | .evictClean h => Sys2Proof.Machine.execEvictClean h s
  | .evictDirty h data poison => Sys2Proof.Machine.execEvictDirty h data poison s
  | .snoopShare home addr reqId => Sys2Proof.Machine.execSnoopShare home addr reqId s
  | .snoopInv home addr reqId => Sys2Proof.Machine.execSnoopInv home addr reqId s
  | .snoopAck h => Sys2Proof.Machine.execSnoopAck h s
  | .snoopAckData h data poison => Sys2Proof.Machine.execSnoopAckData h data poison s
  | .evictInFlight h => Sys2Proof.Machine.execEvictInFlight h s
  | .lineShared h data poison => Sys2Proof.Machine.execLineShared h data poison s
  | .lineOwned h data poison => Sys2Proof.Machine.execLineOwned h data poison s
  | .lineNokeep h data poison => Sys2Proof.Machine.execLineNokeep h data poison s
  | .upgradeOk h => Sys2Proof.Machine.execUpgradeOk h s
  | .writeDone h => Sys2Proof.Machine.execWriteDone h s
  | .evictAck h => Sys2Proof.Machine.execEvictAck h s
  | .denied h => Sys2Proof.Machine.execDenied h s
  | .msgReserve h mailbox length => Sys2Proof.Machine.execMsgReserve h mailbox length s
  | .msgGrant h => Sys2Proof.Machine.execMsgGrant h s
  | .msgChunk h offset data poison => Sys2Proof.Machine.execMsgChunk h offset data poison s
  | .msgDone h => Sys2Proof.Machine.execMsgDone h s
  | .advertisement board tag wins => Sys2Proof.Machine.execAdvertisement board tag wins s
  | .linkState board links => Sys2Proof.Machine.execLinkState board links s
  | .hello port peer peerPort peerTag => Sys2Proof.Machine.execHello port peer peerPort peerTag s
  | .lanicyHeartbeat board => Sys2Proof.Machine.execLanicyHeartbeat board s
  | .lanicyHeartbeatSend => Sys2Proof.Machine.execLanicyHeartbeatSend s
  | .boardLost board => Sys2Proof.Machine.execBoardLost board s
  | .flitReceive port raw => Sys2Proof.Machine.execFlitReceive port raw s
  | .portDown port cause => Sys2Proof.Machine.execPortDown port cause s
  | .linkUp port chainsOk keys => Sys2Proof.Machine.execLinkUp port chainsOk keys s
  | .keyRenewalDue port => Sys2Proof.Machine.execKeyRenewalDue port s
  | .keyNext port generation => Sys2Proof.Machine.execKeyNext port generation s
  | .keyNextAck port => Sys2Proof.Machine.execKeyNextAck port s
  | .e2eResendTimeout dest reqId => Sys2Proof.Machine.execE2eResendTimeout dest reqId s
  | .messageLifetimeExpiry dest reqId => Sys2Proof.Machine.execMessageLifetimeExpiry dest reqId s
  | .routeChangeHoldExpiry dest => Sys2Proof.Machine.execRouteChangeHoldExpiry dest s
  | .ppsEdge input capture freqOffset => Sys2Proof.Machine.execPpsEdge input capture freqOffset s
  | .freqMeasurement input phase freqOffset countOk active => Sys2Proof.Machine.execFreqMeasurement input phase freqOffset countOk active s
  | .ptpSync offset freqOffset => Sys2Proof.Machine.execPtpSync offset freqOffset s
  | .ptpAnnounce clockClass logSync logAnnounce => Sys2Proof.Machine.execPtpAnnounce clockClass logSync logAnnounce s
  | .ptpDelayResp pathDelay => Sys2Proof.Machine.execPtpDelayResp pathDelay s
  | .delayReqSend port => Sys2Proof.Machine.execDelayReqSend port s
  | .delayReq port m arrival => Sys2Proof.Machine.execDelayReq port m arrival s
  | .delayResp port m arrival freqOffset => Sys2Proof.Machine.execDelayResp port m arrival freqOffset s
  | .inputActivityLoss input => Sys2Proof.Machine.execInputActivityLoss input s
  | .qualificationPeriodEnd input => Sys2Proof.Machine.execQualificationPeriodEnd input s
  | .wtrExpiry input => Sys2Proof.Machine.execWtrExpiry input s
  | .holdoverUpdate temp => Sys2Proof.Machine.execHoldoverUpdate temp s
  | .ageingHour mean => Sys2Proof.Machine.execAgeingHour mean s
  | .loopModeClosed f w => Sys2Proof.Machine.execLoopModeClosed f w s
  | .loopModeHold f w => Sys2Proof.Machine.execLoopModeHold f w s
  | .loopModeSoftware f w => Sys2Proof.Machine.execLoopModeSoftware f w s
  | .dcoFreqWrite f upper => Sys2Proof.Machine.execDcoFreqWrite f upper s
  | .softwareTimeout => Sys2Proof.Machine.execSoftwareTimeout s
  | .todWrite f upper => Sys2Proof.Machine.execTodWrite f upper s
  | .tmgStep f upper => Sys2Proof.Machine.execTmgStep f upper s
  | .outputRealign f output w => Sys2Proof.Machine.execOutputRealign f output w s
  | .outputPulseStart output => Sys2Proof.Machine.execOutputPulseStart output s
  | .outputPulseEnd output => Sys2Proof.Machine.execOutputPulseEnd output s
  | .rootReclaim => Sys2Proof.Machine.execRootReclaim s
  | .opkClaim f w => Sys2Proof.Machine.execOpkClaim f w s
  | .opkRotate f w => Sys2Proof.Machine.execOpkRotate f w s
  | .admitTenant p grant key base sig => Sys2Proof.Machine.execAdmitTenant p grant key base sig s
  | .getEnrol p companyId => Sys2Proof.Machine.execGetEnrol p companyId s
  | .getVersion p => Sys2Proof.Machine.execGetVersion p s
  | .getCapabilities p => Sys2Proof.Machine.execGetCapabilities p s
  | .negotiateAlgorithms p => Sys2Proof.Machine.execNegotiateAlgorithms p s
  | .getDigests p => Sys2Proof.Machine.execGetDigests p s
  | .getCertificate p offset length => Sys2Proof.Machine.execGetCertificate p offset length s
  | .spdmChallenge p nonce => Sys2Proof.Machine.execSpdmChallenge p nonce s
  | .getMeasurements p index nonce => Sys2Proof.Machine.execGetMeasurements p index nonce s
  | .keyExchange p exchange => Sys2Proof.Machine.execKeyExchange p exchange s
  | .spdmFinish p verified mutualKey => Sys2Proof.Machine.execSpdmFinish p verified mutualKey s
  | .spdmHeartbeat p => Sys2Proof.Machine.execSpdmHeartbeat p s
  | .keyUpdate p => Sys2Proof.Machine.execKeyUpdate p s
  | .endSession p => Sys2Proof.Machine.execEndSession p s
  | .getTdispVersion f => Sys2Proof.Machine.execGetTdispVersion f s
  | .getTdispCapabilities f => Sys2Proof.Machine.execGetTdispCapabilities f s
  | .lockInterfaceRequest f => Sys2Proof.Machine.execLockInterfaceRequest f s
  | .getDeviceInterfaceReport f => Sys2Proof.Machine.execGetDeviceInterfaceReport f s
  | .getDeviceInterfaceState f => Sys2Proof.Machine.execGetDeviceInterfaceState f s
  | .startInterfaceRequest f => Sys2Proof.Machine.execStartInterfaceRequest f s
  | .stopInterfaceRequest f => Sys2Proof.Machine.execStopInterfaceRequest f s
  | .ideKm stream covers go => Sys2Proof.Machine.execIdeKm stream covers go s
  | .ideStreamLeaveSecure stream => Sys2Proof.Machine.execIdeStreamLeaveSecure stream s
  | .shareReq src hdr nonce sig => Sys2Proof.Machine.execShareReq src hdr nonce sig s
  | .shareResp src index share valid => Sys2Proof.Machine.execShareResp src index share valid s
  | .quorumGatherTimeout => Sys2Proof.Machine.execQuorumGatherTimeout s
  | .presenceCheck blob => Sys2Proof.Machine.execPresenceCheck blob s
  | .presenceChallenge src nonce => Sys2Proof.Machine.execPresenceChallenge src nonce s
  | .presenceResponse src blob valid => Sys2Proof.Machine.execPresenceResponse src blob valid s
  | .pairSessionRenewal r => Sys2Proof.Machine.execPairSessionRenewal r s
  | .consentExpiry => Sys2Proof.Machine.execConsentExpiry s
  | .safMonitorCycle => Sys2Proof.Machine.execSafMonitorCycle s
  | .lockstepMismatch => Sys2Proof.Machine.execLockstepMismatch s
  | .safWatchdogExpiry => Sys2Proof.Machine.execSafWatchdogExpiry s
  | .escalationTimeout => Sys2Proof.Machine.execEscalationTimeout s
  | .safeOkServiceTimeout => Sys2Proof.Machine.execSafeOkServiceTimeout s
  | .canHeartbeat => Sys2Proof.Machine.execCanHeartbeat s
  | .sinLow n => Sys2Proof.Machine.execSinLow n s
  | .sinConfirmExpiry n => Sys2Proof.Machine.execSinConfirmExpiry n s
  | .selftestTest checker instNo pass => Sys2Proof.Machine.execSelftestTest checker instNo pass s
  | .selftestRotationEnd => Sys2Proof.Machine.execSelftestRotationEnd s
  | .staleWatchReceive route => Sys2Proof.Machine.execStaleWatchReceive route s
  | .staleGap route => Sys2Proof.Machine.execStaleGap route s
  | .thermalSample temp power => Sys2Proof.Machine.execThermalSample temp power s
  | .throttleStep => Sys2Proof.Machine.execThrottleStep s
  | .clockMonitorFault domain => Sys2Proof.Machine.execClockMonitorFault domain s
  | .voltageMonitorFault rail => Sys2Proof.Machine.execVoltageMonitorFault rail s
  | .pairEnable f w => Sys2Proof.Machine.execPairEnable f w s
  | .epochCopyComplete => Sys2Proof.Machine.execEpochCopyComplete s
  | .commitRecord epoch frame gtcExposure bytes digest => Sys2Proof.Machine.execCommitRecord epoch frame gtcExposure bytes digest s
  | .pairFail board => Sys2Proof.Machine.execPairFail board s
  | .boardFatalError source index => Sys2Proof.Machine.execBoardFatalError source index s
  | .hostReadCompletion f q seq addr d => Sys2Proof.Machine.execHostReadCompletion f q seq addr d s
  | .ledgerAppend => Sys2Proof.Machine.execLedgerAppend s
  | .coalesceSecondEnd => Sys2Proof.Machine.execCoalesceSecondEnd s
  | .ledgerNorCopy eraseOk => Sys2Proof.Machine.execLedgerNorCopy eraseOk s
  | .telemetrySample f rdOff => Sys2Proof.Machine.execTelemetrySample f rdOff s
  | .patrolRead errs intervened => Sys2Proof.Machine.execPatrolRead errs intervened s
  | .sramScrub core addr e => Sys2Proof.Machine.execSramScrub core addr e s
  | .recalibration channel foregroundBusy => Sys2Proof.Machine.execRecalibration channel foregroundBusy s
  | .refreshManagement foregroundBusy => Sys2Proof.Machine.execRefreshManagement foregroundBusy s
  | .refresh => Sys2Proof.Machine.execRefresh s
  | .bgCtlWrite f w => Sys2Proof.Machine.execBgCtlWrite f w s
  | .brdRstNDeassert => Sys2Proof.Machine.execBrdRstNDeassert s
  | .sinHigh n => Sys2Proof.Machine.execSinHigh n s
  | .configurationRequest f => Sys2Proof.Machine.execConfigurationRequest f s
  | .smbusTransaction addr => Sys2Proof.Machine.execSmbusTransaction addr s
  | .debugPortAccess op => Sys2Proof.Machine.execDebugPortAccess op s
  | .secMboxDone burnOk => Sys2Proof.Machine.execSecMboxDone burnOk s
  | .recoveryRunDone => Sys2Proof.Machine.execRecoveryRunDone s
  | .retentionRecordUpdate => Sys2Proof.Machine.execRetentionRecordUpdate s
  | .deskewSequence port => Sys2Proof.Machine.execDeskewSequence port s

end Sys2Proof.Machine
end

