-- ==== Sys2Proof/Safety.lean ====
section
/-! DEFINITION. What claims about whole runs speak of: the relations between a state and a later one and the invariants that
every step keeps. -/

namespace Sys2Proof.Machine

/-- No fuse counter of `s` is higher than in `t` (R99: the counters are one-way). -/
def fusesRise (s t : State) : Prop := ∀ c, s.fw.svn.get c ≤ t.fw.svn.get c

/-- Every queue but queue `q` of function `f` is in `t` what it was in `s`. -/
def State.otherQueues (s t : State) (f q : Nat) : Prop := ∀ f' q', 64 * f' + q' ≠ 64 * f + q → t.queue f' q' = s.queue f' q'

/-- Board memory and its poisoned sectors stand in their canonical form, so that equal memories are equal data. -/
abbrev State.memOk (s : State) : Prop := Memory.wf s.mem = true

/-- Core `c` runs task `t` and is free to issue: it waits for nothing, the debug port does not hold it, no tasting run is under
way on it (R407, R605, R632). -/
def State.free_ (s : State) (c : Nat) (t : Task) : Bool :=
  decide ((s.core c).task = some t) && (s.core c).stall.isNone && !s.heldByDebug (s.core c) && !s.tastingOn (srcCore c)

/-- Word `w` issues on core `c` in task `t` as the instruction with opcode `op`: it stands inside the code, and the fields that
the instruction does not name are zero (R443, R451, Table 10-9). -/
def State.issues (s : State) (c op : Nat) (w : U64) (fields : Nat) (t : Task) : Bool :=
  s.free_ c t && decide (w.toNat % 256 = op) && decide ((s.core c).pc + 8 ≤ t.codeLen) &&
    decide (w.toNat ||| (fields ||| 255) = fields ||| 255)

/-- The request that a message of type `typ` brings to the home of its line. -/
def homeReq (clk : Nat) (typ : ReqType) (h : FabHdr) (mask : List Bool) (data : Bytes) (poison : Bool) : HomeReq :=
  { typ := typ, src := h.src, part := h.part, reqId := h.reqId, addr := h.addr / 128 * 128, mask := mask, data := data, poison := poison
    arrived := clk, port := h.port + 1 }

/-- A request that the home executes now: its board is heard, its line is served to it, and it repeats no request (R474, R498,
R507). -/
def State.fresh (s : State) (h : FabHdr) : Bool :=
  s.hears h.src && s.serves (onLine h) && s.fab.kept.all (fun k => !(k.src = h.src && k.reqId = h.reqId)) &&
    s.fab.txns.all (fun t => !(t.req.src = h.src && t.req.reqId = h.reqId)) &&
    s.fab.queue.all (fun r => !(r.src = h.src && r.reqId = h.reqId))

/-- A route without the POISONED marks of its frames, which a neural task that ends sets in its own frame (R258, R446). -/
def Route.unmarked (x : Route) : Route := { x with frames := x.frames.map fun f => { f with poisoned := false } }

/-- The commands that may change board memory, its poison, its error counters or its key: every other one leaves all of it as it is. -/
def mayChangeMemory : Instr → Bool
  | .aux3v3Present .. | .aux3v3Loss .. | .mainPowerLoss .. | .mainPowerReturn .. | .perstNAssert .. | .brdRstNAssert ..
  | .warmBoardReset .. | .coldReset .. | .bootWatchdogExpiry .. | .bootDone .. | .registerWrite .. | .rcRegisterRead ..
  | .gtcSnapshotRead .. | .vfFlr .. | .immediateApplyInForce .. | .frameApplySwap .. | .routeStopAtBoundary .. | .routeStopForce ..
  | .dmaCopy .. | .dmaFill .. | .modelLoad .. | .tenantSwitch .. | .switchDrainTimeout .. | .switchRoutesStopped ..
  | .switchCoherenceReleased .. | .switchScrubDone .. | .switchZeroFillDone .. | .frameStart .. | .contextWindowExpiry .. | .stageInputLine ..
  | .coarsePublish .. | .mashClose .. | .detectorPublish .. | .trackerRunDone .. | .nodeEnd .. | .frameRetire ..
  | .streamCreditError .. | .engineFatalError .. | .ldw .. | .stw .. | .lds .. | .ldt ..
  | .ldd .. | .std .. | .stc .. | .cwait .. | .crd .. | .cadv ..
  | .cpush .. | .clvl .. | .dmai .. | .dmao .. | .dmaw .. | .necDmaDone ..
  | .pub .. | .necFence .. | .tile .. | .mm .. | .mmDrainDone .. | .necEnd ..
  | .necNop .. | .branch .. | .loop .. | .scalarArithmetic .. | .vectorArithmetic .. | .illegalInstruction ..
  | .tileOverrun .. | .cellarAccess .. | .boardMemoryRead .. | .boardMemoryWrite .. | .cellarSramEccError .. | .readShared ..
  | .readUnique .. | .readNokeep .. | .writeMerge .. | .evictClean .. | .evictDirty .. | .snoopAck ..
  | .snoopAckData .. | .evictInFlight .. | .lineNokeep .. | .denied .. | .msgChunk .. | .msgDone ..
  | .boardLost .. | .e2eResendTimeout .. | .admitTenant .. | .ideKm .. | .ideStreamLeaveSecure .. | .shareResp ..
  | .quorumGatherTimeout .. | .presenceCheck .. | .thermalSample .. | .boardFatalError .. | .hostReadCompletion .. | .patrolRead .. => true
  | _ => false

/-- The commands that may change the firmware: its images, slots, fuse counters and boot control record. -/
def mayChangeFirmware : Instr → Bool
  | .aux3v3Present .. | .aux3v3Loss .. | .mainConverterStart .. | .mainRailsGood .. | .mainPowerReturn .. | .perstNAssert ..
  | .brdRstNAssert .. | .warmBoardReset .. | .coldReset .. | .bootWatchdogExpiry .. | .markTrial .. | .commit ..
  | .cancelTrial .. | .burnSvn .. | .fwActionDone .. | .recoveryProgramDone .. | .registerWrite .. | .flashWrite ..
  | .calClear .. | .boardFatalError .. | .secMboxDone .. | .recoveryRunDone .. => true
  | _ => false

end Sys2Proof.Machine
end

