-- ==== Sys2Proof/Certificates/Slice0/Obligations.lean ====
section
/-! DEFINITION. The statements about the board, family by family: what each command does and leaves, what the rules say of the
whole machine, and the invariants that every step keeps. -/

open Sys2Proof Sys2Proof.Machine

/-- The supply events (R52, R55 to R57, R72, R716, Table 2-5): under the condition each names, the command answers the next state given. That AUX_GOOD has its own level bit, and what the level and the duration of an event say, are the model's (log entry 139); when the firmware of a boot runs is too (log entry 138). -/
def Obligations.SupplyEventsComplete : Prop :=
  (∀ (s : State) (mv : Nat) (below crc seeds : Bool), s.pwr.auxGood = false → 3135 ≤ mv →
    exec (.aux3v3Present ⟨mv, below⟩ crc seeds) s = .next (State.startReset
      { s with
        pwr := { s.pwr with auxGood := true, auxHigh := decide (3465 < mv), auxAt := s.clk, vbatAt := s.clk, mainLoss := false }
        ret := { latch := s.ret.latch || below, record := { s.ret.record with valid := s.ret.record.valid && crc } } }
      true "AUX_3V3" srcMgt)) ∧
  (∀ (s : State) (mv : Nat) (below crc seeds : Bool), s.pwr.auxGood = true → 3135 ≤ mv →
    exec (.aux3v3Present ⟨mv, below⟩ crc seeds) s = .next { s with pwr := { s.pwr with auxHigh := decide (3465 < mv) } }) ∧
  (∀ s : State, s.pwr.auxGood = true → ∃ t, exec .aux3v3Loss s = .next t ∧
    t.pwr.auxGood = false ∧ t.pwr.mainGood = false ∧ t.top.ready = false ∧ t.log.buf = [] ∧ t.mem = {} ∧
    t.ret = s.ret ∧ t.fw.svn = s.fw.svn ∧ t.fw.nor = s.fw.nor ∧ t.log.nor = s.log.nor ∧ t.sec.slots = s.sec.slots ∧
    t.pending = s.pending) ∧
  (∀ s : State, s.pwr.auxGood = true → s.pwr.vinGood = true → s.pwr.converters = false → s.saf.thermal ≠ .trip →
    s.pwr.auxAt + msTicks 10 ≤ s.clk →
    exec .mainConverterStart s = .next (if s.top.bootPending then
        State.bootNow { s with pwr := { s.pwr with converters := true } }
      else { s with pwr := { s.pwr with converters := true } })) ∧
  (∀ s : State, s.pwr.converters = true → s.pwr.mainGood = false → s.top.bootPending = false →
    ∃ t, exec .mainRailsGood s = .next t ∧
      t.pwr.mainGood = true ∧ t.pwr.mainGoodAt = s.clk ∧ t.hif = { s.hif with linkUp := !s.pwr.perst } ∧
      t.mem = s.mem ∧ t.fw = s.fw ∧ t.saf = s.saf ∧ t.rsq = s.rsq ∧ t.nec = s.nec ∧ t.pending = s.pending ∧ t.clk = s.clk ∧
      (s.top.timePending = true → s.pwr.lost = true → t.tmg.gtc = 0 ∧ t.top.gtcSet = false) ∧
      (s.ret.latch = true → t.ret.latch = false)) ∧
  (∀ s : State, s.pwr.converters = true → s.pwr.mainGood = false → s.top.bootPending = true →
    exec .mainRailsGood s = .next (State.bootNow { s with
      pwr := { s.pwr with mainGood := true, mainGoodAt := s.clk }, hif := { s.hif with linkUp := !s.pwr.perst } })) ∧
  (∀ (s : State) (mv ns : Nat), s.pwr.auxGood = true → s.pwr.vinGood = true → (mv < 32500 ∨ 63000 < mv) → 10000 ≤ ns →
    ∃ t, exec (.mainPowerLoss ⟨mv, ns⟩) s = .next t ∧
    t.pwr.vinGood = false ∧ t.pwr.mainGood = false ∧ t.pwr.mainLoss = true ∧ t.pwr.auxGood = true ∧ t.top.ready = false ∧
    t.hif = {} ∧ t.rsq = {} ∧ t.cin = {} ∧ t.sw = {} ∧ t.stg = {} ∧ t.nec = {} ∧ t.mem = {} ∧ t.fab = {} ∧
    t.img.sect.get 0 = s.img.sect.get 0 ∧ t.img.sect.get 1 = s.img.sect.get 1 ∧ t.fw = s.fw ∧ t.log = s.log ∧
    (s.top.armed = true → t.saf.events = s.saf.events ++ [{ cause := 0x09, gtc := s.gtcNs, source := srcSaf }])) ∧
  (∀ (s : State) (mv ns : Nat), (mv < 32500 ∨ 63000 < mv) → ns < 10000 → exec (.mainPowerLoss ⟨mv, ns⟩) s = .next s) ∧
  (∀ (s : State) (mv ns : Nat), s.pwr.auxGood = true → s.pwr.vinGood = false → 34000 < mv →
    (s.pwr.vinOver = true → mv ≤ 60000 ∧ 10000 ≤ ns) →
    exec (.mainPowerReturn ⟨mv, ns⟩) s = .next (State.startReset
      { s with
        pwr := { s.pwr with vinGood := true, vinMv := mv, vinOver := false }
        saf := { s.saf with thermal := if s.saf.thermal = .trip then .normal else s.saf.thermal } }
      false "main power" srcMgt))

/-- The requests for a reset (R36, R37, R87, R715; SAF's, Table 1-9: when it may ask is the model's choice, log entry 140). What the reset itself does is `ResetClearsTheBoard`. -/
def Obligations.ResetRequestsComplete : Prop :=
  (∀ s : State, s.pwr.perst = false → s.pwr.auxGood = true →
    exec .perstNAssert s = .next (State.startReset
      { s with pwr := { s.pwr with perst := true }, hif := { s.hif with linkUp := false } } false "PERST_N" (srcPart 0))) ∧
  (∀ s : State, exec .perstNDeassert s =
    .next { s with pwr := { s.pwr with perst := false }, hif := { s.hif with linkUp := s.pwr.mainGood } }) ∧
  (∀ s : State, s.pwr.brdRst = false → s.pwr.auxGood = true →
    exec .brdRstNAssert s = .next (State.startReset { s with pwr := { s.pwr with brdRst := true } } true "BRD_RST_N" srcMgt)) ∧
  (∀ s : State, exec .brdRstNDeassert s = .next { s with pwr := { s.pwr with brdRst := false } }) ∧
  (∀ (s : State) (f : Part) (w : U32), exec (.warmBoardReset (.host f) w) s = .next (
    if f = 0 ∧ wbits w 31 16 = 0x5AFE ∧ wbits w 2 0 = 4 ∧ (s.top.ready = true ∨ s.top.recovery = true)
    then s.startReset false "TOP_RESET" (srcPart 0) else s)) ∧
  (∀ (s : State) (w : U32), s.safRuns = true → exec (.warmBoardReset .saf w) s = .next (s.startReset false "SAF" srcSaf)) ∧
  (∀ (s : State) (f : Part) (w : U32), exec (.coldReset f w) s = .next (
    if f = 0 ∧ wbits w 31 16 = 0x5AFE ∧ wbits w 2 0 = 5 ∧ (s.top.ready = true ∨ s.top.recovery = true)
    then s.startReset true "TOP_RESET" (srcPart 0) else s)) ∧
  (∀ s : State, s.pwr.mainGood = true → s.top.ready = false → s.top.recovery = false → s.pwr.mainGoodAt + secTicks 2 ≤ s.clk →
    exec .bootWatchdogExpiry s = .next (s.startReset false "boot watchdog" srcMgt (force := true)))

/-- What a reset of level 4 (`cold` false) or 5 leaves (Table 1-9), and that a request at or below the level in progress is absorbed (R34). The values that the spec gives no reset value for are the model's choice; none is named here. -/
def Obligations.ResetClearsTheBoard : Prop :=
  (∀ (s : State) (cold : Bool) (cause : String) (source : Nat) (force : Bool),
    (∀ l, s.top.resetting = some l → l.toNat < (if cold then 5 else 4) ∨ force = true) →
    let t := s.startReset cold cause source force
    t.top.lastReset = (if cold then 5 else 4) ∧ t.top.ready = false ∧ t.top.bootPending = true ∧ t.top.armed = (!cold && s.top.armed) ∧
    t.mem = {} ∧ t.hif.queues = [] ∧ t.nec = {} ∧ t.rsq = {} ∧ t.stg = {} ∧ t.sw = {} ∧ t.fab = {} ∧
    (cold = false → t.saf = s.saf) ∧ t.sec.slots = s.sec.slots ∧ t.clk = s.clk ∧ t.pending = s.pending) ∧
  (∀ (s : State) (cold : Bool) (cause : String) (source : Nat) (l : BitVec 3), s.top.resetting = some l →
    (if cold then 5 else 4) ≤ l.toNat → s.startReset cold cause source = s)

/-- The end of the boot (Table 3-2 step 9), the loss latch (R71, R79), the VBAT measurement (R77) and the retention record (Table 2-8). -/
def Obligations.PowerBookkeeping : Prop :=
  (∀ s : State, s.top.resetting.isSome = true → s.pwr.mainGood = true → s.top.mgtUp = true → s.top.bootBlocked = false →
    s.top.recovery = false →
    exec .bootDone s = .next (
      let u := s.note srcMgt 0 0x0001 0 [s.fw.slot.toNat, s.top.lastReset.toNat]
      { u with top := { s.top with ready := true, resetting := none }, mem := { s.mem with ready := true } })) ∧
  (∀ s : State, (s.pwr.auxGood && s.pwr.vinGood) = false → exec .lossLatchSet s = .next { s with ret := { s.ret with latch := true } }) ∧
  (∀ s : State, s.pwr.auxGood = true → s.pwr.vinGood = true → ∃ log, exec .lossLatchSet s = .next { s with
    ret := { latch := true, record := { s.ret.record with valid := false } }
    pwr := { s.pwr with runDip := true }, log := log }) ∧
  (∀ (s : State) (mv : Nat), s.pwr.auxGood = true → s.pwr.vbatAt + secTicks 1 ≤ s.clk →
    exec (.vbatMeasurement mv) s = .next { s with pwr := { s.pwr with
      vbatMv := BitVec.ofNat 16 (min mv 0xFFFF), vbatLow := decide (mv < 2200), vbatAbsent := decide (mv < 1000), vbatAt := s.clk } }) ∧
  (∀ s : State, s.pwr.auxGood = true → s.top.bootPending = false → s.pwr.mainGood = true → s.top.timePending = false →
    exec .retentionRecordUpdate s = .next { s with ret := { s.ret with record :=
      { s.ret.record with counter := s.gtcNs, alignedAt := s.clk, gtcSet := s.top.gtcSet, nextSeq := s.log.seq, valid := true } } }) ∧
  (∀ s : State, s.pwr.auxGood = true → s.top.bootPending = false → (s.pwr.mainGood && !s.top.timePending) = false →
    exec .retentionRecordUpdate s = .next { s with ret := { s.ret with record :=
      { s.ret.record with nextSeq := s.log.seq, valid := true } } })

/-- The firmware actions as they are written (R93, R94, R102, R117, R118). That CODE 4 comes before CODE 5 and outside recovery only is the model's reading (log entry 47). -/
def Obligations.FirmwareActionsAreTaken : Prop :=
  (∀ (s : State) (w : U32), wbits w 31 16 = 0xF1A5 → wbits w 2 0 = 1 → s.top.ready = true → s.fw.busy = none →
    exec (.markTrial 0 w) s = .next { s with fw := { s.fw with busy := some (.markTrial, compField w) } }) ∧
  (∀ (s : State) (w : U32), wbits w 31 16 = 0xF1A5 → wbits w 2 0 = 2 → s.top.ready = true → s.fw.busy = none →
    exec (.commit 0 w) s = .next { s with fw := { s.fw with busy := some (.commit, compField w) } }) ∧
  (∀ (s : State) (w : U32), wbits w 31 16 = 0xF1A5 → wbits w 2 0 = 3 → s.top.ready = true → s.fw.busy = none →
    exec (.cancelTrial 0 w) s = .next { s with fw := { s.fw with busy := some (.cancelTrial, compField w) } }) ∧
  (∀ (s : State) (w : U32), wbits w 31 16 = 0xF1A5 → wbits w 2 0 = 4 → s.top.ready = true → s.fw.busy = none →
    (s.fw.entry (compField w)).trial = false → ∃ fw, exec (.burnSvn 0 w) s = .next { s with fw := fw } ∧
      fw.busy = some (.burnSvn, compField w) ∧ fw.svn = s.fw.svn ∧
      fw.entry (compField w) = { s.fw.entry (compField w) with
        burn := some (Config.fwSvn (compField w) (s.fw.image (compField w) (s.fw.entry (compField w)).active)).val }) ∧
  (∀ (s : State) (w : U32), wbits w 31 16 = 0xF1A5 → s.top.ready = true → s.fw.busy.isSome = true →
    (wbits w 2 0 = 1 → exec (.markTrial 0 w) s = .next { s with fw := { s.fw with code := 5 } }) ∧
    (wbits w 2 0 = 2 → exec (.commit 0 w) s = .next { s with fw := { s.fw with code := 5 } }) ∧
    (wbits w 2 0 = 3 → exec (.cancelTrial 0 w) s = .next { s with fw := { s.fw with code := 5 } }) ∧
    (wbits w 2 0 = 4 → exec (.burnSvn 0 w) s = .next { s with fw := { s.fw with code := 5 } })) ∧
  (∀ (s : State) (w : U32), wbits w 31 16 = 0xF1A5 → s.top.ready = false → s.top.recovery = false →
    (wbits w 2 0 = 2 → exec (.commit 0 w) s = .next { s with fw := { s.fw with code := 4 } }) ∧
    (wbits w 2 0 = 3 → exec (.cancelTrial 0 w) s = .next { s with fw := { s.fw with code := 4 } }))

/-- The end of a firmware action (R89, R90, R93, R94, R100, R101, R118). That a trial mark is judged before the image is the model's reading (log entry 47). -/
def Obligations.FirmwareActionsEnd : Prop :=
  (∀ (s : State) (c : Fin 4), s.fw.busy = some (.markTrial, c) → ∃ fw log, exec .fwActionDone s = .next { s with fw := fw, log := log } ∧
    fw.busy = none ∧ fw.svn = s.fw.svn ∧
    fw.code = (if (s.fw.entry c).trial then 3
      else if !Config.fwVerifies c (s.fw.image c (!(s.fw.entry c).active)) then 1
      else if (Config.fwSvn c (s.fw.image c (!(s.fw.entry c).active))).val < (s.fw.svn.get c).val then 2 else 0) ∧
    (fw.code = 0 → fw.entry c = { s.fw.entry c with trial := true, attempts := 3 }) ∧
    (fw.code ≠ 0 → fw.ctl = s.fw.ctl ∧ log = s.log)) ∧
  (∀ (s : State) (c : Fin 4), s.fw.busy = some (.commit, c) → ∃ fw log, exec .fwActionDone s = .next { s with fw := fw, log := log } ∧
    fw.busy = none ∧ fw.svn = s.fw.svn ∧ fw.code = 0 ∧ (fw.entry c).active = s.fw.slot.getLsbD c ∧
    (s.fw.slot.getLsbD c ≠ (s.fw.entry c).active → (fw.entry c).trial = false ∧ (fw.entry c).attempts = 0) ∧
    (s.fw.slot.getLsbD c = (s.fw.entry c).active → fw.ctl = s.fw.ctl ∧ log = s.log)) ∧
  (∀ (s : State) (c : Fin 4), s.fw.busy = some (.cancelTrial, c) → ∃ fw log, exec .fwActionDone s = .next { s with fw := fw, log := log } ∧
    fw.busy = none ∧ fw.svn = s.fw.svn ∧ fw.code = 0 ∧ (fw.entry c).trial = false ∧ (fw.entry c).active = (s.fw.entry c).active ∧
    ((s.fw.entry c).trial = true → (fw.entry c).attempts = 0) ∧ ((s.fw.entry c).trial = false → fw.ctl = s.fw.ctl ∧ log = s.log)) ∧
  (∀ (s : State) (c : Fin 4) (n : Fin 64), s.fw.busy = some (.burnSvn, c) → (s.fw.entry c).burn = some n.val →
    ∃ fw log, exec .fwActionDone s = .next { s with fw := fw, log := log } ∧ fw.busy = none ∧ fw.code = 0 ∧
      (fw.entry c).burn = none ∧ fw.svn = s.fw.svn.set c (max (s.fw.svn.get c) n)) ∧
  (∀ (s : State) (c : Fin 4), s.fw.busy = some (.burnSvn, c) → (s.fw.entry c).burn = none → (s.fw.entry c).trial = true →
    exec .fwActionDone s = .next { s with fw := { s.fw with busy := none, code := 3 } })

/-- The recovery mailbox (R119, R120). RUN and PROGRAM not being taken while an action runs is the model's choice (log entry 7) and no clause rests on it; when the verification of a PROGRAM ends is the model's choice too (log entry 141). -/
def Obligations.RecoveryMailbox : Prop :=
  (∀ (s : State) (w : U32), s.top.recovery = true → wbits w 31 16 = 0x5EC0 → wbits w 2 0 = 1 →
    exec (.recBegin 0 w) s = .next { s with recov := { s.recov with
      st := .receiving, len := 0, win := [], comp := BitVec.ofNat 2 (wbits w 5 4), result := 0, running := false } }) ∧
  (∀ (s : State) (off size : Nat) (v : U64), s.top.recovery = true → s.recov.st = .receiving → (size = 4 ∨ size = 8) →
    off % size = 0 → 0x800000 ≤ off → off + size ≤ 0xC00000 →
    exec (.recWinWrite 0 off size v) s =
      .next { s with recov := { s.recov with win := cellWrite 0 s.recov.win (off - 0x800000) (leBytes size v.toNat) } }) ∧
  (∀ (s : State) (w : U32), s.top.recovery = true → wbits w 31 16 = 0x5EC0 → wbits w 2 0 = 2 → s.recov.st = .receiving →
    exec (.recRun 0 w) s = .next { s with recov :=
      (if wbits w 5 4 ≠ 0 then { s.recov with comp := BitVec.ofNat 2 (wbits w 5 4), st := .failed, result := 5, running := false }
      else if 64 ≤ s.recov.len.toNat ∧ s.recov.len.toNat ≤ 1048576 then
        { s.recov with comp := 0, st := .verifying, result := 0, running := true }
      else { s.recov with comp := 0, st := .failed, result := 1, running := false }) }) ∧
  (∀ (s : State) (w : U32), s.top.recovery = true → wbits w 31 16 = 0x5EC0 → wbits w 2 0 = 3 → s.recov.st = .receiving →
    exec (.recProgram 0 w) s = .next { s with recov :=
      (if 1 < wbits w 5 4 then { s.recov with comp := BitVec.ofNat 2 (wbits w 5 4), st := .failed, result := 5, running := false }
      else if recLenOk (compField w) s.recov.len.toNat then
        { s.recov with comp := BitVec.ofNat 2 (wbits w 5 4), st := .verifying, result := 0, running := false }
      else { s.recov with comp := BitVec.ofNat 2 (wbits w 5 4), st := .failed, result := 1, running := false }) }) ∧
  (∀ s : State, s.top.recovery = true → s.recov.st = .verifying → s.recov.running = false →
    s.endVerify = { s with recov := match s.recCheck ⟨s.recov.comp.toNat, s.recov.comp.isLt⟩ with
      | some r => { s.recov with st := .failed, result := r, running := false }
      | none => { s.recov with st := .writing } }) ∧
  (∀ s : State, s.top.recovery = true → s.recov.st = .writing → ∃ fw, exec (.recoveryProgramDone true) s =
      .next { s with fw := fw, recov := { s.recov with st := .idle, result := 0 } } ∧
    (fw.entry ⟨s.recov.comp.toNat, s.recov.comp.isLt⟩).active = false ∧
    (fw.entry ⟨s.recov.comp.toNat, s.recov.comp.isLt⟩).trial = false ∧ fw.svn = s.fw.svn) ∧
  (∀ s : State, s.top.recovery = true → s.recov.st = .writing → exec (.recoveryProgramDone false) s =
    .next { s with recov := { s.recov with st := .failed, result := 4, running := false } }) ∧
  (∀ s : State, s.top.recovery = true → s.recov.st = .verifying → s.recov.running = true →
    ∃ t, exec .recoveryRunDone s = .next t ∧ t.fw.svn = s.fw.svn ∧ t.mem = s.mem ∧ t.pending = s.pending ∧
      match s.recCheck 0 with
      | some r => t.recov.st = .failed ∧ t.recov.result = r ∧ t.fw = s.fw
      | none => t.recov.st = .idle ∧ (t.top.recovery = true → t.recov.cause = 2))

/-- The doorbells (R126, R127) and Q_CTL writes (R160 to R162) on an accessible queue. What a CQ head at or above the ring size does is the model's choice (log entry 10), and no clause rests on it. -/
def Obligations.DoorbellsAndQueueControl : Prop :=
  (∀ (s : State) (f : Part) (q : Fin 64) (i : BitVec 16), s.queueAccess f q = true → (s.queue f q).enable = true →
    (s.queue f q).st = .running → i.toNat < (s.queue f q).ring →
    exec (.sqTailDoorbell f q i) s = .next (s.setQueue f q { s.queue f q with
      sqTail := i.toNat
      rung := (s.queue f q).rung + (i.toNat + (s.queue f q).ring - (s.queue f q).sqTail) % (s.queue f q).ring })) ∧
  (∀ (s : State) (f : Part) (q : Fin 64) (i : BitVec 16), s.queueAccess f q = true → (s.queue f q).enable = true →
    (s.queue f q).st = .running → (s.queue f q).ring ≤ i.toNat → ∃ t, exec (.sqTailDoorbell f q i) s = .next t ∧
      t = { s with hif := t.hif } ∧ s.otherQueues t f q ∧ t.queue f q = { s.queue f q with st := .halted, error := 1 } ∧
      t.hif.fns[f].cause = s.hif.fns[f].cause ||| 16) ∧
  (∀ (s : State) (f : Part) (q : Fin 64) (i : BitVec 16), s.queueAccess f q = true → (s.queue f q).st = .running →
    i.toNat < (s.queue f q).ring →
    exec (.cqHeadDoorbell f q i) s = .next (s.setQueue f q { s.queue f q with cqHead := i.toNat })) ∧
  (∀ (s : State) (f : Part) (q : Fin 64) (w : U32), s.queueAccess f q = true → w.getLsbD 31 = true → wbits w 3 0 ≤ 12 →
    w.getLsbD 30 = false → (s.queue f q).enable = false → (s.queue f q).st = .disabled → (s.queue f q).aborts = [] →
    exec (.queueEnable f q w) s = .next (s.setQueue f q { s.queue f q with
      enable := true, safety := false, vector := BitVec.ofNat 6 (wbits w 21 16), sizeLog2 := wbits w 3 0, error := 0
      st := .running, e := (s.queue f q).seqInit, accepted := 0, sqHead := 0, sqTail := 0, cqHead := 0, cqTail := 0
      phase := true, cmds := [], fetched := (s.queue f q).rung, posted := (s.queue f q).rung, hist := []
      coalPosted := 0, coalSince := none })) ∧
  (∀ (s : State) (f : Part) (q : Fin 64) (w : U32), s.queueAccess f q = true → w.getLsbD 31 = false → wbits w 3 0 ≤ 12 →
    w.getLsbD 30 = false → (s.queue f q).enable = true → ∃ t, exec (.queueDisable f q w) s = .next t ∧
      t = { s with hif := t.hif } ∧ s.otherQueues t f q ∧ t.hif.fns = s.hif.fns ∧
      t.queue f q = { s.queue f q with
        enable := false, safety := false, vector := BitVec.ofNat 6 (wbits w 21 16)
        st := if (s.queue f q).cmds.isEmpty then .disabled else (s.queue f q).st })

/-- The fetch of a descriptor (R123, R681), the posting of a completion (R133, R134, R682) and the coalescing time (R149). That a poisoned fetch counts as a failed one is the model's choice (log entry 11). -/
def Obligations.DescriptorFetchAndPosting : Prop :=
  (∀ (s : State) (f : Part) (q : Fin 64) (b : Bytes), s.mayFetch f q = true →
    exec (.descriptorFetch f q (some b) false) s = .next (s.takeDescriptor f q (slice b 0 64))) ∧
  (∀ (s : State) (f : Part) (q : Fin 64) (b : Option Bytes) (ep : Bool), s.mayFetch f q = true → (b = none ∨ ep = true) → ∃ t,
    exec (.descriptorFetch f q b ep) s = .next t ∧ t = { s with hif := t.hif } ∧ s.otherQueues t f q ∧
      t.queue f q = { s.queue f q with st := .halted, error := 2 }) ∧
  (∀ (s : State) (f : Part) (q : Fin 64) (c : Cmd) (rest : List Cmd), (s.queue f q).cmds = c :: rest → c.fixed = true →
    c.kind = .execute → bit c.flags 0 = true → (s.queue f q).error ≠ 3 → (s.queue f q).enable = true →
    ∃ t, exec (.completionPost f q true true) s = .next t ∧ t = { s with hif := t.hif, out := t.out } ∧ s.otherQueues t f q ∧
      t.queue f q = { s.queue f q with
        cmds := rest, posted := (s.queue f q).posted + 1
        cqTail := if (s.queue f q).cqTail + 1 = (s.queue f q).ring then 0 else (s.queue f q).cqTail + 1
        phase := if (s.queue f q).cqTail + 1 = (s.queue f q).ring then !(s.queue f q).phase else (s.queue f q).phase } ∧
      t.out = s.out ++ [Out.completion f q ((s.queue f q).cqBase.toNat + 16 * (s.queue f q).cqTail)
        (completionEntry s.gtcNs c.seq (c.outcome.getD (0, 0, srcPart f)).1 (c.outcome.getD (0, 0, srcPart f)).2.1
          (c.outcome.getD (0, 0, srcPart f)).2.2 (s.queue f q).phase)]) ∧
  (∀ (s : State) (f : Part) (q : Fin 64) (c : Cmd) (rest : List Cmd), (s.queue f q).cmds = c :: rest → c.fixed = true →
    (s.queue f q).error ≠ 3 → (s.queue f q).enable = true →
    ∃ t, exec (.completionPost f q false true) s = .next t ∧ t = { s with hif := t.hif } ∧ s.otherQueues t f q ∧
      t.queue f q = { s.queue f q with cmds := rest, posted := (s.queue f q).posted + 1, st := .halted, error := 3 }) ∧
  (∀ (s : State) (f : Part) (q : Fin 64) (c : Nat), (s.queue f q).coalSince = some c → 0 < (s.queue f q).coalTime →
    c + usTicks (s.queue f q).coalTime ≤ s.clk →
    exec (.msiXCoalesceTimeout f q) s = .next { (s.setQueue f q { s.queue f q with coalPosted := 0, coalSince := none }) with
      out := s.out ++ [.msix f (s.queue f q).vector.toNat] })

/-- R128 with Table 4-2: what becomes of a fetched descriptor, by its sequence number. The conditions of Table 4-2 on N and d stand in the statement as it writes them. -/
def Obligations.ExactlyOnce : Prop :=
  (∀ (s : State) (f q : Nat) (d : Bytes), s.tagChecks f q d = true → BitVec.ofNat 32 (field d 4 4) = (s.queue f q).e →
    let t := s.takeDescriptor f q d
    (t.queue f q).e = (s.queue f q).e + 1 ∧ s.otherQueues t f q ∧ t = { s with hif := t.hif, out := t.out } ∧
    ∃ c, (t.queue f q).cmds.getLast? = some c ∧ c.desc = d ∧ c.kind = .execute ∧
      (s.descCheck f q d = none → c.begun = false ∧ c.fixed = false ∧ (t.queue f q).hist = (s.queue f q).hist ∧ t.out = s.out) ∧
      (∀ x, s.descCheck f q d = some x → c.fixed = true ∧ c.outcome = some (0x32, x, srcPart f))) ∧
  (∀ (s : State) (f q : Nat) (d : Bytes), s.tagChecks f q d = true → BitVec.ofNat 32 (field d 4 4) ≠ (s.queue f q).e →
    ((s.queue f q).e - 1 - BitVec.ofNat 32 (field d 4 4)).toNat < min 65536 (s.queue f q).accepted →
    let t := s.takeDescriptor f q d
    (t.queue f q).e = (s.queue f q).e ∧ (t.queue f q).hist = (s.queue f q).hist ∧ s.otherQueues t f q ∧
    t = { s with hif := t.hif } ∧ ∃ c, (t.queue f q).cmds = (s.queue f q).cmds ++ [c] ∧ c.desc = d ∧ c.kind = .duplicate ∧ c.fixed = true ∧
      ∀ x : Queue, (x.postStatus f c true).1 = 0x01 ∧ (x.postStatus f c true).2.1 = agetD x.hist (c.seq % 65536) 0) ∧
  (∀ (s : State) (f q : Nat) (d : Bytes), s.tagChecks f q d = true → BitVec.ofNat 32 (field d 4 4) ≠ (s.queue f q).e →
    min 65536 (s.queue f q).accepted ≤ ((s.queue f q).e - 1 - BitVec.ofNat 32 (field d 4 4)).toNat →
    let t := s.takeDescriptor f q d
    (t.queue f q).e = (s.queue f q).e ∧ (t.queue f q).hist = (s.queue f q).hist ∧ s.otherQueues t f q ∧
    t = { s with hif := t.hif } ∧ ∃ c, (t.queue f q).cmds = (s.queue f q).cmds ++ [c] ∧ c.desc = d ∧ c.kind = .stale ∧ c.fixed = true ∧
      ∀ x : Queue, (x.postStatus f c true).1 = 0x02 ∧ (x.postStatus f c true).2.1 = 0)

/-- NOP, FENCE, the release of a FENCE and the last effect of a command (R129, R138, R680). `State.fix` is what all of them end in; the last clause says what it does. -/
def Obligations.CommandStatusIsFixed : Prop :=
  (∀ (s : State) (f : Part) (q : Fin 64) (c : Cmd), s.front f q 0x00 = some c →
    exec (.nop f q) s = .next (s.fix f q c.pos 0x00 0 (srcPart f))) ∧
  (∀ (s : State) (f : Part) (q : Fin 64) (c : Cmd), s.front f q 0x01 = some c → s.fenceMet f q c = true →
    exec (.fence f q) s = .next (s.fix f q c.pos 0x00 0 (srcPart f))) ∧
  (∀ (s : State) (f : Part) (q : Fin 64) (c : Cmd), s.front f q 0x01 = some c → s.fenceMet f q c = false →
    exec (.fence f q) s = .next (s.setQueue f q { s.queue f q with
      cmds := (s.queue f q).cmds.map fun x => if x.pos = c.pos then { x with begun := true } else x })) ∧
  (∀ (s : State) (f : Part) (q : Fin 64) (c : Cmd),
    (s.queue f q).cmds.find? (fun c => c.kind = .execute && c.opcode = 0x01 && c.begun && !c.fixed) = some c →
    s.fenceMet f q c = true → exec (.fenceRelease f q) s = .next (s.fix f q c.pos 0x00 0 (srcPart f))) ∧
  (∀ (s : State) (f : Part) (q : Fin 64) (seq : U32) (p l : Bool) (c : Cmd) (st det src : Nat),
    (s.queue f q).cmds.find? (fun c => c.kind = .execute && c.seq = seq.toNat && c.begun && !c.fixed && c.outcome.isSome) = some c →
    c.outcome = some (st, det, src) → s.working f q c.seq = false → s.fab.unans = [] → s.fab.waitReq = [] →
    s.sec.loading = [] → (f = 0 ∨ s.sec.switch = none) →
    exec (.commandEffectDone f q seq p l) s = .next (if st ≠ 0 then s.fix f q c.pos st det src
      else if c.lost || l then s.fix f q c.pos 0x21 0 src
      else if c.poisoned || p then s.fix f q c.pos 0x20 0 src else s.fix f q c.pos 0 det src)) ∧
  (∀ (s : State) (f : Part) (q : Fin 64) (pos st det src : Nat) (c : Cmd),
    (s.queue f q).cmds.find? (fun c => c.pos = pos && !c.fixed) = some c → c.kind = .execute →
    let t := s.fix f q pos st det src
    t = { s with hif := t.hif, out := t.out } ∧ s.otherQueues t f q ∧
    t.queue f q = { s.queue f q with
      cmds := (s.queue f q).cmds.map fun c =>
        if c.pos = pos then { c with begun := true, fixed := true, outcome := some (st, det, src) } else c
      hist := aset (s.queue f q).hist (c.seq % 65536) st } ∧
    t.out = s.out ++ [.hostWrite f ((s.queue f q).histBase.toNat + c.seq % 65536) [BitVec.ofNat 8 st] false] ∧
    (st = 0x20 ∨ st = 0x21 → t.hif.fns[f].cause = s.hif.fns[f].cause ||| 8) ∧ (st ≠ 0x20 → st ≠ 0x21 → t.hif.fns = s.hif.fns))

/-- R714: an access that breaks R39. What the MSI-X structures do with one is left to the PCI Express Base specification and to no clause. -/
def Obligations.MalformedBarAccess : Prop :=
  (∀ (s : State) (f : Part) (bar : Bar) (off size : Nat), wellSized off size = false → s.barHas f bar off size = true →
    inMsix bar off = false → exec (.malformedBarAccess f bar off size false) s = .next { s with bus := .data 0 size }) ∧
  (∀ (s : State) (f : Part) (bar : Bar) (off size : Nat), wellSized off size = false → s.barHas f bar off size = true →
    inMsix bar off = false → exec (.malformedBarAccess f bar off size true) s = .next s) ∧
  (∀ (s : State) (f : Part) (bar : Bar) (off size : Nat), wellSized off size = false → s.barHas f bar off size = true →
    exec (.rcRegisterRead f bar off size) s = .next { s with bus := .data 0 size }) ∧
  (∀ (s : State) (f : Part) (bar : Bar) (off size : Nat) (v : U64), wellSized off size = false →
    exec (.registerWrite f bar off size v) s = .next s)

/-- Register accesses (R8, R14, R39, R40, R44, R714). The masking of R43 is part of what `State.peek` answers. What a malformed access of the MSI-X structures, which R714 leaves to PCI Express, brings is the model's choice (log entry 36): a free value. -/
def Obligations.RegisterAccesses : Prop :=
  (∀ (s : State) (f : Part) (bar : Bar) (off : Nat), s.barHas f bar off 4 = true → off % 4 = 0 →
    exec (.rcRegisterRead f bar off 4) s = .next { s.readEffect f bar off with bus := .data (s.peek f bar off) 4 }) ∧
  (∀ (s : State) (f : Part) (bar : Bar) (off : Nat), s.barHas f bar off 8 = true → off % 8 = 0 →
    exec (.rcRegisterRead f bar off 8) s = .next { (s.readEffect f bar off).readEffect f bar (off + 4) with
      bus := .data (s.peek f bar off + 2 ^ 32 * (s.readEffect f bar off).peek f bar (off + 4)) 8 }) ∧
  (∀ (s : State) (f : Part) (bar : Bar) (off size : Nat), s.barHas f bar off size = false →
    exec (.rcRegisterRead f bar off size) s = .next { s with bus := .unsupported }) ∧
  (∀ (s : State) (f : Part) (bar : Bar) (off : Nat) (v : U64), s.barHas f bar off 4 = true → off % 4 = 0 →
    exec (.registerWrite f bar off 4 v) s = .next (s.poke f bar off (v.setWidth 32))) ∧
  (∀ (s : State) (f : Part) (bar : Bar) (off : Nat) (v : U64), s.barHas f bar off 8 = true → off % 8 = 0 →
    exec (.registerWrite f bar off 8 v) s = .next ((s.poke f bar off (v.setWidth 32)).poke f bar (off + 4) ((v >>> 32).setWidth 32))) ∧
  (∀ s : State, s.top.ready = true → ∃ t, exec (.gtcSnapshotRead 0) s = .next t ∧
    t = { s with tmg := { s.tmg with snap := s.tmg.gtc }, bus := .data (s.tmg.gtc / 2 ^ 48 % 2 ^ 32) 4 } ∧
    exec (.rcRegisterRead 0 .bar0 0xF0004 4) t = .next { t with bus := .data (s.tmg.gtc / 2 ^ 80 % 2 ^ 32) 4 } ∧
    exec (.rcRegisterRead 0 .bar0 0xF0008 4) t = .next { t with bus := .data (s.tmg.gtc / 2 ^ 32 % 2 ^ 16) 4 }) ∧
  (∀ s : State, s.top.ready = true →
    exec (.rcRegisterRead 0 .bar0 0xC0004 4) s = .next { s with mem := { s.mem with ce := 0 }, bus := .data s.mem.ce 4 }) ∧
  (∀ (s : State) (f : Part) (off : Nat), s.top.ready = false → f.val ≠ 0 → s.exposed f = true → off + 4 ≤ 2 ^ 16 → off % 4 = 0 →
    exec (.rcRegisterRead f .bar0 off 4) s = .next { s with bus := .data 0 4 }) ∧
  (∀ (s : State) (f : Part) (bar : Bar) (off size : Nat) (write : Bool), wellSized off size = false → s.barHas f bar off size = true →
    inMsix bar off = false →
    exec (.malformedBarAccess f bar off size write) s = .next (if write then s else { s with bus := .data 0 size })) ∧
  (∀ (s : State) (f : Part) (bar : Bar) (off size : Nat), wellSized off size = false → s.barHas f bar off size = true →
    inMsix bar off = true → exec (.malformedBarAccess f bar off size false) s =
      .next { s with bus := .data (Config.freeNat s.free % 256 ^ size) size, free := s.free + 1 }) ∧
  (∀ (s : State) (f : Part) (bar : Bar) (off size : Nat), wellSized off size = false → s.barHas f bar off size = true →
    inMsix bar off = true → ∃ t, exec (.malformedBarAccess f bar off size true) s = .next t ∧ t = { s with hif := t.hif, free := t.free } ∧
      t.hif.queues = s.hif.queues ∧ (∀ g : Part, g ≠ f → t.hif.fns[g] = s.hif.fns[g]) ∧
      ((1024 ≤ off ∨ s.msixFrozen f = true) → t = s)) ∧
  (∀ (s : State) (f : Part) (bar : Bar) (off size : Nat) (write : Bool), wellSized off size = false → s.barHas f bar off size = false →
    exec (.malformedBarAccess f bar off size write) s = .next (if write then s else { s with bus := .unsupported }))

/-- The ports beside the register windows (R50, R61, R84, R119, R121, R603, R605). The widths of debug answers are the model's choice (log entry 41). -/
def Obligations.PortsBesideTheRegisters : Prop :=
  (∀ (s : State) (f : Part), s.hif.linkUp = true → exec (.configurationRequest f) s = .next { s with
    out := s.out ++ [.config f (if !s.configReady then .retry else if s.exposed f then .shown s.hif.vfs.toNat else .absent)] }) ∧
  (∀ s : State, s.pwr.auxGood = true → s.top.mgtUp = true → s.pwr.brdRst = false →
    exec (.smbusTransaction (0x58 + s.pwr.ga.toNat)) s = .next { s with out := s.out ++ [.smbusAck] }) ∧
  (∀ (s : State) (a : Nat), bit s.debugFeatures 3 = true → s.inBoardMem a 64 = true →
    exec (.debugPortAccess (.mem a)) s = .next { s with out := s.out ++ [.answer (s.mem.read a 64)] }) ∧
  (∀ (s : State) (a : Nat), bit s.debugFeatures 3 = false →
    exec (.debugPortAccess (.mem a)) s = .next { s with out := s.out ++ [.answer (List.replicate 64 0)] }) ∧
  (∀ (s : State) (off : Nat), bit s.debugFeatures 1 = true →
    exec (.debugPortAccess (.reg off)) s = .next { s with out := s.out ++ [.answer (leBytes 4 (s.unmaskedReg off))] }) ∧
  (∀ (s : State) (c : Fin 64) (on : Bool), bit s.debugFeatures 2 = true → s.top.armed = false →
    exec (.debugPortAccess (.halt c on)) s = .next (s.setCore c { s.core c with halted := on, stepOne := false })) ∧
  (∀ (s : State) (c : Fin 64) (on : Bool), s.top.armed = true →
    exec (.debugPortAccess (.halt c on)) s = .next s ∧ exec (.debugPortAccess (.step c)) s = .next s)

/-- A partition reset (R34, R141, R164, R166, Table 4-13). The third clause covers a VF with routes, which are forced to stop as well. -/
def Obligations.PartitionResetCommands : Prop :=
  (∀ (s : State) (f : Part), s.top.ready = true → f.val ≠ 0 → s.exposed f = true → s.hif.fns[f].resetDone = true →
    s.sec.switch = none → s.struct.partRoutes f = 0 → ∃ t, exec (.vfFlr f) s = .next t ∧ t.hif.fns[f].resetDone = false ∧
      t.hif.fns[f].tdi = .configUnlocked ∧ t.rsq.routes = s.rsq.routes ∧ t.pending = s.pending ∧
      (∀ q : Fin 64, (t.queue f q).enable = false ∧ (t.queue f q).st = .disabled ∧ (t.queue f q).cmds = [] ∧
        ((s.queue f q).aborts = [] → (t.queue f q).abortCount = (s.queue f q).cmds.length ∧
          (t.queue f q).aborts.map (·.seq) = (s.queue f q).cmds.map (·.seq) ∧
          ∀ c rest, (s.queue f q).cmds = c :: rest → (t.queue f q).abortFirst = BitVec.ofNat 32 c.seq)) ∧
      (∀ (g : Part) (q : Fin 64), g ≠ f → t.queue g q = s.queue g q)) ∧
  (∀ (s : State) (f : Part), s.top.ready = true → f.val ≠ 0 → s.exposed f = true →
    (s.hif.fns[f].resetDone = false ∨ s.sec.switch.isSome = true) → exec (.vfFlr f) s = .next { s with
      hif := { s.hif with fns := s.hif.fns.set f { s.hif.fns[f] with tdi := .configUnlocked } } }) ∧
  (∀ (s : State) (f : Part), s.top.ready = true → f.val ≠ 0 → s.exposed f = true →
    exec (.vfFlr f) s = .next (s.partitionReset f .configUnlocked "FLR")) ∧
  (∀ (s : State) (f : Part), s.hif.fns[f].resetDone = false → s.sec.switch = none → s.struct.partRoutes f = 0 →
    ∃ t, exec (.partitionResetDone f) s = .next t ∧ t = { s with hif := t.hif } ∧ t.hif.fns[f].resetDone = true ∧
      (∀ q : Fin 64, t.queue f q = { abortFirst := (s.queue f q).abortFirst, abortCount := (s.queue f q).abortCount
                                     aborts := (s.queue f q).aborts
                                     rung := (s.queue f q).rung, fetched := (s.queue f q).rung, posted := (s.queue f q).rung }) ∧
      (∀ (g : Part) (q : Fin 64), g ≠ f → t.queue g q = s.queue g q)) ∧
  (∀ (s : State) (f : Part), s.sec.switch.isSome = true → exec (.partitionResetDone f) s = .next s)

/-- Starting and stopping a route (R259 to R263, R265). That a stop of a stopped route completes OK at once is the model's reading (log entry 64). -/
def Obligations.RouteStartsAndStops : Prop :=
  (∀ (s : State) (f : Part) (q : Fin 64) (c : Cmd), s.front f q 0x20 = some c → c.target < 16 → s.img.immediateBusy = false →
    s.routeAllowed f c.target = true → ((s.route c.target).st = .ready ∨ (s.route c.target).st = .faulted) →
    ∃ t, exec (.routeStart f q) s = .next t ∧ t.mem = s.mem ∧ (∀ r, r ≠ c.target → t.route r = s.route r) ∧
      t.route c.target = { s.route c.target with st := .starting, fault := 0, decimating := none, skips256 := [] }) ∧
  (∀ (s : State) (f : Part) (q : Fin 64) (c : Cmd), s.front f q 0x20 = some c → s.img.immediateBusy = false →
    s.routeAllowed f c.target = true → ((s.route c.target).st = .starting ∨ (s.route c.target).st = .running) →
    exec (.routeStart f q) s = .next (s.fix f q c.pos 0x00 0 (srcRoute c.target))) ∧
  (∀ (s : State) (f : Part) (q : Fin 64) (c : Cmd), s.front f q 0x21 = some c → c.target < 16 → c.param 0 1 = 0 →
    s.routeAllowed f c.target = true → ((s.route c.target).st = .starting ∨ (s.route c.target).st = .running) →
    ((s.route c.target).frames.all fun x => x.inFlight && !x.aborted) = true → (s.route c.target).frames ≠ [] →
    ∃ t, exec (.routeStopAtBoundary f q) s = .next t ∧ t.mem = s.mem ∧ (∀ r, r ≠ c.target → t.route r = s.route r) ∧
      t.route c.target = { s.route c.target with st := .stopping }) ∧
  (∀ (s : State) (f : Part) (q : Fin 64) (c : Cmd), s.front f q 0x21 = some c → c.target < 16 → c.param 0 1 = 1 →
    s.routeAllowed f c.target = true →
    ((s.route c.target).st = .starting ∨ (s.route c.target).st = .running ∨ (s.route c.target).st = .stopping) →
    ((s.route c.target).frames.all fun x => x.inFlight && !x.idle) = true → (s.route c.target).frames ≠ [] →
    ∃ t, exec (.routeStopForce f q) s = .next t ∧
      (∀ r, r ≠ c.target → (t.route r).unmarked = (s.route r).unmarked) ∧
      (t.route c.target).unmarked = Route.unmarked { s.route c.target with
        st := .stopping, forced := true
        frames := (s.route c.target).frames.map fun x => { x with aborted := true, swapDone := true } }) ∧
  (∀ (s : State) (f : Part) (q : Fin 64) (c : Cmd), s.front f q 0x21 = some c → s.routeAllowed f c.target = true →
    (s.route c.target).stopped = true →
    (c.param 0 1 = 0 → exec (.routeStopAtBoundary f q) s = .next (s.fix f q c.pos 0x00 0 (srcRoute c.target))) ∧
    (c.param 0 1 = 1 → exec (.routeStopForce f q) s = .next (s.fix f q c.pos 0x00 0 (srcRoute c.target)))) ∧
  (∀ (s : State) (r : Fin 16), (s.route r).st = .running →
    ((s.route r).frames.all fun x => x.inFlight && !x.idle) = true → (s.route r).frames ≠ [] →
    ∃ t, exec (.streamCreditError r) s = .next t ∧ (∀ k : Nat, k ≠ r → (t.route k).unmarked = (s.route k).unmarked) ∧
      (t.route r).unmarked = Route.unmarked { s.route r with
        st := .stopping, fault := 3, faulting := true, forced := true
        frames := (s.route r).frames.map fun x => { x with aborted := true, swapDone := true } })

/-- The frame's life (R219 to R255). `State.ready`, `State.wins` and `State.slotGate` are the conditions of R228, R229, R242 and R244; the order of the partitions in `State.wins` is the model's choice (log entries 100, 159), and so is the instant at which a node ends (log entry 132). -/
def Obligations.NodesRunAndFramesRetire : Prop :=
  (∀ (s : State) (r : Fin 16) (id n : Nat) (f : Frame) (c : Bytes), s.frame r id = some f → (s.frameStruct f).node r n = some c →
    byteAt c 8 = 2 → s.ready r f n = true → s.engineFree r id (field c 6 2) = true → s.wins r f n (field c 6 2) = true →
    s.slotGate r (field c 6 2) (field c 16 4) = true →
    ∃ t, exec (.chainedDispatch r id n) s = .next t ∧ (∀ k : Nat, k ≠ r → (t.route k).unmarked = (s.route k).unmarked) ∧
      t.mem = s.mem ∧ (t.route r).unmarked = Route.unmarked { s.route r with
        frames := (s.route r).frames.map fun x => if x.id = id then
          { x with nodes := x.nodes.map fun m => if m.node = n then
            { m with
              st := .running, engine := field c 6 2, at_ := s.gtcNs, clk := s.clk, budget := field c 16 4, recd := c
              tasting := ((s.frameStruct f).tasting r (field c 6 2)).isSome &&
                !f.nodes.any fun m => m.st ≠ .waiting && decide (m.engine = field c 6 2) }
            else m } else x } ∧
      (0x070 ≤ field c 6 2 ∧ field c 6 2 < 0x07A → (t.job (field c 6 2 - 0x070)).map (fun j => (j.route, j.frame, j.node)) =
        some (r.val, f.id, byteAt c 5)) ∧
      (0x080 ≤ field c 6 2 ∧ field c 6 2 < 0x0C0 → (t.core (field c 6 2 - 0x080)).holds r f.id (byteAt c 5) = true)) ∧
  (∀ (s : State) (r : Fin 16) (id n : Nat) (f : Frame) (c : Bytes), s.frame r id = some f → (s.frameStruct f).node r n = some c →
    byteAt c 8 = 1 → s.ready r f n = true → s.engineFree r id (field c 6 2) = true → s.wins r f n (field c 6 2) = true →
    s.slotGate r (field c 6 2) (field c 16 4) = true →
    ∃ t, exec (.sequencedDispatch r id n) s = .next t ∧ (∀ k : Nat, k ≠ r → (t.route k).unmarked = (s.route k).unmarked) ∧
      t.mem = s.mem ∧
      (t.route r).late = (if f.start + field c 12 4 * 1000 + 1000 < s.gtcNs then satN 0xFFFFFFFF ((s.route r).late + 1)
        else (s.route r).late) ∧
      ((t.route r).frames.map fun x => (x.id, x.nodes)) = ((s.route r).frames.map fun x => (x.id,
        if x.id = id then x.nodes.map fun m => if m.node = n then
          { m with
            st := .running, engine := field c 6 2, at_ := s.gtcNs, clk := s.clk, budget := field c 16 4, recd := c
            tasting := ((s.frameStruct f).tasting r (field c 6 2)).isSome &&
              !f.nodes.any fun m => m.st ≠ .waiting && decide (m.engine = field c 6 2) }
          else m else x.nodes)) ∧
      (0x070 ≤ field c 6 2 ∧ field c 6 2 < 0x07A → (t.job (field c 6 2 - 0x070)).map (fun j => (j.route, j.frame, j.node)) =
        some (r.val, f.id, byteAt c 5)) ∧
      (0x080 ≤ field c 6 2 ∧ field c 6 2 < 0x0C0 → (t.core (field c 6 2 - 0x080)).holds r f.id (byteAt c 5) = true)) ∧
  (∀ (s : State) (r : Fin 16) (id n : Nat) (m : NodeRun), (s.frame r id).bind (·.nodeRun n) = some m → m.st = .running →
    m.tasting = false → s.engineDone r id m = true → (s.route r).st = .running →
    ((s.route r).frames.all fun x => x.inFlight && !x.aborted) = true →
    ∃ t, exec (.nodeEnd r id n) s = .next t ∧ (∀ k : Nat, k ≠ r → t.route k = s.route k) ∧ t.mem = s.mem ∧
      (t.route r).st = .running ∧
      ((t.route r).frames.map fun x => (x.id, x.nodes.map fun k => (k.node, k.st))) = ((s.route r).frames.map fun x =>
        (x.id, x.nodes.map fun k => (k.node, if x.id = id ∧ k.node = n then .ended else k.st))) ∧
      (0x080 ≤ m.engine → t.route r = { s.route r with frames := (s.route r).frames.map fun x => if x.id = id then
        { x with nodes := x.nodes.map fun k => if k.node = n then { k with st := .ended } else k } else x })) ∧
  (∀ (s : State) (r : Fin 16) (f : Frame), (s.route r).frames.find? Frame.inFlight = some f → f.complete = true →
    (s.route r).st = .running → ((s.route r).frames.all fun x => x.inFlight && !x.aborted) = true →
    ∃ t, exec (.frameRetire r) s = .next t ∧ (∀ k : Nat, k ≠ r → t.route k = s.route k) ∧ (t.route r).st = .running ∧
      (t.route r).frames = (s.route r).frames.filter (·.id ≠ f.id) ∧ (t.route r).lastRetired = BitVec.ofNat 32 f.id) ∧
  (∀ (s : State) (r : Fin 16) (id n x : Nat) (m : NodeRun), (s.frame r id).bind (·.nodeRun n) = some m → m.st = .running →
    m.over_ = false → m.at_ + m.budget * 1000 < s.gtcNs → ∃ t, exec (.budgetOverrun r id n x) s = .next t ∧
      (∀ k : Nat, k ≠ r → t.route k = s.route k) ∧ t = { s with rsq := t.rsq, log := t.log } ∧
      (t.route r).ovrCount = satN 0xFFFF ((s.route r).ovrCount + 1) ∧ (t.route r).ovrNode = n ∧
      (t.route r).frames = (s.route r).frames.map fun f => if f.id = id then
        { f with nodes := f.nodes.map fun m => if m.node = n then { m with over_ := true } else m } else f) ∧
  (∀ (s : State) (r : Fin 16) (id : Nat) (f : Frame), s.frame r id = some f → f.missed = false → f.abandoned = none →
    f.start + field (((s.frameStruct f).route r).getD []) 12 4 * 1000 < s.gtcNs → ∃ t, exec (.deadlineMiss r id) s = .next t ∧
      (∀ k : Nat, k ≠ r → t.route k = s.route k) ∧ t = { s with rsq := t.rsq, hif := t.hif } ∧
      (t.route r).misses = satN 0xFFFFFFFF ((s.route r).misses + 1) ∧
      (t.route r).frames = (s.route r).frames.map fun x => if x.id = id then { x with missed := true } else x) ∧
  (∀ (s : State) (r : Fin 16) (id : Nat) (f : Frame), s.frame r id = some f → f.abandoned = none → f.aborted = false →
    ((otherCtxs (((s.frameStruct f).route r).getD [])).filter fun c => !f.ctxs.any (·.1 = c)) ≠ [] →
    f.start + 1000000 ≤ s.gtcNs → exec (.contextWindowExpiry r id) s = .next (s.abandon r id 4
      (((otherCtxs (((s.frameStruct f).route r).getD [])).filter fun c => !f.ctxs.any (·.1 = c)).map (2 ^ ·)).sum)) ∧
  (∀ (s : State) (r : Fin 16) (id : Nat) (f : Frame), s.frame r id = some f → f.abandoned = none → f.aborted = false →
    ((otherCtxs (((s.frameStruct f).route r).getD [])).filter fun c => !f.ctxs.any (·.1 = c)) ≠ [] →
    f.start + 1000000 ≤ s.gtcNs → (s.route r).st = .running → f.idle = false →
    ((s.route r).frames.all fun x => x.inFlight && !x.aborted && (x.id ≠ id || !x.idle)) = true →
    ∃ t, exec (.contextWindowExpiry r id) s = .next t ∧ t.mem = s.mem ∧
      (∀ k : Nat, k ≠ r → (t.route k).unmarked = (s.route k).unmarked) ∧
      (t.route r).skips = satN 0xFFFFFFFF ((s.route r).skips + 1) ∧
      (t.route r).unmarked.frames = (s.route r).frames.map fun x =>
        { (if x.id = id then { x with abandoned := some 4, missing := (((otherCtxs (((s.frameStruct f).route r).getD [])).filter fun
            c => !f.ctxs.any (·.1 = c)).map (2 ^ ·)).sum } else x) with poisoned := false })

/-- Slots (R243, R245), tasting (R634 to R636) and fatal engine errors (R265). That the node a slot is for is that of the route's newest frame in flight is the model's reading (log entry 161); what a tasting run leaves open is log entry 167. -/
def Obligations.SlotsTastingAndEngineFaults : Prop :=
  (∀ (s : State) (r : Fin 16) (i c : Nat) (x : Bytes), s.rsq.cycleAt = some c →
    (s.slotRecs r).find? (byteAt · 5 = i) = some x → (s.route r).st = .running → s.struct.safetyClass r = true →
    c + field x 8 4 * 1000 ≤ s.gtcNs → s.gtcNs < c + field x 8 4 * 1000 + field x 12 4 * 1000 →
    s.rsq.openSlots.contains (r.val, i) = false → field x 6 2 < 0x080 →
    ∃ t, exec (.slotOpen r i) s = .next t ∧ t = { s with rsq := t.rsq, log := t.log } ∧
      t.rsq = { s.rsq with
        openSlots := s.rsq.openSlots ++ [(r.val, i)]
        intrusions := match ((s.stg.inst[field x 6 2 - 0x070]?).getD {}).job with
          | some j => if s.slotServed r j.route j.frame then s.rsq.intrusions else satN 0xFFFF (s.rsq.intrusions + 1)
          | none => s.rsq.intrusions }) ∧
  (∀ (s : State) (r : Fin 16) (i c : Nat) (x : Bytes), s.rsq.cycleAt = some c →
    (s.slotRecs r).find? (byteAt · 5 = i) = some x → (s.route r).st = .running → s.struct.safetyClass r = true →
    c + field x 8 4 * 1000 ≤ s.gtcNs → s.gtcNs < c + field x 8 4 * 1000 + field x 12 4 * 1000 →
    s.rsq.openSlots.contains (r.val, i) = false → 0x080 ≤ field x 6 2 → (s.core (field x 6 2 - 0x080)).stall = none →
    ∃ t, exec (.slotOpen r i) s = .next t ∧ t = { s with rsq := t.rsq, nec := t.nec } ∧
      t.rsq = { s.rsq with openSlots := s.rsq.openSlots ++ [(r.val, i)] } ∧
      t.nec = match (s.core (field x 6 2 - 0x080)).task with
        | some k => if s.slotServed r k.route k.frame then s.nec
            else (s.setCore (field x 6 2 - 0x080) { s.core (field x 6 2 - 0x080) with preempt := true }).nec
        | none => s.nec) ∧
  (∀ (s : State) (c : Nat), s.rsq.cycleAt = some c → c + s.struct.slotCycle * 1000 ≤ s.gtcNs →
    exec .slotCycleExpiry s = .next { s with rsq := { s.rsq with cycleAt := none, openSlots := [] } }) ∧
  (∀ (s : State) (c : Bool) (i e r id n : Nat), e = engineNo c i → s.tastingNode e = some (r, id, n) → s.tasted e r id n = true →
    field (s.tastingRec r id e) 8 8 = tasteSignature e (s.tastingRec r id e) →
    exec (.tastingRunEnd c i) s = .next (s.mapFrame r id fun f => f.mapNode n fun m => { m with tasting := false })) ∧
  (∀ (s : State) (c : Bool) (i e r id n : Nat), e = engineNo c i → s.tastingNode e = some (r, id, n) → s.tasted e r id n = true →
    field (s.tastingRec r id e) 8 8 ≠ tasteSignature e (s.tastingRec r id e) → r < 16 →
    ∃ t, exec (.tastingRunEnd c i) s = .next t ∧ t.mem = s.mem ∧ t.saf.tasteFail = satN 0xFFFFFFFF (s.saf.tasteFail + 1) ∧
      ((s.structOf r id).safetyClass r = false → t.saf.events = s.saf.events) ∧
      (∀ k : Nat, k ≠ r → t.route k = s.route k) ∧
      t.route r = { s.route r with frames := (s.route r).frames.map fun f => if f.id = id then
        { f with tastingFail := true, nodes := f.nodes.map fun m => if m.node = n then { m with tasting := false } else m }
        else f }) ∧
  (∀ (s : State) (e r : Nat), ((List.range 16).find? fun r => (s.route r).frames.any fun f => f.nodes.any fun m =>
      m.st = .running && decide (m.engine = e)) = some r → (s.route r).st = .running →
    ((s.route r).frames.all fun x => x.inFlight && !x.idle) = true →
    ∃ t, exec (.engineFatalError e) s = .next t ∧ (∀ k : Nat, k ≠ r → (t.route k).unmarked = (s.route k).unmarked) ∧
      (t.route r).unmarked = Route.unmarked { s.route r with
        st := .stopping, fault := 2, faulting := true, forced := true
        frames := (s.route r).frames.map fun x => { x with aborted := true, swapDone := true } }) ∧
  (∀ (s : State) (e : Nat), ((List.range 16).all fun r => (s.route r).frames.all fun f => f.nodes.all fun m =>
      m.st ≠ .running || decide (m.engine ≠ e)) = true → exec (.engineFatalError e) s = .next s)

/-- The image-slot commands (R213 to R215) and step 1 of Table 5-8. -/
def Obligations.ImageCommands : Prop :=
  (∀ (s : State) (f : Part) (q : Fin 64) (c : Cmd) (b : Bytes) (ep : Bool), s.front f q 0x10 = some c →
    s.slotAllowed f c.target = true → 64 ≤ c.length → c.length ≤ 16777216 → (s.slot c.target).busy = false → c.target < 8 →
    ∃ t, exec (.imageLoad f q (.data b ep)) s = .next t ∧ t = { s with img := t.img, hif := t.hif } ∧
      t.slot c.target = { st := .loaded, image := slice b 0 c.length, complete := !ep } ∧
      (∀ n, n ≠ c.target → t.slot n = s.slot n) ∧ t.struct = s.struct) ∧
  (∀ (s : State) (f : Part) (q : Fin 64) (c : Cmd), s.front f q 0x10 = some c →
    s.slotAllowed f c.target = true → 64 ≤ c.length → c.length ≤ 16777216 → (s.slot c.target).busy = false → c.target < 8 →
    ∃ t, exec (.imageLoad f q .failed) s = .next t ∧ t = { s with img := t.img, hif := t.hif } ∧
      t.slot c.target = {} ∧ (∀ n, n ≠ c.target → t.slot n = s.slot n) ∧ t.struct = s.struct) ∧
  (∀ (s : State) (f : Part) (q : Fin 64) (c : Cmd), s.front f q 0x11 = some c → c.target < 8 →
    (c.param 0 1 = 1 → s.applyRefused f c.target 0 .immediate = none → ∃ t, exec (.imageApplyImmediate f q) s = .next t ∧
      t = { s with img := t.img, hif := t.hif } ∧ t.struct = s.struct ∧ t.slot c.target = { s.slot c.target with
        st := .validating, apply := some { part := f, queue := q, pos := c.pos, point := .immediate } }) ∧
    (c.param 0 1 = 2 → s.applyRefused f c.target (c.param 1 1) .frame = none → ∃ t, exec (.imageApplyFrame f q) s = .next t ∧
      t = { s with img := t.img, hif := t.hif } ∧ t.struct = s.struct ∧ t.slot c.target = { s.slot c.target with
        st := .validating, apply := some { part := f, queue := q, pos := c.pos, point := .frame, route := c.param 1 1 } }) ∧
    (c.param 0 1 = 3 → s.applyRefused f c.target 0 .switch = none → ∃ t, exec (.imageApplySwitch f q) s = .next t ∧
      t = { s with img := t.img, hif := t.hif } ∧ t.struct = s.struct ∧ t.slot c.target = { s.slot c.target with
        st := .validating, apply := some { part := f, queue := q, pos := c.pos, point := .switch } })) ∧
  (∀ (s : State) (f : Part) (q : Fin 64) (c : Cmd), s.front f q 0x11 = some c → c.param 0 1 = 1 →
    s.slotAllowed f c.target = true → (s.slot c.target).busy = false → (s.slot c.target).complete = false →
    ∃ t, exec (.imageApplyImmediate f q) s = .next t ∧ t.struct = s.struct ∧ t.mem = s.mem ∧
      t.img = { s.img with lastReason := 0x69, lastSlot := c.target, lastPart := f.val }) ∧
  (∀ (s : State) (f : Part) (q : Fin 64) (c : Cmd), s.front f q 0x12 = some c → s.slotAllowed f c.target = true →
    (s.slot c.target).apply = none →
    exec (.imageDrop f q) s = .next ((s.mapSlot c.target fun _ => {}).fix f q c.pos 0x00 0 srcMgt))

/-- How an image's apply ends (R192, R198, R204, R209). -/
def Obligations.ImagesComeIntoForce : Prop :=
  (∀ (s : State) (n : Fin 8) (a : Apply), (s.slot n).apply = some a → a.validated = false →
    exec (.imageValidationDone n) s = .next (match s.validate (s.slot n).image a.part a.point n a.route with
      | some (status, detail) => s.rejectApply n a status detail
      | none => s.mapSlot n fun x => { x with
          st := match a.point with
            | .immediate => .validating
            | .frame => .pendingFrame
            | .switch => .pendingSwitch
          apply := some { a with validated := true, staged := imgRecords x.image } })) ∧
  (∀ (s : State) (n : Nat) (a : Apply), ((List.range 8).find? fun n => ((s.slot n).apply.map fun a =>
      a.validated && decide (a.point = .immediate)).getD false) = some n → (s.slot n).apply = some a →
    ∃ t, exec .immediateApplyInForce s = .next t ∧ t.img.gen = s.img.gen + 1 ∧ t.slot n = { s.slot n with st := .loaded, apply := none } ∧
      t.img.sect = (s.img.putSections (imgSects (s.slot n).image) false).sect) ∧
  (∀ (s : State) (r : Fin 16) (n : Nat) (a : Apply), s.img.frameApplies r = [(n, a)] → a.window = some true →
    ∃ t, exec (.frameApplySwap r) s = .next t ∧ t.img.gen = s.img.gen + 1 ∧
      t.img.sect = (s.img.putSections (imgSects (s.slot n).image) true).sect) ∧
  (∀ (s : State) (r : Fin 16) (n : Nat) (a : Apply), s.img.frameApplies r = [(n, a)] → a.window = some false →
    ∃ t, exec (.frameApplySwap r) s = .next t ∧ t = { s with rsq := t.rsq, img := t.img, log := t.log } ∧
      t.img.sect = s.img.sect ∧ t.img.gen = s.img.gen ∧ t.img.missRoute = r ∧ t.img.missCount = satN 0xFFFF (s.img.missCount + 1)) ∧
  (∀ (s : State) (n : Fin 8) (a : Apply) (status detail : Nat), ∃ t, s.rejectApply n a status detail = t ∧ t.struct = s.struct ∧
    t.mem = s.mem ∧ (t.slot n).apply = none ∧ (t.slot n).image = (s.slot n).image ∧
    (status = 0x30 → t.img.lastReason = detail ∧ t.img.lastSlot = n ∧ t.img.lastPart = a.part) ∧
    (status ≠ 0x30 → t.img.lastReason = s.img.lastReason))

/-- The steps of a tenant switch (Table 13-14). -/
def Obligations.TenantSwitch : Prop :=
  (∀ (s : State) (f : Part) (q : Fin 64) (c : Cmd), s.front f q 0x43 = some c → s.sec.switch = none →
    ∃ t, exec (.tenantSwitch f q) s = .next t ∧
      t.sec.switch = some { at_ := s.clk, zero := bit (c.param 0 1) 0, cmds := [(f.val, q.val, c.pos)] } ∧
      ∀ r : Fin 16, (t.route r).st ≠ .starting ∧ (t.route r).st ≠ .running) ∧
  (∀ (s : State) (f : Part) (q : Fin 64) (c : Cmd) (w : Switch), s.front f q 0x43 = some c → s.sec.switch = some w →
    ∃ t, exec (.tenantSwitch f q) s = .next t ∧ t = { s with sec := t.sec, hif := t.hif } ∧
      t.sec = { s.sec with switch := some { w with cmds := w.cmds ++ [(f.val, q.val, c.pos)] } }) ∧
  (∀ (s : State) (w : Switch), s.sec.switch = some w → w.step = .draining → s.due w.at_ (msTicks 100) = true →
    exec .switchDrainTimeout s = .next ((List.range 16).foldl (fun s r => s.forceStop r) s)) ∧
  (∀ (s : State) (w : Switch), s.sec.switch = some w → w.step = .draining → (List.range 16).all s.routeStill = true →
    ∃ t, exec .switchRoutesStopped s = .next t ∧ t.hif.vfs = 0 ∧
      t.sec.switch = some { w with step := .releasing, at_ := s.clk } ∧ t.struct = s.struct) ∧
  (∀ (s : State) (w : Switch), s.sec.switch = some w → w.step = .releasing → s.fab.remote = [] → s.fab.leaving = [] →
    ∃ t, exec .switchCoherenceReleased s = .next t ∧ t.sec.switch = some { w with step := .scrubbing, at_ := s.clk } ∧
      t.sec.tenant = none ∧ t.sec.pairs = [] ∧ t.sec.blobs = [] ∧ t.sec.present = 0 ∧
      ∀ i : Fin 9, t.img.sect[i] = if i.val < 2 then s.img.sect[i] else {}) ∧
  (∀ (s : State) (w : Switch), s.sec.switch = some w → w.step = .scrubbing → w.zero = true →
    ∃ t, exec .switchScrubDone s = .next t ∧ t.sec.switch = some { w with step := .filling, at_ := s.clk } ∧
      t.nec = State.reset.nec ∧ t.stg = State.reset.stg ∧ t.sw = State.reset.sw ∧ t.rsq = State.reset.rsq ∧ t.mem = s.mem) ∧
  (∀ (s : State) (w : Switch), s.sec.switch = some w → w.step = .scrubbing → w.zero = false →
    ∃ t, exec .switchScrubDone s = .next t ∧ t.sec.switch = none ∧ t.top.base = .opened) ∧
  (∀ (s : State) (w : Switch), s.sec.switch = some w → w.step = .filling → (List.range 8).all (fun n => (s.slot n).st ≠ .pendingSwitch) = true →
    ∃ t, exec .switchZeroFillDone s = .next t ∧ t.sec.switch = none ∧ t.top.base = .opened ∧
      ∀ a, a < pinnedBase → t.mem.get a = 0)

/-- The data effect of DMA_COPY and DMA_FILL on unpoisoned local memory, and host reads (R674 to R677). The model lets the effect take place at the start (log entry 48). -/
def Obligations.HostDataMoves : Prop :=
  (∀ (s : State) (f : Part) (q : Fin 64) (d : HostRead) (c : Cmd) (a b : Nat), s.front f q 0x30 = some c →
    bit (c.param 0 1) 0 = false → bit (c.param 0 1) 1 = false → s.place f c.addr0 c.length = .local_ a →
    s.place f c.addr1 c.length = .local_ b → s.mem.poisoned a c.length = false → s.fab.dir = [] → s.fab.txns = [] →
    ∃ t, exec (.dmaCopy f q d) s = .next t ∧
      t = { s with mem := t.mem, hif := t.hif } ∧ (∀ i, i < c.length → t.mem.get (b + i) = s.mem.get (a + i)) ∧
      ∀ x, x < b ∨ b + c.length ≤ x → t.mem.get x = s.mem.get x) ∧
  (∀ (s : State) (f : Part) (q : Fin 64) (d : HostRead) (c : Cmd) (a : Nat), s.front f q 0x30 = some c →
    bit (c.param 0 1) 0 = false → s.place f c.addr0 c.length = .local_ a → s.away a c.length ≠ [] →
    (bit (c.param 0 1) 1 = true ∨ (s.place f c.addr1 c.length).refused = none) →
    exec (.dmaCopy f q d) s = .next (s.recall f (s.away a c.length))) ∧
  (∀ (s : State) (f : Part) (q : Fin 64) (d : HostRead) (c : Cmd) (a : Nat), s.front f q 0x30 = some c →
    bit (c.param 0 1) 0 = false → bit (c.param 0 1) 1 = true → s.place f c.addr0 c.length = .local_ a →
    s.mem.poisoned a c.length = false → 0 < c.length → s.away a c.length = [] →
    ∃ t, exec (.dmaCopy f q d) s = .next t ∧ t = { s with hif := t.hif, out := t.out } ∧
      t.out = s.out ++ [.hostWrite f c.addr1 (s.mem.read a c.length) false]) ∧
  (∀ (s : State) (f : Part) (q : Fin 64) (bs : Bytes) (c : Cmd) (b : Nat), s.front f q 0x30 = some c →
    bit (c.param 0 1) 0 = true → bit (c.param 0 1) 1 = false → s.place f c.addr1 c.length = .local_ b → bs.length = c.length →
    s.fab.dir = [] → s.fab.txns = [] → ∃ t, exec (.dmaCopy f q (.data bs false)) s = .next t ∧ t = { s with mem := t.mem, hif := t.hif } ∧
      (∀ (i : Nat) (h : i < bs.length), t.mem.get (b + i) = bs[i]) ∧
      ∀ x, x < b ∨ b + c.length ≤ x → t.mem.get x = s.mem.get x) ∧
  (∀ (s : State) (f : Part) (q : Fin 64) (c : Cmd), s.front f q 0x30 = some c → bit (c.param 0 1) 0 = true →
    bit (c.param 0 1) 1 = true → exec (.dmaCopy f q .failed) s =
      .next (((s.underWay f q c.pos 0x00 0 (srcPart f)).useDma (cmdJob f q c c.length)).markCmd (some (f.val, q.val, c.pos)) false true)) ∧
  (∀ (s : State) (f : Part) (q : Fin 64) (c : Cmd) (b : Nat), s.front f q 0x31 = some c →
    s.place f c.addr1 c.length = .local_ b → s.fab.dir = [] → s.fab.txns = [] → ∃ t, exec (.dmaFill f q) s = .next t ∧
      t = { s with mem := t.mem, hif := t.hif } ∧
      (∀ i, i < c.length → t.mem.get (b + i) = BitVec.ofNat 8 (byteAt c.desc (32 + i % 8))) ∧
      ∀ x, x < b ∨ b + c.length ≤ x → t.mem.get x = s.mem.get x) ∧
  (∀ (s : State) (f : Part) (q : Fin 64) (c : Cmd) (detail : Nat), s.front f q 0x31 = some c →
    s.place f c.addr1 c.length = .bad detail → exec (.dmaFill f q) s = .next (s.refuse f q c.pos detail)) ∧
  (∀ (s : State) (f : Part) (q : Fin 64) (seq : U32) (addr b : Nat) (bs : Bytes) (c : Cmd), (s.queue f q).cmds.find? (fun c =>
      c.kind = .execute && c.seq = seq.toNat && c.begun && !c.fixed && c.opcode = 0x30 && bit (c.param 0 1) 0) = some c →
    c.addr1 ≤ addr → addr + bs.length ≤ c.addr1 + c.length → bs ≠ [] → bit (c.param 0 1) 1 = false →
    s.place f addr bs.length = .local_ b → s.fab.dir = [] → s.fab.txns = [] → ∃ t, exec (.hostReadCompletion f q seq addr (.data bs false)) s = .next t ∧
      t = { s with mem := t.mem } ∧ (∀ (i : Nat) (h : i < bs.length), t.mem.get (b + i) = bs[i]) ∧
      ∀ x, x < b ∨ b + bs.length ≤ x → t.mem.get x = s.mem.get x)

/-- The arbitrated engines (R150 to R157) and the host services (R110, R114, R508, R695, R699). -/
def Obligations.EnginesAndHostServices : Prop :=
  (∀ (s : State) (e : Fin 8) (j : Job), s.hif.dma[e].cur = some j → s.hif.dma[e].saved = none → s.hif.dma[e].waiting = [] →
    4096 < j.left → ∃ t, exec (.hifDmaChunkEnd e) s = .next t ∧ t = { s with hif := t.hif } ∧
      t.hif.dma[e] = { s.hif.dma[e] with
        cur := some { j with left := j.left - 4096 }
        service := aset s.hif.dma[e].service j.part (agetD s.hif.dma[e].service j.part 0 + 4096) } ∧
      ∀ i : Fin 8, i ≠ e → t.hif.dma[i] = s.hif.dma[i]) ∧
  (∀ (s : State) (n : Fin 4) (j : Job), s.hif.sealing[n].cur = some j → s.hif.sealing[n].saved = none →
    s.hif.sealing[n].waiting = [] → j.left ≤ 16777216 → ∃ t, exec (.engineMessageEnd (.sealing n)) s = .next t ∧
      t = { s with hif := { s.hif with sealing := t.hif.sealing } } ∧ t.hif.sealing[n] = { s.hif.sealing[n] with
        cur := none, service := aset s.hif.sealing[n].service j.part (agetD s.hif.sealing[n].service j.part 0 + j.left) }) ∧
  (∀ (s : State) (n : Fin 8) (j : Job), s.hif.message[n].cur = some j → s.hif.message[n].saved = none →
    s.hif.message[n].waiting = [] → j.left = 0 → ∃ t, exec (.engineMessageEnd (.message n)) s = .next t ∧
      t = { s with hif := { s.hif with message := t.hif.message } } ∧ t.hif.message[n] = { s.hif.message[n] with
        cur := none, service := aset s.hif.message[n].service j.part (agetD s.hif.message[n].service j.part 0) }) ∧
  (∀ (s : State) (n : Fin 4) (k j : Job), s.hif.sealing[n].cur = some k → k.safety = false → s.hif.sealing[n].saved = none →
    s.hif.sealing[n].waiting = [j] → j.safety = true → ∃ t, exec (.safetyCutIn (.sealing n)) s = .next t ∧
      t = { s with hif := { s.hif with sealing := t.hif.sealing } } ∧
      t.hif.sealing[n] = { s.hif.sealing[n] with cur := some j, saved := some k, waiting := [] }) ∧
  (∀ (s : State) (f : Part) (q : Fin 64) (c : Cmd) (a : Nat), s.front f q 0x32 = some c → s.place f c.addr0 c.length = .local_ a →
    c.target ≠ s.struct.boardId → exec (.msgSend f q) s = .next (((s.setCmd f q c.pos fun c => { c with begun := true }).readLocal
      f a c.length).request ({ typ := 0x30, dest := c.target, part := f, data := leBytes 4 (c.param 0 4) ++ leBytes 4 c.length } : Msg)
        (some (f.val, q.val, c.pos)))) ∧
  (∀ (s : State) (f : Part) (q : Fin 64) (c : Cmd) (bs : Bytes), s.front f q 0x50 = some c → c.target ≠ 1 →
    c.param 0 4 + c.length ≤ (s.fw.writable c.target).2 → bs.length = c.length → ∃ t, exec (.flashWrite f q (.data bs false) true) s =
      .next t ∧ t = { s with fw := { s.fw with nor := cellWrite 0xFF s.fw.nor ((s.fw.writable c.target).1 + c.param 0 4) bs }, hif := t.hif }) ∧
  (∀ (s : State) (f : Part) (q : Fin 64) (c : Cmd), s.front f q 0x51 = some c → ∃ t, exec (.calClear f q) s = .next t ∧
    t = { s with fw := { s.fw with nor := cellErase s.fw.nor 0x100000 0x100000 }, hif := t.hif }) ∧
  (∀ (s : State) (f : Part) (q : Fin 64) (c : Cmd), s.front f q 0x52 = some c → 128 ≤ c.length →
    (f.val ≠ 0 ∨ s.top.base ≠ .confidential ∨ bit (c.param 12 1) 1 = true) → ∃ t, exec (.ledgerRead f q) s = .next t ∧
      t = { s with hif := t.hif, out := t.out } ∧ t.out = s.out ++
        [.hostWrite f c.addr1 (s.ledgerBytes f c.length (c.param 0 8) (c.param 8 4) (c.param 12 1)) false]) ∧
  (∀ (s : State) (f : Part) (q : Fin 64) (c : Cmd), s.front f q 0x53 = some c → ∃ t, exec (.telemetryRing f q) s = .next t ∧
    t = { s with hif := t.hif } ∧
    t.hif.fns[f].ring = some { addr := c.addr1, size := c.length, sampledAt := s.bg.telAt } ∧
    ∀ g : Fin 16, g ≠ f → t.hif.fns[g].ring = s.hif.fns[g].ring)

/-- MODEL_LOAD, REPORT, CONSENT and the quorum's timeout (R587 to R601). The order of MODEL_LOAD's checks is the model's reading (log entry 56). Signatures and ciphers are free values, so the cases stand in the conclusion. -/
def Obligations.ModelLoadsAndReports : Prop :=
  (∀ (s : State) (f : Part) (q : Fin 64) (b : Bytes) (ep : Bool) (c : Cmd) (t : Tenant), s.front f q 0x40 = some c →
    256 ≤ c.length → b.length = c.length → pkgTotal b = c.length → c.addr1 / 2 ^ 40 = s.struct.boardId →
    s.struct.inPart f (c.addr1 % 2 ^ 40) (pkgPayload b) = true → pkgFormed b = true → (pkgQuorum b = true → s.top.eccOn = true) →
    s.sec.tenant = some t → exec (.modelLoad f q (.data b ep)) s = .next (if pkgSigned t.key b then
      match pkgEntryOf b (ekDigest t.key (pkgCompany b)) with
      | none => s.failLoad f q c.pos 0x50 0x03 c (pkgPayload b)
      | some i => match pkgUnwrap (ekScalar t.key (pkgCompany b)) b i with
        | none => s.failLoad f q c.pos 0x50 0x04 c (pkgPayload b)
        | some item => if pkgQuorum b then (s.setCmd f q c.pos fun c => { c with begun := true }).beginGather f q c b ep
            (ekScalar t.key (pkgCompany b)) i item else s.openPackage f q c b item ep
      else s.failLoad f q c.pos 0x50 0x02 c (pkgPayload b))) ∧
  (∀ (s : State) (f : Part) (q : Fin 64) (b : Bytes) (c : Cmd), s.front f q 0x41 = some c → 1488 ≤ c.length →
    ∃ t, exec (.attReport f q (.data b false)) s = .next t ∧ t = { s with hif := t.hif, out := t.out } ∧
      t.out = s.out ++ [.hostWrite f c.addr1 ((s.underWay f q c.pos 0 0 srcSec).report f (slice b 0 32)) false] ++
        if 8192 ≤ c.length then [.hostWrite f (c.addr1 + 2048) (s.chain.take 6144) false] else []) ∧
  (∀ (s : State) (f : Part) (q : Fin 64) (b : Bytes) (c : Cmd), s.front f q 0x42 = some c → c.length = 224 →
    ∃ t, exec (.consent f q (.data b false)) s = .next t ∧ t.mem = s.mem ∧
      match s.consentReason (slice b 0 224) with
      | some r => t = s.fix f q c.pos 0x50 r srcSec
      | none => t.sec = { s.sec with consent := some (slice b 0 224) }) ∧
  (∀ (s : State) (b : Fin 256) (i : Nat) (h : Bytes) (g : Gather), (s.sec.pairs.any (·.1 = b.val)) = true →
    (s.sec.gathers.find? fun g => g.asked.contains b.val && decide (i < pkgMembers g.pkg) && decide (i ≠ g.own) &&
      !g.shares.any (·.1 = i)) = some g → g.shares.length + 1 < pkgOthers g.pkg →
    exec (.shareResp b i h true) s = .next { s with sec := { s.sec with
      gathers := s.sec.gathers.map fun x => if x = g then { g with shares := aset g.shares i h } else x } }) ∧
  (∀ (s : State) (g : Gather) (c : Cmd), (s.sec.gathers.find? fun g => s.due g.at_ (msTicks 500)) = some g →
    (s.queue g.part g.queue).cmds.find? (·.pos = g.pos) = some c → ∃ u : State, u.hif = s.hif ∧ u.mem = s.mem ∧ u.struct = s.struct ∧
      u.sec = { s.sec with gathers := s.sec.gathers.erase g } ∧ exec .quorumGatherTimeout s =
        .next (u.failLoad g.part g.queue g.pos 0x51 (satN 255 (g.shares.length + 1)) c (pkgPayload g.pkg)))

/-- SHARE_REQ (R597) and the presence check (R599). The grace that runs from the first unanswered challenge is the model's reading (log entry 57). -/
def Obligations.QuorumAndPresence : Prop :=
  (∀ (s : State) (b : Fin 256) (hdr nonce sig : Bytes) (x : Tenant), s.sec.tenant = some x → ∃ t,
    exec (.shareReq b hdr nonce sig) s = .next t ∧ t = { s with sec := { s.sec with draws := t.sec.draws }, out := t.out } ∧
    t.out = s.out ++ match (if s.sec.switch.isNone && s.sameTenant b && s.sec.pairs.any (·.1 = b.val) && pkgQuorum hdr &&
        pkgSigned x.key hdr && (List.range (pkgMembers hdr)).any (fun i => decide (slice (pkgEntry hdr i) 0 48 ≠
          ekDigest x.key (pkgCompany hdr)) && ecdsaVerifies (slice (pkgEntry hdr i) 0 48) (nonce ++ pairTranscript b s.struct.boardId) sig)
        then pkgEntryOf hdr (ekDigest x.key (pkgCompany hdr)) else none) with
      | none => []
      | some j => match pkgUnwrap (ekScalar x.key (pkgCompany hdr)) hdr j with
        | none => []
        | some share => [.mgmt b 0x31 (leBytes 2 j ++ (s.draw 12).1 ++ gcmSeal (s.pairKey b) (s.draw 12).1 (leBytes 2 j) share)]) ∧
  (∀ (s : State) (i : Nat) (b : Blob), s.sec.blobs[i]? = some b → 1 < b.k → b.graceAt = none →
    s.due b.challengeAt (secTicks 10) = true → ∃ t, exec (.presenceCheck i) s = .next t ∧
      t = { s with sec := t.sec, out := t.out } ∧ t.sec.present = satN 255 (b.answers.length + 1) ∧
      t.sec.blobs[i]? = some { b with answers := [], graceAt := some s.clk, challengeAt := s.clk } ∧
      ∃ nonce, t.out = s.out ++ s.companyBoards.map fun d => .mgmt d 0x32 nonce) ∧
  (∀ (s : State) (i : Nat) (b : Blob) (g : Nat), s.sec.blobs[i]? = some b → 1 < b.k → b.graceAt = some g →
    s.due g (secTicks b.grace) = true → s.fab.dir = [] → s.fab.txns = [] → ∃ t, exec (.presenceCheck i) s = .next t ∧ t.sec.blobs = s.sec.blobs.eraseIdx i ∧
      (s.top.eccOn = true → ∀ a, b.base % 2 ^ 40 ≤ a → a < b.base % 2 ^ 40 + b.len → t.mem.poisoned a 1 = true) ∧
      ∀ a, t.mem.get a = s.mem.get a) ∧
  (∀ (s : State) (b : Fin 256) (nonce : Bytes) (x : Tenant), s.sec.tenant = some x → s.sameTenant b = true → s.sec.switch = none →
    ∃ v, exec (.presenceChallenge b nonce) s = .next (s.emit (.mgmt b (Config.eventCode "PRESENCE_RESPONSE") v))) ∧
  (∀ (s : State) (b : Fin 256) (i : Nat) (x : Blob), s.sameTenant b = true → b.val ≠ s.struct.boardId → s.sec.blobs[i]? = some x →
    ∃ t, exec (.presenceResponse b i true) s = .next t ∧ t = { s with sec := { s.sec with blobs := t.sec.blobs } } ∧
      t.sec.blobs[i]? = some { x with
        answers := aset x.answers b s.clk
        graceAt := if x.k ≤ (aset x.answers b.val s.clk).length + 1 then none else x.graceAt })

/-- Frame starts and ends (R272 to R278, R283, R285). That a shadow copy written in the cycle of the Frame Start waits for the next one is the model's reading (log entry 162). -/
def Obligations.CameraFrames : Prop :=
  (∀ (s : State) (p vc : Fin 16) (dt : Nat) (px : List Nat) (ok : Bool), s.camHears p = true →
    ∃ t, t = s.badHeader p ∧ exec (.frameStart p vc .bad) s = .next t ∧ exec (.frameEnd p vc .bad) s = .next t ∧
      exec (.longPacket p vc dt .bad px ok) s = .next t ∧ t = { s with cin := { s.cin with ports := t.cin.ports } } ∧
      t.cin.ports[p] = { s.cin.ports[p] with hsActive := true, hdr := satN 0xFFFF (s.cin.ports[p].hdr + 1) }) ∧
  (∀ (s : State) (p vc : Fin 16) (h : HdrEcc) (c : Fin 64), s.camHears p = true → h ≠ .bad → s.ctxsOn p vc = [c.val] →
    (s.ctx c).openFrame = none → ∃ t, exec (.frameStart p vc h) s = .next t ∧
      (t.ctx c).events = (s.ctx c).events + 1 ∧ (t.ctx c).shadow = (s.ctx c).shadow ∧
      (t.ctx c).active = (if (s.ctx c).shadowAt = some s.clk then (s.ctx c).active else (s.ctx c).shadow) ∧
      (∀ k, k ≠ c.val → t.ctx k = s.ctx k) ∧ ∃ f : CtxFrame, (t.ctx c).frames = (s.ctx c).frames ++ [f] ∧
        f.id = (s.ctx c).events % 2 ^ 32 ∧ f.start = s.gtcNs ∧ f.set = (t.ctx c).active ∧ f.closed = none ∧
        (byteAt f.set 4 = 0 → f.exposure = (s.gtcNs + 2 ^ 64 - field f.set 8 4) % 2 ^ 64)) ∧
  (∀ (s : State) (p vc : Fin 16) (h : HdrEcc) (c : Fin 64) (f : CtxFrame), s.camHears p = true → h ≠ .bad →
    s.ctxsOn p vc = [c.val] → (s.ctx c).openFrame = some f → ∃ t, exec (.frameEnd p vc h) s = .next t ∧
      (t.ctx c).lines = f.arrived ∧ (t.ctx c).fallback = f.fallback ∧ (t.ctx c).longLine = f.longLine ∧
      (t.ctx c).extraLines = f.extraLines ∧ (t.ctx c).events = (s.ctx c).events ∧
      (t.ctx c).short = (if f.cut = true ∨ f.arrived < (s.ctxSize c).2 then satN 0xFFFFFFFF ((s.ctx c).short + 1)
        else (s.ctx c).short) ∧ ∀ k, k ≠ c.val → t.ctx k = s.ctx k)

/-- Lines (R270, R277), the pipe's choice (R280) and the sensor control buses (R301, R302). That an empty FIFO reads as 0 is the model's choice (log entry 72); no clause rests on it. -/
def Obligations.LinesAndSensorBuses : Prop :=
  (∀ (s : State) (p vc : Fin 16) (dt : Nat) (h : HdrEcc) (px : List Nat) (ok : Bool), s.camHears p = true → h ≠ .bad →
    ((s.ctxsOn p vc).find? fun c => (s.struct.context c).map (byteAt · 7) = some dt) = none → ∃ t,
    exec (.longPacket p vc dt h px ok) s = .next t ∧ t = { s with cin := { s.cin with ports := t.cin.ports } } ∧
      t.cin.ports[p] = { s.cin.ports[p] with hsActive := true, unbound := satN 0xFFFFFFFF (s.cin.ports[p].unbound + 1) }) ∧
  (∀ (s : State) (p vc : Fin 16) (dt : Nat) (h : HdrEcc) (px : List Nat) (ok : Bool) (c : Fin 64) (f : CtxFrame),
    s.camHears p = true → h ≠ .bad →
    ((s.ctxsOn p vc).find? fun c => (s.struct.context c).map (byteAt · 7) = some dt) = some c.val →
    (s.ctx c).openFrame = some f → f.cut = false → f.arrived < (s.ctxSize c).2 →
    (s.cin.ports[p].waiting.map (·.size)).sum + lineSize dt px.length ≤ 131072 → ∃ t,
    exec (.longPacket p vc dt h px ok) s = .next t ∧ t = { s with cin := t.cin } ∧
      t.cin.ports[p].crc = (if ok then s.cin.ports[p].crc else satN 0xFFFF (s.cin.ports[p].crc + 1)) ∧
      t.cin.ports[p].waiting = s.cin.ports[p].waiting ++ [{
        ctx := c, frame := f.id, stamp := s.gtcNs, size := lineSize dt px.length
        samples := px.take (s.ctxSize c).1 ++ List.replicate ((s.ctxSize c).1 - px.length) 0
        poison := !ok || decide (px.length < (s.ctxSize c).1) }] ∧
      (t.ctx c).frames = (s.ctx c).frames.map fun x => if x.id = f.id then
        { x with arrived := x.arrived + 1, longLine := x.longLine || decide ((s.ctxSize c).1 < px.length) } else x) ∧
  (∀ (s : State) (p : Fin 4) (port : Nat) (l : WaitLine), s.pipeStalled p = false →
    minBy (fun a b => decide (a.2.stamp < b.2.stamp) || (decide (a.2.stamp = b.2.stamp) && decide (a.2.ctx < b.2.ctx)))
      (s.pipeWaiting p) = some (port, l) → exec (.pipeLineProcess p) s = .next (((s.mapCam port fun p =>
        { p with waiting := p.waiting.erase l }).mapCtx l.ctx fun x => x.mapFrame l.frame fun f =>
          { f with rows := f.rows ++ [l.samples], rowPoison := f.rowPoison ++ [l.poison] }).emitFrame l.ctx l.frame)) ∧
  (∀ (s : State) (p : Fin 16), (s.struct.port p).map (byteAt · 5) = some 1 → ∃ t, exec (.deskewSequence p) s = .next t ∧
    t = { s with cin := { s.cin with ports := t.cin.ports } } ∧
    t.cin.ports[p] = { s.cin.ports[p] with hsActive := true, deskewDone := true }) ∧
  (∀ (s : State) (k : Fin 4) (w : U32), s.pf0Ready 0 = true → s.scbOn k = true → w.getLsbD 31 = true → s.cin.scb[k].busy = none →
    decide (wbits w 17 16 = 3) = bit (s.struct.boardField 6 1) (4 + k) → w.getLsbD 7 = false → ∃ t,
    exec (.scbStart 0 k w) s = .next t ∧ t = { s with cin := { s.cin with scb := t.cin.scb }, out := t.out } ∧
      t.cin.scb[k] = { busy := some (wbits w 6 0, false, min 32 (max 1 (wbits w 13 8)), wbits w 17 16)
                       fifo := s.cin.scb[k].fifo.drop (min 32 (max 1 (wbits w 13 8))) } ∧
      t.out = s.out ++ [.scb k (wbits w 6 0) false (min 32 (max 1 (wbits w 13 8)))
        (s.cin.scb[k].fifo.take (min 32 (max 1 (wbits w 13 8))))]) ∧
  (∀ (s : State) (k : Fin 4) (nack lost : Bool) (rx : Bytes) (a n rate : Nat) (rd : Bool),
    s.cin.scb[k].busy = some (a, rd, n, rate) → ∃ t, exec (.scbTransferDone k nack lost rx) s = .next t ∧
      t = { s with cin := { s.cin with scb := t.cin.scb } } ∧ t.cin.scb[k] = { s.cin.scb[k] with
        busy := none, done := true, nack := nack, arbLost := lost
        fifo := (s.cin.scb[k].fifo ++ if rd && !nack && !lost then rx.take n else []).take 32 }) ∧
  (∀ (s : State) (k : Fin 4) (v : Byte), s.pf0Ready 0 = true → s.scbOn k = true → s.cin.scb[k].fifo.length < 32 → ∃ t,
    exec (.scbDataAccess 0 k (some v)) s = .next t ∧ t = { s with cin := { s.cin with scb := t.cin.scb } } ∧
      t.cin.scb[k] = { s.cin.scb[k] with fifo := s.cin.scb[k].fifo ++ [v] }) ∧
  (∀ (s : State) (k : Fin 4) (v : Byte) (l : Bytes), s.pf0Ready 0 = true → s.cin.scb[k].fifo = v :: l → ∃ t,
    exec (.scbDataAccess 0 k none) s = .next t ∧ t = { s with cin := { s.cin with scb := t.cin.scb }, bus := .data v.toNat 4 } ∧
      t.cin.scb[k] = { s.cin.scb[k] with fifo := l })

/-- The stream switch (R239 to R241) and the stages' input lines (R303 to R308). That window writers take beats without effect is the model's reading (log entry 69), and so is which beats a node takes or still awaits (log entry 104). -/
def Obligations.BeatsAndInputLines : Prop :=
  (∀ (s : State) (d : Fin 48) (b : Beat) (l : List Beat) (r : Bytes), (s.dstPort d).waiting = b :: l → s.connection d = some r →
    d.val < 13 → s.stageTakes (dstInput d).1 (dstInput d).2 b = false →
    s.stageAwaits (dstInput d).1 (dstInput d).2 (byteAt r 6) b = false → ∃ t, exec (.streamBeatDeliver d) s = .next t ∧
      t = { s with sw := t.sw } ∧ t.dstPort d = { s.dstPort d with waiting := l } ∧ ∀ k, k ≠ d.val → t.dstPort k = s.dstPort k) ∧
  (∀ (s : State) (d : Fin 48) (b : Beat) (l : List Beat) (r : Bytes), (s.dstPort d).waiting = b :: l → s.connection d = some r →
    d.val < 13 → s.stageTakes (dstInput d).1 (dstInput d).2 b = false →
    s.stageAwaits (dstInput d).1 (dstInput d).2 (byteAt r 6) b = true → (s.dstPort d).held = [] → 0 < field r 10 2 →
    ∃ t, exec (.streamBeatDeliver d) s = .next t ∧ t = { s with sw := t.sw } ∧
      t.dstPort d = { s.dstPort d with waiting := l, held := [b] } ∧ ∀ k, k ≠ d.val → t.dstPort k = s.dstPort k) ∧
  (∀ (s : State) (d : Fin 48) (b : Beat) (l : List Beat) (r : Bytes), (s.dstPort d).waiting = b :: l → s.connection d = some r →
    13 ≤ d.val → d.val < 29 → (s.dstPort d).held.length < field r 10 2 → ∃ t, exec (.streamBeatDeliver d) s = .next t ∧
      t = { s with sw := t.sw } ∧ t.dstPort d = { s.dstPort d with waiting := l, held := (s.dstPort d).held ++ [b] } ∧
      ∀ k, k ≠ d.val → t.dstPort k = s.dstPort k) ∧
  (∀ (s : State) (d : Fin 48) (b : Beat) (l : List Beat) (r : Bytes), (s.dstPort d).waiting = b :: l → s.connection d = some r →
    13 ≤ d.val → d.val < 29 → field r 10 2 ≤ (s.dstPort d).held.length → exec (.streamBeatDeliver d) s = .next s) ∧
  (∀ (s : State) (d : Fin 48) (b : Beat) (l : List Beat) (r : Bytes), (s.dstPort d).waiting = b :: l → s.connection d = some r →
    29 ≤ d.val → ∃ t, exec (.streamBeatDeliver d) s = .next t ∧ t = { s with sw := t.sw } ∧
      t.dstPort d = { s.dstPort d with waiting := l } ∧ ∀ k, k ≠ d.val → t.dstPort k = s.dstPort k) ∧
  (∀ (s : State) (i : Fin 10) (p : Fin 2) (j : StageJob) (b : Beat) (k : Nat), (s.drainDst (inputDst i p)).job i = some j →
    ((s.drainDst (inputDst i p)).dstPort (inputDst i p)).line.getLast? = some b → b.last = true → b.closing = false →
    (s.drainDst (inputDst i p)).tastingOn (stageSrc i) = false → (s.drainDst (inputDst i p)).stageStalled i = false →
    (s.drainDst (inputDst i p)).lineLevel i j (inputDst i p) b.plane = some k → exec (.stageInputLine i p) s =
      .next ((((s.drainDst (inputDst i p)).mapDst (inputDst i p) fun x => { x with line := [] }).putLine i p j b.ctx b.frame k
        (((s.drainDst (inputDst i p)).dstPort (inputDst i p)).line.flatMap fun x => x.data.take x.bytes)
        (((s.drainDst (inputDst i p)).dstPort (inputDst i p)).line.any (·.poison))).advance i b.ctx)) ∧
  (∀ (s : State) (i : Fin 10) (p : Fin 2) (j : StageJob) (b : Beat), (s.drainDst (inputDst i p)).job i = some j →
    ((s.drainDst (inputDst i p)).dstPort (inputDst i p)).line.getLast? = some b → b.closing = true →
    (s.drainDst (inputDst i p)).tastingOn (stageSrc i) = false → (s.drainDst (inputDst i p)).stageStalled i = false →
    exec (.stageInputLine i p) s =
      .next ((((s.drainDst (inputDst i p)).mapDst (inputDst i p) fun x => { x with line := [] }).closeInput i p j b.ctx).advance i b.ctx))

/-- What the stages publish by the clock (R348 to R395). -/
def Obligations.StageResults : Prop :=
  (∀ (s : State) (i : Fin 10) (j : StageJob) (g : Nat), ((3 ≤ i.val ∧ i.val ≤ 6) ∨ i.val = 8) → s.job i = some j →
    j.coarseAt = none → j.done = false → s.tastingOn (stageSrc i) = false → s.coarseReady i j = some g →
    j.start + coarseAtNs i j.block ≤ s.gtcNs → ∃ t k, exec (.coarsePublish i) s = .next t ∧ t.job i = some k ∧
      k.coarseAt = some (s.gtcNs, s.clk) ∧ k.done = (!refines (stageSrc i) j.block) ∧
      (t.stage i).late = (if j.discard = false ∧ coarseAtNs i j.block ≠ 0 ∧ j.start + coarseAtNs i j.block < g then
        satN 0xFFFFFFFF ((s.stage i).late + 1) else (s.stage i).late)) ∧
  (∀ (s : State) (i : Fin 10) (j : StageJob) (g c : Nat) (o : Offer), s.job i = some j → j.coarseAt = some (g, c) →
    refines (stageSrc i) j.block = true → j.done = false → j.slots < (s.mashCfg j).1 → slotFits j g (s.tileCycles i j) j.slots = true →
    s.due c ((j.slots + 1) * s.tileCycles i j) = true → (s.myTiles i j)[j.slots]? = some o → j.route < 16 →
    ∃ t k, exec (.refineTileSlot i) s = .next t ∧ t = { s with stg := t.stg } ∧ t.job i = some k ∧ k.slots = j.slots + 1 ∧
      k.overlay = j.overlay ++ [((s.refineTile i j o.tile).1, (s.refineTile i j o.tile).2.2.1)] ∧
      (t.mash j.route).refined = satN 0xFFFFFFFF ((s.mash j.route).refined + 1)) ∧
  (∀ (s : State) (i : Fin 10) (j : StageJob) (g c : Nat), s.job i = some j → j.coarseAt = some (g, c) →
    refines (stageSrc i) j.block = true → j.done = false → j.slots < (s.mashCfg j).1 → slotFits j g (s.tileCycles i j) j.slots = true →
    s.due c ((j.slots + 1) * s.tileCycles i j) = true → (s.myTiles i j)[j.slots]? = none →
    ∃ t, exec (.refineTileSlot i) s = .next t ∧ t = { s with stg := t.stg } ∧ t.job i = some { j with slots := j.slots + 1 } ∧
      t.stg.mash = s.stg.mash) ∧
  (∀ (s : State) (i : Fin 10) (j : StageJob) (g c : Nat), s.job i = some j → j.coarseAt = some (g, c) →
    refines (stageSrc i) j.block = true → j.done = false → j.close ≤ s.gtcNs → (s.myTiles i j).length ≤ j.slots → j.route < 16 →
    ∃ t k codes, exec (.mashClose i) s = .next t ∧ t.job i = some k ∧ k.done = true ∧
      (t.stage i).frames = satN 0xFFFFFFFF ((s.stage i).frames + 1) ∧
      codes = s.tileCodes i j (if i.val = 8 then (s.curList j).tilesX * (s.curList j).tilesY
        else (tilesOf (denseSize i j.block).1 (denseSize i j.block).2).1 * (tilesOf (denseSize i j.block).1 (denseSize i j.block).2).2) ∧
      (t.mash j.route).unrefBudget = satN 0xFFFF ((s.mash j.route).unrefBudget + (codes.filter (· = 2)).length) ∧
      (t.mash j.route).unrefClose = satN 0xFFFF ((s.mash j.route).unrefClose + (codes.filter (· = 3)).length)) ∧
  (∀ (s : State) (c : Fin 64) (j : StageJob), s.job 7 = some j → (portCtxs 7 0 j.block).contains c.val = true →
    ((portCtxs 7 0 j.block).take ((portCtxs 7 0 j.block).idxOf c.val)).all j.published.contains = true →
    j.published.contains c.val = false → ((s.stage 7).input 0 c 0).lines.length = (s.inputShape 7 j c 0).2.2 →
    s.tastingOn 0x077 = false → ∃ t k, exec (.detectorPublish c) s = .next t ∧ t.job 7 = some k ∧
      k.published = j.published ++ [c.val] ∧
      (k.done = true ↔ j.done = true ∨ ∀ x ∈ portCtxs 7 0 j.block, x = c.val ∨ x ∈ j.published)) ∧
  (∀ (s : State) (j : StageJob) (c : Nat), s.job 9 = some j → j.done = false →
    (if byteAt j.block 1 = 0 then j.completeAt.map (·.2) else some j.clk) = some c →
    s.due c (1024 + 200 * field j.block 8 2) = true → s.tastingOn 0x079 = false → ∃ t k, exec .trackerRunDone s = .next t ∧
      t.job 9 = some k ∧ k.done = true ∧ (t.stage 9).frames = satN 0xFFFFFFFF ((s.stage 9).frames + 1))

/-- The local-store instructions (R408 to R423, R451). `State.finish` advances the pc (clause 8). The faults of an access that fails both checks at once are a choice of the hardware and no clause rests on it. -/
def Obligations.LocalStoreInstructions : Prop :=
  (∀ (s : State) (c : Fin 64) (w : U64) (t : Task) (x : Core), s.issues c 0x20 w (mV ||| mSB ||| mIMM) t = true →
    x = { s.core c with stepOne := false } → t.badAccess (x.ea w) 512 512 = none →
    exec (.ldw c w) s = .next (s.finish c ((x.setV (fldV w) { bytes := x.lsRead (t.phys (x.ea w)) 512
                                                              poison := x.chunkPoison (t.phys (x.ea w)) 512 }).mark
      (!(x.chunkPoison (t.phys (x.ea w)) 512).isEmpty)))) ∧
  (∀ (s : State) (c : Fin 64) (w : U64) (t : Task) (x : Core), s.issues c 0x21 w (mV ||| mSB ||| mIMM) t = true →
    x = { s.core c with stepOne := false } → t.badAccess (x.ea w) 512 512 = none →
    exec (.stw c w) s = .next (s.finish c ((x.lsWrite (t.phys (x.ea w)) (slice (x.vreg (fldV w)).bytes 0 512)
      fun k => (x.vreg (fldV w)).poison.contains (k - t.phys (x.ea w) / 32)).mark (!(x.vreg (fldV w)).poison.isEmpty)))) ∧
  (∀ (s : State) (c : Fin 64) (w : U64) (t : Task) (x : Core), s.issues c 0x22 w (mV ||| mSB ||| mIMM ||| mSX) t = true →
    x = { s.core c with stepOne := false } → t.badStride (x.ea w) (x.sreg (fldSX w)).toNat = none →
    ∃ y, exec (.lds c w) s = .next (s.finish c y) ∧ (y.vreg (fldV w)).bytes =
      (List.range 16).flatMap fun i => x.lsRead (t.phys (x.ea w + i * (x.sreg (fldSX w)).toNat)) 32) ∧
  (∀ (s : State) (c : Fin 64) (w : U64) (t : Task) (x : Core), s.issues c 0x23 w (mV ||| mSB ||| mIMM ||| mSX ||| mESZ) t = true →
    x = { s.core c with stepOne := false } → fldESZ w ≤ 2 → t.badStride (x.ea w) (x.sreg (fldSX w)).toNat = none →
    ∃ y, exec (.ldt c w) s = .next (s.finish c y) ∧ (y.vreg (fldV w)).bytes = transpose (2 ^ fldESZ w)
      ((List.range 16).map fun i => x.lsRead (t.phys (x.ea w + i * (x.sreg (fldSX w)).toNat)) 32)) ∧
  (∀ (s : State) (c : Fin 64) (w : U64) (t : Task) (x : Core), s.issues c 0x24 w (mSX ||| mSB ||| mIMM) t = true →
    x = { s.core c with stepOne := false } → t.badAccess (x.ea w) 4 4 = none →
    exec (.ldd c w) s = .next (s.finish c ((x.setS (fldSX w) (BitVec.ofNat 32 (ofLe (x.lsRead (t.phys (x.ea w)) 4)))
      (x.lsPoisoned (t.phys (x.ea w)) 4)).mark (x.lsPoisoned (t.phys (x.ea w)) 4)))) ∧
  (∀ (s : State) (c : Fin 64) (w : U64) (t : Task) (x : Core), s.issues c 0x25 w (mSX ||| mSB ||| mIMM) t = true →
    x = { s.core c with stepOne := false } → t.badAccess (x.ea w) 4 4 = none → exec (.std c w) s =
      .next (s.finish c ((x.narrow (t.phys (x.ea w)) (leBytes 4 (x.sreg (fldSX w)).toNat) (x.sPoison.contains (fldSX w)) s.clk).mark
        (x.sPoison.contains (fldSX w))))) ∧
  (∀ (s : State) (c : Fin 64) (w : U64) (t : Task) (x : Core), s.issues c 0x26 w (mIDX ||| mV ||| mSB ||| mIMM) t = true →
    x = { s.core c with stepOne := false } → t.badAccess (x.ea w) 32 32 = none → exec (.stc c w) s =
      .next (s.finish c ((x.narrow (t.phys (x.ea w)) (slice (x.vreg (fldV w)).bytes (32 * fldIDX w) 32)
        ((x.vreg (fldV w)).poison.contains (fldIDX w)) s.clk).mark ((x.vreg (fldV w)).poison.contains (fldIDX w))))) ∧
  (∀ (s : State) (c : Fin 64) (x : Core), x.loops = [] → x.pWaitAt = none → s.finish c x = { s with nec := (s.finish c x).nec } ∧
    (s.finish c x).core c = { x with pc := x.pc + 8, stall := none } ∧ (∀ k, k ≠ c.val → (s.finish c x).core k = s.core k)) ∧
  (∀ (s : State) (c : Fin 64) (w : U64) (t : Task) (x : Core), s.issues c 0x20 w (mV ||| mSB ||| mIMM) t = true →
    x = { s.core c with stepOne := false } → t.phys (x.ea w) + 512 ≤ t.bound → x.ea w % 512 ≠ 0 →
    exec (.ldw c w) s = .next (s.taskFault c 0x02 (some (x.ea w)))) ∧
  (∀ (s : State) (c : Fin 64) (w : U64) (t : Task) (x : Core), s.issues c 0x20 w (mV ||| mSB ||| mIMM) t = true →
    x = { s.core c with stepOne := false } → t.bound < t.phys (x.ea w) + 512 → x.ea w % 512 = 0 →
    exec (.ldw c w) s = .next (s.taskFault c 0x01 (some (x.ea w))))

/-- The cask, DMA and publication instructions (R425 to R437). `State.moveXfer` moves rows as R434, R435, R442 and R444 say; what a row waits for is the model's reading (log entry 126). -/
def Obligations.CaskAndDmaInstructions : Prop :=
  (∀ (s : State) (c : Fin 64) (w : U64) (t : Task) (r : Bytes), s.issues c 0x30 w (mIMM ||| mIDX ||| 2 ^ 50) t = true →
    s.caskRec c (fldIDX w) = some r → okN w (caskCfg r) = true → fldIMM w ≤ ((s.core c).cask (fldIDX w)).level (caskCfg r).size →
    exec (.cwait c w) s = .next ((s.setCore c { s.core c with stepOne := false }).endCwait c (fldP w))) ∧
  (∀ (s : State) (c : Fin 64) (w : U64) (t : Task) (r : Bytes), s.issues c 0x30 w (mIMM ||| mIDX ||| 2 ^ 50) t = true →
    s.caskRec c (fldIDX w) = some r → okN w (caskCfg r) = true → ((s.core c).cask (fldIDX w)).level (caskCfg r).size < fldIMM w →
    exec (.cwait c w) s = .next ((s.setCore c { s.core c with
      stepOne := false, stall := some (.cwait (fldIDX w) (fldIMM w) (fldP w))
      pWaitAt := if fldP w then some s.clk else none }).settleWait c)) ∧
  (∀ (s : State) (c : Fin 64) (w : U64) (t : Task) (r : Bytes), s.issues c 0x31 w (mV ||| mIMM ||| mIDX) t = true →
    s.caskRec c (fldIDX w) = some r → fldIMM w % 32 = 0 → fldIMM w + 512 ≤ (caskCfg r).size →
    fldIMM w + 512 ≤ ((s.core c).cask (fldIDX w)).level (caskCfg r).size →
    exec (.crd c w) s = .next ((s.setCore c { s.core c with stepOne := false }).doCrd c (fldV w) (fldIDX w) (fldIMM w) (caskCfg r))) ∧
  (∀ (s : State) (c : Fin 64) (w : U64) (t : Task) (r : Bytes), s.issues c 0x32 w (mIMM ||| mIDX) t = true →
    s.caskRec c (fldIDX w) = some r → okN w (caskCfg r) = true → fldIMM w ≤ ((s.core c).cask (fldIDX w)).level (caskCfg r).size →
    exec (.cadv c w) s = .next (s.finish c (({ s.core c with stepOne := false } : Core).setCask (fldIDX w)
      (((s.core c).cask (fldIDX w)).pop (caskCfg r).size (fldIMM w))))) ∧
  (∀ (s : State) (c : Fin 64) (w : U64) (t : Task) (r : Bytes), s.issues c 0x33 w (mIDX ||| mV) t = true →
    s.caskRec c (fldIDX w) = some r → (caskCfg r).stream = false →
    512 ≤ (caskCfg r).size - ((s.core c).cask (fldIDX w)).level (caskCfg r).size →
    exec (.cpush c w) s = .next ((s.setCore c { s.core c with stepOne := false }).doCpush c (fldV w) (fldIDX w) (caskCfg r))) ∧
  (∀ (s : State) (c : Fin 64) (w : U64) (t : Task) (r : Bytes), s.issues c 0x34 w (mSX ||| mIDX) t = true →
    s.caskRec c (fldIDX w) = some r → exec (.clvl c w) s = .next (s.finish c (({ s.core c with stepOne := false } : Core).setS
      (fldSX w) (BitVec.ofNat 32 (((s.core c).cask (fldIDX w)).level (caskCfg r).size)) false))) ∧
  (∀ (s : State) (c : Fin 64) (w : U64) (t : Task) (x : Core), s.issues c 0x40 w (mSB ||| mIMM ||| span 49 48) t = true →
    x = { s.core c with stepOne := false } → t.fits (x.ea w) 32 = true → s.dmaCheck c t (x.lsRead (t.phys (x.ea w)) 32) = none →
    exec (.dmai c w) s = .next (s.finish c (({ x with dma := x.dma ++ [{
      into := true, ch := fldCH w, desc := x.lsRead (t.phys (x.ea w)) 32, own := (t.route, t.frame, t.node)
      base := t.base + t.ca, part := t.part, task := t.task }] } : Core).mark (x.lsPoisoned (t.phys (x.ea w)) 32)))) ∧
  (∀ (s : State) (c : Fin 64) (w : U64) (t : Task) (x : Core), s.issues c 0x41 w (mSB ||| mIMM ||| span 49 48) t = true →
    x = { s.core c with stepOne := false } → t.fits (x.ea w) 32 = true → s.dmaCheck c t (x.lsRead (t.phys (x.ea w)) 32) = none →
    exec (.dmao c w) s = .next (s.finish c (({ x with dma := x.dma ++ [{
      into := false, ch := fldCH w, desc := x.lsRead (t.phys (x.ea w)) 32, own := (t.route, t.frame, t.node)
      base := t.base + t.ca, part := t.part, task := t.task }] } : Core).mark (x.lsPoisoned (t.phys (x.ea w)) 32)))) ∧
  (∀ (s : State) (c : Fin 64) (w : U64) (t : Task), s.issues c 0x42 w (span 51 48) t = true →
    (s.core c).pendingOn t (fldMASK w) = false → exec (.dmaw c w) s = .next ((s.setCore c { s.core c with
      stepOne := false, stall := some (.dmaw (fldMASK w)) }).finish c { s.core c with
      stepOne := false, stall := some (.dmaw (fldMASK w)) })) ∧
  (∀ (s : State) (c : Fin 64) (w : U64) (t : Task) (x : Core) (b : Bytes), s.issues c 0x43 w (mSB ||| mIMM) t = true →
    x = { s.core c with stepOne := false } → t.fits (x.ea w) 32 = true → b = x.lsRead (t.phys (x.ea w)) 32 →
    descReserved b = true → (dmaDesc b).ls % 32 = 0 → (dmaDesc b).mem % 32 = 0 → t.fits (dmaDesc b).ls 64 = true →
    byteAt (x.lsRead (t.phys (dmaDesc b).ls) 1) 0 / 16 = 4 →
    ((dmaDesc b).host = true ∨ s.dmaRange t.part (dmaDesc b).mem 64 = true) → exec (.pub c w) s =
      .next ((s.setCore c (({ x with stall := some (.pub b) } : Core).mark (x.lsPoisoned (t.phys (x.ea w)) 32))).releaseStall c)) ∧
  (∀ (s : State) (c : Fin 64) (k ch : Fin 4) (n : Nat) (d : HostRead) (y : Xfer), ((s.core c).dma.find? fun y =>
      decide (y.task = k.val) && decide (y.ch = ch.val) && !(s.core c).paused y) = some y → ∃ u z,
    s.moveXfer c d (min n (y.total - y.moved)) y = (u, z) ∧ exec (.necDmaDone c ⟨k, ch, n⟩ d) s = .next ((u.setCore c { u.core c with
      dma := if y.total ≤ z.moved then (u.core c).dma.erase y else (u.core c).dma.replace y z }).releaseStall c)) ∧
  (∀ (s : State) (c : Fin 64) (k ch : Fin 4) (b : Bytes) (y : Xfer), ((s.core c).dma.find? fun y =>
      decide (y.task = k.val) && decide (y.ch = ch.val) && !(s.core c).paused y) = some y → (dmaDesc y.desc).cask = 0xFF →
    (dmaDesc y.desc).host = true → (dmaDesc y.desc).rows = 1 → y.into = true → y.moved = 0 → (s.core c).stall = none →
    ∃ t, exec (.necDmaDone c ⟨k, ch, 1⟩ (.data b false)) s = .next t ∧ t = { s with nec := t.nec } ∧
      t.core c = { (s.core c).lsWrite (y.base + (dmaDesc y.desc).ls) (slice b 0 (dmaDesc y.desc).rowBytes) (fun _ => false) with
        dma := (s.core c).dma.erase y } ∧ ∀ k, k ≠ c.val → t.core k = s.core k)

/-- Control, arithmetic and MM (R400 to R454). Scalar results, and the vector operations to which the spec gives no result, are free values (log entry 129); branch targets and loops as log entry 125 says. -/
def Obligations.ControlArithmeticAndMm : Prop :=
  (∀ (s : State) (c : Fin 64) (t : Task), s.free_ c t = true → (s.core c).pc + 8 ≤ t.codeLen →
    exec (.necNop c) s = .next (s.finish c { s.core c with stepOne := false }) ∧ exec (.necEnd c) s = .next (s.endTask c)) ∧
  (∀ (s : State) (c : Fin 64) (t : Task) (a : Nat), s.free_ c t = true → (s.core c).pc + 8 ≤ t.codeLen →
    exec (.branch c false a) s = .next (s.finish c { s.core c with stepOne := false }) ∧
    exec (.branch c true a) s = .next (let u := s.setCore c { s.core c with stepOne := false, pc := a }
      if a % 8 = 0 ∧ a + 8 ≤ t.codeLen then u else u.taskFault c 0x08 none)) ∧
  (∀ (s : State) (c : Fin 64) (t : Task) (n e : Nat), s.free_ c t = true → (s.core c).pc + 8 ≤ t.codeLen →
    exec (.loop c n e) s = .next (s.setCore c (if n = 0 then { s.core c with stepOne := false, pc := e } else { s.core c with
      stepOne := false, loops := ((s.core c).pc + 8, e, n) :: (s.core c).loops, pc := (s.core c).pc + 8 }))) ∧
  (∀ (s : State) (c : Fin 64) (t : Task) (d : Fin 32) (l : List (Fin 32)) (p : Bool), s.free_ c t = true → (s.core c).pc + 8 ≤ t.codeLen →
    p = (l.any fun i => (s.core c).sPoison.contains i.val) → ∃ v,
    exec (.scalarArithmetic c ⟨d, l⟩) s = .next (s.useFree.finish c ((({ s.core c with stepOne := false } : Core).setS d v p).mark p))) ∧
  (∀ (s : State) (c : Fin 64) (t : Task) (d a b : Fin 16) (op : VecOp), s.free_ c t = true → (s.core c).pc + 8 ≤ t.codeLen →
    ∃ free, exec (.vectorArithmetic c d a b op) s = .next (s.useFree.finish c ((({ s.core c with stepOne := false } : Core).setV d {
      bytes := slice (vecResult op ((s.core c).vreg a).bytes ((s.core c).vreg b).bytes free) 0 512
      poison := vecPoison op ((s.core c).vreg a).poison ((s.core c).vreg b).poison }).mark
        (!(vecPoison op ((s.core c).vreg a).poison ((s.core c).vreg b).poison).isEmpty)))) ∧
  (∀ (s : State) (c : Fin 64) (w : U64) (t : Task), s.issues c 0x02 w 0 t = true → exec (.tile c w) s =
    .next (s.setCore c { ({ s.core c with stepOne := false } : Core).flushAll with stall := some .tile })) ∧
  (∀ (s : State) (c : Fin 64) (w : U64) (t : Task), s.issues c 0x03 w (span 51 48) t = true → exec (.necFence c w) s =
    .next ((s.setCore c { ({ s.core c with stepOne := false } : Core).flushAll with stall := some (.fence (fldMASK w)) }).releaseStall c)) ∧
  (∀ (s : State) (c : Fin 64) (t : Task), (s.core c).task = some t → (s.core c).stall = some .tile →
    (s.core c).fed = true → (s.core c).preempt = false → t.stopAtTile = false →
    ∃ u, exec (.tileComplete c) s = .next u ∧ u = { s with nec := u.nec, free := s.free + 16 } ∧
      (u.core c).tiles = ((s.core c).tiles + 1) % 2 ^ 32 ∧ (u.core c).stall = none ∧ (u.core c).v = freeVecs s.free ∧
      (u.core c).tileAt = s.clk ∧ (u.core c).task = some t ∧ (u.core c).jobs = (s.core c).jobs) ∧
  (∀ (s : State) (c : Fin 64) (w : U64) (t : Task) (m k a p o : Nat) (x : Core), s.issues c 0x50 w (span 32 8) t = true →
    m = bits w.toNat 31 28 → x = { s.core c with stepOne := false } → k = (x.sreg (bits w.toNat 22 18)).toNat →
    a = (x.sreg (bits w.toNat 12 8)).toNat → p = (x.sreg (bits w.toNat 17 13)).toNat → o = (x.sreg (bits w.toNat 27 23)).toNat →
    m < 8 → bit t.modes m = true → 0 < k → k ≤ 65536 → (mmIsSparse m = true → k % 4 = 0) → t.badAccess a (mmABytes k) 512 = none →
    t.badAccess p (mmWBytes m k) 512 = none → t.badAccess o (mmOBytes m) 512 = none → ∃ y : Core, exec (.mm c w) s = .next (s.finish c y.startFeed) ∧
      y.task = some { t with mms := t.mms + 1 } ∧ ∀ j : Fin 2, y.acc[j] = if j.val = t.mms % 2 then (s.core c).acc[j] ++ [{
        mode := m, a := t.phys a, w := t.phys p, o := t.phys o, k := k, accLoad := bit w.toNat 32, seq := t.mms
        own := (t.route, t.frame, t.node) }] else (s.core c).acc[j]) ∧
  (∀ (s : State) (c : Fin 64) (j : MmJob), (s.core c).jobs.find? (·.feeding) = some j → ∃ y : Core,
    exec (.mmFeedEnd c) s = .next ((s.setCore c y.startFeed).markOwner c j.own (!((s.core c).mmPoison j).isEmpty)) ∧
    y.sat = ((s.core c).sat + (mmOutput j.mode j.k ((s.core c).lsRead j.a (mmABytes j.k)) ((s.core c).lsRead j.w (mmWBytes j.mode j.k))
      (if j.accLoad then (s.core c).lsRead j.o (mmOBytes j.mode) else [])).2) % 2 ^ 32 ∧ y.ls = (s.core c).ls ∧
    y.acc = (s.core c).acc.map fun l => l.map fun q => if q = j then { q with
      feeding := false
      result := some ((mmOutput j.mode j.k ((s.core c).lsRead j.a (mmABytes j.k)) ((s.core c).lsRead j.w (mmWBytes j.mode j.k))
        (if j.accLoad then (s.core c).lsRead j.o (mmOBytes j.mode) else [])).1, (s.core c).mmPoison j) } else q) ∧
  (∀ (s : State) (c : Fin 64) (j : MmJob) (r : Bytes × List Nat),
    minBy (fun a b => decide (a.seq < b.seq)) ((s.core c).jobs.filter (·.result.isSome)) = some j → j.result = some r →
    ∃ y : Core, exec (.mmDrainDone c) s = .next (((if j.undef then s.useFree else s).setCore c y.startFeed).releaseStall c) ∧
      y.acc = ((s.core c).acc.map fun l => l.filter fun q => decide (q ≠ j)) ∧
      y.ls = ((s.core c).lsWrite j.o (if j.undef then s.freeBytes r.1.length else r.1) fun w => r.2.contains (w - j.o / 32)).ls)

/-- The machinery around a core's instructions (R418 to R445). -/
def Obligations.NeuralCoreEvents : Prop :=
  (∀ (s : State) (p : Fin 16) (b : Beat) (l : List Beat) (r : Bytes), (s.dstPort (13 + p)).held = b :: l →
    s.connection (13 + p) = some r → (s.route (byteAt r 6)).wants (((s.struct.route (byteAt r 6)).map (byteAt · 7)).getD 64) b = true →
    ((s.core (byteAt r 8)).cask (byteAt r 9)).row.length < 512 → b.closing = false → byteAt r 8 < 64 → byteAt r 9 < 16 →
    ∃ t, exec (.caskBeatArrival p) s = .next t ∧ t = { s with sw := t.sw, nec := t.nec } ∧
      t.dstPort (13 + p) = { s.dstPort (13 + p) with held := l } ∧
      ((t.core (byteAt r 8)).cask (byteAt r 9)).row = ((s.core (byteAt r 8)).cask (byteAt r 9)).row ++ slice b.data 0 64 ∧
      ((t.core (byteAt r 8)).cask (byteAt r 9)).fill = ((s.core (byteAt r 8)).cask (byteAt r 9)).fill) ∧
  (∀ (s : State) (p : Fin 16) (b : Beat) (l : List Beat) (r : Bytes), (s.dstPort (13 + p)).held = b :: l →
    s.connection (13 + p) = some r → (s.route (byteAt r 6)).wants (((s.struct.route (byteAt r 6)).map (byteAt · 7)).getD 64) b = false →
    ∃ t, exec (.caskBeatArrival p) s = .next t ∧ t = { s with sw := t.sw } ∧ t.dstPort (13 + p) = { s.dstPort (13 + p) with held := l }) ∧
  (∀ (s : State) (c : Fin 64) (k : Fin 16) (r : Bytes), s.caskRec c k = some r → (caskCfg r).stream = true →
    512 ≤ ((s.core c).cask k).row.length → 512 ≤ (caskCfg r).size - ((s.core c).cask k).level (caskCfg r).size →
    exec (.caskRowWrite c k) s = .next (s.setCore c ((((s.core c).setCask k { (s.core c).cask k with
      row := ((s.core c).cask k).row.drop 512, rowPoison := [] }).caskPush k (caskCfg r) (((s.core c).cask k).row.take 512)
        ((s.core c).cask k).rowPoison).mark (!((s.core c).cask k).rowPoison.isEmpty)))) ∧
  (∀ (s : State) (c : Fin 64) (i n : Nat) (r : Bytes), (s.core c).stall = some (.cadv i n) → s.caskRec c i = some r →
    n ≤ ((s.core c).cask i).level (caskCfg r).size → exec (.caskStallRelease c) s =
      .next (s.finish c ((s.core c).setCask i (((s.core c).cask i).pop (caskCfg r).size n)))) ∧
  (∀ (s : State) (c : Fin 64) (w : U64) (t : Task), opcodeNamed (w.toNat % 256) = false → s.free_ c t = true →
    (s.core c).pc + 8 ≤ t.codeLen → exec (.illegalInstruction c w) s = .next (s.taskFault c 0x05 none)) ∧
  (∀ (s : State) (c : Fin 64), (s.core c).hopper ≠ [] → 32 ≤ s.necCycles (s.clk - (s.core c).narrowAt) →
    exec (.hopperIdleFlush c) s = .next (s.setCore c (s.core c).flushAll)) ∧
  (∀ (s : State) (c : Fin 64) (t : Task), (s.core c).task = some t → 65536 ≤ s.necCycles (s.tileTicks (s.core c)) →
    exec (.tileOverrun c) s = .next (s.taskFault c 0x07 none)) ∧
  (∀ (s : State) (c : Fin 64) (a : Nat), a < 524288 → ∃ t, exec (.localStoreEccError c a) s = .next t ∧
    t = { s with nec := t.nec, bg := t.bg, log := t.log, hif := t.hif } ∧ t.core c = { s.core c with
      lsPoison := nset (s.core c).lsPoison (a / 32), eccU := satN 0xFFFF ((s.core c).eccU + 1) } ∧ t.hif.queues = s.hif.queues) ∧
  (∀ (s : State) (c : Fin 64) (k : Nat) (e : Option Nat) (t : Task), (s.core c).task = some t → (s.core c).incoming = none →
    (s.core c).saved = [] → (s.core c).hopper = [] →
    ∃ u, s.taskFault c k e = u ∧ (u.core c).task = none ∧ (u.core c).fCause = k ∧ (u.core c).fPc = (s.core c).pc ∧
      (u.core c).fTask = t.task ∧ (u.core c).fRoute = t.route ∧ (u.core c).fNode = t.node ∧
      (t.route < 16 → (s.route t.route).st = .running → (u.route t.route).fault = 1))

/-- Board memory (R457 to R462, R717). What more than three wrong bytes show is free (log entry 148). -/
def Obligations.BoardMemoryIsReadAndWritten : Prop :=
  (∀ (s : State) (a src : Nat) (e : Bytes), s.pwr.mainGood = true → s.inBoardMem (a / 64 * 64) 64 = true → s.mem.poisoned (a / 64 * 64) 64 = false →
    e.filter (· ≠ 0) = [] → exec (.boardMemoryRead a e src) s = .next (s.emit (.answer (s.mem.read (a / 64 * 64) 64)))) ∧
  (∀ (s : State) (a src : Nat) (e : Bytes), s.pwr.mainGood = true → s.inBoardMem (a / 64 * 64) 64 = true → s.mem.poisoned (a / 64 * 64) 64 = false →
    s.top.eccOn = false → exec (.boardMemoryRead a e src) s = .next (s.emit (.answer (if e.filter (· ≠ 0) = [] then s.mem.read (a / 64 * 64) 64
      else xtsDecrypt s.memoryKey (a / 64 * 64) (xorBytes (xtsEncrypt s.memoryKey (a / 64 * 64) (s.mem.read (a / 64 * 64) 64)) (slice e 0 64)))))) ∧
  (∀ (s : State) (a src : Nat) (e : Bytes), s.pwr.mainGood = true → s.inBoardMem (a / 64 * 64) 64 = true → s.mem.poisoned (a / 64 * 64) 64 = false →
    s.top.eccOn = true → (e.filter (· ≠ 0)).length = 1 →
    ∃ u : State, exec (.boardMemoryRead a e src) s = .next u ∧ u.mem.ce = satN 0xFFFFFFFF (s.mem.ce + 1) ∧
      u.mem.cells = s.mem.cells ∧ u.mem.poison = s.mem.poison ∧ (.answer (s.mem.read (a / 64 * 64) 64)) ∈ u.out) ∧
  (∀ (s : State) (a src : Nat) (e : Bytes), s.pwr.mainGood = true → s.inBoardMem (a / 64 * 64) 64 = true → s.mem.poisoned (a / 64 * 64) 64 = false →
    s.top.eccOn = true → ((e.filter (· ≠ 0)).length = 2 ∨ (e.filter (· ≠ 0)).length = 3) → ∃ v : State,
    exec (.boardMemoryRead a e src) s = .next (v.poisonRead 0 (s.struct.boardId * 2 ^ 40 + a / 64 * 64) src) ∧
      v.mem = { s.mem with ue := satN 0xFFFFFFFF (s.mem.ue + 1), eccAddr := a / 64 * 64 }) ∧
  (∀ (s : State) (a src : Nat) (e : Bytes), s.pwr.mainGood = true → s.inBoardMem (a / 64 * 64) 64 = true → s.mem.poisoned (a / 64 * 64) 64 = true →
    exec (.boardMemoryRead a e src) s =
      .next ((s.emit (.answer (s.sectorRead (a / 64 * 64) e))).poisonRead 0 (s.struct.boardId * 2 ^ 40 + a / 64 * 64) src)) ∧
  (∀ (s : State) (a : Nat) (d : Bytes) (p : Bool) (e : Bytes), s.pwr.mainGood = true → s.memOk → s.inBoardMem (a / 64 * 64) 64 = true → d ≠ [] →
    a % 64 + d.length ≤ 64 → (d.length = 64 ∨ s.sectorRead (a / 64 * 64) e = s.mem.read (a / 64 * 64) 64) →
    ∃ u : State, exec (.boardMemoryWrite a d p e) s = .next u ∧ (∀ i, u.mem.get i =
      if a ≤ i ∧ i < a + d.length then (d[i - a]?).getD 0 else s.mem.get i)) ∧
  (∀ (s : State) (a : Nat) (d : Bytes) (p : Bool) (e : Bytes), s.pwr.mainGood = true → s.inBoardMem (a / 64 * 64) 64 = true → d ≠ [] →
    a % 64 + d.length ≤ 64 → s.top.eccOn = true →
    ∃ u : State, exec (.boardMemoryWrite a d p e) s = .next u ∧
      u.mem.poisoned (a / 64 * 64) 64 = (p || (decide (d.length < 64) && (s.mem.poisoned (a / 64 * 64) 64 ||
        decide (s.sectorFind (a / 64 * 64) e = .uncorrectable)))) ∧
      (∀ k, k ≠ a / 64 → u.mem.poison.contains k = s.mem.poison.contains k))

/-- The cellar as its requesters see it (R463 to R472). Memory is the coherent view of the local lines. -/
def Obligations.CellarAccessesAndErrors : Prop :=
  (∀ (s : State) (r : CellarReq), s.pwr.mainGood = true → r.addr / 2 ^ 40 = s.struct.boardId → s.lineExists (r.addr % 2 ^ 40 / 128 * 128) = true →
    s.fab.entry (r.addr / 128 * 128) = none → s.fab.busyLine (r.addr / 128 * 128) = false → r.write = false →
    exec (.cellarAccess r) s = .next ((s.cellarCount r).deliver r (s.mem.read (r.addr / 128 * 128 % 2 ^ 40) 128)
      (s.mem.poisoned (r.addr / 128 * 128 % 2 ^ 40) 128))) ∧
  (∀ (s : State) (r : CellarReq), s.pwr.mainGood = true → r.addr / 2 ^ 40 = s.struct.boardId → s.lineExists (r.addr % 2 ^ 40 / 128 * 128) = true →
    s.fab.entry (r.addr / 128 * 128) = none → s.fab.busyLine (r.addr / 128 * 128) = false → r.write = true →
    exec (.cellarAccess r) s = .next ((s.cellarCount r).mergeLine { addr := r.addr / 128 * 128, mask := r.mask, data := r.data } r.poison)) ∧
  (∀ (s : State) (r : CellarReq), s.pwr.mainGood = true → r.addr / 2 ^ 40 = s.struct.boardId → s.lineExists (r.addr % 2 ^ 40 / 128 * 128) = false →
    exec (.cellarAccess r) s = .next s) ∧
  (∀ (s : State) (r : CellarReq) (l : RLine), s.pwr.mainGood = true → r.addr / 2 ^ 40 ≠ s.struct.boardId → r.addr < 2 ^ 48 →
    s.requestRoom (r.addr / 2 ^ 40) = true → s.fab.rline (r.addr / 128 * 128) = some l → l.settled = true → r.write = false →
    exec (.cellarAccess r) s = .next (({ s with
      fab := (s.fab.touchLine (r.addr / 128 * 128 / 128) false).count true } : State).deliver r l.data l.poison)) ∧
  (∀ (s : State) (r : CellarReq) (l : RLine), s.pwr.mainGood = true → r.addr / 2 ^ 40 ≠ s.struct.boardId → r.addr < 2 ^ 48 →
    s.requestRoom (r.addr / 2 ^ 40) = true → s.fab.rline (r.addr / 128 * 128) = some l → (l.st = .m ∨ l.st = .e) → r.write = true →
    ∃ (u : State) (m : RLine), exec (.cellarAccess r) s = .next u ∧ u.fab.rline (r.addr / 128 * 128) = some m ∧ m.st = .m ∧
      m.data = mergeBytes l.data r.data r.mask ∧ u.mem = s.mem) ∧
  (∀ (s : State) (r : CellarReq), s.pwr.mainGood = true → r.addr / 2 ^ 40 ≠ s.struct.boardId → r.addr < 2 ^ 48 →
    s.requestRoom (r.addr / 2 ^ 40) = true → s.fab.rline (r.addr / 128 * 128) = none →
    s.struct.cacheRegion (r.addr / 128 * 128) = none → r.write = false →
    exec (.cellarAccess r) s = .next (s.request ({
      typ := 0x03, dest := r.addr / 128 * 128 / 2 ^ 40, part := r.part
      addr := r.addr / 128 * 128, poison := r.poison } : Msg) none)) ∧
  (∀ (s : State) (r : CellarReq), s.pwr.mainGood = true → r.addr / 2 ^ 40 ≠ s.struct.boardId → r.addr < 2 ^ 48 →
    s.requestRoom (r.addr / 2 ^ 40) = true → s.fab.rline (r.addr / 128 * 128) = none →
    s.struct.cacheRegion (r.addr / 128 * 128) = none → r.write = true → r.mask = List.replicate 128 true →
    exec (.cellarAccess r) s = .next (s.request ({
      typ := 0x04, dest := r.addr / 128 * 128 / 2 ^ 40, part := r.part
      addr := r.addr / 128 * 128, data := List.replicate 16 0xFF ++ slice r.data 0 128, poison := r.poison } : Msg) none)) ∧
  (∀ (s : State) (i j w a : Nat), s.lineAt i j w = some a → a / 2 ^ 40 = s.struct.boardId → s.struct.pinned (a % 2 ^ 40) = none →
    ((s.fab.lines.find? (·.line = a / 128)).map (·.dirty)).getD false = false →
    ∃ u : State, exec (.cellarSramEccError (.lines i w) j) s = .next u ∧ u.fab.eccU = satN 0xFFFF (s.fab.eccU + 1) ∧ u.mem = s.mem ∧
      u.fab.lines = s.fab.lines.filter fun x => decide (x.line ≠ a / 128)) ∧
  (∀ (s : State) (i j w a : Nat), s.lineAt i j w = some a → a / 2 ^ 40 = s.struct.boardId → s.top.eccOn = true →
    ((s.struct.pinned (a % 2 ^ 40)).isSome = true ∨ ((s.fab.lines.find? (·.line = a / 128)).map (·.dirty)).getD false = true) →
    ∃ u : State, exec (.cellarSramEccError (.lines i w) j) s = .next u ∧ u.fab.eccU = satN 0xFFFF (s.fab.eccU + 1) ∧
      u.mem.poisoned (a % 2 ^ 40) 128 = true) ∧
  (∀ (s : State) (a : Nat), (s.fab.entry (a / 128 * 128)).isSome = true → s.top.eccOn = true →
    ∃ u : State, exec (.cellarSramEccError .directory a) s = .next u ∧ u.fab.eccU = satN 0xFFFF (s.fab.eccU + 1) ∧
      u.mem.poisoned (a / 128 * 128 % 2 ^ 40) 128 = true) ∧
  (∀ (s : State) (i j w a : Nat) (l : RLine), s.lineAt i j w = some a → a / 2 ^ 40 ≠ s.struct.boardId → s.fab.rline a = some l → l.st = .m →
    ∃ u : State, exec (.cellarSramEccError (.lines i w) j) s = .next u ∧ u.fab.eccU = satN 0xFFFF (s.fab.eccU + 1) ∧
      u.fab.rline a = some { l with poison := true }) ∧
  (∀ (s : State) (i j w a : Nat) (l : RLine), s.lineAt i j w = some a → a / 2 ^ 40 ≠ s.struct.boardId → s.fab.rline a = some l →
    (l.st = .e ∨ l.st = .s) →
    ∃ u : State, exec (.cellarSramEccError (.lines i w) j) s = .next u ∧ u.fab.eccU = satN 0xFFFF (s.fab.eccU + 1) ∧
      u.fab.rline a = some { l with st := if l.st = .e then .waitU else .waitS, data := [], poison := false })

/-- What the home does with a request that arrives (R474, R481, R486, R498). `State.startReq` is stated in `HomeActions`. -/
def Obligations.HomeTakesRequests : Prop :=
  (∀ (s : State) (h : FabHdr), s.fresh h = true →
    exec (.readShared h) s = .next ((s.pruneKept h).startReq (homeReq s.clk .readShared h [] [] false))) ∧
  (∀ (s : State) (h : FabHdr), s.fresh h = true →
    exec (.readUnique h) s = .next ((s.pruneKept h).startReq (homeReq s.clk .readUnique h [] [] false))) ∧
  (∀ (s : State) (h : FabHdr), s.fresh h = true →
    exec (.readNokeep h) s = .next ((s.pruneKept h).startReq (homeReq s.clk .readNokeep h [] [] false))) ∧
  (∀ (s : State) (h : FabHdr) (m : List Bool) (d : Bytes) (p : Bool), s.fresh h = true →
    exec (.writeMerge h m d p) s = .next ((s.pruneKept h).startReq (homeReq s.clk .writeMerge h m d p))) ∧
  (∀ (s : State) (h : FabHdr), s.fab.kept = [] → s.fab.txns = [] → s.fab.queue = [] → s.hears h.src = true → s.serves (onLine h) = false →
    exec (.readShared h) s = .next (s.answerBare 0x18 h.src h.reqId h.part (h.addr / 128 * 128)) ∧
    exec (.readUnique h) s = .next (s.answerBare 0x18 h.src h.reqId h.part (h.addr / 128 * 128)) ∧
    exec (.readNokeep h) s = .next (s.answerBare 0x18 h.src h.reqId h.part (h.addr / 128 * 128)) ∧
    ∀ m d p, exec (.writeMerge h m d p) s = .next (s.answerBare 0x18 h.src h.reqId h.part (h.addr / 128 * 128))) ∧
  (∀ (s : State) (h : FabHdr) (k : Kept), s.hears h.src = true → (s.pruneKept h).fab.kept.find? (fun k => k.src = h.src && k.reqId = h.reqId) = some k →
    exec (.readShared h) s = .next ((s.pruneKept h).resendKept k) ∧ exec (.readUnique h) s = .next ((s.pruneKept h).resendKept k) ∧
    exec (.readNokeep h) s = .next ((s.pruneKept h).resendKept k) ∧
    ∀ m d p, exec (.writeMerge h m d p) s = .next ((s.pruneKept h).resendKept k)) ∧
  (∀ (s : State) (h : FabHdr), s.fab.lost.contains h.src = true → exec (.readShared h) s = .next s ∧ exec (.readUnique h) s = .next s ∧
    exec (.readNokeep h) s = .next s ∧ ∀ m d p, exec (.writeMerge h m d p) s = .next s)

/-- The home's actions (Table 11-4, R476 to R482, R486). -/
def Obligations.HomeActions : Prop :=
  (∀ (s : State) (r : HomeReq), s.fab.busyLine r.addr = true → s.startReq r = { s with fab := s.fab.enqueue r }) ∧
  (∀ (b : Fab) (r : HomeReq), (∀ x ∈ b.queue, x.arrived < r.arrived ∨ x.arrived = r.arrived ∧ x.port ≤ r.port) →
    b.enqueue r = { b with queue := b.queue ++ [r] }) ∧
  (∀ (b : Fab) (r : HomeReq), b.queue ≠ [] → (∀ x ∈ b.queue, x.arrived = r.arrived ∧ r.port < x.port) → b.enqueue r = { b with queue := r :: b.queue }) ∧
  (∀ (s : State) (r : HomeReq), s.fab.busyLine r.addr = false → s.fab.lost.contains r.src = false → s.fab.dirFull r.addr = false →
    s.fab.entry r.addr = none → (r.typ = .readShared ∨ r.typ = .readUnique) →
    s.startReq r = ({ s with fab := s.fab.setEntry { addr := r.addr, owner := some r.src } } : State).answerLine 0x13 r) ∧
  (∀ (s : State) (r : HomeReq), s.fab.busyLine r.addr = false → s.fab.lost.contains r.src = false → r.src ≠ s.struct.boardId →
    s.fab.entry r.addr = none → r.typ = .readNokeep → r.quiet = false → s.startReq r = s.answerLine 0x15 r) ∧
  (∀ (s : State) (r : HomeReq), s.fab.busyLine r.addr = false → s.fab.lost.contains r.src = false → r.src ≠ s.struct.boardId →
    s.fab.entry r.addr = none → r.typ = .writeMerge →
    s.startReq r = (({ s with fab := s.fab.dropEntry r.addr } : State).mergeLine r r.poison).answerBare 0x16 r.src r.reqId r.part r.addr) ∧
  (∀ (s : State) (r : HomeReq) (e : DirEnt) (o : Nat), s.fab.busyLine r.addr = false → s.fab.entry r.addr = some e → e.owner = some o →
    o ≠ r.src → (r.typ = .readShared ∨ r.typ = .readNokeep) → s.startReq r = s.snoop 0x10 r [o]) ∧
  (∀ (s : State) (r : HomeReq) (e : DirEnt) (o : Nat), s.fab.busyLine r.addr = false → s.fab.entry r.addr = some e → e.owner = some o →
    o ≠ r.src → r.typ = .readUnique → s.startReq r = s.snoop 0x11 r [o]) ∧
  (∀ (s : State) (r : HomeReq) (e : DirEnt), s.fab.busyLine r.addr = false → s.fab.entry r.addr = some e → e.owner = none →
    s.fab.lost.contains r.src = false → r.typ = .readShared →
    s.startReq r = ({ s with fab := s.fab.setEntry (e.share r.src) } : State).answerLine 0x12 r) ∧
  (∀ (s : State) (r : HomeReq) (e : DirEnt), s.fab.busyLine r.addr = false → s.fab.entry r.addr = some e → e.owner = none →
    r.typ = .readUnique → (s.holders e).filter (· ≠ r.src) ≠ [] → s.startReq r = s.snoop 0x11 r ((s.holders e).filter (· ≠ r.src))) ∧
  (∀ (s : State) (r : HomeReq) (e : DirEnt), s.fab.busyLine r.addr = false → s.fab.entry r.addr = some e → e.owner = none →
    s.fab.lost.contains r.src = false → r.typ = .readUnique → e.broadcast = false → e.sharers = [r.src] →
    s.startReq r = ({ s with fab := s.fab.setEntry { addr := r.addr, owner := some r.src } } : State).answerBare 0x14 r.src r.reqId r.part r.addr) ∧
  (∀ (s : State) (r : HomeReq) (e : DirEnt), s.fab.busyLine r.addr = false → s.fab.entry r.addr = some e → s.holders e ≠ [] →
    r.typ = .writeMerge → s.startReq r = s.snoop 0x11 r (s.holders e)) ∧
  (∀ (s : State) (r : HomeReq) (v : DirEnt), s.fab.busyLine r.addr = false → (r.typ = .readShared ∨ r.typ = .readUnique) →
    s.fab.dirFull r.addr = true → s.fab.victim r.addr = some v → s.startReq r = ({ s with fab := s.fab.enqueue r } : State).snoop 0x11
      { typ := .backInv, addr := v.addr } (s.holders v)) ∧
  (∀ (s : State) (r : HomeReq), s.fab.busyLine r.addr = false → (r.typ = .readShared ∨ r.typ = .readUnique) →
    s.fab.dirFull r.addr = true → s.fab.victim r.addr = none → s.startReq r = { s with fab := s.fab.enqueue r }) ∧
  (∀ (s : State) (e : DirEnt) (b : Nat), e.broadcast = false → e.sharers.length < 8 → (e.share b).owner = none ∧
    (e.share b).broadcast = false ∧ (e.share b).sharers = nset e.sharers b ∧ s.holders (e.share b) = nset e.sharers b) ∧
  (∀ (s : State) (h : FabHdr) (t : Txn), s.hears h.src = true → s.fab.txns.find? (·.req.addr = h.addr / 128 * 128) = some t →
    t.waiting = [h.src] → exec (.snoopAck h) s = .next (((({ s with fab := { s.fab with
      txns := s.fab.txns.filter (·.req.addr ≠ h.addr / 128 * 128) } } : State).finishReq t.req (s.fab.entry (h.addr / 128 * 128))
        t.evicted).drainQueue).settleLeaving))

/-- Snoops, their answers and evictions (Tables 11-4 and 11-5). -/
def Obligations.CachesAnswerSnoops : Prop :=
  (∀ (s : State) (home a id : Nat) (l : RLine), s.hears home = true → s.fab.rline (a / 128 * 128) = some l → l.st = .m →
    exec (.snoopShare home a id) s = .next (({ s with fab := s.fab.setRline { l with st := .s } } : State).snoopReply home 0x23 id
      (a / 128 * 128) l.data l.poison) ∧
    exec (.snoopInv home a id) s = .next (({ s with fab := s.fab.dropRline (a / 128 * 128) } : State).snoopReply home 0x23 id
      (a / 128 * 128) l.data l.poison)) ∧
  (∀ (s : State) (home a id : Nat) (l : RLine), s.hears home = true → s.fab.rline (a / 128 * 128) = some l → l.st = .e →
    exec (.snoopShare home a id) s = .next (({ s with fab := s.fab.setRline { l with st := .s } } : State).snoopReply home 0x22 id
      (a / 128 * 128) [] false) ∧
    exec (.snoopInv home a id) s = .next (({ s with fab := s.fab.dropRline (a / 128 * 128) } : State).snoopReply home 0x22 id
      (a / 128 * 128) [] false)) ∧
  (∀ (s : State) (home a id : Nat) (l : RLine), s.hears home = true → s.fab.rline (a / 128 * 128) = some l → l.st = .s →
    exec (.snoopShare home a id) s = .next (s.snoopReply home 0x22 id (a / 128 * 128) [] false) ∧
    exec (.snoopInv home a id) s = .next (({ s with fab := s.fab.dropRline (a / 128 * 128) } : State).snoopReply home 0x22 id
      (a / 128 * 128) [] false)) ∧
  (∀ (s : State) (home a id : Nat) (l : RLine), s.hears home = true → s.fab.rline (a / 128 * 128) = some l → l.st = .upgrade →
    exec (.snoopShare home a id) s = .next (s.snoopReply home 0x22 id (a / 128 * 128) [] false) ∧
    exec (.snoopInv home a id) s = .next (({ s with fab := s.fab.setRline { l with st := .waitU } } : State).snoopReply home 0x22 id
      (a / 128 * 128) [] false)) ∧
  (∀ (s : State) (home a id : Nat), s.hears home = true → (s.fab.rline (a / 128 * 128)).all (fun l => l.st = .waitS || l.st = .waitU) = true →
    exec (.snoopShare home a id) s = .next (s.snoopReply home 0x22 id (a / 128 * 128) [] false) ∧
    exec (.snoopInv home a id) s = .next (s.snoopReply home 0x22 id (a / 128 * 128) [] false)) ∧
  (∀ (s : State) (home a id : Nat) (l : RLine), s.hears home = true → s.fab.rline (a / 128 * 128) = some l → l.st = .evicting →
    exec (.snoopShare home a id) s = .next (s.snoopReply home 0x24 id (a / 128 * 128) [] false) ∧
    exec (.snoopInv home a id) s = .next (s.snoopReply home 0x24 id (a / 128 * 128) [] false)) ∧
  (∀ (s : State) (h : FabHdr) (d : Bytes) (p : Bool), s.hears h.src = true → s.snooping h.src (h.addr / 128 * 128) = true →
    exec (.snoopAckData h d p) s = .next ((s.memWrite (h.addr / 128 * 128 % 2 ^ 40) (slice d 0 128) p).snoopAnswer h.src
      (h.addr / 128 * 128) false)) ∧
  (∀ (s : State) (h : FabHdr) (t : Txn) (id : Nat), s.hears h.src = true → t.req.addr = h.addr / 128 * 128 → s.fab.txns = [t] →
    t.waiting = [h.src] → t.attached = [(h.src, id)] → exec (.evictInFlight h) s =
      .next ((s.snoopAnswer h.src (h.addr / 128 * 128) true).answerBare 0x17 h.src id h.part (h.addr / 128 * 128))) ∧
  (∀ (s : State) (h : FabHdr) (e : DirEnt), s.hears h.src = true → s.fab.kept = [] → s.fab.txns = [] →
    s.fab.entry (h.addr / 128 * 128) = some e → e.owner = some h.src → exec (.evictClean h) s =
      .next ((s.settleEntry (h.addr / 128 * 128) none).answerBare 0x17 h.src h.reqId h.part (h.addr / 128 * 128)) ∧
    ∀ d p, exec (.evictDirty h d p) s = .next (((s.memWrite (h.addr / 128 * 128 % 2 ^ 40) (slice d 0 128) p).settleEntry
      (h.addr / 128 * 128) none).answerBare 0x17 h.src h.reqId h.part (h.addr / 128 * 128))) ∧
  (∀ (s : State) (h : FabHdr) (e : DirEnt), s.hears h.src = true → s.fab.kept = [] → s.fab.txns = [] →
    s.fab.entry (h.addr / 128 * 128) = some e → e.owner = none → exec (.evictClean h) s =
      .next ((s.settleEntry (h.addr / 128 * 128) (some { e with sharers := nrem e.sharers h.src })).answerBare 0x17 h.src h.reqId h.part
        (h.addr / 128 * 128))) ∧
  (∀ (s : State) (h : FabHdr) (t : Txn), s.hears h.src = true → s.fab.kept = [] → t.req.addr = h.addr / 128 * 128 → s.fab.txns = [t] →
    t.waiting.contains h.src = true → t.attached = [] → exec (.evictClean h) s = .next { s with fab := { s.fab with
      txns := [{ t with attached := [(h.src, h.reqId)] }] } })

/-- Answers at the requester (R474, R487, R496); which DENIED of a MSG_RESERVE tells of a lack of room is log entry 149. -/
def Obligations.AnswersReachTheirRequests : Prop :=
  (∀ (s : State) (h : FabHdr) (d : Bytes) (p : Bool) (u : Unans), s.expects h [0x01] = some u → exec (.lineShared h d p) s =
    .next ((s.answered h.src h.reqId).installLine (h.addr / 128 * 128) .s (some (slice d 0 128, p)))) ∧
  (∀ (s : State) (h : FabHdr) (d : Bytes) (p : Bool) (u : Unans), s.expects h [0x01, 0x02] = some u → exec (.lineOwned h d p) s =
    .next ((s.answered h.src h.reqId).installLine (h.addr / 128 * 128) .e (some (slice d 0 128, p)))) ∧
  (∀ (s : State) (h : FabHdr) (u : Unans), s.expects h [0x02] = some u → exec (.upgradeOk h) s =
    .next ((s.answered h.src h.reqId).installLine (h.addr / 128 * 128) .e none)) ∧
  (∀ (s : State) (a : Nat) (st : CohSt) (d : Bytes) (p : Bool) (l : RLine), s.fab.rline a = some l → l.settled = false → l.st ≠ .evicting →
    l.wait = [] → (s.installLine a st (some (d, p))).fab.rline a = some { l with st := st, data := d, poison := p } ∧
    (s.installLine a st none).fab.rline a = some { l with st := st }) ∧
  (∀ (s : State) (h : FabHdr) (d : Bytes) (p : Bool) (u : Unans), s.expects h [0x03] = some u → u.cmd = none →
    ∃ v : State, exec (.lineNokeep h d p) s = .next v ∧ v.fab.remote = (s.answered h.src h.reqId).fab.remote ∧
      (.answer (slice d 0 128)) ∈ v.out) ∧
  (∀ (s : State) (h : FabHdr) (d : Bytes) (p : Bool) (u : Unans), s.expects h [0x03] = some u → exec (.lineNokeep h d p) s =
    .next ((s.answered h.src h.reqId).takeNokeep u (h.addr / 128 * 128) (slice d 0 128) p)) ∧
  (∀ (s : State) (h : FabHdr) (u : Unans), s.expects h [0x04] = some u → exec (.writeDone h) s = .next (s.answered h.src h.reqId)) ∧
  (∀ (s : State) (h : FabHdr) (u : Unans) (l : RLine), s.expects h [0x20, 0x21] = some u →
    (s.answered h.src h.reqId).fab.rline (h.addr / 128 * 128) = some l → l.st = .evicting → l.wait = [] →
    ∃ v : State, exec (.evictAck h) s = .next v ∧ v.fab.rline (h.addr / 128 * 128) = none) ∧
  (∀ (s : State) (h : FabHdr) (u : Unans) (f q p : Nat), s.expects h [0x30] = some u → u.cmd = some (f, q, p) →
    (s.fab.windows.any fun w => w.board = h.src && w.window = ofLe (u.msg.data.take 4) && w.part = u.msg.part) = true →
    exec (.denied h) s = .next ((s.answered h.src h.reqId).refuse f q p 0x03)) ∧
  (∀ (s : State) (h : FabHdr) (u : Unans), s.expects h [0x01, 0x02, 0x03, 0x04, 0x20, 0x21, 0x30, 0x33] = some u →
    (u.msg.typ ≠ 0x30 ∨ (s.fab.windows.any fun w => w.board = h.src && w.window = ofLe (u.msg.data.take 4) && w.part = u.msg.part) = false) →
    exec (.denied h) s = .next (s.failRequest u)) ∧
  (∀ (s : State) (h : FabHdr), s.unanswered h.src h.reqId = none → exec (.writeDone h) s = .next s ∧ exec (.evictAck h) s = .next s ∧
    exec (.denied h) s = .next s ∧ exec (.upgradeOk h) s = .next s ∧ ∀ d p, exec (.lineShared h d p) s = .next s ∧
      exec (.lineOwned h d p) s = .next s ∧ exec (.lineNokeep h d p) s = .next s) ∧
  (∀ (s : State) (src id : Nat), s.fab.waitReq = [] → (s.answered src id).unanswered src id = none ∧
    (s.answered src id) = { s with fab := { s.fab with unans := s.fab.unans.filter fun u => !(u.msg.dest = src && u.msg.reqId = id) } })

/-- The message engine at both ends (R508, R509). -/
def Obligations.MailboxMessages : Prop :=
  (∀ (s : State) (h : FabHdr) (m n : Nat) (w : Bytes) (size wr rd coming : Nat), s.hears h.src = true → s.fab.kept = [] → s.struct.exportRec m = some w →
    size = (ringOf w).2 → wr = ofLe (s.mem.read (field w 8 8) 8) % max 1 size → rd = ofLe (s.mem.read (field w 8 8 + 8) 8) % max 1 size →
    coming = ((s.fab.mails.filter fun x => decide (x.window = m)).map fun x => mailRoom x.length).sum →
    s.sameTenant h.src = true → byteAt w 5 = h.part.val → 1 ≤ n → n ≤ 16777216 →
    (wr + size - rd) % max 1 size + coming + mailRoom n < size → exec (.msgReserve h m n) s =
      .next (({ s with fab := { s.fab with mails := s.fab.mails ++ [{ src := h.src, reqId := h.reqId, window := m, length := n
                                                                      at_ := (wr + coming) % max 1 size }] } } : State).answerBare
        0x31 h.src h.reqId h.part 0)) ∧
  (∀ (s : State) (h : FabHdr) (m n : Nat), s.hears h.src = true → s.fab.kept = [] →
    (s.sameTenant h.src = false ∨ n = 0 ∨ 16777216 < n ∨ ((s.struct.exportRec m).bind fun w =>
      if byteAt w 5 = h.part.val then s.mailPlace w m n else none) = none) →
    exec (.msgReserve h m n) s = .next (s.answerBare 0x18 h.src h.reqId h.part 0)) ∧
  (∀ (s : State) (h : FabHdr) (u : Unans) (f q : Nat) (c : Cmd), s.expects h [0x30] = some u → s.cmdOf u.cmd = some (f, q, c) →
    exec (.msgGrant h) s = .next (({ s with fab := { s.fab with unans := s.fab.unans.map fun x =>
      if x.msg.dest = h.src && x.msg.reqId = h.reqId then { x with msg := { x.msg with typ := 0x33 }, sentAt := s.clk, resends := 0 }
      else x } } : State).startMessage h.src f q c)) ∧
  (∀ (s : State) (h : FabHdr) (o : Nat) (d : Bytes) (p : Bool) (m : MailIn) (w : Bytes), s.hears h.src = true →
    s.fab.mails.find? (fun m => m.src = h.src && m.reqId = h.reqId && !m.whole) = some m → s.struct.exportRec m.window = some w →
    o + d.length ≤ m.length → exec (.msgChunk h o d p) s = .next ((s.pruneKept h).ringWrite w (m.at_ + 64 + o) d p)) ∧
  (∀ (s : State) (h : FabHdr) (m : MailIn) (w : Bytes), s.hears h.src = true → s.unanswered h.src h.reqId = none → m.src = h.src →
    m.reqId = h.reqId → m.whole = false → s.fab.mails = [m] → h.src ≠ s.struct.boardId → s.fab.dir = [] → s.fab.txns = [] → s.struct.exportRec m.window = some w → exec (.msgDone h) s =
      .next (({ (((s.pruneKept h).ringWrite w m.at_ (slice (Config.mailHeader m.src m.length m.reqId s.gtcNs) 0 64) false).memWrite (field w 8 8)
          (leBytes 8 ((m.at_ + mailRoom m.length) % max 1 (ringOf w).2)) false) with
        fab := { (((s.pruneKept h).ringWrite w m.at_ (slice (Config.mailHeader m.src m.length m.reqId s.gtcNs) 0 64) false).memWrite (field w 8 8)
          (leBytes 8 ((m.at_ + mailRoom m.length) % max 1 (ringOf w).2)) false).fab with mails := [] } } : State).answerBare
        0x33 m.src m.reqId (byteAt w 5) 0)) ∧
  (∀ (s : State) (h : FabHdr) (u : Unans) (f q : Nat) (c : Cmd), s.expects h [0x33] = some u →
    (s.answered h.src h.reqId).cmdOf u.cmd = some (f, q, c) → exec (.msgDone h) s =
      .next ((s.answered h.src h.reqId).fix f q c.pos (if c.lost then 0x21 else if c.poisoned then 0x20 else 0x00) 0 (s.msgSource h.src))) ∧
  (∀ (n : Nat), mailRoom n % 64 = 0 ∧ 64 + n ≤ mailRoom n ∧ mailRoom n < 128 + n)

/-- The domain and its ports (R473, R490, R495, R503 to R507, R583 to R585). -/
def Obligations.LinksAndBoards : Prop :=
  (∀ (s : State) (b : Fin 256) (tag : Bytes) (w : List AdvWin), s.hears b = true → ∃ u : State,
    exec (.advertisement b tag w) s = .next u ∧ u.fab.tags = aset s.fab.tags b tag ∧ u.fab.windows =
      (s.fab.windows.filter (fun x => decide (x.board ≠ b.val)) ++
        (if s.sec.tenant.isSome && decide (tag = s.tag) then w.filter (fun x => decide (x.board = b.val)) else [])).take 4096) ∧
  (∀ (s : State) (b : Fin 256) (l : List (Nat × Nat)), s.hears b = true → b.val ≠ s.struct.boardId →
    ∃ u : State, exec (.linkState b l) s = .next u ∧ u.fab.linkState = aset s.fab.linkState b l) ∧
  (∀ (s : State) (p : Fin 8) (b : Fin 256) (q : Fin 8) (tag : Bytes), (s.fab.port p).trained = true → (s.fab.port p).session = true →
    s.struct.lnkEn p = true → s.hears b = true → ∃ u : State, exec (.hello p b q tag) s = .next u ∧
      (u.fab.port p).up = true ∧ (u.fab.port p).peerBoard = b ∧ (u.fab.port p).peerPort = q ∧ (u.fab.port p).peerTag = tag ∧
      (u.fab.port p).refused = decide (tag ≠ s.tag) ∧ u.fab.beats = aset s.fab.beats b s.clk) ∧
  (∀ (s : State) (b : Fin 256), s.hears b = true →
    exec (.lanicyHeartbeat b) s = .next { s with fab := { s.fab with beats := aset s.fab.beats b s.clk } }) ∧
  (∀ (s : State), s.pwr.mainGood = true → s.due s.fab.beatAt (msTicks 1) = true → exec .lanicyHeartbeatSend s =
    .next (({ s with fab := { s.fab with beatAt := s.clk } } : State).emitAll
      (s.reachable.map fun b => .mgmt b (Config.eventCode "HEARTBEAT") []))) ∧
  (∀ (s : State) (b : Fin 256), s.hears b = true → s.awaited b = true → s.pwr.mainGood = true →
    s.due (agetD s.fab.beats b s.pwr.mainGoodAt) (msTicks 5) = true → ∃ u : State, exec (.boardLost b) s = .next u ∧
      u.fab.lost.contains b.val = true ∧ (∀ x ∈ u.fab.windows, x.board ≠ b.val) ∧ (∀ x ∈ u.fab.unans, x.msg.dest ≠ b.val) ∧
      (∀ x ∈ u.fab.waitReq, x.1.dest ≠ b.val)) ∧
  (∀ (s : State) (p : Fin 8) (ok : Bool) (d k : Bytes), s.pwr.mainGood = true → s.struct.lnkEn p = true → (s.fab.port p).session = false →
    s.pwr.perst = false → s.pwr.brdRst = false → ∃ u : State, exec (.linkUp p ok ⟨d, k⟩) s = .next u ∧ (u.fab.port p).secret = k ∧ (u.fab.port p).trained = true ∧
      (u.fab.port p).session = (ok && decide (d = s.sec.operatorKey.getD [])) ∧ (u.fab.port p).keyGen = 0 ∧
      (u.fab.port p).rxNext = 0 ∧ (u.fab.port p).txNext = 0 ∧ (u.fab.port p).sealed = s.struct.lnkSealed p) ∧
  (∀ (s : State) (p : Fin 8) (cause : Nat), (s.fab.port p).trained = true → (cause = 0 ∨ (cause = 1 ∧ ((s.fab.port p).replayBuf.any fun f => decide (8 ≤ f.replays)) = true) ∨
    (cause = 2 ∧ 16 ≤ ((s.fab.port p).tagAt.filter fun t => decide (s.clk < t + secTicks 1)).length)) → ∃ u : State,
    exec (.portDown p cause) s = .next u ∧ (u.fab.port p).up = false ∧ (u.fab.port p).trained = false ∧ (u.fab.port p).session = false ∧
      (u.fab.port p).retrain = satN 0xFFFFFFFF ((s.fab.port p).retrain + 1))

/-- Exactly-once delivery on a link and between boards (R488, R492 to R494, R499, R500, R504, R584). -/
def Obligations.FlitsKeysAndResends : Prop :=
  (∀ (s : State) (p : Fin 8) (b : Bytes), (s.fab.port p).up = true → (s.readFlit p b).crcOk = false → exec (.flitReceive p b) s =
    .next ((s.mapPort p fun x => { x with crc := satN 0xFFFFFFFF (x.crc + 1) }).nak p)) ∧
  (∀ (s : State) (p : Fin 8) (b : Bytes), (s.fab.port p).up = true → (s.readFlit p b).crcOk = true → (s.fab.port p).sealed = true →
    (s.readFlit p b).tagOk = false → exec (.flitReceive p b) s = .next ((s.mapPort p fun x => { x with
      tagFail := satN 0xFFFFFFFF (x.tagFail + 1)
      tagAt := x.tagAt.filter (fun t => decide (s.clk < t + secTicks 1)) ++ [s.clk] }).nak p)) ∧
  (∀ (s : State) (p : Fin 8) (b : Bytes), (s.fab.port p).up = true → (s.readFlit p b).crcOk = true →
    ((s.fab.port p).sealed = false ∨ (s.readFlit p b).tagOk = true) → (s.readFlit p b).counter < (s.fab.port p).rxNext →
    exec (.flitReceive p b) s = .next (s.mapPort p fun x => { x with stale := satN 0xFFFFFFFF (x.stale + 1) })) ∧
  (∀ (s : State) (p : Fin 8) (b : Bytes), (s.fab.port p).up = true → (s.readFlit p b).crcOk = true →
    ((s.fab.port p).sealed = false ∨ (s.readFlit p b).tagOk = true) → (s.fab.port p).rxNext < (s.readFlit p b).counter →
    exec (.flitReceive p b) s = .next (s.nak p)) ∧
  (∀ (s : State) (p : Fin 8) (b : Bytes), (s.fab.port p).up = true → (s.readFlit p b).crcOk = true →
    ((s.fab.port p).sealed = false ∨ (s.readFlit p b).tagOk = true) → (s.readFlit p b).counter = (s.fab.port p).rxNext →
    ∃ u : State, exec (.flitReceive p b) s = .next u ∧
      (u.fab.port p).rxNext = (s.fab.port p).rxNext + 1 ∧ (u.fab.port p).stale = (s.fab.port p).stale ∧ u.mem = s.mem) ∧
  (∀ (s : State) (p : Fin 8), (s.fab.port p).up = true → (s.fab.port p).sealed = true → (s.fab.port p).txNextKey = none →
    (2 ^ 32 ≤ (s.fab.port p).keyFlits ∨ s.due (s.fab.port p).keyAt (secTicks 3600) = true) → exec (.keyRenewalDue p) s =
      .next ((s.mapPort p fun x => { x with txNextKey := some ((s.fab.port p).txKey + 1) }).emit
        (.mgmt (s.fab.port p).peerBoard 0x21 (leBytes 4 ((s.fab.port p).txKey + 1))))) ∧
  (∀ (s : State) (p : Fin 8) (g : Nat), (s.fab.port p).up = true → (s.fab.port p).sealed = true → g = (s.fab.port p).rxKey + 1 →
    exec (.keyNext p g) s = .next ((s.mapPort p fun x => { x with rxNextKey := some g }).emit
      (.mgmt (s.fab.port p).peerBoard 0x22 (leBytes 4 g)))) ∧
  (∀ (s : State) (p : Fin 8) (g : Nat), (s.fab.port p).txNextKey = some g → ∃ u : State, exec (.keyNextAck p) s = .next u ∧
    (u.fab.port p).txKey = g ∧ (u.fab.port p).txNextKey = none ∧ (u.fab.port p).keySwitch = true ∧ (u.fab.port p).keyFlits = 0) ∧
  (∀ (s : State) (d : Fin 256) (id : Nat) (x : Unans), s.unanswered d id = some x → s.due x.sentAt (msTicks 1) = true → x.resends < 3 →
    d.val ≠ s.struct.boardId → x.msg.typ ≠ 0x33 → ∃ u : State, exec (.e2eResendTimeout d id) s = .next (u.sendMsg { x.msg with ackBelow := u.ackBelow d }) ∧
      u.unanswered d id = some { x with sentAt := s.clk, resends := x.resends + 1 } ∧ u.fab.resends = satN 0xFFFF (s.fab.resends + 1)) ∧
  (∀ (s : State) (d : Fin 256) (id f q : Nat) (x : Unans) (c : Cmd), s.unanswered d id = some x → s.due x.sentAt (msTicks 1) = true → x.resends < 3 →
    d.val ≠ s.struct.boardId → x.msg.typ = 0x33 → s.cmdOf x.cmd = some (f, q, c) → ∃ u : State,
    exec (.e2eResendTimeout d id) s = .next (u.restartMessage d f q c) ∧
      u.unanswered d id = some { x with sentAt := s.clk, resends := x.resends + 1 } ∧ u.fab.resends = satN 0xFFFF (s.fab.resends + 1)) ∧
  (∀ (s : State) (d : Fin 256) (id : Nat) (x : Unans), s.unanswered d id = some x → s.due x.sentAt (msTicks 1) = true → 3 ≤ x.resends →
    d.val ≠ s.struct.boardId →
    exec (.e2eResendTimeout d id) s = .next (s.failMsg x)) ∧
  (∀ (s : State) (d : Fin 256) (id : Nat), ∃ u : State, exec (.messageLifetimeExpiry d id) s = .next u ∧
    (∀ x ∈ u.fab.stuck, x.1 = d.val → x.2.reqId = id → 1024 * ((s.injectNow + 65536 - x.2.inject) % 65536) ≤ 50000) ∧
    (∀ x ∈ s.fab.stuck, (x.1 ≠ d.val ∨ x.2.reqId ≠ id) → x ∈ u.fab.stuck)) ∧
  (∀ (s : State) (d : Fin 256) (t : Nat), alookup s.fab.holds d = some t → s.due t (usTicks 100) = true → s.fab.heldMsgs = [] →
    ∃ u : State, exec (.routeChangeHoldExpiry d) s = .next u ∧ u.fab.holds = adel s.fab.holds d) ∧
  (∀ (s : State) (d : Fin 256) (t : Nat) (m : Msg), alookup s.fab.holds d = some t → s.due t (usTicks 100) = true →
    s.fab.heldMsgs = [(d.val, m)] → exec (.routeChangeHoldExpiry d) s = .next (({ s with fab := { s.fab with
      holds := adel s.fab.holds d, heldMsgs := [] } } : State).forward { m with inject := s.injectNow }))

/-- The reference inputs (R515 to R520, R550, R551, R558). -/
def Obligations.TimeInputsAreMeasured : Prop :=
  (∀ (s : State) (i : Fin 2) (c f : Int), s.tmgRuns = true → (s.input i).st ≠ .disabled → ∃ u : State, exec (.ppsEdge i c f) s = .next u ∧
    (u.input i).freq = satS32 f ∧
    (u.input i).phase = satS32 ((c - s.inDelay i + 4000000000) / 8000000000 * 8000000000 - (c - s.inDelay i))) ∧
  (∀ (s : State) (i : Fin 2) (c f : Int) (v : Nat), s.tmgRuns = true → (s.input i).st = .available → (s.input i).seen = false → s.tmg.tod = some v →
    s.tmg.sel = some ⟨i, by omega⟩ → s.top.gtcSet = true → f = 0 → (s.input i).ql ≠ 15 →
    (c - s.inDelay i + 4000000000) / 8000000000 ≠ (v : Int) → ∃ u : State, exec (.ppsEdge i c f) s = .next u ∧
      u.tmg.todMismatch = true ∧ u.tmg.tod = none) ∧
  (∀ (s : State) (i : Fin 2) (e f : Int) (ok : Bool), s.tmgRuns = true → (s.input (2 + i)).st ≠ .disabled → ∃ u : State,
    exec (.freqMeasurement i e f ok true) s = .next u ∧ (u.input (2 + i)).freq = satS32 f ∧
      (u.input (2 + i)).phase = satS32 (e + s.inDelay (2 + i) - (s.input (2 + i)).held)) ∧
  (∀ (s : State) (i : Fin 2) (e f : Int) (ok : Bool), s.tmgRuns = true → (s.input (2 + i)).st ≠ .disabled → ∃ u : State,
    exec (.freqMeasurement i e f ok false) s = .next u ∧ (u.input (2 + i)).st = .failed ∧ (u.input (2 + i)).fail = 1) ∧
  (∀ (s : State) (e f : Int), s.tmgRuns = true → (s.input 12).st ≠ .disabled → ∃ u : State, exec (.ptpSync e f) s = .next u ∧
    (u.input 12).freq = satS32 f ∧ (u.input 12).phase = satS32 (e + s.tmg.ptpDelay + s.inDelay 12)) ∧
  (∀ (s : State) (c : Nat) (a b : Int), s.tmgRuns = true → ∃ u : State, exec (.ptpAnnounce c a b) s = .next u ∧
    (u.input 12).ql = classQl (c % 256) ∧ (u.input 12).announceAt = s.clk ∧ u.tmg.ptpClass = c % 256) ∧
  (∀ (s : State) (d : Int), s.tmgRuns = true → exec (.ptpDelayResp d) s = .next { s with tmg := { s.tmg with ptpDelay := d } }) ∧
  (∀ (s : State) (p : Fin 8), s.tmgRuns = true → (s.fab.port p).up = true → (alookup s.tmg.reqAt p).all (fun a => s.due a (msTicks 1)) = true → exec (.delayReqSend p) s =
    .next (({ s with tmg := { s.tmg with seqs := aset s.tmg.seqs p ((agetD s.tmg.seqs p 0 + 1) % 65536)
                                         reqAt := aset s.tmg.reqAt p s.clk } } : State).emit
      (.mgmt (s.fab.port p).peerBoard 0x10 (s.timeMsg 0x10 (agetD s.tmg.seqs p 0) s.gtcNs 0 0)))) ∧
  (∀ (s : State) (p : Fin 8) (m : TimeMsg) (a : Int), s.tmgRuns = true → (s.fab.port p).up = true → exec (.delayReq p m a) s =
    .next ((s.hearTime p m).emit (.mgmt (s.fab.port p).peerBoard 0x11 ((s.hearTime p m).timeMsg 0x11 (m.seqNo % 65536) (unsigned 64 m.t1)
      (unsigned 64 a) (s.hearTime p m).gtcNs)))) ∧
  (∀ (s : State) (p : Fin 8) (m : TimeMsg) (a f : Int), s.tmgRuns = true → (s.fab.port p).up = true → (s.input (4 + p)).st ≠ .disabled →
    ∃ u : State, exec (.delayResp p m a f) s = .next u ∧ (u.input (4 + p)).freq = satS32 f ∧
      (u.input (4 + p)).phase = satS32 (4 * ((m.t2 - m.t1) - (a - m.t3))) ∧ (u.input (4 + p)).hops = m.hops % 16) ∧
  (∀ (s : State) (i : Fin 13), s.tmgRuns = true → (s.input i).st ≠ .disabled → (s.input i).st ≠ .failed →
    ((i.val < 2 ∧ s.due (s.input i).at_ (msTicks 1100) = true) ∨ (2 ≤ i.val ∧ i.val < 4) ∨
      (4 ≤ i.val ∧ i.val < 12 ∧ ((s.fab.port (i.val - 4)).up = false ∨ s.due (s.input i).at_ (msTicks 5) = true)) ∨
      (i.val = 12 ∧ (s.due (s.input i).at_ (nsTicks (3 * logNs s.tmg.ptpLog)) = true ∨
        s.due (s.input i).announceAt (nsTicks (3 * logNs s.tmg.ptpAnn)) = true))) → ∃ u : State,
    exec (.inputActivityLoss i) s = .next u ∧ (u.input i).st = .failed ∧ (u.input i).fail = 1) ∧
  (∀ (s : State) (i : Fin 13), s.tmgRuns = true → (s.input i).st = .qualifying → s.due (s.input i).qualAt (qualTicks i) = true →
    ∃ u : State, exec (.qualificationPeriodEnd i) s = .next u ∧ (u.input i).st = if (s.input i).was then .wtr else .available) ∧
  (∀ (s : State) (i : Fin 13), s.tmgRuns = true → (s.input i).st = .wtr → s.due (s.input i).wtrAt (secTicks (s.struct.boardField 24 2)) = true →
    ∃ u : State, exec (.wtrExpiry i) s = .next u ∧ (u.input i).st = .available ∧ (u.input i).was = true)

/-- Steering and outputs (R529 to R549, R554, R559). -/
def Obligations.SteeringAndOutputs : Prop :=
  (∀ (s : State) (t : Int), s.tmgRuns = true → s.due s.tmg.tempAt (msTicks 100) = true → ∃ u : State, exec (.holdoverUpdate t) s = .next u ∧
    u.tmg.temp = clampI (-32768) 32767 (t + s.cal.value 0x0010 0) ∧ u.tmg.tempAt = s.clk ∧
    u.ret.record.temps = (clampI (-32768) 32767 (t + s.cal.value 0x0010 0) :: s.ret.record.temps).take 620) ∧
  (∀ (s : State) (m : Int), s.tmgRuns = true → s.due s.tmg.hourAt (secTicks 3600) = true → s.tmg.loop = .locked → ∃ u : State,
    exec (.ageingHour m) s = .next u ∧ u.tmg.hourAt = s.clk ∧
    u.ret.record.ageing = ((s.gtcNs / 1000000000, m) :: s.ret.record.ageing).take 720) ∧
  (∀ (s : State) (w : U32), s.top.ready = true → wbits w 1 0 = 0 → ∃ u : State, exec (.loopModeClosed 0 w) s = .next u ∧ u.tmg.mode = 0) ∧
  (∀ (s : State) (w : U32), s.top.ready = true → wbits w 1 0 = 1 → ∃ u : State, exec (.loopModeHold 0 w) s = .next u ∧ u.tmg.mode = 1 ∧
    u.tmg.yP = 0) ∧
  (∀ (s : State) (w : U32), s.top.ready = true → wbits w 1 0 = 2 → ∃ u : State, exec (.loopModeSoftware 0 w) s = .next u ∧ u.tmg.mode = 2 ∧
    u.tmg.loop = .software ∧ u.tmg.yF = clampF s.tmg.y ∧ u.tmg.yP = 0) ∧
  (∀ (s : State) (w : U32), s.top.ready = true → s.tmg.mode = 2 → exec (.dcoFreqWrite 0 w) s = .next { s with tmg := { s.tmg with
    yF := clampF (signed 40 (s.tmg.dcoLo.toNat + 2 ^ 32 * w.toNat)), yP := 0, dcoAt := s.clk } }) ∧
  (∀ (s : State), s.tmgRuns = true → s.tmg.mode = 2 → s.due s.tmg.dcoAt (secTicks 2) = true → ∃ u : State,
    exec .softwareTimeout s = .next u ∧ u.tmg.mode = 0 ∧ u.tmg.swTimeout = true) ∧
  (∀ (s : State) (w : U32), s.top.ready = true → exec (.todWrite 0 w) s = .next { s with tmg := { s.tmg with
    todReg := s.tmg.todLo.toNat + 2 ^ 32 * w.toNat, tod := some (s.tmg.todLo.toNat + 2 ^ 32 * w.toNat) } }) ∧
  (∀ (s : State) (w : U32), s.top.ready = true → s.top.armed = false → ∃ u : State, exec (.tmgStep 0 w) s = .next u ∧
    u.tmg.gtc = (((s.tmg.gtc : Int) + signed 64 (s.tmg.stepLo.toNat + 2 ^ 32 * w.toNat) * 2 ^ 48) % (2 ^ 112 : Int)).toNat ∧
    u.log.steps = (s.log.steps + 1) % 65536) ∧
  (∀ (s : State) (w : U32), s.top.ready = true → s.top.armed = true →
    exec (.tmgStep 0 w) s = .next { s with tmg := { s.tmg with stepRefused := true } }) ∧
  (∀ (s : State) (o : Fin 9) (w : U32), s.top.ready = true → bit w.toNat 31 = true → 1 ≤ wbits w 16 0 → wbits w 16 0 ≤ 100000 →
    (s.output o).mode = 2 → exec (.outputRealign 0 o w) s =
      .next (s.mapOutput o fun x => { x with realign := some (s.outDev o, wbits w 16 0) })) ∧
  (∀ (s : State) (o : Fin 9) (r : Bytes), s.struct.outputAlign o = some r → s.tmgRuns = true → s.pwr.pinEn.getLsbD (outPin o) = true → s.pinOn (outPin o) = true →
    (s.output o).mode ≠ 0 → (s.output o).pulse = none → s.due (s.output o).recAt (nsTicks ((field r 12 4 + 1) / 2)) = true →
    (s.output o).edgeAt = none → onSchedule (s.outClock o) (signed 32 (field r 8 4)) (field r 12 4) = true → ∃ u : State,
    exec (.outputPulseStart o) s = .next (u.emit (.edge o true)) ∧ (u.output o).pulse = some (s.clk, field r 16 4) ∧
      (u.output o).edgeAt = some s.clk) ∧
  (∀ (s : State) (o : Fin 9) (a w : Nat), (s.output o).pulse = some (a, w) → s.due a (nsTicks w) = true → ∃ u : State,
    exec (.outputPulseEnd o) s = .next (if s.pinOn (outPin o) then u.emit (.edge o false) else u) ∧ (u.output o).pulse = none ∧
      u.pwr.finishing.getLsbD (outPin o) = false) ∧
  (∀ (s : State) (i j : Fin 13), s.tmgRuns = true → s.struct.boardCore.isSome = true → s.struct.boardId = s.struct.timeRoot →
    s.tmg.backupActs = true → s.bestInput (fun i => !isLnkInput i) = some i → s.tmg.sel = some j → isLnkInput j = true →
    s.due (s.input i).availAt (secTicks 60) = true → s.tmg.loop = .locked → s.due s.tmg.lockedAt (secTicks 60) = true →
    ∃ u : State, exec .rootReclaim s = .next u ∧ u.tmg.backupActs = false ∧ u.rootActs = true)

/-- Keys and admission (R564 to R569, R586, R591, R604, R611). What a renewal exchanges is log entry 143. -/
def Obligations.OperatorKeysAndAdmission : Prop :=
  (∀ (s : State) (w : U32), s.top.ready = true → wbits w 31 16 = 0x0C1A → wbits w 3 0 = 1 → s.sec.busy = none →
    exec (.opkClaim 0 w) s = .next { s with sec := { s.sec with busy := some (1, cellRead 0 s.sec.mbox 0 193) } }) ∧
  (∀ (s : State) (w : U32), s.top.ready = true → wbits w 31 16 = 0x0C1A → wbits w 3 0 = 2 → s.sec.busy = none →
    exec (.opkRotate 0 w) s = .next { s with sec := { s.sec with busy := some (2, cellRead 0 s.sec.mbox 0 193) } }) ∧
  (∀ (s : State) (ok : Bool) (q : Nat) (b : Bytes), s.sec.busy = some (q, b) → exec (.secMboxDone ok) s = .next ({ s with sec := { s.sec with
    busy := none, code := (s.judgeRequest q b ok).1, slots := (s.judgeRequest q b ok).2 } } : State).applyOverride) ∧
  (∀ (s : State) (q : Nat) (b : Bytes) (ok : Bool), byteAt b 0 ≠ 0x04 → s.judgeRequest q b ok = (1, s.sec.slots)) ∧
  (∀ (s : State) (b : Bytes) (ok : Bool), (s.sec.slots.toList.any fun y => y.1.isSome) = true →
    (s.judgeRequest 1 b ok).2 = s.sec.slots ∧ (s.judgeRequest 1 b ok).1 ≠ 0) ∧
  (∀ (s : State) (q : Nat) (b : Bytes), (s.judgeRequest q b false).2 = s.sec.slots ∧ (s.judgeRequest q b false).1 ≠ 0) ∧
  (∀ (s : State) (p : SpdmPort) (g k sig : Bytes) (base : Nat), s.spdmReached p = true → (p = .doe 0 ∨ ∃ b, p = .lanicy b) →
    (s.spdm p).opened = true → ∃ u : State, exec (.admitTenant p g k base sig) s = .next (u.emit (.admission p
      (s.admitStatus (s.spdm p).th g k base sig))) ∧
      (s.admitStatus (s.spdm p).th g k base sig = 0 → u = (s.installTenant k base).setSpdm p { s.spdm p with proven := true }) ∧
      (s.admitStatus (s.spdm p).th g k base sig ≠ 0 → u = s)) ∧
  (∀ (s : State) (th g k sig : Bytes) (base : Nat), s.sec.switch = none → s.sec.tenant.isSome = true → s.admitStatus th g k base sig = 0x02) ∧
  (∀ (s : State) (p : SpdmPort) (c : U64) (t : Tenant), s.sec.tenant = some t → s.spdmReached p = true → (s.spdm p).opened = true →
    (s.spdm p).proven = true → exec (.getEnrol p c) s = .next (s.emit (.spdm p true (ekPublic t.key c.toNat ++
      ecdsaSign (aliasScalar s.fw.combination) (ekPublic t.key c.toNat ++ leBytes 8 c.toNat ++ t.key ++ deviceDigest))))) ∧
  (∀ (s : State) (b : Fin 256) (e : Bytes) (t : Nat × Bytes), alookup s.sec.pairs b = some t → s.sameTenant b = true →
    s.due t.1 (secTicks 3600) = true → ∃ (u : State) (r : Bytes), exec (.pairSessionRenewal ⟨b, e⟩) s = .next u ∧ u.sec.draws = s.sec.draws + 1 ∧
      u.sec.pairs = aset s.sec.pairs b (s.clk, Config.derive "pair session secret" (ecdhX (scalarOf r) e))) ∧
  (∀ (s : State) (t : Bytes), s.sec.consent = some t → field t 104 8 ≤ s.gtcNs → ∃ u : State, exec .consentExpiry s = .next u ∧
    u.sec.consent = none ∧ u.top = s.top)

/-- The SPDM exchange (R561, R572, R575, R590, Table 13-5). The answers to GET_VERSION, GET_CAPABILITIES and NEGOTIATE_ALGORITHMS are marked choices of the model and no clause states them. -/
def Obligations.AttestationSessions : Prop :=
  (∀ (s : State) (p : SpdmPort), s.spdmReached p = true → ∃ (u : State) (d : Bytes), exec (.getVersion p) s = .next u ∧
    u.spdm p = { version := true } ∧ (.spdm p true d) ∈ u.out) ∧
  (∀ (s : State) (p : SpdmPort), s.spdmReached p = true → (s.spdm p).version = true → ∃ (u : State) (d : Bytes),
    exec (.getCapabilities p) s = .next u ∧ u.spdm p = { s.spdm p with caps := true } ∧ (.spdm p true d) ∈ u.out) ∧
  (∀ (s : State) (p : SpdmPort), s.spdmReached p = true → (s.spdm p).caps = true → ∃ (u : State) (d : Bytes),
    exec (.negotiateAlgorithms p) s = .next u ∧ u.spdm p = { s.spdm p with algs := true } ∧ (.spdm p true d) ∈ u.out) ∧
  (∀ (s : State) (p : SpdmPort), s.spdmReached p = true → (s.spdm p).algs = true → ∃ u : State, exec (.getDigests p) s = .next u ∧
    u.spdm p = s.spdm p ∧ (.spdm p true (sha384 s.chain)) ∈ u.out) ∧
  (∀ (s : State) (p : SpdmPort) (o l : Nat), s.spdmReached p = true → (s.spdm p).algs = true → o ≤ s.chain.length → ∃ u : State,
    exec (.getCertificate p o l) s = .next u ∧ u.spdm p = s.spdm p ∧ (.spdm p true ((s.chain.drop o).take l)) ∈ u.out) ∧
  (∀ (s : State) (p : SpdmPort) (n : Bytes), s.spdmReached p = true → (s.spdm p).algs = true → ∃ (u : State) (r : Bytes),
    exec (.spdmChallenge p n) s = .next u ∧ u.spdm p = s.spdm p ∧ (.spdm p true (sha384 s.chain ++ r ++
      spdmSign (aliasScalar s.fw.combination) (sha384 s.chain ++ n ++ r))) ∈ u.out) ∧
  (∀ (s : State) (p : SpdmPort) (i : Nat) (n b : Bytes), s.spdmReached p = true → (s.spdm p).algs = true → i ≠ 0 → i ≠ 0xFF →
    s.measurement (spdmFunction p) i n = some b → ∃ (u : State) (r : Bytes), exec (.getMeasurements p i n) s = .next u ∧
      u.spdm p = s.spdm p ∧ (.spdm p true (measureBlock i b ++ r ++
        spdmSign (aliasScalar s.fw.combination) (measureBlock i b ++ n ++ r))) ∈ u.out) ∧
  (∀ (s : State) (p : SpdmPort) (n : Bytes), s.spdmReached p = true → (s.spdm p).algs = true → ∃ (u : State) (d : Bytes),
    exec (.getMeasurements p 0 n) s = .next u ∧ u.spdm p = s.spdm p ∧ (.spdm p true (leBytes 1 measurementIndices.length ++ d)) ∈ u.out) ∧
  (∀ (s : State) (p : SpdmPort) (n : Bytes), s.spdmReached p = true → (s.spdm p).algs = true → ∃ (u : State) (d : Bytes),
    exec (.getMeasurements p 0xFF n) s = .next u ∧ u.spdm p = s.spdm p ∧ (.spdm p true ((measurementIndices.flatMap fun i =>
      ((s.measurement (spdmFunction p) i n).map (measureBlock i)).getD []) ++ d)) ∈ u.out) ∧
  (∀ (s : State) (p : SpdmPort) (x : Bytes), s.spdmReached p = true → (s.spdm p).algs = true → ∃ (u : State) (d : Bytes),
    exec (.keyExchange p x) s = .next u ∧ (u.spdm p).handshake = true ∧ (u.spdm p).opened = false ∧ (u.spdm p).proven = false ∧
      (u.spdm p).gen = 0 ∧ (.spdm p true d) ∈ u.out) ∧
  (∀ (s : State) (p : SpdmPort) (k : Option Bytes), s.spdmReached p = true → (s.spdm p).handshake = true → ∃ u : State,
    exec (.spdmFinish p true k) s = .next u ∧ (u.spdm p).opened = true ∧ (u.spdm p).handshake = false ∧
      (u.spdm p).proven = (k.isSome && decide (k = s.sec.tenant.map (·.key))) ∧ (.spdm p true []) ∈ u.out) ∧
  (∀ (s : State) (p : SpdmPort), s.spdmReached p = true → (s.spdm p).opened = true → ∃ u : State,
    exec (.spdmHeartbeat p) s = .next u ∧ u.spdm p = s.spdm p ∧ (.spdm p true []) ∈ u.out) ∧
  (∀ (s : State) (p : SpdmPort), s.spdmReached p = true → (s.spdm p).opened = true → ∃ u : State,
    exec (.keyUpdate p) s = .next u ∧ (u.spdm p).gen = (s.spdm p).gen + 1 ∧ (u.spdm p).opened = true ∧ (.spdm p true []) ∈ u.out) ∧
  (∀ (s : State) (p : SpdmPort), s.spdmReached p = true → (s.spdm p).opened = true → ∃ u : State,
    exec (.endSession p) s = .next u ∧ (u.spdm p).opened = false ∧ (u.spdm p).proven = false ∧ (u.spdm p).secret = [] ∧
      (.spdm p true []) ∈ u.out) ∧
  (∀ (s : State) (p : SpdmPort), s.spdmReached p = true → (s.spdm p).algs = false → exec (.getDigests p) s = .next (s.emit (.spdm p false []))) ∧
  (∀ (s : State) (p : SpdmPort), s.spdmReached p = true → (s.spdm p).opened = false → exec (.keyUpdate p) s = .next (s.emit (.spdm p false [])) ∧
    exec (.endSession p) s = .next (s.emit (.spdm p false [])) ∧ exec (.spdmHeartbeat p) s = .next (s.emit (.spdm p false [])))

/-- TDISP and IDE (R577 to R582). Version, capability and report contents are uninterpreted. -/
def Obligations.DeviceInterfacesAndStreams : Prop :=
  (∀ (s : State) (f : Part) (t : Tdi), s.tdi f = some t → exec (.getTdispVersion f) s =
      .next (s.emit (.tdisp f true (Config.protocolAnswer "TDISP_VERSION"))) ∧
    exec (.getTdispCapabilities f) s = .next (s.emit (.tdisp f true (Config.protocolAnswer "TDISP_CAPABILITIES"))) ∧
    exec (.getDeviceInterfaceState f) s = .next (s.emit (.tdisp f true (leBytes 1 (t.code - 1)))) ∧
    exec (.stopInterfaceRequest f) s = .next ((s.setTdi f .configUnlocked).emit (.tdisp f true []))) ∧
  (∀ (s : State) (f : Part), s.tdi f = some .configUnlocked →
    (∀ q ∈ s.hif.queues, q.1 / 64 = f.val → q.2.st = .disabled ∧ q.2.enable = false) → ∃ (u : State) (n : Bytes),
    exec (.lockInterfaceRequest f) s = .next ((u.setTdi f .configLocked).emit (.tdisp f true n)) ∧ u.hif = s.hif ∧
      u.sec.draws = s.sec.draws + 1) ∧
  (∀ (s : State) (f : Part), (s.tdi f = some .configLocked ∨ s.tdi f = some .run) →
    exec (.getDeviceInterfaceReport f) s = .next (s.emit (.tdisp f true (Config.tdiReport f)))) ∧
  (∀ (s : State) (f : Part), s.tdi f = some .configLocked → s.sec.covered f = true →
    exec (.startInterfaceRequest f) s = .next ((s.setTdi f .run).emit (.tdisp f true []))) ∧
  (∀ (s : State) (f : Part), s.tdi f ≠ some .configUnlocked → exec (.lockInterfaceRequest f) s = .next (s.emit (.tdisp f false []))) ∧
  (∀ (s : State) (f : Part), s.tdi f ≠ some .configLocked → exec (.startInterfaceRequest f) s = .next (s.emit (.tdisp f false []))) ∧
  (∀ (s : State) (k : Fin 17) (l : List Nat), s.top.ready = true → (s.spdm (.doe 0)).opened = true → exec (.ideKm k l true) s =
    .next (({ s with sec := { s.sec with ide := s.sec.ide.set k.val (some l) } } : State).emit (.spdm (.doe 0) true []))) ∧
  (∀ (s : State) (k : Fin 17) (l : List Nat), s.top.ready = true → (s.spdm (.doe 0)).opened = true → ∃ u : State,
    exec (.ideStreamLeaveSecure k) s = .next u ∧ exec (.ideKm k l false) s = .next (u.emit (.spdm (.doe 0) true []))) ∧
  (∀ (s : State) (k : Fin 17) (l : List Nat) (f : Part), s.sec.ide[k.val] = some l → f.val ≠ 0 → l.contains f.val = true →
    s.exposed f = true → ∃ u : State, exec (.ideStreamLeaveSecure k) s = .next u ∧ u.sec.ide[k.val] = none ∧
      u.hif.fns[f.val].tdi = .error)

/-- The safety monitor (R612, R613, R619 to R630, R645 to R648). -/
def Obligations.SafetyMonitorActs : Prop :=
  (∀ (s : State), s.safRuns = true → s.due s.saf.watchAt (msTicks 1) = true → s.saf.events = [] → exec .safMonitorCycle s =
    .next { s with saf := { s.saf with watchAt := s.clk, okAt := s.clk, okToggling := decide (s.saf.st = .running) && s.struct.outEn 0 } }) ∧
  (∀ (s : State) (e : SafEvent) (es : List SafEvent), s.safRuns = true → s.due s.saf.watchAt (msTicks 1) = true → s.inSafeState = false →
    s.saf.events.mergeSort SafEvent.before = e :: es → ∃ u : State, exec .safMonitorCycle s = .next u ∧ u.saf.cause = e.cause ∧
      u.saf.causeGtc = e.gtc ∧ u.saf.causeSrc = e.source ∧ u.inSafeState = true ∧ u.saf.events = [] ∧ u.saf.okToggling = false ∧
      u.saf.entryAt = s.clk ∧ u.saf.watchAt = s.clk) ∧
  (∀ (s : State), s.safRuns = true → s.top.armed = true → s.inSafeState = false → ∃ u : State, exec .lockstepMismatch s = .next u ∧
    u.saf.cause = 0x07 ∧ u.saf.dead = true ∧ u.inSafeState = true ∧ u.saf.causeGtc = s.gtcNs) ∧
  (∀ (s : State), s.safRuns = true → s.top.armed = true → s.due s.saf.watchAt (msTicks 5) = true → s.inSafeState = false → ∃ u : State,
    exec .safWatchdogExpiry s = .next u ∧ u.saf.cause = 0x08 ∧ u.saf.dead = true ∧ u.inSafeState = true ∧ u.saf.causeGtc = s.gtcNs) ∧
  (∀ (s : State), s.saf.st = .escalating → s.due s.saf.entryAt (msTicks 40) = true → ∃ u : State, exec .escalationTimeout s = .next u ∧
    u.saf.st = .powerOff ∧ u.saf.safeOff = true ∧ u.saf.cause = s.saf.cause) ∧
  (∀ (s : State), s.saf.okToggling = true → s.due s.saf.okAt (msTicks 1) = true →
    exec .safeOkServiceTimeout s = .next { s with saf := { s.saf with okToggling := false } }) ∧
  (∀ (s : State), s.safRuns = true → s.struct.safetyCore.isSome = true → s.due s.saf.beatAt (msTicks (s.struct.safetyField 8 2)) = true →
    exec .canHeartbeat s = .next (({ s with saf := { s.saf with aliveBeat := s.saf.aliveBeat + 1, beatAt := s.clk } } : State).sendCan
      (s.canBase + 1) 0x02 (s.saf.aliveBeat + 1))) ∧
  (∀ (s : State) (n : Fin 4), s.saf.sin.get n = true → exec (.sinLow n) s = .next { s with saf := { s.saf with
    sin := s.saf.sin.set n false, sinAt := s.saf.sinAt.set n (some (s.clk, s.gtcNs)) } }) ∧
  (∀ (s : State) (n : Fin 4), exec (.sinHigh n) s = .next { s with saf := { s.saf with
    sin := s.saf.sin.set n true, sinAt := s.saf.sinAt.set n none } }) ∧
  (∀ (s : State) (n : Fin 4) (c g : Nat), s.saf.sinAt.get n = some (c, g) → s.safRuns = true → s.top.armed = true →
    bit (s.struct.safetyField 6 1) n = true → s.due c (msTicks 2) = true → exec (.sinConfirmExpiry n) s = .next { s with saf := { s.saf with
      sinAt := s.saf.sinAt.set n none, events := s.saf.events ++ [{ cause := 0x05, gtc := g, source := srcSaf }] } }) ∧
  (∀ (s : State) (t : Int) (p : Nat), s.pwr.auxGood = true → s.saf.thermal ≠ .trip → 125 ≤ t → ∃ u : State,
    exec (.thermalSample t p) s = .next u ∧ u.saf.thermal = .trip ∧ u.pwr.mainGood = false) ∧
  (∀ (s : State) (t : Int) (p : Nat), s.pwr.auxGood = true → s.saf.thermal ≠ .trip → 115 ≤ t → t < 125 → ∃ u : State,
    exec (.thermalSample t p) s = .next u ∧ u.saf.thermal = .critical) ∧
  (∀ (s : State) (t : Int) (p : Nat), s.pwr.auxGood = true → (s.saf.thermal = .normal ∨ s.saf.thermal = .throttle) → t < 115 →
    (105 ≤ t ∨ s.top.profile.limit < p) → ∃ u : State, exec (.thermalSample t p) s = .next u ∧ u.saf.thermal = .throttle ∧
      u.saf.coolAt = s.clk) ∧
  (∀ (s : State) (t : Int) (p : Nat), s.pwr.auxGood = true → s.saf.thermal = .throttle → t ≤ 100 → p < s.top.profile.limit →
    s.due s.saf.coolAt (msTicks 100) = true → ∃ u : State, exec (.thermalSample t p) s = .next u ∧ u.saf.thermal = .normal) ∧
  (∀ (s : State), s.due s.saf.throttleAt (msTicks 10) = true → exec .throttleStep s = .next { s with saf := { s.saf with
    withheld := if s.saf.thermal = .throttle ∨ s.saf.thermal = .critical then min 15 (s.saf.withheld + 1) else s.saf.withheld - 1
    throttleAt := s.clk } }) ∧
  (∀ (s : State) (d : Fin 6), s.pwr.auxGood = true → s.top.armed = true → ∃ u : State, exec (.clockMonitorFault d) s = .next u ∧
    d.val ∈ u.saf.badClocks ∧ u.saf.events = s.saf.events ++ [{ cause := 0x0A, gtc := s.gtcNs, source := srcSaf }]) ∧
  (∀ (s : State) (r : Fin 12), s.pwr.auxGood = true → s.top.armed = true → ∃ u : State, exec (.voltageMonitorFault r) s = .next u ∧
    r.val ∈ u.saf.badRails ∧ u.saf.events = s.saf.events ++ [{ cause := 0x0B, gtc := s.gtcNs, source := srcSaf }])

/-- Self-tests (R641 to R644), the stale watch (R639, R640) and the pair (R649 to R654). The source number of a stale cause and the
stamp of SELFTEST are the model's readings (log entries 110, 112). -/
def Obligations.SelfTestsAndStaleWatch : Prop :=
  (∀ (s : State) (k n : Nat), s.safRuns = true → (k, n) ∈ checkers → (k, n) ∉ s.saf.tested → s.slotOpenNow = false →
    (k = 0x01 → s.safetyNodeOn n = false) → exec (.selftestTest k n true) s = .next { s with saf := { s.saf with
      tested := s.saf.tested ++ [(k, n)], failed := s.saf.failed.filter (·.1 ≠ (k, n)) } } ∧
    ((∀ x ∈ s.saf.failed, x.1 ≠ (k, n)) → exec (.selftestTest k n false) s = .next { s with saf := { s.saf with
      failed := s.saf.failed ++ [((k, n), s.gtcNs)], stFail := (k, n) } }) ∧
    (∀ g : Nat, s.saf.failed.find? (·.1 = (k, n)) = some ((k, n), g) → exec (.selftestTest k n false) s = .next (({ s with saf := { s.saf with
      tested := s.saf.tested ++ [(k, n)], failed := s.saf.failed.filter (·.1 ≠ (k, n)) } } : State).checkerFails (k, n) g))) ∧
  (∀ (s : State), s.safRuns = true → (∀ c ∈ checkers, c ∈ s.saf.tested) → ∃ u : State, exec .selftestRotationEnd s = .next u ∧
    u.saf.rotCount = satN 0xFFFFFFFF (s.saf.rotCount + 1) ∧ u.saf.tested = [] ∧ u.saf.missed = [] ∧ u.saf.rotAt = s.clk ∧
    u.saf.st = if s.saf.rotOk = true ∧ s.saf.st = .arming then .running else s.saf.st) ∧
  (∀ (s : State) (r : Fin 16) (v o : Bool) (a : Nat), s.safRuns = true → s.saf.inbox.find? (fun x => x.1 = r.val) = some (r.val, v, a, o) →
    ∃ u : State, exec (.staleWatchReceive r) s = .next u ∧ u.saf.age.get r = satN 0xFFFFFFFF (a / 1000) ∧
      u.saf.last.get r = some (v, s.clk) ∧ u.saf.inbox = s.saf.inbox.erase (r.val, v, a, o) ∧
      u.saf.events = s.saf.events ++ (if o && s.struct.safetyClass r && s.top.armed
        then [{ cause := 0x02, gtc := s.gtcNs, source := srcRoute r }] else [])) ∧
  (∀ (s : State) (r : Fin 16) (t : Nat) (x : Bytes), s.saf.gap.get r = some t → s.struct.stale r = some x → s.safRuns = true →
    s.due t (usTicks (field x 12 4)) = true → s.struct.safetyClass r = true → s.top.armed = true → ∃ u : State,
    exec (.staleGap r) s = .next u ∧ u.saf.gap.get r = none ∧
      u.saf.events = s.saf.events ++ [{ cause := 0x03, gtc := s.gtcNs, source := srcRoute r }]) ∧
  (∀ (s : State) (w : U32), s.top.ready = true → s.pair.enabled = false → ∃ u : State, exec (.pairEnable 0 w) s = .next u ∧
    u.pair.enabled = (bit w.toNat 8 && s.pairMay w) ∧ u.pair.peer = wbits w 7 0 ∧
    u.pair.role = if !(bit w.toNat 8 && s.pairMay w) then .off else if bit w.toNat 9 then .active else .standby) ∧
  (∀ (s : State) (f e : Nat), s.pair.copying = some (f, e) → s.pair.enabled = true → s.pair.role = .active → ∃ u : State,
    exec .epochCopyComplete s = .next u ∧ u.pair.copying = none ∧ u.pair.frame = f ∧
      u.pair.epoch = f / max 1 (wbits s.pair.ctl 31 16) % 2 ^ 32) ∧
  (∀ (s : State) (ep f g n : Nat) (d : Bytes), s.pair.enabled = true → s.pair.role = .standby → ∃ u : State,
    exec (.commitRecord ep f g n d) s = .next u ∧ u.pair.partial_ = false ∧
      ((n = s.pair.sizes.sum ∧ sha384 (s.pairArea (b2n (!s.pair.slot))) = d) →
        u.pair.slot = !s.pair.slot ∧ u.pair.epoch = ep ∧ u.pair.frame = f ∧ u.pair.discard = s.pair.discard) ∧
      (¬ (n = s.pair.sizes.sum ∧ sha384 (s.pairArea (b2n (!s.pair.slot))) = d) →
        u.pair.slot = s.pair.slot ∧ u.pair.epoch = s.pair.epoch ∧ u.pair.discard = satN 0xFFFFFFFF (s.pair.discard + 1))) ∧
  (∀ (s : State) (b : Fin 256), s.pair.enabled = true → s.pair.peer = b.val → s.pair.role = .standby → ∃ u : State,
    exec (.pairFail b) s = .next u ∧ u.pair.role = .takenOver ∧ u.pair.partial_ = false)

/-- The ledger's stages and telemetry (R671, R688 to R702). -/
def Obligations.LedgerAndTelemetry : Prop :=
  (∀ (s : State) (e : LogEntry), s.log.nextEntry = some e → (e.boot ≠ s.log.boot ∨ e.steps ≠ s.log.steps ∨ e.gtc + 1000000 ≤ s.gtcNs) →
    exec .ledgerAppend s = .next (s.keepSeq (({ s.log with reorder := s.log.reorder.erase e } : Log).appendAll s.gtcNs e))) ∧
  (∀ (s : State) (e : LogEntry), s.log.nextEntry = some e → e.boot = s.log.boot → e.steps = s.log.steps → s.gtcNs < e.gtc + 1000000 →
    exec .ledgerAppend s = .next s) ∧
  (∀ (s : State), s.gtcNs / 1000000000 ≠ s.log.second → exec .coalesceSecondEnd s = .next { s with log := s.log.endSecond s.gtcNs }) ∧
  (∀ (s : State) (e : LogEntry) (l : List LogEntry), s.top.mgtUp = true → s.log.buf = e :: l → ∃ u : State,
    exec (.ledgerNorCopy true) s = .next u ∧ u.log.nor.getLast? = some e ∧ u.ret.record.lastNorSeq = e.seq ∧
      u.log.retired = s.log.retired) ∧
  (∀ (s : State) (e : LogEntry) (l : List LogEntry), s.top.mgtUp = true → s.log.buf = e :: l → ∃ u : State,
    exec (.ledgerNorCopy false) s = .next u ∧ u.log.nor = s.log.nor ∧ u.log.fill = 0 ∧
      u.log.retired = nset s.log.retired (if s.log.fill < 1024 then s.log.sector else s.log.sectorAfter s.log.sector)) ∧
  (∀ (s : State) (k i : Nat), s.top.mgtUp = false → exec (.boardFatalError k i) s = .next ((s.note (if sourceListed k then k else srcMgt) 5
    0x0101 0 [if sourceListed k then k else srcMgt, i]).startReset false "board fatal" (if sourceListed k then k else srcMgt))) ∧
  (∀ (s : State) (k i : Nat), s.top.mgtUp = true → ∃ u : State, exec (.boardFatalError k i) s =
    .next (u.startReset false "board fatal" (if sourceListed k then k else srcMgt)) ∧ u.pwr = s.pwr ∧ u.hif = s.hif ∧ u.mem = s.mem) ∧
  (∀ (s : State) (f : Part) (rd : Nat) (x : Fn) (g : TelRing), s.top.mgtUp = true → s.due s.bg.telAt (msTicks 10) = true →
    s.hif.fns[f.val] = x → x.ring = some g → g.sampledAt ≠ s.clk →
    (g.wrOff + (g.size - 256) - rd % (g.size - 256)) % (g.size - 256) + 256 < g.size - 256 → ∃ (u : State) (b : Bytes),
    exec (.telemetrySample f rd) s = .next u ∧ (.hostWrite f (g.addr + 256 + g.wrOff) b false) ∈ u.out ∧
      (.hostWrite f g.addr (leBytes 8 ((g.wrOff + 256) % (g.size - 256))) false) ∈ u.out ∧ u.bg.telAt = s.clk ∧
      u.hif.fns[f.val].cause.getLsbD 6 = true ∧ u.hif.fns[f.val].ring = some { g with
        wrOff := (g.wrOff + 256) % (g.size - 256), sample := (g.sample + 1) % 2 ^ 32, dropped := 0, sampledAt := s.clk }) ∧
  (∀ (s : State) (f : Part) (rd : Nat) (x : Fn) (g : TelRing), s.top.mgtUp = true → s.due s.bg.telAt (msTicks 10) = true →
    s.hif.fns[f.val] = x → x.ring = some g → g.sampledAt ≠ s.clk →
    g.size - 256 ≤ (g.wrOff + (g.size - 256) - rd % (g.size - 256)) % (g.size - 256) + 256 → ∃ u : State,
    exec (.telemetrySample f rd) s = .next u ∧ u.out = s.out ∧
      u.hif.fns[f.val].ring = some { g with dropped := satN 0xFFFF (g.dropped + 1), sampledAt := s.clk })

/-- Background work (R703 to R711). -/
def Obligations.BackgroundWork : Prop :=
  (∀ (s : State) (l : List Bytes) (w : Bool), s.mem.ready = true → s.unreserved = true → s.top.eccOn = false →
    exec (.patrolRead l w) s = .next { s with bg := s.bg.nextBlock }) ∧
  (∀ (s : State) (l : List Bytes) (w : Bool), s.mem.ready = true → s.unreserved = true → s.top.eccOn = true →
    (∀ e ∈ l, e.filter (· ≠ 0) = []) → exec (.patrolRead l w) s = .next { s with bg := s.bg.nextBlock }) ∧
  (∀ (s : State) (e : Bytes), s.mem.ready = true → s.unreserved = true → s.top.eccOn = true → s.mem.poisoned (15 * s.bg.block * 64) 64 = false →
    ((e.filter (· ≠ 0)).length = 2 ∨ (e.filter (· ≠ 0)).length = 3) → ∃ u : State, exec (.patrolRead [e] false) s = .next u ∧ u.mem.ue = satN 0xFFFFFFFF (s.mem.ue + 1) ∧
      u.mem.eccAddr = 15 * s.bg.block * 64 ∧ u.mem.poisoned (15 * s.bg.block * 64) 64 = true ∧ u.mem.cells = s.mem.cells ∧
      u.bg.block = s.bg.nextBlock.block) ∧
  (∀ (s : State) (e : Bytes), s.mem.ready = true → s.unreserved = true → s.top.eccOn = true → s.mem.poisoned (15 * s.bg.block * 64) 64 = false →
    (e.filter (· ≠ 0)).length = 1 → ∃ u : State, exec (.patrolRead [e] false) s = .next u ∧ u.mem.ce = satN 0xFFFFFFFF (s.mem.ce + 1) ∧
      u.mem.poison = s.mem.poison ∧ u.mem.cells = s.mem.cells) ∧
  (∀ (s : State) (c : Fin 64) (a : Nat), ((s.core c).task.map (·.safety)).getD false = false → a < 524288 → ∃ u : State,
    exec (.sramScrub c a .corrected) s = .next u ∧ (u.core c).eccC = satN 0xFFFF ((s.core c).eccC + 1) ∧
      (u.core c).lsPoison = (s.core c).lsPoison) ∧
  (∀ (s : State) (c : Fin 64) (a : Nat), ((s.core c).task.map (·.safety)).getD false = false → a < 524288 → ∃ u : State,
    exec (.sramScrub c a .uncorrectable) s = .next u ∧ (u.core c).eccU = satN 0xFFFF ((s.core c).eccU + 1) ∧
      (u.core c).lsPoison = nset (s.core c).lsPoison (a / 32)) ∧
  (∀ (s : State) (c : Fin 64) (a : Nat) (e : EccFind), ((s.core c).task.map (·.safety)).getD false = true → exec (.sramScrub c a e) s = .next s) ∧
  (∀ (s : State) (k : Fin 64), s.mem.ready = true → s.due (s.bg.recal.get k) (msTicks 100) = true →
    s.due (s.bg.recal.get k) (msTicks 200) = false → s.unreserved = true →
    exec (.recalibration k false) s = .next { s with bg := { s.bg with recal := s.bg.recal.set k s.clk } }) ∧
  (∀ (s : State) (k : Fin 64), s.mem.ready = true → s.due (s.bg.recal.get k) (msTicks 100) = true →
    s.due (s.bg.recal.get k) (msTicks 200) = false → ∃ u : State, exec (.recalibration k true) s = .next u ∧
      u.bg.deferrals = satN 0xFFFF (s.bg.deferrals + 1) ∧ u.bg.recal = s.bg.recal) ∧
  (∀ (s : State) (k : Fin 64) (b : Bool), s.mem.ready = true → s.due (s.bg.recal.get k) (msTicks 200) = true → s.unreserved = true →
    ∃ u : State, exec (.recalibration k b) s = .next u ∧ u.bg.recal = s.bg.recal.set k s.clk ∧
      u.bg.forced = satN 0xFFFF (s.bg.forced + 1)) ∧
  (∀ (s : State), s.mem.ready = true → s.unreserved = true →
    exec (.refreshManagement false) s = .next { s with bg := { s.bg with rfms := s.bg.rfms + 1 } }) ∧
  (∀ (s : State), s.mem.ready = true → exec .refresh s = .next { s with bg := { s.bg with refreshes := s.bg.refreshes + 1 } }) ∧
  (∀ (s : State) (w : U32), s.top.ready = true → exec (.bgCtlWrite 0 w) s = .next { s with bg := { s.bg with
    patrolHours := if 1 ≤ wbits w 7 0 ∧ wbits w 7 0 ≤ 168 then wbits w 7 0 else s.bg.patrolHours
    sramScrub := if 1 ≤ wbits w 15 8 ∧ wbits w 15 8 ≤ 60 then wbits w 15 8 else s.bg.sramScrub } })

/-- How a run uses the commands' meanings. The queue and the idle step are the model's (log entry 1). -/
def Obligations.StepRunsTheFrontCommand : Prop :=
  (∀ (s : State) (c : Instr) (rest : List Instr), s.pending = c :: rest → step s = exec c { s with pending := rest }) ∧
  (∀ (s : State) (c : Instr), step { s with pending := c :: s.pending } = exec c s) ∧
  (∀ s : State, s.pending = [] → step s = .next s.tick ∧ s.tick.pending = [] ∧ s.tick.clk = s.clk + 1)

/-- `State.reset` as the spec gives it. The values that the spec leaves open are in the log and no clause rests on them. -/
def Obligations.ResetState : Prop :=
  State.reset.top.resetting = some 5 ∧ State.reset.top.ready = false ∧ State.reset.top.recovery = false ∧
  State.reset.top.lastReset = 5 ∧ State.reset.top.base = .opened ∧ State.reset.top.armed = false ∧ State.reset.top.eccOn = true ∧
  State.reset.top.gtcSet = false ∧ (∀ x ∈ State.reset.img.sect.toList, x.inForce = false) ∧
  (∀ x ∈ State.reset.rsq.routes.toList, x.st = .empty) ∧ State.reset.saf.st = .disarmed ∧ State.reset.sec.tenant = none ∧
  (∀ f q, (State.reset.queue f q).enable = false) ∧ (∀ x ∈ State.reset.hif.fns.toList, x.tdi = .configUnlocked) ∧
  State.reset.ret.latch = true ∧ State.reset.pending = [] ∧ State.reset.memOk

/-- R158 and R162. The queue block stands at 0x2000 of a VF's BAR0 and at 0x1_2000 of PF0's, 0x40 for each queue. -/
def Obligations.QueueConfigurationIsGuarded : Prop :=
  (∀ (s : State) (f : Part) (q : Fin 64) (r size : Nat) (v : U64), (s.queue f q).enable = true → q.val < s.queueCount f →
    (r < 0x18 ∧ (size = 4 ∨ size = 8) ∧ r % size = 0 ∨ r = 0x1C ∧ size = 4) →
    exec (.registerWrite f .bar0 ((if f.val = 0 then 0x12000 else 0x2000) + 0x40 * q.val + r) size v) s = .next s) ∧
  (∀ (s t : State) (f : Part) (q : Fin 64) (w : U32), (s.queue f q).enable = true →
    (exec (.queueEnable f q w) s = .next t ∨ exec (.queueDisable f q w) s = .next t) →
    (t.queue f q).sizeLog2 = (s.queue f q).sizeLog2) ∧
  (∀ (s : State) (f : Part) (q : Fin 64) (w : U32), 13 ≤ wbits w 3 0 → exec (.queueEnable f q w) s = .next s ∧
    exec (.queueDisable f q w) s = .next s) ∧
  (∀ (s : State) (f : Part) (q : Fin 64) (v : U64), 13 ≤ wbits (v.setWidth 32) 3 0 → q.val < s.queueCount f →
    exec (.registerWrite f .bar0 ((if f.val = 0 then 0x12000 else 0x2000) + 0x40 * q.val + 0x18) 4 v) s = .next s)

/-- The queue of waiting commands is first in, first out, in every step of every command. The queue is the model's own. -/
def Obligations.QueueConsumedInOrder : Prop :=
  ∀ s t : State, step s = .next t → t.pending = s.pending.tail

/-- The SVN fuse counters are one-way (R99 to R102; recovery never lowers one). -/
def Obligations.FuseCountersNeverFall : Prop :=
  ∀ s t : State, step s = .next t → fusesRise s t

/-- The canonical form of memory is an invariant of every step. That it holds at reset is a clause of `ResetState`. -/
def Obligations.MemoryStaysCanonical : Prop :=
  ∀ s t : State, s.memOk → step s = .next t → t.memOk

/-- No meaning of the model faults or refuses; a command whose conditions do not hold leaves the state or answers as its rule says. -/
def Obligations.EveryCommandCompletes : Prop :=
  (∀ (i : Instr) (s : State), ∃ t, exec i s = .next t) ∧ (∀ s : State, ∃ t, step s = .next t)

/-- Read after write and the frame of a write, for the one operation through which every command stores to board memory. -/
def Obligations.MemoryReadsWhatWasWritten : Prop :=
  (∀ (s : State) (a : Nat) (bs : Bytes) (p : Bool), s.memOk → (s.memWrite a bs p).mem.read a bs.length = bs) ∧
  (∀ (s : State) (a b n : Nat) (bs : Bytes) (p : Bool), s.memOk → (b + n ≤ a ∨ a + bs.length ≤ b) →
    (s.memWrite a bs p).mem.read b n = s.mem.read b n) ∧
  (∀ (s : State) (a : Nat) (bs : Bytes) (p : Bool), s.memOk → ((s.memWrite a bs p).memWrite a bs p).mem.cells = (s.memWrite a bs p).mem.cells)

/-- The frame of the commands: what none of the others can change. -/
def Obligations.FramesOfMemoryAndFirmware : Prop :=
  (∀ (i : Instr) (s t : State), mayChangeMemory i = false → exec i s = .next t → t.mem = s.mem ∧ ∀ a n, t.mem.read a n = s.mem.read a n) ∧
  (∀ (i : Instr) (s t : State), mayChangeFirmware i = false → exec i s = .next t → t.fw = s.fw)
end

