-- ==== Sys2Proof/Laws/Cells.lean ====
section
/-! SUPPORT. The small sparse memories (NOR flash, local stores, the recovery buffer, the SEC mailbox, MSI-X tables): a write gives
the bytes written, leaves every other byte, and keeps the canonical form. -/

namespace Sys2Proof.Machine

theorem cellWf_iff (d : Byte) (l : List Host.Cell) :
    cellWf d l = true ↔ (l.Pairwise fun p q => p.1 < q.1) ∧ ∀ p ∈ l, p.2 ≠ d := by
  induction l with
  | nil => simp [cellWf]
  | cons p t ih =>
    cases t with
    | nil => simp [cellWf]
    | cons q u =>
      simp only [cellWf, Bool.and_eq_true, decide_eq_true_eq, ih, bne_iff_ne]
      constructor
      · rintro ⟨⟨hpq, hp⟩, hu, hl⟩
        refine ⟨List.pairwise_cons.2 ⟨fun r hr => ?_, hu⟩, fun r hr => ?_⟩
        · rcases List.mem_cons.1 hr with rfl | hr
          · exact hpq
          · exact lt_trans hpq ((List.pairwise_cons.1 hu).1 r hr)
        · rcases List.mem_cons.1 hr with rfl | hr
          · exact hp
          · exact hl r hr
      · rintro ⟨hu, hl⟩
        obtain ⟨h1, h2⟩ := List.pairwise_cons.1 hu
        exact ⟨⟨h1 q List.mem_cons_self, hl p List.mem_cons_self⟩, h2, fun r hr => hl r (List.mem_cons_of_mem _ hr)⟩

theorem cellsOf_mem (d : Byte) (a : Nat) (bs : Bytes) (p : Host.Cell) (h : p ∈ cellsOf d a bs) :
    a ≤ p.1 ∧ p.1 < a + bs.length ∧ p.2 ≠ d := by
  induction bs generalizing a with
  | nil => simp [cellsOf] at h
  | cons b t ih =>
    simp only [cellsOf] at h
    split at h
    · obtain ⟨h1, h2, h3⟩ := ih _ h
      simp only [List.length_cons]
      exact ⟨by omega, by omega, h3⟩
    · rename_i hb
      rcases List.mem_cons.1 h with rfl | h
      · simpa using hb
      · obtain ⟨h1, h2, h3⟩ := ih _ h
        simp only [List.length_cons]
        exact ⟨by omega, by omega, h3⟩

theorem cellsOf_pairwise (d : Byte) (a : Nat) (bs : Bytes) : (cellsOf d a bs).Pairwise fun p q => p.1 < q.1 := by
  induction bs generalizing a with
  | nil => simp [cellsOf]
  | cons b t ih =>
    simp only [cellsOf]
    split
    · exact ih _
    · refine List.pairwise_cons.2 ⟨fun p hp => ?_, ih _⟩
      have := (cellsOf_mem d (a + 1) t p hp).1
      simp only
      omega

/-- A write keeps the canonical form. -/
theorem cellWrite_wf (d : Byte) (m : List Host.Cell) (a : Nat) (bs : Bytes) (h : cellWf d m = true) :
    cellWf d (cellWrite d m a bs) = true := by
  rw [cellWf_iff] at h ⊢
  obtain ⟨hp, hl⟩ := h
  unfold cellWrite
  constructor
  · rw [List.pairwise_append, List.pairwise_append]
    refine ⟨⟨hp.filter _, cellsOf_pairwise d a bs, fun p hp q hq => ?_⟩, hp.filter _, fun p hp q hq => ?_⟩
    · have h1 := (List.mem_filter.1 hp).2
      have h2 := cellsOf_mem d a bs q hq
      simp at h1
      omega
    · have h2 := (List.mem_filter.1 hq).2
      simp only [decide_eq_true_eq] at h2
      rcases List.mem_append.1 hp with hp | hp
      · have h1 := (List.mem_filter.1 hp).2
        simp at h1
        omega
      · have h1 := cellsOf_mem d a bs p hp
        omega
  · intro p hp
    rcases List.mem_append.1 hp with hp | hp
    · rcases List.mem_append.1 hp with hp | hp
      · exact hl p (List.mem_filter.1 hp).1
      · exact (cellsOf_mem d a bs p hp).2.2
    · exact hl p (List.mem_filter.1 hp).1

/-- Forgetting bytes keeps the canonical form. -/
theorem cellErase_wf (d : Byte) (m : List Host.Cell) (a n : Nat) (h : cellWf d m = true) : cellWf d (cellErase m a n) = true := by
  rw [cellWf_iff] at h ⊢
  exact ⟨h.1.filter _, fun p hp => h.2 p (List.mem_filter.1 hp).1⟩

end Sys2Proof.Machine
end

