-- ==== Sys2Proof/Laws/Flits.lean ====
section
/-! SUPPORT. Byte strings as numbers, the range of a CRC-32, and when a flit reads as good (R488, R489, R493). -/

namespace Sys2Proof.Machine

/-- A CRC-32 step stays within 32 bits. -/
theorem crc_byte_lt (c n : Nat) (h : c < 2 ^ 32) : crcByte 0xEDB88320 c n < 2 ^ 32 := by
  induction n generalizing c with
  | zero => simpa [crcByte]
  | succ n ih =>
    unfold crcByte
    apply ih
    split
    · exact Nat.xor_lt_two_pow (by omega) (by decide)
    · omega

/-- A CRC-32 is a 32-bit number. -/
theorem crc32_lt (b : Bytes) : crc32 b < 2 ^ 32 := by
  unfold crc32
  apply Nat.xor_lt_two_pow _ (by decide)
  have : ∀ (l : Bytes) (c : Nat), c < 2 ^ 32 → l.foldl (fun c x => crcByte 0xEDB88320 (c ^^^ x.toNat) 8) c < 2 ^ 32 := by
    intro l
    induction l with
    | nil => intro c h; exact h
    | cons x l ih =>
      intro c h
      exact ih _ (crc_byte_lt _ _ (Nat.xor_lt_two_pow h (by have := x.isLt; omega)))
  exact this b _ (by decide)

/-- Little-endian bytes spell their number. -/
theorem ofLe_leBytes (n v : Nat) : ofLe (leBytes n v) = v % 256 ^ n := by
  induction n generalizing v with
  | zero => simp [leBytes, ofLe]; omega
  | succ n ih =>
    simp only [leBytes, ofLe, ih, BitVec.toNat_ofNat]
    rw [show 256 ^ (n + 1) = 256 * 256 ^ n by rw [Nat.pow_succ, Nat.mul_comm], Nat.mod_mul]

/-- Little-endian bytes have the length asked for. -/
@[simp] theorem leBytes_length (n v : Nat) : (leBytes n v).length = n := by
  induction n generalizing v with
  | zero => rfl
  | succ n ih => simp [leBytes, ih]

/-- 508 bytes with their CRC are a flit whose CRC is right. -/
theorem flit_crc (s : State) (p : Nat) (b : Bytes) (h : b.length = 508) : (s.readFlit p (b ++ leBytes 4 (crc32 b))).crcOk = true := by
  have e1 : slice (b ++ leBytes 4 (crc32 b)) 0 508 = b := by simp [slice, h]
  have e2 : slice (b ++ leBytes 4 (crc32 b)) 508 4 = leBytes 4 (crc32 b) := by
    simp [slice, h, leBytes_length]
  simp only [State.readFlit, e1, field, e2, ofLe_leBytes]
  have := crc32_lt b
  simp [h, leBytes_length]
  omega

/-- The middle part of three. -/
theorem slice_mid (a b c : Bytes) : slice (a ++ (b ++ c)) a.length b.length = b := by simp [slice]

/-- A ciphertext opens when its tag is right. -/
theorem gcm_isSome (k iv aad ct tag : Bytes) : (gcmOpen k iv aad ct tag).isSome = decide (gcmTag (aesRoundKeys k) iv aad ct = tag) := by
  unfold gcmOpen
  by_cases h : gcmTag (aesRoundKeys k) iv aad ct = tag
  · simp only [h, if_true]; simp
  · simp only [h, if_false]; simp

end Sys2Proof.Machine
end

