-- ==== Sys2Proof/Laws/State.lean ====
section
/-! SUPPORT. The named updates of State: what each leaves alone and, for the simplest, what it sets. The queue and board memory
have their own files (`Laws/KeepsPending.lean`, `Laws/KeepsMemory.lean`), which cover every operation. -/

namespace Sys2Proof.Machine

@[simp] theorem State.emit_out (s : State) (o : Out) : (s.emit o).out = s.out ++ [o] := rfl

@[simp] theorem State.emit_clk (s : State) (o : Out) : (s.emit o).clk = s.clk := rfl

@[simp] theorem State.emit_free (s : State) (o : Out) : (s.emit o).free = s.free := rfl

@[simp] theorem State.emit_bus (s : State) (o : Out) : (s.emit o).bus = s.bus := rfl

@[simp] theorem State.emit_top (s : State) (o : Out) : (s.emit o).top = s.top := rfl

@[simp] theorem State.emit_pwr (s : State) (o : Out) : (s.emit o).pwr = s.pwr := rfl

@[simp] theorem State.emit_ret (s : State) (o : Out) : (s.emit o).ret = s.ret := rfl

@[simp] theorem State.emit_fw (s : State) (o : Out) : (s.emit o).fw = s.fw := rfl

@[simp] theorem State.emit_recov (s : State) (o : Out) : (s.emit o).recov = s.recov := rfl

@[simp] theorem State.emit_cal (s : State) (o : Out) : (s.emit o).cal = s.cal := rfl

@[simp] theorem State.emit_hif (s : State) (o : Out) : (s.emit o).hif = s.hif := rfl

@[simp] theorem State.emit_img (s : State) (o : Out) : (s.emit o).img = s.img := rfl

@[simp] theorem State.emit_rsq (s : State) (o : Out) : (s.emit o).rsq = s.rsq := rfl

@[simp] theorem State.emit_cin (s : State) (o : Out) : (s.emit o).cin = s.cin := rfl

@[simp] theorem State.emit_sw (s : State) (o : Out) : (s.emit o).sw = s.sw := rfl

@[simp] theorem State.emit_stg (s : State) (o : Out) : (s.emit o).stg = s.stg := rfl

@[simp] theorem State.emit_nec (s : State) (o : Out) : (s.emit o).nec = s.nec := rfl

@[simp] theorem State.emit_fab (s : State) (o : Out) : (s.emit o).fab = s.fab := rfl

@[simp] theorem State.emit_tmg (s : State) (o : Out) : (s.emit o).tmg = s.tmg := rfl

@[simp] theorem State.emit_sec (s : State) (o : Out) : (s.emit o).sec = s.sec := rfl

@[simp] theorem State.emit_saf (s : State) (o : Out) : (s.emit o).saf = s.saf := rfl

@[simp] theorem State.emit_pair (s : State) (o : Out) : (s.emit o).pair = s.pair := rfl

@[simp] theorem State.emit_log (s : State) (o : Out) : (s.emit o).log = s.log := rfl

@[simp] theorem State.emit_bg (s : State) (o : Out) : (s.emit o).bg = s.bg := rfl

@[simp] theorem State.emitAll_out (s : State) (o : List Out) : (s.emitAll o).out = s.out ++ o := rfl

@[simp] theorem State.emitAll_clk (s : State) (o : List Out) : (s.emitAll o).clk = s.clk := rfl

@[simp] theorem State.emitAll_free (s : State) (o : List Out) : (s.emitAll o).free = s.free := rfl

@[simp] theorem State.emitAll_bus (s : State) (o : List Out) : (s.emitAll o).bus = s.bus := rfl

@[simp] theorem State.emitAll_top (s : State) (o : List Out) : (s.emitAll o).top = s.top := rfl

@[simp] theorem State.emitAll_pwr (s : State) (o : List Out) : (s.emitAll o).pwr = s.pwr := rfl

@[simp] theorem State.emitAll_ret (s : State) (o : List Out) : (s.emitAll o).ret = s.ret := rfl

@[simp] theorem State.emitAll_fw (s : State) (o : List Out) : (s.emitAll o).fw = s.fw := rfl

@[simp] theorem State.emitAll_recov (s : State) (o : List Out) : (s.emitAll o).recov = s.recov := rfl

@[simp] theorem State.emitAll_cal (s : State) (o : List Out) : (s.emitAll o).cal = s.cal := rfl

@[simp] theorem State.emitAll_hif (s : State) (o : List Out) : (s.emitAll o).hif = s.hif := rfl

@[simp] theorem State.emitAll_img (s : State) (o : List Out) : (s.emitAll o).img = s.img := rfl

@[simp] theorem State.emitAll_rsq (s : State) (o : List Out) : (s.emitAll o).rsq = s.rsq := rfl

@[simp] theorem State.emitAll_cin (s : State) (o : List Out) : (s.emitAll o).cin = s.cin := rfl

@[simp] theorem State.emitAll_sw (s : State) (o : List Out) : (s.emitAll o).sw = s.sw := rfl

@[simp] theorem State.emitAll_stg (s : State) (o : List Out) : (s.emitAll o).stg = s.stg := rfl

@[simp] theorem State.emitAll_nec (s : State) (o : List Out) : (s.emitAll o).nec = s.nec := rfl

@[simp] theorem State.emitAll_fab (s : State) (o : List Out) : (s.emitAll o).fab = s.fab := rfl

@[simp] theorem State.emitAll_tmg (s : State) (o : List Out) : (s.emitAll o).tmg = s.tmg := rfl

@[simp] theorem State.emitAll_sec (s : State) (o : List Out) : (s.emitAll o).sec = s.sec := rfl

@[simp] theorem State.emitAll_saf (s : State) (o : List Out) : (s.emitAll o).saf = s.saf := rfl

@[simp] theorem State.emitAll_pair (s : State) (o : List Out) : (s.emitAll o).pair = s.pair := rfl

@[simp] theorem State.emitAll_log (s : State) (o : List Out) : (s.emitAll o).log = s.log := rfl

@[simp] theorem State.emitAll_bg (s : State) (o : List Out) : (s.emitAll o).bg = s.bg := rfl

@[simp] theorem State.useFree_free (s : State) : (s.useFree).free = s.free + 1 := rfl

@[simp] theorem State.useFree_clk (s : State) : (s.useFree).clk = s.clk := rfl

@[simp] theorem State.useFree_bus (s : State) : (s.useFree).bus = s.bus := rfl

@[simp] theorem State.useFree_out (s : State) : (s.useFree).out = s.out := rfl

@[simp] theorem State.useFree_top (s : State) : (s.useFree).top = s.top := rfl

@[simp] theorem State.useFree_pwr (s : State) : (s.useFree).pwr = s.pwr := rfl

@[simp] theorem State.useFree_ret (s : State) : (s.useFree).ret = s.ret := rfl

@[simp] theorem State.useFree_fw (s : State) : (s.useFree).fw = s.fw := rfl

@[simp] theorem State.useFree_recov (s : State) : (s.useFree).recov = s.recov := rfl

@[simp] theorem State.useFree_cal (s : State) : (s.useFree).cal = s.cal := rfl

@[simp] theorem State.useFree_hif (s : State) : (s.useFree).hif = s.hif := rfl

@[simp] theorem State.useFree_img (s : State) : (s.useFree).img = s.img := rfl

@[simp] theorem State.useFree_rsq (s : State) : (s.useFree).rsq = s.rsq := rfl

@[simp] theorem State.useFree_cin (s : State) : (s.useFree).cin = s.cin := rfl

@[simp] theorem State.useFree_sw (s : State) : (s.useFree).sw = s.sw := rfl

@[simp] theorem State.useFree_stg (s : State) : (s.useFree).stg = s.stg := rfl

@[simp] theorem State.useFree_nec (s : State) : (s.useFree).nec = s.nec := rfl

@[simp] theorem State.useFree_fab (s : State) : (s.useFree).fab = s.fab := rfl

@[simp] theorem State.useFree_tmg (s : State) : (s.useFree).tmg = s.tmg := rfl

@[simp] theorem State.useFree_sec (s : State) : (s.useFree).sec = s.sec := rfl

@[simp] theorem State.useFree_saf (s : State) : (s.useFree).saf = s.saf := rfl

@[simp] theorem State.useFree_pair (s : State) : (s.useFree).pair = s.pair := rfl

@[simp] theorem State.useFree_log (s : State) : (s.useFree).log = s.log := rfl

@[simp] theorem State.useFree_bg (s : State) : (s.useFree).bg = s.bg := rfl

@[simp] theorem State.note_clk (s : State) (source : Nat) (cls : Nat) (code : Nat) (part : Nat) (args : List Nat) (tenant : Bool) :
    (s.note source cls code part args tenant).clk = s.clk := rfl

@[simp] theorem State.note_free (s : State) (source : Nat) (cls : Nat) (code : Nat) (part : Nat) (args : List Nat) (tenant : Bool) :
    (s.note source cls code part args tenant).free = s.free := rfl

@[simp] theorem State.note_bus (s : State) (source : Nat) (cls : Nat) (code : Nat) (part : Nat) (args : List Nat) (tenant : Bool) :
    (s.note source cls code part args tenant).bus = s.bus := rfl

@[simp] theorem State.note_out (s : State) (source : Nat) (cls : Nat) (code : Nat) (part : Nat) (args : List Nat) (tenant : Bool) :
    (s.note source cls code part args tenant).out = s.out := rfl

@[simp] theorem State.note_top (s : State) (source : Nat) (cls : Nat) (code : Nat) (part : Nat) (args : List Nat) (tenant : Bool) :
    (s.note source cls code part args tenant).top = s.top := rfl

@[simp] theorem State.note_pwr (s : State) (source : Nat) (cls : Nat) (code : Nat) (part : Nat) (args : List Nat) (tenant : Bool) :
    (s.note source cls code part args tenant).pwr = s.pwr := rfl

@[simp] theorem State.note_ret (s : State) (source : Nat) (cls : Nat) (code : Nat) (part : Nat) (args : List Nat) (tenant : Bool) :
    (s.note source cls code part args tenant).ret = s.ret := rfl

@[simp] theorem State.note_fw (s : State) (source : Nat) (cls : Nat) (code : Nat) (part : Nat) (args : List Nat) (tenant : Bool) :
    (s.note source cls code part args tenant).fw = s.fw := rfl

@[simp] theorem State.note_recov (s : State) (source : Nat) (cls : Nat) (code : Nat) (part : Nat) (args : List Nat) (tenant : Bool) :
    (s.note source cls code part args tenant).recov = s.recov := rfl

@[simp] theorem State.note_cal (s : State) (source : Nat) (cls : Nat) (code : Nat) (part : Nat) (args : List Nat) (tenant : Bool) :
    (s.note source cls code part args tenant).cal = s.cal := rfl

@[simp] theorem State.note_hif (s : State) (source : Nat) (cls : Nat) (code : Nat) (part : Nat) (args : List Nat) (tenant : Bool) :
    (s.note source cls code part args tenant).hif = s.hif := rfl

@[simp] theorem State.note_img (s : State) (source : Nat) (cls : Nat) (code : Nat) (part : Nat) (args : List Nat) (tenant : Bool) :
    (s.note source cls code part args tenant).img = s.img := rfl

@[simp] theorem State.note_rsq (s : State) (source : Nat) (cls : Nat) (code : Nat) (part : Nat) (args : List Nat) (tenant : Bool) :
    (s.note source cls code part args tenant).rsq = s.rsq := rfl

@[simp] theorem State.note_cin (s : State) (source : Nat) (cls : Nat) (code : Nat) (part : Nat) (args : List Nat) (tenant : Bool) :
    (s.note source cls code part args tenant).cin = s.cin := rfl

@[simp] theorem State.note_sw (s : State) (source : Nat) (cls : Nat) (code : Nat) (part : Nat) (args : List Nat) (tenant : Bool) :
    (s.note source cls code part args tenant).sw = s.sw := rfl

@[simp] theorem State.note_stg (s : State) (source : Nat) (cls : Nat) (code : Nat) (part : Nat) (args : List Nat) (tenant : Bool) :
    (s.note source cls code part args tenant).stg = s.stg := rfl

@[simp] theorem State.note_nec (s : State) (source : Nat) (cls : Nat) (code : Nat) (part : Nat) (args : List Nat) (tenant : Bool) :
    (s.note source cls code part args tenant).nec = s.nec := rfl

@[simp] theorem State.note_fab (s : State) (source : Nat) (cls : Nat) (code : Nat) (part : Nat) (args : List Nat) (tenant : Bool) :
    (s.note source cls code part args tenant).fab = s.fab := rfl

@[simp] theorem State.note_tmg (s : State) (source : Nat) (cls : Nat) (code : Nat) (part : Nat) (args : List Nat) (tenant : Bool) :
    (s.note source cls code part args tenant).tmg = s.tmg := rfl

@[simp] theorem State.note_sec (s : State) (source : Nat) (cls : Nat) (code : Nat) (part : Nat) (args : List Nat) (tenant : Bool) :
    (s.note source cls code part args tenant).sec = s.sec := rfl

@[simp] theorem State.note_saf (s : State) (source : Nat) (cls : Nat) (code : Nat) (part : Nat) (args : List Nat) (tenant : Bool) :
    (s.note source cls code part args tenant).saf = s.saf := rfl

@[simp] theorem State.note_pair (s : State) (source : Nat) (cls : Nat) (code : Nat) (part : Nat) (args : List Nat) (tenant : Bool) :
    (s.note source cls code part args tenant).pair = s.pair := rfl

@[simp] theorem State.note_bg (s : State) (source : Nat) (cls : Nat) (code : Nat) (part : Nat) (args : List Nat) (tenant : Bool) :
    (s.note source cls code part args tenant).bg = s.bg := rfl

@[simp] theorem State.setQueue_clk (s : State) (f : Nat) (q : Nat) (x : Queue) : (s.setQueue f q x).clk = s.clk := rfl

@[simp] theorem State.setQueue_free (s : State) (f : Nat) (q : Nat) (x : Queue) : (s.setQueue f q x).free = s.free := rfl

@[simp] theorem State.setQueue_bus (s : State) (f : Nat) (q : Nat) (x : Queue) : (s.setQueue f q x).bus = s.bus := rfl

@[simp] theorem State.setQueue_out (s : State) (f : Nat) (q : Nat) (x : Queue) : (s.setQueue f q x).out = s.out := rfl

@[simp] theorem State.setQueue_top (s : State) (f : Nat) (q : Nat) (x : Queue) : (s.setQueue f q x).top = s.top := rfl

@[simp] theorem State.setQueue_pwr (s : State) (f : Nat) (q : Nat) (x : Queue) : (s.setQueue f q x).pwr = s.pwr := rfl

@[simp] theorem State.setQueue_ret (s : State) (f : Nat) (q : Nat) (x : Queue) : (s.setQueue f q x).ret = s.ret := rfl

@[simp] theorem State.setQueue_fw (s : State) (f : Nat) (q : Nat) (x : Queue) : (s.setQueue f q x).fw = s.fw := rfl

@[simp] theorem State.setQueue_recov (s : State) (f : Nat) (q : Nat) (x : Queue) : (s.setQueue f q x).recov = s.recov := rfl

@[simp] theorem State.setQueue_cal (s : State) (f : Nat) (q : Nat) (x : Queue) : (s.setQueue f q x).cal = s.cal := rfl

@[simp] theorem State.setQueue_img (s : State) (f : Nat) (q : Nat) (x : Queue) : (s.setQueue f q x).img = s.img := rfl

@[simp] theorem State.setQueue_rsq (s : State) (f : Nat) (q : Nat) (x : Queue) : (s.setQueue f q x).rsq = s.rsq := rfl

@[simp] theorem State.setQueue_cin (s : State) (f : Nat) (q : Nat) (x : Queue) : (s.setQueue f q x).cin = s.cin := rfl

@[simp] theorem State.setQueue_sw (s : State) (f : Nat) (q : Nat) (x : Queue) : (s.setQueue f q x).sw = s.sw := rfl

@[simp] theorem State.setQueue_stg (s : State) (f : Nat) (q : Nat) (x : Queue) : (s.setQueue f q x).stg = s.stg := rfl

@[simp] theorem State.setQueue_nec (s : State) (f : Nat) (q : Nat) (x : Queue) : (s.setQueue f q x).nec = s.nec := rfl

@[simp] theorem State.setQueue_fab (s : State) (f : Nat) (q : Nat) (x : Queue) : (s.setQueue f q x).fab = s.fab := rfl

@[simp] theorem State.setQueue_tmg (s : State) (f : Nat) (q : Nat) (x : Queue) : (s.setQueue f q x).tmg = s.tmg := rfl

@[simp] theorem State.setQueue_sec (s : State) (f : Nat) (q : Nat) (x : Queue) : (s.setQueue f q x).sec = s.sec := rfl

@[simp] theorem State.setQueue_saf (s : State) (f : Nat) (q : Nat) (x : Queue) : (s.setQueue f q x).saf = s.saf := rfl

@[simp] theorem State.setQueue_pair (s : State) (f : Nat) (q : Nat) (x : Queue) : (s.setQueue f q x).pair = s.pair := rfl

@[simp] theorem State.setQueue_log (s : State) (f : Nat) (q : Nat) (x : Queue) : (s.setQueue f q x).log = s.log := rfl

@[simp] theorem State.setQueue_bg (s : State) (f : Nat) (q : Nat) (x : Queue) : (s.setQueue f q x).bg = s.bg := rfl

@[simp] theorem State.setQueue_hif (s : State) (f : Nat) (q : Nat) (x : Queue) :
    (s.setQueue f q x).hif = { s.hif with queues := aset s.hif.queues (64 * f + q) x } := rfl

@[simp] theorem State.mapPort_clk (s : State) (p : Nat) (g : LnkPort → LnkPort) : (s.mapPort p g).clk = s.clk := rfl

@[simp] theorem State.mapPort_free (s : State) (p : Nat) (g : LnkPort → LnkPort) : (s.mapPort p g).free = s.free := rfl

@[simp] theorem State.mapPort_bus (s : State) (p : Nat) (g : LnkPort → LnkPort) : (s.mapPort p g).bus = s.bus := rfl

@[simp] theorem State.mapPort_out (s : State) (p : Nat) (g : LnkPort → LnkPort) : (s.mapPort p g).out = s.out := rfl

@[simp] theorem State.mapPort_top (s : State) (p : Nat) (g : LnkPort → LnkPort) : (s.mapPort p g).top = s.top := rfl

@[simp] theorem State.mapPort_pwr (s : State) (p : Nat) (g : LnkPort → LnkPort) : (s.mapPort p g).pwr = s.pwr := rfl

@[simp] theorem State.mapPort_ret (s : State) (p : Nat) (g : LnkPort → LnkPort) : (s.mapPort p g).ret = s.ret := rfl

@[simp] theorem State.mapPort_fw (s : State) (p : Nat) (g : LnkPort → LnkPort) : (s.mapPort p g).fw = s.fw := rfl

@[simp] theorem State.mapPort_recov (s : State) (p : Nat) (g : LnkPort → LnkPort) : (s.mapPort p g).recov = s.recov := rfl

@[simp] theorem State.mapPort_cal (s : State) (p : Nat) (g : LnkPort → LnkPort) : (s.mapPort p g).cal = s.cal := rfl

@[simp] theorem State.mapPort_hif (s : State) (p : Nat) (g : LnkPort → LnkPort) : (s.mapPort p g).hif = s.hif := rfl

@[simp] theorem State.mapPort_img (s : State) (p : Nat) (g : LnkPort → LnkPort) : (s.mapPort p g).img = s.img := rfl

@[simp] theorem State.mapPort_rsq (s : State) (p : Nat) (g : LnkPort → LnkPort) : (s.mapPort p g).rsq = s.rsq := rfl

@[simp] theorem State.mapPort_cin (s : State) (p : Nat) (g : LnkPort → LnkPort) : (s.mapPort p g).cin = s.cin := rfl

@[simp] theorem State.mapPort_sw (s : State) (p : Nat) (g : LnkPort → LnkPort) : (s.mapPort p g).sw = s.sw := rfl

@[simp] theorem State.mapPort_stg (s : State) (p : Nat) (g : LnkPort → LnkPort) : (s.mapPort p g).stg = s.stg := rfl

@[simp] theorem State.mapPort_nec (s : State) (p : Nat) (g : LnkPort → LnkPort) : (s.mapPort p g).nec = s.nec := rfl

@[simp] theorem State.mapPort_tmg (s : State) (p : Nat) (g : LnkPort → LnkPort) : (s.mapPort p g).tmg = s.tmg := rfl

@[simp] theorem State.mapPort_sec (s : State) (p : Nat) (g : LnkPort → LnkPort) : (s.mapPort p g).sec = s.sec := rfl

@[simp] theorem State.mapPort_saf (s : State) (p : Nat) (g : LnkPort → LnkPort) : (s.mapPort p g).saf = s.saf := rfl

@[simp] theorem State.mapPort_pair (s : State) (p : Nat) (g : LnkPort → LnkPort) : (s.mapPort p g).pair = s.pair := rfl

@[simp] theorem State.mapPort_log (s : State) (p : Nat) (g : LnkPort → LnkPort) : (s.mapPort p g).log = s.log := rfl

@[simp] theorem State.mapPort_bg (s : State) (p : Nat) (g : LnkPort → LnkPort) : (s.mapPort p g).bg = s.bg := rfl

@[simp] theorem State.mapPort_fab (s : State) (p : Nat) (g : LnkPort → LnkPort) :
    (s.mapPort p g).fab = { s.fab with ports := s.fab.ports.setIfInBounds p (g (s.fab.port p)) } := rfl

@[simp] theorem State.recFail_clk (s : State) (result : BitVec 4) : (s.recFail result).clk = s.clk := rfl

@[simp] theorem State.recFail_free (s : State) (result : BitVec 4) : (s.recFail result).free = s.free := rfl

@[simp] theorem State.recFail_bus (s : State) (result : BitVec 4) : (s.recFail result).bus = s.bus := rfl

@[simp] theorem State.recFail_out (s : State) (result : BitVec 4) : (s.recFail result).out = s.out := rfl

@[simp] theorem State.recFail_top (s : State) (result : BitVec 4) : (s.recFail result).top = s.top := rfl

@[simp] theorem State.recFail_pwr (s : State) (result : BitVec 4) : (s.recFail result).pwr = s.pwr := rfl

@[simp] theorem State.recFail_ret (s : State) (result : BitVec 4) : (s.recFail result).ret = s.ret := rfl

@[simp] theorem State.recFail_fw (s : State) (result : BitVec 4) : (s.recFail result).fw = s.fw := rfl

@[simp] theorem State.recFail_cal (s : State) (result : BitVec 4) : (s.recFail result).cal = s.cal := rfl

@[simp] theorem State.recFail_hif (s : State) (result : BitVec 4) : (s.recFail result).hif = s.hif := rfl

@[simp] theorem State.recFail_img (s : State) (result : BitVec 4) : (s.recFail result).img = s.img := rfl

@[simp] theorem State.recFail_rsq (s : State) (result : BitVec 4) : (s.recFail result).rsq = s.rsq := rfl

@[simp] theorem State.recFail_cin (s : State) (result : BitVec 4) : (s.recFail result).cin = s.cin := rfl

@[simp] theorem State.recFail_sw (s : State) (result : BitVec 4) : (s.recFail result).sw = s.sw := rfl

@[simp] theorem State.recFail_stg (s : State) (result : BitVec 4) : (s.recFail result).stg = s.stg := rfl

@[simp] theorem State.recFail_nec (s : State) (result : BitVec 4) : (s.recFail result).nec = s.nec := rfl

@[simp] theorem State.recFail_fab (s : State) (result : BitVec 4) : (s.recFail result).fab = s.fab := rfl

@[simp] theorem State.recFail_tmg (s : State) (result : BitVec 4) : (s.recFail result).tmg = s.tmg := rfl

@[simp] theorem State.recFail_sec (s : State) (result : BitVec 4) : (s.recFail result).sec = s.sec := rfl

@[simp] theorem State.recFail_saf (s : State) (result : BitVec 4) : (s.recFail result).saf = s.saf := rfl

@[simp] theorem State.recFail_pair (s : State) (result : BitVec 4) : (s.recFail result).pair = s.pair := rfl

@[simp] theorem State.recFail_log (s : State) (result : BitVec 4) : (s.recFail result).log = s.log := rfl

@[simp] theorem State.recFail_bg (s : State) (result : BitVec 4) : (s.recFail result).bg = s.bg := rfl

@[simp] theorem State.recFail_recov (s : State) (result : BitVec 4) :
    (s.recFail result).recov = { s.recov with st := .failed, result := result, running := false } := rfl

@[simp] theorem State.setCore_clk (s : State) (c : Nat) (x : Core) : (s.setCore c x).clk = s.clk := rfl

@[simp] theorem State.setCore_free (s : State) (c : Nat) (x : Core) : (s.setCore c x).free = s.free := rfl

@[simp] theorem State.setCore_bus (s : State) (c : Nat) (x : Core) : (s.setCore c x).bus = s.bus := rfl

@[simp] theorem State.setCore_out (s : State) (c : Nat) (x : Core) : (s.setCore c x).out = s.out := rfl

@[simp] theorem State.setCore_top (s : State) (c : Nat) (x : Core) : (s.setCore c x).top = s.top := rfl

@[simp] theorem State.setCore_pwr (s : State) (c : Nat) (x : Core) : (s.setCore c x).pwr = s.pwr := rfl

@[simp] theorem State.setCore_ret (s : State) (c : Nat) (x : Core) : (s.setCore c x).ret = s.ret := rfl

@[simp] theorem State.setCore_fw (s : State) (c : Nat) (x : Core) : (s.setCore c x).fw = s.fw := rfl

@[simp] theorem State.setCore_recov (s : State) (c : Nat) (x : Core) : (s.setCore c x).recov = s.recov := rfl

@[simp] theorem State.setCore_cal (s : State) (c : Nat) (x : Core) : (s.setCore c x).cal = s.cal := rfl

@[simp] theorem State.setCore_hif (s : State) (c : Nat) (x : Core) : (s.setCore c x).hif = s.hif := rfl

@[simp] theorem State.setCore_img (s : State) (c : Nat) (x : Core) : (s.setCore c x).img = s.img := rfl

@[simp] theorem State.setCore_rsq (s : State) (c : Nat) (x : Core) : (s.setCore c x).rsq = s.rsq := rfl

@[simp] theorem State.setCore_cin (s : State) (c : Nat) (x : Core) : (s.setCore c x).cin = s.cin := rfl

@[simp] theorem State.setCore_sw (s : State) (c : Nat) (x : Core) : (s.setCore c x).sw = s.sw := rfl

@[simp] theorem State.setCore_stg (s : State) (c : Nat) (x : Core) : (s.setCore c x).stg = s.stg := rfl

@[simp] theorem State.setCore_fab (s : State) (c : Nat) (x : Core) : (s.setCore c x).fab = s.fab := rfl

@[simp] theorem State.setCore_tmg (s : State) (c : Nat) (x : Core) : (s.setCore c x).tmg = s.tmg := rfl

@[simp] theorem State.setCore_sec (s : State) (c : Nat) (x : Core) : (s.setCore c x).sec = s.sec := rfl

@[simp] theorem State.setCore_saf (s : State) (c : Nat) (x : Core) : (s.setCore c x).saf = s.saf := rfl

@[simp] theorem State.setCore_pair (s : State) (c : Nat) (x : Core) : (s.setCore c x).pair = s.pair := rfl

@[simp] theorem State.setCore_log (s : State) (c : Nat) (x : Core) : (s.setCore c x).log = s.log := rfl

@[simp] theorem State.setCore_bg (s : State) (c : Nat) (x : Core) : (s.setCore c x).bg = s.bg := rfl

@[simp] theorem State.setCore_nec (s : State) (c : Nat) (x : Core) :
    (s.setCore c x).nec = { s.nec with cores := s.nec.cores.setIfInBounds c x } := rfl

@[simp] theorem State.setRoute_clk (s : State) (r : Nat) (x : Route) : (s.setRoute r x).clk = s.clk := rfl

@[simp] theorem State.setRoute_free (s : State) (r : Nat) (x : Route) : (s.setRoute r x).free = s.free := rfl

@[simp] theorem State.setRoute_bus (s : State) (r : Nat) (x : Route) : (s.setRoute r x).bus = s.bus := rfl

@[simp] theorem State.setRoute_out (s : State) (r : Nat) (x : Route) : (s.setRoute r x).out = s.out := rfl

@[simp] theorem State.setRoute_top (s : State) (r : Nat) (x : Route) : (s.setRoute r x).top = s.top := rfl

@[simp] theorem State.setRoute_pwr (s : State) (r : Nat) (x : Route) : (s.setRoute r x).pwr = s.pwr := rfl

@[simp] theorem State.setRoute_ret (s : State) (r : Nat) (x : Route) : (s.setRoute r x).ret = s.ret := rfl

@[simp] theorem State.setRoute_fw (s : State) (r : Nat) (x : Route) : (s.setRoute r x).fw = s.fw := rfl

@[simp] theorem State.setRoute_recov (s : State) (r : Nat) (x : Route) : (s.setRoute r x).recov = s.recov := rfl

@[simp] theorem State.setRoute_cal (s : State) (r : Nat) (x : Route) : (s.setRoute r x).cal = s.cal := rfl

@[simp] theorem State.setRoute_hif (s : State) (r : Nat) (x : Route) : (s.setRoute r x).hif = s.hif := rfl

@[simp] theorem State.setRoute_img (s : State) (r : Nat) (x : Route) : (s.setRoute r x).img = s.img := rfl

@[simp] theorem State.setRoute_cin (s : State) (r : Nat) (x : Route) : (s.setRoute r x).cin = s.cin := rfl

@[simp] theorem State.setRoute_sw (s : State) (r : Nat) (x : Route) : (s.setRoute r x).sw = s.sw := rfl

@[simp] theorem State.setRoute_stg (s : State) (r : Nat) (x : Route) : (s.setRoute r x).stg = s.stg := rfl

@[simp] theorem State.setRoute_nec (s : State) (r : Nat) (x : Route) : (s.setRoute r x).nec = s.nec := rfl

@[simp] theorem State.setRoute_fab (s : State) (r : Nat) (x : Route) : (s.setRoute r x).fab = s.fab := rfl

@[simp] theorem State.setRoute_tmg (s : State) (r : Nat) (x : Route) : (s.setRoute r x).tmg = s.tmg := rfl

@[simp] theorem State.setRoute_sec (s : State) (r : Nat) (x : Route) : (s.setRoute r x).sec = s.sec := rfl

@[simp] theorem State.setRoute_saf (s : State) (r : Nat) (x : Route) : (s.setRoute r x).saf = s.saf := rfl

@[simp] theorem State.setRoute_pair (s : State) (r : Nat) (x : Route) : (s.setRoute r x).pair = s.pair := rfl

@[simp] theorem State.setRoute_log (s : State) (r : Nat) (x : Route) : (s.setRoute r x).log = s.log := rfl

@[simp] theorem State.setRoute_bg (s : State) (r : Nat) (x : Route) : (s.setRoute r x).bg = s.bg := rfl

@[simp] theorem State.setRoute_rsq (s : State) (r : Nat) (x : Route) :
    (s.setRoute r x).rsq = { s.rsq with routes := s.rsq.routes.setIfInBounds r x } := rfl

@[simp] theorem State.mapDst_clk (s : State) (d : Nat) (g : SwPort → SwPort) : (s.mapDst d g).clk = s.clk := rfl

@[simp] theorem State.mapDst_free (s : State) (d : Nat) (g : SwPort → SwPort) : (s.mapDst d g).free = s.free := rfl

@[simp] theorem State.mapDst_bus (s : State) (d : Nat) (g : SwPort → SwPort) : (s.mapDst d g).bus = s.bus := rfl

@[simp] theorem State.mapDst_out (s : State) (d : Nat) (g : SwPort → SwPort) : (s.mapDst d g).out = s.out := rfl

@[simp] theorem State.mapDst_top (s : State) (d : Nat) (g : SwPort → SwPort) : (s.mapDst d g).top = s.top := rfl

@[simp] theorem State.mapDst_pwr (s : State) (d : Nat) (g : SwPort → SwPort) : (s.mapDst d g).pwr = s.pwr := rfl

@[simp] theorem State.mapDst_ret (s : State) (d : Nat) (g : SwPort → SwPort) : (s.mapDst d g).ret = s.ret := rfl

@[simp] theorem State.mapDst_fw (s : State) (d : Nat) (g : SwPort → SwPort) : (s.mapDst d g).fw = s.fw := rfl

@[simp] theorem State.mapDst_recov (s : State) (d : Nat) (g : SwPort → SwPort) : (s.mapDst d g).recov = s.recov := rfl

@[simp] theorem State.mapDst_cal (s : State) (d : Nat) (g : SwPort → SwPort) : (s.mapDst d g).cal = s.cal := rfl

@[simp] theorem State.mapDst_hif (s : State) (d : Nat) (g : SwPort → SwPort) : (s.mapDst d g).hif = s.hif := rfl

@[simp] theorem State.mapDst_img (s : State) (d : Nat) (g : SwPort → SwPort) : (s.mapDst d g).img = s.img := rfl

@[simp] theorem State.mapDst_rsq (s : State) (d : Nat) (g : SwPort → SwPort) : (s.mapDst d g).rsq = s.rsq := rfl

@[simp] theorem State.mapDst_cin (s : State) (d : Nat) (g : SwPort → SwPort) : (s.mapDst d g).cin = s.cin := rfl

@[simp] theorem State.mapDst_stg (s : State) (d : Nat) (g : SwPort → SwPort) : (s.mapDst d g).stg = s.stg := rfl

@[simp] theorem State.mapDst_nec (s : State) (d : Nat) (g : SwPort → SwPort) : (s.mapDst d g).nec = s.nec := rfl

@[simp] theorem State.mapDst_fab (s : State) (d : Nat) (g : SwPort → SwPort) : (s.mapDst d g).fab = s.fab := rfl

@[simp] theorem State.mapDst_tmg (s : State) (d : Nat) (g : SwPort → SwPort) : (s.mapDst d g).tmg = s.tmg := rfl

@[simp] theorem State.mapDst_sec (s : State) (d : Nat) (g : SwPort → SwPort) : (s.mapDst d g).sec = s.sec := rfl

@[simp] theorem State.mapDst_saf (s : State) (d : Nat) (g : SwPort → SwPort) : (s.mapDst d g).saf = s.saf := rfl

@[simp] theorem State.mapDst_pair (s : State) (d : Nat) (g : SwPort → SwPort) : (s.mapDst d g).pair = s.pair := rfl

@[simp] theorem State.mapDst_log (s : State) (d : Nat) (g : SwPort → SwPort) : (s.mapDst d g).log = s.log := rfl

@[simp] theorem State.mapDst_bg (s : State) (d : Nat) (g : SwPort → SwPort) : (s.mapDst d g).bg = s.bg := rfl

@[simp] theorem State.mapDst_sw (s : State) (d : Nat) (g : SwPort → SwPort) :
    (s.mapDst d g).sw = { s.sw with dst := s.sw.dst.setIfInBounds d (g (s.dstPort d)) } := rfl

@[simp] theorem State.mapStage_clk (s : State) (i : Nat) (g : Stage → Stage) : (s.mapStage i g).clk = s.clk := rfl

@[simp] theorem State.mapStage_free (s : State) (i : Nat) (g : Stage → Stage) : (s.mapStage i g).free = s.free := rfl

@[simp] theorem State.mapStage_bus (s : State) (i : Nat) (g : Stage → Stage) : (s.mapStage i g).bus = s.bus := rfl

@[simp] theorem State.mapStage_out (s : State) (i : Nat) (g : Stage → Stage) : (s.mapStage i g).out = s.out := rfl

@[simp] theorem State.mapStage_top (s : State) (i : Nat) (g : Stage → Stage) : (s.mapStage i g).top = s.top := rfl

@[simp] theorem State.mapStage_pwr (s : State) (i : Nat) (g : Stage → Stage) : (s.mapStage i g).pwr = s.pwr := rfl

@[simp] theorem State.mapStage_ret (s : State) (i : Nat) (g : Stage → Stage) : (s.mapStage i g).ret = s.ret := rfl

@[simp] theorem State.mapStage_fw (s : State) (i : Nat) (g : Stage → Stage) : (s.mapStage i g).fw = s.fw := rfl

@[simp] theorem State.mapStage_recov (s : State) (i : Nat) (g : Stage → Stage) : (s.mapStage i g).recov = s.recov := rfl

@[simp] theorem State.mapStage_cal (s : State) (i : Nat) (g : Stage → Stage) : (s.mapStage i g).cal = s.cal := rfl

@[simp] theorem State.mapStage_hif (s : State) (i : Nat) (g : Stage → Stage) : (s.mapStage i g).hif = s.hif := rfl

@[simp] theorem State.mapStage_img (s : State) (i : Nat) (g : Stage → Stage) : (s.mapStage i g).img = s.img := rfl

@[simp] theorem State.mapStage_rsq (s : State) (i : Nat) (g : Stage → Stage) : (s.mapStage i g).rsq = s.rsq := rfl

@[simp] theorem State.mapStage_cin (s : State) (i : Nat) (g : Stage → Stage) : (s.mapStage i g).cin = s.cin := rfl

@[simp] theorem State.mapStage_sw (s : State) (i : Nat) (g : Stage → Stage) : (s.mapStage i g).sw = s.sw := rfl

@[simp] theorem State.mapStage_nec (s : State) (i : Nat) (g : Stage → Stage) : (s.mapStage i g).nec = s.nec := rfl

@[simp] theorem State.mapStage_fab (s : State) (i : Nat) (g : Stage → Stage) : (s.mapStage i g).fab = s.fab := rfl

@[simp] theorem State.mapStage_tmg (s : State) (i : Nat) (g : Stage → Stage) : (s.mapStage i g).tmg = s.tmg := rfl

@[simp] theorem State.mapStage_sec (s : State) (i : Nat) (g : Stage → Stage) : (s.mapStage i g).sec = s.sec := rfl

@[simp] theorem State.mapStage_saf (s : State) (i : Nat) (g : Stage → Stage) : (s.mapStage i g).saf = s.saf := rfl

@[simp] theorem State.mapStage_pair (s : State) (i : Nat) (g : Stage → Stage) : (s.mapStage i g).pair = s.pair := rfl

@[simp] theorem State.mapStage_log (s : State) (i : Nat) (g : Stage → Stage) : (s.mapStage i g).log = s.log := rfl

@[simp] theorem State.mapStage_bg (s : State) (i : Nat) (g : Stage → Stage) : (s.mapStage i g).bg = s.bg := rfl

@[simp] theorem State.mapStage_stg (s : State) (i : Nat) (g : Stage → Stage) :
    (s.mapStage i g).stg = { s.stg with inst := s.stg.inst.setIfInBounds i (g (s.stage i)) } := rfl

@[simp] theorem State.mapMash_clk (s : State) (r : Nat) (g : Mash → Mash) : (s.mapMash r g).clk = s.clk := rfl

@[simp] theorem State.mapMash_free (s : State) (r : Nat) (g : Mash → Mash) : (s.mapMash r g).free = s.free := rfl

@[simp] theorem State.mapMash_bus (s : State) (r : Nat) (g : Mash → Mash) : (s.mapMash r g).bus = s.bus := rfl

@[simp] theorem State.mapMash_out (s : State) (r : Nat) (g : Mash → Mash) : (s.mapMash r g).out = s.out := rfl

@[simp] theorem State.mapMash_top (s : State) (r : Nat) (g : Mash → Mash) : (s.mapMash r g).top = s.top := rfl

@[simp] theorem State.mapMash_pwr (s : State) (r : Nat) (g : Mash → Mash) : (s.mapMash r g).pwr = s.pwr := rfl

@[simp] theorem State.mapMash_ret (s : State) (r : Nat) (g : Mash → Mash) : (s.mapMash r g).ret = s.ret := rfl

@[simp] theorem State.mapMash_fw (s : State) (r : Nat) (g : Mash → Mash) : (s.mapMash r g).fw = s.fw := rfl

@[simp] theorem State.mapMash_recov (s : State) (r : Nat) (g : Mash → Mash) : (s.mapMash r g).recov = s.recov := rfl

@[simp] theorem State.mapMash_cal (s : State) (r : Nat) (g : Mash → Mash) : (s.mapMash r g).cal = s.cal := rfl

@[simp] theorem State.mapMash_hif (s : State) (r : Nat) (g : Mash → Mash) : (s.mapMash r g).hif = s.hif := rfl

@[simp] theorem State.mapMash_img (s : State) (r : Nat) (g : Mash → Mash) : (s.mapMash r g).img = s.img := rfl

@[simp] theorem State.mapMash_rsq (s : State) (r : Nat) (g : Mash → Mash) : (s.mapMash r g).rsq = s.rsq := rfl

@[simp] theorem State.mapMash_cin (s : State) (r : Nat) (g : Mash → Mash) : (s.mapMash r g).cin = s.cin := rfl

@[simp] theorem State.mapMash_sw (s : State) (r : Nat) (g : Mash → Mash) : (s.mapMash r g).sw = s.sw := rfl

@[simp] theorem State.mapMash_nec (s : State) (r : Nat) (g : Mash → Mash) : (s.mapMash r g).nec = s.nec := rfl

@[simp] theorem State.mapMash_fab (s : State) (r : Nat) (g : Mash → Mash) : (s.mapMash r g).fab = s.fab := rfl

@[simp] theorem State.mapMash_tmg (s : State) (r : Nat) (g : Mash → Mash) : (s.mapMash r g).tmg = s.tmg := rfl

@[simp] theorem State.mapMash_sec (s : State) (r : Nat) (g : Mash → Mash) : (s.mapMash r g).sec = s.sec := rfl

@[simp] theorem State.mapMash_saf (s : State) (r : Nat) (g : Mash → Mash) : (s.mapMash r g).saf = s.saf := rfl

@[simp] theorem State.mapMash_pair (s : State) (r : Nat) (g : Mash → Mash) : (s.mapMash r g).pair = s.pair := rfl

@[simp] theorem State.mapMash_log (s : State) (r : Nat) (g : Mash → Mash) : (s.mapMash r g).log = s.log := rfl

@[simp] theorem State.mapMash_bg (s : State) (r : Nat) (g : Mash → Mash) : (s.mapMash r g).bg = s.bg := rfl

@[simp] theorem State.mapMash_stg (s : State) (r : Nat) (g : Mash → Mash) :
    (s.mapMash r g).stg = { s.stg with mash := s.stg.mash.setIfInBounds r (g (s.mash r)) } := rfl

@[simp] theorem State.mapInput_clk (s : State) (i : Nat) (g : TmgIn → TmgIn) : (s.mapInput i g).clk = s.clk := rfl

@[simp] theorem State.mapInput_free (s : State) (i : Nat) (g : TmgIn → TmgIn) : (s.mapInput i g).free = s.free := rfl

@[simp] theorem State.mapInput_bus (s : State) (i : Nat) (g : TmgIn → TmgIn) : (s.mapInput i g).bus = s.bus := rfl

@[simp] theorem State.mapInput_out (s : State) (i : Nat) (g : TmgIn → TmgIn) : (s.mapInput i g).out = s.out := rfl

@[simp] theorem State.mapInput_top (s : State) (i : Nat) (g : TmgIn → TmgIn) : (s.mapInput i g).top = s.top := rfl

@[simp] theorem State.mapInput_pwr (s : State) (i : Nat) (g : TmgIn → TmgIn) : (s.mapInput i g).pwr = s.pwr := rfl

@[simp] theorem State.mapInput_ret (s : State) (i : Nat) (g : TmgIn → TmgIn) : (s.mapInput i g).ret = s.ret := rfl

@[simp] theorem State.mapInput_fw (s : State) (i : Nat) (g : TmgIn → TmgIn) : (s.mapInput i g).fw = s.fw := rfl

@[simp] theorem State.mapInput_recov (s : State) (i : Nat) (g : TmgIn → TmgIn) : (s.mapInput i g).recov = s.recov := rfl

@[simp] theorem State.mapInput_cal (s : State) (i : Nat) (g : TmgIn → TmgIn) : (s.mapInput i g).cal = s.cal := rfl

@[simp] theorem State.mapInput_hif (s : State) (i : Nat) (g : TmgIn → TmgIn) : (s.mapInput i g).hif = s.hif := rfl

@[simp] theorem State.mapInput_img (s : State) (i : Nat) (g : TmgIn → TmgIn) : (s.mapInput i g).img = s.img := rfl

@[simp] theorem State.mapInput_rsq (s : State) (i : Nat) (g : TmgIn → TmgIn) : (s.mapInput i g).rsq = s.rsq := rfl

@[simp] theorem State.mapInput_cin (s : State) (i : Nat) (g : TmgIn → TmgIn) : (s.mapInput i g).cin = s.cin := rfl

@[simp] theorem State.mapInput_sw (s : State) (i : Nat) (g : TmgIn → TmgIn) : (s.mapInput i g).sw = s.sw := rfl

@[simp] theorem State.mapInput_stg (s : State) (i : Nat) (g : TmgIn → TmgIn) : (s.mapInput i g).stg = s.stg := rfl

@[simp] theorem State.mapInput_nec (s : State) (i : Nat) (g : TmgIn → TmgIn) : (s.mapInput i g).nec = s.nec := rfl

@[simp] theorem State.mapInput_fab (s : State) (i : Nat) (g : TmgIn → TmgIn) : (s.mapInput i g).fab = s.fab := rfl

@[simp] theorem State.mapInput_sec (s : State) (i : Nat) (g : TmgIn → TmgIn) : (s.mapInput i g).sec = s.sec := rfl

@[simp] theorem State.mapInput_saf (s : State) (i : Nat) (g : TmgIn → TmgIn) : (s.mapInput i g).saf = s.saf := rfl

@[simp] theorem State.mapInput_pair (s : State) (i : Nat) (g : TmgIn → TmgIn) : (s.mapInput i g).pair = s.pair := rfl

@[simp] theorem State.mapInput_log (s : State) (i : Nat) (g : TmgIn → TmgIn) : (s.mapInput i g).log = s.log := rfl

@[simp] theorem State.mapInput_bg (s : State) (i : Nat) (g : TmgIn → TmgIn) : (s.mapInput i g).bg = s.bg := rfl

@[simp] theorem State.mapInput_tmg (s : State) (i : Nat) (g : TmgIn → TmgIn) :
    (s.mapInput i g).tmg = { s.tmg with ins := s.tmg.ins.mapIdx fun j x => if j = i then g x else x } := rfl

@[simp] theorem State.mapOutput_clk (s : State) (o : Nat) (g : TmgOut → TmgOut) : (s.mapOutput o g).clk = s.clk := rfl

@[simp] theorem State.mapOutput_free (s : State) (o : Nat) (g : TmgOut → TmgOut) : (s.mapOutput o g).free = s.free := rfl

@[simp] theorem State.mapOutput_bus (s : State) (o : Nat) (g : TmgOut → TmgOut) : (s.mapOutput o g).bus = s.bus := rfl

@[simp] theorem State.mapOutput_out (s : State) (o : Nat) (g : TmgOut → TmgOut) : (s.mapOutput o g).out = s.out := rfl

@[simp] theorem State.mapOutput_top (s : State) (o : Nat) (g : TmgOut → TmgOut) : (s.mapOutput o g).top = s.top := rfl

@[simp] theorem State.mapOutput_pwr (s : State) (o : Nat) (g : TmgOut → TmgOut) : (s.mapOutput o g).pwr = s.pwr := rfl

@[simp] theorem State.mapOutput_ret (s : State) (o : Nat) (g : TmgOut → TmgOut) : (s.mapOutput o g).ret = s.ret := rfl

@[simp] theorem State.mapOutput_fw (s : State) (o : Nat) (g : TmgOut → TmgOut) : (s.mapOutput o g).fw = s.fw := rfl

@[simp] theorem State.mapOutput_recov (s : State) (o : Nat) (g : TmgOut → TmgOut) : (s.mapOutput o g).recov = s.recov := rfl

@[simp] theorem State.mapOutput_cal (s : State) (o : Nat) (g : TmgOut → TmgOut) : (s.mapOutput o g).cal = s.cal := rfl

@[simp] theorem State.mapOutput_hif (s : State) (o : Nat) (g : TmgOut → TmgOut) : (s.mapOutput o g).hif = s.hif := rfl

@[simp] theorem State.mapOutput_img (s : State) (o : Nat) (g : TmgOut → TmgOut) : (s.mapOutput o g).img = s.img := rfl

@[simp] theorem State.mapOutput_rsq (s : State) (o : Nat) (g : TmgOut → TmgOut) : (s.mapOutput o g).rsq = s.rsq := rfl

@[simp] theorem State.mapOutput_cin (s : State) (o : Nat) (g : TmgOut → TmgOut) : (s.mapOutput o g).cin = s.cin := rfl

@[simp] theorem State.mapOutput_sw (s : State) (o : Nat) (g : TmgOut → TmgOut) : (s.mapOutput o g).sw = s.sw := rfl

@[simp] theorem State.mapOutput_stg (s : State) (o : Nat) (g : TmgOut → TmgOut) : (s.mapOutput o g).stg = s.stg := rfl

@[simp] theorem State.mapOutput_nec (s : State) (o : Nat) (g : TmgOut → TmgOut) : (s.mapOutput o g).nec = s.nec := rfl

@[simp] theorem State.mapOutput_fab (s : State) (o : Nat) (g : TmgOut → TmgOut) : (s.mapOutput o g).fab = s.fab := rfl

@[simp] theorem State.mapOutput_sec (s : State) (o : Nat) (g : TmgOut → TmgOut) : (s.mapOutput o g).sec = s.sec := rfl

@[simp] theorem State.mapOutput_saf (s : State) (o : Nat) (g : TmgOut → TmgOut) : (s.mapOutput o g).saf = s.saf := rfl

@[simp] theorem State.mapOutput_pair (s : State) (o : Nat) (g : TmgOut → TmgOut) : (s.mapOutput o g).pair = s.pair := rfl

@[simp] theorem State.mapOutput_log (s : State) (o : Nat) (g : TmgOut → TmgOut) : (s.mapOutput o g).log = s.log := rfl

@[simp] theorem State.mapOutput_bg (s : State) (o : Nat) (g : TmgOut → TmgOut) : (s.mapOutput o g).bg = s.bg := rfl

@[simp] theorem State.mapOutput_tmg (s : State) (o : Nat) (g : TmgOut → TmgOut) :
    (s.mapOutput o g).tmg = { s.tmg with outs := s.tmg.outs.mapIdx fun j x => if j = o then g x else x } := rfl

@[simp] theorem State.mapCtx_clk (s : State) (c : Nat) (g : Ctx → Ctx) : (s.mapCtx c g).clk = s.clk := rfl

@[simp] theorem State.mapCtx_free (s : State) (c : Nat) (g : Ctx → Ctx) : (s.mapCtx c g).free = s.free := rfl

@[simp] theorem State.mapCtx_bus (s : State) (c : Nat) (g : Ctx → Ctx) : (s.mapCtx c g).bus = s.bus := rfl

@[simp] theorem State.mapCtx_out (s : State) (c : Nat) (g : Ctx → Ctx) : (s.mapCtx c g).out = s.out := rfl

@[simp] theorem State.mapCtx_top (s : State) (c : Nat) (g : Ctx → Ctx) : (s.mapCtx c g).top = s.top := rfl

@[simp] theorem State.mapCtx_pwr (s : State) (c : Nat) (g : Ctx → Ctx) : (s.mapCtx c g).pwr = s.pwr := rfl

@[simp] theorem State.mapCtx_ret (s : State) (c : Nat) (g : Ctx → Ctx) : (s.mapCtx c g).ret = s.ret := rfl

@[simp] theorem State.mapCtx_fw (s : State) (c : Nat) (g : Ctx → Ctx) : (s.mapCtx c g).fw = s.fw := rfl

@[simp] theorem State.mapCtx_recov (s : State) (c : Nat) (g : Ctx → Ctx) : (s.mapCtx c g).recov = s.recov := rfl

@[simp] theorem State.mapCtx_cal (s : State) (c : Nat) (g : Ctx → Ctx) : (s.mapCtx c g).cal = s.cal := rfl

@[simp] theorem State.mapCtx_hif (s : State) (c : Nat) (g : Ctx → Ctx) : (s.mapCtx c g).hif = s.hif := rfl

@[simp] theorem State.mapCtx_img (s : State) (c : Nat) (g : Ctx → Ctx) : (s.mapCtx c g).img = s.img := rfl

@[simp] theorem State.mapCtx_rsq (s : State) (c : Nat) (g : Ctx → Ctx) : (s.mapCtx c g).rsq = s.rsq := rfl

@[simp] theorem State.mapCtx_sw (s : State) (c : Nat) (g : Ctx → Ctx) : (s.mapCtx c g).sw = s.sw := rfl

@[simp] theorem State.mapCtx_stg (s : State) (c : Nat) (g : Ctx → Ctx) : (s.mapCtx c g).stg = s.stg := rfl

@[simp] theorem State.mapCtx_nec (s : State) (c : Nat) (g : Ctx → Ctx) : (s.mapCtx c g).nec = s.nec := rfl

@[simp] theorem State.mapCtx_fab (s : State) (c : Nat) (g : Ctx → Ctx) : (s.mapCtx c g).fab = s.fab := rfl

@[simp] theorem State.mapCtx_tmg (s : State) (c : Nat) (g : Ctx → Ctx) : (s.mapCtx c g).tmg = s.tmg := rfl

@[simp] theorem State.mapCtx_sec (s : State) (c : Nat) (g : Ctx → Ctx) : (s.mapCtx c g).sec = s.sec := rfl

@[simp] theorem State.mapCtx_saf (s : State) (c : Nat) (g : Ctx → Ctx) : (s.mapCtx c g).saf = s.saf := rfl

@[simp] theorem State.mapCtx_pair (s : State) (c : Nat) (g : Ctx → Ctx) : (s.mapCtx c g).pair = s.pair := rfl

@[simp] theorem State.mapCtx_log (s : State) (c : Nat) (g : Ctx → Ctx) : (s.mapCtx c g).log = s.log := rfl

@[simp] theorem State.mapCtx_bg (s : State) (c : Nat) (g : Ctx → Ctx) : (s.mapCtx c g).bg = s.bg := rfl

@[simp] theorem State.mapCtx_cin (s : State) (c : Nat) (g : Ctx → Ctx) :
    (s.mapCtx c g).cin = { s.cin with ctxs := s.cin.ctxs.setIfInBounds c (g (s.ctx c)) } := rfl

@[simp] theorem State.mapCam_clk (s : State) (p : Nat) (g : Port → Port) : (s.mapCam p g).clk = s.clk := rfl

@[simp] theorem State.mapCam_free (s : State) (p : Nat) (g : Port → Port) : (s.mapCam p g).free = s.free := rfl

@[simp] theorem State.mapCam_bus (s : State) (p : Nat) (g : Port → Port) : (s.mapCam p g).bus = s.bus := rfl

@[simp] theorem State.mapCam_out (s : State) (p : Nat) (g : Port → Port) : (s.mapCam p g).out = s.out := rfl

@[simp] theorem State.mapCam_top (s : State) (p : Nat) (g : Port → Port) : (s.mapCam p g).top = s.top := rfl

@[simp] theorem State.mapCam_pwr (s : State) (p : Nat) (g : Port → Port) : (s.mapCam p g).pwr = s.pwr := rfl

@[simp] theorem State.mapCam_ret (s : State) (p : Nat) (g : Port → Port) : (s.mapCam p g).ret = s.ret := rfl

@[simp] theorem State.mapCam_fw (s : State) (p : Nat) (g : Port → Port) : (s.mapCam p g).fw = s.fw := rfl

@[simp] theorem State.mapCam_recov (s : State) (p : Nat) (g : Port → Port) : (s.mapCam p g).recov = s.recov := rfl

@[simp] theorem State.mapCam_cal (s : State) (p : Nat) (g : Port → Port) : (s.mapCam p g).cal = s.cal := rfl

@[simp] theorem State.mapCam_hif (s : State) (p : Nat) (g : Port → Port) : (s.mapCam p g).hif = s.hif := rfl

@[simp] theorem State.mapCam_img (s : State) (p : Nat) (g : Port → Port) : (s.mapCam p g).img = s.img := rfl

@[simp] theorem State.mapCam_rsq (s : State) (p : Nat) (g : Port → Port) : (s.mapCam p g).rsq = s.rsq := rfl

@[simp] theorem State.mapCam_sw (s : State) (p : Nat) (g : Port → Port) : (s.mapCam p g).sw = s.sw := rfl

@[simp] theorem State.mapCam_stg (s : State) (p : Nat) (g : Port → Port) : (s.mapCam p g).stg = s.stg := rfl

@[simp] theorem State.mapCam_nec (s : State) (p : Nat) (g : Port → Port) : (s.mapCam p g).nec = s.nec := rfl

@[simp] theorem State.mapCam_fab (s : State) (p : Nat) (g : Port → Port) : (s.mapCam p g).fab = s.fab := rfl

@[simp] theorem State.mapCam_tmg (s : State) (p : Nat) (g : Port → Port) : (s.mapCam p g).tmg = s.tmg := rfl

@[simp] theorem State.mapCam_sec (s : State) (p : Nat) (g : Port → Port) : (s.mapCam p g).sec = s.sec := rfl

@[simp] theorem State.mapCam_saf (s : State) (p : Nat) (g : Port → Port) : (s.mapCam p g).saf = s.saf := rfl

@[simp] theorem State.mapCam_pair (s : State) (p : Nat) (g : Port → Port) : (s.mapCam p g).pair = s.pair := rfl

@[simp] theorem State.mapCam_log (s : State) (p : Nat) (g : Port → Port) : (s.mapCam p g).log = s.log := rfl

@[simp] theorem State.mapCam_bg (s : State) (p : Nat) (g : Port → Port) : (s.mapCam p g).bg = s.bg := rfl

@[simp] theorem State.mapCam_cin (s : State) (p : Nat) (g : Port → Port) :
    (s.mapCam p g).cin = { s.cin with ports := s.cin.ports.setIfInBounds p (g ((s.cin.ports[p]?).getD {})) } := rfl

@[simp] theorem State.mapScb_clk (s : State) (k : Nat) (g : Scb → Scb) : (s.mapScb k g).clk = s.clk := rfl

@[simp] theorem State.mapScb_free (s : State) (k : Nat) (g : Scb → Scb) : (s.mapScb k g).free = s.free := rfl

@[simp] theorem State.mapScb_bus (s : State) (k : Nat) (g : Scb → Scb) : (s.mapScb k g).bus = s.bus := rfl

@[simp] theorem State.mapScb_out (s : State) (k : Nat) (g : Scb → Scb) : (s.mapScb k g).out = s.out := rfl

@[simp] theorem State.mapScb_top (s : State) (k : Nat) (g : Scb → Scb) : (s.mapScb k g).top = s.top := rfl

@[simp] theorem State.mapScb_pwr (s : State) (k : Nat) (g : Scb → Scb) : (s.mapScb k g).pwr = s.pwr := rfl

@[simp] theorem State.mapScb_ret (s : State) (k : Nat) (g : Scb → Scb) : (s.mapScb k g).ret = s.ret := rfl

@[simp] theorem State.mapScb_fw (s : State) (k : Nat) (g : Scb → Scb) : (s.mapScb k g).fw = s.fw := rfl

@[simp] theorem State.mapScb_recov (s : State) (k : Nat) (g : Scb → Scb) : (s.mapScb k g).recov = s.recov := rfl

@[simp] theorem State.mapScb_cal (s : State) (k : Nat) (g : Scb → Scb) : (s.mapScb k g).cal = s.cal := rfl

@[simp] theorem State.mapScb_hif (s : State) (k : Nat) (g : Scb → Scb) : (s.mapScb k g).hif = s.hif := rfl

@[simp] theorem State.mapScb_img (s : State) (k : Nat) (g : Scb → Scb) : (s.mapScb k g).img = s.img := rfl

@[simp] theorem State.mapScb_rsq (s : State) (k : Nat) (g : Scb → Scb) : (s.mapScb k g).rsq = s.rsq := rfl

@[simp] theorem State.mapScb_sw (s : State) (k : Nat) (g : Scb → Scb) : (s.mapScb k g).sw = s.sw := rfl

@[simp] theorem State.mapScb_stg (s : State) (k : Nat) (g : Scb → Scb) : (s.mapScb k g).stg = s.stg := rfl

@[simp] theorem State.mapScb_nec (s : State) (k : Nat) (g : Scb → Scb) : (s.mapScb k g).nec = s.nec := rfl

@[simp] theorem State.mapScb_fab (s : State) (k : Nat) (g : Scb → Scb) : (s.mapScb k g).fab = s.fab := rfl

@[simp] theorem State.mapScb_tmg (s : State) (k : Nat) (g : Scb → Scb) : (s.mapScb k g).tmg = s.tmg := rfl

@[simp] theorem State.mapScb_sec (s : State) (k : Nat) (g : Scb → Scb) : (s.mapScb k g).sec = s.sec := rfl

@[simp] theorem State.mapScb_saf (s : State) (k : Nat) (g : Scb → Scb) : (s.mapScb k g).saf = s.saf := rfl

@[simp] theorem State.mapScb_pair (s : State) (k : Nat) (g : Scb → Scb) : (s.mapScb k g).pair = s.pair := rfl

@[simp] theorem State.mapScb_log (s : State) (k : Nat) (g : Scb → Scb) : (s.mapScb k g).log = s.log := rfl

@[simp] theorem State.mapScb_bg (s : State) (k : Nat) (g : Scb → Scb) : (s.mapScb k g).bg = s.bg := rfl

@[simp] theorem State.mapScb_cin (s : State) (k : Nat) (g : Scb → Scb) :
    (s.mapScb k g).cin = { s.cin with scb := s.cin.scb.setIfInBounds k (g (s.scb k)) } := rfl

@[simp] theorem State.mapSlot_clk (s : State) (n : Nat) (g : ImgSlot → ImgSlot) : (s.mapSlot n g).clk = s.clk := rfl

@[simp] theorem State.mapSlot_free (s : State) (n : Nat) (g : ImgSlot → ImgSlot) : (s.mapSlot n g).free = s.free := rfl

@[simp] theorem State.mapSlot_bus (s : State) (n : Nat) (g : ImgSlot → ImgSlot) : (s.mapSlot n g).bus = s.bus := rfl

@[simp] theorem State.mapSlot_out (s : State) (n : Nat) (g : ImgSlot → ImgSlot) : (s.mapSlot n g).out = s.out := rfl

@[simp] theorem State.mapSlot_top (s : State) (n : Nat) (g : ImgSlot → ImgSlot) : (s.mapSlot n g).top = s.top := rfl

@[simp] theorem State.mapSlot_pwr (s : State) (n : Nat) (g : ImgSlot → ImgSlot) : (s.mapSlot n g).pwr = s.pwr := rfl

@[simp] theorem State.mapSlot_ret (s : State) (n : Nat) (g : ImgSlot → ImgSlot) : (s.mapSlot n g).ret = s.ret := rfl

@[simp] theorem State.mapSlot_fw (s : State) (n : Nat) (g : ImgSlot → ImgSlot) : (s.mapSlot n g).fw = s.fw := rfl

@[simp] theorem State.mapSlot_recov (s : State) (n : Nat) (g : ImgSlot → ImgSlot) : (s.mapSlot n g).recov = s.recov := rfl

@[simp] theorem State.mapSlot_cal (s : State) (n : Nat) (g : ImgSlot → ImgSlot) : (s.mapSlot n g).cal = s.cal := rfl

@[simp] theorem State.mapSlot_hif (s : State) (n : Nat) (g : ImgSlot → ImgSlot) : (s.mapSlot n g).hif = s.hif := rfl

@[simp] theorem State.mapSlot_rsq (s : State) (n : Nat) (g : ImgSlot → ImgSlot) : (s.mapSlot n g).rsq = s.rsq := rfl

@[simp] theorem State.mapSlot_cin (s : State) (n : Nat) (g : ImgSlot → ImgSlot) : (s.mapSlot n g).cin = s.cin := rfl

@[simp] theorem State.mapSlot_sw (s : State) (n : Nat) (g : ImgSlot → ImgSlot) : (s.mapSlot n g).sw = s.sw := rfl

@[simp] theorem State.mapSlot_stg (s : State) (n : Nat) (g : ImgSlot → ImgSlot) : (s.mapSlot n g).stg = s.stg := rfl

@[simp] theorem State.mapSlot_nec (s : State) (n : Nat) (g : ImgSlot → ImgSlot) : (s.mapSlot n g).nec = s.nec := rfl

@[simp] theorem State.mapSlot_fab (s : State) (n : Nat) (g : ImgSlot → ImgSlot) : (s.mapSlot n g).fab = s.fab := rfl

@[simp] theorem State.mapSlot_tmg (s : State) (n : Nat) (g : ImgSlot → ImgSlot) : (s.mapSlot n g).tmg = s.tmg := rfl

@[simp] theorem State.mapSlot_sec (s : State) (n : Nat) (g : ImgSlot → ImgSlot) : (s.mapSlot n g).sec = s.sec := rfl

@[simp] theorem State.mapSlot_saf (s : State) (n : Nat) (g : ImgSlot → ImgSlot) : (s.mapSlot n g).saf = s.saf := rfl

@[simp] theorem State.mapSlot_pair (s : State) (n : Nat) (g : ImgSlot → ImgSlot) : (s.mapSlot n g).pair = s.pair := rfl

@[simp] theorem State.mapSlot_log (s : State) (n : Nat) (g : ImgSlot → ImgSlot) : (s.mapSlot n g).log = s.log := rfl

@[simp] theorem State.mapSlot_bg (s : State) (n : Nat) (g : ImgSlot → ImgSlot) : (s.mapSlot n g).bg = s.bg := rfl

@[simp] theorem State.mapSlot_img (s : State) (n : Nat) (g : ImgSlot → ImgSlot) :
    (s.mapSlot n g).img = { s.img with slots := s.img.slots.mapIdx fun i x => if i = n then g x else x } := rfl

@[simp] theorem State.setTdi_clk (s : State) (f : Part) (t : Tdi) : (s.setTdi f t).clk = s.clk := rfl

@[simp] theorem State.setTdi_free (s : State) (f : Part) (t : Tdi) : (s.setTdi f t).free = s.free := rfl

@[simp] theorem State.setTdi_bus (s : State) (f : Part) (t : Tdi) : (s.setTdi f t).bus = s.bus := rfl

@[simp] theorem State.setTdi_out (s : State) (f : Part) (t : Tdi) : (s.setTdi f t).out = s.out := rfl

@[simp] theorem State.setTdi_top (s : State) (f : Part) (t : Tdi) : (s.setTdi f t).top = s.top := rfl

@[simp] theorem State.setTdi_pwr (s : State) (f : Part) (t : Tdi) : (s.setTdi f t).pwr = s.pwr := rfl

@[simp] theorem State.setTdi_ret (s : State) (f : Part) (t : Tdi) : (s.setTdi f t).ret = s.ret := rfl

@[simp] theorem State.setTdi_fw (s : State) (f : Part) (t : Tdi) : (s.setTdi f t).fw = s.fw := rfl

@[simp] theorem State.setTdi_recov (s : State) (f : Part) (t : Tdi) : (s.setTdi f t).recov = s.recov := rfl

@[simp] theorem State.setTdi_cal (s : State) (f : Part) (t : Tdi) : (s.setTdi f t).cal = s.cal := rfl

@[simp] theorem State.setTdi_img (s : State) (f : Part) (t : Tdi) : (s.setTdi f t).img = s.img := rfl

@[simp] theorem State.setTdi_rsq (s : State) (f : Part) (t : Tdi) : (s.setTdi f t).rsq = s.rsq := rfl

@[simp] theorem State.setTdi_cin (s : State) (f : Part) (t : Tdi) : (s.setTdi f t).cin = s.cin := rfl

@[simp] theorem State.setTdi_sw (s : State) (f : Part) (t : Tdi) : (s.setTdi f t).sw = s.sw := rfl

@[simp] theorem State.setTdi_stg (s : State) (f : Part) (t : Tdi) : (s.setTdi f t).stg = s.stg := rfl

@[simp] theorem State.setTdi_nec (s : State) (f : Part) (t : Tdi) : (s.setTdi f t).nec = s.nec := rfl

@[simp] theorem State.setTdi_fab (s : State) (f : Part) (t : Tdi) : (s.setTdi f t).fab = s.fab := rfl

@[simp] theorem State.setTdi_tmg (s : State) (f : Part) (t : Tdi) : (s.setTdi f t).tmg = s.tmg := rfl

@[simp] theorem State.setTdi_sec (s : State) (f : Part) (t : Tdi) : (s.setTdi f t).sec = s.sec := rfl

@[simp] theorem State.setTdi_saf (s : State) (f : Part) (t : Tdi) : (s.setTdi f t).saf = s.saf := rfl

@[simp] theorem State.setTdi_pair (s : State) (f : Part) (t : Tdi) : (s.setTdi f t).pair = s.pair := rfl

@[simp] theorem State.setTdi_log (s : State) (f : Part) (t : Tdi) : (s.setTdi f t).log = s.log := rfl

@[simp] theorem State.setTdi_bg (s : State) (f : Part) (t : Tdi) : (s.setTdi f t).bg = s.bg := rfl

@[simp] theorem State.setTdi_hif (s : State) (f : Part) (t : Tdi) :
    (s.setTdi f t).hif = { s.hif with fns := s.hif.fns.set f.val { s.hif.fns[f.val] with tdi := t } } := rfl

@[simp] theorem State.mapFn_clk (s : State) (f : Nat) (g : Fn → Fn) : (s.mapFn f g).clk = s.clk := rfl

@[simp] theorem State.mapFn_free (s : State) (f : Nat) (g : Fn → Fn) : (s.mapFn f g).free = s.free := rfl

@[simp] theorem State.mapFn_bus (s : State) (f : Nat) (g : Fn → Fn) : (s.mapFn f g).bus = s.bus := rfl

@[simp] theorem State.mapFn_out (s : State) (f : Nat) (g : Fn → Fn) : (s.mapFn f g).out = s.out := rfl

@[simp] theorem State.mapFn_top (s : State) (f : Nat) (g : Fn → Fn) : (s.mapFn f g).top = s.top := rfl

@[simp] theorem State.mapFn_pwr (s : State) (f : Nat) (g : Fn → Fn) : (s.mapFn f g).pwr = s.pwr := rfl

@[simp] theorem State.mapFn_ret (s : State) (f : Nat) (g : Fn → Fn) : (s.mapFn f g).ret = s.ret := rfl

@[simp] theorem State.mapFn_fw (s : State) (f : Nat) (g : Fn → Fn) : (s.mapFn f g).fw = s.fw := rfl

@[simp] theorem State.mapFn_recov (s : State) (f : Nat) (g : Fn → Fn) : (s.mapFn f g).recov = s.recov := rfl

@[simp] theorem State.mapFn_cal (s : State) (f : Nat) (g : Fn → Fn) : (s.mapFn f g).cal = s.cal := rfl

@[simp] theorem State.mapFn_img (s : State) (f : Nat) (g : Fn → Fn) : (s.mapFn f g).img = s.img := rfl

@[simp] theorem State.mapFn_rsq (s : State) (f : Nat) (g : Fn → Fn) : (s.mapFn f g).rsq = s.rsq := rfl

@[simp] theorem State.mapFn_cin (s : State) (f : Nat) (g : Fn → Fn) : (s.mapFn f g).cin = s.cin := rfl

@[simp] theorem State.mapFn_sw (s : State) (f : Nat) (g : Fn → Fn) : (s.mapFn f g).sw = s.sw := rfl

@[simp] theorem State.mapFn_stg (s : State) (f : Nat) (g : Fn → Fn) : (s.mapFn f g).stg = s.stg := rfl

@[simp] theorem State.mapFn_nec (s : State) (f : Nat) (g : Fn → Fn) : (s.mapFn f g).nec = s.nec := rfl

@[simp] theorem State.mapFn_fab (s : State) (f : Nat) (g : Fn → Fn) : (s.mapFn f g).fab = s.fab := rfl

@[simp] theorem State.mapFn_tmg (s : State) (f : Nat) (g : Fn → Fn) : (s.mapFn f g).tmg = s.tmg := rfl

@[simp] theorem State.mapFn_sec (s : State) (f : Nat) (g : Fn → Fn) : (s.mapFn f g).sec = s.sec := rfl

@[simp] theorem State.mapFn_saf (s : State) (f : Nat) (g : Fn → Fn) : (s.mapFn f g).saf = s.saf := rfl

@[simp] theorem State.mapFn_pair (s : State) (f : Nat) (g : Fn → Fn) : (s.mapFn f g).pair = s.pair := rfl

@[simp] theorem State.mapFn_log (s : State) (f : Nat) (g : Fn → Fn) : (s.mapFn f g).log = s.log := rfl

@[simp] theorem State.mapFn_bg (s : State) (f : Nat) (g : Fn → Fn) : (s.mapFn f g).bg = s.bg := rfl

@[simp] theorem State.mapFn_hif (s : State) (f : Nat) (g : Fn → Fn) :
    (s.mapFn f g).hif = { s.hif with fns := s.hif.fns.mapIdx fun i x => if i = f then g x else x } := rfl

@[simp] theorem State.mapBlob_clk (s : State) (i : Nat) (g : Blob → Blob) : (s.mapBlob i g).clk = s.clk := rfl

@[simp] theorem State.mapBlob_free (s : State) (i : Nat) (g : Blob → Blob) : (s.mapBlob i g).free = s.free := rfl

@[simp] theorem State.mapBlob_bus (s : State) (i : Nat) (g : Blob → Blob) : (s.mapBlob i g).bus = s.bus := rfl

@[simp] theorem State.mapBlob_out (s : State) (i : Nat) (g : Blob → Blob) : (s.mapBlob i g).out = s.out := rfl

@[simp] theorem State.mapBlob_top (s : State) (i : Nat) (g : Blob → Blob) : (s.mapBlob i g).top = s.top := rfl

@[simp] theorem State.mapBlob_pwr (s : State) (i : Nat) (g : Blob → Blob) : (s.mapBlob i g).pwr = s.pwr := rfl

@[simp] theorem State.mapBlob_ret (s : State) (i : Nat) (g : Blob → Blob) : (s.mapBlob i g).ret = s.ret := rfl

@[simp] theorem State.mapBlob_fw (s : State) (i : Nat) (g : Blob → Blob) : (s.mapBlob i g).fw = s.fw := rfl

@[simp] theorem State.mapBlob_recov (s : State) (i : Nat) (g : Blob → Blob) : (s.mapBlob i g).recov = s.recov := rfl

@[simp] theorem State.mapBlob_cal (s : State) (i : Nat) (g : Blob → Blob) : (s.mapBlob i g).cal = s.cal := rfl

@[simp] theorem State.mapBlob_hif (s : State) (i : Nat) (g : Blob → Blob) : (s.mapBlob i g).hif = s.hif := rfl

@[simp] theorem State.mapBlob_img (s : State) (i : Nat) (g : Blob → Blob) : (s.mapBlob i g).img = s.img := rfl

@[simp] theorem State.mapBlob_rsq (s : State) (i : Nat) (g : Blob → Blob) : (s.mapBlob i g).rsq = s.rsq := rfl

@[simp] theorem State.mapBlob_cin (s : State) (i : Nat) (g : Blob → Blob) : (s.mapBlob i g).cin = s.cin := rfl

@[simp] theorem State.mapBlob_sw (s : State) (i : Nat) (g : Blob → Blob) : (s.mapBlob i g).sw = s.sw := rfl

@[simp] theorem State.mapBlob_stg (s : State) (i : Nat) (g : Blob → Blob) : (s.mapBlob i g).stg = s.stg := rfl

@[simp] theorem State.mapBlob_nec (s : State) (i : Nat) (g : Blob → Blob) : (s.mapBlob i g).nec = s.nec := rfl

@[simp] theorem State.mapBlob_fab (s : State) (i : Nat) (g : Blob → Blob) : (s.mapBlob i g).fab = s.fab := rfl

@[simp] theorem State.mapBlob_tmg (s : State) (i : Nat) (g : Blob → Blob) : (s.mapBlob i g).tmg = s.tmg := rfl

@[simp] theorem State.mapBlob_saf (s : State) (i : Nat) (g : Blob → Blob) : (s.mapBlob i g).saf = s.saf := rfl

@[simp] theorem State.mapBlob_pair (s : State) (i : Nat) (g : Blob → Blob) : (s.mapBlob i g).pair = s.pair := rfl

@[simp] theorem State.mapBlob_log (s : State) (i : Nat) (g : Blob → Blob) : (s.mapBlob i g).log = s.log := rfl

@[simp] theorem State.mapBlob_bg (s : State) (i : Nat) (g : Blob → Blob) : (s.mapBlob i g).bg = s.bg := rfl

@[simp] theorem State.mapBlob_sec (s : State) (i : Nat) (g : Blob → Blob) :
    (s.mapBlob i g).sec = { s.sec with blobs := s.sec.blobs.mapIdx fun k b => if k = i then g b else b } := rfl

@[simp] theorem State.switchTo_clk (s : State) (st : SwStep) : (s.switchTo st).clk = s.clk := rfl

@[simp] theorem State.switchTo_free (s : State) (st : SwStep) : (s.switchTo st).free = s.free := rfl

@[simp] theorem State.switchTo_bus (s : State) (st : SwStep) : (s.switchTo st).bus = s.bus := rfl

@[simp] theorem State.switchTo_out (s : State) (st : SwStep) : (s.switchTo st).out = s.out := rfl

@[simp] theorem State.switchTo_top (s : State) (st : SwStep) : (s.switchTo st).top = s.top := rfl

@[simp] theorem State.switchTo_pwr (s : State) (st : SwStep) : (s.switchTo st).pwr = s.pwr := rfl

@[simp] theorem State.switchTo_ret (s : State) (st : SwStep) : (s.switchTo st).ret = s.ret := rfl

@[simp] theorem State.switchTo_fw (s : State) (st : SwStep) : (s.switchTo st).fw = s.fw := rfl

@[simp] theorem State.switchTo_recov (s : State) (st : SwStep) : (s.switchTo st).recov = s.recov := rfl

@[simp] theorem State.switchTo_cal (s : State) (st : SwStep) : (s.switchTo st).cal = s.cal := rfl

@[simp] theorem State.switchTo_hif (s : State) (st : SwStep) : (s.switchTo st).hif = s.hif := rfl

@[simp] theorem State.switchTo_img (s : State) (st : SwStep) : (s.switchTo st).img = s.img := rfl

@[simp] theorem State.switchTo_rsq (s : State) (st : SwStep) : (s.switchTo st).rsq = s.rsq := rfl

@[simp] theorem State.switchTo_cin (s : State) (st : SwStep) : (s.switchTo st).cin = s.cin := rfl

@[simp] theorem State.switchTo_sw (s : State) (st : SwStep) : (s.switchTo st).sw = s.sw := rfl

@[simp] theorem State.switchTo_stg (s : State) (st : SwStep) : (s.switchTo st).stg = s.stg := rfl

@[simp] theorem State.switchTo_nec (s : State) (st : SwStep) : (s.switchTo st).nec = s.nec := rfl

@[simp] theorem State.switchTo_fab (s : State) (st : SwStep) : (s.switchTo st).fab = s.fab := rfl

@[simp] theorem State.switchTo_tmg (s : State) (st : SwStep) : (s.switchTo st).tmg = s.tmg := rfl

@[simp] theorem State.switchTo_saf (s : State) (st : SwStep) : (s.switchTo st).saf = s.saf := rfl

@[simp] theorem State.switchTo_pair (s : State) (st : SwStep) : (s.switchTo st).pair = s.pair := rfl

@[simp] theorem State.switchTo_log (s : State) (st : SwStep) : (s.switchTo st).log = s.log := rfl

@[simp] theorem State.switchTo_bg (s : State) (st : SwStep) : (s.switchTo st).bg = s.bg := rfl

@[simp] theorem State.switchTo_sec (s : State) (st : SwStep) :
    (s.switchTo st).sec = { s.sec with switch := s.sec.switch.map fun w => { w with step := st, at_ := s.clk } } := rfl

end Sys2Proof.Machine
end

