-- ==== Sys2Proof/Laws/FrameFw.lean ====
section
/-! SUPPORT. The operations that leave the firmware and its fuses alone: one lemma for each, which says so (`.fw` is the field of State that holds it). -/

namespace Sys2Proof.Machine

set_option linter.all false

@[simp] theorem ite_fw (c : Prop) [Decidable c] (a b : State) : (if c then a else b).fw = if c then a.fw else b.fw := by
  split <;> rfl

theorem foldl_fw {α : Type} (f : State → α → State) (h : ∀ s x, (f s x).fw = s.fw) (l : List α) (s : State) :
    (l.foldl f s).fw = s.fw := by
  induction l generalizing s with
  | nil => rfl
  | cons a t ih => rw [List.foldl_cons, ih, h]

theorem foldlPair_fw {α β : Type} (f : State × β → α → State × β) (h : ∀ a x, (f a x).1.fw = a.1.fw) (l : List α)
    (a : State × β) : (l.foldl f a).1.fw = a.1.fw := by
  induction l generalizing a with
  | nil => rfl
  | cons x t ih => rw [List.foldl_cons, ih, h]

@[simp] theorem State.sendEvents_fw (s : State) : (State.sendEvents s).fw = s.fw := by
  simp [State.sendEvents]

@[simp] theorem State.event_fw (s : State) (f : Nat) (c : Nat) (source : Nat) : (State.event s f c source).fw = s.fw := by
  unfold State.event; (repeat' split) <;> simp [*]

@[simp] theorem State.eventAll_fw (s : State) (c : Nat) (source : Nat) : (State.eventAll s c source).fw = s.fw := by
  simp [State.eventAll, foldl_fw]

@[simp] theorem State.memWrite_fw (s : State) (a : Nat) (bs : Bytes) (poison : Bool) :
    (State.memWrite s a bs poison).fw = s.fw := by
  simp [State.memWrite]

@[simp] theorem State.memWriteMixed_fw (s : State) (a : Nat) (bs : Bytes) (pz : Nat → Bool) :
    (State.memWriteMixed s a bs pz).fw = s.fw := by
  simp [State.memWriteMixed, foldl_fw]

@[simp] theorem State.fix_fw (s : State) (f : Nat) (q : Nat) (pos : Nat) (status : Nat) (detail : Nat) (source : Nat) :
    (State.fix s f q pos status detail source).fw = s.fw := by
  unfold State.fix; simp only []; (repeat' split) <;> simp_all

@[simp] theorem State.refuse_fw (s : State) (f : Nat) (q : Nat) (pos : Nat) (detail : Nat) :
    (State.refuse s f q pos detail).fw = s.fw := by
  simp [State.refuse]

@[simp] theorem State.setCmd_fw (s : State) (f : Nat) (q : Nat) (pos : Nat) (g : Cmd → Cmd) :
    (State.setCmd s f q pos g).fw = s.fw := by
  simp [State.setCmd]

@[simp] theorem State.underWay_fw (s : State) (f : Nat) (q : Nat) (pos : Nat) (status : Nat) (detail : Nat) (source : Nat) :
    (State.underWay s f q pos status detail source).fw = s.fw := by
  simp [State.underWay]

@[simp] theorem State.driveSafeOff_fw (s : State) (on : Bool) : (State.driveSafeOff s on).fw = s.fw := by
  simp [State.driveSafeOff]

@[simp] theorem State.sendCan_fw (s : State) (ident : Nat) (typ : Nat) (alive : BitVec 8) :
    (State.sendCan s ident typ alive).fw = s.fw := by
  simp [State.sendCan]

@[simp] theorem State.setSaf_fw (s : State) (st : SafSt) : (State.setSaf s st).fw = s.fw := by
  simp [State.setSaf]

@[simp] theorem State.enterSafe_fw (s : State) (cause : Nat) (gtc : Nat) (source : Nat) (hw : Bool) :
    (State.enterSafe s cause gtc source hw).fw = s.fw := by
  simp [State.enterSafe]

@[simp] theorem State.latchCause_fw (s : State) (cause : Nat) (source : Nat) : (State.latchCause s cause source).fw = s.fw := by
  simp [State.latchCause]

@[simp] theorem State.undefine_fw (s : State) (f : Nat) (addr : Nat) (n : Nat) : (State.undefine s f addr n).fw = s.fw := by
  unfold State.undefine; (repeat' split) <;> simp [*]

@[simp] theorem State.reroute_fw (s : State) : (State.reroute s).fw = s.fw := by
  simp [State.reroute, foldl_fw]

@[simp] theorem State.sendFlit_fw (s : State) (p : Nat) (idle : Bool) (payload : Bytes) :
    (State.sendFlit s p idle payload).fw = s.fw := by
  simp [State.sendFlit]

@[simp] theorem State.pump_fw (s : State) (p : Nat) (l : List Bytes) : (State.pump s p l).fw = s.fw := by
  induction l generalizing s with
  | nil => simp [State.pump]
  | cons b t ih => unfold State.pump; split <;> simp [ih]

@[simp] theorem State.sendIdle_fw (s : State) (p : Nat) : (State.sendIdle s p).fw = s.fw := by
  simp [State.sendIdle]

@[simp] theorem State.nak_fw (s : State) (p : Nat) : (State.nak s p).fw = s.fw := by
  simp [State.nak]

@[simp] theorem State.portSend_fw (s : State) (p : Nat) (lane : Nat) (m : Msg) : (State.portSend s p lane m).fw = s.fw := by
  simp [State.portSend]

@[simp] theorem State.strand_fw (s : State) (m : Msg) : (State.strand s m).fw = s.fw := by
  simp [State.strand]

@[simp] theorem State.forward_fw (s : State) (m : Msg) : (State.forward s m).fw = s.fw := by
  unfold State.forward; (repeat' split) <;> simp [*]

@[simp] theorem State.sendMsg_fw (s : State) (m : Msg) : (State.sendMsg s m).fw = s.fw := by
  simp [State.sendMsg]

@[simp] theorem State.flushStuck_fw (s : State) : (State.flushStuck s).fw = s.fw := by
  simp [State.flushStuck, foldl_fw]

@[simp] theorem State.advertise_fw (s : State) : (State.advertise s).fw = s.fw := by
  simp [State.advertise]

@[simp] theorem State.tellLinks_fw (s : State) : (State.tellLinks s).fw = s.fw := by
  simp [State.tellLinks]

@[simp] theorem State.linksChanged_fw (s : State) : (State.linksChanged s).fw = s.fw := by
  simp [State.linksChanged]

@[simp] theorem State.sendRequest_fw (s : State) (m : Msg) (cmd : Option (Nat × Nat × Nat)) :
    (State.sendRequest s m cmd).fw = s.fw := by
  simp [State.sendRequest]

@[simp] theorem State.request_fw (s : State) (m : Msg) (cmd : Option (Nat × Nat × Nat)) : (State.request s m cmd).fw = s.fw := by
  simp [State.request]

@[simp] theorem State.issueWaiting_fw (s : State) (d n : Nat) : (State.issueWaiting s d n).fw = s.fw := by
  induction n generalizing s with
  | zero => rfl
  | succ n ih => unfold State.issueWaiting; (repeat' split) <;> simp [ih]

@[simp] theorem State.answered_fw (s : State) (src : Nat) (reqId : Nat) : (State.answered s src reqId).fw = s.fw := by
  simp [State.answered]

@[simp] theorem State.markRun_fw (s : State) (r : Nat) (id : Nat) (poisoned : Bool) (lost : Bool) :
    (State.markRun s r id poisoned lost).fw = s.fw := by
  simp [State.markRun]

@[simp] theorem State.markCmd_fw (s : State) (cmd : Option (Nat × Nat × Nat)) (poisoned : Bool) (lost : Bool) :
    (State.markCmd s cmd poisoned lost).fw = s.fw := by
  unfold State.markCmd; (repeat' split) <;> simp [*]

@[simp] theorem State.poisonRead_fw (s : State) (part : Nat) (a : Nat) (source : Nat) :
    (State.poisonRead s part a source).fw = s.fw := by
  simp [State.poisonRead]

@[simp] theorem State.deliverTo_fw (s : State) (part : Nat) (a : Nat) (source : Nat) (data : Bytes) (poison : Bool) :
    (State.deliverTo s part a source data poison).fw = s.fw := by
  simp [State.deliverTo]

@[simp] theorem State.remoteWrite_fw (s : State) (board : Nat) (part : Nat) (a : Nat) (bs : Bytes) (poison : Bool) (cmd : Option (Nat × Nat × Nat)) :
    (State.remoteWrite s board part a bs poison cmd).fw = s.fw := by
  simp [State.remoteWrite, foldl_fw]

@[simp] theorem State.answer_fw (s : State) (m : Msg) : (State.answer s m).fw = s.fw := by
  simp [State.answer]

@[simp] theorem State.answerLine_fw (s : State) (typ : Nat) (r : HomeReq) : (State.answerLine s typ r).fw = s.fw := by
  simp [State.answerLine]

@[simp] theorem State.answerBare_fw (s : State) (typ : Nat) (dest : Nat) (reqId : Nat) (part : Nat) (addr : Nat) :
    (State.answerBare s typ dest reqId part addr).fw = s.fw := by
  simp [State.answerBare]

@[simp] theorem State.snoop_fw (s : State) (typ : Nat) (req : HomeReq) (boards : List Nat) :
    (State.snoop s typ req boards).fw = s.fw := by
  simp [State.snoop, foldl_fw]

@[simp] theorem State.mergeLine_fw (s : State) (r : HomeReq) (poison : Bool) : (State.mergeLine s r poison).fw = s.fw := by
  simp [State.mergeLine, foldl_fw]

@[simp] theorem State.finishReq_fw (s : State) (r : HomeReq) (was : Option DirEnt) (gone : List Nat) :
    (State.finishReq s r was gone).fw = s.fw := by
  unfold State.finishReq; (repeat' split) <;> simp [*]

@[simp] theorem State.beginReq_fw (s : State) (r : HomeReq) : (State.beginReq s r).fw = s.fw := by
  unfold State.beginReq; simp only []; (repeat' split) <;> simp_all

@[simp] theorem State.startReq_fw (s : State) (r : HomeReq) : (State.startReq s r).fw = s.fw := by
  unfold State.startReq; (repeat' split) <;> simp [*]

@[simp] theorem State.drainQueue_fw (s : State) : (State.drainQueue s).fw = s.fw := by
  simp [State.drainQueue, foldl_fw]

@[simp] theorem State.settleLeaving_fw (s : State) : (State.settleLeaving s).fw = s.fw := by
  simp [State.settleLeaving]

@[simp] theorem State.snoopAnswer_fw (s : State) (board : Nat) (a : Nat) (inFlight : Bool) :
    (State.snoopAnswer s board a inFlight).fw = s.fw := by
  unfold State.snoopAnswer; (repeat' split) <;> simp [*]

@[simp] theorem State.pruneKept_fw (s : State) (h : FabHdr) : (State.pruneKept s h).fw = s.fw := by
  simp [State.pruneKept]

@[simp] theorem State.resendKept_fw (s : State) (k : Kept) : (State.resendKept s k).fw = s.fw := by
  simp [State.resendKept]

@[simp] theorem State.homeRequest_fw (s : State) (typ : ReqType) (h : FabHdr) (mask : List Bool) (data : Bytes) (poison : Bool) :
    (State.homeRequest s typ h mask data poison).fw = s.fw := by
  unfold State.homeRequest; simp only []; (repeat' split) <;> simp_all

@[simp] theorem State.withdraw_fw (s : State) (r : Bytes) : (State.withdraw s r).fw = s.fw := by
  simp [State.withdraw, foldl_fw]

@[simp] theorem State.recall_fw (s : State) (part : Nat) (lines : List Nat) : (State.recall s part lines).fw = s.fw := by
  simp [State.recall, foldl_fw]

@[simp] theorem State.putPart_fw (s : State) (part : Nat) (a : Nat) (bs : Bytes) (poison : Bool) :
    (State.putPart s part a bs poison).fw = s.fw := by
  simp [State.putPart]

@[simp] theorem State.put_fw (s : State) (part : Nat) (a : Nat) (bs : Bytes) (poison : Bool) :
    (State.put s part a bs poison).fw = s.fw := by
  simp [State.put, foldl_fw]

@[simp] theorem State.putMixed_fw (s : State) (part : Nat) (a : Nat) (bs : Bytes) (pz : Nat → Bool) :
    (State.putMixed s part a bs pz).fw = s.fw := by
  simp [State.putMixed, foldl_fw]

@[simp] theorem State.takeOver_fw (s : State) : (State.takeOver s).fw = s.fw := by
  simp [State.takeOver, foldl_fw]

@[simp] theorem State.evict_fw (s : State) (l : RLine) : (State.evict s l).fw = s.fw := by
  simp [State.evict]

theorem State.cellarAlloc_fw (s : State) (x : Bytes) (a : Nat) (d : Bool) (t : State) (h : s.cellarAlloc x a d = some t) :
    t.fw = s.fw := by
  unfold State.cellarAlloc at h
  simp only [] at h
  (repeat' split at h) <;> (try cases h) <;> simp

@[simp] theorem State.cellarAllocD_fw (s : State) (x : Bytes) (a : Nat) (d : Bool) : ((s.cellarAlloc x a d).getD s).fw = s.fw := by
  cases h : s.cellarAlloc x a d with
  | none => rfl
  | some t => exact State.cellarAlloc_fw _ _ _ _ _ h

@[simp] theorem State.deliver_fw (s : State) (r : CellarReq) (data : Bytes) (poison : Bool) :
    (State.deliver s r data poison).fw = s.fw := by
  simp [State.deliver]

@[simp] theorem State.remoteAccess_fw (s : State) (r : CellarReq) : (State.remoteAccess s r).fw = s.fw := by
  unfold State.remoteAccess
  simp only []
  split
  · (repeat' split) <;> simp
  · split
    · rename_i t h
      have ht : t.fw = s.fw := by
        split at h
        · split at h
          · have := State.cellarAlloc_fw _ _ _ _ _ h
            simp at this
            exact this
          · cases h
        · cases h
      simp [ht]
    · split <;> simp

@[simp] theorem State.serveWaiters_fw (s : State) (l : List CellarReq) : (State.serveWaiters s l).fw = s.fw := by
  simp [State.serveWaiters, foldl_fw]

@[simp] theorem State.installLine_fw (s : State) (a : Nat) (st : CohSt) (data : Option (Bytes × Bool)) :
    (State.installLine s a st data).fw = s.fw := by
  unfold State.installLine; (repeat' split) <;> simp [*]

@[simp] theorem State.refetch_fw (s : State) (l : RLine) : (State.refetch s l).fw = s.fw := by
  simp [State.refetch]

@[simp] theorem State.maskedWrite_fw (s : State) (r : CellarReq) : (State.maskedWrite s r).fw = s.fw := by
  simp [State.maskedWrite]

@[simp] theorem State.cellarCount_fw (s : State) (r : CellarReq) : (State.cellarCount s r).fw = s.fw := by
  unfold State.cellarCount
  simp only []
  (repeat' split) <;> simp

@[simp] theorem State.localAccess_fw (s : State) (r : CellarReq) : (State.localAccess s r).fw = s.fw := by
  simp [State.localAccess]

@[simp] theorem State.poisonLine_fw (s : State) (a : Nat) : (State.poisonLine s a).fw = s.fw := by
  simp [State.poisonLine]

@[simp] theorem State.takeSource_fw (s : State) (cmd : Option (Nat × Nat × Nat)) (c : Cmd) (f : Nat) (q : Nat) (a : Nat) (data : Bytes) (poison : Bool) :
    (State.takeSource s cmd c f q a data poison).fw = s.fw := by
  unfold State.takeSource; simp only []; (repeat' split) <;> simp_all

@[simp] theorem State.takeCoreLine_fw (s : State) (c : Nat) (part : Nat) (a : Nat) (data : Bytes) (poison : Bool) :
    (State.takeCoreLine s c part a data poison).fw = s.fw := by
  simp [State.takeCoreLine]

@[simp] theorem State.takeNokeep_fw (s : State) (u : Unans) (a : Nat) (data : Bytes) (poison : Bool) :
    (State.takeNokeep s u a data poison).fw = s.fw := by
  unfold State.takeNokeep; (repeat' split) <;> simp [*]

@[simp] theorem State.failLine_fw (s : State) (a : Nat) : (State.failLine s a).fw = s.fw := by
  unfold State.failLine; (repeat' split) <;> simp [*, foldl_fw]

@[simp] theorem State.failRequest_fw (s : State) (u : Unans) : (State.failRequest s u).fw = s.fw := by
  unfold State.failRequest; (repeat' split) <;> simp [*]

@[simp] theorem State.failMsg_fw (s : State) (u : Unans) : (State.failMsg s u).fw = s.fw := by
  simp [State.failMsg]

@[simp] theorem State.useDma_fw (s : State) (j : Job) : (State.useDma s j).fw = s.fw := by
  simp [State.useDma]

@[simp] theorem State.useSealing_fw (s : State) (j : Job) : (State.useSealing s j).fw = s.fw := by
  simp [State.useSealing]

@[simp] theorem State.useMessage_fw (s : State) (n : Nat) (j : Job) : (State.useMessage s n j).fw = s.fw := by
  simp [State.useMessage]

theorem poisonReads_fw (p src : Nat) (g : State → Nat → Nat) (l : List Nat) (s : State) :
    (l.foldl (fun s i => s.poisonRead p (g s i) src) s).fw = s.fw :=
  foldl_fw _ (fun s x => State.poisonRead_fw s p (g s x) src) l s

@[simp] theorem State.readLocal_fw (s : State) (f : Nat) (a : Nat) (n : Nat) : (State.readLocal s f a n).fw = s.fw := by
  exact poisonReads_fw f (srcPart f) (fun s l => s.struct.boardId * 2 ^ 40 + 128 * l) _ s

@[simp] theorem State.toHost_fw (s : State) (f : Nat) (q : Nat) (seq : Nat) (addr : Nat) (bs : Bytes) (first : Nat) (pz : Nat → Bool) :
    (State.toHost s f q seq addr bs first pz).fw = s.fw := by
  simp [State.toHost, foldl_fw]

@[simp] theorem State.toPlace_fw (s : State) (f : Nat) (p : Place) (bs : Bytes) (pz : Nat → Bool) (cmd : Option (Nat × Nat × Nat)) :
    (State.toPlace s f p bs pz cmd).fw = s.fw := by
  unfold State.toPlace; (repeat' split) <;> simp [*, foldl_fw]

@[simp] theorem State.settleEntry_fw (s : State) (a : Nat) (e : Option DirEnt) : (State.settleEntry s a e).fw = s.fw := by
  unfold State.settleEntry; (repeat' split) <;> simp [*]

@[simp] theorem State.eviction_fw (s : State) (h : FabHdr) (data : Option (Bytes × Bool)) :
    (State.eviction s h data).fw = s.fw := by
  unfold State.eviction; simp only []; (repeat' split) <;> simp_all

@[simp] theorem State.snoopReply_fw (s : State) (home : Nat) (typ : Nat) (reqId : Nat) (a : Nat) (data : Bytes) (poison : Bool) :
    (State.snoopReply s home typ reqId a data poison).fw = s.fw := by
  simp [State.snoopReply]

@[simp] theorem State.ringWrite_fw (s : State) (w : Bytes) (off : Nat) (bs : Bytes) (poison : Bool) :
    (State.ringWrite s w off bs poison).fw = s.fw := by
  simp [State.ringWrite]

@[simp] theorem State.addMail_fw (s : State) (m : MailIn) : (State.addMail s m).fw = s.fw := by
  simp [State.addMail]

@[simp] theorem State.fixSend_fw (s : State) (cmd : Option (Nat × Nat × Nat)) (source : Nat) :
    (State.fixSend s cmd source).fw = s.fw := by
  unfold State.fixSend; (repeat' split) <;> simp [*]

@[simp] theorem State.ownMailDone_fw (s : State) (reqId : Nat) : (State.ownMailDone s reqId).fw = s.fw := by
  unfold State.ownMailDone; (repeat' split) <;> simp [*]

@[simp] theorem State.passMails_fw (s : State) (w : Bytes) (x : Nat) (l : List MailIn) : (State.passMails s w x l).fw = s.fw := by
  induction l generalizing s with
  | nil => simp [State.passMails]
  | cons b t ih => unfold State.passMails; simp only []; (repeat' split) <;> simp [ih]

@[simp] theorem State.mailWhole_fw (s : State) (w : Bytes) (m : MailIn) : (State.mailWhole s w m).fw = s.fw := by
  simp [State.mailWhole]

@[simp] theorem State.recallSource_fw (s : State) (f : Nat) (c : Cmd) (o : Nat) (n : Nat) :
    (State.recallSource s f c o n).fw = s.fw := by
  unfold State.recallSource; (repeat' split) <;> simp [*]

@[simp] theorem State.startMessage_fw (s : State) (dest : Nat) (f : Nat) (q : Nat) (c : Cmd) :
    (State.startMessage s dest f q c).fw = s.fw := by
  simp [State.startMessage]

@[simp] theorem State.sendChunk_fw (s : State) (u : Unans) (o : Nat) (bs : Bytes) (poison : Bool) (last : Bool) :
    (State.sendChunk s u o bs poison last).fw = s.fw := by
  unfold State.sendChunk; simp only []; (repeat' split) <;> simp_all

@[simp] theorem State.mapMessage_fw (s : State) (n : Nat) (g : Engine → Engine) : (State.mapMessage s n g).fw = s.fw := by
  simp [State.mapMessage]

@[simp] theorem State.runMessage_fw (s : State) (n : Nat) : (State.runMessage s n).fw = s.fw := by
  unfold State.runMessage; simp only []; (repeat' split) <;> simp_all

@[simp] theorem State.noteFw_fw (s : State) (comp : Fin 4) (slot : Bool) (event : String) :
    (State.noteFw s comp slot event).fw = s.fw := by
  simp [State.noteFw]

@[simp] theorem State.enterRecovery_fw (s : State) (cause : Nat) : (State.enterRecovery s cause).fw = s.fw := by
  simp [State.enterRecovery]

@[simp] theorem State.loadCal_fw (s : State) : (State.loadCal s).fw = s.fw := by
  simp [State.loadCal, foldl_fw] <;> (intros; rw [foldl_fw]; intros; simp)

@[simp] theorem State.ledgerAfterAux_fw (s : State) : (State.ledgerAfterAux s).fw = s.fw := by
  simp [State.ledgerAfterAux]

@[simp] theorem State.checkRetention_fw (s : State) : (State.checkRetention s).fw = s.fw := by
  simp [State.checkRetention]

@[simp] theorem State.restartTime_fw (s : State) : (State.restartTime s).fw = s.fw := by
  simp [State.restartTime]

@[simp] theorem State.settleRetention_fw (s : State) : (State.settleRetention s).fw = s.fw := by
  simp [State.settleRetention]

@[simp] theorem State.bootTime_fw (s : State) : (State.bootTime s).fw = s.fw := by
  simp [State.bootTime]

@[simp] theorem State.announceReset_fw (s : State) (cold : Bool) (cause : String) (source : Nat) :
    (State.announceReset s cold cause source).fw = s.fw := by
  unfold State.announceReset; simp only []; (repeat' split) <;> simp_all

@[simp] theorem State.askBegin_fw (s : State) (f : Part) (w : U32) : (State.askBegin s f w).fw = s.fw := by
  simp [State.askBegin]

@[simp] theorem State.askRun_fw (s : State) (f : Part) (w : U32) : (State.askRun s f w).fw = s.fw := by
  simp [State.askRun]

@[simp] theorem State.askProgram_fw (s : State) (f : Part) (w : U32) : (State.askProgram s f w).fw = s.fw := by
  simp [State.askProgram]

@[simp] theorem State.fillWindow_fw (s : State) (f : Part) (off : Nat) (size : Nat) (v : U64) :
    (State.fillWindow s f off size v).fw = s.fw := by
  simp [State.fillWindow]

@[simp] theorem State.mapCores_fw (s : State) (g : Core → Core) : (State.mapCores s g).fw = s.fw := by
  simp [State.mapCores]

@[simp] theorem State.resetCasks_fw (s : State) (route : Nat) : (State.resetCasks s route).fw = s.fw := by
  simp [State.resetCasks]

@[simp] theorem State.freshVecs_fw (s : State) (c : Nat) : (State.freshVecs s c).fw = s.fw := by
  simp [State.freshVecs]

@[simp] theorem State.install_fw (s : State) (c : Nat) (t : Task) : (State.install s c t).fw = s.fw := by
  simp [State.install]

@[simp] theorem State.loadCode_fw (s : State) (c : Nat) (t : Task) (blob : Nat) : (State.loadCode s c t blob).fw = s.fw := by
  simp [State.loadCode]

@[simp] theorem State.nextTask_fw (s : State) (c : Nat) : (State.nextTask s c).fw = s.fw := by
  unfold State.nextTask; simp only []; (repeat' split) <;> simp_all

@[simp] theorem State.endTask_fw (s : State) (c : Nat) : (State.endTask s c).fw = s.fw := by
  unfold State.endTask; simp only []; (repeat' split) <;> simp_all

@[simp] theorem State.finish_fw (s : State) (c : Nat) (x : Core) : (State.finish s c x).fw = s.fw := by
  simp [State.finish]

@[simp] theorem State.takePreemption_fw (s : State) (c : Nat) : (State.takePreemption s c).fw = s.fw := by
  unfold State.takePreemption; simp only []; (repeat' split) <;> simp_all

@[simp] theorem State.settleWait_fw (s : State) (c : Nat) : (State.settleWait s c).fw = s.fw := by
  unfold State.settleWait; simp only []; (repeat' split) <;> simp_all

@[simp] theorem State.settleWaits_fw (s : State) : (State.settleWaits s).fw = s.fw := by
  simp [State.settleWaits, foldl_fw]

@[simp] theorem State.startTask_fw (s : State) (c : Nat) (t : Task) (blob : Nat) : (State.startTask s c t blob).fw = s.fw := by
  simp [State.startTask]

@[simp] theorem State.settleSwap_fw (s : State) (route : Nat) : (State.settleSwap s route).fw = s.fw := by
  simp [State.settleSwap]

@[simp] theorem State.endApply_fw (s : State) (slot : Nat) : (State.endApply s slot).fw = s.fw := by
  unfold State.endApply; simp only []; (repeat' split) <;> simp_all

@[simp] theorem State.releaseHeld_fw (s : State) (route : Nat) : (State.releaseHeld s route).fw = s.fw := by
  simp [State.releaseHeld]

@[simp] theorem State.gapTimer_fw (s : State) (r : Nat) (st : RouteSt) : (State.gapTimer s r st).fw = s.fw := by
  simp [State.gapTimer]

@[simp] theorem State.setRouteSt_fw (s : State) (r : Nat) (st : RouteSt) : (State.setRouteSt s r st).fw = s.fw := by
  simp [State.setRouteSt]

@[simp] theorem State.mapFrame_fw (s : State) (r : Nat) (id : Nat) (g : Frame → Frame) : (State.mapFrame s r id g).fw = s.fw := by
  simp [State.mapFrame]

@[simp] theorem State.noteStale_fw (s : State) (r : Nat) (cause : Nat) : (State.noteStale s r cause).fw = s.fw := by
  simp [State.noteStale]

@[simp] theorem State.published_fw (s : State) (t : Struct) (r : Nat) (typ : Nat) (addr : Nat) (len : Nat) (exposure : Nat) :
    (State.published s t r typ addr len exposure).fw = s.fw := by
  simp [State.published]

@[simp] theorem State.frameDone_fw (s : State) (r : Nat) (f : Frame) (status : Nat) (reason : Nat) :
    (State.frameDone s r f status reason).fw = s.fw := by
  simp [State.frameDone, foldl_fw]

@[simp] theorem State.checkDeadline_fw (s : State) (r : Nat) (f : Frame) : (State.checkDeadline s r f).fw = s.fw := by
  simp [State.checkDeadline]

@[simp] theorem State.epochCut_fw (s : State) (r : Nat) (f : Frame) (valid : Bool) : (State.epochCut s r f valid).fw = s.fw := by
  simp [State.epochCut]

@[simp] theorem State.retire_fw (s : State) (r : Nat) (id : Nat) : (State.retire s r id).fw = s.fw := by
  unfold State.retire; (repeat' split) <;> simp [*]

@[simp] theorem State.fixAll_fw (s : State) (l : List (Nat × Nat × Nat)) (status : Nat) (detail : Nat) (source : Nat) :
    (State.fixAll s l status detail source).fw = s.fw := by
  simp [State.fixAll, foldl_fw]

@[simp] theorem State.stopApply_fw (s : State) (r : Nat) (status : Nat) (detail : Nat) :
    (State.stopApply s r status detail).fw = s.fw := by
  simp [State.stopApply, foldl_fw]

@[simp] theorem State.finishStop_fw (s : State) (r : Nat) : (State.finishStop s r).fw = s.fw := by
  simp [State.finishStop]

@[simp] theorem State.retireAborted_fw (s : State) (r n : Nat) : (s.retireAborted r n).fw = s.fw := by
  induction n generalizing s with
  | zero => rfl
  | succ n ih => unfold State.retireAborted; (repeat' split) <;> simp [ih]

@[simp] theorem State.drainRoute_fw (s : State) (r : Nat) : (State.drainRoute s r).fw = s.fw := by
  simp [State.drainRoute, foldl_fw]

@[simp] theorem State.mapTasks_fw (s : State) (p : Task → Bool) (g : Task → Task) : (State.mapTasks s p g).fw = s.fw := by
  simp [State.mapTasks]

@[simp] theorem State.stopTasks_fw (s : State) (p : Task → Bool) : (State.stopTasks s p).fw = s.fw := by
  simp [State.stopTasks]

@[simp] theorem State.mapJobs_fw (s : State) (g : Nat → StageJob → StageJob) : (State.mapJobs s g).fw = s.fw := by
  simp [State.mapJobs]

@[simp] theorem State.abandon_fw (s : State) (r : Nat) (id : Nat) (reason : Nat) (missing : Nat) :
    (State.abandon s r id reason missing).fw = s.fw := by
  simp [State.abandon]

@[simp] theorem State.noteLevel_fw (s : State) (level : BitVec 3) : (State.noteLevel s level).fw = s.fw := by
  simp [State.noteLevel]

@[simp] theorem State.forceStop_fw (s : State) (r : Nat) : (State.forceStop s r).fw = s.fw := by
  simp [State.forceStop]

@[simp] theorem State.boundaryStop_fw (s : State) (r : Nat) : (State.boundaryStop s r).fw = s.fw := by
  simp [State.boundaryStop]

@[simp] theorem State.faultRoute_fw (s : State) (r : Nat) (code : Nat) : (State.faultRoute s r code).fw = s.fw := by
  simp [State.faultRoute]

@[simp] theorem State.refreshRoutes_fw (s : State) : (State.refreshRoutes s).fw = s.fw := by
  simp [State.refreshRoutes, foldl_fw]

@[simp] theorem State.epochAbandon_fw (s : State) (r : Nat) (id : Nat) : (State.epochAbandon s r id).fw = s.fw := by
  unfold State.epochAbandon; (repeat' split) <;> simp [*]

@[simp] theorem State.openWindow_fw (s : State) (r : Nat) : (State.openWindow s r).fw = s.fw := by
  simp [State.openWindow, foldl_fw]

@[simp] theorem State.boundary_fw (s : State) (r : Nat) (id : Nat) (start : Nat) (exposure : Nat) :
    (State.boundary s r id start exposure).fw = s.fw := by
  unfold State.boundary; simp only []; (repeat' split) <;> simp_all

@[simp] theorem State.associate_fw (s : State) (c : Nat) (id : Nat) (start : Nat) (exposure : Nat) :
    (State.associate s c id start exposure).fw = s.fw := by
  simp [State.associate, foldl_fw] <;> (intros; rw [foldl_fw]; intros; simp)

@[simp] theorem State.slotCycle_fw (s : State) (c : Nat) : (State.slotCycle s c).fw = s.fw := by
  unfold State.slotCycle; (repeat' split) <;> simp [*]

@[simp] theorem State.frameStartEvent_fw (s : State) (c : Nat) (id : Nat) (start : Nat) (exposure : Nat) :
    (State.frameStartEvent s c id start exposure).fw = s.fw := by
  simp [State.frameStartEvent, foldl_fw]

@[simp] theorem State.chargeEngine_fw (s : State) (r : Nat) (m : NodeRun) : (State.chargeEngine s r m).fw = s.fw := by
  simp [State.chargeEngine]

@[simp] theorem State.startNode_fw (s : State) (r : Nat) (f : Frame) (c : Bytes) : (State.startNode s r f c).fw = s.fw := by
  simp [State.startNode]

@[simp] theorem State.dispatch_fw (s : State) (r : Nat) (id : Nat) (n : Nat) (trig : Nat) :
    (State.dispatch s r id n trig).fw = s.fw := by
  unfold State.dispatch; (repeat' split) <;> simp [*]

@[simp] theorem State.undefineCmd_fw (s : State) (f : Nat) (q : Nat) (c : Cmd) : (State.undefineCmd s f q c).fw = s.fw := by
  simp [State.undefineCmd]

@[simp] theorem State.undefineCmds_fw (s : State) (f : Nat) : (State.undefineCmds s f).fw = s.fw := by
  simp [State.undefineCmds, foldl_fw]

@[simp] theorem State.dropWork_fw (s : State) (f : Nat) : (State.dropWork s f).fw = s.fw := by
  simp [State.dropWork]

@[simp] theorem State.dropApplies_fw (s : State) (p : Nat → Bool) : (State.dropApplies s p).fw = s.fw := by
  unfold State.dropApplies
  refine foldl_fw _ (fun s x => ?_) _ _
  split
  · split <;> simp
  · rfl

@[simp] theorem State.partitionReset_fw (s : State) (f : Nat) (tdi : Tdi) (cause : String) :
    (State.partitionReset s f tdi cause).fw = s.fw := by
  unfold State.partitionReset; (repeat' split) <;> simp [*, foldl_fw]

@[simp] theorem State.drainDst_fw (s : State) (d : Nat) : (State.drainDst s d).fw = s.fw := by
  simp [State.drainDst]

@[simp] theorem State.noteIrregular_fw (s : State) (c : Nat) (id : Nat) (long : Bool) (extra : Bool) :
    (State.noteIrregular s c id long extra).fw = s.fw := by
  simp [State.noteIrregular]

@[simp] theorem State.queueBeats_fw (s : State) (d : Nat) (l : List Beat) : (State.queueBeats s d l).fw = s.fw := by
  simp [State.queueBeats]

@[simp] theorem State.pipeLine_fw (s : State) (src : Nat) (ctx : Nat) (frame : Nat) (line : Nat) (plane : Nat) (b : Bytes) (poison : Bool) :
    (State.pipeLine s src ctx frame line plane b poison).fw = s.fw := by
  simp [State.pipeLine, foldl_fw]

@[simp] theorem State.closeBeat_fw (s : State) (src : Nat) (ctx : Nat) (frame : Nat) (pick : Nat → Bool) (data : Bytes) (poison : Bool) :
    (State.closeBeat s src ctx frame pick data poison).fw = s.fw := by
  simp [State.closeBeat, foldl_fw]

@[simp] theorem State.stageLine_fw (s : State) (src : Nat) (frameId : Nat) (ctx : Nat) (frame : Nat) (line : Nat) (plane : Nat) (b : Bytes) (poison : Bool) :
    (State.stageLine s src frameId ctx frame line plane b poison).fw = s.fw := by
  simp [State.stageLine, foldl_fw]

@[simp] theorem State.deliverBeat_fw (s : State) (d : Nat) : (State.deliverBeat s d).fw = s.fw := by
  unfold State.deliverBeat; simp only []; (repeat' split) <;> simp_all

@[simp] theorem State.mapJob_fw (s : State) (i : Nat) (g : StageJob → StageJob) : (State.mapJob s i g).fw = s.fw := by
  simp [State.mapJob]

@[simp] theorem State.layRecord_fw (s : State) (i : Nat) (j : StageJob) (a : Nat) (r : RecInfo) (desc : Bytes) (body : Payload) :
    (State.layRecord s i j a r desc body).fw = s.fw := by
  simp [State.layRecord]

@[simp] theorem State.notePoisoned_fw (s : State) (i : Nat) (poison : Bool) (discard : Bool) :
    (State.notePoisoned s i poison discard).fw = s.fw := by
  simp [State.notePoisoned]

@[simp] theorem State.putRecord_fw (s : State) (i : Nat) (j : StageJob) (o : Nat) (src : Nat) (off : Nat) (r : RecInfo) (desc : Bytes) (body : Payload) :
    (State.putRecord s i j o src off r desc body).fw = s.fw := by
  simp [State.putRecord]

@[simp] theorem State.jobDone_fw (s : State) (i : Nat) : (State.jobDone s i).fw = s.fw := by
  simp [State.jobDone]

@[simp] theorem State.sendLines_fw (s : State) (i : Nat) (src : Nat) (ctx : Nat) (key : Nat) (plane : Nat) (lines : List (Bytes × Bool)) :
    (State.sendLines s i src ctx key plane lines).fw = s.fw := by
  unfold State.sendLines; (repeat' split) <;> simp [*, foldl_fw]

@[simp] theorem State.advancePyr_fw (s : State) (c : Nat) : (State.advancePyr s c).fw = s.fw := by
  unfold State.advancePyr; (repeat' split) <;> simp [*, foldl_fw]

@[simp] theorem State.advanceWrp_fw (s : State) (i : Nat) (c : Nat) : (State.advanceWrp s i c).fw = s.fw := by
  unfold State.advanceWrp; (repeat' split) <;> simp [*]

@[simp] theorem State.storeLine_fw (s : State) (part : Nat) (a : Nat) (w : Nat) (y : Nat) (l : List Int) :
    (State.storeLine s part a w y l).fw = s.fw := by
  simp [State.storeLine]

@[simp] theorem State.offerTiles_fw (s : State) (i : Nat) (j : StageJob) (l : List (Nat × (Nat × Nat) × Bool)) :
    (State.offerTiles s i j l).fw = s.fw := by
  simp [State.offerTiles]

@[simp] theorem State.offerRows_fw (s : State) (i : Nat) (rows : List (List Px)) : (State.offerRows s i rows).fw = s.fw := by
  unfold State.offerRows; (repeat' split) <;> simp [*]

@[simp] theorem State.sendDense_fw (s : State) (i : Nat) (c : Nat) (rows : List (List Px)) (h : Nat) :
    (State.sendDense s i c rows h).fw = s.fw := by
  simp [State.sendDense]

@[simp] theorem State.floStore__fw (s : State) (i : Nat) (j : StageJob) : (State.floStore_ s i j).fw = s.fw := by
  simp [State.floStore_, foldl_fw]

@[simp] theorem State.advanceDense_fw (s : State) (i : Nat) : (State.advanceDense s i).fw = s.fw := by
  unfold State.advanceDense; (repeat' split) <;> simp [*]

@[simp] theorem State.advanceTrk_fw (s : State) : (State.advanceTrk s).fw = s.fw := by
  unfold State.advanceTrk; (repeat' split) <;> simp [*, foldl_fw, foldlPair_fw]

@[simp] theorem State.advance_fw (s : State) (i : Nat) (c : Nat) : (State.advance s i c).fw = s.fw := by
  simp [State.advance]

@[simp] theorem State.putLine_fw (s : State) (i : Nat) (port : Nat) (j : StageJob) (c : Nat) (id : Nat) (level : Nat) (data : Bytes) (poison : Bool) :
    (State.putLine s i port j c id level data poison).fw = s.fw := by
  simp [State.putLine]

@[simp] theorem State.closeInput_fw (s : State) (i : Nat) (port : Nat) (j : StageJob) (c : Nat) :
    (State.closeInput s i port j c).fw = s.fw := by
  simp [State.closeInput]

@[simp] theorem State.putDense_fw (s : State) (i : Nat) (j : StageJob) : (State.putDense s i j).fw = s.fw := by
  simp [State.putDense]

@[simp] theorem State.offerCells_fw (s : State) (j : StageJob) (m : Nat) : (State.offerCells s j m).fw = s.fw := by
  simp [State.offerCells]

@[simp] theorem State.offerMatches_fw (s : State) : (State.offerMatches s).fw = s.fw := by
  unfold State.offerMatches; (repeat' split) <;> simp [*]

@[simp] theorem State.putMatches_fw (s : State) (j : StageJob) : (State.putMatches s j).fw = s.fw := by
  simp [State.putMatches]

@[simp] theorem State.endDense_fw (s : State) (i : Nat) (j : StageJob) : (State.endDense s i j).fw = s.fw := by
  simp [State.endDense]

@[simp] theorem State.refit_fw (s : State) : (State.refit s).fw = s.fw := by
  simp [State.refit, foldl_fw]

@[simp] theorem State.setLoop_fw (s : State) (l : LoopSt) : (State.setLoop s l).fw = s.fw := by
  simp [State.setLoop]

@[simp] theorem State.enterHold_fw (s : State) : (State.enterHold s).fw = s.fw := by
  simp [State.enterHold]

@[simp] theorem State.stepGtc_fw (s : State) (d : Int) : (State.stepGtc s d).fw = s.fw := by
  simp [State.stepGtc]

@[simp] theorem State.stepToInput_fw (s : State) (i : Nat) (e : Int) : (State.stepToInput s i e).fw = s.fw := by
  simp [State.stepToInput]

@[simp] theorem State.reselect_fw (s : State) : (State.reselect s).fw = s.fw := by
  unfold State.reselect; simp only []; (repeat' split) <;> simp_all

@[simp] theorem State.failInput_fw (s : State) (i : Nat) (code : Nat) : (State.failInput s i code).fw = s.fw := by
  simp [State.failInput]

@[simp] theorem State.makeAvailable_fw (s : State) (i : Nat) : (State.makeAvailable s i).fw = s.fw := by
  simp [State.makeAvailable]

@[simp] theorem State.judgeLock_fw (s : State) (e : Int) : (State.judgeLock s e).fw = s.fw := by
  simp [State.judgeLock]

@[simp] theorem State.stepOnMeasure_fw (s : State) (i : Nat) (e : Int) : (s.stepOnMeasure i e).1.fw = s.fw := by
  unfold State.stepOnMeasure; simp only []; (repeat' split) <;> simp

@[simp] theorem State.loopMeasure_fw (s : State) (i : Nat) (e : Int) : (State.loopMeasure s i e).fw = s.fw := by
  simp [State.loopMeasure]

@[simp] theorem State.measure_fw (s : State) (i : Nat) (e : Int) (freq : Int) (jump : Bool) (domainOk : Bool) :
    (State.measure s i e freq jump domainOk).fw = s.fw := by
  simp [State.measure]

@[simp] theorem State.failLanicy_fw (s : State) : (State.failLanicy s).fw = s.fw := by
  simp [State.failLanicy, foldl_fw]

@[simp] theorem State.setBackupActs_fw (s : State) (v : Bool) : (State.setBackupActs s v).fw = s.fw := by
  simp [State.setBackupActs]

@[simp] theorem State.hearTime_fw (s : State) (port : Nat) (m : TimeMsg) : (State.hearTime s port m).fw = s.fw := by
  simp [State.hearTime]

@[simp] theorem State.endFreqPulse_fw (s : State) : (State.endFreqPulse s).fw = s.fw := by
  simp [State.endFreqPulse]

@[simp] theorem State.tmgCycle_fw (s : State) : (State.tmgCycle s).fw = s.fw := by
  simp [State.tmgCycle]

@[simp] theorem State.measureVin_fw (s : State) : (State.measureVin s).fw = s.fw := by
  simp [State.measureVin]

@[simp] theorem State.endVerify_fw (s : State) : (State.endVerify s).fw = s.fw := by
  unfold State.endVerify; (repeat' split) <;> simp [*]

@[simp] theorem State.runMessages_fw (s : State) : (State.runMessages s).fw = s.fw := by
  simp [State.runMessages, foldl_fw]

@[simp] theorem State.resumeTasks_fw (s : State) : (State.resumeTasks s).fw = s.fw := by
  simp [State.resumeTasks, foldl_fw]

@[simp] theorem State.badHeader_fw (s : State) (port : Nat) : (State.badHeader s port).fw = s.fw := by
  simp [State.badHeader]

@[simp] theorem State.active_fw (s : State) (port : Nat) : (State.active s port).fw = s.fw := by
  simp [State.active]

@[simp] theorem State.emitLine_fw (s : State) (c pipe : Nat) (g : CtxFrame) (y : Nat) : (s.emitLine c pipe g y).1.fw = s.fw := by
  unfold State.emitLine
  refine foldlPair_fw _ (fun a x => ?_) _ _
  dsimp only
  split <;> simp

@[simp] theorem State.emitChroma_fw (s : State) (c : Nat) (pipe : Nat) (f : CtxFrame) :
    (State.emitChroma s c pipe f).fw = s.fw := by
  simp [State.emitChroma, foldl_fw]

@[simp] theorem State.emitFrame_fw (s : State) (c : Nat) (id : Nat) : (State.emitFrame s c id).fw = s.fw := by
  unfold State.emitFrame; (repeat' split) <;> simp [*, foldl_fw, foldlPair_fw]

@[simp] theorem State.closeFrame_fw (s : State) (c : Nat) (short : Bool) : (State.closeFrame s c short).fw = s.fw := by
  unfold State.closeFrame; (repeat' split) <;> simp [*]

@[simp] theorem State.startCtx_fw (s : State) (c : Nat) : (State.startCtx s c).fw = s.fw := by
  simp [State.startCtx]

@[simp] theorem State.noteBacklog_fw (s : State) (pipe : Nat) : (State.noteBacklog s pipe).fw = s.fw := by
  simp [State.noteBacklog]

@[simp] theorem State.takeLinePacket_fw (s : State) (port : Nat) (c : Nat) (dt : Nat) (pixels : List Nat) (bad : Bool) :
    (State.takeLinePacket s port c dt pixels bad).fw = s.fw := by
  unfold State.takeLinePacket; (repeat' split) <;> simp [*]

@[simp] theorem State.scbCtl_fw (s : State) (f : Part) (k : Nat) (w : U32) : (State.scbCtl s f k w).fw = s.fw := by
  simp [State.scbCtl]

@[simp] theorem State.scbPush_fw (s : State) (f : Part) (k : Nat) (v : Byte) : (State.scbPush s f k v).fw = s.fw := by
  simp [State.scbPush]

@[simp] theorem State.scbPop_fw (s : State) (b : Nat) : (s.scbPop b).1.fw = s.fw := by
  unfold State.scbPop; split <;> simp

@[simp] theorem State.enforcePins_fw (s : State) (old : Struct) : (State.enforcePins s old).fw = s.fw := by
  simp [State.enforcePins]

@[simp] theorem State.enforceBoard_fw (s : State) : (State.enforceBoard s).fw = s.fw := by
  simp [State.enforceBoard]

@[simp] theorem State.enforceInputs_fw (s : State) : (State.enforceInputs s).fw = s.fw := by
  simp [State.enforceInputs]

@[simp] theorem State.enforceRoles_fw (s : State) (old : Struct) : (State.enforceRoles s old).fw = s.fw := by
  simp [State.enforceRoles]

@[simp] theorem State.enforceOutputs_fw (s : State) (old : Struct) : (State.enforceOutputs s old).fw = s.fw := by
  simp [State.enforceOutputs]

@[simp] theorem State.refreshVfs_fw (s : State) : (State.refreshVfs s).fw = s.fw := by
  simp [State.refreshVfs]

@[simp] theorem State.enforceParts_fw (s : State) (old : Struct) : (State.enforceParts s old).fw = s.fw := by
  simp [State.enforceParts, foldl_fw]

@[simp] theorem State.enforceRegions_fw (s : State) (old : Struct) : (State.enforceRegions s old).fw = s.fw := by
  unfold State.enforceRegions
  refine (foldl_fw _ (fun s r => ?_) _ _).trans (foldl_fw _ (fun s r => ?_) _ _)
  · refine (foldl_fw _ (fun s l => ?_) _ _).trans rfl
    split
    · split <;> simp
    · rfl
  · rfl

@[simp] theorem State.enforceExports_fw (s : State) (old : Struct) : (State.enforceExports s old).fw = s.fw := by
  simp [State.enforceExports, foldl_fw]

@[simp] theorem State.enforceLinks_fw (s : State) (old : Struct) : (State.enforceLinks s old).fw = s.fw := by
  simp [State.enforceLinks, foldl_fw]

@[simp] theorem State.enforceCamera_fw (s : State) (old : Struct) : (State.enforceCamera s old).fw = s.fw := by
  simp [State.enforceCamera]

@[simp] theorem State.enforceStreams_fw (s : State) (old : Struct) : (State.enforceStreams s old).fw = s.fw := by
  simp [State.enforceStreams]

@[simp] theorem State.enforceStages_fw (s : State) : (State.enforceStages s).fw = s.fw := by
  simp [State.enforceStages]

@[simp] theorem State.enforceSafety_fw (s : State) (core : Option Bytes) : (State.enforceSafety s core).fw = s.fw := by
  unfold State.enforceSafety; (repeat' split) <;> simp [*]

@[simp] theorem State.enforce_fw (s : State) (old : Struct) (core : Option Bytes) : (State.enforce s old core).fw = s.fw := by
  simp [State.enforce]

@[simp] theorem State.applySlot_fw (s : State) (n : Nat) : (State.applySlot s n).fw = s.fw := by
  unfold State.applySlot; (repeat' split) <;> simp [*]

@[simp] theorem State.rejectApply_fw (s : State) (n : Nat) (a : Apply) (status : Nat) (detail : Nat) :
    (State.rejectApply s n a status detail).fw = s.fw := by
  simp [State.rejectApply]

@[simp] theorem State.swapFrame_fw (s : State) (r : Nat) (n : Nat) (a : Apply) : (State.swapFrame s r n a).fw = s.fw := by
  simp [State.swapFrame]

@[simp] theorem State.missFrame_fw (s : State) (r : Nat) (n : Nat) (a : Apply) : (State.missFrame s r n a).fw = s.fw := by
  simp [State.missFrame]

@[simp] theorem State.dropMain_fw (s : State) (vin : Bool) : (State.dropMain s vin).fw = s.fw := by
  simp [State.dropMain]

@[simp] theorem State.checkerFails_fw (s : State) (c : Nat × Nat) (g : Nat) : (State.checkerFails s c g).fw = s.fw := by
  unfold State.checkerFails; simp only []; (repeat' split) <;> simp_all

@[simp] theorem State.pairWrite_fw (s : State) (f : Part) (w : U32) : (State.pairWrite s f w).fw = s.fw := by
  simp [State.pairWrite]

@[simp] theorem State.draw_fw (s : State) (n : Nat) : (s.draw n).2.fw = s.fw := by simp [State.draw]

@[simp] theorem State.dropBlobs_fw (s : State) (a : Nat) (n : Nat) : (State.dropBlobs s a n).fw = s.fw := by
  simp [State.dropBlobs]

@[simp] theorem State.failLoad_fw (s : State) (f : Nat) (q : Nat) (pos : Nat) (status : Nat) (detail : Nat) (c : Cmd) (payload : Nat) :
    (State.failLoad s f q pos status detail c payload).fw = s.fw := by
  simp [State.failLoad]

@[simp] theorem State.openPackage_fw (s : State) (f : Nat) (q : Nat) (c : Cmd) (b : Bytes) (key : Bytes) (ep : Bool) :
    (State.openPackage s f q c b key ep).fw = s.fw := by
  unfold State.openPackage; simp only []; split
  · simp
  · split
    · simp
    · split <;> simp

@[simp] theorem State.newMemoryKey_fw (s : State) : (State.newMemoryKey s).fw = s.fw := by
  simp [State.newMemoryKey]

@[simp] theorem State.tagChanged_fw (s : State) : (State.tagChanged s).fw = s.fw := by
  simp [State.tagChanged]

@[simp] theorem State.setSpdm_fw (s : State) (p : SpdmPort) (x : Spdm) : (State.setSpdm s p x).fw = s.fw := by
  unfold State.setSpdm; (repeat' split) <;> simp [*]

@[simp] theorem State.endConsent_fw (s : State) : (State.endConsent s).fw = s.fw := by
  unfold State.endConsent; (repeat' split) <;> simp [*]

@[simp] theorem State.clearRsq_fw (s : State) (off : Nat) : (State.clearRsq s off).fw = s.fw := by
  simp [State.clearRsq]

@[simp] theorem State.clearCin_fw (s : State) (off : Nat) : (State.clearCin s off).fw = s.fw := by
  simp [State.clearCin]

@[simp] theorem State.clearIsp_fw (s : State) (off : Nat) : (State.clearIsp s off).fw = s.fw := by
  simp [State.clearIsp]

@[simp] theorem State.clearStage_fw (s : State) (i : Nat) (r : Nat) : (State.clearStage s i r).fw = s.fw := by
  simp [State.clearStage]

@[simp] theorem State.clearMash_fw (s : State) (off : Nat) : (State.clearMash s off).fw = s.fw := by
  simp [State.clearMash]

@[simp] theorem State.clearNec_fw (s : State) (off : Nat) : (State.clearNec s off).fw = s.fw := by
  simp [State.clearNec]

@[simp] theorem State.clearMem_fw (s : State) (off : Nat) : (State.clearMem s off).fw = s.fw := by
  simp [State.clearMem]

@[simp] theorem State.clearLnk_fw (s : State) (off : Nat) : (State.clearLnk s off).fw = s.fw := by
  simp [State.clearLnk]

@[simp] theorem State.clearTmg_fw (s : State) (off : Nat) : (State.clearTmg s off).fw = s.fw := by
  simp [State.clearTmg]

@[simp] theorem State.clearSaf_fw (s : State) (off : Nat) : (State.clearSaf s off).fw = s.fw := by
  simp [State.clearSaf]

@[simp] theorem State.clearMgt_fw (s : State) (off : Nat) : (State.clearMgt s off).fw = s.fw := by
  simp [State.clearMgt]

@[simp] theorem State.clearLog_fw (s : State) (off : Nat) : (State.clearLog s off).fw = s.fw := by
  simp [State.clearLog]

@[simp] theorem State.clearBlocks_fw (s : State) (off : Nat) : (State.clearBlocks s off).fw = s.fw := by
  unfold State.clearBlocks; simp only []; split
  any_goals simp
  split
  · exact State.clearStage_fw ..
  · split
    · exact State.clearMash_fw ..
    · split
      · exact State.clearNec_fw ..
      · rfl

@[simp] theorem State.readEffect_fw (s : State) (f : Part) (bar : Bar) (off : Nat) :
    (State.readEffect s f bar off).fw = s.fw := by
  unfold State.readEffect; (repeat' split) <;> simp [*]

@[simp] theorem State.readBar_fw (s : State) (f : Part) (bar : Bar) (off : Nat) (size : Nat) :
    (State.readBar s f bar off size).fw = s.fw := by
  simp [State.readBar]

@[simp] theorem State.debugServe_fw (s : State) (op : DebugOp) : (State.debugServe s op).fw = s.fw := by
  unfold State.debugServe; (repeat' split) <;> simp [*]

@[simp] theorem State.memCorrected_fw (s : State) (a : Nat) : (State.memCorrected s a).fw = s.fw := by
  simp [State.memCorrected]

@[simp] theorem State.memUncorrectable_fw (s : State) (a : Nat) : (State.memUncorrectable s a).fw = s.fw := by
  simp [State.memUncorrectable]

@[simp] theorem State.countFind_fw (s : State) (a : Nat) (e : EccFind) : (s.countFind a e).fw = s.fw := by
  cases e <;> simp [State.countFind]

@[simp] theorem State.pairFill_fw (s : State) (a : Nat) : (State.pairFill s a).fw = s.fw := by
  simp [State.pairFill]

@[simp] theorem State.keepSeq_fw (s : State) (l : Log) : (State.keepSeq s l).fw = s.fw := by
  simp [State.keepSeq]

@[simp] theorem State.appendNext_fw (s : State) : (State.appendNext s).fw = s.fw := by
  unfold State.appendNext; (repeat' split) <;> simp [*]

@[simp] theorem State.norCopy_fw (s : State) (ok : Bool) : (State.norCopy s ok).fw = s.fw := by
  unfold State.norCopy; (repeat' split) <;> simp [*]

@[simp] theorem State.appendMany_fw (s : State) (n : Nat) : (State.appendMany s n).fw = s.fw := by
  induction n generalizing s with
  | zero => rfl
  | succ n ih => unfold State.appendMany; simp [ih]

@[simp] theorem State.copyMany_fw (s : State) (n : Nat) : (State.copyMany s n).fw = s.fw := by
  induction n generalizing s with
  | zero => rfl
  | succ n ih => unfold State.copyMany; simp [ih]

@[simp] theorem State.endInterval_fw (s : State) : (State.endInterval s).fw = s.fw := by
  simp [State.endInterval]

@[simp] theorem State.patrolUe_fw (s : State) (block : Nat) (a : Nat) (intervened : Bool) :
    (State.patrolUe s block a intervened).fw = s.fw := by
  simp [State.patrolUe]

@[simp] theorem State.patrolBlock_fw (s : State) (block : Nat) (errs : List Bytes) (intervened : Bool) :
    (State.patrolBlock s block errs intervened).fw = s.fw := by
  refine foldl_fw _ (fun s x => ?_) _ _
  dsimp only
  split
  · rfl
  · split <;> simp

@[simp] theorem State.defer_fw (s : State) (activity : Nat) : (State.defer s activity).fw = s.fw := by
  simp [State.defer]

@[simp] theorem State.setBg_fw (s : State) (f : Part) (w : U32) : (State.setBg s f w).fw = s.fw := by
  simp [State.setBg]

@[simp] theorem State.askSource_fw (s : State) (part : Nat) (board : Nat) (a : Nat) (n : Nat) (cmd : Option (Nat × Nat × Nat)) :
    (State.askSource s part board a n cmd).fw = s.fw := by
  simp [State.askSource, foldl_fw]

@[simp] theorem State.sendOwn_fw (s : State) (f : Nat) (q : Nat) (c : Cmd) : (State.sendOwn s f q c).fw = s.fw := by
  unfold State.sendOwn; simp only []; (repeat' split) <;> simp_all

@[simp] theorem State.startApply_fw (s : State) (f : Nat) (q : Nat) (c : Cmd) (point : ApplyPoint) :
    (State.startApply s f q c point).fw = s.fw := by
  unfold State.startApply; simp only []; (repeat' split) <;> simp_all

@[simp] theorem State.settleWindows_fw (s : State) (route : Nat) : (State.settleWindows s route).fw = s.fw := by
  simp [State.settleWindows, foldl_fw]

@[simp] theorem State.readmit_fw (s : State) (b : Nat) : (State.readmit s b).fw = s.fw := by
  simp [State.readmit]

@[simp] theorem State.returned_fw (s : State) (b : Nat) (tag : Bytes) : (State.returned s b tag).fw = s.fw := by
  simp [State.returned]

@[simp] theorem State.dropHomed_fw (s : State) (b : Nat) : (State.dropHomed s b).fw = s.fw := by
  simp [State.dropHomed, foldl_fw]

@[simp] theorem State.dropHolder_fw (s : State) (b : Nat) : (State.dropHolder s b).fw = s.fw := by
  simp [State.dropHolder, foldl_fw]

@[simp] theorem State.oweCredits_fw (s : State) (p : Nat) (m : Msg) (len : Nat) : (State.oweCredits s p m len).fw = s.fw := by
  simp [State.oweCredits]

@[simp] theorem State.relay_fw (s : State) (p n : Nat) (b : Bytes) : (State.relay p n s b).1.fw = s.fw := by
  induction n generalizing s b with
  | zero => rfl
  | succ n ih => unfold State.relay; simp only []; (repeat' split) <;> simp [ih]

@[simp] theorem State.replay_fw (s : State) (p : Nat) : (State.replay s p).fw = s.fw := by
  simp [State.replay]

@[simp] theorem State.restartMessage_fw (s : State) (dest : Nat) (f : Nat) (q : Nat) (c : Cmd) :
    (State.restartMessage s dest f q c).fw = s.fw := by
  simp [State.restartMessage]

@[simp] theorem State.taskFault_fw (s : State) (c : Nat) (cause : Nat) (ea : Option Nat) :
    (State.taskFault s c cause ea).fw = s.fw := by
  unfold State.taskFault; simp only []; (repeat' split) <;> simp_all

@[simp] theorem State.issue_fw (s : State) (c : Nat) (op : Nat) (w : U64) (fields : Nat) (act : Core → Task → State) (h_act : ∀ x0 x1, (act x0 x1).fw = s.fw) :
    (State.issue s c op w fields act).fw = s.fw := by
  unfold State.issue; simp only []; (repeat' split) <;> simp_all

@[simp] theorem State.markFrame_fw (s : State) (own : Nat × Nat × Nat) (poisoned : Bool) (lost : Bool) :
    (State.markFrame s own poisoned lost).fw = s.fw := by
  simp [State.markFrame]

@[simp] theorem State.markOwner_fw (s : State) (c : Nat) (own : Nat × Nat × Nat) (b : Bool) :
    (State.markOwner s c own b).fw = s.fw := by
  simp [State.markOwner]

@[simp] theorem State.askPiece_fw (s : State) (c : Nat) (x : Xfer) (a n : Nat) : (s.askPiece c x a n).1.fw = s.fw := by
  unfold State.askPiece; simp only []; split <;> simp [foldl_fw]

@[simp] theorem State.pieceRead_fw (s : State) (c : Nat) (x : Xfer) (host : Bool) (a : Nat) (n : Nat) (bad : List Nat) :
    (State.pieceRead s c x host a n bad).fw = s.fw := by
  simp [State.pieceRead, foldl_fw]

@[simp] theorem State.storePiece_fw (s : State) (part : Nat) (host : Bool) (a : Nat) (bs : Bytes) (bad : List Nat) (cmd : Option (Nat × Nat × Nat)) :
    (State.storePiece s part host a bs bad cmd).fw = s.fw := by
  simp [State.storePiece, foldl_fw]

@[simp] theorem State.moveRows_fw (s : State) (c : Nat) (h : HostRead) (a n : Nat) (x : Xfer) : (State.moveRows s c h a n x).1.fw = s.fw := by
  induction n generalizing s x with
  | zero => rfl
  | succ n ih => unfold State.moveRows; simp only []; (repeat' split) <;> simp [ih]

@[simp] theorem State.moveCask_fw (s : State) (c : Nat) (h : HostRead) (a n : Nat) (x : Xfer) : (State.moveCask s c h a n x).1.fw = s.fw := by
  induction n generalizing s x with
  | zero => rfl
  | succ n ih => unfold State.moveCask; simp only []; (repeat' split) <;> simp [ih]

@[simp] theorem State.moveXfer_fw (s : State) (c : Nat) (h : HostRead) (n : Nat) (x : Xfer) : (s.moveXfer c h n x).1.fw = s.fw := by
  unfold State.moveXfer; split <;> simp

@[simp] theorem State.publishTask_fw (s : State) (c : Nat) (t : Task) (desc : Bytes) :
    (State.publishTask s c t desc).fw = s.fw := by
  unfold State.publishTask; (repeat' split) <;> simp [*]

@[simp] theorem State.releaseStall_fw (s : State) (c : Nat) : (State.releaseStall s c).fw = s.fw := by
  unfold State.releaseStall; simp only []; (repeat' split) <;> simp_all

@[simp] theorem State.caskOp_fw (s : State) (c : Nat) (w : U64) (ok : CaskCfg → Bool) (act : CaskCfg → State) (h_act : ∀ x0, (act x0).fw = s.fw) :
    (State.caskOp s c w ok act).fw = s.fw := by
  unfold State.caskOp; (repeat' split) <;> simp [*]

@[simp] theorem State.endCwait_fw (s : State) (c : Nat) (p : Bool) : (State.endCwait s c p).fw = s.fw := by
  simp [State.endCwait]

@[simp] theorem State.doCrd_fw (s : State) (c : Nat) (v : Nat) (idx : Nat) (off : Nat) (k : CaskCfg) :
    (State.doCrd s c v idx off k).fw = s.fw := by
  simp [State.doCrd]

@[simp] theorem State.doCpush_fw (s : State) (c : Nat) (v : Nat) (idx : Nat) (k : CaskCfg) :
    (State.doCpush s c v idx k).fw = s.fw := by
  simp [State.doCpush]

@[simp] theorem State.startDma_fw (s : State) (c : Nat) (w : U64) (into : Bool) (x : Core) (t : Task) :
    (State.startDma s c w into x t).fw = s.fw := by
  unfold State.startDma; simp only []; (repeat' split) <;> simp_all

@[simp] theorem State.issuePlain_fw (s : State) (c : Nat) (act : Core → Task → State) (h_act : ∀ x0 x1, (act x0 x1).fw = s.fw) :
    (State.issuePlain s c act).fw = s.fw := by
  unfold State.issuePlain; simp only []; (repeat' split) <;> simp_all

@[simp] theorem State.halt_fw (s : State) (f : Nat) (q : Nat) (error : Nat) : (State.halt s f q error).fw = s.fw := by
  simp [State.halt]

@[simp] theorem State.raise_fw (s : State) (f : Nat) (q : Nat) : (State.raise s f q).fw = s.fw := by
  simp [State.raise]

@[simp] theorem State.postEntry_fw (s : State) (f : Nat) (q : Nat) (seq : Nat) (status : Nat) (detail : Nat) (source : Nat) :
    (State.postEntry s f q seq status detail source).fw = s.fw := by
  simp [State.postEntry]

@[simp] theorem State.settle_fw (s : State) (f : Nat) (q : Nat) : (State.settle s f q).fw = s.fw := by
  simp [State.settle]

@[simp] theorem State.postAborted_fw (s : State) (f : Nat) (q : Nat) (status : Nat) (a : Aborted) :
    (State.postAborted s f q status a).fw = s.fw := by
  simp [State.postAborted]

@[simp] theorem State.postAborts_fw (s : State) (f q n : Nat) : (State.postAborts s f q n).fw = s.fw := by
  induction n generalizing s with
  | zero => rfl
  | succ n ih => unfold State.postAborts; simp only []; (repeat' split) <;> simp [ih]

@[simp] theorem State.ringTail_fw (s : State) (f : Part) (q : Fin 64) (idx : BitVec 16) :
    (State.ringTail s f q idx).fw = s.fw := by
  simp [State.ringTail]

@[simp] theorem State.ringHead_fw (s : State) (f : Part) (q : Fin 64) (idx : BitVec 16) :
    (State.ringHead s f q idx).fw = s.fw := by
  simp [State.ringHead]

@[simp] theorem State.takeDescriptor_fw (s : State) (f : Nat) (q : Nat) (d : Bytes) :
    (State.takeDescriptor s f q d).fw = s.fw := by
  unfold State.takeDescriptor; simp only []; (repeat' split) <;> simp_all

@[simp] theorem State.settleLoad_fw (s : State) (f : Nat) (q : Nat) (pos : Nat) (ok : Bool) :
    (State.settleLoad s f q pos ok).fw = s.fw := by
  simp [State.settleLoad]

@[simp] theorem State.turnOn_fw (s : State) (f : Part) (q : Fin 64) (w : U32) : (State.turnOn s f q w).fw = s.fw := by
  simp [State.turnOn]

@[simp] theorem State.turnOff_fw (s : State) (f : Part) (q : Fin 64) (w : U32) : (State.turnOff s f q w).fw = s.fw := by
  simp [State.turnOff]

@[simp] theorem State.setMode_fw (s : State) (m : Nat) : (State.setMode s m).fw = s.fw := by
  simp [State.setMode]

@[simp] theorem State.closeLoop_fw (s : State) : (State.closeLoop s).fw = s.fw := by
  simp [State.closeLoop]

@[simp] theorem State.askClosed_fw (s : State) (f : Part) (w : U32) : (State.askClosed s f w).fw = s.fw := by
  simp [State.askClosed]

@[simp] theorem State.askHold_fw (s : State) (f : Part) (w : U32) : (State.askHold s f w).fw = s.fw := by
  simp [State.askHold]

@[simp] theorem State.askSoftware_fw (s : State) (f : Part) (w : U32) : (State.askSoftware s f w).fw = s.fw := by
  simp [State.askSoftware]

@[simp] theorem State.setDco_fw (s : State) (f : Part) (upper : U32) : (State.setDco s f upper).fw = s.fw := by
  simp [State.setDco]

@[simp] theorem State.setTod_fw (s : State) (f : Part) (upper : U32) : (State.setTod s f upper).fw = s.fw := by
  simp [State.setTod]

@[simp] theorem State.askStep_fw (s : State) (f : Part) (upper : U32) : (State.askStep s f upper).fw = s.fw := by
  simp [State.askStep]

@[simp] theorem State.askRealign_fw (s : State) (f : Part) (output : Fin 9) (w : U32) :
    (State.askRealign s f output w).fw = s.fw := by
  simp [State.askRealign]

@[simp] theorem State.realignStep_fw (s : State) (o : Nat) : (State.realignStep s o).fw = s.fw := by
  unfold State.realignStep; (repeat' split) <;> simp [*]

@[simp] theorem State.takeRequest_fw (s : State) (request : Nat) : (State.takeRequest s request).fw = s.fw := by
  simp [State.takeRequest]

@[simp] theorem State.askClaim_fw (s : State) (f : Part) (w : U32) : (State.askClaim s f w).fw = s.fw := by
  simp [State.askClaim]

@[simp] theorem State.askRotate_fw (s : State) (f : Part) (w : U32) : (State.askRotate s f w).fw = s.fw := by
  simp [State.askRotate]

@[simp] theorem State.installTenant_fw (s : State) (key : Bytes) (base : Nat) : (State.installTenant s key base).fw = s.fw := by
  simp [State.installTenant]

@[simp] theorem State.spdmAnswer_fw (s : State) (p : SpdmPort) (ok : Bool) (data : Bytes) (g : Spdm → Spdm) :
    (State.spdmAnswer s p ok data g).fw = s.fw := by
  simp [State.spdmAnswer]

@[simp] theorem State.leaveSecure_fw (s : State) (stream : Fin 17) : (State.leaveSecure s stream).fw = s.fw := by
  unfold State.leaveSecure; (repeat' split) <;> simp [*, foldl_fw]

@[simp] theorem State.pokeQueue_fw (s : State) (f : Part) (q : Fin 64) (r : Nat) (w : U32) :
    (State.pokeQueue s f q r w).fw = s.fw := by
  simp [State.pokeQueue]

@[simp] theorem State.pokeFn_fw (s : State) (f : Part) (off : Nat) (w : U32) : (State.pokeFn s f off w).fw = s.fw := by
  simp [State.pokeFn]

@[simp] theorem State.pokeBar2_fw (s : State) (f : Part) (off : Nat) (w : U32) : (State.pokeBar2 s f off w).fw = s.fw := by
  simp [State.pokeBar2]

@[simp] theorem State.pokeCin_fw (s : State) (off : Nat) (w : U32) : (State.pokeCin s off w).fw = s.fw := by
  simp [State.pokeCin]

@[simp] theorem State.setQl_fw (s : State) (i : Nat) (ql : Nat) : (State.setQl s i ql).fw = s.fw := by
  simp [State.setQl]

theorem iteEq_fw {c : Prop} [Decidable c] {s a b : State} (h1 : a.fw = s.fw) (h2 : b.fw = s.fw) :
    (if c then a else b).fw = s.fw := by
  split <;> assumption

@[simp] theorem State.pokeTmg_fw (s : State) (off : Nat) (w : U32) : (State.pokeTmg s off w).fw = s.fw := by
  refine iteEq_fw ?_ (iteEq_fw ?_ (iteEq_fw ?_ (iteEq_fw ?_ (iteEq_fw ?_ (iteEq_fw ?_ (iteEq_fw ?_ (iteEq_fw ?_ (iteEq_fw ?_
    (iteEq_fw ?_ (iteEq_fw ?_ ?_))))))))))
  · split <;> simp
  · exact iteEq_fw rfl rfl
  · simp
  · rfl
  · simp
  · rfl
  · simp
  · rfl
  · rfl
  · exact iteEq_fw (by simp) rfl
  · exact iteEq_fw (by simp) rfl
  · rfl

@[simp] theorem State.pokeSec_fw (s : State) (off : Nat) (w : U32) : (State.pokeSec s off w).fw = s.fw := by
  unfold State.pokeSec; (repeat' split) <;> simp [*]

@[simp] theorem State.pokeRange_fw (s : State) (off : Nat) (w : U32) : (State.pokeRange s off w).fw = s.fw := by
  simp [State.pokeRange]

@[simp] theorem State.pokeMgt_fw (s : State) (off : Nat) (w : U32) : (State.pokeMgt s off w).fw = s.fw := by
  simp [State.pokeMgt]

@[simp] theorem State.pokeRec_fw (s : State) (off : Nat) (w : U32) : (State.pokeRec s off w).fw = s.fw := by
  unfold State.pokeRec; (repeat' split) <;> simp [*]

@[simp] theorem State.pokePwr_fw (s : State) (off : Nat) (w : U32) : (State.pokePwr s off w).fw = s.fw := by
  simp [State.pokePwr]

@[simp] theorem State.freeStage_fw (s : State) (r : Nat) (id : Nat) (m : NodeRun) : (State.freeStage s r id m).fw = s.fw := by
  unfold State.freeStage
  dsimp only
  split
  · split
    · rw [State.mapFrame_fw]
    · rfl
  · rfl

@[simp] theorem State.haltEngine_fw (s : State) (e : Nat) : (State.haltEngine s e).fw = s.fw := by
  simp [State.haltEngine]

@[simp] theorem State.beginGather_fw (s : State) (f : Nat) (q : Nat) (c : Cmd) (b : Bytes) (ep : Bool) (scalar : Nat) (own : Nat) (share : Bytes) :
    (State.beginGather s f q c b ep scalar own share).fw = s.fw := by
  simp [State.beginGather]

@[simp] theorem State.poisonBlob_fw (s : State) (i : Nat) (b : Blob) : (State.poisonBlob s i b).fw = s.fw := by
  simp [State.poisonBlob]

@[simp] theorem State.abortFrameApplies_fw (s : State) : (State.abortFrameApplies s).fw = s.fw := by
  unfold State.abortFrameApplies
  refine foldl_fw _ (fun s x => ?_) _ _
  split
  · split <;> simp
  · rfl

@[simp] theorem State.abortQueue_fw (s : State) (f : Nat) (q : Nat) : (State.abortQueue s f q).fw = s.fw := by
  simp [State.abortQueue, foldl_fw]

@[simp] theorem State.removeVfs_fw (s : State) : (State.removeVfs s).fw = s.fw := by
  simp [State.removeVfs]

@[simp] theorem State.dropTenantSections_fw (s : State) : (State.dropTenantSections s).fw = s.fw := by
  simp [State.dropTenantSections]

@[simp] theorem State.destroyKeys_fw (s : State) : (State.destroyKeys s).fw = s.fw := by
  simp [State.destroyKeys]

@[simp] theorem State.renewPorts_fw (s : State) : (State.renewPorts s).fw = s.fw := by
  simp [State.renewPorts, foldl_fw]

@[simp] theorem State.scrub_fw (s : State) : (State.scrub s).fw = s.fw := by
  simp [State.scrub]

@[simp] theorem State.endSwitch_fw (s : State) : (State.endSwitch s).fw = s.fw := by
  simp [State.endSwitch, foldl_fw]

end Sys2Proof.Machine
end

