-- ==== Sys2Proof/Laws/FrameHif.lean ====
section
/-! SUPPORT. The operations that leave the host interface alone: one lemma for each, which says so (`.hif` is the field of State that holds it). -/

namespace Sys2Proof.Machine

set_option linter.all false

@[simp] theorem ite_hif (c : Prop) [Decidable c] (a b : State) : (if c then a else b).hif = if c then a.hif else b.hif := by
  split <;> rfl

theorem foldl_hif {α : Type} (f : State → α → State) (h : ∀ s x, (f s x).hif = s.hif) (l : List α) (s : State) :
    (l.foldl f s).hif = s.hif := by
  induction l generalizing s with
  | nil => rfl
  | cons a t ih => rw [List.foldl_cons, ih, h]

theorem foldlPair_hif {α β : Type} (f : State × β → α → State × β) (h : ∀ a x, (f a x).1.hif = a.1.hif) (l : List α)
    (a : State × β) : (l.foldl f a).1.hif = a.1.hif := by
  induction l generalizing a with
  | nil => rfl
  | cons x t ih => rw [List.foldl_cons, ih, h]

@[simp] theorem State.driveSafeOff_hif (s : State) (on : Bool) : (State.driveSafeOff s on).hif = s.hif := by
  simp [State.driveSafeOff]

@[simp] theorem State.sendCan_hif (s : State) (ident : Nat) (typ : Nat) (alive : BitVec 8) :
    (State.sendCan s ident typ alive).hif = s.hif := by
  simp [State.sendCan]

@[simp] theorem State.latchCause_hif (s : State) (cause : Nat) (source : Nat) :
    (State.latchCause s cause source).hif = s.hif := by
  simp [State.latchCause]

@[simp] theorem State.reroute_hif (s : State) : (State.reroute s).hif = s.hif := by
  simp [State.reroute, foldl_hif]

@[simp] theorem State.sendFlit_hif (s : State) (p : Nat) (idle : Bool) (payload : Bytes) :
    (State.sendFlit s p idle payload).hif = s.hif := by
  simp [State.sendFlit]

@[simp] theorem State.pump_hif (s : State) (p : Nat) (l : List Bytes) : (State.pump s p l).hif = s.hif := by
  induction l generalizing s with
  | nil => simp [State.pump]
  | cons b t ih => unfold State.pump; split <;> simp [ih]

@[simp] theorem State.sendIdle_hif (s : State) (p : Nat) : (State.sendIdle s p).hif = s.hif := by
  simp [State.sendIdle]

@[simp] theorem State.nak_hif (s : State) (p : Nat) : (State.nak s p).hif = s.hif := by
  simp [State.nak]

@[simp] theorem State.portSend_hif (s : State) (p : Nat) (lane : Nat) (m : Msg) : (State.portSend s p lane m).hif = s.hif := by
  simp [State.portSend]

@[simp] theorem State.strand_hif (s : State) (m : Msg) : (State.strand s m).hif = s.hif := by
  simp [State.strand]

@[simp] theorem State.forward_hif (s : State) (m : Msg) : (State.forward s m).hif = s.hif := by
  unfold State.forward; (repeat' split) <;> simp [*]

@[simp] theorem State.sendMsg_hif (s : State) (m : Msg) : (State.sendMsg s m).hif = s.hif := by
  simp [State.sendMsg]

@[simp] theorem State.flushStuck_hif (s : State) : (State.flushStuck s).hif = s.hif := by
  simp [State.flushStuck, foldl_hif]

@[simp] theorem State.advertise_hif (s : State) : (State.advertise s).hif = s.hif := by
  simp [State.advertise]

@[simp] theorem State.tellLinks_hif (s : State) : (State.tellLinks s).hif = s.hif := by
  simp [State.tellLinks]

@[simp] theorem State.linksChanged_hif (s : State) : (State.linksChanged s).hif = s.hif := by
  simp [State.linksChanged]

@[simp] theorem State.sendRequest_hif (s : State) (m : Msg) (cmd : Option (Nat × Nat × Nat)) :
    (State.sendRequest s m cmd).hif = s.hif := by
  simp [State.sendRequest]

@[simp] theorem State.request_hif (s : State) (m : Msg) (cmd : Option (Nat × Nat × Nat)) :
    (State.request s m cmd).hif = s.hif := by
  simp [State.request]

@[simp] theorem State.issueWaiting_hif (s : State) (d n : Nat) : (State.issueWaiting s d n).hif = s.hif := by
  induction n generalizing s with
  | zero => rfl
  | succ n ih => unfold State.issueWaiting; (repeat' split) <;> simp [ih]

@[simp] theorem State.answered_hif (s : State) (src : Nat) (reqId : Nat) : (State.answered s src reqId).hif = s.hif := by
  simp [State.answered]

@[simp] theorem State.markRun_hif (s : State) (r : Nat) (id : Nat) (poisoned : Bool) (lost : Bool) :
    (State.markRun s r id poisoned lost).hif = s.hif := by
  simp [State.markRun]

@[simp] theorem State.remoteWrite_hif (s : State) (board : Nat) (part : Nat) (a : Nat) (bs : Bytes) (poison : Bool) (cmd : Option (Nat × Nat × Nat)) :
    (State.remoteWrite s board part a bs poison cmd).hif = s.hif := by
  simp [State.remoteWrite, foldl_hif]

@[simp] theorem State.answer_hif (s : State) (m : Msg) : (State.answer s m).hif = s.hif := by
  simp [State.answer]

@[simp] theorem State.answerLine_hif (s : State) (typ : Nat) (r : HomeReq) : (State.answerLine s typ r).hif = s.hif := by
  simp [State.answerLine]

@[simp] theorem State.answerBare_hif (s : State) (typ : Nat) (dest : Nat) (reqId : Nat) (part : Nat) (addr : Nat) :
    (State.answerBare s typ dest reqId part addr).hif = s.hif := by
  simp [State.answerBare]

@[simp] theorem State.snoop_hif (s : State) (typ : Nat) (req : HomeReq) (boards : List Nat) :
    (State.snoop s typ req boards).hif = s.hif := by
  simp [State.snoop, foldl_hif]

@[simp] theorem State.settleLeaving_hif (s : State) : (State.settleLeaving s).hif = s.hif := by
  simp [State.settleLeaving]

@[simp] theorem State.pruneKept_hif (s : State) (h : FabHdr) : (State.pruneKept s h).hif = s.hif := by
  simp [State.pruneKept]

@[simp] theorem State.resendKept_hif (s : State) (k : Kept) : (State.resendKept s k).hif = s.hif := by
  simp [State.resendKept]

@[simp] theorem State.evict_hif (s : State) (l : RLine) : (State.evict s l).hif = s.hif := by
  simp [State.evict]

theorem State.cellarAlloc_hif (s : State) (x : Bytes) (a : Nat) (d : Bool) (t : State) (h : s.cellarAlloc x a d = some t) :
    t.hif = s.hif := by
  unfold State.cellarAlloc at h
  simp only [] at h
  (repeat' split at h) <;> (try cases h) <;> simp

@[simp] theorem State.cellarAllocD_hif (s : State) (x : Bytes) (a : Nat) (d : Bool) : ((s.cellarAlloc x a d).getD s).hif = s.hif := by
  cases h : s.cellarAlloc x a d with
  | none => rfl
  | some t => exact State.cellarAlloc_hif _ _ _ _ _ h

@[simp] theorem State.refetch_hif (s : State) (l : RLine) : (State.refetch s l).hif = s.hif := by
  simp [State.refetch]

@[simp] theorem State.cellarCount_hif (s : State) (r : CellarReq) : (State.cellarCount s r).hif = s.hif := by
  unfold State.cellarCount
  simp only []
  (repeat' split) <;> simp

@[simp] theorem State.toHost_hif (s : State) (f : Nat) (q : Nat) (seq : Nat) (addr : Nat) (bs : Bytes) (first : Nat) (pz : Nat → Bool) :
    (State.toHost s f q seq addr bs first pz).hif = s.hif := by
  simp [State.toHost, foldl_hif]

@[simp] theorem State.settleEntry_hif (s : State) (a : Nat) (e : Option DirEnt) : (State.settleEntry s a e).hif = s.hif := by
  unfold State.settleEntry; (repeat' split) <;> simp [*]

@[simp] theorem State.snoopReply_hif (s : State) (home : Nat) (typ : Nat) (reqId : Nat) (a : Nat) (data : Bytes) (poison : Bool) :
    (State.snoopReply s home typ reqId a data poison).hif = s.hif := by
  simp [State.snoopReply]

@[simp] theorem State.addMail_hif (s : State) (m : MailIn) : (State.addMail s m).hif = s.hif := by
  simp [State.addMail]

@[simp] theorem State.noteFw_hif (s : State) (comp : Fin 4) (slot : Bool) (event : String) :
    (State.noteFw s comp slot event).hif = s.hif := by
  simp [State.noteFw]

@[simp] theorem State.finishBurn_hif (s : State) (comp : Fin 4) : (State.finishBurn s comp).hif = s.hif := by
  unfold State.finishBurn; (repeat' split) <;> simp [*]

@[simp] theorem State.dropTrial_hif (s : State) (comp : Fin 4) : (State.dropTrial s comp).hif = s.hif := by
  simp [State.dropTrial]

@[simp] theorem State.bootComponent_hif (s : State) (c : Fin 4) : (s.bootComponent c).1.hif = s.hif := by
  simp [State.bootComponent]

@[simp] theorem State.applyOverride_hif (s : State) : (State.applyOverride s).hif = s.hif := by
  simp [State.applyOverride]

@[simp] theorem State.evalCompat_hif (s : State) : (State.evalCompat s).hif = s.hif := by
  simp [State.evalCompat]

@[simp] theorem State.loadCal_hif (s : State) : (State.loadCal s).hif = s.hif := by
  simp [State.loadCal, foldl_hif] <;> (intros; rw [foldl_hif]; intros; simp)

@[simp] theorem State.ledgerAfterAux_hif (s : State) : (State.ledgerAfterAux s).hif = s.hif := by
  simp [State.ledgerAfterAux]

@[simp] theorem State.checkRetention_hif (s : State) : (State.checkRetention s).hif = s.hif := by
  simp [State.checkRetention]

@[simp] theorem State.restartTime_hif (s : State) : (State.restartTime s).hif = s.hif := by
  simp [State.restartTime]

@[simp] theorem State.settleRetention_hif (s : State) : (State.settleRetention s).hif = s.hif := by
  simp [State.settleRetention]

@[simp] theorem State.bootTime_hif (s : State) : (State.bootTime s).hif = s.hif := by
  simp [State.bootTime]

@[simp] theorem State.announceReset_hif (s : State) (cold : Bool) (cause : String) (source : Nat) :
    (State.announceReset s cold cause source).hif = s.hif := by
  unfold State.announceReset; simp only []; (repeat' split) <;> simp_all

@[simp] theorem State.takeFwAction_hif (s : State) (a : FwAction) (comp : Fin 4) : (State.takeFwAction s a comp).hif = s.hif := by
  simp [State.takeFwAction]

@[simp] theorem State.askMark_hif (s : State) (f : Part) (w : U32) : (State.askMark s f w).hif = s.hif := by
  simp [State.askMark]

@[simp] theorem State.askCommit_hif (s : State) (f : Part) (w : U32) : (State.askCommit s f w).hif = s.hif := by
  simp [State.askCommit]

@[simp] theorem State.askCancel_hif (s : State) (f : Part) (w : U32) : (State.askCancel s f w).hif = s.hif := by
  simp [State.askCancel]

@[simp] theorem State.askBurn_hif (s : State) (f : Part) (w : U32) : (State.askBurn s f w).hif = s.hif := by
  simp [State.askBurn]

@[simp] theorem State.endMarkTrial_hif (s : State) (c : Fin 4) : (State.endMarkTrial s c).hif = s.hif := by
  simp [State.endMarkTrial]

@[simp] theorem State.endCommit_hif (s : State) (c : Fin 4) : (State.endCommit s c).hif = s.hif := by
  simp [State.endCommit]

@[simp] theorem State.endCancelTrial_hif (s : State) (c : Fin 4) : (State.endCancelTrial s c).hif = s.hif := by
  simp [State.endCancelTrial]

@[simp] theorem State.endBurn_hif (s : State) (c : Fin 4) : (State.endBurn s c).hif = s.hif := by
  unfold State.endBurn; simp only []; (repeat' split) <;> simp_all

@[simp] theorem State.askBegin_hif (s : State) (f : Part) (w : U32) : (State.askBegin s f w).hif = s.hif := by
  simp [State.askBegin]

@[simp] theorem State.askRun_hif (s : State) (f : Part) (w : U32) : (State.askRun s f w).hif = s.hif := by
  simp [State.askRun]

@[simp] theorem State.askProgram_hif (s : State) (f : Part) (w : U32) : (State.askProgram s f w).hif = s.hif := by
  simp [State.askProgram]

@[simp] theorem State.fillWindow_hif (s : State) (f : Part) (off : Nat) (size : Nat) (v : U64) :
    (State.fillWindow s f off size v).hif = s.hif := by
  simp [State.fillWindow]

@[simp] theorem State.mapCores_hif (s : State) (g : Core → Core) : (State.mapCores s g).hif = s.hif := by
  simp [State.mapCores]

@[simp] theorem State.resetCasks_hif (s : State) (route : Nat) : (State.resetCasks s route).hif = s.hif := by
  simp [State.resetCasks]

@[simp] theorem State.freshVecs_hif (s : State) (c : Nat) : (State.freshVecs s c).hif = s.hif := by
  simp [State.freshVecs]

@[simp] theorem State.install_hif (s : State) (c : Nat) (t : Task) : (State.install s c t).hif = s.hif := by
  simp [State.install]

@[simp] theorem State.loadCode_hif (s : State) (c : Nat) (t : Task) (blob : Nat) : (State.loadCode s c t blob).hif = s.hif := by
  simp [State.loadCode]

@[simp] theorem State.nextTask_hif (s : State) (c : Nat) : (State.nextTask s c).hif = s.hif := by
  unfold State.nextTask; simp only []; (repeat' split) <;> simp_all

@[simp] theorem State.endTask_hif (s : State) (c : Nat) : (State.endTask s c).hif = s.hif := by
  unfold State.endTask; simp only []; (repeat' split) <;> simp_all

@[simp] theorem State.finish_hif (s : State) (c : Nat) (x : Core) : (State.finish s c x).hif = s.hif := by
  simp [State.finish]

@[simp] theorem State.takePreemption_hif (s : State) (c : Nat) : (State.takePreemption s c).hif = s.hif := by
  unfold State.takePreemption; simp only []; (repeat' split) <;> simp_all

@[simp] theorem State.settleWait_hif (s : State) (c : Nat) : (State.settleWait s c).hif = s.hif := by
  unfold State.settleWait; simp only []; (repeat' split) <;> simp_all

@[simp] theorem State.settleWaits_hif (s : State) : (State.settleWaits s).hif = s.hif := by
  simp [State.settleWaits, foldl_hif]

@[simp] theorem State.startTask_hif (s : State) (c : Nat) (t : Task) (blob : Nat) : (State.startTask s c t blob).hif = s.hif := by
  simp [State.startTask]

@[simp] theorem State.settleSwap_hif (s : State) (route : Nat) : (State.settleSwap s route).hif = s.hif := by
  simp [State.settleSwap]

@[simp] theorem State.endApply_hif (s : State) (slot : Nat) : (State.endApply s slot).hif = s.hif := by
  unfold State.endApply; simp only []; (repeat' split) <;> simp_all

@[simp] theorem State.releaseHeld_hif (s : State) (route : Nat) : (State.releaseHeld s route).hif = s.hif := by
  simp [State.releaseHeld]

@[simp] theorem State.gapTimer_hif (s : State) (r : Nat) (st : RouteSt) : (State.gapTimer s r st).hif = s.hif := by
  simp [State.gapTimer]

@[simp] theorem State.mapFrame_hif (s : State) (r : Nat) (id : Nat) (g : Frame → Frame) :
    (State.mapFrame s r id g).hif = s.hif := by
  simp [State.mapFrame]

@[simp] theorem State.epochCut_hif (s : State) (r : Nat) (f : Frame) (valid : Bool) :
    (State.epochCut s r f valid).hif = s.hif := by
  simp [State.epochCut]

@[simp] theorem State.mapTasks_hif (s : State) (p : Task → Bool) (g : Task → Task) : (State.mapTasks s p g).hif = s.hif := by
  simp [State.mapTasks]

@[simp] theorem State.stopTasks_hif (s : State) (p : Task → Bool) : (State.stopTasks s p).hif = s.hif := by
  simp [State.stopTasks]

@[simp] theorem State.mapJobs_hif (s : State) (g : Nat → StageJob → StageJob) : (State.mapJobs s g).hif = s.hif := by
  simp [State.mapJobs]

@[simp] theorem State.noteLevel_hif (s : State) (level : BitVec 3) : (State.noteLevel s level).hif = s.hif := by
  simp [State.noteLevel]

@[simp] theorem State.epochAbandon_hif (s : State) (r : Nat) (id : Nat) : (State.epochAbandon s r id).hif = s.hif := by
  unfold State.epochAbandon; (repeat' split) <;> simp [*]

@[simp] theorem State.openWindow_hif (s : State) (r : Nat) : (State.openWindow s r).hif = s.hif := by
  simp [State.openWindow, foldl_hif]

@[simp] theorem State.associate_hif (s : State) (c : Nat) (id : Nat) (start : Nat) (exposure : Nat) :
    (State.associate s c id start exposure).hif = s.hif := by
  simp [State.associate, foldl_hif] <;> (intros; rw [foldl_hif]; intros; simp)

@[simp] theorem State.slotCycle_hif (s : State) (c : Nat) : (State.slotCycle s c).hif = s.hif := by
  unfold State.slotCycle; (repeat' split) <;> simp [*]

@[simp] theorem State.chargeEngine_hif (s : State) (r : Nat) (m : NodeRun) : (State.chargeEngine s r m).hif = s.hif := by
  simp [State.chargeEngine]

@[simp] theorem State.startNode_hif (s : State) (r : Nat) (f : Frame) (c : Bytes) : (State.startNode s r f c).hif = s.hif := by
  simp [State.startNode]

@[simp] theorem State.dispatch_hif (s : State) (r : Nat) (id : Nat) (n : Nat) (trig : Nat) :
    (State.dispatch s r id n trig).hif = s.hif := by
  unfold State.dispatch; (repeat' split) <;> simp [*]

@[simp] theorem State.dropApplies_hif (s : State) (p : Nat → Bool) : (State.dropApplies s p).hif = s.hif := by
  unfold State.dropApplies
  refine foldl_hif _ (fun s x => ?_) _ _
  split
  · split <;> simp
  · rfl

@[simp] theorem State.drainDst_hif (s : State) (d : Nat) : (State.drainDst s d).hif = s.hif := by
  simp [State.drainDst]

@[simp] theorem State.noteIrregular_hif (s : State) (c : Nat) (id : Nat) (long : Bool) (extra : Bool) :
    (State.noteIrregular s c id long extra).hif = s.hif := by
  simp [State.noteIrregular]

@[simp] theorem State.queueBeats_hif (s : State) (d : Nat) (l : List Beat) : (State.queueBeats s d l).hif = s.hif := by
  simp [State.queueBeats]

@[simp] theorem State.pipeLine_hif (s : State) (src : Nat) (ctx : Nat) (frame : Nat) (line : Nat) (plane : Nat) (b : Bytes) (poison : Bool) :
    (State.pipeLine s src ctx frame line plane b poison).hif = s.hif := by
  simp [State.pipeLine, foldl_hif]

@[simp] theorem State.closeBeat_hif (s : State) (src : Nat) (ctx : Nat) (frame : Nat) (pick : Nat → Bool) (data : Bytes) (poison : Bool) :
    (State.closeBeat s src ctx frame pick data poison).hif = s.hif := by
  simp [State.closeBeat, foldl_hif]

@[simp] theorem State.stageLine_hif (s : State) (src : Nat) (frameId : Nat) (ctx : Nat) (frame : Nat) (line : Nat) (plane : Nat) (b : Bytes) (poison : Bool) :
    (State.stageLine s src frameId ctx frame line plane b poison).hif = s.hif := by
  simp [State.stageLine, foldl_hif]

@[simp] theorem State.deliverBeat_hif (s : State) (d : Nat) : (State.deliverBeat s d).hif = s.hif := by
  unfold State.deliverBeat; simp only []; (repeat' split) <;> simp_all

@[simp] theorem State.mapJob_hif (s : State) (i : Nat) (g : StageJob → StageJob) : (State.mapJob s i g).hif = s.hif := by
  simp [State.mapJob]

@[simp] theorem State.notePoisoned_hif (s : State) (i : Nat) (poison : Bool) (discard : Bool) :
    (State.notePoisoned s i poison discard).hif = s.hif := by
  simp [State.notePoisoned]

@[simp] theorem State.jobDone_hif (s : State) (i : Nat) : (State.jobDone s i).hif = s.hif := by
  simp [State.jobDone]

@[simp] theorem State.sendLines_hif (s : State) (i : Nat) (src : Nat) (ctx : Nat) (key : Nat) (plane : Nat) (lines : List (Bytes × Bool)) :
    (State.sendLines s i src ctx key plane lines).hif = s.hif := by
  unfold State.sendLines; (repeat' split) <;> simp [*, foldl_hif]

@[simp] theorem State.offerTiles_hif (s : State) (i : Nat) (j : StageJob) (l : List (Nat × (Nat × Nat) × Bool)) :
    (State.offerTiles s i j l).hif = s.hif := by
  simp [State.offerTiles]

@[simp] theorem State.offerRows_hif (s : State) (i : Nat) (rows : List (List Px)) : (State.offerRows s i rows).hif = s.hif := by
  unfold State.offerRows; (repeat' split) <;> simp [*]

@[simp] theorem State.sendDense_hif (s : State) (i : Nat) (c : Nat) (rows : List (List Px)) (h : Nat) :
    (State.sendDense s i c rows h).hif = s.hif := by
  simp [State.sendDense]

@[simp] theorem State.closeInput_hif (s : State) (i : Nat) (port : Nat) (j : StageJob) (c : Nat) :
    (State.closeInput s i port j c).hif = s.hif := by
  simp [State.closeInput]

@[simp] theorem State.offerCells_hif (s : State) (j : StageJob) (m : Nat) : (State.offerCells s j m).hif = s.hif := by
  simp [State.offerCells]

@[simp] theorem State.offerMatches_hif (s : State) : (State.offerMatches s).hif = s.hif := by
  unfold State.offerMatches; (repeat' split) <;> simp [*]

@[simp] theorem State.endDense_hif (s : State) (i : Nat) (j : StageJob) : (State.endDense s i j).hif = s.hif := by
  simp [State.endDense]

@[simp] theorem State.refit_hif (s : State) : (State.refit s).hif = s.hif := by
  simp [State.refit, foldl_hif]

@[simp] theorem State.setLoop_hif (s : State) (l : LoopSt) : (State.setLoop s l).hif = s.hif := by
  simp [State.setLoop]

@[simp] theorem State.enterHold_hif (s : State) : (State.enterHold s).hif = s.hif := by
  simp [State.enterHold]

@[simp] theorem State.stepGtc_hif (s : State) (d : Int) : (State.stepGtc s d).hif = s.hif := by
  simp [State.stepGtc]

@[simp] theorem State.stepToInput_hif (s : State) (i : Nat) (e : Int) : (State.stepToInput s i e).hif = s.hif := by
  simp [State.stepToInput]

@[simp] theorem State.reselect_hif (s : State) : (State.reselect s).hif = s.hif := by
  unfold State.reselect; simp only []; (repeat' split) <;> simp_all

@[simp] theorem State.failInput_hif (s : State) (i : Nat) (code : Nat) : (State.failInput s i code).hif = s.hif := by
  simp [State.failInput]

@[simp] theorem State.makeAvailable_hif (s : State) (i : Nat) : (State.makeAvailable s i).hif = s.hif := by
  simp [State.makeAvailable]

@[simp] theorem State.judgeLock_hif (s : State) (e : Int) : (State.judgeLock s e).hif = s.hif := by
  simp [State.judgeLock]

@[simp] theorem State.stepOnMeasure_hif (s : State) (i : Nat) (e : Int) : (s.stepOnMeasure i e).1.hif = s.hif := by
  unfold State.stepOnMeasure; simp only []; (repeat' split) <;> simp

@[simp] theorem State.loopMeasure_hif (s : State) (i : Nat) (e : Int) : (State.loopMeasure s i e).hif = s.hif := by
  simp [State.loopMeasure]

@[simp] theorem State.measure_hif (s : State) (i : Nat) (e : Int) (freq : Int) (jump : Bool) (domainOk : Bool) :
    (State.measure s i e freq jump domainOk).hif = s.hif := by
  simp [State.measure]

@[simp] theorem State.failLanicy_hif (s : State) : (State.failLanicy s).hif = s.hif := by
  simp [State.failLanicy, foldl_hif]

@[simp] theorem State.setBackupActs_hif (s : State) (v : Bool) : (State.setBackupActs s v).hif = s.hif := by
  simp [State.setBackupActs]

@[simp] theorem State.hearTime_hif (s : State) (port : Nat) (m : TimeMsg) : (State.hearTime s port m).hif = s.hif := by
  simp [State.hearTime]

@[simp] theorem State.endFreqPulse_hif (s : State) : (State.endFreqPulse s).hif = s.hif := by
  simp [State.endFreqPulse]

@[simp] theorem State.tmgCycle_hif (s : State) : (State.tmgCycle s).hif = s.hif := by
  simp [State.tmgCycle]

@[simp] theorem State.measureVin_hif (s : State) : (State.measureVin s).hif = s.hif := by
  simp [State.measureVin]

@[simp] theorem State.endVerify_hif (s : State) : (State.endVerify s).hif = s.hif := by
  unfold State.endVerify; (repeat' split) <;> simp [*]

@[simp] theorem State.resumeTasks_hif (s : State) : (State.resumeTasks s).hif = s.hif := by
  simp [State.resumeTasks, foldl_hif]

@[simp] theorem State.badHeader_hif (s : State) (port : Nat) : (State.badHeader s port).hif = s.hif := by
  simp [State.badHeader]

@[simp] theorem State.active_hif (s : State) (port : Nat) : (State.active s port).hif = s.hif := by
  simp [State.active]

@[simp] theorem State.emitLine_hif (s : State) (c pipe : Nat) (g : CtxFrame) (y : Nat) : (s.emitLine c pipe g y).1.hif = s.hif := by
  unfold State.emitLine
  refine foldlPair_hif _ (fun a x => ?_) _ _
  dsimp only
  split <;> simp

@[simp] theorem State.emitChroma_hif (s : State) (c : Nat) (pipe : Nat) (f : CtxFrame) :
    (State.emitChroma s c pipe f).hif = s.hif := by
  simp [State.emitChroma, foldl_hif]

@[simp] theorem State.emitFrame_hif (s : State) (c : Nat) (id : Nat) : (State.emitFrame s c id).hif = s.hif := by
  unfold State.emitFrame; (repeat' split) <;> simp [*, foldl_hif, foldlPair_hif]

@[simp] theorem State.closeFrame_hif (s : State) (c : Nat) (short : Bool) : (State.closeFrame s c short).hif = s.hif := by
  unfold State.closeFrame; (repeat' split) <;> simp [*]

@[simp] theorem State.noteBacklog_hif (s : State) (pipe : Nat) : (State.noteBacklog s pipe).hif = s.hif := by
  simp [State.noteBacklog]

@[simp] theorem State.takeLinePacket_hif (s : State) (port : Nat) (c : Nat) (dt : Nat) (pixels : List Nat) (bad : Bool) :
    (State.takeLinePacket s port c dt pixels bad).hif = s.hif := by
  unfold State.takeLinePacket; (repeat' split) <;> simp [*]

@[simp] theorem State.scbCtl_hif (s : State) (f : Part) (k : Nat) (w : U32) : (State.scbCtl s f k w).hif = s.hif := by
  simp [State.scbCtl]

@[simp] theorem State.scbPush_hif (s : State) (f : Part) (k : Nat) (v : Byte) : (State.scbPush s f k v).hif = s.hif := by
  simp [State.scbPush]

@[simp] theorem State.scbPop_hif (s : State) (b : Nat) : (s.scbPop b).1.hif = s.hif := by
  unfold State.scbPop; split <;> simp

@[simp] theorem State.enforcePins_hif (s : State) (old : Struct) : (State.enforcePins s old).hif = s.hif := by
  simp [State.enforcePins]

@[simp] theorem State.enforceBoard_hif (s : State) : (State.enforceBoard s).hif = s.hif := by
  simp [State.enforceBoard]

@[simp] theorem State.enforceInputs_hif (s : State) : (State.enforceInputs s).hif = s.hif := by
  simp [State.enforceInputs]

@[simp] theorem State.enforceRoles_hif (s : State) (old : Struct) : (State.enforceRoles s old).hif = s.hif := by
  simp [State.enforceRoles]

@[simp] theorem State.enforceOutputs_hif (s : State) (old : Struct) : (State.enforceOutputs s old).hif = s.hif := by
  simp [State.enforceOutputs]

@[simp] theorem State.enforceRegions_hif (s : State) (old : Struct) : (State.enforceRegions s old).hif = s.hif := by
  unfold State.enforceRegions
  refine (foldl_hif _ (fun s r => ?_) _ _).trans (foldl_hif _ (fun s r => ?_) _ _)
  · refine (foldl_hif _ (fun s l => ?_) _ _).trans rfl
    split
    · split <;> simp
    · rfl
  · rfl

@[simp] theorem State.enforceLinks_hif (s : State) (old : Struct) : (State.enforceLinks s old).hif = s.hif := by
  simp [State.enforceLinks, foldl_hif]

@[simp] theorem State.enforceCamera_hif (s : State) (old : Struct) : (State.enforceCamera s old).hif = s.hif := by
  simp [State.enforceCamera]

@[simp] theorem State.enforceStreams_hif (s : State) (old : Struct) : (State.enforceStreams s old).hif = s.hif := by
  simp [State.enforceStreams]

@[simp] theorem State.enforceStages_hif (s : State) : (State.enforceStages s).hif = s.hif := by
  simp [State.enforceStages]

@[simp] theorem State.missFrame_hif (s : State) (r : Nat) (n : Nat) (a : Apply) : (State.missFrame s r n a).hif = s.hif := by
  simp [State.missFrame]

@[simp] theorem State.checkerFails_hif (s : State) (c : Nat × Nat) (g : Nat) : (State.checkerFails s c g).hif = s.hif := by
  unfold State.checkerFails; simp only []; (repeat' split) <;> simp_all

@[simp] theorem State.pairWrite_hif (s : State) (f : Part) (w : U32) : (State.pairWrite s f w).hif = s.hif := by
  simp [State.pairWrite]

@[simp] theorem State.draw_hif (s : State) (n : Nat) : (s.draw n).2.hif = s.hif := by simp [State.draw]

@[simp] theorem State.dropBlobs_hif (s : State) (a : Nat) (n : Nat) : (State.dropBlobs s a n).hif = s.hif := by
  simp [State.dropBlobs]

@[simp] theorem State.newMemoryKey_hif (s : State) : (State.newMemoryKey s).hif = s.hif := by
  simp [State.newMemoryKey]

@[simp] theorem State.tagChanged_hif (s : State) : (State.tagChanged s).hif = s.hif := by
  simp [State.tagChanged]

@[simp] theorem State.setSpdm_hif (s : State) (p : SpdmPort) (x : Spdm) : (State.setSpdm s p x).hif = s.hif := by
  unfold State.setSpdm; (repeat' split) <;> simp [*]

@[simp] theorem State.endConsent_hif (s : State) : (State.endConsent s).hif = s.hif := by
  unfold State.endConsent; (repeat' split) <;> simp [*]

@[simp] theorem State.clearRsq_hif (s : State) (off : Nat) : (State.clearRsq s off).hif = s.hif := by
  simp [State.clearRsq]

@[simp] theorem State.clearCin_hif (s : State) (off : Nat) : (State.clearCin s off).hif = s.hif := by
  simp [State.clearCin]

@[simp] theorem State.clearIsp_hif (s : State) (off : Nat) : (State.clearIsp s off).hif = s.hif := by
  simp [State.clearIsp]

@[simp] theorem State.clearStage_hif (s : State) (i : Nat) (r : Nat) : (State.clearStage s i r).hif = s.hif := by
  simp [State.clearStage]

@[simp] theorem State.clearMash_hif (s : State) (off : Nat) : (State.clearMash s off).hif = s.hif := by
  simp [State.clearMash]

@[simp] theorem State.clearNec_hif (s : State) (off : Nat) : (State.clearNec s off).hif = s.hif := by
  simp [State.clearNec]

@[simp] theorem State.clearMem_hif (s : State) (off : Nat) : (State.clearMem s off).hif = s.hif := by
  simp [State.clearMem]

@[simp] theorem State.clearLnk_hif (s : State) (off : Nat) : (State.clearLnk s off).hif = s.hif := by
  simp [State.clearLnk]

@[simp] theorem State.clearTmg_hif (s : State) (off : Nat) : (State.clearTmg s off).hif = s.hif := by
  simp [State.clearTmg]

@[simp] theorem State.clearSaf_hif (s : State) (off : Nat) : (State.clearSaf s off).hif = s.hif := by
  simp [State.clearSaf]

@[simp] theorem State.clearMgt_hif (s : State) (off : Nat) : (State.clearMgt s off).hif = s.hif := by
  simp [State.clearMgt]

@[simp] theorem State.clearLog_hif (s : State) (off : Nat) : (State.clearLog s off).hif = s.hif := by
  simp [State.clearLog]

@[simp] theorem State.clearBlocks_hif (s : State) (off : Nat) : (State.clearBlocks s off).hif = s.hif := by
  unfold State.clearBlocks; simp only []; split
  any_goals simp
  split
  · exact State.clearStage_hif ..
  · split
    · exact State.clearMash_hif ..
    · split
      · exact State.clearNec_hif ..
      · rfl

@[simp] theorem State.readEffect_hif (s : State) (f : Part) (bar : Bar) (off : Nat) :
    (State.readEffect s f bar off).hif = s.hif := by
  unfold State.readEffect; (repeat' split) <;> simp [*]

@[simp] theorem State.readBar_hif (s : State) (f : Part) (bar : Bar) (off : Nat) (size : Nat) :
    (State.readBar s f bar off size).hif = s.hif := by
  simp [State.readBar]

@[simp] theorem State.debugServe_hif (s : State) (op : DebugOp) : (State.debugServe s op).hif = s.hif := by
  unfold State.debugServe; (repeat' split) <;> simp [*]

@[simp] theorem State.memCorrected_hif (s : State) (a : Nat) : (State.memCorrected s a).hif = s.hif := by
  simp [State.memCorrected]

@[simp] theorem State.pairFill_hif (s : State) (a : Nat) : (State.pairFill s a).hif = s.hif := by
  simp [State.pairFill]

@[simp] theorem State.keepSeq_hif (s : State) (l : Log) : (State.keepSeq s l).hif = s.hif := by
  simp [State.keepSeq]

@[simp] theorem State.appendNext_hif (s : State) : (State.appendNext s).hif = s.hif := by
  unfold State.appendNext; (repeat' split) <;> simp [*]

@[simp] theorem State.norCopy_hif (s : State) (ok : Bool) : (State.norCopy s ok).hif = s.hif := by
  unfold State.norCopy; (repeat' split) <;> simp [*]

@[simp] theorem State.appendMany_hif (s : State) (n : Nat) : (State.appendMany s n).hif = s.hif := by
  induction n generalizing s with
  | zero => rfl
  | succ n ih => unfold State.appendMany; simp [ih]

@[simp] theorem State.copyMany_hif (s : State) (n : Nat) : (State.copyMany s n).hif = s.hif := by
  induction n generalizing s with
  | zero => rfl
  | succ n ih => unfold State.copyMany; simp [ih]

@[simp] theorem State.endInterval_hif (s : State) : (State.endInterval s).hif = s.hif := by
  simp [State.endInterval]

@[simp] theorem State.defer_hif (s : State) (activity : Nat) : (State.defer s activity).hif = s.hif := by
  simp [State.defer]

@[simp] theorem State.setBg_hif (s : State) (f : Part) (w : U32) : (State.setBg s f w).hif = s.hif := by
  simp [State.setBg]

@[simp] theorem State.askSource_hif (s : State) (part : Nat) (board : Nat) (a : Nat) (n : Nat) (cmd : Option (Nat × Nat × Nat)) :
    (State.askSource s part board a n cmd).hif = s.hif := by
  simp [State.askSource, foldl_hif]

@[simp] theorem State.readmit_hif (s : State) (b : Nat) : (State.readmit s b).hif = s.hif := by
  simp [State.readmit]

@[simp] theorem State.returned_hif (s : State) (b : Nat) (tag : Bytes) : (State.returned s b tag).hif = s.hif := by
  simp [State.returned]

@[simp] theorem State.dropHomed_hif (s : State) (b : Nat) : (State.dropHomed s b).hif = s.hif := by
  simp [State.dropHomed, foldl_hif]

@[simp] theorem State.oweCredits_hif (s : State) (p : Nat) (m : Msg) (len : Nat) : (State.oweCredits s p m len).hif = s.hif := by
  simp [State.oweCredits]

@[simp] theorem State.relay_hif (s : State) (p n : Nat) (b : Bytes) : (State.relay p n s b).1.hif = s.hif := by
  induction n generalizing s b with
  | zero => rfl
  | succ n ih => unfold State.relay; simp only []; (repeat' split) <;> simp [ih]

@[simp] theorem State.replay_hif (s : State) (p : Nat) : (State.replay s p).hif = s.hif := by
  simp [State.replay]

@[simp] theorem State.markFrame_hif (s : State) (own : Nat × Nat × Nat) (poisoned : Bool) (lost : Bool) :
    (State.markFrame s own poisoned lost).hif = s.hif := by
  simp [State.markFrame]

@[simp] theorem State.markOwner_hif (s : State) (c : Nat) (own : Nat × Nat × Nat) (b : Bool) :
    (State.markOwner s c own b).hif = s.hif := by
  simp [State.markOwner]

@[simp] theorem State.endCwait_hif (s : State) (c : Nat) (p : Bool) : (State.endCwait s c p).hif = s.hif := by
  simp [State.endCwait]

@[simp] theorem State.doCrd_hif (s : State) (c : Nat) (v : Nat) (idx : Nat) (off : Nat) (k : CaskCfg) :
    (State.doCrd s c v idx off k).hif = s.hif := by
  simp [State.doCrd]

@[simp] theorem State.doCpush_hif (s : State) (c : Nat) (v : Nat) (idx : Nat) (k : CaskCfg) :
    (State.doCpush s c v idx k).hif = s.hif := by
  simp [State.doCpush]

@[simp] theorem State.settleLoad_hif (s : State) (f : Nat) (q : Nat) (pos : Nat) (ok : Bool) :
    (State.settleLoad s f q pos ok).hif = s.hif := by
  simp [State.settleLoad]

@[simp] theorem State.setMode_hif (s : State) (m : Nat) : (State.setMode s m).hif = s.hif := by
  simp [State.setMode]

@[simp] theorem State.closeLoop_hif (s : State) : (State.closeLoop s).hif = s.hif := by
  simp [State.closeLoop]

@[simp] theorem State.askClosed_hif (s : State) (f : Part) (w : U32) : (State.askClosed s f w).hif = s.hif := by
  simp [State.askClosed]

@[simp] theorem State.askHold_hif (s : State) (f : Part) (w : U32) : (State.askHold s f w).hif = s.hif := by
  simp [State.askHold]

@[simp] theorem State.askSoftware_hif (s : State) (f : Part) (w : U32) : (State.askSoftware s f w).hif = s.hif := by
  simp [State.askSoftware]

@[simp] theorem State.setDco_hif (s : State) (f : Part) (upper : U32) : (State.setDco s f upper).hif = s.hif := by
  simp [State.setDco]

@[simp] theorem State.setTod_hif (s : State) (f : Part) (upper : U32) : (State.setTod s f upper).hif = s.hif := by
  simp [State.setTod]

@[simp] theorem State.askStep_hif (s : State) (f : Part) (upper : U32) : (State.askStep s f upper).hif = s.hif := by
  simp [State.askStep]

@[simp] theorem State.askRealign_hif (s : State) (f : Part) (output : Fin 9) (w : U32) :
    (State.askRealign s f output w).hif = s.hif := by
  simp [State.askRealign]

@[simp] theorem State.realignStep_hif (s : State) (o : Nat) : (State.realignStep s o).hif = s.hif := by
  unfold State.realignStep; (repeat' split) <;> simp [*]

@[simp] theorem State.takeRequest_hif (s : State) (request : Nat) : (State.takeRequest s request).hif = s.hif := by
  simp [State.takeRequest]

@[simp] theorem State.askClaim_hif (s : State) (f : Part) (w : U32) : (State.askClaim s f w).hif = s.hif := by
  simp [State.askClaim]

@[simp] theorem State.askRotate_hif (s : State) (f : Part) (w : U32) : (State.askRotate s f w).hif = s.hif := by
  simp [State.askRotate]

@[simp] theorem State.spdmAnswer_hif (s : State) (p : SpdmPort) (ok : Bool) (data : Bytes) (g : Spdm → Spdm) :
    (State.spdmAnswer s p ok data g).hif = s.hif := by
  simp [State.spdmAnswer]

@[simp] theorem State.pokeCin_hif (s : State) (off : Nat) (w : U32) : (State.pokeCin s off w).hif = s.hif := by
  simp [State.pokeCin]

@[simp] theorem State.setQl_hif (s : State) (i : Nat) (ql : Nat) : (State.setQl s i ql).hif = s.hif := by
  simp [State.setQl]

theorem iteEq_hif {c : Prop} [Decidable c] {s a b : State} (h1 : a.hif = s.hif) (h2 : b.hif = s.hif) :
    (if c then a else b).hif = s.hif := by
  split <;> assumption

@[simp] theorem State.pokeTmg_hif (s : State) (off : Nat) (w : U32) : (State.pokeTmg s off w).hif = s.hif := by
  refine iteEq_hif ?_ (iteEq_hif ?_ (iteEq_hif ?_ (iteEq_hif ?_ (iteEq_hif ?_ (iteEq_hif ?_ (iteEq_hif ?_ (iteEq_hif ?_ (iteEq_hif ?_
    (iteEq_hif ?_ (iteEq_hif ?_ ?_))))))))))
  · split <;> simp
  · exact iteEq_hif rfl rfl
  · simp
  · rfl
  · simp
  · rfl
  · simp
  · rfl
  · rfl
  · exact iteEq_hif (by simp) rfl
  · exact iteEq_hif (by simp) rfl
  · rfl

@[simp] theorem State.pokeSec_hif (s : State) (off : Nat) (w : U32) : (State.pokeSec s off w).hif = s.hif := by
  unfold State.pokeSec; (repeat' split) <;> simp [*]

@[simp] theorem State.pokeRange_hif (s : State) (off : Nat) (w : U32) : (State.pokeRange s off w).hif = s.hif := by
  simp [State.pokeRange]

@[simp] theorem State.pokeFw_hif (s : State) (w : U32) : (State.pokeFw s w).hif = s.hif := by
  unfold State.pokeFw; (repeat' split) <;> simp [*]

@[simp] theorem State.pokeMgt_hif (s : State) (off : Nat) (w : U32) : (State.pokeMgt s off w).hif = s.hif := by
  simp [State.pokeMgt]

@[simp] theorem State.pokeRec_hif (s : State) (off : Nat) (w : U32) : (State.pokeRec s off w).hif = s.hif := by
  unfold State.pokeRec; (repeat' split) <;> simp [*]

@[simp] theorem State.pokePwr_hif (s : State) (off : Nat) (w : U32) : (State.pokePwr s off w).hif = s.hif := by
  simp [State.pokePwr]

@[simp] theorem State.freeStage_hif (s : State) (r : Nat) (id : Nat) (m : NodeRun) : (State.freeStage s r id m).hif = s.hif := by
  unfold State.freeStage
  dsimp only
  split
  · split
    · rw [State.mapFrame_hif]
    · rfl
  · rfl

@[simp] theorem State.haltEngine_hif (s : State) (e : Nat) : (State.haltEngine s e).hif = s.hif := by
  simp [State.haltEngine]

@[simp] theorem State.beginGather_hif (s : State) (f : Nat) (q : Nat) (c : Cmd) (b : Bytes) (ep : Bool) (scalar : Nat) (own : Nat) (share : Bytes) :
    (State.beginGather s f q c b ep scalar own share).hif = s.hif := by
  simp [State.beginGather]

@[simp] theorem State.destroyKeys_hif (s : State) : (State.destroyKeys s).hif = s.hif := by
  simp [State.destroyKeys]

@[simp] theorem State.renewPorts_hif (s : State) : (State.renewPorts s).hif = s.hif := by
  simp [State.renewPorts, foldl_hif]

end Sys2Proof.Machine
end

