-- ==== Sys2Proof/Laws/FrameRsq.lean ====
section
/-! SUPPORT. The operations that leave the routes alone: one lemma for each, which says so (`.rsq` is the field of State that holds it). -/

namespace Sys2Proof.Machine

set_option linter.all false

@[simp] theorem ite_rsq (c : Prop) [Decidable c] (a b : State) : (if c then a else b).rsq = if c then a.rsq else b.rsq := by
  split <;> rfl

theorem foldl_rsq {α : Type} (f : State → α → State) (h : ∀ s x, (f s x).rsq = s.rsq) (l : List α) (s : State) :
    (l.foldl f s).rsq = s.rsq := by
  induction l generalizing s with
  | nil => rfl
  | cons a t ih => rw [List.foldl_cons, ih, h]

theorem foldlPair_rsq {α β : Type} (f : State × β → α → State × β) (h : ∀ a x, (f a x).1.rsq = a.1.rsq) (l : List α)
    (a : State × β) : (l.foldl f a).1.rsq = a.1.rsq := by
  induction l generalizing a with
  | nil => rfl
  | cons x t ih => rw [List.foldl_cons, ih, h]

@[simp] theorem State.sendEvents_rsq (s : State) : (State.sendEvents s).rsq = s.rsq := by
  simp [State.sendEvents]

@[simp] theorem State.event_rsq (s : State) (f : Nat) (c : Nat) (source : Nat) : (State.event s f c source).rsq = s.rsq := by
  unfold State.event; (repeat' split) <;> simp [*]

@[simp] theorem State.eventAll_rsq (s : State) (c : Nat) (source : Nat) : (State.eventAll s c source).rsq = s.rsq := by
  simp [State.eventAll, foldl_rsq]

@[simp] theorem State.memWrite_rsq (s : State) (a : Nat) (bs : Bytes) (poison : Bool) :
    (State.memWrite s a bs poison).rsq = s.rsq := by
  simp [State.memWrite]

@[simp] theorem State.memWriteMixed_rsq (s : State) (a : Nat) (bs : Bytes) (pz : Nat → Bool) :
    (State.memWriteMixed s a bs pz).rsq = s.rsq := by
  simp [State.memWriteMixed, foldl_rsq]

@[simp] theorem State.fix_rsq (s : State) (f : Nat) (q : Nat) (pos : Nat) (status : Nat) (detail : Nat) (source : Nat) :
    (State.fix s f q pos status detail source).rsq = s.rsq := by
  unfold State.fix; simp only []; (repeat' split) <;> simp_all

@[simp] theorem State.refuse_rsq (s : State) (f : Nat) (q : Nat) (pos : Nat) (detail : Nat) :
    (State.refuse s f q pos detail).rsq = s.rsq := by
  simp [State.refuse]

@[simp] theorem State.setCmd_rsq (s : State) (f : Nat) (q : Nat) (pos : Nat) (g : Cmd → Cmd) :
    (State.setCmd s f q pos g).rsq = s.rsq := by
  simp [State.setCmd]

@[simp] theorem State.underWay_rsq (s : State) (f : Nat) (q : Nat) (pos : Nat) (status : Nat) (detail : Nat) (source : Nat) :
    (State.underWay s f q pos status detail source).rsq = s.rsq := by
  simp [State.underWay]

@[simp] theorem State.driveSafeOff_rsq (s : State) (on : Bool) : (State.driveSafeOff s on).rsq = s.rsq := by
  simp [State.driveSafeOff]

@[simp] theorem State.sendCan_rsq (s : State) (ident : Nat) (typ : Nat) (alive : BitVec 8) :
    (State.sendCan s ident typ alive).rsq = s.rsq := by
  simp [State.sendCan]

@[simp] theorem State.setSaf_rsq (s : State) (st : SafSt) : (State.setSaf s st).rsq = s.rsq := by
  simp [State.setSaf]

@[simp] theorem State.enterSafe_rsq (s : State) (cause : Nat) (gtc : Nat) (source : Nat) (hw : Bool) :
    (State.enterSafe s cause gtc source hw).rsq = s.rsq := by
  simp [State.enterSafe]

@[simp] theorem State.latchCause_rsq (s : State) (cause : Nat) (source : Nat) :
    (State.latchCause s cause source).rsq = s.rsq := by
  simp [State.latchCause]

@[simp] theorem State.undefine_rsq (s : State) (f : Nat) (addr : Nat) (n : Nat) : (State.undefine s f addr n).rsq = s.rsq := by
  unfold State.undefine; (repeat' split) <;> simp [*]

@[simp] theorem State.reroute_rsq (s : State) : (State.reroute s).rsq = s.rsq := by
  simp [State.reroute, foldl_rsq]

@[simp] theorem State.sendFlit_rsq (s : State) (p : Nat) (idle : Bool) (payload : Bytes) :
    (State.sendFlit s p idle payload).rsq = s.rsq := by
  simp [State.sendFlit]

@[simp] theorem State.pump_rsq (s : State) (p : Nat) (l : List Bytes) : (State.pump s p l).rsq = s.rsq := by
  induction l generalizing s with
  | nil => simp [State.pump]
  | cons b t ih => unfold State.pump; split <;> simp [ih]

@[simp] theorem State.sendIdle_rsq (s : State) (p : Nat) : (State.sendIdle s p).rsq = s.rsq := by
  simp [State.sendIdle]

@[simp] theorem State.nak_rsq (s : State) (p : Nat) : (State.nak s p).rsq = s.rsq := by
  simp [State.nak]

@[simp] theorem State.portSend_rsq (s : State) (p : Nat) (lane : Nat) (m : Msg) : (State.portSend s p lane m).rsq = s.rsq := by
  simp [State.portSend]

@[simp] theorem State.strand_rsq (s : State) (m : Msg) : (State.strand s m).rsq = s.rsq := by
  simp [State.strand]

@[simp] theorem State.forward_rsq (s : State) (m : Msg) : (State.forward s m).rsq = s.rsq := by
  unfold State.forward; (repeat' split) <;> simp [*]

@[simp] theorem State.sendMsg_rsq (s : State) (m : Msg) : (State.sendMsg s m).rsq = s.rsq := by
  simp [State.sendMsg]

@[simp] theorem State.flushStuck_rsq (s : State) : (State.flushStuck s).rsq = s.rsq := by
  simp [State.flushStuck, foldl_rsq]

@[simp] theorem State.advertise_rsq (s : State) : (State.advertise s).rsq = s.rsq := by
  simp [State.advertise]

@[simp] theorem State.tellLinks_rsq (s : State) : (State.tellLinks s).rsq = s.rsq := by
  simp [State.tellLinks]

@[simp] theorem State.linksChanged_rsq (s : State) : (State.linksChanged s).rsq = s.rsq := by
  simp [State.linksChanged]

@[simp] theorem State.sendRequest_rsq (s : State) (m : Msg) (cmd : Option (Nat × Nat × Nat)) :
    (State.sendRequest s m cmd).rsq = s.rsq := by
  simp [State.sendRequest]

@[simp] theorem State.request_rsq (s : State) (m : Msg) (cmd : Option (Nat × Nat × Nat)) :
    (State.request s m cmd).rsq = s.rsq := by
  simp [State.request]

@[simp] theorem State.issueWaiting_rsq (s : State) (d n : Nat) : (State.issueWaiting s d n).rsq = s.rsq := by
  induction n generalizing s with
  | zero => rfl
  | succ n ih => unfold State.issueWaiting; (repeat' split) <;> simp [ih]

@[simp] theorem State.answered_rsq (s : State) (src : Nat) (reqId : Nat) : (State.answered s src reqId).rsq = s.rsq := by
  simp [State.answered]

@[simp] theorem State.poisonRead_rsq (s : State) (part : Nat) (a : Nat) (source : Nat) :
    (State.poisonRead s part a source).rsq = s.rsq := by
  simp [State.poisonRead]

@[simp] theorem State.deliverTo_rsq (s : State) (part : Nat) (a : Nat) (source : Nat) (data : Bytes) (poison : Bool) :
    (State.deliverTo s part a source data poison).rsq = s.rsq := by
  simp [State.deliverTo]

@[simp] theorem State.remoteWrite_rsq (s : State) (board : Nat) (part : Nat) (a : Nat) (bs : Bytes) (poison : Bool) (cmd : Option (Nat × Nat × Nat)) :
    (State.remoteWrite s board part a bs poison cmd).rsq = s.rsq := by
  simp [State.remoteWrite, foldl_rsq]

@[simp] theorem State.answer_rsq (s : State) (m : Msg) : (State.answer s m).rsq = s.rsq := by
  simp [State.answer]

@[simp] theorem State.answerLine_rsq (s : State) (typ : Nat) (r : HomeReq) : (State.answerLine s typ r).rsq = s.rsq := by
  simp [State.answerLine]

@[simp] theorem State.answerBare_rsq (s : State) (typ : Nat) (dest : Nat) (reqId : Nat) (part : Nat) (addr : Nat) :
    (State.answerBare s typ dest reqId part addr).rsq = s.rsq := by
  simp [State.answerBare]

@[simp] theorem State.snoop_rsq (s : State) (typ : Nat) (req : HomeReq) (boards : List Nat) :
    (State.snoop s typ req boards).rsq = s.rsq := by
  simp [State.snoop, foldl_rsq]

@[simp] theorem State.mergeLine_rsq (s : State) (r : HomeReq) (poison : Bool) : (State.mergeLine s r poison).rsq = s.rsq := by
  simp [State.mergeLine, foldl_rsq]

@[simp] theorem State.finishReq_rsq (s : State) (r : HomeReq) (was : Option DirEnt) (gone : List Nat) :
    (State.finishReq s r was gone).rsq = s.rsq := by
  unfold State.finishReq; (repeat' split) <;> simp [*]

@[simp] theorem State.beginReq_rsq (s : State) (r : HomeReq) : (State.beginReq s r).rsq = s.rsq := by
  unfold State.beginReq; simp only []; (repeat' split) <;> simp_all

@[simp] theorem State.startReq_rsq (s : State) (r : HomeReq) : (State.startReq s r).rsq = s.rsq := by
  unfold State.startReq; (repeat' split) <;> simp [*]

@[simp] theorem State.drainQueue_rsq (s : State) : (State.drainQueue s).rsq = s.rsq := by
  simp [State.drainQueue, foldl_rsq]

@[simp] theorem State.settleLeaving_rsq (s : State) : (State.settleLeaving s).rsq = s.rsq := by
  simp [State.settleLeaving]

@[simp] theorem State.snoopAnswer_rsq (s : State) (board : Nat) (a : Nat) (inFlight : Bool) :
    (State.snoopAnswer s board a inFlight).rsq = s.rsq := by
  unfold State.snoopAnswer; (repeat' split) <;> simp [*]

@[simp] theorem State.pruneKept_rsq (s : State) (h : FabHdr) : (State.pruneKept s h).rsq = s.rsq := by
  simp [State.pruneKept]

@[simp] theorem State.resendKept_rsq (s : State) (k : Kept) : (State.resendKept s k).rsq = s.rsq := by
  simp [State.resendKept]

@[simp] theorem State.homeRequest_rsq (s : State) (typ : ReqType) (h : FabHdr) (mask : List Bool) (data : Bytes) (poison : Bool) :
    (State.homeRequest s typ h mask data poison).rsq = s.rsq := by
  unfold State.homeRequest; simp only []; (repeat' split) <;> simp_all

@[simp] theorem State.withdraw_rsq (s : State) (r : Bytes) : (State.withdraw s r).rsq = s.rsq := by
  simp [State.withdraw, foldl_rsq]

@[simp] theorem State.recall_rsq (s : State) (part : Nat) (lines : List Nat) : (State.recall s part lines).rsq = s.rsq := by
  simp [State.recall, foldl_rsq]

@[simp] theorem State.putPart_rsq (s : State) (part : Nat) (a : Nat) (bs : Bytes) (poison : Bool) :
    (State.putPart s part a bs poison).rsq = s.rsq := by
  simp [State.putPart]

@[simp] theorem State.put_rsq (s : State) (part : Nat) (a : Nat) (bs : Bytes) (poison : Bool) :
    (State.put s part a bs poison).rsq = s.rsq := by
  simp [State.put, foldl_rsq]

@[simp] theorem State.putMixed_rsq (s : State) (part : Nat) (a : Nat) (bs : Bytes) (pz : Nat → Bool) :
    (State.putMixed s part a bs pz).rsq = s.rsq := by
  simp [State.putMixed, foldl_rsq]

@[simp] theorem State.takeOver_rsq (s : State) : (State.takeOver s).rsq = s.rsq := by
  simp [State.takeOver, foldl_rsq]

@[simp] theorem State.evict_rsq (s : State) (l : RLine) : (State.evict s l).rsq = s.rsq := by
  simp [State.evict]

theorem State.cellarAlloc_rsq (s : State) (x : Bytes) (a : Nat) (d : Bool) (t : State) (h : s.cellarAlloc x a d = some t) :
    t.rsq = s.rsq := by
  unfold State.cellarAlloc at h
  simp only [] at h
  (repeat' split at h) <;> (try cases h) <;> simp

@[simp] theorem State.cellarAllocD_rsq (s : State) (x : Bytes) (a : Nat) (d : Bool) : ((s.cellarAlloc x a d).getD s).rsq = s.rsq := by
  cases h : s.cellarAlloc x a d with
  | none => rfl
  | some t => exact State.cellarAlloc_rsq _ _ _ _ _ h

@[simp] theorem State.deliver_rsq (s : State) (r : CellarReq) (data : Bytes) (poison : Bool) :
    (State.deliver s r data poison).rsq = s.rsq := by
  simp [State.deliver]

@[simp] theorem State.remoteAccess_rsq (s : State) (r : CellarReq) : (State.remoteAccess s r).rsq = s.rsq := by
  unfold State.remoteAccess
  simp only []
  split
  · (repeat' split) <;> simp
  · split
    · rename_i t h
      have ht : t.rsq = s.rsq := by
        split at h
        · split at h
          · have := State.cellarAlloc_rsq _ _ _ _ _ h
            simp at this
            exact this
          · cases h
        · cases h
      simp [ht]
    · split <;> simp

@[simp] theorem State.serveWaiters_rsq (s : State) (l : List CellarReq) : (State.serveWaiters s l).rsq = s.rsq := by
  simp [State.serveWaiters, foldl_rsq]

@[simp] theorem State.installLine_rsq (s : State) (a : Nat) (st : CohSt) (data : Option (Bytes × Bool)) :
    (State.installLine s a st data).rsq = s.rsq := by
  unfold State.installLine; (repeat' split) <;> simp [*]

@[simp] theorem State.refetch_rsq (s : State) (l : RLine) : (State.refetch s l).rsq = s.rsq := by
  simp [State.refetch]

@[simp] theorem State.maskedWrite_rsq (s : State) (r : CellarReq) : (State.maskedWrite s r).rsq = s.rsq := by
  simp [State.maskedWrite]

@[simp] theorem State.cellarCount_rsq (s : State) (r : CellarReq) : (State.cellarCount s r).rsq = s.rsq := by
  unfold State.cellarCount
  simp only []
  (repeat' split) <;> simp

@[simp] theorem State.localAccess_rsq (s : State) (r : CellarReq) : (State.localAccess s r).rsq = s.rsq := by
  simp [State.localAccess]

@[simp] theorem State.poisonLine_rsq (s : State) (a : Nat) : (State.poisonLine s a).rsq = s.rsq := by
  simp [State.poisonLine]

@[simp] theorem State.takeCoreLine_rsq (s : State) (c : Nat) (part : Nat) (a : Nat) (data : Bytes) (poison : Bool) :
    (State.takeCoreLine s c part a data poison).rsq = s.rsq := by
  simp [State.takeCoreLine]

@[simp] theorem State.failLine_rsq (s : State) (a : Nat) : (State.failLine s a).rsq = s.rsq := by
  unfold State.failLine; (repeat' split) <;> simp [*, foldl_rsq]

@[simp] theorem State.useDma_rsq (s : State) (j : Job) : (State.useDma s j).rsq = s.rsq := by
  simp [State.useDma]

@[simp] theorem State.useSealing_rsq (s : State) (j : Job) : (State.useSealing s j).rsq = s.rsq := by
  simp [State.useSealing]

@[simp] theorem State.useMessage_rsq (s : State) (n : Nat) (j : Job) : (State.useMessage s n j).rsq = s.rsq := by
  simp [State.useMessage]

theorem poisonReads_rsq (p src : Nat) (g : State → Nat → Nat) (l : List Nat) (s : State) :
    (l.foldl (fun s i => s.poisonRead p (g s i) src) s).rsq = s.rsq :=
  foldl_rsq _ (fun s x => State.poisonRead_rsq s p (g s x) src) l s

@[simp] theorem State.readLocal_rsq (s : State) (f : Nat) (a : Nat) (n : Nat) : (State.readLocal s f a n).rsq = s.rsq := by
  exact poisonReads_rsq f (srcPart f) (fun s l => s.struct.boardId * 2 ^ 40 + 128 * l) _ s

@[simp] theorem State.toHost_rsq (s : State) (f : Nat) (q : Nat) (seq : Nat) (addr : Nat) (bs : Bytes) (first : Nat) (pz : Nat → Bool) :
    (State.toHost s f q seq addr bs first pz).rsq = s.rsq := by
  simp [State.toHost, foldl_rsq]

@[simp] theorem State.toPlace_rsq (s : State) (f : Nat) (p : Place) (bs : Bytes) (pz : Nat → Bool) (cmd : Option (Nat × Nat × Nat)) :
    (State.toPlace s f p bs pz cmd).rsq = s.rsq := by
  unfold State.toPlace; (repeat' split) <;> simp [*, foldl_rsq]

@[simp] theorem State.settleEntry_rsq (s : State) (a : Nat) (e : Option DirEnt) : (State.settleEntry s a e).rsq = s.rsq := by
  unfold State.settleEntry; (repeat' split) <;> simp [*]

@[simp] theorem State.eviction_rsq (s : State) (h : FabHdr) (data : Option (Bytes × Bool)) :
    (State.eviction s h data).rsq = s.rsq := by
  unfold State.eviction; simp only []; (repeat' split) <;> simp_all

@[simp] theorem State.snoopReply_rsq (s : State) (home : Nat) (typ : Nat) (reqId : Nat) (a : Nat) (data : Bytes) (poison : Bool) :
    (State.snoopReply s home typ reqId a data poison).rsq = s.rsq := by
  simp [State.snoopReply]

@[simp] theorem State.ringWrite_rsq (s : State) (w : Bytes) (off : Nat) (bs : Bytes) (poison : Bool) :
    (State.ringWrite s w off bs poison).rsq = s.rsq := by
  simp [State.ringWrite]

@[simp] theorem State.addMail_rsq (s : State) (m : MailIn) : (State.addMail s m).rsq = s.rsq := by
  simp [State.addMail]

@[simp] theorem State.fixSend_rsq (s : State) (cmd : Option (Nat × Nat × Nat)) (source : Nat) :
    (State.fixSend s cmd source).rsq = s.rsq := by
  unfold State.fixSend; (repeat' split) <;> simp [*]

@[simp] theorem State.ownMailDone_rsq (s : State) (reqId : Nat) : (State.ownMailDone s reqId).rsq = s.rsq := by
  unfold State.ownMailDone; (repeat' split) <;> simp [*]

@[simp] theorem State.passMails_rsq (s : State) (w : Bytes) (x : Nat) (l : List MailIn) : (State.passMails s w x l).rsq = s.rsq := by
  induction l generalizing s with
  | nil => simp [State.passMails]
  | cons b t ih => unfold State.passMails; simp only []; (repeat' split) <;> simp [ih]

@[simp] theorem State.mailWhole_rsq (s : State) (w : Bytes) (m : MailIn) : (State.mailWhole s w m).rsq = s.rsq := by
  simp [State.mailWhole]

@[simp] theorem State.recallSource_rsq (s : State) (f : Nat) (c : Cmd) (o : Nat) (n : Nat) :
    (State.recallSource s f c o n).rsq = s.rsq := by
  unfold State.recallSource; (repeat' split) <;> simp [*]

@[simp] theorem State.startMessage_rsq (s : State) (dest : Nat) (f : Nat) (q : Nat) (c : Cmd) :
    (State.startMessage s dest f q c).rsq = s.rsq := by
  simp [State.startMessage]

@[simp] theorem State.mapMessage_rsq (s : State) (n : Nat) (g : Engine → Engine) : (State.mapMessage s n g).rsq = s.rsq := by
  simp [State.mapMessage]

@[simp] theorem State.noteFw_rsq (s : State) (comp : Fin 4) (slot : Bool) (event : String) :
    (State.noteFw s comp slot event).rsq = s.rsq := by
  simp [State.noteFw]

@[simp] theorem State.finishBurn_rsq (s : State) (comp : Fin 4) : (State.finishBurn s comp).rsq = s.rsq := by
  unfold State.finishBurn; (repeat' split) <;> simp [*]

@[simp] theorem State.dropTrial_rsq (s : State) (comp : Fin 4) : (State.dropTrial s comp).rsq = s.rsq := by
  simp [State.dropTrial]

@[simp] theorem State.bootComponent_rsq (s : State) (c : Fin 4) : (s.bootComponent c).1.rsq = s.rsq := by
  simp [State.bootComponent]

@[simp] theorem State.enterRecovery_rsq (s : State) (cause : Nat) : (State.enterRecovery s cause).rsq = s.rsq := by
  simp [State.enterRecovery]

@[simp] theorem State.applyOverride_rsq (s : State) : (State.applyOverride s).rsq = s.rsq := by
  simp [State.applyOverride]

@[simp] theorem State.evalCompat_rsq (s : State) : (State.evalCompat s).rsq = s.rsq := by
  simp [State.evalCompat]

@[simp] theorem State.loadCal_rsq (s : State) : (State.loadCal s).rsq = s.rsq := by
  simp [State.loadCal, foldl_rsq] <;> (intros; rw [foldl_rsq]; intros; simp)

@[simp] theorem State.ledgerAfterAux_rsq (s : State) : (State.ledgerAfterAux s).rsq = s.rsq := by
  simp [State.ledgerAfterAux]

@[simp] theorem State.checkRetention_rsq (s : State) : (State.checkRetention s).rsq = s.rsq := by
  simp [State.checkRetention]

@[simp] theorem State.restartTime_rsq (s : State) : (State.restartTime s).rsq = s.rsq := by
  simp [State.restartTime]

@[simp] theorem State.settleRetention_rsq (s : State) : (State.settleRetention s).rsq = s.rsq := by
  simp [State.settleRetention]

@[simp] theorem State.bootFirmware_rsq (s : State) (saf : Bool) : (State.bootFirmware s saf).rsq = s.rsq := by
  unfold State.bootFirmware; (repeat' split) <;> simp [*, foldl_rsq]

@[simp] theorem State.bootTime_rsq (s : State) : (State.bootTime s).rsq = s.rsq := by
  simp [State.bootTime]

@[simp] theorem State.bootNow_rsq (s : State) : (State.bootNow s).rsq = s.rsq := by
  simp [State.bootNow]

@[simp] theorem State.announceReset_rsq (s : State) (cold : Bool) (cause : String) (source : Nat) :
    (State.announceReset s cold cause source).rsq = s.rsq := by
  unfold State.announceReset; simp only []; (repeat' split) <;> simp_all

@[simp] theorem State.takeFwAction_rsq (s : State) (a : FwAction) (comp : Fin 4) : (State.takeFwAction s a comp).rsq = s.rsq := by
  simp [State.takeFwAction]

@[simp] theorem State.askMark_rsq (s : State) (f : Part) (w : U32) : (State.askMark s f w).rsq = s.rsq := by
  simp [State.askMark]

@[simp] theorem State.askCommit_rsq (s : State) (f : Part) (w : U32) : (State.askCommit s f w).rsq = s.rsq := by
  simp [State.askCommit]

@[simp] theorem State.askCancel_rsq (s : State) (f : Part) (w : U32) : (State.askCancel s f w).rsq = s.rsq := by
  simp [State.askCancel]

@[simp] theorem State.askBurn_rsq (s : State) (f : Part) (w : U32) : (State.askBurn s f w).rsq = s.rsq := by
  simp [State.askBurn]

@[simp] theorem State.endMarkTrial_rsq (s : State) (c : Fin 4) : (State.endMarkTrial s c).rsq = s.rsq := by
  simp [State.endMarkTrial]

@[simp] theorem State.endCommit_rsq (s : State) (c : Fin 4) : (State.endCommit s c).rsq = s.rsq := by
  simp [State.endCommit]

@[simp] theorem State.endCancelTrial_rsq (s : State) (c : Fin 4) : (State.endCancelTrial s c).rsq = s.rsq := by
  simp [State.endCancelTrial]

@[simp] theorem State.endBurn_rsq (s : State) (c : Fin 4) : (State.endBurn s c).rsq = s.rsq := by
  unfold State.endBurn; simp only []; (repeat' split) <;> simp_all

@[simp] theorem State.askBegin_rsq (s : State) (f : Part) (w : U32) : (State.askBegin s f w).rsq = s.rsq := by
  simp [State.askBegin]

@[simp] theorem State.askRun_rsq (s : State) (f : Part) (w : U32) : (State.askRun s f w).rsq = s.rsq := by
  simp [State.askRun]

@[simp] theorem State.askProgram_rsq (s : State) (f : Part) (w : U32) : (State.askProgram s f w).rsq = s.rsq := by
  simp [State.askProgram]

@[simp] theorem State.fillWindow_rsq (s : State) (f : Part) (off : Nat) (size : Nat) (v : U64) :
    (State.fillWindow s f off size v).rsq = s.rsq := by
  simp [State.fillWindow]

@[simp] theorem State.mapCores_rsq (s : State) (g : Core → Core) : (State.mapCores s g).rsq = s.rsq := by
  simp [State.mapCores]

@[simp] theorem State.resetCasks_rsq (s : State) (route : Nat) : (State.resetCasks s route).rsq = s.rsq := by
  simp [State.resetCasks]

@[simp] theorem State.freshVecs_rsq (s : State) (c : Nat) : (State.freshVecs s c).rsq = s.rsq := by
  simp [State.freshVecs]

@[simp] theorem State.install_rsq (s : State) (c : Nat) (t : Task) : (State.install s c t).rsq = s.rsq := by
  simp [State.install]

@[simp] theorem State.loadCode_rsq (s : State) (c : Nat) (t : Task) (blob : Nat) : (State.loadCode s c t blob).rsq = s.rsq := by
  simp [State.loadCode]

@[simp] theorem State.nextTask_rsq (s : State) (c : Nat) : (State.nextTask s c).rsq = s.rsq := by
  unfold State.nextTask; simp only []; (repeat' split) <;> simp_all

@[simp] theorem State.finish_rsq (s : State) (c : Nat) (x : Core) : (State.finish s c x).rsq = s.rsq := by
  simp [State.finish]

@[simp] theorem State.releaseHeld_rsq (s : State) (route : Nat) : (State.releaseHeld s route).rsq = s.rsq := by
  simp [State.releaseHeld]

@[simp] theorem State.gapTimer_rsq (s : State) (r : Nat) (st : RouteSt) : (State.gapTimer s r st).rsq = s.rsq := by
  simp [State.gapTimer]

@[simp] theorem State.noteStale_rsq (s : State) (r : Nat) (cause : Nat) : (State.noteStale s r cause).rsq = s.rsq := by
  simp [State.noteStale]

@[simp] theorem State.published_rsq (s : State) (t : Struct) (r : Nat) (typ : Nat) (addr : Nat) (len : Nat) (exposure : Nat) :
    (State.published s t r typ addr len exposure).rsq = s.rsq := by
  simp [State.published]

@[simp] theorem State.frameDone_rsq (s : State) (r : Nat) (f : Frame) (status : Nat) (reason : Nat) :
    (State.frameDone s r f status reason).rsq = s.rsq := by
  simp [State.frameDone, foldl_rsq]

@[simp] theorem State.epochCut_rsq (s : State) (r : Nat) (f : Frame) (valid : Bool) :
    (State.epochCut s r f valid).rsq = s.rsq := by
  simp [State.epochCut]

@[simp] theorem State.fixAll_rsq (s : State) (l : List (Nat × Nat × Nat)) (status : Nat) (detail : Nat) (source : Nat) :
    (State.fixAll s l status detail source).rsq = s.rsq := by
  simp [State.fixAll, foldl_rsq]

@[simp] theorem State.mapTasks_rsq (s : State) (p : Task → Bool) (g : Task → Task) : (State.mapTasks s p g).rsq = s.rsq := by
  simp [State.mapTasks]

@[simp] theorem State.mapJobs_rsq (s : State) (g : Nat → StageJob → StageJob) : (State.mapJobs s g).rsq = s.rsq := by
  simp [State.mapJobs]

@[simp] theorem State.noteLevel_rsq (s : State) (level : BitVec 3) : (State.noteLevel s level).rsq = s.rsq := by
  simp [State.noteLevel]

@[simp] theorem State.epochAbandon_rsq (s : State) (r : Nat) (id : Nat) : (State.epochAbandon s r id).rsq = s.rsq := by
  unfold State.epochAbandon; (repeat' split) <;> simp [*]

@[simp] theorem State.openWindow_rsq (s : State) (r : Nat) : (State.openWindow s r).rsq = s.rsq := by
  simp [State.openWindow, foldl_rsq]

@[simp] theorem State.undefineCmd_rsq (s : State) (f : Nat) (q : Nat) (c : Cmd) : (State.undefineCmd s f q c).rsq = s.rsq := by
  simp [State.undefineCmd]

@[simp] theorem State.undefineCmds_rsq (s : State) (f : Nat) : (State.undefineCmds s f).rsq = s.rsq := by
  simp [State.undefineCmds, foldl_rsq]

@[simp] theorem State.dropWork_rsq (s : State) (f : Nat) : (State.dropWork s f).rsq = s.rsq := by
  simp [State.dropWork]

@[simp] theorem State.drainDst_rsq (s : State) (d : Nat) : (State.drainDst s d).rsq = s.rsq := by
  simp [State.drainDst]

@[simp] theorem State.noteIrregular_rsq (s : State) (c : Nat) (id : Nat) (long : Bool) (extra : Bool) :
    (State.noteIrregular s c id long extra).rsq = s.rsq := by
  simp [State.noteIrregular]

@[simp] theorem State.queueBeats_rsq (s : State) (d : Nat) (l : List Beat) : (State.queueBeats s d l).rsq = s.rsq := by
  simp [State.queueBeats]

@[simp] theorem State.pipeLine_rsq (s : State) (src : Nat) (ctx : Nat) (frame : Nat) (line : Nat) (plane : Nat) (b : Bytes) (poison : Bool) :
    (State.pipeLine s src ctx frame line plane b poison).rsq = s.rsq := by
  simp [State.pipeLine, foldl_rsq]

@[simp] theorem State.closeBeat_rsq (s : State) (src : Nat) (ctx : Nat) (frame : Nat) (pick : Nat → Bool) (data : Bytes) (poison : Bool) :
    (State.closeBeat s src ctx frame pick data poison).rsq = s.rsq := by
  simp [State.closeBeat, foldl_rsq]

@[simp] theorem State.stageLine_rsq (s : State) (src : Nat) (frameId : Nat) (ctx : Nat) (frame : Nat) (line : Nat) (plane : Nat) (b : Bytes) (poison : Bool) :
    (State.stageLine s src frameId ctx frame line plane b poison).rsq = s.rsq := by
  simp [State.stageLine, foldl_rsq]

@[simp] theorem State.deliverBeat_rsq (s : State) (d : Nat) : (State.deliverBeat s d).rsq = s.rsq := by
  unfold State.deliverBeat; simp only []; (repeat' split) <;> simp_all

@[simp] theorem State.mapJob_rsq (s : State) (i : Nat) (g : StageJob → StageJob) : (State.mapJob s i g).rsq = s.rsq := by
  simp [State.mapJob]

@[simp] theorem State.layRecord_rsq (s : State) (i : Nat) (j : StageJob) (a : Nat) (r : RecInfo) (desc : Bytes) (body : Payload) :
    (State.layRecord s i j a r desc body).rsq = s.rsq := by
  simp [State.layRecord]

@[simp] theorem State.notePoisoned_rsq (s : State) (i : Nat) (poison : Bool) (discard : Bool) :
    (State.notePoisoned s i poison discard).rsq = s.rsq := by
  simp [State.notePoisoned]

@[simp] theorem State.putRecord_rsq (s : State) (i : Nat) (j : StageJob) (o : Nat) (src : Nat) (off : Nat) (r : RecInfo) (desc : Bytes) (body : Payload) :
    (State.putRecord s i j o src off r desc body).rsq = s.rsq := by
  simp [State.putRecord]

@[simp] theorem State.jobDone_rsq (s : State) (i : Nat) : (State.jobDone s i).rsq = s.rsq := by
  simp [State.jobDone]

@[simp] theorem State.sendLines_rsq (s : State) (i : Nat) (src : Nat) (ctx : Nat) (key : Nat) (plane : Nat) (lines : List (Bytes × Bool)) :
    (State.sendLines s i src ctx key plane lines).rsq = s.rsq := by
  unfold State.sendLines; (repeat' split) <;> simp [*, foldl_rsq]

@[simp] theorem State.advancePyr_rsq (s : State) (c : Nat) : (State.advancePyr s c).rsq = s.rsq := by
  unfold State.advancePyr; (repeat' split) <;> simp [*, foldl_rsq]

@[simp] theorem State.advanceWrp_rsq (s : State) (i : Nat) (c : Nat) : (State.advanceWrp s i c).rsq = s.rsq := by
  unfold State.advanceWrp; (repeat' split) <;> simp [*]

@[simp] theorem State.storeLine_rsq (s : State) (part : Nat) (a : Nat) (w : Nat) (y : Nat) (l : List Int) :
    (State.storeLine s part a w y l).rsq = s.rsq := by
  simp [State.storeLine]

@[simp] theorem State.offerTiles_rsq (s : State) (i : Nat) (j : StageJob) (l : List (Nat × (Nat × Nat) × Bool)) :
    (State.offerTiles s i j l).rsq = s.rsq := by
  simp [State.offerTiles]

@[simp] theorem State.offerRows_rsq (s : State) (i : Nat) (rows : List (List Px)) : (State.offerRows s i rows).rsq = s.rsq := by
  unfold State.offerRows; (repeat' split) <;> simp [*]

@[simp] theorem State.sendDense_rsq (s : State) (i : Nat) (c : Nat) (rows : List (List Px)) (h : Nat) :
    (State.sendDense s i c rows h).rsq = s.rsq := by
  simp [State.sendDense]

@[simp] theorem State.floStore__rsq (s : State) (i : Nat) (j : StageJob) : (State.floStore_ s i j).rsq = s.rsq := by
  simp [State.floStore_, foldl_rsq]

@[simp] theorem State.advanceDense_rsq (s : State) (i : Nat) : (State.advanceDense s i).rsq = s.rsq := by
  unfold State.advanceDense; (repeat' split) <;> simp [*]

@[simp] theorem State.advanceTrk_rsq (s : State) : (State.advanceTrk s).rsq = s.rsq := by
  unfold State.advanceTrk; (repeat' split) <;> simp [*, foldl_rsq, foldlPair_rsq]

@[simp] theorem State.advance_rsq (s : State) (i : Nat) (c : Nat) : (State.advance s i c).rsq = s.rsq := by
  simp [State.advance]

@[simp] theorem State.putLine_rsq (s : State) (i : Nat) (port : Nat) (j : StageJob) (c : Nat) (id : Nat) (level : Nat) (data : Bytes) (poison : Bool) :
    (State.putLine s i port j c id level data poison).rsq = s.rsq := by
  simp [State.putLine]

@[simp] theorem State.closeInput_rsq (s : State) (i : Nat) (port : Nat) (j : StageJob) (c : Nat) :
    (State.closeInput s i port j c).rsq = s.rsq := by
  simp [State.closeInput]

@[simp] theorem State.putDense_rsq (s : State) (i : Nat) (j : StageJob) : (State.putDense s i j).rsq = s.rsq := by
  simp [State.putDense]

@[simp] theorem State.offerCells_rsq (s : State) (j : StageJob) (m : Nat) : (State.offerCells s j m).rsq = s.rsq := by
  simp [State.offerCells]

@[simp] theorem State.offerMatches_rsq (s : State) : (State.offerMatches s).rsq = s.rsq := by
  unfold State.offerMatches; (repeat' split) <;> simp [*]

@[simp] theorem State.putMatches_rsq (s : State) (j : StageJob) : (State.putMatches s j).rsq = s.rsq := by
  simp [State.putMatches]

@[simp] theorem State.endDense_rsq (s : State) (i : Nat) (j : StageJob) : (State.endDense s i j).rsq = s.rsq := by
  simp [State.endDense]

@[simp] theorem State.refit_rsq (s : State) : (State.refit s).rsq = s.rsq := by
  simp [State.refit, foldl_rsq]

@[simp] theorem State.setLoop_rsq (s : State) (l : LoopSt) : (State.setLoop s l).rsq = s.rsq := by
  simp [State.setLoop]

@[simp] theorem State.enterHold_rsq (s : State) : (State.enterHold s).rsq = s.rsq := by
  simp [State.enterHold]

@[simp] theorem State.stepGtc_rsq (s : State) (d : Int) : (State.stepGtc s d).rsq = s.rsq := by
  simp [State.stepGtc]

@[simp] theorem State.stepToInput_rsq (s : State) (i : Nat) (e : Int) : (State.stepToInput s i e).rsq = s.rsq := by
  simp [State.stepToInput]

@[simp] theorem State.reselect_rsq (s : State) : (State.reselect s).rsq = s.rsq := by
  unfold State.reselect; simp only []; (repeat' split) <;> simp_all

@[simp] theorem State.failInput_rsq (s : State) (i : Nat) (code : Nat) : (State.failInput s i code).rsq = s.rsq := by
  simp [State.failInput]

@[simp] theorem State.makeAvailable_rsq (s : State) (i : Nat) : (State.makeAvailable s i).rsq = s.rsq := by
  simp [State.makeAvailable]

@[simp] theorem State.judgeLock_rsq (s : State) (e : Int) : (State.judgeLock s e).rsq = s.rsq := by
  simp [State.judgeLock]

@[simp] theorem State.stepOnMeasure_rsq (s : State) (i : Nat) (e : Int) : (s.stepOnMeasure i e).1.rsq = s.rsq := by
  unfold State.stepOnMeasure; simp only []; (repeat' split) <;> simp

@[simp] theorem State.loopMeasure_rsq (s : State) (i : Nat) (e : Int) : (State.loopMeasure s i e).rsq = s.rsq := by
  simp [State.loopMeasure]

@[simp] theorem State.measure_rsq (s : State) (i : Nat) (e : Int) (freq : Int) (jump : Bool) (domainOk : Bool) :
    (State.measure s i e freq jump domainOk).rsq = s.rsq := by
  simp [State.measure]

@[simp] theorem State.failLanicy_rsq (s : State) : (State.failLanicy s).rsq = s.rsq := by
  simp [State.failLanicy, foldl_rsq]

@[simp] theorem State.setBackupActs_rsq (s : State) (v : Bool) : (State.setBackupActs s v).rsq = s.rsq := by
  simp [State.setBackupActs]

@[simp] theorem State.hearTime_rsq (s : State) (port : Nat) (m : TimeMsg) : (State.hearTime s port m).rsq = s.rsq := by
  simp [State.hearTime]

@[simp] theorem State.endFreqPulse_rsq (s : State) : (State.endFreqPulse s).rsq = s.rsq := by
  simp [State.endFreqPulse]

@[simp] theorem State.tmgCycle_rsq (s : State) : (State.tmgCycle s).rsq = s.rsq := by
  simp [State.tmgCycle]

@[simp] theorem State.measureVin_rsq (s : State) : (State.measureVin s).rsq = s.rsq := by
  simp [State.measureVin]

@[simp] theorem State.endVerify_rsq (s : State) : (State.endVerify s).rsq = s.rsq := by
  unfold State.endVerify; (repeat' split) <;> simp [*]

@[simp] theorem State.resumeTasks_rsq (s : State) : (State.resumeTasks s).rsq = s.rsq := by
  simp [State.resumeTasks, foldl_rsq]

@[simp] theorem State.badHeader_rsq (s : State) (port : Nat) : (State.badHeader s port).rsq = s.rsq := by
  simp [State.badHeader]

@[simp] theorem State.active_rsq (s : State) (port : Nat) : (State.active s port).rsq = s.rsq := by
  simp [State.active]

@[simp] theorem State.emitLine_rsq (s : State) (c pipe : Nat) (g : CtxFrame) (y : Nat) : (s.emitLine c pipe g y).1.rsq = s.rsq := by
  unfold State.emitLine
  refine foldlPair_rsq _ (fun a x => ?_) _ _
  dsimp only
  split <;> simp

@[simp] theorem State.emitChroma_rsq (s : State) (c : Nat) (pipe : Nat) (f : CtxFrame) :
    (State.emitChroma s c pipe f).rsq = s.rsq := by
  simp [State.emitChroma, foldl_rsq]

@[simp] theorem State.emitFrame_rsq (s : State) (c : Nat) (id : Nat) : (State.emitFrame s c id).rsq = s.rsq := by
  unfold State.emitFrame; (repeat' split) <;> simp [*, foldl_rsq, foldlPair_rsq]

@[simp] theorem State.closeFrame_rsq (s : State) (c : Nat) (short : Bool) : (State.closeFrame s c short).rsq = s.rsq := by
  unfold State.closeFrame; (repeat' split) <;> simp [*]

@[simp] theorem State.noteBacklog_rsq (s : State) (pipe : Nat) : (State.noteBacklog s pipe).rsq = s.rsq := by
  simp [State.noteBacklog]

@[simp] theorem State.takeLinePacket_rsq (s : State) (port : Nat) (c : Nat) (dt : Nat) (pixels : List Nat) (bad : Bool) :
    (State.takeLinePacket s port c dt pixels bad).rsq = s.rsq := by
  unfold State.takeLinePacket; (repeat' split) <;> simp [*]

@[simp] theorem State.scbCtl_rsq (s : State) (f : Part) (k : Nat) (w : U32) : (State.scbCtl s f k w).rsq = s.rsq := by
  simp [State.scbCtl]

@[simp] theorem State.scbPush_rsq (s : State) (f : Part) (k : Nat) (v : Byte) : (State.scbPush s f k v).rsq = s.rsq := by
  simp [State.scbPush]

@[simp] theorem State.scbPop_rsq (s : State) (b : Nat) : (s.scbPop b).1.rsq = s.rsq := by
  unfold State.scbPop; split <;> simp

@[simp] theorem State.enforcePins_rsq (s : State) (old : Struct) : (State.enforcePins s old).rsq = s.rsq := by
  simp [State.enforcePins]

@[simp] theorem State.enforceBoard_rsq (s : State) : (State.enforceBoard s).rsq = s.rsq := by
  simp [State.enforceBoard]

@[simp] theorem State.enforceInputs_rsq (s : State) : (State.enforceInputs s).rsq = s.rsq := by
  simp [State.enforceInputs]

@[simp] theorem State.enforceRoles_rsq (s : State) (old : Struct) : (State.enforceRoles s old).rsq = s.rsq := by
  simp [State.enforceRoles]

@[simp] theorem State.enforceOutputs_rsq (s : State) (old : Struct) : (State.enforceOutputs s old).rsq = s.rsq := by
  simp [State.enforceOutputs]

@[simp] theorem State.refreshVfs_rsq (s : State) : (State.refreshVfs s).rsq = s.rsq := by
  simp [State.refreshVfs]

@[simp] theorem State.enforceRegions_rsq (s : State) (old : Struct) : (State.enforceRegions s old).rsq = s.rsq := by
  unfold State.enforceRegions
  refine (foldl_rsq _ (fun s r => ?_) _ _).trans (foldl_rsq _ (fun s r => ?_) _ _)
  · refine (foldl_rsq _ (fun s l => ?_) _ _).trans rfl
    split
    · split <;> simp
    · rfl
  · rfl

@[simp] theorem State.enforceExports_rsq (s : State) (old : Struct) : (State.enforceExports s old).rsq = s.rsq := by
  simp [State.enforceExports, foldl_rsq]

@[simp] theorem State.enforceLinks_rsq (s : State) (old : Struct) : (State.enforceLinks s old).rsq = s.rsq := by
  simp [State.enforceLinks, foldl_rsq]

@[simp] theorem State.enforceCamera_rsq (s : State) (old : Struct) : (State.enforceCamera s old).rsq = s.rsq := by
  simp [State.enforceCamera]

@[simp] theorem State.enforceStreams_rsq (s : State) (old : Struct) : (State.enforceStreams s old).rsq = s.rsq := by
  simp [State.enforceStreams]

@[simp] theorem State.enforceStages_rsq (s : State) : (State.enforceStages s).rsq = s.rsq := by
  simp [State.enforceStages]

@[simp] theorem State.enforceSafety_rsq (s : State) (core : Option Bytes) : (State.enforceSafety s core).rsq = s.rsq := by
  unfold State.enforceSafety; (repeat' split) <;> simp [*]

@[simp] theorem State.checkerFails_rsq (s : State) (c : Nat × Nat) (g : Nat) : (State.checkerFails s c g).rsq = s.rsq := by
  unfold State.checkerFails; simp only []; (repeat' split) <;> simp_all

@[simp] theorem State.pairWrite_rsq (s : State) (f : Part) (w : U32) : (State.pairWrite s f w).rsq = s.rsq := by
  simp [State.pairWrite]

@[simp] theorem State.draw_rsq (s : State) (n : Nat) : (s.draw n).2.rsq = s.rsq := by simp [State.draw]

@[simp] theorem State.dropBlobs_rsq (s : State) (a : Nat) (n : Nat) : (State.dropBlobs s a n).rsq = s.rsq := by
  simp [State.dropBlobs]

@[simp] theorem State.failLoad_rsq (s : State) (f : Nat) (q : Nat) (pos : Nat) (status : Nat) (detail : Nat) (c : Cmd) (payload : Nat) :
    (State.failLoad s f q pos status detail c payload).rsq = s.rsq := by
  simp [State.failLoad]

@[simp] theorem State.newMemoryKey_rsq (s : State) : (State.newMemoryKey s).rsq = s.rsq := by
  simp [State.newMemoryKey]

@[simp] theorem State.tagChanged_rsq (s : State) : (State.tagChanged s).rsq = s.rsq := by
  simp [State.tagChanged]

@[simp] theorem State.setSpdm_rsq (s : State) (p : SpdmPort) (x : Spdm) : (State.setSpdm s p x).rsq = s.rsq := by
  unfold State.setSpdm; (repeat' split) <;> simp [*]

@[simp] theorem State.endConsent_rsq (s : State) : (State.endConsent s).rsq = s.rsq := by
  unfold State.endConsent; (repeat' split) <;> simp [*]

@[simp] theorem State.clearCin_rsq (s : State) (off : Nat) : (State.clearCin s off).rsq = s.rsq := by
  simp [State.clearCin]

@[simp] theorem State.clearIsp_rsq (s : State) (off : Nat) : (State.clearIsp s off).rsq = s.rsq := by
  simp [State.clearIsp]

@[simp] theorem State.clearStage_rsq (s : State) (i : Nat) (r : Nat) : (State.clearStage s i r).rsq = s.rsq := by
  simp [State.clearStage]

@[simp] theorem State.clearMash_rsq (s : State) (off : Nat) : (State.clearMash s off).rsq = s.rsq := by
  simp [State.clearMash]

@[simp] theorem State.clearNec_rsq (s : State) (off : Nat) : (State.clearNec s off).rsq = s.rsq := by
  simp [State.clearNec]

@[simp] theorem State.clearMem_rsq (s : State) (off : Nat) : (State.clearMem s off).rsq = s.rsq := by
  simp [State.clearMem]

@[simp] theorem State.clearLnk_rsq (s : State) (off : Nat) : (State.clearLnk s off).rsq = s.rsq := by
  simp [State.clearLnk]

@[simp] theorem State.clearTmg_rsq (s : State) (off : Nat) : (State.clearTmg s off).rsq = s.rsq := by
  simp [State.clearTmg]

@[simp] theorem State.clearSaf_rsq (s : State) (off : Nat) : (State.clearSaf s off).rsq = s.rsq := by
  simp [State.clearSaf]

@[simp] theorem State.clearMgt_rsq (s : State) (off : Nat) : (State.clearMgt s off).rsq = s.rsq := by
  simp [State.clearMgt]

@[simp] theorem State.clearLog_rsq (s : State) (off : Nat) : (State.clearLog s off).rsq = s.rsq := by
  simp [State.clearLog]

@[simp] theorem State.debugServe_rsq (s : State) (op : DebugOp) : (State.debugServe s op).rsq = s.rsq := by
  unfold State.debugServe; (repeat' split) <;> simp [*]

@[simp] theorem State.memCorrected_rsq (s : State) (a : Nat) : (State.memCorrected s a).rsq = s.rsq := by
  simp [State.memCorrected]

@[simp] theorem State.memUncorrectable_rsq (s : State) (a : Nat) : (State.memUncorrectable s a).rsq = s.rsq := by
  simp [State.memUncorrectable]

@[simp] theorem State.countFind_rsq (s : State) (a : Nat) (e : EccFind) : (s.countFind a e).rsq = s.rsq := by
  cases e <;> simp [State.countFind]

@[simp] theorem State.pairFill_rsq (s : State) (a : Nat) : (State.pairFill s a).rsq = s.rsq := by
  simp [State.pairFill]

@[simp] theorem State.keepSeq_rsq (s : State) (l : Log) : (State.keepSeq s l).rsq = s.rsq := by
  simp [State.keepSeq]

@[simp] theorem State.appendNext_rsq (s : State) : (State.appendNext s).rsq = s.rsq := by
  unfold State.appendNext; (repeat' split) <;> simp [*]

@[simp] theorem State.norCopy_rsq (s : State) (ok : Bool) : (State.norCopy s ok).rsq = s.rsq := by
  unfold State.norCopy; (repeat' split) <;> simp [*]

@[simp] theorem State.appendMany_rsq (s : State) (n : Nat) : (State.appendMany s n).rsq = s.rsq := by
  induction n generalizing s with
  | zero => rfl
  | succ n ih => unfold State.appendMany; simp [ih]

@[simp] theorem State.copyMany_rsq (s : State) (n : Nat) : (State.copyMany s n).rsq = s.rsq := by
  induction n generalizing s with
  | zero => rfl
  | succ n ih => unfold State.copyMany; simp [ih]

@[simp] theorem State.patrolUe_rsq (s : State) (block : Nat) (a : Nat) (intervened : Bool) :
    (State.patrolUe s block a intervened).rsq = s.rsq := by
  simp [State.patrolUe]

@[simp] theorem State.patrolBlock_rsq (s : State) (block : Nat) (errs : List Bytes) (intervened : Bool) :
    (State.patrolBlock s block errs intervened).rsq = s.rsq := by
  refine foldl_rsq _ (fun s x => ?_) _ _
  dsimp only
  split
  · rfl
  · split <;> simp

@[simp] theorem State.defer_rsq (s : State) (activity : Nat) : (State.defer s activity).rsq = s.rsq := by
  simp [State.defer]

@[simp] theorem State.setBg_rsq (s : State) (f : Part) (w : U32) : (State.setBg s f w).rsq = s.rsq := by
  simp [State.setBg]

@[simp] theorem State.askSource_rsq (s : State) (part : Nat) (board : Nat) (a : Nat) (n : Nat) (cmd : Option (Nat × Nat × Nat)) :
    (State.askSource s part board a n cmd).rsq = s.rsq := by
  simp [State.askSource, foldl_rsq]

@[simp] theorem State.sendOwn_rsq (s : State) (f : Nat) (q : Nat) (c : Cmd) : (State.sendOwn s f q c).rsq = s.rsq := by
  unfold State.sendOwn; simp only []; (repeat' split) <;> simp_all

@[simp] theorem State.startApply_rsq (s : State) (f : Nat) (q : Nat) (c : Cmd) (point : ApplyPoint) :
    (State.startApply s f q c point).rsq = s.rsq := by
  unfold State.startApply; simp only []; (repeat' split) <;> simp_all

@[simp] theorem State.readmit_rsq (s : State) (b : Nat) : (State.readmit s b).rsq = s.rsq := by
  simp [State.readmit]

@[simp] theorem State.returned_rsq (s : State) (b : Nat) (tag : Bytes) : (State.returned s b tag).rsq = s.rsq := by
  simp [State.returned]

@[simp] theorem State.dropHomed_rsq (s : State) (b : Nat) : (State.dropHomed s b).rsq = s.rsq := by
  simp [State.dropHomed, foldl_rsq]

@[simp] theorem State.dropHolder_rsq (s : State) (b : Nat) : (State.dropHolder s b).rsq = s.rsq := by
  simp [State.dropHolder, foldl_rsq]

@[simp] theorem State.oweCredits_rsq (s : State) (p : Nat) (m : Msg) (len : Nat) : (State.oweCredits s p m len).rsq = s.rsq := by
  simp [State.oweCredits]

@[simp] theorem State.relay_rsq (s : State) (p n : Nat) (b : Bytes) : (State.relay p n s b).1.rsq = s.rsq := by
  induction n generalizing s b with
  | zero => rfl
  | succ n ih => unfold State.relay; simp only []; (repeat' split) <;> simp [ih]

@[simp] theorem State.replay_rsq (s : State) (p : Nat) : (State.replay s p).rsq = s.rsq := by
  simp [State.replay]

@[simp] theorem State.restartMessage_rsq (s : State) (dest : Nat) (f : Nat) (q : Nat) (c : Cmd) :
    (State.restartMessage s dest f q c).rsq = s.rsq := by
  simp [State.restartMessage]

@[simp] theorem State.askPiece_rsq (s : State) (c : Nat) (x : Xfer) (a n : Nat) : (s.askPiece c x a n).1.rsq = s.rsq := by
  unfold State.askPiece; simp only []; split <;> simp [foldl_rsq]

@[simp] theorem State.storePiece_rsq (s : State) (part : Nat) (host : Bool) (a : Nat) (bs : Bytes) (bad : List Nat) (cmd : Option (Nat × Nat × Nat)) :
    (State.storePiece s part host a bs bad cmd).rsq = s.rsq := by
  simp [State.storePiece, foldl_rsq]

@[simp] theorem State.endCwait_rsq (s : State) (c : Nat) (p : Bool) : (State.endCwait s c p).rsq = s.rsq := by
  simp [State.endCwait]

@[simp] theorem State.doCrd_rsq (s : State) (c : Nat) (v : Nat) (idx : Nat) (off : Nat) (k : CaskCfg) :
    (State.doCrd s c v idx off k).rsq = s.rsq := by
  simp [State.doCrd]

@[simp] theorem State.doCpush_rsq (s : State) (c : Nat) (v : Nat) (idx : Nat) (k : CaskCfg) :
    (State.doCpush s c v idx k).rsq = s.rsq := by
  simp [State.doCpush]

@[simp] theorem State.halt_rsq (s : State) (f : Nat) (q : Nat) (error : Nat) : (State.halt s f q error).rsq = s.rsq := by
  simp [State.halt]

@[simp] theorem State.raise_rsq (s : State) (f : Nat) (q : Nat) : (State.raise s f q).rsq = s.rsq := by
  simp [State.raise]

@[simp] theorem State.postEntry_rsq (s : State) (f : Nat) (q : Nat) (seq : Nat) (status : Nat) (detail : Nat) (source : Nat) :
    (State.postEntry s f q seq status detail source).rsq = s.rsq := by
  simp [State.postEntry]

@[simp] theorem State.settle_rsq (s : State) (f : Nat) (q : Nat) : (State.settle s f q).rsq = s.rsq := by
  simp [State.settle]

@[simp] theorem State.postAborted_rsq (s : State) (f : Nat) (q : Nat) (status : Nat) (a : Aborted) :
    (State.postAborted s f q status a).rsq = s.rsq := by
  simp [State.postAborted]

@[simp] theorem State.postAborts_rsq (s : State) (f q n : Nat) : (State.postAborts s f q n).rsq = s.rsq := by
  induction n generalizing s with
  | zero => rfl
  | succ n ih => unfold State.postAborts; simp only []; (repeat' split) <;> simp [ih]

@[simp] theorem State.ringTail_rsq (s : State) (f : Part) (q : Fin 64) (idx : BitVec 16) :
    (State.ringTail s f q idx).rsq = s.rsq := by
  simp [State.ringTail]

@[simp] theorem State.ringHead_rsq (s : State) (f : Part) (q : Fin 64) (idx : BitVec 16) :
    (State.ringHead s f q idx).rsq = s.rsq := by
  simp [State.ringHead]

@[simp] theorem State.takeDescriptor_rsq (s : State) (f : Nat) (q : Nat) (d : Bytes) :
    (State.takeDescriptor s f q d).rsq = s.rsq := by
  unfold State.takeDescriptor; simp only []; (repeat' split) <;> simp_all

@[simp] theorem State.settleLoad_rsq (s : State) (f : Nat) (q : Nat) (pos : Nat) (ok : Bool) :
    (State.settleLoad s f q pos ok).rsq = s.rsq := by
  simp [State.settleLoad]

@[simp] theorem State.turnOn_rsq (s : State) (f : Part) (q : Fin 64) (w : U32) : (State.turnOn s f q w).rsq = s.rsq := by
  simp [State.turnOn]

@[simp] theorem State.turnOff_rsq (s : State) (f : Part) (q : Fin 64) (w : U32) : (State.turnOff s f q w).rsq = s.rsq := by
  simp [State.turnOff]

@[simp] theorem State.setMode_rsq (s : State) (m : Nat) : (State.setMode s m).rsq = s.rsq := by
  simp [State.setMode]

@[simp] theorem State.closeLoop_rsq (s : State) : (State.closeLoop s).rsq = s.rsq := by
  simp [State.closeLoop]

@[simp] theorem State.askClosed_rsq (s : State) (f : Part) (w : U32) : (State.askClosed s f w).rsq = s.rsq := by
  simp [State.askClosed]

@[simp] theorem State.askHold_rsq (s : State) (f : Part) (w : U32) : (State.askHold s f w).rsq = s.rsq := by
  simp [State.askHold]

@[simp] theorem State.askSoftware_rsq (s : State) (f : Part) (w : U32) : (State.askSoftware s f w).rsq = s.rsq := by
  simp [State.askSoftware]

@[simp] theorem State.setDco_rsq (s : State) (f : Part) (upper : U32) : (State.setDco s f upper).rsq = s.rsq := by
  simp [State.setDco]

@[simp] theorem State.setTod_rsq (s : State) (f : Part) (upper : U32) : (State.setTod s f upper).rsq = s.rsq := by
  simp [State.setTod]

@[simp] theorem State.askStep_rsq (s : State) (f : Part) (upper : U32) : (State.askStep s f upper).rsq = s.rsq := by
  simp [State.askStep]

@[simp] theorem State.askRealign_rsq (s : State) (f : Part) (output : Fin 9) (w : U32) :
    (State.askRealign s f output w).rsq = s.rsq := by
  simp [State.askRealign]

@[simp] theorem State.realignStep_rsq (s : State) (o : Nat) : (State.realignStep s o).rsq = s.rsq := by
  unfold State.realignStep; (repeat' split) <;> simp [*]

@[simp] theorem State.takeRequest_rsq (s : State) (request : Nat) : (State.takeRequest s request).rsq = s.rsq := by
  simp [State.takeRequest]

@[simp] theorem State.askClaim_rsq (s : State) (f : Part) (w : U32) : (State.askClaim s f w).rsq = s.rsq := by
  simp [State.askClaim]

@[simp] theorem State.askRotate_rsq (s : State) (f : Part) (w : U32) : (State.askRotate s f w).rsq = s.rsq := by
  simp [State.askRotate]

@[simp] theorem State.installTenant_rsq (s : State) (key : Bytes) (base : Nat) :
    (State.installTenant s key base).rsq = s.rsq := by
  simp [State.installTenant]

@[simp] theorem State.spdmAnswer_rsq (s : State) (p : SpdmPort) (ok : Bool) (data : Bytes) (g : Spdm → Spdm) :
    (State.spdmAnswer s p ok data g).rsq = s.rsq := by
  simp [State.spdmAnswer]

@[simp] theorem State.pokeQueue_rsq (s : State) (f : Part) (q : Fin 64) (r : Nat) (w : U32) :
    (State.pokeQueue s f q r w).rsq = s.rsq := by
  simp [State.pokeQueue]

@[simp] theorem State.pokeFn_rsq (s : State) (f : Part) (off : Nat) (w : U32) : (State.pokeFn s f off w).rsq = s.rsq := by
  simp [State.pokeFn]

@[simp] theorem State.pokeBar2_rsq (s : State) (f : Part) (off : Nat) (w : U32) : (State.pokeBar2 s f off w).rsq = s.rsq := by
  simp [State.pokeBar2]

@[simp] theorem State.pokeCin_rsq (s : State) (off : Nat) (w : U32) : (State.pokeCin s off w).rsq = s.rsq := by
  simp [State.pokeCin]

@[simp] theorem State.setQl_rsq (s : State) (i : Nat) (ql : Nat) : (State.setQl s i ql).rsq = s.rsq := by
  simp [State.setQl]

theorem iteEq_rsq {c : Prop} [Decidable c] {s a b : State} (h1 : a.rsq = s.rsq) (h2 : b.rsq = s.rsq) :
    (if c then a else b).rsq = s.rsq := by
  split <;> assumption

@[simp] theorem State.pokeTmg_rsq (s : State) (off : Nat) (w : U32) : (State.pokeTmg s off w).rsq = s.rsq := by
  refine iteEq_rsq ?_ (iteEq_rsq ?_ (iteEq_rsq ?_ (iteEq_rsq ?_ (iteEq_rsq ?_ (iteEq_rsq ?_ (iteEq_rsq ?_ (iteEq_rsq ?_ (iteEq_rsq ?_
    (iteEq_rsq ?_ (iteEq_rsq ?_ ?_))))))))))
  · split <;> simp
  · exact iteEq_rsq rfl rfl
  · simp
  · rfl
  · simp
  · rfl
  · simp
  · rfl
  · rfl
  · exact iteEq_rsq (by simp) rfl
  · exact iteEq_rsq (by simp) rfl
  · rfl

@[simp] theorem State.pokeSec_rsq (s : State) (off : Nat) (w : U32) : (State.pokeSec s off w).rsq = s.rsq := by
  unfold State.pokeSec; (repeat' split) <;> simp [*]

@[simp] theorem State.pokeRange_rsq (s : State) (off : Nat) (w : U32) : (State.pokeRange s off w).rsq = s.rsq := by
  simp [State.pokeRange]

@[simp] theorem State.pokeFw_rsq (s : State) (w : U32) : (State.pokeFw s w).rsq = s.rsq := by
  unfold State.pokeFw; (repeat' split) <;> simp [*]

@[simp] theorem State.pokeMgt_rsq (s : State) (off : Nat) (w : U32) : (State.pokeMgt s off w).rsq = s.rsq := by
  simp [State.pokeMgt]

@[simp] theorem State.pokeRec_rsq (s : State) (off : Nat) (w : U32) : (State.pokeRec s off w).rsq = s.rsq := by
  unfold State.pokeRec; (repeat' split) <;> simp [*]

@[simp] theorem State.pokePwr_rsq (s : State) (off : Nat) (w : U32) : (State.pokePwr s off w).rsq = s.rsq := by
  simp [State.pokePwr]

@[simp] theorem State.haltEngine_rsq (s : State) (e : Nat) : (State.haltEngine s e).rsq = s.rsq := by
  simp [State.haltEngine]

@[simp] theorem State.beginGather_rsq (s : State) (f : Nat) (q : Nat) (c : Cmd) (b : Bytes) (ep : Bool) (scalar : Nat) (own : Nat) (share : Bytes) :
    (State.beginGather s f q c b ep scalar own share).rsq = s.rsq := by
  simp [State.beginGather]

@[simp] theorem State.poisonBlob_rsq (s : State) (i : Nat) (b : Blob) : (State.poisonBlob s i b).rsq = s.rsq := by
  simp [State.poisonBlob]

@[simp] theorem State.abortQueue_rsq (s : State) (f : Nat) (q : Nat) : (State.abortQueue s f q).rsq = s.rsq := by
  simp [State.abortQueue, foldl_rsq]

@[simp] theorem State.removeVfs_rsq (s : State) : (State.removeVfs s).rsq = s.rsq := by
  simp [State.removeVfs]

@[simp] theorem State.destroyKeys_rsq (s : State) : (State.destroyKeys s).rsq = s.rsq := by
  simp [State.destroyKeys]

@[simp] theorem State.renewPorts_rsq (s : State) : (State.renewPorts s).rsq = s.rsq := by
  simp [State.renewPorts, foldl_rsq]

end Sys2Proof.Machine
end

