-- ==== Sys2Proof/Laws/FrameNec.lean ====
section
/-! SUPPORT. The operations that leave the neural cores alone: one lemma for each, which says so (`.nec` is the field of State that holds it). -/

namespace Sys2Proof.Machine

set_option linter.all false

@[simp] theorem ite_nec (c : Prop) [Decidable c] (a b : State) : (if c then a else b).nec = if c then a.nec else b.nec := by
  split <;> rfl

theorem foldl_nec {α : Type} (f : State → α → State) (h : ∀ s x, (f s x).nec = s.nec) (l : List α) (s : State) :
    (l.foldl f s).nec = s.nec := by
  induction l generalizing s with
  | nil => rfl
  | cons a t ih => rw [List.foldl_cons, ih, h]

theorem foldlPair_nec {α β : Type} (f : State × β → α → State × β) (h : ∀ a x, (f a x).1.nec = a.1.nec) (l : List α)
    (a : State × β) : (l.foldl f a).1.nec = a.1.nec := by
  induction l generalizing a with
  | nil => rfl
  | cons x t ih => rw [List.foldl_cons, ih, h]

@[simp] theorem State.sendEvents_nec (s : State) : (State.sendEvents s).nec = s.nec := by
  simp [State.sendEvents]

@[simp] theorem State.event_nec (s : State) (f : Nat) (c : Nat) (source : Nat) : (State.event s f c source).nec = s.nec := by
  unfold State.event; (repeat' split) <;> simp [*]

@[simp] theorem State.eventAll_nec (s : State) (c : Nat) (source : Nat) : (State.eventAll s c source).nec = s.nec := by
  simp [State.eventAll, foldl_nec]

@[simp] theorem State.memWrite_nec (s : State) (a : Nat) (bs : Bytes) (poison : Bool) :
    (State.memWrite s a bs poison).nec = s.nec := by
  simp [State.memWrite]

@[simp] theorem State.memWriteMixed_nec (s : State) (a : Nat) (bs : Bytes) (pz : Nat → Bool) :
    (State.memWriteMixed s a bs pz).nec = s.nec := by
  simp [State.memWriteMixed, foldl_nec]

@[simp] theorem State.fix_nec (s : State) (f : Nat) (q : Nat) (pos : Nat) (status : Nat) (detail : Nat) (source : Nat) :
    (State.fix s f q pos status detail source).nec = s.nec := by
  unfold State.fix; simp only []; (repeat' split) <;> simp_all

@[simp] theorem State.refuse_nec (s : State) (f : Nat) (q : Nat) (pos : Nat) (detail : Nat) :
    (State.refuse s f q pos detail).nec = s.nec := by
  simp [State.refuse]

@[simp] theorem State.setCmd_nec (s : State) (f : Nat) (q : Nat) (pos : Nat) (g : Cmd → Cmd) :
    (State.setCmd s f q pos g).nec = s.nec := by
  simp [State.setCmd]

@[simp] theorem State.underWay_nec (s : State) (f : Nat) (q : Nat) (pos : Nat) (status : Nat) (detail : Nat) (source : Nat) :
    (State.underWay s f q pos status detail source).nec = s.nec := by
  simp [State.underWay]

@[simp] theorem State.driveSafeOff_nec (s : State) (on : Bool) : (State.driveSafeOff s on).nec = s.nec := by
  simp [State.driveSafeOff]

@[simp] theorem State.sendCan_nec (s : State) (ident : Nat) (typ : Nat) (alive : BitVec 8) :
    (State.sendCan s ident typ alive).nec = s.nec := by
  simp [State.sendCan]

@[simp] theorem State.setSaf_nec (s : State) (st : SafSt) : (State.setSaf s st).nec = s.nec := by
  simp [State.setSaf]

@[simp] theorem State.enterSafe_nec (s : State) (cause : Nat) (gtc : Nat) (source : Nat) (hw : Bool) :
    (State.enterSafe s cause gtc source hw).nec = s.nec := by
  simp [State.enterSafe]

@[simp] theorem State.latchCause_nec (s : State) (cause : Nat) (source : Nat) :
    (State.latchCause s cause source).nec = s.nec := by
  simp [State.latchCause]

@[simp] theorem State.undefine_nec (s : State) (f : Nat) (addr : Nat) (n : Nat) : (State.undefine s f addr n).nec = s.nec := by
  unfold State.undefine; (repeat' split) <;> simp [*]

@[simp] theorem State.reroute_nec (s : State) : (State.reroute s).nec = s.nec := by
  simp [State.reroute, foldl_nec]

@[simp] theorem State.sendFlit_nec (s : State) (p : Nat) (idle : Bool) (payload : Bytes) :
    (State.sendFlit s p idle payload).nec = s.nec := by
  simp [State.sendFlit]

@[simp] theorem State.pump_nec (s : State) (p : Nat) (l : List Bytes) : (State.pump s p l).nec = s.nec := by
  induction l generalizing s with
  | nil => simp [State.pump]
  | cons b t ih => unfold State.pump; split <;> simp [ih]

@[simp] theorem State.sendIdle_nec (s : State) (p : Nat) : (State.sendIdle s p).nec = s.nec := by
  simp [State.sendIdle]

@[simp] theorem State.nak_nec (s : State) (p : Nat) : (State.nak s p).nec = s.nec := by
  simp [State.nak]

@[simp] theorem State.portSend_nec (s : State) (p : Nat) (lane : Nat) (m : Msg) : (State.portSend s p lane m).nec = s.nec := by
  simp [State.portSend]

@[simp] theorem State.strand_nec (s : State) (m : Msg) : (State.strand s m).nec = s.nec := by
  simp [State.strand]

@[simp] theorem State.forward_nec (s : State) (m : Msg) : (State.forward s m).nec = s.nec := by
  unfold State.forward; (repeat' split) <;> simp [*]

@[simp] theorem State.sendMsg_nec (s : State) (m : Msg) : (State.sendMsg s m).nec = s.nec := by
  simp [State.sendMsg]

@[simp] theorem State.flushStuck_nec (s : State) : (State.flushStuck s).nec = s.nec := by
  simp [State.flushStuck, foldl_nec]

@[simp] theorem State.advertise_nec (s : State) : (State.advertise s).nec = s.nec := by
  simp [State.advertise]

@[simp] theorem State.tellLinks_nec (s : State) : (State.tellLinks s).nec = s.nec := by
  simp [State.tellLinks]

@[simp] theorem State.linksChanged_nec (s : State) : (State.linksChanged s).nec = s.nec := by
  simp [State.linksChanged]

@[simp] theorem State.sendRequest_nec (s : State) (m : Msg) (cmd : Option (Nat × Nat × Nat)) :
    (State.sendRequest s m cmd).nec = s.nec := by
  simp [State.sendRequest]

@[simp] theorem State.request_nec (s : State) (m : Msg) (cmd : Option (Nat × Nat × Nat)) :
    (State.request s m cmd).nec = s.nec := by
  simp [State.request]

@[simp] theorem State.issueWaiting_nec (s : State) (d n : Nat) : (State.issueWaiting s d n).nec = s.nec := by
  induction n generalizing s with
  | zero => rfl
  | succ n ih => unfold State.issueWaiting; (repeat' split) <;> simp [ih]

@[simp] theorem State.answered_nec (s : State) (src : Nat) (reqId : Nat) : (State.answered s src reqId).nec = s.nec := by
  simp [State.answered]

@[simp] theorem State.markRun_nec (s : State) (r : Nat) (id : Nat) (poisoned : Bool) (lost : Bool) :
    (State.markRun s r id poisoned lost).nec = s.nec := by
  simp [State.markRun]

@[simp] theorem State.markCmd_nec (s : State) (cmd : Option (Nat × Nat × Nat)) (poisoned : Bool) (lost : Bool) :
    (State.markCmd s cmd poisoned lost).nec = s.nec := by
  unfold State.markCmd; (repeat' split) <;> simp [*]

@[simp] theorem State.poisonRead_nec (s : State) (part : Nat) (a : Nat) (source : Nat) :
    (State.poisonRead s part a source).nec = s.nec := by
  simp [State.poisonRead]

@[simp] theorem State.deliverTo_nec (s : State) (part : Nat) (a : Nat) (source : Nat) (data : Bytes) (poison : Bool) :
    (State.deliverTo s part a source data poison).nec = s.nec := by
  simp [State.deliverTo]

@[simp] theorem State.remoteWrite_nec (s : State) (board : Nat) (part : Nat) (a : Nat) (bs : Bytes) (poison : Bool) (cmd : Option (Nat × Nat × Nat)) :
    (State.remoteWrite s board part a bs poison cmd).nec = s.nec := by
  simp [State.remoteWrite, foldl_nec]

@[simp] theorem State.answer_nec (s : State) (m : Msg) : (State.answer s m).nec = s.nec := by
  simp [State.answer]

@[simp] theorem State.answerLine_nec (s : State) (typ : Nat) (r : HomeReq) : (State.answerLine s typ r).nec = s.nec := by
  simp [State.answerLine]

@[simp] theorem State.answerBare_nec (s : State) (typ : Nat) (dest : Nat) (reqId : Nat) (part : Nat) (addr : Nat) :
    (State.answerBare s typ dest reqId part addr).nec = s.nec := by
  simp [State.answerBare]

@[simp] theorem State.snoop_nec (s : State) (typ : Nat) (req : HomeReq) (boards : List Nat) :
    (State.snoop s typ req boards).nec = s.nec := by
  simp [State.snoop, foldl_nec]

@[simp] theorem State.mergeLine_nec (s : State) (r : HomeReq) (poison : Bool) : (State.mergeLine s r poison).nec = s.nec := by
  simp [State.mergeLine, foldl_nec]

@[simp] theorem State.finishReq_nec (s : State) (r : HomeReq) (was : Option DirEnt) (gone : List Nat) :
    (State.finishReq s r was gone).nec = s.nec := by
  unfold State.finishReq; (repeat' split) <;> simp [*]

@[simp] theorem State.beginReq_nec (s : State) (r : HomeReq) : (State.beginReq s r).nec = s.nec := by
  unfold State.beginReq; simp only []; (repeat' split) <;> simp_all

@[simp] theorem State.startReq_nec (s : State) (r : HomeReq) : (State.startReq s r).nec = s.nec := by
  unfold State.startReq; (repeat' split) <;> simp [*]

@[simp] theorem State.drainQueue_nec (s : State) : (State.drainQueue s).nec = s.nec := by
  simp [State.drainQueue, foldl_nec]

@[simp] theorem State.settleLeaving_nec (s : State) : (State.settleLeaving s).nec = s.nec := by
  simp [State.settleLeaving]

@[simp] theorem State.snoopAnswer_nec (s : State) (board : Nat) (a : Nat) (inFlight : Bool) :
    (State.snoopAnswer s board a inFlight).nec = s.nec := by
  unfold State.snoopAnswer; (repeat' split) <;> simp [*]

@[simp] theorem State.pruneKept_nec (s : State) (h : FabHdr) : (State.pruneKept s h).nec = s.nec := by
  simp [State.pruneKept]

@[simp] theorem State.resendKept_nec (s : State) (k : Kept) : (State.resendKept s k).nec = s.nec := by
  simp [State.resendKept]

@[simp] theorem State.homeRequest_nec (s : State) (typ : ReqType) (h : FabHdr) (mask : List Bool) (data : Bytes) (poison : Bool) :
    (State.homeRequest s typ h mask data poison).nec = s.nec := by
  unfold State.homeRequest; simp only []; (repeat' split) <;> simp_all

@[simp] theorem State.withdraw_nec (s : State) (r : Bytes) : (State.withdraw s r).nec = s.nec := by
  simp [State.withdraw, foldl_nec]

@[simp] theorem State.recall_nec (s : State) (part : Nat) (lines : List Nat) : (State.recall s part lines).nec = s.nec := by
  simp [State.recall, foldl_nec]

@[simp] theorem State.putPart_nec (s : State) (part : Nat) (a : Nat) (bs : Bytes) (poison : Bool) :
    (State.putPart s part a bs poison).nec = s.nec := by
  simp [State.putPart]

@[simp] theorem State.put_nec (s : State) (part : Nat) (a : Nat) (bs : Bytes) (poison : Bool) :
    (State.put s part a bs poison).nec = s.nec := by
  simp [State.put, foldl_nec]

@[simp] theorem State.putMixed_nec (s : State) (part : Nat) (a : Nat) (bs : Bytes) (pz : Nat → Bool) :
    (State.putMixed s part a bs pz).nec = s.nec := by
  simp [State.putMixed, foldl_nec]

@[simp] theorem State.takeOver_nec (s : State) : (State.takeOver s).nec = s.nec := by
  simp [State.takeOver, foldl_nec]

@[simp] theorem State.evict_nec (s : State) (l : RLine) : (State.evict s l).nec = s.nec := by
  simp [State.evict]

theorem State.cellarAlloc_nec (s : State) (x : Bytes) (a : Nat) (d : Bool) (t : State) (h : s.cellarAlloc x a d = some t) :
    t.nec = s.nec := by
  unfold State.cellarAlloc at h
  simp only [] at h
  (repeat' split at h) <;> (try cases h) <;> simp

@[simp] theorem State.cellarAllocD_nec (s : State) (x : Bytes) (a : Nat) (d : Bool) : ((s.cellarAlloc x a d).getD s).nec = s.nec := by
  cases h : s.cellarAlloc x a d with
  | none => rfl
  | some t => exact State.cellarAlloc_nec _ _ _ _ _ h

@[simp] theorem State.deliver_nec (s : State) (r : CellarReq) (data : Bytes) (poison : Bool) :
    (State.deliver s r data poison).nec = s.nec := by
  simp [State.deliver]

@[simp] theorem State.remoteAccess_nec (s : State) (r : CellarReq) : (State.remoteAccess s r).nec = s.nec := by
  unfold State.remoteAccess
  simp only []
  split
  · (repeat' split) <;> simp
  · split
    · rename_i t h
      have ht : t.nec = s.nec := by
        split at h
        · split at h
          · have := State.cellarAlloc_nec _ _ _ _ _ h
            simp at this
            exact this
          · cases h
        · cases h
      simp [ht]
    · split <;> simp

@[simp] theorem State.serveWaiters_nec (s : State) (l : List CellarReq) : (State.serveWaiters s l).nec = s.nec := by
  simp [State.serveWaiters, foldl_nec]

@[simp] theorem State.installLine_nec (s : State) (a : Nat) (st : CohSt) (data : Option (Bytes × Bool)) :
    (State.installLine s a st data).nec = s.nec := by
  unfold State.installLine; (repeat' split) <;> simp [*]

@[simp] theorem State.refetch_nec (s : State) (l : RLine) : (State.refetch s l).nec = s.nec := by
  simp [State.refetch]

@[simp] theorem State.maskedWrite_nec (s : State) (r : CellarReq) : (State.maskedWrite s r).nec = s.nec := by
  simp [State.maskedWrite]

@[simp] theorem State.cellarCount_nec (s : State) (r : CellarReq) : (State.cellarCount s r).nec = s.nec := by
  unfold State.cellarCount
  simp only []
  (repeat' split) <;> simp

@[simp] theorem State.localAccess_nec (s : State) (r : CellarReq) : (State.localAccess s r).nec = s.nec := by
  simp [State.localAccess]

@[simp] theorem State.poisonLine_nec (s : State) (a : Nat) : (State.poisonLine s a).nec = s.nec := by
  simp [State.poisonLine]

@[simp] theorem State.takeSource_nec (s : State) (cmd : Option (Nat × Nat × Nat)) (c : Cmd) (f : Nat) (q : Nat) (a : Nat) (data : Bytes) (poison : Bool) :
    (State.takeSource s cmd c f q a data poison).nec = s.nec := by
  unfold State.takeSource; simp only []; (repeat' split) <;> simp_all

@[simp] theorem State.failLine_nec (s : State) (a : Nat) : (State.failLine s a).nec = s.nec := by
  unfold State.failLine; (repeat' split) <;> simp [*, foldl_nec]

@[simp] theorem State.useDma_nec (s : State) (j : Job) : (State.useDma s j).nec = s.nec := by
  simp [State.useDma]

@[simp] theorem State.useSealing_nec (s : State) (j : Job) : (State.useSealing s j).nec = s.nec := by
  simp [State.useSealing]

@[simp] theorem State.useMessage_nec (s : State) (n : Nat) (j : Job) : (State.useMessage s n j).nec = s.nec := by
  simp [State.useMessage]

theorem poisonReads_nec (p src : Nat) (g : State → Nat → Nat) (l : List Nat) (s : State) :
    (l.foldl (fun s i => s.poisonRead p (g s i) src) s).nec = s.nec :=
  foldl_nec _ (fun s x => State.poisonRead_nec s p (g s x) src) l s

@[simp] theorem State.readLocal_nec (s : State) (f : Nat) (a : Nat) (n : Nat) : (State.readLocal s f a n).nec = s.nec := by
  exact poisonReads_nec f (srcPart f) (fun s l => s.struct.boardId * 2 ^ 40 + 128 * l) _ s

@[simp] theorem State.toHost_nec (s : State) (f : Nat) (q : Nat) (seq : Nat) (addr : Nat) (bs : Bytes) (first : Nat) (pz : Nat → Bool) :
    (State.toHost s f q seq addr bs first pz).nec = s.nec := by
  simp [State.toHost, foldl_nec]

@[simp] theorem State.toPlace_nec (s : State) (f : Nat) (p : Place) (bs : Bytes) (pz : Nat → Bool) (cmd : Option (Nat × Nat × Nat)) :
    (State.toPlace s f p bs pz cmd).nec = s.nec := by
  unfold State.toPlace; (repeat' split) <;> simp [*, foldl_nec]

@[simp] theorem State.settleEntry_nec (s : State) (a : Nat) (e : Option DirEnt) : (State.settleEntry s a e).nec = s.nec := by
  unfold State.settleEntry; (repeat' split) <;> simp [*]

@[simp] theorem State.eviction_nec (s : State) (h : FabHdr) (data : Option (Bytes × Bool)) :
    (State.eviction s h data).nec = s.nec := by
  unfold State.eviction; simp only []; (repeat' split) <;> simp_all

@[simp] theorem State.snoopReply_nec (s : State) (home : Nat) (typ : Nat) (reqId : Nat) (a : Nat) (data : Bytes) (poison : Bool) :
    (State.snoopReply s home typ reqId a data poison).nec = s.nec := by
  simp [State.snoopReply]

@[simp] theorem State.ringWrite_nec (s : State) (w : Bytes) (off : Nat) (bs : Bytes) (poison : Bool) :
    (State.ringWrite s w off bs poison).nec = s.nec := by
  simp [State.ringWrite]

@[simp] theorem State.addMail_nec (s : State) (m : MailIn) : (State.addMail s m).nec = s.nec := by
  simp [State.addMail]

@[simp] theorem State.fixSend_nec (s : State) (cmd : Option (Nat × Nat × Nat)) (source : Nat) :
    (State.fixSend s cmd source).nec = s.nec := by
  unfold State.fixSend; (repeat' split) <;> simp [*]

@[simp] theorem State.ownMailDone_nec (s : State) (reqId : Nat) : (State.ownMailDone s reqId).nec = s.nec := by
  unfold State.ownMailDone; (repeat' split) <;> simp [*]

@[simp] theorem State.passMails_nec (s : State) (w : Bytes) (x : Nat) (l : List MailIn) : (State.passMails s w x l).nec = s.nec := by
  induction l generalizing s with
  | nil => simp [State.passMails]
  | cons b t ih => unfold State.passMails; simp only []; (repeat' split) <;> simp [ih]

@[simp] theorem State.mailWhole_nec (s : State) (w : Bytes) (m : MailIn) : (State.mailWhole s w m).nec = s.nec := by
  simp [State.mailWhole]

@[simp] theorem State.recallSource_nec (s : State) (f : Nat) (c : Cmd) (o : Nat) (n : Nat) :
    (State.recallSource s f c o n).nec = s.nec := by
  unfold State.recallSource; (repeat' split) <;> simp [*]

@[simp] theorem State.startMessage_nec (s : State) (dest : Nat) (f : Nat) (q : Nat) (c : Cmd) :
    (State.startMessage s dest f q c).nec = s.nec := by
  simp [State.startMessage]

@[simp] theorem State.sendChunk_nec (s : State) (u : Unans) (o : Nat) (bs : Bytes) (poison : Bool) (last : Bool) :
    (State.sendChunk s u o bs poison last).nec = s.nec := by
  unfold State.sendChunk; simp only []; (repeat' split) <;> simp_all

@[simp] theorem State.mapMessage_nec (s : State) (n : Nat) (g : Engine → Engine) : (State.mapMessage s n g).nec = s.nec := by
  simp [State.mapMessage]

@[simp] theorem State.runMessage_nec (s : State) (n : Nat) : (State.runMessage s n).nec = s.nec := by
  unfold State.runMessage; simp only []; (repeat' split) <;> simp_all

@[simp] theorem State.noteFw_nec (s : State) (comp : Fin 4) (slot : Bool) (event : String) :
    (State.noteFw s comp slot event).nec = s.nec := by
  simp [State.noteFw]

@[simp] theorem State.finishBurn_nec (s : State) (comp : Fin 4) : (State.finishBurn s comp).nec = s.nec := by
  unfold State.finishBurn; (repeat' split) <;> simp [*]

@[simp] theorem State.dropTrial_nec (s : State) (comp : Fin 4) : (State.dropTrial s comp).nec = s.nec := by
  simp [State.dropTrial]

@[simp] theorem State.bootComponent_nec (s : State) (c : Fin 4) : (s.bootComponent c).1.nec = s.nec := by
  simp [State.bootComponent]

@[simp] theorem State.enterRecovery_nec (s : State) (cause : Nat) : (State.enterRecovery s cause).nec = s.nec := by
  simp [State.enterRecovery]

@[simp] theorem State.applyOverride_nec (s : State) : (State.applyOverride s).nec = s.nec := by
  simp [State.applyOverride]

@[simp] theorem State.evalCompat_nec (s : State) : (State.evalCompat s).nec = s.nec := by
  simp [State.evalCompat]

@[simp] theorem State.loadCal_nec (s : State) : (State.loadCal s).nec = s.nec := by
  simp [State.loadCal, foldl_nec] <;> (intros; rw [foldl_nec]; intros; simp)

@[simp] theorem State.ledgerAfterAux_nec (s : State) : (State.ledgerAfterAux s).nec = s.nec := by
  simp [State.ledgerAfterAux]

@[simp] theorem State.checkRetention_nec (s : State) : (State.checkRetention s).nec = s.nec := by
  simp [State.checkRetention]

@[simp] theorem State.restartTime_nec (s : State) : (State.restartTime s).nec = s.nec := by
  simp [State.restartTime]

@[simp] theorem State.settleRetention_nec (s : State) : (State.settleRetention s).nec = s.nec := by
  simp [State.settleRetention]

@[simp] theorem State.bootFirmware_nec (s : State) (saf : Bool) : (State.bootFirmware s saf).nec = s.nec := by
  unfold State.bootFirmware; (repeat' split) <;> simp [*, foldl_nec]

@[simp] theorem State.bootTime_nec (s : State) : (State.bootTime s).nec = s.nec := by
  simp [State.bootTime]

@[simp] theorem State.bootNow_nec (s : State) : (State.bootNow s).nec = s.nec := by
  simp [State.bootNow]

@[simp] theorem State.announceReset_nec (s : State) (cold : Bool) (cause : String) (source : Nat) :
    (State.announceReset s cold cause source).nec = s.nec := by
  unfold State.announceReset; simp only []; (repeat' split) <;> simp_all

@[simp] theorem State.takeFwAction_nec (s : State) (a : FwAction) (comp : Fin 4) : (State.takeFwAction s a comp).nec = s.nec := by
  simp [State.takeFwAction]

@[simp] theorem State.askMark_nec (s : State) (f : Part) (w : U32) : (State.askMark s f w).nec = s.nec := by
  simp [State.askMark]

@[simp] theorem State.askCommit_nec (s : State) (f : Part) (w : U32) : (State.askCommit s f w).nec = s.nec := by
  simp [State.askCommit]

@[simp] theorem State.askCancel_nec (s : State) (f : Part) (w : U32) : (State.askCancel s f w).nec = s.nec := by
  simp [State.askCancel]

@[simp] theorem State.askBurn_nec (s : State) (f : Part) (w : U32) : (State.askBurn s f w).nec = s.nec := by
  simp [State.askBurn]

@[simp] theorem State.endMarkTrial_nec (s : State) (c : Fin 4) : (State.endMarkTrial s c).nec = s.nec := by
  simp [State.endMarkTrial]

@[simp] theorem State.endCommit_nec (s : State) (c : Fin 4) : (State.endCommit s c).nec = s.nec := by
  simp [State.endCommit]

@[simp] theorem State.endCancelTrial_nec (s : State) (c : Fin 4) : (State.endCancelTrial s c).nec = s.nec := by
  simp [State.endCancelTrial]

@[simp] theorem State.endBurn_nec (s : State) (c : Fin 4) : (State.endBurn s c).nec = s.nec := by
  unfold State.endBurn; simp only []; (repeat' split) <;> simp_all

@[simp] theorem State.askBegin_nec (s : State) (f : Part) (w : U32) : (State.askBegin s f w).nec = s.nec := by
  simp [State.askBegin]

@[simp] theorem State.askRun_nec (s : State) (f : Part) (w : U32) : (State.askRun s f w).nec = s.nec := by
  simp [State.askRun]

@[simp] theorem State.askProgram_nec (s : State) (f : Part) (w : U32) : (State.askProgram s f w).nec = s.nec := by
  simp [State.askProgram]

@[simp] theorem State.fillWindow_nec (s : State) (f : Part) (off : Nat) (size : Nat) (v : U64) :
    (State.fillWindow s f off size v).nec = s.nec := by
  simp [State.fillWindow]

@[simp] theorem State.settleSwap_nec (s : State) (route : Nat) : (State.settleSwap s route).nec = s.nec := by
  simp [State.settleSwap]

@[simp] theorem State.endApply_nec (s : State) (slot : Nat) : (State.endApply s slot).nec = s.nec := by
  unfold State.endApply; simp only []; (repeat' split) <;> simp_all

@[simp] theorem State.releaseHeld_nec (s : State) (route : Nat) : (State.releaseHeld s route).nec = s.nec := by
  simp [State.releaseHeld]

@[simp] theorem State.gapTimer_nec (s : State) (r : Nat) (st : RouteSt) : (State.gapTimer s r st).nec = s.nec := by
  simp [State.gapTimer]

@[simp] theorem State.setRouteSt_nec (s : State) (r : Nat) (st : RouteSt) : (State.setRouteSt s r st).nec = s.nec := by
  simp [State.setRouteSt]

@[simp] theorem State.mapFrame_nec (s : State) (r : Nat) (id : Nat) (g : Frame → Frame) :
    (State.mapFrame s r id g).nec = s.nec := by
  simp [State.mapFrame]

@[simp] theorem State.noteStale_nec (s : State) (r : Nat) (cause : Nat) : (State.noteStale s r cause).nec = s.nec := by
  simp [State.noteStale]

@[simp] theorem State.published_nec (s : State) (t : Struct) (r : Nat) (typ : Nat) (addr : Nat) (len : Nat) (exposure : Nat) :
    (State.published s t r typ addr len exposure).nec = s.nec := by
  simp [State.published]

@[simp] theorem State.frameDone_nec (s : State) (r : Nat) (f : Frame) (status : Nat) (reason : Nat) :
    (State.frameDone s r f status reason).nec = s.nec := by
  simp [State.frameDone, foldl_nec]

@[simp] theorem State.checkDeadline_nec (s : State) (r : Nat) (f : Frame) : (State.checkDeadline s r f).nec = s.nec := by
  simp [State.checkDeadline]

@[simp] theorem State.epochCut_nec (s : State) (r : Nat) (f : Frame) (valid : Bool) :
    (State.epochCut s r f valid).nec = s.nec := by
  simp [State.epochCut]

@[simp] theorem State.retire_nec (s : State) (r : Nat) (id : Nat) : (State.retire s r id).nec = s.nec := by
  unfold State.retire; (repeat' split) <;> simp [*]

@[simp] theorem State.fixAll_nec (s : State) (l : List (Nat × Nat × Nat)) (status : Nat) (detail : Nat) (source : Nat) :
    (State.fixAll s l status detail source).nec = s.nec := by
  simp [State.fixAll, foldl_nec]

@[simp] theorem State.stopApply_nec (s : State) (r : Nat) (status : Nat) (detail : Nat) :
    (State.stopApply s r status detail).nec = s.nec := by
  simp [State.stopApply, foldl_nec]

@[simp] theorem State.retireAborted_nec (s : State) (r n : Nat) : (s.retireAborted r n).nec = s.nec := by
  induction n generalizing s with
  | zero => rfl
  | succ n ih => unfold State.retireAborted; (repeat' split) <;> simp [ih]

@[simp] theorem State.mapJobs_nec (s : State) (g : Nat → StageJob → StageJob) : (State.mapJobs s g).nec = s.nec := by
  simp [State.mapJobs]

@[simp] theorem State.noteLevel_nec (s : State) (level : BitVec 3) : (State.noteLevel s level).nec = s.nec := by
  simp [State.noteLevel]

@[simp] theorem State.epochAbandon_nec (s : State) (r : Nat) (id : Nat) : (State.epochAbandon s r id).nec = s.nec := by
  unfold State.epochAbandon; (repeat' split) <;> simp [*]

@[simp] theorem State.openWindow_nec (s : State) (r : Nat) : (State.openWindow s r).nec = s.nec := by
  simp [State.openWindow, foldl_nec]

@[simp] theorem State.associate_nec (s : State) (c : Nat) (id : Nat) (start : Nat) (exposure : Nat) :
    (State.associate s c id start exposure).nec = s.nec := by
  simp [State.associate, foldl_nec] <;> (intros; rw [foldl_nec]; intros; simp)

@[simp] theorem State.slotCycle_nec (s : State) (c : Nat) : (State.slotCycle s c).nec = s.nec := by
  unfold State.slotCycle; (repeat' split) <;> simp [*]

@[simp] theorem State.chargeEngine_nec (s : State) (r : Nat) (m : NodeRun) : (State.chargeEngine s r m).nec = s.nec := by
  simp [State.chargeEngine]

@[simp] theorem State.undefineCmd_nec (s : State) (f : Nat) (q : Nat) (c : Cmd) : (State.undefineCmd s f q c).nec = s.nec := by
  simp [State.undefineCmd]

@[simp] theorem State.undefineCmds_nec (s : State) (f : Nat) : (State.undefineCmds s f).nec = s.nec := by
  simp [State.undefineCmds, foldl_nec]

@[simp] theorem State.dropWork_nec (s : State) (f : Nat) : (State.dropWork s f).nec = s.nec := by
  simp [State.dropWork]

@[simp] theorem State.dropApplies_nec (s : State) (p : Nat → Bool) : (State.dropApplies s p).nec = s.nec := by
  unfold State.dropApplies
  refine foldl_nec _ (fun s x => ?_) _ _
  split
  · split <;> simp
  · rfl

@[simp] theorem State.drainDst_nec (s : State) (d : Nat) : (State.drainDst s d).nec = s.nec := by
  simp [State.drainDst]

@[simp] theorem State.noteIrregular_nec (s : State) (c : Nat) (id : Nat) (long : Bool) (extra : Bool) :
    (State.noteIrregular s c id long extra).nec = s.nec := by
  simp [State.noteIrregular]

@[simp] theorem State.queueBeats_nec (s : State) (d : Nat) (l : List Beat) : (State.queueBeats s d l).nec = s.nec := by
  simp [State.queueBeats]

@[simp] theorem State.pipeLine_nec (s : State) (src : Nat) (ctx : Nat) (frame : Nat) (line : Nat) (plane : Nat) (b : Bytes) (poison : Bool) :
    (State.pipeLine s src ctx frame line plane b poison).nec = s.nec := by
  simp [State.pipeLine, foldl_nec]

@[simp] theorem State.closeBeat_nec (s : State) (src : Nat) (ctx : Nat) (frame : Nat) (pick : Nat → Bool) (data : Bytes) (poison : Bool) :
    (State.closeBeat s src ctx frame pick data poison).nec = s.nec := by
  simp [State.closeBeat, foldl_nec]

@[simp] theorem State.stageLine_nec (s : State) (src : Nat) (frameId : Nat) (ctx : Nat) (frame : Nat) (line : Nat) (plane : Nat) (b : Bytes) (poison : Bool) :
    (State.stageLine s src frameId ctx frame line plane b poison).nec = s.nec := by
  simp [State.stageLine, foldl_nec]

@[simp] theorem State.deliverBeat_nec (s : State) (d : Nat) : (State.deliverBeat s d).nec = s.nec := by
  unfold State.deliverBeat; simp only []; (repeat' split) <;> simp_all

@[simp] theorem State.mapJob_nec (s : State) (i : Nat) (g : StageJob → StageJob) : (State.mapJob s i g).nec = s.nec := by
  simp [State.mapJob]

@[simp] theorem State.layRecord_nec (s : State) (i : Nat) (j : StageJob) (a : Nat) (r : RecInfo) (desc : Bytes) (body : Payload) :
    (State.layRecord s i j a r desc body).nec = s.nec := by
  simp [State.layRecord]

@[simp] theorem State.notePoisoned_nec (s : State) (i : Nat) (poison : Bool) (discard : Bool) :
    (State.notePoisoned s i poison discard).nec = s.nec := by
  simp [State.notePoisoned]

@[simp] theorem State.putRecord_nec (s : State) (i : Nat) (j : StageJob) (o : Nat) (src : Nat) (off : Nat) (r : RecInfo) (desc : Bytes) (body : Payload) :
    (State.putRecord s i j o src off r desc body).nec = s.nec := by
  simp [State.putRecord]

@[simp] theorem State.jobDone_nec (s : State) (i : Nat) : (State.jobDone s i).nec = s.nec := by
  simp [State.jobDone]

@[simp] theorem State.sendLines_nec (s : State) (i : Nat) (src : Nat) (ctx : Nat) (key : Nat) (plane : Nat) (lines : List (Bytes × Bool)) :
    (State.sendLines s i src ctx key plane lines).nec = s.nec := by
  unfold State.sendLines; (repeat' split) <;> simp [*, foldl_nec]

@[simp] theorem State.advancePyr_nec (s : State) (c : Nat) : (State.advancePyr s c).nec = s.nec := by
  unfold State.advancePyr; (repeat' split) <;> simp [*, foldl_nec]

@[simp] theorem State.advanceWrp_nec (s : State) (i : Nat) (c : Nat) : (State.advanceWrp s i c).nec = s.nec := by
  unfold State.advanceWrp; (repeat' split) <;> simp [*]

@[simp] theorem State.storeLine_nec (s : State) (part : Nat) (a : Nat) (w : Nat) (y : Nat) (l : List Int) :
    (State.storeLine s part a w y l).nec = s.nec := by
  simp [State.storeLine]

@[simp] theorem State.offerTiles_nec (s : State) (i : Nat) (j : StageJob) (l : List (Nat × (Nat × Nat) × Bool)) :
    (State.offerTiles s i j l).nec = s.nec := by
  simp [State.offerTiles]

@[simp] theorem State.offerRows_nec (s : State) (i : Nat) (rows : List (List Px)) : (State.offerRows s i rows).nec = s.nec := by
  unfold State.offerRows; (repeat' split) <;> simp [*]

@[simp] theorem State.sendDense_nec (s : State) (i : Nat) (c : Nat) (rows : List (List Px)) (h : Nat) :
    (State.sendDense s i c rows h).nec = s.nec := by
  simp [State.sendDense]

@[simp] theorem State.floStore__nec (s : State) (i : Nat) (j : StageJob) : (State.floStore_ s i j).nec = s.nec := by
  simp [State.floStore_, foldl_nec]

@[simp] theorem State.advanceDense_nec (s : State) (i : Nat) : (State.advanceDense s i).nec = s.nec := by
  unfold State.advanceDense; (repeat' split) <;> simp [*]

@[simp] theorem State.advanceTrk_nec (s : State) : (State.advanceTrk s).nec = s.nec := by
  unfold State.advanceTrk; (repeat' split) <;> simp [*, foldl_nec, foldlPair_nec]

@[simp] theorem State.advance_nec (s : State) (i : Nat) (c : Nat) : (State.advance s i c).nec = s.nec := by
  simp [State.advance]

@[simp] theorem State.putLine_nec (s : State) (i : Nat) (port : Nat) (j : StageJob) (c : Nat) (id : Nat) (level : Nat) (data : Bytes) (poison : Bool) :
    (State.putLine s i port j c id level data poison).nec = s.nec := by
  simp [State.putLine]

@[simp] theorem State.closeInput_nec (s : State) (i : Nat) (port : Nat) (j : StageJob) (c : Nat) :
    (State.closeInput s i port j c).nec = s.nec := by
  simp [State.closeInput]

@[simp] theorem State.putDense_nec (s : State) (i : Nat) (j : StageJob) : (State.putDense s i j).nec = s.nec := by
  simp [State.putDense]

@[simp] theorem State.offerCells_nec (s : State) (j : StageJob) (m : Nat) : (State.offerCells s j m).nec = s.nec := by
  simp [State.offerCells]

@[simp] theorem State.offerMatches_nec (s : State) : (State.offerMatches s).nec = s.nec := by
  unfold State.offerMatches; (repeat' split) <;> simp [*]

@[simp] theorem State.putMatches_nec (s : State) (j : StageJob) : (State.putMatches s j).nec = s.nec := by
  simp [State.putMatches]

@[simp] theorem State.endDense_nec (s : State) (i : Nat) (j : StageJob) : (State.endDense s i j).nec = s.nec := by
  simp [State.endDense]

@[simp] theorem State.refit_nec (s : State) : (State.refit s).nec = s.nec := by
  simp [State.refit, foldl_nec]

@[simp] theorem State.setLoop_nec (s : State) (l : LoopSt) : (State.setLoop s l).nec = s.nec := by
  simp [State.setLoop]

@[simp] theorem State.enterHold_nec (s : State) : (State.enterHold s).nec = s.nec := by
  simp [State.enterHold]

@[simp] theorem State.stepGtc_nec (s : State) (d : Int) : (State.stepGtc s d).nec = s.nec := by
  simp [State.stepGtc]

@[simp] theorem State.stepToInput_nec (s : State) (i : Nat) (e : Int) : (State.stepToInput s i e).nec = s.nec := by
  simp [State.stepToInput]

@[simp] theorem State.reselect_nec (s : State) : (State.reselect s).nec = s.nec := by
  unfold State.reselect; simp only []; (repeat' split) <;> simp_all

@[simp] theorem State.failInput_nec (s : State) (i : Nat) (code : Nat) : (State.failInput s i code).nec = s.nec := by
  simp [State.failInput]

@[simp] theorem State.makeAvailable_nec (s : State) (i : Nat) : (State.makeAvailable s i).nec = s.nec := by
  simp [State.makeAvailable]

@[simp] theorem State.judgeLock_nec (s : State) (e : Int) : (State.judgeLock s e).nec = s.nec := by
  simp [State.judgeLock]

@[simp] theorem State.stepOnMeasure_nec (s : State) (i : Nat) (e : Int) : (s.stepOnMeasure i e).1.nec = s.nec := by
  unfold State.stepOnMeasure; simp only []; (repeat' split) <;> simp

@[simp] theorem State.loopMeasure_nec (s : State) (i : Nat) (e : Int) : (State.loopMeasure s i e).nec = s.nec := by
  simp [State.loopMeasure]

@[simp] theorem State.measure_nec (s : State) (i : Nat) (e : Int) (freq : Int) (jump : Bool) (domainOk : Bool) :
    (State.measure s i e freq jump domainOk).nec = s.nec := by
  simp [State.measure]

@[simp] theorem State.failLanicy_nec (s : State) : (State.failLanicy s).nec = s.nec := by
  simp [State.failLanicy, foldl_nec]

@[simp] theorem State.setBackupActs_nec (s : State) (v : Bool) : (State.setBackupActs s v).nec = s.nec := by
  simp [State.setBackupActs]

@[simp] theorem State.hearTime_nec (s : State) (port : Nat) (m : TimeMsg) : (State.hearTime s port m).nec = s.nec := by
  simp [State.hearTime]

@[simp] theorem State.endFreqPulse_nec (s : State) : (State.endFreqPulse s).nec = s.nec := by
  simp [State.endFreqPulse]

@[simp] theorem State.tmgCycle_nec (s : State) : (State.tmgCycle s).nec = s.nec := by
  simp [State.tmgCycle]

@[simp] theorem State.measureVin_nec (s : State) : (State.measureVin s).nec = s.nec := by
  simp [State.measureVin]

@[simp] theorem State.endVerify_nec (s : State) : (State.endVerify s).nec = s.nec := by
  unfold State.endVerify; (repeat' split) <;> simp [*]

@[simp] theorem State.runMessages_nec (s : State) : (State.runMessages s).nec = s.nec := by
  simp [State.runMessages, foldl_nec]

@[simp] theorem State.badHeader_nec (s : State) (port : Nat) : (State.badHeader s port).nec = s.nec := by
  simp [State.badHeader]

@[simp] theorem State.active_nec (s : State) (port : Nat) : (State.active s port).nec = s.nec := by
  simp [State.active]

@[simp] theorem State.emitLine_nec (s : State) (c pipe : Nat) (g : CtxFrame) (y : Nat) : (s.emitLine c pipe g y).1.nec = s.nec := by
  unfold State.emitLine
  refine foldlPair_nec _ (fun a x => ?_) _ _
  dsimp only
  split <;> simp

@[simp] theorem State.emitChroma_nec (s : State) (c : Nat) (pipe : Nat) (f : CtxFrame) :
    (State.emitChroma s c pipe f).nec = s.nec := by
  simp [State.emitChroma, foldl_nec]

@[simp] theorem State.emitFrame_nec (s : State) (c : Nat) (id : Nat) : (State.emitFrame s c id).nec = s.nec := by
  unfold State.emitFrame; (repeat' split) <;> simp [*, foldl_nec, foldlPair_nec]

@[simp] theorem State.closeFrame_nec (s : State) (c : Nat) (short : Bool) : (State.closeFrame s c short).nec = s.nec := by
  unfold State.closeFrame; (repeat' split) <;> simp [*]

@[simp] theorem State.noteBacklog_nec (s : State) (pipe : Nat) : (State.noteBacklog s pipe).nec = s.nec := by
  simp [State.noteBacklog]

@[simp] theorem State.takeLinePacket_nec (s : State) (port : Nat) (c : Nat) (dt : Nat) (pixels : List Nat) (bad : Bool) :
    (State.takeLinePacket s port c dt pixels bad).nec = s.nec := by
  unfold State.takeLinePacket; (repeat' split) <;> simp [*]

@[simp] theorem State.scbCtl_nec (s : State) (f : Part) (k : Nat) (w : U32) : (State.scbCtl s f k w).nec = s.nec := by
  simp [State.scbCtl]

@[simp] theorem State.scbPush_nec (s : State) (f : Part) (k : Nat) (v : Byte) : (State.scbPush s f k v).nec = s.nec := by
  simp [State.scbPush]

@[simp] theorem State.scbPop_nec (s : State) (b : Nat) : (s.scbPop b).1.nec = s.nec := by
  unfold State.scbPop; split <;> simp

@[simp] theorem State.enforcePins_nec (s : State) (old : Struct) : (State.enforcePins s old).nec = s.nec := by
  simp [State.enforcePins]

@[simp] theorem State.enforceBoard_nec (s : State) : (State.enforceBoard s).nec = s.nec := by
  simp [State.enforceBoard]

@[simp] theorem State.enforceInputs_nec (s : State) : (State.enforceInputs s).nec = s.nec := by
  simp [State.enforceInputs]

@[simp] theorem State.enforceRoles_nec (s : State) (old : Struct) : (State.enforceRoles s old).nec = s.nec := by
  simp [State.enforceRoles]

@[simp] theorem State.enforceOutputs_nec (s : State) (old : Struct) : (State.enforceOutputs s old).nec = s.nec := by
  simp [State.enforceOutputs]

@[simp] theorem State.refreshVfs_nec (s : State) : (State.refreshVfs s).nec = s.nec := by
  simp [State.refreshVfs]

@[simp] theorem State.enforceRegions_nec (s : State) (old : Struct) : (State.enforceRegions s old).nec = s.nec := by
  unfold State.enforceRegions
  refine (foldl_nec _ (fun s r => ?_) _ _).trans (foldl_nec _ (fun s r => ?_) _ _)
  · refine (foldl_nec _ (fun s l => ?_) _ _).trans rfl
    split
    · split <;> simp
    · rfl
  · rfl

@[simp] theorem State.enforceExports_nec (s : State) (old : Struct) : (State.enforceExports s old).nec = s.nec := by
  simp [State.enforceExports, foldl_nec]

@[simp] theorem State.enforceLinks_nec (s : State) (old : Struct) : (State.enforceLinks s old).nec = s.nec := by
  simp [State.enforceLinks, foldl_nec]

@[simp] theorem State.enforceCamera_nec (s : State) (old : Struct) : (State.enforceCamera s old).nec = s.nec := by
  simp [State.enforceCamera]

@[simp] theorem State.enforceStages_nec (s : State) : (State.enforceStages s).nec = s.nec := by
  simp [State.enforceStages]

@[simp] theorem State.enforceSafety_nec (s : State) (core : Option Bytes) : (State.enforceSafety s core).nec = s.nec := by
  unfold State.enforceSafety; (repeat' split) <;> simp [*]

@[simp] theorem State.rejectApply_nec (s : State) (n : Nat) (a : Apply) (status : Nat) (detail : Nat) :
    (State.rejectApply s n a status detail).nec = s.nec := by
  simp [State.rejectApply]

@[simp] theorem State.missFrame_nec (s : State) (r : Nat) (n : Nat) (a : Apply) : (State.missFrame s r n a).nec = s.nec := by
  simp [State.missFrame]

@[simp] theorem State.checkerFails_nec (s : State) (c : Nat × Nat) (g : Nat) : (State.checkerFails s c g).nec = s.nec := by
  unfold State.checkerFails; simp only []; (repeat' split) <;> simp_all

@[simp] theorem State.pairWrite_nec (s : State) (f : Part) (w : U32) : (State.pairWrite s f w).nec = s.nec := by
  simp [State.pairWrite]

@[simp] theorem State.draw_nec (s : State) (n : Nat) : (s.draw n).2.nec = s.nec := by simp [State.draw]

@[simp] theorem State.dropBlobs_nec (s : State) (a : Nat) (n : Nat) : (State.dropBlobs s a n).nec = s.nec := by
  simp [State.dropBlobs]

@[simp] theorem State.failLoad_nec (s : State) (f : Nat) (q : Nat) (pos : Nat) (status : Nat) (detail : Nat) (c : Cmd) (payload : Nat) :
    (State.failLoad s f q pos status detail c payload).nec = s.nec := by
  simp [State.failLoad]

@[simp] theorem State.openPackage_nec (s : State) (f : Nat) (q : Nat) (c : Cmd) (b : Bytes) (key : Bytes) (ep : Bool) :
    (State.openPackage s f q c b key ep).nec = s.nec := by
  unfold State.openPackage; simp only []; split
  · simp
  · split
    · simp
    · split <;> simp

@[simp] theorem State.newMemoryKey_nec (s : State) : (State.newMemoryKey s).nec = s.nec := by
  simp [State.newMemoryKey]

@[simp] theorem State.tagChanged_nec (s : State) : (State.tagChanged s).nec = s.nec := by
  simp [State.tagChanged]

@[simp] theorem State.setSpdm_nec (s : State) (p : SpdmPort) (x : Spdm) : (State.setSpdm s p x).nec = s.nec := by
  unfold State.setSpdm; (repeat' split) <;> simp [*]

@[simp] theorem State.endConsent_nec (s : State) : (State.endConsent s).nec = s.nec := by
  unfold State.endConsent; (repeat' split) <;> simp [*]

@[simp] theorem State.clearRsq_nec (s : State) (off : Nat) : (State.clearRsq s off).nec = s.nec := by
  simp [State.clearRsq]

@[simp] theorem State.clearCin_nec (s : State) (off : Nat) : (State.clearCin s off).nec = s.nec := by
  simp [State.clearCin]

@[simp] theorem State.clearIsp_nec (s : State) (off : Nat) : (State.clearIsp s off).nec = s.nec := by
  simp [State.clearIsp]

@[simp] theorem State.clearStage_nec (s : State) (i : Nat) (r : Nat) : (State.clearStage s i r).nec = s.nec := by
  simp [State.clearStage]

@[simp] theorem State.clearMash_nec (s : State) (off : Nat) : (State.clearMash s off).nec = s.nec := by
  simp [State.clearMash]

@[simp] theorem State.clearMem_nec (s : State) (off : Nat) : (State.clearMem s off).nec = s.nec := by
  simp [State.clearMem]

@[simp] theorem State.clearLnk_nec (s : State) (off : Nat) : (State.clearLnk s off).nec = s.nec := by
  simp [State.clearLnk]

@[simp] theorem State.clearTmg_nec (s : State) (off : Nat) : (State.clearTmg s off).nec = s.nec := by
  simp [State.clearTmg]

@[simp] theorem State.clearSaf_nec (s : State) (off : Nat) : (State.clearSaf s off).nec = s.nec := by
  simp [State.clearSaf]

@[simp] theorem State.clearMgt_nec (s : State) (off : Nat) : (State.clearMgt s off).nec = s.nec := by
  simp [State.clearMgt]

@[simp] theorem State.clearLog_nec (s : State) (off : Nat) : (State.clearLog s off).nec = s.nec := by
  simp [State.clearLog]

@[simp] theorem State.memCorrected_nec (s : State) (a : Nat) : (State.memCorrected s a).nec = s.nec := by
  simp [State.memCorrected]

@[simp] theorem State.memUncorrectable_nec (s : State) (a : Nat) : (State.memUncorrectable s a).nec = s.nec := by
  simp [State.memUncorrectable]

@[simp] theorem State.countFind_nec (s : State) (a : Nat) (e : EccFind) : (s.countFind a e).nec = s.nec := by
  cases e <;> simp [State.countFind]

@[simp] theorem State.pairFill_nec (s : State) (a : Nat) : (State.pairFill s a).nec = s.nec := by
  simp [State.pairFill]

@[simp] theorem State.keepSeq_nec (s : State) (l : Log) : (State.keepSeq s l).nec = s.nec := by
  simp [State.keepSeq]

@[simp] theorem State.appendNext_nec (s : State) : (State.appendNext s).nec = s.nec := by
  unfold State.appendNext; (repeat' split) <;> simp [*]

@[simp] theorem State.norCopy_nec (s : State) (ok : Bool) : (State.norCopy s ok).nec = s.nec := by
  unfold State.norCopy; (repeat' split) <;> simp [*]

@[simp] theorem State.appendMany_nec (s : State) (n : Nat) : (State.appendMany s n).nec = s.nec := by
  induction n generalizing s with
  | zero => rfl
  | succ n ih => unfold State.appendMany; simp [ih]

@[simp] theorem State.copyMany_nec (s : State) (n : Nat) : (State.copyMany s n).nec = s.nec := by
  induction n generalizing s with
  | zero => rfl
  | succ n ih => unfold State.copyMany; simp [ih]

@[simp] theorem State.patrolUe_nec (s : State) (block : Nat) (a : Nat) (intervened : Bool) :
    (State.patrolUe s block a intervened).nec = s.nec := by
  simp [State.patrolUe]

@[simp] theorem State.patrolBlock_nec (s : State) (block : Nat) (errs : List Bytes) (intervened : Bool) :
    (State.patrolBlock s block errs intervened).nec = s.nec := by
  refine foldl_nec _ (fun s x => ?_) _ _
  dsimp only
  split
  · rfl
  · split <;> simp

@[simp] theorem State.defer_nec (s : State) (activity : Nat) : (State.defer s activity).nec = s.nec := by
  simp [State.defer]

@[simp] theorem State.setBg_nec (s : State) (f : Part) (w : U32) : (State.setBg s f w).nec = s.nec := by
  simp [State.setBg]

@[simp] theorem State.askSource_nec (s : State) (part : Nat) (board : Nat) (a : Nat) (n : Nat) (cmd : Option (Nat × Nat × Nat)) :
    (State.askSource s part board a n cmd).nec = s.nec := by
  simp [State.askSource, foldl_nec]

@[simp] theorem State.sendOwn_nec (s : State) (f : Nat) (q : Nat) (c : Cmd) : (State.sendOwn s f q c).nec = s.nec := by
  unfold State.sendOwn; simp only []; (repeat' split) <;> simp_all

@[simp] theorem State.startApply_nec (s : State) (f : Nat) (q : Nat) (c : Cmd) (point : ApplyPoint) :
    (State.startApply s f q c point).nec = s.nec := by
  unfold State.startApply; simp only []; (repeat' split) <;> simp_all

@[simp] theorem State.readmit_nec (s : State) (b : Nat) : (State.readmit s b).nec = s.nec := by
  simp [State.readmit]

@[simp] theorem State.returned_nec (s : State) (b : Nat) (tag : Bytes) : (State.returned s b tag).nec = s.nec := by
  simp [State.returned]

@[simp] theorem State.dropHomed_nec (s : State) (b : Nat) : (State.dropHomed s b).nec = s.nec := by
  simp [State.dropHomed, foldl_nec]

@[simp] theorem State.dropHolder_nec (s : State) (b : Nat) : (State.dropHolder s b).nec = s.nec := by
  simp [State.dropHolder, foldl_nec]

@[simp] theorem State.oweCredits_nec (s : State) (p : Nat) (m : Msg) (len : Nat) : (State.oweCredits s p m len).nec = s.nec := by
  simp [State.oweCredits]

@[simp] theorem State.relay_nec (s : State) (p n : Nat) (b : Bytes) : (State.relay p n s b).1.nec = s.nec := by
  induction n generalizing s b with
  | zero => rfl
  | succ n ih => unfold State.relay; simp only []; (repeat' split) <;> simp [ih]

@[simp] theorem State.replay_nec (s : State) (p : Nat) : (State.replay s p).nec = s.nec := by
  simp [State.replay]

@[simp] theorem State.restartMessage_nec (s : State) (dest : Nat) (f : Nat) (q : Nat) (c : Cmd) :
    (State.restartMessage s dest f q c).nec = s.nec := by
  simp [State.restartMessage]

@[simp] theorem State.markFrame_nec (s : State) (own : Nat × Nat × Nat) (poisoned : Bool) (lost : Bool) :
    (State.markFrame s own poisoned lost).nec = s.nec := by
  simp [State.markFrame]

@[simp] theorem State.askPiece_nec (s : State) (c : Nat) (x : Xfer) (a n : Nat) : (s.askPiece c x a n).1.nec = s.nec := by
  unfold State.askPiece; simp only []; split <;> simp [foldl_nec]

@[simp] theorem State.storePiece_nec (s : State) (part : Nat) (host : Bool) (a : Nat) (bs : Bytes) (bad : List Nat) (cmd : Option (Nat × Nat × Nat)) :
    (State.storePiece s part host a bs bad cmd).nec = s.nec := by
  simp [State.storePiece, foldl_nec]

@[simp] theorem State.halt_nec (s : State) (f : Nat) (q : Nat) (error : Nat) : (State.halt s f q error).nec = s.nec := by
  simp [State.halt]

@[simp] theorem State.raise_nec (s : State) (f : Nat) (q : Nat) : (State.raise s f q).nec = s.nec := by
  simp [State.raise]

@[simp] theorem State.postEntry_nec (s : State) (f : Nat) (q : Nat) (seq : Nat) (status : Nat) (detail : Nat) (source : Nat) :
    (State.postEntry s f q seq status detail source).nec = s.nec := by
  simp [State.postEntry]

@[simp] theorem State.settle_nec (s : State) (f : Nat) (q : Nat) : (State.settle s f q).nec = s.nec := by
  simp [State.settle]

@[simp] theorem State.postAborted_nec (s : State) (f : Nat) (q : Nat) (status : Nat) (a : Aborted) :
    (State.postAborted s f q status a).nec = s.nec := by
  simp [State.postAborted]

@[simp] theorem State.postAborts_nec (s : State) (f q n : Nat) : (State.postAborts s f q n).nec = s.nec := by
  induction n generalizing s with
  | zero => rfl
  | succ n ih => unfold State.postAborts; simp only []; (repeat' split) <;> simp [ih]

@[simp] theorem State.ringTail_nec (s : State) (f : Part) (q : Fin 64) (idx : BitVec 16) :
    (State.ringTail s f q idx).nec = s.nec := by
  simp [State.ringTail]

@[simp] theorem State.ringHead_nec (s : State) (f : Part) (q : Fin 64) (idx : BitVec 16) :
    (State.ringHead s f q idx).nec = s.nec := by
  simp [State.ringHead]

@[simp] theorem State.takeDescriptor_nec (s : State) (f : Nat) (q : Nat) (d : Bytes) :
    (State.takeDescriptor s f q d).nec = s.nec := by
  unfold State.takeDescriptor; simp only []; (repeat' split) <;> simp_all

@[simp] theorem State.settleLoad_nec (s : State) (f : Nat) (q : Nat) (pos : Nat) (ok : Bool) :
    (State.settleLoad s f q pos ok).nec = s.nec := by
  simp [State.settleLoad]

@[simp] theorem State.turnOn_nec (s : State) (f : Part) (q : Fin 64) (w : U32) : (State.turnOn s f q w).nec = s.nec := by
  simp [State.turnOn]

@[simp] theorem State.turnOff_nec (s : State) (f : Part) (q : Fin 64) (w : U32) : (State.turnOff s f q w).nec = s.nec := by
  simp [State.turnOff]

@[simp] theorem State.setMode_nec (s : State) (m : Nat) : (State.setMode s m).nec = s.nec := by
  simp [State.setMode]

@[simp] theorem State.closeLoop_nec (s : State) : (State.closeLoop s).nec = s.nec := by
  simp [State.closeLoop]

@[simp] theorem State.askClosed_nec (s : State) (f : Part) (w : U32) : (State.askClosed s f w).nec = s.nec := by
  simp [State.askClosed]

@[simp] theorem State.askHold_nec (s : State) (f : Part) (w : U32) : (State.askHold s f w).nec = s.nec := by
  simp [State.askHold]

@[simp] theorem State.askSoftware_nec (s : State) (f : Part) (w : U32) : (State.askSoftware s f w).nec = s.nec := by
  simp [State.askSoftware]

@[simp] theorem State.setDco_nec (s : State) (f : Part) (upper : U32) : (State.setDco s f upper).nec = s.nec := by
  simp [State.setDco]

@[simp] theorem State.setTod_nec (s : State) (f : Part) (upper : U32) : (State.setTod s f upper).nec = s.nec := by
  simp [State.setTod]

@[simp] theorem State.askStep_nec (s : State) (f : Part) (upper : U32) : (State.askStep s f upper).nec = s.nec := by
  simp [State.askStep]

@[simp] theorem State.askRealign_nec (s : State) (f : Part) (output : Fin 9) (w : U32) :
    (State.askRealign s f output w).nec = s.nec := by
  simp [State.askRealign]

@[simp] theorem State.realignStep_nec (s : State) (o : Nat) : (State.realignStep s o).nec = s.nec := by
  unfold State.realignStep; (repeat' split) <;> simp [*]

@[simp] theorem State.takeRequest_nec (s : State) (request : Nat) : (State.takeRequest s request).nec = s.nec := by
  simp [State.takeRequest]

@[simp] theorem State.askClaim_nec (s : State) (f : Part) (w : U32) : (State.askClaim s f w).nec = s.nec := by
  simp [State.askClaim]

@[simp] theorem State.askRotate_nec (s : State) (f : Part) (w : U32) : (State.askRotate s f w).nec = s.nec := by
  simp [State.askRotate]

@[simp] theorem State.installTenant_nec (s : State) (key : Bytes) (base : Nat) :
    (State.installTenant s key base).nec = s.nec := by
  simp [State.installTenant]

@[simp] theorem State.spdmAnswer_nec (s : State) (p : SpdmPort) (ok : Bool) (data : Bytes) (g : Spdm → Spdm) :
    (State.spdmAnswer s p ok data g).nec = s.nec := by
  simp [State.spdmAnswer]

@[simp] theorem State.pokeQueue_nec (s : State) (f : Part) (q : Fin 64) (r : Nat) (w : U32) :
    (State.pokeQueue s f q r w).nec = s.nec := by
  simp [State.pokeQueue]

@[simp] theorem State.pokeFn_nec (s : State) (f : Part) (off : Nat) (w : U32) : (State.pokeFn s f off w).nec = s.nec := by
  simp [State.pokeFn]

@[simp] theorem State.pokeBar2_nec (s : State) (f : Part) (off : Nat) (w : U32) : (State.pokeBar2 s f off w).nec = s.nec := by
  simp [State.pokeBar2]

@[simp] theorem State.pokeCin_nec (s : State) (off : Nat) (w : U32) : (State.pokeCin s off w).nec = s.nec := by
  simp [State.pokeCin]

@[simp] theorem State.setQl_nec (s : State) (i : Nat) (ql : Nat) : (State.setQl s i ql).nec = s.nec := by
  simp [State.setQl]

theorem iteEq_nec {c : Prop} [Decidable c] {s a b : State} (h1 : a.nec = s.nec) (h2 : b.nec = s.nec) :
    (if c then a else b).nec = s.nec := by
  split <;> assumption

@[simp] theorem State.pokeTmg_nec (s : State) (off : Nat) (w : U32) : (State.pokeTmg s off w).nec = s.nec := by
  refine iteEq_nec ?_ (iteEq_nec ?_ (iteEq_nec ?_ (iteEq_nec ?_ (iteEq_nec ?_ (iteEq_nec ?_ (iteEq_nec ?_ (iteEq_nec ?_ (iteEq_nec ?_
    (iteEq_nec ?_ (iteEq_nec ?_ ?_))))))))))
  · split <;> simp
  · exact iteEq_nec rfl rfl
  · simp
  · rfl
  · simp
  · rfl
  · simp
  · rfl
  · rfl
  · exact iteEq_nec (by simp) rfl
  · exact iteEq_nec (by simp) rfl
  · rfl

@[simp] theorem State.pokeSec_nec (s : State) (off : Nat) (w : U32) : (State.pokeSec s off w).nec = s.nec := by
  unfold State.pokeSec; (repeat' split) <;> simp [*]

@[simp] theorem State.pokeRange_nec (s : State) (off : Nat) (w : U32) : (State.pokeRange s off w).nec = s.nec := by
  simp [State.pokeRange]

@[simp] theorem State.pokeFw_nec (s : State) (w : U32) : (State.pokeFw s w).nec = s.nec := by
  unfold State.pokeFw; (repeat' split) <;> simp [*]

@[simp] theorem State.pokeMgt_nec (s : State) (off : Nat) (w : U32) : (State.pokeMgt s off w).nec = s.nec := by
  simp [State.pokeMgt]

@[simp] theorem State.pokeRec_nec (s : State) (off : Nat) (w : U32) : (State.pokeRec s off w).nec = s.nec := by
  unfold State.pokeRec; (repeat' split) <;> simp [*]

@[simp] theorem State.pokePwr_nec (s : State) (off : Nat) (w : U32) : (State.pokePwr s off w).nec = s.nec := by
  simp [State.pokePwr]

@[simp] theorem State.freeStage_nec (s : State) (r : Nat) (id : Nat) (m : NodeRun) : (State.freeStage s r id m).nec = s.nec := by
  unfold State.freeStage
  dsimp only
  split
  · split
    · rw [State.mapFrame_nec]
    · rfl
  · rfl

@[simp] theorem State.beginGather_nec (s : State) (f : Nat) (q : Nat) (c : Cmd) (b : Bytes) (ep : Bool) (scalar : Nat) (own : Nat) (share : Bytes) :
    (State.beginGather s f q c b ep scalar own share).nec = s.nec := by
  simp [State.beginGather]

@[simp] theorem State.poisonBlob_nec (s : State) (i : Nat) (b : Blob) : (State.poisonBlob s i b).nec = s.nec := by
  simp [State.poisonBlob]

@[simp] theorem State.abortFrameApplies_nec (s : State) : (State.abortFrameApplies s).nec = s.nec := by
  unfold State.abortFrameApplies
  refine foldl_nec _ (fun s x => ?_) _ _
  split
  · split <;> simp
  · rfl

@[simp] theorem State.abortQueue_nec (s : State) (f : Nat) (q : Nat) : (State.abortQueue s f q).nec = s.nec := by
  simp [State.abortQueue, foldl_nec]

@[simp] theorem State.removeVfs_nec (s : State) : (State.removeVfs s).nec = s.nec := by
  simp [State.removeVfs]

@[simp] theorem State.destroyKeys_nec (s : State) : (State.destroyKeys s).nec = s.nec := by
  simp [State.destroyKeys]

@[simp] theorem State.renewPorts_nec (s : State) : (State.renewPorts s).nec = s.nec := by
  simp [State.renewPorts, foldl_nec]

end Sys2Proof.Machine
end

