-- ==== Sys2Proof/Laws/FrameStg.lean ====
section
/-! SUPPORT. The operations that leave the stages alone: one lemma for each, which says so (`.stg` is the field of State that holds it). -/

namespace Sys2Proof.Machine

set_option linter.all false

@[simp] theorem ite_stg (c : Prop) [Decidable c] (a b : State) : (if c then a else b).stg = if c then a.stg else b.stg := by
  split <;> rfl

theorem foldl_stg {α : Type} (f : State → α → State) (h : ∀ s x, (f s x).stg = s.stg) (l : List α) (s : State) :
    (l.foldl f s).stg = s.stg := by
  induction l generalizing s with
  | nil => rfl
  | cons a t ih => rw [List.foldl_cons, ih, h]

theorem foldlPair_stg {α β : Type} (f : State × β → α → State × β) (h : ∀ a x, (f a x).1.stg = a.1.stg) (l : List α)
    (a : State × β) : (l.foldl f a).1.stg = a.1.stg := by
  induction l generalizing a with
  | nil => rfl
  | cons x t ih => rw [List.foldl_cons, ih, h]

@[simp] theorem State.sendEvents_stg (s : State) : (State.sendEvents s).stg = s.stg := by
  simp [State.sendEvents]

@[simp] theorem State.event_stg (s : State) (f : Nat) (c : Nat) (source : Nat) : (State.event s f c source).stg = s.stg := by
  unfold State.event; (repeat' split) <;> simp [*]

@[simp] theorem State.eventAll_stg (s : State) (c : Nat) (source : Nat) : (State.eventAll s c source).stg = s.stg := by
  simp [State.eventAll, foldl_stg]

@[simp] theorem State.memWrite_stg (s : State) (a : Nat) (bs : Bytes) (poison : Bool) :
    (State.memWrite s a bs poison).stg = s.stg := by
  simp [State.memWrite]

@[simp] theorem State.memWriteMixed_stg (s : State) (a : Nat) (bs : Bytes) (pz : Nat → Bool) :
    (State.memWriteMixed s a bs pz).stg = s.stg := by
  simp [State.memWriteMixed, foldl_stg]

@[simp] theorem State.fix_stg (s : State) (f : Nat) (q : Nat) (pos : Nat) (status : Nat) (detail : Nat) (source : Nat) :
    (State.fix s f q pos status detail source).stg = s.stg := by
  unfold State.fix; simp only []; (repeat' split) <;> simp_all

@[simp] theorem State.refuse_stg (s : State) (f : Nat) (q : Nat) (pos : Nat) (detail : Nat) :
    (State.refuse s f q pos detail).stg = s.stg := by
  simp [State.refuse]

@[simp] theorem State.setCmd_stg (s : State) (f : Nat) (q : Nat) (pos : Nat) (g : Cmd → Cmd) :
    (State.setCmd s f q pos g).stg = s.stg := by
  simp [State.setCmd]

@[simp] theorem State.underWay_stg (s : State) (f : Nat) (q : Nat) (pos : Nat) (status : Nat) (detail : Nat) (source : Nat) :
    (State.underWay s f q pos status detail source).stg = s.stg := by
  simp [State.underWay]

@[simp] theorem State.driveSafeOff_stg (s : State) (on : Bool) : (State.driveSafeOff s on).stg = s.stg := by
  simp [State.driveSafeOff]

@[simp] theorem State.sendCan_stg (s : State) (ident : Nat) (typ : Nat) (alive : BitVec 8) :
    (State.sendCan s ident typ alive).stg = s.stg := by
  simp [State.sendCan]

@[simp] theorem State.setSaf_stg (s : State) (st : SafSt) : (State.setSaf s st).stg = s.stg := by
  simp [State.setSaf]

@[simp] theorem State.enterSafe_stg (s : State) (cause : Nat) (gtc : Nat) (source : Nat) (hw : Bool) :
    (State.enterSafe s cause gtc source hw).stg = s.stg := by
  simp [State.enterSafe]

@[simp] theorem State.latchCause_stg (s : State) (cause : Nat) (source : Nat) :
    (State.latchCause s cause source).stg = s.stg := by
  simp [State.latchCause]

@[simp] theorem State.undefine_stg (s : State) (f : Nat) (addr : Nat) (n : Nat) : (State.undefine s f addr n).stg = s.stg := by
  unfold State.undefine; (repeat' split) <;> simp [*]

@[simp] theorem State.reroute_stg (s : State) : (State.reroute s).stg = s.stg := by
  simp [State.reroute, foldl_stg]

@[simp] theorem State.sendFlit_stg (s : State) (p : Nat) (idle : Bool) (payload : Bytes) :
    (State.sendFlit s p idle payload).stg = s.stg := by
  simp [State.sendFlit]

@[simp] theorem State.pump_stg (s : State) (p : Nat) (l : List Bytes) : (State.pump s p l).stg = s.stg := by
  induction l generalizing s with
  | nil => simp [State.pump]
  | cons b t ih => unfold State.pump; split <;> simp [ih]

@[simp] theorem State.sendIdle_stg (s : State) (p : Nat) : (State.sendIdle s p).stg = s.stg := by
  simp [State.sendIdle]

@[simp] theorem State.nak_stg (s : State) (p : Nat) : (State.nak s p).stg = s.stg := by
  simp [State.nak]

@[simp] theorem State.portSend_stg (s : State) (p : Nat) (lane : Nat) (m : Msg) : (State.portSend s p lane m).stg = s.stg := by
  simp [State.portSend]

@[simp] theorem State.strand_stg (s : State) (m : Msg) : (State.strand s m).stg = s.stg := by
  simp [State.strand]

@[simp] theorem State.forward_stg (s : State) (m : Msg) : (State.forward s m).stg = s.stg := by
  unfold State.forward; (repeat' split) <;> simp [*]

@[simp] theorem State.sendMsg_stg (s : State) (m : Msg) : (State.sendMsg s m).stg = s.stg := by
  simp [State.sendMsg]

@[simp] theorem State.flushStuck_stg (s : State) : (State.flushStuck s).stg = s.stg := by
  simp [State.flushStuck, foldl_stg]

@[simp] theorem State.advertise_stg (s : State) : (State.advertise s).stg = s.stg := by
  simp [State.advertise]

@[simp] theorem State.tellLinks_stg (s : State) : (State.tellLinks s).stg = s.stg := by
  simp [State.tellLinks]

@[simp] theorem State.linksChanged_stg (s : State) : (State.linksChanged s).stg = s.stg := by
  simp [State.linksChanged]

@[simp] theorem State.sendRequest_stg (s : State) (m : Msg) (cmd : Option (Nat × Nat × Nat)) :
    (State.sendRequest s m cmd).stg = s.stg := by
  simp [State.sendRequest]

@[simp] theorem State.request_stg (s : State) (m : Msg) (cmd : Option (Nat × Nat × Nat)) :
    (State.request s m cmd).stg = s.stg := by
  simp [State.request]

@[simp] theorem State.issueWaiting_stg (s : State) (d n : Nat) : (State.issueWaiting s d n).stg = s.stg := by
  induction n generalizing s with
  | zero => rfl
  | succ n ih => unfold State.issueWaiting; (repeat' split) <;> simp [ih]

@[simp] theorem State.answered_stg (s : State) (src : Nat) (reqId : Nat) : (State.answered s src reqId).stg = s.stg := by
  simp [State.answered]

@[simp] theorem State.markRun_stg (s : State) (r : Nat) (id : Nat) (poisoned : Bool) (lost : Bool) :
    (State.markRun s r id poisoned lost).stg = s.stg := by
  simp [State.markRun]

@[simp] theorem State.markCmd_stg (s : State) (cmd : Option (Nat × Nat × Nat)) (poisoned : Bool) (lost : Bool) :
    (State.markCmd s cmd poisoned lost).stg = s.stg := by
  unfold State.markCmd; (repeat' split) <;> simp [*]

@[simp] theorem State.poisonRead_stg (s : State) (part : Nat) (a : Nat) (source : Nat) :
    (State.poisonRead s part a source).stg = s.stg := by
  simp [State.poisonRead]

@[simp] theorem State.deliverTo_stg (s : State) (part : Nat) (a : Nat) (source : Nat) (data : Bytes) (poison : Bool) :
    (State.deliverTo s part a source data poison).stg = s.stg := by
  simp [State.deliverTo]

@[simp] theorem State.remoteWrite_stg (s : State) (board : Nat) (part : Nat) (a : Nat) (bs : Bytes) (poison : Bool) (cmd : Option (Nat × Nat × Nat)) :
    (State.remoteWrite s board part a bs poison cmd).stg = s.stg := by
  simp [State.remoteWrite, foldl_stg]

@[simp] theorem State.answer_stg (s : State) (m : Msg) : (State.answer s m).stg = s.stg := by
  simp [State.answer]

@[simp] theorem State.answerLine_stg (s : State) (typ : Nat) (r : HomeReq) : (State.answerLine s typ r).stg = s.stg := by
  simp [State.answerLine]

@[simp] theorem State.answerBare_stg (s : State) (typ : Nat) (dest : Nat) (reqId : Nat) (part : Nat) (addr : Nat) :
    (State.answerBare s typ dest reqId part addr).stg = s.stg := by
  simp [State.answerBare]

@[simp] theorem State.snoop_stg (s : State) (typ : Nat) (req : HomeReq) (boards : List Nat) :
    (State.snoop s typ req boards).stg = s.stg := by
  simp [State.snoop, foldl_stg]

@[simp] theorem State.mergeLine_stg (s : State) (r : HomeReq) (poison : Bool) : (State.mergeLine s r poison).stg = s.stg := by
  simp [State.mergeLine, foldl_stg]

@[simp] theorem State.finishReq_stg (s : State) (r : HomeReq) (was : Option DirEnt) (gone : List Nat) :
    (State.finishReq s r was gone).stg = s.stg := by
  unfold State.finishReq; (repeat' split) <;> simp [*]

@[simp] theorem State.beginReq_stg (s : State) (r : HomeReq) : (State.beginReq s r).stg = s.stg := by
  unfold State.beginReq; simp only []; (repeat' split) <;> simp_all

@[simp] theorem State.startReq_stg (s : State) (r : HomeReq) : (State.startReq s r).stg = s.stg := by
  unfold State.startReq; (repeat' split) <;> simp [*]

@[simp] theorem State.drainQueue_stg (s : State) : (State.drainQueue s).stg = s.stg := by
  simp [State.drainQueue, foldl_stg]

@[simp] theorem State.settleLeaving_stg (s : State) : (State.settleLeaving s).stg = s.stg := by
  simp [State.settleLeaving]

@[simp] theorem State.snoopAnswer_stg (s : State) (board : Nat) (a : Nat) (inFlight : Bool) :
    (State.snoopAnswer s board a inFlight).stg = s.stg := by
  unfold State.snoopAnswer; (repeat' split) <;> simp [*]

@[simp] theorem State.pruneKept_stg (s : State) (h : FabHdr) : (State.pruneKept s h).stg = s.stg := by
  simp [State.pruneKept]

@[simp] theorem State.resendKept_stg (s : State) (k : Kept) : (State.resendKept s k).stg = s.stg := by
  simp [State.resendKept]

@[simp] theorem State.homeRequest_stg (s : State) (typ : ReqType) (h : FabHdr) (mask : List Bool) (data : Bytes) (poison : Bool) :
    (State.homeRequest s typ h mask data poison).stg = s.stg := by
  unfold State.homeRequest; simp only []; (repeat' split) <;> simp_all

@[simp] theorem State.withdraw_stg (s : State) (r : Bytes) : (State.withdraw s r).stg = s.stg := by
  simp [State.withdraw, foldl_stg]

@[simp] theorem State.recall_stg (s : State) (part : Nat) (lines : List Nat) : (State.recall s part lines).stg = s.stg := by
  simp [State.recall, foldl_stg]

@[simp] theorem State.putPart_stg (s : State) (part : Nat) (a : Nat) (bs : Bytes) (poison : Bool) :
    (State.putPart s part a bs poison).stg = s.stg := by
  simp [State.putPart]

@[simp] theorem State.put_stg (s : State) (part : Nat) (a : Nat) (bs : Bytes) (poison : Bool) :
    (State.put s part a bs poison).stg = s.stg := by
  simp [State.put, foldl_stg]

@[simp] theorem State.putMixed_stg (s : State) (part : Nat) (a : Nat) (bs : Bytes) (pz : Nat → Bool) :
    (State.putMixed s part a bs pz).stg = s.stg := by
  simp [State.putMixed, foldl_stg]

@[simp] theorem State.takeOver_stg (s : State) : (State.takeOver s).stg = s.stg := by
  simp [State.takeOver, foldl_stg]

@[simp] theorem State.evict_stg (s : State) (l : RLine) : (State.evict s l).stg = s.stg := by
  simp [State.evict]

theorem State.cellarAlloc_stg (s : State) (x : Bytes) (a : Nat) (d : Bool) (t : State) (h : s.cellarAlloc x a d = some t) :
    t.stg = s.stg := by
  unfold State.cellarAlloc at h
  simp only [] at h
  (repeat' split at h) <;> (try cases h) <;> simp

@[simp] theorem State.cellarAllocD_stg (s : State) (x : Bytes) (a : Nat) (d : Bool) : ((s.cellarAlloc x a d).getD s).stg = s.stg := by
  cases h : s.cellarAlloc x a d with
  | none => rfl
  | some t => exact State.cellarAlloc_stg _ _ _ _ _ h

@[simp] theorem State.deliver_stg (s : State) (r : CellarReq) (data : Bytes) (poison : Bool) :
    (State.deliver s r data poison).stg = s.stg := by
  simp [State.deliver]

@[simp] theorem State.remoteAccess_stg (s : State) (r : CellarReq) : (State.remoteAccess s r).stg = s.stg := by
  unfold State.remoteAccess
  simp only []
  split
  · (repeat' split) <;> simp
  · split
    · rename_i t h
      have ht : t.stg = s.stg := by
        split at h
        · split at h
          · have := State.cellarAlloc_stg _ _ _ _ _ h
            simp at this
            exact this
          · cases h
        · cases h
      simp [ht]
    · split <;> simp

@[simp] theorem State.serveWaiters_stg (s : State) (l : List CellarReq) : (State.serveWaiters s l).stg = s.stg := by
  simp [State.serveWaiters, foldl_stg]

@[simp] theorem State.installLine_stg (s : State) (a : Nat) (st : CohSt) (data : Option (Bytes × Bool)) :
    (State.installLine s a st data).stg = s.stg := by
  unfold State.installLine; (repeat' split) <;> simp [*]

@[simp] theorem State.refetch_stg (s : State) (l : RLine) : (State.refetch s l).stg = s.stg := by
  simp [State.refetch]

@[simp] theorem State.maskedWrite_stg (s : State) (r : CellarReq) : (State.maskedWrite s r).stg = s.stg := by
  simp [State.maskedWrite]

@[simp] theorem State.cellarCount_stg (s : State) (r : CellarReq) : (State.cellarCount s r).stg = s.stg := by
  unfold State.cellarCount
  simp only []
  (repeat' split) <;> simp

@[simp] theorem State.localAccess_stg (s : State) (r : CellarReq) : (State.localAccess s r).stg = s.stg := by
  simp [State.localAccess]

@[simp] theorem State.poisonLine_stg (s : State) (a : Nat) : (State.poisonLine s a).stg = s.stg := by
  simp [State.poisonLine]

@[simp] theorem State.takeSource_stg (s : State) (cmd : Option (Nat × Nat × Nat)) (c : Cmd) (f : Nat) (q : Nat) (a : Nat) (data : Bytes) (poison : Bool) :
    (State.takeSource s cmd c f q a data poison).stg = s.stg := by
  unfold State.takeSource; simp only []; (repeat' split) <;> simp_all

@[simp] theorem State.takeCoreLine_stg (s : State) (c : Nat) (part : Nat) (a : Nat) (data : Bytes) (poison : Bool) :
    (State.takeCoreLine s c part a data poison).stg = s.stg := by
  simp [State.takeCoreLine]

@[simp] theorem State.takeNokeep_stg (s : State) (u : Unans) (a : Nat) (data : Bytes) (poison : Bool) :
    (State.takeNokeep s u a data poison).stg = s.stg := by
  unfold State.takeNokeep; (repeat' split) <;> simp [*]

@[simp] theorem State.failLine_stg (s : State) (a : Nat) : (State.failLine s a).stg = s.stg := by
  unfold State.failLine; (repeat' split) <;> simp [*, foldl_stg]

@[simp] theorem State.failRequest_stg (s : State) (u : Unans) : (State.failRequest s u).stg = s.stg := by
  unfold State.failRequest; (repeat' split) <;> simp [*]

@[simp] theorem State.failMsg_stg (s : State) (u : Unans) : (State.failMsg s u).stg = s.stg := by
  simp [State.failMsg]

@[simp] theorem State.useDma_stg (s : State) (j : Job) : (State.useDma s j).stg = s.stg := by
  simp [State.useDma]

@[simp] theorem State.useSealing_stg (s : State) (j : Job) : (State.useSealing s j).stg = s.stg := by
  simp [State.useSealing]

@[simp] theorem State.useMessage_stg (s : State) (n : Nat) (j : Job) : (State.useMessage s n j).stg = s.stg := by
  simp [State.useMessage]

theorem poisonReads_stg (p src : Nat) (g : State → Nat → Nat) (l : List Nat) (s : State) :
    (l.foldl (fun s i => s.poisonRead p (g s i) src) s).stg = s.stg :=
  foldl_stg _ (fun s x => State.poisonRead_stg s p (g s x) src) l s

@[simp] theorem State.readLocal_stg (s : State) (f : Nat) (a : Nat) (n : Nat) : (State.readLocal s f a n).stg = s.stg := by
  exact poisonReads_stg f (srcPart f) (fun s l => s.struct.boardId * 2 ^ 40 + 128 * l) _ s

@[simp] theorem State.toHost_stg (s : State) (f : Nat) (q : Nat) (seq : Nat) (addr : Nat) (bs : Bytes) (first : Nat) (pz : Nat → Bool) :
    (State.toHost s f q seq addr bs first pz).stg = s.stg := by
  simp [State.toHost, foldl_stg]

@[simp] theorem State.toPlace_stg (s : State) (f : Nat) (p : Place) (bs : Bytes) (pz : Nat → Bool) (cmd : Option (Nat × Nat × Nat)) :
    (State.toPlace s f p bs pz cmd).stg = s.stg := by
  unfold State.toPlace; (repeat' split) <;> simp [*, foldl_stg]

@[simp] theorem State.settleEntry_stg (s : State) (a : Nat) (e : Option DirEnt) : (State.settleEntry s a e).stg = s.stg := by
  unfold State.settleEntry; (repeat' split) <;> simp [*]

@[simp] theorem State.eviction_stg (s : State) (h : FabHdr) (data : Option (Bytes × Bool)) :
    (State.eviction s h data).stg = s.stg := by
  unfold State.eviction; simp only []; (repeat' split) <;> simp_all

@[simp] theorem State.snoopReply_stg (s : State) (home : Nat) (typ : Nat) (reqId : Nat) (a : Nat) (data : Bytes) (poison : Bool) :
    (State.snoopReply s home typ reqId a data poison).stg = s.stg := by
  simp [State.snoopReply]

@[simp] theorem State.ringWrite_stg (s : State) (w : Bytes) (off : Nat) (bs : Bytes) (poison : Bool) :
    (State.ringWrite s w off bs poison).stg = s.stg := by
  simp [State.ringWrite]

@[simp] theorem State.addMail_stg (s : State) (m : MailIn) : (State.addMail s m).stg = s.stg := by
  simp [State.addMail]

@[simp] theorem State.fixSend_stg (s : State) (cmd : Option (Nat × Nat × Nat)) (source : Nat) :
    (State.fixSend s cmd source).stg = s.stg := by
  unfold State.fixSend; (repeat' split) <;> simp [*]

@[simp] theorem State.ownMailDone_stg (s : State) (reqId : Nat) : (State.ownMailDone s reqId).stg = s.stg := by
  unfold State.ownMailDone; (repeat' split) <;> simp [*]

@[simp] theorem State.passMails_stg (s : State) (w : Bytes) (x : Nat) (l : List MailIn) : (State.passMails s w x l).stg = s.stg := by
  induction l generalizing s with
  | nil => simp [State.passMails]
  | cons b t ih => unfold State.passMails; simp only []; (repeat' split) <;> simp [ih]

@[simp] theorem State.mailWhole_stg (s : State) (w : Bytes) (m : MailIn) : (State.mailWhole s w m).stg = s.stg := by
  simp [State.mailWhole]

@[simp] theorem State.recallSource_stg (s : State) (f : Nat) (c : Cmd) (o : Nat) (n : Nat) :
    (State.recallSource s f c o n).stg = s.stg := by
  unfold State.recallSource; (repeat' split) <;> simp [*]

@[simp] theorem State.startMessage_stg (s : State) (dest : Nat) (f : Nat) (q : Nat) (c : Cmd) :
    (State.startMessage s dest f q c).stg = s.stg := by
  simp [State.startMessage]

@[simp] theorem State.sendChunk_stg (s : State) (u : Unans) (o : Nat) (bs : Bytes) (poison : Bool) (last : Bool) :
    (State.sendChunk s u o bs poison last).stg = s.stg := by
  unfold State.sendChunk; simp only []; (repeat' split) <;> simp_all

@[simp] theorem State.mapMessage_stg (s : State) (n : Nat) (g : Engine → Engine) : (State.mapMessage s n g).stg = s.stg := by
  simp [State.mapMessage]

@[simp] theorem State.runMessage_stg (s : State) (n : Nat) : (State.runMessage s n).stg = s.stg := by
  unfold State.runMessage; simp only []; (repeat' split) <;> simp_all

@[simp] theorem State.noteFw_stg (s : State) (comp : Fin 4) (slot : Bool) (event : String) :
    (State.noteFw s comp slot event).stg = s.stg := by
  simp [State.noteFw]

@[simp] theorem State.finishBurn_stg (s : State) (comp : Fin 4) : (State.finishBurn s comp).stg = s.stg := by
  unfold State.finishBurn; (repeat' split) <;> simp [*]

@[simp] theorem State.dropTrial_stg (s : State) (comp : Fin 4) : (State.dropTrial s comp).stg = s.stg := by
  simp [State.dropTrial]

@[simp] theorem State.bootComponent_stg (s : State) (c : Fin 4) : (s.bootComponent c).1.stg = s.stg := by
  simp [State.bootComponent]

@[simp] theorem State.enterRecovery_stg (s : State) (cause : Nat) : (State.enterRecovery s cause).stg = s.stg := by
  simp [State.enterRecovery]

@[simp] theorem State.applyOverride_stg (s : State) : (State.applyOverride s).stg = s.stg := by
  simp [State.applyOverride]

@[simp] theorem State.evalCompat_stg (s : State) : (State.evalCompat s).stg = s.stg := by
  simp [State.evalCompat]

@[simp] theorem State.loadCal_stg (s : State) : (State.loadCal s).stg = s.stg := by
  simp [State.loadCal, foldl_stg] <;> (intros; rw [foldl_stg]; intros; simp)

@[simp] theorem State.ledgerAfterAux_stg (s : State) : (State.ledgerAfterAux s).stg = s.stg := by
  simp [State.ledgerAfterAux]

@[simp] theorem State.checkRetention_stg (s : State) : (State.checkRetention s).stg = s.stg := by
  simp [State.checkRetention]

@[simp] theorem State.restartTime_stg (s : State) : (State.restartTime s).stg = s.stg := by
  simp [State.restartTime]

@[simp] theorem State.settleRetention_stg (s : State) : (State.settleRetention s).stg = s.stg := by
  simp [State.settleRetention]

@[simp] theorem State.bootFirmware_stg (s : State) (saf : Bool) : (State.bootFirmware s saf).stg = s.stg := by
  unfold State.bootFirmware; (repeat' split) <;> simp [*, foldl_stg]

@[simp] theorem State.bootTime_stg (s : State) : (State.bootTime s).stg = s.stg := by
  simp [State.bootTime]

@[simp] theorem State.bootNow_stg (s : State) : (State.bootNow s).stg = s.stg := by
  simp [State.bootNow]

@[simp] theorem State.announceReset_stg (s : State) (cold : Bool) (cause : String) (source : Nat) :
    (State.announceReset s cold cause source).stg = s.stg := by
  unfold State.announceReset; simp only []; (repeat' split) <;> simp_all

@[simp] theorem State.takeFwAction_stg (s : State) (a : FwAction) (comp : Fin 4) : (State.takeFwAction s a comp).stg = s.stg := by
  simp [State.takeFwAction]

@[simp] theorem State.askMark_stg (s : State) (f : Part) (w : U32) : (State.askMark s f w).stg = s.stg := by
  simp [State.askMark]

@[simp] theorem State.askCommit_stg (s : State) (f : Part) (w : U32) : (State.askCommit s f w).stg = s.stg := by
  simp [State.askCommit]

@[simp] theorem State.askCancel_stg (s : State) (f : Part) (w : U32) : (State.askCancel s f w).stg = s.stg := by
  simp [State.askCancel]

@[simp] theorem State.askBurn_stg (s : State) (f : Part) (w : U32) : (State.askBurn s f w).stg = s.stg := by
  simp [State.askBurn]

@[simp] theorem State.endMarkTrial_stg (s : State) (c : Fin 4) : (State.endMarkTrial s c).stg = s.stg := by
  simp [State.endMarkTrial]

@[simp] theorem State.endCommit_stg (s : State) (c : Fin 4) : (State.endCommit s c).stg = s.stg := by
  simp [State.endCommit]

@[simp] theorem State.endCancelTrial_stg (s : State) (c : Fin 4) : (State.endCancelTrial s c).stg = s.stg := by
  simp [State.endCancelTrial]

@[simp] theorem State.endBurn_stg (s : State) (c : Fin 4) : (State.endBurn s c).stg = s.stg := by
  unfold State.endBurn; simp only []; (repeat' split) <;> simp_all

@[simp] theorem State.askBegin_stg (s : State) (f : Part) (w : U32) : (State.askBegin s f w).stg = s.stg := by
  simp [State.askBegin]

@[simp] theorem State.askRun_stg (s : State) (f : Part) (w : U32) : (State.askRun s f w).stg = s.stg := by
  simp [State.askRun]

@[simp] theorem State.askProgram_stg (s : State) (f : Part) (w : U32) : (State.askProgram s f w).stg = s.stg := by
  simp [State.askProgram]

@[simp] theorem State.fillWindow_stg (s : State) (f : Part) (off : Nat) (size : Nat) (v : U64) :
    (State.fillWindow s f off size v).stg = s.stg := by
  simp [State.fillWindow]

@[simp] theorem State.mapCores_stg (s : State) (g : Core → Core) : (State.mapCores s g).stg = s.stg := by
  simp [State.mapCores]

@[simp] theorem State.resetCasks_stg (s : State) (route : Nat) : (State.resetCasks s route).stg = s.stg := by
  simp [State.resetCasks]

@[simp] theorem State.freshVecs_stg (s : State) (c : Nat) : (State.freshVecs s c).stg = s.stg := by
  simp [State.freshVecs]

@[simp] theorem State.install_stg (s : State) (c : Nat) (t : Task) : (State.install s c t).stg = s.stg := by
  simp [State.install]

@[simp] theorem State.loadCode_stg (s : State) (c : Nat) (t : Task) (blob : Nat) : (State.loadCode s c t blob).stg = s.stg := by
  simp [State.loadCode]

@[simp] theorem State.nextTask_stg (s : State) (c : Nat) : (State.nextTask s c).stg = s.stg := by
  unfold State.nextTask; simp only []; (repeat' split) <;> simp_all

@[simp] theorem State.endTask_stg (s : State) (c : Nat) : (State.endTask s c).stg = s.stg := by
  unfold State.endTask; simp only []; (repeat' split) <;> simp_all

@[simp] theorem State.finish_stg (s : State) (c : Nat) (x : Core) : (State.finish s c x).stg = s.stg := by
  simp [State.finish]

@[simp] theorem State.takePreemption_stg (s : State) (c : Nat) : (State.takePreemption s c).stg = s.stg := by
  unfold State.takePreemption; simp only []; (repeat' split) <;> simp_all

@[simp] theorem State.settleWait_stg (s : State) (c : Nat) : (State.settleWait s c).stg = s.stg := by
  unfold State.settleWait; simp only []; (repeat' split) <;> simp_all

@[simp] theorem State.settleWaits_stg (s : State) : (State.settleWaits s).stg = s.stg := by
  simp [State.settleWaits, foldl_stg]

@[simp] theorem State.startTask_stg (s : State) (c : Nat) (t : Task) (blob : Nat) : (State.startTask s c t blob).stg = s.stg := by
  simp [State.startTask]

@[simp] theorem State.settleSwap_stg (s : State) (route : Nat) : (State.settleSwap s route).stg = s.stg := by
  simp [State.settleSwap]

@[simp] theorem State.endApply_stg (s : State) (slot : Nat) : (State.endApply s slot).stg = s.stg := by
  unfold State.endApply; simp only []; (repeat' split) <;> simp_all

@[simp] theorem State.releaseHeld_stg (s : State) (route : Nat) : (State.releaseHeld s route).stg = s.stg := by
  simp [State.releaseHeld]

@[simp] theorem State.gapTimer_stg (s : State) (r : Nat) (st : RouteSt) : (State.gapTimer s r st).stg = s.stg := by
  simp [State.gapTimer]

@[simp] theorem State.setRouteSt_stg (s : State) (r : Nat) (st : RouteSt) : (State.setRouteSt s r st).stg = s.stg := by
  simp [State.setRouteSt]

@[simp] theorem State.mapFrame_stg (s : State) (r : Nat) (id : Nat) (g : Frame → Frame) :
    (State.mapFrame s r id g).stg = s.stg := by
  simp [State.mapFrame]

@[simp] theorem State.noteStale_stg (s : State) (r : Nat) (cause : Nat) : (State.noteStale s r cause).stg = s.stg := by
  simp [State.noteStale]

@[simp] theorem State.published_stg (s : State) (t : Struct) (r : Nat) (typ : Nat) (addr : Nat) (len : Nat) (exposure : Nat) :
    (State.published s t r typ addr len exposure).stg = s.stg := by
  simp [State.published]

@[simp] theorem State.frameDone_stg (s : State) (r : Nat) (f : Frame) (status : Nat) (reason : Nat) :
    (State.frameDone s r f status reason).stg = s.stg := by
  simp [State.frameDone, foldl_stg]

@[simp] theorem State.checkDeadline_stg (s : State) (r : Nat) (f : Frame) : (State.checkDeadline s r f).stg = s.stg := by
  simp [State.checkDeadline]

@[simp] theorem State.epochCut_stg (s : State) (r : Nat) (f : Frame) (valid : Bool) :
    (State.epochCut s r f valid).stg = s.stg := by
  simp [State.epochCut]

@[simp] theorem State.retire_stg (s : State) (r : Nat) (id : Nat) : (State.retire s r id).stg = s.stg := by
  unfold State.retire; (repeat' split) <;> simp [*]

@[simp] theorem State.fixAll_stg (s : State) (l : List (Nat × Nat × Nat)) (status : Nat) (detail : Nat) (source : Nat) :
    (State.fixAll s l status detail source).stg = s.stg := by
  simp [State.fixAll, foldl_stg]

@[simp] theorem State.stopApply_stg (s : State) (r : Nat) (status : Nat) (detail : Nat) :
    (State.stopApply s r status detail).stg = s.stg := by
  simp [State.stopApply, foldl_stg]

@[simp] theorem State.finishStop_stg (s : State) (r : Nat) : (State.finishStop s r).stg = s.stg := by
  simp [State.finishStop]

@[simp] theorem State.retireAborted_stg (s : State) (r n : Nat) : (s.retireAborted r n).stg = s.stg := by
  induction n generalizing s with
  | zero => rfl
  | succ n ih => unfold State.retireAborted; (repeat' split) <;> simp [ih]

@[simp] theorem State.drainRoute_stg (s : State) (r : Nat) : (State.drainRoute s r).stg = s.stg := by
  simp [State.drainRoute, foldl_stg]

@[simp] theorem State.mapTasks_stg (s : State) (p : Task → Bool) (g : Task → Task) : (State.mapTasks s p g).stg = s.stg := by
  simp [State.mapTasks]

@[simp] theorem State.stopTasks_stg (s : State) (p : Task → Bool) : (State.stopTasks s p).stg = s.stg := by
  simp [State.stopTasks]

@[simp] theorem State.noteLevel_stg (s : State) (level : BitVec 3) : (State.noteLevel s level).stg = s.stg := by
  simp [State.noteLevel]

@[simp] theorem State.forceStop_stg (s : State) (r : Nat) : (State.forceStop s r).stg = s.stg := by
  simp [State.forceStop]

@[simp] theorem State.boundaryStop_stg (s : State) (r : Nat) : (State.boundaryStop s r).stg = s.stg := by
  simp [State.boundaryStop]

@[simp] theorem State.faultRoute_stg (s : State) (r : Nat) (code : Nat) : (State.faultRoute s r code).stg = s.stg := by
  simp [State.faultRoute]

@[simp] theorem State.refreshRoutes_stg (s : State) : (State.refreshRoutes s).stg = s.stg := by
  simp [State.refreshRoutes, foldl_stg]

@[simp] theorem State.epochAbandon_stg (s : State) (r : Nat) (id : Nat) : (State.epochAbandon s r id).stg = s.stg := by
  unfold State.epochAbandon; (repeat' split) <;> simp [*]

@[simp] theorem State.openWindow_stg (s : State) (r : Nat) : (State.openWindow s r).stg = s.stg := by
  simp [State.openWindow, foldl_stg]

@[simp] theorem State.associate_stg (s : State) (c : Nat) (id : Nat) (start : Nat) (exposure : Nat) :
    (State.associate s c id start exposure).stg = s.stg := by
  simp [State.associate, foldl_stg] <;> (intros; rw [foldl_stg]; intros; simp)

@[simp] theorem State.slotCycle_stg (s : State) (c : Nat) : (State.slotCycle s c).stg = s.stg := by
  unfold State.slotCycle; (repeat' split) <;> simp [*]

@[simp] theorem State.chargeEngine_stg (s : State) (r : Nat) (m : NodeRun) : (State.chargeEngine s r m).stg = s.stg := by
  simp [State.chargeEngine]

@[simp] theorem State.undefineCmd_stg (s : State) (f : Nat) (q : Nat) (c : Cmd) : (State.undefineCmd s f q c).stg = s.stg := by
  simp [State.undefineCmd]

@[simp] theorem State.undefineCmds_stg (s : State) (f : Nat) : (State.undefineCmds s f).stg = s.stg := by
  simp [State.undefineCmds, foldl_stg]

@[simp] theorem State.dropWork_stg (s : State) (f : Nat) : (State.dropWork s f).stg = s.stg := by
  simp [State.dropWork]

@[simp] theorem State.dropApplies_stg (s : State) (p : Nat → Bool) : (State.dropApplies s p).stg = s.stg := by
  unfold State.dropApplies
  refine foldl_stg _ (fun s x => ?_) _ _
  split
  · split <;> simp
  · rfl

@[simp] theorem State.partitionReset_stg (s : State) (f : Nat) (tdi : Tdi) (cause : String) :
    (State.partitionReset s f tdi cause).stg = s.stg := by
  unfold State.partitionReset; (repeat' split) <;> simp [*, foldl_stg]

@[simp] theorem State.drainDst_stg (s : State) (d : Nat) : (State.drainDst s d).stg = s.stg := by
  simp [State.drainDst]

@[simp] theorem State.noteIrregular_stg (s : State) (c : Nat) (id : Nat) (long : Bool) (extra : Bool) :
    (State.noteIrregular s c id long extra).stg = s.stg := by
  simp [State.noteIrregular]

@[simp] theorem State.queueBeats_stg (s : State) (d : Nat) (l : List Beat) : (State.queueBeats s d l).stg = s.stg := by
  simp [State.queueBeats]

@[simp] theorem State.pipeLine_stg (s : State) (src : Nat) (ctx : Nat) (frame : Nat) (line : Nat) (plane : Nat) (b : Bytes) (poison : Bool) :
    (State.pipeLine s src ctx frame line plane b poison).stg = s.stg := by
  simp [State.pipeLine, foldl_stg]

@[simp] theorem State.closeBeat_stg (s : State) (src : Nat) (ctx : Nat) (frame : Nat) (pick : Nat → Bool) (data : Bytes) (poison : Bool) :
    (State.closeBeat s src ctx frame pick data poison).stg = s.stg := by
  simp [State.closeBeat, foldl_stg]

@[simp] theorem State.stageLine_stg (s : State) (src : Nat) (frameId : Nat) (ctx : Nat) (frame : Nat) (line : Nat) (plane : Nat) (b : Bytes) (poison : Bool) :
    (State.stageLine s src frameId ctx frame line plane b poison).stg = s.stg := by
  simp [State.stageLine, foldl_stg]

@[simp] theorem State.deliverBeat_stg (s : State) (d : Nat) : (State.deliverBeat s d).stg = s.stg := by
  unfold State.deliverBeat; simp only []; (repeat' split) <;> simp_all

@[simp] theorem State.layRecord_stg (s : State) (i : Nat) (j : StageJob) (a : Nat) (r : RecInfo) (desc : Bytes) (body : Payload) :
    (State.layRecord s i j a r desc body).stg = s.stg := by
  simp [State.layRecord]

@[simp] theorem State.storeLine_stg (s : State) (part : Nat) (a : Nat) (w : Nat) (y : Nat) (l : List Int) :
    (State.storeLine s part a w y l).stg = s.stg := by
  simp [State.storeLine]

@[simp] theorem State.floStore__stg (s : State) (i : Nat) (j : StageJob) : (State.floStore_ s i j).stg = s.stg := by
  simp [State.floStore_, foldl_stg]

@[simp] theorem State.refit_stg (s : State) : (State.refit s).stg = s.stg := by
  simp [State.refit, foldl_stg]

@[simp] theorem State.setLoop_stg (s : State) (l : LoopSt) : (State.setLoop s l).stg = s.stg := by
  simp [State.setLoop]

@[simp] theorem State.enterHold_stg (s : State) : (State.enterHold s).stg = s.stg := by
  simp [State.enterHold]

@[simp] theorem State.stepGtc_stg (s : State) (d : Int) : (State.stepGtc s d).stg = s.stg := by
  simp [State.stepGtc]

@[simp] theorem State.stepToInput_stg (s : State) (i : Nat) (e : Int) : (State.stepToInput s i e).stg = s.stg := by
  simp [State.stepToInput]

@[simp] theorem State.reselect_stg (s : State) : (State.reselect s).stg = s.stg := by
  unfold State.reselect; simp only []; (repeat' split) <;> simp_all

@[simp] theorem State.failInput_stg (s : State) (i : Nat) (code : Nat) : (State.failInput s i code).stg = s.stg := by
  simp [State.failInput]

@[simp] theorem State.makeAvailable_stg (s : State) (i : Nat) : (State.makeAvailable s i).stg = s.stg := by
  simp [State.makeAvailable]

@[simp] theorem State.judgeLock_stg (s : State) (e : Int) : (State.judgeLock s e).stg = s.stg := by
  simp [State.judgeLock]

@[simp] theorem State.stepOnMeasure_stg (s : State) (i : Nat) (e : Int) : (s.stepOnMeasure i e).1.stg = s.stg := by
  unfold State.stepOnMeasure; simp only []; (repeat' split) <;> simp

@[simp] theorem State.loopMeasure_stg (s : State) (i : Nat) (e : Int) : (State.loopMeasure s i e).stg = s.stg := by
  simp [State.loopMeasure]

@[simp] theorem State.measure_stg (s : State) (i : Nat) (e : Int) (freq : Int) (jump : Bool) (domainOk : Bool) :
    (State.measure s i e freq jump domainOk).stg = s.stg := by
  simp [State.measure]

@[simp] theorem State.failLanicy_stg (s : State) : (State.failLanicy s).stg = s.stg := by
  simp [State.failLanicy, foldl_stg]

@[simp] theorem State.setBackupActs_stg (s : State) (v : Bool) : (State.setBackupActs s v).stg = s.stg := by
  simp [State.setBackupActs]

@[simp] theorem State.hearTime_stg (s : State) (port : Nat) (m : TimeMsg) : (State.hearTime s port m).stg = s.stg := by
  simp [State.hearTime]

@[simp] theorem State.endFreqPulse_stg (s : State) : (State.endFreqPulse s).stg = s.stg := by
  simp [State.endFreqPulse]

@[simp] theorem State.tmgCycle_stg (s : State) : (State.tmgCycle s).stg = s.stg := by
  simp [State.tmgCycle]

@[simp] theorem State.measureVin_stg (s : State) : (State.measureVin s).stg = s.stg := by
  simp [State.measureVin]

@[simp] theorem State.endVerify_stg (s : State) : (State.endVerify s).stg = s.stg := by
  unfold State.endVerify; (repeat' split) <;> simp [*]

@[simp] theorem State.runMessages_stg (s : State) : (State.runMessages s).stg = s.stg := by
  simp [State.runMessages, foldl_stg]

@[simp] theorem State.resumeTasks_stg (s : State) : (State.resumeTasks s).stg = s.stg := by
  simp [State.resumeTasks, foldl_stg]

@[simp] theorem State.badHeader_stg (s : State) (port : Nat) : (State.badHeader s port).stg = s.stg := by
  simp [State.badHeader]

@[simp] theorem State.active_stg (s : State) (port : Nat) : (State.active s port).stg = s.stg := by
  simp [State.active]

@[simp] theorem State.emitLine_stg (s : State) (c pipe : Nat) (g : CtxFrame) (y : Nat) : (s.emitLine c pipe g y).1.stg = s.stg := by
  unfold State.emitLine
  refine foldlPair_stg _ (fun a x => ?_) _ _
  dsimp only
  split <;> simp

@[simp] theorem State.emitChroma_stg (s : State) (c : Nat) (pipe : Nat) (f : CtxFrame) :
    (State.emitChroma s c pipe f).stg = s.stg := by
  simp [State.emitChroma, foldl_stg]

@[simp] theorem State.emitFrame_stg (s : State) (c : Nat) (id : Nat) : (State.emitFrame s c id).stg = s.stg := by
  unfold State.emitFrame; (repeat' split) <;> simp [*, foldl_stg, foldlPair_stg]

@[simp] theorem State.closeFrame_stg (s : State) (c : Nat) (short : Bool) : (State.closeFrame s c short).stg = s.stg := by
  unfold State.closeFrame; (repeat' split) <;> simp [*]

@[simp] theorem State.noteBacklog_stg (s : State) (pipe : Nat) : (State.noteBacklog s pipe).stg = s.stg := by
  simp [State.noteBacklog]

@[simp] theorem State.takeLinePacket_stg (s : State) (port : Nat) (c : Nat) (dt : Nat) (pixels : List Nat) (bad : Bool) :
    (State.takeLinePacket s port c dt pixels bad).stg = s.stg := by
  unfold State.takeLinePacket; (repeat' split) <;> simp [*]

@[simp] theorem State.scbCtl_stg (s : State) (f : Part) (k : Nat) (w : U32) : (State.scbCtl s f k w).stg = s.stg := by
  simp [State.scbCtl]

@[simp] theorem State.scbPush_stg (s : State) (f : Part) (k : Nat) (v : Byte) : (State.scbPush s f k v).stg = s.stg := by
  simp [State.scbPush]

@[simp] theorem State.scbPop_stg (s : State) (b : Nat) : (s.scbPop b).1.stg = s.stg := by
  unfold State.scbPop; split <;> simp

@[simp] theorem State.enforcePins_stg (s : State) (old : Struct) : (State.enforcePins s old).stg = s.stg := by
  simp [State.enforcePins]

@[simp] theorem State.enforceBoard_stg (s : State) : (State.enforceBoard s).stg = s.stg := by
  simp [State.enforceBoard]

@[simp] theorem State.enforceInputs_stg (s : State) : (State.enforceInputs s).stg = s.stg := by
  simp [State.enforceInputs]

@[simp] theorem State.enforceRoles_stg (s : State) (old : Struct) : (State.enforceRoles s old).stg = s.stg := by
  simp [State.enforceRoles]

@[simp] theorem State.enforceOutputs_stg (s : State) (old : Struct) : (State.enforceOutputs s old).stg = s.stg := by
  simp [State.enforceOutputs]

@[simp] theorem State.refreshVfs_stg (s : State) : (State.refreshVfs s).stg = s.stg := by
  simp [State.refreshVfs]

@[simp] theorem State.enforceParts_stg (s : State) (old : Struct) : (State.enforceParts s old).stg = s.stg := by
  simp [State.enforceParts, foldl_stg]

@[simp] theorem State.enforceRegions_stg (s : State) (old : Struct) : (State.enforceRegions s old).stg = s.stg := by
  unfold State.enforceRegions
  refine (foldl_stg _ (fun s r => ?_) _ _).trans (foldl_stg _ (fun s r => ?_) _ _)
  · refine (foldl_stg _ (fun s l => ?_) _ _).trans rfl
    split
    · split <;> simp
    · rfl
  · rfl

@[simp] theorem State.enforceExports_stg (s : State) (old : Struct) : (State.enforceExports s old).stg = s.stg := by
  simp [State.enforceExports, foldl_stg]

@[simp] theorem State.enforceLinks_stg (s : State) (old : Struct) : (State.enforceLinks s old).stg = s.stg := by
  simp [State.enforceLinks, foldl_stg]

@[simp] theorem State.enforceCamera_stg (s : State) (old : Struct) : (State.enforceCamera s old).stg = s.stg := by
  simp [State.enforceCamera]

@[simp] theorem State.enforceStreams_stg (s : State) (old : Struct) : (State.enforceStreams s old).stg = s.stg := by
  simp [State.enforceStreams]

@[simp] theorem State.enforceSafety_stg (s : State) (core : Option Bytes) : (State.enforceSafety s core).stg = s.stg := by
  unfold State.enforceSafety; (repeat' split) <;> simp [*]

@[simp] theorem State.rejectApply_stg (s : State) (n : Nat) (a : Apply) (status : Nat) (detail : Nat) :
    (State.rejectApply s n a status detail).stg = s.stg := by
  simp [State.rejectApply]

@[simp] theorem State.missFrame_stg (s : State) (r : Nat) (n : Nat) (a : Apply) : (State.missFrame s r n a).stg = s.stg := by
  simp [State.missFrame]

@[simp] theorem State.checkerFails_stg (s : State) (c : Nat × Nat) (g : Nat) : (State.checkerFails s c g).stg = s.stg := by
  unfold State.checkerFails; simp only []; (repeat' split) <;> simp_all

@[simp] theorem State.pairWrite_stg (s : State) (f : Part) (w : U32) : (State.pairWrite s f w).stg = s.stg := by
  simp [State.pairWrite]

@[simp] theorem State.draw_stg (s : State) (n : Nat) : (s.draw n).2.stg = s.stg := by simp [State.draw]

@[simp] theorem State.dropBlobs_stg (s : State) (a : Nat) (n : Nat) : (State.dropBlobs s a n).stg = s.stg := by
  simp [State.dropBlobs]

@[simp] theorem State.failLoad_stg (s : State) (f : Nat) (q : Nat) (pos : Nat) (status : Nat) (detail : Nat) (c : Cmd) (payload : Nat) :
    (State.failLoad s f q pos status detail c payload).stg = s.stg := by
  simp [State.failLoad]

@[simp] theorem State.openPackage_stg (s : State) (f : Nat) (q : Nat) (c : Cmd) (b : Bytes) (key : Bytes) (ep : Bool) :
    (State.openPackage s f q c b key ep).stg = s.stg := by
  unfold State.openPackage; simp only []; split
  · simp
  · split
    · simp
    · split <;> simp

@[simp] theorem State.newMemoryKey_stg (s : State) : (State.newMemoryKey s).stg = s.stg := by
  simp [State.newMemoryKey]

@[simp] theorem State.tagChanged_stg (s : State) : (State.tagChanged s).stg = s.stg := by
  simp [State.tagChanged]

@[simp] theorem State.setSpdm_stg (s : State) (p : SpdmPort) (x : Spdm) : (State.setSpdm s p x).stg = s.stg := by
  unfold State.setSpdm; (repeat' split) <;> simp [*]

@[simp] theorem State.endConsent_stg (s : State) : (State.endConsent s).stg = s.stg := by
  unfold State.endConsent; (repeat' split) <;> simp [*]

@[simp] theorem State.clearRsq_stg (s : State) (off : Nat) : (State.clearRsq s off).stg = s.stg := by
  simp [State.clearRsq]

@[simp] theorem State.clearCin_stg (s : State) (off : Nat) : (State.clearCin s off).stg = s.stg := by
  simp [State.clearCin]

@[simp] theorem State.clearIsp_stg (s : State) (off : Nat) : (State.clearIsp s off).stg = s.stg := by
  simp [State.clearIsp]

@[simp] theorem State.clearNec_stg (s : State) (off : Nat) : (State.clearNec s off).stg = s.stg := by
  simp [State.clearNec]

@[simp] theorem State.clearMem_stg (s : State) (off : Nat) : (State.clearMem s off).stg = s.stg := by
  simp [State.clearMem]

@[simp] theorem State.clearLnk_stg (s : State) (off : Nat) : (State.clearLnk s off).stg = s.stg := by
  simp [State.clearLnk]

@[simp] theorem State.clearTmg_stg (s : State) (off : Nat) : (State.clearTmg s off).stg = s.stg := by
  simp [State.clearTmg]

@[simp] theorem State.clearSaf_stg (s : State) (off : Nat) : (State.clearSaf s off).stg = s.stg := by
  simp [State.clearSaf]

@[simp] theorem State.clearMgt_stg (s : State) (off : Nat) : (State.clearMgt s off).stg = s.stg := by
  simp [State.clearMgt]

@[simp] theorem State.clearLog_stg (s : State) (off : Nat) : (State.clearLog s off).stg = s.stg := by
  simp [State.clearLog]

@[simp] theorem State.debugServe_stg (s : State) (op : DebugOp) : (State.debugServe s op).stg = s.stg := by
  unfold State.debugServe; (repeat' split) <;> simp [*]

@[simp] theorem State.memCorrected_stg (s : State) (a : Nat) : (State.memCorrected s a).stg = s.stg := by
  simp [State.memCorrected]

@[simp] theorem State.memUncorrectable_stg (s : State) (a : Nat) : (State.memUncorrectable s a).stg = s.stg := by
  simp [State.memUncorrectable]

@[simp] theorem State.countFind_stg (s : State) (a : Nat) (e : EccFind) : (s.countFind a e).stg = s.stg := by
  cases e <;> simp [State.countFind]

@[simp] theorem State.pairFill_stg (s : State) (a : Nat) : (State.pairFill s a).stg = s.stg := by
  simp [State.pairFill]

@[simp] theorem State.keepSeq_stg (s : State) (l : Log) : (State.keepSeq s l).stg = s.stg := by
  simp [State.keepSeq]

@[simp] theorem State.appendNext_stg (s : State) : (State.appendNext s).stg = s.stg := by
  unfold State.appendNext; (repeat' split) <;> simp [*]

@[simp] theorem State.norCopy_stg (s : State) (ok : Bool) : (State.norCopy s ok).stg = s.stg := by
  unfold State.norCopy; (repeat' split) <;> simp [*]

@[simp] theorem State.appendMany_stg (s : State) (n : Nat) : (State.appendMany s n).stg = s.stg := by
  induction n generalizing s with
  | zero => rfl
  | succ n ih => unfold State.appendMany; simp [ih]

@[simp] theorem State.copyMany_stg (s : State) (n : Nat) : (State.copyMany s n).stg = s.stg := by
  induction n generalizing s with
  | zero => rfl
  | succ n ih => unfold State.copyMany; simp [ih]

@[simp] theorem State.endInterval_stg (s : State) : (State.endInterval s).stg = s.stg := by
  simp [State.endInterval]

@[simp] theorem State.patrolUe_stg (s : State) (block : Nat) (a : Nat) (intervened : Bool) :
    (State.patrolUe s block a intervened).stg = s.stg := by
  simp [State.patrolUe]

@[simp] theorem State.patrolBlock_stg (s : State) (block : Nat) (errs : List Bytes) (intervened : Bool) :
    (State.patrolBlock s block errs intervened).stg = s.stg := by
  refine foldl_stg _ (fun s x => ?_) _ _
  dsimp only
  split
  · rfl
  · split <;> simp

@[simp] theorem State.defer_stg (s : State) (activity : Nat) : (State.defer s activity).stg = s.stg := by
  simp [State.defer]

@[simp] theorem State.setBg_stg (s : State) (f : Part) (w : U32) : (State.setBg s f w).stg = s.stg := by
  simp [State.setBg]

@[simp] theorem State.askSource_stg (s : State) (part : Nat) (board : Nat) (a : Nat) (n : Nat) (cmd : Option (Nat × Nat × Nat)) :
    (State.askSource s part board a n cmd).stg = s.stg := by
  simp [State.askSource, foldl_stg]

@[simp] theorem State.sendOwn_stg (s : State) (f : Nat) (q : Nat) (c : Cmd) : (State.sendOwn s f q c).stg = s.stg := by
  unfold State.sendOwn; simp only []; (repeat' split) <;> simp_all

@[simp] theorem State.startApply_stg (s : State) (f : Nat) (q : Nat) (c : Cmd) (point : ApplyPoint) :
    (State.startApply s f q c point).stg = s.stg := by
  unfold State.startApply; simp only []; (repeat' split) <;> simp_all

@[simp] theorem State.readmit_stg (s : State) (b : Nat) : (State.readmit s b).stg = s.stg := by
  simp [State.readmit]

@[simp] theorem State.returned_stg (s : State) (b : Nat) (tag : Bytes) : (State.returned s b tag).stg = s.stg := by
  simp [State.returned]

@[simp] theorem State.dropHomed_stg (s : State) (b : Nat) : (State.dropHomed s b).stg = s.stg := by
  simp [State.dropHomed, foldl_stg]

@[simp] theorem State.dropHolder_stg (s : State) (b : Nat) : (State.dropHolder s b).stg = s.stg := by
  simp [State.dropHolder, foldl_stg]

@[simp] theorem State.oweCredits_stg (s : State) (p : Nat) (m : Msg) (len : Nat) : (State.oweCredits s p m len).stg = s.stg := by
  simp [State.oweCredits]

@[simp] theorem State.relay_stg (s : State) (p n : Nat) (b : Bytes) : (State.relay p n s b).1.stg = s.stg := by
  induction n generalizing s b with
  | zero => rfl
  | succ n ih => unfold State.relay; simp only []; (repeat' split) <;> simp [ih]

@[simp] theorem State.replay_stg (s : State) (p : Nat) : (State.replay s p).stg = s.stg := by
  simp [State.replay]

@[simp] theorem State.restartMessage_stg (s : State) (dest : Nat) (f : Nat) (q : Nat) (c : Cmd) :
    (State.restartMessage s dest f q c).stg = s.stg := by
  simp [State.restartMessage]

@[simp] theorem State.taskFault_stg (s : State) (c : Nat) (cause : Nat) (ea : Option Nat) :
    (State.taskFault s c cause ea).stg = s.stg := by
  unfold State.taskFault; simp only []; (repeat' split) <;> simp_all

@[simp] theorem State.issue_stg (s : State) (c : Nat) (op : Nat) (w : U64) (fields : Nat) (act : Core → Task → State) (h_act : ∀ x0 x1, (act x0 x1).stg = s.stg) :
    (State.issue s c op w fields act).stg = s.stg := by
  unfold State.issue; simp only []; (repeat' split) <;> simp_all

@[simp] theorem State.markFrame_stg (s : State) (own : Nat × Nat × Nat) (poisoned : Bool) (lost : Bool) :
    (State.markFrame s own poisoned lost).stg = s.stg := by
  simp [State.markFrame]

@[simp] theorem State.markOwner_stg (s : State) (c : Nat) (own : Nat × Nat × Nat) (b : Bool) :
    (State.markOwner s c own b).stg = s.stg := by
  simp [State.markOwner]

@[simp] theorem State.askPiece_stg (s : State) (c : Nat) (x : Xfer) (a n : Nat) : (s.askPiece c x a n).1.stg = s.stg := by
  unfold State.askPiece; simp only []; split <;> simp [foldl_stg]

@[simp] theorem State.pieceRead_stg (s : State) (c : Nat) (x : Xfer) (host : Bool) (a : Nat) (n : Nat) (bad : List Nat) :
    (State.pieceRead s c x host a n bad).stg = s.stg := by
  simp [State.pieceRead, foldl_stg]

@[simp] theorem State.storePiece_stg (s : State) (part : Nat) (host : Bool) (a : Nat) (bs : Bytes) (bad : List Nat) (cmd : Option (Nat × Nat × Nat)) :
    (State.storePiece s part host a bs bad cmd).stg = s.stg := by
  simp [State.storePiece, foldl_stg]

@[simp] theorem State.moveRows_stg (s : State) (c : Nat) (h : HostRead) (a n : Nat) (x : Xfer) : (State.moveRows s c h a n x).1.stg = s.stg := by
  induction n generalizing s x with
  | zero => rfl
  | succ n ih => unfold State.moveRows; simp only []; (repeat' split) <;> simp [ih]

@[simp] theorem State.moveCask_stg (s : State) (c : Nat) (h : HostRead) (a n : Nat) (x : Xfer) : (State.moveCask s c h a n x).1.stg = s.stg := by
  induction n generalizing s x with
  | zero => rfl
  | succ n ih => unfold State.moveCask; simp only []; (repeat' split) <;> simp [ih]

@[simp] theorem State.moveXfer_stg (s : State) (c : Nat) (h : HostRead) (n : Nat) (x : Xfer) : (s.moveXfer c h n x).1.stg = s.stg := by
  unfold State.moveXfer; split <;> simp

@[simp] theorem State.publishTask_stg (s : State) (c : Nat) (t : Task) (desc : Bytes) :
    (State.publishTask s c t desc).stg = s.stg := by
  unfold State.publishTask; (repeat' split) <;> simp [*]

@[simp] theorem State.releaseStall_stg (s : State) (c : Nat) : (State.releaseStall s c).stg = s.stg := by
  unfold State.releaseStall; simp only []; (repeat' split) <;> simp_all

@[simp] theorem State.caskOp_stg (s : State) (c : Nat) (w : U64) (ok : CaskCfg → Bool) (act : CaskCfg → State) (h_act : ∀ x0, (act x0).stg = s.stg) :
    (State.caskOp s c w ok act).stg = s.stg := by
  unfold State.caskOp; (repeat' split) <;> simp [*]

@[simp] theorem State.endCwait_stg (s : State) (c : Nat) (p : Bool) : (State.endCwait s c p).stg = s.stg := by
  simp [State.endCwait]

@[simp] theorem State.doCrd_stg (s : State) (c : Nat) (v : Nat) (idx : Nat) (off : Nat) (k : CaskCfg) :
    (State.doCrd s c v idx off k).stg = s.stg := by
  simp [State.doCrd]

@[simp] theorem State.doCpush_stg (s : State) (c : Nat) (v : Nat) (idx : Nat) (k : CaskCfg) :
    (State.doCpush s c v idx k).stg = s.stg := by
  simp [State.doCpush]

@[simp] theorem State.startDma_stg (s : State) (c : Nat) (w : U64) (into : Bool) (x : Core) (t : Task) :
    (State.startDma s c w into x t).stg = s.stg := by
  unfold State.startDma; simp only []; (repeat' split) <;> simp_all

@[simp] theorem State.issuePlain_stg (s : State) (c : Nat) (act : Core → Task → State) (h_act : ∀ x0 x1, (act x0 x1).stg = s.stg) :
    (State.issuePlain s c act).stg = s.stg := by
  unfold State.issuePlain; simp only []; (repeat' split) <;> simp_all

@[simp] theorem State.halt_stg (s : State) (f : Nat) (q : Nat) (error : Nat) : (State.halt s f q error).stg = s.stg := by
  simp [State.halt]

@[simp] theorem State.raise_stg (s : State) (f : Nat) (q : Nat) : (State.raise s f q).stg = s.stg := by
  simp [State.raise]

@[simp] theorem State.postEntry_stg (s : State) (f : Nat) (q : Nat) (seq : Nat) (status : Nat) (detail : Nat) (source : Nat) :
    (State.postEntry s f q seq status detail source).stg = s.stg := by
  simp [State.postEntry]

@[simp] theorem State.settle_stg (s : State) (f : Nat) (q : Nat) : (State.settle s f q).stg = s.stg := by
  simp [State.settle]

@[simp] theorem State.postAborted_stg (s : State) (f : Nat) (q : Nat) (status : Nat) (a : Aborted) :
    (State.postAborted s f q status a).stg = s.stg := by
  simp [State.postAborted]

@[simp] theorem State.postAborts_stg (s : State) (f q n : Nat) : (State.postAborts s f q n).stg = s.stg := by
  induction n generalizing s with
  | zero => rfl
  | succ n ih => unfold State.postAborts; simp only []; (repeat' split) <;> simp [ih]

@[simp] theorem State.ringTail_stg (s : State) (f : Part) (q : Fin 64) (idx : BitVec 16) :
    (State.ringTail s f q idx).stg = s.stg := by
  simp [State.ringTail]

@[simp] theorem State.ringHead_stg (s : State) (f : Part) (q : Fin 64) (idx : BitVec 16) :
    (State.ringHead s f q idx).stg = s.stg := by
  simp [State.ringHead]

@[simp] theorem State.takeDescriptor_stg (s : State) (f : Nat) (q : Nat) (d : Bytes) :
    (State.takeDescriptor s f q d).stg = s.stg := by
  unfold State.takeDescriptor; simp only []; (repeat' split) <;> simp_all

@[simp] theorem State.settleLoad_stg (s : State) (f : Nat) (q : Nat) (pos : Nat) (ok : Bool) :
    (State.settleLoad s f q pos ok).stg = s.stg := by
  simp [State.settleLoad]

@[simp] theorem State.turnOn_stg (s : State) (f : Part) (q : Fin 64) (w : U32) : (State.turnOn s f q w).stg = s.stg := by
  simp [State.turnOn]

@[simp] theorem State.turnOff_stg (s : State) (f : Part) (q : Fin 64) (w : U32) : (State.turnOff s f q w).stg = s.stg := by
  simp [State.turnOff]

@[simp] theorem State.setMode_stg (s : State) (m : Nat) : (State.setMode s m).stg = s.stg := by
  simp [State.setMode]

@[simp] theorem State.closeLoop_stg (s : State) : (State.closeLoop s).stg = s.stg := by
  simp [State.closeLoop]

@[simp] theorem State.askClosed_stg (s : State) (f : Part) (w : U32) : (State.askClosed s f w).stg = s.stg := by
  simp [State.askClosed]

@[simp] theorem State.askHold_stg (s : State) (f : Part) (w : U32) : (State.askHold s f w).stg = s.stg := by
  simp [State.askHold]

@[simp] theorem State.askSoftware_stg (s : State) (f : Part) (w : U32) : (State.askSoftware s f w).stg = s.stg := by
  simp [State.askSoftware]

@[simp] theorem State.setDco_stg (s : State) (f : Part) (upper : U32) : (State.setDco s f upper).stg = s.stg := by
  simp [State.setDco]

@[simp] theorem State.setTod_stg (s : State) (f : Part) (upper : U32) : (State.setTod s f upper).stg = s.stg := by
  simp [State.setTod]

@[simp] theorem State.askStep_stg (s : State) (f : Part) (upper : U32) : (State.askStep s f upper).stg = s.stg := by
  simp [State.askStep]

@[simp] theorem State.askRealign_stg (s : State) (f : Part) (output : Fin 9) (w : U32) :
    (State.askRealign s f output w).stg = s.stg := by
  simp [State.askRealign]

@[simp] theorem State.realignStep_stg (s : State) (o : Nat) : (State.realignStep s o).stg = s.stg := by
  unfold State.realignStep; (repeat' split) <;> simp [*]

@[simp] theorem State.takeRequest_stg (s : State) (request : Nat) : (State.takeRequest s request).stg = s.stg := by
  simp [State.takeRequest]

@[simp] theorem State.askClaim_stg (s : State) (f : Part) (w : U32) : (State.askClaim s f w).stg = s.stg := by
  simp [State.askClaim]

@[simp] theorem State.askRotate_stg (s : State) (f : Part) (w : U32) : (State.askRotate s f w).stg = s.stg := by
  simp [State.askRotate]

@[simp] theorem State.installTenant_stg (s : State) (key : Bytes) (base : Nat) :
    (State.installTenant s key base).stg = s.stg := by
  simp [State.installTenant]

@[simp] theorem State.spdmAnswer_stg (s : State) (p : SpdmPort) (ok : Bool) (data : Bytes) (g : Spdm → Spdm) :
    (State.spdmAnswer s p ok data g).stg = s.stg := by
  simp [State.spdmAnswer]

@[simp] theorem State.leaveSecure_stg (s : State) (stream : Fin 17) : (State.leaveSecure s stream).stg = s.stg := by
  unfold State.leaveSecure; (repeat' split) <;> simp [*, foldl_stg]

@[simp] theorem State.pokeQueue_stg (s : State) (f : Part) (q : Fin 64) (r : Nat) (w : U32) :
    (State.pokeQueue s f q r w).stg = s.stg := by
  simp [State.pokeQueue]

@[simp] theorem State.pokeFn_stg (s : State) (f : Part) (off : Nat) (w : U32) : (State.pokeFn s f off w).stg = s.stg := by
  simp [State.pokeFn]

@[simp] theorem State.pokeBar2_stg (s : State) (f : Part) (off : Nat) (w : U32) : (State.pokeBar2 s f off w).stg = s.stg := by
  simp [State.pokeBar2]

@[simp] theorem State.pokeCin_stg (s : State) (off : Nat) (w : U32) : (State.pokeCin s off w).stg = s.stg := by
  simp [State.pokeCin]

@[simp] theorem State.setQl_stg (s : State) (i : Nat) (ql : Nat) : (State.setQl s i ql).stg = s.stg := by
  simp [State.setQl]

theorem iteEq_stg {c : Prop} [Decidable c] {s a b : State} (h1 : a.stg = s.stg) (h2 : b.stg = s.stg) :
    (if c then a else b).stg = s.stg := by
  split <;> assumption

@[simp] theorem State.pokeTmg_stg (s : State) (off : Nat) (w : U32) : (State.pokeTmg s off w).stg = s.stg := by
  refine iteEq_stg ?_ (iteEq_stg ?_ (iteEq_stg ?_ (iteEq_stg ?_ (iteEq_stg ?_ (iteEq_stg ?_ (iteEq_stg ?_ (iteEq_stg ?_ (iteEq_stg ?_
    (iteEq_stg ?_ (iteEq_stg ?_ ?_))))))))))
  · split <;> simp
  · exact iteEq_stg rfl rfl
  · simp
  · rfl
  · simp
  · rfl
  · simp
  · rfl
  · rfl
  · exact iteEq_stg (by simp) rfl
  · exact iteEq_stg (by simp) rfl
  · rfl

@[simp] theorem State.pokeSec_stg (s : State) (off : Nat) (w : U32) : (State.pokeSec s off w).stg = s.stg := by
  unfold State.pokeSec; (repeat' split) <;> simp [*]

@[simp] theorem State.pokeRange_stg (s : State) (off : Nat) (w : U32) : (State.pokeRange s off w).stg = s.stg := by
  simp [State.pokeRange]

@[simp] theorem State.pokeFw_stg (s : State) (w : U32) : (State.pokeFw s w).stg = s.stg := by
  unfold State.pokeFw; (repeat' split) <;> simp [*]

@[simp] theorem State.pokeMgt_stg (s : State) (off : Nat) (w : U32) : (State.pokeMgt s off w).stg = s.stg := by
  simp [State.pokeMgt]

@[simp] theorem State.pokeRec_stg (s : State) (off : Nat) (w : U32) : (State.pokeRec s off w).stg = s.stg := by
  unfold State.pokeRec; (repeat' split) <;> simp [*]

@[simp] theorem State.pokePwr_stg (s : State) (off : Nat) (w : U32) : (State.pokePwr s off w).stg = s.stg := by
  simp [State.pokePwr]

@[simp] theorem State.beginGather_stg (s : State) (f : Nat) (q : Nat) (c : Cmd) (b : Bytes) (ep : Bool) (scalar : Nat) (own : Nat) (share : Bytes) :
    (State.beginGather s f q c b ep scalar own share).stg = s.stg := by
  simp [State.beginGather]

@[simp] theorem State.poisonBlob_stg (s : State) (i : Nat) (b : Blob) : (State.poisonBlob s i b).stg = s.stg := by
  simp [State.poisonBlob]

@[simp] theorem State.abortFrameApplies_stg (s : State) : (State.abortFrameApplies s).stg = s.stg := by
  unfold State.abortFrameApplies
  refine foldl_stg _ (fun s x => ?_) _ _
  split
  · split <;> simp
  · rfl

@[simp] theorem State.abortQueue_stg (s : State) (f : Nat) (q : Nat) : (State.abortQueue s f q).stg = s.stg := by
  simp [State.abortQueue, foldl_stg]

@[simp] theorem State.removeVfs_stg (s : State) : (State.removeVfs s).stg = s.stg := by
  simp [State.removeVfs]

@[simp] theorem State.destroyKeys_stg (s : State) : (State.destroyKeys s).stg = s.stg := by
  simp [State.destroyKeys]

@[simp] theorem State.renewPorts_stg (s : State) : (State.renewPorts s).stg = s.stg := by
  simp [State.renewPorts, foldl_stg]

end Sys2Proof.Machine
end

