-- ==== Sys2Proof/Laws/FrameFab.lean ====
section
/-! SUPPORT. The operations that leave the cellar, the directory and the links alone: one lemma for each, which says so (`.fab` is the field of State that holds it). -/

namespace Sys2Proof.Machine

set_option linter.all false

@[simp] theorem ite_fab (c : Prop) [Decidable c] (a b : State) : (if c then a else b).fab = if c then a.fab else b.fab := by
  split <;> rfl

theorem foldl_fab {α : Type} (f : State → α → State) (h : ∀ s x, (f s x).fab = s.fab) (l : List α) (s : State) :
    (l.foldl f s).fab = s.fab := by
  induction l generalizing s with
  | nil => rfl
  | cons a t ih => rw [List.foldl_cons, ih, h]

theorem foldlPair_fab {α β : Type} (f : State × β → α → State × β) (h : ∀ a x, (f a x).1.fab = a.1.fab) (l : List α)
    (a : State × β) : (l.foldl f a).1.fab = a.1.fab := by
  induction l generalizing a with
  | nil => rfl
  | cons x t ih => rw [List.foldl_cons, ih, h]

@[simp] theorem State.sendEvents_fab (s : State) : (State.sendEvents s).fab = s.fab := by
  simp [State.sendEvents]

@[simp] theorem State.event_fab (s : State) (f : Nat) (c : Nat) (source : Nat) : (State.event s f c source).fab = s.fab := by
  unfold State.event; (repeat' split) <;> simp [*]

@[simp] theorem State.eventAll_fab (s : State) (c : Nat) (source : Nat) : (State.eventAll s c source).fab = s.fab := by
  simp [State.eventAll, foldl_fab]

@[simp] theorem State.memWrite_fab (s : State) (a : Nat) (bs : Bytes) (poison : Bool) :
    (State.memWrite s a bs poison).fab = s.fab := by
  simp [State.memWrite]

@[simp] theorem State.memWriteMixed_fab (s : State) (a : Nat) (bs : Bytes) (pz : Nat → Bool) :
    (State.memWriteMixed s a bs pz).fab = s.fab := by
  simp [State.memWriteMixed, foldl_fab]

@[simp] theorem State.fix_fab (s : State) (f : Nat) (q : Nat) (pos : Nat) (status : Nat) (detail : Nat) (source : Nat) :
    (State.fix s f q pos status detail source).fab = s.fab := by
  unfold State.fix; simp only []; (repeat' split) <;> simp_all

@[simp] theorem State.refuse_fab (s : State) (f : Nat) (q : Nat) (pos : Nat) (detail : Nat) :
    (State.refuse s f q pos detail).fab = s.fab := by
  simp [State.refuse]

@[simp] theorem State.setCmd_fab (s : State) (f : Nat) (q : Nat) (pos : Nat) (g : Cmd → Cmd) :
    (State.setCmd s f q pos g).fab = s.fab := by
  simp [State.setCmd]

@[simp] theorem State.underWay_fab (s : State) (f : Nat) (q : Nat) (pos : Nat) (status : Nat) (detail : Nat) (source : Nat) :
    (State.underWay s f q pos status detail source).fab = s.fab := by
  simp [State.underWay]

@[simp] theorem State.driveSafeOff_fab (s : State) (on : Bool) : (State.driveSafeOff s on).fab = s.fab := by
  simp [State.driveSafeOff]

@[simp] theorem State.sendCan_fab (s : State) (ident : Nat) (typ : Nat) (alive : BitVec 8) :
    (State.sendCan s ident typ alive).fab = s.fab := by
  simp [State.sendCan]

@[simp] theorem State.setSaf_fab (s : State) (st : SafSt) : (State.setSaf s st).fab = s.fab := by
  simp [State.setSaf]

@[simp] theorem State.enterSafe_fab (s : State) (cause : Nat) (gtc : Nat) (source : Nat) (hw : Bool) :
    (State.enterSafe s cause gtc source hw).fab = s.fab := by
  simp [State.enterSafe]

@[simp] theorem State.latchCause_fab (s : State) (cause : Nat) (source : Nat) :
    (State.latchCause s cause source).fab = s.fab := by
  simp [State.latchCause]

@[simp] theorem State.undefine_fab (s : State) (f : Nat) (addr : Nat) (n : Nat) : (State.undefine s f addr n).fab = s.fab := by
  unfold State.undefine; (repeat' split) <;> simp [*]

@[simp] theorem State.advertise_fab (s : State) : (State.advertise s).fab = s.fab := by
  simp [State.advertise]

@[simp] theorem State.tellLinks_fab (s : State) : (State.tellLinks s).fab = s.fab := by
  simp [State.tellLinks]

@[simp] theorem State.markRun_fab (s : State) (r : Nat) (id : Nat) (poisoned : Bool) (lost : Bool) :
    (State.markRun s r id poisoned lost).fab = s.fab := by
  simp [State.markRun]

@[simp] theorem State.markCmd_fab (s : State) (cmd : Option (Nat × Nat × Nat)) (poisoned : Bool) (lost : Bool) :
    (State.markCmd s cmd poisoned lost).fab = s.fab := by
  unfold State.markCmd; (repeat' split) <;> simp [*]

@[simp] theorem State.poisonRead_fab (s : State) (part : Nat) (a : Nat) (source : Nat) :
    (State.poisonRead s part a source).fab = s.fab := by
  simp [State.poisonRead]

@[simp] theorem State.deliverTo_fab (s : State) (part : Nat) (a : Nat) (source : Nat) (data : Bytes) (poison : Bool) :
    (State.deliverTo s part a source data poison).fab = s.fab := by
  simp [State.deliverTo]

@[simp] theorem State.mergeLine_fab (s : State) (r : HomeReq) (poison : Bool) : (State.mergeLine s r poison).fab = s.fab := by
  simp [State.mergeLine, foldl_fab]

@[simp] theorem State.takeOver_fab (s : State) : (State.takeOver s).fab = s.fab := by
  simp [State.takeOver, foldl_fab]

@[simp] theorem State.deliver_fab (s : State) (r : CellarReq) (data : Bytes) (poison : Bool) :
    (State.deliver s r data poison).fab = s.fab := by
  simp [State.deliver]

@[simp] theorem State.maskedWrite_fab (s : State) (r : CellarReq) : (State.maskedWrite s r).fab = s.fab := by
  simp [State.maskedWrite]

@[simp] theorem State.poisonLine_fab (s : State) (a : Nat) : (State.poisonLine s a).fab = s.fab := by
  simp [State.poisonLine]

@[simp] theorem State.takeCoreLine_fab (s : State) (c : Nat) (part : Nat) (a : Nat) (data : Bytes) (poison : Bool) :
    (State.takeCoreLine s c part a data poison).fab = s.fab := by
  simp [State.takeCoreLine]

@[simp] theorem State.useDma_fab (s : State) (j : Job) : (State.useDma s j).fab = s.fab := by
  simp [State.useDma]

@[simp] theorem State.useSealing_fab (s : State) (j : Job) : (State.useSealing s j).fab = s.fab := by
  simp [State.useSealing]

@[simp] theorem State.useMessage_fab (s : State) (n : Nat) (j : Job) : (State.useMessage s n j).fab = s.fab := by
  simp [State.useMessage]

theorem poisonReads_fab (p src : Nat) (g : State → Nat → Nat) (l : List Nat) (s : State) :
    (l.foldl (fun s i => s.poisonRead p (g s i) src) s).fab = s.fab :=
  foldl_fab _ (fun s x => State.poisonRead_fab s p (g s x) src) l s

@[simp] theorem State.readLocal_fab (s : State) (f : Nat) (a : Nat) (n : Nat) : (State.readLocal s f a n).fab = s.fab := by
  exact poisonReads_fab f (srcPart f) (fun s l => s.struct.boardId * 2 ^ 40 + 128 * l) _ s

@[simp] theorem State.toHost_fab (s : State) (f : Nat) (q : Nat) (seq : Nat) (addr : Nat) (bs : Bytes) (first : Nat) (pz : Nat → Bool) :
    (State.toHost s f q seq addr bs first pz).fab = s.fab := by
  simp [State.toHost, foldl_fab]

@[simp] theorem State.fixSend_fab (s : State) (cmd : Option (Nat × Nat × Nat)) (source : Nat) :
    (State.fixSend s cmd source).fab = s.fab := by
  unfold State.fixSend; (repeat' split) <;> simp [*]

@[simp] theorem State.startMessage_fab (s : State) (dest : Nat) (f : Nat) (q : Nat) (c : Cmd) :
    (State.startMessage s dest f q c).fab = s.fab := by
  simp [State.startMessage]

@[simp] theorem State.mapMessage_fab (s : State) (n : Nat) (g : Engine → Engine) : (State.mapMessage s n g).fab = s.fab := by
  simp [State.mapMessage]

@[simp] theorem State.noteFw_fab (s : State) (comp : Fin 4) (slot : Bool) (event : String) :
    (State.noteFw s comp slot event).fab = s.fab := by
  simp [State.noteFw]

@[simp] theorem State.finishBurn_fab (s : State) (comp : Fin 4) : (State.finishBurn s comp).fab = s.fab := by
  unfold State.finishBurn; (repeat' split) <;> simp [*]

@[simp] theorem State.dropTrial_fab (s : State) (comp : Fin 4) : (State.dropTrial s comp).fab = s.fab := by
  simp [State.dropTrial]

@[simp] theorem State.bootComponent_fab (s : State) (c : Fin 4) : (s.bootComponent c).1.fab = s.fab := by
  simp [State.bootComponent]

@[simp] theorem State.enterRecovery_fab (s : State) (cause : Nat) : (State.enterRecovery s cause).fab = s.fab := by
  simp [State.enterRecovery]

@[simp] theorem State.applyOverride_fab (s : State) : (State.applyOverride s).fab = s.fab := by
  simp [State.applyOverride]

@[simp] theorem State.evalCompat_fab (s : State) : (State.evalCompat s).fab = s.fab := by
  simp [State.evalCompat]

@[simp] theorem State.loadCal_fab (s : State) : (State.loadCal s).fab = s.fab := by
  simp [State.loadCal, foldl_fab] <;> (intros; rw [foldl_fab]; intros; simp)

@[simp] theorem State.ledgerAfterAux_fab (s : State) : (State.ledgerAfterAux s).fab = s.fab := by
  simp [State.ledgerAfterAux]

@[simp] theorem State.checkRetention_fab (s : State) : (State.checkRetention s).fab = s.fab := by
  simp [State.checkRetention]

@[simp] theorem State.restartTime_fab (s : State) : (State.restartTime s).fab = s.fab := by
  simp [State.restartTime]

@[simp] theorem State.settleRetention_fab (s : State) : (State.settleRetention s).fab = s.fab := by
  simp [State.settleRetention]

@[simp] theorem State.bootFirmware_fab (s : State) (saf : Bool) : (State.bootFirmware s saf).fab = s.fab := by
  unfold State.bootFirmware; (repeat' split) <;> simp [*, foldl_fab]

@[simp] theorem State.bootTime_fab (s : State) : (State.bootTime s).fab = s.fab := by
  simp [State.bootTime]

@[simp] theorem State.bootNow_fab (s : State) : (State.bootNow s).fab = s.fab := by
  simp [State.bootNow]

@[simp] theorem State.announceReset_fab (s : State) (cold : Bool) (cause : String) (source : Nat) :
    (State.announceReset s cold cause source).fab = s.fab := by
  unfold State.announceReset; simp only []; (repeat' split) <;> simp_all

@[simp] theorem State.takeFwAction_fab (s : State) (a : FwAction) (comp : Fin 4) : (State.takeFwAction s a comp).fab = s.fab := by
  simp [State.takeFwAction]

@[simp] theorem State.askMark_fab (s : State) (f : Part) (w : U32) : (State.askMark s f w).fab = s.fab := by
  simp [State.askMark]

@[simp] theorem State.askCommit_fab (s : State) (f : Part) (w : U32) : (State.askCommit s f w).fab = s.fab := by
  simp [State.askCommit]

@[simp] theorem State.askCancel_fab (s : State) (f : Part) (w : U32) : (State.askCancel s f w).fab = s.fab := by
  simp [State.askCancel]

@[simp] theorem State.askBurn_fab (s : State) (f : Part) (w : U32) : (State.askBurn s f w).fab = s.fab := by
  simp [State.askBurn]

@[simp] theorem State.endMarkTrial_fab (s : State) (c : Fin 4) : (State.endMarkTrial s c).fab = s.fab := by
  simp [State.endMarkTrial]

@[simp] theorem State.endCommit_fab (s : State) (c : Fin 4) : (State.endCommit s c).fab = s.fab := by
  simp [State.endCommit]

@[simp] theorem State.endCancelTrial_fab (s : State) (c : Fin 4) : (State.endCancelTrial s c).fab = s.fab := by
  simp [State.endCancelTrial]

@[simp] theorem State.endBurn_fab (s : State) (c : Fin 4) : (State.endBurn s c).fab = s.fab := by
  unfold State.endBurn; simp only []; (repeat' split) <;> simp_all

@[simp] theorem State.askBegin_fab (s : State) (f : Part) (w : U32) : (State.askBegin s f w).fab = s.fab := by
  simp [State.askBegin]

@[simp] theorem State.askRun_fab (s : State) (f : Part) (w : U32) : (State.askRun s f w).fab = s.fab := by
  simp [State.askRun]

@[simp] theorem State.askProgram_fab (s : State) (f : Part) (w : U32) : (State.askProgram s f w).fab = s.fab := by
  simp [State.askProgram]

@[simp] theorem State.fillWindow_fab (s : State) (f : Part) (off : Nat) (size : Nat) (v : U64) :
    (State.fillWindow s f off size v).fab = s.fab := by
  simp [State.fillWindow]

@[simp] theorem State.mapCores_fab (s : State) (g : Core → Core) : (State.mapCores s g).fab = s.fab := by
  simp [State.mapCores]

@[simp] theorem State.resetCasks_fab (s : State) (route : Nat) : (State.resetCasks s route).fab = s.fab := by
  simp [State.resetCasks]

@[simp] theorem State.freshVecs_fab (s : State) (c : Nat) : (State.freshVecs s c).fab = s.fab := by
  simp [State.freshVecs]

@[simp] theorem State.install_fab (s : State) (c : Nat) (t : Task) : (State.install s c t).fab = s.fab := by
  simp [State.install]

@[simp] theorem State.loadCode_fab (s : State) (c : Nat) (t : Task) (blob : Nat) : (State.loadCode s c t blob).fab = s.fab := by
  simp [State.loadCode]

@[simp] theorem State.nextTask_fab (s : State) (c : Nat) : (State.nextTask s c).fab = s.fab := by
  unfold State.nextTask; simp only []; (repeat' split) <;> simp_all

@[simp] theorem State.endTask_fab (s : State) (c : Nat) : (State.endTask s c).fab = s.fab := by
  unfold State.endTask; simp only []; (repeat' split) <;> simp_all

@[simp] theorem State.finish_fab (s : State) (c : Nat) (x : Core) : (State.finish s c x).fab = s.fab := by
  simp [State.finish]

@[simp] theorem State.takePreemption_fab (s : State) (c : Nat) : (State.takePreemption s c).fab = s.fab := by
  unfold State.takePreemption; simp only []; (repeat' split) <;> simp_all

@[simp] theorem State.settleWait_fab (s : State) (c : Nat) : (State.settleWait s c).fab = s.fab := by
  unfold State.settleWait; simp only []; (repeat' split) <;> simp_all

@[simp] theorem State.settleWaits_fab (s : State) : (State.settleWaits s).fab = s.fab := by
  simp [State.settleWaits, foldl_fab]

@[simp] theorem State.startTask_fab (s : State) (c : Nat) (t : Task) (blob : Nat) : (State.startTask s c t blob).fab = s.fab := by
  simp [State.startTask]

@[simp] theorem State.settleSwap_fab (s : State) (route : Nat) : (State.settleSwap s route).fab = s.fab := by
  simp [State.settleSwap]

@[simp] theorem State.endApply_fab (s : State) (slot : Nat) : (State.endApply s slot).fab = s.fab := by
  unfold State.endApply; simp only []; (repeat' split) <;> simp_all

@[simp] theorem State.releaseHeld_fab (s : State) (route : Nat) : (State.releaseHeld s route).fab = s.fab := by
  simp [State.releaseHeld]

@[simp] theorem State.gapTimer_fab (s : State) (r : Nat) (st : RouteSt) : (State.gapTimer s r st).fab = s.fab := by
  simp [State.gapTimer]

@[simp] theorem State.setRouteSt_fab (s : State) (r : Nat) (st : RouteSt) : (State.setRouteSt s r st).fab = s.fab := by
  simp [State.setRouteSt]

@[simp] theorem State.mapFrame_fab (s : State) (r : Nat) (id : Nat) (g : Frame → Frame) :
    (State.mapFrame s r id g).fab = s.fab := by
  simp [State.mapFrame]

@[simp] theorem State.noteStale_fab (s : State) (r : Nat) (cause : Nat) : (State.noteStale s r cause).fab = s.fab := by
  simp [State.noteStale]

@[simp] theorem State.published_fab (s : State) (t : Struct) (r : Nat) (typ : Nat) (addr : Nat) (len : Nat) (exposure : Nat) :
    (State.published s t r typ addr len exposure).fab = s.fab := by
  simp [State.published]

@[simp] theorem State.checkDeadline_fab (s : State) (r : Nat) (f : Frame) : (State.checkDeadline s r f).fab = s.fab := by
  simp [State.checkDeadline]

@[simp] theorem State.epochCut_fab (s : State) (r : Nat) (f : Frame) (valid : Bool) :
    (State.epochCut s r f valid).fab = s.fab := by
  simp [State.epochCut]

@[simp] theorem State.fixAll_fab (s : State) (l : List (Nat × Nat × Nat)) (status : Nat) (detail : Nat) (source : Nat) :
    (State.fixAll s l status detail source).fab = s.fab := by
  simp [State.fixAll, foldl_fab]

@[simp] theorem State.stopApply_fab (s : State) (r : Nat) (status : Nat) (detail : Nat) :
    (State.stopApply s r status detail).fab = s.fab := by
  simp [State.stopApply, foldl_fab]

@[simp] theorem State.finishStop_fab (s : State) (r : Nat) : (State.finishStop s r).fab = s.fab := by
  simp [State.finishStop]

@[simp] theorem State.mapTasks_fab (s : State) (p : Task → Bool) (g : Task → Task) : (State.mapTasks s p g).fab = s.fab := by
  simp [State.mapTasks]

@[simp] theorem State.stopTasks_fab (s : State) (p : Task → Bool) : (State.stopTasks s p).fab = s.fab := by
  simp [State.stopTasks]

@[simp] theorem State.mapJobs_fab (s : State) (g : Nat → StageJob → StageJob) : (State.mapJobs s g).fab = s.fab := by
  simp [State.mapJobs]

@[simp] theorem State.noteLevel_fab (s : State) (level : BitVec 3) : (State.noteLevel s level).fab = s.fab := by
  simp [State.noteLevel]

@[simp] theorem State.epochAbandon_fab (s : State) (r : Nat) (id : Nat) : (State.epochAbandon s r id).fab = s.fab := by
  unfold State.epochAbandon; (repeat' split) <;> simp [*]

@[simp] theorem State.openWindow_fab (s : State) (r : Nat) : (State.openWindow s r).fab = s.fab := by
  simp [State.openWindow, foldl_fab]

@[simp] theorem State.associate_fab (s : State) (c : Nat) (id : Nat) (start : Nat) (exposure : Nat) :
    (State.associate s c id start exposure).fab = s.fab := by
  simp [State.associate, foldl_fab] <;> (intros; rw [foldl_fab]; intros; simp)

@[simp] theorem State.slotCycle_fab (s : State) (c : Nat) : (State.slotCycle s c).fab = s.fab := by
  unfold State.slotCycle; (repeat' split) <;> simp [*]

@[simp] theorem State.chargeEngine_fab (s : State) (r : Nat) (m : NodeRun) : (State.chargeEngine s r m).fab = s.fab := by
  simp [State.chargeEngine]

@[simp] theorem State.startNode_fab (s : State) (r : Nat) (f : Frame) (c : Bytes) : (State.startNode s r f c).fab = s.fab := by
  simp [State.startNode]

@[simp] theorem State.dispatch_fab (s : State) (r : Nat) (id : Nat) (n : Nat) (trig : Nat) :
    (State.dispatch s r id n trig).fab = s.fab := by
  unfold State.dispatch; (repeat' split) <;> simp [*]

@[simp] theorem State.undefineCmd_fab (s : State) (f : Nat) (q : Nat) (c : Cmd) : (State.undefineCmd s f q c).fab = s.fab := by
  simp [State.undefineCmd]

@[simp] theorem State.undefineCmds_fab (s : State) (f : Nat) : (State.undefineCmds s f).fab = s.fab := by
  simp [State.undefineCmds, foldl_fab]

@[simp] theorem State.dropApplies_fab (s : State) (p : Nat → Bool) : (State.dropApplies s p).fab = s.fab := by
  unfold State.dropApplies
  refine foldl_fab _ (fun s x => ?_) _ _
  split
  · split <;> simp
  · rfl

@[simp] theorem State.drainDst_fab (s : State) (d : Nat) : (State.drainDst s d).fab = s.fab := by
  simp [State.drainDst]

@[simp] theorem State.noteIrregular_fab (s : State) (c : Nat) (id : Nat) (long : Bool) (extra : Bool) :
    (State.noteIrregular s c id long extra).fab = s.fab := by
  simp [State.noteIrregular]

@[simp] theorem State.queueBeats_fab (s : State) (d : Nat) (l : List Beat) : (State.queueBeats s d l).fab = s.fab := by
  simp [State.queueBeats]

@[simp] theorem State.pipeLine_fab (s : State) (src : Nat) (ctx : Nat) (frame : Nat) (line : Nat) (plane : Nat) (b : Bytes) (poison : Bool) :
    (State.pipeLine s src ctx frame line plane b poison).fab = s.fab := by
  simp [State.pipeLine, foldl_fab]

@[simp] theorem State.closeBeat_fab (s : State) (src : Nat) (ctx : Nat) (frame : Nat) (pick : Nat → Bool) (data : Bytes) (poison : Bool) :
    (State.closeBeat s src ctx frame pick data poison).fab = s.fab := by
  simp [State.closeBeat, foldl_fab]

@[simp] theorem State.stageLine_fab (s : State) (src : Nat) (frameId : Nat) (ctx : Nat) (frame : Nat) (line : Nat) (plane : Nat) (b : Bytes) (poison : Bool) :
    (State.stageLine s src frameId ctx frame line plane b poison).fab = s.fab := by
  simp [State.stageLine, foldl_fab]

@[simp] theorem State.deliverBeat_fab (s : State) (d : Nat) : (State.deliverBeat s d).fab = s.fab := by
  unfold State.deliverBeat; simp only []; (repeat' split) <;> simp_all

@[simp] theorem State.mapJob_fab (s : State) (i : Nat) (g : StageJob → StageJob) : (State.mapJob s i g).fab = s.fab := by
  simp [State.mapJob]

@[simp] theorem State.notePoisoned_fab (s : State) (i : Nat) (poison : Bool) (discard : Bool) :
    (State.notePoisoned s i poison discard).fab = s.fab := by
  simp [State.notePoisoned]

@[simp] theorem State.jobDone_fab (s : State) (i : Nat) : (State.jobDone s i).fab = s.fab := by
  simp [State.jobDone]

@[simp] theorem State.sendLines_fab (s : State) (i : Nat) (src : Nat) (ctx : Nat) (key : Nat) (plane : Nat) (lines : List (Bytes × Bool)) :
    (State.sendLines s i src ctx key plane lines).fab = s.fab := by
  unfold State.sendLines; (repeat' split) <;> simp [*, foldl_fab]

@[simp] theorem State.offerTiles_fab (s : State) (i : Nat) (j : StageJob) (l : List (Nat × (Nat × Nat) × Bool)) :
    (State.offerTiles s i j l).fab = s.fab := by
  simp [State.offerTiles]

@[simp] theorem State.offerRows_fab (s : State) (i : Nat) (rows : List (List Px)) : (State.offerRows s i rows).fab = s.fab := by
  unfold State.offerRows; (repeat' split) <;> simp [*]

@[simp] theorem State.sendDense_fab (s : State) (i : Nat) (c : Nat) (rows : List (List Px)) (h : Nat) :
    (State.sendDense s i c rows h).fab = s.fab := by
  simp [State.sendDense]

@[simp] theorem State.closeInput_fab (s : State) (i : Nat) (port : Nat) (j : StageJob) (c : Nat) :
    (State.closeInput s i port j c).fab = s.fab := by
  simp [State.closeInput]

@[simp] theorem State.offerCells_fab (s : State) (j : StageJob) (m : Nat) : (State.offerCells s j m).fab = s.fab := by
  simp [State.offerCells]

@[simp] theorem State.offerMatches_fab (s : State) : (State.offerMatches s).fab = s.fab := by
  unfold State.offerMatches; (repeat' split) <;> simp [*]

@[simp] theorem State.endDense_fab (s : State) (i : Nat) (j : StageJob) : (State.endDense s i j).fab = s.fab := by
  simp [State.endDense]

@[simp] theorem State.refit_fab (s : State) : (State.refit s).fab = s.fab := by
  simp [State.refit, foldl_fab]

@[simp] theorem State.setLoop_fab (s : State) (l : LoopSt) : (State.setLoop s l).fab = s.fab := by
  simp [State.setLoop]

@[simp] theorem State.enterHold_fab (s : State) : (State.enterHold s).fab = s.fab := by
  simp [State.enterHold]

@[simp] theorem State.stepGtc_fab (s : State) (d : Int) : (State.stepGtc s d).fab = s.fab := by
  simp [State.stepGtc]

@[simp] theorem State.stepToInput_fab (s : State) (i : Nat) (e : Int) : (State.stepToInput s i e).fab = s.fab := by
  simp [State.stepToInput]

@[simp] theorem State.reselect_fab (s : State) : (State.reselect s).fab = s.fab := by
  unfold State.reselect; simp only []; (repeat' split) <;> simp_all

@[simp] theorem State.failInput_fab (s : State) (i : Nat) (code : Nat) : (State.failInput s i code).fab = s.fab := by
  simp [State.failInput]

@[simp] theorem State.makeAvailable_fab (s : State) (i : Nat) : (State.makeAvailable s i).fab = s.fab := by
  simp [State.makeAvailable]

@[simp] theorem State.judgeLock_fab (s : State) (e : Int) : (State.judgeLock s e).fab = s.fab := by
  simp [State.judgeLock]

@[simp] theorem State.stepOnMeasure_fab (s : State) (i : Nat) (e : Int) : (s.stepOnMeasure i e).1.fab = s.fab := by
  unfold State.stepOnMeasure; simp only []; (repeat' split) <;> simp

@[simp] theorem State.loopMeasure_fab (s : State) (i : Nat) (e : Int) : (State.loopMeasure s i e).fab = s.fab := by
  simp [State.loopMeasure]

@[simp] theorem State.measure_fab (s : State) (i : Nat) (e : Int) (freq : Int) (jump : Bool) (domainOk : Bool) :
    (State.measure s i e freq jump domainOk).fab = s.fab := by
  simp [State.measure]

@[simp] theorem State.failLanicy_fab (s : State) : (State.failLanicy s).fab = s.fab := by
  simp [State.failLanicy, foldl_fab]

@[simp] theorem State.setBackupActs_fab (s : State) (v : Bool) : (State.setBackupActs s v).fab = s.fab := by
  simp [State.setBackupActs]

@[simp] theorem State.hearTime_fab (s : State) (port : Nat) (m : TimeMsg) : (State.hearTime s port m).fab = s.fab := by
  simp [State.hearTime]

@[simp] theorem State.endFreqPulse_fab (s : State) : (State.endFreqPulse s).fab = s.fab := by
  simp [State.endFreqPulse]

@[simp] theorem State.tmgCycle_fab (s : State) : (State.tmgCycle s).fab = s.fab := by
  simp [State.tmgCycle]

@[simp] theorem State.measureVin_fab (s : State) : (State.measureVin s).fab = s.fab := by
  simp [State.measureVin]

@[simp] theorem State.endVerify_fab (s : State) : (State.endVerify s).fab = s.fab := by
  unfold State.endVerify; (repeat' split) <;> simp [*]

@[simp] theorem State.resumeTasks_fab (s : State) : (State.resumeTasks s).fab = s.fab := by
  simp [State.resumeTasks, foldl_fab]

@[simp] theorem State.badHeader_fab (s : State) (port : Nat) : (State.badHeader s port).fab = s.fab := by
  simp [State.badHeader]

@[simp] theorem State.active_fab (s : State) (port : Nat) : (State.active s port).fab = s.fab := by
  simp [State.active]

@[simp] theorem State.emitLine_fab (s : State) (c pipe : Nat) (g : CtxFrame) (y : Nat) : (s.emitLine c pipe g y).1.fab = s.fab := by
  unfold State.emitLine
  refine foldlPair_fab _ (fun a x => ?_) _ _
  dsimp only
  split <;> simp

@[simp] theorem State.emitChroma_fab (s : State) (c : Nat) (pipe : Nat) (f : CtxFrame) :
    (State.emitChroma s c pipe f).fab = s.fab := by
  simp [State.emitChroma, foldl_fab]

@[simp] theorem State.emitFrame_fab (s : State) (c : Nat) (id : Nat) : (State.emitFrame s c id).fab = s.fab := by
  unfold State.emitFrame; (repeat' split) <;> simp [*, foldl_fab, foldlPair_fab]

@[simp] theorem State.closeFrame_fab (s : State) (c : Nat) (short : Bool) : (State.closeFrame s c short).fab = s.fab := by
  unfold State.closeFrame; (repeat' split) <;> simp [*]

@[simp] theorem State.noteBacklog_fab (s : State) (pipe : Nat) : (State.noteBacklog s pipe).fab = s.fab := by
  simp [State.noteBacklog]

@[simp] theorem State.takeLinePacket_fab (s : State) (port : Nat) (c : Nat) (dt : Nat) (pixels : List Nat) (bad : Bool) :
    (State.takeLinePacket s port c dt pixels bad).fab = s.fab := by
  unfold State.takeLinePacket; (repeat' split) <;> simp [*]

@[simp] theorem State.scbCtl_fab (s : State) (f : Part) (k : Nat) (w : U32) : (State.scbCtl s f k w).fab = s.fab := by
  simp [State.scbCtl]

@[simp] theorem State.scbPush_fab (s : State) (f : Part) (k : Nat) (v : Byte) : (State.scbPush s f k v).fab = s.fab := by
  simp [State.scbPush]

@[simp] theorem State.scbPop_fab (s : State) (b : Nat) : (s.scbPop b).1.fab = s.fab := by
  unfold State.scbPop; split <;> simp

@[simp] theorem State.enforcePins_fab (s : State) (old : Struct) : (State.enforcePins s old).fab = s.fab := by
  simp [State.enforcePins]

@[simp] theorem State.enforceInputs_fab (s : State) : (State.enforceInputs s).fab = s.fab := by
  simp [State.enforceInputs]

@[simp] theorem State.enforceRoles_fab (s : State) (old : Struct) : (State.enforceRoles s old).fab = s.fab := by
  simp [State.enforceRoles]

@[simp] theorem State.enforceOutputs_fab (s : State) (old : Struct) : (State.enforceOutputs s old).fab = s.fab := by
  simp [State.enforceOutputs]

@[simp] theorem State.refreshVfs_fab (s : State) : (State.refreshVfs s).fab = s.fab := by
  simp [State.refreshVfs]

@[simp] theorem State.enforceCamera_fab (s : State) (old : Struct) : (State.enforceCamera s old).fab = s.fab := by
  simp [State.enforceCamera]

@[simp] theorem State.enforceStreams_fab (s : State) (old : Struct) : (State.enforceStreams s old).fab = s.fab := by
  simp [State.enforceStreams]

@[simp] theorem State.enforceStages_fab (s : State) : (State.enforceStages s).fab = s.fab := by
  simp [State.enforceStages]

@[simp] theorem State.enforceSafety_fab (s : State) (core : Option Bytes) : (State.enforceSafety s core).fab = s.fab := by
  unfold State.enforceSafety; (repeat' split) <;> simp [*]

@[simp] theorem State.rejectApply_fab (s : State) (n : Nat) (a : Apply) (status : Nat) (detail : Nat) :
    (State.rejectApply s n a status detail).fab = s.fab := by
  simp [State.rejectApply]

@[simp] theorem State.missFrame_fab (s : State) (r : Nat) (n : Nat) (a : Apply) : (State.missFrame s r n a).fab = s.fab := by
  simp [State.missFrame]

@[simp] theorem State.checkerFails_fab (s : State) (c : Nat × Nat) (g : Nat) : (State.checkerFails s c g).fab = s.fab := by
  unfold State.checkerFails; simp only []; (repeat' split) <;> simp_all

@[simp] theorem State.pairWrite_fab (s : State) (f : Part) (w : U32) : (State.pairWrite s f w).fab = s.fab := by
  simp [State.pairWrite]

@[simp] theorem State.draw_fab (s : State) (n : Nat) : (s.draw n).2.fab = s.fab := by simp [State.draw]

@[simp] theorem State.dropBlobs_fab (s : State) (a : Nat) (n : Nat) : (State.dropBlobs s a n).fab = s.fab := by
  simp [State.dropBlobs]

@[simp] theorem State.failLoad_fab (s : State) (f : Nat) (q : Nat) (pos : Nat) (status : Nat) (detail : Nat) (c : Cmd) (payload : Nat) :
    (State.failLoad s f q pos status detail c payload).fab = s.fab := by
  simp [State.failLoad]

@[simp] theorem State.newMemoryKey_fab (s : State) : (State.newMemoryKey s).fab = s.fab := by
  simp [State.newMemoryKey]

@[simp] theorem State.setSpdm_fab (s : State) (p : SpdmPort) (x : Spdm) : (State.setSpdm s p x).fab = s.fab := by
  unfold State.setSpdm; (repeat' split) <;> simp [*]

@[simp] theorem State.endConsent_fab (s : State) : (State.endConsent s).fab = s.fab := by
  unfold State.endConsent; (repeat' split) <;> simp [*]

@[simp] theorem State.clearRsq_fab (s : State) (off : Nat) : (State.clearRsq s off).fab = s.fab := by
  simp [State.clearRsq]

@[simp] theorem State.clearCin_fab (s : State) (off : Nat) : (State.clearCin s off).fab = s.fab := by
  simp [State.clearCin]

@[simp] theorem State.clearIsp_fab (s : State) (off : Nat) : (State.clearIsp s off).fab = s.fab := by
  simp [State.clearIsp]

@[simp] theorem State.clearStage_fab (s : State) (i : Nat) (r : Nat) : (State.clearStage s i r).fab = s.fab := by
  simp [State.clearStage]

@[simp] theorem State.clearMash_fab (s : State) (off : Nat) : (State.clearMash s off).fab = s.fab := by
  simp [State.clearMash]

@[simp] theorem State.clearNec_fab (s : State) (off : Nat) : (State.clearNec s off).fab = s.fab := by
  simp [State.clearNec]

@[simp] theorem State.clearTmg_fab (s : State) (off : Nat) : (State.clearTmg s off).fab = s.fab := by
  simp [State.clearTmg]

@[simp] theorem State.clearSaf_fab (s : State) (off : Nat) : (State.clearSaf s off).fab = s.fab := by
  simp [State.clearSaf]

@[simp] theorem State.clearMgt_fab (s : State) (off : Nat) : (State.clearMgt s off).fab = s.fab := by
  simp [State.clearMgt]

@[simp] theorem State.clearLog_fab (s : State) (off : Nat) : (State.clearLog s off).fab = s.fab := by
  simp [State.clearLog]

@[simp] theorem State.debugServe_fab (s : State) (op : DebugOp) : (State.debugServe s op).fab = s.fab := by
  unfold State.debugServe; (repeat' split) <;> simp [*]

@[simp] theorem State.memCorrected_fab (s : State) (a : Nat) : (State.memCorrected s a).fab = s.fab := by
  simp [State.memCorrected]

@[simp] theorem State.memUncorrectable_fab (s : State) (a : Nat) : (State.memUncorrectable s a).fab = s.fab := by
  simp [State.memUncorrectable]

@[simp] theorem State.countFind_fab (s : State) (a : Nat) (e : EccFind) : (s.countFind a e).fab = s.fab := by
  cases e <;> simp [State.countFind]

@[simp] theorem State.pairFill_fab (s : State) (a : Nat) : (State.pairFill s a).fab = s.fab := by
  simp [State.pairFill]

@[simp] theorem State.keepSeq_fab (s : State) (l : Log) : (State.keepSeq s l).fab = s.fab := by
  simp [State.keepSeq]

@[simp] theorem State.appendNext_fab (s : State) : (State.appendNext s).fab = s.fab := by
  unfold State.appendNext; (repeat' split) <;> simp [*]

@[simp] theorem State.norCopy_fab (s : State) (ok : Bool) : (State.norCopy s ok).fab = s.fab := by
  unfold State.norCopy; (repeat' split) <;> simp [*]

@[simp] theorem State.appendMany_fab (s : State) (n : Nat) : (State.appendMany s n).fab = s.fab := by
  induction n generalizing s with
  | zero => rfl
  | succ n ih => unfold State.appendMany; simp [ih]

@[simp] theorem State.copyMany_fab (s : State) (n : Nat) : (State.copyMany s n).fab = s.fab := by
  induction n generalizing s with
  | zero => rfl
  | succ n ih => unfold State.copyMany; simp [ih]

@[simp] theorem State.patrolUe_fab (s : State) (block : Nat) (a : Nat) (intervened : Bool) :
    (State.patrolUe s block a intervened).fab = s.fab := by
  simp [State.patrolUe]

@[simp] theorem State.patrolBlock_fab (s : State) (block : Nat) (errs : List Bytes) (intervened : Bool) :
    (State.patrolBlock s block errs intervened).fab = s.fab := by
  refine foldl_fab _ (fun s x => ?_) _ _
  dsimp only
  split
  · rfl
  · split <;> simp

@[simp] theorem State.defer_fab (s : State) (activity : Nat) : (State.defer s activity).fab = s.fab := by
  simp [State.defer]

@[simp] theorem State.setBg_fab (s : State) (f : Part) (w : U32) : (State.setBg s f w).fab = s.fab := by
  simp [State.setBg]

@[simp] theorem State.startApply_fab (s : State) (f : Nat) (q : Nat) (c : Cmd) (point : ApplyPoint) :
    (State.startApply s f q c point).fab = s.fab := by
  unfold State.startApply; simp only []; (repeat' split) <;> simp_all

@[simp] theorem State.restartMessage_fab (s : State) (dest : Nat) (f : Nat) (q : Nat) (c : Cmd) :
    (State.restartMessage s dest f q c).fab = s.fab := by
  simp [State.restartMessage]

@[simp] theorem State.markFrame_fab (s : State) (own : Nat × Nat × Nat) (poisoned : Bool) (lost : Bool) :
    (State.markFrame s own poisoned lost).fab = s.fab := by
  simp [State.markFrame]

@[simp] theorem State.markOwner_fab (s : State) (c : Nat) (own : Nat × Nat × Nat) (b : Bool) :
    (State.markOwner s c own b).fab = s.fab := by
  simp [State.markOwner]

@[simp] theorem State.pieceRead_fab (s : State) (c : Nat) (x : Xfer) (host : Bool) (a : Nat) (n : Nat) (bad : List Nat) :
    (State.pieceRead s c x host a n bad).fab = s.fab := by
  simp [State.pieceRead, foldl_fab]

@[simp] theorem State.endCwait_fab (s : State) (c : Nat) (p : Bool) : (State.endCwait s c p).fab = s.fab := by
  simp [State.endCwait]

@[simp] theorem State.doCrd_fab (s : State) (c : Nat) (v : Nat) (idx : Nat) (off : Nat) (k : CaskCfg) :
    (State.doCrd s c v idx off k).fab = s.fab := by
  simp [State.doCrd]

@[simp] theorem State.doCpush_fab (s : State) (c : Nat) (v : Nat) (idx : Nat) (k : CaskCfg) :
    (State.doCpush s c v idx k).fab = s.fab := by
  simp [State.doCpush]

@[simp] theorem State.halt_fab (s : State) (f : Nat) (q : Nat) (error : Nat) : (State.halt s f q error).fab = s.fab := by
  simp [State.halt]

@[simp] theorem State.raise_fab (s : State) (f : Nat) (q : Nat) : (State.raise s f q).fab = s.fab := by
  simp [State.raise]

@[simp] theorem State.postEntry_fab (s : State) (f : Nat) (q : Nat) (seq : Nat) (status : Nat) (detail : Nat) (source : Nat) :
    (State.postEntry s f q seq status detail source).fab = s.fab := by
  simp [State.postEntry]

@[simp] theorem State.settle_fab (s : State) (f : Nat) (q : Nat) : (State.settle s f q).fab = s.fab := by
  simp [State.settle]

@[simp] theorem State.postAborted_fab (s : State) (f : Nat) (q : Nat) (status : Nat) (a : Aborted) :
    (State.postAborted s f q status a).fab = s.fab := by
  simp [State.postAborted]

@[simp] theorem State.postAborts_fab (s : State) (f q n : Nat) : (State.postAborts s f q n).fab = s.fab := by
  induction n generalizing s with
  | zero => rfl
  | succ n ih => unfold State.postAborts; simp only []; (repeat' split) <;> simp [ih]

@[simp] theorem State.ringTail_fab (s : State) (f : Part) (q : Fin 64) (idx : BitVec 16) :
    (State.ringTail s f q idx).fab = s.fab := by
  simp [State.ringTail]

@[simp] theorem State.ringHead_fab (s : State) (f : Part) (q : Fin 64) (idx : BitVec 16) :
    (State.ringHead s f q idx).fab = s.fab := by
  simp [State.ringHead]

@[simp] theorem State.takeDescriptor_fab (s : State) (f : Nat) (q : Nat) (d : Bytes) :
    (State.takeDescriptor s f q d).fab = s.fab := by
  unfold State.takeDescriptor; simp only []; (repeat' split) <;> simp_all

@[simp] theorem State.settleLoad_fab (s : State) (f : Nat) (q : Nat) (pos : Nat) (ok : Bool) :
    (State.settleLoad s f q pos ok).fab = s.fab := by
  simp [State.settleLoad]

@[simp] theorem State.turnOn_fab (s : State) (f : Part) (q : Fin 64) (w : U32) : (State.turnOn s f q w).fab = s.fab := by
  simp [State.turnOn]

@[simp] theorem State.turnOff_fab (s : State) (f : Part) (q : Fin 64) (w : U32) : (State.turnOff s f q w).fab = s.fab := by
  simp [State.turnOff]

@[simp] theorem State.setMode_fab (s : State) (m : Nat) : (State.setMode s m).fab = s.fab := by
  simp [State.setMode]

@[simp] theorem State.closeLoop_fab (s : State) : (State.closeLoop s).fab = s.fab := by
  simp [State.closeLoop]

@[simp] theorem State.askClosed_fab (s : State) (f : Part) (w : U32) : (State.askClosed s f w).fab = s.fab := by
  simp [State.askClosed]

@[simp] theorem State.askHold_fab (s : State) (f : Part) (w : U32) : (State.askHold s f w).fab = s.fab := by
  simp [State.askHold]

@[simp] theorem State.askSoftware_fab (s : State) (f : Part) (w : U32) : (State.askSoftware s f w).fab = s.fab := by
  simp [State.askSoftware]

@[simp] theorem State.setDco_fab (s : State) (f : Part) (upper : U32) : (State.setDco s f upper).fab = s.fab := by
  simp [State.setDco]

@[simp] theorem State.setTod_fab (s : State) (f : Part) (upper : U32) : (State.setTod s f upper).fab = s.fab := by
  simp [State.setTod]

@[simp] theorem State.askStep_fab (s : State) (f : Part) (upper : U32) : (State.askStep s f upper).fab = s.fab := by
  simp [State.askStep]

@[simp] theorem State.askRealign_fab (s : State) (f : Part) (output : Fin 9) (w : U32) :
    (State.askRealign s f output w).fab = s.fab := by
  simp [State.askRealign]

@[simp] theorem State.realignStep_fab (s : State) (o : Nat) : (State.realignStep s o).fab = s.fab := by
  unfold State.realignStep; (repeat' split) <;> simp [*]

@[simp] theorem State.takeRequest_fab (s : State) (request : Nat) : (State.takeRequest s request).fab = s.fab := by
  simp [State.takeRequest]

@[simp] theorem State.askClaim_fab (s : State) (f : Part) (w : U32) : (State.askClaim s f w).fab = s.fab := by
  simp [State.askClaim]

@[simp] theorem State.askRotate_fab (s : State) (f : Part) (w : U32) : (State.askRotate s f w).fab = s.fab := by
  simp [State.askRotate]

@[simp] theorem State.spdmAnswer_fab (s : State) (p : SpdmPort) (ok : Bool) (data : Bytes) (g : Spdm → Spdm) :
    (State.spdmAnswer s p ok data g).fab = s.fab := by
  simp [State.spdmAnswer]

@[simp] theorem State.pokeQueue_fab (s : State) (f : Part) (q : Fin 64) (r : Nat) (w : U32) :
    (State.pokeQueue s f q r w).fab = s.fab := by
  simp [State.pokeQueue]

@[simp] theorem State.pokeFn_fab (s : State) (f : Part) (off : Nat) (w : U32) : (State.pokeFn s f off w).fab = s.fab := by
  simp [State.pokeFn]

@[simp] theorem State.pokeBar2_fab (s : State) (f : Part) (off : Nat) (w : U32) : (State.pokeBar2 s f off w).fab = s.fab := by
  simp [State.pokeBar2]

@[simp] theorem State.pokeCin_fab (s : State) (off : Nat) (w : U32) : (State.pokeCin s off w).fab = s.fab := by
  simp [State.pokeCin]

@[simp] theorem State.setQl_fab (s : State) (i : Nat) (ql : Nat) : (State.setQl s i ql).fab = s.fab := by
  simp [State.setQl]

theorem iteEq_fab {c : Prop} [Decidable c] {s a b : State} (h1 : a.fab = s.fab) (h2 : b.fab = s.fab) :
    (if c then a else b).fab = s.fab := by
  split <;> assumption

@[simp] theorem State.pokeTmg_fab (s : State) (off : Nat) (w : U32) : (State.pokeTmg s off w).fab = s.fab := by
  refine iteEq_fab ?_ (iteEq_fab ?_ (iteEq_fab ?_ (iteEq_fab ?_ (iteEq_fab ?_ (iteEq_fab ?_ (iteEq_fab ?_ (iteEq_fab ?_ (iteEq_fab ?_
    (iteEq_fab ?_ (iteEq_fab ?_ ?_))))))))))
  · split <;> simp
  · exact iteEq_fab rfl rfl
  · simp
  · rfl
  · simp
  · rfl
  · simp
  · rfl
  · rfl
  · exact iteEq_fab (by simp) rfl
  · exact iteEq_fab (by simp) rfl
  · rfl

@[simp] theorem State.pokeSec_fab (s : State) (off : Nat) (w : U32) : (State.pokeSec s off w).fab = s.fab := by
  unfold State.pokeSec; (repeat' split) <;> simp [*]

@[simp] theorem State.pokeRange_fab (s : State) (off : Nat) (w : U32) : (State.pokeRange s off w).fab = s.fab := by
  simp [State.pokeRange]

@[simp] theorem State.pokeFw_fab (s : State) (w : U32) : (State.pokeFw s w).fab = s.fab := by
  unfold State.pokeFw; (repeat' split) <;> simp [*]

@[simp] theorem State.pokeMgt_fab (s : State) (off : Nat) (w : U32) : (State.pokeMgt s off w).fab = s.fab := by
  simp [State.pokeMgt]

@[simp] theorem State.pokeRec_fab (s : State) (off : Nat) (w : U32) : (State.pokeRec s off w).fab = s.fab := by
  unfold State.pokeRec; (repeat' split) <;> simp [*]

@[simp] theorem State.pokePwr_fab (s : State) (off : Nat) (w : U32) : (State.pokePwr s off w).fab = s.fab := by
  simp [State.pokePwr]

@[simp] theorem State.freeStage_fab (s : State) (r : Nat) (id : Nat) (m : NodeRun) : (State.freeStage s r id m).fab = s.fab := by
  unfold State.freeStage
  dsimp only
  split
  · split
    · rw [State.mapFrame_fab]
    · rfl
  · rfl

@[simp] theorem State.haltEngine_fab (s : State) (e : Nat) : (State.haltEngine s e).fab = s.fab := by
  simp [State.haltEngine]

@[simp] theorem State.beginGather_fab (s : State) (f : Nat) (q : Nat) (c : Cmd) (b : Bytes) (ep : Bool) (scalar : Nat) (own : Nat) (share : Bytes) :
    (State.beginGather s f q c b ep scalar own share).fab = s.fab := by
  simp [State.beginGather]

@[simp] theorem State.abortFrameApplies_fab (s : State) : (State.abortFrameApplies s).fab = s.fab := by
  unfold State.abortFrameApplies
  refine foldl_fab _ (fun s x => ?_) _ _
  split
  · split <;> simp
  · rfl

@[simp] theorem State.abortQueue_fab (s : State) (f : Nat) (q : Nat) : (State.abortQueue s f q).fab = s.fab := by
  simp [State.abortQueue, foldl_fab]

@[simp] theorem State.removeVfs_fab (s : State) : (State.removeVfs s).fab = s.fab := by
  simp [State.removeVfs]

end Sys2Proof.Machine
end

