-- ==== Sys2Proof/Laws/FrameTmg.lean ====
section
/-! SUPPORT. The operations that leave the timing block alone: one lemma for each, which says so (`.tmg` is the field of State that holds it). -/

namespace Sys2Proof.Machine

set_option linter.all false

@[simp] theorem ite_tmg (c : Prop) [Decidable c] (a b : State) : (if c then a else b).tmg = if c then a.tmg else b.tmg := by
  split <;> rfl

theorem foldl_tmg {α : Type} (f : State → α → State) (h : ∀ s x, (f s x).tmg = s.tmg) (l : List α) (s : State) :
    (l.foldl f s).tmg = s.tmg := by
  induction l generalizing s with
  | nil => rfl
  | cons a t ih => rw [List.foldl_cons, ih, h]

theorem foldlPair_tmg {α β : Type} (f : State × β → α → State × β) (h : ∀ a x, (f a x).1.tmg = a.1.tmg) (l : List α)
    (a : State × β) : (l.foldl f a).1.tmg = a.1.tmg := by
  induction l generalizing a with
  | nil => rfl
  | cons x t ih => rw [List.foldl_cons, ih, h]

@[simp] theorem State.sendEvents_tmg (s : State) : (State.sendEvents s).tmg = s.tmg := by
  simp [State.sendEvents]

@[simp] theorem State.event_tmg (s : State) (f : Nat) (c : Nat) (source : Nat) : (State.event s f c source).tmg = s.tmg := by
  unfold State.event; (repeat' split) <;> simp [*]

@[simp] theorem State.eventAll_tmg (s : State) (c : Nat) (source : Nat) : (State.eventAll s c source).tmg = s.tmg := by
  simp [State.eventAll, foldl_tmg]

@[simp] theorem State.memWrite_tmg (s : State) (a : Nat) (bs : Bytes) (poison : Bool) :
    (State.memWrite s a bs poison).tmg = s.tmg := by
  simp [State.memWrite]

@[simp] theorem State.memWriteMixed_tmg (s : State) (a : Nat) (bs : Bytes) (pz : Nat → Bool) :
    (State.memWriteMixed s a bs pz).tmg = s.tmg := by
  simp [State.memWriteMixed, foldl_tmg]

@[simp] theorem State.fix_tmg (s : State) (f : Nat) (q : Nat) (pos : Nat) (status : Nat) (detail : Nat) (source : Nat) :
    (State.fix s f q pos status detail source).tmg = s.tmg := by
  unfold State.fix; simp only []; (repeat' split) <;> simp_all

@[simp] theorem State.refuse_tmg (s : State) (f : Nat) (q : Nat) (pos : Nat) (detail : Nat) :
    (State.refuse s f q pos detail).tmg = s.tmg := by
  simp [State.refuse]

@[simp] theorem State.setCmd_tmg (s : State) (f : Nat) (q : Nat) (pos : Nat) (g : Cmd → Cmd) :
    (State.setCmd s f q pos g).tmg = s.tmg := by
  simp [State.setCmd]

@[simp] theorem State.underWay_tmg (s : State) (f : Nat) (q : Nat) (pos : Nat) (status : Nat) (detail : Nat) (source : Nat) :
    (State.underWay s f q pos status detail source).tmg = s.tmg := by
  simp [State.underWay]

@[simp] theorem State.driveSafeOff_tmg (s : State) (on : Bool) : (State.driveSafeOff s on).tmg = s.tmg := by
  simp [State.driveSafeOff]

@[simp] theorem State.sendCan_tmg (s : State) (ident : Nat) (typ : Nat) (alive : BitVec 8) :
    (State.sendCan s ident typ alive).tmg = s.tmg := by
  simp [State.sendCan]

@[simp] theorem State.setSaf_tmg (s : State) (st : SafSt) : (State.setSaf s st).tmg = s.tmg := by
  simp [State.setSaf]

@[simp] theorem State.enterSafe_tmg (s : State) (cause : Nat) (gtc : Nat) (source : Nat) (hw : Bool) :
    (State.enterSafe s cause gtc source hw).tmg = s.tmg := by
  simp [State.enterSafe]

@[simp] theorem State.latchCause_tmg (s : State) (cause : Nat) (source : Nat) :
    (State.latchCause s cause source).tmg = s.tmg := by
  simp [State.latchCause]

@[simp] theorem State.undefine_tmg (s : State) (f : Nat) (addr : Nat) (n : Nat) : (State.undefine s f addr n).tmg = s.tmg := by
  unfold State.undefine; (repeat' split) <;> simp [*]

@[simp] theorem State.reroute_tmg (s : State) : (State.reroute s).tmg = s.tmg := by
  simp [State.reroute, foldl_tmg]

@[simp] theorem State.sendFlit_tmg (s : State) (p : Nat) (idle : Bool) (payload : Bytes) :
    (State.sendFlit s p idle payload).tmg = s.tmg := by
  simp [State.sendFlit]

@[simp] theorem State.pump_tmg (s : State) (p : Nat) (l : List Bytes) : (State.pump s p l).tmg = s.tmg := by
  induction l generalizing s with
  | nil => simp [State.pump]
  | cons b t ih => unfold State.pump; split <;> simp [ih]

@[simp] theorem State.sendIdle_tmg (s : State) (p : Nat) : (State.sendIdle s p).tmg = s.tmg := by
  simp [State.sendIdle]

@[simp] theorem State.nak_tmg (s : State) (p : Nat) : (State.nak s p).tmg = s.tmg := by
  simp [State.nak]

@[simp] theorem State.portSend_tmg (s : State) (p : Nat) (lane : Nat) (m : Msg) : (State.portSend s p lane m).tmg = s.tmg := by
  simp [State.portSend]

@[simp] theorem State.strand_tmg (s : State) (m : Msg) : (State.strand s m).tmg = s.tmg := by
  simp [State.strand]

@[simp] theorem State.forward_tmg (s : State) (m : Msg) : (State.forward s m).tmg = s.tmg := by
  unfold State.forward; (repeat' split) <;> simp [*]

@[simp] theorem State.sendMsg_tmg (s : State) (m : Msg) : (State.sendMsg s m).tmg = s.tmg := by
  simp [State.sendMsg]

@[simp] theorem State.flushStuck_tmg (s : State) : (State.flushStuck s).tmg = s.tmg := by
  simp [State.flushStuck, foldl_tmg]

@[simp] theorem State.advertise_tmg (s : State) : (State.advertise s).tmg = s.tmg := by
  simp [State.advertise]

@[simp] theorem State.tellLinks_tmg (s : State) : (State.tellLinks s).tmg = s.tmg := by
  simp [State.tellLinks]

@[simp] theorem State.linksChanged_tmg (s : State) : (State.linksChanged s).tmg = s.tmg := by
  simp [State.linksChanged]

@[simp] theorem State.sendRequest_tmg (s : State) (m : Msg) (cmd : Option (Nat × Nat × Nat)) :
    (State.sendRequest s m cmd).tmg = s.tmg := by
  simp [State.sendRequest]

@[simp] theorem State.request_tmg (s : State) (m : Msg) (cmd : Option (Nat × Nat × Nat)) :
    (State.request s m cmd).tmg = s.tmg := by
  simp [State.request]

@[simp] theorem State.issueWaiting_tmg (s : State) (d n : Nat) : (State.issueWaiting s d n).tmg = s.tmg := by
  induction n generalizing s with
  | zero => rfl
  | succ n ih => unfold State.issueWaiting; (repeat' split) <;> simp [ih]

@[simp] theorem State.answered_tmg (s : State) (src : Nat) (reqId : Nat) : (State.answered s src reqId).tmg = s.tmg := by
  simp [State.answered]

@[simp] theorem State.markRun_tmg (s : State) (r : Nat) (id : Nat) (poisoned : Bool) (lost : Bool) :
    (State.markRun s r id poisoned lost).tmg = s.tmg := by
  simp [State.markRun]

@[simp] theorem State.markCmd_tmg (s : State) (cmd : Option (Nat × Nat × Nat)) (poisoned : Bool) (lost : Bool) :
    (State.markCmd s cmd poisoned lost).tmg = s.tmg := by
  unfold State.markCmd; (repeat' split) <;> simp [*]

@[simp] theorem State.poisonRead_tmg (s : State) (part : Nat) (a : Nat) (source : Nat) :
    (State.poisonRead s part a source).tmg = s.tmg := by
  simp [State.poisonRead]

@[simp] theorem State.deliverTo_tmg (s : State) (part : Nat) (a : Nat) (source : Nat) (data : Bytes) (poison : Bool) :
    (State.deliverTo s part a source data poison).tmg = s.tmg := by
  simp [State.deliverTo]

@[simp] theorem State.remoteWrite_tmg (s : State) (board : Nat) (part : Nat) (a : Nat) (bs : Bytes) (poison : Bool) (cmd : Option (Nat × Nat × Nat)) :
    (State.remoteWrite s board part a bs poison cmd).tmg = s.tmg := by
  simp [State.remoteWrite, foldl_tmg]

@[simp] theorem State.answer_tmg (s : State) (m : Msg) : (State.answer s m).tmg = s.tmg := by
  simp [State.answer]

@[simp] theorem State.answerLine_tmg (s : State) (typ : Nat) (r : HomeReq) : (State.answerLine s typ r).tmg = s.tmg := by
  simp [State.answerLine]

@[simp] theorem State.answerBare_tmg (s : State) (typ : Nat) (dest : Nat) (reqId : Nat) (part : Nat) (addr : Nat) :
    (State.answerBare s typ dest reqId part addr).tmg = s.tmg := by
  simp [State.answerBare]

@[simp] theorem State.snoop_tmg (s : State) (typ : Nat) (req : HomeReq) (boards : List Nat) :
    (State.snoop s typ req boards).tmg = s.tmg := by
  simp [State.snoop, foldl_tmg]

@[simp] theorem State.mergeLine_tmg (s : State) (r : HomeReq) (poison : Bool) : (State.mergeLine s r poison).tmg = s.tmg := by
  simp [State.mergeLine, foldl_tmg]

@[simp] theorem State.finishReq_tmg (s : State) (r : HomeReq) (was : Option DirEnt) (gone : List Nat) :
    (State.finishReq s r was gone).tmg = s.tmg := by
  unfold State.finishReq; (repeat' split) <;> simp [*]

@[simp] theorem State.beginReq_tmg (s : State) (r : HomeReq) : (State.beginReq s r).tmg = s.tmg := by
  unfold State.beginReq; simp only []; (repeat' split) <;> simp_all

@[simp] theorem State.startReq_tmg (s : State) (r : HomeReq) : (State.startReq s r).tmg = s.tmg := by
  unfold State.startReq; (repeat' split) <;> simp [*]

@[simp] theorem State.drainQueue_tmg (s : State) : (State.drainQueue s).tmg = s.tmg := by
  simp [State.drainQueue, foldl_tmg]

@[simp] theorem State.settleLeaving_tmg (s : State) : (State.settleLeaving s).tmg = s.tmg := by
  simp [State.settleLeaving]

@[simp] theorem State.snoopAnswer_tmg (s : State) (board : Nat) (a : Nat) (inFlight : Bool) :
    (State.snoopAnswer s board a inFlight).tmg = s.tmg := by
  unfold State.snoopAnswer; (repeat' split) <;> simp [*]

@[simp] theorem State.pruneKept_tmg (s : State) (h : FabHdr) : (State.pruneKept s h).tmg = s.tmg := by
  simp [State.pruneKept]

@[simp] theorem State.resendKept_tmg (s : State) (k : Kept) : (State.resendKept s k).tmg = s.tmg := by
  simp [State.resendKept]

@[simp] theorem State.homeRequest_tmg (s : State) (typ : ReqType) (h : FabHdr) (mask : List Bool) (data : Bytes) (poison : Bool) :
    (State.homeRequest s typ h mask data poison).tmg = s.tmg := by
  unfold State.homeRequest; simp only []; (repeat' split) <;> simp_all

@[simp] theorem State.withdraw_tmg (s : State) (r : Bytes) : (State.withdraw s r).tmg = s.tmg := by
  simp [State.withdraw, foldl_tmg]

@[simp] theorem State.recall_tmg (s : State) (part : Nat) (lines : List Nat) : (State.recall s part lines).tmg = s.tmg := by
  simp [State.recall, foldl_tmg]

@[simp] theorem State.putPart_tmg (s : State) (part : Nat) (a : Nat) (bs : Bytes) (poison : Bool) :
    (State.putPart s part a bs poison).tmg = s.tmg := by
  simp [State.putPart]

@[simp] theorem State.put_tmg (s : State) (part : Nat) (a : Nat) (bs : Bytes) (poison : Bool) :
    (State.put s part a bs poison).tmg = s.tmg := by
  simp [State.put, foldl_tmg]

@[simp] theorem State.putMixed_tmg (s : State) (part : Nat) (a : Nat) (bs : Bytes) (pz : Nat → Bool) :
    (State.putMixed s part a bs pz).tmg = s.tmg := by
  simp [State.putMixed, foldl_tmg]

@[simp] theorem State.takeOver_tmg (s : State) : (State.takeOver s).tmg = s.tmg := by
  simp [State.takeOver, foldl_tmg]

@[simp] theorem State.evict_tmg (s : State) (l : RLine) : (State.evict s l).tmg = s.tmg := by
  simp [State.evict]

theorem State.cellarAlloc_tmg (s : State) (x : Bytes) (a : Nat) (d : Bool) (t : State) (h : s.cellarAlloc x a d = some t) :
    t.tmg = s.tmg := by
  unfold State.cellarAlloc at h
  simp only [] at h
  (repeat' split at h) <;> (try cases h) <;> simp

@[simp] theorem State.cellarAllocD_tmg (s : State) (x : Bytes) (a : Nat) (d : Bool) : ((s.cellarAlloc x a d).getD s).tmg = s.tmg := by
  cases h : s.cellarAlloc x a d with
  | none => rfl
  | some t => exact State.cellarAlloc_tmg _ _ _ _ _ h

@[simp] theorem State.deliver_tmg (s : State) (r : CellarReq) (data : Bytes) (poison : Bool) :
    (State.deliver s r data poison).tmg = s.tmg := by
  simp [State.deliver]

@[simp] theorem State.remoteAccess_tmg (s : State) (r : CellarReq) : (State.remoteAccess s r).tmg = s.tmg := by
  unfold State.remoteAccess
  simp only []
  split
  · (repeat' split) <;> simp
  · split
    · rename_i t h
      have ht : t.tmg = s.tmg := by
        split at h
        · split at h
          · have := State.cellarAlloc_tmg _ _ _ _ _ h
            simp at this
            exact this
          · cases h
        · cases h
      simp [ht]
    · split <;> simp

@[simp] theorem State.serveWaiters_tmg (s : State) (l : List CellarReq) : (State.serveWaiters s l).tmg = s.tmg := by
  simp [State.serveWaiters, foldl_tmg]

@[simp] theorem State.installLine_tmg (s : State) (a : Nat) (st : CohSt) (data : Option (Bytes × Bool)) :
    (State.installLine s a st data).tmg = s.tmg := by
  unfold State.installLine; (repeat' split) <;> simp [*]

@[simp] theorem State.refetch_tmg (s : State) (l : RLine) : (State.refetch s l).tmg = s.tmg := by
  simp [State.refetch]

@[simp] theorem State.maskedWrite_tmg (s : State) (r : CellarReq) : (State.maskedWrite s r).tmg = s.tmg := by
  simp [State.maskedWrite]

@[simp] theorem State.cellarCount_tmg (s : State) (r : CellarReq) : (State.cellarCount s r).tmg = s.tmg := by
  unfold State.cellarCount
  simp only []
  (repeat' split) <;> simp

@[simp] theorem State.localAccess_tmg (s : State) (r : CellarReq) : (State.localAccess s r).tmg = s.tmg := by
  simp [State.localAccess]

@[simp] theorem State.poisonLine_tmg (s : State) (a : Nat) : (State.poisonLine s a).tmg = s.tmg := by
  simp [State.poisonLine]

@[simp] theorem State.takeSource_tmg (s : State) (cmd : Option (Nat × Nat × Nat)) (c : Cmd) (f : Nat) (q : Nat) (a : Nat) (data : Bytes) (poison : Bool) :
    (State.takeSource s cmd c f q a data poison).tmg = s.tmg := by
  unfold State.takeSource; simp only []; (repeat' split) <;> simp_all

@[simp] theorem State.takeCoreLine_tmg (s : State) (c : Nat) (part : Nat) (a : Nat) (data : Bytes) (poison : Bool) :
    (State.takeCoreLine s c part a data poison).tmg = s.tmg := by
  simp [State.takeCoreLine]

@[simp] theorem State.takeNokeep_tmg (s : State) (u : Unans) (a : Nat) (data : Bytes) (poison : Bool) :
    (State.takeNokeep s u a data poison).tmg = s.tmg := by
  unfold State.takeNokeep; (repeat' split) <;> simp [*]

@[simp] theorem State.failLine_tmg (s : State) (a : Nat) : (State.failLine s a).tmg = s.tmg := by
  unfold State.failLine; (repeat' split) <;> simp [*, foldl_tmg]

@[simp] theorem State.failRequest_tmg (s : State) (u : Unans) : (State.failRequest s u).tmg = s.tmg := by
  unfold State.failRequest; (repeat' split) <;> simp [*]

@[simp] theorem State.failMsg_tmg (s : State) (u : Unans) : (State.failMsg s u).tmg = s.tmg := by
  simp [State.failMsg]

@[simp] theorem State.useDma_tmg (s : State) (j : Job) : (State.useDma s j).tmg = s.tmg := by
  simp [State.useDma]

@[simp] theorem State.useSealing_tmg (s : State) (j : Job) : (State.useSealing s j).tmg = s.tmg := by
  simp [State.useSealing]

@[simp] theorem State.useMessage_tmg (s : State) (n : Nat) (j : Job) : (State.useMessage s n j).tmg = s.tmg := by
  simp [State.useMessage]

theorem poisonReads_tmg (p src : Nat) (g : State → Nat → Nat) (l : List Nat) (s : State) :
    (l.foldl (fun s i => s.poisonRead p (g s i) src) s).tmg = s.tmg :=
  foldl_tmg _ (fun s x => State.poisonRead_tmg s p (g s x) src) l s

@[simp] theorem State.readLocal_tmg (s : State) (f : Nat) (a : Nat) (n : Nat) : (State.readLocal s f a n).tmg = s.tmg := by
  exact poisonReads_tmg f (srcPart f) (fun s l => s.struct.boardId * 2 ^ 40 + 128 * l) _ s

@[simp] theorem State.toHost_tmg (s : State) (f : Nat) (q : Nat) (seq : Nat) (addr : Nat) (bs : Bytes) (first : Nat) (pz : Nat → Bool) :
    (State.toHost s f q seq addr bs first pz).tmg = s.tmg := by
  simp [State.toHost, foldl_tmg]

@[simp] theorem State.toPlace_tmg (s : State) (f : Nat) (p : Place) (bs : Bytes) (pz : Nat → Bool) (cmd : Option (Nat × Nat × Nat)) :
    (State.toPlace s f p bs pz cmd).tmg = s.tmg := by
  unfold State.toPlace; (repeat' split) <;> simp [*, foldl_tmg]

@[simp] theorem State.settleEntry_tmg (s : State) (a : Nat) (e : Option DirEnt) : (State.settleEntry s a e).tmg = s.tmg := by
  unfold State.settleEntry; (repeat' split) <;> simp [*]

@[simp] theorem State.eviction_tmg (s : State) (h : FabHdr) (data : Option (Bytes × Bool)) :
    (State.eviction s h data).tmg = s.tmg := by
  unfold State.eviction; simp only []; (repeat' split) <;> simp_all

@[simp] theorem State.snoopReply_tmg (s : State) (home : Nat) (typ : Nat) (reqId : Nat) (a : Nat) (data : Bytes) (poison : Bool) :
    (State.snoopReply s home typ reqId a data poison).tmg = s.tmg := by
  simp [State.snoopReply]

@[simp] theorem State.ringWrite_tmg (s : State) (w : Bytes) (off : Nat) (bs : Bytes) (poison : Bool) :
    (State.ringWrite s w off bs poison).tmg = s.tmg := by
  simp [State.ringWrite]

@[simp] theorem State.addMail_tmg (s : State) (m : MailIn) : (State.addMail s m).tmg = s.tmg := by
  simp [State.addMail]

@[simp] theorem State.fixSend_tmg (s : State) (cmd : Option (Nat × Nat × Nat)) (source : Nat) :
    (State.fixSend s cmd source).tmg = s.tmg := by
  unfold State.fixSend; (repeat' split) <;> simp [*]

@[simp] theorem State.ownMailDone_tmg (s : State) (reqId : Nat) : (State.ownMailDone s reqId).tmg = s.tmg := by
  unfold State.ownMailDone; (repeat' split) <;> simp [*]

@[simp] theorem State.passMails_tmg (s : State) (w : Bytes) (x : Nat) (l : List MailIn) : (State.passMails s w x l).tmg = s.tmg := by
  induction l generalizing s with
  | nil => simp [State.passMails]
  | cons b t ih => unfold State.passMails; simp only []; (repeat' split) <;> simp [ih]

@[simp] theorem State.mailWhole_tmg (s : State) (w : Bytes) (m : MailIn) : (State.mailWhole s w m).tmg = s.tmg := by
  simp [State.mailWhole]

@[simp] theorem State.recallSource_tmg (s : State) (f : Nat) (c : Cmd) (o : Nat) (n : Nat) :
    (State.recallSource s f c o n).tmg = s.tmg := by
  unfold State.recallSource; (repeat' split) <;> simp [*]

@[simp] theorem State.startMessage_tmg (s : State) (dest : Nat) (f : Nat) (q : Nat) (c : Cmd) :
    (State.startMessage s dest f q c).tmg = s.tmg := by
  simp [State.startMessage]

@[simp] theorem State.sendChunk_tmg (s : State) (u : Unans) (o : Nat) (bs : Bytes) (poison : Bool) (last : Bool) :
    (State.sendChunk s u o bs poison last).tmg = s.tmg := by
  unfold State.sendChunk; simp only []; (repeat' split) <;> simp_all

@[simp] theorem State.mapMessage_tmg (s : State) (n : Nat) (g : Engine → Engine) : (State.mapMessage s n g).tmg = s.tmg := by
  simp [State.mapMessage]

@[simp] theorem State.runMessage_tmg (s : State) (n : Nat) : (State.runMessage s n).tmg = s.tmg := by
  unfold State.runMessage; simp only []; (repeat' split) <;> simp_all

@[simp] theorem State.noteFw_tmg (s : State) (comp : Fin 4) (slot : Bool) (event : String) :
    (State.noteFw s comp slot event).tmg = s.tmg := by
  simp [State.noteFw]

@[simp] theorem State.finishBurn_tmg (s : State) (comp : Fin 4) : (State.finishBurn s comp).tmg = s.tmg := by
  unfold State.finishBurn; (repeat' split) <;> simp [*]

@[simp] theorem State.dropTrial_tmg (s : State) (comp : Fin 4) : (State.dropTrial s comp).tmg = s.tmg := by
  simp [State.dropTrial]

@[simp] theorem State.bootComponent_tmg (s : State) (c : Fin 4) : (s.bootComponent c).1.tmg = s.tmg := by
  simp [State.bootComponent]

@[simp] theorem State.enterRecovery_tmg (s : State) (cause : Nat) : (State.enterRecovery s cause).tmg = s.tmg := by
  simp [State.enterRecovery]

@[simp] theorem State.applyOverride_tmg (s : State) : (State.applyOverride s).tmg = s.tmg := by
  simp [State.applyOverride]

@[simp] theorem State.evalCompat_tmg (s : State) : (State.evalCompat s).tmg = s.tmg := by
  simp [State.evalCompat]

@[simp] theorem State.loadCal_tmg (s : State) : (State.loadCal s).tmg = s.tmg := by
  simp [State.loadCal, foldl_tmg] <;> (intros; rw [foldl_tmg]; intros; simp)

@[simp] theorem State.ledgerAfterAux_tmg (s : State) : (State.ledgerAfterAux s).tmg = s.tmg := by
  simp [State.ledgerAfterAux]

@[simp] theorem State.checkRetention_tmg (s : State) : (State.checkRetention s).tmg = s.tmg := by
  simp [State.checkRetention]

@[simp] theorem State.settleRetention_tmg (s : State) : (State.settleRetention s).tmg = s.tmg := by
  simp [State.settleRetention]

@[simp] theorem State.bootFirmware_tmg (s : State) (saf : Bool) : (State.bootFirmware s saf).tmg = s.tmg := by
  unfold State.bootFirmware; (repeat' split) <;> simp [*, foldl_tmg]

@[simp] theorem State.announceReset_tmg (s : State) (cold : Bool) (cause : String) (source : Nat) :
    (State.announceReset s cold cause source).tmg = s.tmg := by
  unfold State.announceReset; simp only []; (repeat' split) <;> simp_all

@[simp] theorem State.takeFwAction_tmg (s : State) (a : FwAction) (comp : Fin 4) : (State.takeFwAction s a comp).tmg = s.tmg := by
  simp [State.takeFwAction]

@[simp] theorem State.askMark_tmg (s : State) (f : Part) (w : U32) : (State.askMark s f w).tmg = s.tmg := by
  simp [State.askMark]

@[simp] theorem State.askCommit_tmg (s : State) (f : Part) (w : U32) : (State.askCommit s f w).tmg = s.tmg := by
  simp [State.askCommit]

@[simp] theorem State.askCancel_tmg (s : State) (f : Part) (w : U32) : (State.askCancel s f w).tmg = s.tmg := by
  simp [State.askCancel]

@[simp] theorem State.askBurn_tmg (s : State) (f : Part) (w : U32) : (State.askBurn s f w).tmg = s.tmg := by
  simp [State.askBurn]

@[simp] theorem State.endMarkTrial_tmg (s : State) (c : Fin 4) : (State.endMarkTrial s c).tmg = s.tmg := by
  simp [State.endMarkTrial]

@[simp] theorem State.endCommit_tmg (s : State) (c : Fin 4) : (State.endCommit s c).tmg = s.tmg := by
  simp [State.endCommit]

@[simp] theorem State.endCancelTrial_tmg (s : State) (c : Fin 4) : (State.endCancelTrial s c).tmg = s.tmg := by
  simp [State.endCancelTrial]

@[simp] theorem State.endBurn_tmg (s : State) (c : Fin 4) : (State.endBurn s c).tmg = s.tmg := by
  unfold State.endBurn; simp only []; (repeat' split) <;> simp_all

@[simp] theorem State.askBegin_tmg (s : State) (f : Part) (w : U32) : (State.askBegin s f w).tmg = s.tmg := by
  simp [State.askBegin]

@[simp] theorem State.askRun_tmg (s : State) (f : Part) (w : U32) : (State.askRun s f w).tmg = s.tmg := by
  simp [State.askRun]

@[simp] theorem State.askProgram_tmg (s : State) (f : Part) (w : U32) : (State.askProgram s f w).tmg = s.tmg := by
  simp [State.askProgram]

@[simp] theorem State.fillWindow_tmg (s : State) (f : Part) (off : Nat) (size : Nat) (v : U64) :
    (State.fillWindow s f off size v).tmg = s.tmg := by
  simp [State.fillWindow]

@[simp] theorem State.mapCores_tmg (s : State) (g : Core → Core) : (State.mapCores s g).tmg = s.tmg := by
  simp [State.mapCores]

@[simp] theorem State.resetCasks_tmg (s : State) (route : Nat) : (State.resetCasks s route).tmg = s.tmg := by
  simp [State.resetCasks]

@[simp] theorem State.freshVecs_tmg (s : State) (c : Nat) : (State.freshVecs s c).tmg = s.tmg := by
  simp [State.freshVecs]

@[simp] theorem State.install_tmg (s : State) (c : Nat) (t : Task) : (State.install s c t).tmg = s.tmg := by
  simp [State.install]

@[simp] theorem State.loadCode_tmg (s : State) (c : Nat) (t : Task) (blob : Nat) : (State.loadCode s c t blob).tmg = s.tmg := by
  simp [State.loadCode]

@[simp] theorem State.nextTask_tmg (s : State) (c : Nat) : (State.nextTask s c).tmg = s.tmg := by
  unfold State.nextTask; simp only []; (repeat' split) <;> simp_all

@[simp] theorem State.endTask_tmg (s : State) (c : Nat) : (State.endTask s c).tmg = s.tmg := by
  unfold State.endTask; simp only []; (repeat' split) <;> simp_all

@[simp] theorem State.finish_tmg (s : State) (c : Nat) (x : Core) : (State.finish s c x).tmg = s.tmg := by
  simp [State.finish]

@[simp] theorem State.takePreemption_tmg (s : State) (c : Nat) : (State.takePreemption s c).tmg = s.tmg := by
  unfold State.takePreemption; simp only []; (repeat' split) <;> simp_all

@[simp] theorem State.settleWait_tmg (s : State) (c : Nat) : (State.settleWait s c).tmg = s.tmg := by
  unfold State.settleWait; simp only []; (repeat' split) <;> simp_all

@[simp] theorem State.settleWaits_tmg (s : State) : (State.settleWaits s).tmg = s.tmg := by
  simp [State.settleWaits, foldl_tmg]

@[simp] theorem State.startTask_tmg (s : State) (c : Nat) (t : Task) (blob : Nat) : (State.startTask s c t blob).tmg = s.tmg := by
  simp [State.startTask]

@[simp] theorem State.settleSwap_tmg (s : State) (route : Nat) : (State.settleSwap s route).tmg = s.tmg := by
  simp [State.settleSwap]

@[simp] theorem State.endApply_tmg (s : State) (slot : Nat) : (State.endApply s slot).tmg = s.tmg := by
  unfold State.endApply; simp only []; (repeat' split) <;> simp_all

@[simp] theorem State.releaseHeld_tmg (s : State) (route : Nat) : (State.releaseHeld s route).tmg = s.tmg := by
  simp [State.releaseHeld]

@[simp] theorem State.gapTimer_tmg (s : State) (r : Nat) (st : RouteSt) : (State.gapTimer s r st).tmg = s.tmg := by
  simp [State.gapTimer]

@[simp] theorem State.setRouteSt_tmg (s : State) (r : Nat) (st : RouteSt) : (State.setRouteSt s r st).tmg = s.tmg := by
  simp [State.setRouteSt]

@[simp] theorem State.mapFrame_tmg (s : State) (r : Nat) (id : Nat) (g : Frame → Frame) :
    (State.mapFrame s r id g).tmg = s.tmg := by
  simp [State.mapFrame]

@[simp] theorem State.noteStale_tmg (s : State) (r : Nat) (cause : Nat) : (State.noteStale s r cause).tmg = s.tmg := by
  simp [State.noteStale]

@[simp] theorem State.published_tmg (s : State) (t : Struct) (r : Nat) (typ : Nat) (addr : Nat) (len : Nat) (exposure : Nat) :
    (State.published s t r typ addr len exposure).tmg = s.tmg := by
  simp [State.published]

@[simp] theorem State.frameDone_tmg (s : State) (r : Nat) (f : Frame) (status : Nat) (reason : Nat) :
    (State.frameDone s r f status reason).tmg = s.tmg := by
  simp [State.frameDone, foldl_tmg]

@[simp] theorem State.checkDeadline_tmg (s : State) (r : Nat) (f : Frame) : (State.checkDeadline s r f).tmg = s.tmg := by
  simp [State.checkDeadline]

@[simp] theorem State.epochCut_tmg (s : State) (r : Nat) (f : Frame) (valid : Bool) :
    (State.epochCut s r f valid).tmg = s.tmg := by
  simp [State.epochCut]

@[simp] theorem State.retire_tmg (s : State) (r : Nat) (id : Nat) : (State.retire s r id).tmg = s.tmg := by
  unfold State.retire; (repeat' split) <;> simp [*]

@[simp] theorem State.fixAll_tmg (s : State) (l : List (Nat × Nat × Nat)) (status : Nat) (detail : Nat) (source : Nat) :
    (State.fixAll s l status detail source).tmg = s.tmg := by
  simp [State.fixAll, foldl_tmg]

@[simp] theorem State.stopApply_tmg (s : State) (r : Nat) (status : Nat) (detail : Nat) :
    (State.stopApply s r status detail).tmg = s.tmg := by
  simp [State.stopApply, foldl_tmg]

@[simp] theorem State.finishStop_tmg (s : State) (r : Nat) : (State.finishStop s r).tmg = s.tmg := by
  simp [State.finishStop]

@[simp] theorem State.retireAborted_tmg (s : State) (r n : Nat) : (s.retireAborted r n).tmg = s.tmg := by
  induction n generalizing s with
  | zero => rfl
  | succ n ih => unfold State.retireAborted; (repeat' split) <;> simp [ih]

@[simp] theorem State.drainRoute_tmg (s : State) (r : Nat) : (State.drainRoute s r).tmg = s.tmg := by
  simp [State.drainRoute, foldl_tmg]

@[simp] theorem State.mapTasks_tmg (s : State) (p : Task → Bool) (g : Task → Task) : (State.mapTasks s p g).tmg = s.tmg := by
  simp [State.mapTasks]

@[simp] theorem State.stopTasks_tmg (s : State) (p : Task → Bool) : (State.stopTasks s p).tmg = s.tmg := by
  simp [State.stopTasks]

@[simp] theorem State.mapJobs_tmg (s : State) (g : Nat → StageJob → StageJob) : (State.mapJobs s g).tmg = s.tmg := by
  simp [State.mapJobs]

@[simp] theorem State.abandon_tmg (s : State) (r : Nat) (id : Nat) (reason : Nat) (missing : Nat) :
    (State.abandon s r id reason missing).tmg = s.tmg := by
  simp [State.abandon]

@[simp] theorem State.noteLevel_tmg (s : State) (level : BitVec 3) : (State.noteLevel s level).tmg = s.tmg := by
  simp [State.noteLevel]

@[simp] theorem State.forceStop_tmg (s : State) (r : Nat) : (State.forceStop s r).tmg = s.tmg := by
  simp [State.forceStop]

@[simp] theorem State.boundaryStop_tmg (s : State) (r : Nat) : (State.boundaryStop s r).tmg = s.tmg := by
  simp [State.boundaryStop]

@[simp] theorem State.faultRoute_tmg (s : State) (r : Nat) (code : Nat) : (State.faultRoute s r code).tmg = s.tmg := by
  simp [State.faultRoute]

@[simp] theorem State.refreshRoutes_tmg (s : State) : (State.refreshRoutes s).tmg = s.tmg := by
  simp [State.refreshRoutes, foldl_tmg]

@[simp] theorem State.epochAbandon_tmg (s : State) (r : Nat) (id : Nat) : (State.epochAbandon s r id).tmg = s.tmg := by
  unfold State.epochAbandon; (repeat' split) <;> simp [*]

@[simp] theorem State.openWindow_tmg (s : State) (r : Nat) : (State.openWindow s r).tmg = s.tmg := by
  simp [State.openWindow, foldl_tmg]

@[simp] theorem State.boundary_tmg (s : State) (r : Nat) (id : Nat) (start : Nat) (exposure : Nat) :
    (State.boundary s r id start exposure).tmg = s.tmg := by
  unfold State.boundary; simp only []; (repeat' split) <;> simp_all

@[simp] theorem State.associate_tmg (s : State) (c : Nat) (id : Nat) (start : Nat) (exposure : Nat) :
    (State.associate s c id start exposure).tmg = s.tmg := by
  simp [State.associate, foldl_tmg] <;> (intros; rw [foldl_tmg]; intros; simp)

@[simp] theorem State.slotCycle_tmg (s : State) (c : Nat) : (State.slotCycle s c).tmg = s.tmg := by
  unfold State.slotCycle; (repeat' split) <;> simp [*]

@[simp] theorem State.frameStartEvent_tmg (s : State) (c : Nat) (id : Nat) (start : Nat) (exposure : Nat) :
    (State.frameStartEvent s c id start exposure).tmg = s.tmg := by
  simp [State.frameStartEvent, foldl_tmg]

@[simp] theorem State.chargeEngine_tmg (s : State) (r : Nat) (m : NodeRun) : (State.chargeEngine s r m).tmg = s.tmg := by
  simp [State.chargeEngine]

@[simp] theorem State.startNode_tmg (s : State) (r : Nat) (f : Frame) (c : Bytes) : (State.startNode s r f c).tmg = s.tmg := by
  simp [State.startNode]

@[simp] theorem State.dispatch_tmg (s : State) (r : Nat) (id : Nat) (n : Nat) (trig : Nat) :
    (State.dispatch s r id n trig).tmg = s.tmg := by
  unfold State.dispatch; (repeat' split) <;> simp [*]

@[simp] theorem State.undefineCmd_tmg (s : State) (f : Nat) (q : Nat) (c : Cmd) : (State.undefineCmd s f q c).tmg = s.tmg := by
  simp [State.undefineCmd]

@[simp] theorem State.undefineCmds_tmg (s : State) (f : Nat) : (State.undefineCmds s f).tmg = s.tmg := by
  simp [State.undefineCmds, foldl_tmg]

@[simp] theorem State.dropWork_tmg (s : State) (f : Nat) : (State.dropWork s f).tmg = s.tmg := by
  simp [State.dropWork]

@[simp] theorem State.dropApplies_tmg (s : State) (p : Nat → Bool) : (State.dropApplies s p).tmg = s.tmg := by
  unfold State.dropApplies
  refine foldl_tmg _ (fun s x => ?_) _ _
  split
  · split <;> simp
  · rfl

@[simp] theorem State.partitionReset_tmg (s : State) (f : Nat) (tdi : Tdi) (cause : String) :
    (State.partitionReset s f tdi cause).tmg = s.tmg := by
  unfold State.partitionReset; (repeat' split) <;> simp [*, foldl_tmg]

@[simp] theorem State.drainDst_tmg (s : State) (d : Nat) : (State.drainDst s d).tmg = s.tmg := by
  simp [State.drainDst]

@[simp] theorem State.noteIrregular_tmg (s : State) (c : Nat) (id : Nat) (long : Bool) (extra : Bool) :
    (State.noteIrregular s c id long extra).tmg = s.tmg := by
  simp [State.noteIrregular]

@[simp] theorem State.queueBeats_tmg (s : State) (d : Nat) (l : List Beat) : (State.queueBeats s d l).tmg = s.tmg := by
  simp [State.queueBeats]

@[simp] theorem State.pipeLine_tmg (s : State) (src : Nat) (ctx : Nat) (frame : Nat) (line : Nat) (plane : Nat) (b : Bytes) (poison : Bool) :
    (State.pipeLine s src ctx frame line plane b poison).tmg = s.tmg := by
  simp [State.pipeLine, foldl_tmg]

@[simp] theorem State.closeBeat_tmg (s : State) (src : Nat) (ctx : Nat) (frame : Nat) (pick : Nat → Bool) (data : Bytes) (poison : Bool) :
    (State.closeBeat s src ctx frame pick data poison).tmg = s.tmg := by
  simp [State.closeBeat, foldl_tmg]

@[simp] theorem State.stageLine_tmg (s : State) (src : Nat) (frameId : Nat) (ctx : Nat) (frame : Nat) (line : Nat) (plane : Nat) (b : Bytes) (poison : Bool) :
    (State.stageLine s src frameId ctx frame line plane b poison).tmg = s.tmg := by
  simp [State.stageLine, foldl_tmg]

@[simp] theorem State.deliverBeat_tmg (s : State) (d : Nat) : (State.deliverBeat s d).tmg = s.tmg := by
  unfold State.deliverBeat; simp only []; (repeat' split) <;> simp_all

@[simp] theorem State.mapJob_tmg (s : State) (i : Nat) (g : StageJob → StageJob) : (State.mapJob s i g).tmg = s.tmg := by
  simp [State.mapJob]

@[simp] theorem State.layRecord_tmg (s : State) (i : Nat) (j : StageJob) (a : Nat) (r : RecInfo) (desc : Bytes) (body : Payload) :
    (State.layRecord s i j a r desc body).tmg = s.tmg := by
  simp [State.layRecord]

@[simp] theorem State.notePoisoned_tmg (s : State) (i : Nat) (poison : Bool) (discard : Bool) :
    (State.notePoisoned s i poison discard).tmg = s.tmg := by
  simp [State.notePoisoned]

@[simp] theorem State.putRecord_tmg (s : State) (i : Nat) (j : StageJob) (o : Nat) (src : Nat) (off : Nat) (r : RecInfo) (desc : Bytes) (body : Payload) :
    (State.putRecord s i j o src off r desc body).tmg = s.tmg := by
  simp [State.putRecord]

@[simp] theorem State.jobDone_tmg (s : State) (i : Nat) : (State.jobDone s i).tmg = s.tmg := by
  simp [State.jobDone]

@[simp] theorem State.sendLines_tmg (s : State) (i : Nat) (src : Nat) (ctx : Nat) (key : Nat) (plane : Nat) (lines : List (Bytes × Bool)) :
    (State.sendLines s i src ctx key plane lines).tmg = s.tmg := by
  unfold State.sendLines; (repeat' split) <;> simp [*, foldl_tmg]

@[simp] theorem State.advancePyr_tmg (s : State) (c : Nat) : (State.advancePyr s c).tmg = s.tmg := by
  unfold State.advancePyr; (repeat' split) <;> simp [*, foldl_tmg]

@[simp] theorem State.advanceWrp_tmg (s : State) (i : Nat) (c : Nat) : (State.advanceWrp s i c).tmg = s.tmg := by
  unfold State.advanceWrp; (repeat' split) <;> simp [*]

@[simp] theorem State.storeLine_tmg (s : State) (part : Nat) (a : Nat) (w : Nat) (y : Nat) (l : List Int) :
    (State.storeLine s part a w y l).tmg = s.tmg := by
  simp [State.storeLine]

@[simp] theorem State.offerTiles_tmg (s : State) (i : Nat) (j : StageJob) (l : List (Nat × (Nat × Nat) × Bool)) :
    (State.offerTiles s i j l).tmg = s.tmg := by
  simp [State.offerTiles]

@[simp] theorem State.offerRows_tmg (s : State) (i : Nat) (rows : List (List Px)) : (State.offerRows s i rows).tmg = s.tmg := by
  unfold State.offerRows; (repeat' split) <;> simp [*]

@[simp] theorem State.sendDense_tmg (s : State) (i : Nat) (c : Nat) (rows : List (List Px)) (h : Nat) :
    (State.sendDense s i c rows h).tmg = s.tmg := by
  simp [State.sendDense]

@[simp] theorem State.floStore__tmg (s : State) (i : Nat) (j : StageJob) : (State.floStore_ s i j).tmg = s.tmg := by
  simp [State.floStore_, foldl_tmg]

@[simp] theorem State.advanceDense_tmg (s : State) (i : Nat) : (State.advanceDense s i).tmg = s.tmg := by
  unfold State.advanceDense; (repeat' split) <;> simp [*]

@[simp] theorem State.advanceTrk_tmg (s : State) : (State.advanceTrk s).tmg = s.tmg := by
  unfold State.advanceTrk; (repeat' split) <;> simp [*, foldl_tmg, foldlPair_tmg]

@[simp] theorem State.advance_tmg (s : State) (i : Nat) (c : Nat) : (State.advance s i c).tmg = s.tmg := by
  simp [State.advance]

@[simp] theorem State.putLine_tmg (s : State) (i : Nat) (port : Nat) (j : StageJob) (c : Nat) (id : Nat) (level : Nat) (data : Bytes) (poison : Bool) :
    (State.putLine s i port j c id level data poison).tmg = s.tmg := by
  simp [State.putLine]

@[simp] theorem State.closeInput_tmg (s : State) (i : Nat) (port : Nat) (j : StageJob) (c : Nat) :
    (State.closeInput s i port j c).tmg = s.tmg := by
  simp [State.closeInput]

@[simp] theorem State.putDense_tmg (s : State) (i : Nat) (j : StageJob) : (State.putDense s i j).tmg = s.tmg := by
  simp [State.putDense]

@[simp] theorem State.offerCells_tmg (s : State) (j : StageJob) (m : Nat) : (State.offerCells s j m).tmg = s.tmg := by
  simp [State.offerCells]

@[simp] theorem State.offerMatches_tmg (s : State) : (State.offerMatches s).tmg = s.tmg := by
  unfold State.offerMatches; (repeat' split) <;> simp [*]

@[simp] theorem State.putMatches_tmg (s : State) (j : StageJob) : (State.putMatches s j).tmg = s.tmg := by
  simp [State.putMatches]

@[simp] theorem State.endDense_tmg (s : State) (i : Nat) (j : StageJob) : (State.endDense s i j).tmg = s.tmg := by
  simp [State.endDense]

@[simp] theorem State.endFreqPulse_tmg (s : State) : (State.endFreqPulse s).tmg = s.tmg := by
  simp [State.endFreqPulse]

@[simp] theorem State.measureVin_tmg (s : State) : (State.measureVin s).tmg = s.tmg := by
  simp [State.measureVin]

@[simp] theorem State.endVerify_tmg (s : State) : (State.endVerify s).tmg = s.tmg := by
  unfold State.endVerify; (repeat' split) <;> simp [*]

@[simp] theorem State.runMessages_tmg (s : State) : (State.runMessages s).tmg = s.tmg := by
  simp [State.runMessages, foldl_tmg]

@[simp] theorem State.resumeTasks_tmg (s : State) : (State.resumeTasks s).tmg = s.tmg := by
  simp [State.resumeTasks, foldl_tmg]

@[simp] theorem State.badHeader_tmg (s : State) (port : Nat) : (State.badHeader s port).tmg = s.tmg := by
  simp [State.badHeader]

@[simp] theorem State.active_tmg (s : State) (port : Nat) : (State.active s port).tmg = s.tmg := by
  simp [State.active]

@[simp] theorem State.emitLine_tmg (s : State) (c pipe : Nat) (g : CtxFrame) (y : Nat) : (s.emitLine c pipe g y).1.tmg = s.tmg := by
  unfold State.emitLine
  refine foldlPair_tmg _ (fun a x => ?_) _ _
  dsimp only
  split <;> simp

@[simp] theorem State.emitChroma_tmg (s : State) (c : Nat) (pipe : Nat) (f : CtxFrame) :
    (State.emitChroma s c pipe f).tmg = s.tmg := by
  simp [State.emitChroma, foldl_tmg]

@[simp] theorem State.emitFrame_tmg (s : State) (c : Nat) (id : Nat) : (State.emitFrame s c id).tmg = s.tmg := by
  unfold State.emitFrame; (repeat' split) <;> simp [*, foldl_tmg, foldlPair_tmg]

@[simp] theorem State.closeFrame_tmg (s : State) (c : Nat) (short : Bool) : (State.closeFrame s c short).tmg = s.tmg := by
  unfold State.closeFrame; (repeat' split) <;> simp [*]

@[simp] theorem State.startCtx_tmg (s : State) (c : Nat) : (State.startCtx s c).tmg = s.tmg := by
  simp [State.startCtx]

@[simp] theorem State.noteBacklog_tmg (s : State) (pipe : Nat) : (State.noteBacklog s pipe).tmg = s.tmg := by
  simp [State.noteBacklog]

@[simp] theorem State.takeLinePacket_tmg (s : State) (port : Nat) (c : Nat) (dt : Nat) (pixels : List Nat) (bad : Bool) :
    (State.takeLinePacket s port c dt pixels bad).tmg = s.tmg := by
  unfold State.takeLinePacket; (repeat' split) <;> simp [*]

@[simp] theorem State.scbCtl_tmg (s : State) (f : Part) (k : Nat) (w : U32) : (State.scbCtl s f k w).tmg = s.tmg := by
  simp [State.scbCtl]

@[simp] theorem State.scbPush_tmg (s : State) (f : Part) (k : Nat) (v : Byte) : (State.scbPush s f k v).tmg = s.tmg := by
  simp [State.scbPush]

@[simp] theorem State.scbPop_tmg (s : State) (b : Nat) : (s.scbPop b).1.tmg = s.tmg := by
  unfold State.scbPop; split <;> simp

@[simp] theorem State.enforcePins_tmg (s : State) (old : Struct) : (State.enforcePins s old).tmg = s.tmg := by
  simp [State.enforcePins]

@[simp] theorem State.enforceBoard_tmg (s : State) : (State.enforceBoard s).tmg = s.tmg := by
  simp [State.enforceBoard]

@[simp] theorem State.refreshVfs_tmg (s : State) : (State.refreshVfs s).tmg = s.tmg := by
  simp [State.refreshVfs]

@[simp] theorem State.enforceParts_tmg (s : State) (old : Struct) : (State.enforceParts s old).tmg = s.tmg := by
  simp [State.enforceParts, foldl_tmg]

@[simp] theorem State.enforceRegions_tmg (s : State) (old : Struct) : (State.enforceRegions s old).tmg = s.tmg := by
  unfold State.enforceRegions
  refine (foldl_tmg _ (fun s r => ?_) _ _).trans (foldl_tmg _ (fun s r => ?_) _ _)
  · refine (foldl_tmg _ (fun s l => ?_) _ _).trans rfl
    split
    · split <;> simp
    · rfl
  · rfl

@[simp] theorem State.enforceExports_tmg (s : State) (old : Struct) : (State.enforceExports s old).tmg = s.tmg := by
  simp [State.enforceExports, foldl_tmg]

@[simp] theorem State.enforceLinks_tmg (s : State) (old : Struct) : (State.enforceLinks s old).tmg = s.tmg := by
  simp [State.enforceLinks, foldl_tmg]

@[simp] theorem State.enforceCamera_tmg (s : State) (old : Struct) : (State.enforceCamera s old).tmg = s.tmg := by
  simp [State.enforceCamera]

@[simp] theorem State.enforceStreams_tmg (s : State) (old : Struct) : (State.enforceStreams s old).tmg = s.tmg := by
  simp [State.enforceStreams]

@[simp] theorem State.enforceStages_tmg (s : State) : (State.enforceStages s).tmg = s.tmg := by
  simp [State.enforceStages]

@[simp] theorem State.enforceSafety_tmg (s : State) (core : Option Bytes) : (State.enforceSafety s core).tmg = s.tmg := by
  unfold State.enforceSafety; (repeat' split) <;> simp [*]

@[simp] theorem State.rejectApply_tmg (s : State) (n : Nat) (a : Apply) (status : Nat) (detail : Nat) :
    (State.rejectApply s n a status detail).tmg = s.tmg := by
  simp [State.rejectApply]

@[simp] theorem State.missFrame_tmg (s : State) (r : Nat) (n : Nat) (a : Apply) : (State.missFrame s r n a).tmg = s.tmg := by
  simp [State.missFrame]

@[simp] theorem State.checkerFails_tmg (s : State) (c : Nat × Nat) (g : Nat) : (State.checkerFails s c g).tmg = s.tmg := by
  unfold State.checkerFails; simp only []; (repeat' split) <;> simp_all

@[simp] theorem State.pairWrite_tmg (s : State) (f : Part) (w : U32) : (State.pairWrite s f w).tmg = s.tmg := by
  simp [State.pairWrite]

@[simp] theorem State.draw_tmg (s : State) (n : Nat) : (s.draw n).2.tmg = s.tmg := by simp [State.draw]

@[simp] theorem State.dropBlobs_tmg (s : State) (a : Nat) (n : Nat) : (State.dropBlobs s a n).tmg = s.tmg := by
  simp [State.dropBlobs]

@[simp] theorem State.failLoad_tmg (s : State) (f : Nat) (q : Nat) (pos : Nat) (status : Nat) (detail : Nat) (c : Cmd) (payload : Nat) :
    (State.failLoad s f q pos status detail c payload).tmg = s.tmg := by
  simp [State.failLoad]

@[simp] theorem State.openPackage_tmg (s : State) (f : Nat) (q : Nat) (c : Cmd) (b : Bytes) (key : Bytes) (ep : Bool) :
    (State.openPackage s f q c b key ep).tmg = s.tmg := by
  unfold State.openPackage; simp only []; split
  · simp
  · split
    · simp
    · split <;> simp

@[simp] theorem State.newMemoryKey_tmg (s : State) : (State.newMemoryKey s).tmg = s.tmg := by
  simp [State.newMemoryKey]

@[simp] theorem State.tagChanged_tmg (s : State) : (State.tagChanged s).tmg = s.tmg := by
  simp [State.tagChanged]

@[simp] theorem State.setSpdm_tmg (s : State) (p : SpdmPort) (x : Spdm) : (State.setSpdm s p x).tmg = s.tmg := by
  unfold State.setSpdm; (repeat' split) <;> simp [*]

@[simp] theorem State.endConsent_tmg (s : State) : (State.endConsent s).tmg = s.tmg := by
  unfold State.endConsent; (repeat' split) <;> simp [*]

@[simp] theorem State.clearRsq_tmg (s : State) (off : Nat) : (State.clearRsq s off).tmg = s.tmg := by
  simp [State.clearRsq]

@[simp] theorem State.clearCin_tmg (s : State) (off : Nat) : (State.clearCin s off).tmg = s.tmg := by
  simp [State.clearCin]

@[simp] theorem State.clearIsp_tmg (s : State) (off : Nat) : (State.clearIsp s off).tmg = s.tmg := by
  simp [State.clearIsp]

@[simp] theorem State.clearStage_tmg (s : State) (i : Nat) (r : Nat) : (State.clearStage s i r).tmg = s.tmg := by
  simp [State.clearStage]

@[simp] theorem State.clearMash_tmg (s : State) (off : Nat) : (State.clearMash s off).tmg = s.tmg := by
  simp [State.clearMash]

@[simp] theorem State.clearNec_tmg (s : State) (off : Nat) : (State.clearNec s off).tmg = s.tmg := by
  simp [State.clearNec]

@[simp] theorem State.clearMem_tmg (s : State) (off : Nat) : (State.clearMem s off).tmg = s.tmg := by
  simp [State.clearMem]

@[simp] theorem State.clearLnk_tmg (s : State) (off : Nat) : (State.clearLnk s off).tmg = s.tmg := by
  simp [State.clearLnk]

@[simp] theorem State.clearSaf_tmg (s : State) (off : Nat) : (State.clearSaf s off).tmg = s.tmg := by
  simp [State.clearSaf]

@[simp] theorem State.clearMgt_tmg (s : State) (off : Nat) : (State.clearMgt s off).tmg = s.tmg := by
  simp [State.clearMgt]

@[simp] theorem State.clearLog_tmg (s : State) (off : Nat) : (State.clearLog s off).tmg = s.tmg := by
  simp [State.clearLog]

@[simp] theorem State.debugServe_tmg (s : State) (op : DebugOp) : (State.debugServe s op).tmg = s.tmg := by
  unfold State.debugServe; (repeat' split) <;> simp [*]

@[simp] theorem State.memCorrected_tmg (s : State) (a : Nat) : (State.memCorrected s a).tmg = s.tmg := by
  simp [State.memCorrected]

@[simp] theorem State.memUncorrectable_tmg (s : State) (a : Nat) : (State.memUncorrectable s a).tmg = s.tmg := by
  simp [State.memUncorrectable]

@[simp] theorem State.countFind_tmg (s : State) (a : Nat) (e : EccFind) : (s.countFind a e).tmg = s.tmg := by
  cases e <;> simp [State.countFind]

@[simp] theorem State.pairFill_tmg (s : State) (a : Nat) : (State.pairFill s a).tmg = s.tmg := by
  simp [State.pairFill]

@[simp] theorem State.keepSeq_tmg (s : State) (l : Log) : (State.keepSeq s l).tmg = s.tmg := by
  simp [State.keepSeq]

@[simp] theorem State.appendNext_tmg (s : State) : (State.appendNext s).tmg = s.tmg := by
  unfold State.appendNext; (repeat' split) <;> simp [*]

@[simp] theorem State.norCopy_tmg (s : State) (ok : Bool) : (State.norCopy s ok).tmg = s.tmg := by
  unfold State.norCopy; (repeat' split) <;> simp [*]

@[simp] theorem State.appendMany_tmg (s : State) (n : Nat) : (State.appendMany s n).tmg = s.tmg := by
  induction n generalizing s with
  | zero => rfl
  | succ n ih => unfold State.appendMany; simp [ih]

@[simp] theorem State.copyMany_tmg (s : State) (n : Nat) : (State.copyMany s n).tmg = s.tmg := by
  induction n generalizing s with
  | zero => rfl
  | succ n ih => unfold State.copyMany; simp [ih]

@[simp] theorem State.endInterval_tmg (s : State) : (State.endInterval s).tmg = s.tmg := by
  simp [State.endInterval]

@[simp] theorem State.patrolUe_tmg (s : State) (block : Nat) (a : Nat) (intervened : Bool) :
    (State.patrolUe s block a intervened).tmg = s.tmg := by
  simp [State.patrolUe]

@[simp] theorem State.patrolBlock_tmg (s : State) (block : Nat) (errs : List Bytes) (intervened : Bool) :
    (State.patrolBlock s block errs intervened).tmg = s.tmg := by
  refine foldl_tmg _ (fun s x => ?_) _ _
  dsimp only
  split
  · rfl
  · split <;> simp

@[simp] theorem State.defer_tmg (s : State) (activity : Nat) : (State.defer s activity).tmg = s.tmg := by
  simp [State.defer]

@[simp] theorem State.setBg_tmg (s : State) (f : Part) (w : U32) : (State.setBg s f w).tmg = s.tmg := by
  simp [State.setBg]

@[simp] theorem State.askSource_tmg (s : State) (part : Nat) (board : Nat) (a : Nat) (n : Nat) (cmd : Option (Nat × Nat × Nat)) :
    (State.askSource s part board a n cmd).tmg = s.tmg := by
  simp [State.askSource, foldl_tmg]

@[simp] theorem State.sendOwn_tmg (s : State) (f : Nat) (q : Nat) (c : Cmd) : (State.sendOwn s f q c).tmg = s.tmg := by
  unfold State.sendOwn; simp only []; (repeat' split) <;> simp_all

@[simp] theorem State.startApply_tmg (s : State) (f : Nat) (q : Nat) (c : Cmd) (point : ApplyPoint) :
    (State.startApply s f q c point).tmg = s.tmg := by
  unfold State.startApply; simp only []; (repeat' split) <;> simp_all

@[simp] theorem State.readmit_tmg (s : State) (b : Nat) : (State.readmit s b).tmg = s.tmg := by
  simp [State.readmit]

@[simp] theorem State.returned_tmg (s : State) (b : Nat) (tag : Bytes) : (State.returned s b tag).tmg = s.tmg := by
  simp [State.returned]

@[simp] theorem State.dropHomed_tmg (s : State) (b : Nat) : (State.dropHomed s b).tmg = s.tmg := by
  simp [State.dropHomed, foldl_tmg]

@[simp] theorem State.dropHolder_tmg (s : State) (b : Nat) : (State.dropHolder s b).tmg = s.tmg := by
  simp [State.dropHolder, foldl_tmg]

@[simp] theorem State.oweCredits_tmg (s : State) (p : Nat) (m : Msg) (len : Nat) : (State.oweCredits s p m len).tmg = s.tmg := by
  simp [State.oweCredits]

@[simp] theorem State.relay_tmg (s : State) (p n : Nat) (b : Bytes) : (State.relay p n s b).1.tmg = s.tmg := by
  induction n generalizing s b with
  | zero => rfl
  | succ n ih => unfold State.relay; simp only []; (repeat' split) <;> simp [ih]

@[simp] theorem State.replay_tmg (s : State) (p : Nat) : (State.replay s p).tmg = s.tmg := by
  simp [State.replay]

@[simp] theorem State.restartMessage_tmg (s : State) (dest : Nat) (f : Nat) (q : Nat) (c : Cmd) :
    (State.restartMessage s dest f q c).tmg = s.tmg := by
  simp [State.restartMessage]

@[simp] theorem State.taskFault_tmg (s : State) (c : Nat) (cause : Nat) (ea : Option Nat) :
    (State.taskFault s c cause ea).tmg = s.tmg := by
  unfold State.taskFault; simp only []; (repeat' split) <;> simp_all

@[simp] theorem State.issue_tmg (s : State) (c : Nat) (op : Nat) (w : U64) (fields : Nat) (act : Core → Task → State) (h_act : ∀ x0 x1, (act x0 x1).tmg = s.tmg) :
    (State.issue s c op w fields act).tmg = s.tmg := by
  unfold State.issue; simp only []; (repeat' split) <;> simp_all

@[simp] theorem State.markFrame_tmg (s : State) (own : Nat × Nat × Nat) (poisoned : Bool) (lost : Bool) :
    (State.markFrame s own poisoned lost).tmg = s.tmg := by
  simp [State.markFrame]

@[simp] theorem State.markOwner_tmg (s : State) (c : Nat) (own : Nat × Nat × Nat) (b : Bool) :
    (State.markOwner s c own b).tmg = s.tmg := by
  simp [State.markOwner]

@[simp] theorem State.askPiece_tmg (s : State) (c : Nat) (x : Xfer) (a n : Nat) : (s.askPiece c x a n).1.tmg = s.tmg := by
  unfold State.askPiece; simp only []; split <;> simp [foldl_tmg]

@[simp] theorem State.pieceRead_tmg (s : State) (c : Nat) (x : Xfer) (host : Bool) (a : Nat) (n : Nat) (bad : List Nat) :
    (State.pieceRead s c x host a n bad).tmg = s.tmg := by
  simp [State.pieceRead, foldl_tmg]

@[simp] theorem State.storePiece_tmg (s : State) (part : Nat) (host : Bool) (a : Nat) (bs : Bytes) (bad : List Nat) (cmd : Option (Nat × Nat × Nat)) :
    (State.storePiece s part host a bs bad cmd).tmg = s.tmg := by
  simp [State.storePiece, foldl_tmg]

@[simp] theorem State.moveRows_tmg (s : State) (c : Nat) (h : HostRead) (a n : Nat) (x : Xfer) : (State.moveRows s c h a n x).1.tmg = s.tmg := by
  induction n generalizing s x with
  | zero => rfl
  | succ n ih => unfold State.moveRows; simp only []; (repeat' split) <;> simp [ih]

@[simp] theorem State.moveCask_tmg (s : State) (c : Nat) (h : HostRead) (a n : Nat) (x : Xfer) : (State.moveCask s c h a n x).1.tmg = s.tmg := by
  induction n generalizing s x with
  | zero => rfl
  | succ n ih => unfold State.moveCask; simp only []; (repeat' split) <;> simp [ih]

@[simp] theorem State.moveXfer_tmg (s : State) (c : Nat) (h : HostRead) (n : Nat) (x : Xfer) : (s.moveXfer c h n x).1.tmg = s.tmg := by
  unfold State.moveXfer; split <;> simp

@[simp] theorem State.publishTask_tmg (s : State) (c : Nat) (t : Task) (desc : Bytes) :
    (State.publishTask s c t desc).tmg = s.tmg := by
  unfold State.publishTask; (repeat' split) <;> simp [*]

@[simp] theorem State.releaseStall_tmg (s : State) (c : Nat) : (State.releaseStall s c).tmg = s.tmg := by
  unfold State.releaseStall; simp only []; (repeat' split) <;> simp_all

@[simp] theorem State.caskOp_tmg (s : State) (c : Nat) (w : U64) (ok : CaskCfg → Bool) (act : CaskCfg → State) (h_act : ∀ x0, (act x0).tmg = s.tmg) :
    (State.caskOp s c w ok act).tmg = s.tmg := by
  unfold State.caskOp; (repeat' split) <;> simp [*]

@[simp] theorem State.endCwait_tmg (s : State) (c : Nat) (p : Bool) : (State.endCwait s c p).tmg = s.tmg := by
  simp [State.endCwait]

@[simp] theorem State.doCrd_tmg (s : State) (c : Nat) (v : Nat) (idx : Nat) (off : Nat) (k : CaskCfg) :
    (State.doCrd s c v idx off k).tmg = s.tmg := by
  simp [State.doCrd]

@[simp] theorem State.doCpush_tmg (s : State) (c : Nat) (v : Nat) (idx : Nat) (k : CaskCfg) :
    (State.doCpush s c v idx k).tmg = s.tmg := by
  simp [State.doCpush]

@[simp] theorem State.startDma_tmg (s : State) (c : Nat) (w : U64) (into : Bool) (x : Core) (t : Task) :
    (State.startDma s c w into x t).tmg = s.tmg := by
  unfold State.startDma; simp only []; (repeat' split) <;> simp_all

@[simp] theorem State.issuePlain_tmg (s : State) (c : Nat) (act : Core → Task → State) (h_act : ∀ x0 x1, (act x0 x1).tmg = s.tmg) :
    (State.issuePlain s c act).tmg = s.tmg := by
  unfold State.issuePlain; simp only []; (repeat' split) <;> simp_all

@[simp] theorem State.halt_tmg (s : State) (f : Nat) (q : Nat) (error : Nat) : (State.halt s f q error).tmg = s.tmg := by
  simp [State.halt]

@[simp] theorem State.raise_tmg (s : State) (f : Nat) (q : Nat) : (State.raise s f q).tmg = s.tmg := by
  simp [State.raise]

@[simp] theorem State.postEntry_tmg (s : State) (f : Nat) (q : Nat) (seq : Nat) (status : Nat) (detail : Nat) (source : Nat) :
    (State.postEntry s f q seq status detail source).tmg = s.tmg := by
  simp [State.postEntry]

@[simp] theorem State.settle_tmg (s : State) (f : Nat) (q : Nat) : (State.settle s f q).tmg = s.tmg := by
  simp [State.settle]

@[simp] theorem State.postAborted_tmg (s : State) (f : Nat) (q : Nat) (status : Nat) (a : Aborted) :
    (State.postAborted s f q status a).tmg = s.tmg := by
  simp [State.postAborted]

@[simp] theorem State.postAborts_tmg (s : State) (f q n : Nat) : (State.postAborts s f q n).tmg = s.tmg := by
  induction n generalizing s with
  | zero => rfl
  | succ n ih => unfold State.postAborts; simp only []; (repeat' split) <;> simp [ih]

@[simp] theorem State.ringTail_tmg (s : State) (f : Part) (q : Fin 64) (idx : BitVec 16) :
    (State.ringTail s f q idx).tmg = s.tmg := by
  simp [State.ringTail]

@[simp] theorem State.ringHead_tmg (s : State) (f : Part) (q : Fin 64) (idx : BitVec 16) :
    (State.ringHead s f q idx).tmg = s.tmg := by
  simp [State.ringHead]

@[simp] theorem State.takeDescriptor_tmg (s : State) (f : Nat) (q : Nat) (d : Bytes) :
    (State.takeDescriptor s f q d).tmg = s.tmg := by
  unfold State.takeDescriptor; simp only []; (repeat' split) <;> simp_all

@[simp] theorem State.settleLoad_tmg (s : State) (f : Nat) (q : Nat) (pos : Nat) (ok : Bool) :
    (State.settleLoad s f q pos ok).tmg = s.tmg := by
  simp [State.settleLoad]

@[simp] theorem State.turnOn_tmg (s : State) (f : Part) (q : Fin 64) (w : U32) : (State.turnOn s f q w).tmg = s.tmg := by
  simp [State.turnOn]

@[simp] theorem State.turnOff_tmg (s : State) (f : Part) (q : Fin 64) (w : U32) : (State.turnOff s f q w).tmg = s.tmg := by
  simp [State.turnOff]

@[simp] theorem State.takeRequest_tmg (s : State) (request : Nat) : (State.takeRequest s request).tmg = s.tmg := by
  simp [State.takeRequest]

@[simp] theorem State.askClaim_tmg (s : State) (f : Part) (w : U32) : (State.askClaim s f w).tmg = s.tmg := by
  simp [State.askClaim]

@[simp] theorem State.askRotate_tmg (s : State) (f : Part) (w : U32) : (State.askRotate s f w).tmg = s.tmg := by
  simp [State.askRotate]

@[simp] theorem State.installTenant_tmg (s : State) (key : Bytes) (base : Nat) :
    (State.installTenant s key base).tmg = s.tmg := by
  simp [State.installTenant]

@[simp] theorem State.spdmAnswer_tmg (s : State) (p : SpdmPort) (ok : Bool) (data : Bytes) (g : Spdm → Spdm) :
    (State.spdmAnswer s p ok data g).tmg = s.tmg := by
  simp [State.spdmAnswer]

@[simp] theorem State.leaveSecure_tmg (s : State) (stream : Fin 17) : (State.leaveSecure s stream).tmg = s.tmg := by
  unfold State.leaveSecure; (repeat' split) <;> simp [*, foldl_tmg]

@[simp] theorem State.pokeQueue_tmg (s : State) (f : Part) (q : Fin 64) (r : Nat) (w : U32) :
    (State.pokeQueue s f q r w).tmg = s.tmg := by
  simp [State.pokeQueue]

@[simp] theorem State.pokeFn_tmg (s : State) (f : Part) (off : Nat) (w : U32) : (State.pokeFn s f off w).tmg = s.tmg := by
  simp [State.pokeFn]

@[simp] theorem State.pokeBar2_tmg (s : State) (f : Part) (off : Nat) (w : U32) : (State.pokeBar2 s f off w).tmg = s.tmg := by
  simp [State.pokeBar2]

@[simp] theorem State.pokeCin_tmg (s : State) (off : Nat) (w : U32) : (State.pokeCin s off w).tmg = s.tmg := by
  simp [State.pokeCin]

@[simp] theorem State.pokeSec_tmg (s : State) (off : Nat) (w : U32) : (State.pokeSec s off w).tmg = s.tmg := by
  unfold State.pokeSec; (repeat' split) <;> simp [*]

@[simp] theorem State.pokeRange_tmg (s : State) (off : Nat) (w : U32) : (State.pokeRange s off w).tmg = s.tmg := by
  simp [State.pokeRange]

@[simp] theorem State.pokeFw_tmg (s : State) (w : U32) : (State.pokeFw s w).tmg = s.tmg := by
  unfold State.pokeFw; (repeat' split) <;> simp [*]

@[simp] theorem State.pokeMgt_tmg (s : State) (off : Nat) (w : U32) : (State.pokeMgt s off w).tmg = s.tmg := by
  simp [State.pokeMgt]

@[simp] theorem State.pokeRec_tmg (s : State) (off : Nat) (w : U32) : (State.pokeRec s off w).tmg = s.tmg := by
  unfold State.pokeRec; (repeat' split) <;> simp [*]

@[simp] theorem State.pokePwr_tmg (s : State) (off : Nat) (w : U32) : (State.pokePwr s off w).tmg = s.tmg := by
  simp [State.pokePwr]

@[simp] theorem State.freeStage_tmg (s : State) (r : Nat) (id : Nat) (m : NodeRun) : (State.freeStage s r id m).tmg = s.tmg := by
  unfold State.freeStage
  dsimp only
  split
  · split
    · rw [State.mapFrame_tmg]
    · rfl
  · rfl

@[simp] theorem State.haltEngine_tmg (s : State) (e : Nat) : (State.haltEngine s e).tmg = s.tmg := by
  simp [State.haltEngine]

@[simp] theorem State.beginGather_tmg (s : State) (f : Nat) (q : Nat) (c : Cmd) (b : Bytes) (ep : Bool) (scalar : Nat) (own : Nat) (share : Bytes) :
    (State.beginGather s f q c b ep scalar own share).tmg = s.tmg := by
  simp [State.beginGather]

@[simp] theorem State.poisonBlob_tmg (s : State) (i : Nat) (b : Blob) : (State.poisonBlob s i b).tmg = s.tmg := by
  simp [State.poisonBlob]

@[simp] theorem State.abortFrameApplies_tmg (s : State) : (State.abortFrameApplies s).tmg = s.tmg := by
  unfold State.abortFrameApplies
  refine foldl_tmg _ (fun s x => ?_) _ _
  split
  · split <;> simp
  · rfl

@[simp] theorem State.abortQueue_tmg (s : State) (f : Nat) (q : Nat) : (State.abortQueue s f q).tmg = s.tmg := by
  simp [State.abortQueue, foldl_tmg]

@[simp] theorem State.removeVfs_tmg (s : State) : (State.removeVfs s).tmg = s.tmg := by
  simp [State.removeVfs]

@[simp] theorem State.destroyKeys_tmg (s : State) : (State.destroyKeys s).tmg = s.tmg := by
  simp [State.destroyKeys]

@[simp] theorem State.renewPorts_tmg (s : State) : (State.renewPorts s).tmg = s.tmg := by
  simp [State.renewPorts, foldl_tmg]

@[simp] theorem State.scrub_tmg (s : State) : (State.scrub s).tmg = s.tmg := by
  simp [State.scrub]

end Sys2Proof.Machine
end

