-- ==== Sys2Proof/Laws/FrameSaf.lean ====
section
/-! SUPPORT. The operations that leave the safety island alone: one lemma for each, which says so (`.saf` is the field of State that holds it). -/

namespace Sys2Proof.Machine

set_option linter.all false

@[simp] theorem ite_saf (c : Prop) [Decidable c] (a b : State) : (if c then a else b).saf = if c then a.saf else b.saf := by
  split <;> rfl

theorem foldl_saf {α : Type} (f : State → α → State) (h : ∀ s x, (f s x).saf = s.saf) (l : List α) (s : State) :
    (l.foldl f s).saf = s.saf := by
  induction l generalizing s with
  | nil => rfl
  | cons a t ih => rw [List.foldl_cons, ih, h]

theorem foldlPair_saf {α β : Type} (f : State × β → α → State × β) (h : ∀ a x, (f a x).1.saf = a.1.saf) (l : List α)
    (a : State × β) : (l.foldl f a).1.saf = a.1.saf := by
  induction l generalizing a with
  | nil => rfl
  | cons x t ih => rw [List.foldl_cons, ih, h]

@[simp] theorem State.sendEvents_saf (s : State) : (State.sendEvents s).saf = s.saf := by
  simp [State.sendEvents]

@[simp] theorem State.event_saf (s : State) (f : Nat) (c : Nat) (source : Nat) : (State.event s f c source).saf = s.saf := by
  unfold State.event; (repeat' split) <;> simp [*]

@[simp] theorem State.eventAll_saf (s : State) (c : Nat) (source : Nat) : (State.eventAll s c source).saf = s.saf := by
  simp [State.eventAll, foldl_saf]

@[simp] theorem State.memWrite_saf (s : State) (a : Nat) (bs : Bytes) (poison : Bool) :
    (State.memWrite s a bs poison).saf = s.saf := by
  simp [State.memWrite]

@[simp] theorem State.memWriteMixed_saf (s : State) (a : Nat) (bs : Bytes) (pz : Nat → Bool) :
    (State.memWriteMixed s a bs pz).saf = s.saf := by
  simp [State.memWriteMixed, foldl_saf]

@[simp] theorem State.fix_saf (s : State) (f : Nat) (q : Nat) (pos : Nat) (status : Nat) (detail : Nat) (source : Nat) :
    (State.fix s f q pos status detail source).saf = s.saf := by
  unfold State.fix; simp only []; (repeat' split) <;> simp_all

@[simp] theorem State.refuse_saf (s : State) (f : Nat) (q : Nat) (pos : Nat) (detail : Nat) :
    (State.refuse s f q pos detail).saf = s.saf := by
  simp [State.refuse]

@[simp] theorem State.setCmd_saf (s : State) (f : Nat) (q : Nat) (pos : Nat) (g : Cmd → Cmd) :
    (State.setCmd s f q pos g).saf = s.saf := by
  simp [State.setCmd]

@[simp] theorem State.underWay_saf (s : State) (f : Nat) (q : Nat) (pos : Nat) (status : Nat) (detail : Nat) (source : Nat) :
    (State.underWay s f q pos status detail source).saf = s.saf := by
  simp [State.underWay]

@[simp] theorem State.driveSafeOff_saf (s : State) (on : Bool) : (State.driveSafeOff s on).saf = s.saf := by
  simp [State.driveSafeOff]

@[simp] theorem State.sendCan_saf (s : State) (ident : Nat) (typ : Nat) (alive : BitVec 8) :
    (State.sendCan s ident typ alive).saf = s.saf := by
  simp [State.sendCan]

@[simp] theorem State.undefine_saf (s : State) (f : Nat) (addr : Nat) (n : Nat) : (State.undefine s f addr n).saf = s.saf := by
  unfold State.undefine; (repeat' split) <;> simp [*]

@[simp] theorem State.reroute_saf (s : State) : (State.reroute s).saf = s.saf := by
  simp [State.reroute, foldl_saf]

@[simp] theorem State.sendFlit_saf (s : State) (p : Nat) (idle : Bool) (payload : Bytes) :
    (State.sendFlit s p idle payload).saf = s.saf := by
  simp [State.sendFlit]

@[simp] theorem State.pump_saf (s : State) (p : Nat) (l : List Bytes) : (State.pump s p l).saf = s.saf := by
  induction l generalizing s with
  | nil => simp [State.pump]
  | cons b t ih => unfold State.pump; split <;> simp [ih]

@[simp] theorem State.sendIdle_saf (s : State) (p : Nat) : (State.sendIdle s p).saf = s.saf := by
  simp [State.sendIdle]

@[simp] theorem State.nak_saf (s : State) (p : Nat) : (State.nak s p).saf = s.saf := by
  simp [State.nak]

@[simp] theorem State.portSend_saf (s : State) (p : Nat) (lane : Nat) (m : Msg) : (State.portSend s p lane m).saf = s.saf := by
  simp [State.portSend]

@[simp] theorem State.strand_saf (s : State) (m : Msg) : (State.strand s m).saf = s.saf := by
  simp [State.strand]

@[simp] theorem State.forward_saf (s : State) (m : Msg) : (State.forward s m).saf = s.saf := by
  unfold State.forward; (repeat' split) <;> simp [*]

@[simp] theorem State.sendMsg_saf (s : State) (m : Msg) : (State.sendMsg s m).saf = s.saf := by
  simp [State.sendMsg]

@[simp] theorem State.flushStuck_saf (s : State) : (State.flushStuck s).saf = s.saf := by
  simp [State.flushStuck, foldl_saf]

@[simp] theorem State.advertise_saf (s : State) : (State.advertise s).saf = s.saf := by
  simp [State.advertise]

@[simp] theorem State.tellLinks_saf (s : State) : (State.tellLinks s).saf = s.saf := by
  simp [State.tellLinks]

@[simp] theorem State.linksChanged_saf (s : State) : (State.linksChanged s).saf = s.saf := by
  simp [State.linksChanged]

@[simp] theorem State.sendRequest_saf (s : State) (m : Msg) (cmd : Option (Nat × Nat × Nat)) :
    (State.sendRequest s m cmd).saf = s.saf := by
  simp [State.sendRequest]

@[simp] theorem State.request_saf (s : State) (m : Msg) (cmd : Option (Nat × Nat × Nat)) :
    (State.request s m cmd).saf = s.saf := by
  simp [State.request]

@[simp] theorem State.issueWaiting_saf (s : State) (d n : Nat) : (State.issueWaiting s d n).saf = s.saf := by
  induction n generalizing s with
  | zero => rfl
  | succ n ih => unfold State.issueWaiting; (repeat' split) <;> simp [ih]

@[simp] theorem State.answered_saf (s : State) (src : Nat) (reqId : Nat) : (State.answered s src reqId).saf = s.saf := by
  simp [State.answered]

@[simp] theorem State.markRun_saf (s : State) (r : Nat) (id : Nat) (poisoned : Bool) (lost : Bool) :
    (State.markRun s r id poisoned lost).saf = s.saf := by
  simp [State.markRun]

@[simp] theorem State.markCmd_saf (s : State) (cmd : Option (Nat × Nat × Nat)) (poisoned : Bool) (lost : Bool) :
    (State.markCmd s cmd poisoned lost).saf = s.saf := by
  unfold State.markCmd; (repeat' split) <;> simp [*]

@[simp] theorem State.poisonRead_saf (s : State) (part : Nat) (a : Nat) (source : Nat) :
    (State.poisonRead s part a source).saf = s.saf := by
  simp [State.poisonRead]

@[simp] theorem State.deliverTo_saf (s : State) (part : Nat) (a : Nat) (source : Nat) (data : Bytes) (poison : Bool) :
    (State.deliverTo s part a source data poison).saf = s.saf := by
  simp [State.deliverTo]

@[simp] theorem State.remoteWrite_saf (s : State) (board : Nat) (part : Nat) (a : Nat) (bs : Bytes) (poison : Bool) (cmd : Option (Nat × Nat × Nat)) :
    (State.remoteWrite s board part a bs poison cmd).saf = s.saf := by
  simp [State.remoteWrite, foldl_saf]

@[simp] theorem State.answer_saf (s : State) (m : Msg) : (State.answer s m).saf = s.saf := by
  simp [State.answer]

@[simp] theorem State.answerLine_saf (s : State) (typ : Nat) (r : HomeReq) : (State.answerLine s typ r).saf = s.saf := by
  simp [State.answerLine]

@[simp] theorem State.answerBare_saf (s : State) (typ : Nat) (dest : Nat) (reqId : Nat) (part : Nat) (addr : Nat) :
    (State.answerBare s typ dest reqId part addr).saf = s.saf := by
  simp [State.answerBare]

@[simp] theorem State.snoop_saf (s : State) (typ : Nat) (req : HomeReq) (boards : List Nat) :
    (State.snoop s typ req boards).saf = s.saf := by
  simp [State.snoop, foldl_saf]

@[simp] theorem State.mergeLine_saf (s : State) (r : HomeReq) (poison : Bool) : (State.mergeLine s r poison).saf = s.saf := by
  simp [State.mergeLine, foldl_saf]

@[simp] theorem State.finishReq_saf (s : State) (r : HomeReq) (was : Option DirEnt) (gone : List Nat) :
    (State.finishReq s r was gone).saf = s.saf := by
  unfold State.finishReq; (repeat' split) <;> simp [*]

@[simp] theorem State.beginReq_saf (s : State) (r : HomeReq) : (State.beginReq s r).saf = s.saf := by
  unfold State.beginReq; simp only []; (repeat' split) <;> simp_all

@[simp] theorem State.startReq_saf (s : State) (r : HomeReq) : (State.startReq s r).saf = s.saf := by
  unfold State.startReq; (repeat' split) <;> simp [*]

@[simp] theorem State.drainQueue_saf (s : State) : (State.drainQueue s).saf = s.saf := by
  simp [State.drainQueue, foldl_saf]

@[simp] theorem State.settleLeaving_saf (s : State) : (State.settleLeaving s).saf = s.saf := by
  simp [State.settleLeaving]

@[simp] theorem State.snoopAnswer_saf (s : State) (board : Nat) (a : Nat) (inFlight : Bool) :
    (State.snoopAnswer s board a inFlight).saf = s.saf := by
  unfold State.snoopAnswer; (repeat' split) <;> simp [*]

@[simp] theorem State.pruneKept_saf (s : State) (h : FabHdr) : (State.pruneKept s h).saf = s.saf := by
  simp [State.pruneKept]

@[simp] theorem State.resendKept_saf (s : State) (k : Kept) : (State.resendKept s k).saf = s.saf := by
  simp [State.resendKept]

@[simp] theorem State.homeRequest_saf (s : State) (typ : ReqType) (h : FabHdr) (mask : List Bool) (data : Bytes) (poison : Bool) :
    (State.homeRequest s typ h mask data poison).saf = s.saf := by
  unfold State.homeRequest; simp only []; (repeat' split) <;> simp_all

@[simp] theorem State.withdraw_saf (s : State) (r : Bytes) : (State.withdraw s r).saf = s.saf := by
  simp [State.withdraw, foldl_saf]

@[simp] theorem State.recall_saf (s : State) (part : Nat) (lines : List Nat) : (State.recall s part lines).saf = s.saf := by
  simp [State.recall, foldl_saf]

@[simp] theorem State.putPart_saf (s : State) (part : Nat) (a : Nat) (bs : Bytes) (poison : Bool) :
    (State.putPart s part a bs poison).saf = s.saf := by
  simp [State.putPart]

@[simp] theorem State.put_saf (s : State) (part : Nat) (a : Nat) (bs : Bytes) (poison : Bool) :
    (State.put s part a bs poison).saf = s.saf := by
  simp [State.put, foldl_saf]

@[simp] theorem State.putMixed_saf (s : State) (part : Nat) (a : Nat) (bs : Bytes) (pz : Nat → Bool) :
    (State.putMixed s part a bs pz).saf = s.saf := by
  simp [State.putMixed, foldl_saf]

@[simp] theorem State.takeOver_saf (s : State) : (State.takeOver s).saf = s.saf := by
  simp [State.takeOver, foldl_saf]

@[simp] theorem State.evict_saf (s : State) (l : RLine) : (State.evict s l).saf = s.saf := by
  simp [State.evict]

theorem State.cellarAlloc_saf (s : State) (x : Bytes) (a : Nat) (d : Bool) (t : State) (h : s.cellarAlloc x a d = some t) :
    t.saf = s.saf := by
  unfold State.cellarAlloc at h
  simp only [] at h
  (repeat' split at h) <;> (try cases h) <;> simp

@[simp] theorem State.cellarAllocD_saf (s : State) (x : Bytes) (a : Nat) (d : Bool) : ((s.cellarAlloc x a d).getD s).saf = s.saf := by
  cases h : s.cellarAlloc x a d with
  | none => rfl
  | some t => exact State.cellarAlloc_saf _ _ _ _ _ h

@[simp] theorem State.deliver_saf (s : State) (r : CellarReq) (data : Bytes) (poison : Bool) :
    (State.deliver s r data poison).saf = s.saf := by
  simp [State.deliver]

@[simp] theorem State.remoteAccess_saf (s : State) (r : CellarReq) : (State.remoteAccess s r).saf = s.saf := by
  unfold State.remoteAccess
  simp only []
  split
  · (repeat' split) <;> simp
  · split
    · rename_i t h
      have ht : t.saf = s.saf := by
        split at h
        · split at h
          · have := State.cellarAlloc_saf _ _ _ _ _ h
            simp at this
            exact this
          · cases h
        · cases h
      simp [ht]
    · split <;> simp

@[simp] theorem State.serveWaiters_saf (s : State) (l : List CellarReq) : (State.serveWaiters s l).saf = s.saf := by
  simp [State.serveWaiters, foldl_saf]

@[simp] theorem State.installLine_saf (s : State) (a : Nat) (st : CohSt) (data : Option (Bytes × Bool)) :
    (State.installLine s a st data).saf = s.saf := by
  unfold State.installLine; (repeat' split) <;> simp [*]

@[simp] theorem State.refetch_saf (s : State) (l : RLine) : (State.refetch s l).saf = s.saf := by
  simp [State.refetch]

@[simp] theorem State.maskedWrite_saf (s : State) (r : CellarReq) : (State.maskedWrite s r).saf = s.saf := by
  simp [State.maskedWrite]

@[simp] theorem State.cellarCount_saf (s : State) (r : CellarReq) : (State.cellarCount s r).saf = s.saf := by
  unfold State.cellarCount
  simp only []
  (repeat' split) <;> simp

@[simp] theorem State.localAccess_saf (s : State) (r : CellarReq) : (State.localAccess s r).saf = s.saf := by
  simp [State.localAccess]

@[simp] theorem State.poisonLine_saf (s : State) (a : Nat) : (State.poisonLine s a).saf = s.saf := by
  simp [State.poisonLine]

@[simp] theorem State.takeSource_saf (s : State) (cmd : Option (Nat × Nat × Nat)) (c : Cmd) (f : Nat) (q : Nat) (a : Nat) (data : Bytes) (poison : Bool) :
    (State.takeSource s cmd c f q a data poison).saf = s.saf := by
  unfold State.takeSource; simp only []; (repeat' split) <;> simp_all

@[simp] theorem State.takeCoreLine_saf (s : State) (c : Nat) (part : Nat) (a : Nat) (data : Bytes) (poison : Bool) :
    (State.takeCoreLine s c part a data poison).saf = s.saf := by
  simp [State.takeCoreLine]

@[simp] theorem State.takeNokeep_saf (s : State) (u : Unans) (a : Nat) (data : Bytes) (poison : Bool) :
    (State.takeNokeep s u a data poison).saf = s.saf := by
  unfold State.takeNokeep; (repeat' split) <;> simp [*]

@[simp] theorem State.failLine_saf (s : State) (a : Nat) : (State.failLine s a).saf = s.saf := by
  unfold State.failLine; (repeat' split) <;> simp [*, foldl_saf]

@[simp] theorem State.failRequest_saf (s : State) (u : Unans) : (State.failRequest s u).saf = s.saf := by
  unfold State.failRequest; (repeat' split) <;> simp [*]

@[simp] theorem State.failMsg_saf (s : State) (u : Unans) : (State.failMsg s u).saf = s.saf := by
  simp [State.failMsg]

@[simp] theorem State.useDma_saf (s : State) (j : Job) : (State.useDma s j).saf = s.saf := by
  simp [State.useDma]

@[simp] theorem State.useSealing_saf (s : State) (j : Job) : (State.useSealing s j).saf = s.saf := by
  simp [State.useSealing]

@[simp] theorem State.useMessage_saf (s : State) (n : Nat) (j : Job) : (State.useMessage s n j).saf = s.saf := by
  simp [State.useMessage]

theorem poisonReads_saf (p src : Nat) (g : State → Nat → Nat) (l : List Nat) (s : State) :
    (l.foldl (fun s i => s.poisonRead p (g s i) src) s).saf = s.saf :=
  foldl_saf _ (fun s x => State.poisonRead_saf s p (g s x) src) l s

@[simp] theorem State.readLocal_saf (s : State) (f : Nat) (a : Nat) (n : Nat) : (State.readLocal s f a n).saf = s.saf := by
  exact poisonReads_saf f (srcPart f) (fun s l => s.struct.boardId * 2 ^ 40 + 128 * l) _ s

@[simp] theorem State.toHost_saf (s : State) (f : Nat) (q : Nat) (seq : Nat) (addr : Nat) (bs : Bytes) (first : Nat) (pz : Nat → Bool) :
    (State.toHost s f q seq addr bs first pz).saf = s.saf := by
  simp [State.toHost, foldl_saf]

@[simp] theorem State.toPlace_saf (s : State) (f : Nat) (p : Place) (bs : Bytes) (pz : Nat → Bool) (cmd : Option (Nat × Nat × Nat)) :
    (State.toPlace s f p bs pz cmd).saf = s.saf := by
  unfold State.toPlace; (repeat' split) <;> simp [*, foldl_saf]

@[simp] theorem State.settleEntry_saf (s : State) (a : Nat) (e : Option DirEnt) : (State.settleEntry s a e).saf = s.saf := by
  unfold State.settleEntry; (repeat' split) <;> simp [*]

@[simp] theorem State.eviction_saf (s : State) (h : FabHdr) (data : Option (Bytes × Bool)) :
    (State.eviction s h data).saf = s.saf := by
  unfold State.eviction; simp only []; (repeat' split) <;> simp_all

@[simp] theorem State.snoopReply_saf (s : State) (home : Nat) (typ : Nat) (reqId : Nat) (a : Nat) (data : Bytes) (poison : Bool) :
    (State.snoopReply s home typ reqId a data poison).saf = s.saf := by
  simp [State.snoopReply]

@[simp] theorem State.ringWrite_saf (s : State) (w : Bytes) (off : Nat) (bs : Bytes) (poison : Bool) :
    (State.ringWrite s w off bs poison).saf = s.saf := by
  simp [State.ringWrite]

@[simp] theorem State.addMail_saf (s : State) (m : MailIn) : (State.addMail s m).saf = s.saf := by
  simp [State.addMail]

@[simp] theorem State.fixSend_saf (s : State) (cmd : Option (Nat × Nat × Nat)) (source : Nat) :
    (State.fixSend s cmd source).saf = s.saf := by
  unfold State.fixSend; (repeat' split) <;> simp [*]

@[simp] theorem State.ownMailDone_saf (s : State) (reqId : Nat) : (State.ownMailDone s reqId).saf = s.saf := by
  unfold State.ownMailDone; (repeat' split) <;> simp [*]

@[simp] theorem State.passMails_saf (s : State) (w : Bytes) (x : Nat) (l : List MailIn) : (State.passMails s w x l).saf = s.saf := by
  induction l generalizing s with
  | nil => simp [State.passMails]
  | cons b t ih => unfold State.passMails; simp only []; (repeat' split) <;> simp [ih]

@[simp] theorem State.mailWhole_saf (s : State) (w : Bytes) (m : MailIn) : (State.mailWhole s w m).saf = s.saf := by
  simp [State.mailWhole]

@[simp] theorem State.recallSource_saf (s : State) (f : Nat) (c : Cmd) (o : Nat) (n : Nat) :
    (State.recallSource s f c o n).saf = s.saf := by
  unfold State.recallSource; (repeat' split) <;> simp [*]

@[simp] theorem State.startMessage_saf (s : State) (dest : Nat) (f : Nat) (q : Nat) (c : Cmd) :
    (State.startMessage s dest f q c).saf = s.saf := by
  simp [State.startMessage]

@[simp] theorem State.sendChunk_saf (s : State) (u : Unans) (o : Nat) (bs : Bytes) (poison : Bool) (last : Bool) :
    (State.sendChunk s u o bs poison last).saf = s.saf := by
  unfold State.sendChunk; simp only []; (repeat' split) <;> simp_all

@[simp] theorem State.mapMessage_saf (s : State) (n : Nat) (g : Engine → Engine) : (State.mapMessage s n g).saf = s.saf := by
  simp [State.mapMessage]

@[simp] theorem State.runMessage_saf (s : State) (n : Nat) : (State.runMessage s n).saf = s.saf := by
  unfold State.runMessage; simp only []; (repeat' split) <;> simp_all

@[simp] theorem State.noteFw_saf (s : State) (comp : Fin 4) (slot : Bool) (event : String) :
    (State.noteFw s comp slot event).saf = s.saf := by
  simp [State.noteFw]

@[simp] theorem State.finishBurn_saf (s : State) (comp : Fin 4) : (State.finishBurn s comp).saf = s.saf := by
  unfold State.finishBurn; (repeat' split) <;> simp [*]

@[simp] theorem State.dropTrial_saf (s : State) (comp : Fin 4) : (State.dropTrial s comp).saf = s.saf := by
  simp [State.dropTrial]

@[simp] theorem State.bootComponent_saf (s : State) (c : Fin 4) : (s.bootComponent c).1.saf = s.saf := by
  simp [State.bootComponent]

@[simp] theorem State.enterRecovery_saf (s : State) (cause : Nat) : (State.enterRecovery s cause).saf = s.saf := by
  simp [State.enterRecovery]

@[simp] theorem State.applyOverride_saf (s : State) : (State.applyOverride s).saf = s.saf := by
  simp [State.applyOverride]

@[simp] theorem State.evalCompat_saf (s : State) : (State.evalCompat s).saf = s.saf := by
  simp [State.evalCompat]

@[simp] theorem State.loadCal_saf (s : State) : (State.loadCal s).saf = s.saf := by
  simp [State.loadCal, foldl_saf] <;> (intros; rw [foldl_saf]; intros; simp)

@[simp] theorem State.ledgerAfterAux_saf (s : State) : (State.ledgerAfterAux s).saf = s.saf := by
  simp [State.ledgerAfterAux]

@[simp] theorem State.checkRetention_saf (s : State) : (State.checkRetention s).saf = s.saf := by
  simp [State.checkRetention]

@[simp] theorem State.restartTime_saf (s : State) : (State.restartTime s).saf = s.saf := by
  simp [State.restartTime]

@[simp] theorem State.settleRetention_saf (s : State) : (State.settleRetention s).saf = s.saf := by
  simp [State.settleRetention]

@[simp] theorem State.bootFirmware_saf (s : State) (saf : Bool) : (State.bootFirmware s saf).saf = s.saf := by
  unfold State.bootFirmware; (repeat' split) <;> simp [*, foldl_saf]

@[simp] theorem State.bootTime_saf (s : State) : (State.bootTime s).saf = s.saf := by
  simp [State.bootTime]

@[simp] theorem State.bootNow_saf (s : State) : (State.bootNow s).saf = s.saf := by
  simp [State.bootNow]

@[simp] theorem State.announceReset_saf (s : State) (cold : Bool) (cause : String) (source : Nat) :
    (State.announceReset s cold cause source).saf = s.saf := by
  unfold State.announceReset; simp only []; (repeat' split) <;> simp_all

@[simp] theorem State.takeFwAction_saf (s : State) (a : FwAction) (comp : Fin 4) : (State.takeFwAction s a comp).saf = s.saf := by
  simp [State.takeFwAction]

@[simp] theorem State.askMark_saf (s : State) (f : Part) (w : U32) : (State.askMark s f w).saf = s.saf := by
  simp [State.askMark]

@[simp] theorem State.askCommit_saf (s : State) (f : Part) (w : U32) : (State.askCommit s f w).saf = s.saf := by
  simp [State.askCommit]

@[simp] theorem State.askCancel_saf (s : State) (f : Part) (w : U32) : (State.askCancel s f w).saf = s.saf := by
  simp [State.askCancel]

@[simp] theorem State.askBurn_saf (s : State) (f : Part) (w : U32) : (State.askBurn s f w).saf = s.saf := by
  simp [State.askBurn]

@[simp] theorem State.endMarkTrial_saf (s : State) (c : Fin 4) : (State.endMarkTrial s c).saf = s.saf := by
  simp [State.endMarkTrial]

@[simp] theorem State.endCommit_saf (s : State) (c : Fin 4) : (State.endCommit s c).saf = s.saf := by
  simp [State.endCommit]

@[simp] theorem State.endCancelTrial_saf (s : State) (c : Fin 4) : (State.endCancelTrial s c).saf = s.saf := by
  simp [State.endCancelTrial]

@[simp] theorem State.endBurn_saf (s : State) (c : Fin 4) : (State.endBurn s c).saf = s.saf := by
  unfold State.endBurn; simp only []; (repeat' split) <;> simp_all

@[simp] theorem State.askBegin_saf (s : State) (f : Part) (w : U32) : (State.askBegin s f w).saf = s.saf := by
  simp [State.askBegin]

@[simp] theorem State.askRun_saf (s : State) (f : Part) (w : U32) : (State.askRun s f w).saf = s.saf := by
  simp [State.askRun]

@[simp] theorem State.askProgram_saf (s : State) (f : Part) (w : U32) : (State.askProgram s f w).saf = s.saf := by
  simp [State.askProgram]

@[simp] theorem State.fillWindow_saf (s : State) (f : Part) (off : Nat) (size : Nat) (v : U64) :
    (State.fillWindow s f off size v).saf = s.saf := by
  simp [State.fillWindow]

@[simp] theorem State.mapCores_saf (s : State) (g : Core → Core) : (State.mapCores s g).saf = s.saf := by
  simp [State.mapCores]

@[simp] theorem State.resetCasks_saf (s : State) (route : Nat) : (State.resetCasks s route).saf = s.saf := by
  simp [State.resetCasks]

@[simp] theorem State.freshVecs_saf (s : State) (c : Nat) : (State.freshVecs s c).saf = s.saf := by
  simp [State.freshVecs]

@[simp] theorem State.install_saf (s : State) (c : Nat) (t : Task) : (State.install s c t).saf = s.saf := by
  simp [State.install]

@[simp] theorem State.loadCode_saf (s : State) (c : Nat) (t : Task) (blob : Nat) : (State.loadCode s c t blob).saf = s.saf := by
  simp [State.loadCode]

@[simp] theorem State.nextTask_saf (s : State) (c : Nat) : (State.nextTask s c).saf = s.saf := by
  unfold State.nextTask; simp only []; (repeat' split) <;> simp_all

@[simp] theorem State.endTask_saf (s : State) (c : Nat) : (State.endTask s c).saf = s.saf := by
  unfold State.endTask; simp only []; (repeat' split) <;> simp_all

@[simp] theorem State.finish_saf (s : State) (c : Nat) (x : Core) : (State.finish s c x).saf = s.saf := by
  simp [State.finish]

@[simp] theorem State.takePreemption_saf (s : State) (c : Nat) : (State.takePreemption s c).saf = s.saf := by
  unfold State.takePreemption; simp only []; (repeat' split) <;> simp_all

@[simp] theorem State.settleWait_saf (s : State) (c : Nat) : (State.settleWait s c).saf = s.saf := by
  unfold State.settleWait; simp only []; (repeat' split) <;> simp_all

@[simp] theorem State.settleWaits_saf (s : State) : (State.settleWaits s).saf = s.saf := by
  simp [State.settleWaits, foldl_saf]

@[simp] theorem State.startTask_saf (s : State) (c : Nat) (t : Task) (blob : Nat) : (State.startTask s c t blob).saf = s.saf := by
  simp [State.startTask]

@[simp] theorem State.settleSwap_saf (s : State) (route : Nat) : (State.settleSwap s route).saf = s.saf := by
  simp [State.settleSwap]

@[simp] theorem State.endApply_saf (s : State) (slot : Nat) : (State.endApply s slot).saf = s.saf := by
  unfold State.endApply; simp only []; (repeat' split) <;> simp_all

@[simp] theorem State.releaseHeld_saf (s : State) (route : Nat) : (State.releaseHeld s route).saf = s.saf := by
  simp [State.releaseHeld]

@[simp] theorem State.mapFrame_saf (s : State) (r : Nat) (id : Nat) (g : Frame → Frame) :
    (State.mapFrame s r id g).saf = s.saf := by
  simp [State.mapFrame]

@[simp] theorem State.noteStale_saf (s : State) (r : Nat) (cause : Nat) : (State.noteStale s r cause).saf = s.saf := by
  simp [State.noteStale]

@[simp] theorem State.published_saf (s : State) (t : Struct) (r : Nat) (typ : Nat) (addr : Nat) (len : Nat) (exposure : Nat) :
    (State.published s t r typ addr len exposure).saf = s.saf := by
  simp [State.published]

@[simp] theorem State.checkDeadline_saf (s : State) (r : Nat) (f : Frame) : (State.checkDeadline s r f).saf = s.saf := by
  simp [State.checkDeadline]

@[simp] theorem State.epochCut_saf (s : State) (r : Nat) (f : Frame) (valid : Bool) :
    (State.epochCut s r f valid).saf = s.saf := by
  simp [State.epochCut]

@[simp] theorem State.fixAll_saf (s : State) (l : List (Nat × Nat × Nat)) (status : Nat) (detail : Nat) (source : Nat) :
    (State.fixAll s l status detail source).saf = s.saf := by
  simp [State.fixAll, foldl_saf]

@[simp] theorem State.stopApply_saf (s : State) (r : Nat) (status : Nat) (detail : Nat) :
    (State.stopApply s r status detail).saf = s.saf := by
  simp [State.stopApply, foldl_saf]

@[simp] theorem State.mapTasks_saf (s : State) (p : Task → Bool) (g : Task → Task) : (State.mapTasks s p g).saf = s.saf := by
  simp [State.mapTasks]

@[simp] theorem State.stopTasks_saf (s : State) (p : Task → Bool) : (State.stopTasks s p).saf = s.saf := by
  simp [State.stopTasks]

@[simp] theorem State.mapJobs_saf (s : State) (g : Nat → StageJob → StageJob) : (State.mapJobs s g).saf = s.saf := by
  simp [State.mapJobs]

@[simp] theorem State.noteLevel_saf (s : State) (level : BitVec 3) : (State.noteLevel s level).saf = s.saf := by
  simp [State.noteLevel]

@[simp] theorem State.epochAbandon_saf (s : State) (r : Nat) (id : Nat) : (State.epochAbandon s r id).saf = s.saf := by
  unfold State.epochAbandon; (repeat' split) <;> simp [*]

@[simp] theorem State.openWindow_saf (s : State) (r : Nat) : (State.openWindow s r).saf = s.saf := by
  simp [State.openWindow, foldl_saf]

@[simp] theorem State.associate_saf (s : State) (c : Nat) (id : Nat) (start : Nat) (exposure : Nat) :
    (State.associate s c id start exposure).saf = s.saf := by
  simp [State.associate, foldl_saf] <;> (intros; rw [foldl_saf]; intros; simp)

@[simp] theorem State.slotCycle_saf (s : State) (c : Nat) : (State.slotCycle s c).saf = s.saf := by
  unfold State.slotCycle; (repeat' split) <;> simp [*]

@[simp] theorem State.chargeEngine_saf (s : State) (r : Nat) (m : NodeRun) : (State.chargeEngine s r m).saf = s.saf := by
  simp [State.chargeEngine]

@[simp] theorem State.startNode_saf (s : State) (r : Nat) (f : Frame) (c : Bytes) : (State.startNode s r f c).saf = s.saf := by
  simp [State.startNode]

@[simp] theorem State.dispatch_saf (s : State) (r : Nat) (id : Nat) (n : Nat) (trig : Nat) :
    (State.dispatch s r id n trig).saf = s.saf := by
  unfold State.dispatch; (repeat' split) <;> simp [*]

@[simp] theorem State.undefineCmd_saf (s : State) (f : Nat) (q : Nat) (c : Cmd) : (State.undefineCmd s f q c).saf = s.saf := by
  simp [State.undefineCmd]

@[simp] theorem State.undefineCmds_saf (s : State) (f : Nat) : (State.undefineCmds s f).saf = s.saf := by
  simp [State.undefineCmds, foldl_saf]

@[simp] theorem State.dropWork_saf (s : State) (f : Nat) : (State.dropWork s f).saf = s.saf := by
  simp [State.dropWork]

@[simp] theorem State.dropApplies_saf (s : State) (p : Nat → Bool) : (State.dropApplies s p).saf = s.saf := by
  unfold State.dropApplies
  refine foldl_saf _ (fun s x => ?_) _ _
  split
  · split <;> simp
  · rfl

@[simp] theorem State.drainDst_saf (s : State) (d : Nat) : (State.drainDst s d).saf = s.saf := by
  simp [State.drainDst]

@[simp] theorem State.noteIrregular_saf (s : State) (c : Nat) (id : Nat) (long : Bool) (extra : Bool) :
    (State.noteIrregular s c id long extra).saf = s.saf := by
  simp [State.noteIrregular]

@[simp] theorem State.queueBeats_saf (s : State) (d : Nat) (l : List Beat) : (State.queueBeats s d l).saf = s.saf := by
  simp [State.queueBeats]

@[simp] theorem State.pipeLine_saf (s : State) (src : Nat) (ctx : Nat) (frame : Nat) (line : Nat) (plane : Nat) (b : Bytes) (poison : Bool) :
    (State.pipeLine s src ctx frame line plane b poison).saf = s.saf := by
  simp [State.pipeLine, foldl_saf]

@[simp] theorem State.closeBeat_saf (s : State) (src : Nat) (ctx : Nat) (frame : Nat) (pick : Nat → Bool) (data : Bytes) (poison : Bool) :
    (State.closeBeat s src ctx frame pick data poison).saf = s.saf := by
  simp [State.closeBeat, foldl_saf]

@[simp] theorem State.stageLine_saf (s : State) (src : Nat) (frameId : Nat) (ctx : Nat) (frame : Nat) (line : Nat) (plane : Nat) (b : Bytes) (poison : Bool) :
    (State.stageLine s src frameId ctx frame line plane b poison).saf = s.saf := by
  simp [State.stageLine, foldl_saf]

@[simp] theorem State.deliverBeat_saf (s : State) (d : Nat) : (State.deliverBeat s d).saf = s.saf := by
  unfold State.deliverBeat; simp only []; (repeat' split) <;> simp_all

@[simp] theorem State.mapJob_saf (s : State) (i : Nat) (g : StageJob → StageJob) : (State.mapJob s i g).saf = s.saf := by
  simp [State.mapJob]

@[simp] theorem State.layRecord_saf (s : State) (i : Nat) (j : StageJob) (a : Nat) (r : RecInfo) (desc : Bytes) (body : Payload) :
    (State.layRecord s i j a r desc body).saf = s.saf := by
  simp [State.layRecord]

@[simp] theorem State.notePoisoned_saf (s : State) (i : Nat) (poison : Bool) (discard : Bool) :
    (State.notePoisoned s i poison discard).saf = s.saf := by
  simp [State.notePoisoned]

@[simp] theorem State.putRecord_saf (s : State) (i : Nat) (j : StageJob) (o : Nat) (src : Nat) (off : Nat) (r : RecInfo) (desc : Bytes) (body : Payload) :
    (State.putRecord s i j o src off r desc body).saf = s.saf := by
  simp [State.putRecord]

@[simp] theorem State.jobDone_saf (s : State) (i : Nat) : (State.jobDone s i).saf = s.saf := by
  simp [State.jobDone]

@[simp] theorem State.sendLines_saf (s : State) (i : Nat) (src : Nat) (ctx : Nat) (key : Nat) (plane : Nat) (lines : List (Bytes × Bool)) :
    (State.sendLines s i src ctx key plane lines).saf = s.saf := by
  unfold State.sendLines; (repeat' split) <;> simp [*, foldl_saf]

@[simp] theorem State.advancePyr_saf (s : State) (c : Nat) : (State.advancePyr s c).saf = s.saf := by
  unfold State.advancePyr; (repeat' split) <;> simp [*, foldl_saf]

@[simp] theorem State.advanceWrp_saf (s : State) (i : Nat) (c : Nat) : (State.advanceWrp s i c).saf = s.saf := by
  unfold State.advanceWrp; (repeat' split) <;> simp [*]

@[simp] theorem State.storeLine_saf (s : State) (part : Nat) (a : Nat) (w : Nat) (y : Nat) (l : List Int) :
    (State.storeLine s part a w y l).saf = s.saf := by
  simp [State.storeLine]

@[simp] theorem State.offerTiles_saf (s : State) (i : Nat) (j : StageJob) (l : List (Nat × (Nat × Nat) × Bool)) :
    (State.offerTiles s i j l).saf = s.saf := by
  simp [State.offerTiles]

@[simp] theorem State.offerRows_saf (s : State) (i : Nat) (rows : List (List Px)) : (State.offerRows s i rows).saf = s.saf := by
  unfold State.offerRows; (repeat' split) <;> simp [*]

@[simp] theorem State.sendDense_saf (s : State) (i : Nat) (c : Nat) (rows : List (List Px)) (h : Nat) :
    (State.sendDense s i c rows h).saf = s.saf := by
  simp [State.sendDense]

@[simp] theorem State.floStore__saf (s : State) (i : Nat) (j : StageJob) : (State.floStore_ s i j).saf = s.saf := by
  simp [State.floStore_, foldl_saf]

@[simp] theorem State.advanceDense_saf (s : State) (i : Nat) : (State.advanceDense s i).saf = s.saf := by
  unfold State.advanceDense; (repeat' split) <;> simp [*]

@[simp] theorem State.advanceTrk_saf (s : State) : (State.advanceTrk s).saf = s.saf := by
  unfold State.advanceTrk; (repeat' split) <;> simp [*, foldl_saf, foldlPair_saf]

@[simp] theorem State.advance_saf (s : State) (i : Nat) (c : Nat) : (State.advance s i c).saf = s.saf := by
  simp [State.advance]

@[simp] theorem State.putLine_saf (s : State) (i : Nat) (port : Nat) (j : StageJob) (c : Nat) (id : Nat) (level : Nat) (data : Bytes) (poison : Bool) :
    (State.putLine s i port j c id level data poison).saf = s.saf := by
  simp [State.putLine]

@[simp] theorem State.closeInput_saf (s : State) (i : Nat) (port : Nat) (j : StageJob) (c : Nat) :
    (State.closeInput s i port j c).saf = s.saf := by
  simp [State.closeInput]

@[simp] theorem State.putDense_saf (s : State) (i : Nat) (j : StageJob) : (State.putDense s i j).saf = s.saf := by
  simp [State.putDense]

@[simp] theorem State.offerCells_saf (s : State) (j : StageJob) (m : Nat) : (State.offerCells s j m).saf = s.saf := by
  simp [State.offerCells]

@[simp] theorem State.offerMatches_saf (s : State) : (State.offerMatches s).saf = s.saf := by
  unfold State.offerMatches; (repeat' split) <;> simp [*]

@[simp] theorem State.putMatches_saf (s : State) (j : StageJob) : (State.putMatches s j).saf = s.saf := by
  simp [State.putMatches]

@[simp] theorem State.endDense_saf (s : State) (i : Nat) (j : StageJob) : (State.endDense s i j).saf = s.saf := by
  simp [State.endDense]

@[simp] theorem State.refit_saf (s : State) : (State.refit s).saf = s.saf := by
  simp [State.refit, foldl_saf]

@[simp] theorem State.setLoop_saf (s : State) (l : LoopSt) : (State.setLoop s l).saf = s.saf := by
  simp [State.setLoop]

@[simp] theorem State.enterHold_saf (s : State) : (State.enterHold s).saf = s.saf := by
  simp [State.enterHold]

@[simp] theorem State.stepGtc_saf (s : State) (d : Int) : (State.stepGtc s d).saf = s.saf := by
  simp [State.stepGtc]

@[simp] theorem State.stepToInput_saf (s : State) (i : Nat) (e : Int) : (State.stepToInput s i e).saf = s.saf := by
  simp [State.stepToInput]

@[simp] theorem State.reselect_saf (s : State) : (State.reselect s).saf = s.saf := by
  unfold State.reselect; simp only []; (repeat' split) <;> simp_all

@[simp] theorem State.failInput_saf (s : State) (i : Nat) (code : Nat) : (State.failInput s i code).saf = s.saf := by
  simp [State.failInput]

@[simp] theorem State.makeAvailable_saf (s : State) (i : Nat) : (State.makeAvailable s i).saf = s.saf := by
  simp [State.makeAvailable]

@[simp] theorem State.judgeLock_saf (s : State) (e : Int) : (State.judgeLock s e).saf = s.saf := by
  simp [State.judgeLock]

@[simp] theorem State.stepOnMeasure_saf (s : State) (i : Nat) (e : Int) : (s.stepOnMeasure i e).1.saf = s.saf := by
  unfold State.stepOnMeasure; simp only []; (repeat' split) <;> simp

@[simp] theorem State.loopMeasure_saf (s : State) (i : Nat) (e : Int) : (State.loopMeasure s i e).saf = s.saf := by
  simp [State.loopMeasure]

@[simp] theorem State.measure_saf (s : State) (i : Nat) (e : Int) (freq : Int) (jump : Bool) (domainOk : Bool) :
    (State.measure s i e freq jump domainOk).saf = s.saf := by
  simp [State.measure]

@[simp] theorem State.failLanicy_saf (s : State) : (State.failLanicy s).saf = s.saf := by
  simp [State.failLanicy, foldl_saf]

@[simp] theorem State.setBackupActs_saf (s : State) (v : Bool) : (State.setBackupActs s v).saf = s.saf := by
  simp [State.setBackupActs]

@[simp] theorem State.hearTime_saf (s : State) (port : Nat) (m : TimeMsg) : (State.hearTime s port m).saf = s.saf := by
  simp [State.hearTime]

@[simp] theorem State.endFreqPulse_saf (s : State) : (State.endFreqPulse s).saf = s.saf := by
  simp [State.endFreqPulse]

@[simp] theorem State.tmgCycle_saf (s : State) : (State.tmgCycle s).saf = s.saf := by
  simp [State.tmgCycle]

@[simp] theorem State.measureVin_saf (s : State) : (State.measureVin s).saf = s.saf := by
  simp [State.measureVin]

@[simp] theorem State.endVerify_saf (s : State) : (State.endVerify s).saf = s.saf := by
  unfold State.endVerify; (repeat' split) <;> simp [*]

@[simp] theorem State.runMessages_saf (s : State) : (State.runMessages s).saf = s.saf := by
  simp [State.runMessages, foldl_saf]

@[simp] theorem State.resumeTasks_saf (s : State) : (State.resumeTasks s).saf = s.saf := by
  simp [State.resumeTasks, foldl_saf]

@[simp] theorem State.tick_saf (s : State) : (State.tick s).saf = s.saf := by
  simp [State.tick]

@[simp] theorem State.badHeader_saf (s : State) (port : Nat) : (State.badHeader s port).saf = s.saf := by
  simp [State.badHeader]

@[simp] theorem State.active_saf (s : State) (port : Nat) : (State.active s port).saf = s.saf := by
  simp [State.active]

@[simp] theorem State.emitLine_saf (s : State) (c pipe : Nat) (g : CtxFrame) (y : Nat) : (s.emitLine c pipe g y).1.saf = s.saf := by
  unfold State.emitLine
  refine foldlPair_saf _ (fun a x => ?_) _ _
  dsimp only
  split <;> simp

@[simp] theorem State.emitChroma_saf (s : State) (c : Nat) (pipe : Nat) (f : CtxFrame) :
    (State.emitChroma s c pipe f).saf = s.saf := by
  simp [State.emitChroma, foldl_saf]

@[simp] theorem State.emitFrame_saf (s : State) (c : Nat) (id : Nat) : (State.emitFrame s c id).saf = s.saf := by
  unfold State.emitFrame; (repeat' split) <;> simp [*, foldl_saf, foldlPair_saf]

@[simp] theorem State.closeFrame_saf (s : State) (c : Nat) (short : Bool) : (State.closeFrame s c short).saf = s.saf := by
  unfold State.closeFrame; (repeat' split) <;> simp [*]

@[simp] theorem State.noteBacklog_saf (s : State) (pipe : Nat) : (State.noteBacklog s pipe).saf = s.saf := by
  simp [State.noteBacklog]

@[simp] theorem State.takeLinePacket_saf (s : State) (port : Nat) (c : Nat) (dt : Nat) (pixels : List Nat) (bad : Bool) :
    (State.takeLinePacket s port c dt pixels bad).saf = s.saf := by
  unfold State.takeLinePacket; (repeat' split) <;> simp [*]

@[simp] theorem State.scbCtl_saf (s : State) (f : Part) (k : Nat) (w : U32) : (State.scbCtl s f k w).saf = s.saf := by
  simp [State.scbCtl]

@[simp] theorem State.scbPush_saf (s : State) (f : Part) (k : Nat) (v : Byte) : (State.scbPush s f k v).saf = s.saf := by
  simp [State.scbPush]

@[simp] theorem State.scbPop_saf (s : State) (b : Nat) : (s.scbPop b).1.saf = s.saf := by
  unfold State.scbPop; split <;> simp

@[simp] theorem State.enforcePins_saf (s : State) (old : Struct) : (State.enforcePins s old).saf = s.saf := by
  simp [State.enforcePins]

@[simp] theorem State.enforceBoard_saf (s : State) : (State.enforceBoard s).saf = s.saf := by
  simp [State.enforceBoard]

@[simp] theorem State.enforceInputs_saf (s : State) : (State.enforceInputs s).saf = s.saf := by
  simp [State.enforceInputs]

@[simp] theorem State.enforceRoles_saf (s : State) (old : Struct) : (State.enforceRoles s old).saf = s.saf := by
  simp [State.enforceRoles]

@[simp] theorem State.enforceOutputs_saf (s : State) (old : Struct) : (State.enforceOutputs s old).saf = s.saf := by
  simp [State.enforceOutputs]

@[simp] theorem State.refreshVfs_saf (s : State) : (State.refreshVfs s).saf = s.saf := by
  simp [State.refreshVfs]

@[simp] theorem State.enforceRegions_saf (s : State) (old : Struct) : (State.enforceRegions s old).saf = s.saf := by
  unfold State.enforceRegions
  refine (foldl_saf _ (fun s r => ?_) _ _).trans (foldl_saf _ (fun s r => ?_) _ _)
  · refine (foldl_saf _ (fun s l => ?_) _ _).trans rfl
    split
    · split <;> simp
    · rfl
  · rfl

@[simp] theorem State.enforceExports_saf (s : State) (old : Struct) : (State.enforceExports s old).saf = s.saf := by
  simp [State.enforceExports, foldl_saf]

@[simp] theorem State.enforceLinks_saf (s : State) (old : Struct) : (State.enforceLinks s old).saf = s.saf := by
  simp [State.enforceLinks, foldl_saf]

@[simp] theorem State.enforceCamera_saf (s : State) (old : Struct) : (State.enforceCamera s old).saf = s.saf := by
  simp [State.enforceCamera]

@[simp] theorem State.enforceStreams_saf (s : State) (old : Struct) : (State.enforceStreams s old).saf = s.saf := by
  simp [State.enforceStreams]

@[simp] theorem State.enforceStages_saf (s : State) : (State.enforceStages s).saf = s.saf := by
  simp [State.enforceStages]

@[simp] theorem State.rejectApply_saf (s : State) (n : Nat) (a : Apply) (status : Nat) (detail : Nat) :
    (State.rejectApply s n a status detail).saf = s.saf := by
  simp [State.rejectApply]

@[simp] theorem State.missFrame_saf (s : State) (r : Nat) (n : Nat) (a : Apply) : (State.missFrame s r n a).saf = s.saf := by
  simp [State.missFrame]

@[simp] theorem State.dropMain_saf (s : State) (vin : Bool) : (State.dropMain s vin).saf = s.saf := by
  simp [State.dropMain]

@[simp] theorem State.pairWrite_saf (s : State) (f : Part) (w : U32) : (State.pairWrite s f w).saf = s.saf := by
  simp [State.pairWrite]

@[simp] theorem State.draw_saf (s : State) (n : Nat) : (s.draw n).2.saf = s.saf := by simp [State.draw]

@[simp] theorem State.dropBlobs_saf (s : State) (a : Nat) (n : Nat) : (State.dropBlobs s a n).saf = s.saf := by
  simp [State.dropBlobs]

@[simp] theorem State.failLoad_saf (s : State) (f : Nat) (q : Nat) (pos : Nat) (status : Nat) (detail : Nat) (c : Cmd) (payload : Nat) :
    (State.failLoad s f q pos status detail c payload).saf = s.saf := by
  simp [State.failLoad]

@[simp] theorem State.openPackage_saf (s : State) (f : Nat) (q : Nat) (c : Cmd) (b : Bytes) (key : Bytes) (ep : Bool) :
    (State.openPackage s f q c b key ep).saf = s.saf := by
  unfold State.openPackage; simp only []; split
  · simp
  · split
    · simp
    · split <;> simp

@[simp] theorem State.newMemoryKey_saf (s : State) : (State.newMemoryKey s).saf = s.saf := by
  simp [State.newMemoryKey]

@[simp] theorem State.tagChanged_saf (s : State) : (State.tagChanged s).saf = s.saf := by
  simp [State.tagChanged]

@[simp] theorem State.setSpdm_saf (s : State) (p : SpdmPort) (x : Spdm) : (State.setSpdm s p x).saf = s.saf := by
  unfold State.setSpdm; (repeat' split) <;> simp [*]

@[simp] theorem State.endConsent_saf (s : State) : (State.endConsent s).saf = s.saf := by
  unfold State.endConsent; (repeat' split) <;> simp [*]

@[simp] theorem State.clearRsq_saf (s : State) (off : Nat) : (State.clearRsq s off).saf = s.saf := by
  simp [State.clearRsq]

@[simp] theorem State.clearCin_saf (s : State) (off : Nat) : (State.clearCin s off).saf = s.saf := by
  simp [State.clearCin]

@[simp] theorem State.clearIsp_saf (s : State) (off : Nat) : (State.clearIsp s off).saf = s.saf := by
  simp [State.clearIsp]

@[simp] theorem State.clearStage_saf (s : State) (i : Nat) (r : Nat) : (State.clearStage s i r).saf = s.saf := by
  simp [State.clearStage]

@[simp] theorem State.clearMash_saf (s : State) (off : Nat) : (State.clearMash s off).saf = s.saf := by
  simp [State.clearMash]

@[simp] theorem State.clearNec_saf (s : State) (off : Nat) : (State.clearNec s off).saf = s.saf := by
  simp [State.clearNec]

@[simp] theorem State.clearMem_saf (s : State) (off : Nat) : (State.clearMem s off).saf = s.saf := by
  simp [State.clearMem]

@[simp] theorem State.clearLnk_saf (s : State) (off : Nat) : (State.clearLnk s off).saf = s.saf := by
  simp [State.clearLnk]

@[simp] theorem State.clearTmg_saf (s : State) (off : Nat) : (State.clearTmg s off).saf = s.saf := by
  simp [State.clearTmg]

@[simp] theorem State.clearMgt_saf (s : State) (off : Nat) : (State.clearMgt s off).saf = s.saf := by
  simp [State.clearMgt]

@[simp] theorem State.clearLog_saf (s : State) (off : Nat) : (State.clearLog s off).saf = s.saf := by
  simp [State.clearLog]

@[simp] theorem State.debugServe_saf (s : State) (op : DebugOp) : (State.debugServe s op).saf = s.saf := by
  unfold State.debugServe; (repeat' split) <;> simp [*]

@[simp] theorem State.memCorrected_saf (s : State) (a : Nat) : (State.memCorrected s a).saf = s.saf := by
  simp [State.memCorrected]

@[simp] theorem State.memUncorrectable_saf (s : State) (a : Nat) : (State.memUncorrectable s a).saf = s.saf := by
  simp [State.memUncorrectable]

@[simp] theorem State.countFind_saf (s : State) (a : Nat) (e : EccFind) : (s.countFind a e).saf = s.saf := by
  cases e <;> simp [State.countFind]

@[simp] theorem State.pairFill_saf (s : State) (a : Nat) : (State.pairFill s a).saf = s.saf := by
  simp [State.pairFill]

@[simp] theorem State.keepSeq_saf (s : State) (l : Log) : (State.keepSeq s l).saf = s.saf := by
  simp [State.keepSeq]

@[simp] theorem State.appendNext_saf (s : State) : (State.appendNext s).saf = s.saf := by
  unfold State.appendNext; (repeat' split) <;> simp [*]

@[simp] theorem State.norCopy_saf (s : State) (ok : Bool) : (State.norCopy s ok).saf = s.saf := by
  unfold State.norCopy; (repeat' split) <;> simp [*]

@[simp] theorem State.appendMany_saf (s : State) (n : Nat) : (State.appendMany s n).saf = s.saf := by
  induction n generalizing s with
  | zero => rfl
  | succ n ih => unfold State.appendMany; simp [ih]

@[simp] theorem State.copyMany_saf (s : State) (n : Nat) : (State.copyMany s n).saf = s.saf := by
  induction n generalizing s with
  | zero => rfl
  | succ n ih => unfold State.copyMany; simp [ih]

@[simp] theorem State.endInterval_saf (s : State) : (State.endInterval s).saf = s.saf := by
  simp [State.endInterval]

@[simp] theorem State.patrolUe_saf (s : State) (block : Nat) (a : Nat) (intervened : Bool) :
    (State.patrolUe s block a intervened).saf = s.saf := by
  simp [State.patrolUe]

@[simp] theorem State.patrolBlock_saf (s : State) (block : Nat) (errs : List Bytes) (intervened : Bool) :
    (State.patrolBlock s block errs intervened).saf = s.saf := by
  refine foldl_saf _ (fun s x => ?_) _ _
  dsimp only
  split
  · rfl
  · split <;> simp

@[simp] theorem State.defer_saf (s : State) (activity : Nat) : (State.defer s activity).saf = s.saf := by
  simp [State.defer]

@[simp] theorem State.setBg_saf (s : State) (f : Part) (w : U32) : (State.setBg s f w).saf = s.saf := by
  simp [State.setBg]

@[simp] theorem State.askSource_saf (s : State) (part : Nat) (board : Nat) (a : Nat) (n : Nat) (cmd : Option (Nat × Nat × Nat)) :
    (State.askSource s part board a n cmd).saf = s.saf := by
  simp [State.askSource, foldl_saf]

@[simp] theorem State.sendOwn_saf (s : State) (f : Nat) (q : Nat) (c : Cmd) : (State.sendOwn s f q c).saf = s.saf := by
  unfold State.sendOwn; simp only []; (repeat' split) <;> simp_all

@[simp] theorem State.startApply_saf (s : State) (f : Nat) (q : Nat) (c : Cmd) (point : ApplyPoint) :
    (State.startApply s f q c point).saf = s.saf := by
  unfold State.startApply; simp only []; (repeat' split) <;> simp_all

@[simp] theorem State.readmit_saf (s : State) (b : Nat) : (State.readmit s b).saf = s.saf := by
  simp [State.readmit]

@[simp] theorem State.returned_saf (s : State) (b : Nat) (tag : Bytes) : (State.returned s b tag).saf = s.saf := by
  simp [State.returned]

@[simp] theorem State.dropHomed_saf (s : State) (b : Nat) : (State.dropHomed s b).saf = s.saf := by
  simp [State.dropHomed, foldl_saf]

@[simp] theorem State.dropHolder_saf (s : State) (b : Nat) : (State.dropHolder s b).saf = s.saf := by
  simp [State.dropHolder, foldl_saf]

@[simp] theorem State.oweCredits_saf (s : State) (p : Nat) (m : Msg) (len : Nat) : (State.oweCredits s p m len).saf = s.saf := by
  simp [State.oweCredits]

@[simp] theorem State.relay_saf (s : State) (p n : Nat) (b : Bytes) : (State.relay p n s b).1.saf = s.saf := by
  induction n generalizing s b with
  | zero => rfl
  | succ n ih => unfold State.relay; simp only []; (repeat' split) <;> simp [ih]

@[simp] theorem State.replay_saf (s : State) (p : Nat) : (State.replay s p).saf = s.saf := by
  simp [State.replay]

@[simp] theorem State.restartMessage_saf (s : State) (dest : Nat) (f : Nat) (q : Nat) (c : Cmd) :
    (State.restartMessage s dest f q c).saf = s.saf := by
  simp [State.restartMessage]

@[simp] theorem State.markFrame_saf (s : State) (own : Nat × Nat × Nat) (poisoned : Bool) (lost : Bool) :
    (State.markFrame s own poisoned lost).saf = s.saf := by
  simp [State.markFrame]

@[simp] theorem State.markOwner_saf (s : State) (c : Nat) (own : Nat × Nat × Nat) (b : Bool) :
    (State.markOwner s c own b).saf = s.saf := by
  simp [State.markOwner]

@[simp] theorem State.askPiece_saf (s : State) (c : Nat) (x : Xfer) (a n : Nat) : (s.askPiece c x a n).1.saf = s.saf := by
  unfold State.askPiece; simp only []; split <;> simp [foldl_saf]

@[simp] theorem State.pieceRead_saf (s : State) (c : Nat) (x : Xfer) (host : Bool) (a : Nat) (n : Nat) (bad : List Nat) :
    (State.pieceRead s c x host a n bad).saf = s.saf := by
  simp [State.pieceRead, foldl_saf]

@[simp] theorem State.storePiece_saf (s : State) (part : Nat) (host : Bool) (a : Nat) (bs : Bytes) (bad : List Nat) (cmd : Option (Nat × Nat × Nat)) :
    (State.storePiece s part host a bs bad cmd).saf = s.saf := by
  simp [State.storePiece, foldl_saf]

@[simp] theorem State.moveRows_saf (s : State) (c : Nat) (h : HostRead) (a n : Nat) (x : Xfer) : (State.moveRows s c h a n x).1.saf = s.saf := by
  induction n generalizing s x with
  | zero => rfl
  | succ n ih => unfold State.moveRows; simp only []; (repeat' split) <;> simp [ih]

@[simp] theorem State.moveCask_saf (s : State) (c : Nat) (h : HostRead) (a n : Nat) (x : Xfer) : (State.moveCask s c h a n x).1.saf = s.saf := by
  induction n generalizing s x with
  | zero => rfl
  | succ n ih => unfold State.moveCask; simp only []; (repeat' split) <;> simp [ih]

@[simp] theorem State.moveXfer_saf (s : State) (c : Nat) (h : HostRead) (n : Nat) (x : Xfer) : (s.moveXfer c h n x).1.saf = s.saf := by
  unfold State.moveXfer; split <;> simp

@[simp] theorem State.publishTask_saf (s : State) (c : Nat) (t : Task) (desc : Bytes) :
    (State.publishTask s c t desc).saf = s.saf := by
  unfold State.publishTask; (repeat' split) <;> simp [*]

@[simp] theorem State.releaseStall_saf (s : State) (c : Nat) : (State.releaseStall s c).saf = s.saf := by
  unfold State.releaseStall; simp only []; (repeat' split) <;> simp_all

@[simp] theorem State.endCwait_saf (s : State) (c : Nat) (p : Bool) : (State.endCwait s c p).saf = s.saf := by
  simp [State.endCwait]

@[simp] theorem State.doCrd_saf (s : State) (c : Nat) (v : Nat) (idx : Nat) (off : Nat) (k : CaskCfg) :
    (State.doCrd s c v idx off k).saf = s.saf := by
  simp [State.doCrd]

@[simp] theorem State.doCpush_saf (s : State) (c : Nat) (v : Nat) (idx : Nat) (k : CaskCfg) :
    (State.doCpush s c v idx k).saf = s.saf := by
  simp [State.doCpush]

@[simp] theorem State.halt_saf (s : State) (f : Nat) (q : Nat) (error : Nat) : (State.halt s f q error).saf = s.saf := by
  simp [State.halt]

@[simp] theorem State.raise_saf (s : State) (f : Nat) (q : Nat) : (State.raise s f q).saf = s.saf := by
  simp [State.raise]

@[simp] theorem State.postEntry_saf (s : State) (f : Nat) (q : Nat) (seq : Nat) (status : Nat) (detail : Nat) (source : Nat) :
    (State.postEntry s f q seq status detail source).saf = s.saf := by
  simp [State.postEntry]

@[simp] theorem State.settle_saf (s : State) (f : Nat) (q : Nat) : (State.settle s f q).saf = s.saf := by
  simp [State.settle]

@[simp] theorem State.postAborted_saf (s : State) (f : Nat) (q : Nat) (status : Nat) (a : Aborted) :
    (State.postAborted s f q status a).saf = s.saf := by
  simp [State.postAborted]

@[simp] theorem State.postAborts_saf (s : State) (f q n : Nat) : (State.postAborts s f q n).saf = s.saf := by
  induction n generalizing s with
  | zero => rfl
  | succ n ih => unfold State.postAborts; simp only []; (repeat' split) <;> simp [ih]

@[simp] theorem State.ringTail_saf (s : State) (f : Part) (q : Fin 64) (idx : BitVec 16) :
    (State.ringTail s f q idx).saf = s.saf := by
  simp [State.ringTail]

@[simp] theorem State.ringHead_saf (s : State) (f : Part) (q : Fin 64) (idx : BitVec 16) :
    (State.ringHead s f q idx).saf = s.saf := by
  simp [State.ringHead]

@[simp] theorem State.takeDescriptor_saf (s : State) (f : Nat) (q : Nat) (d : Bytes) :
    (State.takeDescriptor s f q d).saf = s.saf := by
  unfold State.takeDescriptor; simp only []; (repeat' split) <;> simp_all

@[simp] theorem State.settleLoad_saf (s : State) (f : Nat) (q : Nat) (pos : Nat) (ok : Bool) :
    (State.settleLoad s f q pos ok).saf = s.saf := by
  simp [State.settleLoad]

@[simp] theorem State.turnOn_saf (s : State) (f : Part) (q : Fin 64) (w : U32) : (State.turnOn s f q w).saf = s.saf := by
  simp [State.turnOn]

@[simp] theorem State.turnOff_saf (s : State) (f : Part) (q : Fin 64) (w : U32) : (State.turnOff s f q w).saf = s.saf := by
  simp [State.turnOff]

@[simp] theorem State.setMode_saf (s : State) (m : Nat) : (State.setMode s m).saf = s.saf := by
  simp [State.setMode]

@[simp] theorem State.closeLoop_saf (s : State) : (State.closeLoop s).saf = s.saf := by
  simp [State.closeLoop]

@[simp] theorem State.askClosed_saf (s : State) (f : Part) (w : U32) : (State.askClosed s f w).saf = s.saf := by
  simp [State.askClosed]

@[simp] theorem State.askHold_saf (s : State) (f : Part) (w : U32) : (State.askHold s f w).saf = s.saf := by
  simp [State.askHold]

@[simp] theorem State.askSoftware_saf (s : State) (f : Part) (w : U32) : (State.askSoftware s f w).saf = s.saf := by
  simp [State.askSoftware]

@[simp] theorem State.setDco_saf (s : State) (f : Part) (upper : U32) : (State.setDco s f upper).saf = s.saf := by
  simp [State.setDco]

@[simp] theorem State.setTod_saf (s : State) (f : Part) (upper : U32) : (State.setTod s f upper).saf = s.saf := by
  simp [State.setTod]

@[simp] theorem State.askStep_saf (s : State) (f : Part) (upper : U32) : (State.askStep s f upper).saf = s.saf := by
  simp [State.askStep]

@[simp] theorem State.askRealign_saf (s : State) (f : Part) (output : Fin 9) (w : U32) :
    (State.askRealign s f output w).saf = s.saf := by
  simp [State.askRealign]

@[simp] theorem State.realignStep_saf (s : State) (o : Nat) : (State.realignStep s o).saf = s.saf := by
  unfold State.realignStep; (repeat' split) <;> simp [*]

@[simp] theorem State.takeRequest_saf (s : State) (request : Nat) : (State.takeRequest s request).saf = s.saf := by
  simp [State.takeRequest]

@[simp] theorem State.askClaim_saf (s : State) (f : Part) (w : U32) : (State.askClaim s f w).saf = s.saf := by
  simp [State.askClaim]

@[simp] theorem State.askRotate_saf (s : State) (f : Part) (w : U32) : (State.askRotate s f w).saf = s.saf := by
  simp [State.askRotate]

@[simp] theorem State.installTenant_saf (s : State) (key : Bytes) (base : Nat) :
    (State.installTenant s key base).saf = s.saf := by
  simp [State.installTenant]

@[simp] theorem State.spdmAnswer_saf (s : State) (p : SpdmPort) (ok : Bool) (data : Bytes) (g : Spdm → Spdm) :
    (State.spdmAnswer s p ok data g).saf = s.saf := by
  simp [State.spdmAnswer]

@[simp] theorem State.pokeQueue_saf (s : State) (f : Part) (q : Fin 64) (r : Nat) (w : U32) :
    (State.pokeQueue s f q r w).saf = s.saf := by
  simp [State.pokeQueue]

@[simp] theorem State.pokeFn_saf (s : State) (f : Part) (off : Nat) (w : U32) : (State.pokeFn s f off w).saf = s.saf := by
  simp [State.pokeFn]

@[simp] theorem State.pokeBar2_saf (s : State) (f : Part) (off : Nat) (w : U32) : (State.pokeBar2 s f off w).saf = s.saf := by
  simp [State.pokeBar2]

@[simp] theorem State.pokeCin_saf (s : State) (off : Nat) (w : U32) : (State.pokeCin s off w).saf = s.saf := by
  simp [State.pokeCin]

@[simp] theorem State.setQl_saf (s : State) (i : Nat) (ql : Nat) : (State.setQl s i ql).saf = s.saf := by
  simp [State.setQl]

theorem iteEq_saf {c : Prop} [Decidable c] {s a b : State} (h1 : a.saf = s.saf) (h2 : b.saf = s.saf) :
    (if c then a else b).saf = s.saf := by
  split <;> assumption

@[simp] theorem State.pokeTmg_saf (s : State) (off : Nat) (w : U32) : (State.pokeTmg s off w).saf = s.saf := by
  refine iteEq_saf ?_ (iteEq_saf ?_ (iteEq_saf ?_ (iteEq_saf ?_ (iteEq_saf ?_ (iteEq_saf ?_ (iteEq_saf ?_ (iteEq_saf ?_ (iteEq_saf ?_
    (iteEq_saf ?_ (iteEq_saf ?_ ?_))))))))))
  · split <;> simp
  · exact iteEq_saf rfl rfl
  · simp
  · rfl
  · simp
  · rfl
  · simp
  · rfl
  · rfl
  · exact iteEq_saf (by simp) rfl
  · exact iteEq_saf (by simp) rfl
  · rfl

@[simp] theorem State.pokeSec_saf (s : State) (off : Nat) (w : U32) : (State.pokeSec s off w).saf = s.saf := by
  unfold State.pokeSec; (repeat' split) <;> simp [*]

@[simp] theorem State.pokeRange_saf (s : State) (off : Nat) (w : U32) : (State.pokeRange s off w).saf = s.saf := by
  simp [State.pokeRange]

@[simp] theorem State.pokeFw_saf (s : State) (w : U32) : (State.pokeFw s w).saf = s.saf := by
  unfold State.pokeFw; (repeat' split) <;> simp [*]

@[simp] theorem State.pokeMgt_saf (s : State) (off : Nat) (w : U32) : (State.pokeMgt s off w).saf = s.saf := by
  simp [State.pokeMgt]

@[simp] theorem State.pokeRec_saf (s : State) (off : Nat) (w : U32) : (State.pokeRec s off w).saf = s.saf := by
  unfold State.pokeRec; (repeat' split) <;> simp [*]

@[simp] theorem State.pokePwr_saf (s : State) (off : Nat) (w : U32) : (State.pokePwr s off w).saf = s.saf := by
  simp [State.pokePwr]

@[simp] theorem State.freeStage_saf (s : State) (r : Nat) (id : Nat) (m : NodeRun) : (State.freeStage s r id m).saf = s.saf := by
  unfold State.freeStage
  dsimp only
  split
  · split
    · rw [State.mapFrame_saf]
    · rfl
  · rfl

@[simp] theorem State.haltEngine_saf (s : State) (e : Nat) : (State.haltEngine s e).saf = s.saf := by
  simp [State.haltEngine]

@[simp] theorem State.beginGather_saf (s : State) (f : Nat) (q : Nat) (c : Cmd) (b : Bytes) (ep : Bool) (scalar : Nat) (own : Nat) (share : Bytes) :
    (State.beginGather s f q c b ep scalar own share).saf = s.saf := by
  simp [State.beginGather]

@[simp] theorem State.poisonBlob_saf (s : State) (i : Nat) (b : Blob) : (State.poisonBlob s i b).saf = s.saf := by
  simp [State.poisonBlob]

@[simp] theorem State.abortFrameApplies_saf (s : State) : (State.abortFrameApplies s).saf = s.saf := by
  unfold State.abortFrameApplies
  refine foldl_saf _ (fun s x => ?_) _ _
  split
  · split <;> simp
  · rfl

@[simp] theorem State.abortQueue_saf (s : State) (f : Nat) (q : Nat) : (State.abortQueue s f q).saf = s.saf := by
  simp [State.abortQueue, foldl_saf]

@[simp] theorem State.removeVfs_saf (s : State) : (State.removeVfs s).saf = s.saf := by
  simp [State.removeVfs]

@[simp] theorem State.destroyKeys_saf (s : State) : (State.destroyKeys s).saf = s.saf := by
  simp [State.destroyKeys]

@[simp] theorem State.renewPorts_saf (s : State) : (State.renewPorts s).saf = s.saf := by
  simp [State.renewPorts, foldl_saf]

@[simp] theorem State.scrub_saf (s : State) : (State.scrub s).saf = s.saf := by
  simp [State.scrub]

end Sys2Proof.Machine
end

