-- ==== Sys2Proof/Laws/FrameSec.lean ====
section
/-! SUPPORT. The operations that leave trust alone: one lemma for each, which says so (`.sec` is the field of State that holds it). -/

namespace Sys2Proof.Machine

set_option linter.all false

@[simp] theorem ite_sec (c : Prop) [Decidable c] (a b : State) : (if c then a else b).sec = if c then a.sec else b.sec := by
  split <;> rfl

theorem foldl_sec {α : Type} (f : State → α → State) (h : ∀ s x, (f s x).sec = s.sec) (l : List α) (s : State) :
    (l.foldl f s).sec = s.sec := by
  induction l generalizing s with
  | nil => rfl
  | cons a t ih => rw [List.foldl_cons, ih, h]

theorem foldlPair_sec {α β : Type} (f : State × β → α → State × β) (h : ∀ a x, (f a x).1.sec = a.1.sec) (l : List α)
    (a : State × β) : (l.foldl f a).1.sec = a.1.sec := by
  induction l generalizing a with
  | nil => rfl
  | cons x t ih => rw [List.foldl_cons, ih, h]

@[simp] theorem State.sendEvents_sec (s : State) : (State.sendEvents s).sec = s.sec := by
  simp [State.sendEvents]

@[simp] theorem State.event_sec (s : State) (f : Nat) (c : Nat) (source : Nat) : (State.event s f c source).sec = s.sec := by
  unfold State.event; (repeat' split) <;> simp [*]

@[simp] theorem State.eventAll_sec (s : State) (c : Nat) (source : Nat) : (State.eventAll s c source).sec = s.sec := by
  simp [State.eventAll, foldl_sec]

@[simp] theorem State.memWrite_sec (s : State) (a : Nat) (bs : Bytes) (poison : Bool) :
    (State.memWrite s a bs poison).sec = s.sec := by
  simp [State.memWrite]

@[simp] theorem State.memWriteMixed_sec (s : State) (a : Nat) (bs : Bytes) (pz : Nat → Bool) :
    (State.memWriteMixed s a bs pz).sec = s.sec := by
  simp [State.memWriteMixed, foldl_sec]

@[simp] theorem State.fix_sec (s : State) (f : Nat) (q : Nat) (pos : Nat) (status : Nat) (detail : Nat) (source : Nat) :
    (State.fix s f q pos status detail source).sec = s.sec := by
  unfold State.fix; simp only []; (repeat' split) <;> simp_all

@[simp] theorem State.refuse_sec (s : State) (f : Nat) (q : Nat) (pos : Nat) (detail : Nat) :
    (State.refuse s f q pos detail).sec = s.sec := by
  simp [State.refuse]

@[simp] theorem State.setCmd_sec (s : State) (f : Nat) (q : Nat) (pos : Nat) (g : Cmd → Cmd) :
    (State.setCmd s f q pos g).sec = s.sec := by
  simp [State.setCmd]

@[simp] theorem State.underWay_sec (s : State) (f : Nat) (q : Nat) (pos : Nat) (status : Nat) (detail : Nat) (source : Nat) :
    (State.underWay s f q pos status detail source).sec = s.sec := by
  simp [State.underWay]

@[simp] theorem State.driveSafeOff_sec (s : State) (on : Bool) : (State.driveSafeOff s on).sec = s.sec := by
  simp [State.driveSafeOff]

@[simp] theorem State.sendCan_sec (s : State) (ident : Nat) (typ : Nat) (alive : BitVec 8) :
    (State.sendCan s ident typ alive).sec = s.sec := by
  simp [State.sendCan]

@[simp] theorem State.setSaf_sec (s : State) (st : SafSt) : (State.setSaf s st).sec = s.sec := by
  simp [State.setSaf]

@[simp] theorem State.enterSafe_sec (s : State) (cause : Nat) (gtc : Nat) (source : Nat) (hw : Bool) :
    (State.enterSafe s cause gtc source hw).sec = s.sec := by
  simp [State.enterSafe]

@[simp] theorem State.latchCause_sec (s : State) (cause : Nat) (source : Nat) :
    (State.latchCause s cause source).sec = s.sec := by
  simp [State.latchCause]

@[simp] theorem State.undefine_sec (s : State) (f : Nat) (addr : Nat) (n : Nat) : (State.undefine s f addr n).sec = s.sec := by
  unfold State.undefine; (repeat' split) <;> simp [*]

@[simp] theorem State.reroute_sec (s : State) : (State.reroute s).sec = s.sec := by
  simp [State.reroute, foldl_sec]

@[simp] theorem State.sendFlit_sec (s : State) (p : Nat) (idle : Bool) (payload : Bytes) :
    (State.sendFlit s p idle payload).sec = s.sec := by
  simp [State.sendFlit]

@[simp] theorem State.pump_sec (s : State) (p : Nat) (l : List Bytes) : (State.pump s p l).sec = s.sec := by
  induction l generalizing s with
  | nil => simp [State.pump]
  | cons b t ih => unfold State.pump; split <;> simp [ih]

@[simp] theorem State.sendIdle_sec (s : State) (p : Nat) : (State.sendIdle s p).sec = s.sec := by
  simp [State.sendIdle]

@[simp] theorem State.nak_sec (s : State) (p : Nat) : (State.nak s p).sec = s.sec := by
  simp [State.nak]

@[simp] theorem State.portSend_sec (s : State) (p : Nat) (lane : Nat) (m : Msg) : (State.portSend s p lane m).sec = s.sec := by
  simp [State.portSend]

@[simp] theorem State.strand_sec (s : State) (m : Msg) : (State.strand s m).sec = s.sec := by
  simp [State.strand]

@[simp] theorem State.forward_sec (s : State) (m : Msg) : (State.forward s m).sec = s.sec := by
  unfold State.forward; (repeat' split) <;> simp [*]

@[simp] theorem State.sendMsg_sec (s : State) (m : Msg) : (State.sendMsg s m).sec = s.sec := by
  simp [State.sendMsg]

@[simp] theorem State.flushStuck_sec (s : State) : (State.flushStuck s).sec = s.sec := by
  simp [State.flushStuck, foldl_sec]

@[simp] theorem State.advertise_sec (s : State) : (State.advertise s).sec = s.sec := by
  simp [State.advertise]

@[simp] theorem State.tellLinks_sec (s : State) : (State.tellLinks s).sec = s.sec := by
  simp [State.tellLinks]

@[simp] theorem State.linksChanged_sec (s : State) : (State.linksChanged s).sec = s.sec := by
  simp [State.linksChanged]

@[simp] theorem State.sendRequest_sec (s : State) (m : Msg) (cmd : Option (Nat × Nat × Nat)) :
    (State.sendRequest s m cmd).sec = s.sec := by
  simp [State.sendRequest]

@[simp] theorem State.request_sec (s : State) (m : Msg) (cmd : Option (Nat × Nat × Nat)) :
    (State.request s m cmd).sec = s.sec := by
  simp [State.request]

@[simp] theorem State.issueWaiting_sec (s : State) (d n : Nat) : (State.issueWaiting s d n).sec = s.sec := by
  induction n generalizing s with
  | zero => rfl
  | succ n ih => unfold State.issueWaiting; (repeat' split) <;> simp [ih]

@[simp] theorem State.answered_sec (s : State) (src : Nat) (reqId : Nat) : (State.answered s src reqId).sec = s.sec := by
  simp [State.answered]

@[simp] theorem State.markRun_sec (s : State) (r : Nat) (id : Nat) (poisoned : Bool) (lost : Bool) :
    (State.markRun s r id poisoned lost).sec = s.sec := by
  simp [State.markRun]

@[simp] theorem State.markCmd_sec (s : State) (cmd : Option (Nat × Nat × Nat)) (poisoned : Bool) (lost : Bool) :
    (State.markCmd s cmd poisoned lost).sec = s.sec := by
  unfold State.markCmd; (repeat' split) <;> simp [*]

@[simp] theorem State.poisonRead_sec (s : State) (part : Nat) (a : Nat) (source : Nat) :
    (State.poisonRead s part a source).sec = s.sec := by
  simp [State.poisonRead]

@[simp] theorem State.deliverTo_sec (s : State) (part : Nat) (a : Nat) (source : Nat) (data : Bytes) (poison : Bool) :
    (State.deliverTo s part a source data poison).sec = s.sec := by
  simp [State.deliverTo]

@[simp] theorem State.remoteWrite_sec (s : State) (board : Nat) (part : Nat) (a : Nat) (bs : Bytes) (poison : Bool) (cmd : Option (Nat × Nat × Nat)) :
    (State.remoteWrite s board part a bs poison cmd).sec = s.sec := by
  simp [State.remoteWrite, foldl_sec]

@[simp] theorem State.answer_sec (s : State) (m : Msg) : (State.answer s m).sec = s.sec := by
  simp [State.answer]

@[simp] theorem State.answerLine_sec (s : State) (typ : Nat) (r : HomeReq) : (State.answerLine s typ r).sec = s.sec := by
  simp [State.answerLine]

@[simp] theorem State.answerBare_sec (s : State) (typ : Nat) (dest : Nat) (reqId : Nat) (part : Nat) (addr : Nat) :
    (State.answerBare s typ dest reqId part addr).sec = s.sec := by
  simp [State.answerBare]

@[simp] theorem State.snoop_sec (s : State) (typ : Nat) (req : HomeReq) (boards : List Nat) :
    (State.snoop s typ req boards).sec = s.sec := by
  simp [State.snoop, foldl_sec]

@[simp] theorem State.mergeLine_sec (s : State) (r : HomeReq) (poison : Bool) : (State.mergeLine s r poison).sec = s.sec := by
  simp [State.mergeLine, foldl_sec]

@[simp] theorem State.finishReq_sec (s : State) (r : HomeReq) (was : Option DirEnt) (gone : List Nat) :
    (State.finishReq s r was gone).sec = s.sec := by
  unfold State.finishReq; (repeat' split) <;> simp [*]

@[simp] theorem State.beginReq_sec (s : State) (r : HomeReq) : (State.beginReq s r).sec = s.sec := by
  unfold State.beginReq; simp only []; (repeat' split) <;> simp_all

@[simp] theorem State.startReq_sec (s : State) (r : HomeReq) : (State.startReq s r).sec = s.sec := by
  unfold State.startReq; (repeat' split) <;> simp [*]

@[simp] theorem State.drainQueue_sec (s : State) : (State.drainQueue s).sec = s.sec := by
  simp [State.drainQueue, foldl_sec]

@[simp] theorem State.settleLeaving_sec (s : State) : (State.settleLeaving s).sec = s.sec := by
  simp [State.settleLeaving]

@[simp] theorem State.snoopAnswer_sec (s : State) (board : Nat) (a : Nat) (inFlight : Bool) :
    (State.snoopAnswer s board a inFlight).sec = s.sec := by
  unfold State.snoopAnswer; (repeat' split) <;> simp [*]

@[simp] theorem State.pruneKept_sec (s : State) (h : FabHdr) : (State.pruneKept s h).sec = s.sec := by
  simp [State.pruneKept]

@[simp] theorem State.resendKept_sec (s : State) (k : Kept) : (State.resendKept s k).sec = s.sec := by
  simp [State.resendKept]

@[simp] theorem State.homeRequest_sec (s : State) (typ : ReqType) (h : FabHdr) (mask : List Bool) (data : Bytes) (poison : Bool) :
    (State.homeRequest s typ h mask data poison).sec = s.sec := by
  unfold State.homeRequest; simp only []; (repeat' split) <;> simp_all

@[simp] theorem State.withdraw_sec (s : State) (r : Bytes) : (State.withdraw s r).sec = s.sec := by
  simp [State.withdraw, foldl_sec]

@[simp] theorem State.recall_sec (s : State) (part : Nat) (lines : List Nat) : (State.recall s part lines).sec = s.sec := by
  simp [State.recall, foldl_sec]

@[simp] theorem State.putPart_sec (s : State) (part : Nat) (a : Nat) (bs : Bytes) (poison : Bool) :
    (State.putPart s part a bs poison).sec = s.sec := by
  simp [State.putPart]

@[simp] theorem State.put_sec (s : State) (part : Nat) (a : Nat) (bs : Bytes) (poison : Bool) :
    (State.put s part a bs poison).sec = s.sec := by
  simp [State.put, foldl_sec]

@[simp] theorem State.putMixed_sec (s : State) (part : Nat) (a : Nat) (bs : Bytes) (pz : Nat → Bool) :
    (State.putMixed s part a bs pz).sec = s.sec := by
  simp [State.putMixed, foldl_sec]

@[simp] theorem State.takeOver_sec (s : State) : (State.takeOver s).sec = s.sec := by
  simp [State.takeOver, foldl_sec]

@[simp] theorem State.evict_sec (s : State) (l : RLine) : (State.evict s l).sec = s.sec := by
  simp [State.evict]

theorem State.cellarAlloc_sec (s : State) (x : Bytes) (a : Nat) (d : Bool) (t : State) (h : s.cellarAlloc x a d = some t) :
    t.sec = s.sec := by
  unfold State.cellarAlloc at h
  simp only [] at h
  (repeat' split at h) <;> (try cases h) <;> simp

@[simp] theorem State.cellarAllocD_sec (s : State) (x : Bytes) (a : Nat) (d : Bool) : ((s.cellarAlloc x a d).getD s).sec = s.sec := by
  cases h : s.cellarAlloc x a d with
  | none => rfl
  | some t => exact State.cellarAlloc_sec _ _ _ _ _ h

@[simp] theorem State.deliver_sec (s : State) (r : CellarReq) (data : Bytes) (poison : Bool) :
    (State.deliver s r data poison).sec = s.sec := by
  simp [State.deliver]

@[simp] theorem State.remoteAccess_sec (s : State) (r : CellarReq) : (State.remoteAccess s r).sec = s.sec := by
  unfold State.remoteAccess
  simp only []
  split
  · (repeat' split) <;> simp
  · split
    · rename_i t h
      have ht : t.sec = s.sec := by
        split at h
        · split at h
          · have := State.cellarAlloc_sec _ _ _ _ _ h
            simp at this
            exact this
          · cases h
        · cases h
      simp [ht]
    · split <;> simp

@[simp] theorem State.serveWaiters_sec (s : State) (l : List CellarReq) : (State.serveWaiters s l).sec = s.sec := by
  simp [State.serveWaiters, foldl_sec]

@[simp] theorem State.installLine_sec (s : State) (a : Nat) (st : CohSt) (data : Option (Bytes × Bool)) :
    (State.installLine s a st data).sec = s.sec := by
  unfold State.installLine; (repeat' split) <;> simp [*]

@[simp] theorem State.refetch_sec (s : State) (l : RLine) : (State.refetch s l).sec = s.sec := by
  simp [State.refetch]

@[simp] theorem State.maskedWrite_sec (s : State) (r : CellarReq) : (State.maskedWrite s r).sec = s.sec := by
  simp [State.maskedWrite]

@[simp] theorem State.cellarCount_sec (s : State) (r : CellarReq) : (State.cellarCount s r).sec = s.sec := by
  unfold State.cellarCount
  simp only []
  (repeat' split) <;> simp

@[simp] theorem State.localAccess_sec (s : State) (r : CellarReq) : (State.localAccess s r).sec = s.sec := by
  simp [State.localAccess]

@[simp] theorem State.poisonLine_sec (s : State) (a : Nat) : (State.poisonLine s a).sec = s.sec := by
  simp [State.poisonLine]

@[simp] theorem State.takeSource_sec (s : State) (cmd : Option (Nat × Nat × Nat)) (c : Cmd) (f : Nat) (q : Nat) (a : Nat) (data : Bytes) (poison : Bool) :
    (State.takeSource s cmd c f q a data poison).sec = s.sec := by
  unfold State.takeSource; simp only []; (repeat' split) <;> simp_all

@[simp] theorem State.takeCoreLine_sec (s : State) (c : Nat) (part : Nat) (a : Nat) (data : Bytes) (poison : Bool) :
    (State.takeCoreLine s c part a data poison).sec = s.sec := by
  simp [State.takeCoreLine]

@[simp] theorem State.takeNokeep_sec (s : State) (u : Unans) (a : Nat) (data : Bytes) (poison : Bool) :
    (State.takeNokeep s u a data poison).sec = s.sec := by
  unfold State.takeNokeep; (repeat' split) <;> simp [*]

@[simp] theorem State.failLine_sec (s : State) (a : Nat) : (State.failLine s a).sec = s.sec := by
  unfold State.failLine; (repeat' split) <;> simp [*, foldl_sec]

@[simp] theorem State.failRequest_sec (s : State) (u : Unans) : (State.failRequest s u).sec = s.sec := by
  unfold State.failRequest; (repeat' split) <;> simp [*]

@[simp] theorem State.failMsg_sec (s : State) (u : Unans) : (State.failMsg s u).sec = s.sec := by
  simp [State.failMsg]

@[simp] theorem State.useDma_sec (s : State) (j : Job) : (State.useDma s j).sec = s.sec := by
  simp [State.useDma]

@[simp] theorem State.useSealing_sec (s : State) (j : Job) : (State.useSealing s j).sec = s.sec := by
  simp [State.useSealing]

@[simp] theorem State.useMessage_sec (s : State) (n : Nat) (j : Job) : (State.useMessage s n j).sec = s.sec := by
  simp [State.useMessage]

theorem poisonReads_sec (p src : Nat) (g : State → Nat → Nat) (l : List Nat) (s : State) :
    (l.foldl (fun s i => s.poisonRead p (g s i) src) s).sec = s.sec :=
  foldl_sec _ (fun s x => State.poisonRead_sec s p (g s x) src) l s

@[simp] theorem State.readLocal_sec (s : State) (f : Nat) (a : Nat) (n : Nat) : (State.readLocal s f a n).sec = s.sec := by
  exact poisonReads_sec f (srcPart f) (fun s l => s.struct.boardId * 2 ^ 40 + 128 * l) _ s

@[simp] theorem State.toHost_sec (s : State) (f : Nat) (q : Nat) (seq : Nat) (addr : Nat) (bs : Bytes) (first : Nat) (pz : Nat → Bool) :
    (State.toHost s f q seq addr bs first pz).sec = s.sec := by
  simp [State.toHost, foldl_sec]

@[simp] theorem State.toPlace_sec (s : State) (f : Nat) (p : Place) (bs : Bytes) (pz : Nat → Bool) (cmd : Option (Nat × Nat × Nat)) :
    (State.toPlace s f p bs pz cmd).sec = s.sec := by
  unfold State.toPlace; (repeat' split) <;> simp [*, foldl_sec]

@[simp] theorem State.settleEntry_sec (s : State) (a : Nat) (e : Option DirEnt) : (State.settleEntry s a e).sec = s.sec := by
  unfold State.settleEntry; (repeat' split) <;> simp [*]

@[simp] theorem State.eviction_sec (s : State) (h : FabHdr) (data : Option (Bytes × Bool)) :
    (State.eviction s h data).sec = s.sec := by
  unfold State.eviction; simp only []; (repeat' split) <;> simp_all

@[simp] theorem State.snoopReply_sec (s : State) (home : Nat) (typ : Nat) (reqId : Nat) (a : Nat) (data : Bytes) (poison : Bool) :
    (State.snoopReply s home typ reqId a data poison).sec = s.sec := by
  simp [State.snoopReply]

@[simp] theorem State.ringWrite_sec (s : State) (w : Bytes) (off : Nat) (bs : Bytes) (poison : Bool) :
    (State.ringWrite s w off bs poison).sec = s.sec := by
  simp [State.ringWrite]

@[simp] theorem State.addMail_sec (s : State) (m : MailIn) : (State.addMail s m).sec = s.sec := by
  simp [State.addMail]

@[simp] theorem State.fixSend_sec (s : State) (cmd : Option (Nat × Nat × Nat)) (source : Nat) :
    (State.fixSend s cmd source).sec = s.sec := by
  unfold State.fixSend; (repeat' split) <;> simp [*]

@[simp] theorem State.ownMailDone_sec (s : State) (reqId : Nat) : (State.ownMailDone s reqId).sec = s.sec := by
  unfold State.ownMailDone; (repeat' split) <;> simp [*]

@[simp] theorem State.passMails_sec (s : State) (w : Bytes) (x : Nat) (l : List MailIn) : (State.passMails s w x l).sec = s.sec := by
  induction l generalizing s with
  | nil => simp [State.passMails]
  | cons b t ih => unfold State.passMails; simp only []; (repeat' split) <;> simp [ih]

@[simp] theorem State.mailWhole_sec (s : State) (w : Bytes) (m : MailIn) : (State.mailWhole s w m).sec = s.sec := by
  simp [State.mailWhole]

@[simp] theorem State.recallSource_sec (s : State) (f : Nat) (c : Cmd) (o : Nat) (n : Nat) :
    (State.recallSource s f c o n).sec = s.sec := by
  unfold State.recallSource; (repeat' split) <;> simp [*]

@[simp] theorem State.startMessage_sec (s : State) (dest : Nat) (f : Nat) (q : Nat) (c : Cmd) :
    (State.startMessage s dest f q c).sec = s.sec := by
  simp [State.startMessage]

@[simp] theorem State.sendChunk_sec (s : State) (u : Unans) (o : Nat) (bs : Bytes) (poison : Bool) (last : Bool) :
    (State.sendChunk s u o bs poison last).sec = s.sec := by
  unfold State.sendChunk; simp only []; (repeat' split) <;> simp_all

@[simp] theorem State.mapMessage_sec (s : State) (n : Nat) (g : Engine → Engine) : (State.mapMessage s n g).sec = s.sec := by
  simp [State.mapMessage]

@[simp] theorem State.runMessage_sec (s : State) (n : Nat) : (State.runMessage s n).sec = s.sec := by
  unfold State.runMessage; simp only []; (repeat' split) <;> simp_all

@[simp] theorem State.noteFw_sec (s : State) (comp : Fin 4) (slot : Bool) (event : String) :
    (State.noteFw s comp slot event).sec = s.sec := by
  simp [State.noteFw]

@[simp] theorem State.finishBurn_sec (s : State) (comp : Fin 4) : (State.finishBurn s comp).sec = s.sec := by
  unfold State.finishBurn; (repeat' split) <;> simp [*]

@[simp] theorem State.dropTrial_sec (s : State) (comp : Fin 4) : (State.dropTrial s comp).sec = s.sec := by
  simp [State.dropTrial]

@[simp] theorem State.bootComponent_sec (s : State) (c : Fin 4) : (s.bootComponent c).1.sec = s.sec := by
  simp [State.bootComponent]

@[simp] theorem State.enterRecovery_sec (s : State) (cause : Nat) : (State.enterRecovery s cause).sec = s.sec := by
  simp [State.enterRecovery]

@[simp] theorem State.applyOverride_sec (s : State) : (State.applyOverride s).sec = s.sec := by
  simp [State.applyOverride]

@[simp] theorem State.evalCompat_sec (s : State) : (State.evalCompat s).sec = s.sec := by
  simp [State.evalCompat]

@[simp] theorem State.loadCal_sec (s : State) : (State.loadCal s).sec = s.sec := by
  simp [State.loadCal, foldl_sec] <;> (intros; rw [foldl_sec]; intros; simp)

@[simp] theorem State.ledgerAfterAux_sec (s : State) : (State.ledgerAfterAux s).sec = s.sec := by
  simp [State.ledgerAfterAux]

@[simp] theorem State.checkRetention_sec (s : State) : (State.checkRetention s).sec = s.sec := by
  simp [State.checkRetention]

@[simp] theorem State.restartTime_sec (s : State) : (State.restartTime s).sec = s.sec := by
  simp [State.restartTime]

@[simp] theorem State.settleRetention_sec (s : State) : (State.settleRetention s).sec = s.sec := by
  simp [State.settleRetention]

@[simp] theorem State.bootFirmware_sec (s : State) (saf : Bool) : (State.bootFirmware s saf).sec = s.sec := by
  unfold State.bootFirmware; (repeat' split) <;> simp [*, foldl_sec]

@[simp] theorem State.bootTime_sec (s : State) : (State.bootTime s).sec = s.sec := by
  simp [State.bootTime]

@[simp] theorem State.bootNow_sec (s : State) : (State.bootNow s).sec = s.sec := by
  simp [State.bootNow]

@[simp] theorem State.announceReset_sec (s : State) (cold : Bool) (cause : String) (source : Nat) :
    (State.announceReset s cold cause source).sec = s.sec := by
  unfold State.announceReset; simp only []; (repeat' split) <;> simp_all

@[simp] theorem State.takeFwAction_sec (s : State) (a : FwAction) (comp : Fin 4) : (State.takeFwAction s a comp).sec = s.sec := by
  simp [State.takeFwAction]

@[simp] theorem State.askMark_sec (s : State) (f : Part) (w : U32) : (State.askMark s f w).sec = s.sec := by
  simp [State.askMark]

@[simp] theorem State.askCommit_sec (s : State) (f : Part) (w : U32) : (State.askCommit s f w).sec = s.sec := by
  simp [State.askCommit]

@[simp] theorem State.askCancel_sec (s : State) (f : Part) (w : U32) : (State.askCancel s f w).sec = s.sec := by
  simp [State.askCancel]

@[simp] theorem State.askBurn_sec (s : State) (f : Part) (w : U32) : (State.askBurn s f w).sec = s.sec := by
  simp [State.askBurn]

@[simp] theorem State.endMarkTrial_sec (s : State) (c : Fin 4) : (State.endMarkTrial s c).sec = s.sec := by
  simp [State.endMarkTrial]

@[simp] theorem State.endCommit_sec (s : State) (c : Fin 4) : (State.endCommit s c).sec = s.sec := by
  simp [State.endCommit]

@[simp] theorem State.endCancelTrial_sec (s : State) (c : Fin 4) : (State.endCancelTrial s c).sec = s.sec := by
  simp [State.endCancelTrial]

@[simp] theorem State.endBurn_sec (s : State) (c : Fin 4) : (State.endBurn s c).sec = s.sec := by
  unfold State.endBurn; simp only []; (repeat' split) <;> simp_all

@[simp] theorem State.askBegin_sec (s : State) (f : Part) (w : U32) : (State.askBegin s f w).sec = s.sec := by
  simp [State.askBegin]

@[simp] theorem State.askRun_sec (s : State) (f : Part) (w : U32) : (State.askRun s f w).sec = s.sec := by
  simp [State.askRun]

@[simp] theorem State.askProgram_sec (s : State) (f : Part) (w : U32) : (State.askProgram s f w).sec = s.sec := by
  simp [State.askProgram]

@[simp] theorem State.fillWindow_sec (s : State) (f : Part) (off : Nat) (size : Nat) (v : U64) :
    (State.fillWindow s f off size v).sec = s.sec := by
  simp [State.fillWindow]

@[simp] theorem State.mapCores_sec (s : State) (g : Core → Core) : (State.mapCores s g).sec = s.sec := by
  simp [State.mapCores]

@[simp] theorem State.resetCasks_sec (s : State) (route : Nat) : (State.resetCasks s route).sec = s.sec := by
  simp [State.resetCasks]

@[simp] theorem State.freshVecs_sec (s : State) (c : Nat) : (State.freshVecs s c).sec = s.sec := by
  simp [State.freshVecs]

@[simp] theorem State.install_sec (s : State) (c : Nat) (t : Task) : (State.install s c t).sec = s.sec := by
  simp [State.install]

@[simp] theorem State.loadCode_sec (s : State) (c : Nat) (t : Task) (blob : Nat) : (State.loadCode s c t blob).sec = s.sec := by
  simp [State.loadCode]

@[simp] theorem State.nextTask_sec (s : State) (c : Nat) : (State.nextTask s c).sec = s.sec := by
  unfold State.nextTask; simp only []; (repeat' split) <;> simp_all

@[simp] theorem State.endTask_sec (s : State) (c : Nat) : (State.endTask s c).sec = s.sec := by
  unfold State.endTask; simp only []; (repeat' split) <;> simp_all

@[simp] theorem State.finish_sec (s : State) (c : Nat) (x : Core) : (State.finish s c x).sec = s.sec := by
  simp [State.finish]

@[simp] theorem State.takePreemption_sec (s : State) (c : Nat) : (State.takePreemption s c).sec = s.sec := by
  unfold State.takePreemption; simp only []; (repeat' split) <;> simp_all

@[simp] theorem State.settleWait_sec (s : State) (c : Nat) : (State.settleWait s c).sec = s.sec := by
  unfold State.settleWait; simp only []; (repeat' split) <;> simp_all

@[simp] theorem State.settleWaits_sec (s : State) : (State.settleWaits s).sec = s.sec := by
  simp [State.settleWaits, foldl_sec]

@[simp] theorem State.startTask_sec (s : State) (c : Nat) (t : Task) (blob : Nat) : (State.startTask s c t blob).sec = s.sec := by
  simp [State.startTask]

@[simp] theorem State.settleSwap_sec (s : State) (route : Nat) : (State.settleSwap s route).sec = s.sec := by
  simp [State.settleSwap]

@[simp] theorem State.endApply_sec (s : State) (slot : Nat) : (State.endApply s slot).sec = s.sec := by
  unfold State.endApply; simp only []; (repeat' split) <;> simp_all

@[simp] theorem State.releaseHeld_sec (s : State) (route : Nat) : (State.releaseHeld s route).sec = s.sec := by
  simp [State.releaseHeld]

@[simp] theorem State.gapTimer_sec (s : State) (r : Nat) (st : RouteSt) : (State.gapTimer s r st).sec = s.sec := by
  simp [State.gapTimer]

@[simp] theorem State.setRouteSt_sec (s : State) (r : Nat) (st : RouteSt) : (State.setRouteSt s r st).sec = s.sec := by
  simp [State.setRouteSt]

@[simp] theorem State.mapFrame_sec (s : State) (r : Nat) (id : Nat) (g : Frame → Frame) :
    (State.mapFrame s r id g).sec = s.sec := by
  simp [State.mapFrame]

@[simp] theorem State.noteStale_sec (s : State) (r : Nat) (cause : Nat) : (State.noteStale s r cause).sec = s.sec := by
  simp [State.noteStale]

@[simp] theorem State.published_sec (s : State) (t : Struct) (r : Nat) (typ : Nat) (addr : Nat) (len : Nat) (exposure : Nat) :
    (State.published s t r typ addr len exposure).sec = s.sec := by
  simp [State.published]

@[simp] theorem State.frameDone_sec (s : State) (r : Nat) (f : Frame) (status : Nat) (reason : Nat) :
    (State.frameDone s r f status reason).sec = s.sec := by
  simp [State.frameDone, foldl_sec]

@[simp] theorem State.checkDeadline_sec (s : State) (r : Nat) (f : Frame) : (State.checkDeadline s r f).sec = s.sec := by
  simp [State.checkDeadline]

@[simp] theorem State.epochCut_sec (s : State) (r : Nat) (f : Frame) (valid : Bool) :
    (State.epochCut s r f valid).sec = s.sec := by
  simp [State.epochCut]

@[simp] theorem State.retire_sec (s : State) (r : Nat) (id : Nat) : (State.retire s r id).sec = s.sec := by
  unfold State.retire; (repeat' split) <;> simp [*]

@[simp] theorem State.fixAll_sec (s : State) (l : List (Nat × Nat × Nat)) (status : Nat) (detail : Nat) (source : Nat) :
    (State.fixAll s l status detail source).sec = s.sec := by
  simp [State.fixAll, foldl_sec]

@[simp] theorem State.stopApply_sec (s : State) (r : Nat) (status : Nat) (detail : Nat) :
    (State.stopApply s r status detail).sec = s.sec := by
  simp [State.stopApply, foldl_sec]

@[simp] theorem State.finishStop_sec (s : State) (r : Nat) : (State.finishStop s r).sec = s.sec := by
  simp [State.finishStop]

@[simp] theorem State.retireAborted_sec (s : State) (r n : Nat) : (s.retireAborted r n).sec = s.sec := by
  induction n generalizing s with
  | zero => rfl
  | succ n ih => unfold State.retireAborted; (repeat' split) <;> simp [ih]

@[simp] theorem State.drainRoute_sec (s : State) (r : Nat) : (State.drainRoute s r).sec = s.sec := by
  simp [State.drainRoute, foldl_sec]

@[simp] theorem State.mapTasks_sec (s : State) (p : Task → Bool) (g : Task → Task) : (State.mapTasks s p g).sec = s.sec := by
  simp [State.mapTasks]

@[simp] theorem State.stopTasks_sec (s : State) (p : Task → Bool) : (State.stopTasks s p).sec = s.sec := by
  simp [State.stopTasks]

@[simp] theorem State.mapJobs_sec (s : State) (g : Nat → StageJob → StageJob) : (State.mapJobs s g).sec = s.sec := by
  simp [State.mapJobs]

@[simp] theorem State.abandon_sec (s : State) (r : Nat) (id : Nat) (reason : Nat) (missing : Nat) :
    (State.abandon s r id reason missing).sec = s.sec := by
  simp [State.abandon]

@[simp] theorem State.noteLevel_sec (s : State) (level : BitVec 3) : (State.noteLevel s level).sec = s.sec := by
  simp [State.noteLevel]

@[simp] theorem State.forceStop_sec (s : State) (r : Nat) : (State.forceStop s r).sec = s.sec := by
  simp [State.forceStop]

@[simp] theorem State.boundaryStop_sec (s : State) (r : Nat) : (State.boundaryStop s r).sec = s.sec := by
  simp [State.boundaryStop]

@[simp] theorem State.faultRoute_sec (s : State) (r : Nat) (code : Nat) : (State.faultRoute s r code).sec = s.sec := by
  simp [State.faultRoute]

@[simp] theorem State.refreshRoutes_sec (s : State) : (State.refreshRoutes s).sec = s.sec := by
  simp [State.refreshRoutes, foldl_sec]

@[simp] theorem State.epochAbandon_sec (s : State) (r : Nat) (id : Nat) : (State.epochAbandon s r id).sec = s.sec := by
  unfold State.epochAbandon; (repeat' split) <;> simp [*]

@[simp] theorem State.openWindow_sec (s : State) (r : Nat) : (State.openWindow s r).sec = s.sec := by
  simp [State.openWindow, foldl_sec]

@[simp] theorem State.boundary_sec (s : State) (r : Nat) (id : Nat) (start : Nat) (exposure : Nat) :
    (State.boundary s r id start exposure).sec = s.sec := by
  unfold State.boundary; simp only []; (repeat' split) <;> simp_all

@[simp] theorem State.associate_sec (s : State) (c : Nat) (id : Nat) (start : Nat) (exposure : Nat) :
    (State.associate s c id start exposure).sec = s.sec := by
  simp [State.associate, foldl_sec] <;> (intros; rw [foldl_sec]; intros; simp)

@[simp] theorem State.slotCycle_sec (s : State) (c : Nat) : (State.slotCycle s c).sec = s.sec := by
  unfold State.slotCycle; (repeat' split) <;> simp [*]

@[simp] theorem State.frameStartEvent_sec (s : State) (c : Nat) (id : Nat) (start : Nat) (exposure : Nat) :
    (State.frameStartEvent s c id start exposure).sec = s.sec := by
  simp [State.frameStartEvent, foldl_sec]

@[simp] theorem State.chargeEngine_sec (s : State) (r : Nat) (m : NodeRun) : (State.chargeEngine s r m).sec = s.sec := by
  simp [State.chargeEngine]

@[simp] theorem State.startNode_sec (s : State) (r : Nat) (f : Frame) (c : Bytes) : (State.startNode s r f c).sec = s.sec := by
  simp [State.startNode]

@[simp] theorem State.dispatch_sec (s : State) (r : Nat) (id : Nat) (n : Nat) (trig : Nat) :
    (State.dispatch s r id n trig).sec = s.sec := by
  unfold State.dispatch; (repeat' split) <;> simp [*]

@[simp] theorem State.undefineCmd_sec (s : State) (f : Nat) (q : Nat) (c : Cmd) : (State.undefineCmd s f q c).sec = s.sec := by
  simp [State.undefineCmd]

@[simp] theorem State.undefineCmds_sec (s : State) (f : Nat) : (State.undefineCmds s f).sec = s.sec := by
  simp [State.undefineCmds, foldl_sec]

@[simp] theorem State.dropApplies_sec (s : State) (p : Nat → Bool) : (State.dropApplies s p).sec = s.sec := by
  unfold State.dropApplies
  refine foldl_sec _ (fun s x => ?_) _ _
  split
  · split <;> simp
  · rfl

@[simp] theorem State.drainDst_sec (s : State) (d : Nat) : (State.drainDst s d).sec = s.sec := by
  simp [State.drainDst]

@[simp] theorem State.noteIrregular_sec (s : State) (c : Nat) (id : Nat) (long : Bool) (extra : Bool) :
    (State.noteIrregular s c id long extra).sec = s.sec := by
  simp [State.noteIrregular]

@[simp] theorem State.queueBeats_sec (s : State) (d : Nat) (l : List Beat) : (State.queueBeats s d l).sec = s.sec := by
  simp [State.queueBeats]

@[simp] theorem State.pipeLine_sec (s : State) (src : Nat) (ctx : Nat) (frame : Nat) (line : Nat) (plane : Nat) (b : Bytes) (poison : Bool) :
    (State.pipeLine s src ctx frame line plane b poison).sec = s.sec := by
  simp [State.pipeLine, foldl_sec]

@[simp] theorem State.closeBeat_sec (s : State) (src : Nat) (ctx : Nat) (frame : Nat) (pick : Nat → Bool) (data : Bytes) (poison : Bool) :
    (State.closeBeat s src ctx frame pick data poison).sec = s.sec := by
  simp [State.closeBeat, foldl_sec]

@[simp] theorem State.stageLine_sec (s : State) (src : Nat) (frameId : Nat) (ctx : Nat) (frame : Nat) (line : Nat) (plane : Nat) (b : Bytes) (poison : Bool) :
    (State.stageLine s src frameId ctx frame line plane b poison).sec = s.sec := by
  simp [State.stageLine, foldl_sec]

@[simp] theorem State.deliverBeat_sec (s : State) (d : Nat) : (State.deliverBeat s d).sec = s.sec := by
  unfold State.deliverBeat; simp only []; (repeat' split) <;> simp_all

@[simp] theorem State.mapJob_sec (s : State) (i : Nat) (g : StageJob → StageJob) : (State.mapJob s i g).sec = s.sec := by
  simp [State.mapJob]

@[simp] theorem State.layRecord_sec (s : State) (i : Nat) (j : StageJob) (a : Nat) (r : RecInfo) (desc : Bytes) (body : Payload) :
    (State.layRecord s i j a r desc body).sec = s.sec := by
  simp [State.layRecord]

@[simp] theorem State.notePoisoned_sec (s : State) (i : Nat) (poison : Bool) (discard : Bool) :
    (State.notePoisoned s i poison discard).sec = s.sec := by
  simp [State.notePoisoned]

@[simp] theorem State.putRecord_sec (s : State) (i : Nat) (j : StageJob) (o : Nat) (src : Nat) (off : Nat) (r : RecInfo) (desc : Bytes) (body : Payload) :
    (State.putRecord s i j o src off r desc body).sec = s.sec := by
  simp [State.putRecord]

@[simp] theorem State.jobDone_sec (s : State) (i : Nat) : (State.jobDone s i).sec = s.sec := by
  simp [State.jobDone]

@[simp] theorem State.sendLines_sec (s : State) (i : Nat) (src : Nat) (ctx : Nat) (key : Nat) (plane : Nat) (lines : List (Bytes × Bool)) :
    (State.sendLines s i src ctx key plane lines).sec = s.sec := by
  unfold State.sendLines; (repeat' split) <;> simp [*, foldl_sec]

@[simp] theorem State.advancePyr_sec (s : State) (c : Nat) : (State.advancePyr s c).sec = s.sec := by
  unfold State.advancePyr; (repeat' split) <;> simp [*, foldl_sec]

@[simp] theorem State.advanceWrp_sec (s : State) (i : Nat) (c : Nat) : (State.advanceWrp s i c).sec = s.sec := by
  unfold State.advanceWrp; (repeat' split) <;> simp [*]

@[simp] theorem State.storeLine_sec (s : State) (part : Nat) (a : Nat) (w : Nat) (y : Nat) (l : List Int) :
    (State.storeLine s part a w y l).sec = s.sec := by
  simp [State.storeLine]

@[simp] theorem State.offerTiles_sec (s : State) (i : Nat) (j : StageJob) (l : List (Nat × (Nat × Nat) × Bool)) :
    (State.offerTiles s i j l).sec = s.sec := by
  simp [State.offerTiles]

@[simp] theorem State.offerRows_sec (s : State) (i : Nat) (rows : List (List Px)) : (State.offerRows s i rows).sec = s.sec := by
  unfold State.offerRows; (repeat' split) <;> simp [*]

@[simp] theorem State.sendDense_sec (s : State) (i : Nat) (c : Nat) (rows : List (List Px)) (h : Nat) :
    (State.sendDense s i c rows h).sec = s.sec := by
  simp [State.sendDense]

@[simp] theorem State.floStore__sec (s : State) (i : Nat) (j : StageJob) : (State.floStore_ s i j).sec = s.sec := by
  simp [State.floStore_, foldl_sec]

@[simp] theorem State.advanceDense_sec (s : State) (i : Nat) : (State.advanceDense s i).sec = s.sec := by
  unfold State.advanceDense; (repeat' split) <;> simp [*]

@[simp] theorem State.advanceTrk_sec (s : State) : (State.advanceTrk s).sec = s.sec := by
  unfold State.advanceTrk; (repeat' split) <;> simp [*, foldl_sec, foldlPair_sec]

@[simp] theorem State.advance_sec (s : State) (i : Nat) (c : Nat) : (State.advance s i c).sec = s.sec := by
  simp [State.advance]

@[simp] theorem State.putLine_sec (s : State) (i : Nat) (port : Nat) (j : StageJob) (c : Nat) (id : Nat) (level : Nat) (data : Bytes) (poison : Bool) :
    (State.putLine s i port j c id level data poison).sec = s.sec := by
  simp [State.putLine]

@[simp] theorem State.closeInput_sec (s : State) (i : Nat) (port : Nat) (j : StageJob) (c : Nat) :
    (State.closeInput s i port j c).sec = s.sec := by
  simp [State.closeInput]

@[simp] theorem State.putDense_sec (s : State) (i : Nat) (j : StageJob) : (State.putDense s i j).sec = s.sec := by
  simp [State.putDense]

@[simp] theorem State.offerCells_sec (s : State) (j : StageJob) (m : Nat) : (State.offerCells s j m).sec = s.sec := by
  simp [State.offerCells]

@[simp] theorem State.offerMatches_sec (s : State) : (State.offerMatches s).sec = s.sec := by
  unfold State.offerMatches; (repeat' split) <;> simp [*]

@[simp] theorem State.putMatches_sec (s : State) (j : StageJob) : (State.putMatches s j).sec = s.sec := by
  simp [State.putMatches]

@[simp] theorem State.endDense_sec (s : State) (i : Nat) (j : StageJob) : (State.endDense s i j).sec = s.sec := by
  simp [State.endDense]

@[simp] theorem State.refit_sec (s : State) : (State.refit s).sec = s.sec := by
  simp [State.refit, foldl_sec]

@[simp] theorem State.setLoop_sec (s : State) (l : LoopSt) : (State.setLoop s l).sec = s.sec := by
  simp [State.setLoop]

@[simp] theorem State.enterHold_sec (s : State) : (State.enterHold s).sec = s.sec := by
  simp [State.enterHold]

@[simp] theorem State.stepGtc_sec (s : State) (d : Int) : (State.stepGtc s d).sec = s.sec := by
  simp [State.stepGtc]

@[simp] theorem State.stepToInput_sec (s : State) (i : Nat) (e : Int) : (State.stepToInput s i e).sec = s.sec := by
  simp [State.stepToInput]

@[simp] theorem State.reselect_sec (s : State) : (State.reselect s).sec = s.sec := by
  unfold State.reselect; simp only []; (repeat' split) <;> simp_all

@[simp] theorem State.failInput_sec (s : State) (i : Nat) (code : Nat) : (State.failInput s i code).sec = s.sec := by
  simp [State.failInput]

@[simp] theorem State.makeAvailable_sec (s : State) (i : Nat) : (State.makeAvailable s i).sec = s.sec := by
  simp [State.makeAvailable]

@[simp] theorem State.judgeLock_sec (s : State) (e : Int) : (State.judgeLock s e).sec = s.sec := by
  simp [State.judgeLock]

@[simp] theorem State.stepOnMeasure_sec (s : State) (i : Nat) (e : Int) : (s.stepOnMeasure i e).1.sec = s.sec := by
  unfold State.stepOnMeasure; simp only []; (repeat' split) <;> simp

@[simp] theorem State.loopMeasure_sec (s : State) (i : Nat) (e : Int) : (State.loopMeasure s i e).sec = s.sec := by
  simp [State.loopMeasure]

@[simp] theorem State.measure_sec (s : State) (i : Nat) (e : Int) (freq : Int) (jump : Bool) (domainOk : Bool) :
    (State.measure s i e freq jump domainOk).sec = s.sec := by
  simp [State.measure]

@[simp] theorem State.failLanicy_sec (s : State) : (State.failLanicy s).sec = s.sec := by
  simp [State.failLanicy, foldl_sec]

@[simp] theorem State.setBackupActs_sec (s : State) (v : Bool) : (State.setBackupActs s v).sec = s.sec := by
  simp [State.setBackupActs]

@[simp] theorem State.hearTime_sec (s : State) (port : Nat) (m : TimeMsg) : (State.hearTime s port m).sec = s.sec := by
  simp [State.hearTime]

@[simp] theorem State.endFreqPulse_sec (s : State) : (State.endFreqPulse s).sec = s.sec := by
  simp [State.endFreqPulse]

@[simp] theorem State.tmgCycle_sec (s : State) : (State.tmgCycle s).sec = s.sec := by
  simp [State.tmgCycle]

@[simp] theorem State.measureVin_sec (s : State) : (State.measureVin s).sec = s.sec := by
  simp [State.measureVin]

@[simp] theorem State.endVerify_sec (s : State) : (State.endVerify s).sec = s.sec := by
  unfold State.endVerify; (repeat' split) <;> simp [*]

@[simp] theorem State.runMessages_sec (s : State) : (State.runMessages s).sec = s.sec := by
  simp [State.runMessages, foldl_sec]

@[simp] theorem State.resumeTasks_sec (s : State) : (State.resumeTasks s).sec = s.sec := by
  simp [State.resumeTasks, foldl_sec]

@[simp] theorem State.tick_sec (s : State) : (State.tick s).sec = s.sec := by
  simp [State.tick]

@[simp] theorem State.badHeader_sec (s : State) (port : Nat) : (State.badHeader s port).sec = s.sec := by
  simp [State.badHeader]

@[simp] theorem State.active_sec (s : State) (port : Nat) : (State.active s port).sec = s.sec := by
  simp [State.active]

@[simp] theorem State.emitLine_sec (s : State) (c pipe : Nat) (g : CtxFrame) (y : Nat) : (s.emitLine c pipe g y).1.sec = s.sec := by
  unfold State.emitLine
  refine foldlPair_sec _ (fun a x => ?_) _ _
  dsimp only
  split <;> simp

@[simp] theorem State.emitChroma_sec (s : State) (c : Nat) (pipe : Nat) (f : CtxFrame) :
    (State.emitChroma s c pipe f).sec = s.sec := by
  simp [State.emitChroma, foldl_sec]

@[simp] theorem State.emitFrame_sec (s : State) (c : Nat) (id : Nat) : (State.emitFrame s c id).sec = s.sec := by
  unfold State.emitFrame; (repeat' split) <;> simp [*, foldl_sec, foldlPair_sec]

@[simp] theorem State.closeFrame_sec (s : State) (c : Nat) (short : Bool) : (State.closeFrame s c short).sec = s.sec := by
  unfold State.closeFrame; (repeat' split) <;> simp [*]

@[simp] theorem State.startCtx_sec (s : State) (c : Nat) : (State.startCtx s c).sec = s.sec := by
  simp [State.startCtx]

@[simp] theorem State.noteBacklog_sec (s : State) (pipe : Nat) : (State.noteBacklog s pipe).sec = s.sec := by
  simp [State.noteBacklog]

@[simp] theorem State.takeLinePacket_sec (s : State) (port : Nat) (c : Nat) (dt : Nat) (pixels : List Nat) (bad : Bool) :
    (State.takeLinePacket s port c dt pixels bad).sec = s.sec := by
  unfold State.takeLinePacket; (repeat' split) <;> simp [*]

@[simp] theorem State.scbCtl_sec (s : State) (f : Part) (k : Nat) (w : U32) : (State.scbCtl s f k w).sec = s.sec := by
  simp [State.scbCtl]

@[simp] theorem State.scbPush_sec (s : State) (f : Part) (k : Nat) (v : Byte) : (State.scbPush s f k v).sec = s.sec := by
  simp [State.scbPush]

@[simp] theorem State.scbPop_sec (s : State) (b : Nat) : (s.scbPop b).1.sec = s.sec := by
  unfold State.scbPop; split <;> simp

@[simp] theorem State.enforcePins_sec (s : State) (old : Struct) : (State.enforcePins s old).sec = s.sec := by
  simp [State.enforcePins]

@[simp] theorem State.enforceBoard_sec (s : State) : (State.enforceBoard s).sec = s.sec := by
  simp [State.enforceBoard]

@[simp] theorem State.enforceInputs_sec (s : State) : (State.enforceInputs s).sec = s.sec := by
  simp [State.enforceInputs]

@[simp] theorem State.enforceRoles_sec (s : State) (old : Struct) : (State.enforceRoles s old).sec = s.sec := by
  simp [State.enforceRoles]

@[simp] theorem State.enforceOutputs_sec (s : State) (old : Struct) : (State.enforceOutputs s old).sec = s.sec := by
  simp [State.enforceOutputs]

@[simp] theorem State.enforceRegions_sec (s : State) (old : Struct) : (State.enforceRegions s old).sec = s.sec := by
  unfold State.enforceRegions
  refine (foldl_sec _ (fun s r => ?_) _ _).trans (foldl_sec _ (fun s r => ?_) _ _)
  · refine (foldl_sec _ (fun s l => ?_) _ _).trans rfl
    split
    · split <;> simp
    · rfl
  · rfl

@[simp] theorem State.enforceExports_sec (s : State) (old : Struct) : (State.enforceExports s old).sec = s.sec := by
  simp [State.enforceExports, foldl_sec]

@[simp] theorem State.enforceLinks_sec (s : State) (old : Struct) : (State.enforceLinks s old).sec = s.sec := by
  simp [State.enforceLinks, foldl_sec]

@[simp] theorem State.enforceCamera_sec (s : State) (old : Struct) : (State.enforceCamera s old).sec = s.sec := by
  simp [State.enforceCamera]

@[simp] theorem State.enforceStreams_sec (s : State) (old : Struct) : (State.enforceStreams s old).sec = s.sec := by
  simp [State.enforceStreams]

@[simp] theorem State.enforceStages_sec (s : State) : (State.enforceStages s).sec = s.sec := by
  simp [State.enforceStages]

@[simp] theorem State.enforceSafety_sec (s : State) (core : Option Bytes) : (State.enforceSafety s core).sec = s.sec := by
  unfold State.enforceSafety; (repeat' split) <;> simp [*]

@[simp] theorem State.rejectApply_sec (s : State) (n : Nat) (a : Apply) (status : Nat) (detail : Nat) :
    (State.rejectApply s n a status detail).sec = s.sec := by
  simp [State.rejectApply]

@[simp] theorem State.missFrame_sec (s : State) (r : Nat) (n : Nat) (a : Apply) : (State.missFrame s r n a).sec = s.sec := by
  simp [State.missFrame]

@[simp] theorem State.checkerFails_sec (s : State) (c : Nat × Nat) (g : Nat) : (State.checkerFails s c g).sec = s.sec := by
  unfold State.checkerFails; simp only []; (repeat' split) <;> simp_all

@[simp] theorem State.pairWrite_sec (s : State) (f : Part) (w : U32) : (State.pairWrite s f w).sec = s.sec := by
  simp [State.pairWrite]

@[simp] theorem State.failLoad_sec (s : State) (f : Nat) (q : Nat) (pos : Nat) (status : Nat) (detail : Nat) (c : Cmd) (payload : Nat) :
    (State.failLoad s f q pos status detail c payload).sec = s.sec := by
  simp [State.failLoad]

@[simp] theorem State.tagChanged_sec (s : State) : (State.tagChanged s).sec = s.sec := by
  simp [State.tagChanged]

@[simp] theorem State.clearRsq_sec (s : State) (off : Nat) : (State.clearRsq s off).sec = s.sec := by
  simp [State.clearRsq]

@[simp] theorem State.clearCin_sec (s : State) (off : Nat) : (State.clearCin s off).sec = s.sec := by
  simp [State.clearCin]

@[simp] theorem State.clearIsp_sec (s : State) (off : Nat) : (State.clearIsp s off).sec = s.sec := by
  simp [State.clearIsp]

@[simp] theorem State.clearStage_sec (s : State) (i : Nat) (r : Nat) : (State.clearStage s i r).sec = s.sec := by
  simp [State.clearStage]

@[simp] theorem State.clearMash_sec (s : State) (off : Nat) : (State.clearMash s off).sec = s.sec := by
  simp [State.clearMash]

@[simp] theorem State.clearNec_sec (s : State) (off : Nat) : (State.clearNec s off).sec = s.sec := by
  simp [State.clearNec]

@[simp] theorem State.clearMem_sec (s : State) (off : Nat) : (State.clearMem s off).sec = s.sec := by
  simp [State.clearMem]

@[simp] theorem State.clearLnk_sec (s : State) (off : Nat) : (State.clearLnk s off).sec = s.sec := by
  simp [State.clearLnk]

@[simp] theorem State.clearTmg_sec (s : State) (off : Nat) : (State.clearTmg s off).sec = s.sec := by
  simp [State.clearTmg]

@[simp] theorem State.clearSaf_sec (s : State) (off : Nat) : (State.clearSaf s off).sec = s.sec := by
  simp [State.clearSaf]

@[simp] theorem State.clearMgt_sec (s : State) (off : Nat) : (State.clearMgt s off).sec = s.sec := by
  simp [State.clearMgt]

@[simp] theorem State.clearLog_sec (s : State) (off : Nat) : (State.clearLog s off).sec = s.sec := by
  simp [State.clearLog]

@[simp] theorem State.clearBlocks_sec (s : State) (off : Nat) : (State.clearBlocks s off).sec = s.sec := by
  unfold State.clearBlocks; simp only []; split
  any_goals simp
  split
  · exact State.clearStage_sec ..
  · split
    · exact State.clearMash_sec ..
    · split
      · exact State.clearNec_sec ..
      · rfl

@[simp] theorem State.readEffect_sec (s : State) (f : Part) (bar : Bar) (off : Nat) :
    (State.readEffect s f bar off).sec = s.sec := by
  unfold State.readEffect; (repeat' split) <;> simp [*]

@[simp] theorem State.readBar_sec (s : State) (f : Part) (bar : Bar) (off : Nat) (size : Nat) :
    (State.readBar s f bar off size).sec = s.sec := by
  simp [State.readBar]

@[simp] theorem State.debugServe_sec (s : State) (op : DebugOp) : (State.debugServe s op).sec = s.sec := by
  unfold State.debugServe; (repeat' split) <;> simp [*]

@[simp] theorem State.memCorrected_sec (s : State) (a : Nat) : (State.memCorrected s a).sec = s.sec := by
  simp [State.memCorrected]

@[simp] theorem State.memUncorrectable_sec (s : State) (a : Nat) : (State.memUncorrectable s a).sec = s.sec := by
  simp [State.memUncorrectable]

@[simp] theorem State.countFind_sec (s : State) (a : Nat) (e : EccFind) : (s.countFind a e).sec = s.sec := by
  cases e <;> simp [State.countFind]

@[simp] theorem State.pairFill_sec (s : State) (a : Nat) : (State.pairFill s a).sec = s.sec := by
  simp [State.pairFill]

@[simp] theorem State.keepSeq_sec (s : State) (l : Log) : (State.keepSeq s l).sec = s.sec := by
  simp [State.keepSeq]

@[simp] theorem State.appendNext_sec (s : State) : (State.appendNext s).sec = s.sec := by
  unfold State.appendNext; (repeat' split) <;> simp [*]

@[simp] theorem State.norCopy_sec (s : State) (ok : Bool) : (State.norCopy s ok).sec = s.sec := by
  unfold State.norCopy; (repeat' split) <;> simp [*]

@[simp] theorem State.appendMany_sec (s : State) (n : Nat) : (State.appendMany s n).sec = s.sec := by
  induction n generalizing s with
  | zero => rfl
  | succ n ih => unfold State.appendMany; simp [ih]

@[simp] theorem State.copyMany_sec (s : State) (n : Nat) : (State.copyMany s n).sec = s.sec := by
  induction n generalizing s with
  | zero => rfl
  | succ n ih => unfold State.copyMany; simp [ih]

@[simp] theorem State.endInterval_sec (s : State) : (State.endInterval s).sec = s.sec := by
  simp [State.endInterval]

@[simp] theorem State.patrolUe_sec (s : State) (block : Nat) (a : Nat) (intervened : Bool) :
    (State.patrolUe s block a intervened).sec = s.sec := by
  simp [State.patrolUe]

@[simp] theorem State.patrolBlock_sec (s : State) (block : Nat) (errs : List Bytes) (intervened : Bool) :
    (State.patrolBlock s block errs intervened).sec = s.sec := by
  refine foldl_sec _ (fun s x => ?_) _ _
  dsimp only
  split
  · rfl
  · split <;> simp

@[simp] theorem State.defer_sec (s : State) (activity : Nat) : (State.defer s activity).sec = s.sec := by
  simp [State.defer]

@[simp] theorem State.setBg_sec (s : State) (f : Part) (w : U32) : (State.setBg s f w).sec = s.sec := by
  simp [State.setBg]

@[simp] theorem State.askSource_sec (s : State) (part : Nat) (board : Nat) (a : Nat) (n : Nat) (cmd : Option (Nat × Nat × Nat)) :
    (State.askSource s part board a n cmd).sec = s.sec := by
  simp [State.askSource, foldl_sec]

@[simp] theorem State.sendOwn_sec (s : State) (f : Nat) (q : Nat) (c : Cmd) : (State.sendOwn s f q c).sec = s.sec := by
  unfold State.sendOwn; simp only []; (repeat' split) <;> simp_all

@[simp] theorem State.startApply_sec (s : State) (f : Nat) (q : Nat) (c : Cmd) (point : ApplyPoint) :
    (State.startApply s f q c point).sec = s.sec := by
  unfold State.startApply; simp only []; (repeat' split) <;> simp_all

@[simp] theorem State.readmit_sec (s : State) (b : Nat) : (State.readmit s b).sec = s.sec := by
  simp [State.readmit]

@[simp] theorem State.returned_sec (s : State) (b : Nat) (tag : Bytes) : (State.returned s b tag).sec = s.sec := by
  simp [State.returned]

@[simp] theorem State.dropHomed_sec (s : State) (b : Nat) : (State.dropHomed s b).sec = s.sec := by
  simp [State.dropHomed, foldl_sec]

@[simp] theorem State.dropHolder_sec (s : State) (b : Nat) : (State.dropHolder s b).sec = s.sec := by
  simp [State.dropHolder, foldl_sec]

@[simp] theorem State.oweCredits_sec (s : State) (p : Nat) (m : Msg) (len : Nat) : (State.oweCredits s p m len).sec = s.sec := by
  simp [State.oweCredits]

@[simp] theorem State.relay_sec (s : State) (p n : Nat) (b : Bytes) : (State.relay p n s b).1.sec = s.sec := by
  induction n generalizing s b with
  | zero => rfl
  | succ n ih => unfold State.relay; simp only []; (repeat' split) <;> simp [ih]

@[simp] theorem State.replay_sec (s : State) (p : Nat) : (State.replay s p).sec = s.sec := by
  simp [State.replay]

@[simp] theorem State.restartMessage_sec (s : State) (dest : Nat) (f : Nat) (q : Nat) (c : Cmd) :
    (State.restartMessage s dest f q c).sec = s.sec := by
  simp [State.restartMessage]

@[simp] theorem State.taskFault_sec (s : State) (c : Nat) (cause : Nat) (ea : Option Nat) :
    (State.taskFault s c cause ea).sec = s.sec := by
  unfold State.taskFault; simp only []; (repeat' split) <;> simp_all

@[simp] theorem State.issue_sec (s : State) (c : Nat) (op : Nat) (w : U64) (fields : Nat) (act : Core → Task → State) (h_act : ∀ x0 x1, (act x0 x1).sec = s.sec) :
    (State.issue s c op w fields act).sec = s.sec := by
  unfold State.issue; simp only []; (repeat' split) <;> simp_all

@[simp] theorem State.markFrame_sec (s : State) (own : Nat × Nat × Nat) (poisoned : Bool) (lost : Bool) :
    (State.markFrame s own poisoned lost).sec = s.sec := by
  simp [State.markFrame]

@[simp] theorem State.markOwner_sec (s : State) (c : Nat) (own : Nat × Nat × Nat) (b : Bool) :
    (State.markOwner s c own b).sec = s.sec := by
  simp [State.markOwner]

@[simp] theorem State.askPiece_sec (s : State) (c : Nat) (x : Xfer) (a n : Nat) : (s.askPiece c x a n).1.sec = s.sec := by
  unfold State.askPiece; simp only []; split <;> simp [foldl_sec]

@[simp] theorem State.pieceRead_sec (s : State) (c : Nat) (x : Xfer) (host : Bool) (a : Nat) (n : Nat) (bad : List Nat) :
    (State.pieceRead s c x host a n bad).sec = s.sec := by
  simp [State.pieceRead, foldl_sec]

@[simp] theorem State.storePiece_sec (s : State) (part : Nat) (host : Bool) (a : Nat) (bs : Bytes) (bad : List Nat) (cmd : Option (Nat × Nat × Nat)) :
    (State.storePiece s part host a bs bad cmd).sec = s.sec := by
  simp [State.storePiece, foldl_sec]

@[simp] theorem State.moveRows_sec (s : State) (c : Nat) (h : HostRead) (a n : Nat) (x : Xfer) : (State.moveRows s c h a n x).1.sec = s.sec := by
  induction n generalizing s x with
  | zero => rfl
  | succ n ih => unfold State.moveRows; simp only []; (repeat' split) <;> simp [ih]

@[simp] theorem State.moveCask_sec (s : State) (c : Nat) (h : HostRead) (a n : Nat) (x : Xfer) : (State.moveCask s c h a n x).1.sec = s.sec := by
  induction n generalizing s x with
  | zero => rfl
  | succ n ih => unfold State.moveCask; simp only []; (repeat' split) <;> simp [ih]

@[simp] theorem State.moveXfer_sec (s : State) (c : Nat) (h : HostRead) (n : Nat) (x : Xfer) : (s.moveXfer c h n x).1.sec = s.sec := by
  unfold State.moveXfer; split <;> simp

@[simp] theorem State.publishTask_sec (s : State) (c : Nat) (t : Task) (desc : Bytes) :
    (State.publishTask s c t desc).sec = s.sec := by
  unfold State.publishTask; (repeat' split) <;> simp [*]

@[simp] theorem State.releaseStall_sec (s : State) (c : Nat) : (State.releaseStall s c).sec = s.sec := by
  unfold State.releaseStall; simp only []; (repeat' split) <;> simp_all

@[simp] theorem State.caskOp_sec (s : State) (c : Nat) (w : U64) (ok : CaskCfg → Bool) (act : CaskCfg → State) (h_act : ∀ x0, (act x0).sec = s.sec) :
    (State.caskOp s c w ok act).sec = s.sec := by
  unfold State.caskOp; (repeat' split) <;> simp [*]

@[simp] theorem State.endCwait_sec (s : State) (c : Nat) (p : Bool) : (State.endCwait s c p).sec = s.sec := by
  simp [State.endCwait]

@[simp] theorem State.doCrd_sec (s : State) (c : Nat) (v : Nat) (idx : Nat) (off : Nat) (k : CaskCfg) :
    (State.doCrd s c v idx off k).sec = s.sec := by
  simp [State.doCrd]

@[simp] theorem State.doCpush_sec (s : State) (c : Nat) (v : Nat) (idx : Nat) (k : CaskCfg) :
    (State.doCpush s c v idx k).sec = s.sec := by
  simp [State.doCpush]

@[simp] theorem State.startDma_sec (s : State) (c : Nat) (w : U64) (into : Bool) (x : Core) (t : Task) :
    (State.startDma s c w into x t).sec = s.sec := by
  unfold State.startDma; simp only []; (repeat' split) <;> simp_all

@[simp] theorem State.issuePlain_sec (s : State) (c : Nat) (act : Core → Task → State) (h_act : ∀ x0 x1, (act x0 x1).sec = s.sec) :
    (State.issuePlain s c act).sec = s.sec := by
  unfold State.issuePlain; simp only []; (repeat' split) <;> simp_all

@[simp] theorem State.halt_sec (s : State) (f : Nat) (q : Nat) (error : Nat) : (State.halt s f q error).sec = s.sec := by
  simp [State.halt]

@[simp] theorem State.raise_sec (s : State) (f : Nat) (q : Nat) : (State.raise s f q).sec = s.sec := by
  simp [State.raise]

@[simp] theorem State.postEntry_sec (s : State) (f : Nat) (q : Nat) (seq : Nat) (status : Nat) (detail : Nat) (source : Nat) :
    (State.postEntry s f q seq status detail source).sec = s.sec := by
  simp [State.postEntry]

@[simp] theorem State.settle_sec (s : State) (f : Nat) (q : Nat) : (State.settle s f q).sec = s.sec := by
  simp [State.settle]

@[simp] theorem State.postAborted_sec (s : State) (f : Nat) (q : Nat) (status : Nat) (a : Aborted) :
    (State.postAborted s f q status a).sec = s.sec := by
  simp [State.postAborted]

@[simp] theorem State.postAborts_sec (s : State) (f q n : Nat) : (State.postAborts s f q n).sec = s.sec := by
  induction n generalizing s with
  | zero => rfl
  | succ n ih => unfold State.postAborts; simp only []; (repeat' split) <;> simp [ih]

@[simp] theorem State.ringTail_sec (s : State) (f : Part) (q : Fin 64) (idx : BitVec 16) :
    (State.ringTail s f q idx).sec = s.sec := by
  simp [State.ringTail]

@[simp] theorem State.ringHead_sec (s : State) (f : Part) (q : Fin 64) (idx : BitVec 16) :
    (State.ringHead s f q idx).sec = s.sec := by
  simp [State.ringHead]

@[simp] theorem State.takeDescriptor_sec (s : State) (f : Nat) (q : Nat) (d : Bytes) :
    (State.takeDescriptor s f q d).sec = s.sec := by
  unfold State.takeDescriptor; simp only []; (repeat' split) <;> simp_all

@[simp] theorem State.turnOn_sec (s : State) (f : Part) (q : Fin 64) (w : U32) : (State.turnOn s f q w).sec = s.sec := by
  simp [State.turnOn]

@[simp] theorem State.turnOff_sec (s : State) (f : Part) (q : Fin 64) (w : U32) : (State.turnOff s f q w).sec = s.sec := by
  simp [State.turnOff]

@[simp] theorem State.setMode_sec (s : State) (m : Nat) : (State.setMode s m).sec = s.sec := by
  simp [State.setMode]

@[simp] theorem State.closeLoop_sec (s : State) : (State.closeLoop s).sec = s.sec := by
  simp [State.closeLoop]

@[simp] theorem State.askClosed_sec (s : State) (f : Part) (w : U32) : (State.askClosed s f w).sec = s.sec := by
  simp [State.askClosed]

@[simp] theorem State.askHold_sec (s : State) (f : Part) (w : U32) : (State.askHold s f w).sec = s.sec := by
  simp [State.askHold]

@[simp] theorem State.askSoftware_sec (s : State) (f : Part) (w : U32) : (State.askSoftware s f w).sec = s.sec := by
  simp [State.askSoftware]

@[simp] theorem State.setDco_sec (s : State) (f : Part) (upper : U32) : (State.setDco s f upper).sec = s.sec := by
  simp [State.setDco]

@[simp] theorem State.setTod_sec (s : State) (f : Part) (upper : U32) : (State.setTod s f upper).sec = s.sec := by
  simp [State.setTod]

@[simp] theorem State.askStep_sec (s : State) (f : Part) (upper : U32) : (State.askStep s f upper).sec = s.sec := by
  simp [State.askStep]

@[simp] theorem State.askRealign_sec (s : State) (f : Part) (output : Fin 9) (w : U32) :
    (State.askRealign s f output w).sec = s.sec := by
  simp [State.askRealign]

@[simp] theorem State.realignStep_sec (s : State) (o : Nat) : (State.realignStep s o).sec = s.sec := by
  unfold State.realignStep; (repeat' split) <;> simp [*]

@[simp] theorem State.pokeQueue_sec (s : State) (f : Part) (q : Fin 64) (r : Nat) (w : U32) :
    (State.pokeQueue s f q r w).sec = s.sec := by
  simp [State.pokeQueue]

@[simp] theorem State.pokeFn_sec (s : State) (f : Part) (off : Nat) (w : U32) : (State.pokeFn s f off w).sec = s.sec := by
  simp [State.pokeFn]

@[simp] theorem State.pokeBar2_sec (s : State) (f : Part) (off : Nat) (w : U32) : (State.pokeBar2 s f off w).sec = s.sec := by
  simp [State.pokeBar2]

@[simp] theorem State.pokeCin_sec (s : State) (off : Nat) (w : U32) : (State.pokeCin s off w).sec = s.sec := by
  simp [State.pokeCin]

@[simp] theorem State.setQl_sec (s : State) (i : Nat) (ql : Nat) : (State.setQl s i ql).sec = s.sec := by
  simp [State.setQl]

theorem iteEq_sec {c : Prop} [Decidable c] {s a b : State} (h1 : a.sec = s.sec) (h2 : b.sec = s.sec) :
    (if c then a else b).sec = s.sec := by
  split <;> assumption

@[simp] theorem State.pokeTmg_sec (s : State) (off : Nat) (w : U32) : (State.pokeTmg s off w).sec = s.sec := by
  refine iteEq_sec ?_ (iteEq_sec ?_ (iteEq_sec ?_ (iteEq_sec ?_ (iteEq_sec ?_ (iteEq_sec ?_ (iteEq_sec ?_ (iteEq_sec ?_ (iteEq_sec ?_
    (iteEq_sec ?_ (iteEq_sec ?_ ?_))))))))))
  · split <;> simp
  · exact iteEq_sec rfl rfl
  · simp
  · rfl
  · simp
  · rfl
  · simp
  · rfl
  · rfl
  · exact iteEq_sec (by simp) rfl
  · exact iteEq_sec (by simp) rfl
  · rfl

@[simp] theorem State.pokeRange_sec (s : State) (off : Nat) (w : U32) : (State.pokeRange s off w).sec = s.sec := by
  simp [State.pokeRange]

@[simp] theorem State.pokeFw_sec (s : State) (w : U32) : (State.pokeFw s w).sec = s.sec := by
  unfold State.pokeFw; (repeat' split) <;> simp [*]

@[simp] theorem State.pokeMgt_sec (s : State) (off : Nat) (w : U32) : (State.pokeMgt s off w).sec = s.sec := by
  simp [State.pokeMgt]

@[simp] theorem State.pokeRec_sec (s : State) (off : Nat) (w : U32) : (State.pokeRec s off w).sec = s.sec := by
  unfold State.pokeRec; (repeat' split) <;> simp [*]

@[simp] theorem State.pokePwr_sec (s : State) (off : Nat) (w : U32) : (State.pokePwr s off w).sec = s.sec := by
  simp [State.pokePwr]

@[simp] theorem State.freeStage_sec (s : State) (r : Nat) (id : Nat) (m : NodeRun) : (State.freeStage s r id m).sec = s.sec := by
  unfold State.freeStage
  dsimp only
  split
  · split
    · rw [State.mapFrame_sec]
    · rfl
  · rfl

@[simp] theorem State.haltEngine_sec (s : State) (e : Nat) : (State.haltEngine s e).sec = s.sec := by
  simp [State.haltEngine]

@[simp] theorem State.abortFrameApplies_sec (s : State) : (State.abortFrameApplies s).sec = s.sec := by
  unfold State.abortFrameApplies
  refine foldl_sec _ (fun s x => ?_) _ _
  split
  · split <;> simp
  · rfl

@[simp] theorem State.abortQueue_sec (s : State) (f : Nat) (q : Nat) : (State.abortQueue s f q).sec = s.sec := by
  simp [State.abortQueue, foldl_sec]

@[simp] theorem State.renewPorts_sec (s : State) : (State.renewPorts s).sec = s.sec := by
  simp [State.renewPorts, foldl_sec]

@[simp] theorem State.scrub_sec (s : State) : (State.scrub s).sec = s.sec := by
  simp [State.scrub]

end Sys2Proof.Machine
end

