-- ==== Sys2Proof/Laws/FrameImg.lean ====
section
/-! SUPPORT. The operations that leave the structure in force and its applies alone: one lemma for each, which says so (`.img` is the field of State that holds it). -/

namespace Sys2Proof.Machine

set_option linter.all false

@[simp] theorem ite_img (c : Prop) [Decidable c] (a b : State) : (if c then a else b).img = if c then a.img else b.img := by
  split <;> rfl

theorem foldl_img {α : Type} (f : State → α → State) (h : ∀ s x, (f s x).img = s.img) (l : List α) (s : State) :
    (l.foldl f s).img = s.img := by
  induction l generalizing s with
  | nil => rfl
  | cons a t ih => rw [List.foldl_cons, ih, h]

theorem foldlPair_img {α β : Type} (f : State × β → α → State × β) (h : ∀ a x, (f a x).1.img = a.1.img) (l : List α)
    (a : State × β) : (l.foldl f a).1.img = a.1.img := by
  induction l generalizing a with
  | nil => rfl
  | cons x t ih => rw [List.foldl_cons, ih, h]

@[simp] theorem State.sendEvents_img (s : State) : (State.sendEvents s).img = s.img := by
  simp [State.sendEvents]

@[simp] theorem State.event_img (s : State) (f : Nat) (c : Nat) (source : Nat) : (State.event s f c source).img = s.img := by
  unfold State.event; (repeat' split) <;> simp [*]

@[simp] theorem State.eventAll_img (s : State) (c : Nat) (source : Nat) : (State.eventAll s c source).img = s.img := by
  simp [State.eventAll, foldl_img]

@[simp] theorem State.memWrite_img (s : State) (a : Nat) (bs : Bytes) (poison : Bool) :
    (State.memWrite s a bs poison).img = s.img := by
  simp [State.memWrite]

@[simp] theorem State.memWriteMixed_img (s : State) (a : Nat) (bs : Bytes) (pz : Nat → Bool) :
    (State.memWriteMixed s a bs pz).img = s.img := by
  simp [State.memWriteMixed, foldl_img]

@[simp] theorem State.fix_img (s : State) (f : Nat) (q : Nat) (pos : Nat) (status : Nat) (detail : Nat) (source : Nat) :
    (State.fix s f q pos status detail source).img = s.img := by
  unfold State.fix; simp only []; (repeat' split) <;> simp_all

@[simp] theorem State.refuse_img (s : State) (f : Nat) (q : Nat) (pos : Nat) (detail : Nat) :
    (State.refuse s f q pos detail).img = s.img := by
  simp [State.refuse]

@[simp] theorem State.setCmd_img (s : State) (f : Nat) (q : Nat) (pos : Nat) (g : Cmd → Cmd) :
    (State.setCmd s f q pos g).img = s.img := by
  simp [State.setCmd]

@[simp] theorem State.underWay_img (s : State) (f : Nat) (q : Nat) (pos : Nat) (status : Nat) (detail : Nat) (source : Nat) :
    (State.underWay s f q pos status detail source).img = s.img := by
  simp [State.underWay]

@[simp] theorem State.driveSafeOff_img (s : State) (on : Bool) : (State.driveSafeOff s on).img = s.img := by
  simp [State.driveSafeOff]

@[simp] theorem State.sendCan_img (s : State) (ident : Nat) (typ : Nat) (alive : BitVec 8) :
    (State.sendCan s ident typ alive).img = s.img := by
  simp [State.sendCan]

@[simp] theorem State.setSaf_img (s : State) (st : SafSt) : (State.setSaf s st).img = s.img := by
  simp [State.setSaf]

@[simp] theorem State.enterSafe_img (s : State) (cause : Nat) (gtc : Nat) (source : Nat) (hw : Bool) :
    (State.enterSafe s cause gtc source hw).img = s.img := by
  simp [State.enterSafe]

@[simp] theorem State.latchCause_img (s : State) (cause : Nat) (source : Nat) :
    (State.latchCause s cause source).img = s.img := by
  simp [State.latchCause]

@[simp] theorem State.undefine_img (s : State) (f : Nat) (addr : Nat) (n : Nat) : (State.undefine s f addr n).img = s.img := by
  unfold State.undefine; (repeat' split) <;> simp [*]

@[simp] theorem State.reroute_img (s : State) : (State.reroute s).img = s.img := by
  simp [State.reroute, foldl_img]

@[simp] theorem State.sendFlit_img (s : State) (p : Nat) (idle : Bool) (payload : Bytes) :
    (State.sendFlit s p idle payload).img = s.img := by
  simp [State.sendFlit]

@[simp] theorem State.pump_img (s : State) (p : Nat) (l : List Bytes) : (State.pump s p l).img = s.img := by
  induction l generalizing s with
  | nil => simp [State.pump]
  | cons b t ih => unfold State.pump; split <;> simp [ih]

@[simp] theorem State.sendIdle_img (s : State) (p : Nat) : (State.sendIdle s p).img = s.img := by
  simp [State.sendIdle]

@[simp] theorem State.nak_img (s : State) (p : Nat) : (State.nak s p).img = s.img := by
  simp [State.nak]

@[simp] theorem State.portSend_img (s : State) (p : Nat) (lane : Nat) (m : Msg) : (State.portSend s p lane m).img = s.img := by
  simp [State.portSend]

@[simp] theorem State.strand_img (s : State) (m : Msg) : (State.strand s m).img = s.img := by
  simp [State.strand]

@[simp] theorem State.forward_img (s : State) (m : Msg) : (State.forward s m).img = s.img := by
  unfold State.forward; (repeat' split) <;> simp [*]

@[simp] theorem State.sendMsg_img (s : State) (m : Msg) : (State.sendMsg s m).img = s.img := by
  simp [State.sendMsg]

@[simp] theorem State.flushStuck_img (s : State) : (State.flushStuck s).img = s.img := by
  simp [State.flushStuck, foldl_img]

@[simp] theorem State.advertise_img (s : State) : (State.advertise s).img = s.img := by
  simp [State.advertise]

@[simp] theorem State.tellLinks_img (s : State) : (State.tellLinks s).img = s.img := by
  simp [State.tellLinks]

@[simp] theorem State.linksChanged_img (s : State) : (State.linksChanged s).img = s.img := by
  simp [State.linksChanged]

@[simp] theorem State.sendRequest_img (s : State) (m : Msg) (cmd : Option (Nat × Nat × Nat)) :
    (State.sendRequest s m cmd).img = s.img := by
  simp [State.sendRequest]

@[simp] theorem State.request_img (s : State) (m : Msg) (cmd : Option (Nat × Nat × Nat)) :
    (State.request s m cmd).img = s.img := by
  simp [State.request]

@[simp] theorem State.issueWaiting_img (s : State) (d n : Nat) : (State.issueWaiting s d n).img = s.img := by
  induction n generalizing s with
  | zero => rfl
  | succ n ih => unfold State.issueWaiting; (repeat' split) <;> simp [ih]

@[simp] theorem State.answered_img (s : State) (src : Nat) (reqId : Nat) : (State.answered s src reqId).img = s.img := by
  simp [State.answered]

@[simp] theorem State.markRun_img (s : State) (r : Nat) (id : Nat) (poisoned : Bool) (lost : Bool) :
    (State.markRun s r id poisoned lost).img = s.img := by
  simp [State.markRun]

@[simp] theorem State.markCmd_img (s : State) (cmd : Option (Nat × Nat × Nat)) (poisoned : Bool) (lost : Bool) :
    (State.markCmd s cmd poisoned lost).img = s.img := by
  unfold State.markCmd; (repeat' split) <;> simp [*]

@[simp] theorem State.poisonRead_img (s : State) (part : Nat) (a : Nat) (source : Nat) :
    (State.poisonRead s part a source).img = s.img := by
  simp [State.poisonRead]

@[simp] theorem State.deliverTo_img (s : State) (part : Nat) (a : Nat) (source : Nat) (data : Bytes) (poison : Bool) :
    (State.deliverTo s part a source data poison).img = s.img := by
  simp [State.deliverTo]

@[simp] theorem State.remoteWrite_img (s : State) (board : Nat) (part : Nat) (a : Nat) (bs : Bytes) (poison : Bool) (cmd : Option (Nat × Nat × Nat)) :
    (State.remoteWrite s board part a bs poison cmd).img = s.img := by
  simp [State.remoteWrite, foldl_img]

@[simp] theorem State.answer_img (s : State) (m : Msg) : (State.answer s m).img = s.img := by
  simp [State.answer]

@[simp] theorem State.answerLine_img (s : State) (typ : Nat) (r : HomeReq) : (State.answerLine s typ r).img = s.img := by
  simp [State.answerLine]

@[simp] theorem State.answerBare_img (s : State) (typ : Nat) (dest : Nat) (reqId : Nat) (part : Nat) (addr : Nat) :
    (State.answerBare s typ dest reqId part addr).img = s.img := by
  simp [State.answerBare]

@[simp] theorem State.snoop_img (s : State) (typ : Nat) (req : HomeReq) (boards : List Nat) :
    (State.snoop s typ req boards).img = s.img := by
  simp [State.snoop, foldl_img]

@[simp] theorem State.mergeLine_img (s : State) (r : HomeReq) (poison : Bool) : (State.mergeLine s r poison).img = s.img := by
  simp [State.mergeLine, foldl_img]

@[simp] theorem State.finishReq_img (s : State) (r : HomeReq) (was : Option DirEnt) (gone : List Nat) :
    (State.finishReq s r was gone).img = s.img := by
  unfold State.finishReq; (repeat' split) <;> simp [*]

@[simp] theorem State.beginReq_img (s : State) (r : HomeReq) : (State.beginReq s r).img = s.img := by
  unfold State.beginReq; simp only []; (repeat' split) <;> simp_all

@[simp] theorem State.startReq_img (s : State) (r : HomeReq) : (State.startReq s r).img = s.img := by
  unfold State.startReq; (repeat' split) <;> simp [*]

@[simp] theorem State.drainQueue_img (s : State) : (State.drainQueue s).img = s.img := by
  simp [State.drainQueue, foldl_img]

@[simp] theorem State.settleLeaving_img (s : State) : (State.settleLeaving s).img = s.img := by
  simp [State.settleLeaving]

@[simp] theorem State.snoopAnswer_img (s : State) (board : Nat) (a : Nat) (inFlight : Bool) :
    (State.snoopAnswer s board a inFlight).img = s.img := by
  unfold State.snoopAnswer; (repeat' split) <;> simp [*]

@[simp] theorem State.pruneKept_img (s : State) (h : FabHdr) : (State.pruneKept s h).img = s.img := by
  simp [State.pruneKept]

@[simp] theorem State.resendKept_img (s : State) (k : Kept) : (State.resendKept s k).img = s.img := by
  simp [State.resendKept]

@[simp] theorem State.homeRequest_img (s : State) (typ : ReqType) (h : FabHdr) (mask : List Bool) (data : Bytes) (poison : Bool) :
    (State.homeRequest s typ h mask data poison).img = s.img := by
  unfold State.homeRequest; simp only []; (repeat' split) <;> simp_all

@[simp] theorem State.withdraw_img (s : State) (r : Bytes) : (State.withdraw s r).img = s.img := by
  simp [State.withdraw, foldl_img]

@[simp] theorem State.recall_img (s : State) (part : Nat) (lines : List Nat) : (State.recall s part lines).img = s.img := by
  simp [State.recall, foldl_img]

@[simp] theorem State.putPart_img (s : State) (part : Nat) (a : Nat) (bs : Bytes) (poison : Bool) :
    (State.putPart s part a bs poison).img = s.img := by
  simp [State.putPart]

@[simp] theorem State.put_img (s : State) (part : Nat) (a : Nat) (bs : Bytes) (poison : Bool) :
    (State.put s part a bs poison).img = s.img := by
  simp [State.put, foldl_img]

@[simp] theorem State.putMixed_img (s : State) (part : Nat) (a : Nat) (bs : Bytes) (pz : Nat → Bool) :
    (State.putMixed s part a bs pz).img = s.img := by
  simp [State.putMixed, foldl_img]

@[simp] theorem State.takeOver_img (s : State) : (State.takeOver s).img = s.img := by
  simp [State.takeOver, foldl_img]

@[simp] theorem State.evict_img (s : State) (l : RLine) : (State.evict s l).img = s.img := by
  simp [State.evict]

theorem State.cellarAlloc_img (s : State) (x : Bytes) (a : Nat) (d : Bool) (t : State) (h : s.cellarAlloc x a d = some t) :
    t.img = s.img := by
  unfold State.cellarAlloc at h
  simp only [] at h
  (repeat' split at h) <;> (try cases h) <;> simp

@[simp] theorem State.cellarAllocD_img (s : State) (x : Bytes) (a : Nat) (d : Bool) : ((s.cellarAlloc x a d).getD s).img = s.img := by
  cases h : s.cellarAlloc x a d with
  | none => rfl
  | some t => exact State.cellarAlloc_img _ _ _ _ _ h

@[simp] theorem State.deliver_img (s : State) (r : CellarReq) (data : Bytes) (poison : Bool) :
    (State.deliver s r data poison).img = s.img := by
  simp [State.deliver]

@[simp] theorem State.remoteAccess_img (s : State) (r : CellarReq) : (State.remoteAccess s r).img = s.img := by
  unfold State.remoteAccess
  simp only []
  split
  · (repeat' split) <;> simp
  · split
    · rename_i t h
      have ht : t.img = s.img := by
        split at h
        · split at h
          · have := State.cellarAlloc_img _ _ _ _ _ h
            simp at this
            exact this
          · cases h
        · cases h
      simp [ht]
    · split <;> simp

@[simp] theorem State.serveWaiters_img (s : State) (l : List CellarReq) : (State.serveWaiters s l).img = s.img := by
  simp [State.serveWaiters, foldl_img]

@[simp] theorem State.installLine_img (s : State) (a : Nat) (st : CohSt) (data : Option (Bytes × Bool)) :
    (State.installLine s a st data).img = s.img := by
  unfold State.installLine; (repeat' split) <;> simp [*]

@[simp] theorem State.refetch_img (s : State) (l : RLine) : (State.refetch s l).img = s.img := by
  simp [State.refetch]

@[simp] theorem State.maskedWrite_img (s : State) (r : CellarReq) : (State.maskedWrite s r).img = s.img := by
  simp [State.maskedWrite]

@[simp] theorem State.cellarCount_img (s : State) (r : CellarReq) : (State.cellarCount s r).img = s.img := by
  unfold State.cellarCount
  simp only []
  (repeat' split) <;> simp

@[simp] theorem State.localAccess_img (s : State) (r : CellarReq) : (State.localAccess s r).img = s.img := by
  simp [State.localAccess]

@[simp] theorem State.poisonLine_img (s : State) (a : Nat) : (State.poisonLine s a).img = s.img := by
  simp [State.poisonLine]

@[simp] theorem State.takeSource_img (s : State) (cmd : Option (Nat × Nat × Nat)) (c : Cmd) (f : Nat) (q : Nat) (a : Nat) (data : Bytes) (poison : Bool) :
    (State.takeSource s cmd c f q a data poison).img = s.img := by
  unfold State.takeSource; simp only []; (repeat' split) <;> simp_all

@[simp] theorem State.takeCoreLine_img (s : State) (c : Nat) (part : Nat) (a : Nat) (data : Bytes) (poison : Bool) :
    (State.takeCoreLine s c part a data poison).img = s.img := by
  simp [State.takeCoreLine]

@[simp] theorem State.takeNokeep_img (s : State) (u : Unans) (a : Nat) (data : Bytes) (poison : Bool) :
    (State.takeNokeep s u a data poison).img = s.img := by
  unfold State.takeNokeep; (repeat' split) <;> simp [*]

@[simp] theorem State.failLine_img (s : State) (a : Nat) : (State.failLine s a).img = s.img := by
  unfold State.failLine; (repeat' split) <;> simp [*, foldl_img]

@[simp] theorem State.failRequest_img (s : State) (u : Unans) : (State.failRequest s u).img = s.img := by
  unfold State.failRequest; (repeat' split) <;> simp [*]

@[simp] theorem State.failMsg_img (s : State) (u : Unans) : (State.failMsg s u).img = s.img := by
  simp [State.failMsg]

@[simp] theorem State.useDma_img (s : State) (j : Job) : (State.useDma s j).img = s.img := by
  simp [State.useDma]

@[simp] theorem State.useSealing_img (s : State) (j : Job) : (State.useSealing s j).img = s.img := by
  simp [State.useSealing]

@[simp] theorem State.useMessage_img (s : State) (n : Nat) (j : Job) : (State.useMessage s n j).img = s.img := by
  simp [State.useMessage]

theorem poisonReads_img (p src : Nat) (g : State → Nat → Nat) (l : List Nat) (s : State) :
    (l.foldl (fun s i => s.poisonRead p (g s i) src) s).img = s.img :=
  foldl_img _ (fun s x => State.poisonRead_img s p (g s x) src) l s

@[simp] theorem State.readLocal_img (s : State) (f : Nat) (a : Nat) (n : Nat) : (State.readLocal s f a n).img = s.img := by
  exact poisonReads_img f (srcPart f) (fun s l => s.struct.boardId * 2 ^ 40 + 128 * l) _ s

@[simp] theorem State.toHost_img (s : State) (f : Nat) (q : Nat) (seq : Nat) (addr : Nat) (bs : Bytes) (first : Nat) (pz : Nat → Bool) :
    (State.toHost s f q seq addr bs first pz).img = s.img := by
  simp [State.toHost, foldl_img]

@[simp] theorem State.toPlace_img (s : State) (f : Nat) (p : Place) (bs : Bytes) (pz : Nat → Bool) (cmd : Option (Nat × Nat × Nat)) :
    (State.toPlace s f p bs pz cmd).img = s.img := by
  unfold State.toPlace; (repeat' split) <;> simp [*, foldl_img]

@[simp] theorem State.settleEntry_img (s : State) (a : Nat) (e : Option DirEnt) : (State.settleEntry s a e).img = s.img := by
  unfold State.settleEntry; (repeat' split) <;> simp [*]

@[simp] theorem State.eviction_img (s : State) (h : FabHdr) (data : Option (Bytes × Bool)) :
    (State.eviction s h data).img = s.img := by
  unfold State.eviction; simp only []; (repeat' split) <;> simp_all

@[simp] theorem State.snoopReply_img (s : State) (home : Nat) (typ : Nat) (reqId : Nat) (a : Nat) (data : Bytes) (poison : Bool) :
    (State.snoopReply s home typ reqId a data poison).img = s.img := by
  simp [State.snoopReply]

@[simp] theorem State.ringWrite_img (s : State) (w : Bytes) (off : Nat) (bs : Bytes) (poison : Bool) :
    (State.ringWrite s w off bs poison).img = s.img := by
  simp [State.ringWrite]

@[simp] theorem State.addMail_img (s : State) (m : MailIn) : (State.addMail s m).img = s.img := by
  simp [State.addMail]

@[simp] theorem State.fixSend_img (s : State) (cmd : Option (Nat × Nat × Nat)) (source : Nat) :
    (State.fixSend s cmd source).img = s.img := by
  unfold State.fixSend; (repeat' split) <;> simp [*]

@[simp] theorem State.ownMailDone_img (s : State) (reqId : Nat) : (State.ownMailDone s reqId).img = s.img := by
  unfold State.ownMailDone; (repeat' split) <;> simp [*]

@[simp] theorem State.passMails_img (s : State) (w : Bytes) (x : Nat) (l : List MailIn) : (State.passMails s w x l).img = s.img := by
  induction l generalizing s with
  | nil => simp [State.passMails]
  | cons b t ih => unfold State.passMails; simp only []; (repeat' split) <;> simp [ih]

@[simp] theorem State.mailWhole_img (s : State) (w : Bytes) (m : MailIn) : (State.mailWhole s w m).img = s.img := by
  simp [State.mailWhole]

@[simp] theorem State.recallSource_img (s : State) (f : Nat) (c : Cmd) (o : Nat) (n : Nat) :
    (State.recallSource s f c o n).img = s.img := by
  unfold State.recallSource; (repeat' split) <;> simp [*]

@[simp] theorem State.startMessage_img (s : State) (dest : Nat) (f : Nat) (q : Nat) (c : Cmd) :
    (State.startMessage s dest f q c).img = s.img := by
  simp [State.startMessage]

@[simp] theorem State.sendChunk_img (s : State) (u : Unans) (o : Nat) (bs : Bytes) (poison : Bool) (last : Bool) :
    (State.sendChunk s u o bs poison last).img = s.img := by
  unfold State.sendChunk; simp only []; (repeat' split) <;> simp_all

@[simp] theorem State.mapMessage_img (s : State) (n : Nat) (g : Engine → Engine) : (State.mapMessage s n g).img = s.img := by
  simp [State.mapMessage]

@[simp] theorem State.runMessage_img (s : State) (n : Nat) : (State.runMessage s n).img = s.img := by
  unfold State.runMessage; simp only []; (repeat' split) <;> simp_all

@[simp] theorem State.noteFw_img (s : State) (comp : Fin 4) (slot : Bool) (event : String) :
    (State.noteFw s comp slot event).img = s.img := by
  simp [State.noteFw]

@[simp] theorem State.finishBurn_img (s : State) (comp : Fin 4) : (State.finishBurn s comp).img = s.img := by
  unfold State.finishBurn; (repeat' split) <;> simp [*]

@[simp] theorem State.dropTrial_img (s : State) (comp : Fin 4) : (State.dropTrial s comp).img = s.img := by
  simp [State.dropTrial]

@[simp] theorem State.bootComponent_img (s : State) (c : Fin 4) : (s.bootComponent c).1.img = s.img := by
  simp [State.bootComponent]

@[simp] theorem State.enterRecovery_img (s : State) (cause : Nat) : (State.enterRecovery s cause).img = s.img := by
  simp [State.enterRecovery]

@[simp] theorem State.applyOverride_img (s : State) : (State.applyOverride s).img = s.img := by
  simp [State.applyOverride]

@[simp] theorem State.evalCompat_img (s : State) : (State.evalCompat s).img = s.img := by
  simp [State.evalCompat]

@[simp] theorem State.loadCal_img (s : State) : (State.loadCal s).img = s.img := by
  simp [State.loadCal, foldl_img] <;> (intros; rw [foldl_img]; intros; simp)

@[simp] theorem State.ledgerAfterAux_img (s : State) : (State.ledgerAfterAux s).img = s.img := by
  simp [State.ledgerAfterAux]

@[simp] theorem State.checkRetention_img (s : State) : (State.checkRetention s).img = s.img := by
  simp [State.checkRetention]

@[simp] theorem State.restartTime_img (s : State) : (State.restartTime s).img = s.img := by
  simp [State.restartTime]

@[simp] theorem State.settleRetention_img (s : State) : (State.settleRetention s).img = s.img := by
  simp [State.settleRetention]

@[simp] theorem State.bootFirmware_img (s : State) (saf : Bool) : (State.bootFirmware s saf).img = s.img := by
  unfold State.bootFirmware; (repeat' split) <;> simp [*, foldl_img]

@[simp] theorem State.bootTime_img (s : State) : (State.bootTime s).img = s.img := by
  simp [State.bootTime]

@[simp] theorem State.bootNow_img (s : State) : (State.bootNow s).img = s.img := by
  simp [State.bootNow]

@[simp] theorem State.announceReset_img (s : State) (cold : Bool) (cause : String) (source : Nat) :
    (State.announceReset s cold cause source).img = s.img := by
  unfold State.announceReset; simp only []; (repeat' split) <;> simp_all

@[simp] theorem State.takeFwAction_img (s : State) (a : FwAction) (comp : Fin 4) : (State.takeFwAction s a comp).img = s.img := by
  simp [State.takeFwAction]

@[simp] theorem State.askMark_img (s : State) (f : Part) (w : U32) : (State.askMark s f w).img = s.img := by
  simp [State.askMark]

@[simp] theorem State.askCommit_img (s : State) (f : Part) (w : U32) : (State.askCommit s f w).img = s.img := by
  simp [State.askCommit]

@[simp] theorem State.askCancel_img (s : State) (f : Part) (w : U32) : (State.askCancel s f w).img = s.img := by
  simp [State.askCancel]

@[simp] theorem State.askBurn_img (s : State) (f : Part) (w : U32) : (State.askBurn s f w).img = s.img := by
  simp [State.askBurn]

@[simp] theorem State.endMarkTrial_img (s : State) (c : Fin 4) : (State.endMarkTrial s c).img = s.img := by
  simp [State.endMarkTrial]

@[simp] theorem State.endCommit_img (s : State) (c : Fin 4) : (State.endCommit s c).img = s.img := by
  simp [State.endCommit]

@[simp] theorem State.endCancelTrial_img (s : State) (c : Fin 4) : (State.endCancelTrial s c).img = s.img := by
  simp [State.endCancelTrial]

@[simp] theorem State.endBurn_img (s : State) (c : Fin 4) : (State.endBurn s c).img = s.img := by
  unfold State.endBurn; simp only []; (repeat' split) <;> simp_all

@[simp] theorem State.askBegin_img (s : State) (f : Part) (w : U32) : (State.askBegin s f w).img = s.img := by
  simp [State.askBegin]

@[simp] theorem State.askRun_img (s : State) (f : Part) (w : U32) : (State.askRun s f w).img = s.img := by
  simp [State.askRun]

@[simp] theorem State.askProgram_img (s : State) (f : Part) (w : U32) : (State.askProgram s f w).img = s.img := by
  simp [State.askProgram]

@[simp] theorem State.fillWindow_img (s : State) (f : Part) (off : Nat) (size : Nat) (v : U64) :
    (State.fillWindow s f off size v).img = s.img := by
  simp [State.fillWindow]

@[simp] theorem State.mapCores_img (s : State) (g : Core → Core) : (State.mapCores s g).img = s.img := by
  simp [State.mapCores]

@[simp] theorem State.resetCasks_img (s : State) (route : Nat) : (State.resetCasks s route).img = s.img := by
  simp [State.resetCasks]

@[simp] theorem State.freshVecs_img (s : State) (c : Nat) : (State.freshVecs s c).img = s.img := by
  simp [State.freshVecs]

@[simp] theorem State.install_img (s : State) (c : Nat) (t : Task) : (State.install s c t).img = s.img := by
  simp [State.install]

@[simp] theorem State.loadCode_img (s : State) (c : Nat) (t : Task) (blob : Nat) : (State.loadCode s c t blob).img = s.img := by
  simp [State.loadCode]

@[simp] theorem State.nextTask_img (s : State) (c : Nat) : (State.nextTask s c).img = s.img := by
  unfold State.nextTask; simp only []; (repeat' split) <;> simp_all

@[simp] theorem State.endTask_img (s : State) (c : Nat) : (State.endTask s c).img = s.img := by
  unfold State.endTask; simp only []; (repeat' split) <;> simp_all

@[simp] theorem State.finish_img (s : State) (c : Nat) (x : Core) : (State.finish s c x).img = s.img := by
  simp [State.finish]

@[simp] theorem State.takePreemption_img (s : State) (c : Nat) : (State.takePreemption s c).img = s.img := by
  unfold State.takePreemption; simp only []; (repeat' split) <;> simp_all

@[simp] theorem State.settleWait_img (s : State) (c : Nat) : (State.settleWait s c).img = s.img := by
  unfold State.settleWait; simp only []; (repeat' split) <;> simp_all

@[simp] theorem State.settleWaits_img (s : State) : (State.settleWaits s).img = s.img := by
  simp [State.settleWaits, foldl_img]

@[simp] theorem State.startTask_img (s : State) (c : Nat) (t : Task) (blob : Nat) : (State.startTask s c t blob).img = s.img := by
  simp [State.startTask]

@[simp] theorem State.settleSwap_img (s : State) (route : Nat) : (State.settleSwap s route).img = s.img := by
  simp [State.settleSwap]

@[simp] theorem State.gapTimer_img (s : State) (r : Nat) (st : RouteSt) : (State.gapTimer s r st).img = s.img := by
  simp [State.gapTimer]

@[simp] theorem State.setRouteSt_img (s : State) (r : Nat) (st : RouteSt) : (State.setRouteSt s r st).img = s.img := by
  simp [State.setRouteSt]

@[simp] theorem State.mapFrame_img (s : State) (r : Nat) (id : Nat) (g : Frame → Frame) :
    (State.mapFrame s r id g).img = s.img := by
  simp [State.mapFrame]

@[simp] theorem State.noteStale_img (s : State) (r : Nat) (cause : Nat) : (State.noteStale s r cause).img = s.img := by
  simp [State.noteStale]

@[simp] theorem State.published_img (s : State) (t : Struct) (r : Nat) (typ : Nat) (addr : Nat) (len : Nat) (exposure : Nat) :
    (State.published s t r typ addr len exposure).img = s.img := by
  simp [State.published]

@[simp] theorem State.frameDone_img (s : State) (r : Nat) (f : Frame) (status : Nat) (reason : Nat) :
    (State.frameDone s r f status reason).img = s.img := by
  simp [State.frameDone, foldl_img]

@[simp] theorem State.checkDeadline_img (s : State) (r : Nat) (f : Frame) : (State.checkDeadline s r f).img = s.img := by
  simp [State.checkDeadline]

@[simp] theorem State.epochCut_img (s : State) (r : Nat) (f : Frame) (valid : Bool) :
    (State.epochCut s r f valid).img = s.img := by
  simp [State.epochCut]

@[simp] theorem State.retire_img (s : State) (r : Nat) (id : Nat) : (State.retire s r id).img = s.img := by
  unfold State.retire; (repeat' split) <;> simp [*]

@[simp] theorem State.fixAll_img (s : State) (l : List (Nat × Nat × Nat)) (status : Nat) (detail : Nat) (source : Nat) :
    (State.fixAll s l status detail source).img = s.img := by
  simp [State.fixAll, foldl_img]

@[simp] theorem State.retireAborted_img (s : State) (r n : Nat) : (s.retireAborted r n).img = s.img := by
  induction n generalizing s with
  | zero => rfl
  | succ n ih => unfold State.retireAborted; (repeat' split) <;> simp [ih]

@[simp] theorem State.mapTasks_img (s : State) (p : Task → Bool) (g : Task → Task) : (State.mapTasks s p g).img = s.img := by
  simp [State.mapTasks]

@[simp] theorem State.stopTasks_img (s : State) (p : Task → Bool) : (State.stopTasks s p).img = s.img := by
  simp [State.stopTasks]

@[simp] theorem State.mapJobs_img (s : State) (g : Nat → StageJob → StageJob) : (State.mapJobs s g).img = s.img := by
  simp [State.mapJobs]

@[simp] theorem State.noteLevel_img (s : State) (level : BitVec 3) : (State.noteLevel s level).img = s.img := by
  simp [State.noteLevel]

@[simp] theorem State.epochAbandon_img (s : State) (r : Nat) (id : Nat) : (State.epochAbandon s r id).img = s.img := by
  unfold State.epochAbandon; (repeat' split) <;> simp [*]

@[simp] theorem State.associate_img (s : State) (c : Nat) (id : Nat) (start : Nat) (exposure : Nat) :
    (State.associate s c id start exposure).img = s.img := by
  simp [State.associate, foldl_img] <;> (intros; rw [foldl_img]; intros; simp)

@[simp] theorem State.slotCycle_img (s : State) (c : Nat) : (State.slotCycle s c).img = s.img := by
  unfold State.slotCycle; (repeat' split) <;> simp [*]

@[simp] theorem State.chargeEngine_img (s : State) (r : Nat) (m : NodeRun) : (State.chargeEngine s r m).img = s.img := by
  simp [State.chargeEngine]

@[simp] theorem State.startNode_img (s : State) (r : Nat) (f : Frame) (c : Bytes) : (State.startNode s r f c).img = s.img := by
  simp [State.startNode]

@[simp] theorem State.dispatch_img (s : State) (r : Nat) (id : Nat) (n : Nat) (trig : Nat) :
    (State.dispatch s r id n trig).img = s.img := by
  unfold State.dispatch; (repeat' split) <;> simp [*]

@[simp] theorem State.undefineCmd_img (s : State) (f : Nat) (q : Nat) (c : Cmd) : (State.undefineCmd s f q c).img = s.img := by
  simp [State.undefineCmd]

@[simp] theorem State.undefineCmds_img (s : State) (f : Nat) : (State.undefineCmds s f).img = s.img := by
  simp [State.undefineCmds, foldl_img]

@[simp] theorem State.dropWork_img (s : State) (f : Nat) : (State.dropWork s f).img = s.img := by
  simp [State.dropWork]

@[simp] theorem State.drainDst_img (s : State) (d : Nat) : (State.drainDst s d).img = s.img := by
  simp [State.drainDst]

@[simp] theorem State.noteIrregular_img (s : State) (c : Nat) (id : Nat) (long : Bool) (extra : Bool) :
    (State.noteIrregular s c id long extra).img = s.img := by
  simp [State.noteIrregular]

@[simp] theorem State.queueBeats_img (s : State) (d : Nat) (l : List Beat) : (State.queueBeats s d l).img = s.img := by
  simp [State.queueBeats]

@[simp] theorem State.pipeLine_img (s : State) (src : Nat) (ctx : Nat) (frame : Nat) (line : Nat) (plane : Nat) (b : Bytes) (poison : Bool) :
    (State.pipeLine s src ctx frame line plane b poison).img = s.img := by
  simp [State.pipeLine, foldl_img]

@[simp] theorem State.closeBeat_img (s : State) (src : Nat) (ctx : Nat) (frame : Nat) (pick : Nat → Bool) (data : Bytes) (poison : Bool) :
    (State.closeBeat s src ctx frame pick data poison).img = s.img := by
  simp [State.closeBeat, foldl_img]

@[simp] theorem State.stageLine_img (s : State) (src : Nat) (frameId : Nat) (ctx : Nat) (frame : Nat) (line : Nat) (plane : Nat) (b : Bytes) (poison : Bool) :
    (State.stageLine s src frameId ctx frame line plane b poison).img = s.img := by
  simp [State.stageLine, foldl_img]

@[simp] theorem State.deliverBeat_img (s : State) (d : Nat) : (State.deliverBeat s d).img = s.img := by
  unfold State.deliverBeat; simp only []; (repeat' split) <;> simp_all

@[simp] theorem State.mapJob_img (s : State) (i : Nat) (g : StageJob → StageJob) : (State.mapJob s i g).img = s.img := by
  simp [State.mapJob]

@[simp] theorem State.layRecord_img (s : State) (i : Nat) (j : StageJob) (a : Nat) (r : RecInfo) (desc : Bytes) (body : Payload) :
    (State.layRecord s i j a r desc body).img = s.img := by
  simp [State.layRecord]

@[simp] theorem State.notePoisoned_img (s : State) (i : Nat) (poison : Bool) (discard : Bool) :
    (State.notePoisoned s i poison discard).img = s.img := by
  simp [State.notePoisoned]

@[simp] theorem State.putRecord_img (s : State) (i : Nat) (j : StageJob) (o : Nat) (src : Nat) (off : Nat) (r : RecInfo) (desc : Bytes) (body : Payload) :
    (State.putRecord s i j o src off r desc body).img = s.img := by
  simp [State.putRecord]

@[simp] theorem State.jobDone_img (s : State) (i : Nat) : (State.jobDone s i).img = s.img := by
  simp [State.jobDone]

@[simp] theorem State.sendLines_img (s : State) (i : Nat) (src : Nat) (ctx : Nat) (key : Nat) (plane : Nat) (lines : List (Bytes × Bool)) :
    (State.sendLines s i src ctx key plane lines).img = s.img := by
  unfold State.sendLines; (repeat' split) <;> simp [*, foldl_img]

@[simp] theorem State.advancePyr_img (s : State) (c : Nat) : (State.advancePyr s c).img = s.img := by
  unfold State.advancePyr; (repeat' split) <;> simp [*, foldl_img]

@[simp] theorem State.advanceWrp_img (s : State) (i : Nat) (c : Nat) : (State.advanceWrp s i c).img = s.img := by
  unfold State.advanceWrp; (repeat' split) <;> simp [*]

@[simp] theorem State.storeLine_img (s : State) (part : Nat) (a : Nat) (w : Nat) (y : Nat) (l : List Int) :
    (State.storeLine s part a w y l).img = s.img := by
  simp [State.storeLine]

@[simp] theorem State.offerTiles_img (s : State) (i : Nat) (j : StageJob) (l : List (Nat × (Nat × Nat) × Bool)) :
    (State.offerTiles s i j l).img = s.img := by
  simp [State.offerTiles]

@[simp] theorem State.offerRows_img (s : State) (i : Nat) (rows : List (List Px)) : (State.offerRows s i rows).img = s.img := by
  unfold State.offerRows; (repeat' split) <;> simp [*]

@[simp] theorem State.sendDense_img (s : State) (i : Nat) (c : Nat) (rows : List (List Px)) (h : Nat) :
    (State.sendDense s i c rows h).img = s.img := by
  simp [State.sendDense]

@[simp] theorem State.floStore__img (s : State) (i : Nat) (j : StageJob) : (State.floStore_ s i j).img = s.img := by
  simp [State.floStore_, foldl_img]

@[simp] theorem State.advanceDense_img (s : State) (i : Nat) : (State.advanceDense s i).img = s.img := by
  unfold State.advanceDense; (repeat' split) <;> simp [*]

@[simp] theorem State.advanceTrk_img (s : State) : (State.advanceTrk s).img = s.img := by
  unfold State.advanceTrk; (repeat' split) <;> simp [*, foldl_img, foldlPair_img]

@[simp] theorem State.advance_img (s : State) (i : Nat) (c : Nat) : (State.advance s i c).img = s.img := by
  simp [State.advance]

@[simp] theorem State.putLine_img (s : State) (i : Nat) (port : Nat) (j : StageJob) (c : Nat) (id : Nat) (level : Nat) (data : Bytes) (poison : Bool) :
    (State.putLine s i port j c id level data poison).img = s.img := by
  simp [State.putLine]

@[simp] theorem State.closeInput_img (s : State) (i : Nat) (port : Nat) (j : StageJob) (c : Nat) :
    (State.closeInput s i port j c).img = s.img := by
  simp [State.closeInput]

@[simp] theorem State.putDense_img (s : State) (i : Nat) (j : StageJob) : (State.putDense s i j).img = s.img := by
  simp [State.putDense]

@[simp] theorem State.offerCells_img (s : State) (j : StageJob) (m : Nat) : (State.offerCells s j m).img = s.img := by
  simp [State.offerCells]

@[simp] theorem State.offerMatches_img (s : State) : (State.offerMatches s).img = s.img := by
  unfold State.offerMatches; (repeat' split) <;> simp [*]

@[simp] theorem State.putMatches_img (s : State) (j : StageJob) : (State.putMatches s j).img = s.img := by
  simp [State.putMatches]

@[simp] theorem State.endDense_img (s : State) (i : Nat) (j : StageJob) : (State.endDense s i j).img = s.img := by
  simp [State.endDense]

@[simp] theorem State.refit_img (s : State) : (State.refit s).img = s.img := by
  simp [State.refit, foldl_img]

@[simp] theorem State.setLoop_img (s : State) (l : LoopSt) : (State.setLoop s l).img = s.img := by
  simp [State.setLoop]

@[simp] theorem State.enterHold_img (s : State) : (State.enterHold s).img = s.img := by
  simp [State.enterHold]

@[simp] theorem State.stepGtc_img (s : State) (d : Int) : (State.stepGtc s d).img = s.img := by
  simp [State.stepGtc]

@[simp] theorem State.stepToInput_img (s : State) (i : Nat) (e : Int) : (State.stepToInput s i e).img = s.img := by
  simp [State.stepToInput]

@[simp] theorem State.reselect_img (s : State) : (State.reselect s).img = s.img := by
  unfold State.reselect; simp only []; (repeat' split) <;> simp_all

@[simp] theorem State.failInput_img (s : State) (i : Nat) (code : Nat) : (State.failInput s i code).img = s.img := by
  simp [State.failInput]

@[simp] theorem State.makeAvailable_img (s : State) (i : Nat) : (State.makeAvailable s i).img = s.img := by
  simp [State.makeAvailable]

@[simp] theorem State.judgeLock_img (s : State) (e : Int) : (State.judgeLock s e).img = s.img := by
  simp [State.judgeLock]

@[simp] theorem State.stepOnMeasure_img (s : State) (i : Nat) (e : Int) : (s.stepOnMeasure i e).1.img = s.img := by
  unfold State.stepOnMeasure; simp only []; (repeat' split) <;> simp

@[simp] theorem State.loopMeasure_img (s : State) (i : Nat) (e : Int) : (State.loopMeasure s i e).img = s.img := by
  simp [State.loopMeasure]

@[simp] theorem State.measure_img (s : State) (i : Nat) (e : Int) (freq : Int) (jump : Bool) (domainOk : Bool) :
    (State.measure s i e freq jump domainOk).img = s.img := by
  simp [State.measure]

@[simp] theorem State.failLanicy_img (s : State) : (State.failLanicy s).img = s.img := by
  simp [State.failLanicy, foldl_img]

@[simp] theorem State.setBackupActs_img (s : State) (v : Bool) : (State.setBackupActs s v).img = s.img := by
  simp [State.setBackupActs]

@[simp] theorem State.hearTime_img (s : State) (port : Nat) (m : TimeMsg) : (State.hearTime s port m).img = s.img := by
  simp [State.hearTime]

@[simp] theorem State.endFreqPulse_img (s : State) : (State.endFreqPulse s).img = s.img := by
  simp [State.endFreqPulse]

@[simp] theorem State.tmgCycle_img (s : State) : (State.tmgCycle s).img = s.img := by
  simp [State.tmgCycle]

@[simp] theorem State.measureVin_img (s : State) : (State.measureVin s).img = s.img := by
  simp [State.measureVin]

@[simp] theorem State.endVerify_img (s : State) : (State.endVerify s).img = s.img := by
  unfold State.endVerify; (repeat' split) <;> simp [*]

@[simp] theorem State.runMessages_img (s : State) : (State.runMessages s).img = s.img := by
  simp [State.runMessages, foldl_img]

@[simp] theorem State.resumeTasks_img (s : State) : (State.resumeTasks s).img = s.img := by
  simp [State.resumeTasks, foldl_img]

@[simp] theorem State.tick_img (s : State) : (State.tick s).img = s.img := by
  simp [State.tick]

@[simp] theorem State.badHeader_img (s : State) (port : Nat) : (State.badHeader s port).img = s.img := by
  simp [State.badHeader]

@[simp] theorem State.active_img (s : State) (port : Nat) : (State.active s port).img = s.img := by
  simp [State.active]

@[simp] theorem State.emitLine_img (s : State) (c pipe : Nat) (g : CtxFrame) (y : Nat) : (s.emitLine c pipe g y).1.img = s.img := by
  unfold State.emitLine
  refine foldlPair_img _ (fun a x => ?_) _ _
  dsimp only
  split <;> simp

@[simp] theorem State.emitChroma_img (s : State) (c : Nat) (pipe : Nat) (f : CtxFrame) :
    (State.emitChroma s c pipe f).img = s.img := by
  simp [State.emitChroma, foldl_img]

@[simp] theorem State.emitFrame_img (s : State) (c : Nat) (id : Nat) : (State.emitFrame s c id).img = s.img := by
  unfold State.emitFrame; (repeat' split) <;> simp [*, foldl_img, foldlPair_img]

@[simp] theorem State.closeFrame_img (s : State) (c : Nat) (short : Bool) : (State.closeFrame s c short).img = s.img := by
  unfold State.closeFrame; (repeat' split) <;> simp [*]

@[simp] theorem State.noteBacklog_img (s : State) (pipe : Nat) : (State.noteBacklog s pipe).img = s.img := by
  simp [State.noteBacklog]

@[simp] theorem State.takeLinePacket_img (s : State) (port : Nat) (c : Nat) (dt : Nat) (pixels : List Nat) (bad : Bool) :
    (State.takeLinePacket s port c dt pixels bad).img = s.img := by
  unfold State.takeLinePacket; (repeat' split) <;> simp [*]

@[simp] theorem State.scbCtl_img (s : State) (f : Part) (k : Nat) (w : U32) : (State.scbCtl s f k w).img = s.img := by
  simp [State.scbCtl]

@[simp] theorem State.scbPush_img (s : State) (f : Part) (k : Nat) (v : Byte) : (State.scbPush s f k v).img = s.img := by
  simp [State.scbPush]

@[simp] theorem State.scbPop_img (s : State) (b : Nat) : (s.scbPop b).1.img = s.img := by
  unfold State.scbPop; split <;> simp

@[simp] theorem State.enforcePins_img (s : State) (old : Struct) : (State.enforcePins s old).img = s.img := by
  simp [State.enforcePins]

@[simp] theorem State.enforceBoard_img (s : State) : (State.enforceBoard s).img = s.img := by
  simp [State.enforceBoard]

@[simp] theorem State.enforceInputs_img (s : State) : (State.enforceInputs s).img = s.img := by
  simp [State.enforceInputs]

@[simp] theorem State.enforceRoles_img (s : State) (old : Struct) : (State.enforceRoles s old).img = s.img := by
  simp [State.enforceRoles]

@[simp] theorem State.enforceOutputs_img (s : State) (old : Struct) : (State.enforceOutputs s old).img = s.img := by
  simp [State.enforceOutputs]

@[simp] theorem State.refreshVfs_img (s : State) : (State.refreshVfs s).img = s.img := by
  simp [State.refreshVfs]

@[simp] theorem State.enforceRegions_img (s : State) (old : Struct) : (State.enforceRegions s old).img = s.img := by
  unfold State.enforceRegions
  refine (foldl_img _ (fun s r => ?_) _ _).trans (foldl_img _ (fun s r => ?_) _ _)
  · refine (foldl_img _ (fun s l => ?_) _ _).trans rfl
    split
    · split <;> simp
    · rfl
  · rfl

@[simp] theorem State.enforceExports_img (s : State) (old : Struct) : (State.enforceExports s old).img = s.img := by
  simp [State.enforceExports, foldl_img]

@[simp] theorem State.enforceLinks_img (s : State) (old : Struct) : (State.enforceLinks s old).img = s.img := by
  simp [State.enforceLinks, foldl_img]

@[simp] theorem State.enforceCamera_img (s : State) (old : Struct) : (State.enforceCamera s old).img = s.img := by
  simp [State.enforceCamera]

@[simp] theorem State.enforceStreams_img (s : State) (old : Struct) : (State.enforceStreams s old).img = s.img := by
  simp [State.enforceStreams]

@[simp] theorem State.enforceStages_img (s : State) : (State.enforceStages s).img = s.img := by
  simp [State.enforceStages]

@[simp] theorem State.enforceSafety_img (s : State) (core : Option Bytes) : (State.enforceSafety s core).img = s.img := by
  unfold State.enforceSafety; (repeat' split) <;> simp [*]

@[simp] theorem State.checkerFails_img (s : State) (c : Nat × Nat) (g : Nat) : (State.checkerFails s c g).img = s.img := by
  unfold State.checkerFails; simp only []; (repeat' split) <;> simp_all

@[simp] theorem State.pairWrite_img (s : State) (f : Part) (w : U32) : (State.pairWrite s f w).img = s.img := by
  simp [State.pairWrite]

@[simp] theorem State.draw_img (s : State) (n : Nat) : (s.draw n).2.img = s.img := by simp [State.draw]

@[simp] theorem State.dropBlobs_img (s : State) (a : Nat) (n : Nat) : (State.dropBlobs s a n).img = s.img := by
  simp [State.dropBlobs]

@[simp] theorem State.failLoad_img (s : State) (f : Nat) (q : Nat) (pos : Nat) (status : Nat) (detail : Nat) (c : Cmd) (payload : Nat) :
    (State.failLoad s f q pos status detail c payload).img = s.img := by
  simp [State.failLoad]

@[simp] theorem State.openPackage_img (s : State) (f : Nat) (q : Nat) (c : Cmd) (b : Bytes) (key : Bytes) (ep : Bool) :
    (State.openPackage s f q c b key ep).img = s.img := by
  unfold State.openPackage; simp only []; split
  · simp
  · split
    · simp
    · split <;> simp

@[simp] theorem State.newMemoryKey_img (s : State) : (State.newMemoryKey s).img = s.img := by
  simp [State.newMemoryKey]

@[simp] theorem State.tagChanged_img (s : State) : (State.tagChanged s).img = s.img := by
  simp [State.tagChanged]

@[simp] theorem State.setSpdm_img (s : State) (p : SpdmPort) (x : Spdm) : (State.setSpdm s p x).img = s.img := by
  unfold State.setSpdm; (repeat' split) <;> simp [*]

@[simp] theorem State.endConsent_img (s : State) : (State.endConsent s).img = s.img := by
  unfold State.endConsent; (repeat' split) <;> simp [*]

@[simp] theorem State.clearRsq_img (s : State) (off : Nat) : (State.clearRsq s off).img = s.img := by
  simp [State.clearRsq]

@[simp] theorem State.clearCin_img (s : State) (off : Nat) : (State.clearCin s off).img = s.img := by
  simp [State.clearCin]

@[simp] theorem State.clearIsp_img (s : State) (off : Nat) : (State.clearIsp s off).img = s.img := by
  simp [State.clearIsp]

@[simp] theorem State.clearStage_img (s : State) (i : Nat) (r : Nat) : (State.clearStage s i r).img = s.img := by
  simp [State.clearStage]

@[simp] theorem State.clearMash_img (s : State) (off : Nat) : (State.clearMash s off).img = s.img := by
  simp [State.clearMash]

@[simp] theorem State.clearNec_img (s : State) (off : Nat) : (State.clearNec s off).img = s.img := by
  simp [State.clearNec]

@[simp] theorem State.clearMem_img (s : State) (off : Nat) : (State.clearMem s off).img = s.img := by
  simp [State.clearMem]

@[simp] theorem State.clearLnk_img (s : State) (off : Nat) : (State.clearLnk s off).img = s.img := by
  simp [State.clearLnk]

@[simp] theorem State.clearTmg_img (s : State) (off : Nat) : (State.clearTmg s off).img = s.img := by
  simp [State.clearTmg]

@[simp] theorem State.clearSaf_img (s : State) (off : Nat) : (State.clearSaf s off).img = s.img := by
  simp [State.clearSaf]

@[simp] theorem State.clearMgt_img (s : State) (off : Nat) : (State.clearMgt s off).img = s.img := by
  simp [State.clearMgt]

@[simp] theorem State.clearLog_img (s : State) (off : Nat) : (State.clearLog s off).img = s.img := by
  simp [State.clearLog]

@[simp] theorem State.debugServe_img (s : State) (op : DebugOp) : (State.debugServe s op).img = s.img := by
  unfold State.debugServe; (repeat' split) <;> simp [*]

@[simp] theorem State.memCorrected_img (s : State) (a : Nat) : (State.memCorrected s a).img = s.img := by
  simp [State.memCorrected]

@[simp] theorem State.memUncorrectable_img (s : State) (a : Nat) : (State.memUncorrectable s a).img = s.img := by
  simp [State.memUncorrectable]

@[simp] theorem State.countFind_img (s : State) (a : Nat) (e : EccFind) : (s.countFind a e).img = s.img := by
  cases e <;> simp [State.countFind]

@[simp] theorem State.pairFill_img (s : State) (a : Nat) : (State.pairFill s a).img = s.img := by
  simp [State.pairFill]

@[simp] theorem State.keepSeq_img (s : State) (l : Log) : (State.keepSeq s l).img = s.img := by
  simp [State.keepSeq]

@[simp] theorem State.appendNext_img (s : State) : (State.appendNext s).img = s.img := by
  unfold State.appendNext; (repeat' split) <;> simp [*]

@[simp] theorem State.norCopy_img (s : State) (ok : Bool) : (State.norCopy s ok).img = s.img := by
  unfold State.norCopy; (repeat' split) <;> simp [*]

@[simp] theorem State.appendMany_img (s : State) (n : Nat) : (State.appendMany s n).img = s.img := by
  induction n generalizing s with
  | zero => rfl
  | succ n ih => unfold State.appendMany; simp [ih]

@[simp] theorem State.copyMany_img (s : State) (n : Nat) : (State.copyMany s n).img = s.img := by
  induction n generalizing s with
  | zero => rfl
  | succ n ih => unfold State.copyMany; simp [ih]

@[simp] theorem State.endInterval_img (s : State) : (State.endInterval s).img = s.img := by
  simp [State.endInterval]

@[simp] theorem State.patrolUe_img (s : State) (block : Nat) (a : Nat) (intervened : Bool) :
    (State.patrolUe s block a intervened).img = s.img := by
  simp [State.patrolUe]

@[simp] theorem State.patrolBlock_img (s : State) (block : Nat) (errs : List Bytes) (intervened : Bool) :
    (State.patrolBlock s block errs intervened).img = s.img := by
  refine foldl_img _ (fun s x => ?_) _ _
  dsimp only
  split
  · rfl
  · split <;> simp

@[simp] theorem State.defer_img (s : State) (activity : Nat) : (State.defer s activity).img = s.img := by
  simp [State.defer]

@[simp] theorem State.setBg_img (s : State) (f : Part) (w : U32) : (State.setBg s f w).img = s.img := by
  simp [State.setBg]

@[simp] theorem State.askSource_img (s : State) (part : Nat) (board : Nat) (a : Nat) (n : Nat) (cmd : Option (Nat × Nat × Nat)) :
    (State.askSource s part board a n cmd).img = s.img := by
  simp [State.askSource, foldl_img]

@[simp] theorem State.sendOwn_img (s : State) (f : Nat) (q : Nat) (c : Cmd) : (State.sendOwn s f q c).img = s.img := by
  unfold State.sendOwn; simp only []; (repeat' split) <;> simp_all

@[simp] theorem State.readmit_img (s : State) (b : Nat) : (State.readmit s b).img = s.img := by
  simp [State.readmit]

@[simp] theorem State.returned_img (s : State) (b : Nat) (tag : Bytes) : (State.returned s b tag).img = s.img := by
  simp [State.returned]

@[simp] theorem State.dropHomed_img (s : State) (b : Nat) : (State.dropHomed s b).img = s.img := by
  simp [State.dropHomed, foldl_img]

@[simp] theorem State.dropHolder_img (s : State) (b : Nat) : (State.dropHolder s b).img = s.img := by
  simp [State.dropHolder, foldl_img]

@[simp] theorem State.oweCredits_img (s : State) (p : Nat) (m : Msg) (len : Nat) : (State.oweCredits s p m len).img = s.img := by
  simp [State.oweCredits]

@[simp] theorem State.relay_img (s : State) (p n : Nat) (b : Bytes) : (State.relay p n s b).1.img = s.img := by
  induction n generalizing s b with
  | zero => rfl
  | succ n ih => unfold State.relay; simp only []; (repeat' split) <;> simp [ih]

@[simp] theorem State.replay_img (s : State) (p : Nat) : (State.replay s p).img = s.img := by
  simp [State.replay]

@[simp] theorem State.restartMessage_img (s : State) (dest : Nat) (f : Nat) (q : Nat) (c : Cmd) :
    (State.restartMessage s dest f q c).img = s.img := by
  simp [State.restartMessage]

@[simp] theorem State.markFrame_img (s : State) (own : Nat × Nat × Nat) (poisoned : Bool) (lost : Bool) :
    (State.markFrame s own poisoned lost).img = s.img := by
  simp [State.markFrame]

@[simp] theorem State.markOwner_img (s : State) (c : Nat) (own : Nat × Nat × Nat) (b : Bool) :
    (State.markOwner s c own b).img = s.img := by
  simp [State.markOwner]

@[simp] theorem State.askPiece_img (s : State) (c : Nat) (x : Xfer) (a n : Nat) : (s.askPiece c x a n).1.img = s.img := by
  unfold State.askPiece; simp only []; split <;> simp [foldl_img]

@[simp] theorem State.pieceRead_img (s : State) (c : Nat) (x : Xfer) (host : Bool) (a : Nat) (n : Nat) (bad : List Nat) :
    (State.pieceRead s c x host a n bad).img = s.img := by
  simp [State.pieceRead, foldl_img]

@[simp] theorem State.storePiece_img (s : State) (part : Nat) (host : Bool) (a : Nat) (bs : Bytes) (bad : List Nat) (cmd : Option (Nat × Nat × Nat)) :
    (State.storePiece s part host a bs bad cmd).img = s.img := by
  simp [State.storePiece, foldl_img]

@[simp] theorem State.moveRows_img (s : State) (c : Nat) (h : HostRead) (a n : Nat) (x : Xfer) : (State.moveRows s c h a n x).1.img = s.img := by
  induction n generalizing s x with
  | zero => rfl
  | succ n ih => unfold State.moveRows; simp only []; (repeat' split) <;> simp [ih]

@[simp] theorem State.moveCask_img (s : State) (c : Nat) (h : HostRead) (a n : Nat) (x : Xfer) : (State.moveCask s c h a n x).1.img = s.img := by
  induction n generalizing s x with
  | zero => rfl
  | succ n ih => unfold State.moveCask; simp only []; (repeat' split) <;> simp [ih]

@[simp] theorem State.moveXfer_img (s : State) (c : Nat) (h : HostRead) (n : Nat) (x : Xfer) : (s.moveXfer c h n x).1.img = s.img := by
  unfold State.moveXfer; split <;> simp

@[simp] theorem State.publishTask_img (s : State) (c : Nat) (t : Task) (desc : Bytes) :
    (State.publishTask s c t desc).img = s.img := by
  unfold State.publishTask; (repeat' split) <;> simp [*]

@[simp] theorem State.releaseStall_img (s : State) (c : Nat) : (State.releaseStall s c).img = s.img := by
  unfold State.releaseStall; simp only []; (repeat' split) <;> simp_all

@[simp] theorem State.endCwait_img (s : State) (c : Nat) (p : Bool) : (State.endCwait s c p).img = s.img := by
  simp [State.endCwait]

@[simp] theorem State.doCrd_img (s : State) (c : Nat) (v : Nat) (idx : Nat) (off : Nat) (k : CaskCfg) :
    (State.doCrd s c v idx off k).img = s.img := by
  simp [State.doCrd]

@[simp] theorem State.doCpush_img (s : State) (c : Nat) (v : Nat) (idx : Nat) (k : CaskCfg) :
    (State.doCpush s c v idx k).img = s.img := by
  simp [State.doCpush]

@[simp] theorem State.halt_img (s : State) (f : Nat) (q : Nat) (error : Nat) : (State.halt s f q error).img = s.img := by
  simp [State.halt]

@[simp] theorem State.raise_img (s : State) (f : Nat) (q : Nat) : (State.raise s f q).img = s.img := by
  simp [State.raise]

@[simp] theorem State.postEntry_img (s : State) (f : Nat) (q : Nat) (seq : Nat) (status : Nat) (detail : Nat) (source : Nat) :
    (State.postEntry s f q seq status detail source).img = s.img := by
  simp [State.postEntry]

@[simp] theorem State.settle_img (s : State) (f : Nat) (q : Nat) : (State.settle s f q).img = s.img := by
  simp [State.settle]

@[simp] theorem State.postAborted_img (s : State) (f : Nat) (q : Nat) (status : Nat) (a : Aborted) :
    (State.postAborted s f q status a).img = s.img := by
  simp [State.postAborted]

@[simp] theorem State.postAborts_img (s : State) (f q n : Nat) : (State.postAborts s f q n).img = s.img := by
  induction n generalizing s with
  | zero => rfl
  | succ n ih => unfold State.postAborts; simp only []; (repeat' split) <;> simp [ih]

@[simp] theorem State.ringTail_img (s : State) (f : Part) (q : Fin 64) (idx : BitVec 16) :
    (State.ringTail s f q idx).img = s.img := by
  simp [State.ringTail]

@[simp] theorem State.ringHead_img (s : State) (f : Part) (q : Fin 64) (idx : BitVec 16) :
    (State.ringHead s f q idx).img = s.img := by
  simp [State.ringHead]

@[simp] theorem State.takeDescriptor_img (s : State) (f : Nat) (q : Nat) (d : Bytes) :
    (State.takeDescriptor s f q d).img = s.img := by
  unfold State.takeDescriptor; simp only []; (repeat' split) <;> simp_all

@[simp] theorem State.settleLoad_img (s : State) (f : Nat) (q : Nat) (pos : Nat) (ok : Bool) :
    (State.settleLoad s f q pos ok).img = s.img := by
  simp [State.settleLoad]

@[simp] theorem State.turnOn_img (s : State) (f : Part) (q : Fin 64) (w : U32) : (State.turnOn s f q w).img = s.img := by
  simp [State.turnOn]

@[simp] theorem State.turnOff_img (s : State) (f : Part) (q : Fin 64) (w : U32) : (State.turnOff s f q w).img = s.img := by
  simp [State.turnOff]

@[simp] theorem State.setMode_img (s : State) (m : Nat) : (State.setMode s m).img = s.img := by
  simp [State.setMode]

@[simp] theorem State.closeLoop_img (s : State) : (State.closeLoop s).img = s.img := by
  simp [State.closeLoop]

@[simp] theorem State.askClosed_img (s : State) (f : Part) (w : U32) : (State.askClosed s f w).img = s.img := by
  simp [State.askClosed]

@[simp] theorem State.askHold_img (s : State) (f : Part) (w : U32) : (State.askHold s f w).img = s.img := by
  simp [State.askHold]

@[simp] theorem State.askSoftware_img (s : State) (f : Part) (w : U32) : (State.askSoftware s f w).img = s.img := by
  simp [State.askSoftware]

@[simp] theorem State.setDco_img (s : State) (f : Part) (upper : U32) : (State.setDco s f upper).img = s.img := by
  simp [State.setDco]

@[simp] theorem State.setTod_img (s : State) (f : Part) (upper : U32) : (State.setTod s f upper).img = s.img := by
  simp [State.setTod]

@[simp] theorem State.askStep_img (s : State) (f : Part) (upper : U32) : (State.askStep s f upper).img = s.img := by
  simp [State.askStep]

@[simp] theorem State.askRealign_img (s : State) (f : Part) (output : Fin 9) (w : U32) :
    (State.askRealign s f output w).img = s.img := by
  simp [State.askRealign]

@[simp] theorem State.realignStep_img (s : State) (o : Nat) : (State.realignStep s o).img = s.img := by
  unfold State.realignStep; (repeat' split) <;> simp [*]

@[simp] theorem State.takeRequest_img (s : State) (request : Nat) : (State.takeRequest s request).img = s.img := by
  simp [State.takeRequest]

@[simp] theorem State.askClaim_img (s : State) (f : Part) (w : U32) : (State.askClaim s f w).img = s.img := by
  simp [State.askClaim]

@[simp] theorem State.askRotate_img (s : State) (f : Part) (w : U32) : (State.askRotate s f w).img = s.img := by
  simp [State.askRotate]

@[simp] theorem State.installTenant_img (s : State) (key : Bytes) (base : Nat) :
    (State.installTenant s key base).img = s.img := by
  simp [State.installTenant]

@[simp] theorem State.spdmAnswer_img (s : State) (p : SpdmPort) (ok : Bool) (data : Bytes) (g : Spdm → Spdm) :
    (State.spdmAnswer s p ok data g).img = s.img := by
  simp [State.spdmAnswer]

@[simp] theorem State.pokeQueue_img (s : State) (f : Part) (q : Fin 64) (r : Nat) (w : U32) :
    (State.pokeQueue s f q r w).img = s.img := by
  simp [State.pokeQueue]

@[simp] theorem State.pokeFn_img (s : State) (f : Part) (off : Nat) (w : U32) : (State.pokeFn s f off w).img = s.img := by
  simp [State.pokeFn]

@[simp] theorem State.pokeBar2_img (s : State) (f : Part) (off : Nat) (w : U32) : (State.pokeBar2 s f off w).img = s.img := by
  simp [State.pokeBar2]

@[simp] theorem State.pokeCin_img (s : State) (off : Nat) (w : U32) : (State.pokeCin s off w).img = s.img := by
  simp [State.pokeCin]

@[simp] theorem State.setQl_img (s : State) (i : Nat) (ql : Nat) : (State.setQl s i ql).img = s.img := by
  simp [State.setQl]

theorem iteEq_img {c : Prop} [Decidable c] {s a b : State} (h1 : a.img = s.img) (h2 : b.img = s.img) :
    (if c then a else b).img = s.img := by
  split <;> assumption

@[simp] theorem State.pokeTmg_img (s : State) (off : Nat) (w : U32) : (State.pokeTmg s off w).img = s.img := by
  refine iteEq_img ?_ (iteEq_img ?_ (iteEq_img ?_ (iteEq_img ?_ (iteEq_img ?_ (iteEq_img ?_ (iteEq_img ?_ (iteEq_img ?_ (iteEq_img ?_
    (iteEq_img ?_ (iteEq_img ?_ ?_))))))))))
  · split <;> simp
  · exact iteEq_img rfl rfl
  · simp
  · rfl
  · simp
  · rfl
  · simp
  · rfl
  · rfl
  · exact iteEq_img (by simp) rfl
  · exact iteEq_img (by simp) rfl
  · rfl

@[simp] theorem State.pokeSec_img (s : State) (off : Nat) (w : U32) : (State.pokeSec s off w).img = s.img := by
  unfold State.pokeSec; (repeat' split) <;> simp [*]

@[simp] theorem State.pokeRange_img (s : State) (off : Nat) (w : U32) : (State.pokeRange s off w).img = s.img := by
  simp [State.pokeRange]

@[simp] theorem State.pokeFw_img (s : State) (w : U32) : (State.pokeFw s w).img = s.img := by
  unfold State.pokeFw; (repeat' split) <;> simp [*]

@[simp] theorem State.pokeMgt_img (s : State) (off : Nat) (w : U32) : (State.pokeMgt s off w).img = s.img := by
  simp [State.pokeMgt]

@[simp] theorem State.pokeRec_img (s : State) (off : Nat) (w : U32) : (State.pokeRec s off w).img = s.img := by
  unfold State.pokeRec; (repeat' split) <;> simp [*]

@[simp] theorem State.pokePwr_img (s : State) (off : Nat) (w : U32) : (State.pokePwr s off w).img = s.img := by
  simp [State.pokePwr]

@[simp] theorem State.freeStage_img (s : State) (r : Nat) (id : Nat) (m : NodeRun) : (State.freeStage s r id m).img = s.img := by
  unfold State.freeStage
  dsimp only
  split
  · split
    · rw [State.mapFrame_img]
    · rfl
  · rfl

@[simp] theorem State.haltEngine_img (s : State) (e : Nat) : (State.haltEngine s e).img = s.img := by
  simp [State.haltEngine]

@[simp] theorem State.beginGather_img (s : State) (f : Nat) (q : Nat) (c : Cmd) (b : Bytes) (ep : Bool) (scalar : Nat) (own : Nat) (share : Bytes) :
    (State.beginGather s f q c b ep scalar own share).img = s.img := by
  simp [State.beginGather]

@[simp] theorem State.poisonBlob_img (s : State) (i : Nat) (b : Blob) : (State.poisonBlob s i b).img = s.img := by
  simp [State.poisonBlob]

@[simp] theorem State.abortQueue_img (s : State) (f : Nat) (q : Nat) : (State.abortQueue s f q).img = s.img := by
  simp [State.abortQueue, foldl_img]

@[simp] theorem State.removeVfs_img (s : State) : (State.removeVfs s).img = s.img := by
  simp [State.removeVfs]

@[simp] theorem State.destroyKeys_img (s : State) : (State.destroyKeys s).img = s.img := by
  simp [State.destroyKeys]

@[simp] theorem State.renewPorts_img (s : State) : (State.renewPorts s).img = s.img := by
  simp [State.renewPorts, foldl_img]

@[simp] theorem State.scrub_img (s : State) : (State.scrub s).img = s.img := by
  simp [State.scrub]

end Sys2Proof.Machine
end

