-- ==== Sys2Proof/Laws/FrameCin.lean ====
section
/-! SUPPORT. The operations that leave the camera inputs alone: one lemma for each, which says so (`.cin` is the field of State that holds it). -/

namespace Sys2Proof.Machine

set_option linter.all false

@[simp] theorem ite_cin (c : Prop) [Decidable c] (a b : State) : (if c then a else b).cin = if c then a.cin else b.cin := by
  split <;> rfl

theorem foldl_cin {α : Type} (f : State → α → State) (h : ∀ s x, (f s x).cin = s.cin) (l : List α) (s : State) :
    (l.foldl f s).cin = s.cin := by
  induction l generalizing s with
  | nil => rfl
  | cons a t ih => rw [List.foldl_cons, ih, h]

theorem foldlPair_cin {α β : Type} (f : State × β → α → State × β) (h : ∀ a x, (f a x).1.cin = a.1.cin) (l : List α)
    (a : State × β) : (l.foldl f a).1.cin = a.1.cin := by
  induction l generalizing a with
  | nil => rfl
  | cons x t ih => rw [List.foldl_cons, ih, h]

@[simp] theorem State.sendEvents_cin (s : State) : (State.sendEvents s).cin = s.cin := by
  simp [State.sendEvents]

@[simp] theorem State.event_cin (s : State) (f : Nat) (c : Nat) (source : Nat) : (State.event s f c source).cin = s.cin := by
  unfold State.event; (repeat' split) <;> simp [*]

@[simp] theorem State.eventAll_cin (s : State) (c : Nat) (source : Nat) : (State.eventAll s c source).cin = s.cin := by
  simp [State.eventAll, foldl_cin]

@[simp] theorem State.memWrite_cin (s : State) (a : Nat) (bs : Bytes) (poison : Bool) :
    (State.memWrite s a bs poison).cin = s.cin := by
  simp [State.memWrite]

@[simp] theorem State.memWriteMixed_cin (s : State) (a : Nat) (bs : Bytes) (pz : Nat → Bool) :
    (State.memWriteMixed s a bs pz).cin = s.cin := by
  simp [State.memWriteMixed, foldl_cin]

@[simp] theorem State.fix_cin (s : State) (f : Nat) (q : Nat) (pos : Nat) (status : Nat) (detail : Nat) (source : Nat) :
    (State.fix s f q pos status detail source).cin = s.cin := by
  unfold State.fix; simp only []; (repeat' split) <;> simp_all

@[simp] theorem State.refuse_cin (s : State) (f : Nat) (q : Nat) (pos : Nat) (detail : Nat) :
    (State.refuse s f q pos detail).cin = s.cin := by
  simp [State.refuse]

@[simp] theorem State.setCmd_cin (s : State) (f : Nat) (q : Nat) (pos : Nat) (g : Cmd → Cmd) :
    (State.setCmd s f q pos g).cin = s.cin := by
  simp [State.setCmd]

@[simp] theorem State.underWay_cin (s : State) (f : Nat) (q : Nat) (pos : Nat) (status : Nat) (detail : Nat) (source : Nat) :
    (State.underWay s f q pos status detail source).cin = s.cin := by
  simp [State.underWay]

@[simp] theorem State.driveSafeOff_cin (s : State) (on : Bool) : (State.driveSafeOff s on).cin = s.cin := by
  simp [State.driveSafeOff]

@[simp] theorem State.sendCan_cin (s : State) (ident : Nat) (typ : Nat) (alive : BitVec 8) :
    (State.sendCan s ident typ alive).cin = s.cin := by
  simp [State.sendCan]

@[simp] theorem State.setSaf_cin (s : State) (st : SafSt) : (State.setSaf s st).cin = s.cin := by
  simp [State.setSaf]

@[simp] theorem State.enterSafe_cin (s : State) (cause : Nat) (gtc : Nat) (source : Nat) (hw : Bool) :
    (State.enterSafe s cause gtc source hw).cin = s.cin := by
  simp [State.enterSafe]

@[simp] theorem State.latchCause_cin (s : State) (cause : Nat) (source : Nat) :
    (State.latchCause s cause source).cin = s.cin := by
  simp [State.latchCause]

@[simp] theorem State.undefine_cin (s : State) (f : Nat) (addr : Nat) (n : Nat) : (State.undefine s f addr n).cin = s.cin := by
  unfold State.undefine; (repeat' split) <;> simp [*]

@[simp] theorem State.reroute_cin (s : State) : (State.reroute s).cin = s.cin := by
  simp [State.reroute, foldl_cin]

@[simp] theorem State.sendFlit_cin (s : State) (p : Nat) (idle : Bool) (payload : Bytes) :
    (State.sendFlit s p idle payload).cin = s.cin := by
  simp [State.sendFlit]

@[simp] theorem State.pump_cin (s : State) (p : Nat) (l : List Bytes) : (State.pump s p l).cin = s.cin := by
  induction l generalizing s with
  | nil => simp [State.pump]
  | cons b t ih => unfold State.pump; split <;> simp [ih]

@[simp] theorem State.sendIdle_cin (s : State) (p : Nat) : (State.sendIdle s p).cin = s.cin := by
  simp [State.sendIdle]

@[simp] theorem State.nak_cin (s : State) (p : Nat) : (State.nak s p).cin = s.cin := by
  simp [State.nak]

@[simp] theorem State.portSend_cin (s : State) (p : Nat) (lane : Nat) (m : Msg) : (State.portSend s p lane m).cin = s.cin := by
  simp [State.portSend]

@[simp] theorem State.strand_cin (s : State) (m : Msg) : (State.strand s m).cin = s.cin := by
  simp [State.strand]

@[simp] theorem State.forward_cin (s : State) (m : Msg) : (State.forward s m).cin = s.cin := by
  unfold State.forward; (repeat' split) <;> simp [*]

@[simp] theorem State.sendMsg_cin (s : State) (m : Msg) : (State.sendMsg s m).cin = s.cin := by
  simp [State.sendMsg]

@[simp] theorem State.flushStuck_cin (s : State) : (State.flushStuck s).cin = s.cin := by
  simp [State.flushStuck, foldl_cin]

@[simp] theorem State.advertise_cin (s : State) : (State.advertise s).cin = s.cin := by
  simp [State.advertise]

@[simp] theorem State.tellLinks_cin (s : State) : (State.tellLinks s).cin = s.cin := by
  simp [State.tellLinks]

@[simp] theorem State.linksChanged_cin (s : State) : (State.linksChanged s).cin = s.cin := by
  simp [State.linksChanged]

@[simp] theorem State.sendRequest_cin (s : State) (m : Msg) (cmd : Option (Nat × Nat × Nat)) :
    (State.sendRequest s m cmd).cin = s.cin := by
  simp [State.sendRequest]

@[simp] theorem State.request_cin (s : State) (m : Msg) (cmd : Option (Nat × Nat × Nat)) :
    (State.request s m cmd).cin = s.cin := by
  simp [State.request]

@[simp] theorem State.issueWaiting_cin (s : State) (d n : Nat) : (State.issueWaiting s d n).cin = s.cin := by
  induction n generalizing s with
  | zero => rfl
  | succ n ih => unfold State.issueWaiting; (repeat' split) <;> simp [ih]

@[simp] theorem State.answered_cin (s : State) (src : Nat) (reqId : Nat) : (State.answered s src reqId).cin = s.cin := by
  simp [State.answered]

@[simp] theorem State.markRun_cin (s : State) (r : Nat) (id : Nat) (poisoned : Bool) (lost : Bool) :
    (State.markRun s r id poisoned lost).cin = s.cin := by
  simp [State.markRun]

@[simp] theorem State.markCmd_cin (s : State) (cmd : Option (Nat × Nat × Nat)) (poisoned : Bool) (lost : Bool) :
    (State.markCmd s cmd poisoned lost).cin = s.cin := by
  unfold State.markCmd; (repeat' split) <;> simp [*]

@[simp] theorem State.poisonRead_cin (s : State) (part : Nat) (a : Nat) (source : Nat) :
    (State.poisonRead s part a source).cin = s.cin := by
  simp [State.poisonRead]

@[simp] theorem State.deliverTo_cin (s : State) (part : Nat) (a : Nat) (source : Nat) (data : Bytes) (poison : Bool) :
    (State.deliverTo s part a source data poison).cin = s.cin := by
  simp [State.deliverTo]

@[simp] theorem State.remoteWrite_cin (s : State) (board : Nat) (part : Nat) (a : Nat) (bs : Bytes) (poison : Bool) (cmd : Option (Nat × Nat × Nat)) :
    (State.remoteWrite s board part a bs poison cmd).cin = s.cin := by
  simp [State.remoteWrite, foldl_cin]

@[simp] theorem State.answer_cin (s : State) (m : Msg) : (State.answer s m).cin = s.cin := by
  simp [State.answer]

@[simp] theorem State.answerLine_cin (s : State) (typ : Nat) (r : HomeReq) : (State.answerLine s typ r).cin = s.cin := by
  simp [State.answerLine]

@[simp] theorem State.answerBare_cin (s : State) (typ : Nat) (dest : Nat) (reqId : Nat) (part : Nat) (addr : Nat) :
    (State.answerBare s typ dest reqId part addr).cin = s.cin := by
  simp [State.answerBare]

@[simp] theorem State.snoop_cin (s : State) (typ : Nat) (req : HomeReq) (boards : List Nat) :
    (State.snoop s typ req boards).cin = s.cin := by
  simp [State.snoop, foldl_cin]

@[simp] theorem State.mergeLine_cin (s : State) (r : HomeReq) (poison : Bool) : (State.mergeLine s r poison).cin = s.cin := by
  simp [State.mergeLine, foldl_cin]

@[simp] theorem State.finishReq_cin (s : State) (r : HomeReq) (was : Option DirEnt) (gone : List Nat) :
    (State.finishReq s r was gone).cin = s.cin := by
  unfold State.finishReq; (repeat' split) <;> simp [*]

@[simp] theorem State.beginReq_cin (s : State) (r : HomeReq) : (State.beginReq s r).cin = s.cin := by
  unfold State.beginReq; simp only []; (repeat' split) <;> simp_all

@[simp] theorem State.startReq_cin (s : State) (r : HomeReq) : (State.startReq s r).cin = s.cin := by
  unfold State.startReq; (repeat' split) <;> simp [*]

@[simp] theorem State.drainQueue_cin (s : State) : (State.drainQueue s).cin = s.cin := by
  simp [State.drainQueue, foldl_cin]

@[simp] theorem State.settleLeaving_cin (s : State) : (State.settleLeaving s).cin = s.cin := by
  simp [State.settleLeaving]

@[simp] theorem State.snoopAnswer_cin (s : State) (board : Nat) (a : Nat) (inFlight : Bool) :
    (State.snoopAnswer s board a inFlight).cin = s.cin := by
  unfold State.snoopAnswer; (repeat' split) <;> simp [*]

@[simp] theorem State.pruneKept_cin (s : State) (h : FabHdr) : (State.pruneKept s h).cin = s.cin := by
  simp [State.pruneKept]

@[simp] theorem State.resendKept_cin (s : State) (k : Kept) : (State.resendKept s k).cin = s.cin := by
  simp [State.resendKept]

@[simp] theorem State.homeRequest_cin (s : State) (typ : ReqType) (h : FabHdr) (mask : List Bool) (data : Bytes) (poison : Bool) :
    (State.homeRequest s typ h mask data poison).cin = s.cin := by
  unfold State.homeRequest; simp only []; (repeat' split) <;> simp_all

@[simp] theorem State.withdraw_cin (s : State) (r : Bytes) : (State.withdraw s r).cin = s.cin := by
  simp [State.withdraw, foldl_cin]

@[simp] theorem State.recall_cin (s : State) (part : Nat) (lines : List Nat) : (State.recall s part lines).cin = s.cin := by
  simp [State.recall, foldl_cin]

@[simp] theorem State.putPart_cin (s : State) (part : Nat) (a : Nat) (bs : Bytes) (poison : Bool) :
    (State.putPart s part a bs poison).cin = s.cin := by
  simp [State.putPart]

@[simp] theorem State.put_cin (s : State) (part : Nat) (a : Nat) (bs : Bytes) (poison : Bool) :
    (State.put s part a bs poison).cin = s.cin := by
  simp [State.put, foldl_cin]

@[simp] theorem State.putMixed_cin (s : State) (part : Nat) (a : Nat) (bs : Bytes) (pz : Nat → Bool) :
    (State.putMixed s part a bs pz).cin = s.cin := by
  simp [State.putMixed, foldl_cin]

@[simp] theorem State.takeOver_cin (s : State) : (State.takeOver s).cin = s.cin := by
  simp [State.takeOver, foldl_cin]

@[simp] theorem State.evict_cin (s : State) (l : RLine) : (State.evict s l).cin = s.cin := by
  simp [State.evict]

theorem State.cellarAlloc_cin (s : State) (x : Bytes) (a : Nat) (d : Bool) (t : State) (h : s.cellarAlloc x a d = some t) :
    t.cin = s.cin := by
  unfold State.cellarAlloc at h
  simp only [] at h
  (repeat' split at h) <;> (try cases h) <;> simp

@[simp] theorem State.cellarAllocD_cin (s : State) (x : Bytes) (a : Nat) (d : Bool) : ((s.cellarAlloc x a d).getD s).cin = s.cin := by
  cases h : s.cellarAlloc x a d with
  | none => rfl
  | some t => exact State.cellarAlloc_cin _ _ _ _ _ h

@[simp] theorem State.deliver_cin (s : State) (r : CellarReq) (data : Bytes) (poison : Bool) :
    (State.deliver s r data poison).cin = s.cin := by
  simp [State.deliver]

@[simp] theorem State.remoteAccess_cin (s : State) (r : CellarReq) : (State.remoteAccess s r).cin = s.cin := by
  unfold State.remoteAccess
  simp only []
  split
  · (repeat' split) <;> simp
  · split
    · rename_i t h
      have ht : t.cin = s.cin := by
        split at h
        · split at h
          · have := State.cellarAlloc_cin _ _ _ _ _ h
            simp at this
            exact this
          · cases h
        · cases h
      simp [ht]
    · split <;> simp

@[simp] theorem State.serveWaiters_cin (s : State) (l : List CellarReq) : (State.serveWaiters s l).cin = s.cin := by
  simp [State.serveWaiters, foldl_cin]

@[simp] theorem State.installLine_cin (s : State) (a : Nat) (st : CohSt) (data : Option (Bytes × Bool)) :
    (State.installLine s a st data).cin = s.cin := by
  unfold State.installLine; (repeat' split) <;> simp [*]

@[simp] theorem State.refetch_cin (s : State) (l : RLine) : (State.refetch s l).cin = s.cin := by
  simp [State.refetch]

@[simp] theorem State.maskedWrite_cin (s : State) (r : CellarReq) : (State.maskedWrite s r).cin = s.cin := by
  simp [State.maskedWrite]

@[simp] theorem State.cellarCount_cin (s : State) (r : CellarReq) : (State.cellarCount s r).cin = s.cin := by
  unfold State.cellarCount
  simp only []
  (repeat' split) <;> simp

@[simp] theorem State.localAccess_cin (s : State) (r : CellarReq) : (State.localAccess s r).cin = s.cin := by
  simp [State.localAccess]

@[simp] theorem State.poisonLine_cin (s : State) (a : Nat) : (State.poisonLine s a).cin = s.cin := by
  simp [State.poisonLine]

@[simp] theorem State.takeSource_cin (s : State) (cmd : Option (Nat × Nat × Nat)) (c : Cmd) (f : Nat) (q : Nat) (a : Nat) (data : Bytes) (poison : Bool) :
    (State.takeSource s cmd c f q a data poison).cin = s.cin := by
  unfold State.takeSource; simp only []; (repeat' split) <;> simp_all

@[simp] theorem State.takeCoreLine_cin (s : State) (c : Nat) (part : Nat) (a : Nat) (data : Bytes) (poison : Bool) :
    (State.takeCoreLine s c part a data poison).cin = s.cin := by
  simp [State.takeCoreLine]

@[simp] theorem State.takeNokeep_cin (s : State) (u : Unans) (a : Nat) (data : Bytes) (poison : Bool) :
    (State.takeNokeep s u a data poison).cin = s.cin := by
  unfold State.takeNokeep; (repeat' split) <;> simp [*]

@[simp] theorem State.failLine_cin (s : State) (a : Nat) : (State.failLine s a).cin = s.cin := by
  unfold State.failLine; (repeat' split) <;> simp [*, foldl_cin]

@[simp] theorem State.failRequest_cin (s : State) (u : Unans) : (State.failRequest s u).cin = s.cin := by
  unfold State.failRequest; (repeat' split) <;> simp [*]

@[simp] theorem State.failMsg_cin (s : State) (u : Unans) : (State.failMsg s u).cin = s.cin := by
  simp [State.failMsg]

@[simp] theorem State.useDma_cin (s : State) (j : Job) : (State.useDma s j).cin = s.cin := by
  simp [State.useDma]

@[simp] theorem State.useSealing_cin (s : State) (j : Job) : (State.useSealing s j).cin = s.cin := by
  simp [State.useSealing]

@[simp] theorem State.useMessage_cin (s : State) (n : Nat) (j : Job) : (State.useMessage s n j).cin = s.cin := by
  simp [State.useMessage]

theorem poisonReads_cin (p src : Nat) (g : State → Nat → Nat) (l : List Nat) (s : State) :
    (l.foldl (fun s i => s.poisonRead p (g s i) src) s).cin = s.cin :=
  foldl_cin _ (fun s x => State.poisonRead_cin s p (g s x) src) l s

@[simp] theorem State.readLocal_cin (s : State) (f : Nat) (a : Nat) (n : Nat) : (State.readLocal s f a n).cin = s.cin := by
  exact poisonReads_cin f (srcPart f) (fun s l => s.struct.boardId * 2 ^ 40 + 128 * l) _ s

@[simp] theorem State.toHost_cin (s : State) (f : Nat) (q : Nat) (seq : Nat) (addr : Nat) (bs : Bytes) (first : Nat) (pz : Nat → Bool) :
    (State.toHost s f q seq addr bs first pz).cin = s.cin := by
  simp [State.toHost, foldl_cin]

@[simp] theorem State.toPlace_cin (s : State) (f : Nat) (p : Place) (bs : Bytes) (pz : Nat → Bool) (cmd : Option (Nat × Nat × Nat)) :
    (State.toPlace s f p bs pz cmd).cin = s.cin := by
  unfold State.toPlace; (repeat' split) <;> simp [*, foldl_cin]

@[simp] theorem State.settleEntry_cin (s : State) (a : Nat) (e : Option DirEnt) : (State.settleEntry s a e).cin = s.cin := by
  unfold State.settleEntry; (repeat' split) <;> simp [*]

@[simp] theorem State.eviction_cin (s : State) (h : FabHdr) (data : Option (Bytes × Bool)) :
    (State.eviction s h data).cin = s.cin := by
  unfold State.eviction; simp only []; (repeat' split) <;> simp_all

@[simp] theorem State.snoopReply_cin (s : State) (home : Nat) (typ : Nat) (reqId : Nat) (a : Nat) (data : Bytes) (poison : Bool) :
    (State.snoopReply s home typ reqId a data poison).cin = s.cin := by
  simp [State.snoopReply]

@[simp] theorem State.ringWrite_cin (s : State) (w : Bytes) (off : Nat) (bs : Bytes) (poison : Bool) :
    (State.ringWrite s w off bs poison).cin = s.cin := by
  simp [State.ringWrite]

@[simp] theorem State.addMail_cin (s : State) (m : MailIn) : (State.addMail s m).cin = s.cin := by
  simp [State.addMail]

@[simp] theorem State.fixSend_cin (s : State) (cmd : Option (Nat × Nat × Nat)) (source : Nat) :
    (State.fixSend s cmd source).cin = s.cin := by
  unfold State.fixSend; (repeat' split) <;> simp [*]

@[simp] theorem State.ownMailDone_cin (s : State) (reqId : Nat) : (State.ownMailDone s reqId).cin = s.cin := by
  unfold State.ownMailDone; (repeat' split) <;> simp [*]

@[simp] theorem State.passMails_cin (s : State) (w : Bytes) (x : Nat) (l : List MailIn) : (State.passMails s w x l).cin = s.cin := by
  induction l generalizing s with
  | nil => simp [State.passMails]
  | cons b t ih => unfold State.passMails; simp only []; (repeat' split) <;> simp [ih]

@[simp] theorem State.mailWhole_cin (s : State) (w : Bytes) (m : MailIn) : (State.mailWhole s w m).cin = s.cin := by
  simp [State.mailWhole]

@[simp] theorem State.recallSource_cin (s : State) (f : Nat) (c : Cmd) (o : Nat) (n : Nat) :
    (State.recallSource s f c o n).cin = s.cin := by
  unfold State.recallSource; (repeat' split) <;> simp [*]

@[simp] theorem State.startMessage_cin (s : State) (dest : Nat) (f : Nat) (q : Nat) (c : Cmd) :
    (State.startMessage s dest f q c).cin = s.cin := by
  simp [State.startMessage]

@[simp] theorem State.sendChunk_cin (s : State) (u : Unans) (o : Nat) (bs : Bytes) (poison : Bool) (last : Bool) :
    (State.sendChunk s u o bs poison last).cin = s.cin := by
  unfold State.sendChunk; simp only []; (repeat' split) <;> simp_all

@[simp] theorem State.mapMessage_cin (s : State) (n : Nat) (g : Engine → Engine) : (State.mapMessage s n g).cin = s.cin := by
  simp [State.mapMessage]

@[simp] theorem State.runMessage_cin (s : State) (n : Nat) : (State.runMessage s n).cin = s.cin := by
  unfold State.runMessage; simp only []; (repeat' split) <;> simp_all

@[simp] theorem State.noteFw_cin (s : State) (comp : Fin 4) (slot : Bool) (event : String) :
    (State.noteFw s comp slot event).cin = s.cin := by
  simp [State.noteFw]

@[simp] theorem State.finishBurn_cin (s : State) (comp : Fin 4) : (State.finishBurn s comp).cin = s.cin := by
  unfold State.finishBurn; (repeat' split) <;> simp [*]

@[simp] theorem State.dropTrial_cin (s : State) (comp : Fin 4) : (State.dropTrial s comp).cin = s.cin := by
  simp [State.dropTrial]

@[simp] theorem State.bootComponent_cin (s : State) (c : Fin 4) : (s.bootComponent c).1.cin = s.cin := by
  simp [State.bootComponent]

@[simp] theorem State.enterRecovery_cin (s : State) (cause : Nat) : (State.enterRecovery s cause).cin = s.cin := by
  simp [State.enterRecovery]

@[simp] theorem State.applyOverride_cin (s : State) : (State.applyOverride s).cin = s.cin := by
  simp [State.applyOverride]

@[simp] theorem State.evalCompat_cin (s : State) : (State.evalCompat s).cin = s.cin := by
  simp [State.evalCompat]

@[simp] theorem State.loadCal_cin (s : State) : (State.loadCal s).cin = s.cin := by
  simp [State.loadCal, foldl_cin] <;> (intros; rw [foldl_cin]; intros; simp)

@[simp] theorem State.ledgerAfterAux_cin (s : State) : (State.ledgerAfterAux s).cin = s.cin := by
  simp [State.ledgerAfterAux]

@[simp] theorem State.checkRetention_cin (s : State) : (State.checkRetention s).cin = s.cin := by
  simp [State.checkRetention]

@[simp] theorem State.restartTime_cin (s : State) : (State.restartTime s).cin = s.cin := by
  simp [State.restartTime]

@[simp] theorem State.settleRetention_cin (s : State) : (State.settleRetention s).cin = s.cin := by
  simp [State.settleRetention]

@[simp] theorem State.bootFirmware_cin (s : State) (saf : Bool) : (State.bootFirmware s saf).cin = s.cin := by
  unfold State.bootFirmware; (repeat' split) <;> simp [*, foldl_cin]

@[simp] theorem State.bootTime_cin (s : State) : (State.bootTime s).cin = s.cin := by
  simp [State.bootTime]

@[simp] theorem State.bootNow_cin (s : State) : (State.bootNow s).cin = s.cin := by
  simp [State.bootNow]

@[simp] theorem State.announceReset_cin (s : State) (cold : Bool) (cause : String) (source : Nat) :
    (State.announceReset s cold cause source).cin = s.cin := by
  unfold State.announceReset; simp only []; (repeat' split) <;> simp_all

@[simp] theorem State.takeFwAction_cin (s : State) (a : FwAction) (comp : Fin 4) : (State.takeFwAction s a comp).cin = s.cin := by
  simp [State.takeFwAction]

@[simp] theorem State.askMark_cin (s : State) (f : Part) (w : U32) : (State.askMark s f w).cin = s.cin := by
  simp [State.askMark]

@[simp] theorem State.askCommit_cin (s : State) (f : Part) (w : U32) : (State.askCommit s f w).cin = s.cin := by
  simp [State.askCommit]

@[simp] theorem State.askCancel_cin (s : State) (f : Part) (w : U32) : (State.askCancel s f w).cin = s.cin := by
  simp [State.askCancel]

@[simp] theorem State.askBurn_cin (s : State) (f : Part) (w : U32) : (State.askBurn s f w).cin = s.cin := by
  simp [State.askBurn]

@[simp] theorem State.endMarkTrial_cin (s : State) (c : Fin 4) : (State.endMarkTrial s c).cin = s.cin := by
  simp [State.endMarkTrial]

@[simp] theorem State.endCommit_cin (s : State) (c : Fin 4) : (State.endCommit s c).cin = s.cin := by
  simp [State.endCommit]

@[simp] theorem State.endCancelTrial_cin (s : State) (c : Fin 4) : (State.endCancelTrial s c).cin = s.cin := by
  simp [State.endCancelTrial]

@[simp] theorem State.endBurn_cin (s : State) (c : Fin 4) : (State.endBurn s c).cin = s.cin := by
  unfold State.endBurn; simp only []; (repeat' split) <;> simp_all

@[simp] theorem State.askBegin_cin (s : State) (f : Part) (w : U32) : (State.askBegin s f w).cin = s.cin := by
  simp [State.askBegin]

@[simp] theorem State.askRun_cin (s : State) (f : Part) (w : U32) : (State.askRun s f w).cin = s.cin := by
  simp [State.askRun]

@[simp] theorem State.askProgram_cin (s : State) (f : Part) (w : U32) : (State.askProgram s f w).cin = s.cin := by
  simp [State.askProgram]

@[simp] theorem State.fillWindow_cin (s : State) (f : Part) (off : Nat) (size : Nat) (v : U64) :
    (State.fillWindow s f off size v).cin = s.cin := by
  simp [State.fillWindow]

@[simp] theorem State.mapCores_cin (s : State) (g : Core → Core) : (State.mapCores s g).cin = s.cin := by
  simp [State.mapCores]

@[simp] theorem State.resetCasks_cin (s : State) (route : Nat) : (State.resetCasks s route).cin = s.cin := by
  simp [State.resetCasks]

@[simp] theorem State.freshVecs_cin (s : State) (c : Nat) : (State.freshVecs s c).cin = s.cin := by
  simp [State.freshVecs]

@[simp] theorem State.install_cin (s : State) (c : Nat) (t : Task) : (State.install s c t).cin = s.cin := by
  simp [State.install]

@[simp] theorem State.loadCode_cin (s : State) (c : Nat) (t : Task) (blob : Nat) : (State.loadCode s c t blob).cin = s.cin := by
  simp [State.loadCode]

@[simp] theorem State.nextTask_cin (s : State) (c : Nat) : (State.nextTask s c).cin = s.cin := by
  unfold State.nextTask; simp only []; (repeat' split) <;> simp_all

@[simp] theorem State.endTask_cin (s : State) (c : Nat) : (State.endTask s c).cin = s.cin := by
  unfold State.endTask; simp only []; (repeat' split) <;> simp_all

@[simp] theorem State.finish_cin (s : State) (c : Nat) (x : Core) : (State.finish s c x).cin = s.cin := by
  simp [State.finish]

@[simp] theorem State.takePreemption_cin (s : State) (c : Nat) : (State.takePreemption s c).cin = s.cin := by
  unfold State.takePreemption; simp only []; (repeat' split) <;> simp_all

@[simp] theorem State.settleWait_cin (s : State) (c : Nat) : (State.settleWait s c).cin = s.cin := by
  unfold State.settleWait; simp only []; (repeat' split) <;> simp_all

@[simp] theorem State.settleWaits_cin (s : State) : (State.settleWaits s).cin = s.cin := by
  simp [State.settleWaits, foldl_cin]

@[simp] theorem State.startTask_cin (s : State) (c : Nat) (t : Task) (blob : Nat) : (State.startTask s c t blob).cin = s.cin := by
  simp [State.startTask]

@[simp] theorem State.settleSwap_cin (s : State) (route : Nat) : (State.settleSwap s route).cin = s.cin := by
  simp [State.settleSwap]

@[simp] theorem State.endApply_cin (s : State) (slot : Nat) : (State.endApply s slot).cin = s.cin := by
  unfold State.endApply; simp only []; (repeat' split) <;> simp_all

@[simp] theorem State.releaseHeld_cin (s : State) (route : Nat) : (State.releaseHeld s route).cin = s.cin := by
  simp [State.releaseHeld]

@[simp] theorem State.gapTimer_cin (s : State) (r : Nat) (st : RouteSt) : (State.gapTimer s r st).cin = s.cin := by
  simp [State.gapTimer]

@[simp] theorem State.setRouteSt_cin (s : State) (r : Nat) (st : RouteSt) : (State.setRouteSt s r st).cin = s.cin := by
  simp [State.setRouteSt]

@[simp] theorem State.mapFrame_cin (s : State) (r : Nat) (id : Nat) (g : Frame → Frame) :
    (State.mapFrame s r id g).cin = s.cin := by
  simp [State.mapFrame]

@[simp] theorem State.noteStale_cin (s : State) (r : Nat) (cause : Nat) : (State.noteStale s r cause).cin = s.cin := by
  simp [State.noteStale]

@[simp] theorem State.published_cin (s : State) (t : Struct) (r : Nat) (typ : Nat) (addr : Nat) (len : Nat) (exposure : Nat) :
    (State.published s t r typ addr len exposure).cin = s.cin := by
  simp [State.published]

@[simp] theorem State.frameDone_cin (s : State) (r : Nat) (f : Frame) (status : Nat) (reason : Nat) :
    (State.frameDone s r f status reason).cin = s.cin := by
  simp [State.frameDone, foldl_cin]

@[simp] theorem State.checkDeadline_cin (s : State) (r : Nat) (f : Frame) : (State.checkDeadline s r f).cin = s.cin := by
  simp [State.checkDeadline]

@[simp] theorem State.epochCut_cin (s : State) (r : Nat) (f : Frame) (valid : Bool) :
    (State.epochCut s r f valid).cin = s.cin := by
  simp [State.epochCut]

@[simp] theorem State.retire_cin (s : State) (r : Nat) (id : Nat) : (State.retire s r id).cin = s.cin := by
  unfold State.retire; (repeat' split) <;> simp [*]

@[simp] theorem State.fixAll_cin (s : State) (l : List (Nat × Nat × Nat)) (status : Nat) (detail : Nat) (source : Nat) :
    (State.fixAll s l status detail source).cin = s.cin := by
  simp [State.fixAll, foldl_cin]

@[simp] theorem State.stopApply_cin (s : State) (r : Nat) (status : Nat) (detail : Nat) :
    (State.stopApply s r status detail).cin = s.cin := by
  simp [State.stopApply, foldl_cin]

@[simp] theorem State.finishStop_cin (s : State) (r : Nat) : (State.finishStop s r).cin = s.cin := by
  simp [State.finishStop]

@[simp] theorem State.retireAborted_cin (s : State) (r n : Nat) : (s.retireAborted r n).cin = s.cin := by
  induction n generalizing s with
  | zero => rfl
  | succ n ih => unfold State.retireAborted; (repeat' split) <;> simp [ih]

@[simp] theorem State.drainRoute_cin (s : State) (r : Nat) : (State.drainRoute s r).cin = s.cin := by
  simp [State.drainRoute, foldl_cin]

@[simp] theorem State.mapTasks_cin (s : State) (p : Task → Bool) (g : Task → Task) : (State.mapTasks s p g).cin = s.cin := by
  simp [State.mapTasks]

@[simp] theorem State.stopTasks_cin (s : State) (p : Task → Bool) : (State.stopTasks s p).cin = s.cin := by
  simp [State.stopTasks]

@[simp] theorem State.mapJobs_cin (s : State) (g : Nat → StageJob → StageJob) : (State.mapJobs s g).cin = s.cin := by
  simp [State.mapJobs]

@[simp] theorem State.abandon_cin (s : State) (r : Nat) (id : Nat) (reason : Nat) (missing : Nat) :
    (State.abandon s r id reason missing).cin = s.cin := by
  simp [State.abandon]

@[simp] theorem State.noteLevel_cin (s : State) (level : BitVec 3) : (State.noteLevel s level).cin = s.cin := by
  simp [State.noteLevel]

@[simp] theorem State.forceStop_cin (s : State) (r : Nat) : (State.forceStop s r).cin = s.cin := by
  simp [State.forceStop]

@[simp] theorem State.boundaryStop_cin (s : State) (r : Nat) : (State.boundaryStop s r).cin = s.cin := by
  simp [State.boundaryStop]

@[simp] theorem State.faultRoute_cin (s : State) (r : Nat) (code : Nat) : (State.faultRoute s r code).cin = s.cin := by
  simp [State.faultRoute]

@[simp] theorem State.refreshRoutes_cin (s : State) : (State.refreshRoutes s).cin = s.cin := by
  simp [State.refreshRoutes, foldl_cin]

@[simp] theorem State.epochAbandon_cin (s : State) (r : Nat) (id : Nat) : (State.epochAbandon s r id).cin = s.cin := by
  unfold State.epochAbandon; (repeat' split) <;> simp [*]

@[simp] theorem State.openWindow_cin (s : State) (r : Nat) : (State.openWindow s r).cin = s.cin := by
  simp [State.openWindow, foldl_cin]

@[simp] theorem State.boundary_cin (s : State) (r : Nat) (id : Nat) (start : Nat) (exposure : Nat) :
    (State.boundary s r id start exposure).cin = s.cin := by
  unfold State.boundary; simp only []; (repeat' split) <;> simp_all

@[simp] theorem State.associate_cin (s : State) (c : Nat) (id : Nat) (start : Nat) (exposure : Nat) :
    (State.associate s c id start exposure).cin = s.cin := by
  simp [State.associate, foldl_cin] <;> (intros; rw [foldl_cin]; intros; simp)

@[simp] theorem State.slotCycle_cin (s : State) (c : Nat) : (State.slotCycle s c).cin = s.cin := by
  unfold State.slotCycle; (repeat' split) <;> simp [*]

@[simp] theorem State.frameStartEvent_cin (s : State) (c : Nat) (id : Nat) (start : Nat) (exposure : Nat) :
    (State.frameStartEvent s c id start exposure).cin = s.cin := by
  simp [State.frameStartEvent, foldl_cin]

@[simp] theorem State.chargeEngine_cin (s : State) (r : Nat) (m : NodeRun) : (State.chargeEngine s r m).cin = s.cin := by
  simp [State.chargeEngine]

@[simp] theorem State.startNode_cin (s : State) (r : Nat) (f : Frame) (c : Bytes) : (State.startNode s r f c).cin = s.cin := by
  simp [State.startNode]

@[simp] theorem State.dispatch_cin (s : State) (r : Nat) (id : Nat) (n : Nat) (trig : Nat) :
    (State.dispatch s r id n trig).cin = s.cin := by
  unfold State.dispatch; (repeat' split) <;> simp [*]

@[simp] theorem State.undefineCmd_cin (s : State) (f : Nat) (q : Nat) (c : Cmd) : (State.undefineCmd s f q c).cin = s.cin := by
  simp [State.undefineCmd]

@[simp] theorem State.undefineCmds_cin (s : State) (f : Nat) : (State.undefineCmds s f).cin = s.cin := by
  simp [State.undefineCmds, foldl_cin]

@[simp] theorem State.dropWork_cin (s : State) (f : Nat) : (State.dropWork s f).cin = s.cin := by
  simp [State.dropWork]

@[simp] theorem State.dropApplies_cin (s : State) (p : Nat → Bool) : (State.dropApplies s p).cin = s.cin := by
  unfold State.dropApplies
  refine foldl_cin _ (fun s x => ?_) _ _
  split
  · split <;> simp
  · rfl

@[simp] theorem State.partitionReset_cin (s : State) (f : Nat) (tdi : Tdi) (cause : String) :
    (State.partitionReset s f tdi cause).cin = s.cin := by
  unfold State.partitionReset; (repeat' split) <;> simp [*, foldl_cin]

@[simp] theorem State.drainDst_cin (s : State) (d : Nat) : (State.drainDst s d).cin = s.cin := by
  simp [State.drainDst]

@[simp] theorem State.queueBeats_cin (s : State) (d : Nat) (l : List Beat) : (State.queueBeats s d l).cin = s.cin := by
  simp [State.queueBeats]

@[simp] theorem State.pipeLine_cin (s : State) (src : Nat) (ctx : Nat) (frame : Nat) (line : Nat) (plane : Nat) (b : Bytes) (poison : Bool) :
    (State.pipeLine s src ctx frame line plane b poison).cin = s.cin := by
  simp [State.pipeLine, foldl_cin]

@[simp] theorem State.closeBeat_cin (s : State) (src : Nat) (ctx : Nat) (frame : Nat) (pick : Nat → Bool) (data : Bytes) (poison : Bool) :
    (State.closeBeat s src ctx frame pick data poison).cin = s.cin := by
  simp [State.closeBeat, foldl_cin]

@[simp] theorem State.stageLine_cin (s : State) (src : Nat) (frameId : Nat) (ctx : Nat) (frame : Nat) (line : Nat) (plane : Nat) (b : Bytes) (poison : Bool) :
    (State.stageLine s src frameId ctx frame line plane b poison).cin = s.cin := by
  simp [State.stageLine, foldl_cin]

@[simp] theorem State.deliverBeat_cin (s : State) (d : Nat) : (State.deliverBeat s d).cin = s.cin := by
  unfold State.deliverBeat; simp only []; (repeat' split) <;> simp_all

@[simp] theorem State.mapJob_cin (s : State) (i : Nat) (g : StageJob → StageJob) : (State.mapJob s i g).cin = s.cin := by
  simp [State.mapJob]

@[simp] theorem State.layRecord_cin (s : State) (i : Nat) (j : StageJob) (a : Nat) (r : RecInfo) (desc : Bytes) (body : Payload) :
    (State.layRecord s i j a r desc body).cin = s.cin := by
  simp [State.layRecord]

@[simp] theorem State.notePoisoned_cin (s : State) (i : Nat) (poison : Bool) (discard : Bool) :
    (State.notePoisoned s i poison discard).cin = s.cin := by
  simp [State.notePoisoned]

@[simp] theorem State.putRecord_cin (s : State) (i : Nat) (j : StageJob) (o : Nat) (src : Nat) (off : Nat) (r : RecInfo) (desc : Bytes) (body : Payload) :
    (State.putRecord s i j o src off r desc body).cin = s.cin := by
  simp [State.putRecord]

@[simp] theorem State.jobDone_cin (s : State) (i : Nat) : (State.jobDone s i).cin = s.cin := by
  simp [State.jobDone]

@[simp] theorem State.sendLines_cin (s : State) (i : Nat) (src : Nat) (ctx : Nat) (key : Nat) (plane : Nat) (lines : List (Bytes × Bool)) :
    (State.sendLines s i src ctx key plane lines).cin = s.cin := by
  unfold State.sendLines; (repeat' split) <;> simp [*, foldl_cin]

@[simp] theorem State.advancePyr_cin (s : State) (c : Nat) : (State.advancePyr s c).cin = s.cin := by
  unfold State.advancePyr; (repeat' split) <;> simp [*, foldl_cin]

@[simp] theorem State.advanceWrp_cin (s : State) (i : Nat) (c : Nat) : (State.advanceWrp s i c).cin = s.cin := by
  unfold State.advanceWrp; (repeat' split) <;> simp [*]

@[simp] theorem State.storeLine_cin (s : State) (part : Nat) (a : Nat) (w : Nat) (y : Nat) (l : List Int) :
    (State.storeLine s part a w y l).cin = s.cin := by
  simp [State.storeLine]

@[simp] theorem State.offerTiles_cin (s : State) (i : Nat) (j : StageJob) (l : List (Nat × (Nat × Nat) × Bool)) :
    (State.offerTiles s i j l).cin = s.cin := by
  simp [State.offerTiles]

@[simp] theorem State.offerRows_cin (s : State) (i : Nat) (rows : List (List Px)) : (State.offerRows s i rows).cin = s.cin := by
  unfold State.offerRows; (repeat' split) <;> simp [*]

@[simp] theorem State.sendDense_cin (s : State) (i : Nat) (c : Nat) (rows : List (List Px)) (h : Nat) :
    (State.sendDense s i c rows h).cin = s.cin := by
  simp [State.sendDense]

@[simp] theorem State.floStore__cin (s : State) (i : Nat) (j : StageJob) : (State.floStore_ s i j).cin = s.cin := by
  simp [State.floStore_, foldl_cin]

@[simp] theorem State.advanceDense_cin (s : State) (i : Nat) : (State.advanceDense s i).cin = s.cin := by
  unfold State.advanceDense; (repeat' split) <;> simp [*]

@[simp] theorem State.advanceTrk_cin (s : State) : (State.advanceTrk s).cin = s.cin := by
  unfold State.advanceTrk; (repeat' split) <;> simp [*, foldl_cin, foldlPair_cin]

@[simp] theorem State.advance_cin (s : State) (i : Nat) (c : Nat) : (State.advance s i c).cin = s.cin := by
  simp [State.advance]

@[simp] theorem State.closeInput_cin (s : State) (i : Nat) (port : Nat) (j : StageJob) (c : Nat) :
    (State.closeInput s i port j c).cin = s.cin := by
  simp [State.closeInput]

@[simp] theorem State.putDense_cin (s : State) (i : Nat) (j : StageJob) : (State.putDense s i j).cin = s.cin := by
  simp [State.putDense]

@[simp] theorem State.offerCells_cin (s : State) (j : StageJob) (m : Nat) : (State.offerCells s j m).cin = s.cin := by
  simp [State.offerCells]

@[simp] theorem State.offerMatches_cin (s : State) : (State.offerMatches s).cin = s.cin := by
  unfold State.offerMatches; (repeat' split) <;> simp [*]

@[simp] theorem State.putMatches_cin (s : State) (j : StageJob) : (State.putMatches s j).cin = s.cin := by
  simp [State.putMatches]

@[simp] theorem State.endDense_cin (s : State) (i : Nat) (j : StageJob) : (State.endDense s i j).cin = s.cin := by
  simp [State.endDense]

@[simp] theorem State.refit_cin (s : State) : (State.refit s).cin = s.cin := by
  simp [State.refit, foldl_cin]

@[simp] theorem State.setLoop_cin (s : State) (l : LoopSt) : (State.setLoop s l).cin = s.cin := by
  simp [State.setLoop]

@[simp] theorem State.enterHold_cin (s : State) : (State.enterHold s).cin = s.cin := by
  simp [State.enterHold]

@[simp] theorem State.stepGtc_cin (s : State) (d : Int) : (State.stepGtc s d).cin = s.cin := by
  simp [State.stepGtc]

@[simp] theorem State.stepToInput_cin (s : State) (i : Nat) (e : Int) : (State.stepToInput s i e).cin = s.cin := by
  simp [State.stepToInput]

@[simp] theorem State.reselect_cin (s : State) : (State.reselect s).cin = s.cin := by
  unfold State.reselect; simp only []; (repeat' split) <;> simp_all

@[simp] theorem State.failInput_cin (s : State) (i : Nat) (code : Nat) : (State.failInput s i code).cin = s.cin := by
  simp [State.failInput]

@[simp] theorem State.makeAvailable_cin (s : State) (i : Nat) : (State.makeAvailable s i).cin = s.cin := by
  simp [State.makeAvailable]

@[simp] theorem State.judgeLock_cin (s : State) (e : Int) : (State.judgeLock s e).cin = s.cin := by
  simp [State.judgeLock]

@[simp] theorem State.stepOnMeasure_cin (s : State) (i : Nat) (e : Int) : (s.stepOnMeasure i e).1.cin = s.cin := by
  unfold State.stepOnMeasure; simp only []; (repeat' split) <;> simp

@[simp] theorem State.loopMeasure_cin (s : State) (i : Nat) (e : Int) : (State.loopMeasure s i e).cin = s.cin := by
  simp [State.loopMeasure]

@[simp] theorem State.measure_cin (s : State) (i : Nat) (e : Int) (freq : Int) (jump : Bool) (domainOk : Bool) :
    (State.measure s i e freq jump domainOk).cin = s.cin := by
  simp [State.measure]

@[simp] theorem State.failLanicy_cin (s : State) : (State.failLanicy s).cin = s.cin := by
  simp [State.failLanicy, foldl_cin]

@[simp] theorem State.setBackupActs_cin (s : State) (v : Bool) : (State.setBackupActs s v).cin = s.cin := by
  simp [State.setBackupActs]

@[simp] theorem State.hearTime_cin (s : State) (port : Nat) (m : TimeMsg) : (State.hearTime s port m).cin = s.cin := by
  simp [State.hearTime]

@[simp] theorem State.endFreqPulse_cin (s : State) : (State.endFreqPulse s).cin = s.cin := by
  simp [State.endFreqPulse]

@[simp] theorem State.tmgCycle_cin (s : State) : (State.tmgCycle s).cin = s.cin := by
  simp [State.tmgCycle]

@[simp] theorem State.measureVin_cin (s : State) : (State.measureVin s).cin = s.cin := by
  simp [State.measureVin]

@[simp] theorem State.endVerify_cin (s : State) : (State.endVerify s).cin = s.cin := by
  unfold State.endVerify; (repeat' split) <;> simp [*]

@[simp] theorem State.runMessages_cin (s : State) : (State.runMessages s).cin = s.cin := by
  simp [State.runMessages, foldl_cin]

@[simp] theorem State.resumeTasks_cin (s : State) : (State.resumeTasks s).cin = s.cin := by
  simp [State.resumeTasks, foldl_cin]

@[simp] theorem State.tick_cin (s : State) : (State.tick s).cin = s.cin := by
  simp [State.tick]

@[simp] theorem State.emitLine_cin (s : State) (c pipe : Nat) (g : CtxFrame) (y : Nat) : (s.emitLine c pipe g y).1.cin = s.cin := by
  unfold State.emitLine
  refine foldlPair_cin _ (fun a x => ?_) _ _
  dsimp only
  split <;> simp

@[simp] theorem State.emitChroma_cin (s : State) (c : Nat) (pipe : Nat) (f : CtxFrame) :
    (State.emitChroma s c pipe f).cin = s.cin := by
  simp [State.emitChroma, foldl_cin]

@[simp] theorem State.enforcePins_cin (s : State) (old : Struct) : (State.enforcePins s old).cin = s.cin := by
  simp [State.enforcePins]

@[simp] theorem State.enforceBoard_cin (s : State) : (State.enforceBoard s).cin = s.cin := by
  simp [State.enforceBoard]

@[simp] theorem State.enforceInputs_cin (s : State) : (State.enforceInputs s).cin = s.cin := by
  simp [State.enforceInputs]

@[simp] theorem State.enforceRoles_cin (s : State) (old : Struct) : (State.enforceRoles s old).cin = s.cin := by
  simp [State.enforceRoles]

@[simp] theorem State.enforceOutputs_cin (s : State) (old : Struct) : (State.enforceOutputs s old).cin = s.cin := by
  simp [State.enforceOutputs]

@[simp] theorem State.refreshVfs_cin (s : State) : (State.refreshVfs s).cin = s.cin := by
  simp [State.refreshVfs]

@[simp] theorem State.enforceParts_cin (s : State) (old : Struct) : (State.enforceParts s old).cin = s.cin := by
  simp [State.enforceParts, foldl_cin]

@[simp] theorem State.enforceRegions_cin (s : State) (old : Struct) : (State.enforceRegions s old).cin = s.cin := by
  unfold State.enforceRegions
  refine (foldl_cin _ (fun s r => ?_) _ _).trans (foldl_cin _ (fun s r => ?_) _ _)
  · refine (foldl_cin _ (fun s l => ?_) _ _).trans rfl
    split
    · split <;> simp
    · rfl
  · rfl

@[simp] theorem State.enforceExports_cin (s : State) (old : Struct) : (State.enforceExports s old).cin = s.cin := by
  simp [State.enforceExports, foldl_cin]

@[simp] theorem State.enforceLinks_cin (s : State) (old : Struct) : (State.enforceLinks s old).cin = s.cin := by
  simp [State.enforceLinks, foldl_cin]

@[simp] theorem State.enforceStreams_cin (s : State) (old : Struct) : (State.enforceStreams s old).cin = s.cin := by
  simp [State.enforceStreams]

@[simp] theorem State.enforceStages_cin (s : State) : (State.enforceStages s).cin = s.cin := by
  simp [State.enforceStages]

@[simp] theorem State.enforceSafety_cin (s : State) (core : Option Bytes) : (State.enforceSafety s core).cin = s.cin := by
  unfold State.enforceSafety; (repeat' split) <;> simp [*]

@[simp] theorem State.rejectApply_cin (s : State) (n : Nat) (a : Apply) (status : Nat) (detail : Nat) :
    (State.rejectApply s n a status detail).cin = s.cin := by
  simp [State.rejectApply]

@[simp] theorem State.missFrame_cin (s : State) (r : Nat) (n : Nat) (a : Apply) : (State.missFrame s r n a).cin = s.cin := by
  simp [State.missFrame]

@[simp] theorem State.checkerFails_cin (s : State) (c : Nat × Nat) (g : Nat) : (State.checkerFails s c g).cin = s.cin := by
  unfold State.checkerFails; simp only []; (repeat' split) <;> simp_all

@[simp] theorem State.pairWrite_cin (s : State) (f : Part) (w : U32) : (State.pairWrite s f w).cin = s.cin := by
  simp [State.pairWrite]

@[simp] theorem State.draw_cin (s : State) (n : Nat) : (s.draw n).2.cin = s.cin := by simp [State.draw]

@[simp] theorem State.dropBlobs_cin (s : State) (a : Nat) (n : Nat) : (State.dropBlobs s a n).cin = s.cin := by
  simp [State.dropBlobs]

@[simp] theorem State.failLoad_cin (s : State) (f : Nat) (q : Nat) (pos : Nat) (status : Nat) (detail : Nat) (c : Cmd) (payload : Nat) :
    (State.failLoad s f q pos status detail c payload).cin = s.cin := by
  simp [State.failLoad]

@[simp] theorem State.openPackage_cin (s : State) (f : Nat) (q : Nat) (c : Cmd) (b : Bytes) (key : Bytes) (ep : Bool) :
    (State.openPackage s f q c b key ep).cin = s.cin := by
  unfold State.openPackage; simp only []; split
  · simp
  · split
    · simp
    · split <;> simp

@[simp] theorem State.newMemoryKey_cin (s : State) : (State.newMemoryKey s).cin = s.cin := by
  simp [State.newMemoryKey]

@[simp] theorem State.tagChanged_cin (s : State) : (State.tagChanged s).cin = s.cin := by
  simp [State.tagChanged]

@[simp] theorem State.setSpdm_cin (s : State) (p : SpdmPort) (x : Spdm) : (State.setSpdm s p x).cin = s.cin := by
  unfold State.setSpdm; (repeat' split) <;> simp [*]

@[simp] theorem State.endConsent_cin (s : State) : (State.endConsent s).cin = s.cin := by
  unfold State.endConsent; (repeat' split) <;> simp [*]

@[simp] theorem State.clearRsq_cin (s : State) (off : Nat) : (State.clearRsq s off).cin = s.cin := by
  simp [State.clearRsq]

@[simp] theorem State.clearStage_cin (s : State) (i : Nat) (r : Nat) : (State.clearStage s i r).cin = s.cin := by
  simp [State.clearStage]

@[simp] theorem State.clearMash_cin (s : State) (off : Nat) : (State.clearMash s off).cin = s.cin := by
  simp [State.clearMash]

@[simp] theorem State.clearNec_cin (s : State) (off : Nat) : (State.clearNec s off).cin = s.cin := by
  simp [State.clearNec]

@[simp] theorem State.clearMem_cin (s : State) (off : Nat) : (State.clearMem s off).cin = s.cin := by
  simp [State.clearMem]

@[simp] theorem State.clearLnk_cin (s : State) (off : Nat) : (State.clearLnk s off).cin = s.cin := by
  simp [State.clearLnk]

@[simp] theorem State.clearTmg_cin (s : State) (off : Nat) : (State.clearTmg s off).cin = s.cin := by
  simp [State.clearTmg]

@[simp] theorem State.clearSaf_cin (s : State) (off : Nat) : (State.clearSaf s off).cin = s.cin := by
  simp [State.clearSaf]

@[simp] theorem State.clearMgt_cin (s : State) (off : Nat) : (State.clearMgt s off).cin = s.cin := by
  simp [State.clearMgt]

@[simp] theorem State.clearLog_cin (s : State) (off : Nat) : (State.clearLog s off).cin = s.cin := by
  simp [State.clearLog]

@[simp] theorem State.memCorrected_cin (s : State) (a : Nat) : (State.memCorrected s a).cin = s.cin := by
  simp [State.memCorrected]

@[simp] theorem State.memUncorrectable_cin (s : State) (a : Nat) : (State.memUncorrectable s a).cin = s.cin := by
  simp [State.memUncorrectable]

@[simp] theorem State.countFind_cin (s : State) (a : Nat) (e : EccFind) : (s.countFind a e).cin = s.cin := by
  cases e <;> simp [State.countFind]

@[simp] theorem State.pairFill_cin (s : State) (a : Nat) : (State.pairFill s a).cin = s.cin := by
  simp [State.pairFill]

@[simp] theorem State.keepSeq_cin (s : State) (l : Log) : (State.keepSeq s l).cin = s.cin := by
  simp [State.keepSeq]

@[simp] theorem State.appendNext_cin (s : State) : (State.appendNext s).cin = s.cin := by
  unfold State.appendNext; (repeat' split) <;> simp [*]

@[simp] theorem State.norCopy_cin (s : State) (ok : Bool) : (State.norCopy s ok).cin = s.cin := by
  unfold State.norCopy; (repeat' split) <;> simp [*]

@[simp] theorem State.appendMany_cin (s : State) (n : Nat) : (State.appendMany s n).cin = s.cin := by
  induction n generalizing s with
  | zero => rfl
  | succ n ih => unfold State.appendMany; simp [ih]

@[simp] theorem State.copyMany_cin (s : State) (n : Nat) : (State.copyMany s n).cin = s.cin := by
  induction n generalizing s with
  | zero => rfl
  | succ n ih => unfold State.copyMany; simp [ih]

@[simp] theorem State.endInterval_cin (s : State) : (State.endInterval s).cin = s.cin := by
  simp [State.endInterval]

@[simp] theorem State.patrolUe_cin (s : State) (block : Nat) (a : Nat) (intervened : Bool) :
    (State.patrolUe s block a intervened).cin = s.cin := by
  simp [State.patrolUe]

@[simp] theorem State.patrolBlock_cin (s : State) (block : Nat) (errs : List Bytes) (intervened : Bool) :
    (State.patrolBlock s block errs intervened).cin = s.cin := by
  refine foldl_cin _ (fun s x => ?_) _ _
  dsimp only
  split
  · rfl
  · split <;> simp

@[simp] theorem State.defer_cin (s : State) (activity : Nat) : (State.defer s activity).cin = s.cin := by
  simp [State.defer]

@[simp] theorem State.setBg_cin (s : State) (f : Part) (w : U32) : (State.setBg s f w).cin = s.cin := by
  simp [State.setBg]

@[simp] theorem State.askSource_cin (s : State) (part : Nat) (board : Nat) (a : Nat) (n : Nat) (cmd : Option (Nat × Nat × Nat)) :
    (State.askSource s part board a n cmd).cin = s.cin := by
  simp [State.askSource, foldl_cin]

@[simp] theorem State.sendOwn_cin (s : State) (f : Nat) (q : Nat) (c : Cmd) : (State.sendOwn s f q c).cin = s.cin := by
  unfold State.sendOwn; simp only []; (repeat' split) <;> simp_all

@[simp] theorem State.startApply_cin (s : State) (f : Nat) (q : Nat) (c : Cmd) (point : ApplyPoint) :
    (State.startApply s f q c point).cin = s.cin := by
  unfold State.startApply; simp only []; (repeat' split) <;> simp_all

@[simp] theorem State.readmit_cin (s : State) (b : Nat) : (State.readmit s b).cin = s.cin := by
  simp [State.readmit]

@[simp] theorem State.returned_cin (s : State) (b : Nat) (tag : Bytes) : (State.returned s b tag).cin = s.cin := by
  simp [State.returned]

@[simp] theorem State.dropHomed_cin (s : State) (b : Nat) : (State.dropHomed s b).cin = s.cin := by
  simp [State.dropHomed, foldl_cin]

@[simp] theorem State.dropHolder_cin (s : State) (b : Nat) : (State.dropHolder s b).cin = s.cin := by
  simp [State.dropHolder, foldl_cin]

@[simp] theorem State.oweCredits_cin (s : State) (p : Nat) (m : Msg) (len : Nat) : (State.oweCredits s p m len).cin = s.cin := by
  simp [State.oweCredits]

@[simp] theorem State.relay_cin (s : State) (p n : Nat) (b : Bytes) : (State.relay p n s b).1.cin = s.cin := by
  induction n generalizing s b with
  | zero => rfl
  | succ n ih => unfold State.relay; simp only []; (repeat' split) <;> simp [ih]

@[simp] theorem State.replay_cin (s : State) (p : Nat) : (State.replay s p).cin = s.cin := by
  simp [State.replay]

@[simp] theorem State.restartMessage_cin (s : State) (dest : Nat) (f : Nat) (q : Nat) (c : Cmd) :
    (State.restartMessage s dest f q c).cin = s.cin := by
  simp [State.restartMessage]

@[simp] theorem State.taskFault_cin (s : State) (c : Nat) (cause : Nat) (ea : Option Nat) :
    (State.taskFault s c cause ea).cin = s.cin := by
  unfold State.taskFault; simp only []; (repeat' split) <;> simp_all

@[simp] theorem State.issue_cin (s : State) (c : Nat) (op : Nat) (w : U64) (fields : Nat) (act : Core → Task → State) (h_act : ∀ x0 x1, (act x0 x1).cin = s.cin) :
    (State.issue s c op w fields act).cin = s.cin := by
  unfold State.issue; simp only []; (repeat' split) <;> simp_all

@[simp] theorem State.markFrame_cin (s : State) (own : Nat × Nat × Nat) (poisoned : Bool) (lost : Bool) :
    (State.markFrame s own poisoned lost).cin = s.cin := by
  simp [State.markFrame]

@[simp] theorem State.markOwner_cin (s : State) (c : Nat) (own : Nat × Nat × Nat) (b : Bool) :
    (State.markOwner s c own b).cin = s.cin := by
  simp [State.markOwner]

@[simp] theorem State.askPiece_cin (s : State) (c : Nat) (x : Xfer) (a n : Nat) : (s.askPiece c x a n).1.cin = s.cin := by
  unfold State.askPiece; simp only []; split <;> simp [foldl_cin]

@[simp] theorem State.pieceRead_cin (s : State) (c : Nat) (x : Xfer) (host : Bool) (a : Nat) (n : Nat) (bad : List Nat) :
    (State.pieceRead s c x host a n bad).cin = s.cin := by
  simp [State.pieceRead, foldl_cin]

@[simp] theorem State.storePiece_cin (s : State) (part : Nat) (host : Bool) (a : Nat) (bs : Bytes) (bad : List Nat) (cmd : Option (Nat × Nat × Nat)) :
    (State.storePiece s part host a bs bad cmd).cin = s.cin := by
  simp [State.storePiece, foldl_cin]

@[simp] theorem State.moveRows_cin (s : State) (c : Nat) (h : HostRead) (a n : Nat) (x : Xfer) : (State.moveRows s c h a n x).1.cin = s.cin := by
  induction n generalizing s x with
  | zero => rfl
  | succ n ih => unfold State.moveRows; simp only []; (repeat' split) <;> simp [ih]

@[simp] theorem State.moveCask_cin (s : State) (c : Nat) (h : HostRead) (a n : Nat) (x : Xfer) : (State.moveCask s c h a n x).1.cin = s.cin := by
  induction n generalizing s x with
  | zero => rfl
  | succ n ih => unfold State.moveCask; simp only []; (repeat' split) <;> simp [ih]

@[simp] theorem State.moveXfer_cin (s : State) (c : Nat) (h : HostRead) (n : Nat) (x : Xfer) : (s.moveXfer c h n x).1.cin = s.cin := by
  unfold State.moveXfer; split <;> simp

@[simp] theorem State.publishTask_cin (s : State) (c : Nat) (t : Task) (desc : Bytes) :
    (State.publishTask s c t desc).cin = s.cin := by
  unfold State.publishTask; (repeat' split) <;> simp [*]

@[simp] theorem State.releaseStall_cin (s : State) (c : Nat) : (State.releaseStall s c).cin = s.cin := by
  unfold State.releaseStall; simp only []; (repeat' split) <;> simp_all

@[simp] theorem State.caskOp_cin (s : State) (c : Nat) (w : U64) (ok : CaskCfg → Bool) (act : CaskCfg → State) (h_act : ∀ x0, (act x0).cin = s.cin) :
    (State.caskOp s c w ok act).cin = s.cin := by
  unfold State.caskOp; (repeat' split) <;> simp [*]

@[simp] theorem State.endCwait_cin (s : State) (c : Nat) (p : Bool) : (State.endCwait s c p).cin = s.cin := by
  simp [State.endCwait]

@[simp] theorem State.doCrd_cin (s : State) (c : Nat) (v : Nat) (idx : Nat) (off : Nat) (k : CaskCfg) :
    (State.doCrd s c v idx off k).cin = s.cin := by
  simp [State.doCrd]

@[simp] theorem State.doCpush_cin (s : State) (c : Nat) (v : Nat) (idx : Nat) (k : CaskCfg) :
    (State.doCpush s c v idx k).cin = s.cin := by
  simp [State.doCpush]

@[simp] theorem State.startDma_cin (s : State) (c : Nat) (w : U64) (into : Bool) (x : Core) (t : Task) :
    (State.startDma s c w into x t).cin = s.cin := by
  unfold State.startDma; simp only []; (repeat' split) <;> simp_all

@[simp] theorem State.issuePlain_cin (s : State) (c : Nat) (act : Core → Task → State) (h_act : ∀ x0 x1, (act x0 x1).cin = s.cin) :
    (State.issuePlain s c act).cin = s.cin := by
  unfold State.issuePlain; simp only []; (repeat' split) <;> simp_all

@[simp] theorem State.halt_cin (s : State) (f : Nat) (q : Nat) (error : Nat) : (State.halt s f q error).cin = s.cin := by
  simp [State.halt]

@[simp] theorem State.raise_cin (s : State) (f : Nat) (q : Nat) : (State.raise s f q).cin = s.cin := by
  simp [State.raise]

@[simp] theorem State.postEntry_cin (s : State) (f : Nat) (q : Nat) (seq : Nat) (status : Nat) (detail : Nat) (source : Nat) :
    (State.postEntry s f q seq status detail source).cin = s.cin := by
  simp [State.postEntry]

@[simp] theorem State.settle_cin (s : State) (f : Nat) (q : Nat) : (State.settle s f q).cin = s.cin := by
  simp [State.settle]

@[simp] theorem State.postAborted_cin (s : State) (f : Nat) (q : Nat) (status : Nat) (a : Aborted) :
    (State.postAborted s f q status a).cin = s.cin := by
  simp [State.postAborted]

@[simp] theorem State.postAborts_cin (s : State) (f q n : Nat) : (State.postAborts s f q n).cin = s.cin := by
  induction n generalizing s with
  | zero => rfl
  | succ n ih => unfold State.postAborts; simp only []; (repeat' split) <;> simp [ih]

@[simp] theorem State.ringTail_cin (s : State) (f : Part) (q : Fin 64) (idx : BitVec 16) :
    (State.ringTail s f q idx).cin = s.cin := by
  simp [State.ringTail]

@[simp] theorem State.ringHead_cin (s : State) (f : Part) (q : Fin 64) (idx : BitVec 16) :
    (State.ringHead s f q idx).cin = s.cin := by
  simp [State.ringHead]

@[simp] theorem State.takeDescriptor_cin (s : State) (f : Nat) (q : Nat) (d : Bytes) :
    (State.takeDescriptor s f q d).cin = s.cin := by
  unfold State.takeDescriptor; simp only []; (repeat' split) <;> simp_all

@[simp] theorem State.settleLoad_cin (s : State) (f : Nat) (q : Nat) (pos : Nat) (ok : Bool) :
    (State.settleLoad s f q pos ok).cin = s.cin := by
  simp [State.settleLoad]

@[simp] theorem State.turnOn_cin (s : State) (f : Part) (q : Fin 64) (w : U32) : (State.turnOn s f q w).cin = s.cin := by
  simp [State.turnOn]

@[simp] theorem State.turnOff_cin (s : State) (f : Part) (q : Fin 64) (w : U32) : (State.turnOff s f q w).cin = s.cin := by
  simp [State.turnOff]

@[simp] theorem State.setMode_cin (s : State) (m : Nat) : (State.setMode s m).cin = s.cin := by
  simp [State.setMode]

@[simp] theorem State.closeLoop_cin (s : State) : (State.closeLoop s).cin = s.cin := by
  simp [State.closeLoop]

@[simp] theorem State.askClosed_cin (s : State) (f : Part) (w : U32) : (State.askClosed s f w).cin = s.cin := by
  simp [State.askClosed]

@[simp] theorem State.askHold_cin (s : State) (f : Part) (w : U32) : (State.askHold s f w).cin = s.cin := by
  simp [State.askHold]

@[simp] theorem State.askSoftware_cin (s : State) (f : Part) (w : U32) : (State.askSoftware s f w).cin = s.cin := by
  simp [State.askSoftware]

@[simp] theorem State.setDco_cin (s : State) (f : Part) (upper : U32) : (State.setDco s f upper).cin = s.cin := by
  simp [State.setDco]

@[simp] theorem State.setTod_cin (s : State) (f : Part) (upper : U32) : (State.setTod s f upper).cin = s.cin := by
  simp [State.setTod]

@[simp] theorem State.askStep_cin (s : State) (f : Part) (upper : U32) : (State.askStep s f upper).cin = s.cin := by
  simp [State.askStep]

@[simp] theorem State.askRealign_cin (s : State) (f : Part) (output : Fin 9) (w : U32) :
    (State.askRealign s f output w).cin = s.cin := by
  simp [State.askRealign]

@[simp] theorem State.realignStep_cin (s : State) (o : Nat) : (State.realignStep s o).cin = s.cin := by
  unfold State.realignStep; (repeat' split) <;> simp [*]

@[simp] theorem State.takeRequest_cin (s : State) (request : Nat) : (State.takeRequest s request).cin = s.cin := by
  simp [State.takeRequest]

@[simp] theorem State.askClaim_cin (s : State) (f : Part) (w : U32) : (State.askClaim s f w).cin = s.cin := by
  simp [State.askClaim]

@[simp] theorem State.askRotate_cin (s : State) (f : Part) (w : U32) : (State.askRotate s f w).cin = s.cin := by
  simp [State.askRotate]

@[simp] theorem State.installTenant_cin (s : State) (key : Bytes) (base : Nat) :
    (State.installTenant s key base).cin = s.cin := by
  simp [State.installTenant]

@[simp] theorem State.spdmAnswer_cin (s : State) (p : SpdmPort) (ok : Bool) (data : Bytes) (g : Spdm → Spdm) :
    (State.spdmAnswer s p ok data g).cin = s.cin := by
  simp [State.spdmAnswer]

@[simp] theorem State.leaveSecure_cin (s : State) (stream : Fin 17) : (State.leaveSecure s stream).cin = s.cin := by
  unfold State.leaveSecure; (repeat' split) <;> simp [*, foldl_cin]

@[simp] theorem State.pokeQueue_cin (s : State) (f : Part) (q : Fin 64) (r : Nat) (w : U32) :
    (State.pokeQueue s f q r w).cin = s.cin := by
  simp [State.pokeQueue]

@[simp] theorem State.pokeFn_cin (s : State) (f : Part) (off : Nat) (w : U32) : (State.pokeFn s f off w).cin = s.cin := by
  simp [State.pokeFn]

@[simp] theorem State.pokeBar2_cin (s : State) (f : Part) (off : Nat) (w : U32) : (State.pokeBar2 s f off w).cin = s.cin := by
  simp [State.pokeBar2]

@[simp] theorem State.setQl_cin (s : State) (i : Nat) (ql : Nat) : (State.setQl s i ql).cin = s.cin := by
  simp [State.setQl]

theorem iteEq_cin {c : Prop} [Decidable c] {s a b : State} (h1 : a.cin = s.cin) (h2 : b.cin = s.cin) :
    (if c then a else b).cin = s.cin := by
  split <;> assumption

@[simp] theorem State.pokeTmg_cin (s : State) (off : Nat) (w : U32) : (State.pokeTmg s off w).cin = s.cin := by
  refine iteEq_cin ?_ (iteEq_cin ?_ (iteEq_cin ?_ (iteEq_cin ?_ (iteEq_cin ?_ (iteEq_cin ?_ (iteEq_cin ?_ (iteEq_cin ?_ (iteEq_cin ?_
    (iteEq_cin ?_ (iteEq_cin ?_ ?_))))))))))
  · split <;> simp
  · exact iteEq_cin rfl rfl
  · simp
  · rfl
  · simp
  · rfl
  · simp
  · rfl
  · rfl
  · exact iteEq_cin (by simp) rfl
  · exact iteEq_cin (by simp) rfl
  · rfl

@[simp] theorem State.pokeSec_cin (s : State) (off : Nat) (w : U32) : (State.pokeSec s off w).cin = s.cin := by
  unfold State.pokeSec; (repeat' split) <;> simp [*]

@[simp] theorem State.pokeRange_cin (s : State) (off : Nat) (w : U32) : (State.pokeRange s off w).cin = s.cin := by
  simp [State.pokeRange]

@[simp] theorem State.pokeFw_cin (s : State) (w : U32) : (State.pokeFw s w).cin = s.cin := by
  unfold State.pokeFw; (repeat' split) <;> simp [*]

@[simp] theorem State.pokeMgt_cin (s : State) (off : Nat) (w : U32) : (State.pokeMgt s off w).cin = s.cin := by
  simp [State.pokeMgt]

@[simp] theorem State.pokeRec_cin (s : State) (off : Nat) (w : U32) : (State.pokeRec s off w).cin = s.cin := by
  unfold State.pokeRec; (repeat' split) <;> simp [*]

@[simp] theorem State.pokePwr_cin (s : State) (off : Nat) (w : U32) : (State.pokePwr s off w).cin = s.cin := by
  simp [State.pokePwr]

@[simp] theorem State.freeStage_cin (s : State) (r : Nat) (id : Nat) (m : NodeRun) : (State.freeStage s r id m).cin = s.cin := by
  unfold State.freeStage
  dsimp only
  split
  · split
    · rw [State.mapFrame_cin]
    · rfl
  · rfl

@[simp] theorem State.haltEngine_cin (s : State) (e : Nat) : (State.haltEngine s e).cin = s.cin := by
  simp [State.haltEngine]

@[simp] theorem State.beginGather_cin (s : State) (f : Nat) (q : Nat) (c : Cmd) (b : Bytes) (ep : Bool) (scalar : Nat) (own : Nat) (share : Bytes) :
    (State.beginGather s f q c b ep scalar own share).cin = s.cin := by
  simp [State.beginGather]

@[simp] theorem State.poisonBlob_cin (s : State) (i : Nat) (b : Blob) : (State.poisonBlob s i b).cin = s.cin := by
  simp [State.poisonBlob]

@[simp] theorem State.abortFrameApplies_cin (s : State) : (State.abortFrameApplies s).cin = s.cin := by
  unfold State.abortFrameApplies
  refine foldl_cin _ (fun s x => ?_) _ _
  split
  · split <;> simp
  · rfl

@[simp] theorem State.abortQueue_cin (s : State) (f : Nat) (q : Nat) : (State.abortQueue s f q).cin = s.cin := by
  simp [State.abortQueue, foldl_cin]

@[simp] theorem State.removeVfs_cin (s : State) : (State.removeVfs s).cin = s.cin := by
  simp [State.removeVfs]

@[simp] theorem State.destroyKeys_cin (s : State) : (State.destroyKeys s).cin = s.cin := by
  simp [State.destroyKeys]

@[simp] theorem State.renewPorts_cin (s : State) : (State.renewPorts s).cin = s.cin := by
  simp [State.renewPorts, foldl_cin]

end Sys2Proof.Machine
end

