-- ==== Sys2Proof/Laws/Issue.lean ====
section
/-! SUPPORT. An instruction that a free core takes: what is left is its own action -/

namespace Sys2Proof.Machine

open Sys2Proof

theorem State.issue_eq_act {s : State} {c op : Nat} {w : U64} {fields : Nat} {t : Task} (h : s.issues c op w fields t = true) (act : Core → Task → State) :
    s.issue c op w fields act = act { s.core c with stepOne := false } t := by
  simp [State.issues, State.free_] at h
  obtain ⟨⟨⟨⟨⟨⟨h1, h2⟩, h3⟩, h4⟩, h5⟩, h6⟩, h7⟩ := h
  unfold State.issue
  simp only [h1]
  rw [if_neg, if_neg, if_neg]
  · simpa using h7
  · omega
  · simp [h2, h3, h4, h5]

theorem State.issuePlain_eq_act {s : State} {c : Nat} {t : Task} (h : s.free_ c t = true) (h2 : (s.core c).pc + 8 ≤ t.codeLen) (act : Core → Task → State) :
    s.issuePlain c act = act { s.core c with stepOne := false } t := by
  simp [State.free_] at h
  obtain ⟨⟨⟨h1, h2⟩, h3⟩, h4⟩ := h
  unfold State.issuePlain
  simp only [h1]
  rw [if_neg, if_neg]
  · omega
  · simp [h2, h3, h4]

end Sys2Proof.Machine
end

