-- ==== Sys2Proof/Machine/Pins.lean ====
section
/-! DEFINITION. What the board drives on the outputs of its connectors (R59 to R62, R64, R80, R548, R625 to R627, R720), as a
function of the state. -/

namespace Sys2Proof.Machine

/-- The outputs of Table 2-6 and the PCIe group (R60). DEDUCED (log entry 158). -/
inductive OutPin where
  | pcie
  | safeOkA
  | safeOkB
  | safeOffN
  | can (port : Fin 2)
  | output (o : Fin 9)
  | freqOut
  | sensorBus (k : Fin 4)
  | smbdat
  | smbalertN
  | uartTx
  | tdo
  | lanicyTx (port : Fin 8)
  | timePortTx
  deriving DecidableEq, Repr

/-- What an output does. DEDUCED (log entry 158). -/
inductive Drive where
  | highZ
  | low
  | high
  /-- the 1 kHz square wave of SAFE_OK; the two rails stand in antiphase -/
  | toggling (antiphase : Bool)
  /-- a bus or link of its own protocol, idle or busy -/
  | traffic
  deriving DecidableEq, Repr

/-- A level. -/
def levelOf (b : Bool) : Drive := if b then .high else .low

/-- An output that waits for BOARD enablement: `d` where its enable is in force at the pins, else high-impedance (R59, R62). -/
def State.driven (s : State) (i : Nat) (d : Drive) : Drive := if s.pinOn i then d else .highZ

/-- What each output does (R59 to R64, Table 2-6). SMBALERT_N is released: no rule of the manual asserts it. UART_TX stands at mark:
no rule sends a character. DEDUCED (log entry 158). -/
def State.drive (s : State) : OutPin → Drive
  | .pcie => if s.hif.linkUp then .traffic else .highZ
  | .safeOkA => s.driven 0 (if s.saf.okToggling then .toggling false else .low)
  | .safeOkB => s.driven 0 (if s.saf.okToggling then .toggling true else .high)
  | .safeOffN => s.driven 1 (levelOf (!s.saf.safeOff))
  | .can p => s.driven (2 + p) .traffic
  | .output o => s.driven (outPin o) (levelOf (s.output o).pulse.isSome)
  | .freqOut => s.driven 5 (levelOf (!s.freqLow))
  | .sensorBus k => if bit (s.struct.boardField 6 1) k then s.driven 6 .traffic else .highZ
  | .smbdat => if s.smbusOn then .traffic else .highZ
  | .smbalertN => if s.smbusOn then .high else .highZ
  | .uartTx => s.driven 8 .high
  | .tdo => if s.debugFeatures = 0 then .highZ else s.driven 9 .traffic
  | .lanicyTx p => if s.struct.lnkEn p then s.driven 10 .traffic else .highZ
  | .timePortTx => s.driven 11 .traffic

end Sys2Proof.Machine
end

