-- ==== Sys2Proof/Laws/KeepsFuses.lean ====
section
/-! SUPPORT. The SVN fuse counters: no operation but the end of a burn writes them, and that one raises them. -/

namespace Sys2Proof.Machine

@[simp] theorem ite_svn (c : Prop) [Decidable c] (a b : State) : (if c then a else b).fw.svn = if c then a.fw.svn else b.fw.svn := by
  split <;> rfl

/-- The same where an update of the firmware part stands in the branches. -/
@[simp] theorem ite_fw_svn (c : Prop) [Decidable c] (a b : Fw) : (if c then a else b).svn = if c then a.svn else b.svn := by
  split <;> rfl

theorem foldl_svn {α : Type} (f : State → α → State) (h : ∀ s x, (f s x).fw.svn = s.fw.svn) (l : List α) (s : State) :
    (l.foldl f s).fw.svn = s.fw.svn := by
  induction l generalizing s with
  | nil => rfl
  | cons a t ih => rw [List.foldl_cons, ih, h]

theorem foldlPair_svn {α β : Type} (f : State × β → α → State × β) (h : ∀ a x, (f a x).1.fw.svn = a.1.fw.svn) (l : List α)
    (a : State × β) : (l.foldl f a).1.fw.svn = a.1.fw.svn := by
  induction l generalizing a with
  | nil => rfl
  | cons x t ih => rw [List.foldl_cons, ih, h]

@[simp] theorem State.emit_svn (s : State) (o : Out) :
    (State.emit s o).fw.svn = s.fw.svn := by
  simp [State.emit]

@[simp] theorem State.emitAll_svn (s : State) (o : List Out) :
    (State.emitAll s o).fw.svn = s.fw.svn := by
  simp [State.emitAll]

@[simp] theorem State.useFree_svn (s : State) :
    (State.useFree s).fw.svn = s.fw.svn := by
  simp [State.useFree]

@[simp] theorem State.note_svn (s : State) (source : Nat) (cls : Nat) (code : Nat) (part : Nat) (args : List Nat) (tenant : Bool) :
    (State.note s source cls code part args tenant).fw.svn = s.fw.svn := by
  simp [State.note]

@[simp] theorem State.sendEvents_svn (s : State) :
    (State.sendEvents s).fw.svn = s.fw.svn := by
  simp [State.sendEvents]

@[simp] theorem State.event_svn (s : State) (f : Nat) (c : Nat) (source : Nat) :
    (State.event s f c source).fw.svn = s.fw.svn := by
  unfold State.event; (repeat' split) <;> simp [*]

@[simp] theorem State.eventAll_svn (s : State) (c : Nat) (source : Nat) :
    (State.eventAll s c source).fw.svn = s.fw.svn := by
  simp [State.eventAll, foldl_svn]

@[simp] theorem State.memWrite_svn (s : State) (a : Nat) (bs : Bytes) (poison : Bool) :
    (State.memWrite s a bs poison).fw.svn = s.fw.svn := by
  simp [State.memWrite]

@[simp] theorem State.memWriteMixed_svn (s : State) (a : Nat) (bs : Bytes) (pz : Nat → Bool) :
    (State.memWriteMixed s a bs pz).fw.svn = s.fw.svn := by
  simp [State.memWriteMixed, foldl_svn]

@[simp] theorem State.setQueue_svn (s : State) (f : Nat) (q : Nat) (x : Queue) :
    (State.setQueue s f q x).fw.svn = s.fw.svn := by
  simp [State.setQueue]

@[simp] theorem State.fix_svn (s : State) (f : Nat) (q : Nat) (pos : Nat) (status : Nat) (detail : Nat) (source : Nat) :
    (State.fix s f q pos status detail source).fw.svn = s.fw.svn := by
  unfold State.fix; simp only []; (repeat' split) <;> simp_all

@[simp] theorem State.refuse_svn (s : State) (f : Nat) (q : Nat) (pos : Nat) (detail : Nat) :
    (State.refuse s f q pos detail).fw.svn = s.fw.svn := by
  simp [State.refuse]

@[simp] theorem State.setCmd_svn (s : State) (f : Nat) (q : Nat) (pos : Nat) (g : Cmd → Cmd) :
    (State.setCmd s f q pos g).fw.svn = s.fw.svn := by
  simp [State.setCmd]

@[simp] theorem State.underWay_svn (s : State) (f : Nat) (q : Nat) (pos : Nat) (status : Nat) (detail : Nat) (source : Nat) :
    (State.underWay s f q pos status detail source).fw.svn = s.fw.svn := by
  simp [State.underWay]

@[simp] theorem State.driveSafeOff_svn (s : State) (on : Bool) :
    (State.driveSafeOff s on).fw.svn = s.fw.svn := by
  simp [State.driveSafeOff]

@[simp] theorem State.sendCan_svn (s : State) (ident : Nat) (typ : Nat) (alive : BitVec 8) :
    (State.sendCan s ident typ alive).fw.svn = s.fw.svn := by
  simp [State.sendCan]

@[simp] theorem State.setSaf_svn (s : State) (st : SafSt) :
    (State.setSaf s st).fw.svn = s.fw.svn := by
  simp [State.setSaf]

@[simp] theorem State.enterSafe_svn (s : State) (cause : Nat) (gtc : Nat) (source : Nat) (hw : Bool) :
    (State.enterSafe s cause gtc source hw).fw.svn = s.fw.svn := by
  simp [State.enterSafe]

@[simp] theorem State.latchCause_svn (s : State) (cause : Nat) (source : Nat) :
    (State.latchCause s cause source).fw.svn = s.fw.svn := by
  simp [State.latchCause]

@[simp] theorem State.undefine_svn (s : State) (f : Nat) (addr : Nat) (n : Nat) :
    (State.undefine s f addr n).fw.svn = s.fw.svn := by
  unfold State.undefine; (repeat' split) <;> simp [*]

@[simp] theorem State.mapPort_svn (s : State) (p : Nat) (g : LnkPort → LnkPort) :
    (State.mapPort s p g).fw.svn = s.fw.svn := by
  simp [State.mapPort]

@[simp] theorem State.reroute_svn (s : State) :
    (State.reroute s).fw.svn = s.fw.svn := by
  simp [State.reroute]

@[simp] theorem State.sendFlit_svn (s : State) (p : Nat) (idle : Bool) (payload : Bytes) :
    (State.sendFlit s p idle payload).fw.svn = s.fw.svn := by
  simp [State.sendFlit]

@[simp] theorem State.pump_svn (s : State) (p : Nat) (l : List Bytes) : (State.pump s p l).fw.svn = s.fw.svn := by
  induction l generalizing s with
  | nil => simp [State.pump]
  | cons b t ih => unfold State.pump; split <;> simp [ih]

@[simp] theorem State.sendIdle_svn (s : State) (p : Nat) :
    (State.sendIdle s p).fw.svn = s.fw.svn := by
  simp [State.sendIdle]

@[simp] theorem State.nak_svn (s : State) (p : Nat) :
    (State.nak s p).fw.svn = s.fw.svn := by
  simp [State.nak]

@[simp] theorem State.portSend_svn (s : State) (p : Nat) (lane : Nat) (m : Msg) :
    (State.portSend s p lane m).fw.svn = s.fw.svn := by
  simp [State.portSend]

@[simp] theorem State.strand_svn (s : State) (m : Msg) :
    (State.strand s m).fw.svn = s.fw.svn := by
  simp [State.strand]

@[simp] theorem State.forward_svn (s : State) (m : Msg) :
    (State.forward s m).fw.svn = s.fw.svn := by
  unfold State.forward; (repeat' split) <;> simp [*]

@[simp] theorem State.sendMsg_svn (s : State) (m : Msg) :
    (State.sendMsg s m).fw.svn = s.fw.svn := by
  simp [State.sendMsg]

@[simp] theorem State.flushStuck_svn (s : State) :
    (State.flushStuck s).fw.svn = s.fw.svn := by
  simp [State.flushStuck, foldl_svn]

@[simp] theorem State.advertise_svn (s : State) :
    (State.advertise s).fw.svn = s.fw.svn := by
  simp [State.advertise]

@[simp] theorem State.tellLinks_svn (s : State) :
    (State.tellLinks s).fw.svn = s.fw.svn := by
  simp [State.tellLinks]

@[simp] theorem State.linksChanged_svn (s : State) :
    (State.linksChanged s).fw.svn = s.fw.svn := by
  simp [State.linksChanged]

@[simp] theorem State.sendRequest_svn (s : State) (m : Msg) (cmd : Option (Nat × Nat × Nat)) :
    (State.sendRequest s m cmd).fw.svn = s.fw.svn := by
  simp [State.sendRequest]

@[simp] theorem State.request_svn (s : State) (m : Msg) (cmd : Option (Nat × Nat × Nat)) :
    (State.request s m cmd).fw.svn = s.fw.svn := by
  simp [State.request]

@[simp] theorem State.issueWaiting_svn (s : State) (d n : Nat) : (State.issueWaiting s d n).fw.svn = s.fw.svn := by
  induction n generalizing s with
  | zero => rfl
  | succ n ih => unfold State.issueWaiting; (repeat' split) <;> simp [ih]

@[simp] theorem State.answered_svn (s : State) (src : Nat) (reqId : Nat) :
    (State.answered s src reqId).fw.svn = s.fw.svn := by
  simp [State.answered]

@[simp] theorem State.markRun_svn (s : State) (r : Nat) (id : Nat) (poisoned : Bool) (lost : Bool) :
    (State.markRun s r id poisoned lost).fw.svn = s.fw.svn := by
  simp [State.markRun]

@[simp] theorem State.markCmd_svn (s : State) (cmd : Option (Nat × Nat × Nat)) (poisoned : Bool) (lost : Bool) :
    (State.markCmd s cmd poisoned lost).fw.svn = s.fw.svn := by
  unfold State.markCmd; (repeat' split) <;> simp [*]

@[simp] theorem State.poisonRead_svn (s : State) (part : Nat) (a : Nat) (source : Nat) :
    (State.poisonRead s part a source).fw.svn = s.fw.svn := by
  simp [State.poisonRead]

@[simp] theorem State.deliverTo_svn (s : State) (part : Nat) (a : Nat) (source : Nat) (data : Bytes) (poison : Bool) :
    (State.deliverTo s part a source data poison).fw.svn = s.fw.svn := by
  simp [State.deliverTo]

@[simp] theorem State.remoteWrite_svn (s : State) (board : Nat) (part : Nat) (a : Nat) (bs : Bytes) (poison : Bool) (cmd : Option (Nat × Nat × Nat)) :
    (State.remoteWrite s board part a bs poison cmd).fw.svn = s.fw.svn := by
  simp [State.remoteWrite, foldl_svn]

@[simp] theorem State.answer_svn (s : State) (m : Msg) :
    (State.answer s m).fw.svn = s.fw.svn := by
  simp [State.answer]

@[simp] theorem State.answerLine_svn (s : State) (typ : Nat) (r : HomeReq) :
    (State.answerLine s typ r).fw.svn = s.fw.svn := by
  simp [State.answerLine]

@[simp] theorem State.answerBare_svn (s : State) (typ : Nat) (dest : Nat) (reqId : Nat) (part : Nat) (addr : Nat) :
    (State.answerBare s typ dest reqId part addr).fw.svn = s.fw.svn := by
  simp [State.answerBare]

@[simp] theorem State.snoop_svn (s : State) (typ : Nat) (req : HomeReq) (boards : List Nat) :
    (State.snoop s typ req boards).fw.svn = s.fw.svn := by
  simp [State.snoop, foldl_svn]

@[simp] theorem State.mergeLine_svn (s : State) (r : HomeReq) (poison : Bool) :
    (State.mergeLine s r poison).fw.svn = s.fw.svn := by
  simp [State.mergeLine, foldl_svn]

@[simp] theorem State.finishReq_svn (s : State) (r : HomeReq) (was : Option DirEnt) (gone : List Nat) :
    (State.finishReq s r was gone).fw.svn = s.fw.svn := by
  unfold State.finishReq; (repeat' split) <;> simp [*]

@[simp] theorem State.beginReq_svn (s : State) (r : HomeReq) :
    (State.beginReq s r).fw.svn = s.fw.svn := by
  unfold State.beginReq; simp only []; (repeat' split) <;> simp_all

@[simp] theorem State.startReq_svn (s : State) (r : HomeReq) :
    (State.startReq s r).fw.svn = s.fw.svn := by
  unfold State.startReq; (repeat' split) <;> simp [*]

@[simp] theorem State.drainQueue_svn (s : State) :
    (State.drainQueue s).fw.svn = s.fw.svn := by
  simp [State.drainQueue, foldl_svn]

@[simp] theorem State.settleLeaving_svn (s : State) :
    (State.settleLeaving s).fw.svn = s.fw.svn := by
  simp [State.settleLeaving]

@[simp] theorem State.snoopAnswer_svn (s : State) (board : Nat) (a : Nat) (inFlight : Bool) :
    (State.snoopAnswer s board a inFlight).fw.svn = s.fw.svn := by
  unfold State.snoopAnswer; (repeat' split) <;> simp [*]

@[simp] theorem State.pruneKept_svn (s : State) (h : FabHdr) :
    (State.pruneKept s h).fw.svn = s.fw.svn := by
  simp [State.pruneKept]

@[simp] theorem State.resendKept_svn (s : State) (k : Kept) :
    (State.resendKept s k).fw.svn = s.fw.svn := by
  simp [State.resendKept]

@[simp] theorem State.homeRequest_svn (s : State) (typ : ReqType) (h : FabHdr) (mask : List Bool) (data : Bytes) (poison : Bool) :
    (State.homeRequest s typ h mask data poison).fw.svn = s.fw.svn := by
  unfold State.homeRequest; simp only []; (repeat' split) <;> simp_all

@[simp] theorem State.withdraw_svn (s : State) (r : Bytes) :
    (State.withdraw s r).fw.svn = s.fw.svn := by
  simp [State.withdraw, foldl_svn]

@[simp] theorem State.recall_svn (s : State) (part : Nat) (lines : List Nat) :
    (State.recall s part lines).fw.svn = s.fw.svn := by
  simp [State.recall, foldl_svn]

@[simp] theorem State.putPart_svn (s : State) (part : Nat) (a : Nat) (bs : Bytes) (poison : Bool) :
    (State.putPart s part a bs poison).fw.svn = s.fw.svn := by
  simp [State.putPart]

@[simp] theorem State.put_svn (s : State) (part : Nat) (a : Nat) (bs : Bytes) (poison : Bool) :
    (State.put s part a bs poison).fw.svn = s.fw.svn := by
  simp [State.put, foldl_svn]

@[simp] theorem State.putMixed_svn (s : State) (part : Nat) (a : Nat) (bs : Bytes) (pz : Nat → Bool) :
    (State.putMixed s part a bs pz).fw.svn = s.fw.svn := by
  simp [State.putMixed, foldl_svn]

@[simp] theorem State.takeOver_svn (s : State) :
    (State.takeOver s).fw.svn = s.fw.svn := by
  simp [State.takeOver, foldl_svn]

@[simp] theorem State.evict_svn (s : State) (l : RLine) :
    (State.evict s l).fw.svn = s.fw.svn := by
  simp [State.evict]

theorem State.cellarAlloc_svn (s : State) (x : Bytes) (a : Nat) (d : Bool) (t : State) (h : s.cellarAlloc x a d = some t) :
    t.fw.svn = s.fw.svn := by
  unfold State.cellarAlloc at h
  simp only [] at h
  (repeat' split at h) <;> (try cases h) <;> simp

@[simp] theorem State.cellarAllocD_svn (s : State) (x : Bytes) (a : Nat) (d : Bool) : ((s.cellarAlloc x a d).getD s).fw.svn = s.fw.svn := by
  cases h : s.cellarAlloc x a d with
  | none => rfl
  | some t => exact State.cellarAlloc_svn _ _ _ _ _ h

@[simp] theorem State.deliver_svn (s : State) (r : CellarReq) (data : Bytes) (poison : Bool) :
    (State.deliver s r data poison).fw.svn = s.fw.svn := by
  simp [State.deliver]

@[simp] theorem State.remoteAccess_svn (s : State) (r : CellarReq) :
    (State.remoteAccess s r).fw.svn = s.fw.svn := by
  unfold State.remoteAccess
  simp only []
  split
  · (repeat' split) <;> simp
  · split
    · rename_i t h
      have ht : t.fw.svn = s.fw.svn := by
        split at h
        · split at h
          · have := State.cellarAlloc_svn _ _ _ _ _ h
            simp at this
            exact this
          · cases h
        · cases h
      simp [ht]
    · split <;> simp

@[simp] theorem State.serveWaiters_svn (s : State) (l : List CellarReq) :
    (State.serveWaiters s l).fw.svn = s.fw.svn := by
  simp [State.serveWaiters, foldl_svn]

@[simp] theorem State.installLine_svn (s : State) (a : Nat) (st : CohSt) (data : Option (Bytes × Bool)) :
    (State.installLine s a st data).fw.svn = s.fw.svn := by
  unfold State.installLine; (repeat' split) <;> simp [*]

@[simp] theorem State.refetch_svn (s : State) (l : RLine) :
    (State.refetch s l).fw.svn = s.fw.svn := by
  simp [State.refetch]

@[simp] theorem State.maskedWrite_svn (s : State) (r : CellarReq) :
    (State.maskedWrite s r).fw.svn = s.fw.svn := by
  simp [State.maskedWrite]

@[simp] theorem State.cellarCount_svn (s : State) (r : CellarReq) :
    (State.cellarCount s r).fw.svn = s.fw.svn := by
  unfold State.cellarCount
  simp only []
  (repeat' split) <;> simp

@[simp] theorem State.localAccess_svn (s : State) (r : CellarReq) :
    (State.localAccess s r).fw.svn = s.fw.svn := by
  simp [State.localAccess]

@[simp] theorem State.poisonLine_svn (s : State) (a : Nat) :
    (State.poisonLine s a).fw.svn = s.fw.svn := by
  simp [State.poisonLine]

@[simp] theorem State.takeSource_svn (s : State) (cmd : Option (Nat × Nat × Nat)) (c : Cmd) (f : Nat) (q : Nat) (a : Nat) (data : Bytes) (poison : Bool) :
    (State.takeSource s cmd c f q a data poison).fw.svn = s.fw.svn := by
  unfold State.takeSource; simp only []; (repeat' split) <;> simp_all

@[simp] theorem State.takeCoreLine_svn (s : State) (c : Nat) (part : Nat) (a : Nat) (data : Bytes) (poison : Bool) :
    (State.takeCoreLine s c part a data poison).fw.svn = s.fw.svn := by
  simp [State.takeCoreLine]

@[simp] theorem State.takeNokeep_svn (s : State) (u : Unans) (a : Nat) (data : Bytes) (poison : Bool) :
    (State.takeNokeep s u a data poison).fw.svn = s.fw.svn := by
  unfold State.takeNokeep; (repeat' split) <;> simp [*]

@[simp] theorem State.failLine_svn (s : State) (a : Nat) :
    (State.failLine s a).fw.svn = s.fw.svn := by
  unfold State.failLine; (repeat' split) <;> simp [*, foldl_svn]

@[simp] theorem State.failRequest_svn (s : State) (u : Unans) :
    (State.failRequest s u).fw.svn = s.fw.svn := by
  unfold State.failRequest; (repeat' split) <;> simp [*]

@[simp] theorem State.failMsg_svn (s : State) (u : Unans) :
    (State.failMsg s u).fw.svn = s.fw.svn := by
  simp [State.failMsg]

@[simp] theorem State.useDma_svn (s : State) (j : Job) :
    (State.useDma s j).fw.svn = s.fw.svn := by
  simp [State.useDma]

@[simp] theorem State.useSealing_svn (s : State) (j : Job) :
    (State.useSealing s j).fw.svn = s.fw.svn := by
  simp [State.useSealing]

@[simp] theorem State.useMessage_svn (s : State) (n : Nat) (j : Job) :
    (State.useMessage s n j).fw.svn = s.fw.svn := by
  simp [State.useMessage]

theorem poisonReads_svn (p src : Nat) (g : State → Nat → Nat) (l : List Nat) (s : State) :
    (l.foldl (fun s i => s.poisonRead p (g s i) src) s).fw.svn = s.fw.svn :=
  foldl_svn _ (fun s x => State.poisonRead_svn s p (g s x) src) l s

@[simp] theorem State.readLocal_svn (s : State) (f : Nat) (a : Nat) (n : Nat) :
    (State.readLocal s f a n).fw.svn = s.fw.svn := by
  exact poisonReads_svn f (srcPart f) (fun s l => s.struct.boardId * 2 ^ 40 + 128 * l) _ s

@[simp] theorem State.toHost_svn (s : State) (f : Nat) (q : Nat) (seq : Nat) (addr : Nat) (bs : Bytes) (first : Nat) (pz : Nat → Bool) :
    (State.toHost s f q seq addr bs first pz).fw.svn = s.fw.svn := by
  simp [State.toHost, foldl_svn]

@[simp] theorem State.toPlace_svn (s : State) (f : Nat) (p : Place) (bs : Bytes) (pz : Nat → Bool) (cmd : Option (Nat × Nat × Nat)) :
    (State.toPlace s f p bs pz cmd).fw.svn = s.fw.svn := by
  unfold State.toPlace; (repeat' split) <;> simp [*, foldl_svn]

@[simp] theorem State.settleEntry_svn (s : State) (a : Nat) (e : Option DirEnt) :
    (State.settleEntry s a e).fw.svn = s.fw.svn := by
  unfold State.settleEntry; (repeat' split) <;> simp [*]

@[simp] theorem State.eviction_svn (s : State) (h : FabHdr) (data : Option (Bytes × Bool)) :
    (State.eviction s h data).fw.svn = s.fw.svn := by
  unfold State.eviction; simp only []; (repeat' split) <;> simp_all

@[simp] theorem State.snoopReply_svn (s : State) (home : Nat) (typ : Nat) (reqId : Nat) (a : Nat) (data : Bytes) (poison : Bool) :
    (State.snoopReply s home typ reqId a data poison).fw.svn = s.fw.svn := by
  simp [State.snoopReply]

@[simp] theorem State.ringWrite_svn (s : State) (w : Bytes) (off : Nat) (bs : Bytes) (poison : Bool) :
    (State.ringWrite s w off bs poison).fw.svn = s.fw.svn := by
  simp [State.ringWrite]

@[simp] theorem State.addMail_svn (s : State) (m : MailIn) :
    (State.addMail s m).fw.svn = s.fw.svn := by
  simp [State.addMail]

@[simp] theorem State.fixSend_svn (s : State) (cmd : Option (Nat × Nat × Nat)) (source : Nat) :
    (State.fixSend s cmd source).fw.svn = s.fw.svn := by
  unfold State.fixSend; (repeat' split) <;> simp [*]

@[simp] theorem State.ownMailDone_svn (s : State) (reqId : Nat) :
    (State.ownMailDone s reqId).fw.svn = s.fw.svn := by
  unfold State.ownMailDone; (repeat' split) <;> simp [*]

@[simp] theorem State.passMails_svn (s : State) (w : Bytes) (x : Nat) (l : List MailIn) : (State.passMails s w x l).fw.svn = s.fw.svn := by
  induction l generalizing s with
  | nil => simp [State.passMails]
  | cons b t ih => unfold State.passMails; simp only []; (repeat' split) <;> simp [ih]

@[simp] theorem State.mailWhole_svn (s : State) (w : Bytes) (m : MailIn) :
    (State.mailWhole s w m).fw.svn = s.fw.svn := by
  simp [State.mailWhole]

@[simp] theorem State.recallSource_svn (s : State) (f : Nat) (c : Cmd) (o : Nat) (n : Nat) :
    (State.recallSource s f c o n).fw.svn = s.fw.svn := by
  unfold State.recallSource; (repeat' split) <;> simp [*]

@[simp] theorem State.startMessage_svn (s : State) (dest : Nat) (f : Nat) (q : Nat) (c : Cmd) :
    (State.startMessage s dest f q c).fw.svn = s.fw.svn := by
  simp [State.startMessage]

@[simp] theorem State.sendChunk_svn (s : State) (u : Unans) (o : Nat) (bs : Bytes) (poison : Bool) (last : Bool) :
    (State.sendChunk s u o bs poison last).fw.svn = s.fw.svn := by
  unfold State.sendChunk; simp only []; (repeat' split) <;> simp_all

@[simp] theorem State.mapMessage_svn (s : State) (n : Nat) (g : Engine → Engine) :
    (State.mapMessage s n g).fw.svn = s.fw.svn := by
  simp [State.mapMessage]

@[simp] theorem State.runMessage_svn (s : State) (n : Nat) :
    (State.runMessage s n).fw.svn = s.fw.svn := by
  unfold State.runMessage; simp only []; (repeat' split) <;> simp_all

@[simp] theorem State.noteFw_svn (s : State) (comp : Fin 4) (slot : Bool) (event : String) :
    (State.noteFw s comp slot event).fw.svn = s.fw.svn := by
  simp [State.noteFw]

@[simp] theorem Fw.setCtl_svn (w : Fw) (v : Vector BootCtl 4) : (w.setCtl v).svn = w.svn := by
  unfold Fw.setCtl; simp only []; split <;> rfl

@[simp] theorem Fw.setEntry_svn (w : Fw) (c : Fin 4) (e : BootCtl) : (w.setEntry c e).svn = w.svn := Fw.setCtl_svn ..

theorem setMax_le (v : Vector (Fin 64) 4) (c : Fin 4) (t : Nat) (d : Fin 4) :
    v.get d ≤ (v.set c (if h : t < 64 then max (v.get c) ⟨t, h⟩ else v.get c)).get d := by
  simp only [Vector.get_eq_getElem, Vector.getElem_set]
  split
  · rename_i h
    have : c = d := Fin.ext h
    subst this
    split
    · exact le_max_left ..
    · exact le_rfl
  · exact le_rfl

theorem State.finishBurn_rise (s : State) (c : Fin 4) : fusesRise s (s.finishBurn c) := by
  intro d
  unfold State.finishBurn
  split
  · exact le_rfl
  · simp only [State.noteFw_svn, Fw.setEntry_svn]
    exact setMax_le ..

@[simp] theorem State.dropTrial_svn (s : State) (comp : Fin 4) :
    (State.dropTrial s comp).fw.svn = s.fw.svn := by
  simp [State.dropTrial]

@[simp] theorem State.bootComponent_svn (s : State) (c : Fin 4) : (s.bootComponent c).1.fw.svn = s.fw.svn := by
  unfold State.bootComponent; simp only []; (repeat' split) <;> simp

@[simp] theorem State.enterRecovery_svn (s : State) (cause : Nat) :
    (State.enterRecovery s cause).fw.svn = s.fw.svn := by
  simp [State.enterRecovery]

@[simp] theorem State.applyOverride_svn (s : State) :
    (State.applyOverride s).fw.svn = s.fw.svn := by
  simp [State.applyOverride]

@[simp] theorem State.evalCompat_svn (s : State) :
    (State.evalCompat s).fw.svn = s.fw.svn := by
  simp [State.evalCompat]

@[simp] theorem State.loadCal_svn (s : State) :
    (State.loadCal s).fw.svn = s.fw.svn := by
  rw [State.loadCal_fw]

@[simp] theorem State.ledgerAfterAux_svn (s : State) :
    (State.ledgerAfterAux s).fw.svn = s.fw.svn := by
  simp [State.ledgerAfterAux]

@[simp] theorem State.checkRetention_svn (s : State) :
    (State.checkRetention s).fw.svn = s.fw.svn := by
  simp [State.checkRetention]

@[simp] theorem State.restartTime_svn (s : State) :
    (State.restartTime s).fw.svn = s.fw.svn := by
  simp [State.restartTime]

@[simp] theorem State.settleRetention_svn (s : State) :
    (State.settleRetention s).fw.svn = s.fw.svn := by
  simp [State.settleRetention]

theorem foldl_rise {α : Type} (f : State → α → State) (h : ∀ s x, fusesRise s (f s x)) (l : List α) (s : State) :
    fusesRise s (l.foldl f s) := by
  induction l generalizing s with
  | nil => exact fun _ => le_rfl
  | cons a t ih => exact fun d => le_trans (h s a d) (ih (f s a) d)

theorem rise_of_svn {s t : State} (h : t.fw.svn = s.fw.svn) : fusesRise s t := by
  intro d; rw [h]

theorem fusesRise.trans' {s t u : State} (h : fusesRise s t) (g : fusesRise t u) : fusesRise s u := fun d => le_trans (h d) (g d)

theorem State.bootFirmware_rise (s : State) (saf : Bool) : fusesRise s (s.bootFirmware saf) := by
  have h : ∀ t u : State, u.fw.svn = s.fw.svn →
      t.fw.svn = (([0, 1, 2, 3] : List (Fin 4)).foldl State.finishBurn u).fw.svn → fusesRise s t := fun t u hu ht d => by
    rw [← hu, ht]
    exact foldl_rise State.finishBurn State.finishBurn_rise _ u d
  unfold State.bootFirmware
  refine h _ { s with
    top := { s.top with bootPending := false }
    fw := { s.fw with fallback := (if saf then 0 else s.fw.fallback &&& 4), pendingBurn := false, code := 0, busy := none } } rfl ?_
  simp only []
  (repeat' split) <;> simp only [State.evalCompat_svn, State.loadCal_svn, State.enterRecovery_svn, State.bootComponent_svn,
    State.checkRetention_svn]

@[simp] theorem State.bootTime_svn (s : State) :
    (State.bootTime s).fw.svn = s.fw.svn := by
  simp [State.bootTime]

theorem State.bootNow_rise (s : State) : fusesRise s s.bootNow := by
  unfold State.bootNow
  split
  · simp only []
    split
    · exact fusesRise.trans' (s.bootFirmware_rise s.top.bootSaf) (rise_of_svn (by simp))
    · exact s.bootFirmware_rise _
  · exact rise_of_svn rfl

@[simp] theorem State.cleared_svn (s : State) (cold : Bool) :
    (State.cleared s cold).fw.svn = s.fw.svn := by
  simp [State.cleared]

@[simp] theorem State.announceReset_svn (s : State) (cold : Bool) (cause : String) (source : Nat) :
    (State.announceReset s cold cause source).fw.svn = s.fw.svn := by
  unfold State.announceReset; simp only []; (repeat' split) <;> simp_all

@[simp] theorem State.startReset_svn (s : State) (cold : Bool) (cause : String) (source : Nat) (force : Bool) :
    (State.startReset s cold cause source force).fw.svn = s.fw.svn := by
  simp [State.startReset]

@[simp] theorem State.takeFwAction_svn (s : State) (a : FwAction) (comp : Fin 4) :
    (State.takeFwAction s a comp).fw.svn = s.fw.svn := by
  simp [State.takeFwAction]

@[simp] theorem State.askMark_svn (s : State) (f : Part) (w : U32) :
    (State.askMark s f w).fw.svn = s.fw.svn := by
  simp [State.askMark]

@[simp] theorem State.askCommit_svn (s : State) (f : Part) (w : U32) :
    (State.askCommit s f w).fw.svn = s.fw.svn := by
  simp [State.askCommit]

@[simp] theorem State.askCancel_svn (s : State) (f : Part) (w : U32) :
    (State.askCancel s f w).fw.svn = s.fw.svn := by
  simp [State.askCancel]

@[simp] theorem State.askBurn_svn (s : State) (f : Part) (w : U32) :
    (State.askBurn s f w).fw.svn = s.fw.svn := by
  simp [State.askBurn]

@[simp] theorem State.endMarkTrial_svn (s : State) (c : Fin 4) :
    (State.endMarkTrial s c).fw.svn = s.fw.svn := by
  simp [State.endMarkTrial]

@[simp] theorem State.endCommit_svn (s : State) (c : Fin 4) :
    (State.endCommit s c).fw.svn = s.fw.svn := by
  simp [State.endCommit]

@[simp] theorem State.endCancelTrial_svn (s : State) (c : Fin 4) :
    (State.endCancelTrial s c).fw.svn = s.fw.svn := by
  simp [State.endCancelTrial]

theorem State.endBurn_rise (s : State) (c : Fin 4) : fusesRise s (s.endBurn c) := by
  intro d
  unfold State.endBurn
  simp only []
  split
  · exact le_rfl
  · simp only [State.noteFw_svn, Fw.setEntry_svn]
    exact setMax_le ..

@[simp] theorem State.recFail_svn (s : State) (result : BitVec 4) :
    (State.recFail s result).fw.svn = s.fw.svn := by
  simp [State.recFail]

@[simp] theorem State.askBegin_svn (s : State) (f : Part) (w : U32) :
    (State.askBegin s f w).fw.svn = s.fw.svn := by
  simp [State.askBegin]

@[simp] theorem State.askRun_svn (s : State) (f : Part) (w : U32) :
    (State.askRun s f w).fw.svn = s.fw.svn := by
  simp [State.askRun]

@[simp] theorem State.askProgram_svn (s : State) (f : Part) (w : U32) :
    (State.askProgram s f w).fw.svn = s.fw.svn := by
  simp [State.askProgram]

@[simp] theorem State.fillWindow_svn (s : State) (f : Part) (off : Nat) (size : Nat) (v : U64) :
    (State.fillWindow s f off size v).fw.svn = s.fw.svn := by
  simp [State.fillWindow]

@[simp] theorem State.setCore_svn (s : State) (c : Nat) (x : Core) :
    (State.setCore s c x).fw.svn = s.fw.svn := by
  simp [State.setCore]

@[simp] theorem State.mapCores_svn (s : State) (g : Core → Core) :
    (State.mapCores s g).fw.svn = s.fw.svn := by
  simp [State.mapCores]

@[simp] theorem State.resetCasks_svn (s : State) (route : Nat) :
    (State.resetCasks s route).fw.svn = s.fw.svn := by
  simp [State.resetCasks]

@[simp] theorem State.freshVecs_svn (s : State) (c : Nat) :
    (State.freshVecs s c).fw.svn = s.fw.svn := by
  simp [State.freshVecs]

@[simp] theorem State.install_svn (s : State) (c : Nat) (t : Task) :
    (State.install s c t).fw.svn = s.fw.svn := by
  simp [State.install]

@[simp] theorem State.loadCode_svn (s : State) (c : Nat) (t : Task) (blob : Nat) :
    (State.loadCode s c t blob).fw.svn = s.fw.svn := by
  simp [State.loadCode]

@[simp] theorem State.nextTask_svn (s : State) (c : Nat) :
    (State.nextTask s c).fw.svn = s.fw.svn := by
  unfold State.nextTask; simp only []; (repeat' split) <;> simp_all

@[simp] theorem State.endTask_svn (s : State) (c : Nat) :
    (State.endTask s c).fw.svn = s.fw.svn := by
  unfold State.endTask; simp only []; (repeat' split) <;> simp_all

@[simp] theorem State.finish_svn (s : State) (c : Nat) (x : Core) :
    (State.finish s c x).fw.svn = s.fw.svn := by
  simp [State.finish]

@[simp] theorem State.takePreemption_svn (s : State) (c : Nat) :
    (State.takePreemption s c).fw.svn = s.fw.svn := by
  unfold State.takePreemption; simp only []; (repeat' split) <;> simp_all

@[simp] theorem State.settleWait_svn (s : State) (c : Nat) :
    (State.settleWait s c).fw.svn = s.fw.svn := by
  unfold State.settleWait; simp only []; (repeat' split) <;> simp_all

@[simp] theorem State.settleWaits_svn (s : State) :
    (State.settleWaits s).fw.svn = s.fw.svn := by
  simp [State.settleWaits, foldl_svn]

@[simp] theorem State.startTask_svn (s : State) (c : Nat) (t : Task) (blob : Nat) :
    (State.startTask s c t blob).fw.svn = s.fw.svn := by
  simp [State.startTask]

@[simp] theorem State.settleSwap_svn (s : State) (route : Nat) :
    (State.settleSwap s route).fw.svn = s.fw.svn := by
  simp [State.settleSwap]

@[simp] theorem State.endApply_svn (s : State) (slot : Nat) :
    (State.endApply s slot).fw.svn = s.fw.svn := by
  unfold State.endApply; simp only []; (repeat' split) <;> simp_all

@[simp] theorem State.releaseHeld_svn (s : State) (route : Nat) :
    (State.releaseHeld s route).fw.svn = s.fw.svn := by
  simp [State.releaseHeld]

@[simp] theorem State.setRoute_svn (s : State) (r : Nat) (x : Route) :
    (State.setRoute s r x).fw.svn = s.fw.svn := by
  simp [State.setRoute]

@[simp] theorem State.gapTimer_svn (s : State) (r : Nat) (st : RouteSt) :
    (State.gapTimer s r st).fw.svn = s.fw.svn := by
  simp [State.gapTimer]

@[simp] theorem State.setRouteSt_svn (s : State) (r : Nat) (st : RouteSt) :
    (State.setRouteSt s r st).fw.svn = s.fw.svn := by
  simp [State.setRouteSt]

@[simp] theorem State.mapFrame_svn (s : State) (r : Nat) (id : Nat) (g : Frame → Frame) :
    (State.mapFrame s r id g).fw.svn = s.fw.svn := by
  simp [State.mapFrame]

@[simp] theorem State.noteStale_svn (s : State) (r : Nat) (cause : Nat) :
    (State.noteStale s r cause).fw.svn = s.fw.svn := by
  simp [State.noteStale]

@[simp] theorem State.published_svn (s : State) (t : Struct) (r : Nat) (typ : Nat) (addr : Nat) (len : Nat) (exposure : Nat) :
    (State.published s t r typ addr len exposure).fw.svn = s.fw.svn := by
  simp [State.published]

@[simp] theorem State.frameDone_svn (s : State) (r : Nat) (f : Frame) (status : Nat) (reason : Nat) :
    (State.frameDone s r f status reason).fw.svn = s.fw.svn := by
  simp [State.frameDone, foldl_svn]

@[simp] theorem State.checkDeadline_svn (s : State) (r : Nat) (f : Frame) :
    (State.checkDeadline s r f).fw.svn = s.fw.svn := by
  simp [State.checkDeadline]

@[simp] theorem State.epochCut_svn (s : State) (r : Nat) (f : Frame) (valid : Bool) :
    (State.epochCut s r f valid).fw.svn = s.fw.svn := by
  simp [State.epochCut]

@[simp] theorem State.retire_svn (s : State) (r : Nat) (id : Nat) :
    (State.retire s r id).fw.svn = s.fw.svn := by
  unfold State.retire; (repeat' split) <;> simp [*]

@[simp] theorem State.fixAll_svn (s : State) (l : List (Nat × Nat × Nat)) (status : Nat) (detail : Nat) (source : Nat) :
    (State.fixAll s l status detail source).fw.svn = s.fw.svn := by
  simp [State.fixAll, foldl_svn]

@[simp] theorem State.stopApply_svn (s : State) (r : Nat) (status : Nat) (detail : Nat) :
    (State.stopApply s r status detail).fw.svn = s.fw.svn := by
  simp [State.stopApply, foldl_svn]

@[simp] theorem State.finishStop_svn (s : State) (r : Nat) :
    (State.finishStop s r).fw.svn = s.fw.svn := by
  simp [State.finishStop]

@[simp] theorem State.retireAborted_svn (s : State) (r n : Nat) : (s.retireAborted r n).fw.svn = s.fw.svn := by
  induction n generalizing s with
  | zero => rfl
  | succ n ih => unfold State.retireAborted; (repeat' split) <;> simp [ih]

@[simp] theorem State.drainRoute_svn (s : State) (r : Nat) :
    (State.drainRoute s r).fw.svn = s.fw.svn := by
  simp [State.drainRoute, foldl_svn]

@[simp] theorem State.mapTasks_svn (s : State) (p : Task → Bool) (g : Task → Task) :
    (State.mapTasks s p g).fw.svn = s.fw.svn := by
  simp [State.mapTasks]

@[simp] theorem State.stopTasks_svn (s : State) (p : Task → Bool) :
    (State.stopTasks s p).fw.svn = s.fw.svn := by
  simp [State.stopTasks]

@[simp] theorem State.mapJobs_svn (s : State) (g : Nat → StageJob → StageJob) :
    (State.mapJobs s g).fw.svn = s.fw.svn := by
  simp [State.mapJobs]

@[simp] theorem State.abandon_svn (s : State) (r : Nat) (id : Nat) (reason : Nat) (missing : Nat) :
    (State.abandon s r id reason missing).fw.svn = s.fw.svn := by
  simp [State.abandon]

@[simp] theorem State.noteLevel_svn (s : State) (level : BitVec 3) :
    (State.noteLevel s level).fw.svn = s.fw.svn := by
  simp [State.noteLevel]

@[simp] theorem State.forceStop_svn (s : State) (r : Nat) :
    (State.forceStop s r).fw.svn = s.fw.svn := by
  simp [State.forceStop]

@[simp] theorem State.boundaryStop_svn (s : State) (r : Nat) :
    (State.boundaryStop s r).fw.svn = s.fw.svn := by
  simp [State.boundaryStop]

@[simp] theorem State.faultRoute_svn (s : State) (r : Nat) (code : Nat) :
    (State.faultRoute s r code).fw.svn = s.fw.svn := by
  simp [State.faultRoute]

@[simp] theorem State.refreshRoutes_svn (s : State) :
    (State.refreshRoutes s).fw.svn = s.fw.svn := by
  simp [State.refreshRoutes, foldl_svn]

@[simp] theorem State.epochAbandon_svn (s : State) (r : Nat) (id : Nat) :
    (State.epochAbandon s r id).fw.svn = s.fw.svn := by
  unfold State.epochAbandon; (repeat' split) <;> simp [*]

@[simp] theorem State.openWindow_svn (s : State) (r : Nat) :
    (State.openWindow s r).fw.svn = s.fw.svn := by
  simp [State.openWindow, foldl_svn]

@[simp] theorem State.boundary_svn (s : State) (r : Nat) (id : Nat) (start : Nat) (exposure : Nat) :
    (State.boundary s r id start exposure).fw.svn = s.fw.svn := by
  unfold State.boundary; simp only []; (repeat' split) <;> simp_all

@[simp] theorem State.associate_svn (s : State) (c : Nat) (id : Nat) (start : Nat) (exposure : Nat) :
    (State.associate s c id start exposure).fw.svn = s.fw.svn := by
  rw [State.associate_fw]

@[simp] theorem State.slotCycle_svn (s : State) (c : Nat) :
    (State.slotCycle s c).fw.svn = s.fw.svn := by
  unfold State.slotCycle; (repeat' split) <;> simp [*]

@[simp] theorem State.frameStartEvent_svn (s : State) (c : Nat) (id : Nat) (start : Nat) (exposure : Nat) :
    (State.frameStartEvent s c id start exposure).fw.svn = s.fw.svn := by
  simp [State.frameStartEvent, foldl_svn]

@[simp] theorem State.chargeEngine_svn (s : State) (r : Nat) (m : NodeRun) :
    (State.chargeEngine s r m).fw.svn = s.fw.svn := by
  simp [State.chargeEngine]

@[simp] theorem State.startNode_svn (s : State) (r : Nat) (f : Frame) (c : Bytes) :
    (State.startNode s r f c).fw.svn = s.fw.svn := by
  simp [State.startNode]

@[simp] theorem State.dispatch_svn (s : State) (r : Nat) (id : Nat) (n : Nat) (trig : Nat) :
    (State.dispatch s r id n trig).fw.svn = s.fw.svn := by
  unfold State.dispatch; (repeat' split) <;> simp [*]

@[simp] theorem State.undefineCmd_svn (s : State) (f : Nat) (q : Nat) (c : Cmd) :
    (State.undefineCmd s f q c).fw.svn = s.fw.svn := by
  simp [State.undefineCmd]

@[simp] theorem State.undefineCmds_svn (s : State) (f : Nat) :
    (State.undefineCmds s f).fw.svn = s.fw.svn := by
  simp [State.undefineCmds, foldl_svn]

@[simp] theorem State.dropWork_svn (s : State) (f : Nat) :
    (State.dropWork s f).fw.svn = s.fw.svn := by
  simp [State.dropWork]

@[simp] theorem State.dropApplies_svn (s : State) (p : Nat → Bool) :
    (State.dropApplies s p).fw.svn = s.fw.svn := by
  unfold State.dropApplies
  refine foldl_svn _ (fun s x => ?_) _ _
  split
  · split <;> simp
  · rfl

@[simp] theorem State.partitionReset_svn (s : State) (f : Nat) (tdi : Tdi) (cause : String) :
    (State.partitionReset s f tdi cause).fw.svn = s.fw.svn := by
  unfold State.partitionReset; (repeat' split) <;> simp [*, foldl_svn]

@[simp] theorem State.mapDst_svn (s : State) (d : Nat) (g : SwPort → SwPort) :
    (State.mapDst s d g).fw.svn = s.fw.svn := by
  simp [State.mapDst]

@[simp] theorem State.drainDst_svn (s : State) (d : Nat) :
    (State.drainDst s d).fw.svn = s.fw.svn := by
  simp [State.drainDst]

@[simp] theorem State.noteIrregular_svn (s : State) (c : Nat) (id : Nat) (long : Bool) (extra : Bool) :
    (State.noteIrregular s c id long extra).fw.svn = s.fw.svn := by
  simp [State.noteIrregular]

@[simp] theorem State.queueBeats_svn (s : State) (d : Nat) (l : List Beat) :
    (State.queueBeats s d l).fw.svn = s.fw.svn := by
  simp [State.queueBeats]

@[simp] theorem State.pipeLine_svn (s : State) (src : Nat) (ctx : Nat) (frame : Nat) (line : Nat) (plane : Nat) (b : Bytes) (poison : Bool) :
    (State.pipeLine s src ctx frame line plane b poison).fw.svn = s.fw.svn := by
  simp [State.pipeLine, foldl_svn]

@[simp] theorem State.closeBeat_svn (s : State) (src : Nat) (ctx : Nat) (frame : Nat) (pick : Nat → Bool) (data : Bytes) (poison : Bool) :
    (State.closeBeat s src ctx frame pick data poison).fw.svn = s.fw.svn := by
  simp [State.closeBeat, foldl_svn]

@[simp] theorem State.stageLine_svn (s : State) (src : Nat) (frameId : Nat) (ctx : Nat) (frame : Nat) (line : Nat) (plane : Nat) (b : Bytes) (poison : Bool) :
    (State.stageLine s src frameId ctx frame line plane b poison).fw.svn = s.fw.svn := by
  simp [State.stageLine, foldl_svn]

@[simp] theorem State.deliverBeat_svn (s : State) (d : Nat) :
    (State.deliverBeat s d).fw.svn = s.fw.svn := by
  unfold State.deliverBeat; simp only []; (repeat' split) <;> simp_all

@[simp] theorem State.mapStage_svn (s : State) (i : Nat) (g : Stage → Stage) :
    (State.mapStage s i g).fw.svn = s.fw.svn := by
  simp [State.mapStage]

@[simp] theorem State.mapJob_svn (s : State) (i : Nat) (g : StageJob → StageJob) :
    (State.mapJob s i g).fw.svn = s.fw.svn := by
  simp [State.mapJob]

@[simp] theorem State.layRecord_svn (s : State) (i : Nat) (j : StageJob) (a : Nat) (r : RecInfo) (desc : Bytes) (body : Payload) :
    (State.layRecord s i j a r desc body).fw.svn = s.fw.svn := by
  simp [State.layRecord]

@[simp] theorem State.notePoisoned_svn (s : State) (i : Nat) (poison : Bool) (discard : Bool) :
    (State.notePoisoned s i poison discard).fw.svn = s.fw.svn := by
  simp [State.notePoisoned]

@[simp] theorem State.putRecord_svn (s : State) (i : Nat) (j : StageJob) (o : Nat) (src : Nat) (off : Nat) (r : RecInfo) (desc : Bytes) (body : Payload) :
    (State.putRecord s i j o src off r desc body).fw.svn = s.fw.svn := by
  simp [State.putRecord]

@[simp] theorem State.jobDone_svn (s : State) (i : Nat) :
    (State.jobDone s i).fw.svn = s.fw.svn := by
  simp [State.jobDone]

@[simp] theorem State.sendLines_svn (s : State) (i : Nat) (src : Nat) (ctx : Nat) (key : Nat) (plane : Nat) (lines : List (Bytes × Bool)) :
    (State.sendLines s i src ctx key plane lines).fw.svn = s.fw.svn := by
  unfold State.sendLines; (repeat' split) <;> simp [*, foldl_svn]

@[simp] theorem State.advancePyr_svn (s : State) (c : Nat) :
    (State.advancePyr s c).fw.svn = s.fw.svn := by
  unfold State.advancePyr; (repeat' split) <;> simp [*, foldl_svn]

@[simp] theorem State.advanceWrp_svn (s : State) (i : Nat) (c : Nat) :
    (State.advanceWrp s i c).fw.svn = s.fw.svn := by
  unfold State.advanceWrp; (repeat' split) <;> simp [*]

@[simp] theorem State.storeLine_svn (s : State) (part : Nat) (a : Nat) (w : Nat) (y : Nat) (l : List Int) :
    (State.storeLine s part a w y l).fw.svn = s.fw.svn := by
  simp [State.storeLine]

@[simp] theorem State.mapMash_svn (s : State) (r : Nat) (g : Mash → Mash) :
    (State.mapMash s r g).fw.svn = s.fw.svn := by
  simp [State.mapMash]

@[simp] theorem State.offerTiles_svn (s : State) (i : Nat) (j : StageJob) (l : List (Nat × (Nat × Nat) × Bool)) :
    (State.offerTiles s i j l).fw.svn = s.fw.svn := by
  simp [State.offerTiles]

@[simp] theorem State.offerRows_svn (s : State) (i : Nat) (rows : List (List Px)) :
    (State.offerRows s i rows).fw.svn = s.fw.svn := by
  unfold State.offerRows; (repeat' split) <;> simp [*]

@[simp] theorem State.sendDense_svn (s : State) (i : Nat) (c : Nat) (rows : List (List Px)) (h : Nat) :
    (State.sendDense s i c rows h).fw.svn = s.fw.svn := by
  simp [State.sendDense]

@[simp] theorem State.floStore__svn (s : State) (i : Nat) (j : StageJob) :
    (State.floStore_ s i j).fw.svn = s.fw.svn := by
  simp [State.floStore_, foldl_svn]

@[simp] theorem State.advanceDense_svn (s : State) (i : Nat) :
    (State.advanceDense s i).fw.svn = s.fw.svn := by
  unfold State.advanceDense; (repeat' split) <;> simp [*]

@[simp] theorem State.advanceTrk_svn (s : State) :
    (State.advanceTrk s).fw.svn = s.fw.svn := by
  unfold State.advanceTrk; (repeat' split) <;> simp [*, foldlPair_svn]

@[simp] theorem State.advance_svn (s : State) (i : Nat) (c : Nat) :
    (State.advance s i c).fw.svn = s.fw.svn := by
  simp [State.advance]

@[simp] theorem State.putLine_svn (s : State) (i : Nat) (port : Nat) (j : StageJob) (c : Nat) (id : Nat) (level : Nat) (data : Bytes) (poison : Bool) :
    (State.putLine s i port j c id level data poison).fw.svn = s.fw.svn := by
  simp [State.putLine]

@[simp] theorem State.closeInput_svn (s : State) (i : Nat) (port : Nat) (j : StageJob) (c : Nat) :
    (State.closeInput s i port j c).fw.svn = s.fw.svn := by
  simp [State.closeInput]

@[simp] theorem State.putDense_svn (s : State) (i : Nat) (j : StageJob) :
    (State.putDense s i j).fw.svn = s.fw.svn := by
  simp [State.putDense]

@[simp] theorem State.offerCells_svn (s : State) (j : StageJob) (m : Nat) :
    (State.offerCells s j m).fw.svn = s.fw.svn := by
  simp [State.offerCells]

@[simp] theorem State.offerMatches_svn (s : State) :
    (State.offerMatches s).fw.svn = s.fw.svn := by
  unfold State.offerMatches; (repeat' split) <;> simp [*]

@[simp] theorem State.putMatches_svn (s : State) (j : StageJob) :
    (State.putMatches s j).fw.svn = s.fw.svn := by
  simp [State.putMatches]

@[simp] theorem State.endDense_svn (s : State) (i : Nat) (j : StageJob) :
    (State.endDense s i j).fw.svn = s.fw.svn := by
  simp [State.endDense]

@[simp] theorem State.refit_svn (s : State) :
    (State.refit s).fw.svn = s.fw.svn := by
  simp [State.refit]

@[simp] theorem State.setLoop_svn (s : State) (l : LoopSt) :
    (State.setLoop s l).fw.svn = s.fw.svn := by
  simp [State.setLoop]

@[simp] theorem State.enterHold_svn (s : State) :
    (State.enterHold s).fw.svn = s.fw.svn := by
  simp [State.enterHold]

@[simp] theorem State.stepGtc_svn (s : State) (d : Int) :
    (State.stepGtc s d).fw.svn = s.fw.svn := by
  simp [State.stepGtc]

@[simp] theorem State.mapInput_svn (s : State) (i : Nat) (g : TmgIn → TmgIn) :
    (State.mapInput s i g).fw.svn = s.fw.svn := by
  simp [State.mapInput]

@[simp] theorem State.stepToInput_svn (s : State) (i : Nat) (e : Int) :
    (State.stepToInput s i e).fw.svn = s.fw.svn := by
  simp [State.stepToInput]

@[simp] theorem State.reselect_svn (s : State) :
    (State.reselect s).fw.svn = s.fw.svn := by
  unfold State.reselect; simp only []; (repeat' split) <;> simp_all

@[simp] theorem State.failInput_svn (s : State) (i : Nat) (code : Nat) :
    (State.failInput s i code).fw.svn = s.fw.svn := by
  simp [State.failInput]

@[simp] theorem State.makeAvailable_svn (s : State) (i : Nat) :
    (State.makeAvailable s i).fw.svn = s.fw.svn := by
  simp [State.makeAvailable]

@[simp] theorem State.judgeLock_svn (s : State) (e : Int) :
    (State.judgeLock s e).fw.svn = s.fw.svn := by
  simp [State.judgeLock]

@[simp] theorem State.stepOnMeasure_svn (s : State) (i : Nat) (e : Int) : (s.stepOnMeasure i e).1.fw.svn = s.fw.svn := by
  unfold State.stepOnMeasure; simp only []; (repeat' split) <;> simp

@[simp] theorem State.loopMeasure_svn (s : State) (i : Nat) (e : Int) :
    (State.loopMeasure s i e).fw.svn = s.fw.svn := by
  simp [State.loopMeasure]

@[simp] theorem State.measure_svn (s : State) (i : Nat) (e : Int) (freq : Int) (jump : Bool) (domainOk : Bool) :
    (State.measure s i e freq jump domainOk).fw.svn = s.fw.svn := by
  simp [State.measure]

@[simp] theorem State.failLanicy_svn (s : State) :
    (State.failLanicy s).fw.svn = s.fw.svn := by
  simp [State.failLanicy, foldl_svn]

@[simp] theorem State.setBackupActs_svn (s : State) (v : Bool) :
    (State.setBackupActs s v).fw.svn = s.fw.svn := by
  simp [State.setBackupActs]

@[simp] theorem State.hearTime_svn (s : State) (port : Nat) (m : TimeMsg) :
    (State.hearTime s port m).fw.svn = s.fw.svn := by
  simp [State.hearTime]

@[simp] theorem State.mapOutput_svn (s : State) (o : Nat) (g : TmgOut → TmgOut) :
    (State.mapOutput s o g).fw.svn = s.fw.svn := by
  simp [State.mapOutput]

@[simp] theorem State.endFreqPulse_svn (s : State) :
    (State.endFreqPulse s).fw.svn = s.fw.svn := by
  simp [State.endFreqPulse]

@[simp] theorem State.tmgCycle_svn (s : State) :
    (State.tmgCycle s).fw.svn = s.fw.svn := by
  simp [State.tmgCycle]

@[simp] theorem State.measureVin_svn (s : State) :
    (State.measureVin s).fw.svn = s.fw.svn := by
  simp [State.measureVin]

@[simp] theorem State.endVerify_svn (s : State) :
    (State.endVerify s).fw.svn = s.fw.svn := by
  unfold State.endVerify; (repeat' split) <;> simp [*]

@[simp] theorem State.runMessages_svn (s : State) :
    (State.runMessages s).fw.svn = s.fw.svn := by
  simp [State.runMessages, foldl_svn]

@[simp] theorem State.resumeTasks_svn (s : State) :
    (State.resumeTasks s).fw.svn = s.fw.svn := by
  simp [State.resumeTasks, foldl_svn]

theorem State.tick_rise (s : State) : fusesRise s s.tick := by
  have h : ∀ t : State, t.fw.svn = s.fw.svn →
      fusesRise s t.bootNow.endVerify.measureVin.runMessages.resumeTasks.offerMatches.sendEvents := fun t ht =>
    fusesRise.trans' (fusesRise.trans' (rise_of_svn ht) t.bootNow_rise) (rise_of_svn (by simp))
  unfold State.tick
  exact h _ (by split <;> simp)

@[simp] theorem State.mapCtx_svn (s : State) (c : Nat) (g : Ctx → Ctx) :
    (State.mapCtx s c g).fw.svn = s.fw.svn := by
  simp [State.mapCtx]

@[simp] theorem State.mapCam_svn (s : State) (p : Nat) (g : Port → Port) :
    (State.mapCam s p g).fw.svn = s.fw.svn := by
  simp [State.mapCam]

@[simp] theorem State.badHeader_svn (s : State) (port : Nat) :
    (State.badHeader s port).fw.svn = s.fw.svn := by
  simp [State.badHeader]

@[simp] theorem State.active_svn (s : State) (port : Nat) :
    (State.active s port).fw.svn = s.fw.svn := by
  simp [State.active]

@[simp] theorem State.emitLine_svn (s : State) (c pipe : Nat) (g : CtxFrame) (y : Nat) : (s.emitLine c pipe g y).1.fw.svn = s.fw.svn := by
  unfold State.emitLine
  refine foldlPair_svn _ (fun a x => ?_) _ _
  dsimp only
  split <;> simp

@[simp] theorem State.emitChroma_svn (s : State) (c : Nat) (pipe : Nat) (f : CtxFrame) :
    (State.emitChroma s c pipe f).fw.svn = s.fw.svn := by
  simp [State.emitChroma, foldl_svn]

@[simp] theorem State.emitFrame_svn (s : State) (c : Nat) (id : Nat) :
    (State.emitFrame s c id).fw.svn = s.fw.svn := by
  unfold State.emitFrame; (repeat' split) <;> simp [*, foldl_svn, foldlPair_svn]

@[simp] theorem State.closeFrame_svn (s : State) (c : Nat) (short : Bool) :
    (State.closeFrame s c short).fw.svn = s.fw.svn := by
  unfold State.closeFrame; (repeat' split) <;> simp [*]

@[simp] theorem State.startCtx_svn (s : State) (c : Nat) :
    (State.startCtx s c).fw.svn = s.fw.svn := by
  simp [State.startCtx]

@[simp] theorem State.noteBacklog_svn (s : State) (pipe : Nat) :
    (State.noteBacklog s pipe).fw.svn = s.fw.svn := by
  simp [State.noteBacklog]

@[simp] theorem State.takeLinePacket_svn (s : State) (port : Nat) (c : Nat) (dt : Nat) (pixels : List Nat) (bad : Bool) :
    (State.takeLinePacket s port c dt pixels bad).fw.svn = s.fw.svn := by
  unfold State.takeLinePacket; (repeat' split) <;> simp [*]

@[simp] theorem State.mapScb_svn (s : State) (k : Nat) (g : Scb → Scb) :
    (State.mapScb s k g).fw.svn = s.fw.svn := by
  simp [State.mapScb]

@[simp] theorem State.scbCtl_svn (s : State) (f : Part) (k : Nat) (w : U32) :
    (State.scbCtl s f k w).fw.svn = s.fw.svn := by
  simp [State.scbCtl]

@[simp] theorem State.scbPush_svn (s : State) (f : Part) (k : Nat) (v : Byte) :
    (State.scbPush s f k v).fw.svn = s.fw.svn := by
  simp [State.scbPush]

@[simp] theorem State.scbPop_svn (s : State) (b : Nat) : (s.scbPop b).1.fw.svn = s.fw.svn := by
  unfold State.scbPop; split <;> simp

@[simp] theorem State.enforcePins_svn (s : State) (old : Struct) :
    (State.enforcePins s old).fw.svn = s.fw.svn := by
  simp [State.enforcePins]

@[simp] theorem State.enforceBoard_svn (s : State) :
    (State.enforceBoard s).fw.svn = s.fw.svn := by
  simp [State.enforceBoard]

@[simp] theorem State.enforceInputs_svn (s : State) :
    (State.enforceInputs s).fw.svn = s.fw.svn := by
  simp [State.enforceInputs]

@[simp] theorem State.enforceRoles_svn (s : State) (old : Struct) :
    (State.enforceRoles s old).fw.svn = s.fw.svn := by
  simp [State.enforceRoles]

@[simp] theorem State.enforceOutputs_svn (s : State) (old : Struct) :
    (State.enforceOutputs s old).fw.svn = s.fw.svn := by
  simp [State.enforceOutputs]

@[simp] theorem State.refreshVfs_svn (s : State) :
    (State.refreshVfs s).fw.svn = s.fw.svn := by
  simp [State.refreshVfs]

@[simp] theorem State.enforceParts_svn (s : State) (old : Struct) :
    (State.enforceParts s old).fw.svn = s.fw.svn := by
  simp [State.enforceParts, foldl_svn]

@[simp] theorem State.enforceRegions_svn (s : State) (old : Struct) :
    (State.enforceRegions s old).fw.svn = s.fw.svn := by
  unfold State.enforceRegions
  refine (foldl_svn _ (fun s r => ?_) _ _).trans (foldl_svn _ (fun s r => ?_) _ _)
  · refine (foldl_svn _ (fun s l => ?_) _ _).trans rfl
    split
    · split <;> simp
    · rfl
  · rfl

@[simp] theorem State.enforceExports_svn (s : State) (old : Struct) :
    (State.enforceExports s old).fw.svn = s.fw.svn := by
  simp [State.enforceExports, foldl_svn]

@[simp] theorem State.enforceLinks_svn (s : State) (old : Struct) :
    (State.enforceLinks s old).fw.svn = s.fw.svn := by
  simp [State.enforceLinks, foldl_svn]

@[simp] theorem State.enforceCamera_svn (s : State) (old : Struct) :
    (State.enforceCamera s old).fw.svn = s.fw.svn := by
  simp [State.enforceCamera]

@[simp] theorem State.enforceStreams_svn (s : State) (old : Struct) :
    (State.enforceStreams s old).fw.svn = s.fw.svn := by
  simp [State.enforceStreams]

@[simp] theorem State.enforceStages_svn (s : State) :
    (State.enforceStages s).fw.svn = s.fw.svn := by
  simp [State.enforceStages]

@[simp] theorem State.enforceSafety_svn (s : State) (core : Option Bytes) :
    (State.enforceSafety s core).fw.svn = s.fw.svn := by
  unfold State.enforceSafety; (repeat' split) <;> simp [*]

@[simp] theorem State.enforce_svn (s : State) (old : Struct) (core : Option Bytes) :
    (State.enforce s old core).fw.svn = s.fw.svn := by
  simp [State.enforce]

@[simp] theorem State.mapSlot_svn (s : State) (n : Nat) (g : ImgSlot → ImgSlot) :
    (State.mapSlot s n g).fw.svn = s.fw.svn := by
  simp [State.mapSlot]

@[simp] theorem State.applySlot_svn (s : State) (n : Nat) :
    (State.applySlot s n).fw.svn = s.fw.svn := by
  unfold State.applySlot; (repeat' split) <;> simp [*]

@[simp] theorem State.rejectApply_svn (s : State) (n : Nat) (a : Apply) (status : Nat) (detail : Nat) :
    (State.rejectApply s n a status detail).fw.svn = s.fw.svn := by
  simp [State.rejectApply]

@[simp] theorem State.swapFrame_svn (s : State) (r : Nat) (n : Nat) (a : Apply) :
    (State.swapFrame s r n a).fw.svn = s.fw.svn := by
  simp [State.swapFrame]

@[simp] theorem State.missFrame_svn (s : State) (r : Nat) (n : Nat) (a : Apply) :
    (State.missFrame s r n a).fw.svn = s.fw.svn := by
  simp [State.missFrame]

@[simp] theorem State.unpowered_svn (s : State) :
    (State.unpowered s).fw.svn = s.fw.svn := by
  simp [State.unpowered]

@[simp] theorem State.dropMain_svn (s : State) (vin : Bool) :
    (State.dropMain s vin).fw.svn = s.fw.svn := by
  simp [State.dropMain]

@[simp] theorem State.askWarm_svn (s : State) (f : Part) (w : U32) :
    (State.askWarm s f w).fw.svn = s.fw.svn := by
  simp [State.askWarm]

@[simp] theorem State.askCold_svn (s : State) (f : Part) (w : U32) :
    (State.askCold s f w).fw.svn = s.fw.svn := by
  simp [State.askCold]

@[simp] theorem State.checkerFails_svn (s : State) (c : Nat × Nat) (g : Nat) :
    (State.checkerFails s c g).fw.svn = s.fw.svn := by
  rw [State.checkerFails_fw]

@[simp] theorem State.pairWrite_svn (s : State) (f : Part) (w : U32) :
    (State.pairWrite s f w).fw.svn = s.fw.svn := by
  simp [State.pairWrite]

@[simp] theorem State.draw_svn (s : State) (n : Nat) : (s.draw n).2.fw.svn = s.fw.svn := by simp [State.draw]

@[simp] theorem State.dropBlobs_svn (s : State) (a : Nat) (n : Nat) :
    (State.dropBlobs s a n).fw.svn = s.fw.svn := by
  simp [State.dropBlobs]

@[simp] theorem State.failLoad_svn (s : State) (f : Nat) (q : Nat) (pos : Nat) (status : Nat) (detail : Nat) (c : Cmd) (payload : Nat) :
    (State.failLoad s f q pos status detail c payload).fw.svn = s.fw.svn := by
  simp [State.failLoad]

@[simp] theorem State.openPackage_svn (s : State) (f : Nat) (q : Nat) (c : Cmd) (b : Bytes) (key : Bytes) (ep : Bool) :
    (State.openPackage s f q c b key ep).fw.svn = s.fw.svn := by
  unfold State.openPackage; simp only []; split
  · simp
  · split
    · simp
    · split <;> simp

@[simp] theorem State.newMemoryKey_svn (s : State) :
    (State.newMemoryKey s).fw.svn = s.fw.svn := by
  simp [State.newMemoryKey]

@[simp] theorem State.tagChanged_svn (s : State) :
    (State.tagChanged s).fw.svn = s.fw.svn := by
  simp [State.tagChanged]

@[simp] theorem State.setSpdm_svn (s : State) (p : SpdmPort) (x : Spdm) :
    (State.setSpdm s p x).fw.svn = s.fw.svn := by
  unfold State.setSpdm; (repeat' split) <;> simp [*]

@[simp] theorem State.endConsent_svn (s : State) :
    (State.endConsent s).fw.svn = s.fw.svn := by
  unfold State.endConsent; (repeat' split) <;> simp [*]

@[simp] theorem State.clearRsq_svn (s : State) (off : Nat) :
    (State.clearRsq s off).fw.svn = s.fw.svn := by
  simp [State.clearRsq]

@[simp] theorem State.clearCin_svn (s : State) (off : Nat) :
    (State.clearCin s off).fw.svn = s.fw.svn := by
  simp [State.clearCin]

@[simp] theorem State.clearIsp_svn (s : State) (off : Nat) :
    (State.clearIsp s off).fw.svn = s.fw.svn := by
  simp [State.clearIsp]

@[simp] theorem State.clearStage_svn (s : State) (i : Nat) (r : Nat) :
    (State.clearStage s i r).fw.svn = s.fw.svn := by
  simp [State.clearStage]

@[simp] theorem State.clearMash_svn (s : State) (off : Nat) :
    (State.clearMash s off).fw.svn = s.fw.svn := by
  simp [State.clearMash]

@[simp] theorem State.clearNec_svn (s : State) (off : Nat) :
    (State.clearNec s off).fw.svn = s.fw.svn := by
  simp [State.clearNec]

@[simp] theorem State.clearMem_svn (s : State) (off : Nat) :
    (State.clearMem s off).fw.svn = s.fw.svn := by
  simp [State.clearMem]

@[simp] theorem State.clearLnk_svn (s : State) (off : Nat) :
    (State.clearLnk s off).fw.svn = s.fw.svn := by
  simp [State.clearLnk]

@[simp] theorem State.clearTmg_svn (s : State) (off : Nat) :
    (State.clearTmg s off).fw.svn = s.fw.svn := by
  simp [State.clearTmg]

@[simp] theorem State.clearSaf_svn (s : State) (off : Nat) :
    (State.clearSaf s off).fw.svn = s.fw.svn := by
  simp [State.clearSaf]

@[simp] theorem State.clearMgt_svn (s : State) (off : Nat) :
    (State.clearMgt s off).fw.svn = s.fw.svn := by
  simp [State.clearMgt]

@[simp] theorem State.clearLog_svn (s : State) (off : Nat) :
    (State.clearLog s off).fw.svn = s.fw.svn := by
  simp [State.clearLog]

@[simp] theorem State.clearBlocks_svn (s : State) (off : Nat) :
    (State.clearBlocks s off).fw.svn = s.fw.svn := by
  unfold State.clearBlocks; simp only []; split
  any_goals simp
  split
  · exact State.clearStage_svn ..
  · split
    · exact State.clearMash_svn ..
    · split
      · exact State.clearNec_svn ..
      · rfl

@[simp] theorem State.readEffect_svn (s : State) (f : Part) (bar : Bar) (off : Nat) :
    (State.readEffect s f bar off).fw.svn = s.fw.svn := by
  unfold State.readEffect; (repeat' split) <;> simp [*]

@[simp] theorem State.readBar_svn (s : State) (f : Part) (bar : Bar) (off : Nat) (size : Nat) :
    (State.readBar s f bar off size).fw.svn = s.fw.svn := by
  simp [State.readBar]

@[simp] theorem State.debugServe_svn (s : State) (op : DebugOp) :
    (State.debugServe s op).fw.svn = s.fw.svn := by
  unfold State.debugServe; (repeat' split) <;> simp [*]

@[simp] theorem State.memCorrected_svn (s : State) (a : Nat) :
    (State.memCorrected s a).fw.svn = s.fw.svn := by
  simp [State.memCorrected]

@[simp] theorem State.memUncorrectable_svn (s : State) (a : Nat) :
    (State.memUncorrectable s a).fw.svn = s.fw.svn := by
  simp [State.memUncorrectable]

@[simp] theorem State.countFind_svn (s : State) (a : Nat) (e : EccFind) : (s.countFind a e).fw.svn = s.fw.svn := by
  cases e <;> simp [State.countFind]

@[simp] theorem State.pairFill_svn (s : State) (a : Nat) :
    (State.pairFill s a).fw.svn = s.fw.svn := by
  simp [State.pairFill]

@[simp] theorem State.keepSeq_svn (s : State) (l : Log) :
    (State.keepSeq s l).fw.svn = s.fw.svn := by
  simp [State.keepSeq]

@[simp] theorem State.appendNext_svn (s : State) :
    (State.appendNext s).fw.svn = s.fw.svn := by
  unfold State.appendNext; (repeat' split) <;> simp [*]

@[simp] theorem State.norCopy_svn (s : State) (ok : Bool) :
    (State.norCopy s ok).fw.svn = s.fw.svn := by
  unfold State.norCopy; (repeat' split) <;> simp [*]

@[simp] theorem State.appendMany_svn (s : State) (n : Nat) : (State.appendMany s n).fw.svn = s.fw.svn := by
  induction n generalizing s with
  | zero => rfl
  | succ n ih => unfold State.appendMany; simp [ih]

@[simp] theorem State.copyMany_svn (s : State) (n : Nat) : (State.copyMany s n).fw.svn = s.fw.svn := by
  induction n generalizing s with
  | zero => rfl
  | succ n ih => unfold State.copyMany; simp [ih]

@[simp] theorem State.endInterval_svn (s : State) :
    (State.endInterval s).fw.svn = s.fw.svn := by
  simp [State.endInterval]

@[simp] theorem State.patrolUe_svn (s : State) (block : Nat) (a : Nat) (intervened : Bool) :
    (State.patrolUe s block a intervened).fw.svn = s.fw.svn := by
  simp [State.patrolUe]

@[simp] theorem State.patrolBlock_svn (s : State) (block : Nat) (errs : List Bytes) (intervened : Bool) :
    (State.patrolBlock s block errs intervened).fw.svn = s.fw.svn := by
  refine foldl_svn _ (fun s x => ?_) _ _
  dsimp only
  split
  · rfl
  · split <;> simp

@[simp] theorem State.defer_svn (s : State) (activity : Nat) :
    (State.defer s activity).fw.svn = s.fw.svn := by
  simp [State.defer]

@[simp] theorem State.setBg_svn (s : State) (f : Part) (w : U32) :
    (State.setBg s f w).fw.svn = s.fw.svn := by
  simp [State.setBg]

@[simp] theorem State.askSource_svn (s : State) (part : Nat) (board : Nat) (a : Nat) (n : Nat) (cmd : Option (Nat × Nat × Nat)) :
    (State.askSource s part board a n cmd).fw.svn = s.fw.svn := by
  simp [State.askSource, foldl_svn]

@[simp] theorem State.sendOwn_svn (s : State) (f : Nat) (q : Nat) (c : Cmd) :
    (State.sendOwn s f q c).fw.svn = s.fw.svn := by
  unfold State.sendOwn; simp only []; (repeat' split) <;> simp_all

@[simp] theorem State.startApply_svn (s : State) (f : Nat) (q : Nat) (c : Cmd) (point : ApplyPoint) :
    (State.startApply s f q c point).fw.svn = s.fw.svn := by
  unfold State.startApply; simp only []; (repeat' split) <;> simp_all

@[simp] theorem State.settleWindows_svn (s : State) (route : Nat) :
    (State.settleWindows s route).fw.svn = s.fw.svn := by
  simp [State.settleWindows, foldl_svn]

@[simp] theorem State.readmit_svn (s : State) (b : Nat) :
    (State.readmit s b).fw.svn = s.fw.svn := by
  simp [State.readmit]

@[simp] theorem State.returned_svn (s : State) (b : Nat) (tag : Bytes) :
    (State.returned s b tag).fw.svn = s.fw.svn := by
  simp [State.returned]

@[simp] theorem State.dropHomed_svn (s : State) (b : Nat) :
    (State.dropHomed s b).fw.svn = s.fw.svn := by
  simp [State.dropHomed, foldl_svn]

@[simp] theorem State.dropHolder_svn (s : State) (b : Nat) :
    (State.dropHolder s b).fw.svn = s.fw.svn := by
  simp [State.dropHolder, foldl_svn]

@[simp] theorem State.oweCredits_svn (s : State) (p : Nat) (m : Msg) (len : Nat) :
    (State.oweCredits s p m len).fw.svn = s.fw.svn := by
  simp [State.oweCredits]

@[simp] theorem State.relay_svn (s : State) (p n : Nat) (b : Bytes) : (State.relay p n s b).1.fw.svn = s.fw.svn := by
  induction n generalizing s b with
  | zero => rfl
  | succ n ih => unfold State.relay; simp only []; (repeat' split) <;> simp [ih]

@[simp] theorem State.replay_svn (s : State) (p : Nat) :
    (State.replay s p).fw.svn = s.fw.svn := by
  simp [State.replay]

@[simp] theorem State.restartMessage_svn (s : State) (dest : Nat) (f : Nat) (q : Nat) (c : Cmd) :
    (State.restartMessage s dest f q c).fw.svn = s.fw.svn := by
  simp [State.restartMessage]

@[simp] theorem State.taskFault_svn (s : State) (c : Nat) (cause : Nat) (ea : Option Nat) :
    (State.taskFault s c cause ea).fw.svn = s.fw.svn := by
  unfold State.taskFault; simp only []; (repeat' split) <;> simp_all

@[simp] theorem State.issue_svn (s : State) (c : Nat) (op : Nat) (w : U64) (fields : Nat) (act : Core → Task → State) (h_act : ∀ x0 x1, (act x0 x1).fw.svn = s.fw.svn) :
    (State.issue s c op w fields act).fw.svn = s.fw.svn := by
  unfold State.issue; simp only []; (repeat' split) <;> simp_all

@[simp] theorem State.markFrame_svn (s : State) (own : Nat × Nat × Nat) (poisoned : Bool) (lost : Bool) :
    (State.markFrame s own poisoned lost).fw.svn = s.fw.svn := by
  simp [State.markFrame]

@[simp] theorem State.markOwner_svn (s : State) (c : Nat) (own : Nat × Nat × Nat) (b : Bool) :
    (State.markOwner s c own b).fw.svn = s.fw.svn := by
  simp [State.markOwner]

@[simp] theorem State.askPiece_svn (s : State) (c : Nat) (x : Xfer) (a n : Nat) : (s.askPiece c x a n).1.fw.svn = s.fw.svn := by
  unfold State.askPiece; simp only []; split <;> simp [foldl_svn]

@[simp] theorem State.pieceRead_svn (s : State) (c : Nat) (x : Xfer) (host : Bool) (a : Nat) (n : Nat) (bad : List Nat) :
    (State.pieceRead s c x host a n bad).fw.svn = s.fw.svn := by
  simp [State.pieceRead, foldl_svn]

@[simp] theorem State.storePiece_svn (s : State) (part : Nat) (host : Bool) (a : Nat) (bs : Bytes) (bad : List Nat) (cmd : Option (Nat × Nat × Nat)) :
    (State.storePiece s part host a bs bad cmd).fw.svn = s.fw.svn := by
  simp [State.storePiece, foldl_svn]

@[simp] theorem State.moveRows_svn (s : State) (c : Nat) (h : HostRead) (a n : Nat) (x : Xfer) : (State.moveRows s c h a n x).1.fw.svn = s.fw.svn := by
  induction n generalizing s x with
  | zero => rfl
  | succ n ih => unfold State.moveRows; simp only []; (repeat' split) <;> simp [ih]

@[simp] theorem State.moveCask_svn (s : State) (c : Nat) (h : HostRead) (a n : Nat) (x : Xfer) : (State.moveCask s c h a n x).1.fw.svn = s.fw.svn := by
  induction n generalizing s x with
  | zero => rfl
  | succ n ih => unfold State.moveCask; simp only []; (repeat' split) <;> simp [ih]

@[simp] theorem State.moveXfer_svn (s : State) (c : Nat) (h : HostRead) (n : Nat) (x : Xfer) : (s.moveXfer c h n x).1.fw.svn = s.fw.svn := by
  unfold State.moveXfer; split <;> simp

@[simp] theorem State.publishTask_svn (s : State) (c : Nat) (t : Task) (desc : Bytes) :
    (State.publishTask s c t desc).fw.svn = s.fw.svn := by
  unfold State.publishTask; (repeat' split) <;> simp [*]

@[simp] theorem State.releaseStall_svn (s : State) (c : Nat) :
    (State.releaseStall s c).fw.svn = s.fw.svn := by
  unfold State.releaseStall; simp only []; (repeat' split) <;> simp_all

@[simp] theorem State.caskOp_svn (s : State) (c : Nat) (w : U64) (ok : CaskCfg → Bool) (act : CaskCfg → State) (h_act : ∀ x0, (act x0).fw.svn = s.fw.svn) :
    (State.caskOp s c w ok act).fw.svn = s.fw.svn := by
  unfold State.caskOp; (repeat' split) <;> simp [*]

@[simp] theorem State.endCwait_svn (s : State) (c : Nat) (p : Bool) :
    (State.endCwait s c p).fw.svn = s.fw.svn := by
  simp [State.endCwait]

@[simp] theorem State.doCrd_svn (s : State) (c : Nat) (v : Nat) (idx : Nat) (off : Nat) (k : CaskCfg) :
    (State.doCrd s c v idx off k).fw.svn = s.fw.svn := by
  simp [State.doCrd]

@[simp] theorem State.doCpush_svn (s : State) (c : Nat) (v : Nat) (idx : Nat) (k : CaskCfg) :
    (State.doCpush s c v idx k).fw.svn = s.fw.svn := by
  simp [State.doCpush]

@[simp] theorem State.startDma_svn (s : State) (c : Nat) (w : U64) (into : Bool) (x : Core) (t : Task) :
    (State.startDma s c w into x t).fw.svn = s.fw.svn := by
  unfold State.startDma; simp only []; (repeat' split) <;> simp_all

@[simp] theorem State.issuePlain_svn (s : State) (c : Nat) (act : Core → Task → State) (h_act : ∀ x0 x1, (act x0 x1).fw.svn = s.fw.svn) :
    (State.issuePlain s c act).fw.svn = s.fw.svn := by
  unfold State.issuePlain; simp only []; (repeat' split) <;> simp_all

@[simp] theorem State.halt_svn (s : State) (f : Nat) (q : Nat) (error : Nat) :
    (State.halt s f q error).fw.svn = s.fw.svn := by
  simp [State.halt]

@[simp] theorem State.raise_svn (s : State) (f : Nat) (q : Nat) :
    (State.raise s f q).fw.svn = s.fw.svn := by
  simp [State.raise]

@[simp] theorem State.postEntry_svn (s : State) (f : Nat) (q : Nat) (seq : Nat) (status : Nat) (detail : Nat) (source : Nat) :
    (State.postEntry s f q seq status detail source).fw.svn = s.fw.svn := by
  simp [State.postEntry]

@[simp] theorem State.settle_svn (s : State) (f : Nat) (q : Nat) :
    (State.settle s f q).fw.svn = s.fw.svn := by
  simp [State.settle]

@[simp] theorem State.postAborted_svn (s : State) (f : Nat) (q : Nat) (status : Nat) (a : Aborted) :
    (State.postAborted s f q status a).fw.svn = s.fw.svn := by
  simp [State.postAborted]

@[simp] theorem State.postAborts_svn (s : State) (f q n : Nat) : (State.postAborts s f q n).fw.svn = s.fw.svn := by
  induction n generalizing s with
  | zero => rfl
  | succ n ih => unfold State.postAborts; simp only []; (repeat' split) <;> simp [ih]

@[simp] theorem State.ringTail_svn (s : State) (f : Part) (q : Fin 64) (idx : BitVec 16) :
    (State.ringTail s f q idx).fw.svn = s.fw.svn := by
  simp [State.ringTail]

@[simp] theorem State.ringHead_svn (s : State) (f : Part) (q : Fin 64) (idx : BitVec 16) :
    (State.ringHead s f q idx).fw.svn = s.fw.svn := by
  simp [State.ringHead]

@[simp] theorem State.takeDescriptor_svn (s : State) (f : Nat) (q : Nat) (d : Bytes) :
    (State.takeDescriptor s f q d).fw.svn = s.fw.svn := by
  unfold State.takeDescriptor; simp only []; (repeat' split) <;> simp_all

@[simp] theorem State.settleLoad_svn (s : State) (f : Nat) (q : Nat) (pos : Nat) (ok : Bool) :
    (State.settleLoad s f q pos ok).fw.svn = s.fw.svn := by
  simp [State.settleLoad]

@[simp] theorem State.turnOn_svn (s : State) (f : Part) (q : Fin 64) (w : U32) :
    (State.turnOn s f q w).fw.svn = s.fw.svn := by
  simp [State.turnOn]

@[simp] theorem State.turnOff_svn (s : State) (f : Part) (q : Fin 64) (w : U32) :
    (State.turnOff s f q w).fw.svn = s.fw.svn := by
  simp [State.turnOff]

@[simp] theorem State.setMode_svn (s : State) (m : Nat) :
    (State.setMode s m).fw.svn = s.fw.svn := by
  simp [State.setMode]

@[simp] theorem State.closeLoop_svn (s : State) :
    (State.closeLoop s).fw.svn = s.fw.svn := by
  simp [State.closeLoop]

@[simp] theorem State.askClosed_svn (s : State) (f : Part) (w : U32) :
    (State.askClosed s f w).fw.svn = s.fw.svn := by
  simp [State.askClosed]

@[simp] theorem State.askHold_svn (s : State) (f : Part) (w : U32) :
    (State.askHold s f w).fw.svn = s.fw.svn := by
  simp [State.askHold]

@[simp] theorem State.askSoftware_svn (s : State) (f : Part) (w : U32) :
    (State.askSoftware s f w).fw.svn = s.fw.svn := by
  simp [State.askSoftware]

@[simp] theorem State.setDco_svn (s : State) (f : Part) (upper : U32) :
    (State.setDco s f upper).fw.svn = s.fw.svn := by
  simp [State.setDco]

@[simp] theorem State.setTod_svn (s : State) (f : Part) (upper : U32) :
    (State.setTod s f upper).fw.svn = s.fw.svn := by
  simp [State.setTod]

@[simp] theorem State.askStep_svn (s : State) (f : Part) (upper : U32) :
    (State.askStep s f upper).fw.svn = s.fw.svn := by
  simp [State.askStep]

@[simp] theorem State.askRealign_svn (s : State) (f : Part) (output : Fin 9) (w : U32) :
    (State.askRealign s f output w).fw.svn = s.fw.svn := by
  simp [State.askRealign]

@[simp] theorem State.realignStep_svn (s : State) (o : Nat) :
    (State.realignStep s o).fw.svn = s.fw.svn := by
  unfold State.realignStep; (repeat' split) <;> simp [*]

@[simp] theorem State.takeRequest_svn (s : State) (request : Nat) :
    (State.takeRequest s request).fw.svn = s.fw.svn := by
  simp [State.takeRequest]

@[simp] theorem State.askClaim_svn (s : State) (f : Part) (w : U32) :
    (State.askClaim s f w).fw.svn = s.fw.svn := by
  simp [State.askClaim]

@[simp] theorem State.askRotate_svn (s : State) (f : Part) (w : U32) :
    (State.askRotate s f w).fw.svn = s.fw.svn := by
  simp [State.askRotate]

@[simp] theorem State.installTenant_svn (s : State) (key : Bytes) (base : Nat) :
    (State.installTenant s key base).fw.svn = s.fw.svn := by
  simp [State.installTenant]

@[simp] theorem State.spdmAnswer_svn (s : State) (p : SpdmPort) (ok : Bool) (data : Bytes) (g : Spdm → Spdm) :
    (State.spdmAnswer s p ok data g).fw.svn = s.fw.svn := by
  simp [State.spdmAnswer]

@[simp] theorem State.setTdi_svn (s : State) (f : Part) (t : Tdi) :
    (State.setTdi s f t).fw.svn = s.fw.svn := by
  simp [State.setTdi]

@[simp] theorem State.leaveSecure_svn (s : State) (stream : Fin 17) :
    (State.leaveSecure s stream).fw.svn = s.fw.svn := by
  unfold State.leaveSecure; (repeat' split) <;> simp [*, foldl_svn]

@[simp] theorem State.mapFn_svn (s : State) (f : Nat) (g : Fn → Fn) :
    (State.mapFn s f g).fw.svn = s.fw.svn := by
  simp [State.mapFn]

@[simp] theorem State.pokeQueue_svn (s : State) (f : Part) (q : Fin 64) (r : Nat) (w : U32) :
    (State.pokeQueue s f q r w).fw.svn = s.fw.svn := by
  simp [State.pokeQueue]

@[simp] theorem State.pokeFn_svn (s : State) (f : Part) (off : Nat) (w : U32) :
    (State.pokeFn s f off w).fw.svn = s.fw.svn := by
  simp [State.pokeFn]

@[simp] theorem State.pokeBar2_svn (s : State) (f : Part) (off : Nat) (w : U32) :
    (State.pokeBar2 s f off w).fw.svn = s.fw.svn := by
  simp [State.pokeBar2]

@[simp] theorem State.pokeCin_svn (s : State) (off : Nat) (w : U32) :
    (State.pokeCin s off w).fw.svn = s.fw.svn := by
  simp [State.pokeCin]

@[simp] theorem State.setQl_svn (s : State) (i : Nat) (ql : Nat) :
    (State.setQl s i ql).fw.svn = s.fw.svn := by
  simp [State.setQl]

theorem iteEq_svn {c : Prop} [Decidable c] {s a b : State} (h1 : a.fw.svn = s.fw.svn) (h2 : b.fw.svn = s.fw.svn) :
    (if c then a else b).fw.svn = s.fw.svn := by
  split <;> assumption

@[simp] theorem State.pokeTmg_svn (s : State) (off : Nat) (w : U32) :
    (State.pokeTmg s off w).fw.svn = s.fw.svn := by
  refine iteEq_svn ?_ (iteEq_svn ?_ (iteEq_svn ?_ (iteEq_svn ?_ (iteEq_svn ?_ (iteEq_svn ?_ (iteEq_svn ?_ (iteEq_svn ?_ (iteEq_svn ?_
    (iteEq_svn ?_ (iteEq_svn ?_ ?_))))))))))
  · split <;> simp
  · exact iteEq_svn rfl rfl
  · simp
  · rfl
  · simp
  · rfl
  · simp
  · rfl
  · rfl
  · exact iteEq_svn (by simp) rfl
  · exact iteEq_svn (by simp) rfl
  · rfl

@[simp] theorem State.pokeSec_svn (s : State) (off : Nat) (w : U32) :
    (State.pokeSec s off w).fw.svn = s.fw.svn := by
  unfold State.pokeSec; (repeat' split) <;> simp [*]

@[simp] theorem State.pokeRange_svn (s : State) (off : Nat) (w : U32) :
    (State.pokeRange s off w).fw.svn = s.fw.svn := by
  simp [State.pokeRange]

@[simp] theorem State.pokeFw_svn (s : State) (w : U32) :
    (State.pokeFw s w).fw.svn = s.fw.svn := by
  unfold State.pokeFw; (repeat' split) <;> simp [*]

@[simp] theorem State.pokeMgt_svn (s : State) (off : Nat) (w : U32) :
    (State.pokeMgt s off w).fw.svn = s.fw.svn := by
  simp [State.pokeMgt]

@[simp] theorem State.pokeRec_svn (s : State) (off : Nat) (w : U32) :
    (State.pokeRec s off w).fw.svn = s.fw.svn := by
  unfold State.pokeRec; (repeat' split) <;> simp [*]

@[simp] theorem State.pokePwr_svn (s : State) (off : Nat) (w : U32) :
    (State.pokePwr s off w).fw.svn = s.fw.svn := by
  simp [State.pokePwr]

@[simp] theorem State.pokePf_svn (s : State) (off : Nat) (w : U32) :
    (State.pokePf s off w).fw.svn = s.fw.svn := by
  unfold State.pokePf; (repeat' split) <;> simp [*]

@[simp] theorem State.poke_svn (s : State) (f : Part) (bar : Bar) (off : Nat) (w : U32) :
    (State.poke s f bar off w).fw.svn = s.fw.svn := by
  unfold State.poke; (repeat' split) <;> simp [*]

@[simp] theorem State.freeStage_svn (s : State) (r : Nat) (id : Nat) (m : NodeRun) :
    (State.freeStage s r id m).fw.svn = s.fw.svn := by
  unfold State.freeStage
  dsimp only
  split
  · split
    · rw [State.mapFrame_svn]
    · rfl
  · rfl

@[simp] theorem State.haltEngine_svn (s : State) (e : Nat) :
    (State.haltEngine s e).fw.svn = s.fw.svn := by
  simp [State.haltEngine]

@[simp] theorem State.beginGather_svn (s : State) (f : Nat) (q : Nat) (c : Cmd) (b : Bytes) (ep : Bool) (scalar : Nat) (own : Nat) (share : Bytes) :
    (State.beginGather s f q c b ep scalar own share).fw.svn = s.fw.svn := by
  simp [State.beginGather]

@[simp] theorem State.mapBlob_svn (s : State) (i : Nat) (g : Blob → Blob) :
    (State.mapBlob s i g).fw.svn = s.fw.svn := by
  simp [State.mapBlob]

@[simp] theorem State.poisonBlob_svn (s : State) (i : Nat) (b : Blob) :
    (State.poisonBlob s i b).fw.svn = s.fw.svn := by
  simp [State.poisonBlob]

@[simp] theorem State.switchTo_svn (s : State) (st : SwStep) :
    (State.switchTo s st).fw.svn = s.fw.svn := by
  simp [State.switchTo]

@[simp] theorem State.abortFrameApplies_svn (s : State) :
    (State.abortFrameApplies s).fw.svn = s.fw.svn := by
  unfold State.abortFrameApplies
  refine foldl_svn _ (fun s x => ?_) _ _
  split
  · split <;> simp
  · rfl

@[simp] theorem State.abortQueue_svn (s : State) (f : Nat) (q : Nat) :
    (State.abortQueue s f q).fw.svn = s.fw.svn := by
  simp [State.abortQueue, foldl_svn]

@[simp] theorem State.removeVfs_svn (s : State) :
    (State.removeVfs s).fw.svn = s.fw.svn := by
  simp [State.removeVfs]

@[simp] theorem State.dropTenantSections_svn (s : State) :
    (State.dropTenantSections s).fw.svn = s.fw.svn := by
  simp [State.dropTenantSections]

@[simp] theorem State.destroyKeys_svn (s : State) :
    (State.destroyKeys s).fw.svn = s.fw.svn := by
  simp [State.destroyKeys]

@[simp] theorem State.renewPorts_svn (s : State) :
    (State.renewPorts s).fw.svn = s.fw.svn := by
  simp [State.renewPorts, foldl_svn]

@[simp] theorem State.scrub_svn (s : State) :
    (State.scrub s).fw.svn = s.fw.svn := by
  simp [State.scrub]

@[simp] theorem State.endSwitch_svn (s : State) :
    (State.endSwitch s).fw.svn = s.fw.svn := by
  simp [State.endSwitch, foldl_svn]

end Sys2Proof.Machine
end

