-- ==== Sys2Proof/Laws/Memory.lean ====
section
/-! SUPPORT. Board memory: what a read gives after a write, and that every operation keeps the canonical form. -/

namespace Sys2Proof.Machine

/-! The canonical form as a fact about the whole list. -/

theorem cellsOk_iff (era : Option Nat) (l : List Host.Cell) :
    cellsOk era l = true ↔ (l.Pairwise fun p q => p.1 < q.1) ∧ ∀ p ∈ l, memListed era p.1 p.2 = true := by
  induction l with
  | nil => simp [cellsOk]
  | cons p t ih =>
    cases t with
    | nil => simp [cellsOk]
    | cons q u =>
      simp only [cellsOk, Bool.and_eq_true, decide_eq_true_eq, ih]
      constructor
      · rintro ⟨⟨hpq, hp⟩, hu, hl⟩
        refine ⟨List.pairwise_cons.2 ⟨fun r hr => ?_, hu⟩, fun r hr => ?_⟩
        · rcases List.mem_cons.1 hr with rfl | hr
          · exact hpq
          · exact lt_trans hpq ((List.pairwise_cons.1 hu).1 r hr)
        · rcases List.mem_cons.1 hr with rfl | hr
          · exact hp
          · exact hl r hr
      · rintro ⟨hu, hl⟩
        obtain ⟨h1, h2⟩ := List.pairwise_cons.1 hu
        exact ⟨⟨h1 q List.mem_cons_self, hl p List.mem_cons_self⟩, h2, fun r hr => hl r (List.mem_cons_of_mem _ hr)⟩

theorem rising_iff (l : List Nat) : rising l = true ↔ l.Pairwise (· < ·) := by
  induction l with
  | nil => simp [rising]
  | cons x t ih =>
    cases t with
    | nil => simp [rising]
    | cons y u =>
      simp only [rising, Bool.and_eq_true, decide_eq_true_eq, ih]
      constructor
      · rintro ⟨hxy, hu⟩
        refine List.pairwise_cons.2 ⟨fun r hr => ?_, hu⟩
        rcases List.mem_cons.1 hr with rfl | hr
        · exact hxy
        · exact lt_trans hxy ((List.pairwise_cons.1 hu).1 r hr)
      · intro hu
        obtain ⟨h1, h2⟩ := List.pairwise_cons.1 hu
        exact ⟨h1 y List.mem_cons_self, h2⟩

/-- The canonical form, by the three fields it is about. -/
def wfParts (cells : List Host.Cell) (era : Option Nat) (poison : List Nat) : Bool := cellsOk era cells && rising poison

theorem Memory.wf_mk (c : List Host.Cell) (e : Option Nat) (p : List Nat) (r : Bool) (x1 x2 x3 x4 : Nat) :
    Memory.wf { cells := c, era := e, poison := p, ready := r, ce := x1, ue := x2, eccAddr := x3, poisonWr := x4 } = wfParts c e p := rfl

theorem Memory.wf_fold (m : Mem) : wfParts m.cells m.era m.poison = Memory.wf m := rfl

theorem wf_parts_iff (c : List Host.Cell) (e : Option Nat) (p : List Nat) :
    wfParts c e p = true ↔
      ((c.Pairwise fun p q => p.1 < q.1) ∧ ∀ x ∈ c, memListed e x.1 x.2 = true) ∧ p.Pairwise (· < ·) := by
  simp [wfParts, cellsOk_iff, rising_iff]

/-! Reading the cells. -/

theorem alookup_absent (l : List Host.Cell) (a : Nat) (h : ∀ p ∈ l, p.1 ≠ a) : alookup l a = none := by
  induction l with
  | nil => rfl
  | cons p t ih =>
    have h1 : p.1 ≠ a := h p List.mem_cons_self
    obtain ⟨x, v⟩ := p
    simp only [alookup]
    rw [if_neg (fun e => h1 e)]
    exact ih fun q hq => h q (List.mem_cons_of_mem _ hq)

theorem alookup_append (l m : List Host.Cell) (a : Nat) : alookup (l ++ m) a = (alookup l a).or (alookup m a) := by
  induction l with
  | nil => simp [alookup]
  | cons p t ih =>
    obtain ⟨x, v⟩ := p
    simp only [List.cons_append, alookup]
    split
    · rfl
    · exact ih

theorem alookup_filter (l : List Host.Cell) (f : Host.Cell → Bool) (a : Nat) (h : ∀ v, f (a, v) = true) :
    alookup (l.filter f) a = alookup l a := by
  induction l with
  | nil => rfl
  | cons p t ih =>
    obtain ⟨x, v⟩ := p
    by_cases hx : x = a
    · subst hx
      rw [List.filter_cons_of_pos (h v)]
      simp [alookup]
    · by_cases hf : f (x, v) = true
      · rw [List.filter_cons_of_pos hf]
        simp [alookup, hx, ih]
      · rw [List.filter_cons_of_neg hf]
        simp [alookup, hx, ih]

theorem alookup_filter_none (l : List Host.Cell) (f : Host.Cell → Bool) (a : Nat) (h : ∀ v, f (a, v) = false) :
    alookup (l.filter f) a = none := by
  refine alookup_absent _ _ fun p hp => ?_
  rintro rfl
  have := (List.mem_filter.1 hp).2
  rw [h p.2] at this
  cases this

/-- The byte of unlisted or listed memory at an address. -/
def cellsGet (era : Option Nat) (m : List Host.Cell) (a : Nat) : Byte := (alookup m a).getD (memDefault era a)

theorem Mem.get_cells (m : Mem) (a : Nat) : m.get a = cellsGet m.era m.cells a := by
  unfold Mem.get cellsGet
  split <;> simp_all

theorem memDefault_unlisted (era : Option Nat) (a : Nat) (b : Byte) (h : ¬ memListed era a b = true) : memDefault era a = b := by
  cases era with
  | none => simp_all [memListed, memDefault]
  | some n => simp_all [memListed, memDefault]

theorem cellRun_fst (era : Option Nat) (a : Nat) (bs : Bytes) (p : Host.Cell) (h : p ∈ cellRun era a bs) :
    a ≤ p.1 ∧ p.1 < a + bs.length ∧ memListed era p.1 p.2 = true := by
  induction bs generalizing a with
  | nil => simp [cellRun] at h
  | cons b t ih =>
    simp only [cellRun] at h
    split at h
    · rename_i hb
      rcases List.mem_cons.1 h with rfl | h
      · simp [hb]
      · obtain ⟨h1, h2, h3⟩ := ih _ h
        simp only [List.length_cons]
        exact ⟨by omega, by omega, h3⟩
    · obtain ⟨h1, h2, h3⟩ := ih _ h
      simp only [List.length_cons]
      exact ⟨by omega, by omega, h3⟩

theorem cellRun_pairwise (era : Option Nat) (a : Nat) (bs : Bytes) : (cellRun era a bs).Pairwise fun p q => p.1 < q.1 := by
  induction bs generalizing a with
  | nil => simp [cellRun]
  | cons b t ih =>
    simp only [cellRun]
    split
    · refine List.pairwise_cons.2 ⟨fun p hp => ?_, ih _⟩
      have := (cellRun_fst era (a + 1) t p hp).1
      simp only
      omega
    · exact ih _

theorem alookup_run (era : Option Nat) (a : Nat) (bs : Bytes) (k : Nat) (h : k < bs.length) :
    (alookup (cellRun era a bs) (a + k)).getD (memDefault era (a + k)) = bs[k] := by
  induction bs generalizing a k with
  | nil => simp at h
  | cons b t ih =>
    simp only [cellRun]
    cases k with
    | zero =>
      split
      · simp [alookup]
      · rename_i hb
        rw [alookup_absent]
        · simpa using memDefault_unlisted era a b hb
        · intro p hp
          have := (cellRun_fst era (a + 1) t p hp).1
          omega
    | succ k =>
      have hk : k < t.length := by simpa using h
      have := ih (a + 1) k hk
      rw [show a + 1 + k = a + (k + 1) by omega] at this
      split
      · simpa [alookup] using this
      · simpa using this

/-! A write of the cells. -/

/-- Inside the written range a read gives the byte written. -/
theorem memWrite_inside (era : Option Nat) (m : List Host.Cell) (a : Nat) (bs : Bytes) (k : Nat) (h : k < bs.length) :
    cellsGet era (memWrite era m a bs) (a + k) = bs[k] := by
  unfold cellsGet memWrite
  rw [alookup_append, alookup_append,
    alookup_filter_none m (fun c => decide (c.1 < a)) (a + k) (fun v => by simp),
    alookup_filter_none m (fun c => decide (a + bs.length ≤ c.1)) (a + k) (fun v => by simp; omega)]
  simpa using alookup_run era a bs k h

/-- Outside the written range a read gives what it gave. -/
theorem memWrite_outside (era : Option Nat) (m : List Host.Cell) (a : Nat) (bs : Bytes) (x : Nat)
    (h : x < a ∨ a + bs.length ≤ x) : cellsGet era (memWrite era m a bs) x = cellsGet era m x := by
  have hr : alookup (cellRun era a bs) x = none := alookup_absent _ _ fun p hp e => by
    have := cellRun_fst era a bs p hp
    omega
  unfold cellsGet memWrite
  rw [alookup_append, alookup_append, hr]
  rcases h with h | h
  · rw [alookup_filter m (fun c => decide (c.1 < a)) x (fun v => by simpa using h),
      alookup_filter_none m (fun c => decide (a + bs.length ≤ c.1)) x (fun v => by simp; omega)]
    simp
  · rw [alookup_filter_none m (fun c => decide (c.1 < a)) x (fun v => by simp; omega),
      alookup_filter m (fun c => decide (a + bs.length ≤ c.1)) x (fun v => by simpa using h)]
    simp

/-- A write keeps the canonical form of the cells. -/
theorem memWrite_ok (era : Option Nat) (m : List Host.Cell) (a : Nat) (bs : Bytes) (h : cellsOk era m = true) :
    cellsOk era (memWrite era m a bs) = true := by
  rw [cellsOk_iff] at h ⊢
  obtain ⟨hp, hl⟩ := h
  unfold memWrite
  constructor
  · rw [List.pairwise_append, List.pairwise_append]
    refine ⟨⟨hp.filter _, cellRun_pairwise era a bs, fun p hp q hq => ?_⟩, hp.filter _, fun p hp q hq => ?_⟩
    · have h1 := (List.mem_filter.1 hp).2
      have h2 := cellRun_fst era a bs q hq
      simp at h1
      omega
    · have h2 := (List.mem_filter.1 hq).2
      simp only [decide_eq_true_eq] at h2
      rcases List.mem_append.1 hp with hp | hp
      · have h1 := (List.mem_filter.1 hp).2
        simp at h1
        omega
      · have h1 := cellRun_fst era a bs p hp
        omega
  · intro p hp
    rcases List.mem_append.1 hp with hp | hp
    · rcases List.mem_append.1 hp with hp | hp
      · exact hl p (List.mem_filter.1 hp).1
      · exact (cellRun_fst era a bs p hp).2.2
    · exact hl p (List.mem_filter.1 hp).1

/-! The poisoned sectors. -/

theorem nset_head (l : List Nat) (k x : Nat) (h : x ∈ nset l k) : x = k ∨ x ∈ l := by
  induction l with
  | nil => simpa [nset] using h
  | cons a t ih =>
    simp only [nset] at h
    split at h
    · simpa using h
    · split at h
      · exact Or.inr h
      · rcases List.mem_cons.1 h with rfl | h
        · exact Or.inr List.mem_cons_self
        · exact (ih h).imp id (List.mem_cons_of_mem _)

theorem nset_rising (l : List Nat) (k : Nat) (h : l.Pairwise (· < ·)) : (nset l k).Pairwise (· < ·) := by
  induction l with
  | nil => simp [nset]
  | cons a t ih =>
    obtain ⟨h1, h2⟩ := List.pairwise_cons.1 h
    simp only [nset]
    split
    · rename_i hk
      refine List.pairwise_cons.2 ⟨fun x hx => ?_, h⟩
      rcases List.mem_cons.1 hx with rfl | hx
      · exact hk
      · exact lt_trans hk (h1 x hx)
    · split
      · exact h
      · refine List.pairwise_cons.2 ⟨fun x hx => ?_, ih h2⟩
        rcases nset_head t k x hx with rfl | hx
        · omega
        · exact h1 x hx

theorem poisonAfter_rising (old : List Nat) (a n : Nat) (p : Bool) (h : old.Pairwise (· < ·)) :
    (poisonAfter old a n p).Pairwise (· < ·) := by
  unfold poisonAfter
  induction sectorsOf a n generalizing old with
  | nil => exact h
  | cons k t ih =>
    rw [List.foldl_cons]
    refine ih _ ?_
    split
    · exact nset_rising _ _ h
    · split
      · exact h.filter _
      · exact h

/-! The operations of the board on memory keep the canonical form. -/

@[simp] theorem State.note_mem (s : State) (a b c d : Nat) (l : List Nat) (t : Bool) : (s.note a b c d l t).mem = s.mem := by
  simp [State.note]

@[simp] theorem State.event_mem (s : State) (a b c : Nat) : (s.event a b c).mem = s.mem := by
  unfold State.event
  split <;> rfl

/-- A write takes the three fields of the canonical form to these. -/
theorem State.memWrite_parts (s : State) (a : Nat) (bs : Bytes) (p : Bool) :
    (s.memWrite a bs p).mem.cells = Sys2Proof.Machine.memWrite s.mem.era s.mem.cells a bs ∧
      (s.memWrite a bs p).mem.era = s.mem.era ∧
      (s.memWrite a bs p).mem.poison =
        (if s.top.eccOn || decide (pinnedBase ≤ a) then poisonAfter s.mem.poison a bs.length p else s.mem.poison) := by
  unfold State.memWrite
  simp only []
  split
  · split
    · rw [State.event_mem, State.note_mem]
      exact ⟨rfl, rfl, rfl⟩
    · rw [State.note_mem]
      exact ⟨rfl, rfl, rfl⟩
  · exact ⟨rfl, rfl, rfl⟩

@[simp] theorem State.memWrite_wf (s : State) (a : Nat) (bs : Bytes) (p : Bool) (h : Memory.wf s.mem = true) :
    Memory.wf (s.memWrite a bs p).mem = true := by
  obtain ⟨hc, he, hp⟩ := s.memWrite_parts a bs p
  unfold Memory.wf at h ⊢
  simp only [Bool.and_eq_true] at h ⊢
  rw [hc, he, hp]
  refine ⟨memWrite_ok _ _ _ _ h.1, ?_⟩
  split
  · rw [rising_iff] at *
    exact poisonAfter_rising _ _ _ _ h.2
  · exact h.2

@[simp] theorem State.memWriteMixed_wf (s : State) (a : Nat) (bs : Bytes) (pz : Nat → Bool) (h : Memory.wf s.mem = true) :
    Memory.wf (s.memWriteMixed a bs pz).mem = true := by
  unfold State.memWriteMixed
  induction sectorsOf a bs.length generalizing s with
  | nil => exact h
  | cons k t ih => exact ih _ (s.memWrite_wf _ _ _ h)

/-- A byte outside a write reads as before. -/
theorem State.memWrite_get_outside (s : State) (a : Nat) (bs : Bytes) (p : Bool) (x : Nat) (h : x < a ∨ a + bs.length ≤ x) :
    (s.memWrite a bs p).mem.get x = s.mem.get x := by
  obtain ⟨hc, he, -⟩ := s.memWrite_parts a bs p
  rw [Mem.get_cells, Mem.get_cells, hc, he]
  exact memWrite_outside _ _ _ _ _ h

/-- A byte inside a write reads as the byte written. -/
theorem State.memWrite_get_inside (s : State) (a : Nat) (bs : Bytes) (p : Bool) (k : Nat) (h : k < bs.length) :
    (s.memWrite a bs p).mem.get (a + k) = bs[k] := by
  obtain ⟨hc, he, -⟩ := s.memWrite_parts a bs p
  rw [Mem.get_cells, hc, he]
  exact memWrite_inside _ _ _ _ _ h

/-- Marking a sector poisoned. -/
theorem wf_mark (m : Mem) (k : Nat) (h : Memory.wf m = true) : wfParts m.cells m.era (nset m.poison k) = true := by
  rw [← Memory.wf_fold, wf_parts_iff] at h
  rw [wf_parts_iff]
  exact ⟨h.1, nset_rising _ _ h.2⟩

/-- Forgetting cells and poison in the same era. -/
theorem wf_forget (m : Mem) (f : Host.Cell → Bool) (g : Nat → Bool) (h : Memory.wf m = true) :
    wfParts (m.cells.filter f) m.era (m.poison.filter g) = true := by
  rw [← Memory.wf_fold, wf_parts_iff] at h
  rw [wf_parts_iff]
  exact ⟨⟨h.1.1.filter _, fun x hx => h.1.2 x (List.mem_filter.1 hx).1⟩, h.2.filter _⟩

/-- Keeping the PINNED windows alone, in any era (R468, R569, R718). -/
theorem wf_pinned (m : Mem) (e : Option Nat) (p : List Nat) (h : Memory.wf m = true) (hp : p.Pairwise (· < ·)) :
    wfParts (m.cells.filter fun c => decide (pinnedBase ≤ c.1) && c.2 != 0) e p = true := by
  rw [← Memory.wf_fold, wf_parts_iff] at h
  rw [wf_parts_iff]
  refine ⟨⟨h.1.1.filter _, fun x hx => ?_⟩, hp⟩
  have := (List.mem_filter.1 hx).2
  simp only [Bool.and_eq_true] at this
  unfold memListed
  rw [this.2, Bool.true_or]

theorem Memory.wf_poison (m : Mem) (h : Memory.wf m = true) : m.poison.Pairwise (· < ·) := by
  rw [← Memory.wf_fold, wf_parts_iff] at h
  exact h.2

@[simp] theorem State.newMemoryKey_wf (s : State) (h : Memory.wf s.mem = true) : Memory.wf s.newMemoryKey.mem = true :=
  wf_pinned s.mem (some s.free) s.mem.poison h (Memory.wf_poison _ h)

theorem State.reset_memOk : State.reset.memOk := by decide

end Sys2Proof.Machine
end

