-- ==== Sys2Proof/Laws/KeepsMemory.lean ====
section
/-! SUPPORT. Board memory: which operations on State leave it alone, and that the others keep its canonical form. -/

namespace Sys2Proof.Machine

@[simp] theorem ite_mem (c : Prop) [Decidable c] (a b : State) : (if c then a else b).mem = if c then a.mem else b.mem := by
  split <;> rfl

theorem foldl_mem {α : Type} (f : State → α → State) (h : ∀ s x, (f s x).mem = s.mem) (l : List α) (s : State) :
    (l.foldl f s).mem = s.mem := by
  induction l generalizing s with
  | nil => rfl
  | cons a t ih => rw [List.foldl_cons, ih, h]

theorem foldlPair_mem {α β : Type} (f : State × β → α → State × β) (h : ∀ a x, (f a x).1.mem = a.1.mem) (l : List α)
    (a : State × β) : (l.foldl f a).1.mem = a.1.mem := by
  induction l generalizing a with
  | nil => rfl
  | cons x t ih => rw [List.foldl_cons, ih, h]

@[simp] theorem ite_memKept (c : Prop) [Decidable c] (a b : State) :
    Memory.wf (if c then a else b).mem = if c then Memory.wf a.mem else Memory.wf b.mem := by
  split <;> rfl

theorem foldl_wf {α : Type} (f : State → α → State) (h : ∀ s x, Memory.wf s.mem = true → Memory.wf (f s x).mem = true) (l : List α)
    (s : State) (hs : Memory.wf s.mem = true) : Memory.wf (l.foldl f s).mem = true := by
  induction l generalizing s with
  | nil => exact hs
  | cons a t ih => exact ih _ (h s a hs)

theorem foldlPair_wf {α β : Type} (f : State × β → α → State × β)
    (h : ∀ a x, Memory.wf a.1.mem = true → Memory.wf (f a x).1.mem = true) (l : List α)
    (a : State × β) (hs : Memory.wf a.1.mem = true) : Memory.wf (l.foldl f a).1.mem = true := by
  induction l generalizing a with
  | nil => exact hs
  | cons x t ih => exact ih _ (h a x hs)

theorem iteWf {c : Prop} [Decidable c] {a b : State} (ha : Memory.wf a.mem = true) (hb : Memory.wf b.mem = true) :
    Memory.wf (if c then a else b).mem = true := by
  split <;> assumption

@[simp] theorem State.emit_mem (s : State) (o : Out) :
    (State.emit s o).mem = s.mem := by
  simp [State.emit]

@[simp] theorem State.emitAll_mem (s : State) (o : List Out) :
    (State.emitAll s o).mem = s.mem := by
  simp [State.emitAll]

@[simp] theorem State.useFree_mem (s : State) :
    (State.useFree s).mem = s.mem := by
  simp [State.useFree]

@[simp] theorem State.sendEvents_mem (s : State) :
    (State.sendEvents s).mem = s.mem := by
  simp [State.sendEvents]

@[simp] theorem State.eventAll_mem (s : State) (c : Nat) (source : Nat) :
    (State.eventAll s c source).mem = s.mem := by
  simp [State.eventAll, foldl_mem]

@[simp] theorem State.setQueue_mem (s : State) (f : Nat) (q : Nat) (x : Queue) :
    (State.setQueue s f q x).mem = s.mem := by
  simp [State.setQueue]

@[simp] theorem State.fix_mem (s : State) (f : Nat) (q : Nat) (pos : Nat) (status : Nat) (detail : Nat) (source : Nat) :
    (State.fix s f q pos status detail source).mem = s.mem := by
  unfold State.fix; simp only []; (repeat' split) <;> simp_all

@[simp] theorem State.refuse_mem (s : State) (f : Nat) (q : Nat) (pos : Nat) (detail : Nat) :
    (State.refuse s f q pos detail).mem = s.mem := by
  simp [State.refuse]

@[simp] theorem State.setCmd_mem (s : State) (f : Nat) (q : Nat) (pos : Nat) (g : Cmd → Cmd) :
    (State.setCmd s f q pos g).mem = s.mem := by
  simp [State.setCmd]

@[simp] theorem State.underWay_mem (s : State) (f : Nat) (q : Nat) (pos : Nat) (status : Nat) (detail : Nat) (source : Nat) :
    (State.underWay s f q pos status detail source).mem = s.mem := by
  simp [State.underWay]

@[simp] theorem State.driveSafeOff_mem (s : State) (on : Bool) :
    (State.driveSafeOff s on).mem = s.mem := by
  simp [State.driveSafeOff]

@[simp] theorem State.sendCan_mem (s : State) (ident : Nat) (typ : Nat) (alive : BitVec 8) :
    (State.sendCan s ident typ alive).mem = s.mem := by
  simp [State.sendCan]

@[simp] theorem State.setSaf_mem (s : State) (st : SafSt) :
    (State.setSaf s st).mem = s.mem := by
  simp [State.setSaf]

@[simp] theorem State.enterSafe_mem (s : State) (cause : Nat) (gtc : Nat) (source : Nat) (hw : Bool) :
    (State.enterSafe s cause gtc source hw).mem = s.mem := by
  simp [State.enterSafe]

@[simp] theorem State.latchCause_mem (s : State) (cause : Nat) (source : Nat) :
    (State.latchCause s cause source).mem = s.mem := by
  simp [State.latchCause]

@[simp] theorem State.undefine_wf (s : State) (f : Nat) (addr : Nat) (n : Nat) (hs : Memory.wf s.mem = true) :
    Memory.wf (State.undefine s f addr n).mem = true := by
  unfold State.undefine; (repeat' split) <;> simp [*]

@[simp] theorem State.mapPort_mem (s : State) (p : Nat) (g : LnkPort → LnkPort) :
    (State.mapPort s p g).mem = s.mem := by
  simp [State.mapPort]

@[simp] theorem State.reroute_mem (s : State) :
    (State.reroute s).mem = s.mem := by
  simp [State.reroute]

@[simp] theorem State.sendFlit_mem (s : State) (p : Nat) (idle : Bool) (payload : Bytes) :
    (State.sendFlit s p idle payload).mem = s.mem := by
  simp [State.sendFlit]

@[simp] theorem State.pump_mem (s : State) (p : Nat) (l : List Bytes) : (State.pump s p l).mem = s.mem := by
  induction l generalizing s with
  | nil => simp [State.pump]
  | cons b t ih => unfold State.pump; split <;> simp [ih]

@[simp] theorem State.sendIdle_mem (s : State) (p : Nat) :
    (State.sendIdle s p).mem = s.mem := by
  simp [State.sendIdle]

@[simp] theorem State.nak_mem (s : State) (p : Nat) :
    (State.nak s p).mem = s.mem := by
  simp [State.nak]

@[simp] theorem State.portSend_mem (s : State) (p : Nat) (lane : Nat) (m : Msg) :
    (State.portSend s p lane m).mem = s.mem := by
  simp [State.portSend]

@[simp] theorem State.strand_mem (s : State) (m : Msg) :
    (State.strand s m).mem = s.mem := by
  simp [State.strand]

@[simp] theorem State.forward_mem (s : State) (m : Msg) :
    (State.forward s m).mem = s.mem := by
  unfold State.forward; (repeat' split) <;> simp [*]

@[simp] theorem State.sendMsg_mem (s : State) (m : Msg) :
    (State.sendMsg s m).mem = s.mem := by
  simp [State.sendMsg]

@[simp] theorem State.flushStuck_mem (s : State) :
    (State.flushStuck s).mem = s.mem := by
  simp [State.flushStuck, foldl_mem]

@[simp] theorem State.advertise_mem (s : State) :
    (State.advertise s).mem = s.mem := by
  simp [State.advertise]

@[simp] theorem State.tellLinks_mem (s : State) :
    (State.tellLinks s).mem = s.mem := by
  simp [State.tellLinks]

@[simp] theorem State.linksChanged_mem (s : State) :
    (State.linksChanged s).mem = s.mem := by
  simp [State.linksChanged]

@[simp] theorem State.sendRequest_mem (s : State) (m : Msg) (cmd : Option (Nat × Nat × Nat)) :
    (State.sendRequest s m cmd).mem = s.mem := by
  simp [State.sendRequest]

@[simp] theorem State.request_mem (s : State) (m : Msg) (cmd : Option (Nat × Nat × Nat)) :
    (State.request s m cmd).mem = s.mem := by
  simp [State.request]

@[simp] theorem State.issueWaiting_mem (s : State) (d n : Nat) : (State.issueWaiting s d n).mem = s.mem := by
  induction n generalizing s with
  | zero => rfl
  | succ n ih => unfold State.issueWaiting; (repeat' split) <;> simp [ih]

@[simp] theorem State.answered_mem (s : State) (src : Nat) (reqId : Nat) :
    (State.answered s src reqId).mem = s.mem := by
  simp [State.answered]

@[simp] theorem State.markRun_mem (s : State) (r : Nat) (id : Nat) (poisoned : Bool) (lost : Bool) :
    (State.markRun s r id poisoned lost).mem = s.mem := by
  simp [State.markRun]

@[simp] theorem State.markCmd_mem (s : State) (cmd : Option (Nat × Nat × Nat)) (poisoned : Bool) (lost : Bool) :
    (State.markCmd s cmd poisoned lost).mem = s.mem := by
  unfold State.markCmd; (repeat' split) <;> simp [*]

@[simp] theorem State.poisonRead_mem (s : State) (part : Nat) (a : Nat) (source : Nat) :
    (State.poisonRead s part a source).mem = s.mem := by
  simp [State.poisonRead]

@[simp] theorem State.deliverTo_mem (s : State) (part : Nat) (a : Nat) (source : Nat) (data : Bytes) (poison : Bool) :
    (State.deliverTo s part a source data poison).mem = s.mem := by
  simp [State.deliverTo]

@[simp] theorem State.remoteWrite_mem (s : State) (board : Nat) (part : Nat) (a : Nat) (bs : Bytes) (poison : Bool) (cmd : Option (Nat × Nat × Nat)) :
    (State.remoteWrite s board part a bs poison cmd).mem = s.mem := by
  simp [State.remoteWrite, foldl_mem]

@[simp] theorem State.answer_mem (s : State) (m : Msg) :
    (State.answer s m).mem = s.mem := by
  simp [State.answer]

@[simp] theorem State.answerLine_mem (s : State) (typ : Nat) (r : HomeReq) :
    (State.answerLine s typ r).mem = s.mem := by
  simp [State.answerLine]

@[simp] theorem State.answerBare_mem (s : State) (typ : Nat) (dest : Nat) (reqId : Nat) (part : Nat) (addr : Nat) :
    (State.answerBare s typ dest reqId part addr).mem = s.mem := by
  simp [State.answerBare]

@[simp] theorem State.snoop_mem (s : State) (typ : Nat) (req : HomeReq) (boards : List Nat) :
    (State.snoop s typ req boards).mem = s.mem := by
  simp [State.snoop, foldl_mem]

@[simp] theorem State.mergeLine_wf (s : State) (r : HomeReq) (poison : Bool) (hs : Memory.wf s.mem = true) :
    Memory.wf (State.mergeLine s r poison).mem = true := by
  unfold State.mergeLine
  refine foldl_wf _ (fun s x h => ?_) _ _ hs
  simp only []
  split <;> simp [h]

@[simp] theorem State.finishReq_wf (s : State) (r : HomeReq) (was : Option DirEnt) (gone : List Nat) (hs : Memory.wf s.mem = true) :
    Memory.wf (State.finishReq s r was gone).mem = true := by
  unfold State.finishReq; (repeat' split) <;> simp [*]

@[simp] theorem State.beginReq_wf (s : State) (r : HomeReq) (hs : Memory.wf s.mem = true) :
    Memory.wf (State.beginReq s r).mem = true := by
  unfold State.beginReq; simp only []; (repeat' split) <;> simp_all

@[simp] theorem State.startReq_wf (s : State) (r : HomeReq) (hs : Memory.wf s.mem = true) :
    Memory.wf (State.startReq s r).mem = true := by
  unfold State.startReq; (repeat' split) <;> simp [*]

@[simp] theorem State.drainQueue_wf (s : State) (hs : Memory.wf s.mem = true) :
    Memory.wf (State.drainQueue s).mem = true := by
  unfold State.drainQueue; simp only []; (repeat' split) <;> simp_all [foldl_wf]

@[simp] theorem State.settleLeaving_mem (s : State) :
    (State.settleLeaving s).mem = s.mem := by
  simp [State.settleLeaving]

@[simp] theorem State.snoopAnswer_wf (s : State) (board : Nat) (a : Nat) (inFlight : Bool) (hs : Memory.wf s.mem = true) :
    Memory.wf (State.snoopAnswer s board a inFlight).mem = true := by
  unfold State.snoopAnswer; simp only []; (repeat' split) <;> simp_all

@[simp] theorem State.pruneKept_mem (s : State) (h : FabHdr) :
    (State.pruneKept s h).mem = s.mem := by
  simp [State.pruneKept]

@[simp] theorem State.resendKept_mem (s : State) (k : Kept) :
    (State.resendKept s k).mem = s.mem := by
  simp [State.resendKept]

@[simp] theorem State.homeRequest_wf (s : State) (typ : ReqType) (h : FabHdr) (mask : List Bool) (data : Bytes) (poison : Bool) (hs : Memory.wf s.mem = true) :
    Memory.wf (State.homeRequest s typ h mask data poison).mem = true := by
  unfold State.homeRequest; simp only []; (repeat' split) <;> simp_all

@[simp] theorem State.withdraw_wf (s : State) (r : Bytes) (hs : Memory.wf s.mem = true) :
    Memory.wf (State.withdraw s r).mem = true := by
  unfold State.withdraw; simp only []; (repeat' split) <;> simp_all [foldl_wf]

@[simp] theorem State.recall_wf (s : State) (part : Nat) (lines : List Nat) (hs : Memory.wf s.mem = true) :
    Memory.wf (State.recall s part lines).mem = true := by
  unfold State.recall
  refine foldl_wf _ (fun s x h => ?_) _ _ hs
  exact State.startReq_wf _ _ h

@[simp] theorem State.putPart_wf (s : State) (part : Nat) (a : Nat) (bs : Bytes) (poison : Bool) (hs : Memory.wf s.mem = true) :
    Memory.wf (State.putPart s part a bs poison).mem = true := by
  unfold State.putPart; simp only []; (repeat' split) <;> simp_all

@[simp] theorem State.put_wf (s : State) (part : Nat) (a : Nat) (bs : Bytes) (poison : Bool) (hs : Memory.wf s.mem = true) :
    Memory.wf (State.put s part a bs poison).mem = true := by
  unfold State.put; simp only []; (repeat' split) <;> simp_all [foldl_wf]

@[simp] theorem State.putMixed_wf (s : State) (part : Nat) (a : Nat) (bs : Bytes) (pz : Nat → Bool) (hs : Memory.wf s.mem = true) :
    Memory.wf (State.putMixed s part a bs pz).mem = true := by
  unfold State.putMixed; simp only []; (repeat' split) <;> simp_all [foldl_wf]

@[simp] theorem State.takeOver_mem (s : State) :
    (State.takeOver s).mem = s.mem := by
  simp [State.takeOver, foldl_mem]

@[simp] theorem State.evict_mem (s : State) (l : RLine) :
    (State.evict s l).mem = s.mem := by
  simp [State.evict]

theorem State.cellarAlloc_mem (s : State) (x : Bytes) (a : Nat) (d : Bool) (t : State) (h : s.cellarAlloc x a d = some t) :
    t.mem = s.mem := by
  unfold State.cellarAlloc at h
  simp only [] at h
  (repeat' split at h) <;> (try cases h) <;> simp

@[simp] theorem State.cellarAllocD_mem (s : State) (x : Bytes) (a : Nat) (d : Bool) : ((s.cellarAlloc x a d).getD s).mem = s.mem := by
  cases h : s.cellarAlloc x a d with
  | none => rfl
  | some t => exact State.cellarAlloc_mem _ _ _ _ _ h

@[simp] theorem State.deliver_mem (s : State) (r : CellarReq) (data : Bytes) (poison : Bool) :
    (State.deliver s r data poison).mem = s.mem := by
  simp [State.deliver]

@[simp] theorem State.remoteAccess_mem (s : State) (r : CellarReq) :
    (State.remoteAccess s r).mem = s.mem := by
  unfold State.remoteAccess
  simp only []
  split
  · (repeat' split) <;> simp
  · split
    · rename_i t h
      have ht : t.mem = s.mem := by
        split at h
        · split at h
          · have := State.cellarAlloc_mem _ _ _ _ _ h
            simp at this
            exact this
          · cases h
        · cases h
      simp [ht]
    · split <;> simp

@[simp] theorem State.serveWaiters_mem (s : State) (l : List CellarReq) :
    (State.serveWaiters s l).mem = s.mem := by
  simp [State.serveWaiters, foldl_mem]

@[simp] theorem State.installLine_mem (s : State) (a : Nat) (st : CohSt) (data : Option (Bytes × Bool)) :
    (State.installLine s a st data).mem = s.mem := by
  unfold State.installLine; (repeat' split) <;> simp [*]

@[simp] theorem State.refetch_mem (s : State) (l : RLine) :
    (State.refetch s l).mem = s.mem := by
  simp [State.refetch]

@[simp] theorem State.maskedWrite_wf (s : State) (r : CellarReq) (hs : Memory.wf s.mem = true) :
    Memory.wf (State.maskedWrite s r).mem = true := by
  simp [State.maskedWrite, hs]

@[simp] theorem State.cellarCount_mem (s : State) (r : CellarReq) :
    (State.cellarCount s r).mem = s.mem := by
  unfold State.cellarCount
  simp only []
  (repeat' split) <;> simp

@[simp] theorem State.localAccess_wf (s : State) (r : CellarReq) (hs : Memory.wf s.mem = true) :
    Memory.wf (State.localAccess s r).mem = true := by
  unfold State.localAccess
  generalize hc : s.cellarCount r = t
  have ht : Memory.wf t.mem = true := by rw [← hc, State.cellarCount_mem]; exact hs
  exact iteWf (State.startReq_wf _ _ ht) (iteWf (State.maskedWrite_wf _ _ ht) (by rw [State.deliver_mem]; exact ht))

@[simp] theorem State.poisonLine_wf (s : State) (a : Nat) (hs : Memory.wf s.mem = true) :
    Memory.wf (State.poisonLine s a).mem = true := by
  simp [State.poisonLine, hs]

@[simp] theorem State.takeSource_wf (s : State) (cmd : Option (Nat × Nat × Nat)) (c : Cmd) (f : Nat) (q : Nat) (a : Nat) (data : Bytes) (poison : Bool) (hs : Memory.wf s.mem = true) :
    Memory.wf (State.takeSource s cmd c f q a data poison).mem = true := by
  unfold State.takeSource; simp only []; (repeat' split) <;> simp_all

@[simp] theorem State.takeCoreLine_mem (s : State) (c : Nat) (part : Nat) (a : Nat) (data : Bytes) (poison : Bool) :
    (State.takeCoreLine s c part a data poison).mem = s.mem := by
  simp [State.takeCoreLine]

@[simp] theorem State.takeNokeep_wf (s : State) (u : Unans) (a : Nat) (data : Bytes) (poison : Bool) (hs : Memory.wf s.mem = true) :
    Memory.wf (State.takeNokeep s u a data poison).mem = true := by
  unfold State.takeNokeep; (repeat' split) <;> simp [*]

@[simp] theorem State.failLine_mem (s : State) (a : Nat) :
    (State.failLine s a).mem = s.mem := by
  unfold State.failLine; (repeat' split) <;> simp [*, foldl_mem]

@[simp] theorem State.failRequest_wf (s : State) (u : Unans) (hs : Memory.wf s.mem = true) :
    Memory.wf (State.failRequest s u).mem = true := by
  unfold State.failRequest; (repeat' split) <;> simp [*]

@[simp] theorem State.failMsg_wf (s : State) (u : Unans) (hs : Memory.wf s.mem = true) :
    Memory.wf (State.failMsg s u).mem = true := by
  simp [State.failMsg, hs]

@[simp] theorem State.useDma_mem (s : State) (j : Job) :
    (State.useDma s j).mem = s.mem := by
  simp [State.useDma]

@[simp] theorem State.useSealing_mem (s : State) (j : Job) :
    (State.useSealing s j).mem = s.mem := by
  simp [State.useSealing]

@[simp] theorem State.useMessage_mem (s : State) (n : Nat) (j : Job) :
    (State.useMessage s n j).mem = s.mem := by
  simp [State.useMessage]

theorem poisonReads_mem (p src : Nat) (g : State → Nat → Nat) (l : List Nat) (s : State) :
    (l.foldl (fun s i => s.poisonRead p (g s i) src) s).mem = s.mem :=
  foldl_mem _ (fun s x => State.poisonRead_mem s p (g s x) src) l s

@[simp] theorem State.readLocal_mem (s : State) (f : Nat) (a : Nat) (n : Nat) :
    (State.readLocal s f a n).mem = s.mem := by
  exact poisonReads_mem f (srcPart f) (fun s l => s.struct.boardId * 2 ^ 40 + 128 * l) _ s

@[simp] theorem State.toHost_mem (s : State) (f : Nat) (q : Nat) (seq : Nat) (addr : Nat) (bs : Bytes) (first : Nat) (pz : Nat → Bool) :
    (State.toHost s f q seq addr bs first pz).mem = s.mem := by
  simp [State.toHost, foldl_mem]

@[simp] theorem State.toPlace_wf (s : State) (f : Nat) (p : Place) (bs : Bytes) (pz : Nat → Bool) (cmd : Option (Nat × Nat × Nat)) (hs : Memory.wf s.mem = true) :
    Memory.wf (State.toPlace s f p bs pz cmd).mem = true := by
  unfold State.toPlace; (repeat' split) <;> simp [*, foldl_wf]

@[simp] theorem State.settleEntry_mem (s : State) (a : Nat) (e : Option DirEnt) :
    (State.settleEntry s a e).mem = s.mem := by
  unfold State.settleEntry; (repeat' split) <;> simp [*]

@[simp] theorem State.eviction_wf (s : State) (h : FabHdr) (data : Option (Bytes × Bool)) (hs : Memory.wf s.mem = true) :
    Memory.wf (State.eviction s h data).mem = true := by
  unfold State.eviction; simp only []; (repeat' split) <;> simp_all

@[simp] theorem State.snoopReply_mem (s : State) (home : Nat) (typ : Nat) (reqId : Nat) (a : Nat) (data : Bytes) (poison : Bool) :
    (State.snoopReply s home typ reqId a data poison).mem = s.mem := by
  simp [State.snoopReply]

@[simp] theorem State.ringWrite_wf (s : State) (w : Bytes) (off : Nat) (bs : Bytes) (poison : Bool) (hs : Memory.wf s.mem = true) :
    Memory.wf (State.ringWrite s w off bs poison).mem = true := by
  simp [State.ringWrite, hs]

@[simp] theorem State.addMail_mem (s : State) (m : MailIn) :
    (State.addMail s m).mem = s.mem := by
  simp [State.addMail]

@[simp] theorem State.fixSend_mem (s : State) (cmd : Option (Nat × Nat × Nat)) (source : Nat) :
    (State.fixSend s cmd source).mem = s.mem := by
  unfold State.fixSend; (repeat' split) <;> simp [*]

@[simp] theorem State.ownMailDone_mem (s : State) (reqId : Nat) :
    (State.ownMailDone s reqId).mem = s.mem := by
  unfold State.ownMailDone; (repeat' split) <;> simp [*]

@[simp] theorem State.passMails_wf (s : State) (w : Bytes) (x : Nat) (l : List MailIn) (hs : Memory.wf s.mem = true) :
    Memory.wf (State.passMails s w x l).mem = true := by
  induction l generalizing s with
  | nil => simpa [State.passMails] using hs
  | cons b t ih => unfold State.passMails; simp only []; (repeat' split) <;> simp [ih, hs]

@[simp] theorem State.mailWhole_wf (s : State) (w : Bytes) (m : MailIn) (hs : Memory.wf s.mem = true) :
    Memory.wf (State.mailWhole s w m).mem = true := by
  simp [State.mailWhole, hs]

@[simp] theorem State.recallSource_wf (s : State) (f : Nat) (c : Cmd) (o : Nat) (n : Nat) (hs : Memory.wf s.mem = true) :
    Memory.wf (State.recallSource s f c o n).mem = true := by
  unfold State.recallSource; (repeat' split) <;> simp [*]

@[simp] theorem State.startMessage_mem (s : State) (dest : Nat) (f : Nat) (q : Nat) (c : Cmd) :
    (State.startMessage s dest f q c).mem = s.mem := by
  simp [State.startMessage]

@[simp] theorem State.sendChunk_wf (s : State) (u : Unans) (o : Nat) (bs : Bytes) (poison : Bool) (last : Bool) (hs : Memory.wf s.mem = true) :
    Memory.wf (State.sendChunk s u o bs poison last).mem = true := by
  unfold State.sendChunk; simp only []; (repeat' split) <;> simp_all

@[simp] theorem State.mapMessage_mem (s : State) (n : Nat) (g : Engine → Engine) :
    (State.mapMessage s n g).mem = s.mem := by
  simp [State.mapMessage]

@[simp] theorem State.runMessage_wf (s : State) (n : Nat) (hs : Memory.wf s.mem = true) :
    Memory.wf (State.runMessage s n).mem = true := by
  unfold State.runMessage; simp only []; (repeat' split) <;> simp_all

@[simp] theorem State.noteFw_mem (s : State) (comp : Fin 4) (slot : Bool) (event : String) :
    (State.noteFw s comp slot event).mem = s.mem := by
  simp [State.noteFw]

@[simp] theorem State.finishBurn_mem (s : State) (comp : Fin 4) :
    (State.finishBurn s comp).mem = s.mem := by
  unfold State.finishBurn; (repeat' split) <;> simp [*]

@[simp] theorem State.dropTrial_mem (s : State) (comp : Fin 4) :
    (State.dropTrial s comp).mem = s.mem := by
  simp [State.dropTrial]

@[simp] theorem State.bootComponent_mem (s : State) (c : Fin 4) : (s.bootComponent c).1.mem = s.mem := by
  simp [State.bootComponent]

@[simp] theorem State.enterRecovery_mem (s : State) (cause : Nat) :
    (State.enterRecovery s cause).mem = s.mem := by
  simp [State.enterRecovery]

@[simp] theorem State.applyOverride_mem (s : State) :
    (State.applyOverride s).mem = s.mem := by
  simp [State.applyOverride]

@[simp] theorem State.evalCompat_mem (s : State) :
    (State.evalCompat s).mem = s.mem := by
  simp [State.evalCompat]

@[simp] theorem State.loadCal_mem (s : State) :
    (State.loadCal s).mem = s.mem := by
  simp [State.loadCal, foldl_mem]

@[simp] theorem State.ledgerAfterAux_mem (s : State) :
    (State.ledgerAfterAux s).mem = s.mem := by
  simp [State.ledgerAfterAux]

@[simp] theorem State.checkRetention_mem (s : State) :
    (State.checkRetention s).mem = s.mem := by
  simp [State.checkRetention]

@[simp] theorem State.restartTime_mem (s : State) :
    (State.restartTime s).mem = s.mem := by
  simp [State.restartTime]

@[simp] theorem State.settleRetention_mem (s : State) :
    (State.settleRetention s).mem = s.mem := by
  simp [State.settleRetention]

@[simp] theorem State.bootFirmware_mem (s : State) (saf : Bool) :
    (State.bootFirmware s saf).mem = s.mem := by
  unfold State.bootFirmware; (repeat' split) <;> simp [*]

@[simp] theorem State.bootTime_mem (s : State) :
    (State.bootTime s).mem = s.mem := by
  simp [State.bootTime]

@[simp] theorem State.bootNow_mem (s : State) :
    (State.bootNow s).mem = s.mem := by
  simp [State.bootNow]

@[simp] theorem State.cleared_wf (s : State) (cold : Bool) (hs : Memory.wf s.mem = true) :
    Memory.wf (State.cleared s cold).mem = true := by
  unfold State.cleared
  exact (by decide : Memory.wf ({} : Mem) = true)

@[simp] theorem State.announceReset_mem (s : State) (cold : Bool) (cause : String) (source : Nat) :
    (State.announceReset s cold cause source).mem = s.mem := by
  unfold State.announceReset; simp only []; (repeat' split) <;> simp_all

@[simp] theorem State.startReset_wf (s : State) (cold : Bool) (cause : String) (source : Nat) (force : Bool) (hs : Memory.wf s.mem = true) :
    Memory.wf (State.startReset s cold cause source force).mem = true := by
  unfold State.startReset; (repeat' split) <;> simp [*]

@[simp] theorem State.takeFwAction_mem (s : State) (a : FwAction) (comp : Fin 4) :
    (State.takeFwAction s a comp).mem = s.mem := by
  simp [State.takeFwAction]

@[simp] theorem State.askMark_mem (s : State) (f : Part) (w : U32) :
    (State.askMark s f w).mem = s.mem := by
  simp [State.askMark]

@[simp] theorem State.askCommit_mem (s : State) (f : Part) (w : U32) :
    (State.askCommit s f w).mem = s.mem := by
  simp [State.askCommit]

@[simp] theorem State.askCancel_mem (s : State) (f : Part) (w : U32) :
    (State.askCancel s f w).mem = s.mem := by
  simp [State.askCancel]

@[simp] theorem State.askBurn_mem (s : State) (f : Part) (w : U32) :
    (State.askBurn s f w).mem = s.mem := by
  simp [State.askBurn]

@[simp] theorem State.endMarkTrial_mem (s : State) (c : Fin 4) :
    (State.endMarkTrial s c).mem = s.mem := by
  simp [State.endMarkTrial]

@[simp] theorem State.endCommit_mem (s : State) (c : Fin 4) :
    (State.endCommit s c).mem = s.mem := by
  simp [State.endCommit]

@[simp] theorem State.endCancelTrial_mem (s : State) (c : Fin 4) :
    (State.endCancelTrial s c).mem = s.mem := by
  simp [State.endCancelTrial]

@[simp] theorem State.endBurn_mem (s : State) (c : Fin 4) :
    (State.endBurn s c).mem = s.mem := by
  unfold State.endBurn; simp only []; (repeat' split) <;> simp_all

@[simp] theorem State.recFail_mem (s : State) (result : BitVec 4) :
    (State.recFail s result).mem = s.mem := by
  simp [State.recFail]

@[simp] theorem State.askBegin_mem (s : State) (f : Part) (w : U32) :
    (State.askBegin s f w).mem = s.mem := by
  simp [State.askBegin]

@[simp] theorem State.askRun_mem (s : State) (f : Part) (w : U32) :
    (State.askRun s f w).mem = s.mem := by
  simp [State.askRun]

@[simp] theorem State.askProgram_mem (s : State) (f : Part) (w : U32) :
    (State.askProgram s f w).mem = s.mem := by
  simp [State.askProgram]

@[simp] theorem State.fillWindow_mem (s : State) (f : Part) (off : Nat) (size : Nat) (v : U64) :
    (State.fillWindow s f off size v).mem = s.mem := by
  simp [State.fillWindow]

@[simp] theorem State.setCore_mem (s : State) (c : Nat) (x : Core) :
    (State.setCore s c x).mem = s.mem := by
  simp [State.setCore]

@[simp] theorem State.mapCores_mem (s : State) (g : Core → Core) :
    (State.mapCores s g).mem = s.mem := by
  simp [State.mapCores]

@[simp] theorem State.resetCasks_mem (s : State) (route : Nat) :
    (State.resetCasks s route).mem = s.mem := by
  simp [State.resetCasks]

@[simp] theorem State.freshVecs_mem (s : State) (c : Nat) :
    (State.freshVecs s c).mem = s.mem := by
  simp [State.freshVecs]

@[simp] theorem State.install_mem (s : State) (c : Nat) (t : Task) :
    (State.install s c t).mem = s.mem := by
  simp [State.install]

@[simp] theorem State.loadCode_mem (s : State) (c : Nat) (t : Task) (blob : Nat) :
    (State.loadCode s c t blob).mem = s.mem := by
  simp [State.loadCode]

@[simp] theorem State.nextTask_mem (s : State) (c : Nat) :
    (State.nextTask s c).mem = s.mem := by
  unfold State.nextTask; simp only []; (repeat' split) <;> simp_all

@[simp] theorem State.endTask_mem (s : State) (c : Nat) :
    (State.endTask s c).mem = s.mem := by
  unfold State.endTask; simp only []; (repeat' split) <;> simp_all

@[simp] theorem State.finish_mem (s : State) (c : Nat) (x : Core) :
    (State.finish s c x).mem = s.mem := by
  simp [State.finish]

@[simp] theorem State.takePreemption_mem (s : State) (c : Nat) :
    (State.takePreemption s c).mem = s.mem := by
  unfold State.takePreemption; simp only []; (repeat' split) <;> simp_all

@[simp] theorem State.settleWait_mem (s : State) (c : Nat) :
    (State.settleWait s c).mem = s.mem := by
  unfold State.settleWait; simp only []; (repeat' split) <;> simp_all

@[simp] theorem State.settleWaits_mem (s : State) :
    (State.settleWaits s).mem = s.mem := by
  simp [State.settleWaits, foldl_mem]

@[simp] theorem State.startTask_mem (s : State) (c : Nat) (t : Task) (blob : Nat) :
    (State.startTask s c t blob).mem = s.mem := by
  simp [State.startTask]

@[simp] theorem State.settleSwap_mem (s : State) (route : Nat) :
    (State.settleSwap s route).mem = s.mem := by
  simp [State.settleSwap]

@[simp] theorem State.endApply_mem (s : State) (slot : Nat) :
    (State.endApply s slot).mem = s.mem := by
  unfold State.endApply; simp only []; (repeat' split) <;> simp_all

@[simp] theorem State.releaseHeld_mem (s : State) (route : Nat) :
    (State.releaseHeld s route).mem = s.mem := by
  simp [State.releaseHeld]

@[simp] theorem State.setRoute_mem (s : State) (r : Nat) (x : Route) :
    (State.setRoute s r x).mem = s.mem := by
  simp [State.setRoute]

@[simp] theorem State.gapTimer_mem (s : State) (r : Nat) (st : RouteSt) :
    (State.gapTimer s r st).mem = s.mem := by
  simp [State.gapTimer]

@[simp] theorem State.setRouteSt_mem (s : State) (r : Nat) (st : RouteSt) :
    (State.setRouteSt s r st).mem = s.mem := by
  simp [State.setRouteSt]

@[simp] theorem State.mapFrame_mem (s : State) (r : Nat) (id : Nat) (g : Frame → Frame) :
    (State.mapFrame s r id g).mem = s.mem := by
  simp [State.mapFrame]

@[simp] theorem State.noteStale_mem (s : State) (r : Nat) (cause : Nat) :
    (State.noteStale s r cause).mem = s.mem := by
  simp [State.noteStale]

@[simp] theorem State.published_mem (s : State) (t : Struct) (r : Nat) (typ : Nat) (addr : Nat) (len : Nat) (exposure : Nat) :
    (State.published s t r typ addr len exposure).mem = s.mem := by
  simp [State.published]

@[simp] theorem State.frameDone_wf (s : State) (r : Nat) (f : Frame) (status : Nat) (reason : Nat) (hs : Memory.wf s.mem = true) :
    Memory.wf (State.frameDone s r f status reason).mem = true := by
  unfold State.frameDone; simp only []; (repeat' split) <;> simp_all [foldl_wf]

@[simp] theorem State.checkDeadline_mem (s : State) (r : Nat) (f : Frame) :
    (State.checkDeadline s r f).mem = s.mem := by
  simp [State.checkDeadline]

@[simp] theorem State.epochCut_mem (s : State) (r : Nat) (f : Frame) (valid : Bool) :
    (State.epochCut s r f valid).mem = s.mem := by
  simp [State.epochCut]

@[simp] theorem State.retire_wf (s : State) (r : Nat) (id : Nat) (hs : Memory.wf s.mem = true) :
    Memory.wf (State.retire s r id).mem = true := by
  unfold State.retire; (repeat' split) <;> simp [*]

@[simp] theorem State.fixAll_mem (s : State) (l : List (Nat × Nat × Nat)) (status : Nat) (detail : Nat) (source : Nat) :
    (State.fixAll s l status detail source).mem = s.mem := by
  simp [State.fixAll, foldl_mem]

@[simp] theorem State.stopApply_mem (s : State) (r : Nat) (status : Nat) (detail : Nat) :
    (State.stopApply s r status detail).mem = s.mem := by
  simp [State.stopApply, foldl_mem]

@[simp] theorem State.finishStop_mem (s : State) (r : Nat) :
    (State.finishStop s r).mem = s.mem := by
  simp [State.finishStop]

@[simp] theorem State.retireAborted_wf (s : State) (r n : Nat) (hs : Memory.wf s.mem = true) :
    Memory.wf (s.retireAborted r n).mem = true := by
  induction n generalizing s with
  | zero => exact hs
  | succ n ih =>
    unfold State.retireAborted
    (repeat' split)
    · exact ih _ (State.retire_wf _ _ _ hs)
    · exact hs
    · exact hs

@[simp] theorem State.drainRoute_wf (s : State) (r : Nat) (hs : Memory.wf s.mem = true) :
    Memory.wf (State.drainRoute s r).mem = true := by
  have h : Memory.wf ((((s.route r).frames.filter fun f => f.abandoned.isSome && f.idle).foldl (fun s f =>
      let x := s.route r
      (s.setRoute r { x with frames := x.frames.filter (·.id ≠ f.id) }).frameDone r f 0x40 (f.abandoned.getD 0)) s).retireAborted r
      64).mem = true :=
    State.retireAborted_wf _ _ _ (foldl_wf _ (fun s x h => by simp [h]) _ _ hs)
  unfold State.drainRoute
  simp only []
  split
  · rw [State.finishStop_mem]; exact h
  · exact h

@[simp] theorem State.mapTasks_mem (s : State) (p : Task → Bool) (g : Task → Task) :
    (State.mapTasks s p g).mem = s.mem := by
  simp [State.mapTasks]

@[simp] theorem State.stopTasks_mem (s : State) (p : Task → Bool) :
    (State.stopTasks s p).mem = s.mem := by
  simp [State.stopTasks]

@[simp] theorem State.mapJobs_mem (s : State) (g : Nat → StageJob → StageJob) :
    (State.mapJobs s g).mem = s.mem := by
  simp [State.mapJobs]

@[simp] theorem State.abandon_wf (s : State) (r : Nat) (id : Nat) (reason : Nat) (missing : Nat) (hs : Memory.wf s.mem = true) :
    Memory.wf (State.abandon s r id reason missing).mem = true := by
  simp [State.abandon, hs]

@[simp] theorem State.noteLevel_mem (s : State) (level : BitVec 3) :
    (State.noteLevel s level).mem = s.mem := by
  simp [State.noteLevel]

@[simp] theorem State.forceStop_wf (s : State) (r : Nat) (hs : Memory.wf s.mem = true) :
    Memory.wf (State.forceStop s r).mem = true := by
  unfold State.forceStop; simp only []; (repeat' split) <;> simp_all

@[simp] theorem State.boundaryStop_wf (s : State) (r : Nat) (hs : Memory.wf s.mem = true) :
    Memory.wf (State.boundaryStop s r).mem = true := by
  unfold State.boundaryStop; simp only []; (repeat' split) <;> simp_all

@[simp] theorem State.faultRoute_wf (s : State) (r : Nat) (code : Nat) (hs : Memory.wf s.mem = true) :
    Memory.wf (State.faultRoute s r code).mem = true := by
  unfold State.faultRoute; simp only []; (repeat' split) <;> simp_all

@[simp] theorem State.refreshRoutes_wf (s : State) (hs : Memory.wf s.mem = true) :
    Memory.wf (State.refreshRoutes s).mem = true := by
  unfold State.refreshRoutes
  refine foldl_wf _ (fun s x h => ?_) _ _ hs
  simp only []
  (repeat' split) <;> simp [h]

@[simp] theorem State.epochAbandon_mem (s : State) (r : Nat) (id : Nat) :
    (State.epochAbandon s r id).mem = s.mem := by
  unfold State.epochAbandon; (repeat' split) <;> simp [*]

@[simp] theorem State.openWindow_mem (s : State) (r : Nat) :
    (State.openWindow s r).mem = s.mem := by
  simp [State.openWindow, foldl_mem]

@[simp] theorem State.boundary_wf (s : State) (r : Nat) (id : Nat) (start : Nat) (exposure : Nat) (hs : Memory.wf s.mem = true) :
    Memory.wf (State.boundary s r id start exposure).mem = true := by
  unfold State.boundary; simp only []; (repeat' split) <;> simp_all

@[simp] theorem State.associate_mem (s : State) (c : Nat) (id : Nat) (start : Nat) (exposure : Nat) :
    (State.associate s c id start exposure).mem = s.mem := by
  simp [State.associate, foldl_mem]

@[simp] theorem State.slotCycle_mem (s : State) (c : Nat) :
    (State.slotCycle s c).mem = s.mem := by
  unfold State.slotCycle; (repeat' split) <;> simp [*]

@[simp] theorem State.frameStartEvent_wf (s : State) (c : Nat) (id : Nat) (start : Nat) (exposure : Nat) (hs : Memory.wf s.mem = true) :
    Memory.wf (State.frameStartEvent s c id start exposure).mem = true := by
  unfold State.frameStartEvent
  simp only [State.slotCycle_mem]
  refine foldl_wf _ (fun s x h => ?_) _ _ (by simp [hs])
  split <;> simp [h]

@[simp] theorem State.chargeEngine_mem (s : State) (r : Nat) (m : NodeRun) :
    (State.chargeEngine s r m).mem = s.mem := by
  simp [State.chargeEngine]

@[simp] theorem State.startNode_mem (s : State) (r : Nat) (f : Frame) (c : Bytes) :
    (State.startNode s r f c).mem = s.mem := by
  simp [State.startNode]

@[simp] theorem State.dispatch_mem (s : State) (r : Nat) (id : Nat) (n : Nat) (trig : Nat) :
    (State.dispatch s r id n trig).mem = s.mem := by
  unfold State.dispatch; (repeat' split) <;> simp [*]

@[simp] theorem State.undefineCmd_wf (s : State) (f : Nat) (q : Nat) (c : Cmd) (hs : Memory.wf s.mem = true) :
    Memory.wf (State.undefineCmd s f q c).mem = true := by
  unfold State.undefineCmd; (repeat' split) <;> simp [*]

@[simp] theorem State.undefineCmds_wf (s : State) (f : Nat) (hs : Memory.wf s.mem = true) :
    Memory.wf (State.undefineCmds s f).mem = true := by
  unfold State.undefineCmds
  refine foldl_wf _ (fun s x h => foldl_wf _ (fun s x h => ?_) _ _ h) _ _ hs
  exact State.undefineCmd_wf _ _ _ _ h

@[simp] theorem State.dropWork_wf (s : State) (f : Nat) (hs : Memory.wf s.mem = true) :
    Memory.wf (State.dropWork s f).mem = true := by
  simp [State.dropWork, hs]

@[simp] theorem State.dropApplies_mem (s : State) (p : Nat → Bool) :
    (State.dropApplies s p).mem = s.mem := by
  unfold State.dropApplies
  refine foldl_mem _ (fun s x => ?_) _ _
  split
  · split <;> simp
  · rfl

@[simp] theorem State.partitionReset_wf (s : State) (f : Nat) (tdi : Tdi) (cause : String) (hs : Memory.wf s.mem = true) :
    Memory.wf (State.partitionReset s f tdi cause).mem = true := by
  unfold State.partitionReset
  split
  · exact hs
  · split
    · exact hs
    · split
      · exact hs
      · refine foldl_wf _ (fun s x h => ?_) _ _ ?_
        · split <;> simp [h]
        · simp [hs]

@[simp] theorem State.mapDst_mem (s : State) (d : Nat) (g : SwPort → SwPort) :
    (State.mapDst s d g).mem = s.mem := by
  simp [State.mapDst]

@[simp] theorem State.drainDst_mem (s : State) (d : Nat) :
    (State.drainDst s d).mem = s.mem := by
  simp [State.drainDst]

@[simp] theorem State.noteIrregular_mem (s : State) (c : Nat) (id : Nat) (long : Bool) (extra : Bool) :
    (State.noteIrregular s c id long extra).mem = s.mem := by
  simp [State.noteIrregular]

@[simp] theorem State.queueBeats_mem (s : State) (d : Nat) (l : List Beat) :
    (State.queueBeats s d l).mem = s.mem := by
  simp [State.queueBeats]

@[simp] theorem State.pipeLine_mem (s : State) (src : Nat) (ctx : Nat) (frame : Nat) (line : Nat) (plane : Nat) (b : Bytes) (poison : Bool) :
    (State.pipeLine s src ctx frame line plane b poison).mem = s.mem := by
  simp [State.pipeLine, foldl_mem]

@[simp] theorem State.closeBeat_mem (s : State) (src : Nat) (ctx : Nat) (frame : Nat) (pick : Nat → Bool) (data : Bytes) (poison : Bool) :
    (State.closeBeat s src ctx frame pick data poison).mem = s.mem := by
  simp [State.closeBeat, foldl_mem]

@[simp] theorem State.stageLine_mem (s : State) (src : Nat) (frameId : Nat) (ctx : Nat) (frame : Nat) (line : Nat) (plane : Nat) (b : Bytes) (poison : Bool) :
    (State.stageLine s src frameId ctx frame line plane b poison).mem = s.mem := by
  simp [State.stageLine, foldl_mem]

@[simp] theorem State.deliverBeat_mem (s : State) (d : Nat) :
    (State.deliverBeat s d).mem = s.mem := by
  unfold State.deliverBeat; simp only []; (repeat' split) <;> simp_all

@[simp] theorem State.mapStage_mem (s : State) (i : Nat) (g : Stage → Stage) :
    (State.mapStage s i g).mem = s.mem := by
  simp [State.mapStage]

@[simp] theorem State.mapJob_mem (s : State) (i : Nat) (g : StageJob → StageJob) :
    (State.mapJob s i g).mem = s.mem := by
  simp [State.mapJob]

@[simp] theorem State.layRecord_wf (s : State) (i : Nat) (j : StageJob) (a : Nat) (r : RecInfo) (desc : Bytes) (body : Payload) (hs : Memory.wf s.mem = true) :
    Memory.wf (State.layRecord s i j a r desc body).mem = true := by
  simp [State.layRecord, hs]

@[simp] theorem State.notePoisoned_mem (s : State) (i : Nat) (poison : Bool) (discard : Bool) :
    (State.notePoisoned s i poison discard).mem = s.mem := by
  simp [State.notePoisoned]

@[simp] theorem State.putRecord_wf (s : State) (i : Nat) (j : StageJob) (o : Nat) (src : Nat) (off : Nat) (r : RecInfo) (desc : Bytes) (body : Payload) (hs : Memory.wf s.mem = true) :
    Memory.wf (State.putRecord s i j o src off r desc body).mem = true := by
  unfold State.putRecord; (repeat' split) <;> simp [*]

@[simp] theorem State.jobDone_mem (s : State) (i : Nat) :
    (State.jobDone s i).mem = s.mem := by
  simp [State.jobDone]

@[simp] theorem State.sendLines_mem (s : State) (i : Nat) (src : Nat) (ctx : Nat) (key : Nat) (plane : Nat) (lines : List (Bytes × Bool)) :
    (State.sendLines s i src ctx key plane lines).mem = s.mem := by
  unfold State.sendLines; (repeat' split) <;> simp [*, foldl_mem]

@[simp] theorem State.advancePyr_wf (s : State) (c : Nat) (hs : Memory.wf s.mem = true) :
    Memory.wf (State.advancePyr s c).mem = true := by
  unfold State.advancePyr
  split
  · exact hs
  · simp only []
    split
    · split
      · rw [State.jobDone_mem, State.mapJob_mem]
        exact foldl_wf _ (fun s n h => by simp [h]) _ _ (foldl_wf _ (fun s n h => foldl_wf _ (fun s k h => by simp [h]) _ _ h) _ _ hs)
      · rw [State.mapJob_mem]
        exact foldl_wf _ (fun s n h => by simp [h]) _ _ (foldl_wf _ (fun s n h => foldl_wf _ (fun s k h => by simp [h]) _ _ h) _ _ hs)
    · exact foldl_wf _ (fun s n h => foldl_wf _ (fun s k h => by simp [h]) _ _ h) _ _ hs

@[simp] theorem State.advanceWrp_wf (s : State) (i : Nat) (c : Nat) (hs : Memory.wf s.mem = true) :
    Memory.wf (State.advanceWrp s i c).mem = true := by
  unfold State.advanceWrp; simp only []; (repeat' split) <;> simp_all

@[simp] theorem State.storeLine_wf (s : State) (part : Nat) (a : Nat) (w : Nat) (y : Nat) (l : List Int) (hs : Memory.wf s.mem = true) :
    Memory.wf (State.storeLine s part a w y l).mem = true := by
  simp [State.storeLine, hs]

@[simp] theorem State.mapMash_mem (s : State) (r : Nat) (g : Mash → Mash) :
    (State.mapMash s r g).mem = s.mem := by
  simp [State.mapMash]

@[simp] theorem State.offerTiles_mem (s : State) (i : Nat) (j : StageJob) (l : List (Nat × (Nat × Nat) × Bool)) :
    (State.offerTiles s i j l).mem = s.mem := by
  simp [State.offerTiles]

@[simp] theorem State.offerRows_mem (s : State) (i : Nat) (rows : List (List Px)) :
    (State.offerRows s i rows).mem = s.mem := by
  unfold State.offerRows; (repeat' split) <;> simp [*]

@[simp] theorem State.sendDense_mem (s : State) (i : Nat) (c : Nat) (rows : List (List Px)) (h : Nat) :
    (State.sendDense s i c rows h).mem = s.mem := by
  simp [State.sendDense]

@[simp] theorem State.floStore__wf (s : State) (i : Nat) (j : StageJob) (hs : Memory.wf s.mem = true) :
    Memory.wf (State.floStore_ s i j).mem = true := by
  unfold State.floStore_
  simp only []
  split
  · exact foldl_wf _ (fun s k h => foldl_wf _ (fun s x h => State.storeLine_wf _ _ _ _ _ _ h) _ _ h) _ _
      (foldl_wf _ (fun s k h => foldl_wf _ (fun s x h => State.storeLine_wf _ _ _ _ _ _ h) _ _ h) _ _ hs)
  · exact foldl_wf _ (fun s k h => foldl_wf _ (fun s x h => State.storeLine_wf _ _ _ _ _ _ h) _ _ h) _ _ hs

@[simp] theorem State.advanceDense_wf (s : State) (i : Nat) (hs : Memory.wf s.mem = true) :
    Memory.wf (State.advanceDense s i).mem = true := by
  unfold State.advanceDense; simp only []; (repeat' split) <;> simp_all

@[simp] theorem State.advanceTrk_wf (s : State) (hs : Memory.wf s.mem = true) :
    Memory.wf (State.advanceTrk s).mem = true := by
  unfold State.advanceTrk
  split
  · exact hs
  · simp only []
    split
    · exact hs
    · rw [State.mapJob_mem]
      refine foldlPair_wf _ (fun a x h => ?_) _ _ hs
      exact iteWf (by simp [h]) (State.layRecord_wf _ _ _ _ _ _ _ (by simp [h]))

@[simp] theorem State.advance_wf (s : State) (i : Nat) (c : Nat) (hs : Memory.wf s.mem = true) :
    Memory.wf (State.advance s i c).mem = true := by
  unfold State.advance; (repeat' split) <;> simp [*]

@[simp] theorem State.putLine_wf (s : State) (i : Nat) (port : Nat) (j : StageJob) (c : Nat) (id : Nat) (level : Nat) (data : Bytes) (poison : Bool) (hs : Memory.wf s.mem = true) :
    Memory.wf (State.putLine s i port j c id level data poison).mem = true := by
  unfold State.putLine; simp only []; (repeat' split) <;> simp_all

@[simp] theorem State.closeInput_mem (s : State) (i : Nat) (port : Nat) (j : StageJob) (c : Nat) :
    (State.closeInput s i port j c).mem = s.mem := by
  simp [State.closeInput]

@[simp] theorem State.putDense_wf (s : State) (i : Nat) (j : StageJob) (hs : Memory.wf s.mem = true) :
    Memory.wf (State.putDense s i j).mem = true := by
  simp [State.putDense, hs]

@[simp] theorem State.offerCells_mem (s : State) (j : StageJob) (m : Nat) :
    (State.offerCells s j m).mem = s.mem := by
  simp [State.offerCells]

@[simp] theorem State.offerMatches_mem (s : State) :
    (State.offerMatches s).mem = s.mem := by
  unfold State.offerMatches; (repeat' split) <;> simp [*]

@[simp] theorem State.putMatches_wf (s : State) (j : StageJob) (hs : Memory.wf s.mem = true) :
    Memory.wf (State.putMatches s j).mem = true := by
  simp [State.putMatches, hs]

@[simp] theorem State.endDense_mem (s : State) (i : Nat) (j : StageJob) :
    (State.endDense s i j).mem = s.mem := by
  simp [State.endDense]

@[simp] theorem State.refit_mem (s : State) :
    (State.refit s).mem = s.mem := by
  simp [State.refit]

@[simp] theorem State.setLoop_mem (s : State) (l : LoopSt) :
    (State.setLoop s l).mem = s.mem := by
  simp [State.setLoop]

@[simp] theorem State.enterHold_mem (s : State) :
    (State.enterHold s).mem = s.mem := by
  simp [State.enterHold]

@[simp] theorem State.stepGtc_mem (s : State) (d : Int) :
    (State.stepGtc s d).mem = s.mem := by
  simp [State.stepGtc]

@[simp] theorem State.mapInput_mem (s : State) (i : Nat) (g : TmgIn → TmgIn) :
    (State.mapInput s i g).mem = s.mem := by
  simp [State.mapInput]

@[simp] theorem State.stepToInput_mem (s : State) (i : Nat) (e : Int) :
    (State.stepToInput s i e).mem = s.mem := by
  simp [State.stepToInput]

@[simp] theorem State.reselect_mem (s : State) :
    (State.reselect s).mem = s.mem := by
  unfold State.reselect; simp only []; (repeat' split) <;> simp_all

@[simp] theorem State.failInput_mem (s : State) (i : Nat) (code : Nat) :
    (State.failInput s i code).mem = s.mem := by
  simp [State.failInput]

@[simp] theorem State.makeAvailable_mem (s : State) (i : Nat) :
    (State.makeAvailable s i).mem = s.mem := by
  simp [State.makeAvailable]

@[simp] theorem State.judgeLock_mem (s : State) (e : Int) :
    (State.judgeLock s e).mem = s.mem := by
  simp [State.judgeLock]

@[simp] theorem State.stepOnMeasure_mem (s : State) (i : Nat) (e : Int) : (s.stepOnMeasure i e).1.mem = s.mem := by
  unfold State.stepOnMeasure; simp only []; (repeat' split) <;> simp

@[simp] theorem State.loopMeasure_mem (s : State) (i : Nat) (e : Int) :
    (State.loopMeasure s i e).mem = s.mem := by
  simp [State.loopMeasure]

@[simp] theorem State.measure_mem (s : State) (i : Nat) (e : Int) (freq : Int) (jump : Bool) (domainOk : Bool) :
    (State.measure s i e freq jump domainOk).mem = s.mem := by
  simp [State.measure]

@[simp] theorem State.failLanicy_mem (s : State) :
    (State.failLanicy s).mem = s.mem := by
  simp [State.failLanicy, foldl_mem]

@[simp] theorem State.setBackupActs_mem (s : State) (v : Bool) :
    (State.setBackupActs s v).mem = s.mem := by
  simp [State.setBackupActs]

@[simp] theorem State.hearTime_mem (s : State) (port : Nat) (m : TimeMsg) :
    (State.hearTime s port m).mem = s.mem := by
  simp [State.hearTime]

@[simp] theorem State.mapOutput_mem (s : State) (o : Nat) (g : TmgOut → TmgOut) :
    (State.mapOutput s o g).mem = s.mem := by
  simp [State.mapOutput]

@[simp] theorem State.endFreqPulse_mem (s : State) :
    (State.endFreqPulse s).mem = s.mem := by
  simp [State.endFreqPulse]

@[simp] theorem State.tmgCycle_mem (s : State) :
    (State.tmgCycle s).mem = s.mem := by
  simp [State.tmgCycle]

@[simp] theorem State.measureVin_mem (s : State) :
    (State.measureVin s).mem = s.mem := by
  simp [State.measureVin]

@[simp] theorem State.endVerify_mem (s : State) :
    (State.endVerify s).mem = s.mem := by
  unfold State.endVerify; (repeat' split) <;> simp [*]

@[simp] theorem State.runMessages_wf (s : State) (hs : Memory.wf s.mem = true) :
    Memory.wf (State.runMessages s).mem = true := by
  unfold State.runMessages
  refine foldl_wf _ (fun s x h => ?_) _ _ hs
  exact State.runMessage_wf _ _ h

@[simp] theorem State.resumeTasks_mem (s : State) :
    (State.resumeTasks s).mem = s.mem := by
  simp [State.resumeTasks, foldl_mem]

@[simp] theorem State.tick_wf (s : State) (hs : Memory.wf s.mem = true) :
    Memory.wf (State.tick s).mem = true := by
  simp [State.tick, hs]

@[simp] theorem State.mapCtx_mem (s : State) (c : Nat) (g : Ctx → Ctx) :
    (State.mapCtx s c g).mem = s.mem := by
  simp [State.mapCtx]

@[simp] theorem State.mapCam_mem (s : State) (p : Nat) (g : Port → Port) :
    (State.mapCam s p g).mem = s.mem := by
  simp [State.mapCam]

@[simp] theorem State.badHeader_mem (s : State) (port : Nat) :
    (State.badHeader s port).mem = s.mem := by
  simp [State.badHeader]

@[simp] theorem State.active_mem (s : State) (port : Nat) :
    (State.active s port).mem = s.mem := by
  simp [State.active]

@[simp] theorem State.emitLine_mem (s : State) (c pipe : Nat) (g : CtxFrame) (y : Nat) : (s.emitLine c pipe g y).1.mem = s.mem := by
  unfold State.emitLine
  refine foldlPair_mem _ (fun a x => ?_) _ _
  dsimp only
  split <;> simp

@[simp] theorem State.emitChroma_mem (s : State) (c : Nat) (pipe : Nat) (f : CtxFrame) :
    (State.emitChroma s c pipe f).mem = s.mem := by
  simp [State.emitChroma, foldl_mem]

@[simp] theorem State.emitFrame_mem (s : State) (c : Nat) (id : Nat) :
    (State.emitFrame s c id).mem = s.mem := by
  unfold State.emitFrame; (repeat' split) <;> simp [*, foldl_mem, foldlPair_mem]

@[simp] theorem State.closeFrame_mem (s : State) (c : Nat) (short : Bool) :
    (State.closeFrame s c short).mem = s.mem := by
  unfold State.closeFrame; (repeat' split) <;> simp [*]

@[simp] theorem State.startCtx_wf (s : State) (c : Nat) (hs : Memory.wf s.mem = true) :
    Memory.wf (State.startCtx s c).mem = true := by
  simp [State.startCtx, hs]

@[simp] theorem State.noteBacklog_mem (s : State) (pipe : Nat) :
    (State.noteBacklog s pipe).mem = s.mem := by
  simp [State.noteBacklog]

@[simp] theorem State.takeLinePacket_mem (s : State) (port : Nat) (c : Nat) (dt : Nat) (pixels : List Nat) (bad : Bool) :
    (State.takeLinePacket s port c dt pixels bad).mem = s.mem := by
  unfold State.takeLinePacket; (repeat' split) <;> simp [*]

@[simp] theorem State.mapScb_mem (s : State) (k : Nat) (g : Scb → Scb) :
    (State.mapScb s k g).mem = s.mem := by
  simp [State.mapScb]

@[simp] theorem State.scbCtl_mem (s : State) (f : Part) (k : Nat) (w : U32) :
    (State.scbCtl s f k w).mem = s.mem := by
  simp [State.scbCtl]

@[simp] theorem State.scbPush_mem (s : State) (f : Part) (k : Nat) (v : Byte) :
    (State.scbPush s f k v).mem = s.mem := by
  simp [State.scbPush]

@[simp] theorem State.scbPop_mem (s : State) (b : Nat) : (s.scbPop b).1.mem = s.mem := by
  unfold State.scbPop; split <;> simp

@[simp] theorem State.enforcePins_mem (s : State) (old : Struct) :
    (State.enforcePins s old).mem = s.mem := by
  simp [State.enforcePins]

@[simp] theorem State.enforceBoard_wf (s : State) (hs : Memory.wf s.mem = true) :
    Memory.wf (State.enforceBoard s).mem = true := by
  unfold State.enforceBoard
  simp only []
  split
  · exact hs
  · exact wf_pinned _ _ _ hs ((Memory.wf_poison _ hs).filter _)

@[simp] theorem State.enforceInputs_mem (s : State) :
    (State.enforceInputs s).mem = s.mem := by
  simp [State.enforceInputs]

@[simp] theorem State.enforceRoles_mem (s : State) (old : Struct) :
    (State.enforceRoles s old).mem = s.mem := by
  simp [State.enforceRoles]

@[simp] theorem State.enforceOutputs_mem (s : State) (old : Struct) :
    (State.enforceOutputs s old).mem = s.mem := by
  simp [State.enforceOutputs]

@[simp] theorem State.refreshVfs_mem (s : State) :
    (State.refreshVfs s).mem = s.mem := by
  simp [State.refreshVfs]

@[simp] theorem State.enforceParts_wf (s : State) (old : Struct) (hs : Memory.wf s.mem = true) :
    Memory.wf (State.enforceParts s old).mem = true := by
  refine (congrArg Memory.wf (State.refreshVfs_mem _)).trans ?_
  exact foldl_wf _ (fun s p h => iteWf (State.partitionReset_wf _ _ _ _ h) h) _ _ hs

@[simp] theorem State.enforceRegions_wf (s : State) (old : Struct) (hs : Memory.wf s.mem = true) :
    Memory.wf (State.enforceRegions s old).mem = true := by
  unfold State.enforceRegions
  refine foldl_wf _ (fun s r h => ?_) _ _ (foldl_wf _ (fun s r h => ?_) _ _ hs)
  · refine foldl_wf _ (fun s l h => ?_) _ _ h
    split
    · split <;> simp [h]
    · exact h
  · exact wf_forget s.mem _ _ h

@[simp] theorem State.enforceExports_wf (s : State) (old : Struct) (hs : Memory.wf s.mem = true) :
    Memory.wf (State.enforceExports s old).mem = true := by
  unfold State.enforceExports; simp only []; (repeat' split) <;> simp_all [foldl_wf]

@[simp] theorem State.enforceLinks_mem (s : State) (old : Struct) :
    (State.enforceLinks s old).mem = s.mem := by
  simp [State.enforceLinks, foldl_mem]

@[simp] theorem State.enforceCamera_mem (s : State) (old : Struct) :
    (State.enforceCamera s old).mem = s.mem := by
  simp [State.enforceCamera]

@[simp] theorem State.enforceStreams_mem (s : State) (old : Struct) :
    (State.enforceStreams s old).mem = s.mem := by
  simp [State.enforceStreams]

@[simp] theorem State.enforceStages_mem (s : State) :
    (State.enforceStages s).mem = s.mem := by
  simp [State.enforceStages]

@[simp] theorem State.enforceSafety_mem (s : State) (core : Option Bytes) :
    (State.enforceSafety s core).mem = s.mem := by
  unfold State.enforceSafety; (repeat' split) <;> simp [*]

@[simp] theorem State.enforce_wf (s : State) (old : Struct) (core : Option Bytes) (hs : Memory.wf s.mem = true) :
    Memory.wf (State.enforce s old core).mem = true := by
  have h1 : Memory.wf ((s.enforceBoard.enforcePins old).enforceInputs.enforceRoles old).mem = true := by simp [hs]
  have h2 := State.enforceRegions_wf (((s.enforceBoard.enforcePins old).enforceInputs.enforceRoles old).enforceOutputs old) old
    (by rw [State.enforceOutputs_mem]; exact h1)
  refine State.refreshRoutes_wf _ (State.enforceExports_wf _ _ ?_)
  rw [State.enforceLinks_mem]
  refine State.enforceParts_wf _ _ ?_
  rw [State.enforceSafety_mem, State.enforceStages_mem, State.enforceCamera_mem, State.enforceStreams_mem]
  exact h2

@[simp] theorem State.mapSlot_mem (s : State) (n : Nat) (g : ImgSlot → ImgSlot) :
    (State.mapSlot s n g).mem = s.mem := by
  simp [State.mapSlot]

@[simp] theorem State.applySlot_wf (s : State) (n : Nat) (hs : Memory.wf s.mem = true) :
    Memory.wf (State.applySlot s n).mem = true := by
  unfold State.applySlot; (repeat' split) <;> simp [*]

@[simp] theorem State.rejectApply_mem (s : State) (n : Nat) (a : Apply) (status : Nat) (detail : Nat) :
    (State.rejectApply s n a status detail).mem = s.mem := by
  simp [State.rejectApply]

@[simp] theorem State.swapFrame_wf (s : State) (r : Nat) (n : Nat) (a : Apply) (hs : Memory.wf s.mem = true) :
    Memory.wf (State.swapFrame s r n a).mem = true := by
  simp [State.swapFrame, hs]

@[simp] theorem State.missFrame_mem (s : State) (r : Nat) (n : Nat) (a : Apply) :
    (State.missFrame s r n a).mem = s.mem := by
  simp [State.missFrame]

@[simp] theorem State.unpowered_wf (s : State) (hs : Memory.wf s.mem = true) :
    Memory.wf (State.unpowered s).mem = true := by
  simp [State.unpowered, hs]

@[simp] theorem State.dropMain_wf (s : State) (vin : Bool) (hs : Memory.wf s.mem = true) :
    Memory.wf (State.dropMain s vin).mem = true := by
  unfold State.dropMain
  exact (by decide : Memory.wf ({} : Mem) = true)

@[simp] theorem State.askWarm_wf (s : State) (f : Part) (w : U32) (hs : Memory.wf s.mem = true) :
    Memory.wf (State.askWarm s f w).mem = true := by
  unfold State.askWarm; (repeat' split) <;> simp [*]

@[simp] theorem State.askCold_wf (s : State) (f : Part) (w : U32) (hs : Memory.wf s.mem = true) :
    Memory.wf (State.askCold s f w).mem = true := by
  unfold State.askCold; (repeat' split) <;> simp [*]

@[simp] theorem State.checkerFails_mem (s : State) (c : Nat × Nat) (g : Nat) :
    (State.checkerFails s c g).mem = s.mem := by
  simp [State.checkerFails]

@[simp] theorem State.pairWrite_mem (s : State) (f : Part) (w : U32) :
    (State.pairWrite s f w).mem = s.mem := by
  simp [State.pairWrite]

@[simp] theorem State.draw_mem (s : State) (n : Nat) : (s.draw n).2.mem = s.mem := by simp [State.draw]

@[simp] theorem State.dropBlobs_mem (s : State) (a : Nat) (n : Nat) :
    (State.dropBlobs s a n).mem = s.mem := by
  simp [State.dropBlobs]

@[simp] theorem State.failLoad_wf (s : State) (f : Nat) (q : Nat) (pos : Nat) (status : Nat) (detail : Nat) (c : Cmd) (payload : Nat) (hs : Memory.wf s.mem = true) :
    Memory.wf (State.failLoad s f q pos status detail c payload).mem = true := by
  simp [State.failLoad, hs]

@[simp] theorem State.openPackage_wf (s : State) (f : Nat) (q : Nat) (c : Cmd) (b : Bytes) (key : Bytes) (ep : Bool) (hs : Memory.wf s.mem = true) :
    Memory.wf (State.openPackage s f q c b key ep).mem = true := by
  unfold State.openPackage; simp only []; split
  · simp [hs]
  · split
    · simp [hs]
    · split <;> simp [hs]

@[simp] theorem State.tagChanged_mem (s : State) :
    (State.tagChanged s).mem = s.mem := by
  simp [State.tagChanged]

@[simp] theorem State.setSpdm_mem (s : State) (p : SpdmPort) (x : Spdm) :
    (State.setSpdm s p x).mem = s.mem := by
  unfold State.setSpdm; (repeat' split) <;> simp [*]

@[simp] theorem State.endConsent_mem (s : State) :
    (State.endConsent s).mem = s.mem := by
  unfold State.endConsent; (repeat' split) <;> simp [*]

@[simp] theorem State.clearRsq_mem (s : State) (off : Nat) :
    (State.clearRsq s off).mem = s.mem := by
  simp [State.clearRsq]

@[simp] theorem State.clearCin_mem (s : State) (off : Nat) :
    (State.clearCin s off).mem = s.mem := by
  simp [State.clearCin]

@[simp] theorem State.clearIsp_mem (s : State) (off : Nat) :
    (State.clearIsp s off).mem = s.mem := by
  simp [State.clearIsp]

@[simp] theorem State.clearStage_mem (s : State) (i : Nat) (r : Nat) :
    (State.clearStage s i r).mem = s.mem := by
  simp [State.clearStage]

@[simp] theorem State.clearMash_mem (s : State) (off : Nat) :
    (State.clearMash s off).mem = s.mem := by
  simp [State.clearMash]

@[simp] theorem State.clearNec_mem (s : State) (off : Nat) :
    (State.clearNec s off).mem = s.mem := by
  simp [State.clearNec]

@[simp] theorem State.clearMem_wf (s : State) (off : Nat) (hs : Memory.wf s.mem = true) :
    Memory.wf (State.clearMem s off).mem = true := by
  unfold State.clearMem
  simp only []
  (repeat' split) <;> first | exact hs | (rw [Memory.wf_mk, Memory.wf_fold]; exact hs) | simp [hs]

@[simp] theorem State.clearLnk_mem (s : State) (off : Nat) :
    (State.clearLnk s off).mem = s.mem := by
  simp [State.clearLnk]

@[simp] theorem State.clearTmg_mem (s : State) (off : Nat) :
    (State.clearTmg s off).mem = s.mem := by
  simp [State.clearTmg]

@[simp] theorem State.clearSaf_mem (s : State) (off : Nat) :
    (State.clearSaf s off).mem = s.mem := by
  simp [State.clearSaf]

@[simp] theorem State.clearMgt_mem (s : State) (off : Nat) :
    (State.clearMgt s off).mem = s.mem := by
  simp [State.clearMgt]

@[simp] theorem State.clearLog_mem (s : State) (off : Nat) :
    (State.clearLog s off).mem = s.mem := by
  simp [State.clearLog]

@[simp] theorem State.clearBlocks_wf (s : State) (off : Nat) (hs : Memory.wf s.mem = true) :
    Memory.wf (State.clearBlocks s off).mem = true := by
  unfold State.clearBlocks; simp only []; split
  any_goals simp [hs]
  split
  · simp [hs]
  · split
    · simp [hs]
    · split <;> simp [hs]

@[simp] theorem State.readEffect_wf (s : State) (f : Part) (bar : Bar) (off : Nat) (hs : Memory.wf s.mem = true) :
    Memory.wf (State.readEffect s f bar off).mem = true := by
  unfold State.readEffect; (repeat' split) <;> simp [*]

@[simp] theorem State.readBar_wf (s : State) (f : Part) (bar : Bar) (off : Nat) (size : Nat) (hs : Memory.wf s.mem = true) :
    Memory.wf (State.readBar s f bar off size).mem = true := by
  unfold State.readBar; (repeat' split) <;> simp [*]

@[simp] theorem State.debugServe_mem (s : State) (op : DebugOp) :
    (State.debugServe s op).mem = s.mem := by
  unfold State.debugServe; (repeat' split) <;> simp [*]

@[simp] theorem State.memCorrected_wf (s : State) (a : Nat) (hs : Memory.wf s.mem = true) :
    Memory.wf (State.memCorrected s a).mem = true := by
  unfold State.memCorrected
  rw [State.note_mem]
  exact hs

@[simp] theorem State.memUncorrectable_wf (s : State) (a : Nat) (hs : Memory.wf s.mem = true) :
    Memory.wf (State.memUncorrectable s a).mem = true := by
  unfold State.memUncorrectable
  simp only []
  split
  · rw [State.event_mem, State.note_mem]; exact hs
  · rw [State.note_mem]; exact hs

@[simp] theorem State.countFind_wf (s : State) (a : Nat) (e : EccFind) (hs : Memory.wf s.mem = true) :
    Memory.wf (s.countFind a e).mem = true := by
  cases e <;> simp [State.countFind, hs]

@[simp] theorem State.pairFill_mem (s : State) (a : Nat) :
    (State.pairFill s a).mem = s.mem := by
  simp [State.pairFill]

@[simp] theorem State.keepSeq_mem (s : State) (l : Log) :
    (State.keepSeq s l).mem = s.mem := by
  simp [State.keepSeq]

@[simp] theorem State.appendNext_mem (s : State) :
    (State.appendNext s).mem = s.mem := by
  unfold State.appendNext; (repeat' split) <;> simp [*]

@[simp] theorem State.norCopy_mem (s : State) (ok : Bool) :
    (State.norCopy s ok).mem = s.mem := by
  unfold State.norCopy; (repeat' split) <;> simp [*]

@[simp] theorem State.appendMany_mem (s : State) (n : Nat) : (State.appendMany s n).mem = s.mem := by
  induction n generalizing s with
  | zero => rfl
  | succ n ih => unfold State.appendMany; simp [ih]

@[simp] theorem State.copyMany_mem (s : State) (n : Nat) : (State.copyMany s n).mem = s.mem := by
  induction n generalizing s with
  | zero => rfl
  | succ n ih => unfold State.copyMany; simp [ih]

@[simp] theorem State.endInterval_mem (s : State) :
    (State.endInterval s).mem = s.mem := by
  simp [State.endInterval]

@[simp] theorem State.patrolUe_wf (s : State) (block : Nat) (a : Nat) (intervened : Bool) (hs : Memory.wf s.mem = true) :
    Memory.wf (State.patrolUe s block a intervened).mem = true := by
  unfold State.patrolUe
  simp only []
  split
  · rw [State.event_mem, State.note_mem]
    split
    · exact hs
    · exact wf_mark _ _ hs
  · rw [State.note_mem]
    split
    · exact hs
    · exact wf_mark _ _ hs

@[simp] theorem State.patrolBlock_wf (s : State) (block : Nat) (errs : List Bytes) (intervened : Bool) (hs : Memory.wf s.mem = true) :
    Memory.wf (State.patrolBlock s block errs intervened).mem = true := by
  unfold State.patrolBlock
  refine foldl_wf _ (fun s x h => ?_) _ _ hs
  simp only []
  (repeat' split) <;> simp [h]

@[simp] theorem State.defer_mem (s : State) (activity : Nat) :
    (State.defer s activity).mem = s.mem := by
  simp [State.defer]

@[simp] theorem State.setBg_mem (s : State) (f : Part) (w : U32) :
    (State.setBg s f w).mem = s.mem := by
  simp [State.setBg]

@[simp] theorem State.askSource_mem (s : State) (part : Nat) (board : Nat) (a : Nat) (n : Nat) (cmd : Option (Nat × Nat × Nat)) :
    (State.askSource s part board a n cmd).mem = s.mem := by
  simp [State.askSource, foldl_mem]

@[simp] theorem State.sendOwn_mem (s : State) (f : Nat) (q : Nat) (c : Cmd) :
    (State.sendOwn s f q c).mem = s.mem := by
  unfold State.sendOwn; simp only []; (repeat' split) <;> simp_all

@[simp] theorem State.startApply_mem (s : State) (f : Nat) (q : Nat) (c : Cmd) (point : ApplyPoint) :
    (State.startApply s f q c point).mem = s.mem := by
  unfold State.startApply; simp only []; (repeat' split) <;> simp_all

@[simp] theorem State.settleWindows_wf (s : State) (route : Nat) (hs : Memory.wf s.mem = true) :
    Memory.wf (State.settleWindows s route).mem = true := by
  unfold State.settleWindows
  simp only []
  refine foldl_wf _ (fun s x h => ?_) _ _ (foldl_wf _ (fun s x h => ?_) _ _ hs)
  · simp [h]
  · exact State.swapFrame_wf _ _ _ _ h

@[simp] theorem State.readmit_mem (s : State) (b : Nat) :
    (State.readmit s b).mem = s.mem := by
  simp [State.readmit]

@[simp] theorem State.returned_mem (s : State) (b : Nat) (tag : Bytes) :
    (State.returned s b tag).mem = s.mem := by
  simp [State.returned]

@[simp] theorem State.dropHomed_mem (s : State) (b : Nat) :
    (State.dropHomed s b).mem = s.mem := by
  simp [State.dropHomed, foldl_mem]

@[simp] theorem State.dropHolder_wf (s : State) (b : Nat) (hs : Memory.wf s.mem = true) :
    Memory.wf (State.dropHolder s b).mem = true := by
  unfold State.dropHolder
  refine foldl_wf _ (fun s x h => ?_) _ _ hs
  (repeat' split) <;> simp [h]

@[simp] theorem State.oweCredits_mem (s : State) (p : Nat) (m : Msg) (len : Nat) :
    (State.oweCredits s p m len).mem = s.mem := by
  simp [State.oweCredits]

@[simp] theorem State.relay_mem (s : State) (p n : Nat) (b : Bytes) : (State.relay p n s b).1.mem = s.mem := by
  induction n generalizing s b with
  | zero => rfl
  | succ n ih => unfold State.relay; simp only []; (repeat' split) <;> simp [ih]

@[simp] theorem State.replay_mem (s : State) (p : Nat) :
    (State.replay s p).mem = s.mem := by
  simp [State.replay]

@[simp] theorem State.restartMessage_mem (s : State) (dest : Nat) (f : Nat) (q : Nat) (c : Cmd) :
    (State.restartMessage s dest f q c).mem = s.mem := by
  simp [State.restartMessage]

@[simp] theorem State.taskFault_wf (s : State) (c : Nat) (cause : Nat) (ea : Option Nat) (hs : Memory.wf s.mem = true) :
    Memory.wf (State.taskFault s c cause ea).mem = true := by
  unfold State.taskFault; simp only []; (repeat' split) <;> simp_all

@[simp] theorem State.issue_wf (s : State) (c : Nat) (op : Nat) (w : U64) (fields : Nat) (act : Core → Task → State) (hs : Memory.wf s.mem = true) (h_act : ∀ x0 x1, Memory.wf (act x0 x1).mem = true) :
    Memory.wf (State.issue s c op w fields act).mem = true := by
  unfold State.issue; simp only []; (repeat' split) <;> simp_all

@[simp] theorem State.markFrame_mem (s : State) (own : Nat × Nat × Nat) (poisoned : Bool) (lost : Bool) :
    (State.markFrame s own poisoned lost).mem = s.mem := by
  simp [State.markFrame]

@[simp] theorem State.markOwner_mem (s : State) (c : Nat) (own : Nat × Nat × Nat) (b : Bool) :
    (State.markOwner s c own b).mem = s.mem := by
  simp [State.markOwner]

@[simp] theorem State.askPiece_wf (s : State) (c : Nat) (x : Xfer) (a n : Nat) (hs : Memory.wf s.mem = true) :
    Memory.wf (s.askPiece c x a n).1.mem = true := by
  unfold State.askPiece; simp only []; split <;> simp [hs, foldl_wf]

@[simp] theorem State.pieceRead_mem (s : State) (c : Nat) (x : Xfer) (host : Bool) (a : Nat) (n : Nat) (bad : List Nat) :
    (State.pieceRead s c x host a n bad).mem = s.mem := by
  simp [State.pieceRead, foldl_mem]

@[simp] theorem State.storePiece_wf (s : State) (part : Nat) (host : Bool) (a : Nat) (bs : Bytes) (bad : List Nat) (cmd : Option (Nat × Nat × Nat)) (hs : Memory.wf s.mem = true) :
    Memory.wf (State.storePiece s part host a bs bad cmd).mem = true := by
  unfold State.storePiece; (repeat' split) <;> simp [*, foldl_wf]

@[simp] theorem State.moveRows_wf (s : State) (c : Nat) (h : HostRead) (a n : Nat) (x : Xfer) (hs : Memory.wf s.mem = true) :
    Memory.wf (State.moveRows s c h a n x).1.mem = true := by
  induction n generalizing s x with
  | zero => exact hs
  | succ n ih => unfold State.moveRows; simp only []; (repeat' split) <;> simp [ih, hs]

@[simp] theorem State.moveCask_wf (s : State) (c : Nat) (h : HostRead) (a n : Nat) (x : Xfer) (hs : Memory.wf s.mem = true) :
    Memory.wf (State.moveCask s c h a n x).1.mem = true := by
  induction n generalizing s x with
  | zero => exact hs
  | succ n ih => unfold State.moveCask; simp only []; (repeat' split) <;> simp [ih, hs]

@[simp] theorem State.moveXfer_wf (s : State) (c : Nat) (h : HostRead) (n : Nat) (x : Xfer) (hs : Memory.wf s.mem = true) :
    Memory.wf (s.moveXfer c h n x).1.mem = true := by
  unfold State.moveXfer; split <;> simp [hs]

@[simp] theorem State.publishTask_wf (s : State) (c : Nat) (t : Task) (desc : Bytes) (hs : Memory.wf s.mem = true) :
    Memory.wf (State.publishTask s c t desc).mem = true := by
  unfold State.publishTask; (repeat' split) <;> simp [*]

@[simp] theorem State.releaseStall_wf (s : State) (c : Nat) (hs : Memory.wf s.mem = true) :
    Memory.wf (State.releaseStall s c).mem = true := by
  unfold State.releaseStall; simp only []; (repeat' split) <;> simp_all

@[simp] theorem State.caskOp_wf (s : State) (c : Nat) (w : U64) (ok : CaskCfg → Bool) (act : CaskCfg → State) (hs : Memory.wf s.mem = true) (h_act : ∀ x0, Memory.wf (act x0).mem = true) :
    Memory.wf (State.caskOp s c w ok act).mem = true := by
  unfold State.caskOp; (repeat' split) <;> simp [*]

@[simp] theorem State.endCwait_mem (s : State) (c : Nat) (p : Bool) :
    (State.endCwait s c p).mem = s.mem := by
  simp [State.endCwait]

@[simp] theorem State.doCrd_mem (s : State) (c : Nat) (v : Nat) (idx : Nat) (off : Nat) (k : CaskCfg) :
    (State.doCrd s c v idx off k).mem = s.mem := by
  simp [State.doCrd]

@[simp] theorem State.doCpush_mem (s : State) (c : Nat) (v : Nat) (idx : Nat) (k : CaskCfg) :
    (State.doCpush s c v idx k).mem = s.mem := by
  simp [State.doCpush]

@[simp] theorem State.startDma_wf (s : State) (c : Nat) (w : U64) (into : Bool) (x : Core) (t : Task) (hs : Memory.wf s.mem = true) :
    Memory.wf (State.startDma s c w into x t).mem = true := by
  unfold State.startDma; simp only []; (repeat' split) <;> simp_all

@[simp] theorem State.issuePlain_wf (s : State) (c : Nat) (act : Core → Task → State) (hs : Memory.wf s.mem = true) (h_act : ∀ x0 x1, Memory.wf (act x0 x1).mem = true) :
    Memory.wf (State.issuePlain s c act).mem = true := by
  unfold State.issuePlain; simp only []; (repeat' split) <;> simp_all

@[simp] theorem State.halt_mem (s : State) (f : Nat) (q : Nat) (error : Nat) :
    (State.halt s f q error).mem = s.mem := by
  simp [State.halt]

@[simp] theorem State.raise_mem (s : State) (f : Nat) (q : Nat) :
    (State.raise s f q).mem = s.mem := by
  simp [State.raise]

@[simp] theorem State.postEntry_mem (s : State) (f : Nat) (q : Nat) (seq : Nat) (status : Nat) (detail : Nat) (source : Nat) :
    (State.postEntry s f q seq status detail source).mem = s.mem := by
  simp [State.postEntry]

@[simp] theorem State.settle_mem (s : State) (f : Nat) (q : Nat) :
    (State.settle s f q).mem = s.mem := by
  simp [State.settle]

@[simp] theorem State.postAborted_mem (s : State) (f : Nat) (q : Nat) (status : Nat) (a : Aborted) :
    (State.postAborted s f q status a).mem = s.mem := by
  simp [State.postAborted]

@[simp] theorem State.postAborts_mem (s : State) (f q n : Nat) : (State.postAborts s f q n).mem = s.mem := by
  induction n generalizing s with
  | zero => rfl
  | succ n ih => unfold State.postAborts; simp only []; (repeat' split) <;> simp [ih]

@[simp] theorem State.ringTail_mem (s : State) (f : Part) (q : Fin 64) (idx : BitVec 16) :
    (State.ringTail s f q idx).mem = s.mem := by
  simp [State.ringTail]

@[simp] theorem State.ringHead_mem (s : State) (f : Part) (q : Fin 64) (idx : BitVec 16) :
    (State.ringHead s f q idx).mem = s.mem := by
  simp [State.ringHead]

@[simp] theorem State.takeDescriptor_mem (s : State) (f : Nat) (q : Nat) (d : Bytes) :
    (State.takeDescriptor s f q d).mem = s.mem := by
  unfold State.takeDescriptor; simp only []; (repeat' split) <;> simp_all

@[simp] theorem State.settleLoad_mem (s : State) (f : Nat) (q : Nat) (pos : Nat) (ok : Bool) :
    (State.settleLoad s f q pos ok).mem = s.mem := by
  simp [State.settleLoad]

@[simp] theorem State.turnOn_mem (s : State) (f : Part) (q : Fin 64) (w : U32) :
    (State.turnOn s f q w).mem = s.mem := by
  simp [State.turnOn]

@[simp] theorem State.turnOff_mem (s : State) (f : Part) (q : Fin 64) (w : U32) :
    (State.turnOff s f q w).mem = s.mem := by
  simp [State.turnOff]

@[simp] theorem State.setMode_mem (s : State) (m : Nat) :
    (State.setMode s m).mem = s.mem := by
  simp [State.setMode]

@[simp] theorem State.closeLoop_mem (s : State) :
    (State.closeLoop s).mem = s.mem := by
  simp [State.closeLoop]

@[simp] theorem State.askClosed_mem (s : State) (f : Part) (w : U32) :
    (State.askClosed s f w).mem = s.mem := by
  simp [State.askClosed]

@[simp] theorem State.askHold_mem (s : State) (f : Part) (w : U32) :
    (State.askHold s f w).mem = s.mem := by
  simp [State.askHold]

@[simp] theorem State.askSoftware_mem (s : State) (f : Part) (w : U32) :
    (State.askSoftware s f w).mem = s.mem := by
  simp [State.askSoftware]

@[simp] theorem State.setDco_mem (s : State) (f : Part) (upper : U32) :
    (State.setDco s f upper).mem = s.mem := by
  simp [State.setDco]

@[simp] theorem State.setTod_mem (s : State) (f : Part) (upper : U32) :
    (State.setTod s f upper).mem = s.mem := by
  simp [State.setTod]

@[simp] theorem State.askStep_mem (s : State) (f : Part) (upper : U32) :
    (State.askStep s f upper).mem = s.mem := by
  simp [State.askStep]

@[simp] theorem State.askRealign_mem (s : State) (f : Part) (output : Fin 9) (w : U32) :
    (State.askRealign s f output w).mem = s.mem := by
  simp [State.askRealign]

@[simp] theorem State.realignStep_mem (s : State) (o : Nat) :
    (State.realignStep s o).mem = s.mem := by
  unfold State.realignStep; (repeat' split) <;> simp [*]

@[simp] theorem State.takeRequest_mem (s : State) (request : Nat) :
    (State.takeRequest s request).mem = s.mem := by
  simp [State.takeRequest]

@[simp] theorem State.askClaim_mem (s : State) (f : Part) (w : U32) :
    (State.askClaim s f w).mem = s.mem := by
  simp [State.askClaim]

@[simp] theorem State.askRotate_mem (s : State) (f : Part) (w : U32) :
    (State.askRotate s f w).mem = s.mem := by
  simp [State.askRotate]

@[simp] theorem State.installTenant_wf (s : State) (key : Bytes) (base : Nat) (hs : Memory.wf s.mem = true) :
    Memory.wf (State.installTenant s key base).mem = true := by
  simp [State.installTenant, hs]

@[simp] theorem State.spdmAnswer_mem (s : State) (p : SpdmPort) (ok : Bool) (data : Bytes) (g : Spdm → Spdm) :
    (State.spdmAnswer s p ok data g).mem = s.mem := by
  simp [State.spdmAnswer]

@[simp] theorem State.setTdi_mem (s : State) (f : Part) (t : Tdi) :
    (State.setTdi s f t).mem = s.mem := by
  simp [State.setTdi]

@[simp] theorem State.leaveSecure_wf (s : State) (stream : Fin 17) (hs : Memory.wf s.mem = true) :
    Memory.wf (State.leaveSecure s stream).mem = true := by
  unfold State.leaveSecure
  split
  · exact hs
  · refine foldl_wf _ (fun s x h => ?_) _ _ hs
    split <;> simp [h]

@[simp] theorem State.mapFn_mem (s : State) (f : Nat) (g : Fn → Fn) :
    (State.mapFn s f g).mem = s.mem := by
  simp [State.mapFn]

@[simp] theorem State.pokeQueue_mem (s : State) (f : Part) (q : Fin 64) (r : Nat) (w : U32) :
    (State.pokeQueue s f q r w).mem = s.mem := by
  simp [State.pokeQueue]

@[simp] theorem State.pokeFn_mem (s : State) (f : Part) (off : Nat) (w : U32) :
    (State.pokeFn s f off w).mem = s.mem := by
  simp [State.pokeFn]

@[simp] theorem State.pokeBar2_mem (s : State) (f : Part) (off : Nat) (w : U32) :
    (State.pokeBar2 s f off w).mem = s.mem := by
  simp [State.pokeBar2]

@[simp] theorem State.pokeCin_mem (s : State) (off : Nat) (w : U32) :
    (State.pokeCin s off w).mem = s.mem := by
  simp [State.pokeCin]

@[simp] theorem State.setQl_mem (s : State) (i : Nat) (ql : Nat) :
    (State.setQl s i ql).mem = s.mem := by
  simp [State.setQl]

theorem iteEq_mem {c : Prop} [Decidable c] {s a b : State} (h1 : a.mem = s.mem) (h2 : b.mem = s.mem) :
    (if c then a else b).mem = s.mem := by
  split <;> assumption

@[simp] theorem State.pokeTmg_mem (s : State) (off : Nat) (w : U32) :
    (State.pokeTmg s off w).mem = s.mem := by
  refine iteEq_mem ?_ (iteEq_mem ?_ (iteEq_mem ?_ (iteEq_mem ?_ (iteEq_mem ?_ (iteEq_mem ?_ (iteEq_mem ?_ (iteEq_mem ?_ (iteEq_mem ?_
    (iteEq_mem ?_ (iteEq_mem ?_ ?_))))))))))
  · split <;> simp
  · exact iteEq_mem rfl rfl
  · simp
  · rfl
  · simp
  · rfl
  · simp
  · rfl
  · rfl
  · exact iteEq_mem (by simp) rfl
  · exact iteEq_mem (by simp) rfl
  · rfl

@[simp] theorem State.pokeSec_mem (s : State) (off : Nat) (w : U32) :
    (State.pokeSec s off w).mem = s.mem := by
  unfold State.pokeSec; (repeat' split) <;> simp [*]

@[simp] theorem State.pokeRange_mem (s : State) (off : Nat) (w : U32) :
    (State.pokeRange s off w).mem = s.mem := by
  simp [State.pokeRange]

@[simp] theorem State.pokeFw_mem (s : State) (w : U32) :
    (State.pokeFw s w).mem = s.mem := by
  unfold State.pokeFw; (repeat' split) <;> simp [*]

@[simp] theorem State.pokeMgt_mem (s : State) (off : Nat) (w : U32) :
    (State.pokeMgt s off w).mem = s.mem := by
  simp [State.pokeMgt]

@[simp] theorem State.pokeRec_mem (s : State) (off : Nat) (w : U32) :
    (State.pokeRec s off w).mem = s.mem := by
  unfold State.pokeRec; (repeat' split) <;> simp [*]

@[simp] theorem State.pokePwr_mem (s : State) (off : Nat) (w : U32) :
    (State.pokePwr s off w).mem = s.mem := by
  simp [State.pokePwr]

@[simp] theorem State.pokePf_wf (s : State) (off : Nat) (w : U32) (hs : Memory.wf s.mem = true) :
    Memory.wf (State.pokePf s off w).mem = true := by
  unfold State.pokePf; (repeat' split) <;> simp [*]

@[simp] theorem State.poke_wf (s : State) (f : Part) (bar : Bar) (off : Nat) (w : U32) (hs : Memory.wf s.mem = true) :
    Memory.wf (State.poke s f bar off w).mem = true := by
  unfold State.poke; (repeat' split) <;> simp [*]

@[simp] theorem State.freeStage_mem (s : State) (r : Nat) (id : Nat) (m : NodeRun) :
    (State.freeStage s r id m).mem = s.mem := by
  unfold State.freeStage
  dsimp only
  split
  · split
    · rw [State.mapFrame_mem]
    · rfl
  · rfl

@[simp] theorem State.haltEngine_mem (s : State) (e : Nat) :
    (State.haltEngine s e).mem = s.mem := by
  simp [State.haltEngine]

@[simp] theorem State.beginGather_mem (s : State) (f : Nat) (q : Nat) (c : Cmd) (b : Bytes) (ep : Bool) (scalar : Nat) (own : Nat) (share : Bytes) :
    (State.beginGather s f q c b ep scalar own share).mem = s.mem := by
  simp [State.beginGather]

@[simp] theorem State.mapBlob_mem (s : State) (i : Nat) (g : Blob → Blob) :
    (State.mapBlob s i g).mem = s.mem := by
  simp [State.mapBlob]

@[simp] theorem State.poisonBlob_wf (s : State) (i : Nat) (b : Blob) (hs : Memory.wf s.mem = true) :
    Memory.wf (State.poisonBlob s i b).mem = true := by
  simp [State.poisonBlob, hs]

@[simp] theorem State.switchTo_mem (s : State) (st : SwStep) :
    (State.switchTo s st).mem = s.mem := by
  simp [State.switchTo]

@[simp] theorem State.abortFrameApplies_mem (s : State) :
    (State.abortFrameApplies s).mem = s.mem := by
  unfold State.abortFrameApplies
  refine foldl_mem _ (fun s x => ?_) _ _
  split
  · split <;> simp
  · rfl

@[simp] theorem State.abortQueue_mem (s : State) (f : Nat) (q : Nat) :
    (State.abortQueue s f q).mem = s.mem := by
  simp [State.abortQueue, foldl_mem]

@[simp] theorem State.removeVfs_mem (s : State) :
    (State.removeVfs s).mem = s.mem := by
  simp [State.removeVfs]

@[simp] theorem State.dropTenantSections_wf (s : State) (hs : Memory.wf s.mem = true) :
    Memory.wf (State.dropTenantSections s).mem = true := by
  simp [State.dropTenantSections, hs]

@[simp] theorem State.destroyKeys_wf (s : State) (hs : Memory.wf s.mem = true) :
    Memory.wf (State.destroyKeys s).mem = true := by
  simp [State.destroyKeys, hs]

@[simp] theorem State.renewPorts_mem (s : State) :
    (State.renewPorts s).mem = s.mem := by
  simp [State.renewPorts, foldl_mem]

@[simp] theorem State.scrub_mem (s : State) :
    (State.scrub s).mem = s.mem := by
  simp [State.scrub]

@[simp] theorem State.endSwitch_wf (s : State) (hs : Memory.wf s.mem = true) :
    Memory.wf (State.endSwitch s).mem = true := by
  unfold State.endSwitch
  simp only [State.fixAll_mem, State.note_mem]
  refine foldl_wf _ (fun s x h => ?_) _ _ hs
  split <;> simp [h]

end Sys2Proof.Machine
end

