-- ==== Sys2Proof/Laws/KeepsPending.lean ====
section
/-! SUPPORT. The queue of waiting commands: no operation of the model touches it. One lemma for each operation on State. -/

namespace Sys2Proof.Machine

@[simp] theorem ite_pending (c : Prop) [Decidable c] (a b : State) : (if c then a else b).pending = if c then a.pending else b.pending := by
  split <;> rfl

theorem foldl_pending {α : Type} (f : State → α → State) (h : ∀ s x, (f s x).pending = s.pending) (l : List α) (s : State) :
    (l.foldl f s).pending = s.pending := by
  induction l generalizing s with
  | nil => rfl
  | cons a t ih => rw [List.foldl_cons, ih, h]

theorem foldlPair_pending {α β : Type} (f : State × β → α → State × β) (h : ∀ a x, (f a x).1.pending = a.1.pending) (l : List α)
    (a : State × β) : (l.foldl f a).1.pending = a.1.pending := by
  induction l generalizing a with
  | nil => rfl
  | cons x t ih => rw [List.foldl_cons, ih, h]

@[simp] theorem State.emit_pending (s : State) (o : Out) :
    (State.emit s o).pending = s.pending := by
  simp [State.emit]

@[simp] theorem State.emitAll_pending (s : State) (o : List Out) :
    (State.emitAll s o).pending = s.pending := by
  simp [State.emitAll]

@[simp] theorem State.useFree_pending (s : State) :
    (State.useFree s).pending = s.pending := by
  simp [State.useFree]

@[simp] theorem State.note_pending (s : State) (source : Nat) (cls : Nat) (code : Nat) (part : Nat) (args : List Nat) (tenant : Bool) :
    (State.note s source cls code part args tenant).pending = s.pending := by
  simp [State.note]

@[simp] theorem State.sendEvents_pending (s : State) :
    (State.sendEvents s).pending = s.pending := by
  simp [State.sendEvents]

@[simp] theorem State.event_pending (s : State) (f : Nat) (c : Nat) (source : Nat) :
    (State.event s f c source).pending = s.pending := by
  unfold State.event; (repeat' split) <;> simp [*]

@[simp] theorem State.eventAll_pending (s : State) (c : Nat) (source : Nat) :
    (State.eventAll s c source).pending = s.pending := by
  simp [State.eventAll, foldl_pending]

@[simp] theorem State.memWrite_pending (s : State) (a : Nat) (bs : Bytes) (poison : Bool) :
    (State.memWrite s a bs poison).pending = s.pending := by
  simp [State.memWrite]

@[simp] theorem State.memWriteMixed_pending (s : State) (a : Nat) (bs : Bytes) (pz : Nat → Bool) :
    (State.memWriteMixed s a bs pz).pending = s.pending := by
  simp [State.memWriteMixed, foldl_pending]

@[simp] theorem State.setQueue_pending (s : State) (f : Nat) (q : Nat) (x : Queue) :
    (State.setQueue s f q x).pending = s.pending := by
  simp [State.setQueue]

@[simp] theorem State.fix_pending (s : State) (f : Nat) (q : Nat) (pos : Nat) (status : Nat) (detail : Nat) (source : Nat) :
    (State.fix s f q pos status detail source).pending = s.pending := by
  unfold State.fix; simp only []; (repeat' split) <;> simp_all

@[simp] theorem State.refuse_pending (s : State) (f : Nat) (q : Nat) (pos : Nat) (detail : Nat) :
    (State.refuse s f q pos detail).pending = s.pending := by
  simp [State.refuse]

@[simp] theorem State.setCmd_pending (s : State) (f : Nat) (q : Nat) (pos : Nat) (g : Cmd → Cmd) :
    (State.setCmd s f q pos g).pending = s.pending := by
  simp [State.setCmd]

@[simp] theorem State.underWay_pending (s : State) (f : Nat) (q : Nat) (pos : Nat) (status : Nat) (detail : Nat) (source : Nat) :
    (State.underWay s f q pos status detail source).pending = s.pending := by
  simp [State.underWay]

@[simp] theorem State.driveSafeOff_pending (s : State) (on : Bool) :
    (State.driveSafeOff s on).pending = s.pending := by
  simp [State.driveSafeOff]

@[simp] theorem State.sendCan_pending (s : State) (ident : Nat) (typ : Nat) (alive : BitVec 8) :
    (State.sendCan s ident typ alive).pending = s.pending := by
  simp [State.sendCan]

@[simp] theorem State.setSaf_pending (s : State) (st : SafSt) :
    (State.setSaf s st).pending = s.pending := by
  simp [State.setSaf]

@[simp] theorem State.enterSafe_pending (s : State) (cause : Nat) (gtc : Nat) (source : Nat) (hw : Bool) :
    (State.enterSafe s cause gtc source hw).pending = s.pending := by
  simp [State.enterSafe]

@[simp] theorem State.latchCause_pending (s : State) (cause : Nat) (source : Nat) :
    (State.latchCause s cause source).pending = s.pending := by
  simp [State.latchCause]

@[simp] theorem State.undefine_pending (s : State) (f : Nat) (addr : Nat) (n : Nat) :
    (State.undefine s f addr n).pending = s.pending := by
  unfold State.undefine; (repeat' split) <;> simp [*]

@[simp] theorem State.mapPort_pending (s : State) (p : Nat) (g : LnkPort → LnkPort) :
    (State.mapPort s p g).pending = s.pending := by
  simp [State.mapPort]

@[simp] theorem State.reroute_pending (s : State) :
    (State.reroute s).pending = s.pending := by
  simp [State.reroute]

@[simp] theorem State.sendFlit_pending (s : State) (p : Nat) (idle : Bool) (payload : Bytes) :
    (State.sendFlit s p idle payload).pending = s.pending := by
  simp [State.sendFlit]

@[simp] theorem State.pump_pending (s : State) (p : Nat) (l : List Bytes) : (State.pump s p l).pending = s.pending := by
  induction l generalizing s with
  | nil => simp [State.pump]
  | cons b t ih => unfold State.pump; split <;> simp [ih]

@[simp] theorem State.sendIdle_pending (s : State) (p : Nat) :
    (State.sendIdle s p).pending = s.pending := by
  simp [State.sendIdle]

@[simp] theorem State.nak_pending (s : State) (p : Nat) :
    (State.nak s p).pending = s.pending := by
  simp [State.nak]

@[simp] theorem State.portSend_pending (s : State) (p : Nat) (lane : Nat) (m : Msg) :
    (State.portSend s p lane m).pending = s.pending := by
  simp [State.portSend]

@[simp] theorem State.strand_pending (s : State) (m : Msg) :
    (State.strand s m).pending = s.pending := by
  simp [State.strand]

@[simp] theorem State.forward_pending (s : State) (m : Msg) :
    (State.forward s m).pending = s.pending := by
  unfold State.forward; (repeat' split) <;> simp [*]

@[simp] theorem State.sendMsg_pending (s : State) (m : Msg) :
    (State.sendMsg s m).pending = s.pending := by
  simp [State.sendMsg]

@[simp] theorem State.flushStuck_pending (s : State) :
    (State.flushStuck s).pending = s.pending := by
  simp [State.flushStuck, foldl_pending]

@[simp] theorem State.advertise_pending (s : State) :
    (State.advertise s).pending = s.pending := by
  simp [State.advertise]

@[simp] theorem State.tellLinks_pending (s : State) :
    (State.tellLinks s).pending = s.pending := by
  simp [State.tellLinks]

@[simp] theorem State.linksChanged_pending (s : State) :
    (State.linksChanged s).pending = s.pending := by
  simp [State.linksChanged]

@[simp] theorem State.sendRequest_pending (s : State) (m : Msg) (cmd : Option (Nat × Nat × Nat)) :
    (State.sendRequest s m cmd).pending = s.pending := by
  simp [State.sendRequest]

@[simp] theorem State.request_pending (s : State) (m : Msg) (cmd : Option (Nat × Nat × Nat)) :
    (State.request s m cmd).pending = s.pending := by
  simp [State.request]

@[simp] theorem State.issueWaiting_pending (s : State) (d n : Nat) : (State.issueWaiting s d n).pending = s.pending := by
  induction n generalizing s with
  | zero => rfl
  | succ n ih => unfold State.issueWaiting; (repeat' split) <;> simp [ih]

@[simp] theorem State.answered_pending (s : State) (src : Nat) (reqId : Nat) :
    (State.answered s src reqId).pending = s.pending := by
  simp [State.answered]

@[simp] theorem State.markRun_pending (s : State) (r : Nat) (id : Nat) (poisoned : Bool) (lost : Bool) :
    (State.markRun s r id poisoned lost).pending = s.pending := by
  simp [State.markRun]

@[simp] theorem State.markCmd_pending (s : State) (cmd : Option (Nat × Nat × Nat)) (poisoned : Bool) (lost : Bool) :
    (State.markCmd s cmd poisoned lost).pending = s.pending := by
  unfold State.markCmd; (repeat' split) <;> simp [*]

@[simp] theorem State.poisonRead_pending (s : State) (part : Nat) (a : Nat) (source : Nat) :
    (State.poisonRead s part a source).pending = s.pending := by
  simp [State.poisonRead]

@[simp] theorem State.deliverTo_pending (s : State) (part : Nat) (a : Nat) (source : Nat) (data : Bytes) (poison : Bool) :
    (State.deliverTo s part a source data poison).pending = s.pending := by
  simp [State.deliverTo]

@[simp] theorem State.remoteWrite_pending (s : State) (board : Nat) (part : Nat) (a : Nat) (bs : Bytes) (poison : Bool) (cmd : Option (Nat × Nat × Nat)) :
    (State.remoteWrite s board part a bs poison cmd).pending = s.pending := by
  simp [State.remoteWrite, foldl_pending]

@[simp] theorem State.answer_pending (s : State) (m : Msg) :
    (State.answer s m).pending = s.pending := by
  simp [State.answer]

@[simp] theorem State.answerLine_pending (s : State) (typ : Nat) (r : HomeReq) :
    (State.answerLine s typ r).pending = s.pending := by
  simp [State.answerLine]

@[simp] theorem State.answerBare_pending (s : State) (typ : Nat) (dest : Nat) (reqId : Nat) (part : Nat) (addr : Nat) :
    (State.answerBare s typ dest reqId part addr).pending = s.pending := by
  simp [State.answerBare]

@[simp] theorem State.snoop_pending (s : State) (typ : Nat) (req : HomeReq) (boards : List Nat) :
    (State.snoop s typ req boards).pending = s.pending := by
  simp [State.snoop, foldl_pending]

@[simp] theorem State.mergeLine_pending (s : State) (r : HomeReq) (poison : Bool) :
    (State.mergeLine s r poison).pending = s.pending := by
  simp [State.mergeLine, foldl_pending]

@[simp] theorem State.finishReq_pending (s : State) (r : HomeReq) (was : Option DirEnt) (gone : List Nat) :
    (State.finishReq s r was gone).pending = s.pending := by
  unfold State.finishReq; (repeat' split) <;> simp [*]

@[simp] theorem State.beginReq_pending (s : State) (r : HomeReq) :
    (State.beginReq s r).pending = s.pending := by
  unfold State.beginReq; simp only []; (repeat' split) <;> simp_all

@[simp] theorem State.startReq_pending (s : State) (r : HomeReq) :
    (State.startReq s r).pending = s.pending := by
  unfold State.startReq; (repeat' split) <;> simp [*]

@[simp] theorem State.drainQueue_pending (s : State) :
    (State.drainQueue s).pending = s.pending := by
  simp [State.drainQueue, foldl_pending]

@[simp] theorem State.settleLeaving_pending (s : State) :
    (State.settleLeaving s).pending = s.pending := by
  simp [State.settleLeaving]

@[simp] theorem State.snoopAnswer_pending (s : State) (board : Nat) (a : Nat) (inFlight : Bool) :
    (State.snoopAnswer s board a inFlight).pending = s.pending := by
  unfold State.snoopAnswer; (repeat' split) <;> simp [*]

@[simp] theorem State.pruneKept_pending (s : State) (h : FabHdr) :
    (State.pruneKept s h).pending = s.pending := by
  simp [State.pruneKept]

@[simp] theorem State.resendKept_pending (s : State) (k : Kept) :
    (State.resendKept s k).pending = s.pending := by
  simp [State.resendKept]

@[simp] theorem State.homeRequest_pending (s : State) (typ : ReqType) (h : FabHdr) (mask : List Bool) (data : Bytes) (poison : Bool) :
    (State.homeRequest s typ h mask data poison).pending = s.pending := by
  unfold State.homeRequest; simp only []; (repeat' split) <;> simp_all

@[simp] theorem State.withdraw_pending (s : State) (r : Bytes) :
    (State.withdraw s r).pending = s.pending := by
  simp [State.withdraw, foldl_pending]

@[simp] theorem State.recall_pending (s : State) (part : Nat) (lines : List Nat) :
    (State.recall s part lines).pending = s.pending := by
  simp [State.recall, foldl_pending]

@[simp] theorem State.putPart_pending (s : State) (part : Nat) (a : Nat) (bs : Bytes) (poison : Bool) :
    (State.putPart s part a bs poison).pending = s.pending := by
  simp [State.putPart]

@[simp] theorem State.put_pending (s : State) (part : Nat) (a : Nat) (bs : Bytes) (poison : Bool) :
    (State.put s part a bs poison).pending = s.pending := by
  simp [State.put, foldl_pending]

@[simp] theorem State.putMixed_pending (s : State) (part : Nat) (a : Nat) (bs : Bytes) (pz : Nat → Bool) :
    (State.putMixed s part a bs pz).pending = s.pending := by
  simp [State.putMixed, foldl_pending]

@[simp] theorem State.takeOver_pending (s : State) :
    (State.takeOver s).pending = s.pending := by
  simp [State.takeOver, foldl_pending]

@[simp] theorem State.evict_pending (s : State) (l : RLine) :
    (State.evict s l).pending = s.pending := by
  simp [State.evict]

theorem State.cellarAlloc_pending (s : State) (x : Bytes) (a : Nat) (d : Bool) (t : State) (h : s.cellarAlloc x a d = some t) :
    t.pending = s.pending := by
  unfold State.cellarAlloc at h
  simp only [] at h
  (repeat' split at h) <;> (try cases h) <;> simp

@[simp] theorem State.cellarAllocD_pending (s : State) (x : Bytes) (a : Nat) (d : Bool) : ((s.cellarAlloc x a d).getD s).pending = s.pending := by
  cases h : s.cellarAlloc x a d with
  | none => rfl
  | some t => exact State.cellarAlloc_pending _ _ _ _ _ h

@[simp] theorem State.deliver_pending (s : State) (r : CellarReq) (data : Bytes) (poison : Bool) :
    (State.deliver s r data poison).pending = s.pending := by
  simp [State.deliver]

@[simp] theorem State.remoteAccess_pending (s : State) (r : CellarReq) :
    (State.remoteAccess s r).pending = s.pending := by
  unfold State.remoteAccess
  simp only []
  split
  · (repeat' split) <;> simp
  · split
    · rename_i t h
      have ht : t.pending = s.pending := by
        split at h
        · split at h
          · have := State.cellarAlloc_pending _ _ _ _ _ h
            simp at this
            exact this
          · cases h
        · cases h
      simp [ht]
    · split <;> simp

@[simp] theorem State.serveWaiters_pending (s : State) (l : List CellarReq) :
    (State.serveWaiters s l).pending = s.pending := by
  simp [State.serveWaiters, foldl_pending]

@[simp] theorem State.installLine_pending (s : State) (a : Nat) (st : CohSt) (data : Option (Bytes × Bool)) :
    (State.installLine s a st data).pending = s.pending := by
  unfold State.installLine; (repeat' split) <;> simp [*]

@[simp] theorem State.refetch_pending (s : State) (l : RLine) :
    (State.refetch s l).pending = s.pending := by
  simp [State.refetch]

@[simp] theorem State.maskedWrite_pending (s : State) (r : CellarReq) :
    (State.maskedWrite s r).pending = s.pending := by
  simp [State.maskedWrite]

@[simp] theorem State.cellarCount_pending (s : State) (r : CellarReq) :
    (State.cellarCount s r).pending = s.pending := by
  unfold State.cellarCount
  simp only []
  (repeat' split) <;> simp

@[simp] theorem State.localAccess_pending (s : State) (r : CellarReq) :
    (State.localAccess s r).pending = s.pending := by
  simp [State.localAccess]

@[simp] theorem State.poisonLine_pending (s : State) (a : Nat) :
    (State.poisonLine s a).pending = s.pending := by
  simp [State.poisonLine]

@[simp] theorem State.takeSource_pending (s : State) (cmd : Option (Nat × Nat × Nat)) (c : Cmd) (f : Nat) (q : Nat) (a : Nat) (data : Bytes) (poison : Bool) :
    (State.takeSource s cmd c f q a data poison).pending = s.pending := by
  unfold State.takeSource; simp only []; (repeat' split) <;> simp_all

@[simp] theorem State.takeCoreLine_pending (s : State) (c : Nat) (part : Nat) (a : Nat) (data : Bytes) (poison : Bool) :
    (State.takeCoreLine s c part a data poison).pending = s.pending := by
  simp [State.takeCoreLine]

@[simp] theorem State.takeNokeep_pending (s : State) (u : Unans) (a : Nat) (data : Bytes) (poison : Bool) :
    (State.takeNokeep s u a data poison).pending = s.pending := by
  unfold State.takeNokeep; (repeat' split) <;> simp [*]

@[simp] theorem State.failLine_pending (s : State) (a : Nat) :
    (State.failLine s a).pending = s.pending := by
  unfold State.failLine; (repeat' split) <;> simp [*, foldl_pending]

@[simp] theorem State.failRequest_pending (s : State) (u : Unans) :
    (State.failRequest s u).pending = s.pending := by
  unfold State.failRequest; (repeat' split) <;> simp [*]

@[simp] theorem State.failMsg_pending (s : State) (u : Unans) :
    (State.failMsg s u).pending = s.pending := by
  simp [State.failMsg]

@[simp] theorem State.useDma_pending (s : State) (j : Job) :
    (State.useDma s j).pending = s.pending := by
  simp [State.useDma]

@[simp] theorem State.useSealing_pending (s : State) (j : Job) :
    (State.useSealing s j).pending = s.pending := by
  simp [State.useSealing]

@[simp] theorem State.useMessage_pending (s : State) (n : Nat) (j : Job) :
    (State.useMessage s n j).pending = s.pending := by
  simp [State.useMessage]

theorem poisonReads_pending (p src : Nat) (g : State → Nat → Nat) (l : List Nat) (s : State) :
    (l.foldl (fun s i => s.poisonRead p (g s i) src) s).pending = s.pending :=
  foldl_pending _ (fun s x => State.poisonRead_pending s p (g s x) src) l s

@[simp] theorem State.readLocal_pending (s : State) (f : Nat) (a : Nat) (n : Nat) :
    (State.readLocal s f a n).pending = s.pending := by
  exact poisonReads_pending f (srcPart f) (fun s l => s.struct.boardId * 2 ^ 40 + 128 * l) _ s

@[simp] theorem State.toHost_pending (s : State) (f : Nat) (q : Nat) (seq : Nat) (addr : Nat) (bs : Bytes) (first : Nat) (pz : Nat → Bool) :
    (State.toHost s f q seq addr bs first pz).pending = s.pending := by
  simp [State.toHost, foldl_pending]

@[simp] theorem State.toPlace_pending (s : State) (f : Nat) (p : Place) (bs : Bytes) (pz : Nat → Bool) (cmd : Option (Nat × Nat × Nat)) :
    (State.toPlace s f p bs pz cmd).pending = s.pending := by
  unfold State.toPlace; (repeat' split) <;> simp [*, foldl_pending]

@[simp] theorem State.settleEntry_pending (s : State) (a : Nat) (e : Option DirEnt) :
    (State.settleEntry s a e).pending = s.pending := by
  unfold State.settleEntry; (repeat' split) <;> simp [*]

@[simp] theorem State.eviction_pending (s : State) (h : FabHdr) (data : Option (Bytes × Bool)) :
    (State.eviction s h data).pending = s.pending := by
  unfold State.eviction; simp only []; (repeat' split) <;> simp_all

@[simp] theorem State.snoopReply_pending (s : State) (home : Nat) (typ : Nat) (reqId : Nat) (a : Nat) (data : Bytes) (poison : Bool) :
    (State.snoopReply s home typ reqId a data poison).pending = s.pending := by
  simp [State.snoopReply]

@[simp] theorem State.ringWrite_pending (s : State) (w : Bytes) (off : Nat) (bs : Bytes) (poison : Bool) :
    (State.ringWrite s w off bs poison).pending = s.pending := by
  simp [State.ringWrite]

@[simp] theorem State.addMail_pending (s : State) (m : MailIn) :
    (State.addMail s m).pending = s.pending := by
  simp [State.addMail]

@[simp] theorem State.fixSend_pending (s : State) (cmd : Option (Nat × Nat × Nat)) (source : Nat) :
    (State.fixSend s cmd source).pending = s.pending := by
  unfold State.fixSend; (repeat' split) <;> simp [*]

@[simp] theorem State.ownMailDone_pending (s : State) (reqId : Nat) :
    (State.ownMailDone s reqId).pending = s.pending := by
  unfold State.ownMailDone; (repeat' split) <;> simp [*]

@[simp] theorem State.passMails_pending (s : State) (w : Bytes) (x : Nat) (l : List MailIn) : (State.passMails s w x l).pending = s.pending := by
  induction l generalizing s with
  | nil => simp [State.passMails]
  | cons b t ih => unfold State.passMails; simp only []; (repeat' split) <;> simp [ih]

@[simp] theorem State.mailWhole_pending (s : State) (w : Bytes) (m : MailIn) :
    (State.mailWhole s w m).pending = s.pending := by
  simp [State.mailWhole]

@[simp] theorem State.recallSource_pending (s : State) (f : Nat) (c : Cmd) (o : Nat) (n : Nat) :
    (State.recallSource s f c o n).pending = s.pending := by
  unfold State.recallSource; (repeat' split) <;> simp [*]

@[simp] theorem State.startMessage_pending (s : State) (dest : Nat) (f : Nat) (q : Nat) (c : Cmd) :
    (State.startMessage s dest f q c).pending = s.pending := by
  simp [State.startMessage]

@[simp] theorem State.sendChunk_pending (s : State) (u : Unans) (o : Nat) (bs : Bytes) (poison : Bool) (last : Bool) :
    (State.sendChunk s u o bs poison last).pending = s.pending := by
  unfold State.sendChunk; simp only []; (repeat' split) <;> simp_all

@[simp] theorem State.mapMessage_pending (s : State) (n : Nat) (g : Engine → Engine) :
    (State.mapMessage s n g).pending = s.pending := by
  simp [State.mapMessage]

@[simp] theorem State.runMessage_pending (s : State) (n : Nat) :
    (State.runMessage s n).pending = s.pending := by
  unfold State.runMessage; simp only []; (repeat' split) <;> simp_all

@[simp] theorem State.noteFw_pending (s : State) (comp : Fin 4) (slot : Bool) (event : String) :
    (State.noteFw s comp slot event).pending = s.pending := by
  simp [State.noteFw]

@[simp] theorem State.finishBurn_pending (s : State) (comp : Fin 4) :
    (State.finishBurn s comp).pending = s.pending := by
  unfold State.finishBurn; (repeat' split) <;> simp [*]

@[simp] theorem State.dropTrial_pending (s : State) (comp : Fin 4) :
    (State.dropTrial s comp).pending = s.pending := by
  simp [State.dropTrial]

@[simp] theorem State.bootComponent_pending (s : State) (c : Fin 4) : (s.bootComponent c).1.pending = s.pending := by
  simp [State.bootComponent]

@[simp] theorem State.enterRecovery_pending (s : State) (cause : Nat) :
    (State.enterRecovery s cause).pending = s.pending := by
  simp [State.enterRecovery]

@[simp] theorem State.applyOverride_pending (s : State) :
    (State.applyOverride s).pending = s.pending := by
  simp [State.applyOverride]

@[simp] theorem State.evalCompat_pending (s : State) :
    (State.evalCompat s).pending = s.pending := by
  simp [State.evalCompat]

@[simp] theorem State.loadCal_pending (s : State) :
    (State.loadCal s).pending = s.pending := by
  simp [State.loadCal, foldl_pending]

@[simp] theorem State.ledgerAfterAux_pending (s : State) :
    (State.ledgerAfterAux s).pending = s.pending := by
  simp [State.ledgerAfterAux]

@[simp] theorem State.checkRetention_pending (s : State) :
    (State.checkRetention s).pending = s.pending := by
  simp [State.checkRetention]

@[simp] theorem State.restartTime_pending (s : State) :
    (State.restartTime s).pending = s.pending := by
  simp [State.restartTime]

@[simp] theorem State.settleRetention_pending (s : State) :
    (State.settleRetention s).pending = s.pending := by
  simp [State.settleRetention]

@[simp] theorem State.bootFirmware_pending (s : State) (saf : Bool) :
    (State.bootFirmware s saf).pending = s.pending := by
  unfold State.bootFirmware; (repeat' split) <;> simp [*]

@[simp] theorem State.bootTime_pending (s : State) :
    (State.bootTime s).pending = s.pending := by
  simp [State.bootTime]

@[simp] theorem State.bootNow_pending (s : State) :
    (State.bootNow s).pending = s.pending := by
  simp [State.bootNow]

@[simp] theorem State.cleared_pending (s : State) (cold : Bool) :
    (State.cleared s cold).pending = s.pending := by
  simp [State.cleared]

@[simp] theorem State.announceReset_pending (s : State) (cold : Bool) (cause : String) (source : Nat) :
    (State.announceReset s cold cause source).pending = s.pending := by
  unfold State.announceReset; simp only []; (repeat' split) <;> simp_all

@[simp] theorem State.startReset_pending (s : State) (cold : Bool) (cause : String) (source : Nat) (force : Bool) :
    (State.startReset s cold cause source force).pending = s.pending := by
  simp [State.startReset]

@[simp] theorem State.takeFwAction_pending (s : State) (a : FwAction) (comp : Fin 4) :
    (State.takeFwAction s a comp).pending = s.pending := by
  simp [State.takeFwAction]

@[simp] theorem State.askMark_pending (s : State) (f : Part) (w : U32) :
    (State.askMark s f w).pending = s.pending := by
  simp [State.askMark]

@[simp] theorem State.askCommit_pending (s : State) (f : Part) (w : U32) :
    (State.askCommit s f w).pending = s.pending := by
  simp [State.askCommit]

@[simp] theorem State.askCancel_pending (s : State) (f : Part) (w : U32) :
    (State.askCancel s f w).pending = s.pending := by
  simp [State.askCancel]

@[simp] theorem State.askBurn_pending (s : State) (f : Part) (w : U32) :
    (State.askBurn s f w).pending = s.pending := by
  simp [State.askBurn]

@[simp] theorem State.endMarkTrial_pending (s : State) (c : Fin 4) :
    (State.endMarkTrial s c).pending = s.pending := by
  simp [State.endMarkTrial]

@[simp] theorem State.endCommit_pending (s : State) (c : Fin 4) :
    (State.endCommit s c).pending = s.pending := by
  simp [State.endCommit]

@[simp] theorem State.endCancelTrial_pending (s : State) (c : Fin 4) :
    (State.endCancelTrial s c).pending = s.pending := by
  simp [State.endCancelTrial]

@[simp] theorem State.endBurn_pending (s : State) (c : Fin 4) :
    (State.endBurn s c).pending = s.pending := by
  unfold State.endBurn; simp only []; (repeat' split) <;> simp_all

@[simp] theorem State.recFail_pending (s : State) (result : BitVec 4) :
    (State.recFail s result).pending = s.pending := by
  simp [State.recFail]

@[simp] theorem State.askBegin_pending (s : State) (f : Part) (w : U32) :
    (State.askBegin s f w).pending = s.pending := by
  simp [State.askBegin]

@[simp] theorem State.askRun_pending (s : State) (f : Part) (w : U32) :
    (State.askRun s f w).pending = s.pending := by
  simp [State.askRun]

@[simp] theorem State.askProgram_pending (s : State) (f : Part) (w : U32) :
    (State.askProgram s f w).pending = s.pending := by
  simp [State.askProgram]

@[simp] theorem State.fillWindow_pending (s : State) (f : Part) (off : Nat) (size : Nat) (v : U64) :
    (State.fillWindow s f off size v).pending = s.pending := by
  simp [State.fillWindow]

@[simp] theorem State.setCore_pending (s : State) (c : Nat) (x : Core) :
    (State.setCore s c x).pending = s.pending := by
  simp [State.setCore]

@[simp] theorem State.mapCores_pending (s : State) (g : Core → Core) :
    (State.mapCores s g).pending = s.pending := by
  simp [State.mapCores]

@[simp] theorem State.resetCasks_pending (s : State) (route : Nat) :
    (State.resetCasks s route).pending = s.pending := by
  simp [State.resetCasks]

@[simp] theorem State.freshVecs_pending (s : State) (c : Nat) :
    (State.freshVecs s c).pending = s.pending := by
  simp [State.freshVecs]

@[simp] theorem State.install_pending (s : State) (c : Nat) (t : Task) :
    (State.install s c t).pending = s.pending := by
  simp [State.install]

@[simp] theorem State.loadCode_pending (s : State) (c : Nat) (t : Task) (blob : Nat) :
    (State.loadCode s c t blob).pending = s.pending := by
  simp [State.loadCode]

@[simp] theorem State.nextTask_pending (s : State) (c : Nat) :
    (State.nextTask s c).pending = s.pending := by
  unfold State.nextTask; simp only []; (repeat' split) <;> simp_all

@[simp] theorem State.endTask_pending (s : State) (c : Nat) :
    (State.endTask s c).pending = s.pending := by
  unfold State.endTask; simp only []; (repeat' split) <;> simp_all

@[simp] theorem State.finish_pending (s : State) (c : Nat) (x : Core) :
    (State.finish s c x).pending = s.pending := by
  simp [State.finish]

@[simp] theorem State.takePreemption_pending (s : State) (c : Nat) :
    (State.takePreemption s c).pending = s.pending := by
  unfold State.takePreemption; simp only []; (repeat' split) <;> simp_all

@[simp] theorem State.settleWait_pending (s : State) (c : Nat) :
    (State.settleWait s c).pending = s.pending := by
  unfold State.settleWait; simp only []; (repeat' split) <;> simp_all

@[simp] theorem State.settleWaits_pending (s : State) :
    (State.settleWaits s).pending = s.pending := by
  simp [State.settleWaits, foldl_pending]

@[simp] theorem State.startTask_pending (s : State) (c : Nat) (t : Task) (blob : Nat) :
    (State.startTask s c t blob).pending = s.pending := by
  simp [State.startTask]

@[simp] theorem State.settleSwap_pending (s : State) (route : Nat) :
    (State.settleSwap s route).pending = s.pending := by
  simp [State.settleSwap]

@[simp] theorem State.endApply_pending (s : State) (slot : Nat) :
    (State.endApply s slot).pending = s.pending := by
  unfold State.endApply; simp only []; (repeat' split) <;> simp_all

@[simp] theorem State.releaseHeld_pending (s : State) (route : Nat) :
    (State.releaseHeld s route).pending = s.pending := by
  simp [State.releaseHeld]

@[simp] theorem State.setRoute_pending (s : State) (r : Nat) (x : Route) :
    (State.setRoute s r x).pending = s.pending := by
  simp [State.setRoute]

@[simp] theorem State.gapTimer_pending (s : State) (r : Nat) (st : RouteSt) :
    (State.gapTimer s r st).pending = s.pending := by
  simp [State.gapTimer]

@[simp] theorem State.setRouteSt_pending (s : State) (r : Nat) (st : RouteSt) :
    (State.setRouteSt s r st).pending = s.pending := by
  simp [State.setRouteSt]

@[simp] theorem State.mapFrame_pending (s : State) (r : Nat) (id : Nat) (g : Frame → Frame) :
    (State.mapFrame s r id g).pending = s.pending := by
  simp [State.mapFrame]

@[simp] theorem State.noteStale_pending (s : State) (r : Nat) (cause : Nat) :
    (State.noteStale s r cause).pending = s.pending := by
  simp [State.noteStale]

@[simp] theorem State.published_pending (s : State) (t : Struct) (r : Nat) (typ : Nat) (addr : Nat) (len : Nat) (exposure : Nat) :
    (State.published s t r typ addr len exposure).pending = s.pending := by
  simp [State.published]

@[simp] theorem State.frameDone_pending (s : State) (r : Nat) (f : Frame) (status : Nat) (reason : Nat) :
    (State.frameDone s r f status reason).pending = s.pending := by
  simp [State.frameDone, foldl_pending]

@[simp] theorem State.checkDeadline_pending (s : State) (r : Nat) (f : Frame) :
    (State.checkDeadline s r f).pending = s.pending := by
  simp [State.checkDeadline]

@[simp] theorem State.epochCut_pending (s : State) (r : Nat) (f : Frame) (valid : Bool) :
    (State.epochCut s r f valid).pending = s.pending := by
  simp [State.epochCut]

@[simp] theorem State.retire_pending (s : State) (r : Nat) (id : Nat) :
    (State.retire s r id).pending = s.pending := by
  unfold State.retire; (repeat' split) <;> simp [*]

@[simp] theorem State.fixAll_pending (s : State) (l : List (Nat × Nat × Nat)) (status : Nat) (detail : Nat) (source : Nat) :
    (State.fixAll s l status detail source).pending = s.pending := by
  simp [State.fixAll, foldl_pending]

@[simp] theorem State.stopApply_pending (s : State) (r : Nat) (status : Nat) (detail : Nat) :
    (State.stopApply s r status detail).pending = s.pending := by
  simp [State.stopApply, foldl_pending]

@[simp] theorem State.finishStop_pending (s : State) (r : Nat) :
    (State.finishStop s r).pending = s.pending := by
  simp [State.finishStop]

@[simp] theorem State.retireAborted_pending (s : State) (r n : Nat) : (s.retireAborted r n).pending = s.pending := by
  induction n generalizing s with
  | zero => rfl
  | succ n ih => unfold State.retireAborted; (repeat' split) <;> simp [ih]

@[simp] theorem State.drainRoute_pending (s : State) (r : Nat) :
    (State.drainRoute s r).pending = s.pending := by
  simp [State.drainRoute, foldl_pending]

@[simp] theorem State.mapTasks_pending (s : State) (p : Task → Bool) (g : Task → Task) :
    (State.mapTasks s p g).pending = s.pending := by
  simp [State.mapTasks]

@[simp] theorem State.stopTasks_pending (s : State) (p : Task → Bool) :
    (State.stopTasks s p).pending = s.pending := by
  simp [State.stopTasks]

@[simp] theorem State.mapJobs_pending (s : State) (g : Nat → StageJob → StageJob) :
    (State.mapJobs s g).pending = s.pending := by
  simp [State.mapJobs]

@[simp] theorem State.abandon_pending (s : State) (r : Nat) (id : Nat) (reason : Nat) (missing : Nat) :
    (State.abandon s r id reason missing).pending = s.pending := by
  simp [State.abandon]

@[simp] theorem State.noteLevel_pending (s : State) (level : BitVec 3) :
    (State.noteLevel s level).pending = s.pending := by
  simp [State.noteLevel]

@[simp] theorem State.forceStop_pending (s : State) (r : Nat) :
    (State.forceStop s r).pending = s.pending := by
  simp [State.forceStop]

@[simp] theorem State.boundaryStop_pending (s : State) (r : Nat) :
    (State.boundaryStop s r).pending = s.pending := by
  simp [State.boundaryStop]

@[simp] theorem State.faultRoute_pending (s : State) (r : Nat) (code : Nat) :
    (State.faultRoute s r code).pending = s.pending := by
  simp [State.faultRoute]

@[simp] theorem State.refreshRoutes_pending (s : State) :
    (State.refreshRoutes s).pending = s.pending := by
  simp [State.refreshRoutes, foldl_pending]

@[simp] theorem State.epochAbandon_pending (s : State) (r : Nat) (id : Nat) :
    (State.epochAbandon s r id).pending = s.pending := by
  unfold State.epochAbandon; (repeat' split) <;> simp [*]

@[simp] theorem State.openWindow_pending (s : State) (r : Nat) :
    (State.openWindow s r).pending = s.pending := by
  simp [State.openWindow, foldl_pending]

@[simp] theorem State.boundary_pending (s : State) (r : Nat) (id : Nat) (start : Nat) (exposure : Nat) :
    (State.boundary s r id start exposure).pending = s.pending := by
  unfold State.boundary; simp only []; (repeat' split) <;> simp_all

@[simp] theorem State.associate_pending (s : State) (c : Nat) (id : Nat) (start : Nat) (exposure : Nat) :
    (State.associate s c id start exposure).pending = s.pending := by
  simp [State.associate, foldl_pending]

@[simp] theorem State.slotCycle_pending (s : State) (c : Nat) :
    (State.slotCycle s c).pending = s.pending := by
  unfold State.slotCycle; (repeat' split) <;> simp [*]

@[simp] theorem State.frameStartEvent_pending (s : State) (c : Nat) (id : Nat) (start : Nat) (exposure : Nat) :
    (State.frameStartEvent s c id start exposure).pending = s.pending := by
  simp [State.frameStartEvent, foldl_pending]

@[simp] theorem State.chargeEngine_pending (s : State) (r : Nat) (m : NodeRun) :
    (State.chargeEngine s r m).pending = s.pending := by
  simp [State.chargeEngine]

@[simp] theorem State.startNode_pending (s : State) (r : Nat) (f : Frame) (c : Bytes) :
    (State.startNode s r f c).pending = s.pending := by
  simp [State.startNode]

@[simp] theorem State.dispatch_pending (s : State) (r : Nat) (id : Nat) (n : Nat) (trig : Nat) :
    (State.dispatch s r id n trig).pending = s.pending := by
  unfold State.dispatch; (repeat' split) <;> simp [*]

@[simp] theorem State.undefineCmd_pending (s : State) (f : Nat) (q : Nat) (c : Cmd) :
    (State.undefineCmd s f q c).pending = s.pending := by
  simp [State.undefineCmd]

@[simp] theorem State.undefineCmds_pending (s : State) (f : Nat) :
    (State.undefineCmds s f).pending = s.pending := by
  simp [State.undefineCmds, foldl_pending]

@[simp] theorem State.dropWork_pending (s : State) (f : Nat) :
    (State.dropWork s f).pending = s.pending := by
  simp [State.dropWork]

@[simp] theorem State.dropApplies_pending (s : State) (p : Nat → Bool) :
    (State.dropApplies s p).pending = s.pending := by
  unfold State.dropApplies
  refine foldl_pending _ (fun s x => ?_) _ _
  split
  · split <;> simp
  · rfl

@[simp] theorem State.partitionReset_pending (s : State) (f : Nat) (tdi : Tdi) (cause : String) :
    (State.partitionReset s f tdi cause).pending = s.pending := by
  unfold State.partitionReset; (repeat' split) <;> simp [*, foldl_pending]

@[simp] theorem State.mapDst_pending (s : State) (d : Nat) (g : SwPort → SwPort) :
    (State.mapDst s d g).pending = s.pending := by
  simp [State.mapDst]

@[simp] theorem State.drainDst_pending (s : State) (d : Nat) :
    (State.drainDst s d).pending = s.pending := by
  simp [State.drainDst]

@[simp] theorem State.noteIrregular_pending (s : State) (c : Nat) (id : Nat) (long : Bool) (extra : Bool) :
    (State.noteIrregular s c id long extra).pending = s.pending := by
  simp [State.noteIrregular]

@[simp] theorem State.queueBeats_pending (s : State) (d : Nat) (l : List Beat) :
    (State.queueBeats s d l).pending = s.pending := by
  simp [State.queueBeats]

@[simp] theorem State.pipeLine_pending (s : State) (src : Nat) (ctx : Nat) (frame : Nat) (line : Nat) (plane : Nat) (b : Bytes) (poison : Bool) :
    (State.pipeLine s src ctx frame line plane b poison).pending = s.pending := by
  simp [State.pipeLine, foldl_pending]

@[simp] theorem State.closeBeat_pending (s : State) (src : Nat) (ctx : Nat) (frame : Nat) (pick : Nat → Bool) (data : Bytes) (poison : Bool) :
    (State.closeBeat s src ctx frame pick data poison).pending = s.pending := by
  simp [State.closeBeat, foldl_pending]

@[simp] theorem State.stageLine_pending (s : State) (src : Nat) (frameId : Nat) (ctx : Nat) (frame : Nat) (line : Nat) (plane : Nat) (b : Bytes) (poison : Bool) :
    (State.stageLine s src frameId ctx frame line plane b poison).pending = s.pending := by
  simp [State.stageLine, foldl_pending]

@[simp] theorem State.deliverBeat_pending (s : State) (d : Nat) :
    (State.deliverBeat s d).pending = s.pending := by
  unfold State.deliverBeat; simp only []; (repeat' split) <;> simp_all

@[simp] theorem State.mapStage_pending (s : State) (i : Nat) (g : Stage → Stage) :
    (State.mapStage s i g).pending = s.pending := by
  simp [State.mapStage]

@[simp] theorem State.mapJob_pending (s : State) (i : Nat) (g : StageJob → StageJob) :
    (State.mapJob s i g).pending = s.pending := by
  simp [State.mapJob]

@[simp] theorem State.layRecord_pending (s : State) (i : Nat) (j : StageJob) (a : Nat) (r : RecInfo) (desc : Bytes) (body : Payload) :
    (State.layRecord s i j a r desc body).pending = s.pending := by
  simp [State.layRecord]

@[simp] theorem State.notePoisoned_pending (s : State) (i : Nat) (poison : Bool) (discard : Bool) :
    (State.notePoisoned s i poison discard).pending = s.pending := by
  simp [State.notePoisoned]

@[simp] theorem State.putRecord_pending (s : State) (i : Nat) (j : StageJob) (o : Nat) (src : Nat) (off : Nat) (r : RecInfo) (desc : Bytes) (body : Payload) :
    (State.putRecord s i j o src off r desc body).pending = s.pending := by
  simp [State.putRecord]

@[simp] theorem State.jobDone_pending (s : State) (i : Nat) :
    (State.jobDone s i).pending = s.pending := by
  simp [State.jobDone]

@[simp] theorem State.sendLines_pending (s : State) (i : Nat) (src : Nat) (ctx : Nat) (key : Nat) (plane : Nat) (lines : List (Bytes × Bool)) :
    (State.sendLines s i src ctx key plane lines).pending = s.pending := by
  unfold State.sendLines; (repeat' split) <;> simp [*, foldl_pending]

@[simp] theorem State.advancePyr_pending (s : State) (c : Nat) :
    (State.advancePyr s c).pending = s.pending := by
  unfold State.advancePyr; (repeat' split) <;> simp [*, foldl_pending]

@[simp] theorem State.advanceWrp_pending (s : State) (i : Nat) (c : Nat) :
    (State.advanceWrp s i c).pending = s.pending := by
  unfold State.advanceWrp; (repeat' split) <;> simp [*]

@[simp] theorem State.storeLine_pending (s : State) (part : Nat) (a : Nat) (w : Nat) (y : Nat) (l : List Int) :
    (State.storeLine s part a w y l).pending = s.pending := by
  simp [State.storeLine]

@[simp] theorem State.mapMash_pending (s : State) (r : Nat) (g : Mash → Mash) :
    (State.mapMash s r g).pending = s.pending := by
  simp [State.mapMash]

@[simp] theorem State.offerTiles_pending (s : State) (i : Nat) (j : StageJob) (l : List (Nat × (Nat × Nat) × Bool)) :
    (State.offerTiles s i j l).pending = s.pending := by
  simp [State.offerTiles]

@[simp] theorem State.offerRows_pending (s : State) (i : Nat) (rows : List (List Px)) :
    (State.offerRows s i rows).pending = s.pending := by
  unfold State.offerRows; (repeat' split) <;> simp [*]

@[simp] theorem State.sendDense_pending (s : State) (i : Nat) (c : Nat) (rows : List (List Px)) (h : Nat) :
    (State.sendDense s i c rows h).pending = s.pending := by
  simp [State.sendDense]

@[simp] theorem State.floStore__pending (s : State) (i : Nat) (j : StageJob) :
    (State.floStore_ s i j).pending = s.pending := by
  simp [State.floStore_, foldl_pending]

@[simp] theorem State.advanceDense_pending (s : State) (i : Nat) :
    (State.advanceDense s i).pending = s.pending := by
  unfold State.advanceDense; (repeat' split) <;> simp [*]

@[simp] theorem State.advanceTrk_pending (s : State) :
    (State.advanceTrk s).pending = s.pending := by
  unfold State.advanceTrk; (repeat' split) <;> simp [*, foldlPair_pending]

@[simp] theorem State.advance_pending (s : State) (i : Nat) (c : Nat) :
    (State.advance s i c).pending = s.pending := by
  simp [State.advance]

@[simp] theorem State.putLine_pending (s : State) (i : Nat) (port : Nat) (j : StageJob) (c : Nat) (id : Nat) (level : Nat) (data : Bytes) (poison : Bool) :
    (State.putLine s i port j c id level data poison).pending = s.pending := by
  simp [State.putLine]

@[simp] theorem State.closeInput_pending (s : State) (i : Nat) (port : Nat) (j : StageJob) (c : Nat) :
    (State.closeInput s i port j c).pending = s.pending := by
  simp [State.closeInput]

@[simp] theorem State.putDense_pending (s : State) (i : Nat) (j : StageJob) :
    (State.putDense s i j).pending = s.pending := by
  simp [State.putDense]

@[simp] theorem State.offerCells_pending (s : State) (j : StageJob) (m : Nat) :
    (State.offerCells s j m).pending = s.pending := by
  simp [State.offerCells]

@[simp] theorem State.offerMatches_pending (s : State) :
    (State.offerMatches s).pending = s.pending := by
  unfold State.offerMatches; (repeat' split) <;> simp [*]

@[simp] theorem State.putMatches_pending (s : State) (j : StageJob) :
    (State.putMatches s j).pending = s.pending := by
  simp [State.putMatches]

@[simp] theorem State.endDense_pending (s : State) (i : Nat) (j : StageJob) :
    (State.endDense s i j).pending = s.pending := by
  simp [State.endDense]

@[simp] theorem State.refit_pending (s : State) :
    (State.refit s).pending = s.pending := by
  simp [State.refit]

@[simp] theorem State.setLoop_pending (s : State) (l : LoopSt) :
    (State.setLoop s l).pending = s.pending := by
  simp [State.setLoop]

@[simp] theorem State.enterHold_pending (s : State) :
    (State.enterHold s).pending = s.pending := by
  simp [State.enterHold]

@[simp] theorem State.stepGtc_pending (s : State) (d : Int) :
    (State.stepGtc s d).pending = s.pending := by
  simp [State.stepGtc]

@[simp] theorem State.mapInput_pending (s : State) (i : Nat) (g : TmgIn → TmgIn) :
    (State.mapInput s i g).pending = s.pending := by
  simp [State.mapInput]

@[simp] theorem State.stepToInput_pending (s : State) (i : Nat) (e : Int) :
    (State.stepToInput s i e).pending = s.pending := by
  simp [State.stepToInput]

@[simp] theorem State.reselect_pending (s : State) :
    (State.reselect s).pending = s.pending := by
  unfold State.reselect; simp only []; (repeat' split) <;> simp_all

@[simp] theorem State.failInput_pending (s : State) (i : Nat) (code : Nat) :
    (State.failInput s i code).pending = s.pending := by
  simp [State.failInput]

@[simp] theorem State.makeAvailable_pending (s : State) (i : Nat) :
    (State.makeAvailable s i).pending = s.pending := by
  simp [State.makeAvailable]

@[simp] theorem State.judgeLock_pending (s : State) (e : Int) :
    (State.judgeLock s e).pending = s.pending := by
  simp [State.judgeLock]

@[simp] theorem State.stepOnMeasure_pending (s : State) (i : Nat) (e : Int) : (s.stepOnMeasure i e).1.pending = s.pending := by
  unfold State.stepOnMeasure; simp only []; (repeat' split) <;> simp

@[simp] theorem State.loopMeasure_pending (s : State) (i : Nat) (e : Int) :
    (State.loopMeasure s i e).pending = s.pending := by
  simp [State.loopMeasure]

@[simp] theorem State.measure_pending (s : State) (i : Nat) (e : Int) (freq : Int) (jump : Bool) (domainOk : Bool) :
    (State.measure s i e freq jump domainOk).pending = s.pending := by
  simp [State.measure]

@[simp] theorem State.failLanicy_pending (s : State) :
    (State.failLanicy s).pending = s.pending := by
  simp [State.failLanicy, foldl_pending]

@[simp] theorem State.setBackupActs_pending (s : State) (v : Bool) :
    (State.setBackupActs s v).pending = s.pending := by
  simp [State.setBackupActs]

@[simp] theorem State.hearTime_pending (s : State) (port : Nat) (m : TimeMsg) :
    (State.hearTime s port m).pending = s.pending := by
  simp [State.hearTime]

@[simp] theorem State.mapOutput_pending (s : State) (o : Nat) (g : TmgOut → TmgOut) :
    (State.mapOutput s o g).pending = s.pending := by
  simp [State.mapOutput]

@[simp] theorem State.endFreqPulse_pending (s : State) :
    (State.endFreqPulse s).pending = s.pending := by
  simp [State.endFreqPulse]

@[simp] theorem State.tmgCycle_pending (s : State) :
    (State.tmgCycle s).pending = s.pending := by
  simp [State.tmgCycle]

@[simp] theorem State.measureVin_pending (s : State) :
    (State.measureVin s).pending = s.pending := by
  simp [State.measureVin]

@[simp] theorem State.endVerify_pending (s : State) :
    (State.endVerify s).pending = s.pending := by
  unfold State.endVerify; (repeat' split) <;> simp [*]

@[simp] theorem State.runMessages_pending (s : State) :
    (State.runMessages s).pending = s.pending := by
  simp [State.runMessages, foldl_pending]

@[simp] theorem State.resumeTasks_pending (s : State) :
    (State.resumeTasks s).pending = s.pending := by
  simp [State.resumeTasks, foldl_pending]

@[simp] theorem State.tick_pending (s : State) :
    (State.tick s).pending = s.pending := by
  simp [State.tick]

@[simp] theorem State.mapCtx_pending (s : State) (c : Nat) (g : Ctx → Ctx) :
    (State.mapCtx s c g).pending = s.pending := by
  simp [State.mapCtx]

@[simp] theorem State.mapCam_pending (s : State) (p : Nat) (g : Port → Port) :
    (State.mapCam s p g).pending = s.pending := by
  simp [State.mapCam]

@[simp] theorem State.badHeader_pending (s : State) (port : Nat) :
    (State.badHeader s port).pending = s.pending := by
  simp [State.badHeader]

@[simp] theorem State.active_pending (s : State) (port : Nat) :
    (State.active s port).pending = s.pending := by
  simp [State.active]

@[simp] theorem State.emitLine_pending (s : State) (c pipe : Nat) (g : CtxFrame) (y : Nat) : (s.emitLine c pipe g y).1.pending = s.pending := by
  unfold State.emitLine
  refine foldlPair_pending _ (fun a x => ?_) _ _
  dsimp only
  split <;> simp

@[simp] theorem State.emitChroma_pending (s : State) (c : Nat) (pipe : Nat) (f : CtxFrame) :
    (State.emitChroma s c pipe f).pending = s.pending := by
  simp [State.emitChroma, foldl_pending]

@[simp] theorem State.emitFrame_pending (s : State) (c : Nat) (id : Nat) :
    (State.emitFrame s c id).pending = s.pending := by
  unfold State.emitFrame; (repeat' split) <;> simp [*, foldl_pending, foldlPair_pending]

@[simp] theorem State.closeFrame_pending (s : State) (c : Nat) (short : Bool) :
    (State.closeFrame s c short).pending = s.pending := by
  unfold State.closeFrame; (repeat' split) <;> simp [*]

@[simp] theorem State.startCtx_pending (s : State) (c : Nat) :
    (State.startCtx s c).pending = s.pending := by
  simp [State.startCtx]

@[simp] theorem State.noteBacklog_pending (s : State) (pipe : Nat) :
    (State.noteBacklog s pipe).pending = s.pending := by
  simp [State.noteBacklog]

@[simp] theorem State.takeLinePacket_pending (s : State) (port : Nat) (c : Nat) (dt : Nat) (pixels : List Nat) (bad : Bool) :
    (State.takeLinePacket s port c dt pixels bad).pending = s.pending := by
  unfold State.takeLinePacket; (repeat' split) <;> simp [*]

@[simp] theorem State.mapScb_pending (s : State) (k : Nat) (g : Scb → Scb) :
    (State.mapScb s k g).pending = s.pending := by
  simp [State.mapScb]

@[simp] theorem State.scbCtl_pending (s : State) (f : Part) (k : Nat) (w : U32) :
    (State.scbCtl s f k w).pending = s.pending := by
  simp [State.scbCtl]

@[simp] theorem State.scbPush_pending (s : State) (f : Part) (k : Nat) (v : Byte) :
    (State.scbPush s f k v).pending = s.pending := by
  simp [State.scbPush]

@[simp] theorem State.scbPop_pending (s : State) (b : Nat) : (s.scbPop b).1.pending = s.pending := by
  unfold State.scbPop; split <;> simp

@[simp] theorem State.enforcePins_pending (s : State) (old : Struct) :
    (State.enforcePins s old).pending = s.pending := by
  simp [State.enforcePins]

@[simp] theorem State.enforceBoard_pending (s : State) :
    (State.enforceBoard s).pending = s.pending := by
  simp [State.enforceBoard]

@[simp] theorem State.enforceInputs_pending (s : State) :
    (State.enforceInputs s).pending = s.pending := by
  simp [State.enforceInputs]

@[simp] theorem State.enforceRoles_pending (s : State) (old : Struct) :
    (State.enforceRoles s old).pending = s.pending := by
  simp [State.enforceRoles]

@[simp] theorem State.enforceOutputs_pending (s : State) (old : Struct) :
    (State.enforceOutputs s old).pending = s.pending := by
  simp [State.enforceOutputs]

@[simp] theorem State.refreshVfs_pending (s : State) :
    (State.refreshVfs s).pending = s.pending := by
  simp [State.refreshVfs]

@[simp] theorem State.enforceParts_pending (s : State) (old : Struct) :
    (State.enforceParts s old).pending = s.pending := by
  simp [State.enforceParts, foldl_pending]

@[simp] theorem State.enforceRegions_pending (s : State) (old : Struct) :
    (State.enforceRegions s old).pending = s.pending := by
  unfold State.enforceRegions
  refine (foldl_pending _ (fun s r => ?_) _ _).trans (foldl_pending _ (fun s r => ?_) _ _)
  · refine (foldl_pending _ (fun s l => ?_) _ _).trans rfl
    split
    · split <;> simp
    · rfl
  · rfl

@[simp] theorem State.enforceExports_pending (s : State) (old : Struct) :
    (State.enforceExports s old).pending = s.pending := by
  simp [State.enforceExports, foldl_pending]

@[simp] theorem State.enforceLinks_pending (s : State) (old : Struct) :
    (State.enforceLinks s old).pending = s.pending := by
  simp [State.enforceLinks, foldl_pending]

@[simp] theorem State.enforceCamera_pending (s : State) (old : Struct) :
    (State.enforceCamera s old).pending = s.pending := by
  simp [State.enforceCamera]

@[simp] theorem State.enforceStreams_pending (s : State) (old : Struct) :
    (State.enforceStreams s old).pending = s.pending := by
  simp [State.enforceStreams]

@[simp] theorem State.enforceStages_pending (s : State) :
    (State.enforceStages s).pending = s.pending := by
  simp [State.enforceStages]

@[simp] theorem State.enforceSafety_pending (s : State) (core : Option Bytes) :
    (State.enforceSafety s core).pending = s.pending := by
  unfold State.enforceSafety; (repeat' split) <;> simp [*]

@[simp] theorem State.enforce_pending (s : State) (old : Struct) (core : Option Bytes) :
    (State.enforce s old core).pending = s.pending := by
  simp [State.enforce]

@[simp] theorem State.mapSlot_pending (s : State) (n : Nat) (g : ImgSlot → ImgSlot) :
    (State.mapSlot s n g).pending = s.pending := by
  simp [State.mapSlot]

@[simp] theorem State.applySlot_pending (s : State) (n : Nat) :
    (State.applySlot s n).pending = s.pending := by
  unfold State.applySlot; (repeat' split) <;> simp [*]

@[simp] theorem State.rejectApply_pending (s : State) (n : Nat) (a : Apply) (status : Nat) (detail : Nat) :
    (State.rejectApply s n a status detail).pending = s.pending := by
  simp [State.rejectApply]

@[simp] theorem State.swapFrame_pending (s : State) (r : Nat) (n : Nat) (a : Apply) :
    (State.swapFrame s r n a).pending = s.pending := by
  simp [State.swapFrame]

@[simp] theorem State.missFrame_pending (s : State) (r : Nat) (n : Nat) (a : Apply) :
    (State.missFrame s r n a).pending = s.pending := by
  simp [State.missFrame]

@[simp] theorem State.unpowered_pending (s : State) :
    (State.unpowered s).pending = s.pending := by
  simp [State.unpowered]

@[simp] theorem State.dropMain_pending (s : State) (vin : Bool) :
    (State.dropMain s vin).pending = s.pending := by
  simp [State.dropMain]

@[simp] theorem State.askWarm_pending (s : State) (f : Part) (w : U32) :
    (State.askWarm s f w).pending = s.pending := by
  simp [State.askWarm]

@[simp] theorem State.askCold_pending (s : State) (f : Part) (w : U32) :
    (State.askCold s f w).pending = s.pending := by
  simp [State.askCold]

@[simp] theorem State.checkerFails_pending (s : State) (c : Nat × Nat) (g : Nat) :
    (State.checkerFails s c g).pending = s.pending := by
  simp [State.checkerFails]

@[simp] theorem State.pairWrite_pending (s : State) (f : Part) (w : U32) :
    (State.pairWrite s f w).pending = s.pending := by
  simp [State.pairWrite]

@[simp] theorem State.draw_pending (s : State) (n : Nat) : (s.draw n).2.pending = s.pending := by simp [State.draw]

@[simp] theorem State.dropBlobs_pending (s : State) (a : Nat) (n : Nat) :
    (State.dropBlobs s a n).pending = s.pending := by
  simp [State.dropBlobs]

@[simp] theorem State.failLoad_pending (s : State) (f : Nat) (q : Nat) (pos : Nat) (status : Nat) (detail : Nat) (c : Cmd) (payload : Nat) :
    (State.failLoad s f q pos status detail c payload).pending = s.pending := by
  simp [State.failLoad]

@[simp] theorem State.openPackage_pending (s : State) (f : Nat) (q : Nat) (c : Cmd) (b : Bytes) (key : Bytes) (ep : Bool) :
    (State.openPackage s f q c b key ep).pending = s.pending := by
  unfold State.openPackage; simp only []; split
  · simp
  · split
    · simp
    · split <;> simp

@[simp] theorem State.newMemoryKey_pending (s : State) :
    (State.newMemoryKey s).pending = s.pending := by
  simp [State.newMemoryKey]

@[simp] theorem State.tagChanged_pending (s : State) :
    (State.tagChanged s).pending = s.pending := by
  simp [State.tagChanged]

@[simp] theorem State.setSpdm_pending (s : State) (p : SpdmPort) (x : Spdm) :
    (State.setSpdm s p x).pending = s.pending := by
  unfold State.setSpdm; (repeat' split) <;> simp [*]

@[simp] theorem State.endConsent_pending (s : State) :
    (State.endConsent s).pending = s.pending := by
  unfold State.endConsent; (repeat' split) <;> simp [*]

@[simp] theorem State.clearRsq_pending (s : State) (off : Nat) :
    (State.clearRsq s off).pending = s.pending := by
  simp [State.clearRsq]

@[simp] theorem State.clearCin_pending (s : State) (off : Nat) :
    (State.clearCin s off).pending = s.pending := by
  simp [State.clearCin]

@[simp] theorem State.clearIsp_pending (s : State) (off : Nat) :
    (State.clearIsp s off).pending = s.pending := by
  simp [State.clearIsp]

@[simp] theorem State.clearStage_pending (s : State) (i : Nat) (r : Nat) :
    (State.clearStage s i r).pending = s.pending := by
  simp [State.clearStage]

@[simp] theorem State.clearMash_pending (s : State) (off : Nat) :
    (State.clearMash s off).pending = s.pending := by
  simp [State.clearMash]

@[simp] theorem State.clearNec_pending (s : State) (off : Nat) :
    (State.clearNec s off).pending = s.pending := by
  simp [State.clearNec]

@[simp] theorem State.clearMem_pending (s : State) (off : Nat) :
    (State.clearMem s off).pending = s.pending := by
  simp [State.clearMem]

@[simp] theorem State.clearLnk_pending (s : State) (off : Nat) :
    (State.clearLnk s off).pending = s.pending := by
  simp [State.clearLnk]

@[simp] theorem State.clearTmg_pending (s : State) (off : Nat) :
    (State.clearTmg s off).pending = s.pending := by
  simp [State.clearTmg]

@[simp] theorem State.clearSaf_pending (s : State) (off : Nat) :
    (State.clearSaf s off).pending = s.pending := by
  simp [State.clearSaf]

@[simp] theorem State.clearMgt_pending (s : State) (off : Nat) :
    (State.clearMgt s off).pending = s.pending := by
  simp [State.clearMgt]

@[simp] theorem State.clearLog_pending (s : State) (off : Nat) :
    (State.clearLog s off).pending = s.pending := by
  simp [State.clearLog]

@[simp] theorem State.clearBlocks_pending (s : State) (off : Nat) :
    (State.clearBlocks s off).pending = s.pending := by
  unfold State.clearBlocks; simp only []; split
  any_goals simp
  split
  · exact State.clearStage_pending ..
  · split
    · exact State.clearMash_pending ..
    · split
      · exact State.clearNec_pending ..
      · rfl

@[simp] theorem State.readEffect_pending (s : State) (f : Part) (bar : Bar) (off : Nat) :
    (State.readEffect s f bar off).pending = s.pending := by
  unfold State.readEffect; (repeat' split) <;> simp [*]

@[simp] theorem State.readBar_pending (s : State) (f : Part) (bar : Bar) (off : Nat) (size : Nat) :
    (State.readBar s f bar off size).pending = s.pending := by
  simp [State.readBar]

@[simp] theorem State.debugServe_pending (s : State) (op : DebugOp) :
    (State.debugServe s op).pending = s.pending := by
  unfold State.debugServe; (repeat' split) <;> simp [*]

@[simp] theorem State.memCorrected_pending (s : State) (a : Nat) :
    (State.memCorrected s a).pending = s.pending := by
  simp [State.memCorrected]

@[simp] theorem State.memUncorrectable_pending (s : State) (a : Nat) :
    (State.memUncorrectable s a).pending = s.pending := by
  simp [State.memUncorrectable]

@[simp] theorem State.countFind_pending (s : State) (a : Nat) (e : EccFind) : (s.countFind a e).pending = s.pending := by
  cases e <;> simp [State.countFind]

@[simp] theorem State.pairFill_pending (s : State) (a : Nat) :
    (State.pairFill s a).pending = s.pending := by
  simp [State.pairFill]

@[simp] theorem State.keepSeq_pending (s : State) (l : Log) :
    (State.keepSeq s l).pending = s.pending := by
  simp [State.keepSeq]

@[simp] theorem State.appendNext_pending (s : State) :
    (State.appendNext s).pending = s.pending := by
  unfold State.appendNext; (repeat' split) <;> simp [*]

@[simp] theorem State.norCopy_pending (s : State) (ok : Bool) :
    (State.norCopy s ok).pending = s.pending := by
  unfold State.norCopy; (repeat' split) <;> simp [*]

@[simp] theorem State.appendMany_pending (s : State) (n : Nat) : (State.appendMany s n).pending = s.pending := by
  induction n generalizing s with
  | zero => rfl
  | succ n ih => unfold State.appendMany; simp [ih]

@[simp] theorem State.copyMany_pending (s : State) (n : Nat) : (State.copyMany s n).pending = s.pending := by
  induction n generalizing s with
  | zero => rfl
  | succ n ih => unfold State.copyMany; simp [ih]

@[simp] theorem State.endInterval_pending (s : State) :
    (State.endInterval s).pending = s.pending := by
  simp [State.endInterval]

@[simp] theorem State.patrolUe_pending (s : State) (block : Nat) (a : Nat) (intervened : Bool) :
    (State.patrolUe s block a intervened).pending = s.pending := by
  simp [State.patrolUe]

@[simp] theorem State.patrolBlock_pending (s : State) (block : Nat) (errs : List Bytes) (intervened : Bool) :
    (State.patrolBlock s block errs intervened).pending = s.pending := by
  refine foldl_pending _ (fun s x => ?_) _ _
  dsimp only
  split
  · rfl
  · split <;> simp

@[simp] theorem State.defer_pending (s : State) (activity : Nat) :
    (State.defer s activity).pending = s.pending := by
  simp [State.defer]

@[simp] theorem State.setBg_pending (s : State) (f : Part) (w : U32) :
    (State.setBg s f w).pending = s.pending := by
  simp [State.setBg]

@[simp] theorem State.askSource_pending (s : State) (part : Nat) (board : Nat) (a : Nat) (n : Nat) (cmd : Option (Nat × Nat × Nat)) :
    (State.askSource s part board a n cmd).pending = s.pending := by
  simp [State.askSource, foldl_pending]

@[simp] theorem State.sendOwn_pending (s : State) (f : Nat) (q : Nat) (c : Cmd) :
    (State.sendOwn s f q c).pending = s.pending := by
  unfold State.sendOwn; simp only []; (repeat' split) <;> simp_all

@[simp] theorem State.startApply_pending (s : State) (f : Nat) (q : Nat) (c : Cmd) (point : ApplyPoint) :
    (State.startApply s f q c point).pending = s.pending := by
  unfold State.startApply; simp only []; (repeat' split) <;> simp_all

@[simp] theorem State.settleWindows_pending (s : State) (route : Nat) :
    (State.settleWindows s route).pending = s.pending := by
  simp [State.settleWindows, foldl_pending]

@[simp] theorem State.readmit_pending (s : State) (b : Nat) :
    (State.readmit s b).pending = s.pending := by
  simp [State.readmit]

@[simp] theorem State.returned_pending (s : State) (b : Nat) (tag : Bytes) :
    (State.returned s b tag).pending = s.pending := by
  simp [State.returned]

@[simp] theorem State.dropHomed_pending (s : State) (b : Nat) :
    (State.dropHomed s b).pending = s.pending := by
  simp [State.dropHomed, foldl_pending]

@[simp] theorem State.dropHolder_pending (s : State) (b : Nat) :
    (State.dropHolder s b).pending = s.pending := by
  simp [State.dropHolder, foldl_pending]

@[simp] theorem State.oweCredits_pending (s : State) (p : Nat) (m : Msg) (len : Nat) :
    (State.oweCredits s p m len).pending = s.pending := by
  simp [State.oweCredits]

@[simp] theorem State.relay_pending (s : State) (p n : Nat) (b : Bytes) : (State.relay p n s b).1.pending = s.pending := by
  induction n generalizing s b with
  | zero => rfl
  | succ n ih => unfold State.relay; simp only []; (repeat' split) <;> simp [ih]

@[simp] theorem State.replay_pending (s : State) (p : Nat) :
    (State.replay s p).pending = s.pending := by
  simp [State.replay]

@[simp] theorem State.restartMessage_pending (s : State) (dest : Nat) (f : Nat) (q : Nat) (c : Cmd) :
    (State.restartMessage s dest f q c).pending = s.pending := by
  simp [State.restartMessage]

@[simp] theorem State.taskFault_pending (s : State) (c : Nat) (cause : Nat) (ea : Option Nat) :
    (State.taskFault s c cause ea).pending = s.pending := by
  unfold State.taskFault; simp only []; (repeat' split) <;> simp_all

@[simp] theorem State.issue_pending (s : State) (c : Nat) (op : Nat) (w : U64) (fields : Nat) (act : Core → Task → State) (h_act : ∀ x0 x1, (act x0 x1).pending = s.pending) :
    (State.issue s c op w fields act).pending = s.pending := by
  unfold State.issue; simp only []; (repeat' split) <;> simp_all

@[simp] theorem State.markFrame_pending (s : State) (own : Nat × Nat × Nat) (poisoned : Bool) (lost : Bool) :
    (State.markFrame s own poisoned lost).pending = s.pending := by
  simp [State.markFrame]

@[simp] theorem State.markOwner_pending (s : State) (c : Nat) (own : Nat × Nat × Nat) (b : Bool) :
    (State.markOwner s c own b).pending = s.pending := by
  simp [State.markOwner]

@[simp] theorem State.askPiece_pending (s : State) (c : Nat) (x : Xfer) (a n : Nat) : (s.askPiece c x a n).1.pending = s.pending := by
  unfold State.askPiece; simp only []; split <;> simp [foldl_pending]

@[simp] theorem State.pieceRead_pending (s : State) (c : Nat) (x : Xfer) (host : Bool) (a : Nat) (n : Nat) (bad : List Nat) :
    (State.pieceRead s c x host a n bad).pending = s.pending := by
  simp [State.pieceRead, foldl_pending]

@[simp] theorem State.storePiece_pending (s : State) (part : Nat) (host : Bool) (a : Nat) (bs : Bytes) (bad : List Nat) (cmd : Option (Nat × Nat × Nat)) :
    (State.storePiece s part host a bs bad cmd).pending = s.pending := by
  simp [State.storePiece, foldl_pending]

@[simp] theorem State.moveRows_pending (s : State) (c : Nat) (h : HostRead) (a n : Nat) (x : Xfer) : (State.moveRows s c h a n x).1.pending = s.pending := by
  induction n generalizing s x with
  | zero => rfl
  | succ n ih => unfold State.moveRows; simp only []; (repeat' split) <;> simp [ih]

@[simp] theorem State.moveCask_pending (s : State) (c : Nat) (h : HostRead) (a n : Nat) (x : Xfer) : (State.moveCask s c h a n x).1.pending = s.pending := by
  induction n generalizing s x with
  | zero => rfl
  | succ n ih => unfold State.moveCask; simp only []; (repeat' split) <;> simp [ih]

@[simp] theorem State.moveXfer_pending (s : State) (c : Nat) (h : HostRead) (n : Nat) (x : Xfer) : (s.moveXfer c h n x).1.pending = s.pending := by
  unfold State.moveXfer; split <;> simp

@[simp] theorem State.publishTask_pending (s : State) (c : Nat) (t : Task) (desc : Bytes) :
    (State.publishTask s c t desc).pending = s.pending := by
  unfold State.publishTask; (repeat' split) <;> simp [*]

@[simp] theorem State.releaseStall_pending (s : State) (c : Nat) :
    (State.releaseStall s c).pending = s.pending := by
  unfold State.releaseStall; simp only []; (repeat' split) <;> simp_all

@[simp] theorem State.caskOp_pending (s : State) (c : Nat) (w : U64) (ok : CaskCfg → Bool) (act : CaskCfg → State) (h_act : ∀ x0, (act x0).pending = s.pending) :
    (State.caskOp s c w ok act).pending = s.pending := by
  unfold State.caskOp; (repeat' split) <;> simp [*]

@[simp] theorem State.endCwait_pending (s : State) (c : Nat) (p : Bool) :
    (State.endCwait s c p).pending = s.pending := by
  simp [State.endCwait]

@[simp] theorem State.doCrd_pending (s : State) (c : Nat) (v : Nat) (idx : Nat) (off : Nat) (k : CaskCfg) :
    (State.doCrd s c v idx off k).pending = s.pending := by
  simp [State.doCrd]

@[simp] theorem State.doCpush_pending (s : State) (c : Nat) (v : Nat) (idx : Nat) (k : CaskCfg) :
    (State.doCpush s c v idx k).pending = s.pending := by
  simp [State.doCpush]

@[simp] theorem State.startDma_pending (s : State) (c : Nat) (w : U64) (into : Bool) (x : Core) (t : Task) :
    (State.startDma s c w into x t).pending = s.pending := by
  unfold State.startDma; simp only []; (repeat' split) <;> simp_all

@[simp] theorem State.issuePlain_pending (s : State) (c : Nat) (act : Core → Task → State) (h_act : ∀ x0 x1, (act x0 x1).pending = s.pending) :
    (State.issuePlain s c act).pending = s.pending := by
  unfold State.issuePlain; simp only []; (repeat' split) <;> simp_all

@[simp] theorem State.halt_pending (s : State) (f : Nat) (q : Nat) (error : Nat) :
    (State.halt s f q error).pending = s.pending := by
  simp [State.halt]

@[simp] theorem State.raise_pending (s : State) (f : Nat) (q : Nat) :
    (State.raise s f q).pending = s.pending := by
  simp [State.raise]

@[simp] theorem State.postEntry_pending (s : State) (f : Nat) (q : Nat) (seq : Nat) (status : Nat) (detail : Nat) (source : Nat) :
    (State.postEntry s f q seq status detail source).pending = s.pending := by
  simp [State.postEntry]

@[simp] theorem State.settle_pending (s : State) (f : Nat) (q : Nat) :
    (State.settle s f q).pending = s.pending := by
  simp [State.settle]

@[simp] theorem State.postAborted_pending (s : State) (f : Nat) (q : Nat) (status : Nat) (a : Aborted) :
    (State.postAborted s f q status a).pending = s.pending := by
  simp [State.postAborted]

@[simp] theorem State.postAborts_pending (s : State) (f q n : Nat) : (State.postAborts s f q n).pending = s.pending := by
  induction n generalizing s with
  | zero => rfl
  | succ n ih => unfold State.postAborts; simp only []; (repeat' split) <;> simp [ih]

@[simp] theorem State.ringTail_pending (s : State) (f : Part) (q : Fin 64) (idx : BitVec 16) :
    (State.ringTail s f q idx).pending = s.pending := by
  simp [State.ringTail]

@[simp] theorem State.ringHead_pending (s : State) (f : Part) (q : Fin 64) (idx : BitVec 16) :
    (State.ringHead s f q idx).pending = s.pending := by
  simp [State.ringHead]

@[simp] theorem State.takeDescriptor_pending (s : State) (f : Nat) (q : Nat) (d : Bytes) :
    (State.takeDescriptor s f q d).pending = s.pending := by
  unfold State.takeDescriptor; simp only []; (repeat' split) <;> simp_all

@[simp] theorem State.settleLoad_pending (s : State) (f : Nat) (q : Nat) (pos : Nat) (ok : Bool) :
    (State.settleLoad s f q pos ok).pending = s.pending := by
  simp [State.settleLoad]

@[simp] theorem State.turnOn_pending (s : State) (f : Part) (q : Fin 64) (w : U32) :
    (State.turnOn s f q w).pending = s.pending := by
  simp [State.turnOn]

@[simp] theorem State.turnOff_pending (s : State) (f : Part) (q : Fin 64) (w : U32) :
    (State.turnOff s f q w).pending = s.pending := by
  simp [State.turnOff]

@[simp] theorem State.setMode_pending (s : State) (m : Nat) :
    (State.setMode s m).pending = s.pending := by
  simp [State.setMode]

@[simp] theorem State.closeLoop_pending (s : State) :
    (State.closeLoop s).pending = s.pending := by
  simp [State.closeLoop]

@[simp] theorem State.askClosed_pending (s : State) (f : Part) (w : U32) :
    (State.askClosed s f w).pending = s.pending := by
  simp [State.askClosed]

@[simp] theorem State.askHold_pending (s : State) (f : Part) (w : U32) :
    (State.askHold s f w).pending = s.pending := by
  simp [State.askHold]

@[simp] theorem State.askSoftware_pending (s : State) (f : Part) (w : U32) :
    (State.askSoftware s f w).pending = s.pending := by
  simp [State.askSoftware]

@[simp] theorem State.setDco_pending (s : State) (f : Part) (upper : U32) :
    (State.setDco s f upper).pending = s.pending := by
  simp [State.setDco]

@[simp] theorem State.setTod_pending (s : State) (f : Part) (upper : U32) :
    (State.setTod s f upper).pending = s.pending := by
  simp [State.setTod]

@[simp] theorem State.askStep_pending (s : State) (f : Part) (upper : U32) :
    (State.askStep s f upper).pending = s.pending := by
  simp [State.askStep]

@[simp] theorem State.askRealign_pending (s : State) (f : Part) (output : Fin 9) (w : U32) :
    (State.askRealign s f output w).pending = s.pending := by
  simp [State.askRealign]

@[simp] theorem State.realignStep_pending (s : State) (o : Nat) :
    (State.realignStep s o).pending = s.pending := by
  unfold State.realignStep; (repeat' split) <;> simp [*]

@[simp] theorem State.takeRequest_pending (s : State) (request : Nat) :
    (State.takeRequest s request).pending = s.pending := by
  simp [State.takeRequest]

@[simp] theorem State.askClaim_pending (s : State) (f : Part) (w : U32) :
    (State.askClaim s f w).pending = s.pending := by
  simp [State.askClaim]

@[simp] theorem State.askRotate_pending (s : State) (f : Part) (w : U32) :
    (State.askRotate s f w).pending = s.pending := by
  simp [State.askRotate]

@[simp] theorem State.installTenant_pending (s : State) (key : Bytes) (base : Nat) :
    (State.installTenant s key base).pending = s.pending := by
  simp [State.installTenant]

@[simp] theorem State.spdmAnswer_pending (s : State) (p : SpdmPort) (ok : Bool) (data : Bytes) (g : Spdm → Spdm) :
    (State.spdmAnswer s p ok data g).pending = s.pending := by
  simp [State.spdmAnswer]

@[simp] theorem State.setTdi_pending (s : State) (f : Part) (t : Tdi) :
    (State.setTdi s f t).pending = s.pending := by
  simp [State.setTdi]

@[simp] theorem State.leaveSecure_pending (s : State) (stream : Fin 17) :
    (State.leaveSecure s stream).pending = s.pending := by
  unfold State.leaveSecure; (repeat' split) <;> simp [*, foldl_pending]

@[simp] theorem State.mapFn_pending (s : State) (f : Nat) (g : Fn → Fn) :
    (State.mapFn s f g).pending = s.pending := by
  simp [State.mapFn]

@[simp] theorem State.pokeQueue_pending (s : State) (f : Part) (q : Fin 64) (r : Nat) (w : U32) :
    (State.pokeQueue s f q r w).pending = s.pending := by
  simp [State.pokeQueue]

@[simp] theorem State.pokeFn_pending (s : State) (f : Part) (off : Nat) (w : U32) :
    (State.pokeFn s f off w).pending = s.pending := by
  simp [State.pokeFn]

@[simp] theorem State.pokeBar2_pending (s : State) (f : Part) (off : Nat) (w : U32) :
    (State.pokeBar2 s f off w).pending = s.pending := by
  simp [State.pokeBar2]

@[simp] theorem State.pokeCin_pending (s : State) (off : Nat) (w : U32) :
    (State.pokeCin s off w).pending = s.pending := by
  simp [State.pokeCin]

@[simp] theorem State.setQl_pending (s : State) (i : Nat) (ql : Nat) :
    (State.setQl s i ql).pending = s.pending := by
  simp [State.setQl]

theorem iteEq_pending {c : Prop} [Decidable c] {s a b : State} (h1 : a.pending = s.pending) (h2 : b.pending = s.pending) :
    (if c then a else b).pending = s.pending := by
  split <;> assumption

@[simp] theorem State.pokeTmg_pending (s : State) (off : Nat) (w : U32) :
    (State.pokeTmg s off w).pending = s.pending := by
  refine iteEq_pending ?_ (iteEq_pending ?_ (iteEq_pending ?_ (iteEq_pending ?_ (iteEq_pending ?_ (iteEq_pending ?_ (iteEq_pending ?_ (iteEq_pending ?_ (iteEq_pending ?_
    (iteEq_pending ?_ (iteEq_pending ?_ ?_))))))))))
  · split <;> simp
  · exact iteEq_pending rfl rfl
  · simp
  · rfl
  · simp
  · rfl
  · simp
  · rfl
  · rfl
  · exact iteEq_pending (by simp) rfl
  · exact iteEq_pending (by simp) rfl
  · rfl

@[simp] theorem State.pokeSec_pending (s : State) (off : Nat) (w : U32) :
    (State.pokeSec s off w).pending = s.pending := by
  unfold State.pokeSec; (repeat' split) <;> simp [*]

@[simp] theorem State.pokeRange_pending (s : State) (off : Nat) (w : U32) :
    (State.pokeRange s off w).pending = s.pending := by
  simp [State.pokeRange]

@[simp] theorem State.pokeFw_pending (s : State) (w : U32) :
    (State.pokeFw s w).pending = s.pending := by
  unfold State.pokeFw; (repeat' split) <;> simp [*]

@[simp] theorem State.pokeMgt_pending (s : State) (off : Nat) (w : U32) :
    (State.pokeMgt s off w).pending = s.pending := by
  simp [State.pokeMgt]

@[simp] theorem State.pokeRec_pending (s : State) (off : Nat) (w : U32) :
    (State.pokeRec s off w).pending = s.pending := by
  unfold State.pokeRec; (repeat' split) <;> simp [*]

@[simp] theorem State.pokePwr_pending (s : State) (off : Nat) (w : U32) :
    (State.pokePwr s off w).pending = s.pending := by
  simp [State.pokePwr]

@[simp] theorem State.pokePf_pending (s : State) (off : Nat) (w : U32) :
    (State.pokePf s off w).pending = s.pending := by
  unfold State.pokePf; (repeat' split) <;> simp [*]

@[simp] theorem State.poke_pending (s : State) (f : Part) (bar : Bar) (off : Nat) (w : U32) :
    (State.poke s f bar off w).pending = s.pending := by
  unfold State.poke; (repeat' split) <;> simp [*]

@[simp] theorem State.freeStage_pending (s : State) (r : Nat) (id : Nat) (m : NodeRun) :
    (State.freeStage s r id m).pending = s.pending := by
  unfold State.freeStage
  dsimp only
  split
  · split
    · rw [State.mapFrame_pending]
    · rfl
  · rfl

@[simp] theorem State.haltEngine_pending (s : State) (e : Nat) :
    (State.haltEngine s e).pending = s.pending := by
  simp [State.haltEngine]

@[simp] theorem State.beginGather_pending (s : State) (f : Nat) (q : Nat) (c : Cmd) (b : Bytes) (ep : Bool) (scalar : Nat) (own : Nat) (share : Bytes) :
    (State.beginGather s f q c b ep scalar own share).pending = s.pending := by
  simp [State.beginGather]

@[simp] theorem State.mapBlob_pending (s : State) (i : Nat) (g : Blob → Blob) :
    (State.mapBlob s i g).pending = s.pending := by
  simp [State.mapBlob]

@[simp] theorem State.poisonBlob_pending (s : State) (i : Nat) (b : Blob) :
    (State.poisonBlob s i b).pending = s.pending := by
  simp [State.poisonBlob]

@[simp] theorem State.switchTo_pending (s : State) (st : SwStep) :
    (State.switchTo s st).pending = s.pending := by
  simp [State.switchTo]

@[simp] theorem State.abortFrameApplies_pending (s : State) :
    (State.abortFrameApplies s).pending = s.pending := by
  unfold State.abortFrameApplies
  refine foldl_pending _ (fun s x => ?_) _ _
  split
  · split <;> simp
  · rfl

@[simp] theorem State.abortQueue_pending (s : State) (f : Nat) (q : Nat) :
    (State.abortQueue s f q).pending = s.pending := by
  simp [State.abortQueue, foldl_pending]

@[simp] theorem State.removeVfs_pending (s : State) :
    (State.removeVfs s).pending = s.pending := by
  simp [State.removeVfs]

@[simp] theorem State.dropTenantSections_pending (s : State) :
    (State.dropTenantSections s).pending = s.pending := by
  simp [State.dropTenantSections]

@[simp] theorem State.destroyKeys_pending (s : State) :
    (State.destroyKeys s).pending = s.pending := by
  simp [State.destroyKeys]

@[simp] theorem State.renewPorts_pending (s : State) :
    (State.renewPorts s).pending = s.pending := by
  simp [State.renewPorts, foldl_pending]

@[simp] theorem State.scrub_pending (s : State) :
    (State.scrub s).pending = s.pending := by
  simp [State.scrub]

@[simp] theorem State.endSwitch_pending (s : State) :
    (State.endSwitch s).pending = s.pending := by
  simp [State.endSwitch, foldl_pending]

end Sys2Proof.Machine
end

