-- ==== Sys2Proof/Laws/Ops.lean ====
section
/-! SUPPORT. What the shared operations of `Machine/Ops.lean` do: association lists, queues, events and the fixing of a status. -/

namespace Sys2Proof.Machine

/-! Association lists. -/

@[simp] theorem alookup_aset_same {α : Type} (l : List (Nat × α)) (k : Nat) (v : α) : alookup (aset l k v) k = some v := by
  induction l with
  | nil => simp [aset, alookup]
  | cons p t ih =>
    obtain ⟨a, w⟩ := p
    unfold aset
    split
    · simp [alookup]
    · split
      · simp [alookup]
      · rename_i h1 h2
        have : a ≠ k := by omega
        simp [alookup, this, ih]

theorem alookup_aset_other {α : Type} (l : List (Nat × α)) (k j : Nat) (v : α) (h : j ≠ k) :
    alookup (aset l k v) j = alookup l j := by
  have h' : k ≠ j := fun e => h e.symm
  induction l with
  | nil => simp [aset, alookup, h']
  | cons p t ih =>
    obtain ⟨a, w⟩ := p
    unfold aset
    split
    · simp [alookup, h']
    · split
      · rename_i h1 h2
        subst h2
        simp [alookup, h']
      · simp [alookup, ih]

@[simp] theorem agetD_aset_same {α : Type} (l : List (Nat × α)) (k : Nat) (v d : α) : agetD (aset l k v) k d = v := by
  simp [agetD]

theorem agetD_aset_other {α : Type} (l : List (Nat × α)) (k j : Nat) (v d : α) (h : j ≠ k) :
    agetD (aset l k v) j d = agetD l j d := by
  simp [agetD, alookup_aset_other l k j v h]

/-! Queues. -/

@[simp] theorem State.queue_setQueue_same (s : State) (f q : Nat) (x : Queue) : (s.setQueue f q x).queue f q = x := by
  simp [State.queue]

theorem State.queue_setQueue_other (s : State) (f q f' q' : Nat) (x : Queue) (h : 64 * f' + q' ≠ 64 * f + q) :
    (s.setQueue f q x).queue f' q' = s.queue f' q' := by
  simp only [State.queue, State.setQueue_hif]
  exact agetD_aset_other _ _ _ _ _ h

theorem State.queue_of_hif {s t : State} (h : t.hif.queues = s.hif.queues) (f q : Nat) : t.queue f q = s.queue f q := by
  simp [State.queue, h]

/-! Partition events (R148, Table 4-6). -/

/-- An event sets its cause bit and joins the function's events; every other function and every other part of the state stays. -/
theorem State.event_eq (s : State) (f c source : Nat) (h : f < 16) :
    s.event f c source = { s with hif := { s.hif with fns := s.hif.fns.set f ({ s.hif.fns[f] with
      cause := s.hif.fns[f].cause ||| (1 <<< c), events := insertEvent (s.gtcNs, source, c) s.hif.fns[f].events } : Fn) } } := by
  simp [State.event, h]

@[simp] theorem State.event_queues (s : State) (f c source : Nat) : (s.event f c source).hif.queues = s.hif.queues := by
  unfold State.event
  split <;> rfl

@[simp] theorem State.event_queue (s : State) (f c source f' q' : Nat) : (s.event f c source).queue f' q' = s.queue f' q' :=
  State.queue_of_hif (State.event_queues ..) _ _

@[simp] theorem State.emit_queue (s : State) (o : Out) (f q : Nat) : (s.emit o).queue f q = s.queue f q := rfl

/-- What an event leaves alone. -/
theorem State.event_frame (s : State) (f c source : Nat) :
    s.event f c source = { s with hif := (s.event f c source).hif } := by
  unfold State.event
  split <;> rfl

/-! Fixing a status (R680, R129). -/

/-- With the command in the queue and not yet fixed, its status stands in the queue, and the status byte of an executed one
goes to the history region. -/
theorem State.fix_eq (s : State) (f q pos status detail source : Nat) (c : Cmd)
    (h : (s.queue f q).cmds.find? (fun c => c.pos = pos && !c.fixed) = some c) :
    (s.fix f q pos status detail source).queue f q = { s.queue f q with
      cmds := (s.queue f q).cmds.map fun c =>
        if c.pos = pos then { c with begun := true, fixed := true, outcome := some (status, detail, source) } else c
      hist := if c.kind = .execute then aset (s.queue f q).hist (c.seq % 65536) status else (s.queue f q).hist } := by
  unfold State.fix
  simp only [h]
  split
  · split
    · simp only [State.emit_queue, State.event_queue, State.queue_setQueue_same, if_pos, *]
    · simp only [State.emit_queue, State.queue_setQueue_same, if_pos, *]
  · rename_i hk
    simp only [State.queue_setQueue_same, if_neg hk]

/-- Fixing a status touches the host interface and what goes out, and nothing else. -/
theorem State.fix_frame (s : State) (f q pos status detail source : Nat) :
    s.fix f q pos status detail source =
      { s with hif := (s.fix f q pos status detail source).hif, out := (s.fix f q pos status detail source).out } := by
  unfold State.fix
  simp only []
  split
  · rfl
  · split
    · split
      · rw [State.event_frame]
        rfl
      · rfl
    · rfl

theorem State.fix_other (s : State) (f q pos status detail source f' q' : Nat) (h : 64 * f' + q' ≠ 64 * f + q) :
    (s.fix f q pos status detail source).queue f' q' = s.queue f' q' := by
  unfold State.fix
  simp only []
  split
  · rfl
  · split
    · split
      · rw [State.emit_queue, State.event_queue, State.queue_setQueue_other _ _ _ _ _ _ h]
      · rw [State.emit_queue, State.queue_setQueue_other _ _ _ _ _ _ h]
    · exact State.queue_setQueue_other _ _ _ _ _ _ h

/-- The oldest command that has not begun: what `State.front` answers (R136, R139). -/
theorem State.front_some (s : State) (f q opcode : Nat) (c : Cmd) (h : s.front f q opcode = some c) :
    c ∈ (s.queue f q).cmds ∧ c.kind = .execute ∧ c.begun = false ∧ c.fixed = false ∧ c.opcode = opcode := by
  unfold State.front at h
  simp only [] at h
  split at h
  · rename_i x hx
    split at h
    · rename_i hc
      cases h
      have h1 := List.mem_of_find?_eq_some hx
      have h2 := List.find?_some hx
      simp at h1 h2 hc
      exact ⟨h1.1, h1.2, h2.1, h2.2, hc.1.2⟩
    · cases h
  · cases h

end Sys2Proof.Machine
end

