-- ==== Sys2Proof/Laws/Puts.lean ====
section
/-! SUPPORT. Writing local bytes while no other board holds a copy: the bytes written read so, and every other byte as before. -/

namespace Sys2Proof.Machine

/-- With no other board's copy and no transaction, a write in its lines' order is the plain write. -/
theorem State.put_plain (s : State) (part a : Nat) (bs : Bytes) (poison : Bool) (hd : s.fab.dir = []) (ht : s.fab.txns = []) :
    s.put part a bs poison = s.memWrite a bs poison := by
  simp [State.put, hd, ht]

theorem State.away_plain (s : State) (a n : Nat) (hd : s.fab.dir = []) (ht : s.fab.txns = []) : s.away a n = [] := by
  simp [State.away, hd, ht]

/-- The fold over sectors: what `putMixed` leaves at an address. -/
theorem State.putSectors_get (part a : Nat) (bs : Bytes) (pz : Nat → Bool) (l : List Nat) (s : State)
    (hd : s.fab.dir = []) (ht : s.fab.txns = []) (x : Nat) :
    (l.foldl (fun s k => s.put part (max a (64 * k)) ((bs.drop (max a (64 * k) - a)).take (min (a + bs.length) (64 * k + 64) - max a (64 * k))) (pz k)) s).mem.get x =
      if x / 64 ∈ l ∧ a ≤ x ∧ x < a + bs.length then bs.getD (x - a) 0 else s.mem.get x := by
  induction l generalizing s with
  | nil => simp
  | cons k t ih =>
    rw [List.foldl_cons, ih _ (by rw [State.put_plain _ _ _ _ _ hd ht]; simpa using hd) (by rw [State.put_plain _ _ _ _ _ hd ht]; simpa using ht),
      State.put_plain _ _ _ _ _ hd ht]
    by_cases h1 : x / 64 ∈ t ∧ a ≤ x ∧ x < a + bs.length
    · simp [h1]
    · rw [if_neg h1]
      have hlen : ((bs.drop (max a (64 * k) - a)).take (min (a + bs.length) (64 * k + 64) - max a (64 * k))).length =
          min (a + bs.length) (64 * k + 64) - max a (64 * k) := by simp; omega
      by_cases h2 : max a (64 * k) ≤ x ∧ x < min (a + bs.length) (64 * k + 64)
      · have hk : x / 64 = k := by omega
        have e : x = max a (64 * k) + (x - max a (64 * k)) := by omega
        rw [if_pos ⟨by simp [hk], by omega, by omega⟩]
        conv => lhs; rw [e]
        rw [s.memWrite_get_inside _ _ _ _ (by rw [hlen]; omega)]
        simp only [List.getElem_take, List.getElem_drop]
        rw [List.getD_eq_getElem _ _ (by omega)]
        congr 1; omega
      · rw [s.memWrite_get_outside _ _ _ _ (by rw [hlen]; omega), if_neg]
        rintro ⟨h3, h4, h5⟩
        rcases List.mem_cons.1 h3 with h3 | h3
        · omega
        · exact h1 ⟨h3, h4, h5⟩

/-- A byte outside a write reads as before. -/
theorem State.putMixed_get_outside (s : State) (part a : Nat) (bs : Bytes) (pz : Nat → Bool) (hd : s.fab.dir = []) (ht : s.fab.txns = [])
    (x : Nat) (h : x < a ∨ a + bs.length ≤ x) : (s.putMixed part a bs pz).mem.get x = s.mem.get x := by
  unfold State.putMixed
  rw [State.putSectors_get part a bs pz _ s hd ht x, if_neg (by omega)]

/-- A byte inside a write reads as the byte written. -/
theorem State.putMixed_get_inside (s : State) (part a : Nat) (bs : Bytes) (pz : Nat → Bool) (hd : s.fab.dir = []) (ht : s.fab.txns = [])
    (k : Nat) (h : k < bs.length) : (s.putMixed part a bs pz).mem.get (a + k) = bs[k] := by
  unfold State.putMixed
  rw [State.putSectors_get part a bs pz _ s hd ht (a + k), if_pos]
  · rw [List.getD_eq_getElem _ _ (by omega)]; congr 1; omega
  · refine ⟨?_, by omega, by omega⟩
    unfold sectorsOf
    rw [if_neg (by omega)]
    exact List.mem_map.2 ⟨(a + k) / 64 - a / 64, List.mem_range.2 (by omega), by omega⟩

end Sys2Proof.Machine
end

