-- ==== Sys2Proof/Laws/Routes.lean ====
section
/-! SUPPORT. A route slot that is written reads so, and every other slot as before -/

namespace Sys2Proof.Machine

open Sys2Proof

theorem State.route_setRoute (s : State) (r : Nat) (x : Route) (h : r < 16) : (s.setRoute r x).route r = x := by
  simp [State.setRoute, State.route, h]

theorem State.route_setRoute_ne (s : State) (r k : Nat) (x : Route) (h : k ≠ r) : (s.setRoute r x).route k = s.route k := by
  simp [State.setRoute, State.route, Ne.symm h]

theorem State.route_of_rsq_eq (s t : State) (h : t.rsq = s.rsq) (k : Nat) : t.route k = s.route k := by simp [State.route, h]

theorem State.setRouteSt_rsq_eq (s : State) (r : Nat) (st : RouteSt) (h : r < 16) : (s.setRouteSt r st).rsq = (s.setRoute r { s.route r with st := st }).rsq := by
  unfold State.setRouteSt; simp only []; split
  · rename_i hh; simp [State.setRoute, State.route, h] at *; rw [← hh];
    cases hs : s.rsq with
    | mk a b c d e => simp [Vector.ext_iff, Vector.getElem_setIfInBounds]; intro i hi h; subst h; rfl
  · simp

theorem State.route_setRouteSt (s : State) (r : Nat) (st : RouteSt) (h : r < 16) : (s.setRouteSt r st).route r = { s.route r with st := st } := by
  rw [State.route_of_rsq_eq _ _ (State.setRouteSt_rsq_eq s r st h), State.route_setRoute _ _ _ h]

theorem State.route_setRouteSt_ne (s : State) (r k : Nat) (st : RouteSt) (h : r < 16) (hk : k ≠ r) : (s.setRouteSt r st).route k = s.route k := by
  rw [State.route_of_rsq_eq _ _ (State.setRouteSt_rsq_eq s r st h), State.route_setRoute_ne _ _ _ _ hk]

end Sys2Proof.Machine
end

