-- ==== Sys2Proof/WellFormed.lean ====
section
/-! DEFINITION. The operands that the outside can really send: sizes that the formats fix. A meaning is total on every
term; these checks say which terms stand for something that can happen. -/

namespace Sys2Proof

/-- A register access as R39 asks: 4 or 8 bytes, naturally aligned. -/
def accessOk (off size : Nat) : Bool := (size == 4 || size == 8) && off % size == 0

/-- A write request of a cellar slice carries the 128 bytes of its line and a mask of those written; a read carries none
(R469). -/
def CellarReq.ok (r : CellarReq) : Bool :=
  let n := if r.write then 128 else 0
  decide (r.addr < 2 ^ 48) && r.data.length == n && r.mask.length == n

/-- The header of a coherence message names a 128-byte line (Table 11-7). -/
def FabHdr.ok (h : FabHdr) : Bool := decide (h.src < 256) && h.addr % 128 == 0 && decide (h.reqId < 2 ^ 24)

/-- A whole line of 128 bytes. -/
def lineOk (d : Bytes) : Bool := d.length == 128

/-- The operands of a command have the sizes its format gives them. DESIGN CHOICE (log entry 18). -/
def Instr.wellFormed : Instr → Bool
  | .recWinWrite _ off size _ => accessOk off size
  | .registerWrite _ _ off size _ => accessOk off size
  | .rcRegisterRead _ _ off size => accessOk off size
  | .malformedBarAccess _ _ off size _ => !accessOk off size
  | .longPacket _ _ dt _ _ _ => decide (dt < 64)
  | .cellarAccess r => r.ok
  | .boardMemoryWrite a d _ _ => decide (a % 64 + d.length ≤ 64)
  | .readShared h => h.ok
  | .readUnique h => h.ok
  | .readNokeep h => h.ok
  | .writeMerge h m d _ => h.ok && m.length == 128 && lineOk d
  | .evictDirty h d _ => h.ok && lineOk d
  | .snoopAckData h d _ => h.ok && lineOk d
  | .lineShared h d _ => h.ok && lineOk d
  | .lineOwned h d _ => h.ok && lineOk d
  | .lineNokeep h d _ => h.ok && lineOk d
  | .admitTenant _ g k _ sg => g.length == 256 && k.length == 97 && sg.length == 96
  | .spdmChallenge _ n => n.length == 32
  | .patrolRead fs _ => decide (fs.length ≤ 16)
  | _ => true

end Sys2Proof
end

