-- ==== Sys2Proof/Tests/Slice0.lean ====
section
/-! SUPPORT. Small tests of the commands against values worked out from the spec, the smoke test of WellFormed, and for every
statement states and operands that meet its hypotheses. -/

set_option linter.unusedVariables false

namespace Sys2Proof.Tests

open Sys2Proof Sys2Proof.Machine

/-! Small states. -/

/-- A board that is up, with this queue 0 of PF0. -/
def hostState (x : Queue) : State :=
  { top := { ready := true, mgtUp := true, resetting := none }, pwr := { mainGood := true, perst := false }
    hif := { queues := [(0, x)], linkUp := true } }

/-- The state with section `k` of the structure in force, holding these records. -/
def withRecs (k : Nat) (rs : List Bytes) (s : State) : State :=
  { s with img := { s.img with sect := s.img.sect.setIfInBounds k { inForce := true, recs := rs } } }

/-- Route 0 in a state, with these frames. -/
def routeState (st : RouteSt) (fs : List Frame) : State := ({} : State).setRoute 0 { st := st, frames := fs }

/-- A matcher that refines, its coarse record published, with a budget of one tile and these offers. -/
def refineJob : StageJob := { block := [0, 0, 0, 2], budgetUs := 1000, coarseAt := some (0, 0) }

def refineState (l : List Offer) (n : Nat) : State :=
  { withRecs 5 [[0x50, 0, 0, 0, 0, 0, 0, 0, 0, 0, 0, 0, 0, 0, 0, 0, n]] {} with
    stg := { inst := Vector.replicate 10 { job := some refineJob }, mash := Vector.replicate 16 { offers := l } }
    clk := 100000, tmg := { gtc := 1000000 * 2 ^ 48 } }

theorem refine_tiles (l : List Offer) (h : l = [] ∨ l = [{ source := 0x78 }]) : (refineState l 1).myTiles 8 refineJob = l := by
  have e : (refineState l 1).mashCfg refineJob = (1, 0, 0) := by
    rcases h with h | h <;> subst h <;> decide
  unfold State.myTiles State.allotted
  rw [e]
  rcases h with h | h <;> subst h
  · rw [show ((refineState [] 1).mash refineJob.route).offers.filter (fun o => o.frame = refineJob.frame && !o.poisoned) = [] from by decide]
    simp
  · rw [show ((refineState [{ source := 0x78 }] 1).mash refineJob.route).offers.filter (fun o => o.frame = refineJob.frame && !o.poisoned) =
      [{ source := 0x78 }] from by decide]
    simp [stageSrc]

def aBeat (last closing : Bool) : Beat :=
  { ctx := 0, frame := 0, line := 0, plane := 0, data := [], poison := false, last := last, closing := closing }

/-- A state in which core 0 stands so. -/
def necState (x : Core) : State := ({} : State).setCore 0 x

def necTask : Task := { bound := 524288, codeLen := 8 }

/-- A home that exports window 0 to board 1 of its tenant, with this fabric state. -/
def homeState (b : Fab) : State :=
  withRecs 2 [[0x22, 0, 0, 0, 0, 1, 0, 0, 0, 0, 0, 0, 0, 0, 0, 0, 0, 0, 1]] { sec := { tenant := some { tag := [1] } }, fab := { b with tags := [(1, [1])] } }

def homeHdr : FabHdr := { src := 1, part := 1, reqId := 0, ackBelow := 0, addr := 0 }

/-- A requester with one unanswered message of this type to board 1, and these remote lines. -/
def askState (typ : Nat) (l : List RLine) : State := { fab := { unans := [{ msg := { typ := typ, dest := 1 } }], remote := l } }

/-- A timing block that runs, every input in this state. -/
def timeState (x : TmgIn) (t : Tmg) (clk : Nat) : State :=
  { pwr := { mainGood := true }, tmg := { t with ins := Vector.replicate 13 x }, clk := clk
    fab := { ports := Vector.replicate 8 { up := true } } }

def aTimeMsg : TimeMsg :=
  { timeValid := true, taiValid := true, isRoot := true, hops := 0, rootQl := 2, rootId := 0, seqNo := 0, t1 := 0, t2 := 0, t3 := 0 }

/-- A board that is ready, every DOE mailbox with this exchange. -/
def spdmState (x : Spdm) : State := { top := { ready := true }, sec := { doe := Vector.replicate 16 x } }

/-- A board that is ready and exposes VF 1, every TDI in this state, with a stream in Secure that covers it. -/
def tdiState (t : Tdi) : State :=
  { top := { ready := true }, hif := { vfs := 2, fns := Vector.replicate 16 { tdi := t } }, sec := { ide := Vector.replicate 17 (some [1]) } }

/-- A flit of 508 bytes and their CRC. -/
def aFlit (b : Bytes) : Bytes := b ++ leBytes 4 (crc32 b)

/-- Of two flits that differ in the tag alone at most one is genuine. -/
theorem flit_tag (s : State) (p : Nat) : ∃ raw, (s.readFlit p raw).crcOk = true ∧ (s.readFlit p raw).tagOk = false := by
  obtain ⟨ct, hct⟩ : ∃ ct : Bytes, ct.length = 484 := ⟨List.replicate 484 0, List.length_replicate⟩
  have key : ∃ g : Bytes, ∀ tag : Bytes, tag.length = 16 →
      (s.readFlit p (aFlit (List.replicate 8 0 ++ (ct ++ tag)))).tagOk = decide (g = tag) := by
    refine ⟨gcmTag (aesRoundKeys (flitKey (s.fab.port p).secret (s.fab.port p).peerBoard (s.fab.port p).peerPort (s.fab.port p).rxKey))
      (flitIv (s.fab.port p).peerBoard (s.fab.port p).peerPort (nearCounter (s.fab.port p).rxNext 0)) (List.replicate 8 0) ct, ?_⟩
    intro tag htag
    unfold aFlit
    generalize leBytes 4 (crc32 (List.replicate 8 0 ++ (ct ++ tag))) = c
    rw [List.append_assoc, List.append_assoc]
    have h0 : slice (List.replicate 8 0 ++ (ct ++ (tag ++ c))) 0 2 = [0, 0] := rfl
    have h1 : slice (List.replicate 8 0 ++ (ct ++ (tag ++ c))) 4 1 = [0] := rfl
    have h2 : slice (List.replicate 8 0 ++ (ct ++ (tag ++ c))) 0 8 = List.replicate 8 0 := rfl
    have h3 : slice (List.replicate 8 0 ++ (ct ++ (tag ++ c))) 8 484 = ct := by
      have := slice_mid (List.replicate 8 0) ct (tag ++ c)
      rwa [List.length_replicate, hct] at this
    have h4 : slice (List.replicate 8 0 ++ (ct ++ (tag ++ c))) 492 16 = tag := by
      have := slice_mid (List.replicate 8 0 ++ ct) tag c
      rwa [List.length_append, List.length_replicate, hct, htag, List.append_assoc] at this
    have z : bit (ofLe [0]) 2 = false := by decide
    have z0 : ofLe [0, 0] = 0 := by decide
    simp only [State.readFlit, byteAt, field, h0, h1, h2, h3, h4, gcm_isSome, z, z0]
    rfl
  obtain ⟨g, key⟩ := key
  have hl : ∀ tag : Bytes, tag.length = 16 → (List.replicate 8 0 ++ (ct ++ tag)).length = 508 := by
    intro tag h; rw [List.length_append, List.length_append, hct, h]; rfl
  by_cases h : g = List.replicate 16 0
  · exact ⟨_, flit_crc s p _ (hl (List.replicate 16 1) rfl), by
      change (s.readFlit p (aFlit _)).tagOk = false
      rw [key _ rfl, h]; decide⟩
  · exact ⟨_, flit_crc s p _ (hl (List.replicate 16 0) rfl), by
      change (s.readFlit p (aFlit _)).tagOk = false
      rw [key _ rfl]; exact decide_eq_false h⟩

/-- A flit with a counter of 0 or 1 and no payload. -/
theorem flit_good (s : State) (p : Nat) (n : BitVec 8) : ∃ raw, (s.readFlit p raw).crcOk = true ∧
    (s.readFlit p raw).counter = nearCounter (s.fab.port p).rxNext (field [n, 0] 0 2) := by
  obtain ⟨t, ht⟩ : ∃ t : Bytes, t.length = 506 := ⟨List.replicate 506 0, List.length_replicate⟩
  refine ⟨_, flit_crc s p ([n, 0] ++ t) (by rw [List.length_append, ht]; rfl), ?_⟩
  simp only [State.readFlit]
  rfl

/-- What `p` says of the state after a command. -/
def afterCmd (i : Instr) (s : State) (p : State → Bool) : Bool :=
  match exec i s with
  | .next t => p t
  | _ => false

/-! WellFormed refuses an ill-formed term of each kind that it knows. -/

theorem smoke_window_write : Instr.wellFormed (.recWinWrite 0 2 4 0) = false := by decide
theorem smoke_register_write : Instr.wellFormed (.registerWrite 0 .bar0 0 3 0) = false := by decide
theorem smoke_register_read : Instr.wellFormed (.rcRegisterRead 0 .bar0 4 8) = false := by decide
theorem smoke_malformed_access : Instr.wellFormed (.malformedBarAccess 0 .bar0 4 4 false) = false := by decide
theorem smoke_data_type : Instr.wellFormed (.longPacket 0 0 64 .clean [] true) = false := by decide
theorem smoke_slice_address : Instr.wellFormed (.cellarAccess ⟨0, 0, 2 ^ 48, false, [], [], false⟩) = false := by decide
theorem smoke_slice_read : Instr.wellFormed (.cellarAccess ⟨0, 0, 0, false, [1], [], false⟩) = false := by decide
theorem smoke_slice_write : Instr.wellFormed (.cellarAccess ⟨0, 0, 0, true, [1], [true], false⟩) = false := by decide
theorem smoke_sector_write : Instr.wellFormed (.boardMemoryWrite 63 [1, 2] false []) = false := by decide
theorem smoke_header : Instr.wellFormed (.readShared ⟨256, 0, 0, 0, 0, 0⟩) = false ∧ Instr.wellFormed (.readUnique ⟨0, 0, 0, 0, 64, 0⟩) = false ∧
    Instr.wellFormed (.readNokeep ⟨0, 0, 2 ^ 24, 0, 0, 0⟩) = false := by decide
theorem smoke_merge : Instr.wellFormed (.writeMerge ⟨0, 0, 0, 0, 0, 0⟩ [true] [] false) = false := by decide
theorem smoke_lines : Instr.wellFormed (.evictDirty ⟨0, 0, 0, 0, 0, 0⟩ [1] false) = false ∧
    Instr.wellFormed (.snoopAckData ⟨0, 0, 0, 0, 0, 0⟩ [1] false) = false ∧ Instr.wellFormed (.lineShared ⟨0, 0, 0, 0, 0, 0⟩ [1] false) = false ∧
    Instr.wellFormed (.lineOwned ⟨0, 0, 0, 0, 0, 0⟩ [1] false) = false ∧ Instr.wellFormed (.lineNokeep ⟨0, 0, 0, 0, 0, 0⟩ [1] false) = false := by
  decide
theorem smoke_admit : Instr.wellFormed (.admitTenant (.doe 0) [] [] 1 []) = false := by decide
theorem smoke_nonce : Instr.wellFormed (.spdmChallenge (.doe 0) []) = false := by decide
theorem smoke_patrol : Instr.wellFormed (.patrolRead (List.replicate 17 []) false) = false := by decide
theorem smoke_good : Instr.wellFormed (.registerWrite 0 .bar0 8 8 0) = true := by decide

/-! Codes whose values are fixed outside the board. -/

/-- CRC-32 of "123456789" (the check value of the IEEE 802.3 polynomial). -/
theorem test_crc32 : crc32 [0x31, 0x32, 0x33, 0x34, 0x35, 0x36, 0x37, 0x38, 0x39] = 0xCBF43926 := by decide +kernel

/-- 0x53 and 0xCA are inverse in GF(2^8) with the polynomial of R598. -/
theorem test_gf_inverse : gfMul 0x53 0xCA = 1 := by decide

/-- A message of 1 byte takes its header and 64 bytes in the ring (R509). -/
theorem test_mail_room : mailRoom 1 = 128 ∧ mailRoom 64 = 128 ∧ mailRoom 65 = 192 := by decide

/-- Quality levels of clockClass 6, 7, 52, 187, 248 and another (Table 12-3). -/
theorem test_class_ql : classQl 6 = 2 ∧ classQl 7 = 4 ∧ classQl 52 = 6 ∧ classQl 187 = 6 ∧ classQl 248 = 12 ∧ classQl 255 = 14 := by decide

/-! The queue and reset. -/

/-- The front command runs first, and the rest stays. -/
theorem test_front_runs_first :
    (match step { pending := [.refresh, .mainRailsGood], mem := { ready := true } } with
      | .next t => t.bg.refreshes = 1 && t.pending.length = 1
      | _ => false) = true := by decide

/-- With no command waiting the clock goes on by one cycle. -/
theorem test_idle_step : (match step { pwr := { auxGood := false } } with | .next t => t.clk = 1 | _ => false) = true := by decide

/-- After power-on READY is 0 and LAST_RESET reads 5 (Table 1-12). -/
theorem test_reset_status : State.reset.top.ready = false ∧ State.reset.top.lastReset = 5 := by decide

/-- A TOP_RESET write with a wrong key is ignored (R36). -/
theorem test_reset_key : afterCmd (.warmBoardReset (.host 0) 0x5AFD0004) { top := { ready := true } } (fun t => t.top.ready) = true := by decide

/-- With auxiliary power absent PERST_N takes the link down and starts nothing (R60). -/
theorem test_perst : afterCmd .perstNAssert { hif := { linkUp := true }, pwr := { perst := false, auxGood := false } }
    (fun t => t.pwr.perst && !t.hif.linkUp && t.top.resetting = some 5) = true := by decide

/-! Registers and queues. -/

/-- A read of an RC register returns the count and clears it (R14). -/
theorem test_rc_read : afterCmd (.rcRegisterRead 0 .bar0 0xC0004 4) { top := { ready := true }, mem := { ce := 5 } }
    (fun t => t.bus = .data 5 4 && t.mem.ce = 0) = true := by decide

/-- A 3-byte read returns 0 and acts on nothing (R714). -/
theorem test_malformed_read : afterCmd (.malformedBarAccess 0 .bar0 0xC0004 3 false) { top := { ready := true }, mem := { ce := 5 } }
    (fun t => t.bus = .data 0 3 && t.mem.ce = 5) = true := by decide

/-- An SQ tail at the ring size halts the queue with ERROR 1 (R126). -/
theorem test_tail_beyond_ring : afterCmd (.sqTailDoorbell 0 0 16) (hostState { enable := true, st := .running, sizeLog2 := 0 })
    (fun t => (t.queue 0 0).st = .halted && (t.queue 0 0).error = 1) = true := by decide

/-- MGT_BG_CTL: 169 hours are out of range, 60 s is not (R711). -/
theorem test_bg_range : afterCmd (.bgCtlWrite 0 0x00003CA9) { top := { ready := true }, bg := { patrolHours := 24, sramScrub := 10 } }
    (fun t => t.bg.patrolHours = 24 && t.bg.sramScrub = 60) = true := by decide

/-! Memory and the fabric. -/

/-- A partial write keeps the other bytes of its sector (R461). -/
theorem test_partial_write : afterCmd (.boardMemoryWrite 2 [0xAA] false []) { pwr := { mainGood := true }, mem := { cells := [(1, 0x11), (2, 0x22), (3, 0x33)] } }
    (fun t => t.mem.read 1 3 = [0x11, 0xAA, 0x33]) = true := by decide

/-- A clean partial write leaves a poisoned sector poisoned, a clean whole one cleans it (R673, R717). -/
theorem test_poison_stays : afterCmd (.boardMemoryWrite 0 [1] false []) { pwr := { mainGood := true }, mem := { poison := [0] } } (fun t => t.mem.poison = [0]) = true ∧
    afterCmd (.boardMemoryWrite 0 (List.replicate 64 1) false []) { pwr := { mainGood := true }, mem := { poison := [0] } } (fun t => t.mem.poison = []) = true := by
  decide

/-- Without a directory entry READ_UNIQUE makes the requester the owner (Table 11-4). -/
theorem test_read_unique : afterCmd (.readUnique homeHdr) (homeState {}) (fun t => t.fab.dir.map (·.owner) = [some 1]) = true := by decide

/-- SNOOP_INV takes a modified line (Table 11-5). -/
theorem test_snoop_inv : afterCmd (.snoopInv 1 0 0) (askState 0 [{ st := .m }]) (fun t => t.fab.remote.isEmpty) = true := by decide

/-- A flit below the expected counter is counted stale and dropped (R493). -/
theorem test_stale_flit (s : State) (raw : Bytes) (x : LnkPort) (h : s.fab.ports = Vector.replicate 8 x) (h0 : x.up = true)
    (h1 : x.sealed = false) (h2 : x.stale = 0) (h3 : (s.readFlit 0 raw).crcOk = true) (h4 : (s.readFlit 0 raw).counter < x.rxNext) :
    ∃ t, exec (.flitReceive 0 raw) s = .next t ∧ (t.fab.port 0).stale = 1 ∧ (t.fab.port 0).rxNext = x.rxNext := by
  simp [exec, execFlitReceive, Fab.port, State.mapPort, *, satN]

/-- A hello from a board with another tag brings the port up as refused (R490). -/
theorem test_hello_refused : afterCmd (.hello 0 1 0 [9]) (withRecs 0 [[0x01, 0, 0, 0, 0, 0, 0, 1]]
      { fab := { ports := Vector.replicate 8 { trained := true, session := true } } })
    (fun t => (t.fab.port 0).up && (t.fab.port 0).refused) = true := by decide

/-! Time, trust and safety. -/

/-- TMG_STEP moves the GTC by whole nanoseconds, backwards too (R533). -/
theorem test_gtc_step : afterCmd (.tmgStep 0 0xFFFFFFFF) { top := { ready := true }, tmg := { gtc := 5 * 2 ^ 48, stepLo := 0xFFFFFFFE } }
    (fun t => t.tmg.gtc = 3 * 2 ^ 48) = true := by decide

/-- The DCO word is clamped to 50 ppm (R539). -/
theorem test_dco_clamp : afterCmd (.dcoFreqWrite 0 0x7F) { top := { ready := true }, tmg := { mode := 2, dcoLo := 0xFFFFFFFF } }
    (fun t => t.tmg.yF = 14073748835) = true := by decide

/-- LOCK is refused while a queue of the VF is enabled (R579). -/
theorem test_lock_needs_quiet : afterCmd (.lockInterfaceRequest 1)
    { tdiState .configUnlocked with hif := { vfs := 2, queues := [(64, { enable := true, st := .running })] } }
    (fun t => t.hif.fns[1].tdi = .configUnlocked) = true := by decide

/-- A claim while a key stands in a slot ends without a new one (Table 13-15). -/
theorem test_claim_twice : afterCmd (.secMboxDone true) { sec := { busy := some (1, []), slots := Vector.replicate 4 (some [1], false) } }
    (fun t => t.sec.busy = none && t.sec.code ≠ 0 && t.sec.slots[0] = (some [1], false)) = true := by decide

/-- In THROTTLE the withheld fraction rises by a sixteenth and stops at fifteen (R646). -/
theorem test_throttle : afterCmd .throttleStep { clk := 8000000, saf := { thermal := .throttle, withheld := 15 } }
    (fun t => t.saf.withheld = 15) = true ∧
    afterCmd .throttleStep { clk := 8000000, saf := { withheld := 3 } } (fun t => t.saf.withheld = 2) = true := by decide

/-- A clock fault while armed latches cause 0x0A (Table 14-3). -/
theorem test_clock_fault : afterCmd (.clockMonitorFault 2) { top := { armed := true } } (fun t => t.saf.events.map (·.cause) = [0x0A]) = true := by
  decide

/-- 125 °C removes the main rails (Table 14-8). -/
theorem test_thermal_trip : afterCmd (.thermalSample 125 0) { pwr := { mainGood := true } }
    (fun t => t.saf.thermal = .trip && !t.pwr.mainGood) = true := by decide

/-! Cores. -/

set_option maxRecDepth 8000 in
/-- A word with a nonzero field that STD does not name faults with ILLEGAL (R451, Table 10-6). -/
theorem test_unnamed_field : afterCmd (.std 0 0x400025) (necState { task := some necTask })
    (fun t => (t.core 0).fCause = 5 && (t.core 0).task.isNone) = true := by decide

/-- STD puts the four bytes of its scalar register into the hopper, least significant first (R417, Table 10-9). -/
theorem test_std_bytes : afterCmd (.std 0 0x4020025)
      (necState { task := some necTask, s := Vector.replicate 32 0x04030201, hopper := [{ row := 0, data := List.replicate 8 9 }] })
    (fun t => (t.core 0).hopper.map (fun e => (e.row, e.data, e.mask)) = [(0, [9, 9, 9, 9, 1, 2, 3, 4], [1])]) = true := by decide

/-! The hypotheses of the statements can be met. -/

/-- States and operands that meet the hypotheses of each clause of `Obligations.SupplyEventsComplete`. -/
theorem witness_SupplyEventsComplete :
    (∃ (s : State) (mv : Nat) (below crc seeds : Bool), s.pwr.auxGood = false ∧ 3135 ≤ mv) ∧
    (∃ (s : State) (mv : Nat) (below crc seeds : Bool), s.pwr.auxGood = true ∧ 3135 ≤ mv) ∧
    (∃ s : State, s.pwr.auxGood = true) ∧
    (∃ s : State, s.pwr.auxGood = true ∧ s.pwr.vinGood = true ∧ s.pwr.converters = false ∧ s.saf.thermal ≠ .trip ∧ s.pwr.auxAt + msTicks 10 ≤ s.clk) ∧
    (∃ s : State, s.pwr.converters = true ∧ s.pwr.mainGood = false ∧ s.top.bootPending = false) ∧
    (∃ s : State, s.pwr.converters = true ∧ s.pwr.mainGood = false ∧ s.top.bootPending = true) ∧
    (∃ (s : State) (mv ns : Nat), s.pwr.auxGood = true ∧ s.pwr.vinGood = true ∧ ((mv < 32500 ∨ 63000 < mv)) ∧ 10000 ≤ ns) ∧
    (∃ (s : State) (mv ns : Nat), ((mv < 32500 ∨ 63000 < mv)) ∧ ns < 10000) ∧
    (∃ (s : State) (mv ns : Nat), s.pwr.auxGood = true ∧ s.pwr.vinGood = false ∧ 34000 < mv ∧ ((s.pwr.vinOver = true → mv ≤ 60000 ∧ 10000 ≤ ns))) :=
  ⟨⟨{ pwr := { auxGood := false } }, 3135, true, true, true, by decide⟩,
    ⟨{ pwr := { auxGood := true } }, 3466, true, true, true, by decide⟩,
    ⟨{ pwr := { auxGood := true } }, by decide⟩,
    ⟨{ pwr := { auxGood := true, vinGood := true }, clk := msTicks 10 }, by decide⟩,
    ⟨{ pwr := { converters := true, mainGood := false }, top := { bootPending := false } }, by decide⟩,
    ⟨{ pwr := { converters := true, mainGood := false }, top := { bootPending := true } }, by decide⟩,
    ⟨{ pwr := { auxGood := true, vinGood := true } }, 32499, 10000, by decide⟩,
    ⟨{}, 63001, 9999, by decide⟩,
    ⟨{ pwr := { auxGood := true, vinGood := false, vinOver := true } }, 60000, 10000, by decide⟩⟩

/-- States and operands that meet the hypotheses of each clause of `Obligations.ResetRequestsComplete`. -/
theorem witness_ResetRequestsComplete :
    (∃ s : State, s.pwr.perst = false ∧ s.pwr.auxGood = true) ∧
    (∃ s : State, s.pwr.brdRst = false ∧ s.pwr.auxGood = true) ∧
    (∃ (s : State) (w : U32), s.safRuns = true) ∧
    (∃ s : State, s.pwr.mainGood = true ∧ s.top.ready = false ∧ s.top.recovery = false ∧ s.pwr.mainGoodAt + secTicks 2 ≤ s.clk) :=
  ⟨⟨{ pwr := { perst := false, auxGood := true } }, by decide⟩,
    ⟨{ pwr := { brdRst := false, auxGood := true } }, by decide⟩,
    ⟨{ top := { bootPending := false } }, by decide⟩,
    ⟨{ pwr := { mainGood := true }, clk := secTicks 2 }, by decide⟩⟩

/-- States and operands that meet the hypotheses of each clause of `Obligations.ResetClearsTheBoard`. -/
theorem witness_ResetClearsTheBoard :
    (∃ (s : State) (cold : Bool) (cause : String) (source : Nat) (force : Bool), ((∀ l, s.top.resetting = some l → l.toNat < (if cold then 5 else 4) ∨ force = true))) ∧
    (∃ (s : State) (cold : Bool) (cause : String) (source : Nat) (l : BitVec 3), s.top.resetting = some l ∧ (if cold then 5 else 4) ≤ l.toNat) :=
  ⟨⟨{ top := { resetting := some 4 } }, true, "", 0, false, by intro l h; cases h; exact Or.inl (by decide)⟩,
    ⟨{ top := { resetting := some 5 } }, true, "", 0, 5, by decide⟩⟩

/-- States and operands that meet the hypotheses of each clause of `Obligations.PowerBookkeeping`. -/
theorem witness_PowerBookkeeping :
    (∃ s : State, s.top.resetting.isSome = true ∧ s.pwr.mainGood = true ∧ s.top.mgtUp = true ∧ s.top.bootBlocked = false ∧ s.top.recovery = false) ∧
    (∃ s : State, (s.pwr.auxGood && s.pwr.vinGood) = false) ∧
    (∃ s : State, s.pwr.auxGood = true ∧ s.pwr.vinGood = true) ∧
    (∃ (s : State) (mv : Nat), s.pwr.auxGood = true ∧ s.pwr.vbatAt + secTicks 1 ≤ s.clk) ∧
    (∃ s : State, s.pwr.auxGood = true ∧ s.top.bootPending = false ∧ s.pwr.mainGood = true ∧ s.top.timePending = false) ∧
    (∃ s : State, s.pwr.auxGood = true ∧ s.top.bootPending = false ∧ (s.pwr.mainGood && !s.top.timePending) = false) :=
  ⟨⟨{ top := { resetting := some 5, mgtUp := true }, pwr := { mainGood := true } }, by decide⟩,
    ⟨{ pwr := { vinGood := false } }, by decide⟩,
    ⟨{ pwr := { auxGood := true, vinGood := true } }, by decide⟩,
    ⟨{ pwr := { auxGood := true }, clk := secTicks 1 }, 2200, by decide⟩,
    ⟨{ pwr := { auxGood := true, mainGood := true }, top := { bootPending := false, timePending := false } }, by decide⟩,
    ⟨{ pwr := { auxGood := true, mainGood := false }, top := { bootPending := false } }, by decide⟩⟩

/-- States and operands that meet the hypotheses of each clause of `Obligations.FirmwareActionsAreTaken`. -/
theorem witness_FirmwareActionsAreTaken :
    (∃ (s : State) (w : U32), wbits w 31 16 = 0xF1A5 ∧ wbits w 2 0 = 1 ∧ s.top.ready = true ∧ s.fw.busy = none) ∧
    (∃ (s : State) (w : U32), wbits w 31 16 = 0xF1A5 ∧ wbits w 2 0 = 2 ∧ s.top.ready = true ∧ s.fw.busy = none) ∧
    (∃ (s : State) (w : U32), wbits w 31 16 = 0xF1A5 ∧ wbits w 2 0 = 3 ∧ s.top.ready = true ∧ s.fw.busy = none) ∧
    (∃ (s : State) (w : U32), wbits w 31 16 = 0xF1A5 ∧ wbits w 2 0 = 4 ∧ s.top.ready = true ∧ s.fw.busy = none ∧ (s.fw.entry (compField w)).trial = false) ∧
    (∃ (s : State) (w : U32), wbits w 31 16 = 0xF1A5 ∧ s.top.ready = true ∧ s.fw.busy.isSome = true) ∧
    (∃ (s : State) (w : U32), wbits w 31 16 = 0xF1A5 ∧ s.top.ready = false ∧ s.top.recovery = false) :=
  ⟨⟨{ top := { ready := true } }, 0xF1A50001, by decide⟩,
    ⟨{ top := { ready := true } }, 0xF1A50012, by decide⟩,
    ⟨{ top := { ready := true } }, 0xF1A50023, by decide⟩,
    ⟨{ top := { ready := true } }, 0xF1A50034, by decide⟩,
    ⟨{ top := { ready := true }, fw := { busy := some (.commit, 0) } }, 0xF1A50001, by decide⟩,
    ⟨{}, 0xF1A50002, by decide⟩⟩

/-- States and operands that meet the hypotheses of each clause of `Obligations.FirmwareActionsEnd`. -/
theorem witness_FirmwareActionsEnd :
    (∃ (s : State) (c : Fin 4), s.fw.busy = some (.markTrial, c)) ∧
    (∃ (s : State) (c : Fin 4), s.fw.busy = some (.commit, c)) ∧
    (∃ (s : State) (c : Fin 4), s.fw.busy = some (.cancelTrial, c)) ∧
    (∃ (s : State) (c : Fin 4) (n : Fin 64), s.fw.busy = some (.burnSvn, c) ∧ (s.fw.entry c).burn = some n.val) ∧
    (∃ (s : State) (c : Fin 4), s.fw.busy = some (.burnSvn, c) ∧ (s.fw.entry c).burn = none ∧ (s.fw.entry c).trial = true) :=
  ⟨⟨{ fw := { busy := some (.markTrial, 3) } }, 3, by decide⟩,
    ⟨{ fw := { busy := some (.commit, 0) } }, 0, by decide⟩,
    ⟨{ fw := { busy := some (.cancelTrial, 1) } }, 1, by decide⟩,
    ⟨{ fw := { busy := some (.burnSvn, 2), copy0 := { comp := Vector.replicate 4 { burn := some 63 } } } }, 2, 63, by decide⟩,
    ⟨{ fw := { busy := some (.burnSvn, 2), copy0 := { comp := Vector.replicate 4 { trial := true } } } }, 2, by decide⟩⟩

/-- States and operands that meet the hypotheses of each clause of `Obligations.RecoveryMailbox`. -/
theorem witness_RecoveryMailbox :
    (∃ (s : State) (w : U32), s.top.recovery = true ∧ wbits w 31 16 = 0x5EC0 ∧ wbits w 2 0 = 1) ∧
    (∃ (s : State) (off size : Nat) (v : U64), s.top.recovery = true ∧ s.recov.st = .receiving ∧ ((size = 4 ∨ size = 8)) ∧ off % size = 0 ∧ 0x800000 ≤ off ∧ off + size ≤ 0xC00000) ∧
    (∃ (s : State) (w : U32), s.top.recovery = true ∧ wbits w 31 16 = 0x5EC0 ∧ wbits w 2 0 = 2 ∧ s.recov.st = .receiving) ∧
    (∃ (s : State) (w : U32), s.top.recovery = true ∧ wbits w 31 16 = 0x5EC0 ∧ wbits w 2 0 = 3 ∧ s.recov.st = .receiving) ∧
    (∃ s : State, s.top.recovery = true ∧ s.recov.st = .verifying ∧ s.recov.running = false) ∧
    (∃ s : State, s.top.recovery = true ∧ s.recov.st = .writing) ∧
    (∃ s : State, s.top.recovery = true ∧ s.recov.st = .writing) ∧
    (∃ s : State, s.top.recovery = true ∧ s.recov.st = .verifying ∧ s.recov.running = true) :=
  ⟨⟨{ top := { recovery := true } }, 0x5EC00001, by decide⟩,
    ⟨{ top := { recovery := true }, recov := { st := .receiving } }, 0xBFFFF8, 8, 1, by decide⟩,
    ⟨{ top := { recovery := true }, recov := { st := .receiving } }, 0x5EC00002, by decide⟩,
    ⟨{ top := { recovery := true }, recov := { st := .receiving } }, 0x5EC00013, by decide⟩,
    ⟨{ top := { recovery := true }, recov := { st := .verifying } }, by decide⟩,
    ⟨{ top := { recovery := true }, recov := { st := .writing, comp := 1 } }, by decide⟩,
    ⟨{ top := { recovery := true }, recov := { st := .writing, comp := 1 } }, by decide⟩,
    ⟨{ top := { recovery := true }, recov := { st := .verifying, running := true } }, by decide⟩⟩

/-- States and operands that meet the hypotheses of each clause of `Obligations.DoorbellsAndQueueControl`. -/
theorem witness_DoorbellsAndQueueControl :
    (∃ (s : State) (f : Part) (q : Fin 64) (i : BitVec 16), s.queueAccess f q = true ∧ (s.queue f q).enable = true ∧ (s.queue f q).st = .running ∧ i.toNat < (s.queue f q).ring) ∧
    (∃ (s : State) (f : Part) (q : Fin 64) (i : BitVec 16), s.queueAccess f q = true ∧ (s.queue f q).enable = true ∧ (s.queue f q).st = .running ∧ (s.queue f q).ring ≤ i.toNat) ∧
    (∃ (s : State) (f : Part) (q : Fin 64) (i : BitVec 16), s.queueAccess f q = true ∧ (s.queue f q).st = .running ∧ i.toNat < (s.queue f q).ring) ∧
    (∃ (s : State) (f : Part) (q : Fin 64) (w : U32), s.queueAccess f q = true ∧ w.getLsbD 31 = true ∧ wbits w 3 0 ≤ 12 ∧ w.getLsbD 30 = false ∧ (s.queue f q).enable = false ∧ (s.queue f q).st = .disabled ∧ (s.queue f q).aborts = []) ∧
    (∃ (s : State) (f : Part) (q : Fin 64) (w : U32), s.queueAccess f q = true ∧ w.getLsbD 31 = false ∧ wbits w 3 0 ≤ 12 ∧ w.getLsbD 30 = false ∧ (s.queue f q).enable = true) :=
  ⟨⟨hostState { enable := true, st := .running }, 0, 0, 15, by decide⟩,
    ⟨hostState { enable := true, st := .running }, 0, 0, 16, by decide⟩,
    ⟨hostState { enable := true, st := .running }, 0, 0, 15, by decide⟩,
    ⟨hostState {}, 0, 0, 0x8000000C, by decide⟩,
    ⟨hostState { enable := true, st := .running }, 0, 0, 0, by decide⟩⟩

/-- States and operands that meet the hypotheses of each clause of `Obligations.DescriptorFetchAndPosting`. -/
theorem witness_DescriptorFetchAndPosting :
    (∃ (s : State) (f : Part) (q : Fin 64) (b : Bytes), s.mayFetch f q = true) ∧
    (∃ (s : State) (f : Part) (q : Fin 64) (b : Option Bytes) (ep : Bool), s.mayFetch f q = true ∧ ((b = none ∨ ep = true))) ∧
    (∃ (s : State) (f : Part) (q : Fin 64) (c : Cmd) (rest : List Cmd), (s.queue f q).cmds = c :: rest ∧ c.fixed = true ∧ c.kind = .execute ∧ bit c.flags 0 = true ∧ (s.queue f q).error ≠ 3 ∧ (s.queue f q).enable = true) ∧
    (∃ (s : State) (f : Part) (q : Fin 64) (c : Cmd) (rest : List Cmd), (s.queue f q).cmds = c :: rest ∧ c.fixed = true ∧ (s.queue f q).error ≠ 3 ∧ (s.queue f q).enable = true) ∧
    (∃ (s : State) (f : Part) (q : Fin 64) (c : Nat), (s.queue f q).coalSince = some c ∧ 0 < (s.queue f q).coalTime ∧ c + usTicks (s.queue f q).coalTime ≤ s.clk) :=
  ⟨⟨hostState { enable := true, st := .running, sqTail := 1 }, 0, 0, [], by decide⟩,
    ⟨hostState { enable := true, st := .running, sqTail := 1 }, 0, 0, some [], true, by decide, by decide⟩,
    ⟨hostState { enable := true, cmds := [{ desc := [0, 1], fixed := true }] }, 0, 0, { desc := [0, 1], fixed := true }, [], by decide⟩,
    ⟨hostState { enable := true, cmds := [{ fixed := true }] }, 0, 0, { fixed := true }, [], by decide⟩,
    ⟨{ hostState { coalTime := 1, coalSince := some 0 } with clk := usTicks 1 }, 0, 0, 0, by decide⟩⟩

/-- States and operands that meet the hypotheses of each clause of `Obligations.ExactlyOnce`. -/
theorem witness_ExactlyOnce :
    (∃ (s : State) (f q : Nat) (d : Bytes), s.tagChecks f q d = true ∧ BitVec.ofNat 32 (field d 4 4) = (s.queue f q).e) ∧
    (∃ (s : State) (f q : Nat) (d : Bytes), s.tagChecks f q d = true ∧ BitVec.ofNat 32 (field d 4 4) ≠ (s.queue f q).e ∧ ((s.queue f q).e - 1 - BitVec.ofNat 32 (field d 4 4)).toNat < min 65536 (s.queue f q).accepted) ∧
    (∃ (s : State) (f q : Nat) (d : Bytes), s.tagChecks f q d = true ∧ BitVec.ofNat 32 (field d 4 4) ≠ (s.queue f q).e ∧ min 65536 (s.queue f q).accepted ≤ ((s.queue f q).e - 1 - BitVec.ofNat 32 (field d 4 4)).toNat) :=
  ⟨⟨hostState {}, 0, 0, [], by decide⟩,
    ⟨hostState { e := 1, accepted := 1 }, 0, 0, [], by decide⟩,
    ⟨hostState { e := 65537, accepted := 65537 }, 0, 0, [], by decide⟩⟩

/-- States and operands that meet the hypotheses of each clause of `Obligations.CommandStatusIsFixed`. -/
theorem witness_CommandStatusIsFixed :
    (∃ (s : State) (f : Part) (q : Fin 64) (c : Cmd), s.front f q 0x00 = some c) ∧
    (∃ (s : State) (f : Part) (q : Fin 64) (c : Cmd), s.front f q 0x01 = some c ∧ s.fenceMet f q c = true) ∧
    (∃ (s : State) (f : Part) (q : Fin 64) (c : Cmd), s.front f q 0x01 = some c ∧ s.fenceMet f q c = false) ∧
    (∃ (s : State) (f : Part) (q : Fin 64) (c : Cmd), (s.queue f q).cmds.find? (fun c => c.kind = .execute && c.opcode = 0x01 && c.begun && !c.fixed) = some c ∧ s.fenceMet f q c = true) ∧
    (∃ (s : State) (f : Part) (q : Fin 64) (seq : U32) (p l : Bool) (c : Cmd) (st det src : Nat), (s.queue f q).cmds.find? (fun c => c.kind = .execute && c.seq = seq.toNat && c.begun && !c.fixed && c.outcome.isSome) = some c ∧ c.outcome = some (st, det, src) ∧ s.working f q c.seq = false ∧ s.fab.unans = [] ∧ s.fab.waitReq = [] ∧ s.sec.loading = [] ∧ ((f = 0 ∨ s.sec.switch = none))) ∧
    (∃ (s : State) (f : Part) (q : Fin 64) (pos st det src : Nat) (c : Cmd), (s.queue f q).cmds.find? (fun c => c.pos = pos && !c.fixed) = some c ∧ c.kind = .execute) :=
  ⟨⟨hostState { cmds := [{}] }, 0, 0, {}, by decide⟩,
    ⟨hostState { cmds := [{ desc := [1] }] }, 0, 0, { desc := [1] }, by decide⟩,
    ⟨hostState { cmds := [{ desc := [1], waits := [(1, 1)] }], rung := 1 } |> fun s => s.setQueue 0 1 { st := .running }, 0, 0, { desc := [1], waits := [(1, 1)] }, by decide⟩,
    ⟨hostState { cmds := [{ desc := [1], begun := true }] }, 0, 0, { desc := [1], begun := true }, by decide⟩,
    ⟨hostState { cmds := [{ desc := [0x20], begun := true, outcome := some (0, 0, 0) }] }, 0, 0, 0, true, false, { desc := [0x20], begun := true, outcome := some (0, 0, 0) }, 0, 0, 0, by decide⟩,
    ⟨hostState { cmds := [{}] }, 0, 0, 0, 0x20, 0, 0, {}, by decide⟩⟩

/-- States and operands that meet the hypotheses of each clause of `Obligations.MalformedBarAccess`. -/
theorem witness_MalformedBarAccess :
    (∃ (s : State) (f : Part) (bar : Bar) (off size : Nat), wellSized off size = false ∧ s.barHas f bar off size = true ∧ inMsix bar off = false) ∧
    (∃ (s : State) (f : Part) (bar : Bar) (off size : Nat), wellSized off size = false ∧ s.barHas f bar off size = true ∧ inMsix bar off = false) ∧
    (∃ (s : State) (f : Part) (bar : Bar) (off size : Nat), wellSized off size = false ∧ s.barHas f bar off size = true) ∧
    (∃ (s : State) (f : Part) (bar : Bar) (off size : Nat) (v : U64), wellSized off size = false) :=
  ⟨⟨{}, 0, .bar0, 0xFFFFFE, 2, by decide⟩,
    ⟨{}, 0, .bar0, 0xFFFFFE, 2, by decide⟩,
    ⟨{}, 0, .bar0, 2, 4, by decide⟩,
    ⟨{}, 0, .bar0, 4, 8, 1, by decide⟩⟩

/-- States and operands that meet the hypotheses of each clause of `Obligations.RegisterAccesses`. -/
theorem witness_RegisterAccesses :
    (∃ (s : State) (f : Part) (bar : Bar) (off : Nat), s.barHas f bar off 4 = true ∧ off % 4 = 0) ∧
    (∃ (s : State) (f : Part) (bar : Bar) (off : Nat), s.barHas f bar off 8 = true ∧ off % 8 = 0) ∧
    (∃ (s : State) (f : Part) (bar : Bar) (off size : Nat), s.barHas f bar off size = false) ∧
    (∃ (s : State) (f : Part) (bar : Bar) (off : Nat) (v : U64), s.barHas f bar off 4 = true ∧ off % 4 = 0) ∧
    (∃ (s : State) (f : Part) (bar : Bar) (off : Nat) (v : U64), s.barHas f bar off 8 = true ∧ off % 8 = 0) ∧
    (∃ s : State, s.top.ready = true) ∧
    (∃ s : State, s.top.ready = true) ∧
    (∃ (s : State) (f : Part) (off : Nat), s.top.ready = false ∧ f.val ≠ 0 ∧ s.exposed f = true ∧ off + 4 ≤ 2 ^ 16 ∧ off % 4 = 0) ∧
    (∃ (s : State) (f : Part) (bar : Bar) (off size : Nat) (write : Bool), wellSized off size = false ∧ s.barHas f bar off size = true ∧ inMsix bar off = false) ∧
    (∃ (s : State) (f : Part) (bar : Bar) (off size : Nat), wellSized off size = false ∧ s.barHas f bar off size = true ∧ inMsix bar off = true) ∧
    (∃ (s : State) (f : Part) (bar : Bar) (off size : Nat), wellSized off size = false ∧ s.barHas f bar off size = true ∧ inMsix bar off = true) ∧
    (∃ (s : State) (f : Part) (bar : Bar) (off size : Nat) (write : Bool), wellSized off size = false ∧ s.barHas f bar off size = false) :=
  ⟨⟨{}, 0, .bar0, 0xFFFFFC, by decide⟩,
    ⟨{}, 0, .bar0, 0xFFFFF8, by decide⟩,
    ⟨{}, 1, .bar0, 0, 4, by decide⟩,
    ⟨{}, 0, .bar0, 0xFFFFFC, 1, by decide⟩,
    ⟨{}, 0, .bar0, 0xFFFFF8, 1, by decide⟩,
    ⟨{ top := { ready := true } }, by decide⟩,
    ⟨{ top := { ready := true } }, by decide⟩,
    ⟨{ hif := { vfs := 2 } }, 1, 0xFFFC, by decide⟩,
    ⟨{}, 0, .bar0, 0xFFFFFE, 2, false, by decide⟩,
    ⟨{}, 0, .bar2, 1022, 4, by decide⟩,
    ⟨{}, 0, .bar2, 0x801, 4, by decide⟩,
    ⟨{}, 1, .bar0, 1, 1, true, by decide⟩⟩

/-- States and operands that meet the hypotheses of each clause of `Obligations.PortsBesideTheRegisters`. -/
theorem witness_PortsBesideTheRegisters :
    (∃ (s : State) (f : Part), s.hif.linkUp = true) ∧
    (∃ s : State, s.pwr.auxGood = true ∧ s.top.mgtUp = true ∧ s.pwr.brdRst = false) ∧
    (∃ (s : State) (a : Nat), bit s.debugFeatures 3 = true ∧ s.inBoardMem a 64 = true) ∧
    (∃ (s : State) (a : Nat), bit s.debugFeatures 3 = false) ∧
    (∃ (s : State) (off : Nat), bit s.debugFeatures 1 = true) ∧
    (∃ (s : State) (c : Fin 64) (on : Bool), bit s.debugFeatures 2 = true ∧ s.top.armed = false) ∧
    (∃ (s : State) (c : Fin 64) (on : Bool), s.top.armed = true) :=
  ⟨⟨{ hif := { linkUp := true } }, 15, by decide⟩,
    ⟨{ top := { mgtUp := true } }, by decide⟩,
    ⟨{ top := { eccOn := true }, pwr := { pinEn := 0x200, mainGood := true, perst := false, brdRst := false } }, 0, by decide⟩,
    ⟨{}, 0, by decide⟩,
    ⟨{ pwr := { pinEn := 0x200, mainGood := true, perst := false, brdRst := false } }, 0x14, by decide⟩,
    ⟨{ pwr := { pinEn := 0x200, mainGood := true, perst := false, brdRst := false } }, 63, true, by decide⟩,
    ⟨{ top := { armed := true } }, 0, true, by decide⟩⟩

/-- States and operands that meet the hypotheses of each clause of `Obligations.PartitionResetCommands`. -/
theorem witness_PartitionResetCommands :
    (∃ (s : State) (f : Part), s.top.ready = true ∧ f.val ≠ 0 ∧ s.exposed f = true ∧ s.hif.fns[f].resetDone = true ∧ s.sec.switch = none ∧ s.struct.partRoutes f = 0) ∧
    (∃ (s : State) (f : Part), s.top.ready = true ∧ f.val ≠ 0 ∧ s.exposed f = true ∧ ((s.hif.fns[f].resetDone = false ∨ s.sec.switch.isSome = true))) ∧
    (∃ (s : State) (f : Part), s.top.ready = true ∧ f.val ≠ 0 ∧ s.exposed f = true) ∧
    (∃ (s : State) (f : Part), s.hif.fns[f].resetDone = false ∧ s.sec.switch = none ∧ s.struct.partRoutes f = 0) ∧
    (∃ (s : State) (f : Part), s.sec.switch.isSome = true) :=
  ⟨⟨{ top := { ready := true }, hif := { vfs := 2 } }, 1, by decide⟩,
    ⟨{ top := { ready := true }, hif := { vfs := 2, fns := Vector.replicate 16 { resetDone := false } } }, 1, by decide⟩,
    ⟨{ top := { ready := true }, hif := { vfs := 2 } }, 1, by decide⟩,
    ⟨{ hif := { fns := Vector.replicate 16 { resetDone := false } } }, 15, by decide⟩,
    ⟨{ sec := { switch := some {} } }, 1, by decide⟩⟩

/-- States and operands that meet the hypotheses of each clause of `Obligations.RouteStartsAndStops`. -/
theorem witness_RouteStartsAndStops :
    (∃ (s : State) (f : Part) (q : Fin 64) (c : Cmd), s.front f q 0x20 = some c ∧ c.target < 16 ∧ s.img.immediateBusy = false ∧ s.routeAllowed f c.target = true ∧ (((s.route c.target).st = .ready ∨ (s.route c.target).st = .faulted))) ∧
    (∃ (s : State) (f : Part) (q : Fin 64) (c : Cmd), s.front f q 0x20 = some c ∧ s.img.immediateBusy = false ∧ s.routeAllowed f c.target = true ∧ (((s.route c.target).st = .starting ∨ (s.route c.target).st = .running))) ∧
    (∃ (s : State) (f : Part) (q : Fin 64) (c : Cmd), s.front f q 0x21 = some c ∧ c.target < 16 ∧ c.param 0 1 = 0 ∧ s.routeAllowed f c.target = true ∧ (((s.route c.target).st = .starting ∨ (s.route c.target).st = .running)) ∧ ((s.route c.target).frames.all fun x => x.inFlight && !x.aborted) = true ∧ (s.route c.target).frames ≠ []) ∧
    (∃ (s : State) (f : Part) (q : Fin 64) (c : Cmd), s.front f q 0x21 = some c ∧ c.target < 16 ∧ c.param 0 1 = 1 ∧ s.routeAllowed f c.target = true ∧ (((s.route c.target).st = .starting ∨ (s.route c.target).st = .running ∨ (s.route c.target).st = .stopping)) ∧ ((s.route c.target).frames.all fun x => x.inFlight && !x.idle) = true ∧ (s.route c.target).frames ≠ []) ∧
    (∃ (s : State) (f : Part) (q : Fin 64) (c : Cmd), s.front f q 0x21 = some c ∧ s.routeAllowed f c.target = true ∧ (s.route c.target).stopped = true) ∧
    (∃ (s : State) (r : Fin 16), (s.route r).st = .running ∧ ((s.route r).frames.all fun x => x.inFlight && !x.idle) = true ∧ (s.route r).frames ≠ []) :=
  ⟨⟨(hostState { cmds := [{ desc := [0x20] }] }).setRoute 0 { st := .faulted, fault := 2 }, 0, 0, { desc := [0x20] }, by decide⟩,
    ⟨(hostState { cmds := [{ desc := [0x20] }] }).setRoute 0 { st := .running }, 0, 0, { desc := [0x20] }, by decide⟩,
    ⟨(hostState { cmds := [{ desc := [0x21] }] }).setRoute 0 { st := .running, frames := [{ id := 7 }] }, 0, 0, { desc := [0x21] }, by decide⟩,
    ⟨(hostState { cmds := [{ desc := 0x21 :: List.replicate 31 0 ++ [1] }] }).setRoute 0 { st := .running, frames := [{ nodes := [{ st := .running }] }] }, 0, 0, { desc := 0x21 :: List.replicate 31 0 ++ [1] }, by decide⟩,
    ⟨hostState { cmds := [{ desc := [0x21] }] }, 0, 0, { desc := [0x21] }, by decide⟩,
    ⟨routeState .running [{ nodes := [{ st := .running }] }], 0, by decide⟩⟩

/-- States and operands that meet the hypotheses of each clause of `Obligations.NodesRunAndFramesRetire`. -/
theorem witness_NodesRunAndFramesRetire :
    (∃ (s : State) (r : Fin 16) (id n : Nat) (f : Frame) (c : Bytes), s.frame r id = some f ∧ (s.frameStruct f).node r n = some c ∧ byteAt c 8 = 2 ∧ s.ready r f n = true ∧ s.engineFree r id (field c 6 2) = true ∧ s.wins r f n (field c 6 2) = true ∧ s.slotGate r (field c 6 2) (field c 16 4) = true) ∧
    (∃ (s : State) (r : Fin 16) (id n : Nat) (f : Frame) (c : Bytes), s.frame r id = some f ∧ (s.frameStruct f).node r n = some c ∧ byteAt c 8 = 1 ∧ s.ready r f n = true ∧ s.engineFree r id (field c 6 2) = true ∧ s.wins r f n (field c 6 2) = true ∧ s.slotGate r (field c 6 2) (field c 16 4) = true) ∧
    (∃ (s : State) (r : Fin 16) (id n : Nat) (m : NodeRun), (s.frame r id).bind (·.nodeRun n) = some m ∧ m.st = .running ∧ m.tasting = false ∧ s.engineDone r id m = true ∧ (s.route r).st = .running ∧ ((s.route r).frames.all fun x => x.inFlight && !x.aborted) = true) ∧
    (∃ (s : State) (r : Fin 16) (f : Frame), (s.route r).frames.find? Frame.inFlight = some f ∧ f.complete = true ∧ (s.route r).st = .running ∧ ((s.route r).frames.all fun x => x.inFlight && !x.aborted) = true) ∧
    (∃ (s : State) (r : Fin 16) (id n x : Nat) (m : NodeRun), (s.frame r id).bind (·.nodeRun n) = some m ∧ m.st = .running ∧ m.over_ = false ∧ m.at_ + m.budget * 1000 < s.gtcNs) ∧
    (∃ (s : State) (r : Fin 16) (id : Nat) (f : Frame), s.frame r id = some f ∧ f.missed = false ∧ f.abandoned = none ∧ f.start + field (((s.frameStruct f).route r).getD []) 12 4 * 1000 < s.gtcNs) ∧
    (∃ (s : State) (r : Fin 16) (id : Nat) (f : Frame), s.frame r id = some f ∧ f.abandoned = none ∧ f.aborted = false ∧ ((otherCtxs (((s.frameStruct f).route r).getD [])).filter fun c => !f.ctxs.any (·.1 = c)) ≠ [] ∧ f.start + 1000000 ≤ s.gtcNs) ∧
    (∃ (s : State) (r : Fin 16) (id : Nat) (f : Frame), s.frame r id = some f ∧ f.abandoned = none ∧ f.aborted = false ∧ ((otherCtxs (((s.frameStruct f).route r).getD [])).filter fun c => !f.ctxs.any (·.1 = c)) ≠ [] ∧ f.start + 1000000 ≤ s.gtcNs ∧ (s.route r).st = .running ∧ f.idle = false ∧ ((s.route r).frames.all fun x => x.inFlight && !x.aborted && (x.id ≠ id || !x.idle)) = true) :=
  ⟨⟨withRecs 5 [[0x51, 0, 0, 0, 0, 3, 0x70, 0, 2]] (routeState .running [{ nodes := [{ node := 3 }] }]), 0, 0, 3, { nodes := [{ node := 3 }] }, [0x51, 0, 0, 0, 0, 3, 0x70, 0, 2], by decide⟩,
    ⟨withRecs 5 [[0x51, 0, 0, 0, 0, 3, 0x70, 0, 1]] (routeState .running [{ nodes := [{ node := 3 }] }]), 0, 0, 3, { nodes := [{ node := 3 }] }, [0x51, 0, 0, 0, 0, 3, 0x70, 0, 1], by decide⟩,
    ⟨routeState .running [{ nodes := [{ st := .running, engine := 0x80 }] }], 0, 0, 0, { st := .running, engine := 0x80 }, by decide⟩,
    ⟨routeState .running [{ nodes := [{ st := .ended }] }], 0, { nodes := [{ st := .ended }] }, by decide⟩,
    ⟨{ routeState .running [{ nodes := [{ st := .running }] }] with tmg := { gtc := 2 ^ 48 } }, 0, 0, 0, 5, { st := .running }, by decide⟩,
    ⟨{ routeState .running [{}] with tmg := { gtc := 2 ^ 48 } }, 0, 0, {}, by decide⟩,
    ⟨{ withRecs 5 [[0x50, 0, 0, 0, 0, 0, 0, 0] ++ List.replicate 16 0 ++ [2]] (routeState .running [{}]) with tmg := { gtc := 1000000 * 2 ^ 48 } }, 0, 0, {}, by decide⟩,
    ⟨{ withRecs 5 [[0x50, 0, 0, 0, 0, 0, 0, 0] ++ List.replicate 16 0 ++ [2]] (routeState .running [{ nodes := [{ st := .running }] }]) with tmg := { gtc := 1000000 * 2 ^ 48 } }, 0, 0, { nodes := [{ st := .running }] }, by decide⟩⟩

/-- States and operands that meet the hypotheses of each clause of `Obligations.SlotsTastingAndEngineFaults`. -/
theorem witness_SlotsTastingAndEngineFaults :
    (∃ (s : State) (r : Fin 16) (i c : Nat) (x : Bytes), s.rsq.cycleAt = some c ∧ (s.slotRecs r).find? (byteAt · 5 = i) = some x ∧ (s.route r).st = .running ∧ s.struct.safetyClass r = true ∧ c + field x 8 4 * 1000 ≤ s.gtcNs ∧ s.gtcNs < c + field x 8 4 * 1000 + field x 12 4 * 1000 ∧ s.rsq.openSlots.contains (r.val, i) = false ∧ field x 6 2 < 0x080) ∧
    (∃ (s : State) (r : Fin 16) (i c : Nat) (x : Bytes), s.rsq.cycleAt = some c ∧ (s.slotRecs r).find? (byteAt · 5 = i) = some x ∧ (s.route r).st = .running ∧ s.struct.safetyClass r = true ∧ c + field x 8 4 * 1000 ≤ s.gtcNs ∧ s.gtcNs < c + field x 8 4 * 1000 + field x 12 4 * 1000 ∧ s.rsq.openSlots.contains (r.val, i) = false ∧ 0x080 ≤ field x 6 2 ∧ (s.core (field x 6 2 - 0x080)).stall = none) ∧
    (∃ (s : State) (c : Nat), s.rsq.cycleAt = some c ∧ c + s.struct.slotCycle * 1000 ≤ s.gtcNs) ∧
    (∃ (s : State) (c : Bool) (i e r id n : Nat), e = engineNo c i ∧ s.tastingNode e = some (r, id, n) ∧ s.tasted e r id n = true ∧ field (s.tastingRec r id e) 8 8 = tasteSignature e (s.tastingRec r id e)) ∧
    (∃ (s : State) (c : Bool) (i e r id n : Nat), e = engineNo c i ∧ s.tastingNode e = some (r, id, n) ∧ s.tasted e r id n = true ∧ field (s.tastingRec r id e) 8 8 ≠ tasteSignature e (s.tastingRec r id e) ∧ r < 16) ∧
    (∃ (s : State) (e r : Nat), ((List.range 16).find? fun r => (s.route r).frames.any fun f => f.nodes.any fun m => m.st = .running && decide (m.engine = e)) = some r ∧ (s.route r).st = .running ∧ ((s.route r).frames.all fun x => x.inFlight && !x.idle) = true) ∧
    (∃ (s : State) (e : Nat), ((List.range 16).all fun r => (s.route r).frames.all fun f => f.nodes.all fun m => m.st ≠ .running || decide (m.engine ≠ e)) = true) :=
  ⟨⟨{ withRecs 5 [[0x50, 0, 0, 0, 0, 1], [0x53, 0, 0, 0, 0, 0, 0x70, 0, 0, 0, 0, 0, 1]] (routeState .running []) with stg := { inst := Vector.replicate 10 { job := some { route := 5 } } } } |> fun s => { s with rsq := { s.rsq with cycleAt := some 0 } }, 0, 0, 0, [0x53, 0, 0, 0, 0, 0, 0x70, 0, 0, 0, 0, 0, 1], by decide⟩,
    ⟨withRecs 5 [[0x50, 0, 0, 0, 0, 1], [0x53, 0, 0, 0, 0, 0, 0x80, 0, 0, 0, 0, 0, 1]] (routeState .running []) |> fun s => { s with rsq := { s.rsq with cycleAt := some 0 } }, 0, 0, 0, [0x53, 0, 0, 0, 0, 0, 0x80, 0, 0, 0, 0, 0, 1], by decide⟩,
    ⟨{ rsq := { cycleAt := some 0 } }, 0, by decide⟩,
    ⟨{ routeState .running [{ nodes := [{ st := .running, engine := 0x70, tasting := true }] }] with clk := 2000 }, false, 0, 0x70, 0, 0, 0, by decide⟩,
    ⟨{ withRecs 1 [0x12 :: List.replicate 3 0 ++ [0x70, 0, 0, 0, 1]] (routeState .running [{ nodes := [{ st := .running, engine := 0x70, tasting := true }] }]) with clk := 2000 }, false, 0, 0x70, 0, 0, 0, by decide⟩,
    ⟨routeState .running [{ nodes := [{ st := .running, engine := 0x71 }] }], 0x71, 0, by decide⟩,
    ⟨routeState .running [{ nodes := [{ engine := 0x71 }] }], 0x71, by decide⟩⟩

/-- States and operands that meet the hypotheses of each clause of `Obligations.ImageCommands`. -/
theorem witness_ImageCommands :
    (∃ (s : State) (f : Part) (q : Fin 64) (c : Cmd) (b : Bytes) (ep : Bool), s.front f q 0x10 = some c ∧ s.slotAllowed f c.target = true ∧ 64 ≤ c.length ∧ c.length ≤ 16777216 ∧ (s.slot c.target).busy = false ∧ c.target < 8) ∧
    (∃ (s : State) (f : Part) (q : Fin 64) (c : Cmd), s.front f q 0x10 = some c ∧ s.slotAllowed f c.target = true ∧ 64 ≤ c.length ∧ c.length ≤ 16777216 ∧ (s.slot c.target).busy = false ∧ c.target < 8) ∧
    (∃ (s : State) (f : Part) (q : Fin 64) (c : Cmd), s.front f q 0x11 = some c ∧ c.target < 8) ∧
    (∃ (s : State) (f : Part) (q : Fin 64) (c : Cmd), s.front f q 0x11 = some c ∧ c.param 0 1 = 1 ∧ s.slotAllowed f c.target = true ∧ (s.slot c.target).busy = false ∧ (s.slot c.target).complete = false) ∧
    (∃ (s : State) (f : Part) (q : Fin 64) (c : Cmd), s.front f q 0x12 = some c ∧ s.slotAllowed f c.target = true ∧ (s.slot c.target).apply = none) :=
  ⟨⟨hostState { cmds := [{ desc := [0x10, 0, 0, 0, 0, 0, 0, 0, 7, 0, 0, 0, 64] }] }, 0, 0, { desc := [0x10, 0, 0, 0, 0, 0, 0, 0, 7, 0, 0, 0, 64] }, [1], true, by decide⟩,
    ⟨hostState { cmds := [{ desc := [0x10, 0, 0, 0, 0, 0, 0, 0, 7, 0, 0, 0, 64] }] }, 0, 0, { desc := [0x10, 0, 0, 0, 0, 0, 0, 0, 7, 0, 0, 0, 64] }, by decide⟩,
    ⟨(hostState { cmds := [{ desc := [0x11] }] }).mapSlot 0 fun _ => { complete := true }, 0, 0, { desc := [0x11] }, by decide⟩,
    ⟨hostState { cmds := [{ desc := 0x11 :: List.replicate 31 0 ++ [1] }] }, 0, 0, { desc := 0x11 :: List.replicate 31 0 ++ [1] }, by decide⟩,
    ⟨hostState { cmds := [{ desc := [0x12] }] }, 0, 0, { desc := [0x12] }, by decide⟩⟩

/-- States and operands that meet the hypotheses of each clause of `Obligations.ImagesComeIntoForce`. -/
theorem witness_ImagesComeIntoForce :
    (∃ (s : State) (n : Fin 8) (a : Apply), (s.slot n).apply = some a ∧ a.validated = false) ∧
    (∃ (s : State) (n : Nat) (a : Apply), ((List.range 8).find? fun n => ((s.slot n).apply.map fun a => a.validated && decide (a.point = .immediate)).getD false) = some n ∧ (s.slot n).apply = some a) ∧
    (∃ (s : State) (r : Fin 16) (n : Nat) (a : Apply), s.img.frameApplies r = [(n, a)] ∧ a.window = some true) ∧
    (∃ (s : State) (r : Fin 16) (n : Nat) (a : Apply), s.img.frameApplies r = [(n, a)] ∧ a.window = some false) :=
  ⟨⟨({} : State).mapSlot 3 fun _ => { apply := some {} }, 3, {}, by decide⟩,
    ⟨({} : State).mapSlot 3 fun _ => { apply := some { validated := true } }, 3, { validated := true }, by decide⟩,
    ⟨({} : State).mapSlot 3 fun _ => { apply := some { point := .frame, route := 15, window := some true } }, 15, 3, { point := .frame, route := 15, window := some true }, by decide⟩,
    ⟨({} : State).mapSlot 3 fun _ => { apply := some { point := .frame, route := 15, window := some false } }, 15, 3, { point := .frame, route := 15, window := some false }, by decide⟩⟩

/-- States and operands that meet the hypotheses of each clause of `Obligations.TenantSwitch`. -/
theorem witness_TenantSwitch :
    (∃ (s : State) (f : Part) (q : Fin 64) (c : Cmd), s.front f q 0x43 = some c ∧ s.sec.switch = none) ∧
    (∃ (s : State) (f : Part) (q : Fin 64) (c : Cmd) (w : Switch), s.front f q 0x43 = some c ∧ s.sec.switch = some w) ∧
    (∃ (s : State) (w : Switch), s.sec.switch = some w ∧ w.step = .draining ∧ s.due w.at_ (msTicks 100) = true) ∧
    (∃ (s : State) (w : Switch), s.sec.switch = some w ∧ w.step = .draining ∧ (List.range 16).all s.routeStill = true) ∧
    (∃ (s : State) (w : Switch), s.sec.switch = some w ∧ w.step = .releasing ∧ s.fab.remote = [] ∧ s.fab.leaving = []) ∧
    (∃ (s : State) (w : Switch), s.sec.switch = some w ∧ w.step = .scrubbing ∧ w.zero = true) ∧
    (∃ (s : State) (w : Switch), s.sec.switch = some w ∧ w.step = .scrubbing ∧ w.zero = false) ∧
    (∃ (s : State) (w : Switch), s.sec.switch = some w ∧ w.step = .filling ∧ (List.range 8).all (fun n => (s.slot n).st ≠ .pendingSwitch) = true) :=
  ⟨⟨hostState { cmds := [{ desc := [0x43] }] } |> fun s => s.setRoute 2 { st := .running }, 0, 0, { desc := [0x43] }, by decide⟩,
    ⟨hostState { cmds := [{ desc := [0x43] }] } |> fun s => { s with sec := { s.sec with switch := some {} } }, 0, 0, { desc := [0x43] }, {}, by decide⟩,
    ⟨{ sec := { switch := some {} }, clk := 80000000 }, {}, by decide⟩,
    ⟨{ sec := { switch := some {} } }, {}, by decide⟩,
    ⟨{ sec := { switch := some { step := .releasing } } }, { step := .releasing }, by decide⟩,
    ⟨{ sec := { switch := some { step := .scrubbing, zero := true } } }, { step := .scrubbing, zero := true }, by decide⟩,
    ⟨{ sec := { switch := some { step := .scrubbing } } }, { step := .scrubbing }, by decide⟩,
    ⟨{ sec := { switch := some { step := .filling } } }, { step := .filling }, by decide⟩⟩

/-- States and operands that meet the hypotheses of each clause of `Obligations.HostDataMoves`. -/
theorem witness_HostDataMoves :
    (∃ (s : State) (f : Part) (q : Fin 64) (d : HostRead) (c : Cmd) (a b : Nat), s.front f q 0x30 = some c ∧ bit (c.param 0 1) 0 = false ∧ bit (c.param 0 1) 1 = false ∧ s.place f c.addr0 c.length = .local_ a ∧ s.place f c.addr1 c.length = .local_ b ∧ s.mem.poisoned a c.length = false ∧ s.fab.dir = [] ∧ s.fab.txns = []) ∧
    (∃ (s : State) (f : Part) (q : Fin 64) (d : HostRead) (c : Cmd) (a : Nat), s.front f q 0x30 = some c ∧ bit (c.param 0 1) 0 = false ∧ s.place f c.addr0 c.length = .local_ a ∧ s.away a c.length ≠ [] ∧ ((bit (c.param 0 1) 1 = true ∨ (s.place f c.addr1 c.length).refused = none))) ∧
    (∃ (s : State) (f : Part) (q : Fin 64) (d : HostRead) (c : Cmd) (a : Nat), s.front f q 0x30 = some c ∧ bit (c.param 0 1) 0 = false ∧ bit (c.param 0 1) 1 = true ∧ s.place f c.addr0 c.length = .local_ a ∧ s.mem.poisoned a c.length = false ∧ 0 < c.length ∧ s.away a c.length = []) ∧
    (∃ (s : State) (f : Part) (q : Fin 64) (bs : Bytes) (c : Cmd) (b : Nat), s.front f q 0x30 = some c ∧ bit (c.param 0 1) 0 = true ∧ bit (c.param 0 1) 1 = false ∧ s.place f c.addr1 c.length = .local_ b ∧ bs.length = c.length ∧ s.fab.dir = [] ∧ s.fab.txns = []) ∧
    (∃ (s : State) (f : Part) (q : Fin 64) (c : Cmd), s.front f q 0x30 = some c ∧ bit (c.param 0 1) 0 = true ∧ bit (c.param 0 1) 1 = true) ∧
    (∃ (s : State) (f : Part) (q : Fin 64) (c : Cmd) (b : Nat), s.front f q 0x31 = some c ∧ s.place f c.addr1 c.length = .local_ b ∧ s.fab.dir = [] ∧ s.fab.txns = []) ∧
    (∃ (s : State) (f : Part) (q : Fin 64) (c : Cmd) (detail : Nat), s.front f q 0x31 = some c ∧ s.place f c.addr1 c.length = .bad detail) ∧
    (∃ (s : State) (f : Part) (q : Fin 64) (seq : U32) (addr b : Nat) (bs : Bytes) (c : Cmd), (s.queue f q).cmds.find? (fun c => c.kind = .execute && c.seq = seq.toNat && c.begun && !c.fixed && c.opcode = 0x30 && bit (c.param 0 1) 0) = some c ∧ c.addr1 ≤ addr ∧ addr + bs.length ≤ c.addr1 + c.length ∧ bs ≠ [] ∧ bit (c.param 0 1) 1 = false ∧ s.place f addr bs.length = .local_ b ∧ s.fab.dir = [] ∧ s.fab.txns = []) :=
  ⟨⟨hostState { cmds := [{ desc := [0x30, 0, 0, 0, 0, 0, 0, 0, 0, 0, 0, 0, 8] }] }, 0, 0, .failed, { desc := [0x30, 0, 0, 0, 0, 0, 0, 0, 0, 0, 0, 0, 8] }, 0, 0, by decide⟩,
    ⟨{ hostState { cmds := [{ desc := [0x30, 0, 0, 0, 0, 0, 0, 0, 0, 0, 0, 0, 8] }] } with fab := { dir := [{ owner := some 5 }] } }, 0, 0, .failed, { desc := [0x30, 0, 0, 0, 0, 0, 0, 0, 0, 0, 0, 0, 8] }, 0, by decide⟩,
    ⟨hostState { cmds := [{ desc := [0x30, 0, 0, 0, 0, 0, 0, 0, 0, 0, 0, 0, 8] ++ List.replicate 19 0 ++ [2] }] }, 0, 0, .failed, { desc := [0x30, 0, 0, 0, 0, 0, 0, 0, 0, 0, 0, 0, 8] ++ List.replicate 19 0 ++ [2] }, 0, by decide⟩,
    ⟨hostState { cmds := [{ desc := [0x30, 0, 0, 0, 0, 0, 0, 0, 0, 0, 0, 0, 1] ++ List.replicate 19 0 ++ [1] }] }, 0, 0, [7], { desc := [0x30, 0, 0, 0, 0, 0, 0, 0, 0, 0, 0, 0, 1] ++ List.replicate 19 0 ++ [1] }, 0, by decide⟩,
    ⟨hostState { cmds := [{ desc := 0x30 :: List.replicate 31 0 ++ [3] }] }, 0, 0, { desc := 0x30 :: List.replicate 31 0 ++ [3] }, by decide⟩,
    ⟨hostState { cmds := [{ desc := [0x31, 0, 0, 0, 0, 0, 0, 0, 0, 0, 0, 0, 9] }] }, 0, 0, { desc := [0x31, 0, 0, 0, 0, 0, 0, 0, 0, 0, 0, 0, 9] }, 0, by decide⟩,
    ⟨hostState { cmds := [{ desc := 0x31 :: List.replicate 11 0 ++ [8] ++ List.replicate 11 0 ++ List.replicate 8 0xFF }] }, 0, 0, { desc := 0x31 :: List.replicate 11 0 ++ [8] ++ List.replicate 11 0 ++ List.replicate 8 0xFF }, 5, by decide⟩,
    ⟨hostState { cmds := [{ desc := [0x30, 0, 0, 0, 0, 0, 0, 0, 0, 0, 0, 0, 1] ++ List.replicate 19 0 ++ [1], begun := true }] }, 0, 0, 0, 0, 0, [7], { desc := [0x30, 0, 0, 0, 0, 0, 0, 0, 0, 0, 0, 0, 1] ++ List.replicate 19 0 ++ [1], begun := true }, by decide⟩⟩

/-- States and operands that meet the hypotheses of each clause of `Obligations.EnginesAndHostServices`. -/
theorem witness_EnginesAndHostServices :
    (∃ (s : State) (e : Fin 8) (j : Job), s.hif.dma[e].cur = some j ∧ s.hif.dma[e].saved = none ∧ s.hif.dma[e].waiting = [] ∧ 4096 < j.left) ∧
    (∃ (s : State) (n : Fin 4) (j : Job), s.hif.sealing[n].cur = some j ∧ s.hif.sealing[n].saved = none ∧ s.hif.sealing[n].waiting = [] ∧ j.left ≤ 16777216) ∧
    (∃ (s : State) (n : Fin 8) (j : Job), s.hif.message[n].cur = some j ∧ s.hif.message[n].saved = none ∧ s.hif.message[n].waiting = [] ∧ j.left = 0) ∧
    (∃ (s : State) (n : Fin 4) (k j : Job), s.hif.sealing[n].cur = some k ∧ k.safety = false ∧ s.hif.sealing[n].saved = none ∧ s.hif.sealing[n].waiting = [j] ∧ j.safety = true) ∧
    (∃ (s : State) (f : Part) (q : Fin 64) (c : Cmd) (a : Nat), s.front f q 0x32 = some c ∧ s.place f c.addr0 c.length = .local_ a ∧ c.target ≠ s.struct.boardId) ∧
    (∃ (s : State) (f : Part) (q : Fin 64) (c : Cmd) (bs : Bytes), s.front f q 0x50 = some c ∧ c.target ≠ 1 ∧ c.param 0 4 + c.length ≤ (s.fw.writable c.target).2 ∧ bs.length = c.length) ∧
    (∃ (s : State) (f : Part) (q : Fin 64) (c : Cmd), s.front f q 0x51 = some c) ∧
    (∃ (s : State) (f : Part) (q : Fin 64) (c : Cmd), s.front f q 0x52 = some c ∧ 128 ≤ c.length ∧ ((f.val ≠ 0 ∨ s.top.base ≠ .confidential ∨ bit (c.param 12 1) 1 = true))) ∧
    (∃ (s : State) (f : Part) (q : Fin 64) (c : Cmd), s.front f q 0x53 = some c) :=
  ⟨⟨{ hif := { dma := Vector.replicate 8 { cur := some { left := 4097 } } } }, 7, { left := 4097 }, by decide⟩,
    ⟨{ hif := { sealing := Vector.replicate 4 { cur := some { left := 16777216 } } } }, 3, { left := 16777216 }, by decide⟩,
    ⟨{ hif := { message := Vector.replicate 8 { cur := some { part := 3, left := 0 } } } }, 7, { part := 3, left := 0 }, by decide⟩,
    ⟨{ hif := { sealing := Vector.replicate 4 { cur := some {}, waiting := [{ safety := true }] } } }, 0, {}, { safety := true }, by decide⟩,
    ⟨hostState { cmds := [{ desc := [0x32, 0, 0, 0, 0, 0, 0, 0, 1] }] }, 0, 0, { desc := [0x32, 0, 0, 0, 0, 0, 0, 0, 1] }, 0, by decide⟩,
    ⟨hostState { cmds := [{ desc := [0x50, 0, 0, 0, 0, 0, 0, 0, 3] }] }, 0, 0, { desc := [0x50, 0, 0, 0, 0, 0, 0, 0, 3] }, [], by decide⟩,
    ⟨hostState { cmds := [{ desc := [0x51] }] }, 0, 0, { desc := [0x51] }, by decide⟩,
    ⟨hostState { cmds := [{ desc := [0x52, 0, 0, 0, 0, 0, 0, 0, 0, 0, 0, 0, 128] }] }, 0, 0, { desc := [0x52, 0, 0, 0, 0, 0, 0, 0, 0, 0, 0, 0, 128] }, by decide⟩,
    ⟨hostState { cmds := [{ desc := [0x53] }] }, 0, 0, { desc := [0x53] }, by decide⟩⟩

set_option maxRecDepth 20000 in
/-- States and operands that meet the hypotheses of each clause of `Obligations.ModelLoadsAndReports`. -/
theorem witness_ModelLoadsAndReports :
    (∃ (s : State) (f : Part) (q : Fin 64) (b : Bytes) (ep : Bool) (c : Cmd) (t : Tenant), s.front f q 0x40 = some c ∧ 256 ≤ c.length ∧ b.length = c.length ∧ pkgTotal b = c.length ∧ c.addr1 / 2 ^ 40 = s.struct.boardId ∧ s.struct.inPart f (c.addr1 % 2 ^ 40) (pkgPayload b) = true ∧ pkgFormed b = true ∧ ((pkgQuorum b = true → s.top.eccOn = true)) ∧ s.sec.tenant = some t) ∧
    (∃ (s : State) (f : Part) (q : Fin 64) (b : Bytes) (c : Cmd), s.front f q 0x41 = some c ∧ 1488 ≤ c.length) ∧
    (∃ (s : State) (f : Part) (q : Fin 64) (b : Bytes) (c : Cmd), s.front f q 0x42 = some c ∧ c.length = 224) ∧
    (∃ (s : State) (b : Fin 256) (i : Nat) (h : Bytes) (g : Gather), (s.sec.pairs.any (·.1 = b.val)) = true ∧ (s.sec.gathers.find? fun g => g.asked.contains b.val && decide (i < pkgMembers g.pkg) && decide (i ≠ g.own) && !g.shares.any (·.1 = i)) = some g ∧ g.shares.length + 1 < pkgOthers g.pkg) ∧
    (∃ (s : State) (g : Gather) (c : Cmd), (s.sec.gathers.find? fun g => s.due g.at_ (msTicks 500)) = some g ∧ (s.queue g.part g.queue).cmds.find? (·.pos = g.pos) = some c) :=
  ⟨⟨hostState { cmds := [{ desc := [0x40, 0, 0, 0, 0, 0, 0, 0, 0, 0, 0, 0, 0xC0, 1] }] } |> fun s => { s with sec := { s.sec with tenant := some {} } }, 0, 0, [0x54, 0x59, 0x53, 0x50, 1, 0, 0, 1, 0, 0, 0, 0, 0, 0, 0, 0, 0xC0, 1] ++ List.replicate 14 0 ++ [1, 0, 1] ++ List.replicate 413 0, false, { desc := [0x40, 0, 0, 0, 0, 0, 0, 0, 0, 0, 0, 0, 0xC0, 1] }, {}, by decide⟩,
    ⟨hostState { cmds := [{ desc := [0x41, 0, 0, 0, 0, 0, 0, 0, 0, 0, 0, 0, 0xD0, 5] }] }, 0, 0, [], { desc := [0x41, 0, 0, 0, 0, 0, 0, 0, 0, 0, 0, 0, 0xD0, 5] }, by decide⟩,
    ⟨hostState { cmds := [{ desc := [0x42, 0, 0, 0, 0, 0, 0, 0, 0, 0, 0, 0, 224] }] }, 0, 0, [], { desc := [0x42, 0, 0, 0, 0, 0, 0, 0, 0, 0, 0, 0, 224] }, by decide⟩,
    ⟨{ sec := { pairs := [(1, 0, [])], gathers := [{ pkg := List.replicate 33 0 ++ [2, 3], asked := [1] }] } }, 1, 1, [], { pkg := List.replicate 33 0 ++ [2, 3], asked := [1] }, by decide⟩,
    ⟨{ hostState { cmds := [{ desc := [0x40], begun := true }] } with sec := { gathers := [{}] }, clk := 400000000 }, {}, { desc := [0x40], begun := true }, by decide⟩⟩

/-- States and operands that meet the hypotheses of each clause of `Obligations.QuorumAndPresence`. -/
theorem witness_QuorumAndPresence :
    (∃ (s : State) (b : Fin 256) (hdr nonce sig : Bytes) (x : Tenant), s.sec.tenant = some x) ∧
    (∃ (s : State) (i : Nat) (b : Blob), s.sec.blobs[i]? = some b ∧ 1 < b.k ∧ b.graceAt = none ∧ s.due b.challengeAt (secTicks 10) = true) ∧
    (∃ (s : State) (i : Nat) (b : Blob) (g : Nat), s.sec.blobs[i]? = some b ∧ 1 < b.k ∧ b.graceAt = some g ∧ s.due g (secTicks b.grace) = true ∧ s.fab.dir = [] ∧ s.fab.txns = []) ∧
    (∃ (s : State) (b : Fin 256) (nonce : Bytes) (x : Tenant), s.sec.tenant = some x ∧ s.sameTenant b = true ∧ s.sec.switch = none) ∧
    (∃ (s : State) (b : Fin 256) (i : Nat) (x : Blob), s.sameTenant b = true ∧ b.val ≠ s.struct.boardId ∧ s.sec.blobs[i]? = some x) :=
  ⟨⟨{ sec := { tenant := some {} } }, 1, [], [], [], {}, by decide⟩,
    ⟨{ sec := { blobs := [{ k := 2 }] }, clk := 8000000000 }, 0, { k := 2 }, by decide⟩,
    ⟨{ sec := { blobs := [{ k := 2, graceAt := some 0, grace := 1, len := 64 }] }, clk := 800000000 }, 0, { k := 2, graceAt := some 0, grace := 1, len := 64 }, 0, by decide⟩,
    ⟨{ sec := { tenant := some {} } }, 1, [], {}, by decide⟩,
    ⟨{ sec := { tenant := some {}, blobs := [{}] } }, 1, 0, {}, by decide⟩⟩

/-- States and operands that meet the hypotheses of each clause of `Obligations.CameraFrames`. -/
theorem witness_CameraFrames :
    (∃ (s : State) (p vc : Fin 16) (dt : Nat) (px : List Nat) (ok : Bool), s.camHears p = true) ∧
    (∃ (s : State) (p vc : Fin 16) (h : HdrEcc) (c : Fin 64), s.camHears p = true ∧ h ≠ .bad ∧ s.ctxsOn p vc = [c.val] ∧ (s.ctx c).openFrame = none) ∧
    (∃ (s : State) (p vc : Fin 16) (h : HdrEcc) (c : Fin 64) (f : CtxFrame), s.camHears p = true ∧ h ≠ .bad ∧ s.ctxsOn p vc = [c.val] ∧ (s.ctx c).openFrame = some f) :=
  ⟨⟨withRecs 7 [[0x70]] {}, 0, 0, 0, [], true, by decide⟩,
    ⟨withRecs 7 [[0x70], [0x71]] {}, 0, 0, .clean, 0, by decide⟩,
    ⟨withRecs 7 [[0x70], [0x71]] {} |> fun s => s.mapCtx 0 fun _ => { frames := [{}] }, 0, 0, .clean, 0, {}, by decide⟩⟩

/-- States and operands that meet the hypotheses of each clause of `Obligations.LinesAndSensorBuses`. -/
theorem witness_LinesAndSensorBuses :
    (∃ (s : State) (p vc : Fin 16) (dt : Nat) (h : HdrEcc) (px : List Nat) (ok : Bool), s.camHears p = true ∧ h ≠ .bad ∧ ((s.ctxsOn p vc).find? fun c => (s.struct.context c).map (byteAt · 7) = some dt) = none) ∧
    (∃ (s : State) (p vc : Fin 16) (dt : Nat) (h : HdrEcc) (px : List Nat) (ok : Bool) (c : Fin 64) (f : CtxFrame), s.camHears p = true ∧ h ≠ .bad ∧ ((s.ctxsOn p vc).find? fun c => (s.struct.context c).map (byteAt · 7) = some dt) = some c.val ∧ (s.ctx c).openFrame = some f ∧ f.cut = false ∧ f.arrived < (s.ctxSize c).2 ∧ (s.cin.ports[p].waiting.map (·.size)).sum + lineSize dt px.length ≤ 131072) ∧
    (∃ (s : State) (p : Fin 4) (port : Nat) (l : WaitLine), s.pipeStalled p = false ∧ minBy (fun a b => decide (a.2.stamp < b.2.stamp) || (decide (a.2.stamp = b.2.stamp) && decide (a.2.ctx < b.2.ctx))) (s.pipeWaiting p) = some (port, l)) ∧
    (∃ (s : State) (p : Fin 16), (s.struct.port p).map (byteAt · 5) = some 1) ∧
    (∃ (s : State) (k : Fin 4) (w : U32), s.pf0Ready 0 = true ∧ s.scbOn k = true ∧ w.getLsbD 31 = true ∧ s.cin.scb[k].busy = none ∧ decide (wbits w 17 16 = 3) = bit (s.struct.boardField 6 1) (4 + k) ∧ w.getLsbD 7 = false) ∧
    (∃ (s : State) (k : Fin 4) (nack lost : Bool) (rx : Bytes) (a n rate : Nat) (rd : Bool), s.cin.scb[k].busy = some (a, rd, n, rate)) ∧
    (∃ (s : State) (k : Fin 4) (v : Byte), s.pf0Ready 0 = true ∧ s.scbOn k = true ∧ s.cin.scb[k].fifo.length < 32) ∧
    (∃ (s : State) (k : Fin 4) (v : Byte) (l : Bytes), s.pf0Ready 0 = true ∧ s.cin.scb[k].fifo = v :: l) :=
  ⟨⟨withRecs 7 [[0x70]] {}, 0, 0, 0, .clean, [], true, by decide⟩,
    ⟨withRecs 7 [[0x70], [0x71, 0, 0, 0, 0, 0, 0, 0x2B, 0, 0, 1, 0, 1]] {} |> fun s => s.mapCtx 0 fun _ => { frames := [{}] }, 0, 0, 0x2B, .clean, [7], true, 0, {}, by decide⟩,
    ⟨withRecs 7 [[0x71]] {} |> fun s => s.mapCam 0 fun _ => { waiting := [{}] }, 0, 0, {}, by decide⟩,
    ⟨withRecs 7 [[0x70, 0, 0, 0, 0, 1]] {}, 0, by decide⟩,
    ⟨withRecs 0 [[0x01, 0, 0, 0, 0, 0, 1]] (hostState {}), 0, 0x80000000, by decide⟩,
    ⟨{ cin := { scb := Vector.replicate 4 { busy := some (1, true, 3, 0) } } }, 3, false, false, [1, 2, 3], 1, 3, 0, true, by decide⟩,
    ⟨withRecs 0 [[0x01, 0, 0, 0, 0, 0, 1]] (hostState {}), 0, 5, by decide⟩,
    ⟨{ hostState {} with cin := { scb := Vector.replicate 4 { fifo := [9] } } }, 0, 9, [], by decide⟩⟩

/-- States and operands that meet the hypotheses of each clause of `Obligations.BeatsAndInputLines`. -/
theorem witness_BeatsAndInputLines :
    (∃ (s : State) (d : Fin 48) (b : Beat) (l : List Beat) (r : Bytes), (s.dstPort d).waiting = b :: l ∧ s.connection d = some r ∧ d.val < 13 ∧ s.stageTakes (dstInput d).1 (dstInput d).2 b = false ∧ s.stageAwaits (dstInput d).1 (dstInput d).2 (byteAt r 6) b = false) ∧
    (∃ (s : State) (d : Fin 48) (b : Beat) (l : List Beat) (r : Bytes), (s.dstPort d).waiting = b :: l ∧ s.connection d = some r ∧ d.val < 13 ∧ s.stageTakes (dstInput d).1 (dstInput d).2 b = false ∧ s.stageAwaits (dstInput d).1 (dstInput d).2 (byteAt r 6) b = true ∧ (s.dstPort d).held = [] ∧ 0 < field r 10 2) ∧
    (∃ (s : State) (d : Fin 48) (b : Beat) (l : List Beat) (r : Bytes), (s.dstPort d).waiting = b :: l ∧ s.connection d = some r ∧ 13 ≤ d.val ∧ d.val < 29 ∧ (s.dstPort d).held.length < field r 10 2) ∧
    (∃ (s : State) (d : Fin 48) (b : Beat) (l : List Beat) (r : Bytes), (s.dstPort d).waiting = b :: l ∧ s.connection d = some r ∧ 13 ≤ d.val ∧ d.val < 29 ∧ field r 10 2 ≤ (s.dstPort d).held.length) ∧
    (∃ (s : State) (d : Fin 48) (b : Beat) (l : List Beat) (r : Bytes), (s.dstPort d).waiting = b :: l ∧ s.connection d = some r ∧ 29 ≤ d.val) ∧
    (∃ (s : State) (i : Fin 10) (p : Fin 2) (j : StageJob) (b : Beat) (k : Nat), (s.drainDst (inputDst i p)).job i = some j ∧ ((s.drainDst (inputDst i p)).dstPort (inputDst i p)).line.getLast? = some b ∧ b.last = true ∧ b.closing = false ∧ (s.drainDst (inputDst i p)).tastingOn (stageSrc i) = false ∧ (s.drainDst (inputDst i p)).stageStalled i = false ∧ (s.drainDst (inputDst i p)).lineLevel i j (inputDst i p) b.plane = some k) ∧
    (∃ (s : State) (i : Fin 10) (p : Fin 2) (j : StageJob) (b : Beat), (s.drainDst (inputDst i p)).job i = some j ∧ ((s.drainDst (inputDst i p)).dstPort (inputDst i p)).line.getLast? = some b ∧ b.closing = true ∧ (s.drainDst (inputDst i p)).tastingOn (stageSrc i) = false ∧ (s.drainDst (inputDst i p)).stageStalled i = false) :=
  ⟨⟨withRecs 4 [[0x40]] {} |> fun s => s.mapDst 0 fun _ => { waiting := [aBeat true false] }, 0, aBeat true false, [], [0x40], by decide⟩,
    ⟨withRecs 4 [[0x40, 0, 0, 0, 0, 3, 0, 0, 0, 0, 1]] (withRecs 5 [[0x51, 0, 0, 0, 0, 0, 0x73]] (withRecs 6 [[0x60, 0, 0, 0, 0x73, 0, 0, 1] ++ List.replicate 64 0] (routeState .running [{ ctxs := [(0, 0, 0)], nodes := [{}] }]))) |> fun s => s.mapDst 3 fun _ => { waiting := [aBeat true false] }, 3, aBeat true false, [], [0x40, 0, 0, 0, 0, 3, 0, 0, 0, 0, 1], by decide⟩,
    ⟨withRecs 4 [[0x40, 0, 0, 0, 0, 13, 0, 0, 0, 0, 1]] {} |> fun s => s.mapDst 13 fun _ => { waiting := [aBeat true false] }, 13, aBeat true false, [], [0x40, 0, 0, 0, 0, 13, 0, 0, 0, 0, 1], by decide⟩,
    ⟨withRecs 4 [[0x40, 0, 0, 0, 0, 28, 0, 0, 0, 0, 0]] {} |> fun s => s.mapDst 28 fun _ => { waiting := [aBeat true false] }, 28, aBeat true false, [], [0x40, 0, 0, 0, 0, 28, 0, 0, 0, 0, 0], by decide⟩,
    ⟨withRecs 4 [[0x40, 0, 0, 0, 0, 29]] {} |> fun s => s.mapDst 29 fun _ => { waiting := [aBeat true false] }, 29, aBeat true false, [], [0x40, 0, 0, 0, 0, 29], by decide⟩,
    ⟨({ stg := { inst := Vector.replicate 10 { job := some {} } } } : State).mapDst 0 fun _ => { line := [aBeat true false] }, 0, 0, {}, aBeat true false, 0, by decide⟩,
    ⟨({ stg := { inst := Vector.replicate 10 { job := some {} } } } : State).mapDst 0 fun _ => { line := [aBeat true true] }, 0, 0, {}, aBeat true true, by decide⟩⟩

/-- States and operands that meet the hypotheses of each clause of `Obligations.StageResults`. -/
theorem witness_StageResults :
    (∃ (s : State) (i : Fin 10) (j : StageJob) (g : Nat), (((3 ≤ i.val ∧ i.val ≤ 6) ∨ i.val = 8)) ∧ s.job i = some j ∧ j.coarseAt = none ∧ j.done = false ∧ s.tastingOn (stageSrc i) = false ∧ s.coarseReady i j = some g ∧ j.start + coarseAtNs i j.block ≤ s.gtcNs) ∧
    (∃ (s : State) (i : Fin 10) (j : StageJob) (g c : Nat) (o : Offer), s.job i = some j ∧ j.coarseAt = some (g, c) ∧ refines (stageSrc i) j.block = true ∧ j.done = false ∧ j.slots < (s.mashCfg j).1 ∧ slotFits j g (s.tileCycles i j) j.slots = true ∧ s.due c ((j.slots + 1) * s.tileCycles i j) = true ∧ (s.myTiles i j)[j.slots]? = some o ∧ j.route < 16) ∧
    (∃ (s : State) (i : Fin 10) (j : StageJob) (g c : Nat), s.job i = some j ∧ j.coarseAt = some (g, c) ∧ refines (stageSrc i) j.block = true ∧ j.done = false ∧ j.slots < (s.mashCfg j).1 ∧ slotFits j g (s.tileCycles i j) j.slots = true ∧ s.due c ((j.slots + 1) * s.tileCycles i j) = true ∧ (s.myTiles i j)[j.slots]? = none) ∧
    (∃ (s : State) (i : Fin 10) (j : StageJob) (g c : Nat), s.job i = some j ∧ j.coarseAt = some (g, c) ∧ refines (stageSrc i) j.block = true ∧ j.done = false ∧ j.close ≤ s.gtcNs ∧ (s.myTiles i j).length ≤ j.slots ∧ j.route < 16) ∧
    (∃ (s : State) (c : Fin 64) (j : StageJob), s.job 7 = some j ∧ (portCtxs 7 0 j.block).contains c.val = true ∧ ((portCtxs 7 0 j.block).take ((portCtxs 7 0 j.block).idxOf c.val)).all j.published.contains = true ∧ j.published.contains c.val = false ∧ ((s.stage 7).input 0 c 0).lines.length = (s.inputShape 7 j c 0).2.2 ∧ s.tastingOn 0x077 = false) ∧
    (∃ (s : State) (j : StageJob) (c : Nat), s.job 9 = some j ∧ j.done = false ∧ (if byteAt j.block 1 = 0 then j.completeAt.map (·.2) else some j.clk) = some c ∧ s.due c (1024 + 200 * field j.block 8 2) = true ∧ s.tastingOn 0x079 = false) :=
  ⟨⟨{ stg := { inst := Vector.replicate 10 { job := some { completeAt := some (0, 0) } } } }, 3, { completeAt := some (0, 0) }, 0, by decide⟩,
    ⟨refineState [{ source := 0x78 }] 1, 8, refineJob, 0, 0, { source := 0x78 }, by decide, by decide, by decide, by decide, by decide, by decide, by decide, by have h : (refineState [{ source := 0x78 }] 1).myTiles ((8 : Fin 10) : Nat) refineJob = _ := refine_tiles _ (.inr rfl); rw [h]; rfl, by decide⟩,
    ⟨refineState [] 1, 8, refineJob, 0, 0, by decide, by decide, by decide, by decide, by decide, by decide, by decide, by have h : (refineState [] 1).myTiles ((8 : Fin 10) : Nat) refineJob = _ := refine_tiles _ (.inl rfl); rw [h]; rfl⟩,
    ⟨refineState [] 1, 8, refineJob, 0, 0, by decide, by decide, by decide, by decide, by decide, by have h : (refineState [] 1).myTiles ((8 : Fin 10) : Nat) refineJob = _ := refine_tiles _ (.inl rfl); rw [h]; decide, by decide⟩,
    ⟨{ stg := { inst := Vector.replicate 10 { job := some { block := [1] } } } }, 0, { block := [1] }, by decide⟩,
    ⟨{ stg := { inst := Vector.replicate 10 { job := some {completeAt := some (0, 0) } } }, clk := 1024 }, { completeAt := some (0, 0) }, 0, by decide⟩⟩

/-- States and operands that meet the hypotheses of each clause of `Obligations.LocalStoreInstructions`. -/
theorem witness_LocalStoreInstructions :
    (∃ (s : State) (c : Fin 64) (w : U64) (t : Task) (x : Core), s.issues c 0x20 w (mV ||| mSB ||| mIMM) t = true ∧ x = { s.core c with stepOne := false } ∧ t.badAccess (x.ea w) 512 512 = none) ∧
    (∃ (s : State) (c : Fin 64) (w : U64) (t : Task) (x : Core), s.issues c 0x21 w (mV ||| mSB ||| mIMM) t = true ∧ x = { s.core c with stepOne := false } ∧ t.badAccess (x.ea w) 512 512 = none) ∧
    (∃ (s : State) (c : Fin 64) (w : U64) (t : Task) (x : Core), s.issues c 0x22 w (mV ||| mSB ||| mIMM ||| mSX) t = true ∧ x = { s.core c with stepOne := false } ∧ t.badStride (x.ea w) (x.sreg (fldSX w)).toNat = none) ∧
    (∃ (s : State) (c : Fin 64) (w : U64) (t : Task) (x : Core), s.issues c 0x23 w (mV ||| mSB ||| mIMM ||| mSX ||| mESZ) t = true ∧ x = { s.core c with stepOne := false } ∧ fldESZ w ≤ 2 ∧ t.badStride (x.ea w) (x.sreg (fldSX w)).toNat = none) ∧
    (∃ (s : State) (c : Fin 64) (w : U64) (t : Task) (x : Core), s.issues c 0x24 w (mSX ||| mSB ||| mIMM) t = true ∧ x = { s.core c with stepOne := false } ∧ t.badAccess (x.ea w) 4 4 = none) ∧
    (∃ (s : State) (c : Fin 64) (w : U64) (t : Task) (x : Core), s.issues c 0x25 w (mSX ||| mSB ||| mIMM) t = true ∧ x = { s.core c with stepOne := false } ∧ t.badAccess (x.ea w) 4 4 = none) ∧
    (∃ (s : State) (c : Fin 64) (w : U64) (t : Task) (x : Core), s.issues c 0x26 w (mIDX ||| mV ||| mSB ||| mIMM) t = true ∧ x = { s.core c with stepOne := false } ∧ t.badAccess (x.ea w) 32 32 = none) ∧
    (∃ (s : State) (c : Fin 64) (x : Core), x.loops = [] ∧ x.pWaitAt = none) ∧
    (∃ (s : State) (c : Fin 64) (w : U64) (t : Task) (x : Core), s.issues c 0x20 w (mV ||| mSB ||| mIMM) t = true ∧ x = { s.core c with stepOne := false } ∧ t.phys (x.ea w) + 512 ≤ t.bound ∧ x.ea w % 512 ≠ 0) ∧
    (∃ (s : State) (c : Fin 64) (w : U64) (t : Task) (x : Core), s.issues c 0x20 w (mV ||| mSB ||| mIMM) t = true ∧ x = { s.core c with stepOne := false } ∧ t.bound < t.phys (x.ea w) + 512 ∧ x.ea w % 512 = 0) :=
  ⟨⟨necState { task := some necTask }, 0, 0x20, necTask, { task := some necTask }, by decide⟩,
    ⟨necState { task := some necTask }, 0, 0x21, necTask, { task := some necTask }, by decide⟩,
    ⟨necState { task := some necTask }, 0, 0x22, necTask, { task := some necTask }, by decide⟩,
    ⟨necState { task := some necTask }, 0, 0x23, necTask, { task := some necTask }, by decide⟩,
    ⟨necState { task := some necTask }, 0, 0x24, necTask, { task := some necTask }, by decide⟩,
    ⟨necState { task := some necTask }, 0, 0x25, necTask, { task := some necTask }, by decide⟩,
    ⟨necState { task := some necTask }, 0, 0x26, necTask, { task := some necTask }, by decide⟩,
    ⟨{}, 0, {}, by decide⟩,
    ⟨necState { task := some necTask }, 0, 0x1000020, necTask, { task := some necTask }, by decide⟩,
    ⟨necState { task := some { codeLen := 8 } }, 0, 0x20, { codeLen := 8 }, { task := some { codeLen := 8 } }, by decide⟩⟩

/-- States and operands that meet the hypotheses of each clause of `Obligations.CaskAndDmaInstructions`. -/
theorem witness_CaskAndDmaInstructions :
    (∃ (s : State) (c : Fin 64) (w : U64) (t : Task) (r : Bytes), s.issues c 0x30 w (mIMM ||| mIDX ||| 2 ^ 50) t = true ∧ s.caskRec c (fldIDX w) = some r ∧ okN w (caskCfg r) = true ∧ fldIMM w ≤ ((s.core c).cask (fldIDX w)).level (caskCfg r).size) ∧
    (∃ (s : State) (c : Fin 64) (w : U64) (t : Task) (r : Bytes), s.issues c 0x30 w (mIMM ||| mIDX ||| 2 ^ 50) t = true ∧ s.caskRec c (fldIDX w) = some r ∧ okN w (caskCfg r) = true ∧ ((s.core c).cask (fldIDX w)).level (caskCfg r).size < fldIMM w) ∧
    (∃ (s : State) (c : Fin 64) (w : U64) (t : Task) (r : Bytes), s.issues c 0x31 w (mV ||| mIMM ||| mIDX) t = true ∧ s.caskRec c (fldIDX w) = some r ∧ fldIMM w % 32 = 0 ∧ fldIMM w + 512 ≤ (caskCfg r).size ∧ fldIMM w + 512 ≤ ((s.core c).cask (fldIDX w)).level (caskCfg r).size) ∧
    (∃ (s : State) (c : Fin 64) (w : U64) (t : Task) (r : Bytes), s.issues c 0x32 w (mIMM ||| mIDX) t = true ∧ s.caskRec c (fldIDX w) = some r ∧ okN w (caskCfg r) = true ∧ fldIMM w ≤ ((s.core c).cask (fldIDX w)).level (caskCfg r).size) ∧
    (∃ (s : State) (c : Fin 64) (w : U64) (t : Task) (r : Bytes), s.issues c 0x33 w (mIDX ||| mV) t = true ∧ s.caskRec c (fldIDX w) = some r ∧ (caskCfg r).stream = false ∧ 512 ≤ (caskCfg r).size - ((s.core c).cask (fldIDX w)).level (caskCfg r).size) ∧
    (∃ (s : State) (c : Fin 64) (w : U64) (t : Task) (r : Bytes), s.issues c 0x34 w (mSX ||| mIDX) t = true ∧ s.caskRec c (fldIDX w) = some r) ∧
    (∃ (s : State) (c : Fin 64) (w : U64) (t : Task) (x : Core), s.issues c 0x40 w (mSB ||| mIMM ||| span 49 48) t = true ∧ x = { s.core c with stepOne := false } ∧ t.fits (x.ea w) 32 = true ∧ s.dmaCheck c t (x.lsRead (t.phys (x.ea w)) 32) = none) ∧
    (∃ (s : State) (c : Fin 64) (w : U64) (t : Task) (x : Core), s.issues c 0x41 w (mSB ||| mIMM ||| span 49 48) t = true ∧ x = { s.core c with stepOne := false } ∧ t.fits (x.ea w) 32 = true ∧ s.dmaCheck c t (x.lsRead (t.phys (x.ea w)) 32) = none) ∧
    (∃ (s : State) (c : Fin 64) (w : U64) (t : Task), s.issues c 0x42 w (span 51 48) t = true ∧ (s.core c).pendingOn t (fldMASK w) = false) ∧
    (∃ (s : State) (c : Fin 64) (w : U64) (t : Task) (x : Core) (b : Bytes), s.issues c 0x43 w (mSB ||| mIMM) t = true ∧ x = { s.core c with stepOne := false } ∧ t.fits (x.ea w) 32 = true ∧ b = x.lsRead (t.phys (x.ea w)) 32 ∧ descReserved b = true ∧ (dmaDesc b).ls % 32 = 0 ∧ (dmaDesc b).mem % 32 = 0 ∧ t.fits (dmaDesc b).ls 64 = true ∧ byteAt (x.lsRead (t.phys (dmaDesc b).ls) 1) 0 / 16 = 4 ∧ (((dmaDesc b).host = true ∨ s.dmaRange t.part (dmaDesc b).mem 64 = true))) ∧
    (∃ (s : State) (c : Fin 64) (k ch : Fin 4) (n : Nat) (d : HostRead) (y : Xfer), ((s.core c).dma.find? fun y => decide (y.task = k.val) && decide (y.ch = ch.val) && !(s.core c).paused y) = some y) ∧
    (∃ (s : State) (c : Fin 64) (k ch : Fin 4) (b : Bytes) (y : Xfer), ((s.core c).dma.find? fun y => decide (y.task = k.val) && decide (y.ch = ch.val) && !(s.core c).paused y) = some y ∧ (dmaDesc y.desc).cask = 0xFF ∧ (dmaDesc y.desc).host = true ∧ (dmaDesc y.desc).rows = 1 ∧ y.into = true ∧ y.moved = 0 ∧ (s.core c).stall = none) :=
  ⟨⟨withRecs 3 [[0x32, 0, 0, 0, 0, 0, 0, 0, 0, 0, 0, 0, 0, 2]] (necState { task := some necTask }), 0, 0x30, necTask, [0x32, 0, 0, 0, 0, 0, 0, 0, 0, 0, 0, 0, 0, 2], by decide⟩,
    ⟨withRecs 3 [[0x32, 0, 0, 0, 0, 0, 0, 0, 0, 0, 0, 0, 0, 2]] (necState { task := some necTask }), 0, 0x40000030, necTask, [0x32, 0, 0, 0, 0, 0, 0, 0, 0, 0, 0, 0, 0, 2], by decide⟩,
    ⟨withRecs 3 [[0x32, 0, 0, 0, 0, 0, 0, 0, 0, 0, 0, 0, 0, 2]] (necState { task := some necTask, casks := Vector.replicate 16 { fillWrap := true } }), 0, 0x31, necTask, [0x32, 0, 0, 0, 0, 0, 0, 0, 0, 0, 0, 0, 0, 2], by decide⟩,
    ⟨withRecs 3 [[0x32, 0, 0, 0, 0, 0, 0, 0, 0, 0, 0, 0, 0, 2]] (necState { task := some necTask, casks := Vector.replicate 16 { fillWrap := true } }), 0, 0x200000032, necTask, [0x32, 0, 0, 0, 0, 0, 0, 0, 0, 0, 0, 0, 0, 2], by decide⟩,
    ⟨withRecs 3 [[0x32, 0, 0, 0, 0, 0, 0, 0, 0, 0, 0, 0, 0, 2]] (necState { task := some necTask }), 0, 0x33, necTask, [0x32, 0, 0, 0, 0, 0, 0, 0, 0, 0, 0, 0, 0, 2], by decide⟩,
    ⟨withRecs 3 [[0x32]] (necState { task := some necTask }), 0, 0x34, necTask, [0x32], by decide⟩,
    ⟨necState { task := some necTask, ls := [(12, 32), (16, 1), (18, 1), (28, 0xFF)] }, 0, 0x40, necTask, _, by decide, rfl, by decide, by decide⟩,
    ⟨necState { task := some necTask, ls := [(12, 32), (16, 1), (18, 1), (28, 0xFF)] }, 0, 0x41, necTask, _, by decide, rfl, by decide, by decide⟩,
    ⟨necState { task := some necTask }, 0, 0xF000000000042, necTask, by decide⟩,
    ⟨necState { task := some necTask, ls := [(0, 0x40), (18, 1)] }, 0, 0x43, necTask, _, _, by decide, rfl, by decide, rfl, by decide, by decide, by decide, by decide, by decide, by decide⟩,
    ⟨necState { dma := [{ desc := List.replicate 28 0 ++ [0xFF] }] }, 0, 0, 0, 3, .failed, { desc := List.replicate 28 0 ++ [0xFF] }, by decide⟩,
    ⟨necState { dma := [{ desc := List.replicate 12 0 ++ [32, 0, 0, 0, 1, 0, 1] ++ List.replicate 9 0 ++ [0xFF], into := true }] }, 0, 0, 0, [7], { desc := List.replicate 12 0 ++ [32, 0, 0, 0, 1, 0, 1] ++ List.replicate 9 0 ++ [0xFF], into := true }, by decide⟩⟩

/-- States and operands that meet the hypotheses of each clause of `Obligations.ControlArithmeticAndMm`. -/
theorem witness_ControlArithmeticAndMm :
    (∃ (s : State) (c : Fin 64) (t : Task), s.free_ c t = true ∧ (s.core c).pc + 8 ≤ t.codeLen) ∧
    (∃ (s : State) (c : Fin 64) (t : Task) (a : Nat), s.free_ c t = true ∧ (s.core c).pc + 8 ≤ t.codeLen) ∧
    (∃ (s : State) (c : Fin 64) (t : Task) (n e : Nat), s.free_ c t = true ∧ (s.core c).pc + 8 ≤ t.codeLen) ∧
    (∃ (s : State) (c : Fin 64) (t : Task) (d : Fin 32) (l : List (Fin 32)) (p : Bool), s.free_ c t = true ∧ (s.core c).pc + 8 ≤ t.codeLen ∧ p = (l.any fun i => (s.core c).sPoison.contains i.val)) ∧
    (∃ (s : State) (c : Fin 64) (t : Task) (d a b : Fin 16) (op : VecOp), s.free_ c t = true ∧ (s.core c).pc + 8 ≤ t.codeLen) ∧
    (∃ (s : State) (c : Fin 64) (w : U64) (t : Task), s.issues c 0x02 w 0 t = true) ∧
    (∃ (s : State) (c : Fin 64) (w : U64) (t : Task), s.issues c 0x03 w (span 51 48) t = true) ∧
    (∃ (s : State) (c : Fin 64) (t : Task), (s.core c).task = some t ∧ (s.core c).stall = some .tile ∧ (s.core c).fed = true ∧ (s.core c).preempt = false ∧ t.stopAtTile = false) ∧
    (∃ (s : State) (c : Fin 64) (w : U64) (t : Task) (m k a p o : Nat) (x : Core), s.issues c 0x50 w (span 32 8) t = true ∧ m = bits w.toNat 31 28 ∧ x = { s.core c with stepOne := false } ∧ k = (x.sreg (bits w.toNat 22 18)).toNat ∧ a = (x.sreg (bits w.toNat 12 8)).toNat ∧ p = (x.sreg (bits w.toNat 17 13)).toNat ∧ o = (x.sreg (bits w.toNat 27 23)).toNat ∧ m < 8 ∧ bit t.modes m = true ∧ 0 < k ∧ k ≤ 65536 ∧ ((mmIsSparse m = true → k % 4 = 0)) ∧ t.badAccess a (mmABytes k) 512 = none ∧ t.badAccess p (mmWBytes m k) 512 = none ∧ t.badAccess o (mmOBytes m) 512 = none) ∧
    (∃ (s : State) (c : Fin 64) (j : MmJob), (s.core c).jobs.find? (·.feeding) = some j) ∧
    (∃ (s : State) (c : Fin 64) (j : MmJob) (r : Bytes × List Nat), minBy (fun a b => decide (a.seq < b.seq)) ((s.core c).jobs.filter (·.result.isSome)) = some j ∧ j.result = some r) :=
  ⟨⟨necState { task := some necTask }, 0, necTask, by decide⟩,
    ⟨necState { task := some necTask }, 0, necTask, 0, by decide⟩,
    ⟨necState { task := some necTask }, 0, necTask, 1, 16, by decide⟩,
    ⟨necState { task := some necTask, sPoison := [3] }, 0, necTask, 31, [3], true, by decide⟩,
    ⟨necState { task := some necTask }, 0, necTask, 0, 1, 2, .toE4M3, by decide⟩,
    ⟨necState { task := some necTask }, 0, 0x02, necTask, by decide⟩,
    ⟨necState { task := some necTask }, 0, 0x03, necTask, by decide⟩,
    ⟨necState { task := some necTask, stall := some .tile }, 0, necTask, by decide⟩,
    ⟨necState { task := some { bound := 524288, codeLen := 8, modes := 1 }, s := Vector.replicate 32 512 }, 0, 0x042050 + 0x800000 + 0x40000, { bound := 524288, codeLen := 8, modes := 1 }, 0, 512, 0, 512, 512, { task := some { bound := 524288, codeLen := 8, modes := 1 }, s := Vector.replicate 32 512 }, by decide, by decide, by decide, by decide, by decide, by decide, by decide, by decide, by decide, by decide, by decide, by decide, by decide, by decide, by decide⟩,
    ⟨necState { acc := #v[[{ feeding := true }], []] }, 0, { feeding := true }, by decide⟩,
    ⟨necState { acc := #v[[{ result := some ([], []) }], []] }, 0, { result := some ([], []) }, ([], []), by decide⟩⟩

set_option maxRecDepth 4000 in
/-- States and operands that meet the hypotheses of each clause of `Obligations.NeuralCoreEvents`. -/
theorem witness_NeuralCoreEvents :
    (∃ (s : State) (p : Fin 16) (b : Beat) (l : List Beat) (r : Bytes), (s.dstPort (13 + p)).held = b :: l ∧ s.connection (13 + p) = some r ∧ (s.route (byteAt r 6)).wants (((s.struct.route (byteAt r 6)).map (byteAt · 7)).getD 64) b = true ∧ ((s.core (byteAt r 8)).cask (byteAt r 9)).row.length < 512 ∧ b.closing = false ∧ byteAt r 8 < 64 ∧ byteAt r 9 < 16) ∧
    (∃ (s : State) (p : Fin 16) (b : Beat) (l : List Beat) (r : Bytes), (s.dstPort (13 + p)).held = b :: l ∧ s.connection (13 + p) = some r ∧ (s.route (byteAt r 6)).wants (((s.struct.route (byteAt r 6)).map (byteAt · 7)).getD 64) b = false) ∧
    (∃ (s : State) (c : Fin 64) (k : Fin 16) (r : Bytes), s.caskRec c k = some r ∧ (caskCfg r).stream = true ∧ 512 ≤ ((s.core c).cask k).row.length ∧ 512 ≤ (caskCfg r).size - ((s.core c).cask k).level (caskCfg r).size) ∧
    (∃ (s : State) (c : Fin 64) (i n : Nat) (r : Bytes), (s.core c).stall = some (.cadv i n) ∧ s.caskRec c i = some r ∧ n ≤ ((s.core c).cask i).level (caskCfg r).size) ∧
    (∃ (s : State) (c : Fin 64) (w : U64) (t : Task), opcodeNamed (w.toNat % 256) = false ∧ s.free_ c t = true ∧ (s.core c).pc + 8 ≤ t.codeLen) ∧
    (∃ (s : State) (c : Fin 64), (s.core c).hopper ≠ [] ∧ 32 ≤ s.necCycles (s.clk - (s.core c).narrowAt)) ∧
    (∃ (s : State) (c : Fin 64) (t : Task), (s.core c).task = some t ∧ 65536 ≤ s.necCycles (s.tileTicks (s.core c))) ∧
    (∃ (s : State) (c : Fin 64) (a : Nat), a < 524288) ∧
    (∃ (s : State) (c : Fin 64) (k : Nat) (e : Option Nat) (t : Task), (s.core c).task = some t ∧ (s.core c).incoming = none ∧ (s.core c).saved = [] ∧ (s.core c).hopper = []) :=
  ⟨⟨withRecs 4 [[0x40, 0, 0, 0, 0, 13]] (routeState .running [{}] |> fun s => s.mapDst 13 fun _ => { held := [aBeat true false] }) |> fun s => s.setRoute 0 { frames := [{ ctxs := [(0, 0, 0)] }] }, 0, aBeat true false, [], [0x40, 0, 0, 0, 0, 13], by decide⟩,
    ⟨withRecs 4 [[0x40, 0, 0, 0, 0, 13]] (({} : State).mapDst 13 fun _ => { held := [aBeat true false] }), 0, aBeat true false, [], [0x40, 0, 0, 0, 0, 13], by decide⟩,
    ⟨withRecs 3 [[0x32, 0, 0, 0, 0, 0, 1, 0, 0, 0, 0, 0, 0, 2]] (necState { casks := Vector.replicate 16 { row := List.replicate 512 0 } }), 0, 0, [0x32, 0, 0, 0, 0, 0, 1, 0, 0, 0, 0, 0, 0, 2], by decide⟩,
    ⟨withRecs 3 [[0x32]] (necState { stall := some (.cadv 0 0) }), 0, 0, 0, [0x32], by decide⟩,
    ⟨necState { task := some necTask }, 0, 0x35, necTask, by decide⟩,
    ⟨necState { hopper := [{}] } |> fun s => { s with clk := 1000 }, 0, by decide⟩,
    ⟨necState { task := some necTask } |> fun s => { s with clk := 1000000 }, 0, necTask, by decide⟩,
    ⟨{}, 63, 524287, by decide⟩,
    ⟨necState { task := some necTask }, 0, 0, none, necTask, by decide⟩⟩

/-- States and operands that meet the hypotheses of each clause of `Obligations.BoardMemoryIsReadAndWritten`. -/
theorem witness_BoardMemoryIsReadAndWritten :
    (∃ (s : State) (a src : Nat) (e : Bytes), s.pwr.mainGood = true ∧ s.inBoardMem (a / 64 * 64) 64 = true ∧ s.mem.poisoned (a / 64 * 64) 64 = false ∧ e.filter (· ≠ 0) = []) ∧
    (∃ (s : State) (a src : Nat) (e : Bytes), s.pwr.mainGood = true ∧ s.inBoardMem (a / 64 * 64) 64 = true ∧ s.mem.poisoned (a / 64 * 64) 64 = false ∧ s.top.eccOn = false) ∧
    (∃ (s : State) (a src : Nat) (e : Bytes), s.pwr.mainGood = true ∧ s.inBoardMem (a / 64 * 64) 64 = true ∧ s.mem.poisoned (a / 64 * 64) 64 = false ∧ s.top.eccOn = true ∧ (e.filter (· ≠ 0)).length = 1) ∧
    (∃ (s : State) (a src : Nat) (e : Bytes), s.pwr.mainGood = true ∧ s.inBoardMem (a / 64 * 64) 64 = true ∧ s.mem.poisoned (a / 64 * 64) 64 = false ∧ s.top.eccOn = true ∧ (((e.filter (· ≠ 0)).length = 2 ∨ (e.filter (· ≠ 0)).length = 3))) ∧
    (∃ (s : State) (a src : Nat) (e : Bytes), s.pwr.mainGood = true ∧ s.inBoardMem (a / 64 * 64) 64 = true ∧ s.mem.poisoned (a / 64 * 64) 64 = true) ∧
    (∃ (s : State) (a : Nat) (d : Bytes) (p : Bool) (e : Bytes), s.pwr.mainGood = true ∧ s.memOk ∧ s.inBoardMem (a / 64 * 64) 64 = true ∧ d ≠ [] ∧ a % 64 + d.length ≤ 64 ∧ ((d.length = 64 ∨ s.sectorRead (a / 64 * 64) e = s.mem.read (a / 64 * 64) 64))) ∧
    (∃ (s : State) (a : Nat) (d : Bytes) (p : Bool) (e : Bytes), s.pwr.mainGood = true ∧ s.inBoardMem (a / 64 * 64) 64 = true ∧ d ≠ [] ∧ a % 64 + d.length ≤ 64 ∧ s.top.eccOn = true) :=
  ⟨⟨{ pwr := { mainGood := true } }, 0, 0, [0, 0], by decide⟩,
    ⟨{ pwr := { mainGood := true }, top := { eccOn := false } }, 0, 0, [3], by decide⟩,
    ⟨{ pwr := { mainGood := true }, top := { eccOn := true } }, 0, 0, [0, 5], by decide⟩,
    ⟨{ pwr := { mainGood := true }, top := { eccOn := true } }, 64, 0, [1, 2], by decide⟩,
    ⟨{ pwr := { mainGood := true }, mem := { poison := [0] } }, 0, 0, [1], by decide⟩,
    ⟨{ pwr := { mainGood := true } }, 63, [1], false, [], by decide⟩,
    ⟨{ pwr := { mainGood := true }, top := { eccOn := true } }, 63, [1], false, [], by decide⟩⟩

/-- States and operands that meet the hypotheses of each clause of `Obligations.CellarAccessesAndErrors`. -/
theorem witness_CellarAccessesAndErrors :
    (∃ (s : State) (r : CellarReq), s.pwr.mainGood = true ∧ r.addr / 2 ^ 40 = s.struct.boardId ∧ s.lineExists (r.addr % 2 ^ 40 / 128 * 128) = true ∧ s.fab.entry (r.addr / 128 * 128) = none ∧ s.fab.busyLine (r.addr / 128 * 128) = false ∧ r.write = false) ∧
    (∃ (s : State) (r : CellarReq), s.pwr.mainGood = true ∧ r.addr / 2 ^ 40 = s.struct.boardId ∧ s.lineExists (r.addr % 2 ^ 40 / 128 * 128) = true ∧ s.fab.entry (r.addr / 128 * 128) = none ∧ s.fab.busyLine (r.addr / 128 * 128) = false ∧ r.write = true) ∧
    (∃ (s : State) (r : CellarReq), s.pwr.mainGood = true ∧ r.addr / 2 ^ 40 = s.struct.boardId ∧ s.lineExists (r.addr % 2 ^ 40 / 128 * 128) = false) ∧
    (∃ (s : State) (r : CellarReq) (l : RLine), s.pwr.mainGood = true ∧ r.addr / 2 ^ 40 ≠ s.struct.boardId ∧ r.addr < 2 ^ 48 ∧ s.requestRoom (r.addr / 2 ^ 40) = true ∧ s.fab.rline (r.addr / 128 * 128) = some l ∧ l.settled = true ∧ r.write = false) ∧
    (∃ (s : State) (r : CellarReq) (l : RLine), s.pwr.mainGood = true ∧ r.addr / 2 ^ 40 ≠ s.struct.boardId ∧ r.addr < 2 ^ 48 ∧ s.requestRoom (r.addr / 2 ^ 40) = true ∧ s.fab.rline (r.addr / 128 * 128) = some l ∧ ((l.st = .m ∨ l.st = .e)) ∧ r.write = true) ∧
    (∃ (s : State) (r : CellarReq), s.pwr.mainGood = true ∧ r.addr / 2 ^ 40 ≠ s.struct.boardId ∧ r.addr < 2 ^ 48 ∧ s.requestRoom (r.addr / 2 ^ 40) = true ∧ s.fab.rline (r.addr / 128 * 128) = none ∧ s.struct.cacheRegion (r.addr / 128 * 128) = none ∧ r.write = false) ∧
    (∃ (s : State) (r : CellarReq), s.pwr.mainGood = true ∧ r.addr / 2 ^ 40 ≠ s.struct.boardId ∧ r.addr < 2 ^ 48 ∧ s.requestRoom (r.addr / 2 ^ 40) = true ∧ s.fab.rline (r.addr / 128 * 128) = none ∧ s.struct.cacheRegion (r.addr / 128 * 128) = none ∧ r.write = true ∧ r.mask = List.replicate 128 true) ∧
    (∃ (s : State) (i j w a : Nat), s.lineAt i j w = some a ∧ a / 2 ^ 40 = s.struct.boardId ∧ s.struct.pinned (a % 2 ^ 40) = none ∧ ((s.fab.lines.find? (·.line = a / 128)).map (·.dirty)).getD false = false) ∧
    (∃ (s : State) (i j w a : Nat), s.lineAt i j w = some a ∧ a / 2 ^ 40 = s.struct.boardId ∧ s.top.eccOn = true ∧ (((s.struct.pinned (a % 2 ^ 40)).isSome = true ∨ ((s.fab.lines.find? (·.line = a / 128)).map (·.dirty)).getD false = true))) ∧
    (∃ (s : State) (a : Nat), (s.fab.entry (a / 128 * 128)).isSome = true ∧ s.top.eccOn = true) ∧
    (∃ (s : State) (i j w a : Nat) (l : RLine), s.lineAt i j w = some a ∧ a / 2 ^ 40 ≠ s.struct.boardId ∧ s.fab.rline a = some l ∧ l.st = .m) ∧
    (∃ (s : State) (i j w a : Nat) (l : RLine), s.lineAt i j w = some a ∧ a / 2 ^ 40 ≠ s.struct.boardId ∧ s.fab.rline a = some l ∧ ((l.st = .e ∨ l.st = .s))) :=
  ⟨⟨{ pwr := { mainGood := true } }, { part := 0, source := 0, addr := 0, write := false, data := [], mask := [], poison := false }, by decide⟩,
    ⟨{ pwr := { mainGood := true } }, { part := 0, source := 0, addr := 0, write := true, data := [1], mask := [true], poison := false }, by decide⟩,
    ⟨{ pwr := { mainGood := true } }, { part := 0, source := 0, addr := 0xF000000000, write := false, data := [], mask := [], poison := false }, by decide⟩,
    ⟨{ pwr := { mainGood := true }, fab := { remote := [{ addr := 2 ^ 40 }] } }, { part := 0, source := 0, addr := 2 ^ 40, write := false, data := [], mask := [], poison := false }, { addr := 2 ^ 40 }, by decide⟩,
    ⟨{ pwr := { mainGood := true }, fab := { remote := [{ addr := 2 ^ 40, st := .e }] } }, { part := 0, source := 0, addr := 2 ^ 40, write := true, data := [1], mask := [true], poison := false }, { addr := 2 ^ 40, st := .e }, by decide⟩,
    ⟨{ pwr := { mainGood := true } }, { part := 0, source := 0, addr := 2 ^ 40, write := false, data := [], mask := [], poison := false }, by decide⟩,
    ⟨{ pwr := { mainGood := true } }, { part := 0, source := 0, addr := 2 ^ 40, write := true, data := [1], mask := List.replicate 128 true, poison := false }, by decide⟩,
    ⟨{ fab := { lines := [{}] } }, 0, 0, 0, 0, by decide⟩,
    ⟨{ top := { eccOn := true }, fab := { lines := [{ dirty := true }] } }, 0, 0, 0, 0, by decide⟩,
    ⟨{ top := { eccOn := true }, fab := { dir := [{}] } }, 127, by decide⟩,
    ⟨{ fab := { lines := [{ line := 2 ^ 33 }], remote := [{ addr := 2 ^ 40, st := .m }] } }, 0, 0, 0, 2 ^ 40, { addr := 2 ^ 40, st := .m }, by decide⟩,
    ⟨{ fab := { lines := [{ line := 2 ^ 33 }], remote := [{ addr := 2 ^ 40, st := .e }] } }, 0, 0, 0, 2 ^ 40, { addr := 2 ^ 40, st := .e }, by decide⟩⟩

/-- States and operands that meet the hypotheses of each clause of `Obligations.HomeTakesRequests`. -/
theorem witness_HomeTakesRequests :
    (∃ (s : State) (h : FabHdr), s.fresh h = true) ∧
    (∃ (s : State) (h : FabHdr), s.fresh h = true) ∧
    (∃ (s : State) (h : FabHdr), s.fresh h = true) ∧
    (∃ (s : State) (h : FabHdr) (m : List Bool) (d : Bytes) (p : Bool), s.fresh h = true) ∧
    (∃ (s : State) (h : FabHdr), s.fab.kept = [] ∧ s.fab.txns = [] ∧ s.fab.queue = [] ∧ s.hears h.src = true ∧ s.serves (onLine h) = false) ∧
    (∃ (s : State) (h : FabHdr) (k : Kept), s.hears h.src = true ∧ (s.pruneKept h).fab.kept.find? (fun k => k.src = h.src && k.reqId = h.reqId) = some k) ∧
    (∃ (s : State) (h : FabHdr), s.fab.lost.contains h.src = true) :=
  ⟨⟨homeState {}, homeHdr, by decide⟩,
    ⟨homeState {}, homeHdr, by decide⟩,
    ⟨homeState {}, homeHdr, by decide⟩,
    ⟨homeState {}, homeHdr, [], [], false, by decide⟩,
    ⟨{}, homeHdr, by decide⟩,
    ⟨{ fab := { kept := [{ src := 1 }] } }, homeHdr, { src := 1 }, by decide⟩,
    ⟨{ fab := { lost := [1] } }, homeHdr, by decide⟩⟩

/-- States and operands that meet the hypotheses of each clause of `Obligations.HomeActions`. -/
theorem witness_HomeActions :
    (∃ (s : State) (r : HomeReq), s.fab.busyLine r.addr = true) ∧
    (∃ (b : Fab) (r : HomeReq), ((∀ x ∈ b.queue, x.arrived < r.arrived ∨ x.arrived = r.arrived ∧ x.port ≤ r.port))) ∧
    (∃ (b : Fab) (r : HomeReq), b.queue ≠ [] ∧ (∀ x ∈ b.queue, x.arrived = r.arrived ∧ r.port < x.port)) ∧
    (∃ (s : State) (r : HomeReq), s.fab.busyLine r.addr = false ∧ s.fab.lost.contains r.src = false ∧ s.fab.dirFull r.addr = false ∧ s.fab.entry r.addr = none ∧ ((r.typ = .readShared ∨ r.typ = .readUnique))) ∧
    (∃ (s : State) (r : HomeReq), s.fab.busyLine r.addr = false ∧ s.fab.lost.contains r.src = false ∧ r.src ≠ s.struct.boardId ∧ s.fab.entry r.addr = none ∧ r.typ = .readNokeep ∧ r.quiet = false) ∧
    (∃ (s : State) (r : HomeReq), s.fab.busyLine r.addr = false ∧ s.fab.lost.contains r.src = false ∧ r.src ≠ s.struct.boardId ∧ s.fab.entry r.addr = none ∧ r.typ = .writeMerge) ∧
    (∃ (s : State) (r : HomeReq) (e : DirEnt) (o : Nat), s.fab.busyLine r.addr = false ∧ s.fab.entry r.addr = some e ∧ e.owner = some o ∧ o ≠ r.src ∧ ((r.typ = .readShared ∨ r.typ = .readNokeep))) ∧
    (∃ (s : State) (r : HomeReq) (e : DirEnt) (o : Nat), s.fab.busyLine r.addr = false ∧ s.fab.entry r.addr = some e ∧ e.owner = some o ∧ o ≠ r.src ∧ r.typ = .readUnique) ∧
    (∃ (s : State) (r : HomeReq) (e : DirEnt), s.fab.busyLine r.addr = false ∧ s.fab.entry r.addr = some e ∧ e.owner = none ∧ s.fab.lost.contains r.src = false ∧ r.typ = .readShared) ∧
    (∃ (s : State) (r : HomeReq) (e : DirEnt), s.fab.busyLine r.addr = false ∧ s.fab.entry r.addr = some e ∧ e.owner = none ∧ r.typ = .readUnique ∧ (s.holders e).filter (· ≠ r.src) ≠ []) ∧
    (∃ (s : State) (r : HomeReq) (e : DirEnt), s.fab.busyLine r.addr = false ∧ s.fab.entry r.addr = some e ∧ e.owner = none ∧ s.fab.lost.contains r.src = false ∧ r.typ = .readUnique ∧ e.broadcast = false ∧ e.sharers = [r.src]) ∧
    (∃ (s : State) (r : HomeReq) (e : DirEnt), s.fab.busyLine r.addr = false ∧ s.fab.entry r.addr = some e ∧ s.holders e ≠ [] ∧ r.typ = .writeMerge) ∧
    (∃ (s : State) (r : HomeReq) (v : DirEnt), s.fab.busyLine r.addr = false ∧ ((r.typ = .readShared ∨ r.typ = .readUnique)) ∧ s.fab.dirFull r.addr = true ∧ s.fab.victim r.addr = some v) ∧
    (∃ (s : State) (r : HomeReq), s.fab.busyLine r.addr = false ∧ ((r.typ = .readShared ∨ r.typ = .readUnique)) ∧ s.fab.dirFull r.addr = true ∧ s.fab.victim r.addr = none) ∧
    (∃ (s : State) (e : DirEnt) (b : Nat), e.broadcast = false ∧ e.sharers.length < 8) ∧
    (∃ (s : State) (h : FabHdr) (t : Txn), s.hears h.src = true ∧ s.fab.txns.find? (·.req.addr = h.addr / 128 * 128) = some t ∧ t.waiting = [h.src]) :=
  ⟨⟨{ fab := { txns := [{}] } }, {}, by decide⟩,
    ⟨{ queue := [{ port := 1 }] }, { port := 2 }, by decide⟩,
    ⟨{ queue := [{ port := 2 }] }, { port := 1 }, by decide⟩,
    ⟨{}, {}, by decide⟩,
    ⟨{}, { typ := .readNokeep, src := 1 }, by decide⟩,
    ⟨{}, { typ := .writeMerge, src := 1 }, by decide⟩,
    ⟨{ fab := { dir := [{ owner := some 2 }] } }, { src := 1 }, { owner := some 2 }, 2, by decide⟩,
    ⟨{ fab := { dir := [{ owner := some 2 }] } }, { src := 1, typ := .readUnique }, { owner := some 2 }, 2, by decide⟩,
    ⟨{ fab := { dir := [{ sharers := [2] }] } }, { src := 1 }, { sharers := [2] }, by decide⟩,
    ⟨{ fab := { dir := [{ sharers := [2] }] } }, { src := 1, typ := .readUnique }, { sharers := [2] }, by decide⟩,
    ⟨{ fab := { dir := [{ sharers := [1] }] } }, { src := 1, typ := .readUnique }, { sharers := [1] }, by decide⟩,
    ⟨{ fab := { dir := [{ sharers := [1] }] } }, { src := 1, typ := .writeMerge }, { sharers := [1] }, by decide⟩,
    ⟨{ fab := { dir := List.replicate 16 { addr := 1 } } }, {}, { addr := 1 }, by decide⟩,
    ⟨{ fab := { dir := List.replicate 16 { addr := 1 }, txns := [{ req := { addr := 1 } }] } }, {}, by decide⟩,
    ⟨{}, {}, 0, by decide⟩,
    ⟨{ fab := { txns := [{ waiting := [1] }] } }, homeHdr, { waiting := [1] }, by decide⟩⟩

/-- States and operands that meet the hypotheses of each clause of `Obligations.CachesAnswerSnoops`. -/
theorem witness_CachesAnswerSnoops :
    (∃ (s : State) (home a id : Nat) (l : RLine), s.hears home = true ∧ s.fab.rline (a / 128 * 128) = some l ∧ l.st = .m) ∧
    (∃ (s : State) (home a id : Nat) (l : RLine), s.hears home = true ∧ s.fab.rline (a / 128 * 128) = some l ∧ l.st = .e) ∧
    (∃ (s : State) (home a id : Nat) (l : RLine), s.hears home = true ∧ s.fab.rline (a / 128 * 128) = some l ∧ l.st = .s) ∧
    (∃ (s : State) (home a id : Nat) (l : RLine), s.hears home = true ∧ s.fab.rline (a / 128 * 128) = some l ∧ l.st = .upgrade) ∧
    (∃ (s : State) (home a id : Nat), s.hears home = true ∧ (s.fab.rline (a / 128 * 128)).all (fun l => l.st = .waitS || l.st = .waitU) = true) ∧
    (∃ (s : State) (home a id : Nat) (l : RLine), s.hears home = true ∧ s.fab.rline (a / 128 * 128) = some l ∧ l.st = .evicting) ∧
    (∃ (s : State) (h : FabHdr) (d : Bytes) (p : Bool), s.hears h.src = true ∧ s.snooping h.src (h.addr / 128 * 128) = true) ∧
    (∃ (s : State) (h : FabHdr) (t : Txn) (id : Nat), s.hears h.src = true ∧ t.req.addr = h.addr / 128 * 128 ∧ s.fab.txns = [t] ∧ t.waiting = [h.src] ∧ t.attached = [(h.src, id)]) ∧
    (∃ (s : State) (h : FabHdr) (e : DirEnt), s.hears h.src = true ∧ s.fab.kept = [] ∧ s.fab.txns = [] ∧ s.fab.entry (h.addr / 128 * 128) = some e ∧ e.owner = some h.src) ∧
    (∃ (s : State) (h : FabHdr) (e : DirEnt), s.hears h.src = true ∧ s.fab.kept = [] ∧ s.fab.txns = [] ∧ s.fab.entry (h.addr / 128 * 128) = some e ∧ e.owner = none) ∧
    (∃ (s : State) (h : FabHdr) (t : Txn), s.hears h.src = true ∧ s.fab.kept = [] ∧ t.req.addr = h.addr / 128 * 128 ∧ s.fab.txns = [t] ∧ t.waiting.contains h.src = true ∧ t.attached = []) :=
  ⟨⟨askState 0 [{ st := .m }], 1, 0, 0, { st := .m }, by decide⟩,
    ⟨askState 0 [{ st := .e }], 1, 0, 0, { st := .e }, by decide⟩,
    ⟨askState 0 [{}], 1, 0, 0, {}, by decide⟩,
    ⟨askState 0 [{ st := .upgrade }], 1, 0, 0, { st := .upgrade }, by decide⟩,
    ⟨askState 0 [], 1, 0, 0, by decide⟩,
    ⟨askState 0 [{ st := .evicting }], 1, 0, 0, { st := .evicting }, by decide⟩,
    ⟨{ fab := { txns := [{ waiting := [1] }] } }, homeHdr, [], false, by decide⟩,
    ⟨{ fab := { txns := [{ waiting := [1], attached := [(1, 7)] }] } }, homeHdr, { waiting := [1], attached := [(1, 7)] }, 7, by decide⟩,
    ⟨homeState { dir := [{ owner := some 1 }] }, homeHdr, { owner := some 1 }, by decide⟩,
    ⟨homeState { dir := [{ sharers := [1] }] }, homeHdr, { sharers := [1] }, by decide⟩,
    ⟨{ fab := { txns := [{ waiting := [1] }] } }, homeHdr, { waiting := [1] }, by decide⟩⟩

/-- States and operands that meet the hypotheses of each clause of `Obligations.AnswersReachTheirRequests`. -/
theorem witness_AnswersReachTheirRequests :
    (∃ (s : State) (h : FabHdr) (d : Bytes) (p : Bool) (u : Unans), s.expects h [0x01] = some u) ∧
    (∃ (s : State) (h : FabHdr) (d : Bytes) (p : Bool) (u : Unans), s.expects h [0x01, 0x02] = some u) ∧
    (∃ (s : State) (h : FabHdr) (u : Unans), s.expects h [0x02] = some u) ∧
    (∃ (s : State) (a : Nat) (st : CohSt) (d : Bytes) (p : Bool) (l : RLine), s.fab.rline a = some l ∧ l.settled = false ∧ l.st ≠ .evicting ∧ l.wait = []) ∧
    (∃ (s : State) (h : FabHdr) (d : Bytes) (p : Bool) (u : Unans), s.expects h [0x03] = some u ∧ u.cmd = none) ∧
    (∃ (s : State) (h : FabHdr) (d : Bytes) (p : Bool) (u : Unans), s.expects h [0x03] = some u) ∧
    (∃ (s : State) (h : FabHdr) (u : Unans), s.expects h [0x04] = some u) ∧
    (∃ (s : State) (h : FabHdr) (u : Unans) (l : RLine), s.expects h [0x20, 0x21] = some u ∧ (s.answered h.src h.reqId).fab.rline (h.addr / 128 * 128) = some l ∧ l.st = .evicting ∧ l.wait = []) ∧
    (∃ (s : State) (h : FabHdr) (u : Unans) (f q p : Nat), s.expects h [0x30] = some u ∧ u.cmd = some (f, q, p) ∧ (s.fab.windows.any fun w => w.board = h.src && w.window = ofLe (u.msg.data.take 4) && w.part = u.msg.part) = true) ∧
    (∃ (s : State) (h : FabHdr) (u : Unans), s.expects h [0x01, 0x02, 0x03, 0x04, 0x20, 0x21, 0x30, 0x33] = some u ∧ ((u.msg.typ ≠ 0x30 ∨ (s.fab.windows.any fun w => w.board = h.src && w.window = ofLe (u.msg.data.take 4) && w.part = u.msg.part) = false))) ∧
    (∃ (s : State) (h : FabHdr), s.unanswered h.src h.reqId = none) ∧
    (∃ (s : State) (src id : Nat), s.fab.waitReq = []) :=
  ⟨⟨askState 1 [], homeHdr, [], false, { msg := { typ := 1, dest := 1 } }, by decide⟩,
    ⟨askState 1 [], homeHdr, [], false, { msg := { typ := 1, dest := 1 } }, by decide⟩,
    ⟨askState 2 [], homeHdr, { msg := { typ := 2, dest := 1 } }, by decide⟩,
    ⟨askState 1 [{ st := .waitS }], 0, .s, [], false, { st := .waitS }, by decide⟩,
    ⟨askState 3 [], homeHdr, [], false, { msg := { typ := 3, dest := 1 } }, by decide⟩,
    ⟨askState 3 [], homeHdr, [], true, { msg := { typ := 3, dest := 1 } }, by decide⟩,
    ⟨askState 4 [], homeHdr, { msg := { typ := 4, dest := 1 } }, by decide⟩,
    ⟨askState 0x20 [{ st := .evicting }], homeHdr, { msg := { typ := 0x20, dest := 1 } }, { st := .evicting }, by decide⟩,
    ⟨{ fab := { unans := [{ msg := { typ := 0x30, dest := 1 }, cmd := some (0, 0, 0) }], windows := [{ board := 1, window := 0, part := 0, base := 0, size := 0 }] } }, homeHdr, { msg := { typ := 0x30, dest := 1 }, cmd := some (0, 0, 0) }, 0, 0, 0, by decide⟩,
    ⟨askState 1 [], homeHdr, { msg := { typ := 1, dest := 1 } }, by decide⟩,
    ⟨{}, homeHdr, by decide⟩,
    ⟨{}, 0, 0, by decide⟩⟩

/-- States and operands that meet the hypotheses of each clause of `Obligations.MailboxMessages`. -/
theorem witness_MailboxMessages :
    (∃ (s : State) (h : FabHdr) (m n : Nat) (w : Bytes) (size wr rd coming : Nat), s.hears h.src = true ∧ s.fab.kept = [] ∧ s.struct.exportRec m = some w ∧ size = (ringOf w).2 ∧ wr = ofLe (s.mem.read (field w 8 8) 8) % max 1 size ∧ rd = ofLe (s.mem.read (field w 8 8 + 8) 8) % max 1 size ∧ coming = ((s.fab.mails.filter fun x => decide (x.window = m)).map fun x => mailRoom x.length).sum ∧ s.sameTenant h.src = true ∧ byteAt w 5 = h.part.val ∧ 1 ≤ n ∧ n ≤ 16777216 ∧ (wr + size - rd) % max 1 size + coming + mailRoom n < size) ∧
    (∃ (s : State) (h : FabHdr) (m n : Nat), s.hears h.src = true ∧ s.fab.kept = [] ∧ ((s.sameTenant h.src = false ∨ n = 0 ∨ 16777216 < n ∨ ((s.struct.exportRec m).bind fun w =>
      if byteAt w 5 = h.part.val then s.mailPlace w m n else none) = none))) ∧
    (∃ (s : State) (h : FabHdr) (u : Unans) (f q : Nat) (c : Cmd), s.expects h [0x30] = some u ∧ s.cmdOf u.cmd = some (f, q, c)) ∧
    (∃ (s : State) (h : FabHdr) (o : Nat) (d : Bytes) (p : Bool) (m : MailIn) (w : Bytes), s.hears h.src = true ∧ s.fab.mails.find? (fun m => m.src = h.src && m.reqId = h.reqId && !m.whole) = some m ∧ s.struct.exportRec m.window = some w ∧ o + d.length ≤ m.length) ∧
    (∃ (s : State) (h : FabHdr) (m : MailIn) (w : Bytes), s.hears h.src = true ∧ s.unanswered h.src h.reqId = none ∧ m.src = h.src ∧ m.reqId = h.reqId ∧ m.whole = false ∧ s.fab.mails = [m] ∧ h.src ≠ s.struct.boardId ∧ s.fab.dir = [] ∧ s.fab.txns = [] ∧ s.struct.exportRec m.window = some w) ∧
    (∃ (s : State) (h : FabHdr) (u : Unans) (f q : Nat) (c : Cmd), s.expects h [0x33] = some u ∧ (s.answered h.src h.reqId).cmdOf u.cmd = some (f, q, c)) :=
  ⟨⟨withRecs 2 [[0x22, 0, 0, 0, 0, 1, 0, 0, 0, 0, 0, 0, 0, 0, 0, 0, 0, 1]] (homeState {}) , homeHdr, 0, 1, _, _, _, _, _, by decide, by decide, rfl, rfl, rfl, rfl, rfl, by decide, by decide, by decide, by decide, by decide⟩,
    ⟨{}, homeHdr, 0, 1, by decide⟩,
    ⟨{ hif := { queues := [(0, { cmds := [{}] })] }, fab := { unans := [{ msg := { typ := 0x30, dest := 1 }, cmd := some (0, 0, 0) }] } }, homeHdr, _, _, _, _, rfl, rfl⟩,
    ⟨homeState { mails := [{ src := 1, length := 1 }] }, homeHdr, 0, [1], false, { src := 1, length := 1 }, [0x22, 0, 0, 0, 0, 1, 0, 0, 0, 0, 0, 0, 0, 0, 0, 0, 0, 0, 1], by decide⟩,
    ⟨homeState { mails := [{ src := 1 }] }, homeHdr, { src := 1 }, [0x22, 0, 0, 0, 0, 1, 0, 0, 0, 0, 0, 0, 0, 0, 0, 0, 0, 0, 1], by decide⟩,
    ⟨{ hif := { queues := [(0, { cmds := [{}] })] }, fab := { unans := [{ msg := { typ := 0x33, dest := 1 }, cmd := some (0, 0, 0) }] } }, homeHdr, _, _, _, _, rfl, rfl⟩⟩

/-- States and operands that meet the hypotheses of each clause of `Obligations.LinksAndBoards`. -/
theorem witness_LinksAndBoards :
    (∃ (s : State) (b : Fin 256) (tag : Bytes) (w : List AdvWin), s.hears b = true) ∧
    (∃ (s : State) (b : Fin 256) (l : List (Nat × Nat)), s.hears b = true ∧ b.val ≠ s.struct.boardId) ∧
    (∃ (s : State) (p : Fin 8) (b : Fin 256) (q : Fin 8) (tag : Bytes), (s.fab.port p).trained = true ∧ (s.fab.port p).session = true ∧ s.struct.lnkEn p = true ∧ s.hears b = true) ∧
    (∃ (s : State) (b : Fin 256), s.hears b = true) ∧
    (∃ (s : State), s.pwr.mainGood = true ∧ s.due s.fab.beatAt (msTicks 1) = true) ∧
    (∃ (s : State) (b : Fin 256), s.hears b = true ∧ s.awaited b = true ∧ s.pwr.mainGood = true ∧ s.due (agetD s.fab.beats b s.pwr.mainGoodAt) (msTicks 5) = true) ∧
    (∃ (s : State) (p : Fin 8) (ok : Bool) (d k : Bytes), s.pwr.mainGood = true ∧ s.struct.lnkEn p = true ∧ (s.fab.port p).session = false ∧ s.pwr.perst = false ∧ s.pwr.brdRst = false) ∧
    (∃ (s : State) (p : Fin 8) (cause : Nat), (s.fab.port p).trained = true ∧ ((cause = 0 ∨ (cause = 1 ∧ ((s.fab.port p).replayBuf.any fun f => decide (8 ≤ f.replays)) = true) ∨
    (cause = 2 ∧ 16 ≤ ((s.fab.port p).tagAt.filter fun t => decide (s.clk < t + secTicks 1)).length)))) :=
  ⟨⟨{}, 1, [], [], by decide⟩,
    ⟨{}, 1, [], by decide⟩,
    ⟨withRecs 0 [[0x01, 0, 0, 0, 0, 0, 0, 1]] { fab := { ports := Vector.replicate 8 { trained := true, session := true } } }, 0, 1, 0, [], by decide⟩,
    ⟨{}, 1, by decide⟩,
    ⟨{ pwr := { mainGood := true }, clk := 1000000 }, by decide⟩,
    ⟨{ pwr := { mainGood := true }, clk := 5000000, fab := { beats := [(1, 0)] } }, 1, by decide⟩,
    ⟨withRecs 0 [[0x01, 0, 0, 0, 0, 0, 0, 1]] { pwr := { mainGood := true, perst := false, brdRst := false } }, 0, true, [], [], by decide⟩,
    ⟨{ fab := { ports := Vector.replicate 8 { trained := true } } }, 0, 0, by decide⟩⟩

/-- States and operands that meet the hypotheses of each clause of `Obligations.FlitsKeysAndResends`. -/
theorem witness_FlitsKeysAndResends :
    (∃ (s : State) (p : Fin 8) (b : Bytes), (s.fab.port p).up = true ∧ (s.readFlit p b).crcOk = false) ∧
    (∃ (s : State) (p : Fin 8) (b : Bytes), (s.fab.port p).up = true ∧ (s.readFlit p b).crcOk = true ∧ (s.fab.port p).sealed = true ∧ (s.readFlit p b).tagOk = false) ∧
    (∃ (s : State) (p : Fin 8) (b : Bytes), (s.fab.port p).up = true ∧ (s.readFlit p b).crcOk = true ∧ (((s.fab.port p).sealed = false ∨ (s.readFlit p b).tagOk = true)) ∧ (s.readFlit p b).counter < (s.fab.port p).rxNext) ∧
    (∃ (s : State) (p : Fin 8) (b : Bytes), (s.fab.port p).up = true ∧ (s.readFlit p b).crcOk = true ∧ (((s.fab.port p).sealed = false ∨ (s.readFlit p b).tagOk = true)) ∧ (s.fab.port p).rxNext < (s.readFlit p b).counter) ∧
    (∃ (s : State) (p : Fin 8) (b : Bytes), (s.fab.port p).up = true ∧ (s.readFlit p b).crcOk = true ∧ (((s.fab.port p).sealed = false ∨ (s.readFlit p b).tagOk = true)) ∧ (s.readFlit p b).counter = (s.fab.port p).rxNext) ∧
    (∃ (s : State) (p : Fin 8), (s.fab.port p).up = true ∧ (s.fab.port p).sealed = true ∧ (s.fab.port p).txNextKey = none ∧ ((2 ^ 32 ≤ (s.fab.port p).keyFlits ∨ s.due (s.fab.port p).keyAt (secTicks 3600) = true))) ∧
    (∃ (s : State) (p : Fin 8) (g : Nat), (s.fab.port p).up = true ∧ (s.fab.port p).sealed = true ∧ g = (s.fab.port p).rxKey + 1) ∧
    (∃ (s : State) (p : Fin 8) (g : Nat), (s.fab.port p).txNextKey = some g) ∧
    (∃ (s : State) (d : Fin 256) (id : Nat) (x : Unans), s.unanswered d id = some x ∧ s.due x.sentAt (msTicks 1) = true ∧ x.resends < 3 ∧ d.val ≠ s.struct.boardId ∧ x.msg.typ ≠ 0x33) ∧
    (∃ (s : State) (d : Fin 256) (id f q : Nat) (x : Unans) (c : Cmd), s.unanswered d id = some x ∧ s.due x.sentAt (msTicks 1) = true ∧ x.resends < 3 ∧ d.val ≠ s.struct.boardId ∧ x.msg.typ = 0x33 ∧ s.cmdOf x.cmd = some (f, q, c)) ∧
    (∃ (s : State) (d : Fin 256) (id : Nat) (x : Unans), s.unanswered d id = some x ∧ s.due x.sentAt (msTicks 1) = true ∧ 3 ≤ x.resends ∧ d.val ≠ s.struct.boardId) ∧
    (∃ (s : State) (d : Fin 256) (t : Nat), alookup s.fab.holds d = some t ∧ s.due t (usTicks 100) = true ∧ s.fab.heldMsgs = []) ∧
    (∃ (s : State) (d : Fin 256) (t : Nat) (m : Msg), alookup s.fab.holds d = some t ∧ s.due t (usTicks 100) = true ∧ s.fab.heldMsgs = [(d.val, m)]) :=
  ⟨⟨{ fab := { ports := Vector.replicate 8 { up := true } } }, 0, [], by decide⟩,
    (by obtain ⟨b, h1, h2⟩ := flit_tag ({ fab := { ports := Vector.replicate 8 { up := true, sealed := true } } } : State) (0 : Fin 8); exact ⟨_, _, b, by decide, h1, by decide, h2⟩),
    (by obtain ⟨b, h1, h2⟩ := flit_good ({ fab := { ports := Vector.replicate 8 { up := true, rxNext := 1 } } } : State) (0 : Fin 8) 0; exact ⟨_, _, b, by decide, h1, Or.inl (by decide), by rw [h2]; decide⟩),
    (by obtain ⟨b, h1, h2⟩ := flit_good ({ fab := { ports := Vector.replicate 8 { up := true } } } : State) (0 : Fin 8) 1; exact ⟨_, _, b, by decide, h1, Or.inl (by decide), by rw [h2]; decide⟩),
    (by obtain ⟨b, h1, h2⟩ := flit_good ({ fab := { ports := Vector.replicate 8 { up := true } } } : State) (0 : Fin 8) 0; exact ⟨_, _, b, by decide, h1, Or.inl (by decide), by rw [h2]; decide⟩),
    ⟨{ fab := { ports := Vector.replicate 8 { up := true, sealed := true, keyFlits := 2 ^ 32 } } }, 0, by decide⟩,
    ⟨{ fab := { ports := Vector.replicate 8 { up := true, sealed := true } } }, 0, 1, by decide⟩,
    ⟨{ fab := { ports := Vector.replicate 8 { txNextKey := some 1 } } }, 0, 1, by decide⟩,
    ⟨{ fab := { unans := [{ msg := { typ := 1, dest := 1 } }] }, clk := 1000000 }, 1, 0, { msg := { typ := 1, dest := 1 } }, by decide⟩,
    ⟨{ hif := { queues := [(0, { cmds := [{}] })] }, fab := { unans := [{ msg := { typ := 0x33, dest := 1 }, cmd := some (0, 0, 0) }] }, clk := 1000000 }, 1, 0, _, _, _, _, rfl, by decide, by decide, by decide, rfl, rfl⟩,
    ⟨{ fab := { unans := [{ msg := { typ := 1, dest := 1 }, resends := 3 }] }, clk := 1000000 }, 1, 0, { msg := { typ := 1, dest := 1 }, resends := 3 }, by decide⟩,
    ⟨{ fab := { holds := [(1, 0)] }, clk := 100000 }, 1, 0, by decide⟩,
    ⟨{ fab := { holds := [(1, 0)], heldMsgs := [(1, {})] }, clk := 100000 }, 1, 0, {}, by decide⟩⟩

/-- States and operands that meet the hypotheses of each clause of `Obligations.TimeInputsAreMeasured`. -/
theorem witness_TimeInputsAreMeasured :
    (∃ (s : State) (i : Fin 2) (c f : Int), s.tmgRuns = true ∧ (s.input i).st ≠ .disabled) ∧
    (∃ (s : State) (i : Fin 2) (c f : Int) (v : Nat), s.tmgRuns = true ∧ (s.input i).st = .available ∧ (s.input i).seen = false ∧ s.tmg.tod = some v ∧ s.tmg.sel = some ⟨i, by omega⟩ ∧ s.top.gtcSet = true ∧ f = 0 ∧ (s.input i).ql ≠ 15 ∧ (c - s.inDelay i + 4000000000) / 8000000000 ≠ (v : Int)) ∧
    (∃ (s : State) (i : Fin 2) (e f : Int) (ok : Bool), s.tmgRuns = true ∧ (s.input (2 + i)).st ≠ .disabled) ∧
    (∃ (s : State) (i : Fin 2) (e f : Int) (ok : Bool), s.tmgRuns = true ∧ (s.input (2 + i)).st ≠ .disabled) ∧
    (∃ (s : State) (e f : Int), s.tmgRuns = true ∧ (s.input 12).st ≠ .disabled) ∧
    (∃ (s : State) (c : Nat) (a b : Int), s.tmgRuns = true) ∧
    (∃ (s : State) (d : Int), s.tmgRuns = true) ∧
    (∃ (s : State) (p : Fin 8), s.tmgRuns = true ∧ (s.fab.port p).up = true ∧ (alookup s.tmg.reqAt p).all (fun a => s.due a (msTicks 1)) = true) ∧
    (∃ (s : State) (p : Fin 8) (m : TimeMsg) (a : Int), s.tmgRuns = true ∧ (s.fab.port p).up = true) ∧
    (∃ (s : State) (p : Fin 8) (m : TimeMsg) (a f : Int), s.tmgRuns = true ∧ (s.fab.port p).up = true ∧ (s.input (4 + p)).st ≠ .disabled) ∧
    (∃ (s : State) (i : Fin 13), s.tmgRuns = true ∧ (s.input i).st ≠ .disabled ∧ (s.input i).st ≠ .failed ∧ (((i.val < 2 ∧ s.due (s.input i).at_ (msTicks 1100) = true) ∨ (2 ≤ i.val ∧ i.val < 4) ∨
      (4 ≤ i.val ∧ i.val < 12 ∧ ((s.fab.port (i.val - 4)).up = false ∨ s.due (s.input i).at_ (msTicks 5) = true)) ∨
      (i.val = 12 ∧ (s.due (s.input i).at_ (nsTicks (3 * logNs s.tmg.ptpLog)) = true ∨
        s.due (s.input i).announceAt (nsTicks (3 * logNs s.tmg.ptpAnn)) = true))))) ∧
    (∃ (s : State) (i : Fin 13), s.tmgRuns = true ∧ (s.input i).st = .qualifying ∧ s.due (s.input i).qualAt (qualTicks i) = true) ∧
    (∃ (s : State) (i : Fin 13), s.tmgRuns = true ∧ (s.input i).st = .wtr ∧ s.due (s.input i).wtrAt (secTicks (s.struct.boardField 24 2)) = true) :=
  ⟨⟨timeState { st := .available } {} 0, 0, 0, 0, by decide⟩,
    ⟨{ timeState { st := .available } { sel := some 0, tod := some 5 } 0 with cal := { factoryBad := true }, top := { gtcSet := true } }, 0, 0, 0, 5, by decide⟩,
    ⟨timeState { st := .available } {} 0, 0, 0, 0, true, by decide⟩,
    ⟨timeState { st := .available } {} 0, 0, 0, 0, true, by decide⟩,
    ⟨timeState { st := .available } {} 0, 0, 0, by decide⟩,
    ⟨timeState { st := .available } {} 0, 6, 0, 0, by decide⟩,
    ⟨timeState { st := .available } {} 0, 0, by decide⟩,
    ⟨timeState { st := .available } {} 0, 0, by decide⟩,
    ⟨timeState { st := .available } {} 0, 0, aTimeMsg, 0, by decide⟩,
    ⟨timeState { st := .available } {} 0, 0, aTimeMsg, 0, 0, by decide⟩,
    ⟨timeState { st := .available } {} 0, 2, by decide⟩,
    ⟨timeState { st := .qualifying } {} 10000000000, 0, by decide⟩,
    ⟨timeState { st := .wtr } {} 0, 0, by decide⟩⟩

/-- States and operands that meet the hypotheses of each clause of `Obligations.SteeringAndOutputs`. -/
theorem witness_SteeringAndOutputs :
    (∃ (s : State) (t : Int), s.tmgRuns = true ∧ s.due s.tmg.tempAt (msTicks 100) = true) ∧
    (∃ (s : State) (m : Int), s.tmgRuns = true ∧ s.due s.tmg.hourAt (secTicks 3600) = true ∧ s.tmg.loop = .locked) ∧
    (∃ (s : State) (w : U32), s.top.ready = true ∧ wbits w 1 0 = 0) ∧
    (∃ (s : State) (w : U32), s.top.ready = true ∧ wbits w 1 0 = 1) ∧
    (∃ (s : State) (w : U32), s.top.ready = true ∧ wbits w 1 0 = 2) ∧
    (∃ (s : State) (w : U32), s.top.ready = true ∧ s.tmg.mode = 2) ∧
    (∃ (s : State), s.tmgRuns = true ∧ s.tmg.mode = 2 ∧ s.due s.tmg.dcoAt (secTicks 2) = true) ∧
    (∃ (s : State) (w : U32), s.top.ready = true) ∧
    (∃ (s : State) (w : U32), s.top.ready = true ∧ s.top.armed = false) ∧
    (∃ (s : State) (w : U32), s.top.ready = true ∧ s.top.armed = true) ∧
    (∃ (s : State) (o : Fin 9) (w : U32), s.top.ready = true ∧ bit w.toNat 31 = true ∧ 1 ≤ wbits w 16 0 ∧ wbits w 16 0 ≤ 100000 ∧ (s.output o).mode = 2) ∧
    (∃ (s : State) (o : Fin 9) (r : Bytes), s.struct.outputAlign o = some r ∧ s.tmgRuns = true ∧ s.pwr.pinEn.getLsbD (outPin o) = true ∧ s.pinOn (outPin o) = true ∧ (s.output o).mode ≠ 0 ∧ (s.output o).pulse = none ∧ s.due (s.output o).recAt (nsTicks ((field r 12 4 + 1) / 2)) = true ∧ (s.output o).edgeAt = none ∧ onSchedule (s.outClock o) (signed 32 (field r 8 4)) (field r 12 4) = true) ∧
    (∃ (s : State) (o : Fin 9) (a w : Nat), (s.output o).pulse = some (a, w) ∧ s.due a (nsTicks w) = true) ∧
    (∃ (s : State) (i j : Fin 13), s.tmgRuns = true ∧ s.struct.boardCore.isSome = true ∧ s.struct.boardId = s.struct.timeRoot ∧ s.tmg.backupActs = true ∧ s.bestInput (fun i => !isLnkInput i) = some i ∧ s.tmg.sel = some j ∧ isLnkInput j = true ∧ s.due (s.input i).availAt (secTicks 60) = true ∧ s.tmg.loop = .locked ∧ s.due s.tmg.lockedAt (secTicks 60) = true) :=
  ⟨⟨timeState {} {} 80000000, 0, by decide⟩,
    ⟨timeState {} { loop := .locked } 2880000000000, 0, by decide⟩,
    ⟨{ top := { ready := true } }, 0, by decide⟩,
    ⟨{ top := { ready := true } }, 1, by decide⟩,
    ⟨{ top := { ready := true } }, 2, by decide⟩,
    ⟨{ top := { ready := true }, tmg := { mode := 2 } }, 0, by decide⟩,
    ⟨timeState {} { mode := 2 } 1600000000, by decide⟩,
    ⟨{ top := { ready := true } }, 0, by decide⟩,
    ⟨{ top := { ready := true } }, 0, by decide⟩,
    ⟨{ top := { ready := true, armed := true } }, 0, by decide⟩,
    ⟨{ top := { ready := true }, tmg := { outs := Vector.replicate 9 { mode := 2 } } }, 0, 0x80000001, by decide⟩,
    ⟨withRecs 0 [[0x03, 0, 0, 0, 0, 0, 0, 0, 0, 0, 0, 0, 100]] { timeState {} { outs := Vector.replicate 9 { mode := 1 } } 100 with pwr := { mainGood := true, pinEn := 0xFFFFFFFF, perst := false, brdRst := false }, top := { ready := true } }, 0, [0x03, 0, 0, 0, 0, 0, 0, 0, 0, 0, 0, 0, 100], by decide⟩,
    ⟨{ tmg := { outs := Vector.replicate 9 { pulse := some (0, 0) } } }, 0, 0, 0, by decide⟩,
    ⟨withRecs 0 [[0x01]] (timeState { st := .available } { backupActs := true, sel := some 4, loop := .locked } 48000000000), 0, 4, by decide⟩⟩

/-- States and operands that meet the hypotheses of each clause of `Obligations.OperatorKeysAndAdmission`. -/
theorem witness_OperatorKeysAndAdmission :
    (∃ (s : State) (w : U32), s.top.ready = true ∧ wbits w 31 16 = 0x0C1A ∧ wbits w 3 0 = 1 ∧ s.sec.busy = none) ∧
    (∃ (s : State) (w : U32), s.top.ready = true ∧ wbits w 31 16 = 0x0C1A ∧ wbits w 3 0 = 2 ∧ s.sec.busy = none) ∧
    (∃ (s : State) (ok : Bool) (q : Nat) (b : Bytes), s.sec.busy = some (q, b)) ∧
    (∃ (s : State) (q : Nat) (b : Bytes) (ok : Bool), byteAt b 0 ≠ 0x04) ∧
    (∃ (s : State) (b : Bytes) (ok : Bool), (s.sec.slots.toList.any fun y => y.1.isSome) = true) ∧
    (∃ (s : State) (p : SpdmPort) (g k sig : Bytes) (base : Nat), s.spdmReached p = true ∧ ((p = .doe 0 ∨ ∃ b, p = .lanicy b)) ∧ (s.spdm p).opened = true) ∧
    (∃ (s : State) (th g k sig : Bytes) (base : Nat), s.sec.switch = none ∧ s.sec.tenant.isSome = true) ∧
    (∃ (s : State) (p : SpdmPort) (c : U64) (t : Tenant), s.sec.tenant = some t ∧ s.spdmReached p = true ∧ (s.spdm p).opened = true ∧ (s.spdm p).proven = true) ∧
    (∃ (s : State) (b : Fin 256) (e : Bytes) (t : Nat × Bytes), alookup s.sec.pairs b = some t ∧ s.sameTenant b = true ∧ s.due t.1 (secTicks 3600) = true) ∧
    (∃ (s : State) (t : Bytes), s.sec.consent = some t ∧ field t 104 8 ≤ s.gtcNs) :=
  ⟨⟨{ top := { ready := true } }, 0x0C1A0001, by decide⟩,
    ⟨{ top := { ready := true } }, 0x0C1A0002, by decide⟩,
    ⟨{ sec := { busy := some (1, []) } }, true, 1, [], by decide⟩,
    ⟨{}, 1, [], true, by decide⟩,
    ⟨{ sec := { slots := Vector.replicate 4 (some [], false) } }, [], true, by decide⟩,
    ⟨spdmState { opened := true }, .doe 0, [], [], [], 0, by decide, .inl rfl, by decide⟩,
    ⟨{ sec := { tenant := some {} } }, [], [], [], [], 0, by decide⟩,
    ⟨{ spdmState { opened := true, proven := true } with sec := { doe := Vector.replicate 16 { opened := true, proven := true }, tenant := some {} } }, .doe 0, 0, {}, by decide⟩,
    ⟨{ sec := { pairs := [(1, (0, []))], tenant := some {} }, fab := { tags := [(1, [])] }, clk := 2880000000000 }, 1, [], (0, []), by decide⟩,
    ⟨{ sec := { consent := some [] } }, [], by decide⟩⟩

/-- States and operands that meet the hypotheses of each clause of `Obligations.AttestationSessions`. -/
theorem witness_AttestationSessions :
    (∃ (s : State) (p : SpdmPort), s.spdmReached p = true) ∧
    (∃ (s : State) (p : SpdmPort), s.spdmReached p = true ∧ (s.spdm p).version = true) ∧
    (∃ (s : State) (p : SpdmPort), s.spdmReached p = true ∧ (s.spdm p).caps = true) ∧
    (∃ (s : State) (p : SpdmPort), s.spdmReached p = true ∧ (s.spdm p).algs = true) ∧
    (∃ (s : State) (p : SpdmPort) (o l : Nat), s.spdmReached p = true ∧ (s.spdm p).algs = true ∧ o ≤ s.chain.length) ∧
    (∃ (s : State) (p : SpdmPort) (n : Bytes), s.spdmReached p = true ∧ (s.spdm p).algs = true) ∧
    (∃ (s : State) (p : SpdmPort) (i : Nat) (n b : Bytes), s.spdmReached p = true ∧ (s.spdm p).algs = true ∧ i ≠ 0 ∧ i ≠ 0xFF ∧ s.measurement (spdmFunction p) i n = some b) ∧
    (∃ (s : State) (p : SpdmPort) (n : Bytes), s.spdmReached p = true ∧ (s.spdm p).algs = true) ∧
    (∃ (s : State) (p : SpdmPort) (n : Bytes), s.spdmReached p = true ∧ (s.spdm p).algs = true) ∧
    (∃ (s : State) (p : SpdmPort) (x : Bytes), s.spdmReached p = true ∧ (s.spdm p).algs = true) ∧
    (∃ (s : State) (p : SpdmPort) (k : Option Bytes), s.spdmReached p = true ∧ (s.spdm p).handshake = true) ∧
    (∃ (s : State) (p : SpdmPort), s.spdmReached p = true ∧ (s.spdm p).opened = true) ∧
    (∃ (s : State) (p : SpdmPort), s.spdmReached p = true ∧ (s.spdm p).opened = true) ∧
    (∃ (s : State) (p : SpdmPort), s.spdmReached p = true ∧ (s.spdm p).opened = true) ∧
    (∃ (s : State) (p : SpdmPort), s.spdmReached p = true ∧ (s.spdm p).algs = false) ∧
    (∃ (s : State) (p : SpdmPort), s.spdmReached p = true ∧ (s.spdm p).opened = false) :=
  ⟨⟨spdmState {}, .doe 0, by decide⟩,
    ⟨spdmState { version := true }, .doe 0, by decide⟩,
    ⟨spdmState { caps := true }, .doe 0, by decide⟩,
    ⟨spdmState { algs := true }, .doe 0, by decide⟩,
    ⟨spdmState { algs := true }, .doe 0, 0, 0, by decide, by decide, Nat.zero_le _⟩,
    ⟨spdmState { algs := true }, .doe 0, [], by decide⟩,
    ⟨spdmState { algs := true }, .doe 0, 6, [], _, by decide, by decide, by decide, by decide, rfl⟩,
    ⟨spdmState { algs := true }, .doe 0, [], by decide⟩,
    ⟨spdmState { algs := true }, .doe 0, [], by decide⟩,
    ⟨spdmState { algs := true }, .doe 0, [], by decide⟩,
    ⟨spdmState { handshake := true }, .doe 0, none, by decide⟩,
    ⟨spdmState { opened := true }, .doe 0, by decide⟩,
    ⟨spdmState { opened := true }, .doe 0, by decide⟩,
    ⟨spdmState { opened := true }, .doe 0, by decide⟩,
    ⟨spdmState {}, .doe 0, by decide⟩,
    ⟨spdmState {}, .doe 0, by decide⟩⟩

/-- States and operands that meet the hypotheses of each clause of `Obligations.DeviceInterfacesAndStreams`. -/
theorem witness_DeviceInterfacesAndStreams :
    (∃ (s : State) (f : Part) (t : Tdi), s.tdi f = some t) ∧
    (∃ (s : State) (f : Part), s.tdi f = some .configUnlocked ∧ ((∀ q ∈ s.hif.queues, q.1 / 64 = f.val → q.2.st = .disabled ∧ q.2.enable = false))) ∧
    (∃ (s : State) (f : Part), ((s.tdi f = some .configLocked ∨ s.tdi f = some .run))) ∧
    (∃ (s : State) (f : Part), s.tdi f = some .configLocked ∧ s.sec.covered f = true) ∧
    (∃ (s : State) (f : Part), s.tdi f ≠ some .configUnlocked) ∧
    (∃ (s : State) (f : Part), s.tdi f ≠ some .configLocked) ∧
    (∃ (s : State) (k : Fin 17) (l : List Nat), s.top.ready = true ∧ (s.spdm (.doe 0)).opened = true) ∧
    (∃ (s : State) (k : Fin 17) (l : List Nat), s.top.ready = true ∧ (s.spdm (.doe 0)).opened = true) ∧
    (∃ (s : State) (k : Fin 17) (l : List Nat) (f : Part), s.sec.ide[k.val] = some l ∧ f.val ≠ 0 ∧ l.contains f.val = true ∧ s.exposed f = true) :=
  ⟨⟨tdiState .run, 1, .run, by decide⟩,
    ⟨tdiState .configUnlocked, 1, by decide⟩,
    ⟨tdiState .run, 1, by decide⟩,
    ⟨tdiState .configLocked, 1, by decide⟩,
    ⟨tdiState .run, 1, by decide⟩,
    ⟨tdiState .run, 1, by decide⟩,
    ⟨spdmState { opened := true }, 0, [], by decide⟩,
    ⟨spdmState { opened := true }, 0, [], by decide⟩,
    ⟨tdiState .run, 0, [1], 1, by decide⟩⟩

/-- States and operands that meet the hypotheses of each clause of `Obligations.SafetyMonitorActs`. -/
theorem witness_SafetyMonitorActs :
    (∃ (s : State), s.safRuns = true ∧ s.due s.saf.watchAt (msTicks 1) = true ∧ s.saf.events = []) ∧
    (∃ (s : State) (e : SafEvent) (es : List SafEvent), s.safRuns = true ∧ s.due s.saf.watchAt (msTicks 1) = true ∧ s.inSafeState = false ∧ s.saf.events.mergeSort SafEvent.before = e :: es) ∧
    (∃ (s : State), s.safRuns = true ∧ s.top.armed = true ∧ s.inSafeState = false) ∧
    (∃ (s : State), s.safRuns = true ∧ s.top.armed = true ∧ s.due s.saf.watchAt (msTicks 5) = true ∧ s.inSafeState = false) ∧
    (∃ (s : State), s.saf.st = .escalating ∧ s.due s.saf.entryAt (msTicks 40) = true) ∧
    (∃ (s : State), s.saf.okToggling = true ∧ s.due s.saf.okAt (msTicks 1) = true) ∧
    (∃ (s : State), s.safRuns = true ∧ s.struct.safetyCore.isSome = true ∧ s.due s.saf.beatAt (msTicks (s.struct.safetyField 8 2)) = true) ∧
    (∃ (s : State) (n : Fin 4), s.saf.sin.get n = true) ∧
    (∃ (s : State) (n : Fin 4) (c g : Nat), s.saf.sinAt.get n = some (c, g) ∧ s.safRuns = true ∧ s.top.armed = true ∧ bit (s.struct.safetyField 6 1) n = true ∧ s.due c (msTicks 2) = true) ∧
    (∃ (s : State) (t : Int) (p : Nat), s.pwr.auxGood = true ∧ s.saf.thermal ≠ .trip ∧ 125 ≤ t) ∧
    (∃ (s : State) (t : Int) (p : Nat), s.pwr.auxGood = true ∧ s.saf.thermal ≠ .trip ∧ 115 ≤ t ∧ t < 125) ∧
    (∃ (s : State) (t : Int) (p : Nat), s.pwr.auxGood = true ∧ ((s.saf.thermal = .normal ∨ s.saf.thermal = .throttle)) ∧ t < 115 ∧ ((105 ≤ t ∨ s.top.profile.limit < p))) ∧
    (∃ (s : State) (t : Int) (p : Nat), s.pwr.auxGood = true ∧ s.saf.thermal = .throttle ∧ t ≤ 100 ∧ p < s.top.profile.limit ∧ s.due s.saf.coolAt (msTicks 100) = true) ∧
    (∃ (s : State), s.due s.saf.throttleAt (msTicks 10) = true) ∧
    (∃ (s : State) (d : Fin 6), s.pwr.auxGood = true ∧ s.top.armed = true) ∧
    (∃ (s : State) (r : Fin 12), s.pwr.auxGood = true ∧ s.top.armed = true) :=
  ⟨⟨{ clk := 800000 }, by decide⟩,
    ⟨{ clk := 800000, saf := { events := [{}] } }, {}, [], by decide, by decide, by decide, by simp⟩,
    ⟨{ top := { armed := true } }, by decide⟩,
    ⟨{ top := { armed := true }, clk := 4000000 }, by decide⟩,
    ⟨{ saf := { st := .escalating }, clk := 32000000 }, by decide⟩,
    ⟨{ saf := { okToggling := true }, clk := 800000 }, by decide⟩,
    ⟨withRecs 1 [[0x10]] {}, by decide⟩,
    ⟨{}, 0, by decide⟩,
    ⟨withRecs 1 [[0x10, 0, 0, 0, 0, 0, 1]] { top := { armed := true }, clk := 1600000, saf := { sinAt := Vector.replicate 4 (some (0, 0)) } }, 0, 0, 0, by decide⟩,
    ⟨{}, 125, 0, by decide⟩,
    ⟨{}, 115, 0, by decide⟩,
    ⟨{}, 105, 0, by decide⟩,
    ⟨{ saf := { thermal := .throttle }, clk := 80000000 }, 100, 0, by decide⟩,
    ⟨{ clk := 8000000 }, by decide⟩,
    ⟨{ top := { armed := true } }, 0, by decide⟩,
    ⟨{ top := { armed := true } }, 0, by decide⟩⟩

set_option maxRecDepth 8000 in
/-- States and operands that meet the hypotheses of each clause of `Obligations.SelfTestsAndStaleWatch`. -/
theorem witness_SelfTestsAndStaleWatch :
    (∃ (s : State) (k n : Nat), s.safRuns = true ∧ (k, n) ∈ checkers ∧ (k, n) ∉ s.saf.tested ∧ s.slotOpenNow = false ∧ ((k = 0x01 → s.safetyNodeOn n = false))) ∧
    (∃ (s : State), s.safRuns = true ∧ (∀ c ∈ checkers, c ∈ s.saf.tested)) ∧
    (∃ (s : State) (r : Fin 16) (v o : Bool) (a : Nat), s.safRuns = true ∧ s.saf.inbox.find? (fun x => x.1 = r.val) = some (r.val, v, a, o)) ∧
    (∃ (s : State) (r : Fin 16) (t : Nat) (x : Bytes), s.saf.gap.get r = some t ∧ s.struct.stale r = some x ∧ s.safRuns = true ∧ s.due t (usTicks (field x 12 4)) = true ∧ s.struct.safetyClass r = true ∧ s.top.armed = true) ∧
    (∃ (s : State) (w : U32), s.top.ready = true ∧ s.pair.enabled = false) ∧
    (∃ (s : State) (f e : Nat), s.pair.copying = some (f, e) ∧ s.pair.enabled = true ∧ s.pair.role = .active) ∧
    (∃ (s : State) (ep f g n : Nat) (d : Bytes), s.pair.enabled = true ∧ s.pair.role = .standby) ∧
    (∃ (s : State) (b : Fin 256), s.pair.enabled = true ∧ s.pair.peer = b.val ∧ s.pair.role = .standby) :=
  ⟨⟨{}, 8, 0, by decide, by decide, by decide, by decide, by decide⟩,
    ⟨{ saf := { tested := checkers } }, by decide, fun _ h => h⟩,
    ⟨{ saf := { inbox := [(0, true, 0, false)] } }, 0, true, false, 0, by decide⟩,
    ⟨withRecs 1 [[0x11]] (withRecs 5 [[0x50, 0, 0, 0, 0, 1]] { top := { armed := true }, saf := { gap := Vector.replicate 16 (some 0) } }), 0, 0, [0x11], by decide⟩,
    ⟨{ top := { ready := true } }, 0, by decide⟩,
    ⟨{ pair := { copying := some (0, 0), ctl := 0x100, role := .active } }, 0, 0, by decide⟩,
    ⟨{ pair := { ctl := 0x100, role := .standby } }, 0, 0, 0, 0, [], by decide⟩,
    ⟨{ pair := { ctl := 0x100, role := .standby } }, 0, by decide⟩⟩

/-- States and operands that meet the hypotheses of each clause of `Obligations.LedgerAndTelemetry`. -/
theorem witness_LedgerAndTelemetry :
    (∃ (s : State) (e : LogEntry), s.log.nextEntry = some e ∧ ((e.boot ≠ s.log.boot ∨ e.steps ≠ s.log.steps ∨ e.gtc + 1000000 ≤ s.gtcNs))) ∧
    (∃ (s : State) (e : LogEntry), s.log.nextEntry = some e ∧ e.boot = s.log.boot ∧ e.steps = s.log.steps ∧ s.gtcNs < e.gtc + 1000000) ∧
    (∃ (s : State), s.gtcNs / 1000000000 ≠ s.log.second) ∧
    (∃ (s : State) (e : LogEntry) (l : List LogEntry), s.top.mgtUp = true ∧ s.log.buf = e :: l) ∧
    (∃ (s : State) (e : LogEntry) (l : List LogEntry), s.top.mgtUp = true ∧ s.log.buf = e :: l) ∧
    (∃ (s : State) (k i : Nat), s.top.mgtUp = false) ∧
    (∃ (s : State) (k i : Nat), s.top.mgtUp = true) ∧
    (∃ (s : State) (f : Part) (rd : Nat) (x : Fn) (g : TelRing), s.top.mgtUp = true ∧ s.due s.bg.telAt (msTicks 10) = true ∧ s.hif.fns[f.val] = x ∧ x.ring = some g ∧ g.sampledAt ≠ s.clk ∧ (g.wrOff + (g.size - 256) - rd % (g.size - 256)) % (g.size - 256) + 256 < g.size - 256) ∧
    (∃ (s : State) (f : Part) (rd : Nat) (x : Fn) (g : TelRing), s.top.mgtUp = true ∧ s.due s.bg.telAt (msTicks 10) = true ∧ s.hif.fns[f.val] = x ∧ x.ring = some g ∧ g.sampledAt ≠ s.clk ∧ g.size - 256 ≤ (g.wrOff + (g.size - 256) - rd % (g.size - 256)) % (g.size - 256) + 256) :=
  ⟨⟨{ log := { reorder := [{ boot := 5 }] } }, { boot := 5 }, by decide⟩,
    ⟨{ log := { reorder := [{}] } }, {}, by decide⟩,
    ⟨{ tmg := { gtc := 1000000000 * 2 ^ 48 } }, by decide⟩,
    ⟨{ top := { mgtUp := true }, log := { buf := [{}] } }, {}, [], by decide⟩,
    ⟨{ top := { mgtUp := true }, log := { buf := [{}] } }, {}, [], by decide⟩,
    ⟨{}, 0, 0, by decide⟩,
    ⟨{ top := { mgtUp := true } }, 0, 0, by decide⟩,
    ⟨{ top := { mgtUp := true }, clk := 8000000, hif := { fns := Vector.replicate 16 { ring := some { size := 4096 } } } }, 0, 0, _, { size := 4096 }, by decide, by decide, rfl, by decide, by decide, by decide⟩,
    ⟨{ top := { mgtUp := true }, clk := 8000000, hif := { fns := Vector.replicate 16 { ring := some { size := 512 } } } }, 0, 0, _, { size := 512 }, by decide, by decide, rfl, by decide, by decide, by decide⟩⟩

/-- States and operands that meet the hypotheses of each clause of `Obligations.BackgroundWork`. -/
theorem witness_BackgroundWork :
    (∃ (s : State) (l : List Bytes) (w : Bool), s.mem.ready = true ∧ s.unreserved = true ∧ s.top.eccOn = false) ∧
    (∃ (s : State) (l : List Bytes) (w : Bool), s.mem.ready = true ∧ s.unreserved = true ∧ s.top.eccOn = true ∧ (∀ e ∈ l, e.filter (· ≠ 0) = [])) ∧
    (∃ (s : State) (e : Bytes), s.mem.ready = true ∧ s.unreserved = true ∧ s.top.eccOn = true ∧ s.mem.poisoned (15 * s.bg.block * 64) 64 = false ∧ (((e.filter (· ≠ 0)).length = 2 ∨ (e.filter (· ≠ 0)).length = 3))) ∧
    (∃ (s : State) (e : Bytes), s.mem.ready = true ∧ s.unreserved = true ∧ s.top.eccOn = true ∧ s.mem.poisoned (15 * s.bg.block * 64) 64 = false ∧ (e.filter (· ≠ 0)).length = 1) ∧
    (∃ (s : State) (c : Fin 64) (a : Nat), ((s.core c).task.map (·.safety)).getD false = false ∧ a < 524288) ∧
    (∃ (s : State) (c : Fin 64) (a : Nat), ((s.core c).task.map (·.safety)).getD false = false ∧ a < 524288) ∧
    (∃ (s : State) (c : Fin 64) (a : Nat) (e : EccFind), ((s.core c).task.map (·.safety)).getD false = true) ∧
    (∃ (s : State) (k : Fin 64), s.mem.ready = true ∧ s.due (s.bg.recal.get k) (msTicks 100) = true ∧ s.due (s.bg.recal.get k) (msTicks 200) = false ∧ s.unreserved = true) ∧
    (∃ (s : State) (k : Fin 64), s.mem.ready = true ∧ s.due (s.bg.recal.get k) (msTicks 100) = true ∧ s.due (s.bg.recal.get k) (msTicks 200) = false) ∧
    (∃ (s : State) (k : Fin 64) (b : Bool), s.mem.ready = true ∧ s.due (s.bg.recal.get k) (msTicks 200) = true ∧ s.unreserved = true) ∧
    (∃ (s : State), s.mem.ready = true ∧ s.unreserved = true) ∧
    (∃ (s : State), s.mem.ready = true) ∧
    (∃ (s : State) (w : U32), s.top.ready = true) :=
  ⟨⟨{ mem := { ready := true }, top := { eccOn := false } }, [], false, by decide⟩,
    ⟨{ mem := { ready := true } }, [[0]], false, by decide⟩,
    ⟨{ mem := { ready := true } }, [1, 2], by decide⟩,
    ⟨{ mem := { ready := true } }, [0, 1], by decide⟩,
    ⟨{}, 0, 0, by decide⟩,
    ⟨{}, 0, 0, by decide⟩,
    ⟨necState { task := some { safety := true } }, 0, 0, .clean, by decide⟩,
    ⟨{ mem := { ready := true }, clk := 80000000 }, 0, by decide⟩,
    ⟨{ mem := { ready := true }, clk := 80000000 }, 0, by decide⟩,
    ⟨{ mem := { ready := true }, clk := 160000000 }, 0, false, by decide⟩,
    ⟨{ mem := { ready := true } }, by decide⟩,
    ⟨{ mem := { ready := true } }, by decide⟩,
    ⟨{ top := { ready := true } }, 0, by decide⟩⟩

/-- States and operands that meet the hypotheses of each clause of `Obligations.StepRunsTheFrontCommand`. -/
theorem witness_StepRunsTheFrontCommand :
    (∃ (s : State) (c : Instr) (rest : List Instr), s.pending = c :: rest) ∧
    (∃ s : State, s.pending = []) :=
  ⟨⟨{ pending := [.refresh] }, .refresh, [], by decide⟩,
    ⟨{}, by decide⟩⟩

/-- States and operands that meet the hypotheses of each clause of `Obligations.QueueConfigurationIsGuarded`. -/
theorem witness_QueueConfigurationIsGuarded :
    (∃ (s : State) (f : Part) (q : Fin 64) (r size : Nat) (v : U64), (s.queue f q).enable = true ∧ q.val < s.queueCount f ∧ ((r < 0x18 ∧ (size = 4 ∨ size = 8) ∧ r % size = 0 ∨ r = 0x1C ∧ size = 4))) ∧
    (∃ (s t : State) (f : Part) (q : Fin 64) (w : U32), (s.queue f q).enable = true ∧ ((exec (.queueEnable f q w) s = .next t ∨ exec (.queueDisable f q w) s = .next t))) ∧
    (∃ (s : State) (f : Part) (q : Fin 64) (w : U32), 13 ≤ wbits w 3 0) ∧
    (∃ (s : State) (f : Part) (q : Fin 64) (v : U64), 13 ≤ wbits (v.setWidth 32) 3 0 ∧ q.val < s.queueCount f) :=
  ⟨⟨{ hostState { enable := true } with top := { ready := true } }, 0, 0, 0, 4, 0, by decide⟩,
    ⟨hostState { enable := true, st := .running }, _, 0, 0, 0x80000000, by decide, .inl rfl⟩,
    ⟨{}, 0, 0, 15, by decide⟩,
    ⟨{}, 0, 0, 15, by decide⟩⟩

/-- States and operands that meet the hypotheses of each clause of `Obligations.QueueConsumedInOrder`. -/
theorem witness_QueueConsumedInOrder :
    (∃ s t : State, step s = .next t) :=
  ⟨{ pending := [.refresh] }, _, rfl⟩

/-- States and operands that meet the hypotheses of each clause of `Obligations.FuseCountersNeverFall`. -/
theorem witness_FuseCountersNeverFall :
    (∃ s t : State, step s = .next t) :=
  ⟨{}, _, rfl⟩

/-- States and operands that meet the hypotheses of each clause of `Obligations.MemoryStaysCanonical`. -/
theorem witness_MemoryStaysCanonical :
    (∃ s t : State, s.memOk ∧ step s = .next t) :=
  ⟨{}, _, by decide, rfl⟩

/-- States and operands that meet the hypotheses of each clause of `Obligations.MemoryReadsWhatWasWritten`. -/
theorem witness_MemoryReadsWhatWasWritten :
    (∃ (s : State) (a : Nat) (bs : Bytes) (p : Bool), s.memOk) ∧
    (∃ (s : State) (a b n : Nat) (bs : Bytes) (p : Bool), s.memOk ∧ ((b + n ≤ a ∨ a + bs.length ≤ b))) ∧
    (∃ (s : State) (a : Nat) (bs : Bytes) (p : Bool), s.memOk) :=
  ⟨⟨{}, 0, [1], false, by decide⟩,
    ⟨{}, 0, 1, 1, [1], false, by decide⟩,
    ⟨{}, 0, [1], false, by decide⟩⟩

/-- States and operands that meet the hypotheses of each clause of `Obligations.FramesOfMemoryAndFirmware`. -/
theorem witness_FramesOfMemoryAndFirmware :
    (∃ (i : Instr) (s t : State), mayChangeMemory i = false ∧ exec i s = .next t) ∧
    (∃ (i : Instr) (s t : State), mayChangeFirmware i = false ∧ exec i s = .next t) :=
  ⟨⟨.refresh, {}, _, rfl, rfl⟩,
    ⟨.refresh, {}, _, rfl, rfl⟩⟩

end Sys2Proof.Tests
end

namespace Sys2Proof.Machine

/-! Every command answers a next state. A meaning is a decision tree over the state and the operands, and a stop could only
stand at one of its leaves. -/

/-- The outcome of a command is a next state: the board neither faults nor refuses. -/
def Answers (o : Host.Outcome State Fault Refusal) : Prop := ∃ t, o = .next t

theorem answers_next (t : State) : Answers (.next t) := ⟨t, rfl⟩

theorem answers_ite {c : Prop} {_ : Decidable c} {a b : Host.Outcome State Fault Refusal} (ha : Answers a) (hb : Answers b) :
    Answers (if c then a else b) := by
  split
  · exact ha
  · exact hb

/-- One condition between two next states: most commands act where their rule lets them and otherwise leave the state. -/
theorem answers_guard {c : Prop} {_ : Decidable c} {a b : State} : Answers (if c then .next a else .next b) :=
  answers_ite (answers_next a) (answers_next b)

/-! The meanings with the longest decision trees. -/

theorem execModelLoad_answers (f : Part) (q : Fin 64) (d : HostRead) (s : State) : Answers (execModelLoad f q d s) := by
  unfold execModelLoad
  split
  · exact answers_next _
  split
  · exact answers_next _
  refine answers_ite (answers_next _) <| answers_ite (answers_next _) <| answers_ite (answers_next _) <|
    answers_ite (answers_next _) ?_
  split
  · exact answers_next _
  refine answers_ite (answers_next _) ?_
  split
  · exact answers_next _
  dsimp only
  split
  · exact answers_next _
  · exact answers_guard

theorem execCoarsePublish_answers (stage : Fin 10) (s : State) : Answers (execCoarsePublish stage s) := by
  unfold execCoarsePublish
  dsimp only
  split
  · refine answers_ite (answers_next _) ?_
    split
    · exact answers_guard
    · exact answers_next _
  · exact answers_next _

theorem execThermalSample_answers (temp : Int) (power : Nat) (s : State) : Answers (execThermalSample temp power s) :=
  answers_ite (answers_next _) <| answers_ite (answers_next _) <| answers_ite (answers_next _) <| answers_ite (answers_next _) <|
    answers_ite (answers_next _) <| answers_ite (answers_next _) <|
      answers_ite (answers_ite answers_guard (answers_next _)) (answers_next _)

theorem execCellarSramEccError_answers (array : SramArray) (index : Nat) (s : State) :
    Answers (execCellarSramEccError array index s) := by
  unfold execCellarSramEccError
  dsimp only
  split
  · exact answers_guard
  split
  · exact answers_next _
  refine answers_ite answers_guard ?_
  split
  · exact answers_next _
  · exact answers_ite (answers_next _) answers_guard

theorem execTelemetrySample_answers (f : Part) (rdOff : Nat) (s : State) : Answers (execTelemetrySample f rdOff s) := by
  unfold execTelemetrySample
  dsimp only
  split
  · exact answers_next _
  · exact answers_ite (answers_next _) (answers_ite answers_guard (answers_next _))

theorem execBoardLost_answers (board : Fin 256) (s : State) : Answers (execBoardLost board s) :=
  answers_ite answers_guard (answers_next _)

theorem execFlitReceive_answers (port : Fin 8) (raw : Bytes) (s : State) : Answers (execFlitReceive port raw s) :=
  answers_ite (answers_next _) <| answers_ite (answers_next _) <| answers_ite (answers_next _) <| answers_ite (answers_next _) <|
    answers_ite (answers_next _) answers_guard

theorem execPpsEdge_answers (input : Fin 2) (capture freqOffset : Int) (s : State) :
    Answers (execPpsEdge input capture freqOffset s) := by
  refine answers_ite ?_ (answers_next _)
  dsimp only
  split
  · exact answers_ite (answers_ite answers_guard answers_guard) (answers_next _)
  · exact answers_next _

/-- No meaning stops: it goes straight to its next state, chooses it by one condition, or reaches it along the branches of a
decision tree, each of which ends in a next state. -/
theorem exec_answers (i : Instr) (s : State) : Answers (exec i s) := by
  cases i with
  | perstNDeassert | coldReset | bootWatchdogExpiry | markTrial | commit | cancelTrial | burnSvn | recBegin | recRun
  | recProgram | recWinWrite | sqTailDoorbell | cqHeadDoorbell | queueEnable | queueDisable | frameApplySwap | hifDmaChunkEnd
  | scbStart | streamBeatDeliver | chainedDispatch | sequencedDispatch | streamCreditError | ldw | stw | lds | ldt | ldd | std
  | stc | cwait | crd | cadv | cpush | clvl | dmai | dmao | dmaw | pub | necFence | tile | mm | necEnd | necNop | branch | loop
  | scalarArithmetic | vectorArithmetic | messageLifetimeExpiry | loopModeClosed | loopModeHold | loopModeSoftware
  | dcoFreqWrite | todWrite | tmgStep | outputRealign | opkClaim | opkRotate | getVersion | getCapabilities
  | negotiateAlgorithms | getDigests | getCertificate | spdmChallenge | keyExchange | spdmHeartbeat | keyUpdate | endSession
  | getTdispVersion | getTdispCapabilities | ideStreamLeaveSecure | pairEnable | pairFail | boardFatalError | bgCtlWrite
  | brdRstNDeassert | sinHigh | retentionRecordUpdate =>
    exact answers_next _
  | aux3v3Loss | mainConverterStart | mainRailsGood | mainPowerReturn | perstNAssert | brdRstNAssert | bootDone | lossLatchSet
  | vbatMeasurement | registerWrite | gtcSnapshotRead | vfFlr | partitionResetDone | switchRoutesStopped
  | switchCoherenceReleased | switchZeroFillDone | tileComplete | illegalInstruction | hopperIdleFlush | tileOverrun
  | readShared | readUnique | readNokeep | writeMerge | evictClean | evictDirty | snoopAck | snoopAckData | evictInFlight
  | advertisement | linkState | hello | lanicyHeartbeat | lanicyHeartbeatSend | portDown | keyRenewalDue | keyNext | ptpSync
  | ptpAnnounce | ptpDelayResp | delayReqSend | delayReq | delayResp | inputActivityLoss | wtrExpiry | softwareTimeout
  | rootReclaim | admitTenant | lockInterfaceRequest | getDeviceInterfaceReport | startInterfaceRequest | stopInterfaceRequest
  | ideKm | presenceResponse | safMonitorCycle | lockstepMismatch | safWatchdogExpiry | escalationTimeout | safeOkServiceTimeout
  | canHeartbeat | sinLow | throttleStep | clockMonitorFault | voltageMonitorFault | coalesceSecondEnd | ledgerNorCopy
  | patrolRead | refresh | configurationRequest | smbusTransaction | deskewSequence =>
    exact answers_guard
  | modelLoad f q d => exact execModelLoad_answers f q d s
  | coarsePublish stage => exact execCoarsePublish_answers stage s
  | cellarSramEccError array index => exact execCellarSramEccError_answers array index s
  | boardLost board => exact execBoardLost_answers board s
  | flitReceive port raw => exact execFlitReceive_answers port raw s
  | ppsEdge input capture freqOffset => exact execPpsEdge_answers input capture freqOffset s
  | thermalSample temp power => exact execThermalSample_answers temp power s
  | telemetrySample f rdOff => exact execTelemetrySample_answers f rdOff s
  | aux3v3Present | mainPowerLoss | warmBoardReset | fwActionDone | recoveryProgramDone | rcRegisterRead | malformedBarAccess
  | descriptorFetch | commandEffectDone | completionPost | msiXCoalesceTimeout | nop | fence | fenceRelease | imageLoad
  | imageApplyImmediate | imageApplyFrame | imageApplySwitch | imageValidationDone | immediateApplyInForce | imageDrop
  | routeStart | routeStopAtBoundary | routeStopForce | dmaCopy | dmaFill | msgSend | attReport | consent | tenantSwitch
  | switchDrainTimeout | switchScrubDone | flashWrite | calClear | ledgerRead | telemetryRing | engineMessageEnd | safetyCutIn
  | frameStart | contextWindowExpiry | frameEnd | longPacket | pipeLineProcess | scbTransferDone | scbDataAccess
  | stageInputLine | refineTileSlot | mashClose | detectorPublish | trackerRunDone | tastingRunEnd | nodeEnd | frameRetire
  | budgetOverrun | deadlineMiss | slotOpen | slotCycleExpiry | engineFatalError | caskBeatArrival | caskRowWrite
  | caskStallRelease | necDmaDone | mmFeedEnd | mmDrainDone | localStoreEccError | cellarAccess | boardMemoryRead
  | boardMemoryWrite | snoopShare | snoopInv | lineShared | lineOwned | lineNokeep | upgradeOk | writeDone | evictAck | denied
  | msgReserve | msgGrant | msgChunk | msgDone | linkUp | keyNextAck | e2eResendTimeout | routeChangeHoldExpiry
  | freqMeasurement | qualificationPeriodEnd | holdoverUpdate | ageingHour | outputPulseStart | outputPulseEnd | getEnrol
  | getMeasurements | spdmFinish | getDeviceInterfaceState | shareReq | shareResp | quorumGatherTimeout | presenceCheck
  | presenceChallenge | pairSessionRenewal | consentExpiry | sinConfirmExpiry | selftestTest | selftestRotationEnd
  | staleWatchReceive | staleGap | epochCopyComplete | commitRecord | hostReadCompletion | ledgerAppend | sramScrub
  | recalibration | refreshManagement | debugPortAccess | secMboxDone | recoveryRunDone =>
    dsimp only [exec, execAux3v3Present, execMainPowerLoss, execWarmBoardReset, execFwActionDone, execRecoveryProgramDone,
      execRcRegisterRead, execMalformedBarAccess, execDescriptorFetch, execCommandEffectDone, execCompletionPost,
      execMsiXCoalesceTimeout, execNop, execFence, execFenceRelease, execImageLoad, execImageApplyImmediate,
      execImageApplyFrame, execImageApplySwitch, execImageValidationDone, execImmediateApplyInForce, execImageDrop,
      execRouteStart, execRouteStopAtBoundary, execRouteStopForce, execDmaCopy, execDmaFill, execMsgSend, execAttReport,
      execConsent, execTenantSwitch, execSwitchDrainTimeout, execSwitchScrubDone, execFlashWrite, execCalClear, execLedgerRead,
      execTelemetryRing, execEngineMessageEnd, execSafetyCutIn, execFrameStart, execContextWindowExpiry, execFrameEnd,
      execLongPacket, execPipeLineProcess, execScbTransferDone, execScbDataAccess, execStageInputLine, execRefineTileSlot,
      execMashClose, execDetectorPublish, execTrackerRunDone, execTastingRunEnd, execNodeEnd, execFrameRetire,
      execBudgetOverrun, execDeadlineMiss, execSlotOpen, execSlotCycleExpiry, execEngineFatalError, execCaskBeatArrival,
      execCaskRowWrite, execCaskStallRelease, execNecDmaDone, execMmFeedEnd, execMmDrainDone, execLocalStoreEccError,
      execCellarAccess, execBoardMemoryRead, execBoardMemoryWrite, execSnoopShare, execSnoopInv, execLineShared, execLineOwned,
      execLineNokeep, execUpgradeOk, execWriteDone, execEvictAck, execDenied, execMsgReserve, execMsgGrant, execMsgChunk,
      execMsgDone, execLinkUp, execKeyNextAck, execE2eResendTimeout, execRouteChangeHoldExpiry, execFreqMeasurement,
      execQualificationPeriodEnd, execHoldoverUpdate, execAgeingHour, execOutputPulseStart, execOutputPulseEnd, execGetEnrol,
      execGetMeasurements, execSpdmFinish, execGetDeviceInterfaceState, execShareReq, execShareResp, execQuorumGatherTimeout,
      execPresenceCheck, execPresenceChallenge, execPairSessionRenewal, execConsentExpiry, execSinConfirmExpiry,
      execSelftestTest, execSelftestRotationEnd, execStaleWatchReceive, execStaleGap, execEpochCopyComplete, execCommitRecord,
      execHostReadCompletion, execLedgerAppend, execSramScrub, execRecalibration, execRefreshManagement, execDebugPortAccess,
      execSecMboxDone, execRecoveryRunDone]
    repeat' split
    all_goals exact answers_next _

/-- With no command waiting a cycle of the clock passes; otherwise the step is that of the front command. -/
theorem step_answers (s : State) : Answers (step s) := by
  unfold step
  split
  · exact answers_next _
  · exact exec_answers _ _

/-- Settles O58: every meaning, and with it every step, answers a next state. -/
theorem everyCommandCompletes : Obligations.EveryCommandCompletes :=
  ⟨exec_answers, step_answers⟩

end Sys2Proof.Machine

namespace Sys2Proof.Machine

/-! Register accesses (R8, R14, R39, R40, R44, R714): which accesses are well sized, what a read of one or two words is, and which
registers of PF0 act on a read. -/

theorem wellSized_four {off : Nat} (h : off % 4 = 0) : wellSized off 4 = true := by simp [wellSized, h]

theorem wellSized_eight {off : Nat} (h : off % 8 = 0) : wellSized off 8 = true := by simp [wellSized, h]

/-- PF0 always answers within its 16 MiB (Table 1-14). -/
theorem State.barHas_pf0 (s : State) {off size : Nat} (h : off + size ≤ 2 ^ 24) : s.barHas 0 .bar0 off size = true := by
  simpa [State.barHas, State.exposed] using h

theorem State.barHas_vf (s : State) {f : Part} {off size : Nat} (hf : f.val ≠ 0) (he : s.exposed f = true)
    (h : off + size ≤ 2 ^ 16) : s.barHas f .bar0 off size = true := by
  simpa [State.barHas, he, hf] using h

theorem State.readBar_four (s : State) (f : Part) (bar : Bar) (off : Nat) :
    s.readBar f bar off 4 = { s.readEffect f bar off with bus := .data (s.peek f bar off) 4 } := rfl

/-- The upper word is read in the state that the read of the lower one leaves (R40). -/
theorem State.readBar_eight (s : State) (f : Part) (bar : Bar) (off : Nat) :
    s.readBar f bar off 8 = { (s.readEffect f bar off).readEffect f bar (off + 4) with
      bus := .data (s.peek f bar off + 2 ^ 32 * (s.readEffect f bar off).peek f bar (off + 4)) 8 } := rfl

theorem exec_rcRegisterRead {s : State} {f : Part} {bar : Bar} {off size : Nat} (hb : s.barHas f bar off size = true)
    (hw : wellSized off size = true) : exec (.rcRegisterRead f bar off size) s = .next (s.readBar f bar off size) := by
  simp [exec, execRcRegisterRead, hb, hw]

theorem exec_rcRegisterRead_unsupported {s : State} {f : Part} {bar : Bar} {off size : Nat}
    (hb : s.barHas f bar off size = false) : exec (.rcRegisterRead f bar off size) s = .next { s with bus := .unsupported } := by
  simp [exec, execRcRegisterRead, hb]

theorem exec_registerWrite {s : State} {f : Part} {bar : Bar} {off size : Nat} (v : U64) (hb : s.barHas f bar off size = true)
    (hw : wellSized off size = true) :
    exec (.registerWrite f bar off size v) s = .next (if size = 8
      then (s.poke f bar off (v.setWidth 32)).poke f bar (off + 4) ((v >>> 32).setWidth 32)
      else s.poke f bar off (v.setWidth 32)) := by
  simp [exec, execRegisterWrite, hb, hw]

/-! Reads of PF0's blocks once READY is 1. -/

theorem State.peek_pf0 {s : State} (hr : s.top.ready = true) (off : Nat) : s.peek 0 .bar0 off = s.peekBlocks off := by
  simp [State.peek, State.peekPf, hr]

theorem State.readEffect_pf0 {s : State} (hr : s.top.ready = true) (off : Nat) :
    s.readEffect 0 .bar0 off = s.clearBlocks off := by
  simp [State.readEffect, hr]

theorem exec_read_pf0 {s : State} (hr : s.top.ready = true) {off : Nat} (hoff : off + 4 ≤ 2 ^ 24) (ha : off % 4 = 0) :
    exec (.rcRegisterRead 0 .bar0 off 4) s = .next { s.clearBlocks off with bus := .data (s.peekBlocks off) 4 } := by
  rw [exec_rcRegisterRead (s.barHas_pf0 hoff) (wellSized_four ha), State.readBar_four, State.peek_pf0 hr, State.readEffect_pf0 hr]

/-- TMG_GTC_LO: the low word of the whole counter, and the snapshot (R44). -/
theorem exec_gtcSnapshotRead {s : State} (hr : s.top.ready = true) :
    exec (.gtcSnapshotRead 0) s =
      .next { s with tmg := { s.tmg with snap := s.tmg.gtc }, bus := .data (s.tmg.gtc / 2 ^ 48 % 2 ^ 32) 4 } := by
  have hlo : s.peekBlocks 0xF0000 = s.tmg.gtc / 2 ^ 48 % 2 ^ 32 := by
    change half (s.tmg.gtc / 2 ^ 48) 0 = _
    simp [half]
  change Host.Outcome.next (s.readBar 0 .bar0 0xF0000 4) = _
  rw [State.readBar_four, State.peek_pf0 hr, State.readEffect_pf0 hr, hlo]
  rfl

/-- TMG_GTC_HI answers the snapshot and changes nothing. -/
theorem exec_read_gtcHi {s : State} (hr : s.top.ready = true) :
    exec (.rcRegisterRead 0 .bar0 0xF0004 4) s = .next { s with bus := .data (s.tmg.snap / 2 ^ 80 % 2 ^ 32) 4 } := by
  have hhi : s.peekBlocks 0xF0004 = s.tmg.snap / 2 ^ 80 % 2 ^ 32 := by
    change half (s.tmg.snap / 2 ^ 48) 1 = _
    simp [half, Nat.div_div_eq_div_mul]
  rw [exec_read_pf0 hr (by decide) (by decide), hhi]
  rfl

/-- TMG_GTC_FRAC answers the snapshot and changes nothing. -/
theorem exec_read_gtcFrac {s : State} (hr : s.top.ready = true) :
    exec (.rcRegisterRead 0 .bar0 0xF0008 4) s = .next { s with bus := .data (s.tmg.snap / 2 ^ 32 % 2 ^ 16) 4 } := by
  rw [exec_read_pf0 hr (by decide) (by decide)]
  rfl

/-- MEM_ECC_CE answers the count and clears exactly it (R14). -/
theorem exec_read_memEccCe {s : State} (hr : s.top.ready = true) :
    exec (.rcRegisterRead 0 .bar0 0xC0004 4) s = .next { s with mem := { s.mem with ce := 0 }, bus := .data s.mem.ce 4 } := by
  rw [exec_read_pf0 hr (by decide) (by decide)]
  rfl

/-- A VF's registers read 0 while READY is 0 (R37). -/
theorem exec_read_vf_not_ready {s : State} {f : Part} {off : Nat} (hr : s.top.ready = false) (hf : f.val ≠ 0)
    (he : s.exposed f = true) (hoff : off + 4 ≤ 2 ^ 16) (ha : off % 4 = 0) :
    exec (.rcRegisterRead f .bar0 off 4) s = .next { s with bus := .data 0 4 } := by
  rw [exec_rcRegisterRead (s.barHas_vf hf he hoff) (wellSized_four ha), State.readBar_four]
  simp [State.peek, State.readEffect, hf, hr]

/-! Accesses that break R39, by the bytes they fall on. -/

theorem exec_malformed_register {s : State} {f : Part} {bar : Bar} {off size : Nat} (write : Bool)
    (hw : wellSized off size = false) (hb : s.barHas f bar off size = true) (hm : inMsix bar off = false) :
    exec (.malformedBarAccess f bar off size write) s = .next (if write then s else { s with bus := .data 0 size }) := by
  simp [exec, execMalformedBarAccess, hw, hb, hm]

theorem exec_malformed_unsupported {s : State} {f : Part} {bar : Bar} {off size : Nat} (write : Bool)
    (hw : wellSized off size = false) (hb : s.barHas f bar off size = false) :
    exec (.malformedBarAccess f bar off size write) s = .next (if write then s else { s with bus := .unsupported }) := by
  simp [exec, execMalformedBarAccess, hw, hb]

theorem exec_malformed_msixRead {s : State} {f : Part} {bar : Bar} {off size : Nat}
    (hw : wellSized off size = false) (hb : s.barHas f bar off size = true) (hm : inMsix bar off = true) :
    exec (.malformedBarAccess f bar off size false) s =
      .next { s with bus := .data (Config.freeNat s.free % 256 ^ size) size, free := s.free + 1 } := by
  simp [exec, execMalformedBarAccess, hw, hb, hm]

/-- A malformed write of the MSI-X structures stores into the table alone, and not while it is frozen (Table 13-6). -/
theorem exec_malformed_msixWrite {s : State} {f : Part} {bar : Bar} {off size : Nat}
    (hw : wellSized off size = false) (hb : s.barHas f bar off size = true) (hm : inMsix bar off = true) :
    exec (.malformedBarAccess f bar off size true) s = .next (if off < 1024 ∧ s.msixFrozen f = false
      then (s.mapFn f fun x => { x with msix := cellWrite 0 x.msix off ((s.freeBytes size).take (1024 - off)) }).useFree
      else s) := by
  rw [apply_ite Host.Outcome.next]
  simp [exec, execMalformedBarAccess, hw, hb, hm]

theorem State.mapFn_fns_other (s : State) (f g : Part) (h : Fn → Fn) (hne : g ≠ f) :
    (s.mapFn f h).hif.fns[g] = s.hif.fns[g] := by
  simp [Fin.val_ne_of_ne hne]

/-- What a malformed write of the MSI-X structures can change: the function's own registers, and the free values used. -/
theorem exec_malformed_msixWrite_frame {s : State} {f : Part} {bar : Bar} {off size : Nat}
    (hw : wellSized off size = false) (hb : s.barHas f bar off size = true) (hm : inMsix bar off = true) :
    ∃ t, exec (.malformedBarAccess f bar off size true) s = .next t ∧ t = { s with hif := t.hif, free := t.free } ∧
      t.hif.queues = s.hif.queues ∧ (∀ g : Part, g ≠ f → t.hif.fns[g] = s.hif.fns[g]) ∧
      ((1024 ≤ off ∨ s.msixFrozen f = true) → t = s) := by
  refine ⟨_, exec_malformed_msixWrite hw hb hm, ?_⟩
  split
  next h =>
    obtain ⟨hoff, hfrozen⟩ := h
    refine ⟨rfl, rfl, fun g hg => State.mapFn_fns_other s f g _ hg, fun hno => ?_⟩
    rcases hno with hge | hfr
    · omega
    · simp [hfrozen] at hfr
  next => exact ⟨rfl, rfl, fun _ _ => rfl, fun _ => rfl⟩

/-- Settles O13: each clause is the lemma above for its kind of access. -/
theorem registerAccesses : Obligations.RegisterAccesses := by
  refine ⟨fun s f bar off hb ha => ?_, fun s f bar off hb ha => ?_,
    fun s f bar off size hb => exec_rcRegisterRead_unsupported hb,
    fun s f bar off v hb ha => exec_registerWrite v hb (wellSized_four ha),
    fun s f bar off v hb ha => exec_registerWrite v hb (wellSized_eight ha), fun s hr => ?_, fun s hr => exec_read_memEccCe hr,
    fun s f off hr hf he hoff ha => exec_read_vf_not_ready hr hf he hoff ha,
    fun s f bar off size write hw hb hm => exec_malformed_register write hw hb hm,
    fun s f bar off size hw hb hm => exec_malformed_msixRead hw hb hm,
    fun s f bar off size hw hb hm => exec_malformed_msixWrite_frame hw hb hm,
    fun s f bar off size write hw hb => exec_malformed_unsupported write hw hb⟩
  · rw [exec_rcRegisterRead hb (wellSized_four ha), State.readBar_four]
  · rw [exec_rcRegisterRead hb (wellSized_eight ha), State.readBar_eight]
  · exact ⟨_, exec_gtcSnapshotRead hr, rfl, exec_read_gtcHi hr, exec_read_gtcFrac hr⟩

end Sys2Proof.Machine

namespace Sys2Proof.Machine

/-! What starts a reset of level 4 or 5, and what one leaves (R32 to R37, R87, R715, Table 1-9). -/

/-- R36, R37, R119: KEY, the function and READY or recovery, as conditions. -/
theorem State.topResetActs_iff (s : State) (f : Part) (w : U32) :
    s.topResetActs f w = true ↔ f = 0 ∧ wbits w 31 16 = 0x5AFE ∧ (s.top.ready = true ∨ s.top.recovery = true) := by
  simp [State.topResetActs, and_assoc]

theorem State.askWarm_eq (s : State) (f : Part) (w : U32) : s.askWarm f w =
    if f = 0 ∧ wbits w 31 16 = 0x5AFE ∧ wbits w 2 0 = 4 ∧ (s.top.ready = true ∨ s.top.recovery = true)
    then s.startReset false "TOP_RESET" (srcPart 0) else s := by
  simp only [State.askWarm, Bool.and_eq_true, State.topResetActs_iff, decide_eq_true_eq]
  refine if_congr ?_ rfl rfl
  tauto

theorem State.askCold_eq (s : State) (f : Part) (w : U32) : s.askCold f w =
    if f = 0 ∧ wbits w 31 16 = 0x5AFE ∧ wbits w 2 0 = 5 ∧ (s.top.ready = true ∨ s.top.recovery = true)
    then s.startReset true "TOP_RESET" (srcPart 0) else s := by
  simp only [State.askCold, Bool.and_eq_true, State.topResetActs_iff, decide_eq_true_eq]
  refine if_congr ?_ rfl rfl
  tauto

theorem exec_perstNAssert_edge {s : State} (hp : s.pwr.perst = false) (ha : s.pwr.auxGood = true) :
    exec .perstNAssert s = .next (State.startReset
      { s with pwr := { s.pwr with perst := true }, hif := { s.hif with linkUp := false } } false "PERST_N" (srcPart 0)) := by
  simp [exec, execPerstNAssert, hp, ha]

theorem exec_brdRstNAssert_edge {s : State} (hb : s.pwr.brdRst = false) (ha : s.pwr.auxGood = true) :
    exec .brdRstNAssert s = .next (State.startReset { s with pwr := { s.pwr with brdRst := true } } true "BRD_RST_N" srcMgt) := by
  simp [exec, execBrdRstNAssert, hb, ha]

theorem exec_warmBoardReset_saf {s : State} (w : U32) (h : s.safRuns = true) :
    exec (.warmBoardReset .saf w) s = .next (s.startReset false "SAF" srcSaf) := by
  simp [exec, execWarmBoardReset, h]

theorem exec_bootWatchdogExpiry_due {s : State} (hm : s.pwr.mainGood = true) (hr : s.top.ready = false)
    (hrec : s.top.recovery = false) (hd : s.pwr.mainGoodAt + secTicks 2 ≤ s.clk) :
    exec .bootWatchdogExpiry s = .next (s.startReset false "boot watchdog" srcMgt (force := true)) := by
  simp [exec, execBootWatchdogExpiry, State.due, hm, hr, hrec, hd]

/-- Settles O2: each clause is the lemma for its request. -/
theorem resetRequestsComplete : Obligations.ResetRequestsComplete :=
  ⟨fun _ hp ha => exec_perstNAssert_edge hp ha, fun _ => rfl, fun _ hb ha => exec_brdRstNAssert_edge hb ha, fun _ => rfl,
    fun s f w => congrArg Host.Outcome.next (s.askWarm_eq f w), fun _ w h => exec_warmBoardReset_saf w h,
    fun s f w => congrArg Host.Outcome.next (s.askCold_eq f w),
    fun _ hm hr hrec hd => exec_bootWatchdogExpiry_due hm hr hrec hd⟩

/-- R34: a request is absorbed by a reset in progress whose level is at or above its own, unless the boot watchdog forces it. -/
theorem State.absorbs_eq_false {s : State} {cold force : Bool}
    (h : ∀ l, s.top.resetting = some l → l.toNat < (if cold then 5 else 4) ∨ force = true) : s.absorbs cold force = false := by
  unfold State.absorbs
  split
  next l hl =>
    rcases h l hl with hlt | hforce
    · simp [Nat.not_le.2 hlt]
    · simp [hforce]
  next => rfl

theorem State.startReset_absorbed {s : State} {cold : Bool} {l : BitVec 3} (cause : String) (source : Nat)
    (hl : s.top.resetting = some l) (hle : (if cold then 5 else 4) ≤ l.toNat) : s.startReset cold cause source = s := by
  have h : s.absorbs cold false = true := by simp [State.absorbs, hl, hle]
  simp [State.startReset, h]

theorem State.startReset_acts {s : State} {cold force : Bool} (cause : String) (source : Nat) (h : s.absorbs cold force = false) :
    s.startReset cold cause source force = (s.announceReset cold cause source).cleared cold := by
  simp [State.startReset, h]

/-- The ledger entries of a reset are all that it changes before the blocks are cleared. -/
theorem State.announceReset_frame (s : State) (cold : Bool) (cause : String) (source : Nat) :
    s.announceReset cold cause source = { s with log := (s.announceReset cold cause source).log } := by
  unfold State.announceReset
  dsimp only
  split <;> rfl

/-- Settles O3: a reset that acts clears the board that its ledger entries leave, and one that is absorbed does nothing. -/
theorem resetClearsTheBoard : Obligations.ResetClearsTheBoard := by
  refine ⟨fun s cold cause source force h => ?_, fun s cold cause source l hl hle => State.startReset_absorbed cause source hl hle⟩
  rw [State.startReset_acts cause source (State.absorbs_eq_false h), State.announceReset_frame]
  refine ⟨rfl, rfl, rfl, rfl, rfl, rfl, rfl, rfl, rfl, rfl, rfl, fun hw => ?_, rfl, rfl, rfl⟩
  simp [State.cleared, hw]

theorem exec_rcRegisterRead_malformed {s : State} {f : Part} {bar : Bar} {off size : Nat} (hw : wellSized off size = false)
    (hb : s.barHas f bar off size = true) : exec (.rcRegisterRead f bar off size) s = .next { s with bus := .data 0 size } := by
  simp [exec, execRcRegisterRead, hb, hw]

theorem exec_registerWrite_malformed {s : State} {f : Part} {bar : Bar} {off size : Nat} (v : U64)
    (hw : wellSized off size = false) : exec (.registerWrite f bar off size v) s = .next s := by
  simp [exec, execRegisterWrite, hw]

/-- Settles O12: whichever command carries the access, a read answers 0 and a write is ignored. -/
theorem malformedBarAccess : Obligations.MalformedBarAccess :=
  ⟨fun _ _ _ _ _ hw hb hm => exec_malformed_register false hw hb hm, fun _ _ _ _ _ hw hb hm => exec_malformed_register true hw hb hm,
    fun _ _ _ _ _ hw hb => exec_rcRegisterRead_malformed hw hb, fun _ _ _ _ _ v hw => exec_registerWrite_malformed v hw⟩

/-- Settles O53: the state after power-on is the defaults of its fields. -/
theorem resetState : Obligations.ResetState := by
  refine ⟨rfl, rfl, rfl, rfl, rfl, rfl, rfl, rfl, ?_, ?_, rfl, rfl, fun _ _ => rfl, ?_, rfl, rfl, rfl⟩ <;> decide

end Sys2Proof.Machine

namespace Sys2Proof.Machine

/-! A reset of a VF that owns no route (R141, R205, Table 4-13): what becomes of the route slots. -/

/-- What every step of a fold keeps, the fold keeps. -/
theorem foldl_keeps {α β : Type} (g : State → β) (f : State → α → State) (h : ∀ s x, g (f s x) = g s) (l : List α) (s : State) :
    g (l.foldl f s) = g s := by
  induction l generalizing s with
  | nil => rfl
  | cons x t ih => rw [List.foldl_cons, ih, h]

theorem foldl_sect {α : Type} (f : State → α → State) (h : ∀ s x, (f s x).img.sect = s.img.sect) (l : List α) (s : State) :
    (l.foldl f s).img.sect = s.img.sect :=
  foldl_keeps (·.img.sect) f h l s

@[simp] theorem State.endApply_sect (s : State) (n : Nat) : (s.endApply n).img.sect = s.img.sect := by
  unfold State.endApply
  dsimp only
  split
  · split <;> simp [Img.endApply]
  · rfl

@[simp] theorem State.dropApplies_sect (s : State) (p : Nat → Bool) : (s.dropApplies p).img.sect = s.img.sect := by
  unfold State.dropApplies
  refine foldl_sect _ (fun s n => ?_) _ _
  split
  · split <;> simp
  · rfl

theorem State.struct_of_sect {s t : State} (h : t.img.sect = s.img.sect) : t.struct = s.struct := by
  simp [State.struct, h]

/-- A function that owns no route stops none. -/
theorem State.foldl_forceStop_none {s : State} {f : Nat} (h : s.struct.partRoutes f = 0) (l : List Nat) :
    l.foldl (fun s r => if bit (s.struct.partRoutes f) r then s.forceStop r else s) s = s :=
  List.foldl_fixed' (fun r => by simp [h, bit]) l

/-- With no route of the function to stop, the reset's work on the route slots is that the function's applies end (R205). -/
theorem State.partitionReset_rsq {s : State} {f : Part} (tdi : Tdi) (cause : String) (hf : f.val ≠ 0)
    (hd : s.hif.fns[f].resetDone = true) (hw : s.sec.switch = none) (hr : s.struct.partRoutes f = 0) :
    (s.partitionReset f tdi cause).rsq =
      ((s.note srcMgt 0 0x0002 f [2, Config.eventCode cause, srcPart f]).dropApplies (· = f.val)).rsq := by
  unfold State.partitionReset
  have hfn : s.hif.fns[f.val]? = some s.hif.fns[f] := by simp
  have hact : (!s.hif.fns[f].resetDone || s.sec.switch.isSome) = false := by rw [hd, hw]; rfl
  rw [hfn]
  dsimp only
  rw [if_neg hf, hact, if_neg Bool.false_ne_true, State.foldl_forceStop_none]
  · simp
  · rw [State.struct_of_sect (s := s) (by simp), hr]

/-- VF 1 has no PARTITION record and so no route, yet a FRAME apply that it asked for still waits on route slot 0, whose frame waits
with it for the swap (R200). -/
def flrWithFrameApply : State :=
  ({ top := { ready := true }, hif := { vfs := 2 },
     img := { slots := Vector.replicate 8 { apply := some { part := 1, point := .frame, route := 0 } } } } : State).setRoute 0
    { st := .running, frames := [{ swapDone := false }] }

/-- The reset ends that apply (R205), and the frame of route slot 0 may be dispatched again. -/
theorem vfFlr_ends_frameApply : (flrWithFrameApply.partitionReset 1 .configUnlocked "FLR").route 0 =
    { st := .running, frames := [{ swapDone := true }] } :=
  (State.route_of_rsq_eq _ _ (State.partitionReset_rsq (f := 1) .configUnlocked "FLR" (by decide) rfl rfl (by decide)) 0).trans
    (by decide)

/-- Refutes O15: its first clause keeps the route slots of a function without routes, but the reset ends the function's applies, and
the frames that wait with a FRAME apply on another route (R200) then wait no longer. -/
theorem not_partitionResetCommands : ¬ Obligations.PartitionResetCommands := by
  rintro ⟨h, -⟩
  obtain ⟨t, ht, -, -, hroutes, -⟩ := h flrWithFrameApply 1 rfl (by decide) (by decide) rfl rfl (by decide)
  obtain rfl : flrWithFrameApply.partitionReset 1 .configUnlocked "FLR" = t := Host.Outcome.next.inj ht
  have hsame : (flrWithFrameApply.partitionReset 1 .configUnlocked "FLR").route 0 = flrWithFrameApply.route 0 := by
    simp only [State.route, hroutes]
  rw [vfFlr_ends_frameApply] at hsame
  exact absurd hsame (by decide)

end Sys2Proof.Machine

namespace Sys2Proof.Machine

/-! The clock and TOP_MODE.BASE, through what a structure that comes into force or leaves it does on the board: no operation of it
touches either. One lemma for each operation, in the order of `Laws/KeepsPending.lean`. -/

@[simp] theorem ite_clk (c : Prop) [Decidable c] (a b : State) : (if c then a else b).clk = if c then a.clk else b.clk := by
  split <;> rfl

@[simp] theorem ite_base (c : Prop) [Decidable c] (a b : State) :
    (if c then a else b).top.base = if c then a.top.base else b.top.base := by
  split <;> rfl

theorem foldl_clk_base {α : Type} (f : State → α → State) (h : ∀ s x, (f s x).clk = s.clk ∧ (f s x).top.base = s.top.base)
    (l : List α) (s : State) : (l.foldl f s).clk = s.clk ∧ (l.foldl f s).top.base = s.top.base :=
  ⟨foldl_keeps (·.clk) f (fun s x => (h s x).1) l s, foldl_keeps (·.top.base) f (fun s x => (h s x).2) l s⟩

theorem State.clk_base_trans {s t u : State} (h : u.clk = t.clk ∧ u.top.base = t.top.base)
    (h' : t.clk = s.clk ∧ t.top.base = s.top.base) : u.clk = s.clk ∧ u.top.base = s.top.base :=
  ⟨h.1.trans h'.1, h.2.trans h'.2⟩

@[simp] theorem State.event_clk_base (s : State) (f c source : Nat) :
    (s.event f c source).clk = s.clk ∧ (s.event f c source).top.base = s.top.base := by
  unfold State.event; (repeat' split) <;> simp [*]

@[simp] theorem State.eventAll_clk_base (s : State) (c source : Nat) :
    (s.eventAll c source).clk = s.clk ∧ (s.eventAll c source).top.base = s.top.base := by simp [State.eventAll, foldl_clk_base]

@[simp] theorem State.memWrite_clk_base (s : State) (a : Nat) (bs : Bytes) (poison : Bool) :
    (s.memWrite a bs poison).clk = s.clk ∧ (s.memWrite a bs poison).top.base = s.top.base := by simp [State.memWrite]

@[simp] theorem State.fix_clk_base (s : State) (f q pos status detail source : Nat) :
    (s.fix f q pos status detail source).clk = s.clk ∧ (s.fix f q pos status detail source).top.base = s.top.base := by
  unfold State.fix; simp only []; (repeat' split) <;> simp_all

@[simp] theorem State.driveSafeOff_clk_base (s : State) (on : Bool) :
    (s.driveSafeOff on).clk = s.clk ∧ (s.driveSafeOff on).top.base = s.top.base := by simp [State.driveSafeOff]

@[simp] theorem State.setSaf_clk_base (s : State) (st : SafSt) : (s.setSaf st).clk = s.clk ∧ (s.setSaf st).top.base = s.top.base := by
  simp [State.setSaf]

@[simp] theorem State.undefine_clk_base (s : State) (f addr n : Nat) :
    (s.undefine f addr n).clk = s.clk ∧ (s.undefine f addr n).top.base = s.top.base := by
  unfold State.undefine; (repeat' split) <;> simp [*]

@[simp] theorem State.reroute_clk_base (s : State) : s.reroute.clk = s.clk ∧ s.reroute.top.base = s.top.base := by simp [State.reroute]

@[simp] theorem State.sendFlit_clk_base (s : State) (p : Nat) (idle : Bool) (payload : Bytes) :
    (s.sendFlit p idle payload).clk = s.clk ∧ (s.sendFlit p idle payload).top.base = s.top.base := by simp [State.sendFlit]

@[simp] theorem State.pump_clk_base (s : State) (p : Nat) (l : List Bytes) :
    (s.pump p l).clk = s.clk ∧ (s.pump p l).top.base = s.top.base := by
  induction l generalizing s with
  | nil => simp [State.pump]
  | cons b t ih => unfold State.pump; split <;> simp [ih]

@[simp] theorem State.portSend_clk_base (s : State) (p lane : Nat) (m : Msg) :
    (s.portSend p lane m).clk = s.clk ∧ (s.portSend p lane m).top.base = s.top.base := by simp [State.portSend]

@[simp] theorem State.strand_clk_base (s : State) (m : Msg) : (s.strand m).clk = s.clk ∧ (s.strand m).top.base = s.top.base := by
  simp [State.strand]

@[simp] theorem State.forward_clk_base (s : State) (m : Msg) : (s.forward m).clk = s.clk ∧ (s.forward m).top.base = s.top.base := by
  unfold State.forward; (repeat' split) <;> simp [*]

@[simp] theorem State.sendMsg_clk_base (s : State) (m : Msg) : (s.sendMsg m).clk = s.clk ∧ (s.sendMsg m).top.base = s.top.base := by
  simp [State.sendMsg]

@[simp] theorem State.flushStuck_clk_base (s : State) : s.flushStuck.clk = s.clk ∧ s.flushStuck.top.base = s.top.base := by
  simp [State.flushStuck, foldl_clk_base]

@[simp] theorem State.advertise_clk_base (s : State) : s.advertise.clk = s.clk ∧ s.advertise.top.base = s.top.base := by
  simp [State.advertise]

@[simp] theorem State.tellLinks_clk_base (s : State) : s.tellLinks.clk = s.clk ∧ s.tellLinks.top.base = s.top.base := by
  simp [State.tellLinks]

@[simp] theorem State.linksChanged_clk_base (s : State) : s.linksChanged.clk = s.clk ∧ s.linksChanged.top.base = s.top.base := by
  simp [State.linksChanged]

@[simp] theorem State.sendRequest_clk_base (s : State) (m : Msg) (cmd : Option (Nat × Nat × Nat)) :
    (s.sendRequest m cmd).clk = s.clk ∧ (s.sendRequest m cmd).top.base = s.top.base := by simp [State.sendRequest]

@[simp] theorem State.request_clk_base (s : State) (m : Msg) (cmd : Option (Nat × Nat × Nat)) :
    (s.request m cmd).clk = s.clk ∧ (s.request m cmd).top.base = s.top.base := by simp [State.request]

@[simp] theorem State.poisonRead_clk_base (s : State) (part a source : Nat) :
    (s.poisonRead part a source).clk = s.clk ∧ (s.poisonRead part a source).top.base = s.top.base := by simp [State.poisonRead]

@[simp] theorem State.deliverTo_clk_base (s : State) (part a source : Nat) (data : Bytes) (poison : Bool) :
    (s.deliverTo part a source data poison).clk = s.clk ∧ (s.deliverTo part a source data poison).top.base = s.top.base := by
  simp [State.deliverTo]

@[simp] theorem State.answer_clk_base (s : State) (m : Msg) : (s.answer m).clk = s.clk ∧ (s.answer m).top.base = s.top.base := by
  simp [State.answer]

@[simp] theorem State.answerLine_clk_base (s : State) (typ : Nat) (r : HomeReq) :
    (s.answerLine typ r).clk = s.clk ∧ (s.answerLine typ r).top.base = s.top.base := by simp [State.answerLine]

@[simp] theorem State.answerBare_clk_base (s : State) (typ dest reqId part addr : Nat) :
    (s.answerBare typ dest reqId part addr).clk = s.clk ∧ (s.answerBare typ dest reqId part addr).top.base = s.top.base := by
  simp [State.answerBare]

@[simp] theorem State.snoop_clk_base (s : State) (typ : Nat) (req : HomeReq) (boards : List Nat) :
    (s.snoop typ req boards).clk = s.clk ∧ (s.snoop typ req boards).top.base = s.top.base := by simp [State.snoop, foldl_clk_base]

@[simp] theorem State.mergeLine_clk_base (s : State) (r : HomeReq) (poison : Bool) :
    (s.mergeLine r poison).clk = s.clk ∧ (s.mergeLine r poison).top.base = s.top.base := by simp [State.mergeLine, foldl_clk_base]

@[simp] theorem State.finishReq_clk_base (s : State) (r : HomeReq) (was : Option DirEnt) (gone : List Nat) :
    (s.finishReq r was gone).clk = s.clk ∧ (s.finishReq r was gone).top.base = s.top.base := by
  unfold State.finishReq; (repeat' split) <;> simp [*]

@[simp] theorem State.beginReq_clk_base (s : State) (r : HomeReq) : (s.beginReq r).clk = s.clk ∧ (s.beginReq r).top.base = s.top.base := by
  unfold State.beginReq; simp only []; (repeat' split) <;> simp_all

@[simp] theorem State.startReq_clk_base (s : State) (r : HomeReq) : (s.startReq r).clk = s.clk ∧ (s.startReq r).top.base = s.top.base := by
  unfold State.startReq; (repeat' split) <;> simp [*]

@[simp] theorem State.settleLeaving_clk_base (s : State) : s.settleLeaving.clk = s.clk ∧ s.settleLeaving.top.base = s.top.base := by
  simp [State.settleLeaving]

@[simp] theorem State.withdraw_clk_base (s : State) (r : Bytes) : (s.withdraw r).clk = s.clk ∧ (s.withdraw r).top.base = s.top.base := by
  simp [State.withdraw, foldl_clk_base]

@[simp] theorem State.putPart_clk_base (s : State) (part a : Nat) (bs : Bytes) (poison : Bool) :
    (s.putPart part a bs poison).clk = s.clk ∧ (s.putPart part a bs poison).top.base = s.top.base := by simp [State.putPart]

@[simp] theorem State.put_clk_base (s : State) (part a : Nat) (bs : Bytes) (poison : Bool) :
    (s.put part a bs poison).clk = s.clk ∧ (s.put part a bs poison).top.base = s.top.base := by simp [State.put, foldl_clk_base]

@[simp] theorem State.evict_clk_base (s : State) (l : RLine) : (s.evict l).clk = s.clk ∧ (s.evict l).top.base = s.top.base := by
  simp [State.evict]

@[simp] theorem State.mapCores_clk_base (s : State) (g : Core → Core) :
    (s.mapCores g).clk = s.clk ∧ (s.mapCores g).top.base = s.top.base := by simp [State.mapCores]

@[simp] theorem State.resetCasks_clk_base (s : State) (route : Nat) :
    (s.resetCasks route).clk = s.clk ∧ (s.resetCasks route).top.base = s.top.base := by simp [State.resetCasks]

@[simp] theorem State.freshVecs_clk_base (s : State) (c : Nat) : (s.freshVecs c).clk = s.clk ∧ (s.freshVecs c).top.base = s.top.base := by
  simp [State.freshVecs]

@[simp] theorem State.install_clk_base (s : State) (c : Nat) (t : Task) :
    (s.install c t).clk = s.clk ∧ (s.install c t).top.base = s.top.base := by simp [State.install]

@[simp] theorem State.nextTask_clk_base (s : State) (c : Nat) : (s.nextTask c).clk = s.clk ∧ (s.nextTask c).top.base = s.top.base := by
  unfold State.nextTask; simp only []; (repeat' split) <;> simp_all

@[simp] theorem State.endTask_clk_base (s : State) (c : Nat) : (s.endTask c).clk = s.clk ∧ (s.endTask c).top.base = s.top.base := by
  unfold State.endTask; simp only []; (repeat' split) <;> simp_all

@[simp] theorem State.takePreemption_clk_base (s : State) (c : Nat) :
    (s.takePreemption c).clk = s.clk ∧ (s.takePreemption c).top.base = s.top.base := by
  unfold State.takePreemption; simp only []; (repeat' split) <;> simp_all

@[simp] theorem State.settleWait_clk_base (s : State) (c : Nat) :
    (s.settleWait c).clk = s.clk ∧ (s.settleWait c).top.base = s.top.base := by
  unfold State.settleWait; simp only []; (repeat' split) <;> simp_all

@[simp] theorem State.settleWaits_clk_base (s : State) : s.settleWaits.clk = s.clk ∧ s.settleWaits.top.base = s.top.base := by
  simp [State.settleWaits, foldl_clk_base]

@[simp] theorem State.settleSwap_clk_base (s : State) (route : Nat) :
    (s.settleSwap route).clk = s.clk ∧ (s.settleSwap route).top.base = s.top.base := by simp [State.settleSwap]

@[simp] theorem State.endApply_clk_base (s : State) (slot : Nat) :
    (s.endApply slot).clk = s.clk ∧ (s.endApply slot).top.base = s.top.base := by
  unfold State.endApply; simp only []; (repeat' split) <;> simp_all

@[simp] theorem State.releaseHeld_clk_base (s : State) (route : Nat) :
    (s.releaseHeld route).clk = s.clk ∧ (s.releaseHeld route).top.base = s.top.base := by simp [State.releaseHeld]

@[simp] theorem State.gapTimer_clk_base (s : State) (r : Nat) (st : RouteSt) :
    (s.gapTimer r st).clk = s.clk ∧ (s.gapTimer r st).top.base = s.top.base := by simp [State.gapTimer]

@[simp] theorem State.setRouteSt_clk_base (s : State) (r : Nat) (st : RouteSt) :
    (s.setRouteSt r st).clk = s.clk ∧ (s.setRouteSt r st).top.base = s.top.base := by simp [State.setRouteSt]

@[simp] theorem State.mapFrame_clk_base (s : State) (r id : Nat) (g : Frame → Frame) :
    (s.mapFrame r id g).clk = s.clk ∧ (s.mapFrame r id g).top.base = s.top.base := by simp [State.mapFrame]

@[simp] theorem State.noteStale_clk_base (s : State) (r cause : Nat) :
    (s.noteStale r cause).clk = s.clk ∧ (s.noteStale r cause).top.base = s.top.base := by simp [State.noteStale]

@[simp] theorem State.published_clk_base (s : State) (t : Struct) (r typ addr len exposure : Nat) :
    (s.published t r typ addr len exposure).clk = s.clk ∧ (s.published t r typ addr len exposure).top.base = s.top.base := by
  simp [State.published]

@[simp] theorem State.frameDone_clk_base (s : State) (r : Nat) (f : Frame) (status reason : Nat) :
    (s.frameDone r f status reason).clk = s.clk ∧ (s.frameDone r f status reason).top.base = s.top.base := by
  simp [State.frameDone, foldl_clk_base]

@[simp] theorem State.checkDeadline_clk_base (s : State) (r : Nat) (f : Frame) :
    (s.checkDeadline r f).clk = s.clk ∧ (s.checkDeadline r f).top.base = s.top.base := by simp [State.checkDeadline]

@[simp] theorem State.epochCut_clk_base (s : State) (r : Nat) (f : Frame) (valid : Bool) :
    (s.epochCut r f valid).clk = s.clk ∧ (s.epochCut r f valid).top.base = s.top.base := by simp [State.epochCut]

@[simp] theorem State.retire_clk_base (s : State) (r id : Nat) : (s.retire r id).clk = s.clk ∧ (s.retire r id).top.base = s.top.base := by
  unfold State.retire; (repeat' split) <;> simp [*]

@[simp] theorem State.fixAll_clk_base (s : State) (l : List (Nat × Nat × Nat)) (status detail source : Nat) :
    (s.fixAll l status detail source).clk = s.clk ∧ (s.fixAll l status detail source).top.base = s.top.base := by
  simp [State.fixAll, foldl_clk_base]

@[simp] theorem State.stopApply_clk_base (s : State) (r status detail : Nat) :
    (s.stopApply r status detail).clk = s.clk ∧ (s.stopApply r status detail).top.base = s.top.base := by
  simp [State.stopApply, foldl_clk_base]

@[simp] theorem State.finishStop_clk_base (s : State) (r : Nat) :
    (s.finishStop r).clk = s.clk ∧ (s.finishStop r).top.base = s.top.base := by simp [State.finishStop]

@[simp] theorem State.retireAborted_clk_base (s : State) (r n : Nat) :
    (s.retireAborted r n).clk = s.clk ∧ (s.retireAborted r n).top.base = s.top.base := by
  induction n generalizing s with
  | zero => exact ⟨rfl, rfl⟩
  | succ n ih => unfold State.retireAborted; (repeat' split) <;> simp [ih]

@[simp] theorem State.drainRoute_clk_base (s : State) (r : Nat) :
    (s.drainRoute r).clk = s.clk ∧ (s.drainRoute r).top.base = s.top.base := by simp [State.drainRoute, foldl_clk_base]

@[simp] theorem State.mapTasks_clk_base (s : State) (p : Task → Bool) (g : Task → Task) :
    (s.mapTasks p g).clk = s.clk ∧ (s.mapTasks p g).top.base = s.top.base := by simp [State.mapTasks]

@[simp] theorem State.stopTasks_clk_base (s : State) (p : Task → Bool) :
    (s.stopTasks p).clk = s.clk ∧ (s.stopTasks p).top.base = s.top.base := by simp [State.stopTasks]

@[simp] theorem State.noteLevel_clk_base (s : State) (level : BitVec 3) :
    (s.noteLevel level).clk = s.clk ∧ (s.noteLevel level).top.base = s.top.base := by simp [State.noteLevel]

@[simp] theorem State.forceStop_clk_base (s : State) (r : Nat) : (s.forceStop r).clk = s.clk ∧ (s.forceStop r).top.base = s.top.base := by
  simp [State.forceStop]

@[simp] theorem State.refreshRoutes_clk_base (s : State) : s.refreshRoutes.clk = s.clk ∧ s.refreshRoutes.top.base = s.top.base := by
  simp [State.refreshRoutes, foldl_clk_base]

@[simp] theorem State.undefineCmd_clk_base (s : State) (f q : Nat) (c : Cmd) :
    (s.undefineCmd f q c).clk = s.clk ∧ (s.undefineCmd f q c).top.base = s.top.base := by simp [State.undefineCmd]

@[simp] theorem State.undefineCmds_clk_base (s : State) (f : Nat) :
    (s.undefineCmds f).clk = s.clk ∧ (s.undefineCmds f).top.base = s.top.base := by simp [State.undefineCmds, foldl_clk_base]

@[simp] theorem State.dropWork_clk_base (s : State) (f : Nat) : (s.dropWork f).clk = s.clk ∧ (s.dropWork f).top.base = s.top.base := by
  simp [State.dropWork]

@[simp] theorem State.dropApplies_clk_base (s : State) (p : Nat → Bool) :
    (s.dropApplies p).clk = s.clk ∧ (s.dropApplies p).top.base = s.top.base := by
  unfold State.dropApplies
  refine foldl_clk_base _ (fun s x => ?_) _ _
  split
  · split <;> simp
  · exact ⟨rfl, rfl⟩

@[simp] theorem State.partitionReset_clk_base (s : State) (f : Nat) (tdi : Tdi) (cause : String) :
    (s.partitionReset f tdi cause).clk = s.clk ∧ (s.partitionReset f tdi cause).top.base = s.top.base := by
  unfold State.partitionReset; (repeat' split) <;> simp [*, foldl_clk_base]

@[simp] theorem State.setLoop_clk_base (s : State) (l : LoopSt) : (s.setLoop l).clk = s.clk ∧ (s.setLoop l).top.base = s.top.base := by
  simp [State.setLoop]

@[simp] theorem State.enterHold_clk_base (s : State) : s.enterHold.clk = s.clk ∧ s.enterHold.top.base = s.top.base := by
  simp [State.enterHold]

@[simp] theorem State.stepGtc_clk_base (s : State) (d : Int) : (s.stepGtc d).clk = s.clk ∧ (s.stepGtc d).top.base = s.top.base := by
  simp [State.stepGtc]

@[simp] theorem State.stepToInput_clk_base (s : State) (i : Nat) (e : Int) :
    (s.stepToInput i e).clk = s.clk ∧ (s.stepToInput i e).top.base = s.top.base := by simp [State.stepToInput]

@[simp] theorem State.reselect_clk_base (s : State) : s.reselect.clk = s.clk ∧ s.reselect.top.base = s.top.base := by
  unfold State.reselect; simp only []; (repeat' split) <;> simp_all

@[simp] theorem State.failLanicy_clk_base (s : State) : s.failLanicy.clk = s.clk ∧ s.failLanicy.top.base = s.top.base := by
  simp [State.failLanicy, foldl_clk_base]

@[simp] theorem State.enforcePins_clk_base (s : State) (old : Struct) :
    (s.enforcePins old).clk = s.clk ∧ (s.enforcePins old).top.base = s.top.base := by simp [State.enforcePins]

@[simp] theorem State.enforceBoard_clk_base (s : State) : s.enforceBoard.clk = s.clk ∧ s.enforceBoard.top.base = s.top.base := by
  simp [State.enforceBoard]

@[simp] theorem State.enforceInputs_clk_base (s : State) : s.enforceInputs.clk = s.clk ∧ s.enforceInputs.top.base = s.top.base := by
  simp [State.enforceInputs]

@[simp] theorem State.enforceRoles_clk_base (s : State) (old : Struct) :
    (s.enforceRoles old).clk = s.clk ∧ (s.enforceRoles old).top.base = s.top.base := by simp [State.enforceRoles]

@[simp] theorem State.enforceOutputs_clk_base (s : State) (old : Struct) :
    (s.enforceOutputs old).clk = s.clk ∧ (s.enforceOutputs old).top.base = s.top.base := by simp [State.enforceOutputs]

@[simp] theorem State.refreshVfs_clk_base (s : State) : s.refreshVfs.clk = s.clk ∧ s.refreshVfs.top.base = s.top.base := by
  simp [State.refreshVfs]

@[simp] theorem State.enforceParts_clk_base (s : State) (old : Struct) :
    (s.enforceParts old).clk = s.clk ∧ (s.enforceParts old).top.base = s.top.base := by simp [State.enforceParts, foldl_clk_base]

@[simp] theorem State.enforceRegions_clk_base (s : State) (old : Struct) :
    (s.enforceRegions old).clk = s.clk ∧ (s.enforceRegions old).top.base = s.top.base := by
  unfold State.enforceRegions
  refine State.clk_base_trans (foldl_clk_base _ (fun s r => ?_) _ _) (foldl_clk_base _ (fun s r => ?_) _ _)
  · refine State.clk_base_trans (foldl_clk_base _ (fun s l => ?_) _ _) ⟨rfl, rfl⟩
    split
    · split <;> simp
    · exact ⟨rfl, rfl⟩
  · exact ⟨rfl, rfl⟩

@[simp] theorem State.enforceExports_clk_base (s : State) (old : Struct) :
    (s.enforceExports old).clk = s.clk ∧ (s.enforceExports old).top.base = s.top.base := by simp [State.enforceExports, foldl_clk_base]

@[simp] theorem State.enforceLinks_clk_base (s : State) (old : Struct) :
    (s.enforceLinks old).clk = s.clk ∧ (s.enforceLinks old).top.base = s.top.base := by simp [State.enforceLinks, foldl_clk_base]

@[simp] theorem State.enforceCamera_clk_base (s : State) (old : Struct) :
    (s.enforceCamera old).clk = s.clk ∧ (s.enforceCamera old).top.base = s.top.base := by simp [State.enforceCamera]

@[simp] theorem State.enforceStreams_clk_base (s : State) (old : Struct) :
    (s.enforceStreams old).clk = s.clk ∧ (s.enforceStreams old).top.base = s.top.base := by simp [State.enforceStreams]

@[simp] theorem State.enforceStages_clk_base (s : State) : s.enforceStages.clk = s.clk ∧ s.enforceStages.top.base = s.top.base := by
  simp [State.enforceStages]

@[simp] theorem State.enforceSafety_clk_base (s : State) (core : Option Bytes) :
    (s.enforceSafety core).clk = s.clk ∧ (s.enforceSafety core).top.base = s.top.base := by
  unfold State.enforceSafety; (repeat' split) <;> simp [*]

@[simp] theorem State.enforce_clk_base (s : State) (old : Struct) (core : Option Bytes) :
    (s.enforce old core).clk = s.clk ∧ (s.enforce old core).top.base = s.top.base := by simp [State.enforce]

@[simp] theorem State.applySlot_clk_base (s : State) (n : Nat) : (s.applySlot n).clk = s.clk ∧ (s.applySlot n).top.base = s.top.base := by
  unfold State.applySlot; (repeat' split) <;> simp [*]

@[simp] theorem State.newMemoryKey_clk_base (s : State) : s.newMemoryKey.clk = s.clk ∧ s.newMemoryKey.top.base = s.top.base := by
  simp [State.newMemoryKey]

@[simp] theorem State.tagChanged_clk_base (s : State) : s.tagChanged.clk = s.clk ∧ s.tagChanged.top.base = s.top.base := by
  simp [State.tagChanged]

@[simp] theorem State.endConsent_clk_base (s : State) : s.endConsent.clk = s.clk ∧ s.endConsent.top.base = s.top.base := by
  unfold State.endConsent; (repeat' split) <;> simp [*]

@[simp] theorem State.dropTenantSections_clk_base (s : State) :
    s.dropTenantSections.clk = s.clk ∧ s.dropTenantSections.top.base = s.top.base := by simp [State.dropTenantSections]

@[simp] theorem State.destroyKeys_clk_base (s : State) : s.destroyKeys.clk = s.clk ∧ s.destroyKeys.top.base = s.top.base := by
  simp [State.destroyKeys]

/-! A tenant switch in progress, through the operations that change the security block: none of them touches it. -/

theorem foldl_switch {α : Type} (f : State → α → State) (h : ∀ s x, (f s x).sec.switch = s.sec.switch) (l : List α) (s : State) :
    (l.foldl f s).sec.switch = s.sec.switch :=
  foldl_keeps (·.sec.switch) f h l s

@[simp] theorem State.dropWork_switch (s : State) (f : Nat) : (s.dropWork f).sec.switch = s.sec.switch := by
  simp [State.dropWork]

@[simp] theorem State.partitionReset_switch (s : State) (f : Nat) (tdi : Tdi) (cause : String) :
    (s.partitionReset f tdi cause).sec.switch = s.sec.switch := by
  unfold State.partitionReset
  split
  · rfl
  · split
    · rfl
    · split
      · rfl
      · rw [foldl_switch _ fun s r => by split <;> simp]
        simp

@[simp] theorem State.refreshVfs_switch (s : State) : s.refreshVfs.sec.switch = s.sec.switch := rfl

@[simp] theorem State.enforceParts_switch (s : State) (old : Struct) : (s.enforceParts old).sec.switch = s.sec.switch := by
  unfold State.enforceParts
  rw [State.refreshVfs_switch]
  exact foldl_switch _ (fun s p => by dsimp only; (repeat' split) <;> simp) _ _

@[simp] theorem State.enforce_switch (s : State) (old : Struct) (core : Option Bytes) :
    (s.enforce old core).sec.switch = s.sec.switch := by
  simp [State.enforce]

@[simp] theorem State.applySlot_switch (s : State) (n : Nat) : (s.applySlot n).sec.switch = s.sec.switch := by
  unfold State.applySlot
  split
  · rfl
  · simp

/-! The sections in force, through the operations that change the image block: stops and applies that end leave them as they are. -/

@[simp] theorem State.releaseHeld_sect (s : State) (r : Nat) : (s.releaseHeld r).img.sect = s.img.sect := rfl

@[simp] theorem State.stopApply_sect (s : State) (r status detail : Nat) : (s.stopApply r status detail).img.sect = s.img.sect :=
  foldl_sect _ (fun s x => by simp) _ _

@[simp] theorem State.finishStop_sect (s : State) (r : Nat) : (s.finishStop r).img.sect = s.img.sect := by
  simp [State.finishStop]

@[simp] theorem State.drainRoute_sect (s : State) (r : Nat) : (s.drainRoute r).img.sect = s.img.sect := by
  unfold State.drainRoute
  dsimp only
  split <;> simp [foldl_sect]

@[simp] theorem State.forceStop_sect (s : State) (r : Nat) : (s.forceStop r).img.sect = s.img.sect := by
  unfold State.forceStop
  dsimp only
  split
  · split <;> simp
  · rfl

@[simp] theorem State.refreshRoutes_sect (s : State) : s.refreshRoutes.img.sect = s.img.sect := by
  unfold State.refreshRoutes
  refine foldl_sect _ (fun s r => ?_) _ _
  dsimp only
  (repeat' split) <;> simp

@[simp] theorem State.partitionReset_sect (s : State) (f : Nat) (tdi : Tdi) (cause : String) :
    (s.partitionReset f tdi cause).img.sect = s.img.sect := by
  unfold State.partitionReset
  split
  · rfl
  · split
    · rfl
    · split
      · rfl
      · rw [foldl_sect _ fun s r => by split <;> simp]
        simp

@[simp] theorem State.enforceParts_sect (s : State) (old : Struct) : (s.enforceParts old).img.sect = s.img.sect := by
  unfold State.enforceParts
  rw [State.refreshVfs_img]
  exact foldl_sect _ (fun s p => by dsimp only; (repeat' split) <;> simp) _ _

@[simp] theorem State.enforce_sect (s : State) (old : Struct) (core : Option Bytes) :
    (s.enforce old core).img.sect = s.img.sect := by
  simp [State.enforce]

/-! The VFs shown, while a window is withdrawn. -/

@[simp] theorem State.event_vfs (s : State) (f c source : Nat) : (s.event f c source).hif.vfs = s.hif.vfs := by
  unfold State.event
  split <;> rfl

@[simp] theorem State.poisonRead_vfs (s : State) (part a source : Nat) : (s.poisonRead part a source).hif.vfs = s.hif.vfs := by
  unfold State.poisonRead
  dsimp only
  (repeat' split) <;> simp

@[simp] theorem State.deliverTo_vfs (s : State) (part a source : Nat) (data : Bytes) (poison : Bool) :
    (s.deliverTo part a source data poison).hif.vfs = s.hif.vfs := by
  unfold State.deliverTo
  dsimp only
  split <;> simp

@[simp] theorem State.memWrite_vfs (s : State) (a : Nat) (bs : Bytes) (poison : Bool) :
    (s.memWrite a bs poison).hif.vfs = s.hif.vfs := by
  unfold State.memWrite
  dsimp only
  split
  · split <;> simp
  · rfl

theorem foldl_vfs {α : Type} (f : State → α → State) (h : ∀ s x, (f s x).hif.vfs = s.hif.vfs) (l : List α) (s : State) :
    (l.foldl f s).hif.vfs = s.hif.vfs :=
  foldl_keeps (·.hif.vfs) f h l s

@[simp] theorem State.mergeLine_vfs (s : State) (r : HomeReq) (poison : Bool) : (s.mergeLine r poison).hif.vfs = s.hif.vfs :=
  foldl_vfs _ (fun s k => by dsimp only; split <;> simp) _ _

@[simp] theorem State.finishReq_vfs (s : State) (r : HomeReq) (was : Option DirEnt) (gone : List Nat) :
    (s.finishReq r was gone).hif.vfs = s.hif.vfs := by
  unfold State.finishReq
  dsimp only
  (repeat' split) <;> simp

@[simp] theorem State.beginReq_vfs (s : State) (r : HomeReq) : (s.beginReq r).hif.vfs = s.hif.vfs := by
  unfold State.beginReq
  dsimp only
  (repeat' split) <;> simp

@[simp] theorem State.startReq_vfs (s : State) (r : HomeReq) : (s.startReq r).hif.vfs = s.hif.vfs := by
  unfold State.startReq
  (repeat' split) <;> simp

@[simp] theorem State.withdraw_vfs (s : State) (r : Bytes) : (s.withdraw r).hif.vfs = s.hif.vfs := by
  unfold State.withdraw
  simp [foldl_vfs]

/-! The states of the route slots while routes stop: work on a route's frames leaves every STATE as it is. -/

theorem State.setRoute_st {s : State} {r : Nat} {x : Route} (h : x.st = (s.route r).st) (k : Nat) :
    ((s.setRoute r x).route k).st = (s.route k).st := by
  by_cases hk : k = r
  · subst hk
    by_cases hr : k < 16
    · rw [State.route_setRoute s k x hr, h]
    · simp [State.route, State.setRoute, hr]
  · rw [State.route_setRoute_ne s r k x hk]

@[simp] theorem State.mapFrame_st (s : State) (r id : Nat) (g : Frame → Frame) (k : Nat) :
    ((s.mapFrame r id g).route k).st = (s.route k).st :=
  State.setRoute_st (by rfl) k

theorem State.checkDeadline_st (s : State) (r : Nat) (f : Frame) (k : Nat) :
    ((s.checkDeadline r f).route k).st = (s.route k).st := by
  unfold State.checkDeadline
  dsimp only
  split
  · rw [State.route_of_rsq_eq _ _ (State.event_rsq ..), State.mapFrame_st, State.setRoute_st]
    rfl
  · rfl

theorem State.retire_st (s : State) (r id k : Nat) : ((s.retire r id).route k).st = (s.route k).st := by
  unfold State.retire
  split
  · rfl
  · next f _ =>
    rw [State.route_of_rsq_eq ((s.checkDeadline r f).setRoute r _) _ (by simp; rfl), State.setRoute_st,
      State.checkDeadline_st]
    rfl

theorem State.retireAborted_st (s : State) (r n k : Nat) : ((s.retireAborted r n).route k).st = (s.route k).st := by
  induction n generalizing s with
  | zero => rfl
  | succ n ih =>
    unfold State.retireAborted
    split
    · split
      · rw [ih, State.retire_st]
      · rfl
    · rfl

theorem State.settleSwap_st (s : State) (r k : Nat) : ((s.settleSwap r).route k).st = (s.route k).st := by
  unfold State.settleSwap
  split
  · rfl
  · simp only [State.route, Vector.getElem?_mapIdx]
    cases s.rsq.routes[k]? with
    | none => rfl
    | some x => simp only [Option.map_some, Option.getD_some]; split <;> rfl

theorem State.endApply_st (s : State) (n k : Nat) : ((s.endApply n).route k).st = (s.route k).st := by
  unfold State.endApply
  dsimp only
  split
  · split
    · rw [State.settleSwap_st]; rfl
    · rfl
  · rfl

theorem foldl_st {α : Type} (f : State → α → State) (k : Nat) (h : ∀ s x, ((f s x).route k).st = (s.route k).st) (l : List α)
    (s : State) : ((l.foldl f s).route k).st = (s.route k).st :=
  foldl_keeps (fun s => (s.route k).st) f h l s

theorem State.stopApply_st (s : State) (r status detail k : Nat) :
    ((s.stopApply r status detail).route k).st = (s.route k).st :=
  foldl_st _ k (fun s x => by rw [State.route_of_rsq_eq _ _ (State.fix_rsq ..), State.endApply_st]) _ _

/-- Whether a route slot is STARTING or RUNNING (Table 6-8). -/
def RouteSt.runs (st : RouteSt) : Bool := decide (st = .starting ∨ st = .running)

theorem RouteSt.runs_eq_false {st : RouteSt} : st.runs = false ↔ st ≠ .starting ∧ st ≠ .running := by simp [RouteSt.runs]

/-- The state that a route takes when it has stopped (Table 6-8). -/
def State.restState (s : State) (r : Nat) : RouteSt :=
  if (s.struct.route r).isNone then .empty else if (s.route r).faulting then .faulted else .ready

theorem State.restState_rests (s : State) (r : Nat) : (s.restState r).runs = false := by
  unfold State.restState
  (repeat' split) <;> rfl

/-- The commands and applies that end with a route's stop leave the state that it takes. -/
theorem State.finishStop_st (s : State) {r : Nat} (hr : r < 16) (k : Nat) :
    ((s.finishStop r).route k).st = if k = r then s.restState r else (s.route k).st := by
  unfold State.finishStop
  simp only [State.route_of_rsq_eq _ _ (State.releaseHeld_rsq ..), State.stopApply_st, State.route_of_rsq_eq _ _ (State.fixAll_rsq ..)]
  by_cases h : k = r
  · rw [h, if_pos rfl, State.route_setRouteSt _ _ _ hr, State.struct_of_sect (s := s) (by simp)]
    rfl
  · rw [if_neg h, State.route_setRouteSt_ne _ _ _ _ hr h, State.route_of_rsq_eq _ _ (State.resetCasks_rsq ..),
      State.route_setRoute_ne _ _ _ _ h]

theorem State.finishStop_st_other (s : State) {r k : Nat} (hr : r < 16) (hk : k ≠ r) :
    ((s.finishStop r).route k).st = (s.route k).st := by
  rw [s.finishStop_st hr, if_neg hk]

theorem State.finishStop_rests (s : State) {r : Nat} (hr : r < 16) : ((s.finishStop r).route r).st.runs = false := by
  rw [s.finishStop_st hr, if_pos rfl, s.restState_rests]

/-- A route whose ended frames, abandoned or aborted, have left it (R225, R251). -/
def State.endFrames (s : State) (r : Nat) : State :=
  (((s.route r).frames.filter fun f => f.abandoned.isSome && f.idle).foldl (fun s f =>
    (s.setRoute r { s.route r with frames := (s.route r).frames.filter (·.id ≠ f.id) }).frameDone r f 0x40 (f.abandoned.getD 0))
    s).retireAborted r 64

theorem State.drainRoute_eq (s : State) (r : Nat) : s.drainRoute r =
    if ((s.endFrames r).route r).st = .stopping ∧ ((s.endFrames r).route r).drained = true then (s.endFrames r).finishStop r
    else s.endFrames r := rfl

theorem State.endFrames_st (s : State) (r k : Nat) : ((s.endFrames r).route k).st = (s.route k).st := by
  unfold State.endFrames
  rw [State.retireAborted_st]
  exact foldl_st _ k (fun s f => by rw [State.route_of_rsq_eq _ _ (State.frameDone_rsq ..), State.setRoute_st (by rfl)]) _ _

theorem State.drainRoute_st_other (s : State) {r k : Nat} (hr : r < 16) (hk : k ≠ r) :
    ((s.drainRoute r).route k).st = (s.route k).st := by
  rw [s.drainRoute_eq]
  split
  · rw [State.finishStop_st_other _ hr hk, s.endFrames_st]
  · rw [s.endFrames_st]

theorem State.drainRoute_rests {s : State} {r : Nat} (hr : r < 16) (hs : (s.route r).st.runs = false) :
    ((s.drainRoute r).route r).st.runs = false := by
  rw [s.drainRoute_eq]
  split
  · exact State.finishStop_rests _ hr
  · rw [s.endFrames_st, hs]

/-- R261: after a stop at the next frame boundary the route is STOPPING or has stopped. -/
theorem State.boundaryStop_rests (s : State) {r : Nat} (hr : r < 16) : ((s.boundaryStop r).route r).st.runs = false := by
  unfold State.boundaryStop
  dsimp only
  split
  · split
    · refine State.drainRoute_rests hr ?_
      rw [State.route_setRouteSt _ _ _ hr]
      rfl
    · exact State.finishStop_rests _ hr
  next h => exact RouteSt.runs_eq_false.2 (not_or.1 h)

theorem State.boundaryStop_st_other (s : State) {r k : Nat} (hr : r < 16) (hk : k ≠ r) :
    ((s.boundaryStop r).route k).st = (s.route k).st := by
  have hlevel : (s.noteLevel 1).route k = s.route k := State.route_of_rsq_eq _ _ (State.noteLevel_rsq ..) k
  unfold State.boundaryStop
  dsimp only
  split
  · split
    · rw [State.drainRoute_st_other _ hr hk, State.route_setRouteSt_ne _ _ _ _ hr hk, hlevel]
    · rw [State.finishStop_st_other _ hr hk, hlevel]
  · rfl

theorem State.boundaryStop_keeps_rest {s : State} {r k : Nat} (hr : r < 16) (hs : (s.route k).st.runs = false) :
    ((s.boundaryStop r).route k).st.runs = false := by
  by_cases hk : k = r
  · rw [hk, s.boundaryStop_rests hr]
  · rw [s.boundaryStop_st_other hr hk, hs]

theorem State.boundaryStops_keep_rest {l : List Nat} (hl : ∀ r ∈ l, r < 16) {s : State} {k : Nat}
    (hs : (s.route k).st.runs = false) : ((l.foldl (fun s r => s.boundaryStop r) s).route k).st.runs = false := by
  induction l generalizing s with
  | nil => exact hs
  | cons r t ih =>
    exact ih (fun x hx => hl x (List.mem_cons_of_mem r hx)) (State.boundaryStop_keeps_rest (hl r List.mem_cons_self) hs)

/-- Stopping several routes leaves none of them STARTING or RUNNING. -/
theorem State.boundaryStops_rest {l : List Nat} (hl : ∀ r ∈ l, r < 16) (s : State) {k : Nat} (hk : k ∈ l) :
    ((l.foldl (fun s r => s.boundaryStop r) s).route k).st.runs = false := by
  induction l generalizing s with
  | nil => cases hk
  | cons r t ih =>
    have ht : ∀ x ∈ t, x < 16 := fun x hx => hl x (List.mem_cons_of_mem r hx)
    rcases List.mem_cons.1 hk with rfl | hk
    · exact State.boundaryStops_keep_rest ht (s.boundaryStop_rests (hl k List.mem_cons_self))
    · exact ih ht _ hk

/-! The steps of a tenant switch (Table 13-14). -/

/-- Step 1: the switch stands in the state in which the routes are stopped. -/
theorem exec_tenantSwitch_starts {s : State} {f : Part} {q : Fin 64} {c : Cmd} (hf : s.front f q 0x43 = some c)
    (hw : s.sec.switch = none) : ∃ u, exec (.tenantSwitch f q) s = .next ((List.range 16).foldl (fun s r => s.boundaryStop r) u) ∧
      u.sec.switch = some { at_ := s.clk, zero := bit (c.param 0 1) 0, cmds := [(f.val, q.val, c.pos)] } := by
  have hw' : (s.setCmd f q c.pos fun c => { c with begun := true }).sec.switch = none := by rw [State.setCmd_sec, hw]
  refine ⟨_, by simp only [exec, execTenantSwitch, hf, hw']; rfl, ?_⟩
  rw [foldl_switch _ fun s p => by split <;> simp, State.abortFrameApplies_sec, State.dropApplies_sec, State.note_sec]
  simp [State.setCmd]

/-- A switch in progress absorbs another, which completes with it (R607). -/
theorem exec_tenantSwitch_absorbed {s : State} {f : Part} {q : Fin 64} {c : Cmd} {w : Switch} (hf : s.front f q 0x43 = some c)
    (hw : s.sec.switch = some w) : ∃ hif, exec (.tenantSwitch f q) s = .next { s with
      hif := hif, sec := { s.sec with switch := some { w with cmds := w.cmds ++ [(f.val, q.val, c.pos)] } } } := by
  have hw' : (s.setCmd f q c.pos fun c => { c with begun := true }).sec.switch = some w := by rw [State.setCmd_sec, hw]
  exact ⟨(s.setCmd f q c.pos fun c => { c with begun := true }).hif, by simp only [exec, execTenantSwitch, hf, hw']; rfl⟩

theorem State.switchIn_eq {s : State} {w : Switch} {st : SwStep} (hw : s.sec.switch = some w) (hst : w.step = st) :
    s.switchIn st = true := by simp [State.switchIn, hw, hst]

theorem State.switchTo_switch {s : State} {w : Switch} (hw : s.sec.switch = some w) (st : SwStep) :
    (s.switchTo st).sec.switch = some { w with step := st, at_ := s.clk } := by simp [State.switchTo, hw]

theorem exec_switchDrainTimeout_due {s : State} {w : Switch} (hw : s.sec.switch = some w) (hst : w.step = .draining)
    (hd : s.due w.at_ (msTicks 100) = true) :
    exec .switchDrainTimeout s = .next ((List.range 16).foldl (fun s r => s.forceStop r) s) := by
  simp [exec, execSwitchDrainTimeout, hw, hst, hd]

@[simp] theorem State.raise_clk (s : State) (f q : Nat) : (s.raise f q).clk = s.clk := by
  unfold State.raise
  dsimp only
  (repeat' split) <;> rfl

@[simp] theorem State.postAborted_clk (s : State) (f q status : Nat) (a : Aborted) : (s.postAborted f q status a).clk = s.clk := by
  unfold State.postAborted
  dsimp only
  (repeat' split) <;> simp [State.postEntry]

theorem foldl_clk {α : Type} (f : State → α → State) (h : ∀ s x, (f s x).clk = s.clk) (l : List α) (s : State) :
    (l.foldl f s).clk = s.clk :=
  foldl_keeps (·.clk) f h l s

@[simp] theorem State.abortQueue_clk (s : State) (f q : Nat) : (s.abortQueue f q).clk = s.clk := by
  unfold State.abortQueue
  dsimp only
  split <;> simp [foldl_clk]

/-- What is left of steps 3 and 4 once the VFs are removed: lines are given up and windows taken back. -/
def State.releaseCoherence (s : State) : State :=
  let s := (s.fab.remote.filter RLine.settled).foldl (fun s l => s.evict l) s
  (s.struct.all 0x22).foldl (fun s r => s.withdraw r) s

@[simp] theorem State.releaseCoherence_sec (s : State) : s.releaseCoherence.sec = s.sec := by
  simp [State.releaseCoherence, foldl_sec]

@[simp] theorem State.releaseCoherence_img (s : State) : s.releaseCoherence.img = s.img := by
  simp [State.releaseCoherence, foldl_img]

@[simp] theorem State.releaseCoherence_vfs (s : State) : s.releaseCoherence.hif.vfs = s.hif.vfs := by
  simp [State.releaseCoherence, foldl_vfs, foldl_hif]

/-- Step 3: the commands of the VFs end as aborted. -/
def State.abortVfQueues (s : State) : State :=
  ((s.hif.queues.map (·.1)).filter fun k => decide (64 ≤ k)).foldl (fun s k => s.abortQueue (k / 64) (k % 64)) s

@[simp] theorem State.abortVfQueues_sec (s : State) : s.abortVfQueues.sec = s.sec := by
  simp [State.abortVfQueues, foldl_sec]

@[simp] theorem State.abortVfQueues_img (s : State) : s.abortVfQueues.img = s.img := by
  simp [State.abortVfQueues, foldl_img]

@[simp] theorem State.abortVfQueues_clk (s : State) : s.abortVfQueues.clk = s.clk := by
  simp [State.abortVfQueues, foldl_clk]

theorem exec_switchRoutesStopped_releases {s : State} {w : Switch} (hw : s.sec.switch = some w) (hst : w.step = .draining)
    (hr : (List.range 16).all s.routeStill = true) :
    exec .switchRoutesStopped s = .next (s.abortVfQueues.removeVfs.switchTo .releasing).releaseCoherence := by
  simp only [exec, execSwitchRoutesStopped, State.switchIn_eq hw hst, hr, Bool.and_self, if_true]
  rfl

/-- Steps 3 and 4: the VFs go and the switch releases coherence; the structure in force stays. -/
theorem switchRoutesStopped_next {s : State} {w : Switch} (hw : s.sec.switch = some w) :
    let t := (s.abortVfQueues.removeVfs.switchTo .releasing).releaseCoherence
    t.hif.vfs = 0 ∧ t.sec.switch = some { w with step := .releasing, at_ := s.clk } ∧ t.struct = s.struct := by
  have hw' : s.abortVfQueues.removeVfs.sec.switch = some w := (congrArg Sec.switch s.abortVfQueues_sec).trans hw
  refine ⟨?_, ?_, State.struct_of_sect (by simp)⟩
  · simp [State.removeVfs]
  · rw [State.releaseCoherence_sec, State.switchTo_switch hw']
    exact congrArg (fun c => some { w with step := .releasing, at_ := c }) s.abortVfQueues_clk

/-- Step 4: with no remote line held and no window's copy out, the tenant's sections and keys go and the scrub starts. -/
theorem exec_switchCoherenceReleased_scrubs {s : State} {w : Switch} (hw : s.sec.switch = some w) (hst : w.step = .releasing)
    (hremote : s.fab.remote = []) (hleaving : s.fab.leaving = []) :
    exec .switchCoherenceReleased s = .next (s.dropTenantSections.destroyKeys.switchTo .scrubbing) := by
  simp [exec, execSwitchCoherenceReleased, State.switchIn_eq hw hst, hremote, hleaving]

theorem State.dropTenantSections_sect (s : State) :
    s.dropTenantSections.img.sect = s.img.sect.mapIdx fun i x => if i < 2 then x else {} := by
  simp [State.dropTenantSections]

@[simp] theorem State.dropTenantSections_switch (s : State) : s.dropTenantSections.sec.switch = s.sec.switch := by
  simp [State.dropTenantSections]

@[simp] theorem State.endConsent_switch (s : State) : s.endConsent.sec.switch = s.sec.switch := by
  unfold State.endConsent
  split <;> simp

@[simp] theorem State.destroyKeys_sect (s : State) : s.destroyKeys.img.sect = s.img.sect := by simp [State.destroyKeys]

/-- Step 5: what key destruction leaves of the security block. -/
theorem State.destroyKeys_sec (s : State) : s.destroyKeys.sec.switch = s.sec.switch ∧ s.destroyKeys.sec.tenant = none ∧
    s.destroyKeys.sec.pairs = [] ∧ s.destroyKeys.sec.blobs = [] ∧ s.destroyKeys.sec.present = 0 := by
  simp [State.destroyKeys, State.newMemoryKey]

theorem switchCoherenceReleased_next {s : State} {w : Switch} (hw : s.sec.switch = some w) :
    let t := s.dropTenantSections.destroyKeys.switchTo .scrubbing
    t.sec.switch = some { w with step := .scrubbing, at_ := s.clk } ∧ t.sec.tenant = none ∧ t.sec.pairs = [] ∧
      t.sec.blobs = [] ∧ t.sec.present = 0 ∧ ∀ i : Fin 9, t.img.sect[i] = if i.val < 2 then s.img.sect[i] else {} := by
  obtain ⟨hswitch, htenant, hpairs, hblobs, hpresent⟩ := s.dropTenantSections.destroyKeys_sec
  have hw' : s.dropTenantSections.destroyKeys.sec.switch = some w := by rw [hswitch, State.dropTenantSections_switch, hw]
  dsimp only
  rw [State.switchTo_switch hw', State.switchTo_sec]
  dsimp only
  refine ⟨by simp, htenant, hpairs, hblobs, hpresent, fun i => ?_⟩
  simp [State.dropTenantSections_sect]

theorem foldl_sw {α : Type} (f : State → α → State) (h : ∀ s x, (f s x).sw = s.sw) (l : List α) (s : State) :
    (l.foldl f s).sw = s.sw :=
  foldl_keeps (·.sw) f h l s

@[simp] theorem State.renewPorts_sw (s : State) : s.renewPorts.sw = s.sw := by
  unfold State.renewPorts
  refine foldl_sw _ (fun s p => ?_) _ _
  dsimp only
  split <;> simp

@[simp] theorem State.renewPorts_clk (s : State) : s.renewPorts.clk = s.clk := by
  unfold State.renewPorts
  refine foldl_clk _ (fun s p => ?_) _ _
  dsimp only
  split <;> simp

/-- Steps 6 and 7: after the scrub the switch ends, or with ZERO_FILL goes on. -/
theorem exec_switchScrubDone {s : State} {w : Switch} (hw : s.sec.switch = some w) (hst : w.step = .scrubbing) :
    exec .switchScrubDone s =
      .next (if w.zero then s.scrub.renewPorts.switchTo .filling else s.scrub.renewPorts.endSwitch) := by
  simp [exec, execSwitchScrubDone, hw, hst]

theorem switchScrubDone_fills {s : State} {w : Switch} (hw : s.sec.switch = some w) :
    let t := s.scrub.renewPorts.switchTo .filling
    t.sec.switch = some { w with step := .filling, at_ := s.clk } ∧ t.nec = State.reset.nec ∧ t.stg = State.reset.stg ∧
      t.sw = State.reset.sw ∧ t.rsq = State.reset.rsq ∧ t.mem = s.mem := by
  have hw' : s.scrub.renewPorts.sec.switch = some w := by rw [State.renewPorts_sec, State.scrub_sec, hw]
  refine ⟨?_, by simp [State.scrub], by simp [State.scrub], by simp [State.scrub], by simp [State.scrub], by simp⟩
  rw [State.switchTo_switch hw', State.renewPorts_clk]
  rfl

/-- Step 8: no switch is in progress any more and BASE is OPEN, whatever applies of the switch come into force. -/
theorem State.endSwitch_ends (s : State) : s.endSwitch.sec.switch = none ∧ s.endSwitch.top.base = .opened := by
  unfold State.endSwitch
  dsimp only
  rw [State.fixAll_sec, State.note_sec, (State.fixAll_clk_base ..).2, State.note_top,
    foldl_switch _ fun s n => by split <;> simp,
    (foldl_clk_base _ (fun s n => by split <;> simp) _ _).2]
  exact ⟨rfl, rfl⟩

/-- With no SWITCH apply waiting the end of the switch leaves board memory as it is. -/
theorem State.endSwitch_mem {s : State} (h : (List.range 8).all (fun n => (s.slot n).st ≠ .pendingSwitch) = true) :
    s.endSwitch.mem = s.mem := by
  unfold State.endSwitch
  dsimp only
  rw [State.fixAll_mem, State.note_mem]
  have hslots (l : List Nat) (hl : ∀ n ∈ l, (s.slot n).st ≠ .pendingSwitch) (u : State) (hu : u.img = s.img) :
      l.foldl (fun s n => if (s.slot n).st = .pendingSwitch then s.applySlot n else s) u = u := by
    induction l with
    | nil => rfl
    | cons n t ih =>
      have hn : (u.slot n).st ≠ .pendingSwitch := by
        unfold State.slot
        rw [hu]
        exact hl n List.mem_cons_self
      rw [List.foldl_cons, if_neg hn, ih fun x hx => hl x (List.mem_cons_of_mem n hx)]
  rw [hslots _ (by simpa using h)]
  rfl

/-- Board memory filled with zeros (Table 13-14 step 7): only bytes of PINNED windows stay. -/
def Mem.zeroFilled (m : Mem) : Mem :=
  { m with
    cells := m.cells.filter (fun c => decide (pinnedBase ≤ c.1) && c.2 != 0), era := none
    poison := m.poison.filter fun k => decide (pinnedBase ≤ 64 * k) }

theorem Mem.zeroFilled_get (m : Mem) {a : Nat} (ha : a < pinnedBase) : m.zeroFilled.get a = 0 := by
  have hcells : alookup m.zeroFilled.cells a = none :=
    alookup_filter_none _ _ a fun v => by simp [Nat.not_le.2 ha]
  simp only [Mem.get, hcells]
  rfl

theorem exec_switchZeroFillDone_ends {s : State} {w : Switch} (hw : s.sec.switch = some w) (hst : w.step = .filling) :
    exec .switchZeroFillDone s = .next ({ s with mem := s.mem.zeroFilled } : State).endSwitch := by
  simp only [exec, execSwitchZeroFillDone, State.switchIn_eq hw hst, if_true]
  rfl

/-- Settles O21: each clause is the lemma above for its step. -/
theorem tenantSwitch : Obligations.TenantSwitch := by
  refine ⟨fun s f q c hf hw => ?_, fun s f q c w hf hw => ?_, fun s w hw hst hd => exec_switchDrainTimeout_due hw hst hd,
    fun s w hw hst hr => ⟨_, exec_switchRoutesStopped_releases hw hst hr, switchRoutesStopped_next hw⟩,
    fun s w hw hst hrem hlv => ⟨_, exec_switchCoherenceReleased_scrubs hw hst hrem hlv, switchCoherenceReleased_next hw⟩,
    fun s w hw hst hz => ⟨_, (exec_switchScrubDone hw hst).trans (by rw [hz, if_pos rfl]), switchScrubDone_fills hw⟩,
    fun s w hw hst hz => ⟨_, (exec_switchScrubDone hw hst).trans (by rw [hz, if_neg Bool.false_ne_true]), State.endSwitch_ends _⟩,
    fun s w hw hst hslots => ⟨_, exec_switchZeroFillDone_ends hw hst, (State.endSwitch_ends _).1, (State.endSwitch_ends _).2,
      fun a ha => ?_⟩⟩
  · obtain ⟨u, hexec, hswitch⟩ := exec_tenantSwitch_starts hf hw
    refine ⟨_, hexec, ?_, fun r => RouteSt.runs_eq_false.1 (State.boundaryStops_rest (by simp) u (by simp))⟩
    rw [foldl_sec _ fun s r => State.boundaryStop_sec s r, hswitch]
  · obtain ⟨hif, hexec⟩ := exec_tenantSwitch_absorbed hf hw
    exact ⟨_, hexec, rfl, rfl⟩
  · rw [State.endSwitch_mem (s := { s with mem := s.mem.zeroFilled }) hslots]
    exact Mem.zeroFilled_get _ ha

end Sys2Proof.Machine

namespace Sys2Proof.Machine

/-! The edge of the board beside its register windows (R50, R61, R84, R119, R121, R603, R605): configuration requests, SMBus and the
debug port. -/

theorem exec_configurationRequest {s : State} (f : Part) (h : s.hif.linkUp = true) :
    exec (.configurationRequest f) s = .next { s with
      out := s.out ++ [.config f (if !s.configReady then .retry else if s.exposed f then .shown s.hif.vfs.toNat else .absent)] } := by
  simp only [exec, execConfigurationRequest, h, if_true]
  rfl

theorem exec_smbusTransaction_acks {s : State} (ha : s.pwr.auxGood = true) (hm : s.top.mgtUp = true) (hb : s.pwr.brdRst = false) :
    exec (.smbusTransaction (0x58 + s.pwr.ga.toNat)) s = .next { s with out := s.out ++ [.smbusAck] } := by
  have hon : s.smbusOn = true := by simp [State.smbusOn, ha, hm, hb]
  simp [exec, execSmbusTransaction, hon, State.emit]

/-- A debug access whose feature is in force is served (R603). -/
theorem exec_debugPortAccess_served {s : State} {op : DebugOp} (h : bit s.debugFeatures (debugFeature op) = true) :
    exec (.debugPortAccess op) s = .next (s.debugServe op) :=
  if_pos h

/-- A refused read answers zeros (R603). -/
theorem exec_debugPortAccess_zeros {s : State} {op : DebugOp} {n : Nat} (h : bit s.debugFeatures (debugFeature op) = false)
    (hn : debugRefuse op = some n) : exec (.debugPortAccess op) s = .next (s.emit (.answer (List.replicate n 0))) := by
  simp [exec, execDebugPortAccess, h, hn]

/-- Refused, an access that reads nothing is ignored (R603). -/
theorem exec_debugPortAccess_ignored {s : State} {op : DebugOp} (h : bit s.debugFeatures (debugFeature op) = false)
    (hn : debugRefuse op = none) : exec (.debugPortAccess op) s = .next s := by
  simp [exec, execDebugPortAccess, h, hn]

theorem State.debugServe_readsBoard {s : State} {a : Nat} (h : s.inBoardMem a 64 = true) :
    s.debugServe (.mem a) = { s with out := s.out ++ [.answer (s.mem.read a 64)] } := by
  simp only [State.debugServe, h, if_true]
  rfl

theorem State.debugServe_halt {s : State} (c : Fin 64) (on : Bool) (h : s.top.armed = false) :
    s.debugServe (.halt c on) = s.setCore c { s.core c with halted := on, stepOne := false } := by
  simp [State.debugServe, h]

/-- While the board is armed no core can be halted from outside, whether or not the feature is in force (R605). -/
theorem exec_debugPortAccess_halt_armed {s : State} (c : Fin 64) (on : Bool) (h : s.top.armed = true) :
    exec (.debugPortAccess (.halt c on)) s = .next s := by
  cases hf : bit s.debugFeatures (debugFeature (.halt c on))
  · exact exec_debugPortAccess_ignored hf rfl
  · rw [exec_debugPortAccess_served hf, State.debugServe, if_pos h]

theorem exec_debugPortAccess_step_armed {s : State} (c : Fin 64) (h : s.top.armed = true) :
    exec (.debugPortAccess (.step c)) s = .next s := by
  cases hf : bit s.debugFeatures (debugFeature (.step c))
  · exact exec_debugPortAccess_ignored hf rfl
  · rw [exec_debugPortAccess_served hf, State.debugServe, h, Bool.true_or, if_pos rfl]

/-- Settles O14: configuration and SMBus answer under their conditions, and a debug access is served or refused by its feature. -/
theorem portsBesideTheRegisters : Obligations.PortsBesideTheRegisters := by
  refine ⟨fun _ f hl => exec_configurationRequest f hl, fun _ ha hm hb => exec_smbusTransaction_acks ha hm hb,
    fun s a hf hin => ?_, fun _ _ hf => exec_debugPortAccess_zeros hf rfl, fun _ _ hf => exec_debugPortAccess_served hf,
    fun s c on hf harm => ?_,
    fun _ c on harm => ⟨exec_debugPortAccess_halt_armed c on harm, exec_debugPortAccess_step_armed c harm⟩⟩
  · rw [exec_debugPortAccess_served hf, State.debugServe_readsBoard hin]
  · rw [exec_debugPortAccess_served hf, State.debugServe_halt c on harm]

end Sys2Proof.Machine

namespace Sys2Proof.Machine

/-! The end of the boot, the loss latch, VBAT and the retention record (Table 3-2, R71, R77, R79, Table 2-8). -/

theorem exec_bootDone_ready {s : State} (hres : s.top.resetting.isSome = true) (hgood : s.pwr.mainGood = true)
    (hmgt : s.top.mgtUp = true) (hblock : s.top.bootBlocked = false) (hrec : s.top.recovery = false) :
    exec .bootDone s = .next (
      let u := s.note srcMgt 0 0x0001 0 [s.fw.slot.toNat, s.top.lastReset.toNat]
      { u with top := { s.top with ready := true, resetting := none }, mem := { s.mem with ready := true } }) := by
  simp [exec, execBootDone, hres, hgood, hmgt, hblock, hrec]

theorem exec_lossLatchSet_off {s : State} (h : (s.pwr.auxGood && s.pwr.vinGood) = false) :
    exec .lossLatchSet s = .next { s with ret := { s.ret with latch := true } } :=
  if_neg (Bool.eq_false_iff.1 h)

/-- A dip while main power is present (R79): beside the latch, RUN_DIP, the record's mark and one ledger entry. -/
theorem exec_lossLatchSet_dip {s : State} (ha : s.pwr.auxGood = true) (hv : s.pwr.vinGood = true) :
    exec .lossLatchSet s = .next (State.note { s with
      ret := { latch := true, record := { s.ret.record with valid := false } }
      pwr := { s.pwr with runDip := true } } srcMgt 0 0x0006 0 [1, 0, Config.eventCode "dip"]) := by
  simp [exec, execLossLatchSet, ha, hv]

theorem satN_eq_min (hi v : Nat) : satN hi v = min v hi := by
  unfold satN
  split <;> omega

theorem exec_vbatMeasurement_due {s : State} (mv : Nat) (ha : s.pwr.auxGood = true) (hd : s.pwr.vbatAt + secTicks 1 ≤ s.clk) :
    exec (.vbatMeasurement mv) s = .next { s with pwr := { s.pwr with
      vbatMv := BitVec.ofNat 16 (min mv 0xFFFF), vbatLow := decide (mv < 2200), vbatAbsent := decide (mv < 1000), vbatAt := s.clk } } := by
  simp [exec, execVbatMeasurement, State.due, ha, hd, satN_eq_min]

theorem exec_retentionRecordUpdate_live {s : State} (ha : s.pwr.auxGood = true) (hb : s.top.bootPending = false) :
    exec .retentionRecordUpdate s = .next { s with ret := { s.ret with record := s.liveRecord } } := by
  simp [exec, execRetentionRecordUpdate, ha, hb]

/-- With the GTC running the record takes its time. -/
theorem State.liveRecord_running {s : State} (h : (s.pwr.mainGood && !s.top.timePending) = true) :
    s.liveRecord = { s.ret.record with
      counter := s.gtcNs, alignedAt := s.clk, gtcSet := s.top.gtcSet, nextSeq := s.log.seq, valid := true } :=
  if_pos h

theorem State.liveRecord_stopped {s : State} (h : (s.pwr.mainGood && !s.top.timePending) = false) :
    s.liveRecord = { s.ret.record with nextSeq := s.log.seq, valid := true } :=
  if_neg (Bool.eq_false_iff.1 h)

/-- Settles O4: each clause is the lemma above for its event. -/
theorem powerBookkeeping : Obligations.PowerBookkeeping := by
  refine ⟨fun s hres hgood hmgt hblock hrec => exec_bootDone_ready hres hgood hmgt hblock hrec,
    fun s h => exec_lossLatchSet_off h, fun s ha hv => ⟨_, exec_lossLatchSet_dip ha hv⟩,
    fun s mv ha hd => exec_vbatMeasurement_due mv ha hd, fun s ha hb hg ht => ?_, fun s ha hb hg => ?_⟩
  · rw [exec_retentionRecordUpdate_live ha hb, State.liveRecord_running (by rw [hg, ht]; rfl)]
  · rw [exec_retentionRecordUpdate_live ha hb, State.liveRecord_stopped hg]

end Sys2Proof.Machine

namespace Sys2Proof.Machine

/-! The supply events (Table 2-5, R52, R55 to R57, R72, R716). -/

/-- AUX_3V3 comes back (R57, R72): the latch and the record's CRC take what the retention domain went through. -/
theorem exec_aux3v3Present_rises {s : State} {mv : Nat} (below crc seeds : Bool) (ha : s.pwr.auxGood = false) (hmv : 3135 ≤ mv) :
    exec (.aux3v3Present ⟨mv, below⟩ crc seeds) s = .next (State.startReset
      { s with
        pwr := { s.pwr with auxGood := true, auxHigh := decide (3465 < mv), auxAt := s.clk, vbatAt := s.clk, mainLoss := false }
        ret := { latch := s.ret.latch || below, record := { s.ret.record with valid := s.ret.record.valid && crc } } }
      true "AUX_3V3" srcMgt) := by
  simp [exec, execAux3v3Present, ha, Nat.not_lt.2 hmv]

theorem exec_aux3v3Present_level {s : State} {mv : Nat} (below crc seeds : Bool) (ha : s.pwr.auxGood = true) (hmv : 3135 ≤ mv) :
    exec (.aux3v3Present ⟨mv, below⟩ crc seeds) s = .next { s with pwr := { s.pwr with auxHigh := decide (3465 < mv) } } := by
  simp [exec, execAux3v3Present, ha, Nat.not_lt.2 hmv]

theorem exec_aux3v3Loss_stops {s : State} (ha : s.pwr.auxGood = true) : exec .aux3v3Loss s = .next s.unpowered :=
  if_pos ha

theorem State.bootNow_done {s : State} (h : s.top.bootPending = false) : s.bootNow = s := by
  simp [State.bootNow, h]

theorem exec_mainConverterStart_starts {s : State} (ha : s.pwr.auxGood = true) (hv : s.pwr.vinGood = true)
    (hc : s.pwr.converters = false) (htrip : s.saf.thermal ≠ .trip) (hd : s.pwr.auxAt + msTicks 10 ≤ s.clk) :
    exec .mainConverterStart s = .next (State.bootNow { s with pwr := { s.pwr with converters := true } }) := by
  simp [exec, execMainConverterStart, State.due, ha, hv, hc, htrip, hd]

/-- The main rails are in regulation (Table 2-5 step 3): MAIN_GOOD, its instant and the link. -/
def State.railsUp (s : State) : State :=
  { s with pwr := { s.pwr with mainGood := true, mainGoodAt := s.clk }, hif := { s.hif with linkUp := !s.pwr.perst } }

theorem exec_mainRailsGood_rises {s : State} (hc : s.pwr.converters = true) (hg : s.pwr.mainGood = false) :
    exec .mainRailsGood s = .next (if s.top.bootPending then s.railsUp.bootNow else s.railsUp.bootTime) := by
  simp [exec, execMainRailsGood, State.railsUp, hc, hg]

/-! What the main rails add to a start whose firmware has run (`State.bootTime`). -/

theorem State.ledgerAfterAux_frame (s : State) : s.ledgerAfterAux = { s with log := s.ledgerAfterAux.log } := by
  unfold State.ledgerAfterAux
  dsimp only
  split
  · split <;> rfl
  · rfl

/-- The check of the latch and the record (R75, R79) changes two bits of PWR_STATUS, the record and the ledger. -/
theorem State.checkRetention_frame (s : State) : s.checkRetention = { s with
    pwr := { s.pwr with crcBad := s.checkRetention.pwr.crcBad, lost := s.checkRetention.pwr.lost }
    ret := { s.ret with record := s.checkRetention.ret.record }
    log := s.checkRetention.log } := by
  unfold State.checkRetention
  rw [s.ledgerAfterAux_frame]
  dsimp only
  split <;> rfl

/-- The rails add the time, the record and the latch to a start, and leave the supplies and the clock. -/
theorem State.bootTime_supplies (s : State) :
    s.bootTime.clk = s.clk ∧ s.bootTime.pwr.mainGood = s.pwr.mainGood ∧ s.bootTime.pwr.mainGoodAt = s.pwr.mainGoodAt := by
  unfold State.bootTime
  rw [s.checkRetention_frame]
  dsimp only
  (repeat' split) <;> exact ⟨rfl, rfl, rfl⟩

/-- A latch that is set is acted on and cleared (R73): neither the check nor the restart of the time clears it before. -/
theorem State.bootTime_latch {s : State} (h : s.ret.latch = true) : s.bootTime.ret.latch = false := by
  unfold State.bootTime
  extract_lets checked timed
  have hchecked : checked.ret.latch = true := by
    unfold checked
    split
    · rw [s.checkRetention_frame]
      exact h
    · exact h
  have htimed : timed.ret.latch = true := by
    unfold timed
    split <;> exact hchecked
  rw [htimed]
  rfl

theorem State.restartTime_lost {s : State} (h : s.pwr.lost = true) :
    s.restartTime.tmg.gtc = 0 ∧ s.restartTime.top.gtcSet = false := by
  simp [State.restartTime, h]

/-- The GTC of a board that lost its time restarts from zero, with GTC_SET 0 (R75, R76). -/
theorem State.bootTime_lost {s : State} (ht : s.top.timePending = true) (hl : s.pwr.lost = true) :
    s.bootTime.tmg.gtc = 0 ∧ s.bootTime.top.gtcSet = false := by
  have hsettle : s.bootTime =
      if s.ret.latch || !s.ret.record.valid then s.restartTime.settleRetention else s.restartTime := by
    simp only [State.bootTime, ht, hl, Bool.not_true, Bool.and_false, if_true, if_neg Bool.false_ne_true]
    rfl
  rw [hsettle]
  split <;> exact State.restartTime_lost hl

/-- 48V_IN stands outside its range, at `mv` (R55). -/
def State.vinGone (s : State) (mv : Nat) : State :=
  { s with pwr := { s.pwr with vinGood := false, vinMv := mv, vinOver := decide (63000 < mv) } }

/-- A main power loss with AUX_3V3 present (R55, R56): the cause is latched, then the main rails go. -/
theorem exec_mainPowerLoss_drops {s : State} {mv ns : Nat} (ha : s.pwr.auxGood = true) (hv : s.pwr.vinGood = true)
    (hmv : mv < 32500 ∨ 63000 < mv) (hns : 10000 ≤ ns) :
    exec (.mainPowerLoss ⟨mv, ns⟩) s = .next (((s.vinGone mv).latchCause 0x09 srcSaf).dropMain false) := by
  have hlost : vinLost mv ns = true := by simp [vinLost, hmv, hns]
  simp [exec, execMainPowerLoss, State.vinGone, hlost, ha, hv]

theorem exec_mainPowerLoss_short {s : State} {mv ns : Nat} (hmv : mv < 32500 ∨ 63000 < mv) (hns : ns < 10000) :
    exec (.mainPowerLoss ⟨mv, ns⟩) s = .next s := by
  have hlost : vinLost mv ns = false := by simp [vinLost, Nat.not_le.2 hns]
  have hout : ¬(32500 ≤ mv ∧ mv ≤ 63000) := by omega
  simp only [exec, execMainPowerLoss, hlost, if_neg hout, if_neg Bool.false_ne_true]

/-- A latched cause stands among SAF's events. -/
theorem State.latchCause_frame (s : State) (cause source : Nat) :
    s.latchCause cause source = { s with saf := (s.latchCause cause source).saf } := by
  unfold State.latchCause
  dsimp only
  split <;> rfl

theorem State.latchCause_armed {s : State} (cause source : Nat) (h : s.top.armed = true) :
    (s.latchCause cause source).saf.events = s.saf.events ++ [{ cause := cause, gtc := s.gtcNs, source := source }] := by
  simp [State.latchCause, h]

/-- The BOARD and SAFETY sections stay with SAF (Table 2-6). -/
theorem State.dropMain_sect (s : State) (vin : Bool) :
    (s.dropMain vin).img.sect.get 0 = s.img.sect.get 0 ∧ (s.dropMain vin).img.sect.get 1 = s.img.sect.get 1 := by
  simp [State.dropMain, Vector.get_eq_getElem]

/-- Main power returns with AUX_3V3 held (R55, R57). -/
theorem exec_mainPowerReturn_resets {s : State} {mv ns : Nat} (ha : s.pwr.auxGood = true) (hv : s.pwr.vinGood = false)
    (hmv : 34000 < mv) (hrise : s.pwr.vinOver = true → mv ≤ 60000 ∧ 10000 ≤ ns) :
    exec (.mainPowerReturn ⟨mv, ns⟩) s = .next (State.startReset
      { s with
        pwr := { s.pwr with vinGood := true, vinMv := mv, vinOver := false }
        saf := { s.saf with thermal := if s.saf.thermal = .trip then .normal else s.saf.thermal } }
      false "main power" srcMgt) := by
  have hret : vinReturned s.pwr.vinOver mv ns = true := by
    cases ho : s.pwr.vinOver
    · simp [vinReturned, hmv]
    · simp [vinReturned, hmv, hrise ho]
  simp [exec, execMainPowerReturn, hret, ha, hv]

/-- Settles O1: each clause is the lemma above for its event. -/
theorem supplyEventsComplete : Obligations.SupplyEventsComplete := by
  refine ⟨fun s mv below crc seeds ha hmv => exec_aux3v3Present_rises below crc seeds ha hmv,
    fun s mv below crc seeds ha hmv => exec_aux3v3Present_level below crc seeds ha hmv,
    fun s ha => ⟨_, exec_aux3v3Loss_stops ha, rfl, rfl, rfl, rfl, rfl, rfl, rfl, rfl, rfl, rfl, rfl⟩,
    fun s ha hv hc htrip hd => ?_, fun s hc hg hb => ⟨s.railsUp.bootTime, ?_⟩, fun s hc hg hb => ?_,
    fun s mv ns ha hv hmv hns => ⟨_, exec_mainPowerLoss_drops ha hv hmv hns, ?_⟩,
    fun s mv ns hmv hns => exec_mainPowerLoss_short hmv hns,
    fun s mv ns ha hv hmv hrise => exec_mainPowerReturn_resets ha hv hmv hrise⟩
  · rw [exec_mainConverterStart_starts ha hv hc htrip hd]
    split
    next => rfl
    next hb => exact congrArg _ (State.bootNow_done (Bool.eq_false_iff.2 hb))
  · obtain ⟨hclk, hgood, hat⟩ := s.railsUp.bootTime_supplies
    exact ⟨by rw [exec_mainRailsGood_rises hc hg, hb]; rfl, hgood, hat, State.bootTime_hif _, State.bootTime_mem _,
      State.bootTime_fw _, State.bootTime_saf _, State.bootTime_rsq _, State.bootTime_nec _, State.bootTime_pending _, hclk,
      fun ht hl => State.bootTime_lost ht hl, fun hl => State.bootTime_latch hl⟩
  · rw [exec_mainRailsGood_rises hc hg, if_pos hb]
    rfl
  · obtain ⟨hboard, hsafety⟩ := ((s.vinGone mv).latchCause 0x09 srcSaf).dropMain_sect false
    rw [State.latchCause_frame] at hboard hsafety ⊢
    exact ⟨rfl, rfl, rfl, ha, rfl, rfl, rfl, rfl, rfl, rfl, rfl, rfl, rfl, hboard, hsafety, rfl, rfl,
      fun harm => State.latchCause_armed _ _ harm⟩

end Sys2Proof.Machine

namespace Sys2Proof.Machine

/-! What a command leaves as it is. Every operation has its frame lemma (Laws/FrameFw, Laws/KeepsMemory, Laws/KeepsFuses), and a
meaning is a decision tree whose leaves are such operations. -/

/-- Whatever next state `o` answers, `g` reads in it what it reads in `s`. -/
def Leaves {β : Type} (g : State → β) (s : State) (o : Host.Outcome State Fault Refusal) : Prop := ∀ t, o = .next t → g t = g s

theorem leaves_next {β : Type} {g : State → β} {s t : State} (h : g t = g s) : Leaves g s (.next t) := by
  rintro _ ⟨⟩
  exact h

theorem leaves_ite {β : Type} {g : State → β} {s : State} {c : Prop} {_ : Decidable c} {a b : Host.Outcome State Fault Refusal}
    (ha : Leaves g s a) (hb : Leaves g s b) : Leaves g s (if c then a else b) := by
  split
  · exact ha
  · exact hb

/-- One condition under which the command acts: otherwise it leaves the whole state. -/
theorem leaves_guard {β : Type} {g : State → β} {s t : State} {c : Prop} {_ : Decidable c} (h : g t = g s) :
    Leaves g s (if c then .next t else .next s) :=
  leaves_ite (leaves_next h) (leaves_next rfl)

/-! Board memory and the firmware at once. -/

theorem leaves_both {s t : State} (hm : t.mem = s.mem) (hw : t.fw = s.fw) : Leaves (fun s => (s.mem, s.fw)) s (.next t) :=
  leaves_next (Prod.ext hm hw)

theorem leaves_both_guard {s t : State} {c : Prop} {_ : Decidable c} (hm : t.mem = s.mem) (hw : t.fw = s.fw) :
    Leaves (fun s => (s.mem, s.fw)) s (if c then .next t else .next s) :=
  leaves_guard (Prod.ext hm hw)

@[simp] theorem State.loseUpgrades_fw (s : State) (b : Nat) : (s.loseUpgrades b).fw = s.fw := rfl

/-! The meanings whose decision trees are too deep to split at once. -/

theorem execFlitReceive_leaves_both (port : Fin 8) (raw : Bytes) (s : State) :
    Leaves (fun s => (s.mem, s.fw)) s (execFlitReceive port raw s) := by
  unfold execFlitReceive
  extract_lets p x fl u v w b r t
  have hmem : w.mem = s.mem := by simp [w, v, u]
  have hfw : w.fw = s.fw := by simp [w, v, u]
  refine leaves_ite (leaves_next rfl) <| leaves_ite (leaves_both (by simp) (by simp)) <|
    leaves_ite (leaves_both (by simp) (by simp)) <| leaves_ite (leaves_both (by simp) (by simp)) <|
    leaves_ite (leaves_both (by simp) (by simp)) <| leaves_ite (leaves_both hmem hfw) (leaves_both ?_ ?_)
  · rw [ite_mem, State.sendIdle_mem, ite_self]
    exact (State.mapPort_mem ..).trans ((State.relay_mem ..).trans hmem)
  · rw [ite_fw, State.sendIdle_fw, ite_self]
    exact (State.mapPort_fw ..).trans ((State.relay_fw ..).trans hfw)

theorem execTelemetrySample_leaves_both (f : Part) (rdOff : Nat) (s : State) :
    Leaves (fun s => (s.mem, s.fw)) s (execTelemetrySample f rdOff s) := by
  unfold execTelemetrySample
  extract_lets u
  have hmem : u.mem = s.mem := by simp [u]
  have hfw : u.fw = s.fw := by simp [u]
  clear_value u
  split
  · exact leaves_both hmem hfw
  dsimp only
  refine leaves_ite (leaves_both hmem hfw) (leaves_ite (leaves_ite ?_ ?_) (leaves_both hmem hfw))
  · exact leaves_both hmem hfw
  · exact leaves_both ((State.event_mem ..).trans hmem) ((State.event_fw ..).trans hfw)

theorem execTrackerRunDone_leaves_fw (s : State) : Leaves State.fw s (execTrackerRunDone s) := by
  unfold execTrackerRunDone
  dsimp only
  split
  · split
    · refine leaves_ite (leaves_next rfl) (leaves_next ?_)
      simp only [State.jobDone_fw, State.mapStage_fw, State.putRecord_fw]
      rw [foldl_fw _ (fun s e => State.put_fw ..)]
      exact foldl_fw _ (fun s _ => State.note_fw ..) ..
    · exact leaves_next rfl
  · exact leaves_next rfl

theorem execThermalSample_leaves_fw (temp : Int) (power : Nat) (s : State) : Leaves State.fw s (execThermalSample temp power s) := by
  refine leaves_ite (leaves_next rfl) <| leaves_ite (leaves_next rfl) <| leaves_ite (leaves_next (by simp)) <|
    leaves_ite (leaves_next (by simp)) <| leaves_ite (leaves_next rfl) <| leaves_ite (leaves_next rfl) <|
      leaves_ite (leaves_ite (leaves_guard ?_) (leaves_next rfl)) (leaves_next rfl)
  rfl

/-- A command that neither list names leaves board memory and the firmware. The commands stand in the order of their shape: one
operation, one condition, a decision tree, a decision tree with an operation over a list, and those with a lemma of their own. -/
theorem exec_leaves_both (i : Instr) (s : State) (h : (mayChangeMemory i || mayChangeFirmware i) = false) :
    Leaves (fun s => (s.mem, s.fw)) s (exec i s) := by
  cases i with
  | perstNDeassert | recBegin | recRun | recProgram | recWinWrite | sqTailDoorbell | cqHeadDoorbell | queueEnable | queueDisable
  | hifDmaChunkEnd | scbStart | streamBeatDeliver | chainedDispatch | sequencedDispatch | messageLifetimeExpiry | loopModeClosed
  | loopModeHold | loopModeSoftware | dcoFreqWrite | todWrite | tmgStep | outputRealign | opkClaim | opkRotate | getVersion
  | getCapabilities | negotiateAlgorithms | getDigests | getCertificate | spdmChallenge | keyExchange | spdmHeartbeat
  | keyUpdate | endSession | getTdispVersion | getTdispCapabilities | pairEnable | pairFail | bgCtlWrite | brdRstNDeassert
  | sinHigh | retentionRecordUpdate =>
    exact leaves_both (by simp) (by simp)
  | lossLatchSet | vbatMeasurement | partitionResetDone | tileComplete | hopperIdleFlush | linkState | lanicyHeartbeat
  | lanicyHeartbeatSend | portDown | keyRenewalDue | keyNext | ptpSync | ptpAnnounce | ptpDelayResp | delayReqSend | delayReq
  | delayResp | inputActivityLoss | wtrExpiry | softwareTimeout | rootReclaim | lockInterfaceRequest | getDeviceInterfaceReport
  | startInterfaceRequest | stopInterfaceRequest | presenceResponse | lockstepMismatch | safWatchdogExpiry | escalationTimeout
  | safeOkServiceTimeout | canHeartbeat | sinLow | throttleStep | clockMonitorFault | voltageMonitorFault | coalesceSecondEnd
  | ledgerNorCopy | refresh | configurationRequest | smbusTransaction | deskewSequence =>
    exact leaves_both_guard (by simp) (by simp)
  | malformedBarAccess | descriptorFetch | commandEffectDone | completionPost | msiXCoalesceTimeout | nop | fence | fenceRelease
  | imageLoad | imageApplyImmediate | imageApplyFrame | imageApplySwitch | imageValidationDone | imageDrop | routeStart
  | msgSend | attReport | consent | ledgerRead | telemetryRing | engineMessageEnd | safetyCutIn | longPacket | pipeLineProcess
  | scbTransferDone | scbDataAccess | refineTileSlot | tastingRunEnd | budgetOverrun | deadlineMiss | slotOpen | slotCycleExpiry
  | caskBeatArrival | caskRowWrite | caskStallRelease | mmFeedEnd | localStoreEccError | snoopShare | snoopInv | lineShared
  | lineOwned | upgradeOk | writeDone | evictAck | msgReserve | msgGrant | advertisement | hello | linkUp | keyNextAck | ppsEdge
  | freqMeasurement | qualificationPeriodEnd | holdoverUpdate | ageingHour | outputPulseStart | outputPulseEnd | getEnrol
  | getMeasurements | spdmFinish | getDeviceInterfaceState | shareReq | presenceChallenge | pairSessionRenewal | consentExpiry
  | sinConfirmExpiry | selftestTest | staleWatchReceive | staleGap | epochCopyComplete | commitRecord | ledgerAppend | sramScrub
  | recalibration | refreshManagement | debugPortAccess =>
    dsimp only [exec, execMalformedBarAccess, execDescriptorFetch, execCommandEffectDone, execCompletionPost,
      execMsiXCoalesceTimeout, execNop, execFence, execFenceRelease, execImageLoad, execImageApplyImmediate, execImageApplyFrame,
      execImageApplySwitch, execImageValidationDone, execImageDrop, execRouteStart, execMsgSend, execAttReport, execConsent,
      execLedgerRead, execTelemetryRing, execEngineMessageEnd, execSafetyCutIn, execLongPacket, execPipeLineProcess,
      execScbTransferDone, execScbDataAccess, execRefineTileSlot, execTastingRunEnd, execBudgetOverrun, execDeadlineMiss,
      execSlotOpen, execSlotCycleExpiry, execCaskBeatArrival, execCaskRowWrite, execCaskStallRelease, execMmFeedEnd,
      execLocalStoreEccError, execSnoopShare, execSnoopInv, execLineShared, execLineOwned, execUpgradeOk, execWriteDone,
      execEvictAck, execMsgReserve, execMsgGrant, execAdvertisement, execHello, execLinkUp, execKeyNextAck, execPpsEdge,
      execFreqMeasurement, execQualificationPeriodEnd, execHoldoverUpdate, execAgeingHour, execOutputPulseStart,
      execOutputPulseEnd, execGetEnrol, execGetMeasurements, execSpdmFinish, execGetDeviceInterfaceState, execShareReq,
      execPresenceChallenge, execPairSessionRenewal, execConsentExpiry, execSinConfirmExpiry, execSelftestTest,
      execStaleWatchReceive, execStaleGap, execEpochCopyComplete, execCommitRecord, execLedgerAppend, execSramScrub,
      execRecalibration, execRefreshManagement, execDebugPortAccess]
    repeat' split
    all_goals exact leaves_both (by simp) (by simp)
  | routeChangeHoldExpiry | safMonitorCycle | selftestRotationEnd | frameEnd =>
    dsimp only [exec, execRouteChangeHoldExpiry, execSafMonitorCycle, execSelftestRotationEnd, execFrameEnd]
    repeat' split
    all_goals exact leaves_both (by simp [foldl_mem]) (by simp [foldl_fw])
  | flitReceive port raw => exact execFlitReceive_leaves_both port raw s
  | telemetrySample f rdOff => exact execTelemetrySample_leaves_both f rdOff s
  | _ => nomatch h

/-- A command that may change board memory alone leaves the firmware. -/
theorem exec_leaves_fw_of_memory (i : Instr) (s : State) (h : (mayChangeMemory i && !mayChangeFirmware i) = true) :
    Leaves State.fw s (exec i s) := by
  cases i with
  | frameApplySwap | streamCreditError | cwait | crd | cadv | cpush | clvl | dmai | dmao | dmaw | pub | necFence | necEnd
  | necNop | branch | loop | scalarArithmetic | vectorArithmetic | ideStreamLeaveSecure =>
    exact leaves_next (by simp)
  | bootDone | gtcSnapshotRead | vfFlr | switchCoherenceReleased | switchZeroFillDone | tileOverrun | readShared | readUnique
  | readNokeep | writeMerge | evictClean | evictDirty | snoopAck | snoopAckData | admitTenant | patrolRead =>
    exact leaves_guard (by simp)
  | mainPowerLoss | rcRegisterRead | immediateApplyInForce | routeStopAtBoundary | routeStopForce | dmaCopy | dmaFill
  | modelLoad | switchScrubDone | contextWindowExpiry | stageInputLine | coarsePublish | mashClose | detectorPublish | nodeEnd
  | frameRetire | engineFatalError | necDmaDone | mmDrainDone | illegalInstruction | cellarAccess | boardMemoryRead
  | boardMemoryWrite | cellarSramEccError | lineNokeep | denied | msgChunk | msgDone | e2eResendTimeout | ideKm | shareResp
  | quorumGatherTimeout | presenceCheck | hostReadCompletion =>
    dsimp only [exec, execMainPowerLoss, execRcRegisterRead, execImmediateApplyInForce, execRouteStopAtBoundary,
      execRouteStopForce, execDmaCopy, execDmaFill, execModelLoad, execSwitchScrubDone, execContextWindowExpiry,
      execStageInputLine, execCoarsePublish, execMashClose, execDetectorPublish, execNodeEnd, execFrameRetire,
      execEngineFatalError, execNecDmaDone, execMmDrainDone, execIllegalInstruction, execCellarAccess, execBoardMemoryRead,
      execBoardMemoryWrite, execCellarSramEccError, execLineNokeep, execDenied, execMsgChunk, execMsgDone, execE2eResendTimeout,
      execIdeKm, execShareResp, execQuorumGatherTimeout, execPresenceCheck, execHostReadCompletion]
    repeat' split
    all_goals exact leaves_next (by simp)
  | evictInFlight | switchDrainTimeout | switchRoutesStopped | frameStart | tenantSwitch | boardLost =>
    dsimp only [exec, execEvictInFlight, execSwitchDrainTimeout, execSwitchRoutesStopped, execFrameStart, execTenantSwitch,
      execBoardLost]
    repeat' split
    all_goals exact leaves_next (by simp [foldl_fw])
  | ldw | stw | lds | ldt | ldd | std | stc | mm | tile =>
    dsimp only [exec, execLdw, execStw, execLds, execLdt, execLdd, execStd, execStc, execMm, execTile]
    refine leaves_next (State.issue_fw _ _ _ _ _ _ fun x t => ?_)
    repeat' split
    all_goals simp
  | trackerRunDone => exact execTrackerRunDone_leaves_fw s
  | thermalSample temp power => exact execThermalSample_leaves_fw temp power s
  | _ => nomatch h

/-- A command that may change the firmware alone leaves board memory. -/
theorem exec_leaves_mem_of_firmware (i : Instr) (s : State) (h : (!mayChangeMemory i && mayChangeFirmware i) = true) :
    Leaves State.mem s (exec i s) := by
  cases i with
  | markTrial | commit | cancelTrial | burnSvn =>
    exact leaves_next (by simp)
  | mainConverterStart | mainRailsGood =>
    exact leaves_guard (by simp)
  | fwActionDone | recoveryProgramDone | flashWrite | calClear | secMboxDone | recoveryRunDone =>
    dsimp only [exec, execFwActionDone, execRecoveryProgramDone, execFlashWrite, execCalClear, execSecMboxDone,
      execRecoveryRunDone]
    repeat' split
    all_goals exact leaves_next (by simp)
  | _ => nomatch h

theorem exec_mem {i : Instr} {s t : State} (h : mayChangeMemory i = false) (ht : exec i s = .next t) : t.mem = s.mem := by
  cases hw : mayChangeFirmware i
  · exact congrArg Prod.fst (exec_leaves_both i s (by rw [h, hw]; rfl) t ht)
  · exact exec_leaves_mem_of_firmware i s (by rw [h, hw]; rfl) t ht

theorem exec_fw {i : Instr} {s t : State} (h : mayChangeFirmware i = false) (ht : exec i s = .next t) : t.fw = s.fw := by
  cases hm : mayChangeMemory i
  · exact congrArg Prod.snd (exec_leaves_both i s (by rw [h, hm]; rfl) t ht)
  · exact exec_leaves_fw_of_memory i s (by rw [h, hm]; rfl) t ht

/-- Settles O60: board memory is read from one part of the state, so equal memories read alike. -/
theorem framesOfMemoryAndFirmware : Obligations.FramesOfMemoryAndFirmware :=
  ⟨fun _ _ _ h ht => ⟨exec_mem h ht, fun _ _ => by rw [exec_mem h ht]⟩, fun _ _ _ h ht => exec_fw h ht⟩

end Sys2Proof.Machine

namespace Sys2Proof.Machine

/-! The SVN fuse counters (R99 to R102): only a burn writes them, at a boot that completes it or at its own end. -/

/-- Of the commands that may change the firmware, those that complete no burn leave the fuse counters. -/
theorem exec_leaves_svn {i : Instr} (s : State) (h : mayChangeFirmware i = true) (hstart : i ≠ .mainConverterStart)
    (hrails : i ≠ .mainRailsGood) (hend : i ≠ .fwActionDone) : Leaves (fun s => s.fw.svn) s (exec i s) := by
  cases i with
  | mainConverterStart => exact absurd rfl hstart
  | mainRailsGood => exact absurd rfl hrails
  | fwActionDone => exact absurd rfl hend
  | markTrial | commit | cancelTrial | burnSvn | coldReset | bootWatchdogExpiry =>
    exact leaves_next (by simp)
  | aux3v3Present | aux3v3Loss | mainPowerReturn | perstNAssert | brdRstNAssert | warmBoardReset | recoveryProgramDone
  | registerWrite | flashWrite | calClear | boardFatalError | secMboxDone | recoveryRunDone =>
    dsimp only [exec, execAux3v3Present, execAux3v3Loss, execMainPowerReturn, execPerstNAssert, execBrdRstNAssert,
      execWarmBoardReset, execRecoveryProgramDone, execRegisterWrite, execFlashWrite, execCalClear, execBoardFatalError,
      execSecMboxDone, execRecoveryRunDone]
    repeat' split
    all_goals exact leaves_next (by simp)
  | _ => nomatch h

theorem fwActionDone_rise {s t : State} (h : exec .fwActionDone s = .next t) : fusesRise s t := by
  dsimp only [exec, execFwActionDone] at h
  split at h
  · cases h
    exact rise_of_svn rfl
  next a c _ =>
    cases h
    cases a with
    | markTrial => exact rise_of_svn (State.endMarkTrial_svn ..)
    | commit => exact rise_of_svn (State.endCommit_svn ..)
    | cancelTrial => exact rise_of_svn (State.endCancelTrial_svn ..)
    | burnSvn => exact State.endBurn_rise { s with fw := { s.fw with busy := none } } c

theorem mainConverterStart_rise {s t : State} (h : exec .mainConverterStart s = .next t) : fusesRise s t := by
  dsimp only [exec, execMainConverterStart] at h
  split at h
  · cases h
    exact State.bootNow_rise { s with pwr := { s.pwr with converters := true } }
  · cases h
    exact rise_of_svn rfl

theorem mainRailsGood_rise {s t : State} (h : exec .mainRailsGood s = .next t) : fusesRise s t := by
  dsimp only [exec, execMainRailsGood] at h
  split at h
  · cases h
    split
    · exact s.railsUp.bootNow_rise
    · exact rise_of_svn s.railsUp.bootTime_svn
  · cases h
    exact rise_of_svn rfl

theorem exec_rise {i : Instr} {s t : State} (h : exec i s = .next t) : fusesRise s t := by
  cases hw : mayChangeFirmware i with
  | false => exact rise_of_svn (congrArg Fw.svn (exec_fw hw h))
  | true =>
    by_cases hstart : i = .mainConverterStart
    · exact mainConverterStart_rise (hstart ▸ h)
    by_cases hrails : i = .mainRailsGood
    · exact mainRailsGood_rise (hrails ▸ h)
    by_cases hend : i = .fwActionDone
    · exact fwActionDone_rise (hend ▸ h)
    exact rise_of_svn (exec_leaves_svn s hw hstart hrails hend t h)

theorem step_rise {s t : State} (h : step s = .next t) : fusesRise s t := by
  unfold step at h
  split at h
  next =>
    rw [← Host.Outcome.next.inj h]
    exact s.tick_rise
  next c rest _ => exact exec_rise (s := { s with pending := rest }) h

/-- Settles O56: a cycle of the clock and every command let the counters stand or raise them. -/
theorem fuseCountersNeverFall : Obligations.FuseCountersNeverFall := fun _ _ h => step_rise h

end Sys2Proof.Machine
namespace Sys2Proof.Machine

/-! The boot control record (R98): an entry that is written reads back, and the write changes the record alone. -/

theorem Fw.setCtl_ctl (w : Fw) (v : Vector BootCtl 4) : (w.setCtl v).ctl = { seq := w.ctl.seq + 1, crcOk := true, comp := v } := by
  unfold Fw.setCtl Fw.ctl
  split <;> simp_all

@[simp] theorem Fw.setEntry_entry (w : Fw) (c : Fin 4) (e : BootCtl) : (w.setEntry c e).entry c = e := by
  simp [Fw.entry, Fw.setEntry, Fw.setCtl_ctl, Vector.get_eq_getElem]

/-- A write of the boot control record changes one of its two copies. -/
theorem Fw.setEntry_frame (w : Fw) (c : Fin 4) (e : BootCtl) :
    w.setEntry c e = { w with copy0 := (w.setEntry c e).copy0, copy1 := (w.setEntry c e).copy1 } := by
  unfold Fw.setEntry Fw.setCtl
  dsimp only
  split <;> rfl

@[simp] theorem Fw.setEntry_busy (w : Fw) (c : Fin 4) (e : BootCtl) : (w.setEntry c e).busy = w.busy := by
  rw [w.setEntry_frame]

@[simp] theorem Fw.setEntry_code (w : Fw) (c : Fin 4) (e : BootCtl) : (w.setEntry c e).code = w.code := by
  rw [w.setEntry_frame]

/-! The end of a firmware action (R89, R90, R93, R94, R100, R101, R118): CODE, the entry of the component and the ledger. -/

/-- BUSY is clear. -/
def State.fwIdle (s : State) : State := { s with fw := { s.fw with busy := none } }

/-- The outcome of an action of MGT_FW_CTL. -/
def State.endAction (s : State) (a : FwAction) (c : Fin 4) : State :=
  match a with
  | .markTrial => s.endMarkTrial c
  | .commit => s.endCommit c
  | .cancelTrial => s.endCancelTrial c
  | .burnSvn => s.endBurn c

theorem exec_fwActionDone {s : State} {a : FwAction} {c : Fin 4} (h : s.fw.busy = some (a, c)) :
    exec .fwActionDone s = .next (s.fwIdle.endAction a c) := by
  cases a <;> simp [exec, execFwActionDone, h, State.fwIdle, State.endAction]

/-- MARK_TRIAL: a refusal names its CODE and leaves the boot control record; else the entry takes the mark and three attempts. -/
theorem State.endMarkTrial_spec (s : State) (c : Fin 4) : ∃ fw log, s.endMarkTrial c = { s with fw := fw, log := log } ∧
    fw.busy = s.fw.busy ∧ fw.svn = s.fw.svn ∧
    fw.code = (if (s.fw.entry c).trial then 3
      else if !Config.fwVerifies c (s.fw.image c (!(s.fw.entry c).active)) then 1
      else if (Config.fwSvn c (s.fw.image c (!(s.fw.entry c).active))).val < (s.fw.svn.get c).val then 2 else 0) ∧
    (fw.code = 0 → fw.entry c = { s.fw.entry c with trial := true, attempts := 3 }) ∧
    (fw.code ≠ 0 → fw.ctl = s.fw.ctl ∧ log = s.log) := by
  unfold State.endMarkTrial
  dsimp only
  split
  · exact ⟨_, _, rfl, rfl, rfl, rfl, fun h : (3 : BitVec 4) = 0 => absurd h (by decide), fun _ => ⟨rfl, rfl⟩⟩
  split
  · exact ⟨_, _, rfl, rfl, rfl, rfl, fun h : (1 : BitVec 4) = 0 => absurd h (by decide), fun _ => ⟨rfl, rfl⟩⟩
  unfold Fw.fuse
  split
  · exact ⟨_, _, rfl, rfl, rfl, rfl, fun h : (2 : BitVec 4) = 0 => absurd h (by decide), fun _ => ⟨rfl, rfl⟩⟩
  · exact ⟨_, _, rfl, Fw.setEntry_busy .., Fw.setEntry_svn .., rfl, fun _ => Fw.setEntry_entry .., fun h => absurd rfl h⟩

/-- COMMIT: from the active slot nothing changes; else the slot booted from becomes active and the mark goes. -/
theorem State.endCommit_spec (s : State) (c : Fin 4) : ∃ fw log, s.endCommit c = { s with fw := fw, log := log } ∧
    fw.busy = s.fw.busy ∧ fw.svn = s.fw.svn ∧ fw.code = 0 ∧ (fw.entry c).active = s.fw.slot.getLsbD c ∧
    (s.fw.slot.getLsbD c ≠ (s.fw.entry c).active → (fw.entry c).trial = false ∧ (fw.entry c).attempts = 0) ∧
    (s.fw.slot.getLsbD c = (s.fw.entry c).active → fw.ctl = s.fw.ctl ∧ log = s.log) := by
  unfold State.endCommit
  dsimp only
  split
  next h => exact ⟨_, _, rfl, rfl, rfl, rfl, h.symm, fun hne => absurd h hne, fun _ => ⟨rfl, rfl⟩⟩
  next h =>
    have hentry := s.fw.setEntry_entry c { s.fw.entry c with active := s.fw.slot.getLsbD c, trial := false, attempts := 0 }
    exact ⟨_, _, rfl, Fw.setEntry_busy .., Fw.setEntry_svn .., rfl, congrArg BootCtl.active hentry,
      fun _ => ⟨congrArg BootCtl.trial hentry, congrArg BootCtl.attempts hentry⟩, fun heq => absurd heq h⟩

/-- CANCEL_TRIAL: without a mark nothing changes; else the mark and its attempts go. -/
theorem State.endCancelTrial_spec (s : State) (c : Fin 4) : ∃ fw log, s.endCancelTrial c = { s with fw := fw, log := log } ∧
    fw.busy = s.fw.busy ∧ fw.svn = s.fw.svn ∧ fw.code = 0 ∧ (fw.entry c).trial = false ∧
    (fw.entry c).active = (s.fw.entry c).active ∧ ((s.fw.entry c).trial = true → (fw.entry c).attempts = 0) ∧
    ((s.fw.entry c).trial = false → fw.ctl = s.fw.ctl ∧ log = s.log) := by
  unfold State.endCancelTrial
  dsimp only
  split
  next h =>
    have hentry := s.fw.setEntry_entry c { s.fw.entry c with trial := false, attempts := 0 }
    exact ⟨_, _, rfl, Fw.setEntry_busy .., Fw.setEntry_svn .., rfl, congrArg BootCtl.trial hentry,
      (congrArg BootCtl.active hentry :), fun _ => congrArg BootCtl.attempts hentry, fun hno => by simp [h] at hno⟩
  next h =>
    have hno := Bool.eq_false_iff.2 h
    exact ⟨_, _, rfl, rfl, rfl, rfl, hno, rfl, fun hyes => absurd hyes h, fun _ => ⟨rfl, rfl⟩⟩

/-- BURN_SVN with a recorded target: the counter of the component rises to it and the record of the burn goes. -/
theorem State.endBurn_spec {s : State} {c : Fin 4} {n : Fin 64} (h : (s.fw.entry c).burn = some n.val) :
    ∃ fw log, s.endBurn c = { s with fw := fw, log := log } ∧ fw.busy = s.fw.busy ∧ fw.code = 0 ∧
      (fw.entry c).burn = none ∧ fw.svn = s.fw.svn.set c (max (s.fw.svn.get c) n) := by
  simp only [State.endBurn, h, dif_pos n.isLt]
  exact ⟨_, _, rfl, Fw.setEntry_busy .., Fw.setEntry_code .., congrArg BootCtl.burn (Fw.setEntry_entry ..), Fw.setEntry_svn ..⟩

/-- BURN_SVN without a recorded target, as with a trial mark (R101). -/
theorem State.endBurn_refused {s : State} {c : Fin 4} (h : (s.fw.entry c).burn = none) (ht : (s.fw.entry c).trial = true) :
    s.endBurn c = { s with fw := { s.fw with code := 3 } } := by
  simp [State.endBurn, h, ht]

/-- Settles O6: each action ends on the board that is no longer busy. -/
theorem firmwareActionsEnd : Obligations.FirmwareActionsEnd := by
  refine ⟨fun s c h => ?_, fun s c h => ?_, fun s c h => ?_, fun s c n h hburn => ?_, fun s c h hburn htrial => ?_⟩ <;>
    rw [exec_fwActionDone h]
  · obtain ⟨fw, log, heq, hrest⟩ := s.fwIdle.endMarkTrial_spec c
    exact ⟨fw, log, congrArg _ heq, hrest⟩
  · obtain ⟨fw, log, heq, hrest⟩ := s.fwIdle.endCommit_spec c
    exact ⟨fw, log, congrArg _ heq, hrest⟩
  · obtain ⟨fw, log, heq, hrest⟩ := s.fwIdle.endCancelTrial_spec c
    exact ⟨fw, log, congrArg _ heq, hrest⟩
  · obtain ⟨fw, log, heq, hrest⟩ := s.fwIdle.endBurn_spec hburn
    exact ⟨fw, log, congrArg _ heq, hrest⟩
  · exact congrArg _ (s.fwIdle.endBurn_refused hburn htrial)

end Sys2Proof.Machine

namespace Sys2Proof.Machine

/-! MGT_FW_CTL as it is written (R93, R94, R101, R102, R117, R118). -/

theorem fwActs_pf0 {w : U32} {action : Nat} (hkey : wbits w 31 16 = 0xF1A5) (hact : wbits w 2 0 = action) :
    fwActs 0 w action = true := by
  simp [fwActs, hkey, hact]

theorem State.takeFwAction_idle {s : State} (a : FwAction) (c : Fin 4) (h : s.fw.busy = none) :
    s.takeFwAction a c = { s with fw := { s.fw with busy := some (a, c) } } := by
  simp [State.takeFwAction, h]

/-- CODE 5: the action in progress runs on (R118). -/
theorem State.takeFwAction_busy {s : State} (a : FwAction) (c : Fin 4) (h : s.fw.busy.isSome = true) :
    s.takeFwAction a c = { s with fw := { s.fw with code := 5 } } :=
  if_pos h

theorem State.askMark_taken {s : State} {w : U32} (hw : fwActs 0 w 1 = true) (hr : s.top.ready = true) :
    s.askMark 0 w = s.takeFwAction .markTrial (compField w) := by
  simp [State.askMark, hw, hr]

theorem State.askCommit_taken {s : State} {w : U32} (hw : fwActs 0 w 2 = true) (hr : s.top.ready = true) :
    s.askCommit 0 w = s.takeFwAction .commit (compField w) := by
  simp [State.askCommit, hw, hr]

theorem State.askCancel_taken {s : State} {w : U32} (hw : fwActs 0 w 3 = true) (hr : s.top.ready = true) :
    s.askCancel 0 w = s.takeFwAction .cancelTrial (compField w) := by
  simp [State.askCancel, hw, hr]

/-- BURN_SVN while another action runs records no target. -/
theorem State.askBurn_busy {s : State} {w : U32} (hw : fwActs 0 w 4 = true) (hr : s.top.ready = true)
    (hb : s.fw.busy.isSome = true) : s.askBurn 0 w = s.takeFwAction .burnSvn (compField w) := by
  simp [State.askBurn, hw, hr, Option.isNone_eq_false_iff.2 hb]

/-- BURN_SVN of a component without a trial mark records its target before anything is burned (R102). -/
theorem State.askBurn_records {s : State} {w : U32} (hw : fwActs 0 w 4 = true) (hr : s.top.ready = true)
    (hb : s.fw.busy = none) (ht : (s.fw.entry (compField w)).trial = false) :
    s.askBurn 0 w = { s with
      fw := ({ s.fw with busy := some (.burnSvn, compField w) } : Fw).setEntry (compField w)
        { s.fw.entry (compField w) with
          burn := some (Config.fwSvn (compField w) (s.fw.image (compField w) (s.fw.entry (compField w)).active)).val } } := by
  simp [State.askBurn, hw, hr, hb, ht, State.takeFwAction]
  rfl

/-- CODE 4 (R118): COMMIT before READY. -/
theorem State.askCommit_unready {s : State} {w : U32} (hw : fwActs 0 w 2 = true) (hr : s.top.ready = false)
    (hrec : s.top.recovery = false) : s.askCommit 0 w = { s with fw := { s.fw with code := 4 } } := by
  simp [State.askCommit, hw, hr, hrec]

/-- CODE 4 (R118): CANCEL_TRIAL before READY. -/
theorem State.askCancel_unready {s : State} {w : U32} (hw : fwActs 0 w 3 = true) (hr : s.top.ready = false)
    (hrec : s.top.recovery = false) : s.askCancel 0 w = { s with fw := { s.fw with code := 4 } } := by
  simp [State.askCancel, hw, hr, hrec]

/-- Settles O5: an action with the key is taken on an idle board, answered with CODE 5 on a busy one and, where it needs READY, with
CODE 4 before it. -/
theorem firmwareActionsAreTaken : Obligations.FirmwareActionsAreTaken := by
  refine ⟨fun s w hkey hact hr hb => ?_, fun s w hkey hact hr hb => ?_, fun s w hkey hact hr hb => ?_,
    fun s w hkey hact hr hb ht => ⟨_, congrArg _ (State.askBurn_records (fwActs_pf0 hkey hact) hr hb ht), Fw.setEntry_busy ..,
      Fw.setEntry_svn .., Fw.setEntry_entry ..⟩,
    fun s w hkey hr hb => ⟨fun hact => ?_, fun hact => ?_, fun hact => ?_, fun hact => ?_⟩,
    fun s w hkey hr hrec => ⟨fun hact => congrArg _ (State.askCommit_unready (fwActs_pf0 hkey hact) hr hrec),
      fun hact => congrArg _ (State.askCancel_unready (fwActs_pf0 hkey hact) hr hrec)⟩⟩
  · exact congrArg _ ((State.askMark_taken (fwActs_pf0 hkey hact) hr).trans (State.takeFwAction_idle _ _ hb))
  · exact congrArg _ ((State.askCommit_taken (fwActs_pf0 hkey hact) hr).trans (State.takeFwAction_idle _ _ hb))
  · exact congrArg _ ((State.askCancel_taken (fwActs_pf0 hkey hact) hr).trans (State.takeFwAction_idle _ _ hb))
  · exact congrArg _ ((State.askMark_taken (fwActs_pf0 hkey hact) hr).trans (State.takeFwAction_busy _ _ hb))
  · exact congrArg _ ((State.askCommit_taken (fwActs_pf0 hkey hact) hr).trans (State.takeFwAction_busy _ _ hb))
  · exact congrArg _ ((State.askCancel_taken (fwActs_pf0 hkey hact) hr).trans (State.takeFwAction_busy _ _ hb))
  · exact congrArg _ ((State.askBurn_busy (fwActs_pf0 hkey hact) hr hb).trans (State.takeFwAction_busy _ _ hb))

end Sys2Proof.Machine

namespace Sys2Proof.Machine

/-! The recovery mailbox (R119, R120, Table 3-15). -/

theorem State.recActs_pf0 {s : State} {w : U32} {action : Nat} (hrec : s.top.recovery = true) (hkey : wbits w 31 16 = 0x5EC0)
    (hact : wbits w 2 0 = action) : s.recActs 0 w action = true := by
  simp [State.recActs, hrec, hkey, hact]

theorem State.askBegin_acts {s : State} {w : U32} (h : s.recActs 0 w 1 = true) : s.askBegin 0 w = { s with recov := { s.recov with
    st := .receiving, len := 0, win := [], comp := BitVec.ofNat 2 (wbits w 5 4), result := 0, running := false } } :=
  if_pos h

theorem State.fillWindow_stores {s : State} {off size : Nat} (v : U64) (hrec : s.top.recovery = true)
    (hst : s.recov.st = .receiving) (hsize : size = 4 ∨ size = 8) (halign : off % size = 0) (hlo : 0x800000 ≤ off)
    (hhi : off + size ≤ 0xC00000) : s.fillWindow 0 off size v =
      { s with recov := { s.recov with win := cellWrite 0 s.recov.win (off - 0x800000) (leBytes size v.toNat) } } := by
  simp [State.fillWindow, hrec, hst, hsize, halign, hlo, hhi]

/-- RUN of a buffer that is being received (R120): for COMP 0 with a length in range only. -/
theorem State.askRun_receiving {s : State} {w : U32} (h : s.recActs 0 w 2 = true) (hst : s.recov.st = .receiving) :
    s.askRun 0 w = { s with recov :=
      (if wbits w 5 4 ≠ 0 then { s.recov with comp := BitVec.ofNat 2 (wbits w 5 4), st := .failed, result := 5, running := false }
      else if 64 ≤ s.recov.len.toNat ∧ s.recov.len.toNat ≤ 1048576 then
        { s.recov with comp := 0, st := .verifying, result := 0, running := true }
      else { s.recov with comp := 0, st := .failed, result := 1, running := false }) } := by
  simp only [State.askRun, h, hst]
  by_cases hcomp : wbits w 5 4 = 0
  · by_cases hlen : 64 ≤ s.recov.len.toNat ∧ s.recov.len.toNat ≤ 1048576 <;>
      simp [hcomp, hlen, recLenOk, State.recFail]
  · simp [hcomp, State.recFail]

theorem compField_val (w : U32) : (compField w).val = wbits w 5 4 :=
  Nat.mod_eq_of_lt (Nat.mod_lt _ (by decide))

/-- PROGRAM of a buffer that is being received (R120): for COMP 0 and 1 with a length in range only. -/
theorem State.askProgram_receiving {s : State} {w : U32} (h : s.recActs 0 w 3 = true) (hst : s.recov.st = .receiving) :
    s.askProgram 0 w = { s with recov :=
      (if 1 < wbits w 5 4 then { s.recov with comp := BitVec.ofNat 2 (wbits w 5 4), st := .failed, result := 5, running := false }
      else if recLenOk (compField w) s.recov.len.toNat then
        { s.recov with comp := BitVec.ofNat 2 (wbits w 5 4), st := .verifying, result := 0, running := false }
      else { s.recov with comp := BitVec.ofNat 2 (wbits w 5 4), st := .failed, result := 1, running := false }) } := by
  simp only [State.askProgram, h, hst, compField_val]
  by_cases hcomp : 1 < wbits w 5 4
  · simp [hcomp, State.recFail]
  · by_cases hlen : recLenOk (wbits w 5 4) s.recov.len.toNat = true <;> simp [hcomp, hlen, State.recFail]

/-- The verification of a PROGRAM image ends with the RESULT of its check (R120). -/
theorem State.endVerify_rejects {s : State} {r : BitVec 4} (hrec : s.top.recovery = true) (hst : s.recov.st = .verifying)
    (hrun : s.recov.running = false) (hcheck : s.recCheck ⟨s.recov.comp.toNat, s.recov.comp.isLt⟩ = some r) :
    s.endVerify = s.recFail r := by
  unfold State.endVerify
  rw [if_pos (by simp [hrec, hst, hrun]), hcheck]

/-- The verification of a PROGRAM image that passes its check ends, and the image is being written (R120). -/
theorem State.endVerify_writes {s : State} (hrec : s.top.recovery = true) (hst : s.recov.st = .verifying)
    (hrun : s.recov.running = false) (hcheck : s.recCheck ⟨s.recov.comp.toNat, s.recov.comp.isLt⟩ = none) :
    s.endVerify = { s with recov := { s.recov with st := .writing } } := by
  unfold State.endVerify
  rw [if_pos (by simp [hrec, hst, hrun]), hcheck]

theorem exec_recoveryProgramDone_failed {s : State} (hrec : s.top.recovery = true) (hst : s.recov.st = .writing) :
    exec (.recoveryProgramDone false) s = .next (s.recFail 4) := by
  simp [exec, execRecoveryProgramDone, hrec, hst]

/-- The firmware after a PROGRAM that was written and read back: the image stands in slot A, which is active without a mark. -/
def Fw.programmed (w : Fw) (c : Fin 4) (img : Bytes) : Fw :=
  let u := { w with nor := cellWrite 0xFF w.nor (slotRange c false).1 (img.take (slotRange c false).2) }
  u.setEntry c { u.entry c with active := false, trial := false, attempts := 0 }

theorem exec_recoveryProgramDone_written {s : State} (hrec : s.top.recovery = true) (hst : s.recov.st = .writing) :
    exec (.recoveryProgramDone true) s = .next { s with
      fw := s.fw.programmed ⟨s.recov.comp.toNat, s.recov.comp.isLt⟩ s.recov.image
      recov := { s.recov with st := .idle, result := 0 } } := by
  simp [exec, execRecoveryProgramDone, hrec, hst, Fw.programmed]

/-! The boot that a RUN starts: it leaves the mailbox and the recovery state. -/

/-- The choice of a component's slot changes the firmware and the ledger alone. -/
theorem State.bootComponent_frame (s : State) (c : Fin 4) :
    (s.bootComponent c).1 = { s with fw := (s.bootComponent c).1.fw, log := (s.bootComponent c).1.log } := by
  have hdrop : ∃ fw log, s.dropTrial c = { s with fw := fw, log := log } := by
    unfold State.dropTrial
    dsimp only
    split
    · exact ⟨_, _, rfl⟩
    · exact ⟨_, _, rfl⟩
  obtain ⟨fw, log, heq⟩ := hdrop
  unfold State.bootComponent
  rw [heq]
  dsimp only
  (repeat' split) <;> rfl

@[simp] theorem State.bootComponent_recov (s : State) (c : Fin 4) : (s.bootComponent c).1.recov = s.recov := by
  rw [s.bootComponent_frame]

@[simp] theorem State.bootComponent_top (s : State) (c : Fin 4) : (s.bootComponent c).1.top = s.top := by
  rw [s.bootComponent_frame]

@[simp] theorem State.loadCal_recov (s : State) : s.loadCal.recov = s.recov := by
  unfold State.loadCal
  dsimp only
  split
  · rfl
  split
  · rw [foldl_keeps State.recov _ (fun _ _ => State.note_recov ..)]
  · rw [State.note_recov]

@[simp] theorem State.loadCal_top (s : State) : s.loadCal.top = s.top := by
  unfold State.loadCal
  dsimp only
  split
  · rfl
  split
  · rw [foldl_keeps State.top _ (fun _ _ => State.note_top ..)]
  · rw [State.note_top]

@[simp] theorem State.evalCompat_recov (s : State) : s.evalCompat.recov = s.recov := rfl

@[simp] theorem State.evalCompat_recovery (s : State) : s.evalCompat.top.recovery = s.top.recovery := rfl

/-- A RUN whose image fails its check (R120). -/
theorem exec_recoveryRunDone_rejects {s : State} {r : BitVec 4} (hrec : s.top.recovery = true) (hst : s.recov.st = .verifying)
    (hrun : s.recov.running = true) (hcheck : s.recCheck 0 = some r) : exec .recoveryRunDone s = .next (s.recFail r) := by
  unfold exec execRecoveryRunDone
  dsimp only
  rw [if_pos (by simp [hrec, hst, hrun]), hcheck]

/-- Stage-1 of a RUN starts at step 4 of Table 3-2: its image runs, and the board has left recovery. -/
def State.startStage1 (s : State) : State :=
  { s with
    fw := { s.fw with running := s.fw.running.set 0 s.recov.image }, recov := {}
    top := { s.top with recovery := false, recoveryAt := none, resetting := some s.top.lastReset } }

@[simp] theorem State.startStage1_svn (s : State) : s.startStage1.fw.svn = s.fw.svn := rfl

@[simp] theorem State.startStage1_recov (s : State) : s.startStage1.recov = {} := rfl

@[simp] theorem State.startStage1_recovery (s : State) : s.startStage1.top.recovery = false := rfl

@[simp] theorem State.startStage1_mem (s : State) : s.startStage1.mem = s.mem := rfl

@[simp] theorem State.startStage1_pending (s : State) : s.startStage1.pending = s.pending := rfl

/-- The rest of the boot with the management firmware up. -/
def State.bootSec (s : State) : State :=
  let t := s.bootComponent 3
  State.evalCompat (State.loadCal { t.1 with
    top := { t.1.top with mgtUp := true, bootBlocked := !t.2 }, pwr := { t.1.pwr with mainGoodAt := t.1.clk } })

/-- A RUN whose image passes its check starts it; without management firmware the board is back in recovery (R120). -/
theorem exec_recoveryRunDone_starts {s : State} (hrec : s.top.recovery = true) (hst : s.recov.st = .verifying)
    (hrun : s.recov.running = true) (hcheck : s.recCheck 0 = none) : exec .recoveryRunDone s =
      if !(s.startStage1.bootComponent 1).2 then .next ((s.startStage1.bootComponent 1).1.enterRecovery 2)
      else .next (s.startStage1.bootComponent 1).1.bootSec := by
  unfold exec execRecoveryRunDone
  dsimp only
  rw [if_pos (by simp [hrec, hst, hrun]), hcheck]
  rfl

@[simp] theorem State.bootSec_recov (s : State) : s.bootSec.recov = s.recov := by simp [State.bootSec]

@[simp] theorem State.bootSec_recovery (s : State) : s.bootSec.top.recovery = s.top.recovery := by simp [State.bootSec]

@[simp] theorem State.bootSec_svn (s : State) : s.bootSec.fw.svn = s.fw.svn := by simp [State.bootSec]

@[simp] theorem State.bootSec_mem (s : State) : s.bootSec.mem = s.mem := by simp [State.bootSec]

@[simp] theorem State.bootSec_pending (s : State) : s.bootSec.pending = s.pending := by simp [State.bootSec]

/-- Settles O7: each clause is the lemma above for its command. -/
theorem recoveryMailbox : Obligations.RecoveryMailbox := by
  refine ⟨fun s w hrec hkey hact => congrArg _ (State.askBegin_acts (State.recActs_pf0 hrec hkey hact)),
    fun s off size v hrec hst hsize halign hlo hhi =>
      congrArg _ (State.fillWindow_stores v hrec hst hsize halign hlo hhi),
    fun s w hrec hkey hact hst => congrArg _ (State.askRun_receiving (State.recActs_pf0 hrec hkey hact) hst),
    fun s w hrec hkey hact hst => congrArg _ (State.askProgram_receiving (State.recActs_pf0 hrec hkey hact) hst),
    fun s hrec hst hrun => ?_,
    fun s hrec hst => ⟨_, exec_recoveryProgramDone_written hrec hst, ?_⟩,
    fun s hrec hst => exec_recoveryProgramDone_failed hrec hst, fun s hrec hst hrun => ?_⟩
  · cases hcheck : s.recCheck ⟨s.recov.comp.toNat, s.recov.comp.isLt⟩ with
    | some r => exact State.endVerify_rejects hrec hst hrun hcheck
    | none => exact State.endVerify_writes hrec hst hrun hcheck
  · simp [Fw.programmed]
  · cases hcheck : s.recCheck 0 with
    | some r => exact ⟨_, exec_recoveryRunDone_rejects hrec hst hrun hcheck, rfl, rfl, rfl, rfl, rfl, rfl⟩
    | none =>
      rw [exec_recoveryRunDone_starts hrec hst hrun hcheck]
      split
      · exact ⟨_, rfl, by simp, by simp, by simp, rfl, fun _ => rfl⟩
      · exact ⟨_, rfl, by simp, by simp, by simp, by simp, by simp⟩

end Sys2Proof.Machine

namespace Sys2Proof.Machine

/-! The arbitrated engines (R150 to R157): what a piece's end makes of an engine on which no other job waits. -/

/-- A job that outlasts its piece goes on, as nothing else waits. -/
theorem Struct.endPiece_goesOn (t : Struct) {e : Engine} {j : Job} {n : Nat} (hcur : e.cur = some j) (hsaved : e.saved = none)
    (hwait : e.waiting = []) (hn : n < j.left) : t.endPiece e n = { e with
      cur := some { j with left := j.left - n }, service := aset e.service j.part (agetD e.service j.part 0 + n) } := by
  simp [Struct.endPiece, Struct.pick, Struct.nextJob, minBy, Engine.served, hcur, hsaved, hwait, Nat.not_le.2 hn,
    Nat.min_eq_left hn.le]

/-- A job that ends with its piece leaves the engine idle, as nothing else waits. -/
theorem Struct.endPiece_ends (t : Struct) {e : Engine} {j : Job} {n : Nat} (hcur : e.cur = some j) (hsaved : e.saved = none)
    (hwait : e.waiting = []) (hn : j.left ≤ n) : t.endPiece e n = { e with
      cur := none, service := aset e.service j.part (agetD e.service j.part 0 + j.left) } := by
  simp [Struct.endPiece, Struct.pick, Struct.nextJob, minBy, Engine.served, hcur, hsaved, hwait, hn]

/-- A safety-class job interrupts one that is not (R156). -/
theorem Engine.cutIn_interrupts {e : Engine} {k j : Job} (hcur : e.cur = some k) (hk : k.safety = false) (hsaved : e.saved = none)
    (hwait : e.waiting = [j]) (hj : j.safety = true) : e.cutIn = { e with cur := some j, saved := some k, waiting := [] } := by
  simp [Engine.cutIn, hcur, hk, hsaved, hwait, hj]

theorem exec_hifDmaChunkEnd (s : State) (e : Fin 8) : exec (.hifDmaChunkEnd e) s = .next { s with
    hif := { s.hif with dma := s.hif.dma.mapIdx fun i x => if i = e.val then s.struct.endPiece x 4096 else x } } := rfl

theorem exec_sealingMessageEnd (s : State) (n : Fin 4) : exec (.engineMessageEnd (.sealing n)) s = .next { s with
    hif := { s.hif with sealing := s.hif.sealing.mapIdx fun i x => if i = n.val then s.struct.endPiece x 16777216 else x } } := by
  simp [exec, execEngineMessageEnd]

/-- A message engine is done with a message of which no byte is left (R156). -/
theorem exec_messageEngineEnd {s : State} {n : Fin 8} {j : Job} (hcur : s.hif.message[n].cur = some j) (hleft : j.left = 0) :
    ∃ m, exec (.engineMessageEnd (.message n)) s = .next { s with hif := { s.hif with message := m } } ∧
      m[n] = s.struct.endPiece s.hif.message[n] 16777216 := by
  refine ⟨_, rfl, ?_⟩
  rw [Fin.getElem_fin] at hcur
  simp [hcur, hleft]

theorem exec_safetyCutIn_sealing (s : State) (n : Fin 4) : exec (.safetyCutIn (.sealing n)) s = .next { s with
    hif := { s.hif with sealing := s.hif.sealing.mapIdx fun i x => if i = n.val then x.cutIn else x } } := rfl

/-! The host services (R110, R114, R508, R695, R699). -/

theorem exec_msgSend_asks {s : State} {f : Part} {q : Fin 64} {c : Cmd} {a : Nat} (hf : s.front f q 0x32 = some c)
    (hp : s.place f c.addr0 c.length = .local_ a) (ht : c.target ≠ s.struct.boardId) : exec (.msgSend f q) s =
      .next (((s.setCmd f q c.pos fun c => { c with begun := true }).readLocal f a c.length).request
        ({ typ := 0x30, dest := c.target, part := f, data := leBytes 4 (c.param 0 4) ++ leBytes 4 c.length } : Msg)
        (some (f.val, q.val, c.pos))) := by
  have hboard : (State.readLocal (s.setCmd f q c.pos fun c => { c with begun := true }) f a c.length).struct = s.struct :=
    State.struct_of_sect (by simp)
  simp [exec, execMsgSend, hf, hp, hboard, ht]

/-- The whole of a list is its own slice. -/
theorem slice_length (b : Bytes) : slice b 0 b.length = b := by simp [slice]

theorem exec_flashWrite_slot {s : State} {f : Part} {q : Fin 64} {c : Cmd} {bs : Bytes} (hf : s.front f q 0x50 = some c)
    (ht : c.target ≠ 1) (hr : c.param 0 4 + c.length ≤ (s.fw.writable c.target).2) (hl : bs.length = c.length) :
    exec (.flashWrite f q (.data bs false) true) s = .next { s.underWay f q c.pos 0x00 0 srcMgt with
      fw := { s.fw with nor := cellWrite 0xFF s.fw.nor ((s.fw.writable c.target).1 + c.param 0 4) bs } } := by
  have hslice : slice bs 0 c.length = bs := hl ▸ slice_length bs
  simp [exec, execFlashWrite, hf, ht, Nat.not_lt.2 hr, hslice]

theorem exec_calClear_erases {s : State} {f : Part} {q : Fin 64} {c : Cmd} (hf : s.front f q 0x51 = some c) :
    exec (.calClear f q) s = .next (State.underWay { s with fw := { s.fw with nor := cellErase s.fw.nor 0x100000 0x100000 } }
      f q c.pos 0x00 0 srcMgt) := by
  simp [exec, execCalClear, hf]

theorem exec_ledgerRead_writes {s : State} {f : Part} {q : Fin 64} {c : Cmd} (hf : s.front f q 0x52 = some c)
    (hl : 128 ≤ c.length) (hmay : f.val ≠ 0 ∨ s.top.base ≠ .confidential ∨ bit (c.param 12 1) 1 = true) :
    exec (.ledgerRead f q) s = .next ((s.underWay f q c.pos 0x00 0 srcMgt).emit
      (.hostWrite f c.addr1 (s.ledgerBytes f c.length (c.param 0 8) (c.param 8 4) (c.param 12 1)) false)) := by
  have hopen : ¬(f = 0 ∧ s.top.base = .confidential ∧ bit (c.param 12 1) 1 = false) := by
    rintro ⟨rfl, hbase, hbit⟩
    simp [hbase, hbit] at hmay
  simp only [exec, execLedgerRead, hf, if_neg (Nat.not_lt.2 hl), if_neg hopen]

theorem exec_telemetryRing_empty {s : State} {f : Part} {q : Fin 64} {c : Cmd} (hf : s.front f q 0x53 = some c) :
    exec (.telemetryRing f q) s = .next (State.underWay { s with hif := { s.hif with fns := s.hif.fns.mapIdx fun i x =>
      if i = f.val then { x with ring := some { addr := c.addr1, size := c.length, sampledAt := s.bg.telAt } } else x } }
      f q c.pos 0x00 0 srcMgt) := by
  simp [exec, execTelemetryRing, hf]

@[simp] theorem State.underWay_fns (s : State) (f q pos status detail source : Nat) :
    (s.underWay f q pos status detail source).hif.fns = s.hif.fns := by
  simp [State.underWay, State.setCmd]

/-- Settles O23: each clause is the lemma above for its command, read at the engine or the function it names. -/
theorem enginesAndHostServices : Obligations.EnginesAndHostServices := by
  refine ⟨fun s e j hcur hsaved hwait hleft => ⟨_, exec_hifDmaChunkEnd s e, rfl, ?_, fun i hi => ?_⟩,
    fun s n j hcur hsaved hwait hleft => ⟨_, exec_sealingMessageEnd s n, rfl, ?_⟩,
    fun s n j hcur hsaved hwait hleft => ?_,
    fun s n k j hcur hk hsaved hwait hj => ⟨_, exec_safetyCutIn_sealing s n, rfl, ?_⟩,
    fun s f q c a hf hp ht => exec_msgSend_asks hf hp ht,
    fun s f q c bs hf ht hr hl => ⟨_, exec_flashWrite_slot hf ht hr hl, rfl⟩,
    fun s f q c hf => ⟨_, exec_calClear_erases hf, rfl⟩,
    fun s f q c hf hl hmay => ⟨_, exec_ledgerRead_writes hf hl hmay, rfl, rfl⟩,
    fun s f q c hf => ⟨_, exec_telemetryRing_empty hf, rfl, ?_, fun g hg => ?_⟩⟩
  · simpa using s.struct.endPiece_goesOn hcur hsaved hwait hleft
  · simp [Fin.val_ne_of_ne hi]
  · simpa using s.struct.endPiece_ends hcur hsaved hwait hleft
  · obtain ⟨m, hexec, hm⟩ := exec_messageEngineEnd hcur hleft
    refine ⟨_, hexec, rfl, hm.trans ?_⟩
    simpa [hleft] using s.struct.endPiece_ends hcur hsaved hwait (n := 16777216) (by omega)
  · simpa using Engine.cutIn_interrupts hcur hk hsaved hwait hj
  · simp
  · simp [Fin.val_ne_of_ne hg]

end Sys2Proof.Machine

namespace Sys2Proof.Machine

/-! The queue of waiting commands. Every operation leaves it (Laws/KeepsPending), so every meaning does, and a step takes away the
front command alone. -/

@[simp] theorem State.loseUpgrades_pending (s : State) (b : Nat) : (s.loseUpgrades b).pending = s.pending := rfl

theorem execFlitReceive_leaves_pending (port : Fin 8) (raw : Bytes) (s : State) :
    Leaves State.pending s (execFlitReceive port raw s) := by
  unfold execFlitReceive
  extract_lets p x fl u v w b r t
  have hw : w.pending = s.pending := by simp [w, v, u]
  refine leaves_ite (leaves_next rfl) <| leaves_ite (leaves_next (by simp)) <| leaves_ite (leaves_next (by simp)) <|
    leaves_ite (leaves_next (by simp)) <| leaves_ite (leaves_next (by simp)) <| leaves_ite (leaves_next hw) (leaves_next ?_)
  rw [ite_pending, State.sendIdle_pending, ite_self]
  exact (State.mapPort_pending ..).trans ((State.relay_pending ..).trans hw)

theorem execTelemetrySample_leaves_pending (f : Part) (rdOff : Nat) (s : State) :
    Leaves State.pending s (execTelemetrySample f rdOff s) := by
  unfold execTelemetrySample
  extract_lets u
  have hu : u.pending = s.pending := by simp [u]
  clear_value u
  split
  · exact leaves_next hu
  dsimp only
  refine leaves_ite (leaves_next hu) (leaves_ite (leaves_ite ?_ ?_) (leaves_next hu))
  · exact leaves_next hu
  · exact leaves_next ((State.event_pending ..).trans hu)

theorem execTrackerRunDone_leaves_pending (s : State) : Leaves State.pending s (execTrackerRunDone s) := by
  unfold execTrackerRunDone
  dsimp only
  split
  · split
    · refine leaves_ite (leaves_next rfl) (leaves_next ?_)
      simp only [State.jobDone_pending, State.mapStage_pending, State.putRecord_pending]
      rw [foldl_pending _ (fun s e => State.put_pending ..)]
      exact foldl_pending _ (fun s _ => State.note_pending ..) ..
    · exact leaves_next rfl
  · exact leaves_next rfl

theorem execThermalSample_leaves_pending (temp : Int) (power : Nat) (s : State) :
    Leaves State.pending s (execThermalSample temp power s) := by
  refine leaves_ite (leaves_next rfl) <| leaves_ite (leaves_next rfl) <| leaves_ite (leaves_next (by simp)) <|
    leaves_ite (leaves_next (by simp)) <| leaves_ite (leaves_next rfl) <| leaves_ite (leaves_next rfl) <|
      leaves_ite (leaves_ite (leaves_guard ?_) (leaves_next rfl)) (leaves_next rfl)
  rfl

/-- No command touches the queue of waiting commands. The commands stand in the order of their shape: one operation, an issued
instruction, one condition, a decision tree, one with an operation over a list, and those with a lemma of their own. -/
theorem exec_leaves_pending (i : Instr) (s : State) : Leaves State.pending s (exec i s) := by
  cases i with
  | perstNDeassert | coldReset | bootWatchdogExpiry | markTrial | commit | cancelTrial | burnSvn | recBegin | recRun
  | recProgram | recWinWrite | sqTailDoorbell | cqHeadDoorbell | queueEnable | queueDisable | frameApplySwap
  | hifDmaChunkEnd | scbStart | streamBeatDeliver | chainedDispatch | sequencedDispatch | streamCreditError | cwait | crd
  | cadv | cpush | clvl | dmai | dmao | dmaw | pub | necFence | tile | necEnd | necNop | branch | loop
  | scalarArithmetic | vectorArithmetic | messageLifetimeExpiry | loopModeClosed | loopModeHold | loopModeSoftware
  | dcoFreqWrite | todWrite | tmgStep | outputRealign | opkClaim | opkRotate | getVersion | getCapabilities
  | negotiateAlgorithms | getDigests | getCertificate | spdmChallenge | keyExchange | spdmHeartbeat | keyUpdate
  | endSession | getTdispVersion | getTdispCapabilities | ideStreamLeaveSecure | pairEnable | pairFail | bgCtlWrite
  | brdRstNDeassert | sinHigh | retentionRecordUpdate =>
    exact leaves_next (by simp)
  | ldw | stw | lds | ldt | ldd | std | stc | mm =>
    dsimp only [exec, execLdw, execStw, execLds, execLdt, execLdd, execStd, execStc, execMm]
    refine leaves_next (State.issue_pending _ _ _ _ _ _ fun x t => ?_)
    repeat' split
    all_goals simp
  | aux3v3Loss | mainConverterStart | mainRailsGood | bootDone | lossLatchSet | vbatMeasurement | gtcSnapshotRead | vfFlr
  | partitionResetDone | switchCoherenceReleased | switchZeroFillDone | tileComplete | hopperIdleFlush | tileOverrun
  | readShared | readUnique | readNokeep | writeMerge | evictClean | evictDirty | snoopAck | snoopAckData | linkState
  | lanicyHeartbeat | lanicyHeartbeatSend | portDown | keyRenewalDue | keyNext | ptpSync | ptpAnnounce | ptpDelayResp
  | delayReqSend | delayReq | delayResp | inputActivityLoss | wtrExpiry | softwareTimeout | rootReclaim | admitTenant
  | lockInterfaceRequest | getDeviceInterfaceReport | startInterfaceRequest | stopInterfaceRequest | presenceResponse
  | lockstepMismatch | safWatchdogExpiry | escalationTimeout | safeOkServiceTimeout | canHeartbeat | sinLow | throttleStep
  | clockMonitorFault | voltageMonitorFault | coalesceSecondEnd | ledgerNorCopy | patrolRead | refresh
  | configurationRequest | smbusTransaction | deskewSequence =>
    exact leaves_guard (by simp)
  | aux3v3Present | mainPowerLoss | warmBoardReset | fwActionDone | recoveryProgramDone | rcRegisterRead
  | malformedBarAccess | descriptorFetch | commandEffectDone | completionPost | msiXCoalesceTimeout | nop | fence
  | fenceRelease | imageLoad | imageApplyImmediate | imageApplyFrame | imageApplySwitch | imageValidationDone
  | immediateApplyInForce | imageDrop | routeStart | routeStopAtBoundary | routeStopForce | dmaCopy | dmaFill | msgSend
  | attReport | consent | switchScrubDone | flashWrite | calClear | ledgerRead | telemetryRing | engineMessageEnd
  | safetyCutIn | contextWindowExpiry | longPacket | pipeLineProcess | scbTransferDone | scbDataAccess | stageInputLine
  | refineTileSlot | mashClose | detectorPublish | tastingRunEnd | nodeEnd | frameRetire | budgetOverrun | deadlineMiss
  | slotOpen | slotCycleExpiry | engineFatalError | caskBeatArrival | caskRowWrite | caskStallRelease | necDmaDone
  | mmFeedEnd | mmDrainDone | localStoreEccError | cellarAccess | boardMemoryRead | boardMemoryWrite | snoopShare
  | snoopInv | lineShared | lineOwned | lineNokeep | upgradeOk | writeDone | evictAck | denied | msgReserve | msgGrant
  | msgChunk | msgDone | linkUp | keyNextAck | e2eResendTimeout | freqMeasurement | qualificationPeriodEnd
  | holdoverUpdate | ageingHour | outputPulseStart | outputPulseEnd | getEnrol | getMeasurements | spdmFinish
  | getDeviceInterfaceState | shareReq | shareResp | quorumGatherTimeout | presenceCheck | presenceChallenge
  | pairSessionRenewal | consentExpiry | sinConfirmExpiry | selftestTest | staleWatchReceive | staleGap
  | epochCopyComplete | commitRecord | hostReadCompletion | ledgerAppend | sramScrub | recalibration | refreshManagement
  | debugPortAccess | secMboxDone | recoveryRunDone | mainPowerReturn | perstNAssert | brdRstNAssert | registerWrite
  | illegalInstruction | advertisement | hello | ideKm =>
    dsimp only [exec, execAux3v3Present, execMainPowerLoss, execWarmBoardReset, execFwActionDone, execRecoveryProgramDone,
      execRcRegisterRead, execMalformedBarAccess, execDescriptorFetch, execCommandEffectDone, execCompletionPost,
      execMsiXCoalesceTimeout, execNop, execFence, execFenceRelease, execImageLoad, execImageApplyImmediate,
      execImageApplyFrame, execImageApplySwitch, execImageValidationDone, execImmediateApplyInForce, execImageDrop,
      execRouteStart, execRouteStopAtBoundary, execRouteStopForce, execDmaCopy, execDmaFill, execMsgSend, execAttReport,
      execConsent, execSwitchScrubDone, execFlashWrite, execCalClear, execLedgerRead, execTelemetryRing,
      execEngineMessageEnd, execSafetyCutIn, execContextWindowExpiry, execLongPacket, execPipeLineProcess,
      execScbTransferDone, execScbDataAccess, execStageInputLine, execRefineTileSlot, execMashClose, execDetectorPublish,
      execTastingRunEnd, execNodeEnd, execFrameRetire, execBudgetOverrun, execDeadlineMiss, execSlotOpen,
      execSlotCycleExpiry, execEngineFatalError, execCaskBeatArrival, execCaskRowWrite, execCaskStallRelease,
      execNecDmaDone, execMmFeedEnd, execMmDrainDone, execLocalStoreEccError, execCellarAccess, execBoardMemoryRead,
      execBoardMemoryWrite, execSnoopShare, execSnoopInv, execLineShared, execLineOwned, execLineNokeep, execUpgradeOk,
      execWriteDone, execEvictAck, execDenied, execMsgReserve, execMsgGrant, execMsgChunk, execMsgDone, execLinkUp,
      execKeyNextAck, execE2eResendTimeout, execFreqMeasurement, execQualificationPeriodEnd, execHoldoverUpdate,
      execAgeingHour, execOutputPulseStart, execOutputPulseEnd, execGetEnrol, execGetMeasurements, execSpdmFinish,
      execGetDeviceInterfaceState, execShareReq, execShareResp, execQuorumGatherTimeout, execPresenceCheck,
      execPresenceChallenge, execPairSessionRenewal, execConsentExpiry, execSinConfirmExpiry, execSelftestTest,
      execStaleWatchReceive, execStaleGap, execEpochCopyComplete, execCommitRecord, execHostReadCompletion,
      execLedgerAppend, execSramScrub, execRecalibration, execRefreshManagement, execDebugPortAccess, execSecMboxDone,
      execRecoveryRunDone, execMainPowerReturn, execPerstNAssert, execBrdRstNAssert, execRegisterWrite,
      execIllegalInstruction, execAdvertisement, execHello, execIdeKm]
    repeat' split
    all_goals exact leaves_next (by simp)
  | tenantSwitch | switchDrainTimeout | frameStart | frameEnd | routeChangeHoldExpiry | selftestRotationEnd
  | evictInFlight | switchRoutesStopped | safMonitorCycle | boardFatalError | modelLoad | coarsePublish
  | cellarSramEccError | boardLost | ppsEdge =>
    dsimp only [exec, execTenantSwitch, execSwitchDrainTimeout, execFrameStart, execFrameEnd, execRouteChangeHoldExpiry,
      execSelftestRotationEnd, execEvictInFlight, execSwitchRoutesStopped, execSafMonitorCycle, execBoardFatalError,
      execModelLoad, execCoarsePublish, execCellarSramEccError, execBoardLost, execPpsEdge]
    repeat' split
    all_goals exact leaves_next (by simp [foldl_pending])
  | flitReceive port raw => exact execFlitReceive_leaves_pending port raw s
  | thermalSample temp power => exact execThermalSample_leaves_pending temp power s
  | telemetrySample f rdOff => exact execTelemetrySample_leaves_pending f rdOff s
  | trackerRunDone => exact execTrackerRunDone_leaves_pending s

/-- The step takes the front command off before its meaning runs; on an empty queue a cycle of the clock passes. -/
theorem step_pending {s t : State} (h : step s = .next t) : t.pending = s.pending.tail := by
  unfold step at h
  split at h
  next hq =>
    obtain rfl := Host.Outcome.next.inj h
    simp [State.tick, hq]
  next c rest hq => rw [exec_leaves_pending c { s with pending := rest } t h, hq, List.tail_cons]

/-- Settles O55: the meanings of the commands leave the queue, and the step takes its front. -/
theorem queueConsumedInOrder : Obligations.QueueConsumedInOrder := fun _ _ h => step_pending h

end Sys2Proof.Machine

namespace Sys2Proof.Machine

/-! Host queues: what a write of a queue, a halt, a posted entry and the end of a drain leave. -/

/-- Of two settings of one key the later stands. -/
theorem aset_aset {α : Type} (l : List (Nat × α)) (k : Nat) (v w : α) : aset (aset l k v) k w = aset l k w := by
  induction l with
  | nil => simp [aset]
  | cons p t ih =>
    obtain ⟨a, u⟩ := p
    rcases Nat.lt_trichotomy k a with h | h | h
    · simp [aset, h]
    · simp [aset, h]
    · simp [aset, Nat.not_lt.2 h.le, h.ne', ih]

@[simp] theorem State.setQueue_setQueue (s : State) (f q : Nat) (x y : Queue) :
    (s.setQueue f q x).setQueue f q y = s.setQueue f q y := by
  simp [State.setQueue, aset_aset]

theorem State.otherQueues_setQueue (s : State) (f q : Nat) (x : Queue) : s.otherQueues (s.setQueue f q x) f q :=
  fun f' q' h => s.queue_setQueue_other f q f' q' x h

/-- The cause bit of an event's class is set. -/
theorem State.event_cause (s : State) (f : Part) (c source : Nat) :
    (s.event f c source).hif.fns[f].cause = s.hif.fns[f].cause ||| (1 <<< c) := by
  simp [State.event]

/-- A halt touches the host interface alone. -/
theorem State.halt_frame (s : State) (f q error : Nat) : s.halt f q error = { s with hif := (s.halt f q error).hif } := by
  unfold State.halt
  rw [State.event_frame]
  rfl

@[simp] theorem State.halt_queue (s : State) (f q error : Nat) :
    (s.halt f q error).queue f q = { s.queue f q with st := .halted, error := error } := by
  simp [State.halt]

theorem State.halt_other (s : State) (f q error : Nat) : s.otherQueues (s.halt f q error) f q := fun f' q' h => by
  rw [State.halt, State.event_queue, State.queue_setQueue_other _ _ _ _ _ _ h]

/-- A halted queue raises event class 4 (Table 4-6). -/
theorem State.halt_cause (s : State) (f : Part) (q error : Nat) :
    (s.halt f q error).hif.fns[f].cause = s.hif.fns[f].cause ||| 16 :=
  State.event_cause ..

/-- While ENABLE is set no queue falls DISABLED. -/
theorem State.settle_enabled {s : State} {f q : Nat} (h : (s.queue f q).enable = true) : s.settle f q = s := by
  simp [State.settle, h]

/-- A queue that posts no aborted completions has none to go on with. -/
theorem State.postAborts_idle {s : State} {f q : Nat} (n : Nat) (h : (s.queue f q).st ≠ .postingAborts) :
    s.postAborts f q n = s := by
  cases n with
  | zero => rfl
  | succ n => simp [State.postAborts, h]

/-! Doorbells (R126, R127) and Q_CTL writes (R160 to R162). -/

theorem State.ringTail_moves {s : State} {f : Part} {q : Fin 64} {i : BitVec 16} (ha : s.queueAccess f q = true)
    (he : (s.queue f q).enable = true) (hst : (s.queue f q).st = .running) (hi : i.toNat < (s.queue f q).ring) :
    s.ringTail f q i = s.setQueue f q { s.queue f q with
      sqTail := i.toNat
      rung := (s.queue f q).rung + (i.toNat + (s.queue f q).ring - (s.queue f q).sqTail) % (s.queue f q).ring } := by
  simp [State.ringTail, ha, he, hst, Nat.not_le.2 hi]

theorem State.ringTail_halts {s : State} {f : Part} {q : Fin 64} {i : BitVec 16} (ha : s.queueAccess f q = true)
    (he : (s.queue f q).enable = true) (hst : (s.queue f q).st = .running) (hi : (s.queue f q).ring ≤ i.toNat) :
    s.ringTail f q i = s.halt f q 1 := by
  simp [State.ringTail, ha, he, hst, hi]

theorem State.ringHead_moves {s : State} {f : Part} {q : Fin 64} {i : BitVec 16} (ha : s.queueAccess f q = true)
    (hst : (s.queue f q).st = .running) (hi : i.toNat < (s.queue f q).ring) :
    s.ringHead f q i = s.setQueue f q { s.queue f q with cqHead := i.toNat } := by
  have hact : ¬(!s.queueAccess f q || (s.queue f q).st = .disabled || (s.queue f q).ring ≤ i.toNat) = true := by
    simp [ha, hst, hi]
  rw [State.ringHead, if_neg hact, State.postAborts_idle _ (by simp [hst])]

/-- SAFETY stays clear where the write leaves it clear. -/
@[simp] theorem State.safetyBit_clear (s : State) (f : Nat) (old : Bool) : s.safetyBit f old false = false := rfl

theorem State.turnOn_starts {s : State} {f : Part} {q : Fin 64} {w : U32} (ha : s.queueAccess f q = true)
    (hw : w.getLsbD 31 = true) (hsize : wbits w 3 0 ≤ 12) (hsafe : w.getLsbD 30 = false)
    (he : (s.queue f q).enable = false) (hst : (s.queue f q).st = .disabled) (hab : (s.queue f q).aborts = []) :
    s.turnOn f q w = s.setQueue f q { s.queue f q with
      enable := true, safety := false, vector := BitVec.ofNat 6 (wbits w 21 16), sizeLog2 := wbits w 3 0, error := 0
      st := .running, e := (s.queue f q).seqInit, accepted := 0, sqHead := 0, sqTail := 0, cqHead := 0, cqTail := 0
      phase := true, cmds := [], fetched := (s.queue f q).rung, posted := (s.queue f q).rung, hist := []
      coalPosted := 0, coalSince := none } := by
  simp [-BitVec.getLsbD_eq_getElem, State.turnOn, ha, hw, Nat.not_lt.2 hsize, hsafe, he, hst, hab, State.postAborts]

/-- With ENABLE cleared a queue with nothing fetched is DISABLED at once (R160). -/
theorem State.turnOff_stops {s : State} {f : Part} {q : Fin 64} {w : U32} (ha : s.queueAccess f q = true)
    (hw : w.getLsbD 31 = false) (hsize : wbits w 3 0 ≤ 12) (hsafe : w.getLsbD 30 = false)
    (he : (s.queue f q).enable = true) : s.turnOff f q w = s.setQueue f q { s.queue f q with
      enable := false, safety := false, vector := BitVec.ofNat 6 (wbits w 21 16)
      st := if (s.queue f q).cmds.isEmpty then .disabled else (s.queue f q).st } := by
  cases hc : (s.queue f q).cmds <;>
    simp [-BitVec.getLsbD_eq_getElem, State.turnOff, State.settle, ha, hw, Nat.not_lt.2 hsize, hsafe, he, hc]

/-- Settles O8: each clause is the lemma above for its write. -/
theorem doorbellsAndQueueControl : Obligations.DoorbellsAndQueueControl :=
  ⟨fun _ _ _ _ ha he hst hi => congrArg Host.Outcome.next (State.ringTail_moves ha he hst hi),
    fun s f q _ ha he hst hi => ⟨_, congrArg Host.Outcome.next (State.ringTail_halts ha he hst hi), s.halt_frame f q 1,
      s.halt_other f q 1, s.halt_queue f q 1, s.halt_cause f q 1⟩,
    fun _ _ _ _ ha hst hi => congrArg Host.Outcome.next (State.ringHead_moves ha hst hi),
    fun _ _ _ _ ha hw hsize hsafe he hst hab => congrArg Host.Outcome.next (State.turnOn_starts ha hw hsize hsafe he hst hab),
    fun s f q _ ha hw hsize hsafe he => ⟨_, congrArg Host.Outcome.next (State.turnOff_stops ha hw hsize hsafe he), rfl,
      s.otherQueues_setQueue f q _, rfl, s.queue_setQueue_same f q _⟩⟩

end Sys2Proof.Machine

namespace Sys2Proof.Machine

/-! The fetch of a descriptor (R123, R681), the posting of a completion (R133, R134, R682) and the coalescing time (R149). -/

theorem exec_descriptorFetch_takes {s : State} {f : Part} {q : Fin 64} (b : Bytes) (h : s.mayFetch f q = true) :
    exec (.descriptorFetch f q (some b) false) s = .next (s.takeDescriptor f q (slice b 0 64)) := by
  simp [exec, execDescriptorFetch, h]

theorem exec_descriptorFetch_halts {s : State} {f : Part} {q : Fin 64} {b : Option Bytes} {ep : Bool} (h : s.mayFetch f q = true)
    (hb : b = none ∨ ep = true) : exec (.descriptorFetch f q b ep) s = .next (s.halt f q 2) := by
  cases b with
  | none => simp [exec, execDescriptorFetch, h]
  | some b =>
    obtain rfl : ep = true := hb.resolve_left (Option.some_ne_none b)
    simp [exec, execDescriptorFetch, h]

/-- A completion entry goes out at the CQ tail, and the tail moves on by one (R124, R134). -/
theorem State.postEntry_setQueue (s : State) (f q : Nat) (x : Queue) (seq status detail source : Nat) :
    (s.setQueue f q x).postEntry f q seq status detail source = (s.setQueue f q { x with
        cqTail := if x.cqTail + 1 = x.ring then 0 else x.cqTail + 1
        phase := if x.cqTail + 1 = x.ring then !x.phase else x.phase }).emit
      (.completion f q (x.cqBase.toNat + 16 * x.cqTail) (completionEntry s.gtcNs seq status detail source x.phase)) := by
  simp only [State.postEntry, State.queue_setQueue_same, State.setQueue_setQueue]
  rfl

theorem Queue.postStatus_execute (x : Queue) (f : Nat) {c : Cmd} (histOk : Bool) (hk : c.kind = .execute) :
    x.postStatus f c histOk = c.outcome.getD (0, 0, srcPart f) := by
  simp [Queue.postStatus, hk]

/-- The oldest command, fixed, posts its entry; with NO_IRQ nothing is raised. -/
theorem exec_completionPost_quiet {s : State} {f : Part} {q : Fin 64} {c : Cmd} {rest : List Cmd}
    (hc : (s.queue f q).cmds = c :: rest) (hfix : c.fixed = true) (hk : c.kind = .execute) (hq : bit c.flags 0 = true)
    (herr : (s.queue f q).error ≠ 3) (he : (s.queue f q).enable = true) :
    exec (.completionPost f q true true) s = .next ((s.setQueue f q { s.queue f q with
        cmds := rest, posted := (s.queue f q).posted + 1
        cqTail := if (s.queue f q).cqTail + 1 = (s.queue f q).ring then 0 else (s.queue f q).cqTail + 1
        phase := if (s.queue f q).cqTail + 1 = (s.queue f q).ring then !(s.queue f q).phase else (s.queue f q).phase }).emit
      (.completion f q ((s.queue f q).cqBase.toNat + 16 * (s.queue f q).cqTail)
        (completionEntry s.gtcNs c.seq (c.outcome.getD (0, 0, srcPart f)).1 (c.outcome.getD (0, 0, srcPart f)).2.1
          (c.outcome.getD (0, 0, srcPart f)).2.2 (s.queue f q).phase))) := by
  simp only [exec, execCompletionPost, hc, hfix, hq, herr, Queue.postStatus_execute _ _ _ hk, Bool.not_true, Bool.false_eq_true,
    if_false, if_true, Bool.false_and]
  rw [State.postEntry_setQueue, State.settle_enabled (by simp [he])]
  rfl

/-- An entry write that fails halts the queue with ERROR 3 (R682). -/
theorem exec_completionPost_failed {s : State} {f : Part} {q : Fin 64} {c : Cmd} {rest : List Cmd}
    (hc : (s.queue f q).cmds = c :: rest) (hfix : c.fixed = true) (herr : (s.queue f q).error ≠ 3)
    (he : (s.queue f q).enable = true) : exec (.completionPost f q false true) s = .next (State.halt
      (s.setQueue f q { s.queue f q with cmds := rest, posted := (s.queue f q).posted + 1 }) f q 3) := by
  simp only [exec, execCompletionPost, hc, hfix, herr, Bool.not_true, Bool.not_false, Bool.false_eq_true, if_false, if_true]
  rw [State.settle_enabled (by simp [he])]

theorem exec_msiXCoalesceTimeout_raises {s : State} {f : Part} {q : Fin 64} {c : Nat} (hc : (s.queue f q).coalSince = some c)
    (ht : 0 < (s.queue f q).coalTime) (hd : c + usTicks (s.queue f q).coalTime ≤ s.clk) :
    exec (.msiXCoalesceTimeout f q) s = .next ((s.setQueue f q { s.queue f q with coalPosted := 0, coalSince := none }).emit
      (.msix f (s.queue f q).vector.toNat)) := by
  simp [exec, execMsiXCoalesceTimeout, hc, ht, State.due, hd]

/-- Settles O9: each clause is the lemma above for its command. -/
theorem descriptorFetchAndPosting : Obligations.DescriptorFetchAndPosting := by
  refine ⟨fun s f q b h => exec_descriptorFetch_takes b h,
    fun s f q b ep h hb => ⟨_, exec_descriptorFetch_halts h hb, s.halt_frame f q 2, s.halt_other f q 2, s.halt_queue f q 2⟩,
    fun s f q c rest hc hfix hk hq herr he => ⟨_, exec_completionPost_quiet hc hfix hk hq herr he, rfl,
      s.otherQueues_setQueue f q _, s.queue_setQueue_same f q _, rfl⟩,
    fun s f q c rest hc hfix herr he => ⟨_, exec_completionPost_failed hc hfix herr he, ?_, fun f' q' h => ?_, ?_⟩,
    fun s f q c hc ht hd => exec_msiXCoalesceTimeout_raises hc ht hd⟩
  · rw [State.halt_frame]
    rfl
  · rw [State.halt_other _ f q 3 f' q' h, State.queue_setQueue_other _ _ _ _ _ _ h]
  · simp

end Sys2Proof.Machine

namespace Sys2Proof.Machine

/-! What becomes of a fetched descriptor (R128, Table 4-2). -/

/-- A queue with one more fetched command. -/
def Queue.fetch (x : Queue) (c : Cmd) : Queue :=
  { x with sqHead := (x.sqHead + 1) % x.ring, fetched := x.fetched + 1, cmds := x.cmds ++ [c] }

/-- A queue that accepts its next command as Table 4-2's first row says. -/
def Queue.accept (x : Queue) (c : Cmd) : Queue := { x.fetch c with e := x.e + 1, accepted := x.accepted + 1 }

/-- The command of an executed descriptor: a FENCE takes the doorbells' marks with it (R138). -/
def State.newCmd (s : State) (f q : Nat) (d : Bytes) : Cmd :=
  { desc := d, pos := (s.queue f q).fetched + 1, waits := if byteAt d 0 = 0x01 then s.fenceWaits f q (field d 32 8) else [] }

/-- The command of a repeated descriptor: it is not executed. -/
def State.repeatCmd (s : State) (f q : Nat) (d : Bytes) : Cmd :=
  { desc := d, kind := .duplicate, begun := true, fixed := true, pos := (s.queue f q).fetched + 1 }

/-- The command of a stale descriptor: it is not executed. -/
def State.staleCmd (s : State) (f q : Nat) (d : Bytes) : Cmd :=
  { desc := d, kind := .stale, begun := true, outcome := some (0x02, 0, srcPart f), fixed := true
    pos := (s.queue f q).fetched + 1 }

theorem State.queue_fetch (s : State) (f q : Nat) (c : Cmd) : (s.setQueue f q ((s.queue f q).fetch c)).queue f q =
    { s.queue f q with
      sqHead := ((s.queue f q).sqHead + 1) % (s.queue f q).ring, fetched := (s.queue f q).fetched + 1
      cmds := (s.queue f q).cmds ++ [c] } :=
  s.queue_setQueue_same f q _

theorem State.queue_accept (s : State) (f q : Nat) (c : Cmd) : (s.setQueue f q ((s.queue f q).accept c)).queue f q =
    { s.queue f q with
      sqHead := ((s.queue f q).sqHead + 1) % (s.queue f q).ring, fetched := (s.queue f q).fetched + 1
      cmds := (s.queue f q).cmds ++ [c], e := (s.queue f q).e + 1, accepted := (s.queue f q).accepted + 1 } :=
  s.queue_setQueue_same f q _

/-- The static checks read SAFETY of the queue and nothing else of it (R143 to R146). -/
theorem State.descCheck_setQueue (s : State) {f q : Nat} {x : Queue} (d : Bytes) (h : x.safety = (s.queue f q).safety) :
    (s.setQueue f q x).descCheck f q d = s.descCheck f q d := by
  unfold State.descCheck
  rw [State.queue_setQueue_same, h]
  rfl

section
variable {s : State} {f q : Nat} {d : Bytes}

theorem Queue.sort_execute {x : Queue} {seq : U32} (h : seq = x.e) : x.sort seq = .execute := by
  simp [Queue.sort, h]

theorem Queue.sort_duplicate {x : Queue} {seq : U32} (h : seq ≠ x.e) (hd : (x.e - 1 - seq).toNat < min 65536 x.accepted) :
    x.sort seq = .duplicate := by
  simp only [Queue.sort, if_neg h, if_pos hd]

theorem Queue.sort_stale {x : Queue} {seq : U32} (h : seq ≠ x.e) (hd : min 65536 x.accepted ≤ (x.e - 1 - seq).toNat) :
    x.sort seq = .stale := by
  simp only [Queue.sort, if_neg h, if_neg (Nat.not_lt.2 hd)]

theorem State.takeDescriptor_accepts (ht : s.tagChecks f q d = true) (he : BitVec.ofNat 32 (field d 4 4) = (s.queue f q).e)
    (hc : s.descCheck f q d = none) : s.takeDescriptor f q d = s.setQueue f q ((s.queue f q).accept (s.newCmd f q d)) := by
  simp [State.takeDescriptor, ht, Queue.sort_execute, he, State.descCheck_setQueue, hc]
  rfl

theorem State.takeDescriptor_refuses {x : Nat} (ht : s.tagChecks f q d = true)
    (he : BitVec.ofNat 32 (field d 4 4) = (s.queue f q).e) (hc : s.descCheck f q d = some x) :
    s.takeDescriptor f q d =
      (s.setQueue f q ((s.queue f q).accept (s.newCmd f q d))).refuse f q ((s.queue f q).fetched + 1) x := by
  simp [State.takeDescriptor, ht, Queue.sort_execute, he, State.descCheck_setQueue, hc]
  rfl

theorem State.takeDescriptor_repeats (ht : s.tagChecks f q d = true) (he : BitVec.ofNat 32 (field d 4 4) ≠ (s.queue f q).e)
    (hd : ((s.queue f q).e - 1 - BitVec.ofNat 32 (field d 4 4)).toNat < min 65536 (s.queue f q).accepted) :
    s.takeDescriptor f q d = s.setQueue f q ((s.queue f q).fetch (s.repeatCmd f q d)) := by
  have hsort := Queue.sort_duplicate (x := { s.queue f q with
    sqHead := ((s.queue f q).sqHead + 1) % (s.queue f q).ring, fetched := (s.queue f q).fetched + 1 }) he hd
  simp only [State.takeDescriptor, ht, hsort]
  rfl

theorem State.takeDescriptor_stale (ht : s.tagChecks f q d = true) (he : BitVec.ofNat 32 (field d 4 4) ≠ (s.queue f q).e)
    (hd : min 65536 (s.queue f q).accepted ≤ ((s.queue f q).e - 1 - BitVec.ofNat 32 (field d 4 4)).toNat) :
    s.takeDescriptor f q d = s.setQueue f q ((s.queue f q).fetch (s.staleCmd f q d)) := by
  have hsort := Queue.sort_stale (x := { s.queue f q with
    sqHead := ((s.queue f q).sqHead + 1) % (s.queue f q).ring, fetched := (s.queue f q).fetched + 1 }) he hd
  simp only [State.takeDescriptor, ht, hsort]
  rfl

end

/-- A refused command that stands last in its queue stands there fixed, and E is as it was. -/
theorem State.refuse_last {s : State} {f q : Nat} {l : List Cmd} {c : Cmd} (detail : Nat) (hl : (s.queue f q).cmds = l ++ [c])
    (hfix : c.fixed = false) : ((s.refuse f q c.pos detail).queue f q).e = (s.queue f q).e ∧
      ((s.refuse f q c.pos detail).queue f q).cmds.getLast? =
        some { c with begun := true, fixed := true, outcome := some (0x32, detail, srcPart f) } := by
  obtain ⟨x, hx⟩ : ∃ x, (s.queue f q).cmds.find? (fun y => y.pos = c.pos && !y.fixed) = some x :=
    Option.isSome_iff_exists.1 (List.find?_isSome.2 ⟨c, by simp [hl], by simp [hfix]⟩)
  rw [State.refuse, State.fix_eq _ _ _ _ _ _ _ x hx]
  simp [hl]

theorem State.refuse_other (s : State) (f q pos detail : Nat) : s.otherQueues (s.refuse f q pos detail) f q := fun f' q' h =>
  s.fix_other f q pos 0x32 detail (srcPart f) f' q' h

/-- Settles O10: each row of Table 4-2 is the lemma above for it. -/
theorem exactlyOnce : Obligations.ExactlyOnce := by
  refine ⟨fun s f q d ht he => ?_, fun s f q d ht he hd => ?_, fun s f q d ht he hd => ?_⟩
  · cases hc : s.descCheck f q d with
    | none =>
      rw [State.takeDescriptor_accepts ht he hc]
      refine ⟨by rw [State.queue_accept], s.otherQueues_setQueue f q _, rfl, s.newCmd f q d, ?_, rfl, rfl,
        fun _ => ⟨rfl, rfl, ?_, rfl⟩, ?_⟩
      · rw [State.queue_accept, List.getLast?_concat]
      · rw [State.queue_accept]
      · rintro _ ⟨⟩
    | some x =>
      have hcmds : ((s.setQueue f q ((s.queue f q).accept (s.newCmd f q d))).queue f q).cmds =
          (s.queue f q).cmds ++ [s.newCmd f q d] := by rw [State.queue_accept]
      obtain ⟨hE, hlast⟩ := State.refuse_last x hcmds rfl
      rw [State.takeDescriptor_refuses ht he hc]
      refine ⟨hE.trans (by rw [State.queue_accept]), fun f' q' h => ?_, ?_, _, hlast, rfl, rfl, ?_, ?_⟩
      · rw [State.refuse_other _ f q _ x f' q' h, s.otherQueues_setQueue f q _ f' q' h]
      · rw [State.refuse, State.fix_frame]
        rfl
      · rintro ⟨⟩
      · rintro _ ⟨⟩
        exact ⟨rfl, rfl⟩
  · rw [State.takeDescriptor_repeats ht he hd]
    refine ⟨?_, ?_, s.otherQueues_setQueue f q _, rfl, s.repeatCmd f q d, ?_, rfl, rfl, rfl, fun _ => ⟨rfl, rfl⟩⟩
    all_goals rw [State.queue_fetch]
  · rw [State.takeDescriptor_stale ht he hd]
    refine ⟨?_, ?_, s.otherQueues_setQueue f q _, rfl, s.staleCmd f q d, ?_, rfl, rfl, rfl, fun _ => ⟨rfl, rfl⟩⟩
    all_goals rw [State.queue_fetch]

end Sys2Proof.Machine

namespace Sys2Proof.Machine

/-! NOP, FENCE and the last effect of a command (R129, R136, R138, R676 to R680). -/

section
variable {s : State} {f : Part} {q : Fin 64} {c : Cmd}

theorem exec_nop_fixes (hf : s.front f q 0x00 = some c) : exec (.nop f q) s = .next (s.fix f q c.pos 0x00 0 (srcPart f)) := by
  simp [exec, execNop, hf]

theorem exec_fence_completes (hf : s.front f q 0x01 = some c) (hm : s.fenceMet f q c = true) :
    exec (.fence f q) s = .next (s.fix f q c.pos 0x00 0 (srcPart f)) := by
  simp [exec, execFence, hf, hm]

theorem exec_fence_waits (hf : s.front f q 0x01 = some c) (hm : s.fenceMet f q c = false) :
    exec (.fence f q) s = .next (s.setCmd f q c.pos fun x => { x with begun := true }) := by
  simp [exec, execFence, hf, hm]

theorem exec_fenceRelease_completes
    (hf : (s.queue f q).cmds.find? (fun c => c.kind = .execute && c.opcode = 0x01 && c.begun && !c.fixed) = some c)
    (hm : s.fenceMet f q c = true) : exec (.fenceRelease f q) s = .next (s.fix f q c.pos 0x00 0 (srcPart f)) := by
  simp only [exec, execFenceRelease, hf, hm, if_true]

/-- With no MODEL_LOAD under way there is no record to keep or to drop (R594). -/
theorem State.settleLoad_none {f q pos : Nat} (ok : Bool) (h : s.sec.loading = []) : s.settleLoad f q pos ok = s := by
  have hsec : { s.sec with loading := [], blobs := s.sec.blobs ++ [] } = s.sec := by rw [List.append_nil, ← h]
  simp only [State.settleLoad, h, List.filter_nil, List.map_nil, ite_self, hsec]

/-- The command's own error comes first, then a lost output, then a poisoned one (R676 to R678). -/
theorem State.fix_mergeOutcome (pos st det src : Nat) (poisoned lost : Bool) :
    s.fix f q pos (mergeOutcome (st, det, src) poisoned lost).1 (mergeOutcome (st, det, src) poisoned lost).2.1
        (mergeOutcome (st, det, src) poisoned lost).2.2 =
      if st ≠ 0 then s.fix f q pos st det src
      else if lost then s.fix f q pos 0x21 0 src
      else if poisoned then s.fix f q pos 0x20 0 src else s.fix f q pos 0 det src := by
  by_cases hst : st = 0
  · cases lost <;> cases poisoned <;> simp [mergeOutcome, hst]
  · simp [mergeOutcome, hst]

/-- The engines are done with the command, no message of it is unanswered, and no switch holds it back. -/
theorem exec_commandEffectDone_fixes {seq : U32} {st det src : Nat} (p l : Bool)
    (hc : (s.queue f q).cmds.find? (fun c =>
      c.kind = .execute && c.seq = seq.toNat && c.begun && !c.fixed && c.outcome.isSome) = some c)
    (ho : c.outcome = some (st, det, src)) (hw : s.working f q c.seq = false) (hu : s.fab.unans = []) (hr : s.fab.waitReq = [])
    (hl : s.sec.loading = []) (hsw : f = 0 ∨ s.sec.switch = none) : exec (.commandEffectDone f q seq p l) s = .next (
      if st ≠ 0 then s.fix f q c.pos st det src
      else if c.lost || l then s.fix f q c.pos 0x21 0 src
      else if c.poisoned || p then s.fix f q c.pos 0x20 0 src else s.fix f q c.pos 0 det src) := by
  have hgo : (s.working f q c.seq || (f.val ≠ 0 && s.sec.switch.isSome)) = false := by
    rcases hsw with rfl | hsw
    · simpa using hw
    · simp [hw, hsw]
  simp only [exec, execCommandEffectDone, hc, ho, hgo, hu, hr, List.any_nil, Bool.or_false, Bool.false_eq_true, if_false,
    Option.getD_some, State.settleLoad_none _ hl, State.fix_mergeOutcome]

/-- The status of an executed command goes to its byte of the history region, and a POISONED or UNCORRECTED one is event class 3. -/
theorem State.fix_execute {f q pos : Nat} (st det src : Nat)
    (hc : (s.queue f q).cmds.find? (fun c => c.pos = pos && !c.fixed) = some c) (hk : c.kind = .execute) :
    ∃ x : Queue, s.fix f q pos st det src =
      (if st = 0x20 ∨ st = 0x21 then (s.setQueue f q x).event f 3 (srcPart f) else s.setQueue f q x).emit
        (.hostWrite f ((s.queue f q).histBase.toNat + c.seq % 65536) [BitVec.ofNat 8 st] false) := by
  refine ⟨{ s.queue f q with
      cmds := (s.queue f q).cmds.map fun c =>
        if c.pos = pos then { c with begun := true, fixed := true, outcome := some (st, det, src) } else c
      hist := aset (s.queue f q).hist (c.seq % 65536) st }, ?_⟩
  simp only [State.fix, hc, hk, if_true]

end

@[simp] theorem State.event_out (s : State) (f c source : Nat) : (s.event f c source).out = s.out := by rw [State.event_frame]

/-- Settles O11: each clause is the lemma above for its command; the last says what `State.fix` does. -/
theorem commandStatusIsFixed : Obligations.CommandStatusIsFixed := by
  refine ⟨fun s f q c hf => exec_nop_fixes hf, fun s f q c hf hm => exec_fence_completes hf hm,
    fun s f q c hf hm => exec_fence_waits hf hm, fun s f q c hf hm => exec_fenceRelease_completes hf hm,
    fun s f q seq p l c st det src hc ho hw hu hr hl hsw => exec_commandEffectDone_fixes p l hc ho hw hu hr hl hsw,
    fun s f q pos st det src c hc hk => ⟨s.fix_frame .., fun f' q' h => s.fix_other f q pos st det src f' q' h, ?_, ?_⟩⟩
  · rw [State.fix_eq _ _ _ _ _ _ _ c hc, if_pos hk]
  · obtain ⟨x, hfix⟩ := State.fix_execute st det src hc hk
    rw [hfix]
    refine ⟨?_, fun h => ?_, fun hp hu => ?_⟩
    · split <;> simp
    · rw [if_pos h]
      exact State.event_cause ..
    · rw [if_neg (by simp [hp, hu])]
      rfl

end Sys2Proof.Machine

namespace Sys2Proof.Machine

/-! Bytes and fields of a record. -/

theorem slice_size (b : Bytes) (o n : Nat) : (slice b o n).length = n := by
  simp [slice]

theorem slice_getD (b : Bytes) {o n k : Nat} (h : k < n) : (slice b o n).getD k 0 = b.getD (o + k) 0 := by
  by_cases hk : o + k < b.length
  · have htake : k < ((b.drop o).take n).length := by simp; omega
    rw [slice, List.getD_append _ _ _ _ htake]
    simp [h]
  · have htake : ((b.drop o).take n).length ≤ k := by simp; omega
    rw [slice, List.getD_append_right _ _ _ _ htake, List.getD_eq_default b _ (by omega)]
    exact List.getElem?_getD_replicate_default_eq ..

theorem byteAt_eq (b : Bytes) (o : Nat) : byteAt b o = (b.getD o 0).toNat := by
  obtain ⟨x, hx⟩ := List.length_eq_one_iff.1 (slice_size b o 1)
  have hget : x = b.getD o 0 := by simpa [hx] using slice_getD b (o := o) (n := 1) (k := 0) (by decide)
  rw [byteAt, field, hx, ← hget]
  simp [ofLe]

theorem leBytes_ofLe (b : Bytes) : leBytes b.length (ofLe b) = b := by
  induction b with
  | nil => rfl
  | cons x t ih =>
    have hx := x.isLt
    have hdiv : (x.toNat + 256 * ofLe t) / 256 = ofLe t := by omega
    have hmod : BitVec.ofNat 8 (x.toNat + 256 * ofLe t) = x := BitVec.eq_of_toNat_eq (by simp; omega)
    simp only [List.length_cons, leBytes, ofLe, hdiv, hmod, ih]

theorem byteAt_lt (b : Bytes) (o : Nat) : byteAt b o < 256 := by
  rw [byteAt_eq]
  exact (b.getD o 0).isLt

/-! What writes of a queue's configuration change (R158, R162). -/

/-- QUEUES of a PARTITION record is one byte. -/
theorem State.queueCount_lt (s : State) (f : Nat) : s.queueCount f < 256 := by
  unfold State.queueCount
  split
  · omega
  · cases s.struct.partition f with
    | none => simp
    | some r => simpa using byteAt_lt r 6

/-- Where the block of a queue stands in its function's BAR0. -/
def queueBlock (f : Part) (q : Fin 64) : Nat := (if f.val = 0 then 0x12000 else 0x2000) + 0x40 * q.val

theorem State.pokeFn_queue {s : State} {f : Part} {q : Fin 64} {r : Nat} (w : U32) (hq : q.val < s.queueCount f) (hr : r < 0x40) :
    s.pokeFn f (0x2000 + 0x40 * q.val + r) w = s.pokeQueue f q r w := by
  have hcount := s.queueCount_lt f
  have hno : queueNo ((0x2000 + 0x40 * q.val + r - 0x2000) / 0x40) = q := Fin.ext (by simp only [queueNo]; omega)
  have hreg : (0x2000 + 0x40 * q.val + r) % 0x40 = r := by omega
  have hbell : inRange (0x2000 + 0x40 * q.val + r) 0x1000 (8 * s.queueCount f) = false := by
    simp only [inRange, Bool.and_eq_false_iff, decide_eq_false_iff_not]; omega
  have hblock : inRange (0x2000 + 0x40 * q.val + r) 0x2000 (0x40 * s.queueCount f) = true := by
    simp only [inRange, Bool.and_eq_true, decide_eq_true_eq]; omega
  unfold State.pokeFn
  rw [if_neg (by omega), if_neg (by omega), if_neg (by omega), hbell, hblock, hno, hreg]
  rfl

/-- A write of a word of a queue's block acts on that queue, or on nothing while the function's registers do not answer. -/
theorem State.poke_queue {s : State} {f : Part} {q : Fin 64} {r : Nat} (w : U32) (hq : q.val < s.queueCount f) (hr : r < 0x40)
    (h : s.pokeQueue f q r w = s) : s.poke f .bar0 (queueBlock f q + r) w = s := by
  by_cases hf : f = 0
  · subst hf
    have hq16 : q.val < 16 := hq
    have hoff : (0x12000 + 0x40 * q.val + r) % 0x10000 = 0x2000 + 0x40 * q.val + r := by omega
    have hpage : (0x12000 + 0x40 * q.val + r) / 0x10000 = 1 := by omega
    have hfn : s.pokeFn 0 (0x2000 + 0x40 * q.val + r) w = s := (State.pokeFn_queue w hq hr).trans h
    have hrec : s.pokeRec (0x12000 + 0x40 * q.val + r) w = s := by
      unfold State.pokeRec State.fillWindow
      rw [if_neg (by omega), if_neg (by omega), if_neg (by simp; omega)]
    show s.pokePf (0x12000 + 0x40 * q.val + r) w = s
    unfold State.pokePf
    rw [if_neg (by omega), if_neg (by omega), hrec, hoff, hpage]
    simp only [hfn, ite_self]
  · have hv : f.val ≠ 0 := fun h => hf (Fin.ext h)
    have hfn : s.pokeFn f (0x2000 + 0x40 * q.val + r) w = s := (State.pokeFn_queue w hq hr).trans h
    simp only [State.poke, queueBlock, if_neg hv, hfn, ite_self]

/-- A register write whose words each leave the state leaves it. -/
theorem exec_registerWrite_leaves {s : State} {f : Part} {bar : Bar} {off size : Nat} {v : U64}
    (hlow : s.poke f bar off (v.setWidth 32) = s)
    (hhigh : size = 8 → s.poke f bar (off + 4) ((v >>> 32).setWidth 32) = s) :
    exec (.registerWrite f bar off size v) s = .next s := by
  simp only [exec, execRegisterWrite, hlow]
  split
  · rfl
  · split
    · rw [hhigh ‹_›]
    · rfl

/-- While ENABLE is 1 the bases and the initial sequence number stay (R158). -/
theorem State.pokeQueue_enabled {s : State} {f : Part} {q : Fin 64} {r : Nat} (w : U32) (he : (s.queue f q).enable = true)
    (hr : r ≠ 0x18) (hc : r ≠ 0x2C) : s.pokeQueue f q r w = s := by
  simp [State.pokeQueue, hr, hc, he]

theorem State.turnOn_badSize {s : State} {f : Part} {q : Fin 64} {w : U32} (hw : 13 ≤ wbits w 3 0) : s.turnOn f q w = s := by
  rw [State.turnOn, if_pos (by simp; omega)]

theorem State.turnOff_badSize {s : State} {f : Part} {q : Fin 64} {w : U32} (hw : 13 ≤ wbits w 3 0) : s.turnOff f q w = s := by
  rw [State.turnOff, if_pos (by simp; omega)]

/-- While ENABLE is 1, setting it again leaves SIZE_LOG2. -/
theorem State.turnOn_sizeLog2 {s : State} {f : Part} {q : Fin 64} (w : U32) (he : (s.queue f q).enable = true) :
    ((s.turnOn f q w).queue f q).sizeLog2 = (s.queue f q).sizeLog2 := by
  unfold State.turnOn
  dsimp only
  split
  · rfl
  · rw [State.queue_setQueue_same]

@[simp] theorem State.settle_sizeLog2 (s : State) (f q : Nat) : ((s.settle f q).queue f q).sizeLog2 = (s.queue f q).sizeLog2 := by
  unfold State.settle
  dsimp only
  split
  · rw [State.queue_setQueue_same]
  · rfl

/-- Clearing ENABLE leaves SIZE_LOG2. -/
theorem State.turnOff_sizeLog2 {s : State} {f : Part} {q : Fin 64} (w : U32) (he : (s.queue f q).enable = true) :
    ((s.turnOff f q w).queue f q).sizeLog2 = (s.queue f q).sizeLog2 := by
  unfold State.turnOff
  dsimp only
  split
  · rfl
  · rw [State.settle_sizeLog2, State.queue_setQueue_same]

/-- Settles O54: each clause is the lemma above for its write. -/
theorem queueConfigurationIsGuarded : Obligations.QueueConfigurationIsGuarded := by
  refine ⟨fun s f q r size v he hq hr => ?_, fun s t f q w he ht => ?_,
    fun s f q w hw => ⟨congrArg Host.Outcome.next (State.turnOn_badSize hw), congrArg Host.Outcome.next (State.turnOff_badSize hw)⟩,
    fun s f q v hw hq => ?_⟩
  · have hword (k : Nat) (w : U32) (hk : k < 0x18 ∨ k = 0x1C) : s.poke f .bar0 (queueBlock f q + k) w = s :=
      State.poke_queue w hq (by omega) (State.pokeQueue_enabled w he (by omega) (by omega))
    refine exec_registerWrite_leaves (hword r _ (by omega)) fun hsize => hword (r + 4) _ ?_
    subst hsize
    omega
  · rcases ht with ht | ht
    · rw [← Host.Outcome.next.inj ht, State.turnOn_sizeLog2 w he]
    · rw [← Host.Outcome.next.inj ht, State.turnOff_sizeLog2 w he]
  · refine exec_registerWrite_leaves (State.poke_queue _ hq (by decide) ?_) (fun h => absurd h (by decide))
    simp only [State.pokeQueue, if_true, State.turnOn_badSize hw, State.turnOff_badSize hw, ite_self]

end Sys2Proof.Machine

namespace Sys2Proof.Machine

/-- Byte `k` of an 8-byte PARAM is the descriptor's byte there. -/
theorem Cmd.param_byte (c : Cmd) {k : Nat} (h : k < 8) :
    (leBytes 8 (c.param 0 8)).getD k 0 = BitVec.ofNat 8 (byteAt c.desc (32 + k)) := by
  have hpat : leBytes 8 (c.param 0 8) = slice c.desc 32 8 := by
    have h := leBytes_ofLe (slice c.desc 32 8)
    rwa [slice_size] at h
  rw [hpat, slice_getD _ h, byteAt_eq, BitVec.ofNat_toNat, BitVec.setWidth_eq]

/-! Reading and writing a range without poison while no other board holds a copy (R469, R674). -/

theorem mem_sectorsOf {a n k : Nat} (hn : n ≠ 0) (hk : k ≤ (a + n - 1) / 64 - a / 64) : a / 64 + k ∈ sectorsOf a n := by
  rw [sectorsOf, if_neg hn]
  exact List.mem_map.2 ⟨k, List.mem_range.2 (by omega), by omega⟩

/-- The sector of a byte of a range is one of the range's. -/
theorem sector_mem {a n i : Nat} (h : i < n) : (a + i) / 64 ∈ sectorsOf a n := by
  have hk : (a + i) / 64 = a / 64 + ((a + i) / 64 - a / 64) := by omega
  rw [hk]
  exact mem_sectorsOf (by omega) (by omega)

theorem Mem.poisoned_eq_false {m : Mem} {a n : Nat} (h : m.poisoned a n = false) {k : Nat} (hk : k ∈ sectorsOf a n) :
    m.poison.contains k = false :=
  Bool.eq_false_iff.2 (List.any_eq_false.1 h k hk)

/-- A read of clean bytes logs nothing. -/
theorem State.readLocal_clean {s : State} {a n : Nat} (f : Nat) (h : s.mem.poisoned a n = false) : s.readLocal f a n = s := by
  have hclean : (sectorsOf a n).filter s.mem.poison.contains = [] :=
    List.filter_eq_nil_iff.2 fun k hk => by simp only [Mem.poisoned_eq_false h hk]; decide
  simp [State.readLocal, hclean]

@[simp] theorem Mem.read_length (m : Mem) (a n : Nat) : (m.read a n).length = n := by simp [Mem.read]

@[simp] theorem Mem.read_getElem (m : Mem) {a n i : Nat} (h : i < (m.read a n).length) : (m.read a n)[i] = m.get (a + i) := by
  simp [Mem.read]

/-- Clean bytes written to board memory change board memory alone. -/
theorem State.memWrite_frame (s : State) (a : Nat) (bs : Bytes) :
    s.memWrite a bs false = { s with mem := (s.memWrite a bs false).mem } := rfl

/-- An operation over a list that changes board memory alone at each of its steps changes board memory alone. -/
theorem foldl_memFrame {α : Type} {f : State → α → State}
    (h : ∀ s x, s.fab.dir = [] → s.fab.txns = [] → f s x = { s with mem := (f s x).mem }) (l : List α) (s : State)
    (hd : s.fab.dir = []) (ht : s.fab.txns = []) : l.foldl f s = { s with mem := (l.foldl f s).mem } := by
  induction l generalizing s with
  | nil => rfl
  | cons x t ih =>
    have hx := h s x hd ht
    have hfab : (f s x).fab = s.fab := by rw [hx]
    have hrest := ih (f s x) (by rw [hfab, hd]) (by rw [hfab, ht])
    rw [List.foldl_cons]
    generalize (t.foldl f (f s x)) = u at hrest ⊢
    rw [hrest, hx]

theorem State.putMixed_frame {s : State} (part a : Nat) (bs : Bytes) (hd : s.fab.dir = []) (ht : s.fab.txns = []) :
    s.putMixed part a bs (fun _ => false) = { s with mem := (s.putMixed part a bs fun _ => false).mem } :=
  foldl_memFrame (fun s k hd ht => by rw [State.put_plain _ _ _ _ _ hd ht, ← State.memWrite_frame]) _ s hd ht

/-- Bytes none of which is poisoned go to a local place as clean sectors. -/
theorem State.toPlace_local {s : State} {f a : Nat} {bs : Bytes} {pz : Nat → Bool} (cmd : Option (Nat × Nat × Nat))
    (h : ∀ i, i < bs.length → pz i = false) : s.toPlace f (.local_ a) bs pz cmd = s.putMixed f a bs fun _ => false := by
  have hpz : (fun k => (List.range 64).any fun i =>
      decide (a ≤ 64 * k + i) && decide (64 * k + i < a + bs.length) && pz (64 * k + i - a)) = fun _ => false := by
    funext k
    refine List.any_eq_false.2 fun i _ hi => ?_
    simp only [Bool.and_eq_true, decide_eq_true_eq] at hi
    obtain ⟨⟨hlo, hhi⟩, hp⟩ := hi
    rw [h _ (by omega)] at hp
    exact Bool.false_ne_true hp
  simp only [State.toPlace, hpz]

/-- Bytes none of whose sectors is poisoned go to host memory in one write. -/
theorem State.toHost_clean {s : State} {f q seq addr first : Nat} {bs : Bytes} {pz : Nat → Bool}
    (h : ∀ k, k < (first + bs.length + 63) / 64 → pz k = false) :
    s.toHost f q seq addr bs first pz = s.emit (.hostWrite f addr bs false) := by
  have hany : (List.range ((first + bs.length + 63) / 64)).any pz = false :=
    List.any_eq_false.2 fun k hk => by simp [h k (List.mem_range.1 hk)]
  simp [State.toHost, hany]

end Sys2Proof.Machine

namespace Sys2Proof.Machine

/-! DMA_COPY, DMA_FILL and the parts of a host source (R463, R469, R674 to R677). -/

/-- A data-moving command that starts: it is under way, and its transfer waits for a HIF DMA engine. -/
def State.beginMove (s : State) (f q : Nat) (c : Cmd) : State :=
  (s.underWay f q c.pos 0x00 0 (srcPart f)).useDma (cmdJob f q c c.length)

/-- A clean write after the start of a transfer changes board memory and the host interface, and its bytes land. -/
theorem State.beginMove_writes (s : State) (f q : Nat) (c : Cmd) (b : Nat) (bs : Bytes) (hd : s.fab.dir = [])
    (ht : s.fab.txns = []) :
    let t := (s.beginMove f q c).putMixed f b bs fun _ => false
    t = { s with mem := t.mem, hif := t.hif } ∧ (∀ (i : Nat) (h : i < bs.length), t.mem.get (b + i) = bs[i]) ∧
      ∀ x, x < b ∨ b + bs.length ≤ x → t.mem.get x = s.mem.get x := by
  refine ⟨?_, fun i h => State.putMixed_get_inside (s.beginMove f q c) f b bs _ hd ht i h,
    fun x h => State.putMixed_get_outside (s.beginMove f q c) f b bs _ hd ht x h⟩
  rw [State.putMixed_frame f b bs (s := s.beginMove f q c) hd ht]
  rfl

section
variable {s : State} {f : Part} {q : Fin 64} {c : Cmd} {a b : Nat}

theorem State.copyAway_local (hsrc : s.place f c.addr0 c.length = .local_ a) : s.copyAway f c = s.away a c.length := by
  simp [State.copyAway, hsrc]

theorem exec_dmaCopy_local (d : HostRead) (hf : s.front f q 0x30 = some c) (hfrom : bit (c.param 0 1) 0 = false)
    (hto : bit (c.param 0 1) 1 = false) (hsrc : s.place f c.addr0 c.length = .local_ a)
    (hdst : s.place f c.addr1 c.length = .local_ b) (hclean : s.mem.poisoned a c.length = false) (haway : s.away a c.length = []) :
    exec (.dmaCopy f q d) s = .next ((s.beginMove f q c).putMixed f b (s.mem.read a c.length) fun _ => false) := by
  have hread : State.readLocal (s.beginMove f q c) f a c.length = s.beginMove f q c := State.readLocal_clean _ hclean
  have hmem : (s.beginMove f q c).mem = s.mem := rfl
  have hpz : ∀ i, i < (s.mem.read a c.length).length → s.mem.poison.contains ((a + i) / 64) = false := by
    intro i hi
    rw [Mem.read_length] at hi
    exact Mem.poisoned_eq_false hclean (sector_mem hi)
  simp only [exec, execDmaCopy, hf, hfrom, hto, hsrc, hdst, Place.refused, Option.or, State.copyAway_local hsrc, haway,
    List.isEmpty_nil, Bool.not_true, Bool.false_eq_true, if_false]
  rw [← State.beginMove, hread, hmem, hclean]
  simp only [Bool.false_eq_true, if_false]
  rw [State.toPlace_local _ hpz]

/-- Lines of the source that another board owns are asked back before anything starts. -/
theorem exec_dmaCopy_recalls (d : HostRead) (hf : s.front f q 0x30 = some c) (hfrom : bit (c.param 0 1) 0 = false)
    (hsrc : s.place f c.addr0 c.length = .local_ a) (haway : s.away a c.length ≠ [])
    (hdst : bit (c.param 0 1) 1 = true ∨ (s.place f c.addr1 c.length).refused = none) :
    exec (.dmaCopy f q d) s = .next (s.recall f (s.away a c.length)) := by
  have hbad : (if bit (c.param 0 1) 1 then none else (s.place f c.addr1 c.length).refused) = none := by
    rcases hdst with h | h <;> simp [h]
  have hsome : (!(s.away a c.length).isEmpty) = true := by simpa using haway
  simp only [exec, execDmaCopy, hf, hfrom, hsrc, Bool.false_eq_true, if_false, hbad, State.copyAway_local hsrc, if_pos hsome]
  rfl

theorem exec_dmaCopy_toHost (d : HostRead) (hf : s.front f q 0x30 = some c) (hfrom : bit (c.param 0 1) 0 = false)
    (hto : bit (c.param 0 1) 1 = true) (hsrc : s.place f c.addr0 c.length = .local_ a)
    (hclean : s.mem.poisoned a c.length = false) (hlen : 0 < c.length) (haway : s.away a c.length = []) :
    exec (.dmaCopy f q d) s = .next ((s.beginMove f q c).emit (.hostWrite f c.addr1 (s.mem.read a c.length) false)) := by
  have hread : State.readLocal (s.beginMove f q c) f a c.length = s.beginMove f q c := State.readLocal_clean _ hclean
  have hmem : (s.beginMove f q c).mem = s.mem := rfl
  have hpz : ∀ k, k < (a % 64 + (s.mem.read a c.length).length + 63) / 64 → s.mem.poison.contains (a / 64 + k) = false := by
    intro k hk
    rw [Mem.read_length] at hk
    exact Mem.poisoned_eq_false hclean (mem_sectorsOf (by omega) (by omega))
  simp only [exec, execDmaCopy, hf, hfrom, hto, hsrc, Place.refused, Option.or, State.copyAway_local hsrc, haway,
    List.isEmpty_nil, Bool.not_true, Bool.false_eq_true, if_false, if_true]
  rw [← State.beginMove, hread, hmem, hclean]
  simp only [Bool.false_eq_true, if_false]
  rw [State.toHost_clean hpz]

theorem exec_dmaCopy_fromHost {bs : Bytes} (hf : s.front f q 0x30 = some c) (hfrom : bit (c.param 0 1) 0 = true)
    (hto : bit (c.param 0 1) 1 = false) (hdst : s.place f c.addr1 c.length = .local_ b) (hlen : bs.length = c.length) :
    exec (.dmaCopy f q (.data bs false)) s = .next ((s.beginMove f q c).putMixed f b bs fun _ => false) := by
  have hbs : slice bs 0 c.length = bs := hlen ▸ slice_length bs
  simp only [exec, execDmaCopy, hf, hfrom, hto, hdst, hbs, Place.refused, Option.or, List.isEmpty_nil, Bool.not_true,
    Bool.false_eq_true, if_false, if_true]
  rw [← State.beginMove, State.toPlace_local _ fun _ _ => rfl]

/-- A failed host read on its way to host memory marks the command (R677). -/
theorem exec_dmaCopy_lost (hf : s.front f q 0x30 = some c) (hfrom : bit (c.param 0 1) 0 = true)
    (hto : bit (c.param 0 1) 1 = true) : exec (.dmaCopy f q .failed) s =
      .next ((s.beginMove f q c).markCmd (some (f.val, q.val, c.pos)) false true) := by
  simp only [exec, execDmaCopy, hf, hfrom, hto, Option.or, List.isEmpty_nil, Bool.not_true, Bool.false_eq_true, if_false, if_true]
  rfl

/-- The bytes of a fill: the 8-byte pattern of its PARAM, repeated. -/
def Cmd.fillBytes (c : Cmd) : Bytes := (List.range c.length).map fun i => (leBytes 8 (c.param 0 8)).getD (i % 8) 0

@[simp] theorem Cmd.fillBytes_length (c : Cmd) : c.fillBytes.length = c.length := by simp [Cmd.fillBytes]

theorem Cmd.fillBytes_getElem (c : Cmd) {i : Nat} (h : i < c.fillBytes.length) :
    c.fillBytes[i] = BitVec.ofNat 8 (byteAt c.desc (32 + i % 8)) := by
  simp only [Cmd.fillBytes, List.getElem_map, List.getElem_range]
  exact c.param_byte (Nat.mod_lt _ (by decide))

theorem exec_dmaFill_writes (hf : s.front f q 0x31 = some c) (hdst : s.place f c.addr1 c.length = .local_ b) :
    exec (.dmaFill f q) s = .next ((s.beginMove f q c).putMixed f b c.fillBytes fun _ => false) := by
  simp only [exec, execDmaFill, hf, hdst, Place.refused]
  rw [← State.beginMove, State.toPlace_local _ fun _ _ => rfl, Cmd.fillBytes]

theorem exec_dmaFill_refused {detail : Nat} (hf : s.front f q 0x31 = some c)
    (hdst : s.place f c.addr1 c.length = .bad detail) : exec (.dmaFill f q) s = .next (s.refuse f q c.pos detail) := by
  simp only [exec, execDmaFill, hf, hdst, Place.refused]

/-- A part of a host source lands at its address (R675). -/
theorem exec_hostReadCompletion_lands {seq : U32} {addr : Nat} {bs : Bytes}
    (hc : (s.queue f q).cmds.find? (fun c =>
      c.kind = .execute && c.seq = seq.toNat && c.begun && !c.fixed && c.opcode = 0x30 && bit (c.param 0 1) 0) = some c)
    (hlo : c.addr1 ≤ addr) (hhi : addr + bs.length ≤ c.addr1 + c.length) (hbs : bs ≠ []) (hto : bit (c.param 0 1) 1 = false)
    (hdst : s.place f addr bs.length = .local_ b) :
    exec (.hostReadCompletion f q seq addr (.data bs false)) s = .next (s.putMixed f b bs fun _ => false) := by
  have hin : c.addr1 ≤ addr ∧ addr + bs.length ≤ c.addr1 + c.length ∧ 0 < bs.length :=
    ⟨hlo, hhi, List.length_pos_of_ne_nil hbs⟩
  simp only [exec, execHostReadCompletion, hc, if_pos hin, hto, hdst, Bool.false_eq_true, if_false]
  rw [State.toPlace_local _ fun _ _ => rfl]

end

/-- Settles O22: each clause is the lemma above for its command, and the bytes land as `State.beginMove_writes` says. -/
theorem hostDataMoves : Obligations.HostDataMoves := by
  refine ⟨fun s f q d c a b hf hfrom hto hsrc hdst hclean hd ht => ?_,
    fun s f q d c a hf hfrom hsrc haway hdst => exec_dmaCopy_recalls d hf hfrom hsrc haway hdst,
    fun s f q d c a hf hfrom hto hsrc hclean hlen haway =>
      ⟨_, exec_dmaCopy_toHost d hf hfrom hto hsrc hclean hlen haway, rfl, rfl⟩,
    fun s f q bs c b hf hfrom hto hdst hlen hd ht => ?_, fun s f q c hf hfrom hto => exec_dmaCopy_lost hf hfrom hto,
    fun s f q c b hf hdst hd ht => ?_, fun s f q c detail hf hdst => exec_dmaFill_refused hf hdst,
    fun s f q seq addr b bs c hc hlo hhi hbs hto hdst hd ht => ?_⟩
  · obtain ⟨hframe, hin, hout⟩ := s.beginMove_writes f q c b (s.mem.read a c.length) hd ht
    refine ⟨_, exec_dmaCopy_local d hf hfrom hto hsrc hdst hclean (s.away_plain a c.length hd ht), hframe, fun i hi => ?_,
      fun x hx => hout x (by rwa [Mem.read_length])⟩
    rw [hin i (by rwa [Mem.read_length]), Mem.read_getElem]
  · obtain ⟨hframe, hin, hout⟩ := s.beginMove_writes f q c b bs hd ht
    exact ⟨_, exec_dmaCopy_fromHost hf hfrom hto hdst hlen, hframe, hin, fun x hx => hout x (by rwa [hlen])⟩
  · obtain ⟨hframe, hin, hout⟩ := s.beginMove_writes f q c b c.fillBytes hd ht
    refine ⟨_, exec_dmaFill_writes hf hdst, hframe, fun i hi => ?_, fun x hx => hout x (by rwa [Cmd.fillBytes_length])⟩
    rw [hin i (by rwa [Cmd.fillBytes_length]), Cmd.fillBytes_getElem]
  · exact ⟨_, exec_hostReadCompletion_lands hc hlo hhi hbs hto hdst, State.putMixed_frame f b bs hd ht,
      fun i h => s.putMixed_get_inside f b bs _ hd ht i h, fun x h => s.putMixed_get_outside f b bs _ hd ht x h⟩

end Sys2Proof.Machine

namespace Sys2Proof.Machine

/-! Image slots: the slot that is changed, and every other one. -/

theorem State.slot_mapSlot_same (s : State) {n : Nat} (g : ImgSlot → ImgSlot) (h : n < 8) :
    (s.mapSlot n g).slot n = g (s.slot n) := by
  simp [State.slot, h]

theorem State.slot_mapSlot_other (s : State) {n m : Nat} (g : ImgSlot → ImgSlot) (h : m ≠ n) :
    (s.mapSlot n g).slot m = s.slot m := by
  by_cases hm : m < 8
  · simp [State.slot, hm, h]
  · simp [State.slot, hm]

/-- Marking a host command is a change of that command (R676, R677). -/
theorem State.markCmd_host (s : State) (f : Part) (q pos : Nat) (poisoned lost : Bool) :
    s.markCmd (some (f.val, q, pos)) poisoned lost =
      s.setCmd f q pos fun c => { c with poisoned := c.poisoned || poisoned, lost := c.lost || lost } :=
  if_neg (Nat.not_le.2 f.isLt)

/-! IMAGE_LOAD, IMAGE_APPLY and IMAGE_DROP (R213 to R215, step 1 of Table 5-8). -/

section
variable {s : State} {f : Part} {q : Fin 64} {c : Cmd}

/-- What an IMAGE_LOAD leaves behind: slot `c.target` as `x`, and the command under way with its marks. -/
def State.loadedSlot (s : State) (f q : Nat) (c : Cmd) (x : ImgSlot) (poisoned lost : Bool) : State :=
  State.markCmd ((s.underWay f q c.pos 0x00 0 srcMgt).mapSlot c.target fun _ => x) (some (f, q, c.pos)) poisoned lost

theorem State.loadedSlot_spec (s : State) (f : Part) (q : Nat) (c : Cmd) (x : ImgSlot) (poisoned lost : Bool) (hn : c.target < 8) :
    let t := s.loadedSlot f q c x poisoned lost
    t = { s with img := t.img, hif := t.hif } ∧ t.slot c.target = x ∧ (∀ n, n ≠ c.target → t.slot n = s.slot n) ∧
      t.struct = s.struct := by
  dsimp only [State.loadedSlot]
  rw [State.markCmd_host]
  exact ⟨rfl, State.slot_mapSlot_same (s.underWay f q c.pos 0x00 0 srcMgt) _ hn,
    fun n h => State.slot_mapSlot_other (s.underWay f q c.pos 0x00 0 srcMgt) _ h, rfl⟩

theorem exec_imageLoad_holds (b : Bytes) (ep : Bool) (hf : s.front f q 0x10 = some c) (ha : s.slotAllowed f c.target = true)
    (hlo : 64 ≤ c.length) (hhi : c.length ≤ 16777216) (hb : (s.slot c.target).busy = false) :
    exec (.imageLoad f q (.data b ep)) s =
      .next (s.loadedSlot f q c { st := .loaded, image := slice b 0 c.length, complete := !ep } ep false) := by
  have hlen : ¬(c.length < 64 ∨ 16777216 < c.length) := by omega
  simp only [exec, execImageLoad, hf, ha, hb, if_neg hlen, Bool.not_true, Bool.false_eq_true, if_false]
  rfl

theorem exec_imageLoad_failed (hf : s.front f q 0x10 = some c) (ha : s.slotAllowed f c.target = true)
    (hlo : 64 ≤ c.length) (hhi : c.length ≤ 16777216) (hb : (s.slot c.target).busy = false) :
    exec (.imageLoad f q .failed) s = .next (s.loadedSlot f q c {} false true) := by
  have hlen : ¬(c.length < 64 ∨ 16777216 < c.length) := by omega
  simp only [exec, execImageLoad, hf, ha, hb, if_neg hlen, Bool.not_true, Bool.false_eq_true, if_false]
  rfl

/-- Step 1 passed, the apply begins and its slot is VALIDATING (R209). -/
theorem State.startApply_begins {point : ApplyPoint} {r : Nat} (hr : (if point = .frame then c.param 1 1 else 0) = r)
    (h : s.applyRefused f c.target r point = none) :
    s.startApply f q c point = (s.setCmd f q c.pos fun c => { c with begun := true }).mapSlot c.target fun x =>
      { x with st := .validating, apply := some { part := f, queue := q, pos := c.pos, point := point, route := r } } := by
  subst hr
  simp only [State.startApply, h]

theorem State.startApply_spec {point : ApplyPoint} {r : Nat} (hr : (if point = .frame then c.param 1 1 else 0) = r)
    (hn : c.target < 8) (h : s.applyRefused f c.target r point = none) :
    s.startApply f q c point = { s with img := (s.startApply f q c point).img, hif := (s.startApply f q c point).hif } ∧
      (s.startApply f q c point).struct = s.struct ∧ (s.startApply f q c point).slot c.target = { s.slot c.target with
        st := .validating, apply := some { part := f, queue := q, pos := c.pos, point := point, route := r } } := by
  rw [State.startApply_begins hr h]
  exact ⟨rfl, rfl, State.slot_mapSlot_same (s.setCmd f q c.pos fun c => { c with begun := true }) _ hn⟩

/-- With no complete image in the slot the apply is IMAGE_REJECTED with REASON 0x69. -/
theorem State.startApply_rejected {point : ApplyPoint} {r : Nat} (hr : (if point = .frame then c.param 1 1 else 0) = r)
    (h : s.applyRefused f c.target r point = some (0x30, 0x69)) : s.startApply f q c point =
      (State.note { s with img := { s.img with lastReason := 0x69, lastSlot := c.target, lastPart := f } } srcMgt 0 0x0301 f
        [c.target, 0x30, 0x69, imageId (s.slot c.target).image]).fix f q c.pos 0x30 0x69 srcMgt := by
  subst hr
  simp only [State.startApply, h, if_true]
  rfl

theorem State.applyRefused_incomplete {f n : Nat} (r : Nat) (ha : s.slotAllowed f n = true) (hb : (s.slot n).busy = false)
    (hc : (s.slot n).complete = false) : s.applyRefused f n r .immediate = some (0x30, 0x69) := by
  simp [State.applyRefused, ha, hb, hc]

theorem exec_imageApplyImmediate_starts (hf : s.front f q 0x11 = some c) (hp : c.param 0 1 = 1) :
    exec (.imageApplyImmediate f q) s = .next (s.startApply f q c .immediate) := by
  simp only [exec, execImageApplyImmediate, hf, if_pos hp]

theorem exec_imageApplyFrame_starts (hf : s.front f q 0x11 = some c) (hp : c.param 0 1 = 2) :
    exec (.imageApplyFrame f q) s = .next (s.startApply f q c .frame) := by
  simp only [exec, execImageApplyFrame, hf, if_pos hp]

theorem exec_imageApplySwitch_starts (hf : s.front f q 0x11 = some c) (hp : c.param 0 1 = 3) :
    exec (.imageApplySwitch f q) s = .next (s.startApply f q c .switch) := by
  simp only [exec, execImageApplySwitch, hf, if_pos hp]

theorem exec_imageDrop_empties (hf : s.front f q 0x12 = some c) (ha : s.slotAllowed f c.target = true)
    (hp : (s.slot c.target).apply = none) :
    exec (.imageDrop f q) s = .next ((s.mapSlot c.target fun _ => {}).fix f q c.pos 0x00 0 srcMgt) := by
  simp [exec, execImageDrop, hf, ha, hp]

end

/-- Settles O19: each clause is the lemma above for its command. -/
theorem imageCommands : Obligations.ImageCommands := by
  refine ⟨fun s f q c b ep hf ha hlo hhi hb hn =>
      ⟨_, exec_imageLoad_holds b ep hf ha hlo hhi hb, s.loadedSlot_spec f q c _ ep false hn⟩,
    fun s f q c hf ha hlo hhi hb hn =>
      ⟨_, exec_imageLoad_failed hf ha hlo hhi hb, s.loadedSlot_spec f q c {} false true hn⟩,
    fun s f q c hf hn => ⟨fun hp h => ⟨_, exec_imageApplyImmediate_starts hf hp, State.startApply_spec rfl hn h⟩,
      fun hp h => ⟨_, exec_imageApplyFrame_starts hf hp, State.startApply_spec rfl hn h⟩,
      fun hp h => ⟨_, exec_imageApplySwitch_starts hf hp, State.startApply_spec rfl hn h⟩⟩,
    fun s f q c hf hp ha hb hc => ⟨_, exec_imageApplyImmediate_starts hf hp, ?_⟩,
    fun s f q c hf ha hp => exec_imageDrop_empties hf ha hp⟩
  rw [State.startApply_rejected rfl (State.applyRefused_incomplete 0 ha hb hc), State.fix_frame]
  exact ⟨rfl, rfl, rfl⟩

end Sys2Proof.Machine

namespace Sys2Proof.Machine

/-! Routes without the POISONED marks of their frames: what a stop does to the other slots and to its own (R258, R261, R262, R446). -/

theorem Route.unmarked_all (x : Route) {p : Frame → Bool} (hp : ∀ f : Frame, p { f with poisoned := false } = p f) :
    x.unmarked.frames.all p = x.frames.all p := by
  simp only [Route.unmarked, List.all_map]
  exact congrArg x.frames.all (funext hp)

theorem Route.unmarked_nil (x : Route) : x.unmarked.frames = [] ↔ x.frames = [] := by simp [Route.unmarked]

/-- Marking a frame POISONED leaves the unmarked frame. -/
theorem Route.unmarked_mark (x : Route) (id : Nat) (b : Bool) :
    Route.unmarked { x with frames := x.frames.map fun f => if f.id = id then { f with poisoned := f.poisoned || b } else f } =
      x.unmarked := by
  simp only [Route.unmarked, List.map_map, Route.mk.injEq, true_and, and_true]
  refine List.map_congr_left fun f _ => ?_
  simp only [Function.comp]
  split <;> rfl

/-- The poison of a task that ends passes to its frame, and no route changes otherwise (R446). -/
theorem State.endTask_unmarked (s : State) (c k : Nat) : ((s.endTask c).route k).unmarked = (s.route k).unmarked := by
  unfold State.endTask
  dsimp only
  split
  · rfl
  · next t _ =>
    simp only [State.route, State.nextTask_rsq, State.setCore_rsq, Vector.getElem?_mapIdx]
    cases s.rsq.routes[k]? with
    | none => rfl
    | some x =>
      simp only [Option.map_some, Option.getD_some]
      split
      · exact x.unmarked_mark t.frame t.poison
      · rfl

theorem State.takePreemption_unmarked (s : State) (c k : Nat) :
    ((s.takePreemption c).route k).unmarked = (s.route k).unmarked := by
  unfold State.takePreemption
  dsimp only
  split
  · rfl
  · split
    · exact s.endTask_unmarked c k
    · split
      · rfl
      · split
        · rfl
        · rw [State.route_of_rsq_eq s _ (by simp)]

theorem State.settleWait_unmarked (s : State) (c k : Nat) : ((s.settleWait c).route k).unmarked = (s.route k).unmarked := by
  unfold State.settleWait
  dsimp only
  split
  · split
    · exact s.endTask_unmarked c k
    · split
      · rw [State.takePreemption_unmarked]
        rfl
      · rfl
  · rfl

/-- The stop of neural tasks marks frames POISONED at most. -/
theorem State.stopTasks_unmarked (s : State) (p : Task → Bool) (k : Nat) :
    ((s.stopTasks p).route k).unmarked = (s.route k).unmarked := by
  unfold State.stopTasks State.settleWaits
  rw [foldl_keeps (fun s => (s.route k).unmarked) _ fun s c => s.settleWait_unmarked c k,
    State.route_of_rsq_eq s _ (by simp)]

/-- With frames in flight, none of them aborted with its nodes at rest, a route neither loses a frame nor has stopped. -/
theorem State.drainRoute_waits {s : State} {r : Nat}
    (h : ((s.route r).frames.all fun x => x.inFlight && !(x.aborted && x.idle)) = true) (hne : (s.route r).frames ≠ []) :
    s.drainRoute r = s := by
  have hall : ∀ f ∈ (s.route r).frames, f.inFlight = true ∧ (f.aborted = false ∨ f.idle = false) := by simpa using h
  have habandoned : ((s.route r).frames.filter fun f => f.abandoned.isSome && f.idle) = [] := by
    refine List.filter_eq_nil_iff.2 fun f hf => ?_
    have hflight := (hall f hf).1
    simp_all [Frame.inFlight]
  have haborted : s.retireAborted r 64 = s := by
    unfold State.retireAborted
    split
    · next f hf => rcases (hall f (List.mem_of_find?_eq_some hf)).2 with h | h <;> simp [h]
    · rfl
  have hdrained : (s.route r).drained = false := by
    obtain ⟨f, hf⟩ := List.exists_mem_of_ne_nil _ hne
    have hany : (s.route r).frames.any Frame.inFlight = true := List.any_eq_true.2 ⟨f, hf, (hall f hf).1⟩
    simp [Route.drained, hany, hne]
  unfold State.drainRoute
  simp [habandoned, haborted, hdrained]

/-- A stop at the boundary with frames in flight: they go on, and the route is STOPPING (R261). -/
theorem State.boundaryStop_stopping {s : State} {r : Nat} (hr : r < 16)
    (hst : (s.route r).st = .starting ∨ (s.route r).st = .running)
    (hall : ((s.route r).frames.all fun x => x.inFlight && !x.aborted) = true) (hne : (s.route r).frames ≠ []) :
    s.boundaryStop r = (s.noteLevel 1).setRouteSt r .stopping := by
  have hlevel : (s.noteLevel 1).route r = s.route r := State.route_of_rsq_eq _ _ (State.noteLevel_rsq ..) r
  have hfrom : ((s.noteLevel 1).setRouteSt r .stopping).route r = { s.route r with st := .stopping } := by
    rw [State.route_setRouteSt _ _ _ hr, hlevel]
  have hany : (s.route r).frames.any Frame.inFlight = true := by
    obtain ⟨f, hf⟩ := List.exists_mem_of_ne_nil _ hne
    exact List.any_eq_true.2 ⟨f, hf, (Bool.and_eq_true_iff.1 (List.all_eq_true.1 hall f hf)).1⟩
  unfold State.boundaryStop
  dsimp only
  rw [if_pos hst, if_pos hany, State.drainRoute_waits]
  · rw [hfrom]
    refine List.all_eq_true.2 fun f hf => ?_
    obtain ⟨hflight, habort⟩ : f.inFlight = true ∧ f.aborted = false := by simpa using List.all_eq_true.1 hall f hf
    simp [hflight, habort]
  · rwa [hfrom]

/-- A route in a forced stop: each of its frames will retire ABORTED_BY_STOP (R262). -/
def Route.abortFrames (x : Route) : Route :=
  { x with forced := true, frames := x.frames.map fun f => { f with aborted := true, swapDone := true } }

/-- A forced stop before its route drains: the frames in flight are aborted and their neural tasks stop. -/
def State.abortFrames (s : State) (r : Nat) : State :=
  ((s.setRoute r { s.route r with
    forced := true
    frames := (s.route r).frames.map fun f => if f.inFlight then { f with aborted := true, swapDone := true } else f }).noteLevel
      1).stopTasks fun t => t.route = r

theorem State.abortFrames_other (s : State) {r k : Nat} (hk : k ≠ r) :
    ((s.abortFrames r).route k).unmarked = (s.route k).unmarked := by
  unfold State.abortFrames
  rw [State.stopTasks_unmarked, State.route_of_rsq_eq _ _ (State.noteLevel_rsq ..), State.route_setRoute_ne _ _ _ _ hk]

theorem State.abortFrames_own {s : State} {r : Nat} (hr : r < 16) (hall : ∀ f ∈ (s.route r).frames, f.inFlight = true) :
    ((s.abortFrames r).route r).unmarked = (s.route r).abortFrames.unmarked := by
  unfold State.abortFrames
  rw [State.stopTasks_unmarked, State.route_of_rsq_eq _ _ (State.noteLevel_rsq ..), State.route_setRoute _ _ _ hr,
    List.map_congr_left fun f hf => if_pos (hall f hf)]
  rfl

/-- While each frame of a route has a node running, a forced stop waits for these nodes, and the route is STOPPING (R262). -/
theorem State.forceStop_eq {s : State} {r : Nat} (hr : r < 16)
    (hst : (s.route r).st = .starting ∨ (s.route r).st = .running ∨ (s.route r).st = .stopping)
    (hall : ((s.route r).frames.all fun x => x.inFlight && !x.idle) = true) (hne : (s.route r).frames ≠ []) :
    s.forceStop r = (s.abortFrames r).setRouteSt r .stopping := by
  have hown := State.abortFrames_own hr fun f hf => (Bool.and_eq_true_iff.1 (List.all_eq_true.1 hall f hf)).1
  have hframes : (((s.abortFrames r).setRouteSt r .stopping).route r).frames = ((s.abortFrames r).route r).frames := by
    rw [State.route_setRouteSt _ _ _ hr]
  unfold State.forceStop
  dsimp only
  rw [if_pos hst, if_neg hne]
  refine State.drainRoute_waits (s := (s.abortFrames r).setRouteSt r .stopping) ?_ ?_
  · rw [hframes, ← Route.unmarked_all _ fun _ => rfl, hown, Route.unmarked_all _ fun _ => rfl]
    simpa [Route.abortFrames, Frame.inFlight, Frame.idle, List.all_map] using hall
  · rw [hframes, Ne, ← Route.unmarked_nil, hown, Route.unmarked_nil]
    simpa [Route.abortFrames] using hne

/-- Such a stop leaves the other routes, up to POISONED marks, and aborts the frames of its own. -/
theorem State.forceStop_spec {s : State} {r : Nat} (hr : r < 16)
    (hst : (s.route r).st = .starting ∨ (s.route r).st = .running ∨ (s.route r).st = .stopping)
    (hall : ((s.route r).frames.all fun x => x.inFlight && !x.idle) = true) (hne : (s.route r).frames ≠ []) :
    (∀ k, k ≠ r → ((s.forceStop r).route k).unmarked = (s.route k).unmarked) ∧
      ((s.forceStop r).route r).unmarked = Route.unmarked { (s.route r).abortFrames with st := .stopping } := by
  rw [State.forceStop_eq hr hst hall hne]
  refine ⟨fun k hk => ?_, ?_⟩
  · rw [State.route_setRouteSt_ne _ _ _ _ hr hk, State.abortFrames_other s hk]
  · rw [State.route_setRouteSt _ _ _ hr]
    have hown := State.abortFrames_own hr fun f hf => (Bool.and_eq_true_iff.1 (List.all_eq_true.1 hall f hf)).1
    exact congrArg (fun x : Route => { x with st := .stopping }) hown

/-- A route takes a FAULT, and on a safety-class route SAF latches ROUTE_FAULT (R265, Table 14-3). -/
def State.markFault (s : State) (r code : Nat) : State :=
  let s := s.setRoute r { s.route r with fault := code, faulting := true }
  if s.struct.safetyClass r then s.latchCause 0x0C (srcRoute r) else s

theorem State.faultRoute_running {s : State} {r : Nat} (code : Nat) (hst : (s.route r).st = .running) :
    s.faultRoute r code = (s.markFault r code).forceStop r :=
  if_pos (.inr (.inl hst))

theorem State.markFault_rsq (s : State) (r code : Nat) :
    (s.markFault r code).rsq = (s.setRoute r { s.route r with fault := code, faulting := true }).rsq := by
  unfold State.markFault
  dsimp only
  split <;> simp

theorem State.markFault_route (s : State) {r : Nat} (code : Nat) (hr : r < 16) :
    (s.markFault r code).route r = { s.route r with fault := code, faulting := true } := by
  rw [State.route_of_rsq_eq _ _ (s.markFault_rsq r code), State.route_setRoute _ _ _ hr]

theorem State.markFault_route_ne (s : State) {r k : Nat} (code : Nat) (hk : k ≠ r) :
    (s.markFault r code).route k = s.route k := by
  rw [State.route_of_rsq_eq _ _ (s.markFault_rsq r code), State.route_setRoute_ne _ _ _ _ hk]

/-! ROUTE_START and ROUTE_STOP (R193, R259 to R263). -/

/-- A route that starts, runs or stops has not stopped. -/
theorem Route.stopped_eq_false {x : Route} (h : x.st = .starting ∨ x.st = .running ∨ x.st = .stopping) : x.stopped = false := by
  rcases h with h | h | h <;> simp [Route.stopped, h]

section
variable {s : State} {f : Part} {q : Fin 64} {c : Cmd}

/-- A ROUTE_START of a READY or FAULTED route: its FAULT and skip history go, its casks are emptied (R430) and it is STARTING. -/
def State.startedRoute (s : State) (f q : Nat) (c : Cmd) : State :=
  (((s.setCmd f q c.pos fun c => { c with begun := true }).setRoute c.target { s.route c.target with
    fault := 0, decimating := none, skips256 := [] }).resetCasks c.target).setRouteSt c.target .starting

theorem exec_routeStart_starts (hf : s.front f q 0x20 = some c) (hb : s.img.immediateBusy = false)
    (ha : s.routeAllowed f c.target = true) (hst : (s.route c.target).st = .ready ∨ (s.route c.target).st = .faulted) :
    exec (.routeStart f q) s = .next (s.startedRoute f q c) := by
  rcases hst with h | h <;> simp [exec, execRouteStart, hf, hb, ha, h, State.startedRoute]

theorem State.startedRoute_spec (s : State) (f q : Nat) (c : Cmd) (hr : c.target < 16) :
    (s.startedRoute f q c).mem = s.mem ∧ (∀ r, r ≠ c.target → (s.startedRoute f q c).route r = s.route r) ∧
      (s.startedRoute f q c).route c.target =
        { s.route c.target with st := .starting, fault := 0, decimating := none, skips256 := [] } := by
  refine ⟨by simp [State.startedRoute], fun r hne => ?_, ?_⟩ <;> unfold State.startedRoute
  · rw [State.route_setRouteSt_ne _ _ _ _ hr hne, State.route_of_rsq_eq _ _ (State.resetCasks_rsq ..),
      State.route_setRoute_ne _ _ _ _ hne, State.route_of_rsq_eq s _ (by simp)]
  · rw [State.route_setRouteSt _ _ _ hr, State.route_of_rsq_eq _ _ (State.resetCasks_rsq ..), State.route_setRoute _ _ _ hr]

/-- A ROUTE_START of a route that starts or runs completes at once. -/
theorem exec_routeStart_fixes (hf : s.front f q 0x20 = some c) (hb : s.img.immediateBusy = false)
    (ha : s.routeAllowed f c.target = true) (hst : (s.route c.target).st = .starting ∨ (s.route c.target).st = .running) :
    exec (.routeStart f q) s = .next (s.fix f q c.pos 0x00 0 (srcRoute c.target)) := by
  simp only [exec, execRouteStart, hf, hb, ha, if_pos hst, Bool.not_true, Bool.false_eq_true, if_false]

theorem exec_routeStopAtBoundary_stops (hf : s.front f q 0x21 = some c) (hp : c.param 0 1 = 0)
    (ha : s.routeAllowed f c.target = true) (hst : (s.route c.target).stopped = false) :
    exec (.routeStopAtBoundary f q) s =
      .next ((s.setCmd f q c.pos fun c => { c with begun := true }).boundaryStop c.target) := by
  simp [exec, execRouteStopAtBoundary, hf, hp, ha, hst]

theorem exec_routeStopForce_stops (hf : s.front f q 0x21 = some c) (hp : c.param 0 1 = 1)
    (ha : s.routeAllowed f c.target = true) (hst : (s.route c.target).stopped = false) :
    exec (.routeStopForce f q) s =
      .next ((s.setCmd f q c.pos fun c => { c with begun := true }).forceStop c.target) := by
  simp [exec, execRouteStopForce, hf, hp, ha, hst]

theorem exec_routeStopAtBoundary_stopped (hf : s.front f q 0x21 = some c) (hp : c.param 0 1 = 0)
    (ha : s.routeAllowed f c.target = true) (hst : (s.route c.target).stopped = true) :
    exec (.routeStopAtBoundary f q) s = .next (s.fix f q c.pos 0x00 0 (srcRoute c.target)) := by
  simp [exec, execRouteStopAtBoundary, hf, hp, ha, hst]

theorem exec_routeStopForce_stopped (hf : s.front f q 0x21 = some c) (hp : c.param 0 1 = 1)
    (ha : s.routeAllowed f c.target = true) (hst : (s.route c.target).stopped = true) :
    exec (.routeStopForce f q) s = .next (s.fix f q c.pos 0x00 0 (srcRoute c.target)) := by
  simp [exec, execRouteStopForce, hf, hp, ha, hst]

/-- The start of a command changes no route. -/
theorem State.route_setCmd (s : State) (f q pos : Nat) (g : Cmd → Cmd) (r : Nat) : (s.setCmd f q pos g).route r = s.route r :=
  State.route_of_rsq_eq _ _ (State.setCmd_rsq ..) r

end

/-- Settles O16: each clause is the lemma above for its command. -/
theorem routeStartsAndStops : Obligations.RouteStartsAndStops := by
  refine ⟨fun s f q c hf hr hb ha hst => ⟨_, exec_routeStart_starts hf hb ha hst, s.startedRoute_spec f q c hr⟩,
    fun s f q c hf hb ha hst => exec_routeStart_fixes hf hb ha hst, fun s f q c hf hr hp ha hst hall hne => ?_,
    fun s f q c hf hr hp ha hst hall hne => ?_,
    fun s f q c hf ha hst =>
      ⟨fun hp => exec_routeStopAtBoundary_stopped hf hp ha hst, fun hp => exec_routeStopForce_stopped hf hp ha hst⟩,
    fun s r hst hall hne => ?_⟩
  · have hroute : ∀ k, (s.setCmd f q c.pos fun c => { c with begun := true }).route k = s.route k :=
      s.route_setCmd f q c.pos _
    refine ⟨_, exec_routeStopAtBoundary_stops hf hp ha (Route.stopped_eq_false (hst.imp_right .inl)), ?_⟩
    rw [← hroute] at hst hall hne
    rw [State.boundaryStop_stopping hr hst hall hne]
    refine ⟨by simp, fun k hk => ?_, ?_⟩
    · rw [State.route_setRouteSt_ne _ _ _ _ hr hk, State.route_of_rsq_eq _ _ (State.noteLevel_rsq ..), hroute]
    · rw [State.route_setRouteSt _ _ _ hr, State.route_of_rsq_eq _ _ (State.noteLevel_rsq ..), hroute]
  · have hroute : ∀ k, (s.setCmd f q c.pos fun c => { c with begun := true }).route k = s.route k :=
      s.route_setCmd f q c.pos _
    refine ⟨_, exec_routeStopForce_stops hf hp ha (Route.stopped_eq_false hst), ?_⟩
    rw [← hroute] at hst hall hne
    obtain ⟨hother, hown⟩ := State.forceStop_spec hr hst hall hne
    exact ⟨fun k hk => by rw [hother k hk, hroute], by rw [hown, hroute]; rfl⟩
  · have hfault := s.markFault_route 3 r.isLt
    obtain ⟨hother, hown⟩ := State.forceStop_spec (s := s.markFault r 3) r.isLt (by rw [hfault]; exact .inr (.inl hst))
      (by rwa [hfault]) (by rwa [hfault])
    refine ⟨_, congrArg Host.Outcome.next (State.faultRoute_running 3 hst), fun k hk => ?_, ?_⟩
    · rw [hother k hk, s.markFault_route_ne 3 hk]
    · rw [hown, hfault]
      rfl

end Sys2Proof.Machine

namespace Sys2Proof.Machine

/-! The image block while a structure is taken up (R185, R205): applies may end and held records go; GEN and the slots at rest stay. -/

/-- `h` is `g` but that applies may have ended: GEN stays, and so does every slot that reads LOADED without an apply. -/
structure Img.AppliesEnd (g h : Img) : Prop where
  gen : h.gen = g.gen
  rests : ∀ (n : Nat) (x : ImgSlot), g.slots[n]? = some x → x.st = .loaded → x.apply = none → h.slots[n]? = some x

theorem Img.AppliesEnd.refl (g : Img) : g.AppliesEnd g := ⟨rfl, fun _ _ h _ _ => h⟩

theorem Img.AppliesEnd.trans {g h i : Img} (hg : g.AppliesEnd h) (hh : h.AppliesEnd i) : g.AppliesEnd i :=
  ⟨hh.gen.trans hg.gen, fun n x hx hst ha => hh.rests n x (hg.rests n x hx hst ha) hst ha⟩

theorem Img.AppliesEnd.of_eq {g h : Img} (e : h = g) : g.AppliesEnd h := e ▸ Img.AppliesEnd.refl h

/-- What leaves the image block may go before. -/
theorem Img.AppliesEnd.after {f g h : Img} (hg : g.AppliesEnd h) (e : g = f) : f.AppliesEnd h := e ▸ hg

theorem Img.endApply_ends (g : Img) (n : Nat) : g.AppliesEnd (g.endApply n) := by
  refine ⟨rfl, fun m x hx hst ha => ?_⟩
  simp only [Img.endApply, Vector.getElem?_mapIdx, hx, Option.map_some]
  split
  · rw [← hst, ← ha]
  · rfl

theorem foldl_appliesEnd {α : Type} (f : State → α → State) (h : ∀ (s : State) x, s.img.AppliesEnd (f s x).img) (l : List α) (s : State) :
    s.img.AppliesEnd (l.foldl f s).img := by
  induction l generalizing s with
  | nil => exact Img.AppliesEnd.refl s.img
  | cons x t ih => exact (h s x).trans (ih (f s x))

theorem State.endApply_img (s : State) (n : Nat) : (s.endApply n).img = s.img.endApply n := by
  unfold State.endApply
  dsimp only
  split
  · split <;> simp
  · rfl

theorem State.endApply_ends (s : State) (n : Nat) : s.img.AppliesEnd (s.endApply n).img := by
  rw [State.endApply_img]
  exact s.img.endApply_ends n

theorem State.dropApplies_ends (s : State) (p : Nat → Bool) : s.img.AppliesEnd (s.dropApplies p).img := by
  refine foldl_appliesEnd _ (fun s n => ?_) _ s
  split
  · split
    · exact s.endApply_ends n
    · exact Img.AppliesEnd.refl s.img
  · exact Img.AppliesEnd.refl s.img

theorem State.stopApply_ends (s : State) (r status detail : Nat) : s.img.AppliesEnd (s.stopApply r status detail).img := by
  refine foldl_appliesEnd _ (fun s x => ?_) _ s
  rw [State.fix_img]
  exact s.endApply_ends x.1

theorem State.releaseHeld_ends (s : State) (r : Nat) : s.img.AppliesEnd (s.releaseHeld r).img := ⟨rfl, fun _ _ h _ _ => h⟩

theorem State.finishStop_ends (s : State) (r : Nat) : s.img.AppliesEnd (s.finishStop r).img :=
  ((State.stopApply_ends _ r 0x12 r).trans (State.releaseHeld_ends _ r)).after (by simp)

theorem State.drainRoute_ends (s : State) (r : Nat) : s.img.AppliesEnd (s.drainRoute r).img := by
  have hframes : (s.endFrames r).img = s.img := by simp [State.endFrames, foldl_img]
  rw [State.drainRoute_eq]
  split
  · exact ((s.endFrames r).finishStop_ends r).after hframes
  · exact Img.AppliesEnd.of_eq hframes

theorem State.forceStop_ends (s : State) (r : Nat) : s.img.AppliesEnd (s.forceStop r).img := by
  unfold State.forceStop
  dsimp only
  split
  · split
    · exact (State.finishStop_ends _ r).after (by simp)
    · exact (State.drainRoute_ends _ r).after (by simp)
  · exact Img.AppliesEnd.refl s.img

theorem State.refreshRoutes_ends (s : State) : s.img.AppliesEnd s.refreshRoutes.img := by
  refine foldl_appliesEnd _ (fun s r => ?_) _ s
  dsimp only
  split
  · exact Img.AppliesEnd.of_eq (by split <;> simp)
  · split
    · exact Img.AppliesEnd.of_eq (by simp)
    · split
      · exact Img.AppliesEnd.refl s.img
      · exact s.forceStop_ends r

theorem State.partitionReset_ends (s : State) (f : Nat) (tdi : Tdi) (cause : String) :
    s.img.AppliesEnd (s.partitionReset f tdi cause).img := by
  unfold State.partitionReset
  dsimp only
  split
  · exact Img.AppliesEnd.refl s.img
  · split
    · exact Img.AppliesEnd.refl s.img
    · split
      · exact Img.AppliesEnd.refl s.img
      · refine .trans ?_ (foldl_appliesEnd _ (fun s r => ?_) _ _)
        · simp only [State.noteLevel_img, State.dropWork_img]
          exact (State.dropApplies_ends _ _).after (State.note_img ..)
        · split
          · exact s.forceStop_ends r
          · exact Img.AppliesEnd.refl s.img

theorem State.enforceParts_ends (s : State) (old : Struct) : s.img.AppliesEnd (s.enforceParts old).img := by
  unfold State.enforceParts
  rw [State.refreshVfs_img]
  refine foldl_appliesEnd _ (fun s p => ?_) _ s
  have hreset (c : Prop) [Decidable c] : s.img.AppliesEnd (if c then s.partitionReset p .error "TDI ERROR" else s).img := by
    split
    · exact s.partitionReset_ends p .error "TDI ERROR"
    · exact Img.AppliesEnd.refl s.img
  exact hreset _

/-- Taking up a structure ends applies at most, of the functions that are reset and of the routes that stop. -/
theorem State.enforce_ends (s : State) (old : Struct) (core : Option Bytes) : s.img.AppliesEnd (s.enforce old core).img := by
  unfold State.enforce
  refine .trans ?_ (State.refreshRoutes_ends _)
  rw [State.enforceExports_img, State.enforceLinks_img]
  exact (State.enforceParts_ends _ old).after (by simp)

/-! Image slots and applies: what comes into force, what is refused and what misses its window. -/

theorem State.slot_of_getElem? {s : State} {n : Nat} {x : ImgSlot} (h : s.img.slots[n]? = some x) : s.slot n = x := by
  simp [State.slot, h]

theorem State.lt_of_apply {s : State} {n : Nat} {a : Apply} (h : (s.slot n).apply = some a) : n < 8 := by
  by_contra hn
  simp [State.slot, hn] at h

theorem State.slot_endApply (s : State) {n : Nat} (hn : n < 8) :
    (s.endApply n).img.slots[n]? = some { s.slot n with st := .loaded, apply := none } := by
  simp [State.endApply_img, Img.endApply, State.slot, hn]

/-- An image in force before any block takes it up: its sections stand, its apply is over and GEN has counted it (R181, R185, R192). -/
def State.placeImage (s : State) (n : Nat) (a : Apply) : State :=
  let t : State := State.endApply { s with img := s.img.putSections (imgSects (s.slot n).image) (decide (a.point = .frame)) } n
  { t with img := { t.img with gen := t.img.gen + 1 } }

theorem State.placeImage_spec (s : State) {n : Nat} (a : Apply) (hn : n < 8) :
    (s.placeImage n a).img.gen = s.img.gen + 1 ∧
      (s.placeImage n a).img.sect = (s.img.putSections (imgSects (s.slot n).image) (decide (a.point = .frame))).sect ∧
      (s.placeImage n a).img.slots[n]? = some { s.slot n with st := .loaded, apply := none } := by
  refine ⟨?_, ?_, State.slot_endApply _ hn⟩ <;> simp [State.placeImage, State.endApply_img, Img.endApply, Img.putSections]

/-- An apply comes into force: every block takes up the structure, and the command completes (R181, R192, R198). -/
theorem State.applySlot_img {s : State} {n : Nat} {a : Apply} (ha : (s.slot n).apply = some a) :
    (s.applySlot n).img = ((s.placeImage n a).enforce s.struct (imgRec (imgRecords (s.slot n).image) 0x10)).img := by
  unfold State.applySlot
  rw [ha]
  simp [State.placeImage]

theorem State.applySlot_spec {s : State} {n : Nat} {a : Apply} (ha : (s.slot n).apply = some a) :
    (s.applySlot n).img.gen = s.img.gen + 1 ∧ (s.applySlot n).slot n = { s.slot n with st := .loaded, apply := none } ∧
      (s.applySlot n).img.sect = (s.img.putSections (imgSects (s.slot n).image) (decide (a.point = .frame))).sect := by
  obtain ⟨hgen, hsect, hslot⟩ := s.placeImage_spec a (State.lt_of_apply ha)
  have hends := (s.placeImage n a).enforce_ends s.struct (imgRec (imgRecords (s.slot n).image) 0x10)
  refine ⟨?_, State.slot_of_getElem? ?_, ?_⟩ <;> rw [State.applySlot_img ha]
  · rw [hends.gen, hgen]
  · exact hends.rests n _ hslot rfl rfl
  · rw [State.enforce_sect, hsect]

/-- A FRAME apply that is alone on its route stands in its slot. -/
theorem State.slot_of_frameApplies {s : State} {r n : Nat} {a : Apply} (h : s.img.frameApplies r = [(n, a)]) :
    (s.slot n).apply = some a ∧ a.point = .frame := by
  have hmem : (n, a) ∈ s.img.frameApplies r := by simp [h]
  obtain ⟨⟨x, m⟩, hx, hsome⟩ := List.mem_filterMap.1 hmem
  have hslot : s.img.slots[m]? = some x := by simpa [List.mem_zipIdx_iff_getElem?] using hx
  dsimp only at hsome
  split at hsome
  · next b hb =>
    split at hsome
    · next hp =>
      obtain ⟨rfl, rfl⟩ : m = n ∧ b = a := by simpa using hsome
      exact ⟨by rw [State.slot_of_getElem? hslot, hb], hp.1⟩
    · cases hsome
  · cases hsome

theorem exec_immediateApplyInForce {s : State} {n : Nat} (h : ((List.range 8).find? fun n =>
    ((s.slot n).apply.map fun a => a.validated && decide (a.point = .immediate)).getD false) = some n) :
    exec .immediateApplyInForce s = .next (s.applySlot n) := by
  simp only [exec, execImmediateApplyInForce, h]

theorem exec_frameApplySwap_swaps {s : State} {r : Fin 16} {n : Nat} {a : Apply} (h : s.img.frameApplies r = [(n, a)])
    (hw : a.window = some true) : exec (.frameApplySwap r) s = .next (s.swapFrame r n a) := by
  simp [exec, execFrameApplySwap, State.settleWindows, h, hw]

theorem exec_frameApplySwap_misses {s : State} {r : Fin 16} {n : Nat} {a : Apply} (h : s.img.frameApplies r = [(n, a)])
    (hw : a.window = some false) : exec (.frameApplySwap r) s = .next (s.missFrame r n a) := by
  simp [exec, execFrameApplySwap, State.settleWindows, h, hw]

/-- The sections that result depend on the sections that stand. -/
theorem Img.putSections_sect {g h : Img} (e : h.sect = g.sect) (l : List ImgSect) (merge : Bool) :
    (h.putSections l merge).sect = (g.putSections l merge).sect := by
  simp only [Img.putSections, e]

/-- A FRAME apply that meets its window comes into force in a state whose slots and sections are those of before (R198, R203). -/
theorem State.swapFrame_eq (s : State) (r n : Nat) (a : Apply) : ∃ u : State, s.swapFrame r n a = u.applySlot n ∧
    u.img.gen = s.img.gen ∧ u.img.sect = s.img.sect ∧ u.slot n = s.slot n :=
  ⟨_, rfl, rfl, rfl, rfl⟩

theorem State.swapFrame_spec {s : State} {r n : Nat} {a : Apply} (ha : (s.slot n).apply = some a) (hp : a.point = .frame) :
    (s.swapFrame r n a).img.gen = s.img.gen + 1 ∧
      (s.swapFrame r n a).img.sect = (s.img.putSections (imgSects (s.slot n).image) true).sect := by
  obtain ⟨u, hu, hgen, hsect, hslot⟩ := s.swapFrame_eq r n a
  obtain ⟨hgen', -, hsect'⟩ := State.applySlot_spec (s := u) (by rw [hslot, ha])
  rw [hu]
  refine ⟨by rw [hgen', hgen], ?_⟩
  rw [hsect', hslot, hp, Img.putSections_sect hsect, decide_eq_true rfl]

theorem State.settleSwap_frame (s : State) (r : Nat) : s.settleSwap r = { s with rsq := (s.settleSwap r).rsq } := by
  unfold State.settleSwap
  split <;> rfl

/-- A miss leaves the structure in force and is counted (R204). -/
theorem State.missFrame_spec (s : State) (r n : Nat) (a : Apply) :
    let t := s.missFrame r n a
    t = { s with rsq := t.rsq, img := t.img, log := t.log } ∧ t.img.sect = s.img.sect ∧ t.img.gen = s.img.gen ∧
      t.img.missRoute = r ∧ t.img.missCount = satN 0xFFFF (s.img.missCount + 1) := by
  dsimp only [State.missFrame]
  rw [State.settleSwap_frame]
  exact ⟨rfl, rfl, rfl, rfl, rfl⟩

/-- The image block after a refusal: the apply is over, and an IMAGE_REJECTED stands in TOP_IMG_LAST (R184). -/
theorem State.rejectApply_img (s : State) (n : Nat) (a : Apply) (status detail : Nat) : (s.rejectApply n a status detail).img =
    Img.endApply (if status = 0x30 then { s.img with lastReason := detail, lastSlot := n, lastPart := a.part } else s.img) n := by
  unfold State.rejectApply
  simp only [State.fix_img, State.endApply_img, State.note_img]
  split <;> rfl

theorem State.rejectApply_spec (s : State) (n : Fin 8) (a : Apply) (status detail : Nat) :
    let t := s.rejectApply n a status detail
    t.struct = s.struct ∧ t.mem = s.mem ∧ (t.slot n).apply = none ∧ (t.slot n).image = (s.slot n).image ∧
      (status = 0x30 → t.img.lastReason = detail ∧ t.img.lastSlot = n ∧ t.img.lastPart = a.part) ∧
      (status ≠ 0x30 → t.img.lastReason = s.img.lastReason) := by
  dsimp only
  refine ⟨State.struct_of_sect ?_, s.rejectApply_mem n a status detail, ?_, ?_, fun h => ?_, fun h => ?_⟩
  · rw [State.rejectApply_img]
    split <;> rfl
  · rw [State.slot, State.rejectApply_img]
    split <;> simp [Img.endApply]
  · rw [State.slot, State.rejectApply_img]
    split <;> simp [Img.endApply, State.slot]
  · rw [State.rejectApply_img, if_pos h]
    exact ⟨rfl, rfl, rfl⟩
  · rw [State.rejectApply_img, if_neg h]
    rfl

/-- Settles O20: the end of validation is read off its meaning, and each other clause is the lemma above for its command. -/
theorem imagesComeIntoForce : Obligations.ImagesComeIntoForce := by
  refine ⟨fun s n a ha hv => ?_, fun s n a h ha => ?_,
    fun s r n a h hw => ?_, fun s r n a h hw => ⟨_, exec_frameApplySwap_misses h hw, s.missFrame_spec r n a⟩,
    fun s n a status detail => ⟨_, rfl, s.rejectApply_spec n a status detail⟩⟩
  · simp only [exec, execImageValidationDone, ha, hv, Bool.false_eq_true, if_false]
    cases s.validate (s.slot n).image a.part a.point n a.route with
    | none => rfl
    | some x => rfl
  · obtain ⟨hgen, hslot, hsect⟩ := State.applySlot_spec ha
    obtain ⟨-, hpoint⟩ : a.validated = true ∧ a.point = .immediate := by simpa [ha] using List.find?_some h
    exact ⟨_, exec_immediateApplyInForce h, hgen, hslot, by rw [hsect, hpoint]; rfl⟩
  · obtain ⟨ha, hp⟩ := State.slot_of_frameApplies h
    exact ⟨_, exec_frameApplySwap_swaps h hw, State.swapFrame_spec ha hp⟩

end Sys2Proof.Machine

namespace Sys2Proof.Machine

/-! The stream switch (R237 to R241): what a change of a destination port leaves, and what becomes of a connection's front beat. -/

theorem State.dstPort_mapDst_same (s : State) {d : Nat} (g : SwPort → SwPort) (h : d < 48) :
    (s.mapDst d g).dstPort d = g (s.dstPort d) := by
  simp [State.dstPort, State.mapDst, h]

theorem State.dstPort_mapDst_other (s : State) {d k : Nat} (g : SwPort → SwPort) (h : k ≠ d) :
    (s.mapDst d g).dstPort k = s.dstPort k := by
  simp [State.dstPort, State.mapDst, Ne.symm h]

/-- A change of one destination port leaves the other ports, and everything outside the stream switch. -/
theorem State.mapDst_spec (s : State) (d : Fin 48) (g : SwPort → SwPort) :
    s.mapDst d g = { s with sw := (s.mapDst d g).sw } ∧ (s.mapDst d g).dstPort d = g (s.dstPort d) ∧
      ∀ k, k ≠ d.val → (s.mapDst d g).dstPort k = s.dstPort k :=
  ⟨rfl, s.dstPort_mapDst_same g d.isLt, fun _ hk => s.dstPort_mapDst_other g hk⟩

theorem State.mapDst_mapDst (s : State) {d : Nat} (g h : SwPort → SwPort) (hd : d < 48) :
    (s.mapDst d g).mapDst d h = s.mapDst d fun p => h (g p) := by
  simp [State.mapDst, State.dstPort, hd]

theorem State.mapDst_eq_self (s : State) {d : Nat} {g : SwPort → SwPort} (h : g (s.dstPort d) = s.dstPort d) :
    s.mapDst d g = s := by
  have hdst : s.sw.dst.setIfInBounds d (s.dstPort d) = s.sw.dst := by
    ext k hk : 1
    rw [Vector.getElem_setIfInBounds]
    split
    · next e => simp [State.dstPort, e, hk]
    · rfl
  rw [State.mapDst, h, hdst]

/-- A held beat that its stage still awaits stays held (R237). -/
theorem takeLine_awaited {takes awaits : Beat → Bool} {b : Beat} (ht : takes b = false) (ha : awaits b = true) (line t : List Beat) :
    takeLine takes awaits line (b :: t) = (line, b :: t) := by
  simp [takeLine, ht, ha]

theorem State.drainDst_awaited {s : State} {d : Nat} {b : Beat} {t : List Beat} {r : Bytes} (hheld : (s.dstPort d).held = b :: t)
    (hr : s.connection d = some r) (ht : s.stageTakes (dstInput d).1 (dstInput d).2 b = false)
    (ha : s.stageAwaits (dstInput d).1 (dstInput d).2 (byteAt r 6) b = true) : s.drainDst d = s := by
  simp only [State.drainDst, hr, hheld, Option.map_some, Option.getD_some, takeLine_awaited ht ha]
  exact s.mapDst_eq_self (by rw [← hheld])

section
variable {s : State} {d : Fin 48} {b : Beat} {l : List Beat} {r : Bytes}

/-- A beat that no node takes or awaits is discarded (R239, R240). -/
theorem exec_streamBeatDeliver_discards (hw : (s.dstPort d).waiting = b :: l) (hr : s.connection d = some r) (hd : d.val < 13)
    (ht : s.stageTakes (dstInput d).1 (dstInput d).2 b = false)
    (ha : s.stageAwaits (dstInput d).1 (dstInput d).2 (byteAt r 6) b = false) :
    exec (.streamBeatDeliver d) s = .next (s.mapDst d fun p => { p with waiting := l }) := by
  simp [exec, execStreamBeatDeliver, State.deliverBeat, hw, hr, hd, ht, ha]

/-- A beat that a node still awaits takes a credit and is held (R237, R241). -/
theorem exec_streamBeatDeliver_holds (hw : (s.dstPort d).waiting = b :: l) (hr : s.connection d = some r) (hd : d.val < 13)
    (ht : s.stageTakes (dstInput d).1 (dstInput d).2 b = false)
    (ha : s.stageAwaits (dstInput d).1 (dstInput d).2 (byteAt r 6) b = true) (hh : (s.dstPort d).held = [])
    (hc : 0 < field r 10 2) :
    exec (.streamBeatDeliver d) s = .next (s.mapDst d fun p => { p with waiting := l, held := [b] }) := by
  have hstate : exec (.streamBeatDeliver d) s =
      .next ((s.mapDst d fun p => { p with waiting := l, held := p.held ++ [b] }).drainDst d) := by
    simp [exec, execStreamBeatDeliver, State.deliverBeat, State.mapDst_mapDst, hw, hr, hd, ht, ha, hh, hc]
  have hdrain := State.drainDst_awaited (s := s.mapDst d fun p => { p with waiting := l, held := p.held ++ [b] }) (d := d)
    (by rw [State.dstPort_mapDst_same _ _ d.isLt, hh]; rfl) hr ht ha
  rw [hstate, hdrain]
  simp [State.mapDst, hh]

/-- A cask port takes a beat while a credit is left (R241). -/
theorem exec_streamBeatDeliver_cask (hw : (s.dstPort d).waiting = b :: l) (hr : s.connection d = some r) (h13 : 13 ≤ d.val)
    (h29 : d.val < 29) (hc : (s.dstPort d).held.length < field r 10 2) :
    exec (.streamBeatDeliver d) s = .next (s.mapDst d fun p => { p with waiting := l, held := p.held ++ [b] }) := by
  simp [exec, execStreamBeatDeliver, State.deliverBeat, State.mapDst_mapDst, hw, hr, h13.not_gt, h29, hc]

/-- Without a credit the beat waits at its source (R241). -/
theorem exec_streamBeatDeliver_waits (hw : (s.dstPort d).waiting = b :: l) (hr : s.connection d = some r) (h13 : 13 ≤ d.val)
    (h29 : d.val < 29) (hc : field r 10 2 ≤ (s.dstPort d).held.length) : exec (.streamBeatDeliver d) s = .next s := by
  simp [exec, execStreamBeatDeliver, State.deliverBeat, hw, hr, h13.not_gt, h29, hc.not_gt]

theorem exec_streamBeatDeliver_window (hw : (s.dstPort d).waiting = b :: l) (hr : s.connection d = some r) (h29 : 29 ≤ d.val) :
    exec (.streamBeatDeliver d) s = .next (s.mapDst d fun p => { p with waiting := l }) := by
  have h13 : ¬ d.val < 13 := by omega
  simp [exec, execStreamBeatDeliver, State.deliverBeat, hw, hr, h13, h29.not_gt]

end

section
variable {s u : State} {i : Fin 10} {p : Fin 2} {j : StageJob} {b : Beat}

/-- A whole line of a level that the node works on goes into the stage (R303, R305). -/
theorem exec_stageInputLine_takes {k : Nat} (hu : s.drainDst (inputDst i p) = u) (hj : u.job i = some j)
    (hb : (u.dstPort (inputDst i p)).line.getLast? = some b) (hlast : b.last = true) (hopen : b.closing = false)
    (htaste : u.tastingOn (stageSrc i) = false) (hstall : u.stageStalled i = false)
    (hk : u.lineLevel i j (inputDst i p) b.plane = some k) :
    exec (.stageInputLine i p) s = .next (((u.mapDst (inputDst i p) fun x => { x with line := [] }).putLine i p j b.ctx b.frame k
      ((u.dstPort (inputDst i p)).line.flatMap fun x => x.data.take x.bytes) ((u.dstPort (inputDst i p)).line.any (·.poison))).advance
        i b.ctx) := by
  have hk' : (u.mapDst (inputDst i p) fun x => { x with line := [] }).lineLevel i j (inputDst i p) b.plane = some k := hk
  simp [exec, execStageInputLine, hu, hj, hb, hlast, hopen, htaste, hstall, hk']

/-- A closing beat closes the stage's input (R278, R307). -/
theorem exec_stageInputLine_closes (hu : s.drainDst (inputDst i p) = u) (hj : u.job i = some j)
    (hb : (u.dstPort (inputDst i p)).line.getLast? = some b) (hclose : b.closing = true)
    (htaste : u.tastingOn (stageSrc i) = false) (hstall : u.stageStalled i = false) :
    exec (.stageInputLine i p) s =
      .next (((u.mapDst (inputDst i p) fun x => { x with line := [] }).closeInput i p j b.ctx).advance i b.ctx) := by
  simp [exec, execStageInputLine, hu, hj, hb, hclose, htaste, hstall]

end

/-- Settles O28: a beat that crosses changes one destination port, or none, and each clause is the lemma above for its case. -/
theorem beatsAndInputLines : Obligations.BeatsAndInputLines :=
  ⟨fun s d _ _ _ hw hr hd ht ha => ⟨_, exec_streamBeatDeliver_discards hw hr hd ht ha, s.mapDst_spec d _⟩,
    fun s d _ _ _ hw hr hd ht ha hh hc => ⟨_, exec_streamBeatDeliver_holds hw hr hd ht ha hh hc, s.mapDst_spec d _⟩,
    fun s d _ _ _ hw hr h13 h29 hc => ⟨_, exec_streamBeatDeliver_cask hw hr h13 h29 hc, s.mapDst_spec d _⟩,
    fun _ _ _ _ _ hw hr h13 h29 hc => exec_streamBeatDeliver_waits hw hr h13 h29 hc,
    fun s d _ _ _ hw hr h29 => ⟨_, exec_streamBeatDeliver_window hw hr h29, s.mapDst_spec d _⟩,
    fun _ _ _ _ _ _ hj hb hlast hopen htaste hstall hk => exec_stageInputLine_takes rfl hj hb hlast hopen htaste hstall hk,
    fun _ _ _ _ _ hj hb hclose htaste hstall => exec_stageInputLine_closes rfl hj hb hclose htaste hstall⟩

end Sys2Proof.Machine

namespace Sys2Proof.Machine

/-! Camera contexts (R272 to R278, R283, R285): what a change of one context leaves, and what opens and closes its frames. -/

theorem State.ctx_mapCtx_same (s : State) {c : Nat} (g : Ctx → Ctx) (h : c < 64) : (s.mapCtx c g).ctx c = g (s.ctx c) := by
  simp [State.ctx, State.mapCtx, h]

theorem State.ctx_mapCtx_other (s : State) {c k : Nat} (g : Ctx → Ctx) (h : k ≠ c) : (s.mapCtx c g).ctx k = s.ctx k := by
  simp [State.ctx, State.mapCtx, Ne.symm h]

theorem State.ctx_of_cin_eq {s t : State} (h : t.cin = s.cin) (k : Nat) : t.ctx k = s.ctx k := by simp [State.ctx, h]

/-- A bad header is counted at its port, and nothing else changes (R272). -/
theorem State.badHeader_spec (s : State) (p : Fin 16) :
    s.badHeader p = { s with cin := { s.cin with ports := (s.badHeader p).cin.ports } } ∧
      (s.badHeader p).cin.ports[p] = { s.cin.ports[p] with hsActive := true, hdr := satN 0xFFFF (s.cin.ports[p].hdr + 1) } :=
  ⟨rfl, by simp [State.badHeader, State.mapCam]⟩

section
variable {s : State} {p vc : Fin 16}

theorem exec_frameStart_bad (hp : s.camHears p = true) : exec (.frameStart p vc .bad) s = .next (s.badHeader p) := by
  simp [exec, execFrameStart, hp]

theorem exec_frameEnd_bad (hp : s.camHears p = true) : exec (.frameEnd p vc .bad) s = .next (s.badHeader p) := by
  simp [exec, execFrameEnd, hp]

theorem exec_longPacket_bad (hp : s.camHears p = true) (dt : Nat) (px : List Nat) (ok : Bool) :
    exec (.longPacket p vc dt .bad px ok) s = .next (s.badHeader p) := by
  simp [exec, execLongPacket, hp]

/-- A Frame Start for one context is that context's frame-start event (R273). -/
theorem exec_frameStart_one {h : HdrEcc} {c : Nat} (hp : s.camHears p = true) (hh : h ≠ .bad) (hc : s.ctxsOn p vc = [c]) :
    exec (.frameStart p vc h) s = .next ((s.active p).startCtx c) := by
  simp [exec, execFrameStart, hp, hh, hc]

/-- A Frame End for one context closes its open frame, short when it was cut or lines are missing (R278). -/
theorem exec_frameEnd_one {h : HdrEcc} {c : Nat} {f : CtxFrame} (hp : s.camHears p = true) (hh : h ≠ .bad)
    (hc : s.ctxsOn p vc = [c]) (hf : (s.ctx c).openFrame = some f) :
    exec (.frameEnd p vc h) s = .next ((s.active p).closeFrame c (f.cut || decide (f.arrived < (s.ctxSize c).2))) := by
  have hf' : ((s.active p).ctx c).openFrame = some f := hf
  have hsize : (s.active p).ctxSize c = s.ctxSize c := rfl
  simp [exec, execFrameEnd, hp, hh, hc, hf', hsize]

end

/-- A frame that starts now with EXPO_SOURCE 0 is exposed at its start less the set's offset (R275). -/
theorem State.exposureNow_source0 (s : State) {set : Bytes} (h : byteAt set 4 = 0) :
    (s.exposureNow set).1 = (s.gtcNs + 2 ^ 64 - field set 8 4) % 2 ^ 64 := by
  simp [State.exposureNow, h]

theorem State.closeFrame_none {s : State} {c : Nat} (short : Bool) (h : (s.ctx c).openFrame = none) : s.closeFrame c short = s := by
  simp only [State.closeFrame, h]

/-- The frame that a frame-start event opens: its number is the counter's value (R217), its start the GTC (R273), its set the shadow
copy unless that was written in this cycle (R283, R285). -/
def State.newFrame (s : State) (c : Nat) : CtxFrame :=
  let set := (s.ctx c).governing s.clk
  { id := (s.ctx c).events % 2 ^ 32, start := s.gtcNs, exposure := (s.exposureNow set).1, set := set
    fallback := (s.exposureNow set).2 }

/-- A context once a frame has opened in it. -/
def Ctx.opened (x : Ctx) (f : CtxFrame) : Ctx :=
  { x with
    events := x.events + 1, active := f.set, frames := x.frames ++ [f], recent := ((f.id, f.start, f.exposure) :: x.recent).take 16 }

/-- A frame-start event of a context without an open frame opens one, and the routes leave the contexts alone. -/
theorem State.startCtx_cin {s : State} {c : Nat} (h : (s.ctx c).openFrame = none) :
    (s.startCtx c).cin = (s.mapCtx c fun x => x.opened (s.newFrame c)).cin := by
  simp only [State.startCtx, State.closeFrame_none true h, State.frameStartEvent_cin]
  rfl

theorem State.startCtx_spec {s : State} {c : Nat} (hc : c < 64) (h : (s.ctx c).openFrame = none) :
    (s.startCtx c).ctx c = (s.ctx c).opened (s.newFrame c) ∧ ∀ k, k ≠ c → (s.startCtx c).ctx k = s.ctx k :=
  ⟨by rw [State.ctx_of_cin_eq (State.startCtx_cin h), State.ctx_mapCtx_same _ _ hc],
    fun k hk => by rw [State.ctx_of_cin_eq (State.startCtx_cin h), State.ctx_mapCtx_other _ _ hk]⟩

/-- A context without its frames: its counters, its sets and the status of its last closed frame (Table 7-8). -/
def Ctx.status (x : Ctx) : Ctx := { x with frames := [] }

/-- A change of one context's frames leaves its status and the other contexts. -/
theorem State.mapCtx_status {s t : State} {c : Nat} {g : Ctx → Ctx} (hc : c < 64) (ht : t.cin = s.cin)
    (hg : ∀ x, (g x).status = x.status) :
    ((t.mapCtx c g).ctx c).status = (s.ctx c).status ∧ ∀ k, k ≠ c → (t.mapCtx c g).ctx k = s.ctx k :=
  ⟨by rw [State.ctx_mapCtx_same _ _ hc, hg, State.ctx_of_cin_eq ht],
    fun k hk => by rw [State.ctx_mapCtx_other _ _ hk, State.ctx_of_cin_eq ht]⟩

/-- What a pipe sends of a frame (R282, R298) leaves every other context, and of its own all but the frames. -/
theorem State.emitFrame_status (s : State) {c : Nat} (hc : c < 64) (id : Nat) :
    ((s.emitFrame c id).ctx c).status = (s.ctx c).status ∧ ∀ k, k ≠ c → (s.emitFrame c id).ctx k = s.ctx k := by
  unfold State.emitFrame
  dsimp only
  split
  · split
    · refine State.mapCtx_status hc ?_ fun _ => rfl
      split
      · rw [foldl_cin _ fun s o => by split <;> simp, State.emitChroma_cin, foldlPair_cin _ fun a k => by simp]
      · rw [State.emitChroma_cin, foldlPair_cin _ fun a k => by simp]
    · exact State.mapCtx_status hc (foldlPair_cin _ (fun a k => by simp) _ _) fun _ => rfl
  · exact ⟨rfl, fun _ _ => rfl⟩

/-- A context whose open frame `f` has closed, before its pipe sends the frame's last lines: Table 7-8 takes the frame's account. -/
def Ctx.closed (x : Ctx) (f : CtxFrame) (short : Bool) : Ctx :=
  { x.mapFrame f.id (fun f => { f with closed := some short }) with
    fallback := f.fallback, longLine := f.longLine, extraLines := f.extraLines, lines := f.arrived
    short := if short then satN 0xFFFFFFFF (x.short + 1) else x.short }

theorem State.closeFrame_open {s : State} {c : Nat} {f : CtxFrame} (short : Bool) (h : (s.ctx c).openFrame = some f) :
    s.closeFrame c short = (s.mapCtx c fun x => x.closed f short).emitFrame c f.id := by
  simp only [State.closeFrame, h]
  rfl

theorem State.closeFrame_spec {s : State} {c : Nat} {f : CtxFrame} (short : Bool) (hc : c < 64)
    (h : (s.ctx c).openFrame = some f) :
    ((s.closeFrame c short).ctx c).status = ((s.ctx c).closed f short).status ∧
      ∀ k, k ≠ c → (s.closeFrame c short).ctx k = s.ctx k := by
  obtain ⟨hown, hother⟩ := (s.mapCtx c fun x => x.closed f short).emitFrame_status hc f.id
  rw [State.closeFrame_open short h]
  exact ⟨by rw [hown, State.ctx_mapCtx_same _ _ hc], fun k hk => by rw [hother k hk, State.ctx_mapCtx_other _ _ hk]⟩

/-- Settles O26: a bad header changes its port alone, a Frame Start opens a frame in its context, a Frame End closes the open one. -/
theorem cameraFrames : Obligations.CameraFrames := by
  refine ⟨fun s p vc dt px ok hp => ?_, fun s p vc h c hp hh hc hf => ?_, fun s p vc h c f hp hh hc hf => ?_⟩
  · exact ⟨_, rfl, exec_frameStart_bad hp, exec_frameEnd_bad hp, exec_longPacket_bad hp dt px ok, s.badHeader_spec p⟩
  · obtain ⟨hown, hother⟩ := State.startCtx_spec (s := s.active p) c.isLt hf
    refine ⟨_, exec_frameStart_one hp hh hc, ?_⟩
    rw [hown]
    exact ⟨rfl, rfl, rfl, hother, (s.active p).newFrame c, rfl, rfl, rfl, rfl, rfl, s.exposureNow_source0⟩
  · obtain ⟨hown, hother⟩ := State.closeFrame_spec (s := s.active p) (f.cut || decide (f.arrived < (s.ctxSize c).2)) c.isLt hf
    refine ⟨_, exec_frameEnd_one hp hh hc hf, congrArg Ctx.lines hown, congrArg Ctx.fallback hown, congrArg Ctx.longLine hown,
      congrArg Ctx.extraLines hown, (congrArg Ctx.events hown :), (congrArg Ctx.short hown).trans ?_, hother⟩
    simp only [Ctx.closed, Bool.or_eq_true, decide_eq_true_eq]
    rfl

end Sys2Proof.Machine

namespace Sys2Proof.Machine

/-! The cores' rules: what a change of one core or cask leaves. -/

theorem State.core_setCore_same (s : State) {c : Nat} (x : Core) (h : c < 64) : (s.setCore c x).core c = x := by
  simp [State.core, State.setCore, h]

theorem State.core_setCore_other (s : State) {c k : Nat} (x : Core) (h : k ≠ c) : (s.setCore c x).core k = s.core k := by
  simp [State.core, State.setCore, Ne.symm h]

theorem State.core_of_nec_eq {s t : State} (h : t.nec = s.nec) (k : Nat) : t.core k = s.core k := by simp [State.core, h]

theorem Core.cask_setCask_same (x : Core) {k : Nat} (v : CaskSt) (h : k < 16) : (x.setCask k v).cask k = v := by
  simp [Core.cask, Core.setCask, h]

section
variable {s : State}

/-- A cask after a beat that does not close its line has joined the row that the port gathers (R427, R429). -/
def CaskSt.joined (x : CaskSt) (b : Beat) : CaskSt :=
  { x with
    row := x.row ++ slice b.data 0 64, closing := false, frame := b.frame
    rowPoison := if b.poison then x.rowPoison ++ [x.row.length / 32, x.row.length / 32 + 1] else x.rowPoison }

section
variable {p : Fin 16} {b : Beat} {l : List Beat} {r : Bytes}

/-- A beat of a frame that the route takes joins its cask's row and returns its credit (R241, R427, R429). -/
theorem exec_caskBeatArrival_joins (hh : (s.dstPort (13 + p)).held = b :: l) (hr : s.connection (13 + p) = some r)
    (hw : (s.route (byteAt r 6)).wants (((s.struct.route (byteAt r 6)).map (byteAt · 7)).getD 64) b = true)
    (hroom : ((s.core (byteAt r 8)).cask (byteAt r 9)).row.length < 512) (hopen : b.closing = false) :
    exec (.caskBeatArrival p) s = .next ((s.mapDst (13 + p) fun d => { d with held := l }).setCore (byteAt r 8)
      ((s.core (byteAt r 8)).setCask (byteAt r 9) (((s.core (byteAt r 8)).cask (byteAt r 9)).joined b))) := by
  have hh' : ((s.sw.dst[13 + p.val]?).getD {}).held = b :: l := hh
  simp only [exec, execCaskBeatArrival, hh', hr, hw, hopen, Bool.not_true, Bool.false_eq_true, if_false, if_neg hroom.not_ge]
  rfl

/-- A beat of another frame is discarded and returns its credit (R241, R429). -/
theorem exec_caskBeatArrival_discards (hh : (s.dstPort (13 + p)).held = b :: l) (hr : s.connection (13 + p) = some r)
    (hw : (s.route (byteAt r 6)).wants (((s.struct.route (byteAt r 6)).map (byteAt · 7)).getD 64) b = false) :
    exec (.caskBeatArrival p) s = .next (s.mapDst (13 + p) fun d => { d with held := l }) := by
  have hh' : ((s.sw.dst[13 + p.val]?).getD {}).held = b :: l := hh
  simp only [exec, execCaskBeatArrival, hh', hr, hw, Bool.not_false, if_true]
  rfl

end

section
variable {c : Fin 64}

theorem exec_caskRowWrite_writes {k : Fin 16} {r : Bytes} (hr : s.caskRec c k = some r) (hs : (caskCfg r).stream = true)
    (hrow : 512 ≤ ((s.core c).cask k).row.length)
    (hroom : 512 ≤ (caskCfg r).size - ((s.core c).cask k).level (caskCfg r).size) :
    exec (.caskRowWrite c k) s = .next (s.setCore c ((((s.core c).setCask k { (s.core c).cask k with
      row := ((s.core c).cask k).row.drop 512, rowPoison := [] }).caskPush k (caskCfg r) (((s.core c).cask k).row.take 512)
        ((s.core c).cask k).rowPoison).mark (!((s.core c).cask k).rowPoison.isEmpty))) := by
  simp [exec, execCaskRowWrite, hr, hs, hrow, hroom]

theorem exec_caskStallRelease_cadv {i n : Nat} {r : Bytes} (hs : (s.core c).stall = some (.cadv i n)) (hr : s.caskRec c i = some r)
    (hn : n ≤ ((s.core c).cask i).level (caskCfg r).size) :
    exec (.caskStallRelease c) s = .next (s.finish c ((s.core c).setCask i (((s.core c).cask i).pop (caskCfg r).size n))) := by
  simp [exec, execCaskStallRelease, hs, hr, hn]

/-- An opcode of no instruction faults the task that would issue it (R443). -/
theorem exec_illegalInstruction_faults {w : U64} {t : Task} (hop : opcodeNamed (w.toNat % 256) = false)
    (hfree : s.free_ c t = true) (hpc : (s.core c).pc + 8 ≤ t.codeLen) :
    exec (.illegalInstruction c w) s = .next (s.taskFault c 0x05 none) := by
  obtain ⟨⟨⟨htask, hstall⟩, hdebug⟩, htaste⟩ : (((s.core c).task = some t ∧ (s.core c).stall = none) ∧
      s.heldByDebug (s.core c) = false) ∧ s.tastingOn (srcCore c) = false := by simpa [State.free_] using hfree
  simp [exec, execIllegalInstruction, State.issuePlain, hop, htask, hstall, hdebug, htaste, hpc.not_gt]

theorem exec_hopperIdleFlush_flushes (hh : (s.core c).hopper ≠ []) (ht : 32 ≤ s.necCycles (s.clk - (s.core c).narrowAt)) :
    exec (.hopperIdleFlush c) s = .next (s.setCore c (s.core c).flushAll) := by
  simp [exec, execHopperIdleFlush, hh, ht.not_gt]

theorem exec_tileOverrun_faults {t : Task} (ht : (s.core c).task = some t)
    (hlate : 65536 ≤ s.necCycles (s.tileTicks (s.core c))) : exec (.tileOverrun c) s = .next (s.taskFault c 0x07 none) := by
  simp [exec, execTileOverrun, ht, hlate]

end

/-- A word of the store is poisoned and counted at its core; the error goes to the ledger and, for a partition's core, to its
events (R445). -/
theorem exec_localStoreEccError_spec (c : Fin 64) {a : Nat} (ha : a < 524288) : ∃ t, exec (.localStoreEccError c a) s = .next t ∧
    t = { s with nec := t.nec, bg := t.bg, log := t.log, hif := t.hif } ∧ t.core c = { s.core c with
      lsPoison := nset (s.core c).lsPoison (a / 32), eccU := satN 0xFFFF ((s.core c).eccU + 1) } ∧ t.hif.queues = s.hif.queues := by
  simp only [exec, execLocalStoreEccError, if_pos ha]
  split
  · refine ⟨_, rfl, ?_, ?_, ?_⟩
    · rw [State.event_frame]
      rfl
    · rw [State.core_of_nec_eq (State.event_nec ..)]
      exact State.core_setCore_same _ _ c.isLt
    · rw [State.event_queues]
      rfl
  · exact ⟨_, rfl, rfl, State.core_setCore_same _ _ c.isLt, rfl⟩

end

/-! A task fault (R444): the core that its task has left stands empty, and the stop of its route leaves it so. -/

/-- A core without a task, running or to come, and without a stall. -/
structure Core.Vacant (x : Core) : Prop where
  task : x.task = none
  stall : x.stall = none
  saved : x.saved = []
  incoming : x.incoming = none

theorem State.core_mapCores (s : State) (g : Core → Core) {c : Nat} (hc : c < 64) : (s.mapCores g).core c = g (s.core c) := by
  simp [State.core, State.mapCores, hc]

theorem State.install_core_other (s : State) {c k : Nat} (t : Task) (h : k ≠ c) : (s.install c t).core k = s.core k := by
  unfold State.install State.freshVecs
  rw [State.core_setCore_other _ _ h]
  exact State.core_setCore_other _ _ h

theorem State.nextTask_core_other (s : State) {c k : Nat} (h : k ≠ c) : (s.nextTask c).core k = s.core k := by
  unfold State.nextTask
  dsimp only
  split
  · rw [State.install_core_other _ _ h]
  · rw [State.install_core_other _ _ h, State.core_setCore_other _ _ h]
  · rw [State.core_setCore_other _ _ h]

theorem State.endTask_core_other (s : State) {c k : Nat} (h : k ≠ c) : (s.endTask c).core k = s.core k := by
  unfold State.endTask
  dsimp only
  split
  · rfl
  · rw [State.nextTask_core_other _ h]
    exact State.core_setCore_other _ _ h

theorem State.takePreemption_core_other (s : State) {c k : Nat} (h : k ≠ c) : (s.takePreemption c).core k = s.core k := by
  unfold State.takePreemption
  dsimp only
  split
  · rfl
  · split
    · exact s.endTask_core_other h
    · split
      · rfl
      · split
        · exact State.core_setCore_other _ _ h
        · rw [State.install_core_other _ _ h, State.core_setCore_other _ _ h]

/-- A wait that ends on a core concerns that core, and none without a stall. -/
theorem State.settleWait_core {s : State} {k : Nat} (hv : (s.core k).stall = none) (c : Nat) :
    (s.settleWait c).core k = s.core k := by
  by_cases hk : k = c
  · subst hk
    unfold State.settleWait
    simp only [hv]
  · unfold State.settleWait
    dsimp only
    split
    · split
      · exact s.endTask_core_other hk
      · split
        · rw [State.takePreemption_core_other _ hk, State.core_setCore_other _ _ hk]
        · rfl
    · rfl

theorem State.settleWaits_core {s : State} {k : Nat} (hv : (s.core k).stall = none) : s.settleWaits.core k = s.core k := by
  unfold State.settleWaits
  generalize List.range 64 = l
  induction l generalizing s with
  | nil => rfl
  | cons c l ih => rw [List.foldl_cons, ih (by rw [State.settleWait_core hv, hv]), State.settleWait_core hv]

/-- What acts on the tasks of a core leaves one that has none. -/
theorem Core.Vacant.mapTasks_eq {x : Core} (h : x.Vacant) (p : Task → Bool) (g : Task → Task) :
    { x with task := x.task.map g, incoming := x.incoming.map g, saved := (x.saved.filter p).map g } = x := by
  obtain ⟨htask, -, hsaved, hincoming⟩ := h
  cases x
  simp_all

/-- A stop of tasks leaves a core that has none. -/
theorem State.stopTasks_core {s : State} {c : Nat} (hc : c < 64) (hv : (s.core c).Vacant) (p : Task → Bool) :
    (s.stopTasks p).core c = s.core c := by
  have hsame : ((s.mapCores fun x => { x with saved := x.saved.filter (!p ·) }).mapTasks p
      fun t => { t with stopAtTile := true }).core c = s.core c := by
    rw [State.mapTasks, State.core_mapCores _ _ hc, State.core_mapCores _ _ hc]
    exact hv.mapTasks_eq _ _
  unfold State.stopTasks
  rw [State.settleWaits_core (by rw [hsame, hv.stall]), hsame]

theorem State.resetCasks_core (s : State) (r : Nat) {c : Nat} (hc : c < 64) :
    ∃ k, (s.resetCasks r).core c = { s.core c with casks := k } := by
  simp only [State.core, State.resetCasks, Vector.getElem?_eq_getElem hc, Vector.getElem_mapIdx, Option.getD_some]
  split
  · exact ⟨_, rfl⟩
  · exact ⟨_, rfl⟩

/-- A route that stops empties casks of its cores, and nothing else of a core changes (R430). -/
theorem State.finishStop_core (s : State) (r : Nat) {c : Nat} (hc : c < 64) :
    ∃ k, (s.finishStop r).core c = { s.core c with casks := k } := by
  obtain ⟨k, hk⟩ := State.resetCasks_core (s.setRoute r { s.route r with forced := false, faulting := false, decimating := none }) r hc
  refine ⟨k, Eq.trans (State.core_of_nec_eq ?_ c) hk⟩
  simp [State.finishStop]

theorem State.endFrames_nec (s : State) (r : Nat) : (s.endFrames r).nec = s.nec := by
  unfold State.endFrames
  rw [State.retireAborted_nec, foldl_nec _ fun s f => by simp]

theorem State.drainRoute_core (s : State) (r : Nat) {c : Nat} (hc : c < 64) :
    ∃ k, (s.drainRoute r).core c = { s.core c with casks := k } := by
  rw [← State.core_of_nec_eq (s.endFrames_nec r) c, s.drainRoute_eq]
  split
  · exact (s.endFrames r).finishStop_core r hc
  · exact ⟨_, rfl⟩

theorem State.forceStop_core {s : State} (r : Nat) {c : Nat} (hc : c < 64) (hv : (s.core c).Vacant) :
    ∃ k, (s.forceStop r).core c = { s.core c with casks := k } := by
  have habort : (s.abortFrames r).core c = s.core c := by
    have hlevel : ∀ x, ((s.setRoute r x).noteLevel 1).core c = s.core c := fun x => State.core_of_nec_eq (by simp) c
    unfold State.abortFrames
    rw [State.stopTasks_core hc (by rwa [hlevel]), hlevel]
  unfold State.forceStop
  dsimp only
  split
  · split
    · rw [← habort]
      exact (s.abortFrames r).finishStop_core r hc
    · rw [← habort, ← State.core_of_nec_eq (State.setRouteSt_nec (s.abortFrames r) r .stopping) c]
      exact State.drainRoute_core _ r hc
  · exact ⟨_, rfl⟩

theorem State.faultRoute_core {s : State} (r code : Nat) {c : Nat} (hc : c < 64) (hv : (s.core c).Vacant) :
    ∃ k, (s.faultRoute r code).core c = { s.core c with casks := k } := by
  have hmark : (s.markFault r code).core c = s.core c := State.core_of_nec_eq (by simp [State.markFault]) c
  unfold State.faultRoute
  dsimp only
  split
  · rw [← hmark]
    exact State.forceStop_core (s := s.markFault r code) r hc (by rwa [hmark])
  · exact ⟨_, rfl⟩

theorem State.nextTask_none {s : State} {c : Nat} (hi : (s.core c).incoming = none) (hs : (s.core c).saved = []) :
    s.nextTask c = s.setCore c { s.core c with preempt := false } := by
  simp only [State.nextTask, hi, hs]

/-- A core without its task, after the NEC cycles that it has worked (R418). -/
def Core.emptied (x : Core) (busy : Nat) : Core := { x with task := none, stall := none, stepOne := false, busy := busy, preempt := false }

/-- The end of a task in its steps: its core is flushed and left, and goes on with its next task (R418). -/
theorem State.endTask_eq {s : State} {c : Nat} {t : Task} (ht : (s.core c).task = some t) : ∃ u : State,
    s.endTask c = u.nextTask c ∧ u.nec = (s.setCore c { (s.core c).flushAll with
      task := none, stall := none, stepOne := false, busy := (s.core c).busy + s.necCycles (s.tileTicks (s.core c)) }).nec := by
  unfold State.endTask
  dsimp only
  split
  · next h => cases h.symm.trans ht
  · exact ⟨_, rfl, rfl⟩

/-- The last task of a core leaves it empty (R418); what its faults have written stays. -/
theorem State.endTask_core {s : State} {c : Nat} {t : Task} (hc : c < 64) (ht : (s.core c).task = some t)
    (hi : (s.core c).incoming = none) (hs : (s.core c).saved = []) (hh : (s.core c).hopper = []) :
    ∃ n, (s.endTask c).core c = (s.core c).emptied n := by
  obtain ⟨u, hu, hnec⟩ := State.endTask_eq ht
  have hflush : (s.core c).flushAll = s.core c := by rw [Core.flushAll, hh, List.foldl_nil]
  have hcore := (State.core_of_nec_eq hnec c).trans (s.core_setCore_same _ hc)
  rw [hflush] at hcore
  refine ⟨(s.core c).busy + s.necCycles (s.tileTicks (s.core c)), ?_⟩
  rw [hu, State.nextTask_none (by rw [hcore]; exact hi) (by rw [hcore]; exact hs), State.core_setCore_same _ _ hc, hcore]
  rfl

theorem Core.emptied_vacant {x : Core} (hi : x.incoming = none) (hs : x.saved = []) (n : Nat) : (x.emptied n).Vacant :=
  ⟨rfl, rfl, hs, hi⟩

/-! The FAULT of a route (Table 6-9): what stops the route leaves it. -/

theorem State.setRoute_fault {s : State} {r : Nat} {x : Route} (hr : r < 16) (h : x.fault = (s.route r).fault) :
    ((s.setRoute r x).route r).fault = (s.route r).fault := by
  rw [State.route_setRoute _ _ _ hr, h]

section
variable {r : Nat}

theorem State.checkDeadline_fault (s : State) (hr : r < 16) (f : Frame) :
    ((s.checkDeadline r f).route r).fault = (s.route r).fault := by
  unfold State.checkDeadline
  dsimp only
  split
  · rw [State.route_of_rsq_eq _ _ (State.event_rsq ..), State.mapFrame]
    exact (State.setRoute_fault hr (by rfl)).trans (State.setRoute_fault hr (by rfl))
  · rfl

theorem State.retire_fault (s : State) (hr : r < 16) (id : Nat) : ((s.retire r id).route r).fault = (s.route r).fault := by
  unfold State.retire
  split
  · rfl
  · next f _ =>
    rw [State.route_of_rsq_eq ((s.checkDeadline r f).setRoute r _) _ (by simp; rfl), State.setRoute_fault hr (by rfl),
      s.checkDeadline_fault hr]

theorem State.retireAborted_fault (s : State) (hr : r < 16) (n : Nat) :
    ((s.retireAborted r n).route r).fault = (s.route r).fault := by
  induction n generalizing s with
  | zero => rfl
  | succ n ih =>
    unfold State.retireAborted
    split
    · split
      · rw [ih, State.retire_fault _ hr]
      · rfl
    · rfl

theorem State.endFrames_fault (s : State) (hr : r < 16) : ((s.endFrames r).route r).fault = (s.route r).fault := by
  unfold State.endFrames
  rw [State.retireAborted_fault _ hr]
  refine foldl_keeps (fun s => (s.route r).fault) _ (fun s f => ?_) _ s
  rw [State.route_of_rsq_eq _ _ (State.frameDone_rsq ..), State.setRoute_fault hr (by rfl)]

theorem State.settleSwap_fault (s : State) (k r : Nat) : ((s.settleSwap k).route r).fault = (s.route r).fault := by
  unfold State.settleSwap
  split
  · rfl
  · simp only [State.route, Vector.getElem?_mapIdx]
    cases s.rsq.routes[r]? with
    | none => rfl
    | some x => simp only [Option.map_some, Option.getD_some]; split <;> rfl

theorem State.endApply_fault (s : State) (n r : Nat) : ((s.endApply n).route r).fault = (s.route r).fault := by
  unfold State.endApply
  dsimp only
  split
  · split
    · rw [State.settleSwap_fault]
      rfl
    · rfl
  · rfl

theorem State.stopApply_fault (s : State) (k status detail r : Nat) :
    ((s.stopApply k status detail).route r).fault = (s.route r).fault :=
  foldl_keeps (fun s => (s.route r).fault) _
    (fun s x => by rw [State.route_of_rsq_eq _ _ (State.fix_rsq ..), State.endApply_fault]) _ _

theorem State.finishStop_fault (s : State) (hr : r < 16) : ((s.finishStop r).route r).fault = (s.route r).fault := by
  unfold State.finishStop
  rw [State.route_of_rsq_eq _ _ (State.releaseHeld_rsq ..), State.stopApply_fault, State.route_of_rsq_eq _ _ (State.fixAll_rsq ..),
    State.route_of_rsq_eq _ _ (State.fixAll_rsq ..), State.route_setRouteSt _ _ _ hr, State.route_of_rsq_eq _ _ (State.resetCasks_rsq ..)]
  exact State.setRoute_fault hr rfl

theorem State.drainRoute_fault (s : State) (hr : r < 16) : ((s.drainRoute r).route r).fault = (s.route r).fault := by
  rw [s.drainRoute_eq]
  split
  · rw [State.finishStop_fault _ hr, s.endFrames_fault hr]
  · rw [s.endFrames_fault hr]

theorem State.abortFrames_fault (s : State) (hr : r < 16) : ((s.abortFrames r).route r).fault = (s.route r).fault := by
  unfold State.abortFrames
  refine (congrArg Route.fault (State.stopTasks_unmarked _ _ r)).trans ?_
  exact (congrArg Route.fault (State.route_of_rsq_eq _ _ (State.noteLevel_rsq ..) r)).trans (State.setRoute_fault hr rfl)

theorem State.forceStop_fault (s : State) (hr : r < 16) : ((s.forceStop r).route r).fault = (s.route r).fault := by
  unfold State.forceStop
  dsimp only
  split
  · split
    · exact (State.finishStop_fault _ hr).trans (s.abortFrames_fault hr)
    · rw [State.drainRoute_fault _ hr, State.route_setRouteSt _ _ _ hr]
      exact s.abortFrames_fault hr
  · rfl

/-- A running route that faults keeps the code of its fault through its stop (R265). -/
theorem State.faultRoute_fault {s : State} (hr : r < 16) (hst : (s.route r).st = .running) (code : Nat) :
    ((s.faultRoute r code).route r).fault = code := by
  rw [State.faultRoute_running code hst, State.forceStop_fault _ hr, State.markFault_route _ _ hr]

end

/-- A core that has taken the registers of a fault (Table 10-13) and stopped its task's transfers. -/
def Core.faulted (x : Core) (t : Task) (cause : Nat) (ea : Option Nat) : Core :=
  { x with
    fCause := cause, fTask := t.task, fRoute := t.route, fNode := t.node, fPc := x.pc, fEa := ea.getD x.fEa
    dma := x.dma.filter fun d => decide (d.own ≠ (t.route, t.frame, t.node)) }

/-- A task fault in its steps: the registers and the ledger entry are written, the task ends and its route faults (R265, R444). -/
theorem State.taskFault_eq {s : State} {c : Nat} {t : Task} (ht : (s.core c).task = some t) (cause : Nat) (ea : Option Nat) :
    ∃ u : State, s.taskFault c cause ea = (u.endTask c).faultRoute t.route 1 ∧
      u.nec = (s.setCore c ((s.core c).faulted t cause ea)).nec ∧ u.rsq = s.rsq := by
  unfold State.taskFault
  dsimp only
  split
  · next h => cases h.symm.trans ht
  · next x h =>
    obtain rfl : x = t := Option.some.inj (h.symm.trans ht)
    exact ⟨_, rfl, rfl, rfl⟩

/-- The core of a task fault is left empty with the fault's registers, up to casks that its route's stop empties (R430, R444). -/
theorem State.taskFault_core {s : State} {c : Nat} {t : Task} (hc : c < 64) (ht : (s.core c).task = some t)
    (hi : (s.core c).incoming = none) (hs : (s.core c).saved = []) (hh : (s.core c).hopper = []) (cause : Nat) (ea : Option Nat) :
    ∃ n k, (s.taskFault c cause ea).core c = { ((s.core c).faulted t cause ea).emptied n with casks := k } := by
  obtain ⟨u, hu, hnec, -⟩ := State.taskFault_eq ht cause ea
  have hcore : u.core c = (s.core c).faulted t cause ea := by
    rw [State.core_of_nec_eq hnec, State.core_setCore_same _ _ hc]
  obtain ⟨n, hn⟩ := State.endTask_core (s := u) (t := t) hc (by rw [hcore]; exact ht) (by rw [hcore]; exact hi)
    (by rw [hcore]; exact hs) (by rw [hcore]; exact hh)
  obtain ⟨k, hk⟩ := State.faultRoute_core (s := u.endTask c) t.route 1 hc
    (by rw [hn, hcore]; exact Core.emptied_vacant (x := (s.core c).faulted t cause ea) hi hs n)
  exact ⟨n, k, by rw [hu, hk, hn, hcore]⟩

/-- A running route whose task faults takes FAULT 1 (R265). -/
theorem State.taskFault_fault {s : State} {c : Nat} {t : Task} (ht : (s.core c).task = some t) (hr : t.route < 16)
    (hst : (s.route t.route).st = .running) (cause : Nat) (ea : Option Nat) :
    ((s.taskFault c cause ea).route t.route).fault = 1 := by
  obtain ⟨u, hu, -, hrsq⟩ := State.taskFault_eq ht cause ea
  have hrun : ((u.endTask c).route t.route).st = .running := by
    have hsame : ((u.endTask c).route t.route).st = (u.route t.route).st :=
      (congrArg Route.st (u.endTask_unmarked c t.route) :)
    rw [hsame, State.route_of_rsq_eq _ _ hrsq, hst]
  rw [hu, State.faultRoute_fault hr hrun]

/-- Settles O33: the events of the casks and of the core are the lemmas above, and a task fault leaves the core and the route as the
lemmas on its steps say. -/
theorem neuralCoreEvents : Obligations.NeuralCoreEvents := by
  refine ⟨fun s p b l r hh hr hw hroom hopen hc hk => ?_, fun s p b l r hh hr hw => ?_,
    fun s c k r hr hs hrow hroom => exec_caskRowWrite_writes hr hs hrow hroom,
    fun s c i n r hs hr hn => exec_caskStallRelease_cadv hs hr hn,
    fun s c w t hop hfree hpc => exec_illegalInstruction_faults hop hfree hpc,
    fun s c hh ht => exec_hopperIdleFlush_flushes hh ht, fun s c t ht hlate => exec_tileOverrun_faults ht hlate,
    fun s c a ha => exec_localStoreEccError_spec c ha, fun s c k e t ht hi hs hh => ?_⟩
  · have hport := s.dstPort_mapDst_same (d := 13 + p) (fun d => { d with held := l }) (by omega)
    refine ⟨_, exec_caskBeatArrival_joins hh hr hw hroom hopen, rfl, hport, ?_⟩
    rw [State.core_setCore_same _ _ hc, Core.cask_setCask_same _ _ hk]
    exact ⟨rfl, rfl⟩
  · exact ⟨_, exec_caskBeatArrival_discards hh hr hw, rfl, s.dstPort_mapDst_same _ (by omega)⟩
  · obtain ⟨n, casks, hcore⟩ := State.taskFault_core c.isLt ht hi hs hh k e
    refine ⟨_, rfl, ?_⟩
    rw [hcore]
    exact ⟨rfl, rfl, rfl, rfl, rfl, rfl, fun hr hst => State.taskFault_fault ht hr hst k e⟩

end Sys2Proof.Machine

namespace Sys2Proof.Machine

/-! Lines and sensor buses (R268, R270, R277, R280, R301, R302): what a change of one port or bus leaves, where a line of a context
goes, and what each access to a bus does. -/

theorem State.ports_mapCam_same (s : State) (p : Fin 16) (g : Port → Port) : (s.mapCam p g).cin.ports[p] = g s.cin.ports[p] := by
  simp

theorem State.scb_eq_getElem (s : State) (k : Fin 4) : s.scb k = s.cin.scb[k] := by
  simp [State.scb]

theorem State.scb_mapScb_same (s : State) (k : Fin 4) (g : Scb → Scb) : (s.mapScb k g).cin.scb[k] = g s.cin.scb[k] := by
  simp [State.scb]

theorem State.ctx_mapCam (s : State) (p c : Nat) (g : Port → Port) : (s.mapCam p g).ctx c = s.ctx c := rfl

theorem State.ports_noteBacklog (s : State) (q : Nat) : (s.noteBacklog q).cin.ports = s.cin.ports := rfl

theorem State.ctx_noteBacklog (s : State) (q c : Nat) : (s.noteBacklog q).ctx c = s.ctx c := rfl

/-- A port that has heard a long packet with a good header: traffic was seen, and a wrong CRC is counted (R270). -/
def State.heardLine (s : State) (p : Nat) (ok : Bool) : State :=
  if ok then s.active p else (s.active p).mapCam p fun x => { x with crc := satN 0xFFFF (x.crc + 1) }

theorem State.heardLine_frame (s : State) (p : Nat) (ok : Bool) :
    s.heardLine p ok = { s with cin := { s.cin with ports := (s.heardLine p ok).cin.ports } } := by
  cases ok <;> rfl

theorem State.heardLine_port (s : State) (p : Fin 16) (ok : Bool) :
    (s.heardLine p ok).cin.ports[p] = { s.cin.ports[p] with
      hsActive := true, crc := if ok then s.cin.ports[p].crc else satN 0xFFFF (s.cin.ports[p].crc + 1) } := by
  cases ok <;> simp [State.heardLine, State.active]

/-- The line that a long packet leaves in the receive buffer: padded or cut to WIDTH, poisoned when it is bad or short (R277). -/
def State.lineOf (s : State) (c dt : Nat) (f : CtxFrame) (px : List Nat) (bad : Bool) : WaitLine :=
  { ctx := c, frame := f.id, stamp := s.gtcNs, size := lineSize dt px.length
    samples := px.take (s.ctxSize c).1 ++ List.replicate ((s.ctxSize c).1 - px.length) 0
    poison := bad || decide (px.length < (s.ctxSize c).1) }

/-- A frame once a line of `n` samples is delivered to it, over a context of this width (R277). -/
def CtxFrame.delivered (f : CtxFrame) (width n : Nat) : CtxFrame :=
  { f with arrived := f.arrived + 1, longLine := f.longLine || decide (width < n) }

/-- A line that fits the receive buffer is delivered to its frame and waits at its port (R277); the backlog of its pipe is noted. -/
theorem State.takeLinePacket_fits {s : State} {p c dt : Nat} {px : List Nat} {f : CtxFrame} (bad : Bool)
    (hf : (s.ctx c).openFrame = some f) (hcut : f.cut = false) (hrows : f.arrived < (s.ctxSize c).2)
    (hfit : ((((s.cin.ports[p]?).getD {}).waiting).map (·.size)).sum + lineSize dt px.length ≤ 131072) :
    ∃ q, s.takeLinePacket p c dt px bad =
      ((s.mapCtx c fun x => x.mapFrame f.id (·.delivered (s.ctxSize c).1 px.length)).mapCam p fun x =>
        { x with waiting := x.waiting ++ [s.lineOf c dt f px bad] }).noteBacklog q := by
  simp only [State.takeLinePacket, hf, hcut, Bool.false_eq_true, if_false, Nat.not_le.mpr hrows, Nat.not_lt.mpr hfit]
  exact ⟨_, rfl⟩

/-- What a line that fits leaves of the state, of its port and of its context. -/
theorem State.takeLinePacket_spec {s : State} {p : Fin 16} {c dt : Nat} {px : List Nat} {f : CtxFrame} (bad : Bool) (hc : c < 64)
    (hf : (s.ctx c).openFrame = some f) (hcut : f.cut = false) (hrows : f.arrived < (s.ctxSize c).2)
    (hfit : (s.cin.ports[p].waiting.map (·.size)).sum + lineSize dt px.length ≤ 131072) :
    s.takeLinePacket p c dt px bad = { s with cin := (s.takeLinePacket p c dt px bad).cin } ∧
      (s.takeLinePacket p c dt px bad).cin.ports[p] =
        { s.cin.ports[p] with waiting := s.cin.ports[p].waiting ++ [s.lineOf c dt f px bad] } ∧
      (s.takeLinePacket p c dt px bad).ctx c = (s.ctx c).mapFrame f.id (·.delivered (s.ctxSize c).1 px.length) := by
  obtain ⟨q, hq⟩ := State.takeLinePacket_fits (p := p) bad hf hcut hrows (by simpa using hfit)
  rw [hq]
  refine ⟨rfl, ?_, by rw [State.ctx_noteBacklog, State.ctx_mapCam, State.ctx_mapCtx_same s _ hc]⟩
  rw [State.ports_noteBacklog]
  exact State.ports_mapCam_same _ p _

section
variable {s : State} {p vc : Fin 16} {dt : Nat} {h : HdrEcc}

/-- A long packet of no bound context is counted as unbound at its port (R270). -/
theorem exec_longPacket_unbound (hp : s.camHears p = true) (hh : h ≠ .bad)
    (hc : ((s.ctxsOn p vc).find? fun c => (s.struct.context c).map (byteAt · 7) = some dt) = none) (px : List Nat) (ok : Bool) :
    exec (.longPacket p vc dt h px ok) s =
      .next ((s.active p).mapCam p fun x => { x with unbound := satN 0xFFFFFFFF (x.unbound + 1) }) := by
  have hc' : (((s.active p).ctxsOn p vc).find? fun c => ((s.active p).struct.context c).map (byteAt · 7) = some dt) = none := hc
  simp only [exec, execLongPacket, hp, hh, hc', Bool.not_true, Bool.false_eq_true, if_false]

/-- A long packet of a bound context reaches it, its CRC checked (R270). -/
theorem exec_longPacket_bound {c : Nat} (hp : s.camHears p = true) (hh : h ≠ .bad)
    (hc : ((s.ctxsOn p vc).find? fun c => (s.struct.context c).map (byteAt · 7) = some dt) = some c) (px : List Nat) (ok : Bool) :
    exec (.longPacket p vc dt h px ok) s = .next ((s.heardLine p ok).takeLinePacket p c dt px (!ok)) := by
  have hc' : (((s.active p).ctxsOn p vc).find? fun c => ((s.active p).struct.context c).map (byteAt · 7) = some dt) = some c := hc
  simp only [exec, execLongPacket, hp, hh, hc', Bool.not_true, Bool.false_eq_true, if_false]
  rfl

end

/-- A pipe that is not stalled sends what the waiting line that arrived first lets it send (R280 to R282). -/
theorem exec_pipeLineProcess_first {s : State} {p : Fin 4} {port : Nat} {l : WaitLine} (hs : s.pipeStalled p = false)
    (hl : minBy (fun a b => decide (a.2.stamp < b.2.stamp) || (decide (a.2.stamp = b.2.stamp) && decide (a.2.ctx < b.2.ctx)))
      (s.pipeWaiting p) = some (port, l)) :
    exec (.pipeLineProcess p) s = .next (((s.mapCam port fun p => { p with waiting := p.waiting.erase l }).mapCtx l.ctx fun x =>
      x.mapFrame l.frame fun f => { f with rows := f.rows ++ [l.samples], rowPoison := f.rowPoison ++ [l.poison] }).emitFrame
        l.ctx l.frame) := by
  simp only [exec, execPipeLineProcess, hs, hl, Bool.false_eq_true, if_false]

/-- The receiver of a D-PHY port aligns its lanes (Table 7-2, R268). -/
theorem exec_deskewSequence_dphy {s : State} {p : Fin 16} (hp : (s.struct.port p).map (byteAt · 5) = some 1) :
    exec (.deskewSequence p) s = .next (s.mapCam p fun x => { x with hsActive := true, deskewDone := true }) :=
  if_pos hp

/-- The bytes of the transfer that a write of CIN_SCB_CTL begins: LENGTH, counted as 1 to 32 (R302, log entry 72). -/
def scbLength (w : U32) : Nat := min 32 (max 1 (wbits w 13 8))

/-- A sensor bus on which START begins a write of `n` bytes: they leave the FIFO, and the status clears (R302, Table 7-9). -/
def Scb.writing (x : Scb) (a n rate : Nat) : Scb := { busy := some (a, false, n, rate), fifo := x.fifo.drop n }

section
variable {s : State} {k : Fin 4}

/-- START begins a write on an idle, enabled bus at a rate that it has (R301, R302). -/
theorem exec_scbStart_write {w : U32} (hr : s.pf0Ready 0 = true) (hk : s.scbOn k = true) (hw : w.getLsbD 31 = true)
    (hb : s.cin.scb[k].busy = none) (hrate : decide (wbits w 17 16 = 3) = bit (s.struct.boardField 6 1) (4 + k))
    (hrd : w.getLsbD 7 = false) :
    exec (.scbStart 0 k w) s =
      .next ((s.emit (.scb k (wbits w 6 0) false (scbLength w) (s.cin.scb[k].fifo.take (scbLength w)))).mapScb k
        (·.writing (wbits w 6 0) (scbLength w) (wbits w 17 16))) := by
  simp only [exec, execScbStart, State.scbCtl, s.scb_eq_getElem k, hr, hk, hw, hb, hrate, hrd, Bool.not_true, Bool.or_self,
    Option.isSome_none, ne_eq, not_true_eq_false, Bool.false_eq_true, if_false]
  rfl

/-- The end of a transfer leaves its status, and in the FIFO the bytes that it read (Table 7-9). -/
theorem exec_scbTransferDone_busy {a n rate : Nat} {rd : Bool} (hb : s.cin.scb[k].busy = some (a, rd, n, rate))
    (nack lost : Bool) (rx : Bytes) :
    exec (.scbTransferDone k nack lost rx) s = .next (s.mapScb k fun x => { x with
      busy := none, done := true, nack := nack, arbLost := lost
      fifo := (x.fifo ++ if rd && !nack && !lost then rx.take n else []).take 32 }) := by
  simp only [exec, execScbTransferDone, s.scb_eq_getElem k, hb]

/-- A write of CIN_SCB_DATA pushes its byte while the FIFO has room (Table 7-9). -/
theorem exec_scbDataAccess_push (hr : s.pf0Ready 0 = true) (hk : s.scbOn k = true) (hroom : s.cin.scb[k].fifo.length < 32)
    (v : Byte) : exec (.scbDataAccess 0 k (some v)) s = .next (s.mapScb k fun x => { x with fifo := x.fifo ++ [v] }) := by
  simp only [exec, execScbDataAccess, State.scbPush, s.scb_eq_getElem k, hr, hk, hroom, decide_true, Bool.and_self, if_true]

/-- A read of CIN_SCB_DATA answers with the oldest byte and takes it away (Table 7-9). -/
theorem exec_scbDataAccess_pop {v : Byte} {l : Bytes} (hr : s.pf0Ready 0 = true) (hf : s.cin.scb[k].fifo = v :: l) :
    exec (.scbDataAccess 0 k none) s = .next
      ({ s with bus := .data v.toNat 4 }.mapScb k fun x => { x with fifo := l }) := by
  simp only [exec, execScbDataAccess, State.scbPop, s.scb_eq_getElem k, hr, hf, if_true]
  rfl

end

/-- Settles O27: a long packet changes its port, or its port and its context, and each other clause is the lemma above for its
command, read at the port or bus it names. -/
theorem linesAndSensorBuses : Obligations.LinesAndSensorBuses := by
  refine ⟨fun s p vc dt h px ok hp hh hc => ?_, fun s p vc dt h px ok c f hp hh hc hf hcut hrows hfit => ?_,
    fun s p port l hs hl => exec_pipeLineProcess_first hs hl, fun s p hp => ?_, fun s k w hr hk hw hb hrate hrd => ?_,
    fun s k nack lost rx a n rate rd hb => ?_, fun s k v hr hk hroom => ?_, fun s k v l hr hf => ?_⟩
  · refine ⟨_, exec_longPacket_unbound hp hh hc px ok, rfl, ?_⟩
    rw [State.ports_mapCam_same, State.active, State.ports_mapCam_same]
  · have hframe := s.heardLine_frame p ok
    have hport := s.heardLine_port p ok
    have hctx : (s.heardLine p ok).ctx c = s.ctx c := by rw [hframe]; rfl
    have hsize : (s.heardLine p ok).ctxSize c = s.ctxSize c := by rw [hframe]; rfl
    have hline : (s.heardLine p ok).lineOf c dt f px (!ok) = s.lineOf c dt f px (!ok) := by rw [hframe]; rfl
    obtain ⟨hrest, hwait, hown⟩ := State.takeLinePacket_spec (s := s.heardLine p ok) (p := p) (dt := dt) (px := px) (!ok) c.isLt
      (by rw [hctx]; exact hf) hcut (by rw [hsize]; exact hrows) (by rw [hport]; exact hfit)
    refine ⟨_, exec_longPacket_bound hp hh hc px ok, ?_, ?_, ?_, ?_⟩
    · rw [hrest, hframe]
    · rw [hwait, hport]
    · rw [hwait, hport, hline]; rfl
    · rw [hown, hctx, hsize]; rfl
  · exact ⟨_, exec_deskewSequence_dphy hp, rfl, s.ports_mapCam_same p _⟩
  · exact ⟨_, exec_scbStart_write hr hk hw hb hrate hrd, rfl, State.scb_mapScb_same _ k _, rfl⟩
  · exact ⟨_, exec_scbTransferDone_busy hb nack lost rx, rfl, s.scb_mapScb_same k _⟩
  · exact ⟨_, exec_scbDataAccess_push hr hk hroom v, rfl, s.scb_mapScb_same k _⟩
  · exact ⟨_, exec_scbDataAccess_pop hr hf, rfl, State.scb_mapScb_same _ k _⟩

end Sys2Proof.Machine

namespace Sys2Proof.Machine

/-! Background work (R413, R703 to R711): what the check of a sector finds, what the patrol and the scrub leave, and when an activity
is done, deferred or forced. -/

/-- The sectors of one sector's 64 bytes are that sector. -/
theorem Mem.poisoned_sector (m : Mem) (k : Nat) : m.poisoned (k * 64) 64 = m.poison.contains k := by
  have hfirst : k * 64 / 64 = k := by omega
  have hlast : (k * 64 + 63) / 64 - k + 1 = 1 := by omega
  simp [Mem.poisoned, sectorsOf, hfirst, hlast]

theorem contains_nset_self (l : List Nat) (k : Nat) : (nset l k).contains k = true := by
  induction l with
  | nil => simp [nset]
  | cons a t ih =>
    rw [nset]
    split
    · simp
    · split
      · next h => simp [h]
      · rw [List.contains_cons, ih, Bool.or_true]

section
variable {e : Bytes}

theorem errFind_clean (h : e.filter (· ≠ 0) = []) : errFind e = .clean := by
  simp only [errFind, h, List.length_nil]

theorem errFind_corrected (h : (e.filter (· ≠ 0)).length = 1) : errFind e = .corrected := by
  simp only [errFind, h]

theorem errFind_uncorrectable (h : (e.filter (· ≠ 0)).length = 2 ∨ (e.filter (· ≠ 0)).length = 3) :
    errFind e = .uncorrectable := by
  rcases h with h | h <;> simp only [errFind, h]

end

section
variable {s : State}

/-- A patrol that finds no wrong byte leaves everything as it is. -/
theorem State.patrolBlock_clean {l : List Bytes} (h : ∀ e ∈ l, e.filter (· ≠ 0) = []) (block : Nat) (w : Bool) :
    s.patrolBlock block l w = s := by
  have hfind : ∀ x ∈ ((l.take 15).map errFind).zipIdx, x.1 = .clean := by
    intro x hx
    obtain ⟨e, he, hxe⟩ := List.mem_map.mp (List.fst_mem_of_mem_zipIdx hx)
    rw [← hxe, errFind_clean (h e (List.mem_of_mem_take he))]
  unfold State.patrolBlock
  generalize ((l.take 15).map errFind).zipIdx = finds at hfind
  induction finds with
  | nil => rfl
  | cons x t ih =>
    obtain ⟨hx, ht⟩ := List.forall_mem_cons.mp hfind
    rw [List.foldl_cons, hx]
    simpa using ih ht

section
variable {block : Nat} {e : Bytes} (hp : s.mem.poisoned (15 * block * 64) 64 = false)
include hp

/-- The first sector of a block, not poisoned and with one wrong byte, is corrected (R709). -/
theorem State.patrolBlock_corrected (h : (e.filter (· ≠ 0)).length = 1) (w : Bool) :
    s.patrolBlock block [e] w = s.memCorrected (15 * block * 64) := by
  simp [State.patrolBlock, hp, errFind_corrected h]

/-- The first sector of a block, not poisoned and with two or three wrong bytes, is uncorrectable (R709). -/
theorem State.patrolBlock_uncorrectable (h : (e.filter (· ≠ 0)).length = 2 ∨ (e.filter (· ≠ 0)).length = 3) (w : Bool) :
    s.patrolBlock block [e] w = s.patrolUe block (15 * block * 64) w := by
  simp [State.patrolBlock, hp, errFind_uncorrectable h]

end

/-- A corrected byte is counted; the memory's bytes and poison stay (R458). -/
theorem State.memCorrected_mem (s : State) (a : Nat) :
    (s.memCorrected a).mem = { s.mem with ce := satN 0xFFFFFFFF (s.mem.ce + 1) } := by
  simp [State.memCorrected]

/-- An uncorrectable sector is counted and located, and poisoned unless another write came between (R709, R710). -/
theorem State.patrolUe_mem (s : State) (block a : Nat) (w : Bool) : (s.patrolUe block a w).mem = { s.mem with
    ue := satN 0xFFFFFFFF (s.mem.ue + 1), eccAddr := a
    poison := if w then s.mem.poison else nset s.mem.poison (a / 64) } := by
  unfold State.patrolUe
  dsimp only
  split
  · rw [State.event_mem, State.note_mem]
  · rw [State.note_mem]

@[simp] theorem State.event_bg (s : State) (f c source : Nat) : (s.event f c source).bg = s.bg := by rw [State.event_frame]

/-- The patrol's place stands in a part of `bg` that counting an error does not touch. -/
theorem State.patrolUe_block (s : State) (block a : Nat) (w : Bool) : (s.patrolUe block a w).bg.block = s.bg.block := by
  unfold State.patrolUe
  dsimp only
  split
  · rw [State.event_bg, State.note_bg]
  · rw [State.note_bg]

theorem Bg.nextBlock_block_congr {a b : Bg} (h : a.block = b.block) : a.nextBlock.block = b.nextBlock.block := by
  simp only [Bg.nextBlock, h]
  split <;> rfl

/-- With ECC on the patrol checks its block and goes on to the next one (R709). -/
theorem exec_patrolRead_acts {l : List Bytes} {w : Bool} (hm : s.mem.ready = true) (hu : s.unreserved = true)
    (he : s.top.eccOn = true) : exec (.patrolRead l w) s =
      .next { s.patrolBlock s.bg.block l w with bg := (s.patrolBlock s.bg.block l w).bg.nextBlock } := by
  simp [exec, execPatrolRead, hm, hu, he]

/-- With ECC off the patrol checks nothing and goes on to its next block (R457, R709). -/
theorem exec_patrolRead_eccOff (l : List Bytes) (w : Bool) (hm : s.mem.ready = true) (hu : s.unreserved = true)
    (he : s.top.eccOn = false) : exec (.patrolRead l w) s = .next { s with bg := s.bg.nextBlock } := by
  simp [exec, execPatrolRead, hm, hu, he]

/-- The scrub's time goes on when its interval is over (R703). -/
def State.scrubTurn (s : State) : State :=
  if s.due s.bg.scrubAt (secTicks s.bg.sramScrub) then { s with bg := { s.bg with scrubAt := s.clk } } else s

theorem State.scrubTurn_core (s : State) (c : Nat) : s.scrubTurn.core c = s.core c :=
  State.core_of_nec_eq (by unfold State.scrubTurn; split <;> rfl) c

section
variable {c : Fin 64} {a : Nat}

/-- The scrub never runs beside a node of a safety-class route (R413). -/
theorem exec_sramScrub_safety (a : Nat) (e : EccFind) (h : ((s.core c).task.map (·.safety)).getD false = true) :
    exec (.sramScrub c a e) s = .next s := by
  simp [exec, execSramScrub, h]

/-- A corrected word is counted at its core (R413). -/
theorem exec_sramScrub_corrected (h : ((s.core c).task.map (·.safety)).getD false = false) (ha : a < 524288) :
    ∃ u, exec (.sramScrub c a .corrected) s = .next u ∧
      u.core c = { s.core c with eccC := satN 0xFFFF ((s.core c).eccC + 1) } := by
  simp only [exec, execSramScrub, h, ha.not_ge, Bool.false_eq_true, or_self, if_false]
  refine ⟨_, rfl, ?_⟩
  rw [State.core_of_nec_eq (State.note_nec ..)]
  exact State.core_setCore_same _ _ c.isLt

/-- A word that the scrub cannot correct is an ECC error of the store (R413, R445). -/
theorem exec_sramScrub_uncorrectable (h : ((s.core c).task.map (·.safety)).getD false = false) (ha : a < 524288) :
    exec (.sramScrub c a .uncorrectable) s = exec (.localStoreEccError c a) s.scrubTurn := by
  have hcore := s.scrubTurn_core c
  simp only [exec, execSramScrub, execLocalStoreEccError, h, hcore, ha.not_ge, ha, Bool.false_eq_true, or_self, if_false, if_true]
  rw [← apply_ite Host.Outcome.next]
  rfl

end

section
variable {k : Fin 64}

/-- A recalibration that is due and hindered by nothing is done (R703). -/
theorem exec_recalibration_done (hm : s.mem.ready = true) (hd : s.due (s.bg.recal.get k) (msTicks 100) = true)
    (hf : s.due (s.bg.recal.get k) (msTicks 200) = false) (hu : s.unreserved = true) :
    exec (.recalibration k false) s = .next { s with bg := { s.bg with recal := s.bg.recal.set k s.clk } } := by
  simp [exec, execRecalibration, hm, hd, hf, hu]

/-- A recalibration that is due while the foreground is busy is deferred (R705, R706). -/
theorem exec_recalibration_deferred (hm : s.mem.ready = true) (hd : s.due (s.bg.recal.get k) (msTicks 100) = true)
    (hf : s.due (s.bg.recal.get k) (msTicks 200) = false) : exec (.recalibration k true) s = .next (s.defer 6) := by
  simp [exec, execRecalibration, hm, hd, hf]

theorem State.defer_bg (s : State) (n : Nat) : (s.defer n).bg = { s.bg with deferrals := satN 0xFFFF (s.bg.deferrals + 1) } := by
  simp [State.defer]

theorem State.due_antitone {start t u : Nat} (h : t ≤ u) (hd : s.due start u = true) : s.due start t = true := by
  simp only [State.due, decide_eq_true_eq] at hd ⊢
  omega

/-- A recalibration deferred to 200 ms is forced in the next unreserved time (R707). -/
theorem exec_recalibration_forced (b : Bool) (hm : s.mem.ready = true) (hf : s.due (s.bg.recal.get k) (msTicks 200) = true)
    (hu : s.unreserved = true) : ∃ u, exec (.recalibration k b) s = .next u ∧ u.bg = { s.bg with
      recal := s.bg.recal.set k s.clk, forced := satN 0xFFFF (s.bg.forced + 1) } := by
  have hd := State.due_antitone (t := msTicks 100) (by simp [msTicks]) hf
  simp only [exec, execRecalibration, hm, hd, hf, hu, Bool.true_eq_false, or_self, if_false, if_true]
  exact ⟨_, rfl, by rw [State.note_bg]⟩

end

theorem exec_refreshManagement_done (hm : s.mem.ready = true) (hu : s.unreserved = true) :
    exec (.refreshManagement false) s = .next { s with bg := { s.bg with rfms := s.bg.rfms + 1 } } := by
  simp [exec, execRefreshManagement, hm, hu]

/-- Each field of BG_CTL takes a value in its range and else stays (R711). -/
theorem exec_bgCtlWrite_ready (w : U32) (h : s.top.ready = true) : exec (.bgCtlWrite 0 w) s = .next { s with bg := { s.bg with
    patrolHours := if 1 ≤ wbits w 7 0 ∧ wbits w 7 0 ≤ 168 then wbits w 7 0 else s.bg.patrolHours
    sramScrub := if 1 ≤ wbits w 15 8 ∧ wbits w 15 8 ≤ 60 then wbits w 15 8 else s.bg.sramScrub } } := by
  simp only [exec, execBgCtlWrite, State.setBg, State.pf0Ready, h, decide_true, Bool.and_self, if_true]

end

/-- Settles O51: the patrol treats its sector as the check finds it, and each other clause is the lemma above for its command. -/
theorem backgroundWork : Obligations.BackgroundWork := by
  refine ⟨fun s l w hm hu he => exec_patrolRead_eccOff l w hm hu he, fun s l w hm hu he hl => ?_, fun s e hm hu he hp hbad => ?_,
    fun s e hm hu he hp hone => ?_, fun s c a hs ha => ?_, fun s c a hs ha => ?_, fun s c a e hs => exec_sramScrub_safety a e hs,
    fun s k hm hd hf hu => exec_recalibration_done hm hd hf hu, fun s k hm hd hf => ?_, fun s k b hm hf hu => ?_,
    fun s hm hu => exec_refreshManagement_done hm hu, fun s hm => if_pos hm, fun s w h => exec_bgCtlWrite_ready w h⟩
  · rw [exec_patrolRead_acts hm hu he, State.patrolBlock_clean hl]
  · have hmem := s.patrolUe_mem s.bg.block (15 * s.bg.block * 64) false
    refine ⟨_, exec_patrolRead_acts hm hu he, ?_⟩
    rw [State.patrolBlock_uncorrectable hp hbad]
    refine ⟨congrArg Mem.ue hmem, congrArg Mem.eccAddr hmem, ?_, (congrArg Mem.cells hmem :),
      Bg.nextBlock_block_congr (s.patrolUe_block ..)⟩
    rw [Mem.poisoned_sector, hmem, Nat.mul_div_cancel _ (by decide)]
    exact contains_nset_self _ _
  · have hmem := s.memCorrected_mem (15 * s.bg.block * 64)
    refine ⟨_, exec_patrolRead_acts hm hu he, ?_⟩
    rw [State.patrolBlock_corrected hp hone]
    exact ⟨congrArg Mem.ce hmem, (congrArg Mem.poison hmem :), (congrArg Mem.cells hmem :)⟩
  · obtain ⟨u, hu, hcore⟩ := exec_sramScrub_corrected hs ha
    exact ⟨u, hu, congrArg Core.eccC hcore, (congrArg Core.lsPoison hcore :)⟩
  · obtain ⟨u, hu, -, hcore, -⟩ := exec_localStoreEccError_spec (s := s.scrubTurn) c ha
    rw [State.scrubTurn_core] at hcore
    exact ⟨u, (exec_sramScrub_uncorrectable hs ha).trans hu, congrArg Core.eccU hcore, congrArg Core.lsPoison hcore⟩
  · have hbg := s.defer_bg 6
    exact ⟨_, exec_recalibration_deferred hm hd hf, congrArg Bg.deferrals hbg, (congrArg Bg.recal hbg :)⟩
  · obtain ⟨u, hu, hbg⟩ := exec_recalibration_forced b hm hf hu
    exact ⟨u, hu, congrArg Bg.recal hbg, congrArg Bg.forced hbg⟩

end Sys2Proof.Machine

namespace Sys2Proof.Machine

/-! Casks, DMA and publication (R425 to R437): what each instruction does once it issues and its operands pass, and what a transfer
moves. -/

section
variable {s : State} {c op fields : Nat} {w : U64} {t : Task}

theorem State.issues_task (h : s.issues c op w fields t = true) : (s.core c).task = some t := by
  obtain ⟨⟨⟨⟨⟨⟨htask, -⟩, -⟩, -⟩, -⟩, -⟩, -⟩ := by simpa [State.issues, State.free_] using h
  exact htask

/-- An instruction of a cask that exists and whose configuration it accepts acts on that cask (R431). -/
theorem State.issue_caskOp {r : Bytes} {ok : CaskCfg → Bool} (h : s.issues c op w fields t = true)
    (hr : s.caskRec c (fldIDX w) = some r) (hok : ok (caskCfg r) = true) (act : Core → CaskCfg → State) :
    s.issue c op w fields (fun x _ => s.caskOp c w ok (act x)) = act { s.core c with stepOne := false } (caskCfg r) := by
  rw [State.issue_eq_act h]
  simp only [State.caskOp, hr, hok, if_true]

end

/-! A write of the store keeps the core's transfers and its stall. -/

theorem Core.lsWrite_dma (x : Core) (a : Nat) (bs : Bytes) (pz : Nat → Bool) : (x.lsWrite a bs pz).dma = x.dma := by
  unfold Core.lsWrite
  dsimp only
  split <;> rfl

theorem Core.lsWrite_stall (x : Core) (a : Nat) (bs : Bytes) (pz : Nat → Bool) : (x.lsWrite a bs pz).stall = x.stall := by
  unfold Core.lsWrite
  dsimp only
  split <;> rfl

/-! A stall's end (R434): none ends without a stall, and DMAW's once no transfer of its channels is pending. -/

theorem State.releaseStall_none {s : State} {c : Nat} (h : (s.core c).stall = none) : s.releaseStall c = s := by
  simp only [State.releaseStall, h]

theorem State.releaseStall_dmaw {s : State} {c m : Nat} {t : Task} (hs : (s.core c).stall = some (.dmaw m))
    (ht : (s.core c).task = some t) (hp : (s.core c).pendingOn t m = false) : s.releaseStall c = s.finish c (s.core c) := by
  simp only [State.releaseStall, hs, ht, hp, Bool.false_eq_true, if_false]

section
variable {s : State} {c : Fin 64} {w : U64} {t : Task} {r : Bytes}

section
variable (hr : s.caskRec c (fldIDX w) = some r)
include hr

theorem exec_cwait_ends (h : s.issues c 0x30 w (mIMM ||| mIDX ||| 2 ^ 50) t = true) (hn : okN w (caskCfg r) = true)
    (hl : fldIMM w ≤ ((s.core c).cask (fldIDX w)).level (caskCfg r).size) :
    exec (.cwait c w) s = .next ((s.setCore c { s.core c with stepOne := false }).endCwait c (fldP w)) :=
  congrArg Host.Outcome.next ((State.issue_caskOp h hr hn _).trans (if_pos hl))

theorem exec_cwait_waits (h : s.issues c 0x30 w (mIMM ||| mIDX ||| 2 ^ 50) t = true) (hn : okN w (caskCfg r) = true)
    (hl : ((s.core c).cask (fldIDX w)).level (caskCfg r).size < fldIMM w) :
    exec (.cwait c w) s = .next ((s.setCore c { s.core c with
      stepOne := false, stall := some (.cwait (fldIDX w) (fldIMM w) (fldP w))
      pWaitAt := if fldP w then some s.clk else none }).settleWait c) :=
  congrArg Host.Outcome.next ((State.issue_caskOp h hr hn _).trans (if_neg hl.not_ge))

theorem exec_crd_reads (h : s.issues c 0x31 w (mV ||| mIMM ||| mIDX) t = true) (halign : fldIMM w % 32 = 0)
    (hsize : fldIMM w + 512 ≤ (caskCfg r).size) (hl : fldIMM w + 512 ≤ ((s.core c).cask (fldIDX w)).level (caskCfg r).size) :
    exec (.crd c w) s =
      .next ((s.setCore c { s.core c with stepOne := false }).doCrd c (fldV w) (fldIDX w) (fldIMM w) (caskCfg r)) :=
  congrArg Host.Outcome.next ((State.issue_caskOp h hr (by simp [halign, hsize]) _).trans (if_pos hl))

theorem exec_cadv_advances (h : s.issues c 0x32 w (mIMM ||| mIDX) t = true) (hn : okN w (caskCfg r) = true)
    (hl : fldIMM w ≤ ((s.core c).cask (fldIDX w)).level (caskCfg r).size) :
    exec (.cadv c w) s = .next (s.finish c (({ s.core c with stepOne := false } : Core).setCask (fldIDX w)
      (((s.core c).cask (fldIDX w)).pop (caskCfg r).size (fldIMM w)))) :=
  congrArg Host.Outcome.next ((State.issue_caskOp h hr hn _).trans (if_pos hl))

theorem exec_cpush_pushes (h : s.issues c 0x33 w (mIDX ||| mV) t = true) (hstream : (caskCfg r).stream = false)
    (hroom : 512 ≤ (caskCfg r).size - ((s.core c).cask (fldIDX w)).level (caskCfg r).size) :
    exec (.cpush c w) s =
      .next ((s.setCore c { s.core c with stepOne := false }).doCpush c (fldV w) (fldIDX w) (caskCfg r)) :=
  congrArg Host.Outcome.next ((State.issue_caskOp h hr (by simp [hstream]) _).trans (if_pos hroom))

theorem exec_clvl_levels (h : s.issues c 0x34 w (mSX ||| mIDX) t = true) :
    exec (.clvl c w) s = .next (s.finish c (({ s.core c with stepOne := false } : Core).setS (fldSX w)
      (BitVec.ofNat 32 (((s.core c).cask (fldIDX w)).level (caskCfg r).size)) false)) :=
  congrArg Host.Outcome.next (State.issue_caskOp h hr rfl _)

end

/-- The transfer that a task's DMA instruction queues (R432, R434). -/
def Task.transfer (t : Task) (into : Bool) (ch : Nat) (desc : Bytes) : Xfer :=
  { into := into, ch := ch, desc := desc, own := (t.route, t.frame, t.node), base := t.base + t.ca, part := t.part, task := t.task }

/-- A descriptor that passes its checks queues its transfer on its channel; a poisoned one marks the task (R432 to R434, R446). -/
theorem State.startDma_queues {c : Nat} {x : Core} (into : Bool) (hfit : t.fits (x.ea w) 32 = true)
    (hcheck : s.dmaCheck c t (x.lsRead (t.phys (x.ea w)) 32) = none) :
    s.startDma c w into x t = s.finish c
      (({ x with dma := x.dma ++ [t.transfer into (fldCH w) (x.lsRead (t.phys (x.ea w)) 32)] } : Core).mark
        (x.lsPoisoned (t.phys (x.ea w)) 32)) := by
  simp only [State.startDma, hfit, hcheck, Bool.not_true, Bool.false_eq_true, if_false]
  rfl

/-- DMAW ends at once when no transfer of its channels is pending (R434). -/
theorem exec_dmaw_ends (h : s.issues c 0x42 w (span 51 48) t = true) (hp : (s.core c).pendingOn t (fldMASK w) = false) :
    exec (.dmaw c w) s = .next ((s.setCore c { s.core c with stepOne := false, stall := some (.dmaw (fldMASK w)) }).finish c
      { s.core c with stepOne := false, stall := some (.dmaw (fldMASK w)) }) := by
  have hcore := s.core_setCore_same { s.core c with stepOne := false, stall := some (.dmaw (fldMASK w)) } c.isLt
  have hrelease := State.releaseStall_dmaw (t := t) (congrArg Core.stall hcore)
    ((congrArg Core.task hcore).trans (State.issues_task h)) ((congrArg (·.pendingOn t (fldMASK w)) hcore).trans hp)
  rw [hcore] at hrelease
  exact congrArg Host.Outcome.next ((State.issue_eq_act h _).trans hrelease)

/-- The operand checks of PUB, on the template's descriptor `b` (R431 to R433, R436). -/
structure State.PubOk (s : State) (x : Core) (t : Task) (b : Bytes) : Prop where
  reserved : descReserved b = true
  lsAligned : (dmaDesc b).ls % 32 = 0
  memAligned : (dmaDesc b).mem % 32 = 0
  fits : t.fits (dmaDesc b).ls 64 = true
  type : byteAt (x.lsRead (t.phys (dmaDesc b).ls) 1) 0 / 16 = 4
  reach : (dmaDesc b).host = true ∨ s.dmaRange t.part (dmaDesc b).mem 64 = true

/-- PUB with operands that pass its checks waits for the transfers out of its task (R436). -/
theorem exec_pub_waits {x : Core} {b : Bytes} (h : s.issues c 0x43 w (mSB ||| mIMM) t = true)
    (hx : x = { s.core c with stepOne := false }) (hfit : t.fits (x.ea w) 32 = true) (hb : b = x.lsRead (t.phys (x.ea w)) 32)
    (hok : s.PubOk x t b) : exec (.pub c w) s =
      .next ((s.setCore c (({ x with stall := some (.pub b) } : Core).mark (x.lsPoisoned (t.phys (x.ea w)) 32))).releaseStall c) := by
  obtain ⟨hres, hls, hmem, hls64, htype, hreach⟩ := hok
  have hrange : (!(dmaDesc b).host && !s.dmaRange t.part (dmaDesc b).mem 64) = false := by
    rcases hreach with hh | hh <;> simp [hh]
  simp only [exec, execPub, State.issue_eq_act h, ← hx, ← hb, hfit, hres, hls, hmem, hls64, htype, hrange, Bool.not_true,
    Bool.false_eq_true, ne_eq, not_true_eq_false, or_self, if_false]
  subst hx
  rfl

/-! Transfers (R434, R442). -/

/-- A transfer without a cask has as many steps as rows. -/
theorem Xfer.total_rows {y : Xfer} (h : (dmaDesc y.desc).cask = 0xFF) : y.total = (dmaDesc y.desc).rows := if_pos h

theorem State.moveXfer_rows {y : Xfer} (h : (dmaDesc y.desc).cask = 0xFF) (s : State) (c : Nat) (d : HostRead) (n : Nat) :
    s.moveXfer c d n y = s.moveRows c d y.moved n y := if_pos h

/-- A row that the host returned goes into the store, without poison, and the transfer goes on to its next row (R434). -/
theorem State.moveRows_hostRow {y : Xfer} (hinto : y.into = true) (hhost : (dmaDesc y.desc).host = true)
    (hrow : y.moved < (dmaDesc y.desc).rows) (s : State) (c : Nat) (b : Bytes) (first n : Nat) :
    s.moveRows c (.data b false) first (n + 1) y =
      (s.setCore c ((s.core c).lsWrite (y.base + (dmaDesc y.desc).ls + y.moved * (dmaDesc y.desc).lsPitch)
        (slice b ((y.moved - first) * (dmaDesc y.desc).rowBytes) (dmaDesc y.desc).rowBytes) fun _ => false)).moveRows c
          (.data b false) first n { y with moved := y.moved + 1 } := by
  simp [State.moveRows, State.fetchPiece, State.pieceRead, State.markOwner, hinto, hhost, hrow.not_ge]

section
variable {k ch : Fin 4} {y : Xfer}

/-- The channel's transfer moves its rows and leaves the queue with its last one (R434, R435). -/
theorem exec_necDmaDone_moves {n : Nat} {d : HostRead} {u : State} {z : Xfer}
    (hy : ((s.core c).dma.find? fun y => decide (y.task = k.val) && decide (y.ch = ch.val) && !(s.core c).paused y) = some y)
    (hmove : s.moveXfer c d (min n (y.total - y.moved)) y = (u, z)) :
    exec (.necDmaDone c ⟨k, ch, n⟩ d) s = .next ((u.setCore c { u.core c with
      dma := if y.total ≤ z.moved then (u.core c).dma.erase y else (u.core c).dma.replace y z }).releaseStall c) := by
  simp only [exec, execNecDmaDone, hy, hmove]

/-- A one-row transfer from the host writes its row into the store and is over (R434). -/
theorem exec_necDmaDone_hostRow
    (hy : ((s.core c).dma.find? fun y => decide (y.task = k.val) && decide (y.ch = ch.val) && !(s.core c).paused y) = some y)
    (hcask : (dmaDesc y.desc).cask = 0xFF) (hhost : (dmaDesc y.desc).host = true) (hrows : (dmaDesc y.desc).rows = 1)
    (hinto : y.into = true) (hmoved : y.moved = 0) (hstall : (s.core c).stall = none) (b : Bytes) :
    ∃ x, exec (.necDmaDone c ⟨k, ch, 1⟩ (.data b false)) s = .next ((s.setCore c x).setCore c { x with
        dma := (s.core c).dma.erase y }) ∧
      x = (s.core c).lsWrite (y.base + (dmaDesc y.desc).ls) (slice b 0 (dmaDesc y.desc).rowBytes) fun _ => false := by
  refine ⟨_, ?_, rfl⟩
  have htotal : y.total = 1 := (Xfer.total_rows hcask).trans hrows
  have hmove : s.moveXfer c (.data b false) (min 1 (y.total - y.moved)) y =
      (s.setCore c ((s.core c).lsWrite (y.base + (dmaDesc y.desc).ls) (slice b 0 (dmaDesc y.desc).rowBytes) fun _ => false),
        { y with moved := 1 }) := by
    rw [State.moveXfer_rows hcask, htotal, hmoved, Nat.sub_zero, Nat.min_self,
      State.moveRows_hostRow hinto hhost (by omega), hmoved, Nat.zero_mul, Nat.add_zero, Nat.zero_sub, Nat.zero_mul]
    rfl
  rw [exec_necDmaDone_moves hy hmove, if_pos htotal.le, State.core_setCore_same _ _ c.isLt, Core.lsWrite_dma,
    State.releaseStall_none]
  rw [State.core_setCore_same _ _ c.isLt]
  exact (Core.lsWrite_stall ..).trans hstall

end

end

/-- Settles O31: each clause is the lemma above for its instruction; a one-row transfer's end is read off the core that it leaves. -/
theorem caskAndDmaInstructions : Obligations.CaskAndDmaInstructions := by
  refine ⟨fun s c w t r h hr hn hl => exec_cwait_ends hr h hn hl, fun s c w t r h hr hn hl => exec_cwait_waits hr h hn hl,
    fun s c w t r h hr ha hn hl => exec_crd_reads hr h ha hn hl, fun s c w t r h hr hn hl => exec_cadv_advances hr h hn hl,
    fun s c w t r h hr hs hl => exec_cpush_pushes hr h hs hl, fun s c w t r h hr => exec_clvl_levels hr h,
    fun s c w t x h hx hfit hd => ?_, fun s c w t x h hx hfit hd => ?_, fun s c w t h hp => exec_dmaw_ends h hp,
    fun s c w t x b h hx hfit hb hres hls hmem hls64 htype hreach =>
      exec_pub_waits h hx hfit hb ⟨hres, hls, hmem, hls64, htype, hreach⟩,
    fun s c k ch n d y hy => ⟨_, _, rfl, exec_necDmaDone_moves hy rfl⟩,
    fun s c k ch b y hy hcask hhost hrows hinto hmoved hstall => ?_⟩
  · subst hx
    exact congrArg Host.Outcome.next ((State.issue_eq_act h _).trans (State.startDma_queues true hfit hd))
  · subst hx
    exact congrArg Host.Outcome.next ((State.issue_eq_act h _).trans (State.startDma_queues false hfit hd))
  · obtain ⟨x, hexec, hx⟩ := exec_necDmaDone_hostRow hy hcask hhost hrows hinto hmoved hstall b
    refine ⟨_, hexec, rfl, ?_, fun k hk => ?_⟩
    · rw [State.core_setCore_same _ _ c.isLt, hx]
    · rw [State.core_setCore_other _ _ hk, State.core_setCore_other _ _ hk]

end Sys2Proof.Machine

namespace Sys2Proof.Machine

/-! Control, arithmetic and MM (R400 to R407, R438 to R441, R451 to R454): what each instruction does once it issues, and what the
feed and the drain of an MM leave. -/

section
variable {s : State} {c : Fin 64} {t : Task}

section
variable (hf : s.free_ c t = true) (hpc : (s.core c).pc + 8 ≤ t.codeLen)
include hf hpc

theorem exec_necNop_ends : exec (.necNop c) s = .next (s.finish c { s.core c with stepOne := false }) :=
  congrArg Host.Outcome.next (State.issuePlain_eq_act hf hpc _)

theorem exec_necEnd_ends : exec (.necEnd c) s = .next (s.endTask c) :=
  congrArg Host.Outcome.next (State.issuePlain_eq_act hf hpc _)

theorem exec_branch_untaken (a : Nat) : exec (.branch c false a) s = .next (s.finish c { s.core c with stepOne := false }) :=
  congrArg Host.Outcome.next (State.issuePlain_eq_act hf hpc _)

/-- A branch that is taken goes to an instruction of the code, and faults with FETCH elsewhere (Table 10-6). -/
theorem exec_branch_taken (a : Nat) : exec (.branch c true a) s = .next (
    let u := s.setCore c { s.core c with stepOne := false, pc := a }
    if a % 8 = 0 ∧ a + 8 ≤ t.codeLen then u else u.taskFault c 0x08 none) := by
  refine congrArg Host.Outcome.next ((State.issuePlain_eq_act hf hpc _).trans ((if_neg (by decide)).trans ?_))
  by_cases htarget : a % 8 = 0 ∧ a + 8 ≤ t.codeLen
  · exact (if_neg (by omega)).trans (if_pos htarget).symm
  · exact (if_pos (by omega)).trans (if_neg htarget).symm

/-- A loop of at least one turn enters its body, and one of none goes past it. -/
theorem exec_loop_turns (n e : Nat) : exec (.loop c n e) s = .next (s.setCore c (
    if n = 0 then { s.core c with stepOne := false, pc := e }
    else { s.core c with
      stepOne := false, loops := ((s.core c).pc + 8, e, n) :: (s.core c).loops, pc := (s.core c).pc + 8 })) := by
  refine congrArg Host.Outcome.next ((State.issuePlain_eq_act hf hpc _).trans ?_)
  split <;> rfl

theorem exec_scalarArithmetic_writes (d : Fin 32) (l : List (Fin 32)) :
    exec (.scalarArithmetic c ⟨d, l⟩) s = .next (s.useFree.finish c
      ((({ s.core c with stepOne := false } : Core).setS d (Config.freeWord s.free)
        (l.any fun i => (s.core c).sPoison.contains i.val)).mark (l.any fun i => (s.core c).sPoison.contains i.val))) :=
  congrArg Host.Outcome.next (State.issuePlain_eq_act hf hpc _)

theorem exec_vectorArithmetic_writes (d a b : Fin 16) (op : VecOp) :
    exec (.vectorArithmetic c d a b op) s = .next (s.useFree.finish c ((({ s.core c with stepOne := false } : Core).setV d {
      bytes := slice (vecResult op ((s.core c).vreg a).bytes ((s.core c).vreg b).bytes (slice (Config.freeVec s.free) 0 512)) 0 512
      poison := vecPoison op ((s.core c).vreg a).poison ((s.core c).vreg b).poison }).mark
        (!(vecPoison op ((s.core c).vreg a).poison ((s.core c).vreg b).poison).isEmpty))) :=
  congrArg Host.Outcome.next (State.issuePlain_eq_act hf hpc _)

end

/-! The end of a TILE (R438, R439). -/

/-- Without a preemption or a stop to take, a tile boundary leaves the task running (R441). -/
theorem State.takePreemption_none {c : Nat} (ht : (s.core c).task = some t) (hp : (s.core c).preempt = false)
    (hstop : t.stopAtTile = false) : s.takePreemption c = s := by
  simp only [State.takePreemption, ht, hp, hstop, Bool.not_false, Bool.false_eq_true, if_false, if_true]

theorem State.freshVecs_core (s : State) {c : Nat} (hc : c < 64) :
    (s.freshVecs c).core c = { s.core c with v := freeVecs s.free } := State.core_setCore_same _ _ hc

/-- A core whose TILE completes: the tile is counted, and its limit and its waits begin anew (R438, R440). -/
def Core.tiled (x : Core) (busy clk : Nat) : Core :=
  { x with tiles := (x.tiles + 1) % 2 ^ 32, busy := busy, tileAt := clk, pWait := 0, pWaitAt := none }.advance

/-- A TILE completes once every MM of its task has been fed (R438); the vector registers are undefined after it (R439). -/
theorem exec_tileComplete_completes (ht : (s.core c).task = some t) (hs : (s.core c).stall = some .tile)
    (hfed : (s.core c).fed = true) (hp : (s.core c).preempt = false) (hstop : t.stopAtTile = false) :
    ∃ n, exec (.tileComplete c) s = .next ((s.setCore c ((s.core c).tiled n s.clk)).freshVecs c) := by
  have hcore : ∀ x : Core, ((s.setCore c x).freshVecs c).core c = { x with v := freeVecs s.free } := fun x => by
    rw [State.freshVecs_core _ c.isLt, State.core_setCore_same _ _ c.isLt]
    rfl
  have hdone : (s.core c).stall = some .tile ∧ (s.core c).task.isSome ∧ (s.core c).fed = true := ⟨hs, by rw [ht]; rfl, hfed⟩
  exact ⟨_, (if_pos hdone).trans (congrArg Host.Outcome.next
    (State.takePreemption_none (t := t) (by rw [hcore]; exact ht) (by rw [hcore]; exact hp) hstop))⟩

/-! MM (R452 to R454). -/

/-- A scalar register that a field of an MM names. -/
def Core.mmOperand (x : Core) (w : U64) (hi lo : Nat) : Nat := (x.sreg (bits w.toNat hi lo)).toNat

/-- The MM of a word: its mode, panels, output and depth from the operands (R452). -/
def Core.mmJob (x : Core) (w : U64) (t : Task) : MmJob where
  mode := bits w.toNat 31 28
  a := t.phys (x.mmOperand w 12 8)
  w := t.phys (x.mmOperand w 17 13)
  o := t.phys (x.mmOperand w 27 23)
  k := x.mmOperand w 22 18
  accLoad := bit w.toNat 32
  seq := t.mms
  own := (t.route, t.frame, t.node)

/-- The operand checks of MM (R452): a mode of the program, a depth in range, panels and output within the region. -/
structure Core.MmOk (x : Core) (w : U64) (t : Task) : Prop where
  mode : bits w.toNat 31 28 < 8
  allowed : bit t.modes (bits w.toNat 31 28) = true
  positive : 0 < x.mmOperand w 22 18
  depth : x.mmOperand w 22 18 ≤ 65536
  sparse : mmIsSparse (bits w.toNat 31 28) = true → x.mmOperand w 22 18 % 4 = 0
  panelA : t.badAccess (x.mmOperand w 12 8) (mmABytes (x.mmOperand w 22 18)) 512 = none
  panelW : t.badAccess (x.mmOperand w 17 13) (mmWBytes (bits w.toNat 31 28) (x.mmOperand w 22 18)) 512 = none
  output : t.badAccess (x.mmOperand w 27 23) (mmOBytes (bits w.toNat 31 28)) 512 = none

/-- A core with an MM put into the accumulator buffer of its task's turn (R454). -/
def Core.withMm (x : Core) (t : Task) (j : MmJob) : Core :=
  { x with
    acc := if t.mms % 2 = 0 then #v[x.acc[0] ++ [j], x.acc[1]] else #v[x.acc[0], x.acc[1] ++ [j]]
    task := some { t with mms := t.mms + 1 } }

theorem Core.withMm_acc (x : Core) (t : Task) (j : MmJob) (i : Fin 2) :
    (x.withMm t j).acc[i] = if i.val = t.mms % 2 then x.acc[i] ++ [j] else x.acc[i] := by
  have hturn := Nat.mod_two_eq_zero_or_one t.mms
  match i with
  | 0 => rcases hturn with h | h <;> simp [Core.withMm, h]
  | 1 => rcases hturn with h | h <;> simp [Core.withMm, h]

/-- An MM that passes its checks waits in the buffer of its turn, and feeds as soon as it may (R452, R454). -/
theorem exec_mm_queues {w : U64} {x : Core} (h : s.issues c 0x50 w (span 32 8) t = true)
    (hx : x = { s.core c with stepOne := false }) (hok : x.MmOk w t) :
    exec (.mm c w) s = .next (s.finish c (x.withMm t (x.mmJob w t)).startFeed) := by
  obtain ⟨hmode, hallowed, hpos, hdepth, hsparse, ha, hw, ho⟩ := hok
  subst hx
  refine congrArg Host.Outcome.next ((State.issue_eq_act h _).trans ((if_neg ?_).trans ?_))
  · rintro (hm | hm | hk | hk | ⟨hm, hk⟩)
    · exact hmode.not_ge hm
    · exact Bool.false_ne_true (hm.symm.trans hallowed)
    · exact hpos.ne' hk
    · exact hdepth.not_gt hk
    · exact hk (hsparse hm)
  · unfold Core.mmOperand at ha hw ho
    simp only [List.findSome?_cons, List.findSome?_nil, ha, hw, ho, Option.map_none]
    rfl

/-- What the feed of an MM computes: its output, and how many results it saturated (R400 to R402, R453). -/
def Core.mmResult (x : Core) (j : MmJob) : Bytes × Nat :=
  mmOutput j.mode j.k (x.lsRead j.a (mmABytes j.k)) (x.lsRead j.w (mmWBytes j.mode j.k))
    (if j.accLoad then x.lsRead j.o (mmOBytes j.mode) else [])

/-- A core after an MM's feed (R453): the result stands in the accumulators, and saturation is counted and marks the task. -/
def Core.endFeed (x : Core) (j : MmJob) : Core :=
  let mark (t : Task) : Task :=
    if (t.route, t.frame, t.node) = j.own then { t with sat := t.sat || decide (0 < (x.mmResult j).2) } else t
  { x with
    acc := x.acc.map fun (l : List MmJob) => l.map fun q =>
      if q = j then { q with feeding := false, result := some ((x.mmResult j).1, x.mmPoison j) } else q
    sat := (x.sat + (x.mmResult j).2) % 2 ^ 32, task := x.task.map mark, saved := x.saved.map mark }

theorem exec_mmFeedEnd_feeds {j : MmJob} (hj : (s.core c).jobs.find? (·.feeding) = some j) : exec (.mmFeedEnd c) s =
    .next ((s.setCore c ((s.core c).endFeed j).startFeed).markOwner c j.own (!((s.core c).mmPoison j).isEmpty)) := by
  simp only [exec, execMmFeedEnd, hj]
  rfl

/-- A core after an MM's drain: the output is written with its poisoned words, and the buffer is free (R446, R454). -/
def Core.drained (x : Core) (j : MmJob) (out : Bytes) (bad : List Nat) : Core :=
  { x.lsWrite j.o out fun w => bad.contains (w - j.o / 32) with
    acc := x.acc.map fun (l : List MmJob) => l.filter fun q => decide (q ≠ j) }

/-- The oldest fed MM drains; accumulators that became undefined drain free values (R439, R454). -/
theorem exec_mmDrainDone_drains {j : MmJob} {r : Bytes × List Nat}
    (hj : minBy (fun a b => decide (a.seq < b.seq)) ((s.core c).jobs.filter (·.result.isSome)) = some j)
    (hr : j.result = some r) : exec (.mmDrainDone c) s = .next (((if j.undef then s.useFree else s).setCore c
      ((s.core c).drained j (if j.undef then s.freeBytes r.1.length else r.1) r.2).startFeed).releaseStall c) := by
  simp only [exec, execMmDrainDone, hj, hr, Option.getD_some]
  rfl

end

/-- Settles O32: each clause is the lemma above for its command; a completed TILE and an MM in its buffer are read off the core that
they leave. -/
theorem controlArithmeticAndMm : Obligations.ControlArithmeticAndMm := by
  refine ⟨fun s c t hf hpc => ⟨exec_necNop_ends hf hpc, exec_necEnd_ends hf hpc⟩,
    fun s c t a hf hpc => ⟨exec_branch_untaken hf hpc a, exec_branch_taken hf hpc a⟩,
    fun s c t n e hf hpc => exec_loop_turns hf hpc n e, fun s c t d l p hf hpc hp => ?_,
    fun s c t d a b op hf hpc => ⟨_, exec_vectorArithmetic_writes hf hpc d a b op⟩,
    fun s c w t h => congrArg Host.Outcome.next (State.issue_eq_act h _),
    fun s c w t h => congrArg Host.Outcome.next (State.issue_eq_act h _), fun s c t ht hs hfed hp hstop => ?_,
    fun s c w t m k a p o x h hm hx hk ha hp ho hmode hallowed hpos hdepth hsparse hA hW hO => ?_,
    fun s c j hj => ⟨_, exec_mmFeedEnd_feeds hj, rfl, rfl, rfl⟩,
    fun s c j r hj hr => ⟨_, exec_mmDrainDone_drains hj hr, rfl, rfl⟩⟩
  · subst hp
    exact ⟨_, exec_scalarArithmetic_writes hf hpc d l⟩
  · obtain ⟨n, hexec⟩ := exec_tileComplete_completes ht hs hfed hp hstop
    refine ⟨_, hexec, rfl, ?_⟩
    rw [State.freshVecs_core _ c.isLt, State.core_setCore_same _ _ c.isLt]
    exact ⟨rfl, rfl, rfl, rfl, ht, rfl⟩
  · subst hm hk ha hp ho
    refine ⟨_, exec_mm_queues h hx ⟨hmode, hallowed, hpos, hdepth, hsparse, hA, hW, hO⟩, rfl, fun i => ?_⟩
    rw [Core.withMm_acc, hx]
    rfl

end Sys2Proof.Machine

namespace Sys2Proof.Machine

/-! The canonical form of board memory. Every operation keeps it (Laws/KeepsMemory), so every meaning does. -/

/-- Whatever next state `o` answers, its memory is in the canonical form. -/
def StaysCanonical (o : Host.Outcome State Fault Refusal) : Prop := ∀ t, o = .next t → t.memOk

theorem canonical_next {t : State} (h : Memory.wf t.mem = true) : StaysCanonical (.next t) := by
  rintro _ ⟨⟩
  exact h

theorem canonical_ite {c : Prop} {_ : Decidable c} {a b : Host.Outcome State Fault Refusal} (ha : StaysCanonical a)
    (hb : StaysCanonical b) : StaysCanonical (if c then a else b) := by
  split
  · exact ha
  · exact hb

theorem canonical_guard {s t : State} {c : Prop} {_ : Decidable c} (ht : Memory.wf t.mem = true) (hs : s.memOk) :
    StaysCanonical (if c then .next t else .next s) := by
  split
  · exact canonical_next ht
  · exact canonical_next hs

theorem execBoardMemoryWrite_canonical {s : State} (hs : Memory.wf s.mem = true) {a : Nat} {d : Bytes} {p : Bool} {e : Bytes} :
    StaysCanonical (execBoardMemoryWrite a d p e s) := by
  unfold execBoardMemoryWrite
  extract_lets b f old u v
  have hu : Memory.wf u.mem = true := by simp [u, hs]
  have hv : Memory.wf v.mem = true := iteWf hu (State.memWrite_wf _ _ _ _ hu)
  split
  · split
    · exact canonical_next (by simp [hs])
    · exact canonical_next (by simp [hv])
  · exact canonical_next hs

theorem execSwitchRoutesStopped_canonical {s : State} (hs : Memory.wf s.mem = true) :
    StaysCanonical (execSwitchRoutesStopped s) := by
  refine canonical_guard (foldl_wf _ (fun s r h => State.withdraw_wf s r h) _ _ ?_) hs
  rw [foldl_mem _ (fun s l => State.evict_mem s l), State.switchTo_mem, State.removeVfs_mem,
    foldl_mem _ (fun s k => State.abortQueue_mem s _ _)]
  exact hs

theorem execTenantSwitch_canonical {s : State} (hs : Memory.wf s.mem = true) (f : Part) (q : Fin 64) :
    StaysCanonical (execTenantSwitch f q s) := by
  unfold execTenantSwitch
  split
  · exact canonical_next hs
  dsimp only
  split
  · exact canonical_next (by simp [hs])
  refine canonical_next (foldl_wf _ (fun s r h => State.boundaryStop_wf s r h) _ _ <|
    foldl_wf _ (fun s p h => iteWf (State.dropWork_wf s p h) h) _ _ ?_)
  simp [hs]

@[simp] theorem State.loseUpgrades_mem (s : State) (b : Nat) : (s.loseUpgrades b).mem = s.mem := rfl

theorem execBoardLost_canonical {s : State} (hs : Memory.wf s.mem = true) (b : Fin 256) :
    StaysCanonical (execBoardLost b s) := by
  unfold execBoardLost
  extract_lets n fab lost noted waiting notedFab quiet failed answered freed freedFab unlisted settled rerouted timed
  have hquiet : Memory.wf quiet.mem = true := by simpa [quiet, noted, lost] using hs
  have hfailed : Memory.wf failed.mem = true := foldl_wf _ (fun s u h => State.failMsg_wf s u h) _ _ hquiet
  have hanswered : Memory.wf answered.mem = true := foldl_wf _ (fun s x h => State.failRequest_wf s _ h) _ _ hfailed
  have hunlisted : Memory.wf unlisted.mem = true := by simp [unlisted, freed, hanswered]
  have hsettled : Memory.wf settled.mem = true := foldl_wf _ (fun s t h => State.snoopAnswer_wf s _ _ _ h) _ _ hunlisted
  have htimed : Memory.wf timed.mem = true := iteWf (by simp [rerouted, hsettled]) (by simp [rerouted, hsettled])
  refine canonical_ite (canonical_ite (canonical_next ?_) (canonical_next htimed)) (canonical_next hs)
  simp [htimed]

theorem execTrackerRunDone_canonical {s : State} (hs : Memory.wf s.mem = true) :
    StaysCanonical (execTrackerRunDone s) := by
  unfold execTrackerRunDone
  dsimp only
  split
  · split
    · refine canonical_ite (canonical_next hs) (canonical_next ?_)
      rw [State.jobDone_mem, State.mapStage_mem]
      refine State.putRecord_wf _ _ _ _ _ _ _ _ _ (foldl_wf _ (fun s e h => State.put_wf _ _ _ _ _ h) _ _ ?_)
      rw [foldl_mem _ (fun s _ => State.note_mem ..)]
      exact hs
    · exact canonical_next hs
  · exact canonical_next hs

theorem execThermalSample_canonical {s : State} (hs : Memory.wf s.mem = true) (temp : Int) (power : Nat) :
    StaysCanonical (execThermalSample temp power s) :=
  canonical_ite (canonical_next hs) <| canonical_ite (canonical_next hs) <|
    canonical_ite (canonical_next (State.dropMain_wf _ _ hs)) <| canonical_ite (canonical_next (by simp [hs])) <|
    canonical_ite (canonical_next hs) <| canonical_ite (canonical_next hs) <|
    canonical_ite (canonical_ite (canonical_guard hs hs) (canonical_next hs)) (canonical_next hs)

/-- Of the commands that may change memory, each keeps the canonical form. They stand in the order of their shape: one operation,
one condition, a decision tree, one with an operation over a list, an issued instruction, and those with a lemma of their own. -/
theorem exec_canonical (i : Instr) (s : State) (hs : Memory.wf s.mem = true) (h : mayChangeMemory i = true) :
    StaysCanonical (exec i s) := by
  cases i with
  | frameApplySwap | streamCreditError | cwait | crd | cadv | cpush | clvl | dmai | dmao | dmaw | necFence | necEnd
  | necNop | loop | scalarArithmetic | vectorArithmetic | ideStreamLeaveSecure | coldReset | bootWatchdogExpiry =>
    exact canonical_next (by simp [hs, apply_ite Memory.wf])
  | bootDone => exact canonical_guard hs hs
  | gtcSnapshotRead | vfFlr | switchCoherenceReleased | tileOverrun | readShared | readUnique
  | readNokeep | writeMerge | evictClean | evictDirty | snoopAck | snoopAckData | admitTenant | patrolRead =>
    exact canonical_guard (by simp [hs, apply_ite Memory.wf]) hs
  | mainPowerLoss | rcRegisterRead | immediateApplyInForce | routeStopAtBoundary | routeStopForce | dmaCopy | dmaFill
  | modelLoad | switchScrubDone | contextWindowExpiry | stageInputLine | coarsePublish | mashClose | detectorPublish | nodeEnd
  | frameRetire | engineFatalError | necDmaDone | mmDrainDone | illegalInstruction | cellarAccess | boardMemoryRead
  | cellarSramEccError | lineNokeep | denied | msgChunk | msgDone | e2eResendTimeout | ideKm | shareResp
  | quorumGatherTimeout | presenceCheck | hostReadCompletion | aux3v3Present | aux3v3Loss | mainPowerReturn | perstNAssert
  | brdRstNAssert | warmBoardReset | registerWrite | boardFatalError =>
    dsimp only [exec, execMainPowerLoss, execRcRegisterRead, execImmediateApplyInForce, execRouteStopAtBoundary,
      execRouteStopForce, execDmaCopy, execDmaFill, execModelLoad, execSwitchScrubDone, execContextWindowExpiry,
      execStageInputLine, execCoarsePublish, execMashClose, execDetectorPublish, execNodeEnd, execFrameRetire,
      execEngineFatalError, execNecDmaDone, execMmDrainDone, execIllegalInstruction, execCellarAccess, execBoardMemoryRead,
      execCellarSramEccError, execLineNokeep, execDenied, execMsgChunk, execMsgDone, execE2eResendTimeout,
      execIdeKm, execShareResp, execQuorumGatherTimeout, execPresenceCheck, execHostReadCompletion,
      execAux3v3Present, execAux3v3Loss, execMainPowerReturn, execPerstNAssert, execBrdRstNAssert,
      execWarmBoardReset, execRegisterWrite, execBoardFatalError]
    repeat' split
    all_goals exact canonical_next (by simp [hs])
  | evictInFlight | switchDrainTimeout | frameStart =>
    dsimp only [exec, execEvictInFlight, execSwitchDrainTimeout, execFrameStart]
    repeat' split
    all_goals exact canonical_next (by simp +contextual [hs, foldl_wf])
  | boardMemoryWrite a d p e => exact execBoardMemoryWrite_canonical hs
  | ldw | stw | lds | ldt | ldd | std | stc | mm | tile | pub =>
    dsimp only [exec, execLdw, execStw, execLds, execLdt, execLdd, execStd, execStc, execMm, execTile, execPub]
    refine canonical_next (State.issue_wf _ _ _ _ _ _ hs fun x t => ?_)
    repeat' split
    all_goals simp [hs]
  | branch core taken target =>
    refine canonical_next (State.issuePlain_wf _ _ _ hs fun x t => ?_)
    split
    · simp [hs]
    · dsimp only
      split <;> simp [hs]
  | switchZeroFillDone =>
    exact canonical_guard (State.endSwitch_wf _ (wf_pinned s.mem none _ hs ((Memory.wf_poison _ hs).filter _))) hs
  | switchRoutesStopped => exact execSwitchRoutesStopped_canonical hs
  | tenantSwitch f q => exact execTenantSwitch_canonical hs f q
  | boardLost b => exact execBoardLost_canonical hs b
  | trackerRunDone => exact execTrackerRunDone_canonical hs
  | thermalSample temp power => exact execThermalSample_canonical hs temp power
  | _ => nomatch h

theorem step_canonical {s t : State} (hs : s.memOk) (h : step s = .next t) : t.memOk := by
  unfold step at h
  split at h
  next =>
    rw [← Host.Outcome.next.inj h]
    exact s.tick_wf hs
  next c rest _ =>
    cases hc : mayChangeMemory c
    · have hmem : t.mem = s.mem := exec_mem (s := { s with pending := rest }) hc h
      exact (congrArg Memory.wf hmem).trans hs
    · exact exec_canonical c { s with pending := rest } hs hc t h

/-- Settles O57: the clock and the commands that may change memory keep the canonical form, and every other command leaves memory. -/
theorem memoryStaysCanonical : Obligations.MemoryStaysCanonical := fun _ _ hs h => step_canonical hs h

end Sys2Proof.Machine

namespace Sys2Proof.Machine

/-! Board memory as a read and a write see it (R461, R462): bytes are read back, the others stay, and a repeated write stores
nothing new. -/

theorem Mem.read_congr {m m' : Mem} {a n : Nat} (h : ∀ i < n, m.get (a + i) = m'.get (a + i)) : m.read a n = m'.read a n :=
  List.map_congr_left fun i hi => h i (List.mem_range.1 hi)

theorem State.memWrite_read_same (s : State) (a : Nat) (bs : Bytes) (p : Bool) : (s.memWrite a bs p).mem.read a bs.length = bs :=
  List.ext_getElem (Mem.read_length ..) fun i _ hi => by rw [Mem.read_getElem, s.memWrite_get_inside a bs p i hi]

theorem State.memWrite_read_apart (s : State) {a b n : Nat} {bs : Bytes} (p : Bool) (h : b + n ≤ a ∨ a + bs.length ≤ b) :
    (s.memWrite a bs p).mem.read b n = s.mem.read b n :=
  Mem.read_congr fun i hi => s.memWrite_get_outside a bs p (b + i) (by omega)

/-- The cells below a written range are those that stood there. -/
theorem memWrite_filter_below (era : Option Nat) (m : List Host.Cell) (a : Nat) (bs : Bytes) :
    (memWrite era m a bs).filter (·.1 < a) = m.filter (·.1 < a) := by
  have hrun : (cellRun era a bs).filter (·.1 < a) = [] :=
    List.filter_eq_nil_iff.2 fun c hc => by simpa using (cellRun_fst era a bs c hc).1
  have habove : (m.filter (a + bs.length ≤ ·.1)).filter (·.1 < a) = [] :=
    List.filter_eq_nil_iff.2 fun c hc => by
      have hc := (List.mem_filter.1 hc).2
      simp only [decide_eq_true_eq] at hc ⊢
      omega
  simp only [memWrite, List.filter_append, hrun, habove, List.filter_filter, Bool.and_self, List.append_nil]

/-- The cells above a written range are those that stood there. -/
theorem memWrite_filter_above (era : Option Nat) (m : List Host.Cell) (a : Nat) (bs : Bytes) :
    (memWrite era m a bs).filter (a + bs.length ≤ ·.1) = m.filter (a + bs.length ≤ ·.1) := by
  have hrun : (cellRun era a bs).filter (a + bs.length ≤ ·.1) = [] :=
    List.filter_eq_nil_iff.2 fun c hc => by simpa using (cellRun_fst era a bs c hc).2.1
  have hbelow : (m.filter (·.1 < a)).filter (a + bs.length ≤ ·.1) = [] :=
    List.filter_eq_nil_iff.2 fun c hc => by
      have hc := (List.mem_filter.1 hc).2
      simp only [decide_eq_true_eq] at hc ⊢
      omega
  simp only [memWrite, List.filter_append, hrun, hbelow, List.filter_filter, Bool.and_self, List.nil_append]

theorem memWrite_idem (era : Option Nat) (m : List Host.Cell) (a : Nat) (bs : Bytes) :
    memWrite era (memWrite era m a bs) a bs = memWrite era m a bs := by
  conv_lhs => rw [memWrite, memWrite_filter_below, memWrite_filter_above]
  rfl

theorem State.memWrite_cells_again (s : State) (a : Nat) (bs : Bytes) (p : Bool) :
    ((s.memWrite a bs p).memWrite a bs p).mem.cells = (s.memWrite a bs p).mem.cells := by
  obtain ⟨hagain, -, -⟩ := (s.memWrite a bs p).memWrite_parts a bs p
  obtain ⟨hcells, hera, -⟩ := s.memWrite_parts a bs p
  rw [hagain, hcells, hera, memWrite_idem]

/-- Settles O59: the bytes are read back one by one, and a second write finds below and above its range what the first left. -/
theorem memoryReadsWhatWasWritten : Obligations.MemoryReadsWhatWasWritten :=
  ⟨fun s a bs p _ => s.memWrite_read_same a bs p, fun s _ _ _ _ p _ h => s.memWrite_read_apart p h,
    fun s a bs p _ => s.memWrite_cells_again a bs p⟩

end Sys2Proof.Machine

namespace Sys2Proof.Machine

/-! Sectors of board memory: what a check finds, what it counts, and what a write leaves poisoned (R457 to R462, R717). -/

theorem mem_nset {l : List Nat} {k x : Nat} : x ∈ nset l k ↔ x = k ∨ x ∈ l := by
  refine ⟨nset_head l k x, ?_⟩
  rintro (rfl | h)
  · exact List.contains_iff_mem.1 (contains_nset_self l x)
  induction l with
  | nil => cases h
  | cons a t ih =>
    rw [nset]
    split
    · exact List.mem_cons_of_mem _ h
    · split
      · exact h
      · exact (List.mem_cons.1 h).elim (fun e => e ▸ List.mem_cons_self) fun h => List.mem_cons_of_mem _ (ih h)

theorem contains_nset_other {l : List Nat} {k x : Nat} (h : x ≠ k) : (nset l k).contains x = l.contains x := by
  simp [List.contains_eq_mem, mem_nset, h]

theorem contains_nrem_self (l : List Nat) (k : Nat) : (nrem l k).contains k = false := by
  simp [nrem]

theorem contains_nrem_other {l : List Nat} {k x : Nat} (h : x ≠ k) : (nrem l k).contains x = l.contains x := by
  simp [nrem, List.contains_eq_mem, h]

/-- Bytes that stand within one sector touch that sector alone. -/
theorem sectorsOf_within {a n : Nat} (hn : 0 < n) (h : a % 64 + n ≤ 64) : sectorsOf a n = [a / 64] := by
  have hsame : (a + n - 1) / 64 - a / 64 + 1 = 1 := by omega
  rw [sectorsOf, if_neg (by omega), hsame]
  simp

/-- A write within one sector: a poisoned one marks it, a clean one of all 64 bytes cleans it, a clean part leaves it (R459, R717). -/
theorem poisonAfter_within {l : List Nat} {a n : Nat} (p : Bool) (hn : 0 < n) (h : a % 64 + n ≤ 64) :
    poisonAfter l a n p = if p then nset l (a / 64) else if n = 64 then nrem l (a / 64) else l := by
  have hwhole : (a ≤ 64 * (a / 64) ∧ 64 * (a / 64) + 64 ≤ a + n) ↔ n = 64 := by omega
  rw [poisonAfter, sectorsOf_within hn h, List.foldl_cons, List.foldl_nil]
  simp only [hwhole]

theorem contains_poisonAfter_self {l : List Nat} {a n : Nat} (p : Bool) (hn : 0 < n) (h : a % 64 + n ≤ 64) :
    (poisonAfter l a n p).contains (a / 64) = (p || (decide (n < 64) && l.contains (a / 64))) := by
  rw [poisonAfter_within p hn h]
  cases p with
  | true => rw [if_pos rfl, contains_nset_self, Bool.true_or]
  | false =>
    rw [if_neg Bool.false_ne_true, Bool.false_or]
    split
    next hw => rw [contains_nrem_self, decide_eq_false (by omega), Bool.false_and]
    next hw => rw [decide_eq_true (by omega), Bool.true_and]

theorem contains_poisonAfter_other {l : List Nat} {a n k : Nat} (p : Bool) (hn : 0 < n) (h : a % 64 + n ≤ 64) (hk : k ≠ a / 64) :
    (poisonAfter l a n p).contains k = l.contains k := by
  rw [poisonAfter_within p hn h]
  split
  · exact contains_nset_other hk
  · split
    · exact contains_nrem_other hk
    · rfl

/-! Counting what a check finds. -/

section
variable (s : State)

theorem State.memUncorrectable_mem (a : Nat) :
    (s.memUncorrectable a).mem = { s.mem with ue := satN 0xFFFFFFFF (s.mem.ue + 1), eccAddr := a } := by
  unfold State.memUncorrectable
  dsimp only
  split
  · rw [State.event_mem, State.note_mem]
  · rw [State.note_mem]

/-- A find changes the counters of board memory alone: its bytes and its poison stay. -/
theorem State.countFind_contents (a : Nat) (f : EccFind) :
    (s.countFind a f).mem.cells = s.mem.cells ∧ (s.countFind a f).mem.era = s.mem.era ∧ (s.countFind a f).mem.poison = s.mem.poison := by
  cases f with
  | clean => exact ⟨rfl, rfl, rfl⟩
  | corrected => simp only [State.countFind, State.memCorrected_mem, and_self]
  | uncorrectable => simp only [State.countFind, State.memUncorrectable_mem, and_self]

theorem State.countFind_get (a : Nat) (f : EccFind) (i : Nat) : (s.countFind a f).mem.get i = s.mem.get i := by
  obtain ⟨hcells, hera, -⟩ := s.countFind_contents a f
  rw [Mem.get_cells, Mem.get_cells, hcells, hera]

theorem State.countFind_read (a : Nat) (f : EccFind) (b n : Nat) : (s.countFind a f).mem.read b n = s.mem.read b n :=
  Mem.read_congr fun _ _ => s.countFind_get a f _

theorem State.event_top (f c source : Nat) : (s.event f c source).top = s.top := by rw [State.event_frame]

theorem State.countFind_top (a : Nat) (f : EccFind) : (s.countFind a f).top = s.top := by
  cases f with
  | clean => rfl
  | corrected => simp [State.countFind, State.memCorrected]
  | uncorrectable =>
    simp only [State.countFind, State.memUncorrectable]
    split
    · rw [State.event_top, State.note_top]
    · rw [State.note_top]

end

/-! Reading a sector. -/

section
variable {s : State} {a src : Nat} {e : Bytes}

theorem State.sectorFind_checked (b : Nat) (hecc : s.top.eccOn = true) (hclean : s.mem.poisoned b 64 = false) :
    s.sectorFind b e = errFind e := by
  simp [State.sectorFind, hecc, hclean]

theorem State.sectorFind_unchecked (b : Nat) (h : s.top.eccOn = false ∨ s.mem.poisoned b 64 = true) : s.sectorFind b e = .clean := by
  rcases h with h | h <;> simp [State.sectorFind, h]

theorem State.sectorFind_noError (b : Nat) (h : e.filter (· ≠ 0) = []) : s.sectorFind b e = .clean := by
  rw [State.sectorFind, errFind_clean h, ite_self]

theorem State.sectorRead_noError (b : Nat) (h : e.filter (· ≠ 0) = []) : s.sectorRead b e = s.mem.read b 64 := by
  simp only [State.sectorRead, h, List.length_nil, true_or, if_true]

theorem State.sectorRead_oneError (b : Nat) (hecc : s.top.eccOn = true) (h : (e.filter (· ≠ 0)).length = 1) :
    s.sectorRead b e = s.mem.read b 64 := by
  simp only [State.sectorRead, h, hecc, and_self, or_true, if_true]

/-- With ECC off a wrong byte is not found: the read brings what the changed ciphertext decrypts to (R460). -/
theorem State.sectorRead_eccOff (b : Nat) (hecc : s.top.eccOn = false) : s.sectorRead b e = if e.filter (· ≠ 0) = [] then s.mem.read b 64
    else xtsDecrypt s.memoryKey b (xorBytes (xtsEncrypt s.memoryKey b (s.mem.read b 64)) (slice e 0 64)) := by
  simp only [State.sectorRead, State.cipher, hecc, List.length_eq_zero_iff, Bool.false_eq_true, and_false, or_false]

variable (hp : s.pwr.mainGood = true) (hin : s.inBoardMem (a / 64 * 64) 64 = true)
include hp hin

/-- A sector that is not poisoned and shows no uncorrectable error answers its bytes. -/
theorem exec_boardMemoryRead_answers (hclean : s.mem.poisoned (a / 64 * 64) 64 = false)
    (hf : s.sectorFind (a / 64 * 64) e ≠ .uncorrectable) : exec (.boardMemoryRead a e src) s =
      .next ((s.countFind (a / 64 * 64) (s.sectorFind (a / 64 * 64) e)).emit (.answer (s.sectorRead (a / 64 * 64) e))) := by
  simp [exec, execBoardMemoryRead, hp, hin, hclean, hf]

/-- A poisoned sector, and one with an uncorrectable error, is a read of poison. -/
theorem exec_boardMemoryRead_poison (hbad : s.mem.poisoned (a / 64 * 64) 64 = true ∨ s.sectorFind (a / 64 * 64) e = .uncorrectable) :
    exec (.boardMemoryRead a e src) s =
      .next (((s.countFind (a / 64 * 64) (s.sectorFind (a / 64 * 64) e)).emit (.answer (s.sectorRead (a / 64 * 64) e))).poisonRead 0
        (s.struct.boardId * 2 ^ 40 + a / 64 * 64) src) := by
  have hbad : (s.mem.poisoned (a / 64 * 64) 64 || decide (s.sectorFind (a / 64 * 64) e = .uncorrectable)) = true := by simpa using hbad
  have hstruct : ((s.countFind (a / 64 * 64) (s.sectorFind (a / 64 * 64) e)).emit (.answer (s.sectorRead (a / 64 * 64) e))).struct =
      s.struct := State.struct_of_sect (by simp)
  simp only [exec, execBoardMemoryRead, hp, hin, hbad, Bool.and_self, if_true, hstruct]

end

/-! Writing within a sector. -/

section
variable {s : State}

theorem State.memWrite_top (s : State) (a : Nat) (bs : Bytes) (p : Bool) : (s.memWrite a bs p).top = s.top := by
  unfold State.memWrite
  dsimp only
  split
  · split
    · rw [State.event_top, State.note_top]
    · rw [State.note_top]
  · rfl

theorem State.memWrite_poison (s : State) (a : Nat) (bs : Bytes) (p : Bool) (hecc : s.top.eccOn = true) :
    (s.memWrite a bs p).mem.poison = poisonAfter s.mem.poison a bs.length p := by
  obtain ⟨-, -, hpoison⟩ := s.memWrite_parts a bs p
  rw [hpoison, hecc, Bool.true_or, if_pos rfl]

theorem State.memWrite_get (s : State) (a : Nat) (bs : Bytes) (p : Bool) (i : Nat) :
    (s.memWrite a bs p).mem.get i = if a ≤ i ∧ i < a + bs.length then (bs[i - a]?).getD 0 else s.mem.get i := by
  split
  next h =>
    have hi : i - a < bs.length := by omega
    rw [List.getElem?_eq_getElem hi, Option.getD_some, ← s.memWrite_get_inside a bs p (i - a) hi, show a + (i - a) = i by omega]
  next h => exact s.memWrite_get_outside a bs p i (by omega)

/-- What a read of the sector at `b` leaves before a part of it is written: the find is counted, and the bytes it brought stand where
they differ. -/
def State.sectorFetched (s : State) (b : Nat) (e : Bytes) : State :=
  let t := s.countFind b (s.sectorFind b e)
  if s.sectorRead b e = t.mem.read b 64 then t else t.memWrite b (s.sectorRead b e) (t.mem.poisoned b 64)

theorem State.sectorFetched_get {b : Nat} {e : Bytes} (h : s.sectorRead b e = s.mem.read b 64) (i : Nat) :
    (s.sectorFetched b e).mem.get i = s.mem.get i := by
  rw [State.sectorFetched, State.countFind_read, if_pos h, State.countFind_get]

/-! What the changed ciphertext of a sector decrypts to is no longer than the sector. -/

theorem xtsFold_length_le (dec : Bytes → Nat → Bytes) (l : List Bytes) (q : Bytes × Nat) :
    (l.foldl (fun (p : Bytes × Nat) b => (p.1 ++ xorBytes (dec b p.2) (leBytes 16 p.2), xtsDouble p.2)) q).1.length ≤
      q.1.length + 16 * l.length := by
  induction l generalizing q with
  | nil => simp
  | cons b t ih =>
    refine (ih _).trans ?_
    simp only [List.length_append, xorBytes, List.length_zipWith, leBytes_length, List.length_cons]
    omega

theorem xtsDecrypt_length_le (key : Bytes) (unit : Nat) {ct : Bytes} (h : ct.length ≤ 64) : (xtsDecrypt key unit ct).length ≤ 64 := by
  have hblocks : (blocks16 ct).length ≤ 4 := by
    simp only [blocks16, List.length_map, List.length_range]
    omega
  have hfold := xtsFold_length_le (fun b t => aesBlockInv (aesRoundKeys (key.take 32)) (xorBytes b (leBytes 16 t))) (blocks16 ct)
    ([], ofLe (aesBlock (aesRoundKeys (key.drop 32)) (leBytes 16 unit)))
  simp only [List.length_nil] at hfold
  exact hfold.trans (by omega)

theorem State.sectorRead_length_le (b : Nat) (e : Bytes) : (s.sectorRead b e).length ≤ 64 := by
  unfold State.sectorRead
  dsimp only
  split
  · exact (Mem.read_length ..).le
  · refine xtsDecrypt_length_le _ _ ?_
    simp only [xorBytes, List.length_zipWith, slice_size]
    omega

/-- Storing a sector again with the poison it has leaves every sector as poisoned as it was. -/
theorem contains_poisonAfter_again (l : List Nat) {b n : Nat} (hb : b % 64 = 0) (hn : n ≤ 64) (k : Nat) :
    (poisonAfter l b n (l.contains (b / 64))).contains k = l.contains k := by
  rcases Nat.eq_zero_or_pos n with rfl | hpos
  · rfl
  by_cases hk : k = b / 64
  · subst hk
    rw [contains_poisonAfter_self _ hpos (by omega)]
    cases l.contains (b / 64) <;> simp
  · exact contains_poisonAfter_other _ hpos (by omega) hk

theorem State.sectorFetched_poison (b : Nat) (e : Bytes) (hecc : s.top.eccOn = true) (hb : b % 64 = 0) (k : Nat) :
    (s.sectorFetched b e).mem.poison.contains k = s.mem.poison.contains k := by
  obtain ⟨-, -, hpoison⟩ := s.countFind_contents b (s.sectorFind b e)
  have hsector := Mem.poisoned_sector (s.countFind b (s.sectorFind b e)).mem (b / 64)
  rw [show b / 64 * 64 = b by omega] at hsector
  unfold State.sectorFetched
  dsimp only
  split
  · rw [hpoison]
  · rw [State.memWrite_poison _ _ _ _ (by rw [State.countFind_top, hecc]), hsector, hpoison,
      contains_poisonAfter_again _ hb (s.sectorRead_length_le b e)]

theorem State.sectorFetched_top (b : Nat) (e : Bytes) : (s.sectorFetched b e).top = s.top := by
  simp only [State.sectorFetched, apply_ite State.top, State.memWrite_top, State.countFind_top, ite_self]


variable {a : Nat} {d : Bytes} (hp : s.pwr.mainGood = true) (hin : s.inBoardMem (a / 64 * 64) 64 = true) (hd : d ≠ [])
  (hw : a % 64 + d.length ≤ 64)
include hp hin hd hw

/-- A write of a whole sector stores its bytes; a write of a part of one reads the sector first (R461). -/
theorem exec_boardMemoryWrite (p : Bool) (e : Bytes) : exec (.boardMemoryWrite a d p e) s = .next
    ((if d.length = 64 then s.memWrite a d p else (s.sectorFetched (a / 64 * 64) e).memWrite a d
      (p || decide (s.sectorFind (a / 64 * 64) e = .uncorrectable))).pairFill a) := by
  have hacts : (s.pwr.mainGood && s.inBoardMem (a / 64 * 64) 64 && decide (a % 64 + d.length ≤ 64) && !d.isEmpty) = true := by
    simp [hp, hin, hw, hd]
  simp only [exec, execBoardMemoryWrite, hacts, if_true, State.sectorFetched]
  split <;> rfl

theorem exec_boardMemoryWrite_bytes (p : Bool) (e : Bytes)
    (hr : d.length = 64 ∨ s.sectorRead (a / 64 * 64) e = s.mem.read (a / 64 * 64) 64) : ∃ u : State,
    exec (.boardMemoryWrite a d p e) s = .next u ∧
      ∀ i, u.mem.get i = if a ≤ i ∧ i < a + d.length then (d[i - a]?).getD 0 else s.mem.get i := by
  refine ⟨_, exec_boardMemoryWrite hp hin hd hw p e, fun i => ?_⟩
  rw [State.pairFill_mem]
  split
  · exact s.memWrite_get a d _ i
  next hpart => rw [State.memWrite_get, State.sectorFetched_get (hr.resolve_left hpart)]

theorem exec_boardMemoryWrite_poison (p : Bool) (e : Bytes) (hecc : s.top.eccOn = true) : ∃ u : State,
    exec (.boardMemoryWrite a d p e) s = .next u ∧
      u.mem.poisoned (a / 64 * 64) 64 = (p || (decide (d.length < 64) && (s.mem.poisoned (a / 64 * 64) 64 ||
        decide (s.sectorFind (a / 64 * 64) e = .uncorrectable)))) ∧
      ∀ k, k ≠ a / 64 → u.mem.poison.contains k = s.mem.poison.contains k := by
  refine ⟨_, exec_boardMemoryWrite hp hin hd hw p e, ?_⟩
  have hpos : 0 < d.length := List.length_pos_iff.2 hd
  rw [State.pairFill_mem, Mem.poisoned_sector, Mem.poisoned_sector]
  split
  next hwhole =>
    rw [State.memWrite_poison _ _ _ _ hecc, contains_poisonAfter_self _ hpos hw]
    exact ⟨by simp [hwhole], fun k hk => contains_poisonAfter_other _ hpos hw hk⟩
  next hpart =>
    have hshort : d.length < 64 := by omega
    rw [State.memWrite_poison _ _ _ _ (by rw [State.sectorFetched_top, hecc]), contains_poisonAfter_self _ hpos hw,
      State.sectorFetched_poison _ _ hecc (by omega)]
    refine ⟨by rw [decide_eq_true hshort, Bool.true_and, Bool.true_and, Bool.or_assoc, Bool.or_comm (decide _)], fun k hk => ?_⟩
    rw [contains_poisonAfter_other _ hpos hw hk, State.sectorFetched_poison _ _ hecc (by omega)]

end

/-- Settles O34: a read answers what the check of its sector finds, and a write stores into the sector that a read of it left. -/
theorem boardMemoryIsReadAndWritten : Obligations.BoardMemoryIsReadAndWritten := by
  refine ⟨fun s a src e hp hin hclean he => ?_, fun s a src e hp hin hclean hecc => ?_, fun s a src e hp hin hclean hecc he => ?_,
    fun s a src e hp hin hclean hecc he => ?_, fun s a src e hp hin hbad => ?_,
    fun s a d p e hp _ hin hd hw hr => exec_boardMemoryWrite_bytes hp hin hd hw p e hr,
    fun s a d p e hp hin hd hw hecc => exec_boardMemoryWrite_poison hp hin hd hw p e hecc⟩
  · have hf := s.sectorFind_noError (a / 64 * 64) he
    rw [exec_boardMemoryRead_answers hp hin hclean (by rw [hf]; decide), hf, State.sectorRead_noError _ he]
    rfl
  · have hf : s.sectorFind (a / 64 * 64) e = .clean := State.sectorFind_unchecked _ (.inl hecc)
    rw [exec_boardMemoryRead_answers hp hin hclean (by rw [hf]; decide), hf, State.sectorRead_eccOff _ hecc]
    rfl
  · have hf : s.sectorFind (a / 64 * 64) e = .corrected :=
      (State.sectorFind_checked _ hecc hclean).trans (errFind_corrected he)
    refine ⟨_, exec_boardMemoryRead_answers hp hin hclean (by rw [hf]; decide), ?_⟩
    rw [hf, State.emit_mem, State.countFind, State.memCorrected_mem, State.emit_out, State.sectorRead_oneError _ hecc he]
    exact ⟨rfl, rfl, rfl, List.mem_append_right _ List.mem_cons_self⟩
  · have hf : s.sectorFind (a / 64 * 64) e = .uncorrectable :=
      (State.sectorFind_checked _ hecc hclean).trans (errFind_uncorrectable he)
    refine ⟨_, exec_boardMemoryRead_poison hp hin (.inr hf), ?_⟩
    rw [hf, State.emit_mem, State.countFind, State.memUncorrectable_mem]
  · rw [exec_boardMemoryRead_poison hp hin (.inl hbad), State.sectorFind_unchecked _ (.inr hbad)]
    rfl

end Sys2Proof.Machine

namespace Sys2Proof.Machine

/-! Requests that reach a home (R474, R481, R486, R498): dropping old answers touches the kept answers alone, and a request then is
a repeat, is under way, is served, or is denied. -/

section
variable {s : State} {h : FabHdr}

/-- With no answer kept there is none to drop. -/
theorem State.pruneKept_eq_self (hk : s.fab.kept = []) (h : FabHdr) : s.pruneKept h = s := by
  simp only [State.pruneKept, hk, List.filter_nil]
  rw [← hk]

theorem State.fresh_hears (hf : s.fresh h = true) : s.hears h.src = true := by
  simp only [State.fresh, Bool.and_eq_true] at hf
  obtain ⟨⟨⟨⟨hheard, -⟩, -⟩, -⟩, -⟩ := hf
  exact hheard

/-- A request that repeats none and is served starts. -/
theorem State.homeRequest_fresh (hf : s.fresh h = true) (typ : ReqType) (m : List Bool) (d : Bytes) (p : Bool) :
    s.homeRequest typ h m d p = (s.pruneKept h).startReq (homeReq s.clk typ h m d p) := by
  simp only [State.fresh, Bool.and_eq_true] at hf
  obtain ⟨⟨⟨⟨-, hserves⟩, hkept⟩, htxns⟩, hqueue⟩ := hf
  have hkept : (s.pruneKept h).fab.kept.find? (fun k => k.src = h.src && k.reqId = h.reqId) = none :=
    List.find?_eq_none.2 fun k hk => Bool.eq_false_iff.1 ((Bool.not_eq_true' _).mp (List.all_eq_true.1 hkept k (List.mem_filter.1 hk).1))
  unfold State.homeRequest
  dsimp only
  split
  next k hk => exact absurd (hk.symm.trans hkept) (Option.some_ne_none k)
  split
  next hmine =>
    exfalso
    rcases (Bool.or_eq_true _ _).mp hmine with hmine | hmine
    · obtain ⟨t, ht, hmine⟩ := List.any_eq_true.1 hmine
      exact Bool.false_ne_true (((Bool.not_eq_true' _).mp (List.all_eq_true.1 htxns t ht)).symm.trans (Bool.and_eq_true _ _ ▸ hmine).1)
    · obtain ⟨r, hr, hmine⟩ := List.any_eq_true.1 hmine
      exact Bool.false_ne_true (((Bool.not_eq_true' _).mp (List.all_eq_true.1 hqueue r hr)).symm.trans (Bool.and_eq_true _ _ ▸ hmine).1)
  next => exact if_pos hserves

/-- A repeat of a request gets the answer that is kept for it. -/
theorem State.homeRequest_repeat {k : Kept} (hk : (s.pruneKept h).fab.kept.find? (fun k => k.src = h.src && k.reqId = h.reqId) = some k)
    (typ : ReqType) (m : List Bool) (d : Bytes) (p : Bool) : s.homeRequest typ h m d p = (s.pruneKept h).resendKept k := by
  unfold State.homeRequest
  dsimp only
  split
  next k' hk' => rw [Option.some.inj (hk'.symm.trans hk)]; rfl
  next hk' => exact absurd (hk.symm.trans hk') (Option.some_ne_none k)

/-- A request that the home does not serve is denied. -/
theorem State.homeRequest_denied (hkept : s.fab.kept = []) (htxns : s.fab.txns = []) (hqueue : s.fab.queue = [])
    (hserves : s.serves (onLine h) = false) (typ : ReqType) (m : List Bool) (d : Bytes) (p : Bool) :
    s.homeRequest typ h m d p = s.answerBare 0x18 h.src h.reqId h.part (h.addr / 128 * 128) := by
  have hprune : s.pruneKept (onLine h) = s := State.pruneKept_eq_self hkept _
  simp only [onLine] at hprune hserves
  simp [State.homeRequest, hprune, hkept, htxns, hqueue, hserves]

end

/-- Settles O36: a heard request runs `State.homeRequest`, whose four ways are the lemmas above; a lost board is not heard. -/
theorem homeTakesRequests : Obligations.HomeTakesRequests := by
  refine ⟨fun s h hf => ?_, fun s h hf => ?_, fun s h hf => ?_, fun s h m d p hf => ?_, fun s h hk ht hq hheard hserves => ?_,
    fun s h k hheard hk => ?_, fun s h hlost => ?_⟩
  · exact (if_pos (State.fresh_hears hf)).trans (congrArg _ (State.homeRequest_fresh hf ..))
  · exact (if_pos (State.fresh_hears hf)).trans (congrArg _ (State.homeRequest_fresh hf ..))
  · exact (if_pos (State.fresh_hears hf)).trans (congrArg _ (State.homeRequest_fresh hf ..))
  · exact (if_pos (State.fresh_hears hf)).trans (congrArg _ (State.homeRequest_fresh hf ..))
  · have hdenied := State.homeRequest_denied hk ht hq hserves
    exact ⟨(if_pos hheard).trans (congrArg _ (hdenied ..)), (if_pos hheard).trans (congrArg _ (hdenied ..)),
      (if_pos hheard).trans (congrArg _ (hdenied ..)), fun m d p => (if_pos hheard).trans (congrArg _ (hdenied ..))⟩
  · have hrepeat := State.homeRequest_repeat hk
    exact ⟨(if_pos hheard).trans (congrArg _ (hrepeat ..)), (if_pos hheard).trans (congrArg _ (hrepeat ..)),
      (if_pos hheard).trans (congrArg _ (hrepeat ..)), fun m d p => (if_pos hheard).trans (congrArg _ (hrepeat ..))⟩
  · have hunheard : ¬ s.hears h.src = true := by rw [State.hears, hlost]; decide
    exact ⟨if_neg hunheard, if_neg hunheard, if_neg hunheard, fun _ _ _ => if_neg hunheard⟩

end Sys2Proof.Machine

namespace Sys2Proof.Machine

/-! The home's actions (Table 11-4, R476 to R482, R486): how a request waits, when it starts, and what it does by its type and the
directory entry of its line. -/

/-! Waiting in order of arrival (R481). -/

section
variable {b : Fab} {r : HomeReq}

theorem Fab.enqueue_last (h : ∀ x ∈ b.queue, x.arrived < r.arrived ∨ x.arrived = r.arrived ∧ x.port ≤ r.port) :
    b.enqueue r = { b with queue := b.queue ++ [r] } := by
  have hfirst : ∀ x ∈ b.queue, (decide (x.arrived < r.arrived) || (decide (x.arrived = r.arrived) && decide (x.port ≤ r.port))) = true :=
    fun x hx => by simpa using h x hx
  have hlater : b.queue.filter (fun x => !(decide (x.arrived < r.arrived) ||
      (decide (x.arrived = r.arrived) && decide (x.port ≤ r.port)))) = [] :=
    List.filter_eq_nil_iff.2 fun x hx => by rw [hfirst x hx]; decide
  simp only [Fab.enqueue, List.filter_eq_self.2 hfirst, hlater, List.append_nil]

theorem Fab.enqueue_first (h : ∀ x ∈ b.queue, x.arrived = r.arrived ∧ r.port < x.port) :
    b.enqueue r = { b with queue := r :: b.queue } := by
  have hlater : ∀ x ∈ b.queue, (!(decide (x.arrived < r.arrived) ||
      (decide (x.arrived = r.arrived) && decide (x.port ≤ r.port)))) = true := fun x hx => by
    obtain ⟨harrived, hport⟩ := h x hx
    simp only [harrived, lt_irrefl, decide_false, decide_true, Bool.false_or, Bool.true_and, Bool.not_eq_true', decide_eq_false_iff_not]
    omega
  have hfirst : b.queue.filter (fun x => decide (x.arrived < r.arrived) ||
      (decide (x.arrived = r.arrived) && decide (x.port ≤ r.port))) = [] :=
    List.filter_eq_nil_iff.2 fun x hx => Bool.eq_false_iff.1 ((Bool.not_eq_true' _).mp (hlater x hx))
  simp only [Fab.enqueue, List.filter_eq_self.2 hlater, hfirst, List.nil_append, List.cons_append]

end

/-! Sharers (R476). -/

theorem nset_length_le (l : List Nat) (k : Nat) : (nset l k).length ≤ l.length + 1 := by
  induction l with
  | nil => exact le_rfl
  | cons a t ih =>
    rw [nset]
    split
    · exact le_rfl
    · split
      · exact Nat.le_succ _
      · exact Nat.succ_le_succ ih

/-- An entry with room for one more sharer lists it, and has no owner any more. -/
theorem DirEnt.share_lists {e : DirEnt} (hb : e.broadcast = false) (hlen : e.sharers.length < 8) (b : Nat) :
    e.share b = { e with sharers := nset e.sharers b, owner := none } := by
  have hroom : ¬ 8 < (nset e.sharers b).length := by have := nset_length_le e.sharers b; omega
  simp only [DirEnt.share, hb, hroom, decide_false, Bool.or_self, Bool.false_eq_true, if_false]

section
variable {s : State} {r : HomeReq}

/-! When a request starts (R477, R481). -/

theorem Fab.dirFull_of_entry {b : Fab} {a : Nat} {e : DirEnt} (h : b.entry a = some e) : b.dirFull a = false := by
  rw [Fab.dirFull, h]
  rfl

theorem State.startReq_busy (h : s.fab.busyLine r.addr = true) : s.startReq r = { s with fab := s.fab.enqueue r } := if_pos h

/-- A request whose line is free, and that needs no new entry in a full set, begins. -/
theorem State.startReq_begins (hfree : s.fab.busyLine r.addr = false) (hroom : (r.typ.keeps && s.fab.dirFull r.addr) = false) :
    s.startReq r = s.beginReq r := by
  rw [State.startReq, hfree, hroom]
  rfl

theorem State.startReq_held {e : DirEnt} (hfree : s.fab.busyLine r.addr = false) (he : s.fab.entry r.addr = some e) :
    s.startReq r = s.beginReq r :=
  State.startReq_begins hfree (by rw [Fab.dirFull_of_entry he, Bool.and_false])

/-- A full directory set: the least recently used entry that no transaction holds is taken back first, or one is awaited (R477). -/
theorem State.startReq_full (hfree : s.fab.busyLine r.addr = false) (htyp : r.typ = .readShared ∨ r.typ = .readUnique)
    (hfull : s.fab.dirFull r.addr = true) :
    (∀ v, s.fab.victim r.addr = some v → s.startReq r = ({ s with fab := s.fab.enqueue r } : State).snoop 0x11
      { typ := .backInv, addr := v.addr } (s.holders v)) ∧
    (s.fab.victim r.addr = none → s.startReq r = { s with fab := s.fab.enqueue r }) := by
  have hkeeps : r.typ.keeps = true := by rcases htyp with htyp | htyp <;> rw [htyp] <;> rfl
  constructor
  · intro v hv
    simp only [State.startReq, hfree, hkeeps, hfull, hv, Bool.false_eq_true, if_false, Bool.and_self, if_true]
  · intro hv
    simp only [State.startReq, hfree, hkeeps, hfull, hv, Bool.false_eq_true, if_false, Bool.and_self, if_true]

/-! A line that no board holds. -/

theorem State.beginReq_unheld (he : s.fab.entry r.addr = none) : s.beginReq r = s.finishReq r none [] := by
  simp only [State.beginReq, he]

theorem State.finishReq_unheld_owned (hlost : s.fab.lost.contains r.src = false) (htyp : r.typ = .readShared ∨ r.typ = .readUnique) :
    s.finishReq r none [] =
      ({ s with fab := s.fab.setEntry { addr := r.addr, owner := some r.src } } : State).answerLine 0x13 r := by
  rcases htyp with htyp | htyp <;> simp only [State.finishReq, hlost, htyp, Bool.false_eq_true, if_false]

theorem State.finishReq_unheld_nokeep (hlost : s.fab.lost.contains r.src = false) (hme : r.src ≠ s.struct.boardId)
    (htyp : r.typ = .readNokeep) (hquiet : r.quiet = false) : s.finishReq r none [] = s.answerLine 0x15 r := by
  simp only [State.finishReq, hlost, htyp, hquiet, hme, decide_false, Bool.false_eq_true, if_false]

theorem State.finishReq_unheld_merge (hlost : s.fab.lost.contains r.src = false) (hme : r.src ≠ s.struct.boardId)
    (htyp : r.typ = .writeMerge) : s.finishReq r none [] =
      (({ s with fab := s.fab.dropEntry r.addr } : State).mergeLine r r.poison).answerBare 0x16 r.src r.reqId r.part r.addr := by
  simp only [State.finishReq, hlost, htyp, hme, decide_false, Bool.false_eq_true, if_false]

/-! A line that another board owns. -/

section
variable {e : DirEnt} {o : Nat} (he : s.fab.entry r.addr = some e) (ho : e.owner = some o) (hother : o ≠ r.src)
include he ho hother

theorem State.beginReq_owned_share (htyp : r.typ = .readShared ∨ r.typ = .readNokeep) : s.beginReq r = s.snoop 0x10 r [o] := by
  rcases htyp with htyp | htyp <;> simp only [State.beginReq, he, htyp, ho, hother, if_false]

theorem State.beginReq_owned_unique (htyp : r.typ = .readUnique) : s.beginReq r = s.snoop 0x11 r [o] := by
  simp only [State.beginReq, he, htyp, ho, hother, if_false]

end

/-! A line with sharers. -/

section
variable {e : DirEnt} (he : s.fab.entry r.addr = some e)
include he

theorem State.beginReq_shared_share (ho : e.owner = none) (hlost : s.fab.lost.contains r.src = false) (htyp : r.typ = .readShared) :
    s.beginReq r = ({ s with fab := s.fab.setEntry (e.share r.src) } : State).answerLine 0x12 r := by
  simp only [State.beginReq, State.finishReq, he, htyp, ho, hlost, Bool.false_eq_true, if_false]

theorem State.beginReq_shared_unique (ho : e.owner = none) (htyp : r.typ = .readUnique)
    (hothers : (s.holders e).filter (· ≠ r.src) ≠ []) : s.beginReq r = s.snoop 0x11 r ((s.holders e).filter (· ≠ r.src)) := by
  simp only [State.beginReq, he, htyp, ho, if_true, List.isEmpty_iff, hothers, if_false]

/-- The only sharer becomes the owner of the bytes that it has. -/
theorem State.beginReq_sole_unique (ho : e.owner = none) (hlost : s.fab.lost.contains r.src = false) (htyp : r.typ = .readUnique)
    (hb : e.broadcast = false) (hsole : e.sharers = [r.src]) : s.beginReq r =
      ({ s with fab := s.fab.setEntry { addr := r.addr, owner := some r.src } } : State).answerBare 0x14 r.src r.reqId r.part r.addr := by
  have hothers : (s.holders e).filter (· ≠ r.src) = [] := by simp [State.holders, ho, hb, hsole]
  have hsharer : e.sharers.contains r.src = true := by simp [hsole]
  simp only [State.beginReq, State.finishReq, he, htyp, ho, hothers, List.isEmpty_nil, if_true, hlost, Bool.false_eq_true, if_false,
    Option.isNone_none, Bool.true_and, hsharer]

theorem State.beginReq_held_merge (hheld : s.holders e ≠ []) (htyp : r.typ = .writeMerge) :
    s.beginReq r = s.snoop 0x11 r (s.holders e) := by
  simp only [State.beginReq, he, htyp, reduceCtorEq, if_false, List.isEmpty_iff, hheld]

end

/-! The last snoop answer (R486). -/

theorem State.snoopAnswer_last {a b : Nat} {t : Txn} (ht : s.fab.txns.find? (·.req.addr = a) = some t) (hw : t.waiting = [b]) :
    s.snoopAnswer b a false = (((({ s with fab := { s.fab with txns := s.fab.txns.filter (·.req.addr ≠ a) } } : State).finishReq t.req
      (s.fab.entry a) t.evicted).drainQueue).settleLeaving) := by
  simp [State.snoopAnswer, ht, hw]

end

/-- Settles O37: each clause is the lemma above for its request and directory entry. -/
theorem homeActions : Obligations.HomeActions := by
  refine ⟨fun s r h => State.startReq_busy h, fun b r h => Fab.enqueue_last h, fun b r _ h => Fab.enqueue_first h,
    fun s r hfree hlost hfull he htyp => ?_, fun s r hfree hlost hme he htyp hquiet => ?_, fun s r hfree hlost hme he htyp => ?_,
    fun s r e o hfree he ho hother htyp => (State.startReq_held hfree he).trans (State.beginReq_owned_share he ho hother htyp),
    fun s r e o hfree he ho hother htyp => (State.startReq_held hfree he).trans (State.beginReq_owned_unique he ho hother htyp),
    fun s r e hfree he ho hlost htyp => (State.startReq_held hfree he).trans (State.beginReq_shared_share he ho hlost htyp),
    fun s r e hfree he ho htyp hothers => (State.startReq_held hfree he).trans (State.beginReq_shared_unique he ho htyp hothers),
    fun s r e hfree he ho hlost htyp hb hsole => (State.startReq_held hfree he).trans (State.beginReq_sole_unique he ho hlost htyp hb hsole),
    fun s r e hfree he hheld htyp => (State.startReq_held hfree he).trans (State.beginReq_held_merge he hheld htyp),
    fun s r v hfree htyp hfull hv => (State.startReq_full hfree htyp hfull).1 v hv,
    fun s r hfree htyp hfull hv => (State.startReq_full hfree htyp hfull).2 hv, fun s e b hb hlen => ?_, fun s h t hheard ht hw => ?_⟩
  · rw [State.startReq_begins hfree (by rw [hfull, Bool.and_false]), State.beginReq_unheld he, State.finishReq_unheld_owned hlost htyp]
  · rw [State.startReq_begins hfree (by rw [htyp]; rfl), State.beginReq_unheld he, State.finishReq_unheld_nokeep hlost hme htyp hquiet]
  · rw [State.startReq_begins hfree (by rw [htyp]; rfl), State.beginReq_unheld he, State.finishReq_unheld_merge hlost hme htyp]
  · rw [DirEnt.share_lists hb hlen]
    exact ⟨rfl, hb, rfl, by simp only [State.holders, hb, Bool.false_eq_true, if_false]⟩
  · exact (if_pos hheard).trans (congrArg _ (State.snoopAnswer_last ht hw))

end Sys2Proof.Machine

namespace Sys2Proof.Machine

/-! Snoops at a cache, and their answers and evictions at the home (Tables 11-4 and 11-5, R482 to R487). -/

/-! Answers and evictions at the home. -/

section
variable {s : State} {h : FabHdr} (hheard : s.hears h.src = true)
include hheard

theorem exec_snoopAckData_stores (hsnoop : s.snooping h.src (h.addr / 128 * 128) = true) (d : Bytes) (p : Bool) :
    exec (.snoopAckData h d p) s = .next ((s.memWrite (h.addr / 128 * 128 % 2 ^ 40) (slice d 0 128) p).snoopAnswer h.src
      (h.addr / 128 * 128) false) := by
  have hacts : (s.hears h.src && s.snooping h.src (h.addr / 128 * 128)) = true := by rw [hheard, hsnoop]; rfl
  exact if_pos hacts

/-- The eviction that the answer speaks of stands attached to the snoop, and is acknowledged behind it (R485). -/
theorem exec_evictInFlight_acknowledges {t : Txn} {id : Nat} (ht : t.req.addr = h.addr / 128 * 128) (hts : s.fab.txns = [t])
    (hw : t.waiting = [h.src]) (hatt : t.attached = [(h.src, id)]) : exec (.evictInFlight h) s =
      .next ((s.snoopAnswer h.src (h.addr / 128 * 128) true).answerBare 0x17 h.src id h.part (h.addr / 128 * 128)) := by
  simp [exec, execEvictInFlight, onLine, hheard, State.snooping, hts, ht, hw, hatt]

end

/-- An eviction that repeats no request and meets no snoop of its line is applied at once. -/
theorem State.eviction_owner {s : State} {h : FabHdr} {e : DirEnt} (hk : s.fab.kept = []) (hts : s.fab.txns = [])
    (he : s.fab.entry h.addr = some e) (ho : e.owner = some h.src) :
    s.eviction h none = (s.settleEntry h.addr none).answerBare 0x17 h.src h.reqId h.part h.addr ∧
    ∀ d p, s.eviction h (some (d, p)) = ((s.memWrite (h.addr % 2 ^ 40) (slice d 0 128) p).settleEntry h.addr none).answerBare
      0x17 h.src h.reqId h.part h.addr := by
  simp [State.eviction, State.pruneKept_eq_self hk, hk, hts, he, ho]

theorem State.eviction_sharer {s : State} {h : FabHdr} {e : DirEnt} (hk : s.fab.kept = []) (hts : s.fab.txns = [])
    (he : s.fab.entry h.addr = some e) (ho : e.owner = none) : s.eviction h none =
      (s.settleEntry h.addr (some { e with sharers := nrem e.sharers h.src })).answerBare 0x17 h.src h.reqId h.part h.addr := by
  simp [State.eviction, State.pruneKept_eq_self hk, hk, hts, he, ho]

/-- A clean eviction that meets an outstanding snoop of its board is attached to it (R485). -/
theorem State.eviction_attached {s : State} {h : FabHdr} {t : Txn} (hk : s.fab.kept = []) (ht : t.req.addr = h.addr)
    (hts : s.fab.txns = [t]) (hw : t.waiting.contains h.src = true) (hatt : t.attached = []) : s.eviction h none =
      { s with fab := { s.fab with txns := [{ t with attached := [(h.src, h.reqId)] }] } } := by
  have hw : h.src ∈ t.waiting := List.contains_iff_mem.1 hw
  simp [State.eviction, State.pruneKept_eq_self hk, hk, hts, ht, hw, hatt]

/-- Settles O38: a snoop at a cache acts by the state of its line; an answer or eviction at the home by the lemma above. -/
theorem cachesAnswerSnoops : Obligations.CachesAnswerSnoops := by
  refine ⟨fun s home a id l hh hl hst => ?modified, fun s home a id l hh hl hst => ?exclusive, fun s home a id l hh hl hst => ?shared,
    fun s home a id l hh hl hst => ?upgrading, fun s home a id hh hwait => ?awaited, fun s home a id l hh hl hst => ?evicting,
    fun s h d p hh hsnoop => exec_snoopAckData_stores hh hsnoop d p,
    fun s h t id hh ht hts hw hatt => exec_evictInFlight_acknowledges hh ht hts hw hatt,
    fun s h e hh hk hts he ho => ?owner, fun s h e hh hk hts he ho => ?sharer, fun s h t hh hk ht hts hw hatt => ?attached⟩
  case modified | exclusive | shared | upgrading | evicting => simp [exec, execSnoopShare, execSnoopInv, hh, hl, hst]
  case awaited =>
    cases hl : s.fab.rline (a / 128 * 128) with
    | none => simp [exec, execSnoopShare, execSnoopInv, hh, hl]
    | some l =>
      have hst : l.st = .waitS ∨ l.st = .waitU := by simpa [hl] using hwait
      rcases hst with hst | hst <;> simp [exec, execSnoopShare, execSnoopInv, hh, hl, hst]
  case owner =>
    obtain ⟨hclean, hdirty⟩ := State.eviction_owner (h := onLine h) hk hts he ho
    exact ⟨(if_pos hh).trans (congrArg _ hclean), fun d p => (if_pos hh).trans (congrArg _ (hdirty d p))⟩
  case sharer => exact (if_pos hh).trans (congrArg _ (State.eviction_sharer (h := onLine h) hk hts he ho))
  case attached => exact (if_pos hh).trans (congrArg _ (State.eviction_attached (h := onLine h) hk ht hts hw hatt))

end Sys2Proof.Machine

namespace Sys2Proof.Machine

/-! What sending leaves of the fabric block: lines, directory, transactions, counters and what else stands at the cellar and the home.
A message or a request changes ports, waiting messages and the list of unanswered requests alone. -/

/-- The fabric block without its ports, its waiting messages and its requests under way. -/
def Fab.standing (b : Fab) : Fab :=
  { b with ports := Vector.replicate 8 {}, heldMsgs := [], stuck := [], nextReq := [], unans := [], waitReq := [] }

section
variable (s : State)

theorem State.mapPort_standing (p : Nat) (g : LnkPort → LnkPort) : (s.mapPort p g).fab.standing = s.fab.standing := rfl

theorem State.pump_standing (p : Nat) (l : List Bytes) : (s.pump p l).fab.standing = s.fab.standing := by
  induction l generalizing s with
  | nil => rfl
  | cons b t ih =>
    rw [State.pump]
    split
    · exact ih _
    · rfl

theorem State.forward_standing (m : Msg) : (s.forward m).fab.standing = s.fab.standing := by
  unfold State.forward
  split
  · rfl
  · split
    · split
      · rfl
      · exact State.pump_standing ..
    · rfl

theorem State.sendMsg_standing (m : Msg) : (s.sendMsg m).fab.standing = s.fab.standing := s.forward_standing _

theorem State.sendRequest_standing (m : Msg) (cmd : Option (Nat × Nat × Nat)) : (s.sendRequest m cmd).fab.standing = s.fab.standing :=
  State.sendMsg_standing ..

theorem State.request_standing (m : Msg) (cmd : Option (Nat × Nat × Nat)) : (s.request m cmd).fab.standing = s.fab.standing := by
  unfold State.request
  split
  · exact s.sendRequest_standing m cmd
  · rfl

theorem State.issueWaiting_standing (d n : Nat) : (s.issueWaiting d n).fab.standing = s.fab.standing := by
  induction n generalizing s with
  | zero => rfl
  | succ n ih =>
    unfold State.issueWaiting
    split
    · rfl
    · split
      · exact (ih _).trans (State.sendRequest_standing ..)
      · rfl

theorem State.answered_standing (src id : Nat) : (s.answered src id).fab.standing = s.fab.standing := State.issueWaiting_standing ..

end

/-- The remote lines are among what stands. -/
theorem Fab.rline_of_standing {b c : Fab} (h : b.standing = c.standing) (a : Nat) : b.rline a = c.rline a :=
  congrArg (·.rline a) h

/-! Remote lines that are set and dropped. -/

theorem Fab.rline_addr {b : Fab} {a : Nat} {l : RLine} (h : b.rline a = some l) : l.addr = a := by
  simpa using List.find?_some h

theorem Fab.rline_setRline (b : Fab) (l : RLine) : (b.setRline l).rline l.addr = some l := by
  have hgone : (b.remote.filter (·.addr ≠ l.addr)).find? (·.addr = l.addr) = none :=
    List.find?_eq_none.2 fun x hx => by simpa using (List.mem_filter.1 hx).2
  simp only [Fab.rline, Fab.setRline, List.find?_append, hgone, Option.none_or, List.find?_cons, decide_true]

/-- An update of a line that is listed reads so. -/
theorem Fab.rline_update {b : Fab} {a : Nat} {l m : RLine} (hl : b.rline a = some l) (hm : m.addr = l.addr) :
    (b.setRline m).rline a = some m := by
  rw [← (hm.trans (Fab.rline_addr hl)), Fab.rline_setRline]

theorem rline_filter_other (l : List RLine) (a : Nat) : (l.filter fun x => decide (x.addr ≠ a)).find? (·.addr = a) = none :=
  List.find?_eq_none.2 fun x hx => by simpa using (List.mem_filter.1 hx).2

/-! Answers and the requests that they belong to (R496). -/

section
variable {s : State} {h : FabHdr}

theorem State.expects_iff {typs : List Nat} {u : Unans} :
    s.expects h typs = some u ↔ s.hears h.src = true ∧ s.unanswered h.src h.reqId = some u ∧ typs.contains u.msg.typ = true := by
  unfold State.expects
  cases s.hears h.src with
  | false => simp
  | true =>
    cases s.unanswered h.src h.reqId with
    | none => simp
    | some x =>
      simp only [if_true, Option.ite_none_right_eq_some, Option.some.injEq, true_and]
      exact ⟨fun ⟨ht, hx⟩ => ⟨hx, hx ▸ ht⟩, fun ⟨hx, ht⟩ => ⟨hx ▸ ht, hx⟩⟩

theorem State.expects_none (hn : s.unanswered h.src h.reqId = none) (typs : List Nat) : s.expects h typs = none := by
  simp [State.expects, hn]

/-- With no request waiting for room, an answer takes its request from the list and does nothing else. -/
theorem State.answered_alone (hw : s.fab.waitReq = []) (src id : Nat) : s.answered src id =
    { s with fab := { s.fab with unans := s.fab.unans.filter fun u => !(u.msg.dest = src && u.msg.reqId = id) } } := by
  rw [State.answered, hw, List.length_nil, State.issueWaiting]

theorem State.answered_unanswered (hw : s.fab.waitReq = []) (src id : Nat) : (s.answered src id).unanswered src id = none := by
  rw [State.answered_alone hw]
  exact List.find?_eq_none.2 fun u hu => Bool.eq_false_iff.1 ((Bool.not_eq_true' _).mp (List.mem_filter.1 hu).2)

end

/-- A line that is awaited is installed as the answer says; without bytes in the answer it keeps its own (R487). -/
theorem State.installLine_rline {s : State} {a : Nat} {l : RLine} (st : CohSt) (data : Option (Bytes × Bool))
    (hl : s.fab.rline a = some l) (hopen : l.settled = false) (hst : l.st ≠ .evicting) (hw : l.wait = []) :
    (s.installLine a st data).fab.rline a =
      some { l with st := st, data := (data.getD (l.data, l.poison)).1, poison := (data.getD (l.data, l.poison)).2 } := by
  have hopen : (l.settled || decide (l.st = .evicting)) = false := by rw [hopen, decide_eq_false hst]; rfl
  simp only [State.installLine, hl, hopen, Bool.false_eq_true, if_false, hw, State.serveWaiters, List.foldl_nil]
  exact Fab.rline_update hl rfl

theorem State.poisonRead_out (s : State) (part a source : Nat) : (s.poisonRead part a source).out = s.out := by
  unfold State.poisonRead
  extract_lets own p t
  split
  · rw [State.event_out, State.note_out]
  · exact State.note_out ..

/-- A read's bytes go out, whether poisoned or not. -/
theorem State.deliverTo_answers (s : State) (part a source : Nat) (d : Bytes) (p : Bool) :
    (.answer d) ∈ (s.deliverTo part a source d p).out := by
  unfold State.deliverTo
  dsimp only
  split
  · rw [State.poisonRead_out]
    exact List.mem_append_right _ List.mem_cons_self
  · exact List.mem_append_right _ List.mem_cons_self

section
variable {s : State} {h : FabHdr} {u : Unans}

/-- An acknowledged eviction leaves the line in I, and what its request kept waiting goes out (R484). -/
theorem exec_evictAck_frees {l : RLine} (hu : s.expects h [0x20, 0x21] = some u)
    (hl : (s.answered h.src h.reqId).fab.rline (h.addr / 128 * 128) = some l) (hst : l.st = .evicting) (hw : l.wait = []) :
    ∃ v : State, exec (.evictAck h) s = .next v ∧ v.fab.rline (h.addr / 128 * 128) = none := by
  simp only [exec, execEvictAck, hu, onLine, hl, hst, if_true, hw, State.serveWaiters, List.foldl_nil]
  refine ⟨_, rfl, (Fab.rline_of_standing (State.issueWaiting_standing ..) _).trans (rline_filter_other _ _)⟩

end

/-- Settles O39: an answer is matched with its request, and the lemmas above say what it leaves. -/
theorem answersReachTheirRequests : Obligations.AnswersReachTheirRequests := by
  refine ⟨fun s h d p u hu => ?_, fun s h d p u hu => ?_, fun s h u hu => ?_,
    fun s a st d p l hl hopen hst hw => ⟨State.installLine_rline st _ hl hopen hst hw, State.installLine_rline st none hl hopen hst hw⟩,
    fun s h d p u hu hc => ?_, fun s h d p u hu => ?_, fun s h u hu => ?_,
    fun s h u l hu hl hst hw => exec_evictAck_frees hu hl hst hw, fun s h u f q p hu hc hwin => ?_, fun s h u hu hwin => ?_,
    fun s h hn => ?_, fun s src id hw => ⟨State.answered_unanswered hw src id, State.answered_alone hw src id⟩⟩
  · simp only [exec, execLineShared, hu, onLine]
  · simp only [exec, execLineOwned, hu, onLine]
  · simp only [exec, execUpgradeOk, hu, onLine]
  · simp only [exec, execLineNokeep, hu, onLine, State.takeNokeep, hc]
    exact ⟨_, rfl, by rw [State.deliverTo_fab], State.deliverTo_answers ..⟩
  · simp only [exec, execLineNokeep, hu, onLine]
  · simp only [exec, execWriteDone, hu]
  · obtain ⟨hheard, hun, htyp⟩ := State.expects_iff.1 hu
    have htyp : u.msg.typ = 0x30 := by simpa using htyp
    have hu : s.expects h [0x01, 0x02, 0x03, 0x04, 0x20, 0x21, 0x30, 0x33] = some u :=
      State.expects_iff.2 ⟨hheard, hun, by rw [htyp]; decide⟩
    simp only [exec, execDenied, hu, htyp, decide_true, hwin, Bool.and_self, if_true, hc]
  · have hfail : (decide (u.msg.typ = 0x30) && s.fab.windows.any fun w =>
        w.board = h.src && w.window = ofLe (u.msg.data.take 4) && w.part = u.msg.part) = false := by
      rcases hwin with hwin | hwin <;> simp only [hwin, decide_false, Bool.false_and, Bool.and_false]
    simp only [exec, execDenied, hu, hfail, Bool.false_eq_true, if_false]
  · simp [exec, execWriteDone, execEvictAck, execDenied, execUpgradeOk, execLineShared, execLineOwned, execLineNokeep,
      State.expects_none hn]

end Sys2Proof.Machine

namespace Sys2Proof.Machine

/-! The cellar (R463 to R472). Counting an access and giving a line up leave the directory and the transactions of the home. -/

section
variable (s : State)

theorem State.request_dir (m : Msg) (cmd : Option (Nat × Nat × Nat)) : (s.request m cmd).fab.dir = s.fab.dir :=
  (congrArg Fab.dir (s.request_standing m cmd) :)

theorem State.request_txns (m : Msg) (cmd : Option (Nat × Nat × Nat)) : (s.request m cmd).fab.txns = s.fab.txns :=
  (congrArg Fab.txns (s.request_standing m cmd) :)

theorem State.evict_home (l : RLine) : (s.evict l).fab.dir = s.fab.dir ∧ (s.evict l).fab.txns = s.fab.txns := by
  unfold State.evict
  dsimp only
  split <;> rw [State.request_dir, State.request_txns] <;> exact ⟨rfl, rfl⟩

theorem State.cellarAlloc_home {x : Bytes} {a : Nat} {d : Bool} {t : State} (h : s.cellarAlloc x a d = some t) :
    t.fab.dir = s.fab.dir ∧ t.fab.txns = s.fab.txns := by
  unfold State.cellarAlloc at h
  dsimp only at h
  split at h
  · cases h
    exact ⟨rfl, rfl⟩
  · split at h
    · cases h
    · split at h
      · cases h
        exact State.evict_home ..
      · cases h
        exact ⟨rfl, rfl⟩

theorem State.cellarCount_home (r : CellarReq) :
    (s.cellarCount r).fab.dir = s.fab.dir ∧ (s.cellarCount r).fab.txns = s.fab.txns := by
  unfold State.cellarCount
  dsimp only
  split
  · exact ⟨rfl, rfl⟩
  split
  · exact ⟨rfl, rfl⟩
  split
  · exact ⟨rfl, rfl⟩
  split
  · cases h : ({ s with fab := s.fab.count false } : State).cellarAlloc _ (r.addr / 128 * 128) r.write with
    | none => exact ⟨rfl, rfl⟩
    | some t => exact State.cellarAlloc_home { s with fab := s.fab.count false } h
  · exact ⟨rfl, rfl⟩

theorem State.cellarCount_entry (r : CellarReq) (a : Nat) : (s.cellarCount r).fab.entry a = s.fab.entry a := by
  obtain ⟨hdir, -⟩ := s.cellarCount_home r
  rw [Fab.entry, hdir, Fab.entry]

theorem State.cellarCount_busyLine (r : CellarReq) (a : Nat) : (s.cellarCount r).fab.busyLine a = s.fab.busyLine a := by
  obtain ⟨-, htxns⟩ := s.cellarCount_home r
  rw [Fab.busyLine, htxns, Fab.busyLine]

end

/-! Accesses (R464 to R469, R472). -/

section
variable {s : State} {r : CellarReq} (hp : s.pwr.mainGood = true)
include hp

theorem exec_cellarAccess_local (hown : r.addr / 2 ^ 40 = s.struct.boardId)
    (hline : s.lineExists (r.addr % 2 ^ 40 / 128 * 128) = true) : exec (.cellarAccess r) s = .next (s.localAccess r) := by
  simp only [exec, execCellarAccess, hp, hown, hline, Bool.not_true, Bool.false_eq_true, if_false, if_true]

theorem exec_cellarAccess_absent (hown : r.addr / 2 ^ 40 = s.struct.boardId)
    (hline : s.lineExists (r.addr % 2 ^ 40 / 128 * 128) = false) : exec (.cellarAccess r) s = .next s := by
  simp only [exec, execCellarAccess, hp, hown, hline, Bool.not_true, Bool.false_eq_true, if_false, if_true]

theorem exec_cellarAccess_remote (hother : r.addr / 2 ^ 40 ≠ s.struct.boardId) (hlt : r.addr < 2 ^ 48)
    (hroom : s.requestRoom (r.addr / 2 ^ 40) = true) : exec (.cellarAccess r) s = .next (s.remoteAccess r) := by
  have hgoes : ¬ (2 ^ 48 ≤ r.addr ∨ s.requestRoom (r.addr / 2 ^ 40) = false) := by
    rw [hroom]
    rintro (h | h)
    · omega
    · cases h
  simp only [exec, execCellarAccess, hp, Bool.not_true, Bool.false_eq_true, if_false, if_neg hother, if_neg hgoes]

end

section
variable {s : State} {r : CellarReq}

/-- A line that the home need not order is read and written where it lies. -/
theorem State.localAccess_free (he : s.fab.entry (r.addr / 128 * 128) = none) (hfree : s.fab.busyLine (r.addr / 128 * 128) = false) :
    s.localAccess r = if r.write then (s.cellarCount r).maskedWrite r
      else (s.cellarCount r).deliver r (s.mem.read (r.addr / 128 * 128 % 2 ^ 40) 128)
        (s.mem.poisoned (r.addr / 128 * 128 % 2 ^ 40) 128) := by
  simp only [State.localAccess, State.cellarCount_entry, he, State.cellarCount_busyLine, hfree, Bool.or_self, Bool.false_eq_true, if_false,
    State.cellarCount_mem]

/-- A read of a remote line that the cellar holds (Table 11-5). -/
theorem State.remoteAccess_heldRead {l : RLine} (hl : s.fab.rline (r.addr / 128 * 128) = some l) (hset : l.settled = true)
    (hr : r.write = false) : s.remoteAccess r =
      ({ s with fab := (s.fab.touchLine (r.addr / 128 * 128 / 128) false).count true } : State).deliver r l.data l.poison := by
  simp only [State.remoteAccess, hl, hset, hr, if_true, Bool.false_eq_true, and_false, if_false, Bool.not_false, Bool.and_self]

theorem State.remoteAccess_ownedWrite {l : RLine} (hl : s.fab.rline (r.addr / 128 * 128) = some l) (hst : l.st = .m ∨ l.st = .e)
    (hw : r.write = true) : ∃ (u : State) (m : RLine), s.remoteAccess r = u ∧ u.fab.rline (r.addr / 128 * 128) = some m ∧ m.st = .m ∧
      m.data = mergeBytes l.data r.data r.mask ∧ u.mem = s.mem := by
  have hset : l.settled = true := by rcases hst with hst | hst <;> simp [RLine.settled, hst]
  refine ⟨_, { l with st := .m, data := mergeBytes l.data r.data r.mask
                      poison := if fullMask r.mask then r.poison else l.poison || r.poison }, rfl, ?_, rfl, rfl, State.remoteAccess_mem ..⟩
  simp only [State.remoteAccess, hl, hset, hw, hst, if_true, and_self]
  exact Fab.rline_update (b := (s.fab.touchLine (r.addr / 128 * 128 / 128) true).count true) hl rfl

/-- An access to a line that is not held and that no CACHE region covers keeps no copy (R472). -/
theorem State.remoteAccess_uncached (hl : s.fab.rline (r.addr / 128 * 128) = none)
    (hreg : s.struct.cacheRegion (r.addr / 128 * 128) = none) :
    (r.write = false → s.remoteAccess r = s.request ({ typ := 0x03, dest := r.addr / 128 * 128 / 2 ^ 40, part := r.part
                                                       addr := r.addr / 128 * 128, poison := r.poison } : Msg) none) ∧
    (r.write = true → s.remoteAccess r = s.request ({
      typ := 0x04, dest := r.addr / 128 * 128 / 2 ^ 40, part := r.part, addr := r.addr / 128 * 128
      data := leBytes 16 (((List.range 128).map fun k => if (r.mask[k]?).getD false then 2 ^ k else 0).foldl (· + ·) 0)
        ++ slice r.data 0 128, poison := r.poison } : Msg) none) := by
  simp only [State.remoteAccess, hl, hreg, Option.isSome_none, Bool.false_eq_true, if_false]
  exact ⟨fun hr => if_neg (by rw [hr]; decide), fun hw => if_pos hw⟩

end

/-! The byte mask of a whole line. -/

theorem sum_powers (n : Nat) : ((List.range n).map fun k => 2 ^ k).foldl (· + ·) 0 = 2 ^ n - 1 := by
  induction n with
  | zero => rfl
  | succ n ih =>
    rw [List.range_succ, List.map_append, List.foldl_append, ih]
    have hpos := Nat.two_pow_pos n
    simp only [List.map_cons, List.map_nil, List.foldl_cons, List.foldl_nil, Nat.pow_succ]
    omega

theorem wholeMask_bytes {mask : List Bool} (h : mask = List.replicate 128 true) :
    leBytes 16 (((List.range 128).map fun k => if (mask[k]?).getD false then 2 ^ k else 0).foldl (· + ·) 0) =
      List.replicate 16 0xFF := by
  have hmap : ((List.range 128).map fun k => if (mask[k]?).getD false then 2 ^ k else 0) = (List.range 128).map fun k => 2 ^ k :=
    List.map_congr_left fun k hk => by
      rw [h, List.getElem?_replicate, if_pos (List.mem_range.1 hk)]
      rfl
  rw [hmap, sum_powers]
  decide

/-! Errors of a cellar SRAM (R471). -/

/-- A poisoned write marks every sector that it touches. -/
theorem contains_poisonAfter_true (l : List Nat) {a n k : Nat} (h : k ∈ sectorsOf a n) : (poisonAfter l a n true).contains k = true := by
  suffices hfold : ∀ (ks l : List Nat), k ∈ ks ∨ k ∈ l → k ∈ ks.foldl nset l from
    List.contains_iff_mem.2 (hfold _ l (.inl h))
  intro ks
  induction ks with
  | nil => exact fun l hk => hk.resolve_left List.not_mem_nil
  | cons x t ih =>
    refine fun l hk => ih _ ?_
    rw [List.mem_cons] at hk
    rw [mem_nset]
    tauto

/-- The error of what is poisoned: counted, and logged as DEFERRED with the partition of the line. -/
def State.sramDeferred (s : State) (a : Nat) : State :=
  let p := if a / 2 ^ 40 = s.struct.boardId then s.struct.addrPart (a % 2 ^ 40) else 0
  let t := ({ s with fab := { s.fab with eccU := satN 0xFFFF (s.fab.eccU + 1) }
                     bg := { s.bg with ueSince := satN 0xFFFFFFFF (s.bg.ueSince + 1) } } : State).note srcCel 2 0x0101 p [srcCel, a]
  if 0 < p then t.event p 3 srcCel else t

/-- The error of a line that is fetched again or not needed: counted, and logged as CORRECTED. -/
def State.sramClean (s : State) (a : Nat) : State :=
  ({ s with fab := { s.fab with eccU := satN 0xFFFF (s.fab.eccU + 1) }
            bg := { s.bg with ueSince := satN 0xFFFFFFFF (s.bg.ueSince + 1) } } : State).note srcCel 1 0x0101 0 [srcCel, a]

section
variable (s : State) (a : Nat)

theorem State.sramDeferred_fab : (s.sramDeferred a).fab = { s.fab with eccU := satN 0xFFFF (s.fab.eccU + 1) } := by
  unfold State.sramDeferred
  extract_lets p
  split
  · rw [State.event_fab, State.note_fab]
  · exact State.note_fab ..

theorem State.sramDeferred_mem : (s.sramDeferred a).mem = s.mem := by
  unfold State.sramDeferred
  extract_lets p
  split
  · rw [State.event_mem, State.note_mem]
  · exact State.note_mem ..

theorem State.sramClean_fab : (s.sramClean a).fab = { s.fab with eccU := satN 0xFFFF (s.fab.eccU + 1) } := State.note_fab ..

theorem State.sramClean_mem : (s.sramClean a).mem = s.mem := State.note_mem ..

/-- With ECC on, a line that is poisoned where it lies reads as poisoned. -/
theorem State.poisonLine_poisoned (hecc : s.top.eccOn = true) : (s.poisonLine a).mem.poisoned a 128 = true := by
  have hfirst : a / 64 ∈ sectorsOf a 128 := sector_mem (i := 0) (by decide)
  refine List.any_eq_true.2 ⟨a / 64, hfirst, ?_⟩
  rw [State.poisonLine, State.memWrite_poison _ _ _ _ hecc, Mem.read_length]
  exact contains_poisonAfter_true _ hfirst

end

section
variable {s : State}

theorem exec_directoryError {a : Nat} (he : (s.fab.entry (a / 128 * 128)).isSome = true) :
    exec (.cellarSramEccError .directory a) s =
      .next ((s.poisonLine (a / 128 * 128 % 2 ^ 40)).sramDeferred (a / 128 * 128)) :=
  if_pos he

variable {i j w a : Nat} (ha : s.lineAt i j w = some a)
include ha

theorem exec_localLineError (hown : a / 2 ^ 40 = s.struct.boardId) : exec (.cellarSramEccError (.lines i w) j) s = .next
    (if (s.struct.pinned (a % 2 ^ 40)).isSome || ((s.fab.lines.find? (·.line = a / 128)).map (·.dirty)).getD false then
      (s.poisonLine (a % 2 ^ 40)).sramDeferred a
    else ({ s with fab := { s.fab with lines := s.fab.lines.filter fun x => decide (x.line ≠ a / 128) } } : State).sramClean a) := by
  simp only [exec, execCellarSramEccError, ha]
  rw [if_pos hown]
  split <;> rfl

theorem exec_remoteLineError (hother : a / 2 ^ 40 ≠ s.struct.boardId) {l : RLine} (hl : s.fab.rline a = some l) :
    exec (.cellarSramEccError (.lines i w) j) s = .next
      (if l.st = .m then ({ s with fab := s.fab.setRline { l with poison := true } } : State).sramDeferred a
      else if l.settled then (s.refetch l).sramClean a else s.sramClean a) := by
  simp only [exec, execCellarSramEccError, ha, hl]
  rw [if_neg hother]
  split
  · rfl
  · split <;> rfl

end

/-- A clean remote line that is fetched again waits for its request, and its counters stay (R471). -/
theorem State.refetch_fab {s : State} {a : Nat} {l : RLine} (hl : s.fab.rline a = some l) :
    (s.refetch l).fab.eccU = s.fab.eccU ∧
    (s.refetch l).fab.rline a = some { l with st := if l.st = .e then .waitU else .waitS, data := [], poison := false } := by
  have hrefetch : (s.refetch l).fab.standing = ((s.fab.setRline
      { l with st := if l.st = .e then .waitU else .waitS, data := [], poison := false }).count false).standing := by
    simp only [State.refetch, decide_eq_true_eq]
    exact State.request_standing _ _ _
  exact ⟨(congrArg Fab.eccU hrefetch :), (Fab.rline_of_standing hrefetch a).trans (Fab.rline_update hl rfl)⟩

/-- Settles O35: an access goes to its local line, to the copy held of a remote one or to the line's home, and an SRAM error leaves its
line by where it is and what it holds. -/
theorem cellarAccessesAndErrors : Obligations.CellarAccessesAndErrors := by
  refine ⟨fun s r hp hown hline he hfree hr => ?_, fun s r hp hown hline he hfree hw => ?_,
    fun s r hp hown hline => exec_cellarAccess_absent hp hown hline,
    fun s r l hp hother hlt hroom hl hset hr => ?_, fun s r l hp hother hlt hroom hl hst hw => ?_,
    fun s r hp hother hlt hroom hl hreg hr => ?_, fun s r hp hother hlt hroom hl hreg hw hmask => ?_,
    fun s i j w a ha hown hpin hdirty => ?_, fun s i j w a ha hown hecc hbad => ?_, fun s a he hecc => ?_,
    fun s i j w a l ha hother hl hst => ?_, fun s i j w a l ha hother hl hst => ?_⟩
  · rw [exec_cellarAccess_local hp hown hline, State.localAccess_free he hfree, hr]
    rfl
  · rw [exec_cellarAccess_local hp hown hline, State.localAccess_free he hfree, hw]
    rfl
  · rw [exec_cellarAccess_remote hp hother hlt hroom, State.remoteAccess_heldRead hl hset hr]
  · obtain ⟨u, m, hu, hm⟩ := State.remoteAccess_ownedWrite hl hst hw
    exact ⟨u, m, (exec_cellarAccess_remote hp hother hlt hroom).trans (congrArg _ hu), hm⟩
  · obtain ⟨hread, -⟩ := State.remoteAccess_uncached hl hreg
    rw [exec_cellarAccess_remote hp hother hlt hroom, hread hr]
  · obtain ⟨-, hwrite⟩ := State.remoteAccess_uncached hl hreg
    rw [exec_cellarAccess_remote hp hother hlt hroom, hwrite hw, wholeMask_bytes hmask]
  · refine ⟨_, exec_localLineError ha hown, ?_⟩
    rw [hpin, hdirty, if_neg (by decide), State.sramClean_fab, State.sramClean_mem]
    exact ⟨rfl, rfl, rfl⟩
  · refine ⟨_, exec_localLineError ha hown, ?_⟩
    have hbad : ((s.struct.pinned (a % 2 ^ 40)).isSome || ((s.fab.lines.find? (·.line = a / 128)).map (·.dirty)).getD false) = true :=
      (Bool.or_eq_true _ _).mpr hbad
    rw [if_pos hbad, State.sramDeferred_fab, State.sramDeferred_mem, State.poisonLine_fab]
    exact ⟨rfl, s.poisonLine_poisoned _ hecc⟩
  · refine ⟨_, exec_directoryError he, ?_⟩
    rw [State.sramDeferred_fab, State.sramDeferred_mem, State.poisonLine_fab]
    exact ⟨rfl, s.poisonLine_poisoned _ hecc⟩
  · refine ⟨_, exec_remoteLineError ha hother hl, ?_⟩
    rw [if_pos hst, State.sramDeferred_fab]
    exact ⟨rfl, Fab.rline_update hl rfl⟩
  · obtain ⟨hecc, hline⟩ := State.refetch_fab hl
    refine ⟨_, exec_remoteLineError ha hother hl, ?_⟩
    have hm : l.st ≠ .m := by rcases hst with hst | hst <;> rw [hst] <;> decide
    have hset : l.settled = true := by rcases hst with hst | hst <;> simp [RLine.settled, hst]
    rw [if_neg hm, if_pos hset, State.sramClean_fab, hecc]
    exact ⟨rfl, hline⟩

end Sys2Proof.Machine

namespace Sys2Proof.Machine

/-! The message engine at both ends (R508, R509). -/

theorem mailRoom_bounds (n : Nat) : mailRoom n % 64 = 0 ∧ 64 + n ≤ mailRoom n ∧ mailRoom n < 128 + n := by
  simp only [mailRoom, up64]
  omega

section
variable {s : State} {h : FabHdr}

/-- A message that the window takes and whose room is free has the place behind those on their way. -/
theorem State.mailPlace_room {w : Bytes} {m n size wr rd coming : Nat} (hsize : size = (ringOf w).2)
    (hwr : wr = ofLe (s.mem.read (field w 8 8) 8) % max 1 size) (hrd : rd = ofLe (s.mem.read (field w 8 8 + 8) 8) % max 1 size)
    (hcoming : coming = ((s.fab.mails.filter fun x => decide (x.window = m)).map fun x => mailRoom x.length).sum)
    (hroom : (wr + size - rd) % max 1 size + coming + mailRoom n < size) :
    s.mailPlace w m n = some ((wr + coming) % max 1 size) := by
  unfold State.mailPlace
  dsimp only
  rw [← hsize, ← hwr, ← hrd, ← List.sum_eq_foldl, ← hcoming, if_pos hroom]

theorem exec_msgReserve_grants {m n o : Nat} {w : Bytes} (hheard : s.hears h.src = true) (hk : s.fab.kept = [])
    (hw : s.struct.exportRec m = some w) (htenant : s.sameTenant h.src = true) (hmail : mailFor w h.part n = true)
    (hplace : s.mailPlace w m n = some o) : exec (.msgReserve h m n) s =
      .next ((s.addMail { src := h.src, reqId := h.reqId, window := m, length := n, at_ := o }).answerBare
        0x31 h.src h.reqId h.part 0) := by
  simp only [exec, execMsgReserve, hheard, State.pruneKept_eq_self hk, hk, List.find?_nil, hw, htenant, hmail, hplace, Bool.not_true,
    Bool.false_eq_true, if_false, Bool.and_self, if_true]

theorem exec_msgReserve_denied {m n : Nat} (hheard : s.hears h.src = true) (hk : s.fab.kept = [])
    (hno : ∀ w, s.struct.exportRec m = some w → s.sameTenant h.src = true → mailFor w h.part n = true → s.mailPlace w m n = none) :
    exec (.msgReserve h m n) s = .next (s.answerBare 0x18 h.src h.reqId h.part 0) := by
  simp only [exec, execMsgReserve, hheard, State.pruneKept_eq_self hk, hk, List.find?_nil, Bool.not_true, Bool.false_eq_true, if_false]
  split
  · rfl
  next w hw =>
    split
    next hok =>
      obtain ⟨htenant, hmail⟩ := (Bool.and_eq_true _ _).mp hok
      rw [hno w hw htenant hmail]
    next => rfl

theorem exec_msgChunk_writes {o : Nat} {d : Bytes} {p : Bool} {m : MailIn} {w : Bytes} (hheard : s.hears h.src = true)
    (hm : s.fab.mails.find? (fun m => m.src = h.src && m.reqId = h.reqId && !m.whole) = some m)
    (hw : s.struct.exportRec m.window = some w) (hfits : o + d.length ≤ m.length) :
    exec (.msgChunk h o d p) s = .next ((s.pruneKept h).ringWrite w (m.at_ + 64 + o) d p) := by
  simp only [exec, execMsgChunk, hheard, hm, hw, hfits, Bool.not_true, Bool.false_eq_true, if_false, if_true]

/-! The receiver's MSG_DONE: one message in the ring, whole with its header, which WR_OFF passes. -/

/-- While no other board holds a copy, a clean write into a ring changes board memory alone. -/
theorem State.ringWrite_frame (hd : s.fab.dir = []) (ht : s.fab.txns = []) (w : Bytes) (o : Nat) (bs : Bytes) :
    s.ringWrite w o bs false = { s with mem := (s.ringWrite w o bs false).mem } := by
  unfold State.ringWrite
  dsimp only
  rw [State.put_plain s _ _ _ _ hd ht, State.put_plain _ _ _ _ _ (by rw [State.memWrite_fab, hd]) (by rw [State.memWrite_fab, ht])]
  rfl

/-- WR_OFF passes the only message, whole, and its sender on another board is told. -/
theorem State.passMails_only {x : MailIn} (hd : s.fab.dir = []) (ht : s.fab.txns = []) (hx : s.fab.mails = [x]) (hwhole : x.whole = true)
    (hother : x.src ≠ s.struct.boardId) (w : Bytes) (n : Nat) {r : State}
    (hr : r = s.memWrite (field w 8 8) (leBytes 8 ((x.at_ + mailRoom x.length) % max 1 (ringOf w).2)) false) :
    s.passMails w n [x] = ({ r with fab := { r.fab with mails := [] } } : State).answerBare 0x33 x.src x.reqId (byteAt w 5) 0 := by
  have hmails : r.fab.mails.filter (fun y => decide (y ≠ x)) = [] := by rw [hr, State.memWrite_fab, hx]; simp
  have hstruct : r.struct = s.struct := by rw [hr]; rfl
  rw [State.passMails, if_pos hwhole]
  dsimp only
  rw [State.put_plain _ _ _ _ _ hd ht, ← hr]
  rw [hmails]
  exact if_neg (by rw [← hstruct] at hother; exact hother)

theorem State.mailWhole_alone {m : MailIn} (hd : s.fab.dir = []) (ht : s.fab.txns = []) (hm : s.fab.mails = [m])
    (hother : m.src ≠ s.struct.boardId) (w : Bytes) {r : State}
    (hr : r = (s.ringWrite w m.at_ (slice (Config.mailHeader m.src m.length m.reqId s.gtcNs) 0 64) false).memWrite (field w 8 8)
      (leBytes 8 ((m.at_ + mailRoom m.length) % max 1 (ringOf w).2)) false) :
    s.mailWhole w m = ({ r with fab := { r.fab with mails := [] } } : State).answerBare 0x33 m.src m.reqId (byteAt w 5) 0 := by
  unfold State.mailWhole
  dsimp only
  rw [State.ringWrite_frame hd ht] at hr ⊢
  generalize (s.ringWrite w m.at_ (slice (Config.mailHeader m.src m.length m.reqId s.gtcNs) 0 64) false).mem = mem at hr ⊢
  have hwhole : s.fab.mails.map (fun x => if x = m then { x with whole := true } else x) = [{ m with whole := true }] := by
    rw [hm]; simp
  simp only [hwhole, List.filter_cons, decide_true, if_true, List.filter_nil]
  subst hr
  have hpass := State.passMails_only (s := { s with mem := mem, fab := { s.fab with mails := [{ m with whole := true }] } }) hd ht rfl
    rfl hother w m.window rfl
  exact hpass

theorem exec_msgDone_receives {m : MailIn} {w : Bytes} (hheard : s.hears h.src = true) (hn : s.unanswered h.src h.reqId = none)
    (hsrc : m.src = h.src) (hid : m.reqId = h.reqId) (hopen : m.whole = false) (hm : s.fab.mails = [m])
    (hw : s.struct.exportRec m.window = some w) : exec (.msgDone h) s = .next ((s.pruneKept h).mailWhole w m) := by
  have hfind : (s.pruneKept h).fab.mails.find? (fun m => m.src = h.src && m.reqId = h.reqId && !m.whole) = some m := by
    show s.fab.mails.find? _ = _
    simp [hm, hsrc, hid, hopen]
  have hw : (s.pruneKept h).struct.exportRec m.window = some w := hw
  simp only [exec, execMsgDone, hheard, State.expects_none hn, hfind, hw, Bool.not_true, Bool.false_eq_true, if_false]

/-- MSG_DONE at the sender fixes the status of its MSG_SEND. -/
theorem exec_msgDone_completes {u : Unans} {f q : Nat} {c : Cmd} (hu : s.expects h [0x33] = some u)
    (hc : (s.answered h.src h.reqId).cmdOf u.cmd = some (f, q, c)) : exec (.msgDone h) s =
      .next ((s.answered h.src h.reqId).fix f q c.pos (if c.lost then 0x21 else if c.poisoned then 0x20 else 0x00) 0
        (s.msgSource h.src)) := by
  obtain ⟨hheard, -, -⟩ := State.expects_iff.1 hu
  simp only [exec, execMsgDone, hheard, hu, State.fixSend, hc, Bool.not_true, Bool.false_eq_true, if_false]

end

/-- Settles O40: each clause is the lemma above for its message. -/
theorem mailboxMessages : Obligations.MailboxMessages := by
  refine ⟨fun s h m n w size wr rd coming hheard hk hw hsize hwr hrd hcoming htenant hpart hmin hmax hroom => ?_,
    fun s h m n hheard hk hno => ?_, fun s h u f q c hu hc => ?_, fun s h o d p m w hheard hm hw hfits => exec_msgChunk_writes hheard hm hw hfits,
    fun s h m w hheard hn hsrc hid hopen hm hother hd ht hw => ?_, fun s h u f q c hu hc => exec_msgDone_completes hu hc, mailRoom_bounds⟩
  · have hmail : mailFor w h.part n = true := by simp [mailFor, hpart, hmin, hmax]
    exact exec_msgReserve_grants hheard hk hw htenant hmail (State.mailPlace_room hsize hwr hrd hcoming hroom)
  · refine exec_msgReserve_denied hheard hk fun w hw htenant hmail => ?_
    simp only [mailFor, Bool.and_eq_true, decide_eq_true_eq] at hmail
    obtain ⟨⟨hpart, hmin⟩, hmax⟩ := hmail
    rcases hno with hno | hno | hno | hno
    · rw [hno] at htenant
      cases htenant
    · omega
    · omega
    · rwa [hw, Option.bind_some, if_pos hpart] at hno
  · have hc : ({ s with fab := { s.fab with unans := s.fab.unans.map fun x =>
        if x.msg.dest = h.src && x.msg.reqId = h.reqId then { x with msg := { x.msg with typ := 0x33 }, sentAt := s.clk, resends := 0 }
        else x } } : State).cmdOf u.cmd = some (f, q, c) := hc
    simp only [exec, execMsgGrant, hu, hc]
  · rw [exec_msgDone_receives hheard hn hsrc hid hopen hm hw]
    exact congrArg _ (State.mailWhole_alone (s := s.pruneKept h) hd ht hm (hsrc ▸ hother) w rfl)

end Sys2Proof.Machine

namespace Sys2Proof.Machine

/-! Flits, keys and resends (R488 to R500, R504, R584). -/

/-! A port that is changed reads so, and every other port as before. -/

theorem State.port_mapPort_same (s : State) (p : Fin 8) (g : LnkPort → LnkPort) : (s.mapPort p g).fab.port p = g (s.fab.port p) := by
  simp [State.mapPort, Fab.port, p.isLt]

theorem State.port_mapPort_other (s : State) {p q : Nat} (g : LnkPort → LnkPort) (h : q ≠ p) :
    (s.mapPort p g).fab.port q = s.fab.port q := by
  simp [State.mapPort, Fab.port, h.symm]

/-- What the receiving side of a port counts: the counter expected next, and the stale flits (R493). -/
def State.counted (s : State) (q : Nat) : Nat × Nat := ((s.fab.port q).rxNext, (s.fab.port q).stale)

section
variable (s : State)

/-- A change of a port that leaves both counts leaves them at every port. -/
theorem State.mapPort_counted (p q : Nat) {g : LnkPort → LnkPort} (hg : ∀ x, (g x).rxNext = x.rxNext ∧ (g x).stale = x.stale) :
    (s.mapPort p g).counted q = s.counted q := by
  by_cases h : q = p
  · subst h
    by_cases hlt : q < 8
    · obtain ⟨hrx, hst⟩ := hg (s.fab.port q)
      rw [State.counted, s.port_mapPort_same ⟨q, hlt⟩ g, hrx, hst, State.counted]
    · simp [State.counted, State.mapPort, Fab.port, hlt]
  · rw [State.counted, s.port_mapPort_other g h, State.counted]

theorem State.emit_counted (o : Out) (q : Nat) : (s.emit o).counted q = s.counted q := rfl

theorem State.emitAll_counted (l : List Out) (q : Nat) : (s.emitAll l).counted q = s.counted q := rfl

theorem State.sendFlit_counted (p : Nat) (idle : Bool) (b : Bytes) (q : Nat) : (s.sendFlit p idle b).counted q = s.counted q :=
  (State.emit_counted ..).trans (s.mapPort_counted p q fun _ => ⟨rfl, rfl⟩)

theorem State.pump_counted (p : Nat) (l : List Bytes) (q : Nat) : (s.pump p l).counted q = s.counted q := by
  induction l generalizing s with
  | nil => exact s.mapPort_counted p q fun _ => ⟨rfl, rfl⟩
  | cons b t ih =>
    rw [State.pump]
    split
    · exact (ih _).trans (s.sendFlit_counted p false b q)
    · exact s.mapPort_counted p q fun _ => ⟨rfl, rfl⟩

theorem State.sendIdle_counted (p q : Nat) : (s.sendIdle p).counted q = s.counted q := by
  unfold State.sendIdle
  split
  · exact s.sendFlit_counted p true [] q
  · rfl

theorem State.forward_counted (m : Msg) (q : Nat) : (s.forward m).counted q = s.counted q := by
  unfold State.forward
  split
  · rfl
  · split
    · split
      · rfl
      · exact State.pump_counted ..
    · rfl

theorem State.replay_counted (p q : Nat) : (s.replay p).counted q = s.counted q :=
  (State.emitAll_counted ..).trans (s.mapPort_counted p q fun _ => ⟨rfl, rfl⟩)

theorem State.relay_counted (p n : Nat) (b : Bytes) (q : Nat) : (State.relay p n s b).1.counted q = s.counted q := by
  induction n generalizing s b with
  | zero => rfl
  | succ n ih =>
    have howed (m : Msg) (len : Nat) : (s.oweCredits p m len).counted q = s.counted q := s.mapPort_counted p q fun _ => ⟨rfl, rfl⟩
    rw [State.relay]
    dsimp only
    split
    · rfl
    split
    · rfl
    split
    · rfl
    refine (ih _ _).trans ?_
    split
    · exact howed ..
    · exact (State.forward_counted ..).trans (howed ..)

end

/-! A flit that arrives on a port that is up, by what its CRC, its tag and its counter say. -/

section
variable {s : State} {p : Fin 8} {b : Bytes} (hup : (s.fab.port p).up = true)
include hup

theorem exec_flitReceive_badCrc (hcrc : (s.readFlit p b).crcOk = false) : exec (.flitReceive p b) s =
    .next ((s.mapPort p fun x => { x with crc := satN 0xFFFFFFFF (x.crc + 1) }).nak p) := by
  simp only [exec, execFlitReceive, hup, hcrc, Bool.not_true, Bool.not_false, Bool.false_eq_true, if_false, if_true]

variable (hcrc : (s.readFlit p b).crcOk = true)
include hcrc

theorem exec_flitReceive_badTag (hsealed : (s.fab.port p).sealed = true) (htag : (s.readFlit p b).tagOk = false) :
    exec (.flitReceive p b) s = .next ((s.mapPort p fun x => { x with
      tagFail := satN 0xFFFFFFFF (x.tagFail + 1)
      tagAt := x.tagAt.filter (fun t => decide (s.clk < t + secTicks 1)) ++ [s.clk] }).nak p) := by
  simp only [exec, execFlitReceive, hup, hcrc, hsealed, htag, Bool.not_true, Bool.not_false, Bool.and_self, Bool.false_eq_true, if_false,
    if_true]

variable (hgood : (s.fab.port p).sealed = false ∨ (s.readFlit p b).tagOk = true)
include hgood

theorem exec_flitReceive_stale (hlt : (s.readFlit p b).counter < (s.fab.port p).rxNext) : exec (.flitReceive p b) s =
    .next (s.mapPort p fun x => { x with stale := satN 0xFFFFFFFF (x.stale + 1) }) := by
  have hgood : ((s.fab.port p).sealed && !(s.readFlit p b).tagOk) = false := by rcases hgood with h | h <;> simp [h]
  simp only [exec, execFlitReceive, hup, hcrc, hgood, hlt, Bool.not_true, Bool.false_eq_true, if_false, if_true]

theorem exec_flitReceive_gap (hlt : (s.fab.port p).rxNext < (s.readFlit p b).counter) :
    exec (.flitReceive p b) s = .next (s.nak p) := by
  have hgood : ((s.fab.port p).sealed && !(s.readFlit p b).tagOk) = false := by rcases hgood with h | h <;> simp [h]
  simp only [exec, execFlitReceive, hup, hcrc, hgood, hlt, Nat.lt_asymm hlt, Bool.not_true, Bool.false_eq_true, if_false, if_true]

/-- The expected flit moves the expected counter on by one, whatever it carries and whatever goes out for it. -/
theorem exec_flitReceive_expected (heq : (s.readFlit p b).counter = (s.fab.port p).rxNext) : ∃ u : State,
    exec (.flitReceive p b) s = .next u ∧ u.counted p = ((s.fab.port p).rxNext + 1, (s.fab.port p).stale) := by
  have hgood : ((s.fab.port p).sealed && !(s.readFlit p b).tagOk) = false := by rcases hgood with h | h <;> simp [h]
  simp only [exec]
  unfold execFlitReceive
  rw [if_neg (by rw [hup]; decide), if_neg (by rw [hcrc]; decide), if_neg (by rw [hgood]; decide), if_neg heq.not_lt, if_neg heq.not_gt]
  extract_lets taken replayed pumped bytes r t
  have htaken : taken.counted p = ((s.fab.port p).rxNext + 1, (s.fab.port p).stale) := by
    rw [State.counted, State.port_mapPort_same]
  have hreplayed : replayed.counted p = taken.counted p := by
    unfold replayed
    split
    · exact taken.replay_counted p p
    · rfl
  have hpumped : pumped.counted p = taken.counted p := (replayed.pump_counted p _ p).trans hreplayed
  split
  · exact ⟨_, rfl, hpumped.trans htaken⟩
  · have hrelayed : r.1.counted p = pumped.counted p := pumped.relay_counted p _ bytes p
    have ht : t.counted p = pumped.counted p :=
      (r.1.mapPort_counted p p (g := fun y => { y with rxBuf := r.2 }) fun _ => ⟨rfl, rfl⟩).trans hrelayed
    refine ⟨_, rfl, Eq.trans ?_ (ht.trans (hpumped.trans htaken))⟩
    split
    · exact t.sendIdle_counted p p
    · rfl

end

/-! Key renewals. -/

section
variable {s : State} {p : Fin 8}

theorem exec_keyRenewalDue (hup : (s.fab.port p).up = true) (hsealed : (s.fab.port p).sealed = true) (hnone : (s.fab.port p).txNextKey = none)
    (hdue : 2 ^ 32 ≤ (s.fab.port p).keyFlits ∨ s.due (s.fab.port p).keyAt (secTicks 3600) = true) :
    exec (.keyRenewalDue p) s = .next ((s.mapPort p fun x => { x with txNextKey := some ((s.fab.port p).txKey + 1) }).emit
      (.mgmt (s.fab.port p).peerBoard 0x21 (leBytes 4 ((s.fab.port p).txKey + 1)))) := by
  have hdue : (decide (2 ^ 32 ≤ (s.fab.port p).keyFlits) || s.due (s.fab.port p).keyAt (secTicks 3600)) = true := by
    rcases hdue with h | h <;> simp only [h, decide_true, Bool.true_or, Bool.or_true]
  simp only [exec, execKeyRenewalDue, hup, hsealed, hnone, hdue, Option.isNone_none, Bool.and_self, if_true]

theorem exec_keyNext {g : Nat} (hup : (s.fab.port p).up = true) (hsealed : (s.fab.port p).sealed = true) (hg : g = (s.fab.port p).rxKey + 1) :
    exec (.keyNext p g) s = .next ((s.mapPort p fun x => { x with rxNextKey := some g }).emit
      (.mgmt (s.fab.port p).peerBoard 0x22 (leBytes 4 g))) := by
  simp only [exec, execKeyNext, hup, hsealed, hg, decide_true, Bool.and_self, if_true]

theorem exec_keyNextAck {g : Nat} (hg : (s.fab.port p).txNextKey = some g) : exec (.keyNextAck p) s =
    .next (s.mapPort p fun x => { x with
      txKey := g, txNextKey := none, keySwitch := true, keyFlits := 0, keyAt := s.clk, keyGen := x.keyGen + 1 }) := by
  simp only [exec, execKeyNextAck, hg]

end

/-! Resends (R499). -/

/-- The state in which the request `id` of board `d` has been sent once more. -/
def State.countResend (s : State) (d id : Nat) : State :=
  { s with fab := { s.fab with
    unans := s.fab.unans.map fun x =>
      if x.msg.dest = d ∧ x.msg.reqId = id then { x with sentAt := s.clk, resends := x.resends + 1 } else x
    resends := satN 0xFFFF (s.fab.resends + 1) } }

section
variable {s : State} {x : Unans}

theorem State.unanswered_countResend {d id : Nat} (hx : s.unanswered d id = some x) :
    (s.countResend d id).unanswered d id = some { x with sentAt := s.clk, resends := x.resends + 1 } := by
  have hself : x.msg.dest = d ∧ x.msg.reqId = id := by simpa using List.find?_some hx
  have hkey : ((fun u : Unans => decide (u.msg.dest = d) && decide (u.msg.reqId = id)) ∘ fun x : Unans =>
      if x.msg.dest = d ∧ x.msg.reqId = id then { x with sentAt := s.clk, resends := x.resends + 1 } else x) =
      fun u => decide (u.msg.dest = d) && decide (u.msg.reqId = id) := by
    funext u
    dsimp only [Function.comp]
    split <;> rfl
  unfold State.unanswered at hx ⊢
  rw [State.countResend, List.find?_map, hkey, hx, Option.map_some, if_pos hself]

variable {d : Fin 256} {id : Nat} (hx : s.unanswered d id = some x) (hdue : s.due x.sentAt (msTicks 1) = true)
  (hd : d.val ≠ s.struct.boardId)
include hx hdue hd

theorem exec_e2eResendTimeout_failed (hn : 3 ≤ x.resends) : exec (.e2eResendTimeout d id) s = .next (s.failMsg x) := by
  simp only [exec, execE2eResendTimeout, hx, hdue, hd, hn, Bool.not_true, decide_false, Bool.or_self, Bool.false_eq_true, if_false, if_true]

variable (hn : x.resends < 3)
include hn

theorem exec_e2eResendTimeout_message (htyp : x.msg.typ ≠ 0x33) : exec (.e2eResendTimeout d id) s =
    .next ((s.countResend d id).sendMsg { x.msg with ackBelow := (s.countResend d id).ackBelow d }) := by
  simp only [exec, execE2eResendTimeout, hx, hdue, hd, hn.not_ge, Bool.not_true, decide_false, Bool.or_self, Bool.false_eq_true, if_false]
  split
  · exact absurd ‹_› htyp
  · rfl

theorem exec_e2eResendTimeout_granted {f q : Nat} {c : Cmd} (htyp : x.msg.typ = 0x33) (hc : s.cmdOf x.cmd = some (f, q, c)) :
    exec (.e2eResendTimeout d id) s = .next ((s.countResend d id).restartMessage d f q c) := by
  have hc' : (s.countResend d id).cmdOf x.cmd = some (f, q, c) := hc
  simp only [State.countResend] at hc'
  simp only [exec, execE2eResendTimeout, hx, hdue, hd, hn.not_ge, Bool.not_true, decide_false, Bool.or_self, Bool.false_eq_true, if_false,
    htyp, hc']
  rfl

end

/-! Lifetimes and holds (R500, R504). -/

theorem exec_routeChangeHoldExpiry {s : State} {d : Fin 256} {t : Nat} (hold : alookup s.fab.holds d = some t)
    (hdue : s.due t (usTicks 100) = true) : exec (.routeChangeHoldExpiry d) s =
    .next ((s.fab.heldMsgs.filter fun x => decide (x.1 = d.val)).foldl (fun s x => s.forward { x.2 with inject := s.injectNow })
      { s with fab := { s.fab with
        holds := adel s.fab.holds d, heldMsgs := s.fab.heldMsgs.filter fun x => decide (x.1 ≠ d.val) } }) := by
  simp only [exec, execRouteChangeHoldExpiry, hold, hdue, Bool.not_true, Bool.false_eq_true, if_false]

/-- A message that is still stuck is another one or is not over its lifetime. -/
theorem exec_messageLifetimeExpiry (s : State) (d : Fin 256) (id : Nat) : ∃ u : State, exec (.messageLifetimeExpiry d id) s = .next u ∧
    (∀ x ∈ u.fab.stuck, x.1 = d.val → x.2.reqId = id → 1024 * ((s.injectNow + 65536 - x.2.inject) % 65536) ≤ 50000) ∧
    (∀ x ∈ s.fab.stuck, (x.1 ≠ d.val ∨ x.2.reqId ≠ id) → x ∈ u.fab.stuck) := by
  refine ⟨_, rfl, fun x hx hdest hid => ?_, fun x hx hother => ?_⟩
  · have hkept := (List.mem_filter.mp hx).2
    simpa [hdest, hid] using hkept
  · refine List.mem_filter.mpr ⟨hx, ?_⟩
    rcases hother with h | h <;> simp [h]

/-- Settles O42: a flit by its CRC, its tag and its counter, the key renewal, and the resends, lifetimes and holds by what is due. -/
theorem flitsKeysAndResends : Obligations.FlitsKeysAndResends := by
  unfold Obligations.FlitsKeysAndResends
  refine ⟨fun s p b hup hcrc => exec_flitReceive_badCrc hup hcrc,
    fun s p b hup hcrc hsealed htag => exec_flitReceive_badTag hup hcrc hsealed htag,
    fun s p b hup hcrc hgood hlt => exec_flitReceive_stale hup hcrc hgood hlt,
    fun s p b hup hcrc hgood hlt => exec_flitReceive_gap hup hcrc hgood hlt,
    fun s p b hup hcrc hgood heq => ?expected,
    fun s p hup hsealed hnone hdue => exec_keyRenewalDue hup hsealed hnone hdue,
    fun s p g hup hsealed hg => exec_keyNext hup hsealed hg,
    fun s p g hg => ⟨_, exec_keyNextAck hg, ?acknowledged⟩,
    fun s d id x hx hdue hn hd htyp => ⟨_, exec_e2eResendTimeout_message hx hdue hd hn htyp, State.unanswered_countResend hx, rfl⟩,
    fun s d id f q x c hx hdue hn hd htyp hc =>
      ⟨_, exec_e2eResendTimeout_granted hx hdue hd hn htyp hc, State.unanswered_countResend hx, rfl⟩,
    fun s d id x hx hdue hn hd => exec_e2eResendTimeout_failed hx hdue hd hn,
    exec_messageLifetimeExpiry,
    fun s d t hold hdue hheld => ⟨_, exec_routeChangeHoldExpiry hold hdue, ?noneHeld⟩,
    fun s d t m hold hdue hheld => ?oneHeld⟩
  case expected =>
    obtain ⟨u, hexec, hcount⟩ := exec_flitReceive_expected hup hcrc hgood heq
    obtain ⟨hnext, hstale⟩ := Prod.mk.inj hcount
    exact ⟨u, hexec, hnext, hstale, exec_mem (i := .flitReceive p b) rfl hexec⟩
  case acknowledged =>
    rw [State.port_mapPort_same]
    exact ⟨rfl, rfl, rfl, rfl⟩
  case noneHeld =>
    rw [hheld]
    rfl
  case oneHeld =>
    have hleave : [(d.val, m)].filter (fun x => decide (x.1 = d.val)) = [(d.val, m)] := by simp
    have hstay : [(d.val, m)].filter (fun x => decide (x.1 ≠ d.val)) = [] := by simp
    rw [exec_routeChangeHoldExpiry hold hdue, hheld, hleave, hstay]
    rfl

end Sys2Proof.Machine

namespace Sys2Proof.Machine

/-! The clock through what one TMG cycle does: no operation of a cycle touches it, so that a cycle moves it on by one. One lemma for
each operation, in the order of `Laws/KeepsPending.lean`. -/

@[simp] theorem State.sendEvents_clk (s : State) : s.sendEvents.clk = s.clk := by simp [State.sendEvents]

@[simp] theorem State.recall_clk (s : State) (part : Nat) (lines : List Nat) : (s.recall part lines).clk = s.clk := by
  simp [State.recall, foldl_clk]

@[simp] theorem State.ringWrite_clk (s : State) (w : Bytes) (o : Nat) (bs : Bytes) (poison : Bool) :
    (s.ringWrite w o bs poison).clk = s.clk := by simp [State.ringWrite]

/-! The message engines (R153, R508, R509). -/

@[simp] theorem State.issueWaiting_clk (s : State) (dest n : Nat) : (s.issueWaiting dest n).clk = s.clk := by
  induction n generalizing s with
  | zero => rfl
  | succ n ih =>
    unfold State.issueWaiting
    (repeat' split) <;> simp [ih]

@[simp] theorem State.answered_clk (s : State) (src id : Nat) : (s.answered src id).clk = s.clk := by simp [State.answered]

@[simp] theorem State.fixSend_clk (s : State) (cmd : Option (Nat × Nat × Nat)) (source : Nat) : (s.fixSend cmd source).clk = s.clk := by
  unfold State.fixSend
  split <;> simp

@[simp] theorem State.ownMailDone_clk (s : State) (id : Nat) : (s.ownMailDone id).clk = s.clk := by
  unfold State.ownMailDone
  split <;> simp

@[simp] theorem State.passMails_clk (s : State) (w : Bytes) (n : Nat) (l : List MailIn) : (s.passMails w n l).clk = s.clk := by
  induction l generalizing s with
  | nil => rfl
  | cons m t ih =>
    unfold State.passMails
    dsimp only
    split
    · rw [ih]
      split <;> simp
    · rfl

@[simp] theorem State.mailWhole_clk (s : State) (w : Bytes) (m : MailIn) : (s.mailWhole w m).clk = s.clk := by simp [State.mailWhole]

@[simp] theorem State.recallSource_clk (s : State) (f : Nat) (c : Cmd) (o n : Nat) : (s.recallSource f c o n).clk = s.clk := by
  unfold State.recallSource
  split <;> simp

@[simp] theorem State.markCmd_clk (s : State) (cmd : Option (Nat × Nat × Nat)) (p l : Bool) : (s.markCmd cmd p l).clk = s.clk := by
  unfold State.markCmd
  (repeat' split) <;> simp [State.setCmd, State.markRun]

@[simp] theorem State.sendChunk_clk (s : State) (u : Unans) (o : Nat) (bs : Bytes) (poison last : Bool) :
    (s.sendChunk u o bs poison last).clk = s.clk := by
  unfold State.sendChunk
  dsimp only
  (repeat' split) <;> simp

@[simp] theorem State.mapMessage_clk (s : State) (n : Nat) (g : Engine → Engine) : (s.mapMessage n g).clk = s.clk := rfl

@[simp] theorem State.runMessage_clk (s : State) (n : Nat) : (s.runMessage n).clk = s.clk := by
  unfold State.runMessage
  dsimp only
  (repeat' split) <;> simp

@[simp] theorem State.runMessages_clk (s : State) : s.runMessages.clk = s.clk := by simp [State.runMessages, foldl_clk]

/-! The firmware's steps of a start (Table 3-2). -/

@[simp] theorem State.finishBurn_clk (s : State) (comp : Fin 4) : (s.finishBurn comp).clk = s.clk := by
  unfold State.finishBurn
  split <;> rfl

@[simp] theorem State.ledgerAfterAux_clk (s : State) : s.ledgerAfterAux.clk = s.clk := by simp [State.ledgerAfterAux]

@[simp] theorem State.checkRetention_clk (s : State) : s.checkRetention.clk = s.clk := by simp [State.checkRetention]

@[simp] theorem State.bootComponent_clk (s : State) (comp : Fin 4) : (s.bootComponent comp).1.clk = s.clk := by
  simp [State.bootComponent, State.noteFw, State.dropTrial]

@[simp] theorem State.enterRecovery_clk (s : State) (cause : Nat) : (s.enterRecovery cause).clk = s.clk := by
  simp [State.enterRecovery]

@[simp] theorem State.loadCal_clk (s : State) : s.loadCal.clk = s.clk := by
  unfold State.loadCal
  dsimp only
  split
  · rfl
  · split
    · exact foldl_clk _ (fun s e => s.note_clk ..) _ _
    · rfl

@[simp] theorem State.evalCompat_clk (s : State) : s.evalCompat.clk = s.clk := by simp [State.evalCompat, State.applyOverride]

@[simp] theorem State.bootFirmware_clk (s : State) (saf : Bool) : (s.bootFirmware saf).clk = s.clk := by
  unfold State.bootFirmware
  (repeat' split) <;> simp [*]

@[simp] theorem State.bootTime_clk (s : State) : s.bootTime.clk = s.clk := by
  simp [State.bootTime, State.restartTime, State.settleRetention]

@[simp] theorem State.bootNow_clk (s : State) : s.bootNow.clk = s.clk := by simp [State.bootNow]

/-! The rest of a cycle. -/

@[simp] theorem State.tmgCycle_clk (s : State) : s.tmgCycle.clk = s.clk := by simp [State.tmgCycle, State.endFreqPulse]

@[simp] theorem State.endVerify_clk (s : State) : s.endVerify.clk = s.clk := by
  unfold State.endVerify
  (repeat' split) <;> simp

@[simp] theorem State.measureVin_clk (s : State) : s.measureVin.clk = s.clk := by simp [State.measureVin]

@[simp] theorem State.resumeTasks_clk (s : State) : s.resumeTasks.clk = s.clk := by simp [State.resumeTasks, foldl_clk]

@[simp] theorem State.offerTiles_clk (s : State) (i : Nat) (j : StageJob) (l : List (Nat × (Nat × Nat) × Bool)) :
    (s.offerTiles i j l).clk = s.clk := by simp [State.offerTiles]

@[simp] theorem State.offerCells_clk (s : State) (j : StageJob) (m : Nat) : (s.offerCells j m).clk = s.clk := by
  simp [State.offerCells, State.mapJob]

@[simp] theorem State.offerMatches_clk (s : State) : s.offerMatches.clk = s.clk := by
  unfold State.offerMatches
  (repeat' split) <;> simp

theorem State.tick_clk (s : State) : s.tick.clk = s.clk + 1 := by simp [State.tick]

/-- Settles O52: a step takes the front command with the queue's rest, and an idle one is a TMG cycle. -/
theorem stepRunsTheFrontCommand : Obligations.StepRunsTheFrontCommand := by
  refine ⟨fun s c rest h => ?_, fun s c => rfl, fun s h => ⟨?_, s.tick_pending.trans h, s.tick_clk⟩⟩
  · simp only [step, h]
  · simp only [step, h]

end Sys2Proof.Machine

namespace Sys2Proof.Machine

/-! The timing block's shared operations (R515 to R536, R552 to R554): what each leaves of an input, of the selection and of what
the block was told. -/

/-- An input but for what a selection or a step of the GTC does to it: the phase held at selection (R517), and the mark that its
phase was measured in the present scale. -/
def State.reading (s : State) (i : Nat) : TmgIn := { s.input i with held := 0, seen := false }

/-- What the timing block was told, which following an input never changes: MODE, TMG_TOD, clockClass, SW_TIMEOUT and the acting
root. -/
def Tmg.told (t : Tmg) : Nat × Option Nat × Nat × Bool × Bool := (t.mode, t.tod, t.ptpClass, t.swTimeout, t.backupActs)

/-- `t` follows `s` in what no selection and no loop changes: what was told and what the inputs read, and a GTC once set stays set. -/
structure State.Follows (s t : State) : Prop where
  told : t.tmg.told = s.tmg.told
  reading : ∀ i, t.reading i = s.reading i
  gtcSet : s.top.gtcSet = true → t.top.gtcSet = true

theorem State.Follows.refl (s : State) : s.Follows s := ⟨rfl, fun _ => rfl, id⟩

theorem State.Follows.trans {s t u : State} (h : s.Follows t) (h' : t.Follows u) : s.Follows u :=
  ⟨h'.told.trans h.told, fun i => (h'.reading i).trans (h.reading i), h'.gtcSet ∘ h.gtcSet⟩

theorem State.Follows.ite {s t u : State} {c : Prop} [Decidable c] (ht : s.Follows t) (hu : s.Follows u) :
    s.Follows (if c then t else u) := by
  split
  · exact ht
  · exact hu

section
variable (s : State)

/-! One input. -/

theorem State.input_mapInput_same {i : Nat} (hi : i < 13) (g : TmgIn → TmgIn) : (s.mapInput i g).input i = g (s.input i) := by
  simp [State.input, hi]

theorem State.input_mapInput_other {i j : Nat} (h : j ≠ i) (g : TmgIn → TmgIn) : (s.mapInput i g).input j = s.input j := by
  by_cases hj : j < 13 <;> simp [State.input, hj, h]

theorem State.reading_mapInput_other {i j : Nat} (h : j ≠ i) (g : TmgIn → TmgIn) : (s.mapInput i g).reading j = s.reading j := by
  rw [State.reading, s.input_mapInput_other h, State.reading]

/-- A change of the phase held at selection is none of what the input reads. -/
theorem State.mapInput_held_follows (i : Nat) (h : TmgIn → Int) : s.Follows (s.mapInput i fun x => { x with held := h x }) := by
  refine ⟨rfl, fun j => ?_, id⟩
  by_cases hj : j = i
  · subst hj
    by_cases hlt : j < 13
    · rw [State.reading, s.input_mapInput_same hlt, State.reading]
    · simp [State.reading, State.input, hlt]
  · exact s.reading_mapInput_other hj _

/-! Entering a loop state and stepping the GTC. -/

/-- Entering a loop state sets it and moves the clocks of TMG_HOLD and of the lock; nothing else changes. -/
theorem State.setLoop_eq (l : LoopSt) : ∃ a h k, s.setLoop l =
    { s with tmg := { s.tmg with loop := l, holdAt := a, holdLast := h, lockedAt := k } } := by
  unfold State.setLoop
  dsimp only
  (repeat' split) <;> exact ⟨_, _, _, rfl⟩

/-- Following no input takes out the phase term and the count of good and bad errors, and moves the frequency term and the
holdover's clocks; nothing else changes. -/
theorem State.enterHold_eq : ∃ y ye te ag l a h k, s.enterHold = { s with tmg := { s.tmg with
    yP := 0, good := 0, bad := 0, yF := y, ye := ye, te := te, ageE := ag, loop := l, holdAt := a, holdLast := h, lockedAt := k } } := by
  unfold State.enterHold
  dsimp only
  split
  · obtain ⟨a, h, k, hl⟩ := State.setLoop_eq _ LoopSt.holdover
    exact ⟨_, _, _, _, _, a, h, k, hl⟩
  · obtain ⟨a, h, k, hl⟩ := State.setLoop_eq _ LoopSt.freeRun
    exact ⟨_, _, _, _, _, a, h, k, hl⟩

theorem State.setLoop_follows (l : LoopSt) : s.Follows (s.setLoop l) := by
  obtain ⟨a, h, k, hl⟩ := s.setLoop_eq l
  rw [hl]
  exact ⟨rfl, fun _ => rfl, id⟩

theorem State.setLoop_sel (l : LoopSt) : (s.setLoop l).tmg.sel = s.tmg.sel := by
  obtain ⟨a, h, k, hl⟩ := s.setLoop_eq l
  rw [hl]

theorem State.enterHold_follows : s.Follows s.enterHold := by
  obtain ⟨y, ye, te, ag, l, a, h, k, he⟩ := s.enterHold_eq
  rw [he]
  exact ⟨rfl, fun _ => rfl, id⟩

/-- A step of the GTC takes the mark of the present scale from each input and leaves what it reads. -/
theorem State.stepGtc_follows (d : Int) : s.Follows (s.stepGtc d) := by
  refine ⟨rfl, fun i => ?_, id⟩
  by_cases hi : i < 13 <;> simp [State.reading, State.input, State.stepGtc, hi]

theorem State.stepToInput_follows (i : Nat) (e : Int) : s.Follows (s.stepToInput i e) :=
  (s.stepGtc_follows _).trans ⟨rfl, fun _ => rfl, fun h => Bool.or_eq_true_iff.2 (.inl h)⟩

/-! The selector (R522 to R526). -/

/-- The selection of an input, or of none, is logged and counts. -/
def State.select (s : State) (args : List Nat) (new : Option (Fin 13)) : State :=
  { s.note 0x000 0 0x0500 0 args with tmg := { s.tmg with sel := new, switches := satN 0xFFFFFFFF (s.tmg.switches + 1) } }

/-- A FREQ input's phase is held at its selection (R517). -/
def State.holdPhase (s : State) (i : Nat) : State :=
  if i = 2 ∨ i = 3 then s.mapInput i fun x => { x with held := x.held + x.phase } else s

/-- The loop acquires unless it is locked to an input already (R526). -/
def State.acquire (s : State) : State := if s.tmg.loop = .locked ∨ s.tmg.loop = .acquiring then s else s.setLoop .acquiring

/-- What the selection of an input starts: its phase is held, and in MODE 0 the loop follows it, with a step to its time while the
GTC is not set (R526, R529). -/
def State.startFollowing (s : State) (i : Nat) : State :=
  let t := s.holdPhase i
  if t.tmg.mode = 0 then
    if !t.acquire.top.gtcSet && carriesTod i then t.acquire.stepToInput i (t.acquire.input i).phase else t.acquire
  else t

theorem State.select_follows (args : List Nat) (new : Option (Fin 13)) : s.Follows (s.select args new) := ⟨rfl, fun _ => rfl, id⟩

theorem State.holdPhase_follows (i : Nat) : s.Follows (s.holdPhase i) := .ite (s.mapInput_held_follows i _) (.refl s)

theorem State.acquire_follows : s.Follows s.acquire := .ite (.refl s) (s.setLoop_follows _)

theorem State.startFollowing_follows (i : Nat) : s.Follows (s.startFollowing i) :=
  (s.holdPhase_follows i).trans (.ite ((State.acquire_follows _).trans (.ite (State.stepToInput_follows ..) (.refl _))) (.refl _))

/-- What the selector can do: nothing, or select; a selection of none may enter the holdover, and one of an input starts following it. -/
theorem State.reselect_cases : s.reselect = s ∨ ∃ args new, s.reselect = s.select args new ∨
    s.reselect = (s.select args new).enterHold ∨ ∃ i, s.reselect = (s.select args new).startFollowing i := by
  by_cases hsame : s.choose = s.tmg.sel
  · exact .inl (if_pos hsame)
  right
  cases hnew : s.choose with
  | none =>
    simp only [State.reselect, hnew, if_neg (hnew ▸ hsame)]
    by_cases hmode : s.tmg.mode = 0
    · exact ⟨_, none, .inr (.inl (if_pos hmode))⟩
    · exact ⟨_, none, .inl (if_neg hmode)⟩
  | some i =>
    simp only [State.reselect, hnew, if_neg (hnew ▸ hsame)]
    exact ⟨_, some i, .inr (.inr ⟨i, rfl⟩)⟩

theorem State.reselect_follows : s.Follows s.reselect := by
  rcases s.reselect_cases with h | ⟨args, new, h | h | ⟨i, h⟩⟩ <;> rw [h]
  · exact .refl s
  · exact s.select_follows args new
  · exact (s.select_follows args new).trans (State.enterHold_follows _)
  · exact (s.select_follows args new).trans (State.startFollowing_follows _ i)

/-! What an input reads after it failed, recovered or was measured (R515, R516, R520). -/

theorem State.mapInput_reselect_reading {i : Nat} (hi : i < 13) (g : TmgIn → TmgIn) :
    (s.mapInput i g).reselect.reading i = { g (s.input i) with held := 0, seen := false } := by
  rw [(State.reselect_follows _).reading, State.reading, s.input_mapInput_same hi]

theorem State.failInput_reading {i : Nat} (hi : i < 13) (hst : (s.input i).st ≠ .disabled) (code : Nat) :
    (s.failInput i code).reading i = { s.reading i with st := .failed, fail := code } := by
  rw [State.failInput, if_neg hst, s.mapInput_reselect_reading hi]
  rfl

theorem State.makeAvailable_reading {i : Nat} (hi : i < 13) :
    (s.makeAvailable i).reading i = { s.reading i with st := .available, was := true, availAt := s.clk } :=
  s.mapInput_reselect_reading hi _

/-! The loop on a measurement (R527 to R533). -/

theorem State.judgeLock_follows (e : Int) : s.Follows (s.judgeLock e) :=
  have hcount (g b : Nat) : s.Follows { s with tmg := { s.tmg with good := g, bad := b } } := ⟨rfl, fun _ => rfl, id⟩
  (hcount _ _).trans (.ite (State.setLoop_follows ..) (.ite (State.setLoop_follows ..) (.refl _)))

theorem State.judgeLock_sel (e : Int) : (s.judgeLock e).tmg.sel = s.tmg.sel := by
  unfold State.judgeLock
  dsimp only
  (repeat' split) <;> simp only [State.setLoop_sel]

theorem State.stepOnMeasure_follows (i : Nat) (e : Int) :
    s.Follows (s.stepOnMeasure i e).1 ∧ (s.stepOnMeasure i e).1.tmg.sel = s.tmg.sel := by
  have hunload : s.Follows { s with tmg := { s.tmg with retLoaded := false } } := ⟨rfl, fun _ => rfl, id⟩
  unfold State.stepOnMeasure
  dsimp only
  split
  · exact ⟨s.stepToInput_follows i e, rfl⟩
  split
  · split
    · split
      · exact ⟨⟨rfl, fun _ => rfl, id⟩, rfl⟩
      · exact ⟨hunload.trans (State.stepGtc_follows ..), rfl⟩
    · exact ⟨hunload, rfl⟩
  · exact ⟨.refl s, rfl⟩

theorem State.loopMeasure_follows (i : Nat) (e : Int) :
    s.Follows (s.loopMeasure i e) ∧ (s.loopMeasure i e).tmg.sel = s.tmg.sel := by
  have hsteer (t : State) (p f : Int) : t.Follows { t with tmg := { t.tmg with yP := p, yF := f } } := ⟨rfl, fun _ => rfl, id⟩
  obtain ⟨hstep, hsel⟩ := s.stepOnMeasure_follows i e
  unfold State.loopMeasure
  split
  · exact ⟨(hstep.trans (hsteer _ _ _)).trans (State.judgeLock_follows ..), (State.judgeLock_sel ..).trans hsel⟩
  · exact ⟨.refl s, rfl⟩

/-! A measurement (R515, R516, R519, R520). -/

/-- What an input reads of a measurement. -/
def TmgIn.measured (x : TmgIn) (e freq : Int) (clk : Nat) : TmgIn :=
  { x with phase := satS32 e, freq := satS32 freq, seen := true, at_ := clk }

/-- The criterion that a measurement fails, 0 for none (R520). -/
def TmgIn.criterion (x : TmgIn) (freq : Int) (jump ok : Bool) : Nat :=
  if freq < -460000 ∨ 460000 < freq then 2 else if jump then 3 else if x.ql = 15 then 4 else if !ok then 5 else 0

/-- What follows a measurement: a failed criterion fails the input; else a failed input qualifies again, and the loop runs. -/
def State.afterMeasure (s : State) (i code : Nat) (wasFailed : Prop) [Decidable wasFailed] (e : Int) : State :=
  if 0 < code then s.failInput i code
  else (if wasFailed then s.mapInput i fun x => { x with st := .qualifying, qualAt := s.clk } else s).loopMeasure i e

theorem State.measure_eq {i : Nat} (hst : (s.input i).st ≠ .disabled) (e freq : Int) (jump ok : Bool) :
    s.measure i e freq jump ok = (s.mapInput i fun x => x.measured e freq s.clk).afterMeasure i ((s.input i).criterion freq jump ok)
      ((s.input i).st = .failed) e :=
  if_neg hst

theorem State.afterMeasure_reading {i : Nat} (hi : i < 13) (hst : (s.input i).st ≠ .disabled) (code : Nat) (wasFailed : Prop)
    [Decidable wasFailed] (e : Int) : ∃ st fail qualAt, (s.afterMeasure i code wasFailed e).reading i =
      { s.reading i with st := st, fail := fail, qualAt := qualAt } := by
  unfold State.afterMeasure
  split
  · exact ⟨_, _, _, s.failInput_reading hi hst code⟩
  rw [(State.loopMeasure_follows ..).1.reading]
  split
  · rw [State.reading, s.input_mapInput_same hi]
    exact ⟨_, _, _, rfl⟩
  · exact ⟨_, _, _, rfl⟩

/-- A measured input reads its phase error and frequency offset; beside them only its state and the criterion it fails can change. -/
theorem State.measure_reading {i : Nat} (hi : i < 13) (hst : (s.input i).st ≠ .disabled) (e freq : Int) (jump ok : Bool) :
    ∃ st fail qualAt, (s.measure i e freq jump ok).reading i =
      { s.reading i with phase := satS32 e, freq := satS32 freq, at_ := s.clk, st := st, fail := fail, qualAt := qualAt } := by
  have hm : (s.mapInput i fun x => x.measured e freq s.clk).input i = (s.input i).measured e freq s.clk := s.input_mapInput_same hi _
  obtain ⟨st, fail, qualAt, h⟩ := State.afterMeasure_reading (s.mapInput i fun x => x.measured e freq s.clk) hi (by rw [hm]; exact hst)
    ((s.input i).criterion freq jump ok) ((s.input i).st = .failed) e
  exact ⟨st, fail, qualAt, by rw [s.measure_eq hst, h, State.reading, hm]; rfl⟩

/-- A measurement that fails no criterion goes to the loop. -/
theorem State.measure_good {i : Nat} (hst : (s.input i).st = .available) (hql : (s.input i).ql ≠ 15) (e : Int) {freq : Int}
    (hlo : -460000 ≤ freq) (hhi : freq ≤ 460000) :
    s.measure i e freq false true = (s.mapInput i fun x => x.measured e freq s.clk).loopMeasure i e := by
  have hcrit : (s.input i).criterion freq false true = 0 := by
    simp [TmgIn.criterion, hql, hlo, hhi]
  rw [s.measure_eq (by simp [hst]), hcrit]
  simp [State.afterMeasure, hst]

end

end Sys2Proof.Machine

namespace Sys2Proof.Machine

/-! The reference inputs (R515 to R520, R550, R551, R558). -/

section
variable (s : State)

/-! What a peer's TIME message leaves of the input of its port (R552 to R554). -/

/-- The HOPS last heard on an input, and that it is DISABLED: a fail on a rule of the domain changes neither. -/
def State.heard (s : State) (i : Nat) : Nat × Bool := ((s.input i).hops, decide ((s.input i).st = .disabled))

theorem State.Follows.heard {s t : State} (h : s.Follows t) (i : Nat) : t.heard i = s.heard i :=
  congrArg (fun x => (x.hops, decide (x.st = .disabled))) (h.reading i)

theorem State.ite_heard (c : Prop) [Decidable c] (t u : State) (i : Nat) :
    (if c then t else u).heard i = if c then t.heard i else u.heard i := by
  split <;> rfl

theorem State.fail_heard {i : Nat} (hst : (s.input i).st ≠ .disabled) (code j : Nat) :
    (s.mapInput i fun x => { x with st := .failed, fail := code }).heard j = s.heard j := by
  by_cases hj : j = i
  · subst hj
    by_cases hlt : j < 13
    · rw [State.heard, s.input_mapInput_same hlt, State.heard, decide_eq_false hst]
      rfl
    · simp [State.heard, State.input, hlt]
  · rw [State.heard, s.input_mapInput_other hj, State.heard]

theorem State.failInput_heard (i code j : Nat) : (s.failInput i code).heard j = s.heard j := by
  unfold State.failInput
  split
  · rfl
  · rename_i hst
    rw [(State.reselect_follows _).heard, s.fail_heard hst]

theorem State.failLanicy_heard (j : Nat) : s.failLanicy.heard j = s.heard j := by
  unfold State.failLanicy
  split
  · rw [(State.reselect_follows _).heard]
    refine foldl_keeps (·.heard j) _ (fun s k => ?_) _ _
    split
    · rfl
    · rename_i hst
      exact s.fail_heard hst 5 j
  · rfl

theorem State.setBackupActs_heard (v : Bool) (j : Nat) : (s.setBackupActs v).heard j = s.heard j := by
  unfold State.setBackupActs
  dsimp only
  rw [State.failLanicy_heard]
  split <;> rfl

theorem State.hearTime_heard (p : Fin 8) (m : TimeMsg) :
    (s.hearTime p m).heard (4 + p) = (m.hops % 16, decide ((s.input (4 + p)).st = .disabled)) := by
  simp only [State.hearTime, State.ite_heard, State.failInput_heard, State.setBackupActs_heard, ite_self]
  rw [State.heard, s.input_mapInput_same (by omega)]

end

section
variable {s : State}

/-! The commands. -/

/-- The second nearest to a PPS edge, taken back by its path delay (R515, R518). -/
def State.edgeSecond (s : State) (i : Nat) (c : Int) : Int := (c - s.inDelay i + 4000000000) / 8000000000

/-- The phase error of a PPS edge: its distance from the nearest second. -/
def State.edgeError (s : State) (i : Nat) (c : Int) : Int := s.edgeSecond i c * 8000000000 - (c - s.inDelay i)

/-- An edge is measured against the prediction that carries its input's last phase error on by the frequency offset and the DCO
word. -/
def State.measureEdge (s : State) (i : Nat) (c f : Int) : State :=
  s.measure i (s.edgeError i c) f
    ((s.input i).jumped ((s.input i).phase + roundAway (8 * f) 100 - roundAway ((s.tmg.y + s.curve s.tmg.temp) * 8000000000) (2 ^ 48))
      (s.edgeError i c)) true

/-- After the edge is measured, a pending time of day is held against its second, or sets the GTC (R529, R530, R558). -/
def State.takeTod (s : State) (i : Nat) (second at_ : Int) : Host.Outcome State Fault Refusal :=
  match s.tmg.tod with
  | some v =>
    if s.tmg.sel.map (·.val) = some i then
      let s := { s with tmg := { s.tmg with tod := none } }
      if s.top.gtcSet then
        if second = (v : Int) then .next s
        else .next (({ s with tmg := { s.tmg with todMismatch := true } } : State).note 0x000 0 0x0502 0 [second.toNat, v])
      else if s.tmg.mode = 0 then
        let s := s.stepToInput i (v * 8000000000 - at_)
        .next { s with top := { s.top with gtcSet := true } }
      else .next s
    else .next s
  | none => .next s

theorem exec_ppsEdge (h : s.tmgRuns = true) (i : Fin 2) (c f : Int) :
    exec (.ppsEdge i c f) s = (s.measureEdge i c f).takeTod i (s.edgeSecond i c) (c - s.inDelay i) :=
  if_pos h

/-- Whatever the time of day, the inputs read on as they were measured. -/
theorem State.takeTod_reading (s : State) (i : Nat) (second at_ : Int) :
    ∃ u, s.takeTod i second at_ = .next u ∧ ∀ j, u.reading j = s.reading j := by
  unfold State.takeTod
  split
  · dsimp only
    split
    · split
      · split
        · exact ⟨_, rfl, fun _ => rfl⟩
        · exact ⟨_, rfl, fun _ => rfl⟩
      · split
        · exact ⟨_, rfl, (State.stepToInput_follows { s with tmg := { s.tmg with tod := none } } i _).reading⟩
        · exact ⟨_, rfl, fun _ => rfl⟩
    · exact ⟨_, rfl, fun _ => rfl⟩
  · exact ⟨_, rfl, fun _ => rfl⟩

theorem State.takeTod_mismatch {i : Nat} {second : Int} {v : Nat} (htod : s.tmg.tod = some v) (hsel : s.tmg.sel.map (·.val) = some i)
    (hset : s.top.gtcSet = true) (hne : second ≠ v) (at_ : Int) : s.takeTod i second at_ =
      .next (({ s with tmg := { s.tmg with tod := none, todMismatch := true } } : State).note 0x000 0 0x0502 0 [second.toNat, v]) := by
  simp only [State.takeTod, htod, if_pos hsel, if_pos hset, if_neg hne]

/-- The first edge in the present scale of a selected PPS input whose second is not the pending TMG_TOD. -/
theorem exec_ppsEdge_mismatch {i : Fin 2} {c : Int} {v : Nat} (h : s.tmgRuns = true) (hst : (s.input i).st = .available)
    (hseen : (s.input i).seen = false) (htod : s.tmg.tod = some v) (hsel : s.tmg.sel.map (·.val) = some i.val)
    (hset : s.top.gtcSet = true) (hql : (s.input i).ql ≠ 15) (hne : s.edgeSecond i c ≠ v) :
    ∃ u : State, exec (.ppsEdge i c 0) s = .next u ∧ u.tmg.todMismatch = true ∧ u.tmg.tod = none := by
  have hmeasure : s.measureEdge i c 0 = (s.mapInput i fun x => x.measured (s.edgeError i c) 0 s.clk).loopMeasure i (s.edgeError i c) := by
    rw [State.measureEdge, TmgIn.jumped, hseen, Bool.false_and, s.measure_good hst hql _ (by decide) (by decide)]
  obtain ⟨hf, hsel'⟩ := State.loopMeasure_follows (s.mapInput i fun x => x.measured (s.edgeError i c) 0 s.clk) i (s.edgeError i c)
  rw [← hmeasure] at hf hsel'
  have htod' : (s.measureEdge i c 0).tmg.tod = some v := (congrArg (·.2.1) hf.told).trans htod
  rw [exec_ppsEdge h, State.takeTod_mismatch htod' (hsel' ▸ hsel) (hf.gtcSet hset) hne]
  exact ⟨_, rfl, rfl, rfl⟩

/-- Input activity is lost by the rule of the input's kind (Table 12-2); a FREQ input's is taken as reported (log entry 77). -/
theorem exec_inputActivityLoss {i : Fin 13} (h : s.tmgRuns = true) (hdis : (s.input i).st ≠ .disabled)
    (hfail : (s.input i).st ≠ .failed)
    (hlost : (i.val < 2 ∧ s.due (s.input i).at_ (msTicks 1100) = true) ∨ (2 ≤ i.val ∧ i.val < 4) ∨
      (4 ≤ i.val ∧ i.val < 12 ∧ ((s.fab.port (i.val - 4)).up = false ∨ s.due (s.input i).at_ (msTicks 5) = true)) ∨
      (i.val = 12 ∧ (s.due (s.input i).at_ (nsTicks (3 * logNs s.tmg.ptpLog)) = true ∨
        s.due (s.input i).announceAt (nsTicks (3 * logNs s.tmg.ptpAnn)) = true))) :
    exec (.inputActivityLoss i) s =
      .next ((if i.val = 12 then { s with tmg := { s.tmg with ptpFollowed := false } } else s).failInput i 1) := by
  have hlost : (if i.val < 2 then s.due (s.input i).at_ (msTicks 1100) else if i.val < 4 then true
      else if i.val < 12 then !(s.fab.port (i.val - 4)).up || s.due (s.input i).at_ (msTicks 5)
      else s.due (s.input i).at_ (nsTicks (3 * logNs s.tmg.ptpLog)) ||
        s.due (s.input i).announceAt (nsTicks (3 * logNs s.tmg.ptpAnn))) = true := by
    rcases hlost with ⟨hi, hd⟩ | ⟨hlo, hhi⟩ | ⟨hlo, hhi, hd⟩ | ⟨hi, hd⟩
    · rw [if_pos hi, hd]
    · rw [if_neg (by omega), if_pos hhi]
    · rw [if_neg (by omega), if_neg (by omega), if_pos hhi]
      rcases hd with hd | hd <;> simp [hd]
    · rw [if_neg (by omega), if_neg (by omega), if_neg (by omega)]
      rcases hd with hd | hd <;> simp [hd]
  simp only [exec, execInputActivityLoss, h, hlost, hdis, hfail, ne_eq, not_false_eq_true, decide_true, Bool.and_self, if_true]

theorem exec_qualificationPeriodEnd {i : Fin 13} (h : s.tmgRuns = true) (hst : (s.input i).st = .qualifying)
    (hdue : s.due (s.input i).qualAt (qualTicks i) = true) : exec (.qualificationPeriodEnd i) s =
      if (s.input i).was then .next (s.mapInput i fun x => { x with st := .wtr, wtrAt := s.clk }) else .next (s.makeAvailable i) := by
  simp only [exec, execQualificationPeriodEnd, h, hst, hdue, decide_true, Bool.and_self, if_true]

theorem exec_wtrExpiry {i : Fin 13} (h : s.tmgRuns = true) (hst : (s.input i).st = .wtr)
    (hdue : s.due (s.input i).wtrAt (secTicks (s.struct.boardField 24 2)) = true) :
    exec (.wtrExpiry i) s = .next (s.makeAvailable i) := by
  simp only [exec, execWtrExpiry, h, hst, hdue, decide_true, Bool.and_self, if_true]

/-! The exchange of time over Lanicy (R550, R551). -/

theorem exec_delayReqSend {p : Fin 8} (h : s.tmgRuns = true) (hup : (s.fab.port p).up = true)
    (hdue : (alookup s.tmg.reqAt p).all (fun a => s.due a (msTicks 1)) = true) : exec (.delayReqSend p) s =
      .next (({ s with tmg := { s.tmg with seqs := aset s.tmg.seqs p ((agetD s.tmg.seqs p 0 + 1) % 65536)
                                           reqAt := aset s.tmg.reqAt p s.clk } } : State).emit
        (.mgmt (s.fab.port p).peerBoard 0x10 (s.timeMsg 0x10 (agetD s.tmg.seqs p 0) s.gtcNs 0 0))) := by
  cases hreq : alookup s.tmg.reqAt p with
  | none =>
    simp only [exec, execDelayReqSend, h, hup, hreq, Bool.and_self, if_true]
    rfl
  | some a =>
    rw [hreq, Option.all_some] at hdue
    simp only [exec, execDelayReqSend, h, hup, hreq, hdue, Bool.and_self, if_true]
    rfl

theorem exec_delayReq {p : Fin 8} (h : s.tmgRuns = true) (hup : (s.fab.port p).up = true) (m : TimeMsg) (a : Int) :
    exec (.delayReq p m a) s = .next ((s.hearTime p m).emit (.mgmt (s.fab.port p).peerBoard 0x11
      ((s.hearTime p m).timeMsg 0x11 (m.seqNo % 65536) (unsigned 64 m.t1) (unsigned 64 a) (s.hearTime p m).gtcNs))) := by
  simp only [exec, execDelayReq, h, hup, Bool.and_self, if_true]

/-- The answer of a peer measures the port's input by half the difference of the two directions. -/
theorem exec_delayResp {p : Fin 8} (h : s.tmgRuns = true) (hup : (s.fab.port p).up = true) (m : TimeMsg) (a f : Int) :
    ∃ jump ok, exec (.delayResp p m a f) s =
      .next ((s.hearTime p m).measure (4 + p) (4 * ((m.t2 - m.t1) - (a - m.t3))) f jump ok) := by
  simp only [exec, execDelayResp, h, hup, Bool.and_self, if_true]
  exact ⟨_, _, rfl⟩

end

/-- Settles O43: each command measures its input, fails it or makes it available, and what follows at the selector and in the loop leaves
what the input reads. -/
theorem timeInputsAreMeasured : Obligations.TimeInputsAreMeasured := by
  refine ⟨fun s i c f h hst => ?pps, fun s i c f v h hst hseen htod hsel hset hf hql hne => ?mismatch, fun s i e f ok h hst => ?freq,
    fun s i e f ok h hst => ?freqLost, fun s e f h hst => ?sync, fun s c a b h => ?announce, fun s d h => if_pos h,
    fun s p h hup hdue => exec_delayReqSend h hup hdue, fun s p m a h hup => exec_delayReq h hup m a,
    fun s p m a f h hup hst => ?exchange, fun s i h hdis hfail hlost => ?lost, fun s i h hst hdue => ?qualified,
    fun s i h hst hdue => ?restored⟩
  case pps =>
    obtain ⟨u, hu, hreading⟩ := (s.measureEdge i c f).takeTod_reading i (s.edgeSecond i c) (c - s.inDelay i)
    obtain ⟨st, fail, qualAt, hm⟩ := s.measure_reading (by omega) hst (s.edgeError i c) f _ true
    have hu' := (hreading i).trans hm
    exact ⟨u, (exec_ppsEdge h i c f).trans hu, congrArg TmgIn.freq hu', congrArg TmgIn.phase hu'⟩
  case mismatch =>
    subst hf
    exact exec_ppsEdge_mismatch h hst hseen htod (by rw [hsel]; rfl) hset hql hne
  case freq =>
    obtain ⟨st, fail, qualAt, hm⟩ := s.measure_reading (by omega) hst (e + s.inDelay (2 + i) - (s.input (2 + i)).held) f (!ok) true
    exact ⟨_, if_pos h, congrArg TmgIn.freq hm, congrArg TmgIn.phase hm⟩
  case freqLost =>
    have hm := s.failInput_reading (by omega) hst 1
    exact ⟨_, if_pos h, congrArg TmgIn.st hm, congrArg TmgIn.fail hm⟩
  case sync =>
    obtain ⟨st, fail, qualAt, hm⟩ := s.measure_reading (by decide) hst (e + s.tmg.ptpDelay + s.inDelay 12) f _ true
    exact ⟨_, if_pos h, congrArg TmgIn.freq hm, congrArg TmgIn.phase hm⟩
  case announce =>
    have hm := State.mapInput_reselect_reading ({ s with tmg := { s.tmg with
      ptpClass := c % 256, ptpLog := clampI (-7) 1 a, ptpAnn := clampI (-7) 16 b, ptpFollowed := true } } : State) (i := 12) (by decide)
      fun x => { x with ql := classQl (c % 256), announceAt := s.clk }
    exact ⟨_, if_pos h, congrArg TmgIn.ql hm, congrArg TmgIn.announceAt hm, congrArg (·.2.2.1) (State.reselect_follows _).told⟩
  case exchange =>
    obtain ⟨jump, ok, hexec⟩ := exec_delayResp h hup m a f
    obtain ⟨hhops, hdis⟩ := Prod.mk.inj (s.hearTime_heard p m)
    obtain ⟨st, fail, qualAt, hm⟩ := (s.hearTime p m).measure_reading (by omega) (of_decide_eq_false (hdis.trans (decide_eq_false hst)))
      (4 * ((m.t2 - m.t1) - (a - m.t3))) f jump ok
    exact ⟨_, hexec, congrArg TmgIn.freq hm, congrArg TmgIn.phase hm, (congrArg TmgIn.hops hm).trans hhops⟩
  case lost =>
    have hinput : (if i.val = 12 then { s with tmg := { s.tmg with ptpFollowed := false } } else s).input i = s.input i := by
      split <;> rfl
    have hm := State.failInput_reading _ i.isLt (hinput ▸ hdis) 1
    exact ⟨_, exec_inputActivityLoss h hdis hfail hlost, congrArg TmgIn.st hm, congrArg TmgIn.fail hm⟩
  case qualified =>
    rw [exec_qualificationPeriodEnd h hst hdue]
    split
    · exact ⟨_, rfl, by rw [s.input_mapInput_same i.isLt]⟩
    · exact ⟨_, rfl, congrArg TmgIn.st (s.makeAvailable_reading i.isLt)⟩
  case restored =>
    have hm := s.makeAvailable_reading i.isLt
    exact ⟨_, exec_wtrExpiry h hst hdue, congrArg TmgIn.st hm, congrArg TmgIn.was hm⟩

end Sys2Proof.Machine

namespace Sys2Proof.Machine

/-! Steering and outputs (R529 to R549, R554, R559). -/

/-! The scale count of the ledger: no entry written and no second that ends changes it; a step of the GTC counts one (R688). -/

theorem Log.place_steps (l : Log) (e : LogEntry) : (l.place e).steps = l.steps := by
  unfold Log.place
  dsimp only
  (repeat' split) <;> rfl

theorem Log.append_steps (l : Log) (e : LogEntry) : (l.append e).steps = l.steps := Log.place_steps ..

theorem Log.reportGap_steps (l : Log) (gtc : Nat) : (l.reportGap gtc).steps = l.steps := by
  unfold Log.reportGap
  split
  · rfl
  · dsimp only
    split
    · exact Log.append_steps ..
    · rfl

theorem Log.enter_steps (l : Log) (gtc : Nat) (e : LogEntry) : (l.enter gtc e).steps = l.steps := by
  unfold Log.enter
  split
  · split
    · exact (Log.reportGap_steps ..).trans (Log.append_steps ..)
    · rfl
  · rfl

theorem Log.endSecond_steps (l : Log) (gtc : Nat) : (l.endSecond gtc).steps = l.steps := by
  have hfold (es : List LogEntry) : ∀ l : Log, (es.foldl (fun l e => l.enter gtc e) l).steps = l.steps := by
    induction es with
    | nil => exact fun _ => rfl
    | cons e es ih => exact fun l => (ih _).trans (l.enter_steps gtc e)
  exact hfold _ _

theorem Log.limited_steps (l : Log) (gtc : Nat) (e : LogEntry) : (l.limited gtc e).steps = l.steps := by
  have hsecond : (if gtc / 1000000000 = l.second then l else l.endSecond gtc).steps = l.steps := by
    split
    · rfl
    · exact l.endSecond_steps gtc
  unfold Log.limited
  dsimp only
  generalize (if gtc / 1000000000 = l.second then l else l.endSecond gtc) = k at hsecond
  rw [← hsecond]
  split
  · exact k.enter_steps gtc e
  · split
    · exact Log.enter_steps ..
    · split
      · exact Log.enter_steps ..
      · rfl

section
variable (s : State)

theorem State.stepGtc_steps (d : Int) : (s.stepGtc d).log.steps = (s.log.steps + 1) % 65536 := by
  have hnote (args : List Nat) : (s.note 0x000 0 0x0003 0 args).log.steps = s.log.steps := Log.limited_steps ..
  exact congrArg (fun n => (n + 1) % 65536) ((Log.endSecond_steps ..).trans (hnote _))

/-! The modes (R538 to R542). -/

theorem State.setMode_tmg (m : Nat) : (s.setMode m).tmg = { s.tmg with mode := m } := by
  unfold State.setMode
  dsimp only
  split <;> rfl

/-- MODE 0 is entered whether an input is followed or not, and TMG_STAT.SW_TIMEOUT stays. -/
theorem State.closeLoop_told : s.closeLoop.tmg.told = { s.tmg with mode := 0 }.told := by
  have hmode : (s.setMode 0).tmg.told = { s.tmg with mode := 0 }.told := congrArg Tmg.told (s.setMode_tmg 0)
  have hterm (t : State) (y : Int) : t.Follows { t with tmg := { t.tmg with yF := y, yP := 0, good := 0, bad := 0 } } :=
    ⟨rfl, fun _ => rfl, id⟩
  unfold State.closeLoop
  dsimp only
  split
  · exact ((hterm _ _).trans (State.setLoop_follows ..)).told.trans hmode
  · exact (State.enterHold_follows _).told.trans hmode

/-! Outputs. -/

theorem State.output_mapOutput_same {o : Nat} (ho : o < 9) (g : TmgOut → TmgOut) : (s.mapOutput o g).output o = g (s.output o) := by
  simp [State.output, ho]

theorem State.realignStep_clk (o : Nat) : (s.realignStep o).clk = s.clk := by
  unfold State.realignStep
  dsimp only
  (repeat' split) <;> simp

end

theorem getLsbD_setBit_false {n : Nat} (w : BitVec n) (i : Nat) : (setBit w i false).getLsbD i = false := by
  simp only [setBit, Bool.false_eq_true, if_false, BitVec.getLsbD_and, BitVec.getLsbD_not, BitVec.getLsbD_ofNat,
    Nat.testBit_two_pow_self, Bool.and_true, Bool.and_not_self, Bool.and_false]

section
variable {s : State}

theorem State.pf0Ready_zero : s.pf0Ready 0 = s.top.ready := by simp [State.pf0Ready]

/-! The commands. -/

/-- A temperature reading is kept, and the frequency term may be set by it. -/
theorem exec_holdoverUpdate (h : s.tmgRuns = true) (hdue : s.due s.tmg.tempAt (msTicks 100) = true) (t : Int) : ∃ hist y,
    exec (.holdoverUpdate t) s = .next { s with
      tmg := { s.tmg with temp := clampI (-32768) 32767 (t + s.cal.value 0x0010 0), tempAt := s.clk, hist := hist, yF := y }
      ret := { s.ret with record := { s.ret.record with
        temps := (clampI (-32768) 32767 (t + s.cal.value 0x0010 0) :: s.ret.record.temps).take 620 } } } := by
  simp only [exec, execHoldoverUpdate, h, hdue, Bool.and_self, if_true]
  split
  · exact ⟨_, _, rfl⟩
  split
  · exact ⟨_, _, rfl⟩
  · exact ⟨_, _, rfl⟩

theorem exec_ageingHour (h : s.tmgRuns = true) (hdue : s.due s.tmg.hourAt (secTicks 3600) = true) (hl : s.tmg.loop = .locked) (m : Int) :
    exec (.ageingHour m) s = .next (({ s with
      tmg := { s.tmg with hourAt := s.clk }
      ret := { s.ret with record := { s.ret.record with
        ageing := ((s.gtcNs / 1000000000, m) :: s.ret.record.ageing).take 720 } } } : State).refit) := by
  simp only [exec, execAgeingHour, h, hdue, hl, Bool.and_self, if_true]
  rfl

theorem exec_softwareTimeout (h : s.tmgRuns = true) (hm : s.tmg.mode = 2) (hdue : s.due s.tmg.dcoAt (secTicks 2) = true) :
    exec .softwareTimeout s = .next ({ s with tmg := { s.tmg with swTimeout := true } } : State).closeLoop := by
  simp only [exec, execSoftwareTimeout, h, hm, hdue, decide_true, Bool.and_self, if_true]

theorem exec_loopModeSoftware {w : U32} (hr : s.top.ready = true) (hw : wbits w 1 0 = 2) :
    ∃ u : State, exec (.loopModeSoftware 0 w) s = .next u ∧ u.tmg.mode = 2 ∧ u.tmg.loop = .software ∧
      u.tmg.yF = clampF s.tmg.y ∧ u.tmg.yP = 0 := by
  refine ⟨_, rfl, ?_⟩
  simp only [State.askSoftware, State.pf0Ready_zero, hr, hw, decide_true, Bool.and_self, if_true]
  obtain ⟨a, h, k, hl⟩ := State.setLoop_eq _ LoopSt.software
  rw [hl]
  simp [State.setMode_tmg, Tmg.y]

/-- An output with the leading edge of a pulse. -/
def TmgOut.started (x : TmgOut) (clk width gtc : Nat) : TmgOut :=
  { x with pulse := some (clk, width), edgeAt := some clk, lastEdge := some gtc }

theorem exec_outputPulseStart {o : Fin 9} {r : Bytes} (hrec : s.struct.outputAlign o = some r) (h : s.tmgRuns = true)
    (hen : s.pwr.pinEn.getLsbD (outPin o) = true) (hon : s.pinOn (outPin o) = true) (hmode : (s.output o).mode ≠ 0)
    (hpulse : (s.output o).pulse = none) (hdue : s.due (s.output o).recAt (nsTicks ((field r 12 4 + 1) / 2)) = true)
    (hedge : (s.output o).edgeAt = none) (hsched : onSchedule (s.outClock o) (signed 32 (field r 8 4)) (field r 12 4) = true) :
    exec (.outputPulseStart o) s = .next (((s.realignStep o).mapOutput o fun x =>
      x.started s.clk (field r 16 4) (s.realignStep o).gtcNs).emit (.edge o true)) := by
  simp only [exec, execOutputPulseStart, hrec, h, hen, hon, hmode, hpulse, hdue, hedge, hsched, ne_eq, not_false_eq_true, decide_true,
    Option.isNone_none, Bool.and_self, if_true, State.realignStep_clk]
  rfl

theorem exec_outputPulseEnd {o : Fin 9} {a w : Nat} (hpulse : (s.output o).pulse = some (a, w)) (hdue : s.due a (nsTicks w) = true) :
    ∃ u : State, exec (.outputPulseEnd o) s = .next (if s.pinOn (outPin o) then u.emit (.edge o false) else u) ∧
      (u.output o).pulse = none ∧ u.pwr.finishing.getLsbD (outPin o) = false := by
  simp only [exec, execOutputPulseEnd, hpulse, hdue, if_true]
  exact ⟨_, rfl, congrArg TmgOut.pulse (s.output_mapOutput_same o.isLt _), getLsbD_setBit_false ..⟩

/-! The root's role (R554). -/

theorem State.failLanicy_told (s : State) : s.failLanicy.tmg.told = s.tmg.told := by
  unfold State.failLanicy
  split
  · refine (State.reselect_follows _).told.trans (foldl_keeps (·.tmg.told) _ (fun s k => ?_) _ s)
    split <;> rfl
  · rfl

theorem State.setBackupActs_backupActs (s : State) (v : Bool) : (s.setBackupActs v).tmg.backupActs = v := by
  unfold State.setBackupActs
  dsimp only
  refine (congrArg (·.2.2.2.2) (State.failLanicy_told _)).trans ?_
  split <;> rfl

theorem exec_rootReclaim {i j : Fin 13} (h : s.tmgRuns = true) (hcore : s.struct.boardCore.isSome = true)
    (hroot : s.struct.boardId = s.struct.timeRoot) (hacts : s.tmg.backupActs = true)
    (hbest : s.bestInput (fun i => !isLnkInput i) = some i) (hsel : s.tmg.sel = some j) (hlnk : isLnkInput j = true)
    (havail : s.due (s.input i).availAt (secTicks 60) = true) (hloop : s.tmg.loop = .locked)
    (hlocked : s.due s.tmg.lockedAt (secTicks 60) = true) : exec .rootReclaim s = .next (s.setBackupActs false) := by
  simp only [exec, execRootReclaim, h, hcore, hroot, hacts, hbest, hsel, hlnk, havail, hloop, hlocked, decide_true, Bool.and_self, if_true]

/-- TIME_ROOT acts as root once the backup does not. -/
theorem State.rootActs_setBackupActs (hcore : s.struct.boardCore.isSome = true) (hroot : s.struct.boardId = s.struct.timeRoot) :
    (s.setBackupActs false).rootActs = true := by
  have hstruct : (s.setBackupActs false).struct = s.struct := State.struct_of_sect (by rw [State.setBackupActs_img])
  simp [State.rootActs, State.actingRoot, State.setBackupActs_backupActs, hstruct, hcore, hroot]

end

/-- Settles O44: a mode is entered through what `setLoop` and `enterHold` leave of the block, and each other clause is the lemma for its
command. -/
theorem steeringAndOutputs : Obligations.SteeringAndOutputs := by
  refine ⟨fun s t h hdue => ?temperature, fun s m h hdue hl => ⟨_, exec_ageingHour h hdue hl m, rfl, rfl⟩, fun s w hr hw => ?closed,
    fun s w hr hw => ?hold, fun s w hr hw => exec_loopModeSoftware hr hw, fun s w hr hm => ?dco, fun s h hm hdue => ?timeout,
    fun s w hr => ?tod, fun s w hr ha => ?step, fun s w hr ha => ?refused, fun s o w hr hb hlo hhi hm => ?realign,
    fun s o r hrec h hen hon hmode hpulse hdue hedge hsched => ?start, fun s o a w hpulse hdue => exec_outputPulseEnd hpulse hdue,
    fun s i j h hcore hroot hacts hbest hsel hlnk havail hloop hlocked => ?reclaim⟩
  case temperature =>
    obtain ⟨hist, y, hexec⟩ := exec_holdoverUpdate h hdue t
    exact ⟨_, hexec, rfl, rfl, rfl⟩
  case closed =>
    refine ⟨_, rfl, ?_⟩
    simp only [State.askClosed, State.pf0Ready_zero, hr, hw, decide_true, Bool.and_self, if_true]
    exact congrArg (·.1) s.closeLoop_told
  case hold =>
    refine ⟨_, rfl, ?_⟩
    simp only [State.askHold, State.pf0Ready_zero, hr, hw, decide_true, Bool.and_self, if_true]
    obtain ⟨y, ye, te, ag, l, a, hh, k, he⟩ := (s.setMode 1).enterHold_eq
    rw [he, State.setMode_tmg]
    exact ⟨rfl, rfl⟩
  case dco => simp only [exec, execDcoFreqWrite, State.setDco, State.pf0Ready_zero, hr, hm, decide_true, Bool.and_self, if_true]
  case timeout =>
    have htold := State.closeLoop_told { s with tmg := { s.tmg with swTimeout := true } }
    exact ⟨_, exec_softwareTimeout h hm hdue, congrArg (·.1) htold, congrArg (·.2.2.2.1) htold⟩
  case tod => simp only [exec, execTodWrite, State.setTod, State.pf0Ready_zero, hr, if_true]
  case step =>
    refine ⟨_, rfl, ?_⟩
    simp only [State.askStep, State.pf0Ready_zero, hr, ha, Bool.false_eq_true, if_true, if_false]
    exact ⟨rfl, s.stepGtc_steps _⟩
  case refused => simp only [exec, execTmgStep, State.askStep, State.pf0Ready_zero, hr, ha, if_true]
  case realign =>
    simp only [exec, execOutputRealign, State.askRealign, State.pf0Ready_zero, hr, hb, hlo, hhi, hm, decide_true, Bool.and_self, if_true]
  case start =>
    have hout := (s.realignStep o).output_mapOutput_same o.isLt fun x =>
      x.started s.clk (field r 16 4) (s.realignStep o).gtcNs
    exact ⟨_, exec_outputPulseStart hrec h hen hon hmode hpulse hdue hedge hsched, congrArg TmgOut.pulse hout,
      congrArg TmgOut.edgeAt hout⟩
  case reclaim =>
    exact ⟨_, exec_rootReclaim h hcore hroot hacts hbest hsel hlnk havail hloop hlocked, s.setBackupActs_backupActs false,
      State.rootActs_setBackupActs hcore hroot⟩

end Sys2Proof.Machine

namespace Sys2Proof.Machine

/-! The SPDM exchange (R561, R572, R575, R590, Table 13-5): an answer leaves the port's exchange as its request makes it. -/

section
variable {s : State} {p : SpdmPort}

theorem State.spdm_setSpdm (s : State) (p : SpdmPort) (x : Spdm) : (s.setSpdm p x).spdm p = x := by
  cases p with
  | doe f => simp [State.setSpdm, State.spdm]
  | lanicy b => simp [State.setSpdm, State.spdm]

/-- A draw of random bytes leaves the ports and their exchanges. -/
theorem State.spdmReached_draw (s : State) (p : SpdmPort) (n : Nat) : (s.draw n).2.spdmReached p = s.spdmReached p := by
  cases p <;> rfl

theorem State.spdm_draw (s : State) (p : SpdmPort) (n : Nat) : (s.draw n).2.spdm p = s.spdm p := by
  cases p <;> rfl

theorem State.spdmAnswer_answers {ok : Bool} (hr : s.spdmReached p = true) (hok : ok = true) (data : Bytes) (g : Spdm → Spdm) :
    (s.spdmAnswer p ok data g).spdm p = g (s.spdm p) ∧ .spdm p true data ∈ (s.spdmAnswer p ok data g).out := by
  have hans : s.spdmAnswer p ok data g = (s.setSpdm p (g (s.spdm p))).emit (.spdm p true data) := by simp [State.spdmAnswer, hr, hok]
  have hport (t : State) (o : Out) : (t.emit o).spdm p = t.spdm p := by cases p <;> rfl
  rw [hans, hport, State.spdm_setSpdm]
  exact ⟨rfl, List.mem_append_right _ List.mem_cons_self⟩

/-- The same after a draw. -/
theorem State.spdmAnswer_draw_answers {ok : Bool} (hr : s.spdmReached p = true) (hok : ok = true) (n : Nat) (data : Bytes)
    (g : Spdm → Spdm) : ((s.draw n).2.spdmAnswer p ok data g).spdm p = g (s.spdm p) ∧
      .spdm p true data ∈ ((s.draw n).2.spdmAnswer p ok data g).out := by
  have h := State.spdmAnswer_answers ((s.spdmReached_draw p n).trans hr) hok data g
  rwa [State.spdm_draw] at h

theorem State.spdmAnswer_error {ok : Bool} (hr : s.spdmReached p = true) (hok : ok = false) (data : Bytes) (g : Spdm → Spdm) :
    s.spdmAnswer p ok data g = s.emit (.spdm p false []) := by
  simp [State.spdmAnswer, hr, hok]

/-- What GET_MEASUREMENTS answers in front of its nonce and signature (R590): the number of indices, all blocks, or one. -/
def State.measured (s : State) (p : SpdmPort) (i : Nat) (n : Bytes) : Option Bytes :=
  if i = 0 then some (leBytes 1 measurementIndices.length)
  else if i = 0xFF then
    some (measurementIndices.flatMap fun j => ((s.measurement (spdmFunction p) j n).map (measureBlock j)).getD [])
  else (s.measurement (spdmFunction p) i n).map (measureBlock i)

theorem exec_getMeasurements_answers {i : Nat} {n b : Bytes} (hr : s.spdmReached p = true) (ha : (s.spdm p).algs = true)
    (hb : s.measured p i n = some b) : ∃ (u : State) (r : Bytes), exec (.getMeasurements p i n) s = .next u ∧ u.spdm p = s.spdm p ∧
      .spdm p true (b ++ r ++ spdmSign (aliasScalar s.fw.combination) (b ++ n ++ r)) ∈ u.out := by
  unfold State.measured at hb
  refine ⟨_, (s.draw 32).1, ?_, s.spdmAnswer_draw_answers hr ha 32 _ id⟩
  simp only [exec, execGetMeasurements, hb]

/-- FINISH opens the session; that it is a pair session as well is kept beside the exchange. -/
theorem exec_spdmFinish_opens (hr : s.spdmReached p = true) (hh : (s.spdm p).handshake = true) (k : Option Bytes) : ∃ u : State,
    exec (.spdmFinish p true k) s = .next u ∧ u.spdm p = { s.spdm p with
      handshake := false, opened := true, proven := k.isSome && decide (k = s.sec.tenant.map (·.key)) } ∧ .spdm p true [] ∈ u.out := by
  have hans := s.spdmAnswer_answers (p := p) (ok := (s.spdm p).handshake && true) hr (by rw [hh]; rfl) [] fun x =>
    { x with handshake := false, opened := true, proven := k.isSome && decide (k = s.sec.tenant.map (·.key)) }
  cases p with
  | doe f => exact ⟨_, rfl, hans⟩
  | lanicy b =>
    simp only [exec, execSpdmFinish]
    split
    · exact ⟨_, rfl, hans⟩
    · exact ⟨_, rfl, hans⟩

end

/-- Settles O46: each request is an answer of the responder, whose exchange the clause reads off. -/
theorem attestationSessions : Obligations.AttestationSessions := by
  refine ⟨fun s p hr => ⟨_, _, rfl, s.spdmAnswer_answers hr rfl _ _⟩, fun s p hr hv => ⟨_, _, rfl, s.spdmAnswer_answers hr hv _ _⟩,
    fun s p hr hc => ⟨_, _, rfl, s.spdmAnswer_answers hr hc _ _⟩, fun s p hr ha => ⟨_, rfl, s.spdmAnswer_answers hr ha _ _⟩,
    fun s p o l hr ha ho => ⟨_, rfl, s.spdmAnswer_answers hr (by simp [ha, ho]) _ _⟩,
    fun s p n hr ha => ⟨_, _, rfl, s.spdmAnswer_draw_answers hr ha 32 _ _⟩, fun s p i n b hr ha h0 hFF hb => ?one,
    fun s p n hr ha => ?number, fun s p n hr ha => ?all, fun s p x hr ha => ?exchange, fun s p k hr hh => ?finish,
    fun s p hr ho => ⟨_, rfl, s.spdmAnswer_answers hr ho _ _⟩, fun s p hr ho => ?update, fun s p hr ho => ?ends,
    fun s p hr ha => congrArg _ (s.spdmAnswer_error hr ha _ _), fun s p hr ho => ⟨congrArg _ (s.spdmAnswer_error hr ho _ _),
      congrArg _ (s.spdmAnswer_error hr ho _ _), congrArg _ (s.spdmAnswer_error hr ho _ _)⟩⟩
  case one => exact exec_getMeasurements_answers hr ha (by rw [State.measured, if_neg h0, if_neg hFF, hb]; rfl)
  case number =>
    obtain ⟨u, r, hexec, hspdm, hout⟩ := exec_getMeasurements_answers (i := 0) (n := n) hr ha rfl
    exact ⟨u, _, hexec, hspdm, by rwa [List.append_assoc] at hout⟩
  case all =>
    obtain ⟨u, r, hexec, hspdm, hout⟩ := exec_getMeasurements_answers (i := 0xFF) (n := n) hr ha rfl
    exact ⟨u, _, hexec, hspdm, by rwa [List.append_assoc] at hout⟩
  case exchange =>
    obtain ⟨hspdm, hout⟩ := s.spdmAnswer_draw_answers hr ha 56 _ _
    exact ⟨_, _, rfl, congrArg Spdm.handshake hspdm, congrArg Spdm.opened hspdm, congrArg Spdm.proven hspdm, congrArg Spdm.gen hspdm,
      hout⟩
  case finish =>
    obtain ⟨u, hexec, hspdm, hout⟩ := exec_spdmFinish_opens hr hh k
    exact ⟨u, hexec, congrArg Spdm.opened hspdm, congrArg Spdm.handshake hspdm, congrArg Spdm.proven hspdm, hout⟩
  case update =>
    obtain ⟨hspdm, hout⟩ := s.spdmAnswer_answers hr ho [] fun x =>
      { x with gen := x.gen + 1, secret := Config.derive "key update" x.secret }
    exact ⟨_, rfl, congrArg Spdm.gen hspdm, (congrArg Spdm.opened hspdm).trans ho, hout⟩
  case ends =>
    obtain ⟨hspdm, hout⟩ := s.spdmAnswer_answers hr ho [] fun x =>
      { x with opened := false, proven := false, th := [], secret := [], gen := 0 }
    exact ⟨_, rfl, congrArg Spdm.opened hspdm, congrArg Spdm.proven hspdm, congrArg Spdm.secret hspdm, hout⟩

end Sys2Proof.Machine

namespace Sys2Proof.Machine

/-! Operator keys, admission, pair sessions and consent (R564 to R569, R586, R591, R604, R611). -/

section
variable {s : State}

theorem State.mboxActs_pf0 {w : U32} {q : Nat} (hr : s.top.ready = true) (hkey : wbits w 31 16 = 0x0C1A) (hq : wbits w 3 0 = q)
    (hb : s.sec.busy = none) : s.mboxActs 0 w q = true := by
  simp [State.mboxActs, State.pf0Ready_zero, hr, hkey, hq, hb]

/-- A claim while a slot holds a key ends at the first check it fails, and writes none. -/
theorem State.judgeRequest_claim_written (h : (s.sec.slots.toList.any fun y => y.1.isSome) = true) (b : Bytes) (ok : Bool) :
    (s.judgeRequest 1 b ok).2 = s.sec.slots ∧ (s.judgeRequest 1 b ok).1 ≠ 0 := by
  unfold State.judgeRequest
  dsimp only
  rw [if_pos rfl, if_pos h]
  split
  · exact ⟨rfl, Nat.succ_ne_zero _⟩
  · split <;> exact ⟨rfl, Nat.succ_ne_zero _⟩

/-- Without its fuse burn no request writes a slot. -/
theorem State.judgeRequest_unburnt (s : State) (q : Nat) (b : Bytes) :
    (s.judgeRequest q b false).2 = s.sec.slots ∧ (s.judgeRequest q b false).1 ≠ 0 := by
  unfold State.judgeRequest
  simp only [Bool.not_false, if_true]
  split
  case isTrue => exact ⟨rfl, Nat.succ_ne_zero _⟩
  case isFalse =>
    split
    case isTrue => (repeat' split) <;> exact ⟨rfl, Nat.succ_ne_zero _⟩
    case isFalse =>
      split
      · (repeat' split) <;> exact ⟨rfl, Nat.succ_ne_zero _⟩
      · exact ⟨rfl, Nat.succ_ne_zero _⟩

theorem exec_secMboxDone {q : Nat} {b : Bytes} (h : s.sec.busy = some (q, b)) (ok : Bool) :
    exec (.secMboxDone ok) s = .next ({ s with sec := { s.sec with
      busy := none, code := (s.judgeRequest q b ok).1, slots := (s.judgeRequest q b ok).2 } } : State).applyOverride := by
  simp only [exec, execSecMboxDone, h]

/-- ADMIT on PF0's mailbox or from a peer board (R566): the tenant is installed with status 0 alone. -/
theorem exec_admitTenant {p : SpdmPort} (hr : s.spdmReached p = true) (hp : p = .doe 0 ∨ ∃ b, p = .lanicy b)
    (ho : (s.spdm p).opened = true) (g k sig : Bytes) (base : Nat) : exec (.admitTenant p g k base sig) s =
      .next ((if s.admitStatus (s.spdm p).th g k base sig = 0
        then (s.installTenant k base).setSpdm p { s.spdm p with proven := true } else s).emit
          (.admission p (s.admitStatus (s.spdm p).th g k base sig))) := by
  obtain rfl | ⟨b, rfl⟩ := hp <;> simp [exec, execAdmitTenant, hr, ho]

theorem exec_getEnrol {p : SpdmPort} {t : Tenant} (ht : s.sec.tenant = some t) (hr : s.spdmReached p = true)
    (ho : (s.spdm p).opened = true) (hp : (s.spdm p).proven = true) (c : U64) : exec (.getEnrol p c) s =
      .next (s.emit (.spdm p true (ekPublic t.key c.toNat ++
        ecdsaSign (aliasScalar s.fw.combination) (ekPublic t.key c.toNat ++ leBytes 8 c.toNat ++ t.key ++ deviceDigest)))) := by
  simp only [exec, execGetEnrol, ht, hr, ho, hp, Bool.and_self, if_true]

theorem exec_pairSessionRenewal {b : Fin 256} {e : Bytes} {t : Nat × Bytes} (h : alookup s.sec.pairs b = some t)
    (htag : s.sameTenant b = true) (hdue : s.due t.1 (secTicks 3600) = true) : exec (.pairSessionRenewal ⟨b, e⟩) s =
      .next { s with sec := { s.sec with
        draws := s.sec.draws + 1
        pairs := aset s.sec.pairs b (s.clk, Config.derive "pair session secret" (ecdhX (scalarOf (s.draw 56).1) e)) } } := by
  simp only [exec, execPairSessionRenewal, h, htag, hdue, Bool.and_self, if_true, State.draw]

theorem exec_consentExpiry {t : Bytes} (h : s.sec.consent = some t) (hexp : field t 104 8 ≤ s.gtcNs) : exec .consentExpiry s =
    .next (({ s with sec := { s.sec with consent := none } } : State).note srcSec 0 0x0701 0
      [Config.eventCode "left force", field t 112 4] true) := by
  simp only [exec, execConsentExpiry, State.endConsent, h, if_pos hexp]

end

/-- Settles O45: the requests that SEC takes and how it judges them, then admission, enrolment, renewal and expiry. -/
theorem operatorKeysAndAdmission : Obligations.OperatorKeysAndAdmission := by
  refine ⟨fun s w hr hkey hq hb => congrArg _ (if_pos (State.mboxActs_pf0 hr hkey hq hb)),
    fun s w hr hkey hq hb => congrArg _ (if_pos (State.mboxActs_pf0 hr hkey hq hb)),
    fun s ok q b h => exec_secMboxDone h ok, fun s q b ok hb => if_pos hb, fun s b ok h => State.judgeRequest_claim_written h b ok,
    fun s q b => s.judgeRequest_unburnt q b,
    fun s p g k sig base hr hp ho => ⟨_, exec_admitTenant hr hp ho g k sig base, fun h => if_pos h, fun h => if_neg h⟩,
    fun s th g k sig base hsw ht => by simp [State.admitStatus, hsw, ht],
    fun s p c t ht hr ho hp => exec_getEnrol ht hr ho hp c,
    fun s b e t h htag hdue => ⟨_, _, exec_pairSessionRenewal h htag hdue, rfl, rfl⟩,
    fun s t h hexp => ⟨_, exec_consentExpiry h hexp, by rw [State.note_sec], State.note_top ..⟩⟩

end Sys2Proof.Machine

namespace Sys2Proof.Machine

/-! Device interfaces (R577 to R582): what the functions show of them, through a partition reset. -/

/-- The VFs that the board exposes, and each function's TDISP state. -/
def Hif.interfaces (x : Hif) : BitVec 16 × Vector Tdi 16 := (x.vfs, x.fns.map (·.tdi))

theorem foldl_interfaces {α : Type} (f : State → α → State) (h : ∀ s x, (f s x).hif.interfaces = s.hif.interfaces) (l : List α)
    (s : State) : (l.foldl f s).hif.interfaces = s.hif.interfaces :=
  foldl_keeps (·.hif.interfaces) f h l s

section
variable (s : State)

/-- An event changes a function's cause and its events alone. -/
@[simp] theorem State.event_interfaces (f c source : Nat) : (s.event f c source).hif.interfaces = s.hif.interfaces := by
  by_cases hf : f < 16
  · rw [State.event_eq _ _ _ _ hf]
    simp only [Hif.interfaces, Prod.mk.injEq, true_and]
    ext i hi
    by_cases h : f = i <;> simp [h]
  · simp [State.event, hf]

@[simp] theorem State.fix_interfaces (f q pos status detail source : Nat) :
    (s.fix f q pos status detail source).hif.interfaces = s.hif.interfaces := by
  unfold State.fix
  dsimp only
  split
  · rfl
  · split
    · split
      · exact State.event_interfaces ..
      · rfl
    · rfl

@[simp] theorem State.fixAll_interfaces (l : List (Nat × Nat × Nat)) (status detail source : Nat) :
    (s.fixAll l status detail source).hif.interfaces = s.hif.interfaces :=
  foldl_interfaces _ (fun _ _ => State.fix_interfaces ..) _ _

/-! Writes of board memory. -/

@[simp] theorem State.memWrite_interfaces (a : Nat) (bs : Bytes) (poison : Bool) :
    (s.memWrite a bs poison).hif.interfaces = s.hif.interfaces := by
  unfold State.memWrite
  dsimp only
  split
  · split <;> simp
  · rfl

@[simp] theorem State.undefine_interfaces (f addr n : Nat) : (s.undefine f addr n).hif.interfaces = s.hif.interfaces := by
  unfold State.undefine
  split
  · exact State.memWrite_interfaces ..
  · rfl

@[simp] theorem State.deliverTo_interfaces (part a source : Nat) (data : Bytes) (poison : Bool) :
    (s.deliverTo part a source data poison).hif.interfaces = s.hif.interfaces := by
  unfold State.deliverTo State.poisonRead
  dsimp only
  (repeat' split) <;> simp

@[simp] theorem State.mergeLine_interfaces (r : HomeReq) (poison : Bool) :
    (s.mergeLine r poison).hif.interfaces = s.hif.interfaces :=
  foldl_interfaces _ (fun s k => by dsimp only; split <;> simp) _ _

@[simp] theorem State.finishReq_interfaces (r : HomeReq) (was : Option DirEnt) (gone : List Nat) :
    (s.finishReq r was gone).hif.interfaces = s.hif.interfaces := by
  unfold State.finishReq
  dsimp only
  (repeat' split) <;> simp

@[simp] theorem State.beginReq_interfaces (r : HomeReq) : (s.beginReq r).hif.interfaces = s.hif.interfaces := by
  unfold State.beginReq
  dsimp only
  (repeat' split) <;> simp

@[simp] theorem State.startReq_interfaces (r : HomeReq) : (s.startReq r).hif.interfaces = s.hif.interfaces := by
  unfold State.startReq
  (repeat' split) <;> simp

@[simp] theorem State.putPart_interfaces (part a : Nat) (bs : Bytes) (poison : Bool) :
    (s.putPart part a bs poison).hif.interfaces = s.hif.interfaces := by
  unfold State.putPart
  dsimp only
  split <;> simp

@[simp] theorem State.put_interfaces (part a : Nat) (bs : Bytes) (poison : Bool) :
    (s.put part a bs poison).hif.interfaces = s.hif.interfaces := by
  unfold State.put
  split
  · simp
  · exact foldl_interfaces _ (fun _ _ => State.putPart_interfaces ..) _ _

/-! The stop of a route. -/

@[simp] theorem State.setRouteSt_interfaces (r : Nat) (st : RouteSt) : (s.setRouteSt r st).hif.interfaces = s.hif.interfaces := by
  unfold State.setRouteSt
  dsimp only
  split <;> simp

@[simp] theorem State.published_interfaces (t : Struct) (r typ addr len exposure : Nat) :
    (s.published t r typ addr len exposure).hif.interfaces = s.hif.interfaces := by
  unfold State.published State.noteStale
  dsimp only
  split <;> simp

@[simp] theorem State.frameDone_interfaces (r : Nat) (f : Frame) (status reason : Nat) :
    (s.frameDone r f status reason).hif.interfaces = s.hif.interfaces := by
  unfold State.frameDone
  dsimp only
  split <;> simp [foldl_interfaces]

@[simp] theorem State.checkDeadline_interfaces (r : Nat) (f : Frame) : (s.checkDeadline r f).hif.interfaces = s.hif.interfaces := by
  unfold State.checkDeadline
  dsimp only
  split <;> simp

@[simp] theorem State.retire_interfaces (r id : Nat) : (s.retire r id).hif.interfaces = s.hif.interfaces := by
  unfold State.retire
  split
  · rfl
  · dsimp only
    split <;> simp

@[simp] theorem State.stopApply_interfaces (r status detail : Nat) :
    (s.stopApply r status detail).hif.interfaces = s.hif.interfaces :=
  foldl_interfaces _ (fun s x => by simp) _ _

@[simp] theorem State.finishStop_interfaces (r : Nat) : (s.finishStop r).hif.interfaces = s.hif.interfaces := by
  simp [State.finishStop]

@[simp] theorem State.retireAborted_interfaces (r n : Nat) : (s.retireAborted r n).hif.interfaces = s.hif.interfaces := by
  induction n generalizing s with
  | zero => rfl
  | succ n ih =>
    unfold State.retireAborted
    split
    · split
      · rw [ih, State.retire_interfaces]
      · rfl
    · rfl

@[simp] theorem State.drainRoute_interfaces (r : Nat) : (s.drainRoute r).hif.interfaces = s.hif.interfaces := by
  unfold State.drainRoute
  dsimp only
  split <;> simp [foldl_interfaces]

@[simp] theorem State.forceStop_interfaces (r : Nat) : (s.forceStop r).hif.interfaces = s.hif.interfaces := by
  unfold State.forceStop
  dsimp only
  split
  · split <;> simp
  · rfl

/-! A partition reset (Table 4-13). -/

@[simp] theorem State.undefineCmds_interfaces (f : Nat) : (s.undefineCmds f).hif.interfaces = s.hif.interfaces :=
  foldl_interfaces _ (fun s x => foldl_interfaces _ (fun s c => by
    unfold State.undefineCmd
    (repeat' split) <;> simp) _ _) _ _

theorem Hif.interfaces_setFn (x : Hif) (f : Nat) (y : Fn) :
    ({ x with fns := x.fns.setIfInBounds f y } : Hif).interfaces = (x.interfaces.1, x.interfaces.2.setIfInBounds f y.tdi) := by
  simp only [Hif.interfaces, Prod.mk.injEq, true_and]
  ext i hi
  by_cases h : f = i <;> simp [h]

@[simp] theorem State.dropWork_interfaces (f : Nat) : (s.dropWork f).hif.interfaces = s.hif.interfaces :=
  s.undefineCmds_interfaces f

/-- The reset of a VF leaves the VFs shown and every other TDI; its own takes the state that the caller names (R578 to R581). -/
theorem State.partitionReset_interfaces (f : Nat) (tdi : Tdi) (cause : String) (hf : f ≠ 0) :
    (s.partitionReset f tdi cause).hif.interfaces = (s.hif.interfaces.1, s.hif.interfaces.2.setIfInBounds f tdi) := by
  unfold State.partitionReset
  split
  next hnone =>
    have hout : 16 ≤ f := by simpa using hnone
    simp [Vector.setIfInBounds_eq_of_size_le hout]
  next x hx =>
    rw [if_neg hf]
    split
    · rw [Hif.interfaces_setFn]
    · dsimp only
      rw [foldl_interfaces _ fun s r => by split <;> simp]
      have hwork : ((State.dropApplies (s.note srcMgt 0 0x0002 f [2, Config.eventCode cause, srcPart f]) (· = f)).dropWork f).hif.interfaces =
          s.hif.interfaces := by simp
      generalize (State.dropApplies (s.note srcMgt 0 0x0002 f [2, Config.eventCode cause, srcPart f]) (· = f)).dropWork f = t at hwork ⊢
      rw [← hwork, State.noteLevel_hif]
      exact Hif.interfaces_setFn ..

theorem State.partitionReset_ide (f : Nat) (tdi : Tdi) (cause : String) : (s.partitionReset f tdi cause).sec.ide = s.sec.ide := by
  unfold State.partitionReset
  split
  · rfl
  · split
    · rfl
    · split
      · rfl
      · rw [foldl_keeps (·.sec.ide) _ fun s r => by split <;> simp]
        simp [State.dropWork]

/-! A stream that leaves Secure (R580, R582). -/

/-- One function's part: a VF that the stream covers goes to ERROR. -/
def State.tdiError (l : List Nat) (s : State) (f : Nat) : State :=
  if f ≠ 0 ∧ l.contains f = true ∧ s.exposed f = true then s.partitionReset f .error "TDI ERROR" else s

theorem State.tdiError_vfs (l : List Nat) (f : Nat) : (s.tdiError l f).hif.vfs = s.hif.vfs := by
  unfold State.tdiError
  split
  next h => exact congrArg Prod.fst (s.partitionReset_interfaces f .error "TDI ERROR" h.1)
  next => rfl

theorem State.exposed_of_vfs {s t : State} (h : t.hif.vfs = s.hif.vfs) (f : Nat) : t.exposed f = s.exposed f := by
  simp only [State.exposed, h]

end

/-- A TDI in ERROR stays so, whatever other function the stream covers. -/
theorem State.tdiError_stays {s : State} (l : List Nat) {g : Nat} (hg : g < 16) (f : Nat) (h : s.hif.fns[g].tdi = .error) :
    (s.tdiError l f).hif.fns[g].tdi = .error := by
  unfold State.tdiError
  split
  next hf =>
    have hall := congrArg (fun x => x.2[g]) (s.partitionReset_interfaces f .error "TDI ERROR" hf.1)
    simp only [Hif.interfaces, Vector.getElem_map, Vector.getElem_setIfInBounds, h, ite_self] at hall
    exact hall
  next => exact h

theorem State.tdiError_same {s : State} {l : List Nat} {f : Nat} (hf : f < 16) (h0 : f ≠ 0) (hl : l.contains f = true)
    (he : s.exposed f = true) : (s.tdiError l f).hif.fns[f].tdi = .error := by
  have hall := congrArg (fun x => x.2[f]) (s.partitionReset_interfaces f .error "TDI ERROR" h0)
  simp only [Hif.interfaces, Vector.getElem_map, Vector.getElem_setIfInBounds_self] at hall
  rw [State.tdiError, if_pos ⟨h0, hl, he⟩]
  exact hall

/-- Among the functions taken in turn, each that is covered and exposed ends in ERROR. -/
theorem State.foldl_tdiError (l : List Nat) {g : Nat} (hg : g < 16) (h0 : g ≠ 0) (hl : l.contains g = true) (fs : List Nat) :
    ∀ s : State, s.hif.fns[g].tdi = .error ∨ (g ∈ fs ∧ s.exposed g = true) → (fs.foldl (State.tdiError l) s).hif.fns[g].tdi = .error := by
  induction fs with
  | nil => exact fun s h => h.resolve_right fun hmem => List.not_mem_nil hmem.1
  | cons f fs ih =>
    rintro s (h | ⟨hmem, he⟩)
    · exact ih _ (.inl (State.tdiError_stays l hg f h))
    · by_cases hf : g = f
      · subst hf
        exact ih _ (.inl (State.tdiError_same hg h0 hl he))
      · exact ih _ (.inr ⟨(List.mem_cons.1 hmem).resolve_left hf, (State.exposed_of_vfs (s.tdiError_vfs l f) g).trans he⟩)

section
variable {s : State}

theorem State.leaveSecure_eq {k : Fin 17} {l : List Nat} (h : s.sec.ide[k.val] = some l) : s.leaveSecure k =
    (List.range 16).foldl (State.tdiError l) { s with sec := { s.sec with ide := s.sec.ide.set k.val none } } := by
  unfold State.leaveSecure
  rw [h]
  rfl

theorem State.leaveSecure_ide {k : Fin 17} {l : List Nat} (h : s.sec.ide[k.val] = some l) : (s.leaveSecure k).sec.ide[k.val] = none := by
  rw [State.leaveSecure_eq h]
  have hfold := foldl_keeps (·.sec.ide) (State.tdiError l) (fun s f => by
    unfold State.tdiError
    split
    · exact s.partitionReset_ide ..
    · rfl) (List.range 16) { s with sec := { s.sec with ide := s.sec.ide.set k.val none } }
  simp only [hfold, Vector.getElem_set_self]

/-! The TDISP requests (R578 to R580) and IDE_KM. -/

/-- With every queue of the VF disabled a lock succeeds and draws its nonce. -/
theorem exec_lockInterfaceRequest_locks {f : Part} (h : s.tdi f = some .configUnlocked)
    (hq : ∀ q ∈ s.hif.queues, q.1 / 64 = f.val → q.2.st = .disabled ∧ q.2.enable = false) : exec (.lockInterfaceRequest f) s =
      .next (((s.draw 32).2.setTdi f .configLocked).emit (.tdisp f true (s.draw 32).1)) := by
  have hquiet : ((s.hif.queues.filter fun q => decide (q.1 / 64 = f.val)).all fun q => q.2.st = .disabled && !q.2.enable) = true := by
    refine List.all_eq_true.2 fun q hmem => ?_
    obtain ⟨hin, hmine⟩ := List.mem_filter.1 hmem
    obtain ⟨hst, hen⟩ := hq q hin (of_decide_eq_true hmine)
    simp [hst, hen]
  simp only [exec, execLockInterfaceRequest, if_pos (And.intro h hquiet)]

theorem exec_ideKm_open {k : Fin 17} (hr : s.top.ready = true) (ho : (s.spdm (.doe 0)).opened = true) (l : List Nat) (go : Bool) :
    exec (.ideKm k l go) s = .next ((if go then { s with sec := { s.sec with ide := s.sec.ide.set k.val (some l) } }
      else s.leaveSecure k).emit (.spdm (.doe 0) true [])) := by
  simp only [exec, execIdeKm, hr, ho, Bool.not_true, Bool.or_self, Bool.false_eq_true, if_false]

end

/-- Settles O47: the requests are answered by the TDI's state; a stream that leaves Secure resets the VFs it covers in turn, and no
reset hides another or takes it out of ERROR. -/
theorem deviceInterfacesAndStreams : Obligations.DeviceInterfacesAndStreams := by
  refine ⟨fun s f t h => ?always, fun s f h hq => ⟨_, _, exec_lockInterfaceRequest_locks h hq, rfl, rfl⟩,
    fun s f h => if_pos h, fun s f h hc => if_pos ⟨h, hc⟩, fun s f h => if_neg fun hlock => h hlock.1,
    fun s f h => if_neg fun hstart => h hstart.1, fun s k l hr ho => exec_ideKm_open hr ho l true,
    fun s k l hr ho => ⟨_, rfl, exec_ideKm_open hr ho l false⟩,
    fun s k l f h h0 hl he => ⟨_, rfl, State.leaveSecure_ide h, ?errors⟩⟩
  case always => simp only [exec, execGetTdispVersion, execGetTdispCapabilities, execGetDeviceInterfaceState, execStopInterfaceRequest,
    h, Option.isSome_some, if_true, and_self]
  case errors =>
    rw [State.leaveSecure_eq h]
    exact State.foldl_tdiError l f.isLt h0 hl _ _ (.inr ⟨List.mem_range.2 f.isLt, he⟩)

end Sys2Proof.Machine

namespace Sys2Proof.Machine

/-! MODEL_LOAD, REPORT, CONSENT and the gather of shares (R587 to R601). -/

theorem aset_length_le {α : Type} (l : List (Nat × α)) (k : Nat) (v : α) : (aset l k v).length ≤ l.length + 1 := by
  induction l with
  | nil => exact Nat.le_refl _
  | cons x t ih =>
    unfold aset
    split
    · exact Nat.le_refl _
    · split
      · exact Nat.le_succ _
      · simpa using ih

section
variable {s : State} {f : Part} {q : Fin 64} {c : Cmd} {b : Bytes}

/-- What becomes of a well-formed package at a board with a tenant (R593 to R597). -/
def State.loadPackage (s : State) (f q : Nat) (c : Cmd) (b : Bytes) (ep : Bool) (t : Tenant) : State :=
  if pkgSigned t.key b then
    match pkgEntryOf b (ekDigest t.key (pkgCompany b)) with
    | none => s.failLoad f q c.pos 0x50 0x03 c (pkgPayload b)
    | some i => match pkgUnwrap (ekScalar t.key (pkgCompany b)) b i with
      | none => s.failLoad f q c.pos 0x50 0x04 c (pkgPayload b)
      | some item => if pkgQuorum b then (s.setCmd f q c.pos fun c => { c with begun := true }).beginGather f q c b ep
          (ekScalar t.key (pkgCompany b)) i item else s.openPackage f q c b item ep
  else s.failLoad f q c.pos 0x50 0x02 c (pkgPayload b)

theorem exec_modelLoad_formed {t : Tenant} (hf : s.front f q 0x40 = some c) (hmin : 256 ≤ c.length) (hlen : b.length = c.length)
    (htotal : pkgTotal b = c.length) (hboard : c.addr1 / 2 ^ 40 = s.struct.boardId)
    (hpart : s.struct.inPart f (c.addr1 % 2 ^ 40) (pkgPayload b) = true) (hformed : pkgFormed b = true)
    (hecc : pkgQuorum b = true → s.top.eccOn = true) (ht : s.sec.tenant = some t) (ep : Bool) :
    exec (.modelLoad f q (.data b ep)) s = .next (s.loadPackage f q c b ep t) := by
  have hslice : slice b 0 c.length = b := hlen ▸ slice_length b
  have hsize : ¬(c.length < 256 ∨ pkgTotal b ≠ c.length) := by omega
  have hplace : ¬(c.addr1 / 2 ^ 40 ≠ s.struct.boardId ∨ s.struct.inPart f (c.addr1 % 2 ^ 40) (pkgPayload b) = false) := by
    rw [hboard, hpart]; simp
  have hquorum : (pkgQuorum b && !s.top.eccOn) = false := by
    cases hq : pkgQuorum b
    · rfl
    · rw [hecc hq]; rfl
  simp only [exec, execModelLoad, hf, hslice, if_neg hsize, if_neg hplace, hformed, hquorum, ht, Bool.not_true, Bool.false_eq_true,
    if_false, State.loadPackage]
  cases pkgSigned t.key b with
  | false => simp only [Bool.not_false, if_true, Bool.false_eq_true, if_false]
  | true =>
    simp only [Bool.not_true, Bool.false_eq_true, if_false, if_true]
    cases pkgEntryOf b (ekDigest t.key (pkgCompany b)) with
    | none => simp only
    | some i =>
      simp only
      cases pkgUnwrap (ekScalar t.key (pkgCompany b)) b i with
      | none => simp only
      | some item =>
        simp only
        split <;> rfl

/-- The report of a state does not depend on the queues (Table 13-7). -/
theorem State.report_underWay (s : State) (f q pos status detail source g : Nat) (nonce : Bytes) :
    (s.underWay f q pos status detail source).report g nonce = s.report g nonce := rfl

theorem exec_attReport_writes (hf : s.front f q 0x41 = some c) (hmin : 1488 ≤ c.length) (b : Bytes) :
    ∃ t, exec (.attReport f q (.data b false)) s = .next t ∧ t = { s with hif := t.hif, out := t.out } ∧
      t.out = s.out ++ [.hostWrite f c.addr1 (s.report f (slice b 0 32)) false] ++
        if 8192 ≤ c.length then [.hostWrite f (c.addr1 + 2048) (s.chain.take 6144) false] else [] := by
  simp only [exec, execAttReport, hf, if_neg (Nat.not_lt.2 hmin), Bool.false_eq_true, if_false]
  by_cases hchain : 8192 ≤ c.length
  · simp only [if_pos hchain]
    exact ⟨_, rfl, rfl, rfl⟩
  · simp only [if_neg hchain, List.append_nil]
    exact ⟨_, rfl, rfl, rfl⟩

theorem exec_consent_refused {r : Nat} (hf : s.front f q 0x42 = some c) (hlen : c.length = 224)
    (hr : s.consentReason (slice b 0 224) = some r) :
    exec (.consent f q (.data b false)) s = .next (s.fix f q c.pos 0x50 r srcSec) := by
  simp [exec, execConsent, hf, hlen, hr]

theorem exec_consent_accepted (hf : s.front f q 0x42 = some c) (hlen : c.length = 224)
    (hr : s.consentReason (slice b 0 224) = none) : exec (.consent f q (.data b false)) s =
      .next ((({ s with sec := { s.sec with consent := some (slice b 0 224) } } : State).note srcSec 0 0x0701 0
        [Config.eventCode "in force", field (slice b 0 224) 112 4] true).fix f q c.pos 0x00 0 srcSec) := by
  simp [exec, execConsent, hf, hlen, hr]

/-- A share that leaves a gather short of its number is kept (R598). -/
theorem exec_shareResp_kept {b : Fin 256} {i : Nat} {h : Bytes} {g : Gather} (hpair : (s.sec.pairs.any (·.1 = b.val)) = true)
    (hg : (s.sec.gathers.find? fun g => g.asked.contains b.val && decide (i < pkgMembers g.pkg) && decide (i ≠ g.own) &&
      !g.shares.any (·.1 = i)) = some g) (hshort : g.shares.length + 1 < pkgOthers g.pkg) :
    exec (.shareResp b i h true) s = .next { s with sec := { s.sec with
      gathers := s.sec.gathers.map fun x => if x = g then { g with shares := aset g.shares i h } else x } } := by
  have hlen := (aset_length_le g.shares i h).trans_lt hshort
  simp only [exec, execShareResp, hpair, hg, Bool.and_self, if_true, if_pos hlen]

/-- The state in which a gather that has run out of time fails its load (R597): it is dropped and the failure logged. -/
def State.gatherLost (s : State) (g : Gather) : State :=
  ({ s with sec := { s.sec with gathers := s.sec.gathers.erase g } } : State).note srcSec 0 0x0702 g.part
    [satN 255 (g.shares.length + 1), Config.eventCode "gather failed"]

theorem exec_quorumGatherTimeout_fails {g : Gather} (hg : (s.sec.gathers.find? fun g => s.due g.at_ (msTicks 500)) = some g)
    (hc : (s.queue g.part g.queue).cmds.find? (·.pos = g.pos) = some c) : exec .quorumGatherTimeout s =
      .next ((s.gatherLost g).failLoad g.part g.queue g.pos 0x51 (satN 255 (g.shares.length + 1)) c (pkgPayload g.pkg)) := by
  have hlost : ((s.gatherLost g).queue g.part g.queue).cmds.find? (·.pos = g.pos) = some c := hc
  unfold State.gatherLost at hlost ⊢
  simp only [exec, execQuorumGatherTimeout, hg, hlost]

end

/-- Settles O24: each clause is the lemma for its command. -/
theorem modelLoadsAndReports : Obligations.ModelLoadsAndReports := by
  refine ⟨fun s f q b ep c t hf hmin hlen htotal hboard hpart hformed hecc ht =>
      exec_modelLoad_formed hf hmin hlen htotal hboard hpart hformed hecc ht ep,
    fun s f q b c hf hmin => ?report, fun s f q b c hf hlen => ?consent,
    fun s b i h g hpair hg hshort => exec_shareResp_kept hpair hg hshort,
    fun s g c hg hc => ⟨s.gatherLost g, rfl, rfl, rfl, rfl, exec_quorumGatherTimeout_fails hg hc⟩⟩
  case report => simpa only [State.report_underWay] using exec_attReport_writes hf hmin b
  case consent =>
    cases hr : s.consentReason (slice b 0 224) with
    | some r => exact ⟨_, exec_consent_refused hf hlen hr, State.fix_mem .., rfl⟩
    | none => exact ⟨_, exec_consent_accepted hf hlen hr, State.fix_mem .., State.fix_sec ..⟩

end Sys2Proof.Machine

namespace Sys2Proof.Machine

/-! SHARE_REQ and the presence check (R597, R599). -/

section
variable {s : State}

/-- A share request passes every check but that of the board's own share (Table 13-10 step 2). -/
def State.asksRightly (s : State) (b : Fin 256) (hdr nonce sig : Bytes) (x : Tenant) : Bool :=
  s.sec.switch.isNone && s.sameTenant b && s.sec.pairs.any (·.1 = b.val) && pkgQuorum hdr && pkgSigned x.key hdr &&
    (List.range (pkgMembers hdr)).any fun i => decide (slice (pkgEntry hdr i) 0 48 ≠ ekDigest x.key (pkgCompany hdr)) &&
      ecdsaVerifies (slice (pkgEntry hdr i) 0 48) (nonce ++ pairTranscript b s.struct.boardId) sig

/-- The entry of this board's share, when the request deserves an answer. -/
def State.shareEntry (s : State) (b : Fin 256) (hdr nonce sig : Bytes) (x : Tenant) : Option Nat :=
  if s.asksRightly b hdr nonce sig x then pkgEntryOf hdr (ekDigest x.key (pkgCompany hdr)) else none

/-- The share goes out under the pair key, and nothing else does. -/
theorem exec_shareReq {x : Tenant} (hx : s.sec.tenant = some x) (b : Fin 256) (hdr nonce sig : Bytes) : ∃ t,
    exec (.shareReq b hdr nonce sig) s = .next t ∧ t = { s with sec := { s.sec with draws := t.sec.draws }, out := t.out } ∧
    t.out = s.out ++ match s.shareEntry b hdr nonce sig x with
      | none => []
      | some j => match pkgUnwrap (ekScalar x.key (pkgCompany hdr)) hdr j with
        | none => []
        | some share => [.mgmt b 0x31 (leBytes 2 j ++ (s.draw 12).1 ++ gcmSeal (s.pairKey b) (s.draw 12).1 (leBytes 2 j) share)] := by
  cases hj : s.shareEntry b hdr nonce sig x with
  | none =>
    refine ⟨s, ?_, rfl, (List.append_nil _).symm⟩
    unfold State.shareEntry State.asksRightly at hj
    simp only [exec, execShareReq, hx, List.isSome_find?, hj]
  | some j =>
    unfold State.shareEntry State.asksRightly at hj
    cases hu : pkgUnwrap (ekScalar x.key (pkgCompany hdr)) hdr j with
    | none =>
      refine ⟨s, ?_, rfl, by simp only [hu, List.append_nil]⟩
      simp only [exec, execShareReq, hx, List.isSome_find?, hj, hu]
    | some share =>
      refine ⟨(s.draw 12).2.emit (.mgmt b 0x31 (leBytes 2 j ++ (s.draw 12).1 ++ gcmSeal (s.pairKey b) (s.draw 12).1 (leBytes 2 j) share)),
        ?_, rfl, by simp only [hu]; rfl⟩
      simp only [exec, execShareReq, hx, List.isSome_find?, hj, hu]
      rfl

theorem State.mapBlob_same {i : Nat} {b : Blob} (hb : s.sec.blobs[i]? = some b) (g : Blob → Blob) :
    (s.mapBlob i g).sec.blobs[i]? = some (g b) := by
  simp [State.mapBlob, List.getElem?_mapIdx, hb]

/-- A challenge is sent when it is due and no grace has run out. -/
theorem exec_presenceCheck_asks {i : Nat} {b : Blob} (hb : s.sec.blobs[i]? = some b) (hk : 1 < b.k) (hg : b.graceAt = none)
    (hdue : s.due b.challengeAt (secTicks 10) = true) : exec (.presenceCheck i) s =
      .next ((({ s with sec := { s.sec with draws := s.sec.draws + 1, present := satN 255 (b.answers.length + 1) } } : State).mapBlob i
        fun b => { b with answers := [], graceAt := some (b.graceAt.getD s.clk), challengeAt := s.clk }).emitAll
          (s.companyBoards.map fun d => .mgmt d 0x32 (s.draw 32).1)) := by
  simp only [exec, execPresenceCheck, hb, hg, if_neg (Nat.not_le.2 hk), hdue, Bool.false_eq_true, if_false, if_true]
  rfl

theorem exec_presenceCheck_poisons {i : Nat} {b : Blob} {g : Nat} (hb : s.sec.blobs[i]? = some b) (hk : 1 < b.k)
    (hg : b.graceAt = some g) (hdue : s.due g (secTicks b.grace) = true) : exec (.presenceCheck i) s = .next (s.poisonBlob i b) := by
  simp only [exec, execPresenceCheck, hb, hg, if_neg (Nat.not_le.2 hk), hdue, if_true]

/-- Bytes written back as they were read leave every byte. -/
theorem State.memWrite_read_get (s : State) (a n : Nat) (p : Bool) (i : Nat) :
    (s.memWrite a (s.mem.read a n) p).mem.get i = s.mem.get i := by
  rw [State.memWrite_get, Mem.read_length]
  split
  next h =>
    have hi : i - a < (s.mem.read a n).length := by rw [Mem.read_length]; omega
    rw [List.getElem?_eq_getElem hi, Option.getD_some, Mem.read_getElem, Nat.add_sub_cancel' h.1]
  next => rfl

/-- A poisoned write poisons each byte of its range. -/
theorem State.memWrite_poisons {a x : Nat} {bs : Bytes} (hecc : s.top.eccOn = true) (hlo : a ≤ x) (hhi : x < a + bs.length) :
    (s.memWrite a bs true).mem.poisoned x 1 = true := by
  have hsector : x / 64 ∈ sectorsOf a bs.length := by
    obtain ⟨i, rfl⟩ := Nat.exists_eq_add_of_le hlo
    exact sector_mem (by omega)
  rw [Mem.poisoned, State.memWrite_poison _ _ _ _ hecc]
  exact List.any_eq_true.2 ⟨x / 64, sector_mem (i := 0) Nat.one_pos, contains_poisonAfter_true _ hsector⟩

/-- With no copy on another board, the blob's range is written back poisoned. -/
theorem State.poisonBlob_mem (i : Nat) (b : Blob) (hd : s.fab.dir = []) (ht : s.fab.txns = []) : (s.poisonBlob i b).mem =
    (s.memWrite (b.base % 2 ^ 40) (s.mem.read (b.base % 2 ^ 40) b.len) true).mem := by
  simp [State.poisonBlob, State.put_plain _ _ _ _ _ hd ht]

theorem State.poisonBlob_blobs (i : Nat) (b : Blob) (hd : s.fab.dir = []) (ht : s.fab.txns = []) :
    (s.poisonBlob i b).sec.blobs = s.sec.blobs.eraseIdx i := by
  simp [State.poisonBlob, State.put_plain _ _ _ _ _ hd ht]

theorem exec_presenceChallenge_answers {x : Tenant} {b : Fin 256} (hx : s.sec.tenant = some x) (htag : s.sameTenant b = true)
    (hsw : s.sec.switch = none) (nonce : Bytes) : exec (.presenceChallenge b nonce) s =
      .next (s.emit (.mgmt b (Config.eventCode "PRESENCE_RESPONSE") (ecdsaSign (ekScalar x.key (Config.challengeCompany nonce)) nonce))) := by
  simp only [exec, execPresenceChallenge, hx, htag, hsw, Option.isNone_none, Bool.and_self, if_true]

theorem exec_presenceResponse_counts {b : Fin 256} (htag : s.sameTenant b = true) (hother : b.val ≠ s.struct.boardId) (i : Nat) :
    exec (.presenceResponse b i true) s = .next (s.mapBlob i fun x => { x with
      answers := aset x.answers b s.clk
      graceAt := if x.k ≤ (aset x.answers b.val s.clk).length + 1 then none else x.graceAt }) := by
  simp only [exec, execPresenceResponse, htag, hother, ne_eq, not_false_eq_true, decide_true, Bool.and_self, if_true]

end

/-- Settles O25: a share request by its checks, a presence check by whether the grace has run out. -/
theorem quorumAndPresence : Obligations.QuorumAndPresence := by
  refine ⟨fun s b hdr nonce sig x hx => exec_shareReq hx b hdr nonce sig,
    fun s i b hb hk hg hdue => ⟨_, exec_presenceCheck_asks hb hk hg hdue, rfl, rfl, ?asks, _, rfl⟩,
    fun s i b g hb hk hg hdue hd ht => ⟨_, exec_presenceCheck_poisons hb hk hg hdue, State.poisonBlob_blobs i b hd ht, ?poisons, ?stays⟩,
    fun s b nonce x hx htag hsw => ⟨_, exec_presenceChallenge_answers hx htag hsw nonce⟩,
    fun s b i x htag hother hb => ⟨_, exec_presenceResponse_counts htag hother i, rfl, State.mapBlob_same hb _⟩⟩
  case asks => exact (State.mapBlob_same hb _).trans (by rw [hg]; rfl)
  case poisons =>
    intro hecc a hlo hhi
    rw [State.poisonBlob_mem i b hd ht]
    exact State.memWrite_poisons hecc hlo (by rwa [Mem.read_length])
  case stays =>
    intro a
    rw [State.poisonBlob_mem i b hd ht, State.memWrite_read_get]

end Sys2Proof.Machine

namespace Sys2Proof.Machine

/-! The safety monitor (R612, R613, R619 to R630, R645 to R648). -/

section
variable {s : State}

theorem State.setSaf_saf (s : State) (st : SafSt) : (s.setSaf st).saf = { s.saf with st := st } := by
  unfold State.setSaf
  split
  next h => rw [← h]
  next => rw [State.eventAll_saf]

/-- What the entry to the safe state makes of SAF (R619 to R622, Table 14-4 step 5): `hw` in hardware, `off` under POWER_OFF. -/
def Saf.entered (x : Saf) (cause gtc source clk : Nat) (hw off : Bool) : Saf :=
  { x with
    st := if off then .escalating else .markInvalid
    cause := cause, causeGtc := gtc, causeSrc := source, entryAt := clk, okToggling := false
    dead := x.dead || hw, safeOff := x.safeOff || (hw && off), aliveEvent := x.aliveEvent + 1 }

theorem Saf.entered_st (x : Saf) (cause gtc source clk : Nat) (hw off : Bool) :
    (x.entered cause gtc source clk hw off).st = if off then .escalating else .markInvalid := rfl

theorem State.enterSafe_enters (h : s.inSafeState = false) (cause gtc source : Nat) (hw : Bool) :
    (s.enterSafe cause gtc source hw).saf = s.saf.entered cause gtc source s.clk hw s.powerOffChosen := by
  unfold State.enterSafe
  rw [h, if_neg Bool.false_ne_true]
  dsimp only
  cases s.powerOffChosen <;> cases hw <;> (repeat' split) <;> simp_all [State.setSaf_saf, Saf.entered]

theorem State.inSafeState_of_entered {t : State} {x : Saf} {cause gtc source clk : Nat} {hw off : Bool}
    (h : t.saf.st = (x.entered cause gtc source clk hw off).st) : t.inSafeState = true := by
  unfold State.inSafeState
  rw [h]
  cases off <;> rfl

/-- In a safe state a later cause is logged alone (R622). -/
theorem State.enterSafe_later (h : s.inSafeState = true) (cause gtc source : Nat) (hw : Bool) :
    s.enterSafe cause gtc source hw = s.note srcSaf 6 0x0600 0 [cause, s.saf.st.code] := by
  rw [State.enterSafe, h, if_pos rfl]

theorem State.foldl_enterSafe_later (l : List SafEvent) : ∀ s : State, s.inSafeState = true →
    (l.foldl (fun s e => s.enterSafe e.cause e.gtc e.source false) s).saf = s.saf := by
  induction l with
  | nil => exact fun _ _ => rfl
  | cons e t ih =>
    intro s h
    rw [List.foldl_cons, State.enterSafe_later h]
    exact ih (s.note srcSaf 6 0x0600 0 [e.cause, s.saf.st.code]) h

/-- A monitor cycle begins: the watchdog and the SAFE_OK generator are serviced, and the latched events are taken. -/
def State.cycleStarted (s : State) : State := { s with saf := { s.saf with events := [], watchAt := s.clk, okAt := s.clk } }

/-- A monitor cycle ends: SAFE_OK toggles in RUNNING alone (R625, R626). -/
def State.cycleEnded (s : State) : State :=
  { s with saf := { s.saf with okToggling := decide (s.saf.st = .running) && s.struct.outEn 0 } }

theorem State.cycleEnded_saf (h : s.saf.st ≠ .running) : s.cycleEnded.saf = { s.saf with okToggling := false } := by
  rw [State.cycleEnded, decide_eq_false h, Bool.false_and]

theorem exec_safMonitorCycle (h : s.safRuns = true) (hdue : s.due s.saf.watchAt (msTicks 1) = true) : exec .safMonitorCycle s =
    .next ((s.saf.events.mergeSort SafEvent.before).foldl (fun s e => s.enterSafe e.cause e.gtc e.source false)
      s.cycleStarted).cycleEnded := by
  have hacts : (s.safRuns && s.due s.saf.watchAt (msTicks 1)) = true := by rw [h, hdue]; rfl
  exact if_pos hacts

theorem exec_safMonitorCycle_quiet (h : s.safRuns = true) (hdue : s.due s.saf.watchAt (msTicks 1) = true) (hes : s.saf.events = []) :
    exec .safMonitorCycle s = .next { s with saf := { s.saf with
      watchAt := s.clk, okAt := s.clk, okToggling := decide (s.saf.st = .running) && s.struct.outEn 0 } } := by
  rw [exec_safMonitorCycle h hdue]
  simp only [hes, List.mergeSort_nil, List.foldl_nil, State.cycleStarted, State.cycleEnded]
  rfl

/-- The first of the latched events enters the safe state, the others are logged, and the cycle leaves SAFE_OK low. -/
theorem exec_safMonitorCycle_enters {e : SafEvent} {es : List SafEvent} (h : s.safRuns = true)
    (hdue : s.due s.saf.watchAt (msTicks 1) = true) (hsafe : s.inSafeState = false)
    (hes : s.saf.events.mergeSort SafEvent.before = e :: es) : ∃ u : State, exec .safMonitorCycle s = .next u ∧
      u.saf = s.cycleStarted.saf.entered e.cause e.gtc e.source s.clk false s.powerOffChosen := by
  have hfirst := State.enterSafe_enters (s := s.cycleStarted) hsafe e.cause e.gtc e.source false
  have hall := (State.foldl_enterSafe_later es _ (State.inSafeState_of_entered (congrArg Saf.st hfirst))).trans hfirst
  refine ⟨_, exec_safMonitorCycle h hdue, ?_⟩
  have hst : (s.cycleStarted.saf.entered e.cause e.gtc e.source s.cycleStarted.clk false s.cycleStarted.powerOffChosen).st ≠ .running :=
    ne_of_eq_of_ne (Saf.entered_st ..) (by split <;> exact SafSt.noConfusion)
  rw [hes, List.foldl_cons, State.cycleEnded_saf (hall ▸ hst), hall]
  rfl

/-- A mismatch of the SAF cores and an unserviced watchdog enter the safe state in hardware, and the firmware runs no more. -/
theorem State.enterSafe_hardware (h : s.inSafeState = false) (cause : Nat) :
    (({ s with saf := { s.saf with dead := true } } : State).enterSafe cause s.gtcNs srcSaf true).saf =
      Saf.entered { s.saf with dead := true } cause s.gtcNs srcSaf s.clk true s.powerOffChosen :=
  State.enterSafe_enters (s := { s with saf := { s.saf with dead := true } }) h cause s.gtcNs srcSaf true

theorem exec_lockstepMismatch (h : s.safRuns = true) (harm : s.top.armed = true) : exec .lockstepMismatch s =
    .next (({ s with saf := { s.saf with dead := true } } : State).enterSafe 0x07 s.gtcNs srcSaf true) := by
  simp only [exec, execLockstepMismatch, h, harm, Bool.and_self, if_true]

theorem exec_safWatchdogExpiry (h : s.safRuns = true) (harm : s.top.armed = true) (hdue : s.due s.saf.watchAt (msTicks 5) = true) :
    exec .safWatchdogExpiry s =
      .next (({ s with saf := { s.saf with dead := true } } : State).enterSafe 0x08 s.gtcNs srcSaf true) := by
  simp only [exec, execSafWatchdogExpiry, h, harm, hdue, Bool.and_self, if_true]

/-- SAFE_OFF_N stays asserted, or is now (R627). -/
theorem exec_escalationTimeout (hst : s.saf.st = .escalating) (hdue : s.due s.saf.entryAt (msTicks 40) = true) : ∃ u : State,
    exec .escalationTimeout s = .next u ∧ u.saf = { s.saf with st := .powerOff, safeOff := true } := by
  simp only [exec, execEscalationTimeout, hst, hdue, and_self, if_true]
  refine ⟨_, rfl, ?_⟩
  rw [State.setSaf_saf]
  cases hoff : s.saf.safeOff with
  | true => simp [hoff]
  | false => simp

theorem exec_safeOkServiceTimeout (hok : s.saf.okToggling = true) (hdue : s.due s.saf.okAt (msTicks 1) = true) :
    exec .safeOkServiceTimeout s = .next { s with saf := { s.saf with okToggling := false } } := by
  simp only [exec, execSafeOkServiceTimeout, hok, hdue, Bool.and_self, if_true]

theorem exec_canHeartbeat (h : s.safRuns = true) (hcore : s.struct.safetyCore.isSome = true)
    (hdue : s.due s.saf.beatAt (msTicks (s.struct.safetyField 8 2)) = true) : exec .canHeartbeat s =
      .next (({ s with saf := { s.saf with aliveBeat := s.saf.aliveBeat + 1, beatAt := s.clk } } : State).sendCan
        (s.canBase + 1) 0x02 (s.saf.aliveBeat + 1)) := by
  simp only [exec, execCanHeartbeat, h, hcore, hdue, Bool.and_self, if_true]
  rfl

theorem exec_sinLow {n : Fin 4} (h : s.saf.sin.get n = true) : exec (.sinLow n) s = .next { s with saf := { s.saf with
    sin := s.saf.sin.set n false, sinAt := s.saf.sinAt.set n (some (s.clk, s.gtcNs)) } } := by
  simp only [exec, execSinLow, h, if_true]

theorem exec_sinConfirmExpiry {n : Fin 4} {c g : Nat} (hat : s.saf.sinAt.get n = some (c, g)) (h : s.safRuns = true)
    (harm : s.top.armed = true) (hen : bit (s.struct.safetyField 6 1) n = true) (hdue : s.due c (msTicks 2) = true) :
    exec (.sinConfirmExpiry n) s = .next { s with saf := { s.saf with
      sinAt := s.saf.sinAt.set n none, events := s.saf.events ++ [{ cause := 0x05, gtc := g, source := srcSaf }] } } := by
  simp only [exec, execSinConfirmExpiry, hat, h, harm, hen, hdue, Bool.and_self, if_true]

/-! Thermal samples (Table 14-8). -/

theorem State.dropMain_mainGood (s : State) (vin : Bool) : (s.dropMain vin).pwr.mainGood = false := rfl

theorem State.latchCause_thermal (s : State) (cause source : Nat) : (s.latchCause cause source).saf.thermal = s.saf.thermal := by
  unfold State.latchCause
  dsimp only
  split <;> rfl

section
variable {t : Int} {p : Nat}

theorem exec_thermalSample_trips (ha : s.pwr.auxGood = true) (hst : s.saf.thermal ≠ .trip) (ht : 125 ≤ t) : ∃ u : State,
    exec (.thermalSample t p) s = .next u ∧ u.saf.thermal = .trip ∧ u.pwr.mainGood = false := by
  simp only [exec, execThermalSample, ha, Bool.not_true, Bool.false_eq_true, if_false, if_neg hst, if_pos ht]
  exact ⟨_, rfl, by rw [State.dropMain_saf], State.dropMain_mainGood ..⟩

theorem exec_thermalSample_critical (ha : s.pwr.auxGood = true) (hst : s.saf.thermal ≠ .trip) (hlo : 115 ≤ t) (hhi : t < 125) :
    ∃ u : State, exec (.thermalSample t p) s = .next u ∧ u.saf.thermal = .critical := by
  simp only [exec, execThermalSample, ha, Bool.not_true, Bool.false_eq_true, if_false, if_neg hst, if_neg (Int.not_le.2 hhi), if_pos hlo]
  refine ⟨_, rfl, ?_⟩
  split
  · exact State.latchCause_thermal ..
  · rfl

theorem exec_thermalSample_throttles (ha : s.pwr.auxGood = true) (hst : s.saf.thermal = .normal ∨ s.saf.thermal = .throttle)
    (ht : t < 115) (hlimit : 105 ≤ t ∨ s.top.profile.limit < p) : exec (.thermalSample t p) s =
      .next { s with saf := { s.saf with temp := t, power := p, thermal := .throttle, coolAt := s.clk } } := by
  have htrip : s.saf.thermal ≠ .trip := by rcases hst with h | h <;> simp [h]
  have hcrit : s.saf.thermal ≠ .critical := by rcases hst with h | h <;> simp [h]
  have h125 : ¬125 ≤ t := by omega
  simp only [exec, execThermalSample, ha, Bool.not_true, Bool.false_eq_true, if_false, if_neg htrip, if_neg hcrit, if_neg h125,
    if_neg (Int.not_le.2 ht), if_pos hlimit]

theorem exec_thermalSample_cools (ha : s.pwr.auxGood = true) (hst : s.saf.thermal = .throttle) (ht : t ≤ 100)
    (hp : p < s.top.profile.limit) (hdue : s.due s.saf.coolAt (msTicks 100) = true) : exec (.thermalSample t p) s =
      .next { s with saf := { s.saf with temp := t, power := p, thermal := .normal } } := by
  have h125 : ¬125 ≤ t := by omega
  have h115 : ¬115 ≤ t := by omega
  have hlimit : ¬(105 ≤ t ∨ s.top.profile.limit < p) := by omega
  have hdue' : ({ s with saf := { s.saf with thermal := .throttle, temp := t, power := p } } : State).due s.saf.coolAt (msTicks 100) =
    true := hdue
  simp only [exec, execThermalSample, ha, hst, ht, hp, Bool.not_true, Bool.false_eq_true, reduceCtorEq, if_false, if_neg h125, if_neg h115,
    if_neg hlimit, and_self, if_true]
  rw [if_pos hdue']

end

theorem exec_throttleStep (hdue : s.due s.saf.throttleAt (msTicks 10) = true) : exec .throttleStep s = .next { s with saf := { s.saf with
    withheld := if s.saf.thermal = .throttle ∨ s.saf.thermal = .critical then min 15 (s.saf.withheld + 1) else s.saf.withheld - 1
    throttleAt := s.clk } } := by
  simp only [exec, execThrottleStep, hdue, if_true, Bool.or_eq_true, decide_eq_true_eq]

theorem exec_clockMonitorFault (ha : s.pwr.auxGood = true) (d : Fin 6) : exec (.clockMonitorFault d) s =
    .next (({ s with saf := { s.saf with badClocks := nset s.saf.badClocks d } } : State).latchCause 0x0A srcSaf) := by
  simp only [exec, execClockMonitorFault, ha, if_true]

theorem exec_voltageMonitorFault (ha : s.pwr.auxGood = true) (r : Fin 12) : exec (.voltageMonitorFault r) s =
    .next (({ s with saf := { s.saf with badRails := nset s.saf.badRails r } } : State).latchCause 0x0B srcSaf) := by
  simp only [exec, execVoltageMonitorFault, ha, if_true]

/-- A cause that only an armed board latches (Table 14-3). -/
theorem State.latchCause_saf (s : State) {cause : Nat} (source : Nat) (h : cause ≠ 0x09) : (s.latchCause cause source).saf =
    { s.saf with events := s.saf.events ++ if s.top.armed then [{ cause := cause, gtc := s.gtcNs, source := source }] else [] } := by
  unfold State.latchCause
  simp only [h, decide_false, Bool.false_and, Bool.or_false]
  split <;> simp

end

/-- Settles O48: the entries to the safe state by what an entry makes of SAF, each other clause by the lemma for its command. -/
theorem safetyMonitorActs : Obligations.SafetyMonitorActs := by
  refine ⟨fun s h hdue hes => exec_safMonitorCycle_quiet h hdue hes, fun s e es h hdue hsafe hes => ?cycle,
    fun s h harm hsafe => ⟨_, exec_lockstepMismatch h harm, ?mismatch⟩,
    fun s h harm hdue hsafe => ⟨_, exec_safWatchdogExpiry h harm hdue, ?watchdog⟩, fun s hst hdue => ?escalates,
    fun s hok hdue => exec_safeOkServiceTimeout hok hdue, fun s h hcore hdue => exec_canHeartbeat h hcore hdue,
    fun s n h => exec_sinLow h, fun s n => rfl,
    fun s n c g hat h harm hen hdue => exec_sinConfirmExpiry hat h harm hen hdue,
    fun s t p ha hst ht => exec_thermalSample_trips ha hst ht, fun s t p ha hst hlo hhi => exec_thermalSample_critical ha hst hlo hhi,
    fun s t p ha hst ht hlimit => ⟨_, exec_thermalSample_throttles ha hst ht hlimit, rfl, rfl⟩,
    fun s t p ha hst ht hp hdue => ⟨_, exec_thermalSample_cools ha hst ht hp hdue, rfl⟩,
    fun s hdue => exec_throttleStep hdue, fun s d ha harm => ⟨_, exec_clockMonitorFault ha d, ?clock⟩,
    fun s r ha harm => ⟨_, exec_voltageMonitorFault ha r, ?rail⟩⟩
  case cycle =>
    obtain ⟨u, hexec, hsaf⟩ := exec_safMonitorCycle_enters h hdue hsafe hes
    exact ⟨u, hexec, congrArg Saf.cause hsaf, congrArg Saf.causeGtc hsaf, congrArg Saf.causeSrc hsaf,
      State.inSafeState_of_entered (congrArg Saf.st hsaf), congrArg Saf.events hsaf, congrArg Saf.okToggling hsaf,
      congrArg Saf.entryAt hsaf, congrArg Saf.watchAt hsaf⟩
  case mismatch =>
    have hsaf := State.enterSafe_hardware hsafe 0x07
    exact ⟨congrArg Saf.cause hsaf, congrArg Saf.dead hsaf, State.inSafeState_of_entered (congrArg Saf.st hsaf),
      congrArg Saf.causeGtc hsaf⟩
  case watchdog =>
    have hsaf := State.enterSafe_hardware hsafe 0x08
    exact ⟨congrArg Saf.cause hsaf, congrArg Saf.dead hsaf, State.inSafeState_of_entered (congrArg Saf.st hsaf),
      congrArg Saf.causeGtc hsaf⟩
  case escalates =>
    obtain ⟨u, hexec, hsaf⟩ := exec_escalationTimeout hst hdue
    exact ⟨u, hexec, congrArg Saf.st hsaf, congrArg Saf.safeOff hsaf, by rw [hsaf]⟩
  case clock =>
    rw [State.latchCause_saf _ _ (by decide)]
    exact ⟨mem_nset.2 (.inl rfl), by simp only [harm, if_true]; rfl⟩
  case rail =>
    rw [State.latchCause_saf _ _ (by decide)]
    exact ⟨mem_nset.2 (.inl rfl), by simp only [harm, if_true]; rfl⟩

end Sys2Proof.Machine

namespace Sys2Proof.Machine

/-! Self-tests, the stale watch and the checkpoint pair (R639 to R644, R649 to R654). -/

section
variable {s : State}

/-! The tests of the checkers (R641 to R644). -/

section
variable {k n : Nat}

/-- A test that is not held back runs: it passes, fails for the first time, or fails again. -/
theorem exec_selftestTest (h : s.safRuns = true) (hk : (k, n) ∈ checkers) (hnew : (k, n) ∉ s.saf.tested)
    (hslot : s.slotOpenNow = false) (hnode : k = 0x01 → s.safetyNodeOn n = false) (pass : Bool) :
    exec (.selftestTest k n pass) s = .next (
      let others := s.saf.failed.filter (·.1 ≠ (k, n))
      let done : State := { s with saf := { s.saf with tested := s.saf.tested ++ [(k, n)], failed := others } }
      if pass then done
      else match s.saf.failed.find? (·.1 = (k, n)) with
        | some x => done.checkerFails (k, n) x.2
        | none => { s with saf := { s.saf with failed := s.saf.failed ++ [((k, n), s.gtcNs)], stFail := (k, n) } }) := by
  have hcore : (decide (k = 0x01) && s.safetyNodeOn n) = false := by
    by_cases h1 : k = 0x01
    · rw [hnode h1, Bool.and_false]
    · rw [decide_eq_false h1, Bool.false_and]
  have hold : s.saf.tested.contains (k, n) = false := by simpa using hnew
  have hruns : (s.safRuns && checkers.contains (k, n) && !s.saf.tested.contains (k, n) &&
      !(s.slotOpenNow || (decide (k = 0x01) && s.safetyNodeOn n))) = true := by
    simp only [h, hslot, hcore, List.contains_iff_mem.2 hk, hold]
    rfl
  simp only [exec, execSelftestTest, if_pos hruns]
  cases pass with
  | true => rfl
  | false => cases s.saf.failed.find? (·.1 = (k, n)) <;> rfl

end

/-- A rotation that has tested every checker is counted and begins anew; one that has passed ends ARMING (R614, R625). -/
theorem exec_selftestRotationEnd_complete (h : s.safRuns = true) (hall : ∀ c ∈ checkers, c ∈ s.saf.tested) : ∃ u : State,
    exec .selftestRotationEnd s = .next u ∧ u.saf.rotCount = satN 0xFFFFFFFF (s.saf.rotCount + 1) ∧ u.saf.tested = [] ∧
      u.saf.missed = [] ∧ u.saf.rotAt = s.clk ∧
      u.saf.st = if s.saf.rotOk = true ∧ s.saf.st = .arming then .running else s.saf.st := by
  have hmissing : (checkers.filter fun c => !s.saf.tested.contains c) = [] :=
    List.filter_eq_nil_iff.2 fun c hc => by simp [hall c hc]
  simp only [exec, execSelftestRotationEnd, h, hmissing, List.isEmpty_nil, Bool.true_or, Bool.and_true, if_true, List.filter_nil,
    List.foldl_nil]
  split
  · exact ⟨_, rfl, by simp [State.setSaf_saf]⟩
  · exact ⟨_, rfl, rfl, rfl, rfl, rfl, rfl⟩

/-! The stale watch (R639, R640). -/

/-- The firmware takes a FRAME_DONE from the inbox: the route's age and last one, and the gap timer that a valid one restarts. -/
def State.doneTaken (s : State) (r : Fin 16) (v o : Bool) (a : Nat) : State :=
  let restart := v && ((s.saf.gap.get r).isSome || (s.route r).st = .running || (s.route r).st = .stopping) && (s.struct.stale r).isSome
  { s with saf := { s.saf with
    inbox := s.saf.inbox.erase (r.val, v, a, o)
    age := s.saf.age.set r (satN 0xFFFFFFFF (a / 1000))
    last := s.saf.last.set r (some (v, s.clk))
    gap := if restart then s.saf.gap.set r (some s.clk) else s.saf.gap
    gapClass := if restart then setBit s.saf.gapClass r (s.struct.safetyClass r || s.saf.gapClass.getLsbD r) else s.saf.gapClass } }

theorem exec_staleWatchReceive {r : Fin 16} {v o : Bool} {a : Nat} (h : s.safRuns = true)
    (hin : s.saf.inbox.find? (fun x => x.1 = r.val) = some (r.val, v, a, o)) : exec (.staleWatchReceive r) s =
      .next (if o && s.struct.safetyClass r then (s.doneTaken r v o a).latchCause 0x02 (srcRoute r) else s.doneTaken r v o a) := by
  simp only [exec, execStaleWatchReceive, hin, h, if_true]
  rfl

/-- An old capture of a safety-class route is latched as a cause (R639); the rest of SAF is as the taking leaves it. -/
theorem State.doneTaken_saf (s : State) (r : Fin 16) (v o : Bool) (a : Nat) :
    (if o && s.struct.safetyClass r then (s.doneTaken r v o a).latchCause 0x02 (srcRoute r) else s.doneTaken r v o a).saf =
      { (s.doneTaken r v o a).saf with events := s.saf.events ++
        (if o && s.struct.safetyClass r && s.top.armed then [{ cause := 0x02, gtc := s.gtcNs, source := srcRoute r }] else []) } := by
  cases hold : o && s.struct.safetyClass r with
  | true => exact State.latchCause_saf _ _ (by decide)
  | false => simp [State.doneTaken]

theorem exec_staleGap_latches {r : Fin 16} {t : Nat} {x : Bytes} (hgap : s.saf.gap.get r = some t) (hx : s.struct.stale r = some x)
    (h : s.safRuns = true) (hdue : s.due t (usTicks (field x 12 4)) = true) (hcls : s.struct.safetyClass r = true)
    (harm : s.top.armed = true) : exec (.staleGap r) s =
      .next (({ s with saf := { s.saf with gap := s.saf.gap.set r none } } : State).latchCause 0x03 (srcRoute r)) := by
  simp only [exec, execStaleGap, hgap, hx, h, hdue, hcls, harm, Bool.true_or, Bool.and_self, if_true]

/-! The pair (R649 to R654). -/

theorem getLsbD_setBit_same {n i : Nat} (w : BitVec n) (v : Bool) (h : i < n) : (setBit w i v).getLsbD i = v := by
  cases v with
  | false => exact getLsbD_setBit_false w i
  | true =>
    simp only [setBit, if_true, BitVec.getLsbD_or, BitVec.getLsbD_ofNat, Nat.testBit_two_pow_self, decide_eq_true h, Bool.and_self,
      Bool.or_true]

theorem getLsbD_setBit_other {n i j : Nat} (w : BitVec n) (v : Bool) (h : i ≠ j) : (setBit w i v).getLsbD j = w.getLsbD j := by
  have hmask : (BitVec.ofNat n (2 ^ i)).getLsbD j = false := by
    rw [BitVec.getLsbD_ofNat, Nat.testBit_two_pow_of_ne h, Bool.and_false]
  cases v with
  | false =>
    by_cases hj : j < n
    · simp only [setBit, Bool.false_eq_true, if_false, BitVec.getLsbD_and, BitVec.getLsbD_not, hmask, hj, decide_true, Bool.not_false, Bool.and_true]
    · rw [BitVec.getLsbD_of_ge _ _ (Nat.not_lt.1 hj), BitVec.getLsbD_of_ge _ _ (Nat.not_lt.1 hj)]
  | true => simp only [setBit, if_true, BitVec.getLsbD_or, hmask, Bool.or_false]
/-- Bits below the one that is set stay. -/
theorem wbits_setBit_above (w : U32) (v : Bool) : wbits (setBit w 8 v) 7 0 = wbits w 7 0 := by
  refine Nat.eq_of_testBit_eq fun j => ?_
  simp only [wbits, bits, Nat.shiftRight_zero, Nat.testBit_mod_two_pow]
  by_cases hj : j < 8
  · rw [BitVec.testBit_toNat, BitVec.testBit_toNat, getLsbD_setBit_other w v (by omega : 8 ≠ j)]
  · simp [hj]

theorem bit_setBit_other {n i j : Nat} (w : BitVec n) (v : Bool) (h : i ≠ j) : bit (setBit w i v).toNat j = bit w.toNat j := by
  rw [bit, bit, BitVec.testBit_toNat, BitVec.testBit_toNat, getLsbD_setBit_other w v h]

/-- The role that a write of MGT_PAIR_CTL gives (R654). -/
def State.pairRole (s : State) (w : U32) : Role :=
  if !(bit w.toNat 8 && s.pairMay w) then .off else if bit w.toNat 9 then .active else .standby

theorem exec_pairEnable (w : U32) (hr : s.top.ready = true) (he : s.pair.enabled = false) : exec (.pairEnable 0 w) s =
    .next { s with pair := { s.pair with ctl := setBit w 8 (bit w.toNat 8 && s.pairMay w), role := s.pairRole w } } := by
  simp only [exec, execPairEnable, State.pairWrite, State.pf0Ready_zero, hr, he, Bool.not_false, Bool.and_self, if_true,
    bit_setBit_other w _ (by decide : 8 ≠ 9)]
  rfl

theorem exec_epochCopyComplete {f e : Nat} (hc : s.pair.copying = some (f, e)) (he : s.pair.enabled = true) (hrole : s.pair.role = .active) :
    ∃ u : State, exec .epochCopyComplete s = .next u ∧ u.pair.copying = none ∧ u.pair.frame = f ∧
      u.pair.epoch = f / max 1 (wbits s.pair.ctl 31 16) % 2 ^ 32 := by
  simp only [exec, execEpochCopyComplete, hc, he, hrole, decide_true, Bool.and_self, if_true]
  exact ⟨_, rfl, rfl, rfl, rfl⟩

/-- What the standby makes of a commit record (R651). -/
def Pair.commit (p : Pair) (adopts : Bool) (ep f : Nat) : Pair :=
  if adopts then { p with slot := !p.slot, partial_ := false, epoch := ep, frame := f }
  else { p with partial_ := false, discard := satN 0xFFFFFFFF (p.discard + 1) }

theorem exec_commitRecord (ep f g n : Nat) (d : Bytes) (he : s.pair.enabled = true) (hrole : s.pair.role = .standby) : ∃ u : State,
    exec (.commitRecord ep f g n d) s = .next u ∧ u.pair =
      s.pair.commit (decide (n = s.pair.sizes.sum) && decide (sha384 (s.pairArea (b2n (!s.pair.slot))) = d)) ep f := by
  simp only [exec, execCommitRecord, he, hrole, decide_true, Bool.and_self, if_true, Pair.commit]
  split <;> exact ⟨_, rfl, rfl⟩

theorem State.takeOver_pair (hrole : s.pair.role = .standby) : s.takeOver.pair = { s.pair with
    role := .takenOver, partial_ := false
    discard := if s.pair.partial_ then satN 0xFFFFFFFF (s.pair.discard + 1) else s.pair.discard } := by
  unfold State.takeOver
  rw [if_pos hrole]
  dsimp only
  rw [foldl_keeps (·.pair) _ fun s f => ?_]
  · rfl
  · split
    · rw [State.event_frame]
    · rfl

end

/-- Settles O49: the self-tests, the stale watch and the pair, each clause by the lemma for its command. -/
theorem selfTestsAndStaleWatch : Obligations.SelfTestsAndStaleWatch := by
  refine ⟨fun s k n h hk hnew hslot hnode => ⟨exec_selftestTest h hk hnew hslot hnode true, fun hfirst => ?first, fun g hg => ?again⟩,
    fun s h hall => exec_selftestRotationEnd_complete h hall, fun s r v o a h hin => ⟨_, exec_staleWatchReceive h hin, ?receive⟩,
    fun s r t x hgap hx h hdue hcls harm => ⟨_, exec_staleGap_latches hgap hx h hdue hcls harm, ?gap⟩,
    fun s w hr he => ⟨_, exec_pairEnable w hr he, ?enabled, wbits_setBit_above w _, rfl⟩,
    fun s f e hc he hrole => exec_epochCopyComplete hc he hrole, fun s ep f g n d he hrole => ?commit,
    fun s b he hpeer hrole => ⟨s.takeOver, ?fails, ?takes⟩⟩
  case first =>
    have hnone : s.saf.failed.find? (·.1 = (k, n)) = none := List.find?_eq_none.2 fun x hx => by simpa using hfirst x hx
    rw [exec_selftestTest h hk hnew hslot hnode false, hnone]
    rfl
  case again =>
    rw [exec_selftestTest h hk hnew hslot hnode false, hg]
    rfl
  case receive =>
    rw [State.doneTaken_saf]
    exact ⟨Vector.getElem_set_self .., Vector.getElem_set_self .., rfl, rfl⟩
  case gap =>
    rw [State.latchCause_saf _ _ (by decide)]
    exact ⟨by simp [Vector.get_eq_getElem], by simp [harm]; rfl⟩
  case enabled =>
    exact (BitVec.testBit_toNat _).trans (getLsbD_setBit_same w _ (by decide))
  case commit =>
    obtain ⟨u, hexec, hpair⟩ := exec_commitRecord ep f g n d he hrole
    refine ⟨u, hexec, ?_, fun hsame => ?_, fun hother => ?_⟩
    · rw [hpair, Pair.commit]
      split <;> rfl
    · have hadopts : (decide (n = s.pair.sizes.sum) && decide (sha384 (s.pairArea (b2n (!s.pair.slot))) = d)) = true := by
        simp [hsame]
      rw [hpair, hadopts]
      exact ⟨rfl, rfl, rfl, rfl⟩
    · have hdiscards : (decide (n = s.pair.sizes.sum) && decide (sha384 (s.pairArea (b2n (!s.pair.slot))) = d)) = false := by
        simpa using hother
      rw [hpair, hdiscards]
      exact ⟨rfl, rfl, rfl⟩
  case fails => simp only [exec, execPairFail, he, hpeer, decide_true, Bool.and_self, if_true]
  case takes =>
    rw [State.takeOver_pair hrole]
    exact ⟨rfl, rfl⟩

end Sys2Proof.Machine

namespace Sys2Proof.Machine

/-! The ledger's stages and telemetry (R671, R684, R688 to R702). -/

/-! What stands in NOR changes by a copy alone: no entry written and no second that ends touches it. -/

/-- What the ledger knows of NOR: the entries there, the retired sectors and how far the present one is filled. -/
def Log.stored (l : Log) : List LogEntry × List Nat × Nat := (l.nor, l.retired, l.fill)

theorem Log.place_stored (l : Log) (e : LogEntry) : (l.place e).stored = l.stored := by
  unfold Log.place
  dsimp only
  (repeat' split) <;> rfl

theorem Log.append_stored (l : Log) (e : LogEntry) : (l.append e).stored = l.stored := Log.place_stored ..

theorem Log.reportGap_stored (l : Log) (gtc : Nat) : (l.reportGap gtc).stored = l.stored := by
  unfold Log.reportGap
  split
  · rfl
  · dsimp only
    split
    · exact Log.append_stored ..
    · rfl

theorem Log.enter_stored (l : Log) (gtc : Nat) (e : LogEntry) : (l.enter gtc e).stored = l.stored := by
  unfold Log.enter
  split
  · split
    · exact (Log.reportGap_stored ..).trans (Log.append_stored ..)
    · rfl
  · rfl

theorem Log.endSecond_stored (l : Log) (gtc : Nat) : (l.endSecond gtc).stored = l.stored := by
  have hfold (es : List LogEntry) : ∀ l : Log, (es.foldl (fun l e => l.enter gtc e) l).stored = l.stored := by
    induction es with
    | nil => exact fun _ => rfl
    | cons e es ih => exact fun l => (ih _).trans (l.enter_stored gtc e)
  exact hfold _ _

theorem Log.limited_stored (l : Log) (gtc : Nat) (e : LogEntry) : (l.limited gtc e).stored = l.stored := by
  have hsecond : (if gtc / 1000000000 = l.second then l else l.endSecond gtc).stored = l.stored := by
    split
    · rfl
    · exact l.endSecond_stored gtc
  unfold Log.limited
  dsimp only
  generalize (if gtc / 1000000000 = l.second then l else l.endSecond gtc) = k at hsecond
  rw [← hsecond]
  split
  · exact k.enter_stored gtc e
  · split
    · exact Log.enter_stored ..
    · split
      · exact Log.enter_stored ..
      · rfl

section
variable {s : State}

theorem exec_ledgerAppend_appends {e : LogEntry} (hn : s.log.nextEntry = some e)
    (h : e.boot ≠ s.log.boot ∨ e.steps ≠ s.log.steps ∨ e.gtc + 1000000 ≤ s.gtcNs) : exec .ledgerAppend s =
      .next (s.keepSeq (({ s.log with reorder := s.log.reorder.erase e } : Log).appendAll s.gtcNs e)) := by
  simp only [exec, execLedgerAppend, State.appendNext, hn, if_pos h]

theorem exec_ledgerAppend_waits {e : LogEntry} (hn : s.log.nextEntry = some e) (hb : e.boot = s.log.boot) (hs : e.steps = s.log.steps)
    (hg : s.gtcNs < e.gtc + 1000000) : exec .ledgerAppend s = .next s := by
  have hopen : ¬(e.boot ≠ s.log.boot ∨ e.steps ≠ s.log.steps ∨ e.gtc + 1000000 ≤ s.gtcNs) := by
    rintro (h | h | h)
    · exact h hb
    · exact h hs
    · omega
  simp only [exec, execLedgerAppend, hn, if_neg hopen]

/-- An entry that is written stands last in NOR, and no sector is retired for it. -/
theorem Log.norWrite_stored (l : Log) (e : LogEntry) : ∃ es n, (l.norWrite e).stored = (es ++ [e], l.retired, n) := by
  unfold Log.norWrite
  split <;> exact ⟨_, _, rfl⟩

theorem exec_ledgerNorCopy {e : LogEntry} {l : List LogEntry} (hup : s.top.mgtUp = true) (hb : s.log.buf = e :: l) : ∃ u : State,
    exec (.ledgerNorCopy true) s = .next u ∧ u.log = (s.log.norWrite e).reportGap s.gtcNs ∧ u.ret.record.lastNorSeq = e.seq := by
  simp only [exec, execLedgerNorCopy, State.norCopy, hup, hb, List.head?_cons, if_true]
  exact ⟨_, rfl, rfl, rfl⟩

/-- A sector that fails is retired (R693). -/
theorem exec_ledgerNorCopy_fails {e : LogEntry} {l : List LogEntry} (hup : s.top.mgtUp = true) (hb : s.log.buf = e :: l) : ∃ u : State,
    exec (.ledgerNorCopy false) s = .next u ∧ u.log.stored = (s.log.nor, nset s.log.retired
      (if s.log.fill < 1024 then s.log.sector else s.log.sectorAfter s.log.sector), 0) := by
  simp only [exec, execLedgerNorCopy, State.norCopy, hup, hb, List.head?_cons, if_true, Bool.false_eq_true, if_false]
  exact ⟨_, rfl, Log.limited_stored ..⟩

/-! What waits is copied to NOR before a board-fatal reset (R684); the supplies do not change by it. -/

theorem State.appendMany_pwr (n : Nat) : ∀ s : State, (s.appendMany n).pwr = s.pwr := by
  have hnext (s : State) : s.appendNext.pwr = s.pwr := by
    unfold State.appendNext
    split <;> rfl
  induction n with
  | zero => exact fun _ => rfl
  | succ n ih => exact fun s => (ih _).trans (hnext s)

theorem State.copyMany_pwr (n : Nat) : ∀ s : State, (s.copyMany n).pwr = s.pwr := by
  have hcopy (s : State) : (s.norCopy true).pwr = s.pwr := by
    unfold State.norCopy
    split <;> rfl
  induction n with
  | zero => exact fun _ => rfl
  | succ n ih => exact fun s => (ih _).trans (hcopy s)

/-- The entry of a board-fatal error, and with the management firmware up all that waits, stands in NOR (R684). -/
def State.fatalNoted (s : State) (k i : Nat) : State :=
  let t := s.note (if sourceListed k then k else srcMgt) 5 0x0101 0 [if sourceListed k then k else srcMgt, i]
  if s.top.mgtUp then (t.appendMany t.log.reorder.length).copyMany (t.appendMany t.log.reorder.length).log.buf.length else t

theorem exec_boardFatalError (s : State) (k i : Nat) : exec (.boardFatalError k i) s =
    .next ((s.fatalNoted k i).startReset false "board fatal" (if sourceListed k then k else srcMgt)) := rfl

theorem State.fatalNoted_frame (s : State) (k i : Nat) :
    (s.fatalNoted k i).pwr = s.pwr ∧ (s.fatalNoted k i).hif = s.hif ∧ (s.fatalNoted k i).mem = s.mem := by
  unfold State.fatalNoted
  dsimp only
  split
  · simp [State.copyMany_pwr, State.appendMany_pwr]
  · exact ⟨rfl, rfl, rfl⟩

theorem State.fatalNoted_down (h : s.top.mgtUp = false) (k i : Nat) : s.fatalNoted k i =
    s.note (if sourceListed k then k else srcMgt) 5 0x0101 0 [if sourceListed k then k else srcMgt, i] := by
  rw [State.fatalNoted, h, if_neg Bool.false_ne_true]

/-! Telemetry (R699 to R702). -/

theorem State.endInterval_telAt (hdue : s.due s.bg.telAt (msTicks 10) = true) : s.endInterval.bg.telAt = s.clk := by
  rw [State.endInterval, if_pos hdue]

theorem State.endInterval_out (s : State) : s.endInterval.out = s.out := by
  unfold State.endInterval
  split <;> rfl

/-- A telemetry ring is replaced. -/
def State.setRing (s : State) (f : Part) (g : TelRing) : State :=
  { s with hif := { s.hif with fns := s.hif.fns.mapIdx fun i x => if i = f.val then { x with ring := some g } else x } }

theorem State.setRing_fn (s : State) (f : Part) (g : TelRing) :
    (s.setRing f g).hif.fns[f.val] = { s.hif.fns[f.val] with ring := some g } := by
  simp [State.setRing]

theorem State.setRing_out (s : State) (f : Part) (g : TelRing) : (s.setRing f g).out = s.out := rfl

/-- The bytes that a full ring's offsets leave in use (R699). -/
def TelRing.used (g : TelRing) (rd : Nat) : Nat := (g.wrOff + (g.size - 256) - rd % (g.size - 256)) % (g.size - 256)

/-- The record of a sample as it goes to the host, with SAMPLE, DROPPED and PART filled in (Table 15-6). -/
def State.sampleRecord (s : State) (f : Part) (g : TelRing) : Bytes :=
  let b := if f.val = 0 then s.bg.telSnap else s.struct.maskTelemetry f s.bg.telSnap
  b.take 16 ++ leBytes 4 g.sample ++ satBytes 2 g.dropped ++ leBytes 1 f ++ b.drop 23

/-- A sample has been written: the record, WR_OFF and the ring (R699). -/
def State.sampled (s : State) (f : Part) (g : TelRing) : State :=
  (s.emitAll [.hostWrite f (g.addr + 256 + g.wrOff) (s.sampleRecord f g) false,
    .hostWrite f g.addr (leBytes 8 ((g.wrOff + 256) % (g.size - 256))) false]).setRing f { g with
      wrOff := (g.wrOff + 256) % (g.size - 256), sample := (g.sample + 1) % 2 ^ 32, dropped := 0, sampledAt := s.bg.telAt }

section
variable {f : Part} {rd : Nat} {g : TelRing}

theorem State.sampled_out (s : State) (f : Part) (g : TelRing) : (s.sampled f g).out = s.out ++
    [.hostWrite f (g.addr + 256 + g.wrOff) (s.sampleRecord f g) false,
      .hostWrite f g.addr (leBytes 8 ((g.wrOff + 256) % (g.size - 256))) false] := rfl

theorem State.sampled_bg (s : State) (f : Part) (g : TelRing) : (s.sampled f g).bg = s.bg := rfl

theorem State.sampled_fn (s : State) (f : Part) (g : TelRing) : (s.sampled f g).hif.fns[f.val] = { s.hif.fns[f.val] with
    ring := some { g with
      wrOff := (g.wrOff + 256) % (g.size - 256), sample := (g.sample + 1) % 2 ^ 32, dropped := 0, sampledAt := s.bg.telAt } } :=
  State.setRing_fn ..

/-- A sample's write raises event class 6 where it is not set yet (R700). -/
def State.noticed (s : State) (f : Part) : State := if s.hif.fns[f.val].cause.getLsbD 6 then s else s.event f 6 srcMgt

theorem State.noticed_out (s : State) (f : Part) : (s.noticed f).out = s.out := by
  unfold State.noticed
  split
  · rfl
  · exact State.event_out ..

theorem State.noticed_bg (s : State) (f : Part) : (s.noticed f).bg = s.bg := by
  unfold State.noticed
  split
  · rfl
  · exact State.event_bg ..

/-- The cause bit of event class 6 is set, whether it was before or not. -/
theorem State.noticed_cause (s : State) (f : Part) : (s.noticed f).hif.fns[f.val].cause.getLsbD 6 = true := by
  unfold State.noticed
  split
  next hset => exact hset
  next =>
    have hcause : (s.event f 6 srcMgt).hif.fns[f.val].cause = s.hif.fns[f.val].cause ||| (1 <<< 6) := State.event_cause ..
    rw [hcause]
    simp

theorem State.noticed_ring (s : State) (f : Part) : (s.noticed f).hif.fns[f.val].ring = s.hif.fns[f.val].ring := by
  unfold State.noticed
  split
  · rfl
  · simp [State.event_eq s f 6 srcMgt f.isLt]

theorem State.noticed_eq (s : State) (f : Part) :
    (if ((s.hif.fns[f.val]?).map fun x => x.cause.getLsbD 6).getD true then Host.Outcome.next s else .next (s.event f 6 srcMgt)) =
      (.next (s.noticed f) : Host.Outcome State Fault Refusal) := by
  rw [Vector.getElem?_eq_getElem f.isLt, State.noticed]
  exact (apply_ite Host.Outcome.next _ _ _).symm

/-! What a sample does once the interval has ended, in a state `t` of its own. -/

theorem execTelemetrySample_writes {t : State} (ht : (if s.top.mgtUp then s.endInterval else s) = t)
    (hring : (t.hif.fns[f.val]?).bind (·.ring) = some g) (hnew : g.sampledAt ≠ t.bg.telAt) (hroom : g.used rd + 256 < g.size - 256) :
    execTelemetrySample f rd s = .next ((t.sampled f g).noticed f) := by
  unfold TelRing.used at hroom
  unfold execTelemetrySample
  rw [ht]
  dsimp only
  rw [hring]
  dsimp only
  rw [if_neg hnew, if_pos hroom]
  exact State.noticed_eq (t.sampled f g) f

theorem execTelemetrySample_drops {t : State} (ht : (if s.top.mgtUp then s.endInterval else s) = t)
    (hring : (t.hif.fns[f.val]?).bind (·.ring) = some g) (hnew : g.sampledAt ≠ t.bg.telAt) (hfull : g.size - 256 ≤ g.used rd + 256) :
    execTelemetrySample f rd s = .next (t.setRing f { g with dropped := satN 0xFFFF (g.dropped + 1), sampledAt := t.bg.telAt }) := by
  unfold TelRing.used at hfull
  unfold execTelemetrySample
  rw [ht]
  dsimp only
  rw [hring]
  dsimp only
  rw [if_neg hnew, if_neg (Nat.not_lt.2 hfull)]
  rfl

section
variable (hup : s.top.mgtUp = true) (hdue : s.due s.bg.telAt (msTicks 10) = true) (hg : s.hif.fns[f.val].ring = some g)
  (hnew : g.sampledAt ≠ s.clk)
include hup hdue hg hnew

theorem exec_telemetrySample_writes (hroom : g.used rd + 256 < g.size - 256) :
    exec (.telemetrySample f rd) s = .next ((s.endInterval.sampled f g).noticed f) := by
  rw [← State.endInterval_telAt hdue] at hnew
  exact execTelemetrySample_writes (if_pos hup) (by simp [hg]) hnew hroom

theorem exec_telemetrySample_drops (hfull : g.size - 256 ≤ g.used rd + 256) : exec (.telemetrySample f rd) s =
    .next (s.endInterval.setRing f { g with dropped := satN 0xFFFF (g.dropped + 1), sampledAt := s.clk }) := by
  rw [← State.endInterval_telAt hdue] at hnew ⊢
  exact execTelemetrySample_drops (if_pos hup) (by simp [hg]) hnew hfull

end

end

end

/-- Settles O50: the ledger by what its stages leave of NOR, the fatal error by its entry, a sample by the record and the ring it leaves. -/
theorem ledgerAndTelemetry : Obligations.LedgerAndTelemetry := by
  refine ⟨fun s e hn h => exec_ledgerAppend_appends hn h, fun s e hn hb hs hg => exec_ledgerAppend_waits hn hb hs hg,
    fun s h => if_neg h, fun s e l hup hb => ?copies, fun s e l hup hb => ?fails, fun s k i hdown => ?fatal,
    fun s k i _ => ⟨s.fatalNoted k i, exec_boardFatalError s k i, s.fatalNoted_frame k i⟩,
    fun s f rd x g hup hdue hx hg hnew hroom => ?writes, fun s f rd x g hup hdue hx hg hnew hfull => ?drops⟩
  case copies =>
    obtain ⟨u, hexec, hlog, hlast⟩ := exec_ledgerNorCopy hup hb
    obtain ⟨es, n, hwrite⟩ := s.log.norWrite_stored e
    have hstored : u.log.stored = (es ++ [e], s.log.retired, n) := by rw [hlog, Log.reportGap_stored, hwrite]
    have hnor : u.log.nor = es ++ [e] := congrArg (·.1) hstored
    have hretired : u.log.retired = s.log.retired := congrArg (·.2.1) hstored
    exact ⟨u, hexec, by rw [hnor, List.getLast?_concat], hlast, hretired⟩
  case fails =>
    obtain ⟨u, hexec, hstored⟩ := exec_ledgerNorCopy_fails hup hb
    exact ⟨u, hexec, congrArg (·.1) hstored, congrArg (·.2.2) hstored, congrArg (·.2.1) hstored⟩
  case fatal => rw [exec_boardFatalError, State.fatalNoted_down hdown]
  case writes =>
    rw [← hx] at hg
    refine ⟨_, s.endInterval.sampleRecord f g, exec_telemetrySample_writes hup hdue hg hnew hroom, ?_, ?_, ?_,
      State.noticed_cause .., ?_⟩
    · rw [State.noticed_out, State.sampled_out]
      simp
    · rw [State.noticed_out, State.sampled_out]
      simp
    · rw [State.noticed_bg, State.sampled_bg, State.endInterval_telAt hdue]
    · rw [State.noticed_ring, State.sampled_fn, State.endInterval_telAt hdue]
  case drops =>
    rw [← hx] at hg
    refine ⟨_, exec_telemetrySample_drops hup hdue hg hnew hfull, ?_, congrArg Fn.ring (State.setRing_fn ..)⟩
    rw [State.setRing_out, State.endInterval_out]

end Sys2Proof.Machine
